-- ==== Sys2Proof/Word.lean ====
section
/-! DEFINITION. The word types of the device and their plainest operations. -/
namespace Sys2Proof

/-- A register word (R22). -/
abbrev Word := BitVec 32
/-- A 64-bit value held as a pair of registers (R73), and a scribe general register (R293). -/
abbrev DWord := BitVec 64
/-- A byte. -/
abbrev Byte := BitVec 8
/-- A physical address PA[51:0] (R36). -/
abbrev PA := BitVec 52
/-- The 64 bytes of a line; byte n is bits 8n+7..8n (R21, R141). -/
abbrev LineData := BitVec 512
/-- A wide register of a scribe core (R293). -/
abbrev Wide := BitVec 256
/-- An agent ID: device number in [9:6], local number in [5:0] (R32). -/
abbrev AgentId := BitVec 10
/-- A transaction tag (R142). -/
abbrev Tag := BitVec 12

/-- The device number of an agent ID (R32). -/
def AgentId.dev (a : AgentId) : Nat := a.toNat / 64
/-- The local number of an agent ID (R32). -/
def AgentId.loc (a : AgentId) : Nat := a.toNat % 64
/-- The agent ID of local number `l` on device `d` (R32). -/
def mkAgent (d l : Nat) : AgentId := BitVec.ofNat 10 (d * 64 + l)

/-- A Bool as one bit. -/
def b2n (b : Bool) : Nat := if b then 1 else 0

end Sys2Proof
end

