-- ==== Sys2Proof/Syntax.lean ====
section
/-! DEFINITION. The commands of spec/opcode_table.json, one constructor per row, and their operand types. -/
namespace Sys2Proof

/-- A master of the control window (R62): a caching agent, scribe core or inkwell engine by agent ID with
its privilege as R62 decides it, the management port, or the boot sequencer. -/
inductive Master
  | agent (id : AgentId) (priv : Bool)
  | mgmt
  | boot
  deriving DecidableEq, Repr

/-- A monitored supply (R520, R525): every rail but VPP_FUSE. -/
inductive Rail | core | ao | sds | sdsh | hbm | hbmq | hbmpp | io
  deriving DecidableEq, Repr

/-- What starts a warm reset (R486): a WARM_RESET_N pulse of so many nanoseconds, or a BOOT_RESET.WARM write. -/
inductive WarmCause
  | pin (lowNs : Nat)
  | write (m : Master)
  deriving DecidableEq, Repr

/-- What equalisation of one lane agreed and measured (R119, R138). -/
structure LaneEq where
  pre : Byte
  main : Byte
  post : Byte
  eye : Byte
  deriving DecidableEq, Repr

/-- The outcome of equalisation (R105, R119): lanes that failed, bit errors of each lane in the last 10 ms, taps and eyes
per lane. -/
structure EqResult where
  failed : BitVec 8
  errors : List Nat
  lanes : List LaneEq
  deriving DecidableEq, Repr

/-- The outcome of LOCK (R99, R119): lanes that failed to lock, lane reversal, polarity per lane. -/
structure LockResult where
  failed : BitVec 8
  reversed : Bool
  inverted : BitVec 8
  deriving DecidableEq, Repr

/-- What the partner declares in PARAM (R119): role, DEV_ID, device number, mode, agents, FEC, profile, width (x4 or
x8), bad lanes, and receive-buffer sizes in bytes for VC 0 to 5. -/
structure PartnerParam where
  fabric : Bool
  devId : BitVec 16
  devnum : BitVec 4
  compat : Bool
  agents : BitVec 2
  fecRs : Bool
  cx : Bool
  x4 : Bool
  bad : BitVec 8
  bufs : List Nat
  deriving DecidableEq, Repr

/-- What the RS(544,514) decoder reported for the codewords of a flit (R103, R104): codewords corrected, and
whether one was uncorrectable. -/
structure RsOutcome where
  corrected : Nat
  bad : Bool
  deriving DecidableEq, Repr

/-- A message (R139–R141). `addr` is carried by the messages that hold an address; `body` is every word
after the address words (or after the second word where there is no address). -/
structure Msg where
  opc : Nat
  vc : Nat
  src : AgentId
  dst : AgentId
  tag : Tag
  priv : Bool
  hop : Bool
  poison : Bool
  param : Byte
  addr : PA
  body : List Word
  deriving DecidableEq, Repr

/-- A wrong symbol in a line read from DRAM (R253): symbol position 0 to 71 and the bits in error. -/
structure SymErr where
  sym : Nat
  bits : Byte
  deriving DecidableEq, Repr

/-- A particle strike (R69, R199, R301, R421–R426), by the storage it hits: bits of one copy of a triple-voted register
(offset, copy 0 to 2; bit 26 of the offset names the lock of a W1L register); a symbol of a Hearth line; one or both
copies of a Hearth tag; a directory entry; a 64-bit slate word (one bit, or two); the copies of a home line in the queues,
the kindling entries and the miss registers; a response with data on the spine, by its destination and tag; bits of a word of
one copy of the fuse shadow; an entry of a store buffer or of a gather buffer; a line of a nib data cache;
a control field of a queue, in the domain named. Each but the first and the tag is beyond correction, or as given. -/
inductive Upset
  | voted (off copy : Nat) (bits : Word)
  | hearth (sl set way : Nat) (e : SymErr)
  | tag (sl set way : Nat) (both : Bool)
  | dirEntry (sl set way : Nat)
  | slate (cluster word : Nat) (two : Bool)
  | transit (line : Nat)
  | message (dst : AgentId) (tag : Tag)
  | fuse (off copy : Nat) (bits : Word)
  | store (core : Nat) (line : Nat)
  | gather (cluster : Nat) (line : Nat)
  | nib (core : Nat) (line : Nat)
  | control (domain : Nat)
  deriving DecidableEq, Repr

/-- A pseudo-channel, and the time of its command clock, in CK periods, at which a command comes (R270). -/
structure PcTime where
  pc : Nat
  ck : Nat
  deriving DecidableEq, Repr

/-- The outcome of a periodic retraining (R278, R279): worst read and write eye and the stack temperature; where a full
retraining was needed, the eyes it left, whether it passed and which lane failed in it. -/
structure RetrainResult where
  rdEye : Byte
  wrEye : Byte
  temp : Int
  fullRd : Byte
  fullWr : Byte
  fullOk : Bool
  repairLane : Option (BitVec 6)
  deriving DecidableEq, Repr

/-- A launch record as it reaches a cluster (R320): the launching inkwell and descriptor index, entry address, the
four argument words, core mask, supervisor flag. -/
structure LaunchRec where
  inkwell : Nat
  index : BitVec 16
  entry : PA
  arg0 : DWord
  arg1 : DWord
  arg2 : DWord
  arg3 : DWord
  mask : Byte
  supervisor : Bool
  deriving DecidableEq, Repr

/-- A FIFO that software pops or clears (R383, R389, R505). -/
inductive FifoId
  | mbox (i : Nat)
  | event
  | cxCmd
  | cxRsp
  deriving DecidableEq, Repr

/-- The reply to an AVSBus frame (R468, R471): no good reply in three tries, or readings and status bits. -/
structure AvsReply where
  ok : Bool
  mv : Nat
  deciAmps : Nat
  status : Byte
  deriving DecidableEq, Repr

/-- A command. One constructor per row of spec/opcode_table.json, in its order. -/
inductive Instr
  /-- COLD_RESET (R473): RESET_N low or a reset-causing condition starts the cold power-up sequence (fuse load, ash sweep, image fetch, record application, HBM training and wipe, link training). -/
  | coldReset (lowNs : Nat) (stillLow : Bool)
  /-- RAIL_UNDERVOLTAGE (R525): A monitored rail below its operating range for 2 µs or longer acts as RESET_N low. -/
  | railUndervoltage (rail : Rail) (lowNs : Nat) (stillLow : Bool)
  /-- RELEASE (R474): READY goes high once the waited fabric ports are ACTIVE or RELEASE_TMO has passed. -/
  | release (timedOut : Bool)
  /-- WARM_RESET (R487): A WARM_RESET_N pulse or a BOOT_RESET.WARM write starts a warm reset, with an optional KEEP_HOME flush. -/
  | warmReset (cause : WarmCause)
  /-- PORT_RESET (R136): PORT_CTL.RESET takes the port to link-down and then retrains it after 10 ms in DOWN. -/
  | portReset (m : Master) (p : Nat)
  /-- LIFECYCLE_TRANSITION (R491): A BOOT_LC_CMD GO by the secure master programs the lifecycle rows and performs a cold reset. -/
  | lifecycleTransition (m : Master) (target : BitVec 2) (confirm : BitVec 16) (verified : Bool)
  /-- PROGRAM_KEY_HASH (R492): BOOT_FUSE_CMD with OP 1 programs the key hash from BOOT_KEY_n, or is refused with ERR. -/
  | programKeyHash (m : Master)
  /-- PROGRAM_COMPAT_LOCK (R492): BOOT_FUSE_CMD with OP 2 programs the COMPAT_LOCK fuse, or is refused with ERR. -/
  | programCompatLock (m : Master)
  /-- TIMEBASE_TICK (R88): The timebase counts one grain. -/
  | timebaseTick
  /-- REFCLK_LOSS (R433): Loss of REFCLKq is detected; its ACTIVE ports go to link-down, stack q stops, and for q = 0 the timebase loses lock. -/
  | refclkLoss (q : Nat)
  /-- TIMEBASE_LOCK_RETURN (R89): The timebase regains lock to REFCLK0 and counts on from its held value. -/
  | timebaseLockReturn
  /-- ENTER_FATAL_STATE (R431): On a fatal error the device sequences the cause, lowers READY, stops work, sends purge notices and disables its ports. -/
  | enterFatalState (source : BitVec 8) (code : BitVec 7) (info : Word)
  /-- HANG (R437): A handshake unanswered for 1 ms in a Lit domain is reported as a fatal HANG. -/
  | hang (domain : Nat)
  /-- DAMPER_TEMP_READ (R434): The damper reads the base-die junction sensors. -/
  | damperTempRead (temps : List Int)
  /-- STACK_TEMP_READ (R273): The controller reads a stack's temperature over its IEEE 1500 port. -/
  | stackTempRead (k : Nat) (temps : List Int)
  /-- AGE_MEASURE (R438): The device measures each ageing monitor against the timebase and updates AGE. -/
  | ageMeasure (domain : Nat) (delay : Nat)
  /-- WEAR_ACCUMULATE (R442): Each millisecond adds AFv × AFt equivalent ms to PWR_WEAR. -/
  | wearAccumulate (mv : Nat) (degC : Int)
  /-- PWR_BRAKE_ASSERT (R462): PWR_BRAKE_N falls past the filter and the effective budget drops to BRAKE. -/
  | pwrBrakeAssert (lowNs : Nat)
  /-- PWR_BRAKE_RELEASE (R462): PWR_BRAKE_N rises and the budget returns at the next pass. -/
  | pwrBrakeRelease
  /-- REGISTER_WRITE (R55): A control-window write to a register with no behaviour of its own is checked and performed by field type. -/
  | registerWrite (m : Master) (off : BitVec 26) (bytes : Nat) (data : DWord)
  /-- LOW_WORD_READ (R73): A 4-byte read of a pair's low word copies the high word into the master's high shadow. -/
  | lowWordRead (m : Master) (off : BitVec 26)
  /-- LOW_WORD_WRITE (R75): A 4-byte low-word write is held until the same master's next access to the block commits or discards it. -/
  | lowWordWrite (m : Master) (off : BitVec 26) (data : Word)
  /-- TV_VOTE_SWEEP (R71): Every TV field is voted at least every 10 ms and repaired if its copies disagree. -/
  | tvVoteSweep (upsets : List Upset)
  /-- IND_DATA_READ (R81): An IND_DATA read reads the far register, waking its domain if needed. -/
  | indDataRead (m : Master) (window : Bool)
  /-- IND_DATA_WRITE (R81): An IND_DATA write writes the far register, waking its domain if needed. -/
  | indDataWrite (m : Master) (window : Bool) (data : Word)
  /-- IND_CLAIM_READ (R83): A read of IND_CLAIM1 grants the window 1 claim when it is free. -/
  | indClaimRead (m : Master)
  /-- IND_CLAIM_RELEASE (R83): A write of 0 by the holder or the secure master releases the window 1 claim. -/
  | indClaimRelease (m : Master)
  /-- MGMT_ENTDAA (R84): The management port takes its dynamic address by ENTDAA. -/
  | mgmtEntdaa (da : BitVec 7)
  /-- MGMT_SET_POINTER (R85): A 4-byte private write sets the management port pointer. -/
  | mgmtSetPointer (bytes : List Byte)
  /-- MGMT_WRITE_4 (R85): An 8-byte private write sets the pointer and writes 4 bytes at OFFSET. -/
  | mgmtWrite4 (ptr : Word) (data : Word)
  /-- MGMT_WRITE_8 (R85): A 12-byte private write sets the pointer and makes an 8-byte write at OFFSET. -/
  | mgmtWrite8 (ptr : Word) (data : DWord)
  /-- MGMT_PRIVATE_READ (R85): A private read makes one 4-byte or 8-byte read at OFFSET, as WIDE selects, and supplies its bytes. -/
  | mgmtPrivateRead (clocked : Nat)
  /-- PORT_ENABLE (R134): Writing EN = 1 clears QUIESCED and starts DETECT. -/
  | portEnable (m : Master) (p : Nat)
  /-- PORT_DISABLE (R134): Writing EN = 0 puts the port in QUIESCE, drops its traffic and purges its agents. -/
  | portDisable (m : Master) (p : Nat)
  /-- PORT_QUIESCED (R134): The disable completes, QUIESCED sets and the port enters DISABLED. -/
  | portQuiesced (p : Nat)
  /-- PURGE_SWEEP_COMPLETE (R168): The background sweep has removed the purged pointers from every bank and the purge set clears. -/
  | purgeSweepComplete
  /-- PORT_RETRAIN (R126): PORT_CTL.RETRAIN takes an ACTIVE or LINK_IDLE port through RECOVER with re-equalisation. -/
  | portRetrain (m : Master) (p : Nat)
  /-- ELECTRICAL_IDLE_EXIT (R120): Electrical-idle exit on all receive lanes in DETECT starts EQUALIZE. -/
  | electricalIdleExit (p : Nat)
  /-- EQUALIZE_COMPLETE (R120): Equalisation is agreed on every lane and the FEC margin window closes. -/
  | equalizeComplete (p : Nat) (r : EqResult)
  /-- LOCK_COMPLETE (R120): FEC lock, lane order, polarity and deskew complete and PARAM begins. -/
  | lockComplete (p : Nat) (r : LockResult)
  /-- PARAM_COMPLETE (R120): The PARAM exchange passes its checks, the port becomes ACTIVE and credits are initialised. -/
  | paramComplete (p : Nat) (partner : PartnerParam)
  /-- TRAINING_TIMEOUT (R121): A training state overruns its limit and training fails back to DOWN. -/
  | trainingTimeout (p : Nat) (failed : BitVec 8)
  /-- DOWN_WAIT_EXPIRE (R121): After 10 ms in DOWN with EN = 1 the port enters DETECT again. -/
  | downWaitExpire (p : Nat)
  /-- FLIT_RECEIVE (R112): A received flit is FEC-decoded and CRC-checked, then accepted in sequence or answered with a NAK. -/
  | flitReceive (p : Nat) (bytes : List Byte) (rs : RsOutcome)
  /-- FLIT_TRANSMIT (R111): The port sends a payload, idle or credit-return flit and keeps payload flits for replay. -/
  | flitTransmit (p : Nat)
  /-- NAK_RECEIVE (R113): A NAK makes the transmitter replay from ACK + 1. -/
  | nakReceive (p : Nat) (ack : BitVec 9)
  /-- REPLAY_TIMEOUT (R113): No ACK progress for 2 µs with unacknowledged flits triggers a replay. -/
  | replayTimeout (p : Nat)
  /-- RECOVER_COMPLETE (R122): RECOVER ends and the port returns to ACTIVE, possibly at x4. -/
  | recoverComplete (p : Nat) (r : EqResult) (partner : PartnerParam) (partnerAck : BitVec 9)
  /-- RECOVER_OVERRUN (R122): RECOVER exceeds its time limit and becomes link-down. -/
  | recoverOverrun (p : Nat)
  /-- LANE_ERROR_WINDOW (R125): Corrected symbols on a lane exceed THRESH within a 1 ms window and the lane is marked bad. -/
  | laneErrorWindow (p : Nat) (lane : BitVec 3) (corrected : Nat)
  /-- LANE_LOCK_LOSS (R125): A lane loses lock in ACTIVE, is marked bad and the port enters RECOVER. -/
  | laneLockLoss (p : Nat) (lane : BitVec 3)
  /-- IDLE_REQ_RECEIVE (R128): A received IDLE_REQ is answered with IDLE_ACK when the idle conditions hold, or with traffic. -/
  | idleReqReceive (p : Nat)
  /-- IDLE_ACK_RECEIVE (R128): IDLE_ACK puts both transmitters in electrical idle and the port enters LINK_IDLE. -/
  | idleAckReceive (p : Nat)
  /-- IDLE_REQ_TIMEOUT (R128): No answer to IDLE_REQ within 1 µs abandons the request. -/
  | idleReqTimeout (p : Nat)
  /-- LINK_IDLE_WAKE (R130): Receive activity or a queued message wakes a LINK_IDLE port through RECOVER. -/
  | linkIdleWake (p : Nat) (rxActivity : Bool)
  /-- RELOCK_TIMEOUT (R130): Relock from LINK_IDLE not done within 100 µs makes the port re-equalise. -/
  | relockTimeout (p : Nat)
  /-- RD_SHARED (R185): A line read for a shared copy is served by the home slice per the transition table. -/
  | rdShared (src : AgentId) (tag : Tag) (addr : PA)
  /-- RD_OWN (R185): A line read for an exclusive copy invalidates other holders and grants DATA_X. -/
  | rdOwn (src : AgentId) (tag : Tag) (addr : PA)
  /-- UPGRADE (R185): A holder's request for the exclusive right is answered with GRANT_X, or with DATA_X. -/
  | upgrade (src : AgentId) (tag : Tag) (addr : PA)
  /-- RD_UC (R186): An uncached read of SIZE bytes is served from home data after any needed snoop. -/
  | rdUc (src : AgentId) (tag : Tag) (priv : Bool) (addr : PA) (size : BitVec 3)
  /-- WR_LINE (R186): A full-line write is performed at the home after snoops and answered with WR_DONE. -/
  | wrLine (src : AgentId) (tag : Tag) (addr : PA) (data : LineData) (poison : Bool)
  /-- WR_PART (R186): A byte-masked write is merged at the home and answered with WR_DONE. -/
  | wrPart (src : AgentId) (tag : Tag) (priv : Bool) (addr : PA) (mask : BitVec 64) (data : LineData) (poison : Bool)
  /-- ZERO_LINE (R213): A line write of zeros is performed under the region policy. -/
  | zeroLine (src : AgentId) (tag : Tag) (addr : PA)
  /-- AMO (R147): An atomic is performed at the home slice and AMO_DATA returns the prior value. -/
  | amo (src : AgentId) (tag : Tag) (addr : PA) (param : BitVec 8) (operand : DWord) (compare : DWord) (poison : Bool)
  /-- MAINT_CLEAN (R230): A CLEAN makes the line clean or absent in the Hearth, with HBM current. -/
  | maintClean (src : AgentId) (tag : Tag) (addr : PA)
  /-- MAINT_INV (R229): A privileged INV discards the line from the Hearth; an unprivileged INV is performed as CLEAN_INV. -/
  | maintInv (src : AgentId) (tag : Tag) (priv : Bool) (addr : PA)
  /-- MAINT_CLEAN_INV (R230): A CLEAN_INV cleans the line home and removes it from the Hearth and from host copies. -/
  | maintCleanInv (src : AgentId) (tag : Tag) (addr : PA)
  /-- MAINT_CLEAN_ALL (R231): A CLEAN_ALL starts a sweep of every present slice that cleans all dirty lines. -/
  | maintCleanAll (src : AgentId) (tag : Tag) (addr : PA)
  /-- PREFETCH (R227): A prefetch hint is accepted as a kindling fill or secondary, or dropped, and answered with CMP. -/
  | prefetch (src : AgentId) (tag : Tag) (addr : PA)
  /-- SNP_ACK_I (R189): A snoop answer without data that invalidates the copy completes the snoop. -/
  | snpAckI (src : AgentId) (tag : Tag) (addr : PA)
  /-- SNP_ACK_S (R189): A snoop answer without data that keeps a shared copy completes the snoop. -/
  | snpAckS (src : AgentId) (tag : Tag) (addr : PA)
  /-- SNP_DATA_I (R182): A snoop answer with data that invalidates the copy; dirty data is written home. -/
  | snpDataI (src : AgentId) (tag : Tag) (addr : PA) (dirty : Bool) (data : LineData) (poison : Bool)
  /-- SNP_DATA_S (R182): A snoop answer with data that keeps a shared copy; dirty data is written home. -/
  | snpDataS (src : AgentId) (tag : Tag) (addr : PA) (dirty : Bool) (data : LineData) (poison : Bool)
  /-- SNP_GONE (R191): An eviction notice in flight answers the snoop, which completes with the notice. -/
  | snpGone (src : AgentId) (tag : Tag) (addr : PA)
  /-- SNP_MISS (R189): A no-copy answer completes the snoop and leaves the home copy standing. -/
  | snpMiss (src : AgentId) (tag : Tag) (addr : PA)
  /-- EVICT_CLEAN (R190): A clean-drop notice updates the directory entry and is answered with EVICT_DONE. -/
  | evictClean (src : AgentId) (tag : Tag) (addr : PA)
  /-- EVICT_DIRTY (R190): A dirty copy is written home, the entry is updated, and EVICT_DONE is sent. -/
  | evictDirty (src : AgentId) (tag : Tag) (addr : PA) (data : LineData) (poison : Bool)
  /-- GACK (R150): A grant acknowledgement ends the transaction and opens the line's address-conflict check. -/
  | gack (src : AgentId) (tag : Tag) (addr : PA)
  /-- SNOOP_TIMEOUT (R169): A snoop unanswered after SNP_TIMEOUT completes as SNP_MISS, poisoning X or D lines. -/
  | snoopTimeout (agent : AgentId) (addr : PA)
  /-- AGENT_MSG (R153): An agent message is delivered to its destination agent, cluster ring or mailbox, and MSG_DONE or NO_TARGET is returned. -/
  | agentMsg (src : AgentId) (dst : AgentId) (tag : Tag) (mbox : BitVec 3) (chan : BitVec 8) (payload : List Word)
  /-- PURGE_NOTICE (R168): A received purge notice purges the named agents of the sending device. -/
  | purgeNotice (src : AgentId) (agents : Word)
  /-- MESSAGE_FORWARD (R160): A message for another device is routed by the route table onto a fabric port within the hop limit. -/
  | messageForward (ingress : Option Nat) (msg : Msg)
  /-- DATA_UC (R146): Uncached read data returns to a device agent's request. -/
  | dataUc (src : AgentId) (dst : AgentId) (tag : Tag) (data : LineData) (poison : Bool)
  /-- WR_DONE (R155): A write completion returns to a device agent. -/
  | wrDone (src : AgentId) (dst : AgentId) (tag : Tag)
  /-- AMO_DATA (R147): An atomic's prior value returns to a device agent. -/
  | amoData (src : AgentId) (dst : AgentId) (tag : Tag) (value : DWord) (poison : Bool)
  /-- CMP (R145): A MAINT or PREFETCH completion returns to a device agent. -/
  | cmp (src : AgentId) (dst : AgentId) (tag : Tag)
  /-- MSG_DONE (R153): An agent message delivery result returns to a device agent. -/
  | msgDone (src : AgentId) (dst : AgentId) (tag : Tag) (full : Bool)
  /-- NO_TARGET (R152): A refusal with a REASON returns to a device agent's request. -/
  | noTarget (src : AgentId) (dst : AgentId) (tag : Tag) (reason : BitVec 8)
  /-- HBM_READ_RETURN (R221): Fill data reaches the slice, goes to the requester, and is written into the reserved way once the victim is queued. -/
  | hbmReadReturn (s : Nat) (line : Nat)
  /-- FLUE_VICTIM_ACCEPTED (R219): A dirty victim enters the controller's flue queue, the way is reserved and the check reopens. -/
  | flueVictimAccepted (s : Nat) (line : Nat)
  /-- KINDLING_DATA_ARRIVE (R222): A kindling read returns and its entry becomes ready, or the data is dropped if the entry is stale. -/
  | kindlingDataArrive (s : Nat) (line : Nat)
  /-- STREAM_ENTRY_EXPIRE (R226): A stream entry with no matching event for 65,536 misses returns to free. -/
  | streamEntryExpire (s : Nat) (i : Nat)
  /-- SWEEP_STEP (R231): A sweep visits the next set and sends each dirty line by the flue. -/
  | sweepStep (s : Nat)
  /-- HEARTH_DISABLE (R233): Writing HEARTH_EN = 0 stops allocation and sweeps the slice clean and empty. -/
  | hearthDisable (m : Master) (s : Nat)
  /-- HEARTH_ENABLE (R234): Writing HEARTH_EN = 1 clears DISABLED and resumes allocation. -/
  | hearthEnable (m : Master) (s : Nat)
  /-- WAY_QUENCH (R236): Setting a QUENCH bit starts a quench walk that cleans and invalidates the way and powers it down. -/
  | wayQuench (m : Master) (s : Nat) (ways : BitVec 16)
  /-- WAY_UNQUENCH (R237): Clearing a QUENCH bit powers the way up and ash-sweeps it. -/
  | wayUnquench (m : Master) (s : Nat) (ways : BitVec 16)
  /-- QUENCH_WALK_STEP (R236): The quench walk cleans and invalidates the quenched ways' lines in the next set. -/
  | quenchWalkStep (s : Nat)
  /-- WAY_POWER_UP_DONE (R237): A way's power-up ash sweep completes and the way becomes eligible. -/
  | wayPowerUpDone (s : Nat) (way : BitVec 4)
  /-- SLC_MAINT_CLEAN (R244): SLC_MAINT_CMD GO with OP 0 issues a privileged CLEAN of the addressed line. -/
  | slcMaintClean (m : Master) (s : Nat)
  /-- SLC_MAINT_INV (R244): SLC_MAINT_CMD GO with OP 1 issues a privileged INV of the addressed line. -/
  | slcMaintInv (m : Master) (s : Nat)
  /-- SLC_MAINT_CLEAN_INV (R244): SLC_MAINT_CMD GO with OP 2 issues a CLEAN_INV of the addressed line. -/
  | slcMaintCleanInv (m : Master) (s : Nat)
  /-- SLC_MAINT_CLEAN_ALL (R244): SLC_MAINT_CMD GO with OP 3 issues a CLEAN_ALL. -/
  | slcMaintCleanAll (m : Master) (s : Nat)
  /-- POISON_NOTICE (R257): A slice holding the line clean and unpoisoned writes its good copy back to HBM. -/
  | poisonNotice (s : Nat) (line : Nat)
  /-- WAY_ERROR_COUNT_CLEAR (R426): Every way error count clears when the timebase passes a 24 h multiple. -/
  | wayErrorCountClear
  /-- HBM_SCHEDULE_COMMAND (R264): A pseudo-channel controller chooses and issues its next legal DRAM command by the priority groups. -/
  | hbmScheduleCommand (pc : Nat) (ck : Nat)
  /-- REFRESH_DUE (R271): A refresh obligation falls due by the effective tREFI. -/
  | refreshDue (pc : PcTime) (sid : Nat) (bank : Nat)
  /-- ROW_IDLE_CLOSE (R265): An unused open row closes after ROW_IDLE grains. -/
  | rowIdleClose (pc : Nat) (sid : Nat) (bank : Nat) (ck : Nat)
  /-- WRITE_ENTRY_RETIRE (R258): A write entry retires once its last data beat has been driven on the pins. -/
  | writeEntryRetire (pc : PcTime)
  /-- HBM_READ_DECODE (R255): Read data is decoded and returned with CE, UE or poison handling and write-backs. -/
  | hbmReadDecode (pc : PcTime) (noise : List SymErr)
  /-- PERIODIC_RETRAIN (R278): A pseudo-channel due by PERIOD or temperature drift is retrained, or fully retrained below EYE_MIN. -/
  | periodicRetrain (pc : Nat) (r : RetrainResult)
  /-- SCRUB_READ (R280): Each pseudo-channel reads its next patrol line every INTERVAL grains. -/
  | scrubRead (pc : Nat)
  /-- SOFT_REPAIR (R282): A repair candidate row is re-read, mapped to the spare row and written back. -/
  | softRepair (pc : Nat) (noise : List SymErr)
  /-- HBM_RELOAD (R269): RELOAD applies the timing registers to all pseudo-channels of the stack. -/
  | hbmReload (m : Master) (k : Nat)
  /-- LD_B (R340): Load a sign-extended byte. -/
  | ldB (core : Nat) (rd : BitVec 5) (ra : BitVec 5) (imm : BitVec 16)
  /-- LD_H (R340): Load a sign-extended halfword. -/
  | ldH (core : Nat) (rd : BitVec 5) (ra : BitVec 5) (imm : BitVec 16)
  /-- LD_W (R340): Load a sign-extended word. -/
  | ldW (core : Nat) (rd : BitVec 5) (ra : BitVec 5) (imm : BitVec 16)
  /-- LD_D (R340): Load a doubleword. -/
  | ldD (core : Nat) (rd : BitVec 5) (ra : BitVec 5) (imm : BitVec 16)
  /-- LD_BU (R340): Load a zero-extended byte. -/
  | ldBu (core : Nat) (rd : BitVec 5) (ra : BitVec 5) (imm : BitVec 16)
  /-- LD_HU (R340): Load a zero-extended halfword. -/
  | ldHu (core : Nat) (rd : BitVec 5) (ra : BitVec 5) (imm : BitVec 16)
  /-- LD_WU (R340): Load a zero-extended word. -/
  | ldWu (core : Nat) (rd : BitVec 5) (ra : BitVec 5) (imm : BitVec 16)
  /-- ST_B (R340): Store a byte. -/
  | stB (core : Nat) (rb : BitVec 5) (ra : BitVec 5) (imm : BitVec 16)
  /-- ST_H (R340): Store a halfword. -/
  | stH (core : Nat) (rb : BitVec 5) (ra : BitVec 5) (imm : BitVec 16)
  /-- ST_W (R340): Store a word. -/
  | stW (core : Nat) (rb : BitVec 5) (ra : BitVec 5) (imm : BitVec 16)
  /-- ST_D (R340): Store a doubleword. -/
  | stD (core : Nat) (rb : BitVec 5) (ra : BitVec 5) (imm : BitVec 16)
  /-- LDW (R340): Load 32 bytes into a wide register. -/
  | ldw (core : Nat) (wd : BitVec 4) (ra : BitVec 5) (imm : BitVec 16)
  /-- STW (R340): Store a wide register to 32 bytes. -/
  | stw (core : Nat) (wb : BitVec 4) (ra : BitVec 5) (imm : BitVec 16)
  /-- ADD (R336): Register add modulo 2^64. -/
  | add (core : Nat) (rd : BitVec 5) (ra : BitVec 5) (rb : BitVec 5)
  /-- SUB (R336): Register subtract modulo 2^64. -/
  | sub (core : Nat) (rd : BitVec 5) (ra : BitVec 5) (rb : BitVec 5)
  /-- AND (R336): Register AND. -/
  | and (core : Nat) (rd : BitVec 5) (ra : BitVec 5) (rb : BitVec 5)
  /-- OR (R336): Register OR. -/
  | or (core : Nat) (rd : BitVec 5) (ra : BitVec 5) (rb : BitVec 5)
  /-- XOR (R336): Register XOR. -/
  | xor (core : Nat) (rd : BitVec 5) (ra : BitVec 5) (rb : BitVec 5)
  /-- SLL (R336): Shift left by register. -/
  | sll (core : Nat) (rd : BitVec 5) (ra : BitVec 5) (rb : BitVec 5)
  /-- SRL (R336): Logical shift right by register. -/
  | srl (core : Nat) (rd : BitVec 5) (ra : BitVec 5) (rb : BitVec 5)
  /-- SRA (R336): Arithmetic shift right by register. -/
  | sra (core : Nat) (rd : BitVec 5) (ra : BitVec 5) (rb : BitVec 5)
  /-- SLT (R336): Set if less than, signed. -/
  | slt (core : Nat) (rd : BitVec 5) (ra : BitVec 5) (rb : BitVec 5)
  /-- SLTU (R336): Set if less than, unsigned. -/
  | sltu (core : Nat) (rd : BitVec 5) (ra : BitVec 5) (rb : BitVec 5)
  /-- MIN (R336): Signed minimum. -/
  | min (core : Nat) (rd : BitVec 5) (ra : BitVec 5) (rb : BitVec 5)
  /-- MAX (R336): Signed maximum. -/
  | max (core : Nat) (rd : BitVec 5) (ra : BitVec 5) (rb : BitVec 5)
  /-- MINU (R336): Unsigned minimum. -/
  | minu (core : Nat) (rd : BitVec 5) (ra : BitVec 5) (rb : BitVec 5)
  /-- MAXU (R336): Unsigned maximum. -/
  | maxu (core : Nat) (rd : BitVec 5) (ra : BitVec 5) (rb : BitVec 5)
  /-- MUL (R336): Low 64 bits of the product. -/
  | mul (core : Nat) (rd : BitVec 5) (ra : BitVec 5) (rb : BitVec 5)
  /-- MULH (R336): High 64 bits of the signed product. -/
  | mulh (core : Nat) (rd : BitVec 5) (ra : BitVec 5) (rb : BitVec 5)
  /-- MULHU (R336): High 64 bits of the unsigned product. -/
  | mulhu (core : Nat) (rd : BitVec 5) (ra : BitVec 5) (rb : BitVec 5)
  /-- DIV (R337): Signed division with defined results for zero and overflow. -/
  | div (core : Nat) (rd : BitVec 5) (ra : BitVec 5) (rb : BitVec 5)
  /-- DIVU (R337): Unsigned division. -/
  | divu (core : Nat) (rd : BitVec 5) (ra : BitVec 5) (rb : BitVec 5)
  /-- REM (R337): Signed remainder. -/
  | rem (core : Nat) (rd : BitVec 5) (ra : BitVec 5) (rb : BitVec 5)
  /-- REMU (R337): Unsigned remainder. -/
  | remu (core : Nat) (rd : BitVec 5) (ra : BitVec 5) (rb : BitVec 5)
  /-- ADD_IMMEDIATE (R338): Add a sign-extended immediate. -/
  | addImmediate (core : Nat) (rd : BitVec 5) (ra : BitVec 5) (imm : BitVec 16)
  /-- AND_IMMEDIATE (R338): AND with a zero-extended immediate. -/
  | andImmediate (core : Nat) (rd : BitVec 5) (ra : BitVec 5) (imm : BitVec 16)
  /-- OR_IMMEDIATE (R338): OR with a zero-extended immediate. -/
  | orImmediate (core : Nat) (rd : BitVec 5) (ra : BitVec 5) (imm : BitVec 16)
  /-- XOR_IMMEDIATE (R338): XOR with a zero-extended immediate. -/
  | xorImmediate (core : Nat) (rd : BitVec 5) (ra : BitVec 5) (imm : BitVec 16)
  /-- SLT_IMMEDIATE (R338): Set if less than a sign-extended immediate, signed. -/
  | sltImmediate (core : Nat) (rd : BitVec 5) (ra : BitVec 5) (imm : BitVec 16)
  /-- SLTU_IMMEDIATE (R338): Set if less than a sign-extended immediate, unsigned. -/
  | sltuImmediate (core : Nat) (rd : BitVec 5) (ra : BitVec 5) (imm : BitVec 16)
  /-- SLL_IMMEDIATE (R338): Shift left by an immediate amount. -/
  | sllImmediate (core : Nat) (rd : BitVec 5) (ra : BitVec 5) (sh : BitVec 6)
  /-- SRL_IMMEDIATE (R338): Logical shift right by an immediate amount. -/
  | srlImmediate (core : Nat) (rd : BitVec 5) (ra : BitVec 5) (sh : BitVec 6)
  /-- SRA_IMMEDIATE (R338): Arithmetic shift right by an immediate amount. -/
  | sraImmediate (core : Nat) (rd : BitVec 5) (ra : BitVec 5) (sh : BitVec 6)
  /-- LUI (R338): Load a sign-extended imm21 shifted left by 11. -/
  | lui (core : Nat) (rd : BitVec 5) (imm : BitVec 21)
  /-- ADDHI (R338): Add a sign-extended imm21 shifted left by 32 to rd. -/
  | addhi (core : Nat) (rd : BitVec 5) (imm : BitVec 21)
  /-- AMO_ADD (R342): Atomic add at the slate or home slice. -/
  | amoAdd (core : Nat) (dword : Bool) (rd : BitVec 5) (ra : BitVec 5) (rb : BitVec 5)
  /-- AMO_SWP (R342): Atomic swap. -/
  | amoSwp (core : Nat) (dword : Bool) (rd : BitVec 5) (ra : BitVec 5) (rb : BitVec 5)
  /-- AMO_CAS (R342): Atomic compare-and-swap. -/
  | amoCas (core : Nat) (dword : Bool) (rd : BitVec 5) (ra : BitVec 5) (rb : BitVec 5) (rc : BitVec 5)
  /-- AMO_MIN (R342): Atomic signed minimum. -/
  | amoMin (core : Nat) (dword : Bool) (rd : BitVec 5) (ra : BitVec 5) (rb : BitVec 5)
  /-- AMO_MAX (R342): Atomic signed maximum. -/
  | amoMax (core : Nat) (dword : Bool) (rd : BitVec 5) (ra : BitVec 5) (rb : BitVec 5)
  /-- AMO_AND (R342): Atomic AND. -/
  | amoAnd (core : Nat) (dword : Bool) (rd : BitVec 5) (ra : BitVec 5) (rb : BitVec 5)
  /-- AMO_OR (R342): Atomic OR. -/
  | amoOr (core : Nat) (dword : Bool) (rd : BitVec 5) (ra : BitVec 5) (rb : BitVec 5)
  /-- AMO_XOR (R342): Atomic XOR. -/
  | amoXor (core : Nat) (dword : Bool) (rd : BitVec 5) (ra : BitVec 5) (rb : BitVec 5)
  /-- LRES_W (R313): Load a word and set a reservation on the line. -/
  | lresW (core : Nat) (rd : BitVec 5) (ra : BitVec 5)
  /-- LRES_D (R313): Load a doubleword and set a reservation on the line. -/
  | lresD (core : Nat) (rd : BitVec 5) (ra : BitVec 5)
  /-- SCND_W (R314): Conditionally store a word if the reservation holds. -/
  | scndW (core : Nat) (rd : BitVec 5) (ra : BitVec 5) (rb : BitVec 5)
  /-- SCND_D (R314): Conditionally store a doubleword if the reservation holds. -/
  | scndD (core : Nat) (rd : BitVec 5) (ra : BitVec 5) (rb : BitVec 5)
  /-- ZLN (R344): Send ZERO_LINE for the line and invalidate the nib line. -/
  | zln (core : Nat) (ra : BitVec 5) (imm : BitVec 16)
  /-- PFK (R344): Send a PREFETCH hint for the line. -/
  | pfk (core : Nat) (ra : BitVec 5) (imm : BitVec 16)
  /-- CLN (R344): Send MAINT CLEAN for the line. -/
  | cln (core : Nat) (ra : BitVec 5) (imm : BitVec 16)
  /-- CINV (R344): Send MAINT CLEAN_INV for the line and invalidate the nib line. -/
  | cinv (core : Nat) (ra : BitVec 5) (imm : BitVec 16)
  /-- BR_EQ (R346): Branch if equal. -/
  | brEq (core : Nat) (ra : BitVec 5) (rb : BitVec 5) (off : BitVec 13)
  /-- BR_NE (R346): Branch if not equal. -/
  | brNe (core : Nat) (ra : BitVec 5) (rb : BitVec 5) (off : BitVec 13)
  /-- BR_LT (R346): Branch if less than, signed. -/
  | brLt (core : Nat) (ra : BitVec 5) (rb : BitVec 5) (off : BitVec 13)
  /-- BR_GE (R346): Branch if greater or equal, signed. -/
  | brGe (core : Nat) (ra : BitVec 5) (rb : BitVec 5) (off : BitVec 13)
  /-- BR_LTU (R346): Branch if less than, unsigned. -/
  | brLtu (core : Nat) (ra : BitVec 5) (rb : BitVec 5) (off : BitVec 13)
  /-- BR_GEU (R346): Branch if greater or equal, unsigned. -/
  | brGeu (core : Nat) (ra : BitVec 5) (rb : BitVec 5) (off : BitVec 13)
  /-- JAL (R345): Jump PC-relative and link. -/
  | jal (core : Nat) (rd : BitVec 5) (off : BitVec 21)
  /-- JR (R345): Jump to a register plus offset and link. -/
  | jr (core : Nat) (rd : BitVec 5) (ra : BitVec 5) (imm : BitVec 16)
  /-- WADD (R348): Lane-wise add. -/
  | wadd (core : Nat) (ew : BitVec 2) (wd : BitVec 4) (wa : BitVec 4) (wb : BitVec 4)
  /-- WSUB (R348): Lane-wise subtract. -/
  | wsub (core : Nat) (ew : BitVec 2) (wd : BitVec 4) (wa : BitVec 4) (wb : BitVec 4)
  /-- WAND (R348): Wide AND. -/
  | wand (core : Nat) (wd : BitVec 4) (wa : BitVec 4) (wb : BitVec 4)
  /-- WOR (R348): Wide OR. -/
  | wor (core : Nat) (wd : BitVec 4) (wa : BitVec 4) (wb : BitVec 4)
  /-- WXOR (R348): Wide XOR. -/
  | wxor (core : Nat) (wd : BitVec 4) (wa : BitVec 4) (wb : BitVec 4)
  /-- WCMP_EQ (R348): Lane-wise compare for equality. -/
  | wcmpEq (core : Nat) (ew : BitVec 2) (wd : BitVec 4) (wa : BitVec 4) (wb : BitVec 4)
  /-- WCMP_LT (R348): Lane-wise signed less-than. -/
  | wcmpLt (core : Nat) (ew : BitVec 2) (wd : BitVec 4) (wa : BitVec 4) (wb : BitVec 4)
  /-- WCMP_LTU (R348): Lane-wise unsigned less-than. -/
  | wcmpLtu (core : Nat) (ew : BitVec 2) (wd : BitVec 4) (wa : BitVec 4) (wb : BitVec 4)
  /-- WSHUF (R348): Byte shuffle. -/
  | wshuf (core : Nat) (wd : BitVec 4) (wa : BitVec 4) (wb : BitVec 4)
  /-- WEXT (R349): Extract a lane to a general register. -/
  | wext (core : Nat) (ew : BitVec 2) (rd : BitVec 5) (wa : BitVec 4) (lane : BitVec 5)
  /-- WINS (R349): Insert a general register into a lane. -/
  | wins (core : Nat) (ew : BitVec 2) (wd : BitVec 4) (ra : BitVec 5) (lane : BitVec 5)
  /-- WSPL (R349): Splat a general register into every lane. -/
  | wspl (core : Nat) (ew : BitVec 2) (wd : BitVec 4) (ra : BitVec 5)
  /-- WRED_ADD (R349): Sum of the lanes. -/
  | wredAdd (core : Nat) (ew : BitVec 2) (rd : BitVec 5) (wa : BitVec 4)
  /-- WRED_MIN (R349): Smallest signed lane. -/
  | wredMin (core : Nat) (ew : BitVec 2) (rd : BitVec 5) (wa : BitVec 4)
  /-- WRED_MAX (R349): Largest signed lane. -/
  | wredMax (core : Nat) (ew : BitVec 2) (rd : BitVec 5) (wa : BitVec 4)
  /-- WRED_XOR (R349): XOR of the lanes. -/
  | wredXor (core : Nat) (ew : BitVec 2) (rd : BitVec 5) (wa : BitVec 4)
  /-- WCRC (R350): CRC-32C or CRC-64 step over 32 bytes. -/
  | wcrc (core : Nat) (crc64 : Bool) (rd : BitVec 5) (ra : BitVec 5) (wb : BitVec 4)
  /-- WHASH (R350): Hash mixing step over four 64-bit lanes. -/
  | whash (core : Nat) (rd : BitVec 5) (ra : BitVec 5) (wb : BitVec 4)
  /-- FENCE_CORE (R310): Wait until earlier stores have left the store buffer. -/
  | fenceCore (core : Nat)
  /-- FENCE_CLUS (R310): Wait for stores to reach the gather buffer and invalidate the nib data cache. -/
  | fenceClus (core : Nat)
  /-- FENCE_SYS (R310): Wait for earlier stores to be performed at home and invalidate the nib data cache. -/
  | fenceSys (core : Nat)
  /-- TRAP (R347): Code 0 ends the task; any other code raises TRAP. -/
  | trap (core : Nat) (code : BitVec 8)
  /-- ERET (R319): Return from the handler, restoring PL and clearing HOLD. -/
  | eret (core : Nat)
  /-- WFD (R323): Suspend until a knock, a message, an event or the timeout. -/
  | wfd (core : Nat) (rd : BitVec 5) (ra : BitVec 5)
  /-- RDST (R331): Read a state register. -/
  | rdst (core : Nat) (rd : BitVec 5) (k : BitVec 12)
  /-- WRST (R332): Write the writable bits of a state register. -/
  | wrst (core : Nat) (k : BitVec 12) (ra : BitVec 5)
  /-- STORE_BUFFER_DRAIN (R303): A store-buffer entry leaves for the gather buffer. -/
  | storeBufferDrain (core : Nat)
  /-- GATHER_HOLD_EXPIRE (R305): A gather-buffer entry open for GATHER_HOLD grains drains. -/
  | gatherHoldExpire (c : Nat) (i : Nat)
  /-- SCRIBE_RESPONSE_RETURN (R304): A response to a core's request returns and completes the waiting load, atomic or reservation. -/
  | scribeResponseReturn (core : Nat) (poison : Bool) (refused : Option Nat) (data : LineData)
  /-- STORE_ERR (R316): A refused posted write is reported as a STORE_ERR event to every core whose stores it held. -/
  | storeErr (c : Nat) (cores : BitVec 8) (addr : PA) (reason : BitVec 8)
  /-- ABORT (R322): Writing an SCR_ABORT bit raises ABORT on that core. -/
  | abort (m : Master) (core : Nat)
  /-- EVENT_TAKEN (R318): A pending event is taken at the first instruction boundary with HOLD clear. -/
  | eventTaken (core : Nat)
  /-- GRACE_EXPIRE (R322): GRACE runs out after ABORT or DISABLED and the task is forcibly ended. -/
  | graceExpire (core : Nat)
  /-- WFD_TIMEOUT (R323): A WFD timeout passes and the core resumes. -/
  | wfdTimeout (core : Nat)
  /-- KNOCK (R323): A write to SCR_KNOCK sets knocks that wake cores waiting in WFD. -/
  | knock (m : Master) (c : Nat) (cores : BitVec 8)
  /-- CLUSTER_DISABLE (R325): Writing SCR_CTL.EN = 0 drains buffers, raises DISABLED on tasks, and completes queued records as DISABLED. -/
  | clusterDisable (m : Master) (c : Nat)
  /-- CLUSTER_ENABLE (R325): Writing SCR_CTL.EN = 1 clears QUIESCED and accepts launch records again. -/
  | clusterEnable (m : Master) (c : Nat)
  /-- CLUSTER_RESET (R325): SCR_CTL.RESET ends tasks as RESET, discards buffers, zeroes the slate and clears reservations. -/
  | clusterReset (m : Master) (c : Nat)
  /-- LAUNCH_RECORD (R320): A launch record arrives at the cluster task queue, waking the domain if needed. -/
  | launchRecord (c : Nat) (r : LaunchRec)
  /-- TASK_START (R321): An idle core takes the oldest admitting launch record and starts the task. -/
  | taskStart (core : Nat)
  /-- DOORBELL_TAIL_WRITE (R362): A TAIL doorbell write is checked and accepted or refused with DB_ERR. -/
  | doorbellTailWrite (m : Master) (n : Nat) (v : Word)
  /-- DOORBELL_CQ_HEAD_WRITE (R362): A CQ_HEAD doorbell write is checked and accepted or refused with DB_ERR. -/
  | doorbellCqHeadWrite (m : Master) (n : Nat) (v : Word)
  /-- DESCRIPTOR_FETCH (R364): A free engine fetches the next descriptor as an uncached read and starts or holds it. -/
  | descriptorFetch (e : Nat)
  /-- COPY_DESCRIPTOR (R372): Copy LEN bytes from SRC to DST. -/
  | copyDescriptor (e : Nat)
  /-- FILL_DESCRIPTOR (R372): Fill the range with an 8-byte pattern. -/
  | fillDescriptor (e : Nat)
  /-- ZERO_DESCRIPTOR (R372): Write zeros over the range. -/
  | zeroDescriptor (e : Nat)
  /-- COMPARE_DESCRIPTOR (R372): Compare two ranges and report the first difference. -/
  | compareDescriptor (e : Nat)
  /-- CRC_DESCRIPTOR (R372): Compute CRC-32C, CRC-64 or the hash over a range. -/
  | crcDescriptor (e : Nat)
  /-- GATHER_DESCRIPTOR (R372): Copy list elements contiguously into DST. -/
  | gatherDescriptor (e : Nat)
  /-- SCATTER_DESCRIPTOR (R372): Copy SRC into the list elements. -/
  | scatterDescriptor (e : Nat)
  /-- ATOMIC_DESCRIPTOR (R373): Issue a list of atomics and write their results to RES. -/
  | atomicDescriptor (e : Nat)
  /-- MAINT_DESCRIPTOR (R373): Issue a list of maintenance operations. -/
  | maintDescriptor (e : Nat)
  /-- TASK_DESCRIPTOR (R375): Send a launch record to a cluster and complete when the task ends. -/
  | taskDescriptor (e : Nat)
  /-- MSG_DESCRIPTOR (R375): Send an AGENT_MSG read from PAYLOAD. -/
  | msgDescriptor (e : Nat)
  /-- WAIT_DESCRIPTOR (R374): Poll an address until its masked value meets the condition or the timeout passes. -/
  | waitDescriptor (e : Nat)
  /-- FENCE_DESCRIPTOR (R367): A held FENCE starts once earlier descriptors complete and checks earlier failures when STOP = 1. -/
  | fenceDescriptor (n : Nat)
  /-- WAIT_POLL (R374): A WAIT reads its address again after PERIOD grains. -/
  | waitPoll (e : Nat)
  /-- WAIT_TIMEOUT (R374): TIMEOUT µs pass without the condition met and the WAIT completes with TIMEOUT. -/
  | waitTimeout (n : Nat) (i : BitVec 16)
  /-- DESCRIPTOR_COMPLETE (R368): A descriptor whose accesses have all returned writes its completion record at CQ_TAIL. -/
  | descriptorComplete (n : Nat) (i : BitVec 16)
  /-- COMPLETION_EVENT_TIMER (R378): TIME µs pass since the oldest counted record and a completion event is raised. -/
  | completionEventTimer (n : Nat)
  /-- INKWELL_DISABLE (R379): Writing INK_CTL.EN = 0 stops fetching and lets fetched descriptors complete. -/
  | inkwellDisable (m : Master) (n : Nat)
  /-- INKWELL_ENABLE (R379): Writing INK_CTL.EN = 1 clears QUIESCED and HALTED and resumes fetching at HEAD. -/
  | inkwellEnable (m : Master) (n : Nat)
  /-- RESET_PTRS (R381): RESET_PTRS sets all four pointers to 0 when the inkwell is disabled and quiesced. -/
  | resetPtrs (m : Master) (n : Nat)
  /-- FIFO_POP (R385): A read of a FIFO's data register pops one entry or underruns. -/
  | fifoPop (m : Master) (f : FifoId)
  /-- FIFO_CLEAR (R386): CLEAR sets the read pointer equal to the write pointer. -/
  | fifoClear (m : Master) (f : FifoId)
  /-- CX_CMD_PUSH (R508): A write to CX_CMD_DATA pushes a word into the command FIFO or overruns. -/
  | cxCmdPush (m : Master) (data : Word)
  /-- CX_RSP_POP (R384): A read of CX_RSP_DATA pops one response word or underruns. -/
  | cxRspPop (m : Master)
  /-- CX_COMMAND_START (R507): The command engine pops a whole command once its words and response room are present. -/
  | cxCommandStart
  /-- NOP (R509): CX command with no operation, answered OK. -/
  | nop (tag : BitVec 16)
  /-- CX_COPY (R509): CX command that copies LEN bytes. -/
  | cxCopy (tag : BitVec 16)
  /-- CX_FILL (R509): CX command that fills a range with a 4-byte pattern. -/
  | cxFill (tag : BitVec 16)
  /-- MAINT_RANGE (R509): CX command that applies CLEAN, INV or CLEAN_INV to every line of a range. -/
  | maintRange (tag : BitVec 16)
  /-- MAINT_SW (R515): CX command that maintains Hearth locations by set and way. -/
  | maintSw (tag : BitVec 16)
  /-- CX_COMMAND_COMPLETE (R510): A command whose accesses have all returned pushes its response word. -/
  | cxCommandComplete
  /-- CX_RGN_WRITE (R506): A write to a CX region register writes the matching native region fields in every slice. -/
  | cxRgnWrite (m : Master) (n : BitVec 4) (limit : Bool) (data : Word)
  /-- COUNTER_HANDOFF (R394): A unit passes its accumulated counter increments to the telemetry domain. -/
  | counterHandoff (group : Nat)
  /-- THRESHOLD_SAMPLE (R398): Queue occupancy is sampled each grain and threshold counters add when it exceeds N. -/
  | thresholdSample
  /-- CLEAR_ALL (R418): TEL_CTL.CLEAR_ALL zeroes every counter and overflow bitmap. -/
  | clearAll (m : Master)
  /-- DUMP_PERIOD (R400): A dump period falls due and a snapshot is written to the dump ring, or skipped. -/
  | dumpPeriod
  /-- DUMP_NOW (R403): A one-shot dump takes a snapshot at once. -/
  | dumpNow (m : Master)
  /-- DUMP_DONE (R402): The record header line is performed, PUT advances and DUMP_DONE is raised. -/
  | dumpDone
  /-- BLOTTER_ENABLE (R405): Setting blotter EN loads the LFSR from SEED and starts sampling. -/
  | blotterEnable (m : Master)
  /-- BLOTTER_RECORD (R406): A followed request's response leaves and its record enters the internal ring. -/
  | blotterRecord (i : Nat)
  /-- BLOTTER_RECORD_WAIT_EXPIRE (R409): A lone ready record waits 1 µs and is written to the host ring by WR_PART. -/
  | blotterRecordWaitExpire
  /-- BLOTTER_DRAIN_WRITE (R409): A line holding two ready records is written to the host ring and PUT advances when performed. -/
  | blotterDrainWrite
  /-- EVENT_SEQUENCE (R410): The sequencer takes an event, numbers it and routes it to the event FIFO, an event message or ALERT. -/
  | eventSequence (unit : Nat)
  /-- EVENT_MSG_SEND (R415): A queued event message leaves when MSG credits are available. -/
  | eventMsgSend
  /-- CRASH_LOG_WRITE (R447): EVT_CRASH_CTL.WRITE appends a crash-log record to the boot flash, erasing the oldest sector if needed. -/
  | crashLogWrite (m : Master)
  /-- DOMAIN_LIT_COMMAND (R456): A domain command with TARGET Lit wakes the domain. -/
  | domainLitCommand (m : Master) (d : Nat)
  /-- DOMAIN_EMBER_COMMAND (R456): A domain command with TARGET Ember enters Ember once the conditions hold. -/
  | domainEmberCommand (m : Master) (d : Nat)
  /-- DOMAIN_COLD_COMMAND (R456): A domain command with TARGET Cold prepares the unit and removes power. -/
  | domainColdCommand (m : Master) (d : Nat)
  /-- DOMAIN_IDLE_TIMER_EXPIRY (R454): A domain idle timer reaches IDLE and the domain enters Ember, or a port first requests LINK_IDLE. -/
  | domainIdleTimerExpiry (d : Nat)
  /-- DOMAIN_WAKE (R43): An access or wake source to an Ember or Cold domain starts its wake and stalls the access. -/
  | domainWake (d : Nat)
  /-- DOMAIN_WAKE_COMPLETE (R460): Power restore and reinitialisation finish, the domain is Lit and the wake event may be raised. -/
  | domainWakeComplete (d : Nat)
  /-- DOMAIN_GATING_COMPLETE (R460): A domain finishes entering Ember or Cold. -/
  | domainGatingComplete (d : Nat)
  /-- DAMPER_PASS (R465): The damper recomputes the pool and grants or withdraws extra tokens. -/
  | damperPass
  /-- EXTRA_REQUEST (R465): A consumer held at its rate limit for 1 µs asks for extra tokens. -/
  | extraRequest (d : Nat)
  /-- EXTRA_RETURN (R465): A consumer returns extra unused for 100 µs. -/
  | extraReturn (d : Nat)
  /-- AVS_POLL (R468): The device reads rail voltage, current and status over AVSBus. -/
  | avsPoll (r : AvsReply)
  /-- AVS_VOLTAGE_STEP (R469): The damper writes the next 5 mV target step once the previous step is reached or 50 µs pass. -/
  | avsVoltageStep (r : AvsReply)
  /-- RESET_N_RISE (R473): With power good, RESET_N rises (or every rail has been back in range for 1 ms with RESET_N high) and step 1 of the power-up sequence begins. -/
  | resetNRise
  /-- ILLEGAL_WORD (R334): A core executes a word whose opcode, function, condition code or required-zero field is not listed, and ILLEGAL is raised with reason 0. -/
  | illegalWord (core : Nat) (word : Word)
  /-- INSTRUCTION_FETCH_FAULT (R297): An instruction fetch from the slate or a control window, outside an X window, refused or poisoned raises FETCH. -/
  | instructionFetchFault (core : Nat) (reason : BitVec 8)
  /-- CLUSTER_RESET_COMPLETE (R325): A cluster reset, slate zeroing included, finishes; RESET_BUSY clears and SCR_CTL.RESET is accepted. -/
  | clusterResetComplete (c : Nat)
  /-- FUSE_PROGRAMMING_COMPLETE (R492): Fuse programming ends within 20 ms; BUSY clears, DONE or ERR sets, and GO is accepted. -/
  | fuseProgrammingComplete (verified : Bool)
  /-- CRASH_LOG_WRITE_COMPLETE (R447): A crash-log record, and any sector erase it needs, has been written and read back; BUSY clears, DONE or ERR sets and WRITE is accepted. -/
  | crashLogWriteComplete (ok : Bool)
  /-- BOUNDARY_SCAN (R493): TCK, TMS, TDI and TRST_N drive the IEEE 1149.1/1149.6 test access port through its instructions, IDCODE and EXTEST included. -/
  | boundaryScan (trst : Bool) (tms : Bool) (tdi : Bool)
  deriving DecidableEq, Repr

end Sys2Proof
end

