-- ==== Sys2Proof/Decode.lean ====
section
/-! DEFINITION. The command that a word of spec/opcode_table.json spells (no row gives bits, so none), and the instruction
words of the scribe cores (R333–R349): decoder and encoder. -/
namespace Sys2Proof

/-- The command that a word of `nbits` bits spells by the table's bits: none, since no row gives bits. -/
def decodeTableWord (_nbits _w : Nat) : Option Instr := none

/-! ## Scribe instruction words -/

/-- Formats R, I (and S), B, U (and J), WI, W, G, SYS (R333). -/
def fmtR (op : BitVec 6) (rd ra rb rc : BitVec 5) (fn : BitVec 6) : Word := op ++ rd ++ ra ++ rb ++ rc ++ fn
def fmtI (op : BitVec 6) (rd ra : BitVec 5) (imm : BitVec 16) : Word := op ++ rd ++ ra ++ imm
def fmtB (ra rb : BitVec 5) (cc : BitVec 3) (off : BitVec 13) : Word := 0x28#6 ++ ra ++ rb ++ cc ++ off
def fmtU (op : BitVec 6) (rd : BitVec 5) (imm : BitVec 21) : Word := op ++ rd ++ imm
def fmtWI (op : BitVec 6) (w : BitVec 4) (ra : BitVec 5) (imm : BitVec 16) : Word := op ++ w ++ 0#1 ++ ra ++ imm
def fmtW (wd wa wb : BitVec 4) (ls : BitVec 2) (fn : BitVec 6) : Word := 0x30#6 ++ wd ++ wa ++ wb ++ ls ++ 0#6 ++ fn
def fmtG (ga : BitVec 5) (w : BitVec 4) (gb : BitVec 5) (ls : BitVec 2) (idx : BitVec 5) (fn : BitVec 5) : Word :=
  0x31#6 ++ ga ++ w ++ gb ++ ls ++ idx ++ fn
def fmtSys (rd ra : BitVec 5) (k : BitVec 12) (fn : BitVec 4) : Word := 0x38#6 ++ rd ++ ra ++ k ++ fn

/-- Opcode 0x01 (R336). -/
def decInt (core : Nat) (rd ra rb rc : BitVec 5) (fn : BitVec 6) : Option Instr :=
  if rc ≠ 0 then none
  else match fn with
  | 0#6 => some (.add core rd ra rb)
  | 1#6 => some (.sub core rd ra rb)
  | 2#6 => some (.and core rd ra rb)
  | 3#6 => some (.or core rd ra rb)
  | 4#6 => some (.xor core rd ra rb)
  | 5#6 => some (.sll core rd ra rb)
  | 6#6 => some (.srl core rd ra rb)
  | 7#6 => some (.sra core rd ra rb)
  | 8#6 => some (.slt core rd ra rb)
  | 9#6 => some (.sltu core rd ra rb)
  | 10#6 => some (.min core rd ra rb)
  | 11#6 => some (.max core rd ra rb)
  | 12#6 => some (.minu core rd ra rb)
  | 13#6 => some (.maxu core rd ra rb)
  | 16#6 => some (.mul core rd ra rb)
  | 17#6 => some (.mulh core rd ra rb)
  | 18#6 => some (.mulhu core rd ra rb)
  | 20#6 => some (.div core rd ra rb)
  | 21#6 => some (.divu core rd ra rb)
  | 22#6 => some (.rem core rd ra rb)
  | 23#6 => some (.remu core rd ra rb)
  | _ => none

/-- Opcode 0x08 (R338). -/
def decShift (core : Nat) (rd ra : BitVec 5) (hi : BitVec 8) (kind : BitVec 2) (sh : BitVec 6) : Option Instr :=
  if hi ≠ 0 then none
  else match kind with
  | 0#2 => some (.sllImmediate core rd ra sh)
  | 1#2 => some (.srlImmediate core rd ra sh)
  | 2#2 => some (.sraImmediate core rd ra sh)
  | _ => none

/-- Opcode 0x20 (R342). -/
def decAmo (core : Nat) (rd ra rb rc : BitVec 5) (hi : BitVec 2) (d : BitVec 1) (op : BitVec 3) : Option Instr :=
  if hi ≠ 0 then none
  else match op with
  | 2#3 => some (.amoCas core (d == 1) rd ra rb rc)
  | op => if rc ≠ 0 then none else match op with
    | 0#3 => some (.amoAdd core (d == 1) rd ra rb)
    | 1#3 => some (.amoSwp core (d == 1) rd ra rb)
    | 3#3 => some (.amoMin core (d == 1) rd ra rb)
    | 4#3 => some (.amoMax core (d == 1) rd ra rb)
    | 5#3 => some (.amoAnd core (d == 1) rd ra rb)
    | 6#3 => some (.amoOr core (d == 1) rd ra rb)
    | 7#3 => some (.amoXor core (d == 1) rd ra rb)
    | _ => none

/-- Opcode 0x21 (R343). -/
def decRes (core : Nat) (rd ra rb rc : BitVec 5) (fn : BitVec 6) : Option Instr :=
  if rc ≠ 0 then none
  else match fn with
  | 0#6 => if rb = 0 then some (.lresW core rd ra) else none
  | 1#6 => if rb = 0 then some (.lresD core rd ra) else none
  | 2#6 => some (.scndW core rd ra rb)
  | 3#6 => some (.scndD core rd ra rb)
  | _ => none

/-- Opcode 0x22 (R344). -/
def decCache (core : Nat) (sel ra : BitVec 5) (imm : BitVec 16) : Option Instr :=
  match sel with
  | 0#5 => some (.zln core ra imm)
  | 1#5 => some (.pfk core ra imm)
  | 2#5 => some (.cln core ra imm)
  | 3#5 => some (.cinv core ra imm)
  | _ => none

/-- Opcode 0x28 (R346). -/
def decBr (core : Nat) (ra rb : BitVec 5) (cc : BitVec 3) (off : BitVec 13) : Option Instr :=
  match cc with
  | 0#3 => some (.brEq core ra rb off)
  | 1#3 => some (.brNe core ra rb off)
  | 4#3 => some (.brLt core ra rb off)
  | 5#3 => some (.brGe core ra rb off)
  | 6#3 => some (.brLtu core ra rb off)
  | 7#3 => some (.brGeu core ra rb off)
  | _ => none

/-- Opcode 0x30 (R348). -/
def decWide (core : Nat) (wd wa wb : BitVec 4) (ls : BitVec 2) (z fn : BitVec 6) : Option Instr :=
  if z ≠ 0 then none
  else match fn with
  | 0#6 => some (.wadd core ls wd wa wb)
  | 1#6 => some (.wsub core ls wd wa wb)
  | 2#6 => if ls = 0 then some (.wand core wd wa wb) else none
  | 3#6 => if ls = 0 then some (.wor core wd wa wb) else none
  | 4#6 => if ls = 0 then some (.wxor core wd wa wb) else none
  | 8#6 => some (.wcmpEq core ls wd wa wb)
  | 9#6 => some (.wcmpLt core ls wd wa wb)
  | 10#6 => some (.wcmpLtu core ls wd wa wb)
  | 16#6 => if ls = 0 then some (.wshuf core wd wa wb) else none
  | _ => none

/-- The lane exists (R349). -/
def laneOk (ls : BitVec 2) (idx : BitVec 5) : Bool := decide (idx.toNat < 32 / 2 ^ ls.toNat)

/-- Opcode 0x31 (R349). -/
def decG (core : Nat) (ga : BitVec 5) (w : BitVec 4) (gb : BitVec 5) (ls : BitVec 2) (idx : BitVec 5) (fn : BitVec 5) :
    Option Instr :=
  match fn with
  | 0#5 => if laneOk ls idx then some (.wext core ls ga w idx) else none
  | 1#5 => if laneOk ls idx then some (.wins core ls w gb idx) else none
  | 2#5 => if idx = 0 then some (.wspl core ls w gb) else none
  | 3#5 => if idx = 0 then some (.wredAdd core ls ga w) else none
  | 4#5 => if idx = 0 then some (.wredMin core ls ga w) else none
  | 5#5 => if idx = 0 then some (.wredMax core ls ga w) else none
  | 6#5 => if idx = 0 then some (.wredXor core ls ga w) else none
  | 8#5 => if ls = 0 then (match idx with
      | 0#5 => some (.wcrc core false ga gb w)
      | 1#5 => some (.wcrc core true ga gb w)
      | _ => none) else none
  | 9#5 => if ls = 0 ∧ idx = 0 then some (.whash core ga gb w) else none
  | _ => none

/-- Opcode 0x38 (R347): fields that a row does not name are zero. -/
def decSys (core : Nat) (rd ra : BitVec 5) (k : BitVec 12) (fn : BitVec 4) : Option Instr :=
  match fn with
  | 0#4 => if rd = 0 ∧ ra = 0 ∧ k = 0 then some (.fenceCore core) else none
  | 1#4 => if rd = 0 ∧ ra = 0 ∧ k = 0 then some (.fenceClus core) else none
  | 2#4 => if rd = 0 ∧ ra = 0 ∧ k = 0 then some (.fenceSys core) else none
  | 4#4 => if rd = 0 ∧ ra = 0 ∧ k.extractLsb' 8 4 = 0 then some (.trap core (k.extractLsb' 0 8)) else none
  | 5#4 => if rd = 0 ∧ ra = 0 ∧ k = 0 then some (.eret core) else none
  | 6#4 => if k = 0 then some (.wfd core rd ra) else none
  | 8#4 => if ra = 0 then some (.rdst core rd k) else none
  | 9#4 => if rd = 0 then some (.wrst core k ra) else none
  | _ => none

/-- The instruction that a word spells for a core (R333–R349); none where it is ILLEGAL by R334. -/
def scribeDecode (core : Nat) (w : Word) : Option Instr :=
  let rd := w.extractLsb' 21 5
  let ra := w.extractLsb' 16 5
  let rb := w.extractLsb' 11 5
  let rc := w.extractLsb' 6 5
  let imm := w.extractLsb' 0 16
  let wide := fun (i : Instr) => if w.extractLsb' 21 1 = 0 then some i else none
  match w.extractLsb' 26 6 with
  | 0x01#6 => decInt core rd ra rb rc (w.extractLsb' 0 6)
  | 0x2#6 => some (.addImmediate core rd ra imm)
  | 0x3#6 => some (.andImmediate core rd ra imm)
  | 0x4#6 => some (.orImmediate core rd ra imm)
  | 0x5#6 => some (.xorImmediate core rd ra imm)
  | 0x6#6 => some (.sltImmediate core rd ra imm)
  | 0x7#6 => some (.sltuImmediate core rd ra imm)
  | 0x08#6 => decShift core rd ra (w.extractLsb' 8 8) (w.extractLsb' 6 2) (w.extractLsb' 0 6)
  | 0x09#6 => some (.lui core rd (w.extractLsb' 0 21))
  | 0x0A#6 => some (.addhi core rd (w.extractLsb' 0 21))
  | 0x10#6 => some (.ldB core rd ra imm)
  | 0x11#6 => some (.ldH core rd ra imm)
  | 0x12#6 => some (.ldW core rd ra imm)
  | 0x13#6 => some (.ldD core rd ra imm)
  | 0x14#6 => some (.ldBu core rd ra imm)
  | 0x15#6 => some (.ldHu core rd ra imm)
  | 0x16#6 => some (.ldWu core rd ra imm)
  | 0x18#6 => some (.stB core rd ra imm)
  | 0x19#6 => some (.stH core rd ra imm)
  | 0x1a#6 => some (.stW core rd ra imm)
  | 0x1b#6 => some (.stD core rd ra imm)
  | 0x1C#6 => wide (.ldw core (w.extractLsb' 22 4) ra imm)
  | 0x1D#6 => wide (.stw core (w.extractLsb' 22 4) ra imm)
  | 0x20#6 => decAmo core rd ra rb rc (w.extractLsb' 4 2) (w.extractLsb' 3 1) (w.extractLsb' 0 3)
  | 0x21#6 => decRes core rd ra rb rc (w.extractLsb' 0 6)
  | 0x22#6 => decCache core rd ra imm
  | 0x28#6 => decBr core rd ra (w.extractLsb' 13 3) (w.extractLsb' 0 13)
  | 0x29#6 => some (.jal core rd (w.extractLsb' 0 21))
  | 0x2A#6 => some (.jr core rd ra imm)
  | 0x30#6 => decWide core (w.extractLsb' 22 4) (w.extractLsb' 18 4) (w.extractLsb' 14 4) (w.extractLsb' 12 2)
      (w.extractLsb' 6 6) (w.extractLsb' 0 6)
  | 0x31#6 => decG core rd (w.extractLsb' 17 4) (w.extractLsb' 12 5) (w.extractLsb' 10 2) (w.extractLsb' 5 5)
      (w.extractLsb' 0 5)
  | 0x38#6 => decSys core rd ra (w.extractLsb' 4 12) (w.extractLsb' 0 4)
  | _ => none

/-- One bit of a Bool. -/
def bit1 (b : Bool) : BitVec 1 := if b then 1 else 0

/-- The word of a scribe instruction (R333–R349); none for a command that is no instruction or names no lane. -/
def scribeEncode : Instr → Option Word
  | .add _ rd ra rb => some (fmtR 0x01 rd ra rb 0 0)
  | .sub _ rd ra rb => some (fmtR 0x01 rd ra rb 0 1)
  | .and _ rd ra rb => some (fmtR 0x01 rd ra rb 0 2)
  | .or _ rd ra rb => some (fmtR 0x01 rd ra rb 0 3)
  | .xor _ rd ra rb => some (fmtR 0x01 rd ra rb 0 4)
  | .sll _ rd ra rb => some (fmtR 0x01 rd ra rb 0 5)
  | .srl _ rd ra rb => some (fmtR 0x01 rd ra rb 0 6)
  | .sra _ rd ra rb => some (fmtR 0x01 rd ra rb 0 7)
  | .slt _ rd ra rb => some (fmtR 0x01 rd ra rb 0 8)
  | .sltu _ rd ra rb => some (fmtR 0x01 rd ra rb 0 9)
  | .min _ rd ra rb => some (fmtR 0x01 rd ra rb 0 10)
  | .max _ rd ra rb => some (fmtR 0x01 rd ra rb 0 11)
  | .minu _ rd ra rb => some (fmtR 0x01 rd ra rb 0 12)
  | .maxu _ rd ra rb => some (fmtR 0x01 rd ra rb 0 13)
  | .mul _ rd ra rb => some (fmtR 0x01 rd ra rb 0 16)
  | .mulh _ rd ra rb => some (fmtR 0x01 rd ra rb 0 17)
  | .mulhu _ rd ra rb => some (fmtR 0x01 rd ra rb 0 18)
  | .div _ rd ra rb => some (fmtR 0x01 rd ra rb 0 20)
  | .divu _ rd ra rb => some (fmtR 0x01 rd ra rb 0 21)
  | .rem _ rd ra rb => some (fmtR 0x01 rd ra rb 0 22)
  | .remu _ rd ra rb => some (fmtR 0x01 rd ra rb 0 23)
  | .addImmediate _ rd ra imm => some (fmtI 0x2 rd ra imm)
  | .andImmediate _ rd ra imm => some (fmtI 0x3 rd ra imm)
  | .orImmediate _ rd ra imm => some (fmtI 0x4 rd ra imm)
  | .xorImmediate _ rd ra imm => some (fmtI 0x5 rd ra imm)
  | .sltImmediate _ rd ra imm => some (fmtI 0x6 rd ra imm)
  | .sltuImmediate _ rd ra imm => some (fmtI 0x7 rd ra imm)
  | .sllImmediate _ rd ra sh => some (fmtI 0x08 rd ra (0#8 ++ 0#2 ++ sh))
  | .srlImmediate _ rd ra sh => some (fmtI 0x08 rd ra (0#8 ++ 1#2 ++ sh))
  | .sraImmediate _ rd ra sh => some (fmtI 0x08 rd ra (0#8 ++ 2#2 ++ sh))
  | .lui _ rd imm => some (fmtU 0x09 rd imm)
  | .addhi _ rd imm => some (fmtU 0x0A rd imm)
  | .ldB _ rd ra imm => some (fmtI 0x10 rd ra imm)
  | .ldH _ rd ra imm => some (fmtI 0x11 rd ra imm)
  | .ldW _ rd ra imm => some (fmtI 0x12 rd ra imm)
  | .ldD _ rd ra imm => some (fmtI 0x13 rd ra imm)
  | .ldBu _ rd ra imm => some (fmtI 0x14 rd ra imm)
  | .ldHu _ rd ra imm => some (fmtI 0x15 rd ra imm)
  | .ldWu _ rd ra imm => some (fmtI 0x16 rd ra imm)
  | .stB _ rb ra imm => some (fmtI 0x18 rb ra imm)
  | .stH _ rb ra imm => some (fmtI 0x19 rb ra imm)
  | .stW _ rb ra imm => some (fmtI 0x1a rb ra imm)
  | .stD _ rb ra imm => some (fmtI 0x1b rb ra imm)
  | .ldw _ wd ra imm => some (fmtWI 0x1C wd ra imm)
  | .stw _ wb ra imm => some (fmtWI 0x1D wb ra imm)
  | .amoAdd _ d rd ra rb => some (fmtR 0x20 rd ra rb 0 (0#2 ++ bit1 d ++ 0#3))
  | .amoSwp _ d rd ra rb => some (fmtR 0x20 rd ra rb 0 (0#2 ++ bit1 d ++ 1#3))
  | .amoCas _ d rd ra rb rc => some (fmtR 0x20 rd ra rb rc (0#2 ++ bit1 d ++ 2#3))
  | .amoMin _ d rd ra rb => some (fmtR 0x20 rd ra rb 0 (0#2 ++ bit1 d ++ 3#3))
  | .amoMax _ d rd ra rb => some (fmtR 0x20 rd ra rb 0 (0#2 ++ bit1 d ++ 4#3))
  | .amoAnd _ d rd ra rb => some (fmtR 0x20 rd ra rb 0 (0#2 ++ bit1 d ++ 5#3))
  | .amoOr _ d rd ra rb => some (fmtR 0x20 rd ra rb 0 (0#2 ++ bit1 d ++ 6#3))
  | .amoXor _ d rd ra rb => some (fmtR 0x20 rd ra rb 0 (0#2 ++ bit1 d ++ 7#3))
  | .lresW _ rd ra => some (fmtR 0x21 rd ra 0 0 0)
  | .lresD _ rd ra => some (fmtR 0x21 rd ra 0 0 1)
  | .scndW _ rd ra rb => some (fmtR 0x21 rd ra rb 0 2)
  | .scndD _ rd ra rb => some (fmtR 0x21 rd ra rb 0 3)
  | .zln _ ra imm => some (fmtI 0x22 0 ra imm)
  | .pfk _ ra imm => some (fmtI 0x22 1 ra imm)
  | .cln _ ra imm => some (fmtI 0x22 2 ra imm)
  | .cinv _ ra imm => some (fmtI 0x22 3 ra imm)
  | .brEq _ ra rb off => some (fmtB ra rb 0 off)
  | .brNe _ ra rb off => some (fmtB ra rb 1 off)
  | .brLt _ ra rb off => some (fmtB ra rb 4 off)
  | .brGe _ ra rb off => some (fmtB ra rb 5 off)
  | .brLtu _ ra rb off => some (fmtB ra rb 6 off)
  | .brGeu _ ra rb off => some (fmtB ra rb 7 off)
  | .jal _ rd off => some (fmtU 0x29 rd off)
  | .jr _ rd ra imm => some (fmtI 0x2A rd ra imm)
  | .wadd _ ew wd wa wb => some (fmtW wd wa wb ew 0)
  | .wsub _ ew wd wa wb => some (fmtW wd wa wb ew 1)
  | .wand _ wd wa wb => some (fmtW wd wa wb 0 2)
  | .wor _ wd wa wb => some (fmtW wd wa wb 0 3)
  | .wxor _ wd wa wb => some (fmtW wd wa wb 0 4)
  | .wcmpEq _ ew wd wa wb => some (fmtW wd wa wb ew 8)
  | .wcmpLt _ ew wd wa wb => some (fmtW wd wa wb ew 9)
  | .wcmpLtu _ ew wd wa wb => some (fmtW wd wa wb ew 10)
  | .wshuf _ wd wa wb => some (fmtW wd wa wb 0 16)
  | .wext _ ew rd wa lane => if laneOk ew lane then some (fmtG rd wa 0 ew lane 0) else none
  | .wins _ ew wd ra lane => if laneOk ew lane then some (fmtG 0 wd ra ew lane 1) else none
  | .wspl _ ew wd ra => some (fmtG 0 wd ra ew 0 2)
  | .wredAdd _ ew rd wa => some (fmtG rd wa 0 ew 0 3)
  | .wredMin _ ew rd wa => some (fmtG rd wa 0 ew 0 4)
  | .wredMax _ ew rd wa => some (fmtG rd wa 0 ew 0 5)
  | .wredXor _ ew rd wa => some (fmtG rd wa 0 ew 0 6)
  | .wcrc _ p rd ra wb => some (fmtG rd wb ra 0 (0#4 ++ bit1 p) 8)
  | .whash _ rd ra wb => some (fmtG rd wb ra 0 0 9)
  | .fenceCore _ => some (fmtSys 0 0 0 0)
  | .fenceClus _ => some (fmtSys 0 0 0 1)
  | .fenceSys _ => some (fmtSys 0 0 0 2)
  | .trap _ code => some (fmtSys 0 0 (0#4 ++ code) 4)
  | .eret _ => some (fmtSys 0 0 0 5)
  | .wfd _ rd ra => some (fmtSys rd ra 0 6)
  | .rdst _ rd k => some (fmtSys rd 0 k 8)
  | .wrst _ k ra => some (fmtSys 0 ra k 9)
  | _ => none

end Sys2Proof
end

