-- ==== Sys2Proof/Machine/Bits.lean ====
section
/-! DEFINITION. Bit-field, byte-order and word-list helpers of the meanings. -/
namespace Sys2Proof.Machine

/-- Bits lo .. lo+w-1 of a number. -/
def bitsOf (v lo w : Nat) : Nat := v / 2 ^ lo % 2 ^ w

/-- `v` with bits lo .. lo+w-1 replaced by those of `x`. -/
def putBits (v lo w x : Nat) : Nat := v - bitsOf v lo w * 2 ^ lo + (x % 2 ^ w) * 2 ^ lo

/-- Field lo, w of a 32-bit word. -/
def wfld (v : Word) (lo w : Nat) : Nat := bitsOf v.toNat lo w

/-- A word from its number. -/
def w32 (n : Nat) : Word := BitVec.ofNat 32 n

/-- Element i of a list of numbers, 0 outside it. -/
def nth (l : List Nat) (i : Nat) : Nat := l.getD i 0

/-- Change element i of a list. -/
def lmod {α : Type} (l : List α) (i : Nat) (f : α → α) : List α :=
  match l, i with
  | [], _ => []
  | x :: t, 0 => f x :: t
  | x :: t, i + 1 => x :: lmod t i f

/-- The bytes of a number, least significant first (R21). -/
def bytesLE : Nat → Nat → List Byte
  | 0, _ => []
  | n + 1, v => BitVec.ofNat 8 v :: bytesLE n (v / 256)

/-- The number that little-endian bytes spell (R21). -/
def ofBytesLE : List Byte → Nat
  | [] => 0
  | b :: t => b.toNat + 256 * ofBytesLE t

/-- The words of a number, least significant first. -/
def wordsLE : Nat → Nat → List Word
  | 0, _ => []
  | n + 1, v => BitVec.ofNat 32 v :: wordsLE n (v / 2 ^ 32)

/-- The number that little-endian words spell. -/
def ofWordsLE : List Word → Nat
  | [] => 0
  | b :: t => b.toNat + 2 ^ 32 * ofWordsLE t

/-- Group bytes into little-endian words. -/
def wordsOfBytes : List Byte → List Word
  | a :: b :: c :: d :: t => w32 (ofBytesLE [a, b, c, d]) :: wordsOfBytes t
  | _ => []

/-- The bytes of words, each little-endian. -/
def bytesOfWords (ws : List Word) : List Byte := ws.flatMap fun w => bytesLE 4 w.toNat

/-- Byte i of a line. -/
def lineByte (d : LineData) (i : Nat) : Byte := (d >>> (8 * i)).setWidth 8

/-- Bytes lo .. lo+n-1 of a line as a number. -/
def lineBytes (d : LineData) (lo n : Nat) : Nat := bitsOf d.toNat (8 * lo) (8 * n)

/-- A line with bytes lo .. lo+n-1 replaced. -/
def putLine (d : LineData) (lo n v : Nat) : LineData := BitVec.ofNat 512 (putBits d.toNat (8 * lo) (8 * n) v)

/-- Bit-wise mask of a 64-bit byte mask (R146). -/
def expandMask (m : BitVec 64) : LineData :=
  BitVec.ofNat 512 ((List.range 64).foldl (fun a i => if m.getLsbD i then a + 255 * 2 ^ (8 * i) else a) 0)

/-- The bytes that the mask selects come from `new`, the others from `old` (R146). -/
def mergeLine (old new : LineData) (m : BitVec 64) : LineData :=
  (old &&& ~~~ expandMask m) ||| (new &&& expandMask m)

/-- The mask of bytes lo .. lo+n-1. -/
def byteMask (lo n : Nat) : BitVec 64 := BitVec.ofNat 64 ((2 ^ n - 1) * 2 ^ lo)

/-- Signed value of the low w bits of a number. -/
def sval (w v : Nat) : Int := (BitVec.ofNat w v).toInt

/-- The new value of an atomic (R147), on w bits. -/
def amoValue (op w old opnd cmp : Nat) : Nat :=
  match op with
  | 0 => (old + opnd) % 2 ^ w
  | 1 => opnd
  | 2 => if old = cmp then opnd else old
  | 3 => if sval w old ≤ sval w opnd then old else opnd
  | 4 => if sval w opnd ≤ sval w old then old else opnd
  | 5 => old &&& opnd
  | 6 => old ||| opnd
  | _ => old ^^^ opnd

/-- The set bits of a number below n, as positions. -/
def bitsSet (n v : Nat) : List Nat := (List.range n).filter fun i => v.testBit i

/-- Remove the first element that a test selects. -/
def eraseFirst {α : Type} (p : α → Bool) : List α → List α
  | [] => []
  | x :: t => if p x then t else x :: eraseFirst p t

end Sys2Proof.Machine
end

