-- ==== Sys2Proof/Config.lean ====
section
/-! DEFINITION. What an implementation fixes and the free values the manual leaves open (log entry 3). -/
namespace Sys2Proof.Config

/-- Free bits: the n-th value the manual leaves open (log entry 3). No body: nothing can be proved of it. -/
opaque freeBits : Nat → BitVec 512

/-- A free choice between two outcomes (log entry 3). No body. -/
opaque freeBool : Nat → Bool

/-- The ageing factors AFv and AFt, in 1/48000 and 1/3600, outside the points R442 tabulates, as a
function of millivolts or of degrees Celsius (log entry 3). No body. -/
opaque freeAgeing : Int → Nat

/-- The tokens of a Lit port that is neither active nor training nor in LINK_IDLE, of which R463 says nothing, and the
share of domain d in the 40 fixed tokens that it gives domains 0–3 and 60–63 together (log entry 3). No body. -/
opaque freePortCost : Nat
opaque freeShare : Nat → Nat

/-- How many of the activities that a grant limits domain d makes in 1 µs at full rate (R464): requests admitted, ACTs,
instructions. The manual gives no number (log entries 3, 77). No body. -/
opaque fullRate : Nat → Nat

/-- The smallest eyes, read then write, that a training leaves where no command reports them (R275, R291; log entry 3): of
training n of a pseudo-channel. No body. -/
opaque freeEye : Nat → BitVec 16

/-- What a stack does with a line of five or more wrong symbols (R254): the decoder's outcome is not
stated; `none` stands for a detected error, `some d` for data taken as corrected (log entry 3). No body. -/
opaque freeDecode : Nat → Option LineData

/-- The OUTCOME of a blotter record whose request no row of R407 fits (a hint, a maintenance operation, an SCND that did not
store, a grant without data): by its opcode (log entry 3). No body. -/
opaque freeOutcome : Nat → BitVec 4

/-- The instructions of the test access port (R493); `internal` stands for the internal test instructions. -/
inductive TapInstr | bypass | idcode | sample | extest | extestPulse | extestTrain | internal
  deriving DecidableEq, Repr, Inhabited

/-- The signal balls that boundary scan reaches (R518, R529, R537): the 1.8 V balls outside the test port, the lanes, the
reference clocks. -/
inductive Ball
  | resetN | warmResetN | brakeN | ready | alertN | mgmtScl | mgmtSda | flashSck | flashCsN | flashIo (i : Nat)
  | avsClk | avsMdata | avsSdata | tx (p lane : Nat) (neg : Bool) | rx (p lane : Nat) (neg : Bool) | refclk (q : Nat) (neg : Bool)
  deriving DecidableEq, Repr

/-- A boundary-scan cell: it observes what is at a ball, drives it, or enables its driver. -/
inductive Cell
  | observe (b : Ball)
  | drive (b : Ball)
  | enable (b : Ball)
  deriving DecidableEq, Repr

/-- The boundary register from TDO to TDI: the manual leaves its cells and their order to the BSDL description (R537; log
entry 3). No body. -/
opaque boundaryCells : List Cell

/-- What a cell captures where no state of the device holds the level (log entry 3): of the n-th free value, at a ball. No body. -/
opaque freeCell : Nat → Ball → Bool

/-- The fixed marker of an alignment block, and where in the block's 64 bits the lane's number stands (R101): the manual
gives neither (log entry 3). No body. -/
opaque alignMarker : BitVec 64
opaque alignPlace : Nat

/-- The test instruction that the bits shifted into the instruction register name, the last bit first: the manual gives
neither the codes nor the length (log entry 3). No body. -/
opaque tapDecode : List Bool → TapInstr

/-- The number of ports, slices, stacks, pseudo-channels, clusters, cores, inkwells, engines, domains and
mailboxes of the largest part (R2, R247, R328, R355, R449, R387). -/
def nPorts : Nat := 16
def nSlices : Nat := 16
def nStacks : Nat := 4
def nPcs : Nat := 128
def nClusters : Nat := 16
def nCores : Nat := 128
def nInkwells : Nat := 1024
def nEngines : Nat := 8
def nDomains : Nat := 64
def nMailboxes : Nat := 8

end Sys2Proof.Config
end

