-- ==== Sys2Proof/Machine/Ecc.lean ====
section
/-! DEFINITION. The codes of the device: the flit CRC (R108), lean FEC (R102), and the line code
RS(72,64) with its poison pattern (R254, R255). -/
namespace Sys2Proof.Machine

/-! ## GF(2^8), field polynomial x^8 + x^4 + x^3 + x^2 + 1 (R102, R254) -/

/-- Multiply by alpha. -/
def gfDouble (a : Nat) : Nat := if a < 128 then 2 * a else (2 * a) ^^^ 0x11D

/-- Product of two field elements, by the bits of the second. -/
def gfMulAux : Nat → Nat → Nat → Nat
  | 0, _, _ => 0
  | n + 1, a, b => (if b % 2 = 1 then a else 0) ^^^ gfMulAux n (gfDouble a) (b / 2)

def gfMul (a b : Nat) : Nat := gfMulAux 8 a b

/-- alpha^n. -/
def gfPow : Nat → Nat
  | 0 => 1
  | n + 1 => gfDouble (gfPow n)

/-- The remainder of a message (highest power first) by a monic generator whose lower coefficients are
`g` (highest first): division by a shift register. -/
def rsRem (g : List Nat) (msg : List Nat) : List Nat :=
  msg.foldl (fun r b =>
    match r with
    | [] => []
    | r0 :: t =>
      let f := r0 ^^^ b
      List.zipWith (fun x c => x ^^^ gfMul f c) (t ++ [0]) g) (g.map fun _ => 0)

/-- The lower coefficients of the product of (x - alpha^i), i = 0 .. n-1, highest power first. -/
def rsGen : Nat → List Nat
  | 0 => []
  | n + 1 =>
    let g := rsGen n
    let a := gfPow n
    List.zipWith (fun x y => x ^^^ y) (g ++ [0]) ((1 :: g).map (gfMul a))

/-- The syndromes of a codeword (highest power first): its value at alpha^0 .. alpha^(n-1). -/
def rsSyn (n : Nat) (cw : List Nat) : List Nat :=
  (List.range n).map fun i => cw.foldl (fun acc b => gfMul acc (gfPow i) ^^^ b) 0

/-- Find the power p < n with s1 = s0 * alpha^p. -/
def findPow (s0 s1 : Nat) : Nat → Option Nat
  | 0 => none
  | n + 1 => if gfMul s0 (gfPow n) = s1 then some n else findPow s0 s1 n

/-- The inverse of a field element. -/
def gfInv (a : Nat) : Nat := ((List.range 256).find? fun b => gfMul a b == 1).getD 0

/-- The one wrong symbol that explains eight syndromes, of a word of n symbols: place from the front, and the error. -/
def rsOne (n : Nat) (syn : List Nat) : Option (List (Nat × Nat)) :=
  let s0 := nth syn 0
  match findPow s0 (nth syn 1) n with
  | none => none
  | some p =>
    if s0 != 0 && (List.range 7).all fun i => gfMul (nth syn i) (gfPow p) == nth syn (i + 1) then some [(n - 1 - p, s0)]
    else none

/-- The two wrong symbols that explain eight syndromes: the locators X are the roots of X² + a X + b, where every syndrome
from the third on is a times the one before it plus b times the one before that. -/
def rsTwo (n : Nat) (syn : List Nat) : Option (List (Nat × Nat)) :=
  let s := nth syn
  let det := gfInv (gfMul (s 1) (s 1) ^^^ gfMul (s 0) (s 2))
  let a := gfMul det (gfMul (s 2) (s 1) ^^^ gfMul (s 3) (s 0))
  let b := gfMul det (gfMul (s 1) (s 3) ^^^ gfMul (s 2) (s 2))
  let roots := (List.range n).filter fun p => gfMul (gfPow p) (gfPow p) ^^^ gfMul a (gfPow p) ^^^ b == 0
  match roots with
  | [p, q] =>
    let e := gfMul (s 1 ^^^ gfMul (s 0) (gfPow q)) (gfInv (gfPow p ^^^ gfPow q))
    let f := s 0 ^^^ e
    if det != 0 && e != 0 && f != 0 && (List.range 6).all fun i => s (i + 2) == gfMul a (s (i + 1)) ^^^ gfMul b (s i) then
      some [(n - 1 - q, f), (n - 1 - p, e)]
    else none
  | _ => none

/-- The at most two wrong symbols of a word of n symbols, highest power first, with eight check symbols (R254): none where
no codeword lies so near. -/
def rsFix (n : Nat) (word : List Nat) : Option (List (Nat × Nat)) :=
  let syn := rsSyn 8 word
  if syn.all (· == 0) then some []
  else match rsOne n syn with
    | some l => some l
    | none => rsTwo n syn

/-! ## Lean FEC: RS(131,128), one byte corrected, two detected (R102) -/

/-- The three parity bytes of one interleave. -/
def leanParity (msg : List Byte) : List Byte :=
  (rsRem (rsGen 3) (msg.map (·.toNat))).map fun n => BitVec.ofNat 8 n

/-- Decode one interleave of 131 bytes: `none` uncorrectable, else the 128 bytes and whether one was corrected. -/
def leanDecode (cw : List Byte) : Option (List Byte × Bool) :=
  match rsSyn 3 (cw.map (·.toNat)) with
  | [0, 0, 0] => some (cw.take 128, false)
  | [s0, s1, s2] =>
    if s0 = 0 then none else
    match findPow s0 s1 cw.length with
    | none => none
    | some p =>
      if gfMul s1 (gfPow p) = s2 then
        some ((lmod cw (cw.length - 1 - p) fun b => b ^^^ BitVec.ofNat 8 s0).take 128, true)
      else none
  | _ => none

/-- Every second element, from the first. -/
def evens {α : Type} : List α → List α
  | a :: _ :: t => a :: evens t
  | [a] => [a]
  | [] => []

/-- Every second element, from the second. -/
def odds {α : Type} : List α → List α
  | _ :: b :: t => b :: odds t
  | _ => []

/-- Interleave two lists. -/
def weave {α : Type} : List α → List α → List α
  | a :: s, b :: t => a :: b :: weave s t
  | s, [] => s
  | [], t => t

/-- A 256-byte flit with its 3 parity bytes of A, then 3 of B (R102). -/
def leanEncode (flit : List Byte) : List Byte :=
  flit ++ leanParity (evens flit) ++ leanParity (odds flit)

/-- Decode 262 received bytes: the flit and the codewords corrected, or `none` with an uncorrectable codeword. -/
def leanReceive (bytes : List Byte) : Option (List Byte × Nat) :=
  let f := bytes.take 256
  match leanDecode (evens f ++ (bytes.drop 256).take 3), leanDecode (odds f ++ (bytes.drop 259).take 3) with
  | some (a, ca), some (b, cb) => some (weave a b, b2n ca + b2n cb)
  | _, _ => none

/-! ## The flit CRC: ECMA-182, each byte least significant bit first, all ones, inverted (R108) -/

/-- The polynomial 0x42F0_E1EB_A9EA_3693 with its bits in reversed order, for bytes taken least significant
bit first. -/
def crc64Poly : Nat := 0xC96C5795D7870F42

/-- One bit of the CRC register, least significant bit leaving first. -/
def crcBits : Nat → Nat → Nat → Nat
  | 0, _, c => c
  | n + 1, poly, c => crcBits n poly (if c % 2 = 1 then (c / 2) ^^^ poly else c / 2)

/-- The CRC register over bytes, polynomial in reversed order. -/
def crcStep (poly c : Nat) (bs : List Byte) : Nat :=
  bs.foldl (fun c b => crcBits 8 poly (c ^^^ b.toNat)) c

/-- The 64-bit CRC of a flit's bytes (R108). -/
def crc64 (bs : List Byte) : Nat := crcStep crc64Poly (2 ^ 64 - 1) bs ^^^ (2 ^ 64 - 1)

end Sys2Proof.Machine
end

