-- ==== Sys2Proof/Machine/Wire.lean ====
section
/-! DEFINITION. What a port's transmitter puts on its lanes: PAM4 levels, lane distribution, alignment blocks and the
RS(544,514) stream (R94, R100, R101, R103). -/
namespace Sys2Proof.Machine
open Config

/-! ## RS(544,514): GF(2^10), field polynomial x^10 + x^3 + 1 (R103, IEEE 802.3 Clause 91; log entry 72) -/

/-- Multiply a 10-bit symbol by alpha. -/
def tenDouble (a : Nat) : Nat := (2 * a) ^^^ (a / 512 * 0x409)

/-- Product of two 10-bit symbols, by the bits of the second. -/
def tenMulAux : Nat → Nat → Nat → Nat
  | 0, _, _ => 0
  | n + 1, a, b => (b % 2 * a) ^^^ tenMulAux n (tenDouble a) (b / 2)

def tenMul (a b : Nat) : Nat := tenMulAux 10 a b

/-- alpha^n. -/
def tenPow : Nat → Nat
  | 0 => 1
  | n + 1 => tenDouble (tenPow n)

/-- The lower coefficients of the product of (x - alpha^i), i = 0 .. n-1, highest power first. -/
def tenGen : Nat → List Nat
  | 0 => []
  | n + 1 => List.zipWith (fun x y => x ^^^ y) (tenGen n ++ [0]) ((1 :: tenGen n).map (tenMul (tenPow n)))

/-- One message symbol through the division by the generator: `par` is the remainder so far. -/
def parityStep (par : List Nat) (sym : Nat) : List Nat :=
  match par with
  | [] => []
  | r :: t => List.zipWith (fun x c => x ^^^ tenMul (r ^^^ sym) c) (t ++ [0]) (tenGen 30)

/-- The 30 parity symbols of no message symbols. -/
def parity0 : List Nat := List.replicate 30 0

/-! ## Levels and lanes (R94, R100) -/

/-- The PAM4 level of a bit pair, written bit 1 then bit 0 (R94). -/
def pamLevel (pair : Nat) : Nat :=
  match pair with
  | 0 => 0 | 1 => 1 | 3 => 2 | _ => 3

/-- The levels of n bit pairs of a number, the lowest pair first: 4 to a byte, 5 to a symbol (R94). -/
def pamLevels : Nat → Nat → List Nat
  | 0, _ => []
  | n + 1, v => pamLevel (v % 4) :: pamLevels n (v / 4)

/-- What the transmitter sends in turn: the levels of one byte or symbol, or an alignment block on every lane (R101). -/
inductive LineItem | unit (levels : List Nat) | align
  deriving DecidableEq, Repr

/-- The alignment block of a logical lane: the marker with the lane's number in it, least significant byte first (R101,
log entry 72). -/
def alignBlock (lane : Nat) : List Byte := bytesLE 8 (putBits alignMarker.toNat (alignPlace % 62) 3 lane)

/-- The levels of an alignment block. -/
def alignLevels (lane : Nat) : List Nat := (alignBlock lane).flatMap fun b => pamLevels 4 b.toNat

/-- Append to every lane of a list, with its number counted from `lane`. -/
def onLanes (f : Nat → List Nat) : Nat → List (List Nat) → List (List Nat)
  | _, [] => []
  | lane, x :: t => (x ++ f lane) :: onLanes f (lane + 1) t

/-- Unit n of the stream goes to lane n mod w; an alignment block to every lane, `first` being the first lane's number
(R100, R101). -/
def distribute (w first : Nat) : Nat → List LineItem → List (List Nat) → List (List Nat)
  | _, [], acc => acc
  | n, .unit u :: t, acc => distribute w first (n + 1) t (lmod acc (n % w) (· ++ u))
  | n, .align :: t, acc => distribute w first n t (onLanes alignLevels first acc)

/-- The number of units among the items. -/
def unitCount (l : List LineItem) : Nat := (l.filter fun i => i != .align).length

/-- Eight lanes: at x4 the active half carries the stream, and the other is silent (R100). -/
def placeHalf (x4 half : Bool) (l : List (List Nat)) : List (List Nat) :=
  if !x4 then l else if half then [[], [], [], []] ++ l else l ++ [[], [], [], []]

/-! ## The transmitter -/

/-- What a transmitter keeps between flits (R100, R101, R103). -/
structure Wire where
  /-- The number, modulo 8, of the next byte (lean FEC) or symbol (RS) of the stream. -/
  next : Nat
  /-- Flits (lean FEC) or codewords (RS) since the last alignment block. -/
  since : Nat
  /-- RS: how many bits wait for their symbol to fill, and those bits. -/
  bitCount : Nat
  bits : Nat
  /-- RS: message symbols of the open codeword, and its parity so far. -/
  syms : Nat
  parity : List Nat
  /-- The levels each logical lane carried for the last flit sent. -/
  lanes : List (List Nat)
  deriving DecidableEq, Repr

/-- The stream as it starts when the port becomes ACTIVE (log entry 72). -/
def Wire.fresh : Wire := { next := 0, since := 0, bitCount := 0, bits := 0, syms := 0, parity := parity0, lanes := [] }

/-- Put items on the lanes. -/
def Wire.put (x : Wire) (x4 half : Bool) (items : List LineItem) : Wire :=
  let w := if x4 then 4 else 8
  let out := distribute w (if x4 && half then 4 else 0) x.next items (List.replicate w [])
  { x with next := (x.next + unitCount items) % 8, lanes := placeHalf x4 half out }

/-- A lean-FEC flit of 262 bytes; an alignment block follows every 4,096 flits (R100–R102). -/
def Wire.lean (x : Wire) (x4 half : Bool) (bytes : List Byte) : Wire :=
  let units := bytes.map fun b => LineItem.unit (pamLevels 4 b.toNat)
  if x.since + 1 = 4096 then { x.put x4 half (units ++ [.align]) with since := 0 }
  else { x.put x4 half units with since := x.since + 1 }

/-- One 10-bit symbol as a stream item. -/
def symItem (v : Nat) : LineItem := .unit (pamLevels 5 v)

/-- A message symbol: after 514 of them the 30 parity symbols, and after 1,024 codewords an alignment block (R101, R103). -/
def Wire.symbol (x : Wire) (v : Nat) : Wire × List LineItem :=
  let par := parityStep x.parity v
  if x.syms + 1 = 514 then
    let y := { x with syms := 0, parity := parity0 }
    if x.since + 1 = 1024 then ({ y with since := 0 }, symItem v :: par.map symItem ++ [.align])
    else ({ y with since := x.since + 1 }, symItem v :: par.map symItem)
  else ({ x with syms := x.syms + 1, parity := par }, [symItem v])

/-- n message symbols from the bits of a number, lowest first; what is left of it. -/
def Wire.symbols (x : Wire) : Nat → Nat → Wire × List LineItem
  | 0, v => ({ x with bits := v }, [])
  | n + 1, v =>
    let r := x.symbol (v % 1024)
    let t := r.1.symbols n (v / 1024)
    (t.1, r.2 ++ t.2)

/-- A flit under RS(544,514): its bits go on from those of the flit before, without alignment to codewords (R103). -/
def Wire.rs (x : Wire) (x4 half : Bool) (bytes : List Byte) : Wire :=
  let n := x.bitCount + 8 * bytes.length
  let r := x.symbols (n / 10) (x.bits + 2 ^ x.bitCount * ofBytesLE bytes)
  { r.1.put x4 half r.2 with bitCount := n % 10 }

/-! ## The balls (R99, R133) -/

/-- What a port's transmit balls do (R133). -/
inductive BallState | float | electricalIdle | driven
  deriving DecidableEq, Repr

/-- The physical lane of a logical lane: in order, or reversed (R99). -/
def physLane (reversed : Bool) (l : Nat) : Nat := if reversed then 7 - l else l

end Sys2Proof.Machine
end

