-- ==== Sys2Proof/Machine/Fec.lean ====
section
/-! DEFINITION. What a port's receiver does with the codewords of RS(544,514) (R103, R104): the decoder, and the flits that the
message bits of successive codewords hold. -/
namespace Sys2Proof.Machine

/-! ## The decoder: polynomials over GF(2^10), lowest power first (IEEE 802.3 Clause 91; log entry 72) -/

/-- Powers a^2, a^4, ... multiplied together, n of them. -/
def tenInvAux : Nat → Nat → Nat
  | 0, _ => 1
  | n + 1, a => tenMul (tenMul a a) (tenInvAux n (tenMul a a))

/-- The inverse of a symbol that is not 0: its power 1,022. -/
def tenInv (a : Nat) : Nat := tenInvAux 9 a

/-- The value of a polynomial. -/
def tenEval (p : List Nat) (x : Nat) : Nat := p.foldr (fun a acc => a ^^^ tenMul x acc) 0

/-- The sum of two polynomials. -/
def tenAdd : List Nat → List Nat → List Nat
  | [], b => b
  | a, [] => a
  | x :: a, y :: b => (x ^^^ y) :: tenAdd a b

/-- The sum of the products of corresponding symbols. -/
def tenDot (a b : List Nat) : Nat := (List.zipWith tenMul a b).foldl (fun x y => x ^^^ y) 0

/-- The syndromes of a received word, its first symbol that of the highest power: its values at alpha^0 .. alpha^29. -/
def syndromes (r : List Nat) : List Nat := (List.range 30).map fun i => tenEval r.reverse (tenPow i)

/-- The state of the search for the shortest recurrence of the syndromes: the connection polynomial, its length, the
polynomial before the last change of length, how long ago that was, and the discrepancy then. -/
structure Recurrence where
  c : List Nat
  len : Nat
  b : List Nat
  gap : Nat
  disc : Nat
  deriving DecidableEq, Repr

/-- One syndrome more: number n. -/
def recurStep (syn : List Nat) (x : Recurrence) (n : Nat) : Recurrence :=
  let d := tenDot x.c ((syn.take (n + 1)).reverse)
  if d = 0 then { x with gap := x.gap + 1 }
  else
    let c := tenAdd x.c (List.replicate x.gap 0 ++ x.b.map (tenMul (tenMul d (tenInv x.disc))))
    if 2 * x.len ≤ n then { c := c, len := n + 1 - x.len, b := x.c, gap := 1, disc := d }
    else { x with c := c, gap := x.gap + 1 }

/-- The error locator. -/
def locator (syn : List Nat) : List Nat := ((List.range 30).foldl (recurStep syn) ⟨[1], 0, [1], 1, 1⟩).c

/-- Coefficient n of the product of two polynomials. -/
def tenCoeff (a b : List Nat) (n : Nat) : Nat := tenDot (a ++ List.replicate (n + 1 - a.length) 0) ((b ++ List.replicate (n + 1 - b.length) 0).take (n + 1)).reverse

/-- The derivative: the odd coefficients, each one power lower. -/
def tenDeriv : List Nat → List Nat
  | _ :: y :: t => y :: 0 :: tenDeriv t
  | _ => []

/-- Correct the symbols of a word: `x` is the inverse of the location of the first; each next one is alpha times it. -/
def correctFrom (lam om dl : List Nat) : Nat → List Nat → List Nat
  | _, [] => []
  | x, v :: t =>
    (if tenEval lam x = 0 then v ^^^ tenMul (tenInv x) (tenMul (tenEval om x) (tenInv (tenEval dl x))) else v)
      :: correctFrom lam om dl (tenDouble x) t

/-- How many symbols of two words differ. -/
def symDiff (a b : List Nat) : Nat := (List.zipWith (fun x y => if x = y then 0 else 1) a b).sum

/-- Decode 544 received symbols: the 514 message symbols and how many symbols were corrected, where the word is within 15
symbols of a codeword. The codeword is unique, since two differ in 31 symbols or more. -/
def rsDecode (r : List Nat) : Option (List Nat × Nat) :=
  let syn := syndromes r
  if syn.all (· == 0) then some (r.take 514, 0)
  else
    let lam := locator syn
    let om := (List.range 30).map (tenCoeff syn lam)
    let c := correctFrom lam om (tenDeriv lam) (tenPow 480) r
    if (syndromes c).all (· == 0) && decide (symDiff r c ≤ 15) then some (c.take 514, symDiff r c) else none

/-! ## The stream of message bits (R103) -/

/-- n symbols of a number, the lowest bits first. -/
def symbolsOf : Nat → Nat → List Nat
  | 0, _ => []
  | n + 1, v => v % 1024 :: symbolsOf n (v / 1024)

/-- The number that symbols make, the lowest bits first. -/
def ofSymbols : List Nat → Nat
  | [] => 0
  | v :: t => v + 1024 * ofSymbols t

/-- A codeword as it stands in bytes: 544 symbols of 10 bits. -/
def codewordBytes : Nat := 680

/-- What a receiver keeps between codewords: the message bits that wait for the rest of their flit, and whether one of them
comes from a codeword that could not be corrected. -/
structure RxStream where
  count : Nat
  bits : Nat
  bad : Bool
  deriving DecidableEq, Repr

def RxStream.fresh : RxStream := { count := 0, bits := 0, bad := false }

/-- The flits of n bytes that a number of `len` bits begins with, `k` of them at most; what is left. -/
def takeFlits (n : Nat) : Nat → Nat → Nat → List (List Byte) × Nat × Nat
  | 0, v, len => ([], v, len)
  | k + 1, v, len =>
    if len < 8 * n then ([], v, len)
    else
      let r := takeFlits n k (v / 2 ^ (8 * n)) (len - 8 * n)
      (bytesLE n v :: r.1, r.2)

/-- Mark the flits with whether they hold bits of an uncorrectable codeword: the first also by what waited. -/
def markFlits (first rest : Bool) : List (List Byte) → List (Option (List Byte))
  | [] => []
  | f :: t => (if first then none else some f) :: t.map fun g => if rest then none else some g

/-- A received codeword: the flits of n bytes that end in it (none for one that holds bits of an uncorrectable codeword,
R104), the stream after it, and the symbols corrected (none where it is uncorrectable). -/
def RxStream.take (x : RxStream) (n : Nat) (codeword : List Byte) : List (Option (List Byte)) × RxStream × Option Nat :=
  let d := rsDecode (symbolsOf 544 (ofBytesLE codeword))
  let bad := d.isNone
  let m := match d with
    | some w => ofSymbols w.1
    | none => 0
  let r := takeFlits n 41 (x.bits + 2 ^ x.count * m) (x.count + 5140)
  (markFlits (bad || x.bad) bad r.1,
   { count := r.2.2, bits := r.2.1, bad := (bad || (x.bad && r.1.isEmpty)) && decide (0 < r.2.2) }, d.map (·.2))

end Sys2Proof.Machine
end

