-- ==== Sys2Proof/Machine/RegTable.lean ====
section
/-! DEFINITION. The block map (R41) and every field of every control-window register, as the spec's
field tables give it: name, place, type, guard, vote, source of its reset value, reset value. -/
namespace Sys2Proof.Machine

/-- The base access types (R22). -/
inductive FTy | ro | rw | w1c | mw | wo | w1l
  deriving DecidableEq, Repr

/-- Where the reset value comes from (R25): the Reset column, a configuration record, live hardware, fuses. -/
inductive FSrc | fixed | cfg | hw | fuse
  deriving DecidableEq, Repr

/-- One field of a register (R22): `g` guarded, `tv` triple-voted, `reset` the Reset column or the
default of a cfg field. -/
structure Field where
  name : String
  lo : Nat
  width : Nat
  ty : FTy
  g : Bool
  tv : Bool
  src : FSrc
  reset : Nat
  deriving DecidableEq, Repr

/-- The bits of a register that a field holds. -/
def Field.mask (f : Field) : Nat := (2 ^ f.width - 1) * 2 ^ f.lo

/-- Default idle time of domain d in microseconds (R449). -/
def idleDefault (d : Nat) : Nat :=
  if d < 2 then 0 else if d < 4 then 10 else if d < 20 then 100 else if d < 44 then 1000
  else if d < 61 then 100 else if d = 61 then 0 else 10

/-- The event sources whose ALERT bit defaults to 1 (R417). -/
def alertDefault (s : Nat) : Bool :=
  decide (s < 4) || (decide (0x10 ≤ s) && decide (s < 0x30)) || decide (s = 0x30) ||
  (decide (0x40 ≤ s) && decide (s < 0x44)) || (decide (0x50 ≤ s) && decide (s < 0x61))

/-- IDENT block (R87); the compatibility select is triple-voted (R72). -/
def identFields (rel : Nat) : List Field :=
  match rel with
  | 0x0 => [⟨"DEV_ID", 0, 16, .ro, false, false, .fuse, 0⟩, ⟨"VENDOR", 16, 16, .ro, false, false, .fixed, 0xB5D0⟩]
  | 0x4 => [⟨"STEPPING", 0, 8, .ro, false, false, .fuse, 0⟩]
  | 0x8 => [⟨"COMPAT", 0, 1, .ro, false, true, .cfg, 0⟩, ⟨"COMPAT_LOCK", 1, 1, .ro, false, false, .fuse, 0⟩, ⟨"DEVNUM", 4, 4, .ro, false, false, .cfg, 0⟩]
  | 0x10 => [⟨"SERIAL", 0, 32, .ro, false, false, .fuse, 0⟩]
  | 0x14 => [⟨"SERIAL", 0, 32, .ro, false, false, .fuse, 0⟩]
  | 0x20 => [⟨"TB", 0, 32, .ro, false, false, .hw, 0⟩]
  | 0x24 => [⟨"TB", 0, 32, .ro, false, false, .hw, 0⟩]
  | 0x28 => [⟨"LOCKED", 0, 1, .ro, false, false, .hw, 0⟩, ⟨"UNLOCK_SEEN", 1, 1, .w1c, false, false, .fixed, 0⟩]
  | _ => []

/-- BOOT block (R494). -/
def bootFields (rel : Nat) : List Field :=
  if 0x40 ≤ rel ∧ rel < 0x70 then
    if (rel - 0x40) % 4 = 0 then [⟨"HASH", 0, 32, .rw, true, false, .fixed, 0⟩] else []
  else
  match rel with
  | 0x0 => [⟨"STEP", 0, 4, .ro, false, false, .hw, 0⟩, ⟨"RELEASED", 4, 1, .ro, false, false, .hw, 0⟩, ⟨"FAILED", 5, 1, .ro, false, false, .hw, 0⟩, ⟨"SLOT_B", 6, 1, .ro, false, false, .hw, 0⟩, ⟨"LIFECYCLE", 8, 2, .ro, false, true, .fuse, 0⟩, ⟨"WARM", 10, 1, .ro, false, false, .hw, 0⟩, ⟨"KEPT", 11, 1, .ro, false, false, .hw, 0⟩]
  | 0x4 => [⟨"CAUSE", 0, 4, .ro, false, false, .fixed, 0⟩, ⟨"CAUSE_A", 4, 4, .ro, false, false, .fixed, 0⟩, ⟨"UNIT", 8, 2, .ro, false, false, .fixed, 0⟩, ⟨"RECORD", 16, 16, .ro, false, false, .fixed, 0⟩]
  | 0x8 => [⟨"IMAGE_ID", 0, 32, .ro, false, false, .cfg, 0⟩]
  | 0xc => [⟨"IMAGE_ID", 0, 32, .ro, false, false, .cfg, 0⟩]
  | 0x10 => [⟨"KEEP_HOME", 0, 1, .rw, true, false, .cfg, 0⟩, ⟨"RELEASE_TMO", 8, 8, .ro, false, false, .cfg, 200⟩, ⟨"RELEASE_WAIT", 16, 16, .ro, false, false, .cfg, 0⟩]
  | 0x14 => [⟨"BASE", 0, 14, .ro, false, true, .cfg, 0⟩]
  | 0x18 => [⟨"BASE", 0, 26, .ro, false, true, .cfg, 4095⟩]
  | 0x1c => [⟨"OFFSET", 0, 32, .ro, false, false, .cfg, 0⟩]
  | 0x20 => [⟨"SIZE", 0, 32, .ro, false, false, .cfg, 0⟩]
  | 0x24 => [⟨"WARM", 0, 1, .rw, true, false, .fixed, 0⟩]
  | 0x30 => [⟨"TARGET", 0, 2, .rw, true, false, .fixed, 0⟩, ⟨"GO", 4, 1, .rw, true, false, .fixed, 0⟩, ⟨"CONFIRM", 16, 16, .wo, true, false, .fixed, 0⟩]
  | 0x34 => [⟨"OP", 0, 2, .rw, true, false, .fixed, 0⟩, ⟨"GO", 4, 1, .rw, true, false, .fixed, 0⟩]
  | 0x38 => [⟨"BUSY", 0, 1, .ro, true, false, .hw, 0⟩, ⟨"DONE", 1, 1, .w1c, true, false, .fixed, 0⟩, ⟨"ERR", 2, 1, .w1c, true, false, .fixed, 0⟩, ⟨"ERR_CAUSE", 4, 4, .ro, true, false, .fixed, 0⟩]
  | 0x70 => [⟨"OPEN", 0, 1, .ro, false, false, .fuse, 0⟩]
  | _ => []

/-- POWER block (R472, R441). -/
def powerFields (rel : Nat) : List Field :=
  if 0x1000 ≤ rel ∧ rel < 0x1400 then
    let i := (rel - 0x1000) / 0x10
    match (rel - 0x1000) % 0x10 with
    | 0x0 => [⟨"TARGET", 0, 2, .rw, true, false, .fixed, 0⟩, ⟨"GO", 4, 1, .rw, true, false, .fixed, 0⟩]
    | 0x4 => [⟨"STATE", 0, 2, .ro, false, false, .hw, 0⟩, ⟨"MOVING", 2, 1, .ro, false, false, .hw, 0⟩, ⟨"REFUSED", 3, 1, .ro, false, false, .hw, 0⟩, ⟨"PEND", 4, 1, .ro, false, false, .hw, 0⟩]
    | 0x8 => [⟨"IDLE", 0, 16, .rw, true, false, .cfg, (idleDefault i)⟩]
    | 0xc => [⟨"GRANT", 0, 10, .ro, true, false, .hw, 0⟩, ⟨"CAP", 16, 10, .rw, true, false, .cfg, 1023⟩]
    | _ => []
  else
  if 0x8000 ≤ rel ∧ rel < 0x8100 then
    if (rel - 0x8000) % 4 = 0 then [⟨"AGE", 0, 12, .ro, true, false, .hw, 0⟩, ⟨"VALID", 31, 1, .ro, true, false, .hw, 0⟩] else []
  else
  match rel with
  | 0x0 => [⟨"BUDGET", 0, 11, .rw, true, true, .cfg, 1360⟩, ⟨"BRAKE", 16, 11, .rw, true, true, .cfg, 800⟩]
  | 0x4 => [⟨"CEILING", 0, 11, .w1l, true, true, .cfg, 1520⟩]
  | 0x8 => [⟨"V_SET", 0, 10, .rw, true, true, .cfg, 750⟩]
  | 0xc => [⟨"BRAKED", 0, 1, .ro, false, false, .hw, 0⟩, ⟨"PIN", 1, 1, .ro, false, false, .hw, 0⟩, ⟨"AVS_HOLD", 2, 1, .ro, false, false, .hw, 0⟩, ⟨"V_TARGET", 16, 10, .ro, false, false, .hw, 0⟩]
  | 0x10 => [⟨"MODEL", 0, 11, .ro, true, false, .hw, 0⟩, ⟨"SHORT", 16, 11, .ro, true, false, .hw, 0⟩]
  | 0x14 => [⟨"I_CORE", 0, 16, .ro, true, false, .hw, 0⟩, ⟨"V_CORE", 16, 10, .ro, true, false, .hw, 0⟩]
  | 0x18 => [⟨"AVS_ERR", 0, 1, .w1c, true, false, .fixed, 0⟩, ⟨"AVS_ALERT", 1, 1, .w1c, true, false, .fixed, 0⟩, ⟨"BUDGET_SHORT", 2, 1, .w1c, true, false, .fixed, 0⟩, ⟨"CMD_REFUSED", 3, 1, .w1c, true, false, .fixed, 0⟩]
  | 0x1c => [⟨"DOMAIN", 0, 6, .ro, true, false, .fixed, 0⟩, ⟨"AVS_STATUS", 8, 8, .ro, true, false, .fixed, 0⟩]
  | 0x20 => [⟨"MAX", 0, 8, .ro, false, false, .hw, 0⟩, ⟨"SENSOR", 8, 5, .ro, false, false, .hw, 0⟩]
  | 0x8100 => [⟨"RECOVER_EN", 0, 1, .rw, true, false, .cfg, 1⟩, ⟨"LIMIT", 16, 12, .rw, true, false, .cfg, 1126⟩]
  | 0x8104 => [⟨"RAISE", 0, 8, .ro, true, false, .hw, 0⟩]
  | 0x8108 => [⟨"WEAR_LO", 0, 32, .ro, true, false, .hw, 0⟩]
  | 0x810c => [⟨"WEAR_HI", 0, 32, .ro, true, false, .hw, 0⟩]
  | _ => []

/-- EVENT block (R389, R417, R430, R447). -/
def eventFields (rel : Nat) : List Field :=
  if 0x100 ≤ rel ∧ rel < 0x300 then
    let i := (rel - 0x100) / 0x4
    if (rel - 0x100) % 4 = 0 then [⟨"TO_FIFO", 0, 1, .rw, true, false, .cfg, (if i = 0x02 ∨ i = 0x61 then 0 else 1)⟩, ⟨"TO_MSG", 1, 1, .rw, true, false, .cfg, (if i = 0x61 then 1 else 0)⟩, ⟨"ALERT", 2, 1, .rw, true, false, .cfg, (if alertDefault i then 1 else 0)⟩, ⟨"DST", 16, 10, .rw, true, false, .cfg, 0⟩] else []
  else
  if 0x1000 ≤ rel ∧ rel < 0x1100 then
    match (rel - 0x1000) % 0x20 with
    | 0x0 => [⟨"DATA", 0, 32, .ro, true, false, .fixed, 0⟩]
    | 0x4 => [⟨"DATA", 0, 32, .ro, true, false, .fixed, 0⟩]
    | 0x8 => [⟨"COUNT", 0, 11, .ro, true, false, .fixed, 0⟩, ⟨"EMPTY", 16, 1, .ro, true, false, .fixed, 1⟩, ⟨"FULL", 17, 1, .ro, true, false, .fixed, 0⟩]
    | 0xc => [⟨"RD_PTR", 0, 11, .ro, true, false, .fixed, 0⟩, ⟨"WR_PTR", 16, 11, .ro, true, false, .fixed, 0⟩]
    | 0x10 => [⟨"OVERRUN", 0, 1, .w1c, true, false, .fixed, 0⟩, ⟨"UNDERRUN", 1, 1, .w1c, true, false, .fixed, 0⟩]
    | 0x14 => [⟨"CLEAR", 0, 1, .rw, true, false, .fixed, 0⟩]
    | _ => []
  else
  if 0x2000 ≤ rel ∧ rel < 0x2018 then
    match (rel - 0x2000) % 0x20 with
    | 0x0 => [⟨"DATA", 0, 32, .ro, true, false, .fixed, 0⟩]
    | 0x4 => [⟨"DATA", 0, 32, .ro, true, false, .fixed, 0⟩]
    | 0x8 => [⟨"COUNT", 0, 11, .ro, true, false, .fixed, 0⟩, ⟨"EMPTY", 16, 1, .ro, true, false, .fixed, 1⟩, ⟨"FULL", 17, 1, .ro, true, false, .fixed, 0⟩]
    | 0xc => [⟨"RD_PTR", 0, 11, .ro, true, false, .fixed, 0⟩, ⟨"WR_PTR", 16, 11, .ro, true, false, .fixed, 0⟩]
    | 0x10 => [⟨"OVERRUN", 0, 1, .w1c, true, false, .fixed, 0⟩, ⟨"UNDERRUN", 1, 1, .w1c, true, false, .fixed, 0⟩]
    | 0x14 => [⟨"CLEAR", 0, 1, .rw, true, false, .fixed, 0⟩]
    | _ => []
  else
  if 0x4000 ≤ rel ∧ rel < 0x5000 then
    if (rel - 0x4000) % 4 = 0 then [⟨"DST", 0, 10, .rw, true, false, .cfg, 0⟩, ⟨"VALID", 31, 1, .rw, true, false, .cfg, 0⟩] else []
  else
  match rel with
  | 0x8 => [⟨"SEQ", 0, 32, .ro, true, false, .fixed, 0⟩]
  | 0xc => [⟨"SEQ", 0, 16, .ro, true, false, .fixed, 0⟩]
  | 0x10 => [⟨"MSG_LOST", 0, 1, .w1c, true, false, .fixed, 0⟩, ⟨"MSGQ_USED", 16, 9, .ro, true, false, .hw, 0⟩]
  | 0x14 => [⟨"PEND", 0, 1, .w1c, true, false, .fixed, 0⟩]
  | 0x18 => [⟨"EN", 0, 32, .rw, true, false, .cfg, 0⟩]
  | 0x1c => [⟨"EN", 0, 32, .rw, true, false, .cfg, 0⟩]
  | 0x20 => [⟨"FATAL", 0, 1, .ro, true, false, .fixed, 0⟩, ⟨"REFCLK_LOST", 1, 1, .w1c, true, false, .fixed, 0⟩, ⟨"THERM_WARN", 2, 1, .w1c, true, false, .fixed, 0⟩, ⟨"THERM_TRIP", 3, 1, .w1c, true, false, .fixed, 0⟩, ⟨"HANG", 4, 1, .w1c, true, false, .fixed, 0⟩, ⟨"INT_UE", 5, 1, .w1c, true, false, .fixed, 0⟩, ⟨"INT_DATA_UE", 6, 1, .w1c, true, false, .fixed, 0⟩, ⟨"MSG_DISCARD", 7, 1, .w1c, true, false, .fixed, 0⟩, ⟨"AGE_LIMIT", 8, 1, .w1c, true, false, .fixed, 0⟩, ⟨"WEAR_SPENT", 9, 1, .w1c, true, false, .fixed, 0⟩]
  | 0x24 => [⟨"SOURCE", 0, 8, .ro, true, false, .fixed, 0⟩, ⟨"CODE", 8, 7, .ro, true, false, .fixed, 0⟩, ⟨"VALID", 31, 1, .ro, true, false, .fixed, 0⟩]
  | 0x28 => [⟨"SEQ", 0, 32, .ro, true, false, .fixed, 0⟩]
  | 0x2c => [⟨"SEQ", 0, 16, .ro, true, false, .fixed, 0⟩]
  | 0x30 => [⟨"WRITE", 0, 1, .rw, true, false, .fixed, 0⟩]
  | 0x34 => [⟨"BUSY", 0, 1, .ro, true, false, .hw, 0⟩, ⟨"DONE", 1, 1, .w1c, true, false, .fixed, 0⟩, ⟨"ERR", 2, 1, .w1c, true, false, .fixed, 0⟩]
  | _ => []

/-- INDIRECT block (R79, R83). -/
def indirectFields (rel : Nat) : List Field :=
  match rel with
  | 0x0 => [⟨"OFFSET", 0, 24, .rw, true, false, .fixed, 0⟩, ⟨"TARGET", 24, 7, .rw, true, false, .fixed, 0⟩, ⟨"AUTO_INC", 31, 1, .rw, true, false, .fixed, 0⟩]
  | 0x4 => [⟨"DATA", 0, 32, .rw, true, false, .fixed, 0⟩]
  | 0x8 => [⟨"BAD_TARGET", 0, 1, .w1c, true, false, .fixed, 0⟩, ⟨"WAKE_SEEN", 1, 1, .w1c, true, false, .fixed, 0⟩]
  | 0x10 => [⟨"OFFSET", 0, 24, .rw, true, false, .fixed, 0⟩, ⟨"TARGET", 24, 7, .rw, true, false, .fixed, 0⟩, ⟨"AUTO_INC", 31, 1, .rw, true, false, .fixed, 0⟩]
  | 0x14 => [⟨"DATA", 0, 32, .rw, true, false, .fixed, 0⟩]
  | 0x18 => [⟨"BAD_TARGET", 0, 1, .w1c, true, false, .fixed, 0⟩, ⟨"WAKE_SEEN", 1, 1, .w1c, true, false, .fixed, 0⟩]
  | 0x1c => [⟨"HELD", 0, 1, .rw, true, false, .hw, 0⟩, ⟨"OWNER", 16, 10, .ro, true, false, .hw, 0⟩, ⟨"OWNER_SECURE", 26, 1, .ro, true, false, .hw, 0⟩, ⟨"OWNED", 27, 1, .ro, true, false, .hw, 0⟩]
  | _ => []

/-- PORT block (R137). -/
def portFields (rel : Nat) : List Field :=
  if 0x20 ≤ rel ∧ rel < 0x38 then
    if (rel - 0x20) % 4 = 0 then [⟨"TX_AVAIL", 0, 16, .ro, false, false, .hw, 0⟩, ⟨"RX_FREE", 16, 16, .ro, false, false, .hw, 0⟩] else []
  else
  match rel with
  | 0x0 => [⟨"ROLE", 0, 1, .ro, false, false, .cfg, 0⟩, ⟨"REACH", 1, 1, .ro, false, false, .cfg, 0⟩, ⟨"FEC", 2, 1, .ro, false, false, .cfg, 1⟩, ⟨"PROFILE", 3, 1, .ro, false, false, .cfg, 0⟩, ⟨"AGENT_EN", 4, 2, .ro, false, false, .cfg, 3⟩, ⟨"PRIV_EN", 8, 1, .rw, true, false, .cfg, 0⟩, ⟨"FORCE_X4", 9, 1, .rw, false, false, .cfg, 0⟩]
  | 0x4 => [⟨"EN", 0, 1, .rw, false, false, .cfg, 1⟩, ⟨"RETRAIN", 1, 1, .rw, false, false, .fixed, 0⟩, ⟨"RESET", 2, 1, .rw, false, false, .fixed, 0⟩]
  | 0x8 => [⟨"STATE", 0, 4, .ro, false, false, .hw, 0⟩, ⟨"X4", 4, 1, .ro, false, false, .hw, 0⟩, ⟨"HALF", 5, 1, .ro, false, false, .hw, 0⟩, ⟨"REVERSED", 6, 1, .ro, false, false, .hw, 0⟩, ⟨"QUIESCED", 7, 1, .ro, false, false, .hw, 0⟩, ⟨"PARTNER_DEVNUM", 8, 4, .ro, false, false, .hw, 0⟩, ⟨"PARTNER_FABRIC", 12, 1, .ro, false, false, .hw, 0⟩, ⟨"LAST_FAIL", 16, 4, .ro, false, false, .hw, 0⟩, ⟨"POLARITY", 24, 8, .ro, false, false, .hw, 0⟩]
  | 0xc => [⟨"CRC_ERR", 0, 1, .w1c, false, false, .fixed, 0⟩, ⟨"REPLAY", 1, 1, .w1c, false, false, .fixed, 0⟩, ⟨"RECOVER_SEEN", 2, 1, .w1c, false, false, .fixed, 0⟩, ⟨"LINK_DOWN", 3, 1, .w1c, false, false, .fixed, 0⟩, ⟨"DEGRADED", 4, 1, .w1c, false, false, .fixed, 0⟩, ⟨"CREDIT_ERR", 5, 1, .w1c, false, false, .fixed, 0⟩, ⟨"TRAIN_FAIL", 6, 1, .w1c, false, false, .fixed, 0⟩, ⟨"PROTO_ERR", 7, 1, .w1c, false, false, .fixed, 0⟩]
  | 0x10 => [⟨"BAD", 0, 8, .mw, false, false, .fixed, 0⟩]
  | 0x14 => [⟨"THRESH", 0, 16, .rw, false, false, .cfg, 1000⟩, ⟨"REPLAY_LIMIT", 16, 4, .rw, false, false, .cfg, 8⟩]
  | _ => []

/-- SLICE block (R244, R429). -/
def sliceFields (rel : Nat) : List Field :=
  if 0x40 ≤ rel ∧ rel < 0x60 then
    let i := (rel - 0x40) / 0x4
    if (rel - 0x40) % 4 = 0 then [⟨"WAYMASK", 0, 16, .rw, true, false, .cfg, 65535⟩, ⟨"INS_AGE", 16, 2, .rw, true, false, .cfg, (if i = 5 ∨ i = 7 then 3 else 2)⟩] else []
  else
  if 0x1000 ≤ rel ∧ rel < 0x1200 then
    match (rel - 0x1000) % 0x8 with
    | 0x0 => [⟨"BASE", 0, 22, .rw, true, false, .cfg, 0⟩]
    | 0x4 => [⟨"LIMIT", 0, 22, .rw, true, false, .cfg, 0⟩, ⟨"POLICY", 24, 2, .rw, true, false, .cfg, 0⟩, ⟨"EN", 31, 1, .rw, true, false, .cfg, 0⟩]
    | _ => []
  else
  match rel with
  | 0x0 => [⟨"HEARTH_EN", 0, 1, .rw, true, false, .cfg, 1⟩, ⟨"KINDLE_EN", 1, 1, .rw, true, false, .cfg, 1⟩, ⟨"STREAM_EN", 2, 1, .rw, true, false, .cfg, 1⟩, ⟨"HINT_EN", 3, 1, .rw, true, false, .cfg, 1⟩, ⟨"DEFAULT_POLICY", 4, 2, .rw, true, false, .cfg, 0⟩, ⟨"DEPTH", 8, 4, .rw, true, false, .cfg, 8⟩]
  | 0x4 => [⟨"DISABLING", 0, 1, .ro, false, false, .hw, 0⟩, ⟨"DISABLED", 1, 1, .ro, false, false, .hw, 0⟩, ⟨"SWEEP_BUSY", 2, 1, .ro, false, false, .hw, 0⟩, ⟨"QUENCH_BUSY", 3, 1, .ro, false, false, .hw, 0⟩, ⟨"MISS_INUSE", 16, 10, .ro, false, false, .hw, 0⟩]
  | 0x10 => [⟨"ADDR", 6, 26, .rw, true, false, .fixed, 0⟩]
  | 0x14 => [⟨"ADDR", 0, 20, .rw, true, false, .fixed, 0⟩]
  | 0x18 => [⟨"OP", 0, 2, .rw, true, false, .fixed, 0⟩, ⟨"GO", 4, 1, .rw, true, false, .fixed, 0⟩]
  | 0x1c => [⟨"DONE", 0, 1, .w1c, true, false, .fixed, 0⟩, ⟨"ADDR_ERR", 1, 1, .w1c, true, false, .fixed, 0⟩]
  | 0x80 => [⟨"RETRY_USED", 0, 7, .ro, false, false, .hw, 0⟩, ⟨"EVBUF_USED", 8, 6, .ro, false, false, .hw, 0⟩]
  | 0x84 => [⟨"TAINTED", 0, 17, .ro, true, false, .hw, 0⟩]
  | 0x88 => [⟨"DATA_CE", 0, 1, .w1c, true, false, .fixed, 0⟩, ⟨"DATA_UE", 1, 1, .w1c, true, false, .fixed, 0⟩, ⟨"TAG_UE", 2, 1, .w1c, true, false, .fixed, 0⟩, ⟨"WAY_RETIRED", 3, 1, .w1c, true, false, .fixed, 0⟩]
  | 0x8c => [⟨"WAY", 0, 4, .ro, true, false, .fixed, 0⟩, ⟨"SET", 4, 16, .ro, true, false, .fixed, 0⟩, ⟨"DIRTY", 20, 1, .ro, true, false, .fixed, 0⟩, ⟨"REFETCH", 21, 1, .ro, true, false, .fixed, 0⟩, ⟨"KIND", 22, 2, .ro, true, false, .fixed, 0⟩]
  | 0x90 => [⟨"EN", 0, 1, .rw, true, false, .cfg, 1⟩, ⟨"THR", 8, 8, .rw, true, false, .cfg, 16⟩]
  | _ => []

/-- DIRECTORY block (R164, R201). -/
def directoryFields (rel : Nat) : List Field :=
  if 0x100 ≤ rel ∧ rel < 0x140 then
    let i := (rel - 0x100) / 0x4
    if (rel - 0x100) % 4 = 0 then [⟨"AGENTS", 0, 32, .rw, true, false, .cfg, (if i = 0 then 0xFFFFFFFF else 0)⟩] else []
  else
  if 0x180 ≤ rel ∧ rel < 0x1c0 then
    if (rel - 0x180) % 4 = 0 then [⟨"AGENTS", 0, 32, .ro, true, false, .fixed, 0⟩] else []
  else
  if 0x200 ≤ rel ∧ rel < 0x240 then
    if (rel - 0x200) % 4 = 0 then [⟨"AGENTS", 0, 32, .rw, true, false, .cfg, 4294967295⟩] else []
  else
  if 0x300 ≤ rel ∧ rel < 0x340 then
    if (rel - 0x300) % 4 = 0 then [⟨"AGENTS", 0, 32, .ro, true, false, .hw, 0⟩] else []
  else
  if 0x1000 ≤ rel ∧ rel < 0x1100 then
    match (rel - 0x1000) % 0x10 with
    | 0x0 => [⟨"VALID", 0, 1, .rw, true, true, .cfg, 0⟩, ⟨"PORT", 4, 4, .rw, true, true, .cfg, 0⟩]
    | 0x4 => [⟨"BASE", 0, 14, .rw, true, true, .cfg, 0⟩, ⟨"SIZE", 16, 5, .rw, true, true, .cfg, 0⟩]
    | 0x8 => [⟨"BASE", 0, 26, .rw, true, true, .cfg, 0⟩, ⟨"CW_EN", 31, 1, .rw, true, true, .cfg, 0⟩]
    | _ => []
  else
  match rel with
  | 0x0 => [⟨"LEAD_DIS", 0, 1, .rw, true, false, .cfg, 0⟩, ⟨"XPAR", 1, 1, .rw, true, false, .cfg, 1⟩]
  | 0x4 => [⟨"PURGE_BUSY", 0, 1, .ro, true, false, .hw, 0⟩, ⟨"TAINTED", 1, 1, .ro, true, false, .hw, 0⟩]
  | 0x8 => [⟨"SNP_TIMEOUT", 0, 1, .w1c, true, false, .fixed, 0⟩, ⟨"PURGE_POISON", 1, 1, .w1c, true, false, .fixed, 0⟩, ⟨"STRAY_DATA", 2, 1, .w1c, true, false, .fixed, 0⟩, ⟨"ENTRY_UE", 3, 1, .w1c, true, false, .fixed, 0⟩]
  | 0x1100 => [⟨"SNP_TIMEOUT", 0, 16, .rw, true, false, .cfg, 10000⟩]
  | _ => []

/-- HBM stack controller block (R270, R290). -/
def hbmFields (rel : Nat) : List Field :=
  if 0x200 ≤ rel ∧ rel < 0x280 then
    if (rel - 0x200) % 4 = 0 then [⟨"RD_USED", 0, 7, .ro, false, false, .hw, 0⟩, ⟨"WR_USED", 8, 7, .ro, false, false, .hw, 0⟩, ⟨"FLUE_USED", 16, 6, .ro, false, false, .hw, 0⟩, ⟨"WRITE_MODE", 24, 1, .ro, false, false, .hw, 0⟩, ⟨"STALLED", 25, 1, .ro, false, false, .hw, 0⟩] else []
  else
  if 0x300 ≤ rel ∧ rel < 0x340 then
    if (rel - 0x300) % 4 = 0 then [⟨"ROW", 0, 15, .ro, true, false, .fixed, 0⟩, ⟨"BANK", 15, 4, .ro, true, false, .fixed, 0⟩, ⟨"SID", 19, 2, .ro, true, false, .fixed, 0⟩, ⟨"PC", 21, 5, .ro, true, false, .fixed, 0⟩, ⟨"HARD", 26, 1, .ro, true, false, .fixed, 0⟩, ⟨"LOG_FULL", 30, 1, .ro, true, false, .fixed, 0⟩, ⟨"VALID", 31, 1, .ro, true, false, .fixed, 0⟩] else []
  else
  match rel with
  | 0x0 => [⟨"RELOAD", 0, 1, .rw, true, false, .fixed, 0⟩, ⟨"REF_MODE", 1, 1, .rw, true, false, .cfg, 0⟩, ⟨"PPR_EN", 2, 1, .rw, true, false, .cfg, 1⟩, ⟨"CORR_WB", 3, 1, .rw, true, false, .cfg, 1⟩, ⟨"RFM_EN", 4, 1, .rw, true, false, .cfg, 1⟩]
  | 0x4 => [⟨"TRAINED", 0, 1, .ro, false, false, .hw, 0⟩, ⟨"WIPE_BUSY", 1, 1, .ro, false, false, .hw, 0⟩, ⟨"REF_2X", 2, 1, .ro, false, false, .hw, 0⟩, ⟨"RETRAIN_ACTIVE", 3, 1, .ro, false, false, .hw, 0⟩, ⟨"RETRAIN_PC", 4, 5, .ro, false, false, .hw, 0⟩, ⟨"PPR_BUSY", 9, 1, .ro, false, false, .hw, 0⟩, ⟨"TEMP", 16, 8, .ro, false, false, .hw, 0⟩]
  | 0x8 => [⟨"LIMIT", 0, 8, .rw, true, false, .cfg, 95⟩]
  | 0x10 => [⟨"WR_HIGH", 0, 7, .rw, true, false, .cfg, 64⟩, ⟨"WR_LOW", 8, 7, .rw, true, false, .cfg, 32⟩, ⟨"ROW_HIT_CAP", 16, 5, .rw, true, false, .cfg, 16⟩, ⟨"ROW_IDLE", 24, 8, .rw, true, false, .cfg, 50⟩]
  | 0x14 => [⟨"AGE_CAP", 0, 16, .rw, true, false, .cfg, 2000⟩, ⟨"CLASS_CAP", 16, 16, .rw, true, false, .cfg, 4000⟩]
  | 0x18 => [⟨"PERIODIC_EN", 0, 1, .rw, true, false, .cfg, 1⟩, ⟨"DELTA_T", 8, 4, .rw, true, false, .cfg, 5⟩, ⟨"EYE_MIN", 16, 6, .rw, true, false, .cfg, 24⟩]
  | 0x1c => [⟨"PERIOD", 0, 32, .rw, true, false, .cfg, 100000000⟩]
  | 0x20 => [⟨"SCRUB_EN", 0, 1, .rw, true, false, .cfg, 1⟩, ⟨"ROW_CE_THR", 4, 4, .rw, true, false, .cfg, 4⟩, ⟨"INTERVAL", 8, 24, .rw, true, false, .cfg, 3400000⟩]
  | 0x24 => [⟨"PASSES", 0, 16, .ro, false, false, .fixed, 0⟩]
  | 0x30 => [⟨"CE", 0, 1, .w1c, true, false, .fixed, 0⟩, ⟨"UE", 1, 1, .w1c, true, false, .fixed, 0⟩, ⟨"POISON_RD", 2, 1, .w1c, true, false, .fixed, 0⟩, ⟨"PPR_DONE", 3, 1, .w1c, true, false, .fixed, 0⟩, ⟨"PPR_NOSPARE", 4, 1, .w1c, true, false, .fixed, 0⟩, ⟨"TRAIN_RETRY", 5, 1, .w1c, true, false, .fixed, 0⟩, ⟨"TRAIN_FAIL", 6, 1, .w1c, true, false, .fixed, 0⟩, ⟨"TEMP_HIGH", 7, 1, .w1c, true, false, .fixed, 0⟩]
  | 0x34 => [⟨"ADDR", 6, 26, .ro, true, false, .fixed, 0⟩]
  | 0x38 => [⟨"ADDR", 0, 20, .ro, true, false, .fixed, 0⟩]
  | 0x3c => [⟨"SYM0", 0, 7, .ro, true, false, .fixed, 0x7F⟩, ⟨"SYM1", 8, 7, .ro, true, false, .fixed, 0x7F⟩, ⟨"KIND", 16, 2, .ro, true, false, .fixed, 0⟩, ⟨"SOURCE", 18, 3, .ro, true, false, .fixed, 0⟩, ⟨"PC", 24, 5, .ro, true, false, .fixed, 0⟩]
  | 0x100 => [⟨"RL", 0, 10, .rw, true, false, .cfg, 320⟩, ⟨"WL", 10, 10, .rw, true, false, .cfg, 106⟩, ⟨"tRRDR", 20, 10, .rw, true, false, .cfg, 13⟩]
  | 0x104 => [⟨"tCCDS", 0, 8, .rw, true, false, .cfg, 13⟩, ⟨"tCCDL", 8, 8, .rw, true, false, .cfg, 26⟩, ⟨"tCCDR", 16, 8, .rw, true, false, .cfg, 20⟩, ⟨"tPPD", 24, 8, .rw, true, false, .cfg, 26⟩]
  | 0x108 => [⟨"tRCDRD", 0, 8, .rw, true, false, .cfg, 226⟩, ⟨"tRCDWR", 8, 8, .rw, true, false, .cfg, 160⟩, ⟨"tRPpb", 16, 8, .rw, true, false, .cfg, 226⟩, ⟨"tRPab", 24, 8, .rw, true, false, .cfg, 253⟩]
  | 0x10c => [⟨"tRAS", 0, 10, .rw, true, false, .cfg, 533⟩, ⟨"tRC", 10, 10, .rw, true, false, .cfg, 760⟩, ⟨"tFAW", 20, 8, .rw, true, false, .cfg, 193⟩]
  | 0x110 => [⟨"tRRDS", 0, 8, .rw, true, false, .cfg, 33⟩, ⟨"tRRDL", 8, 8, .rw, true, false, .cfg, 53⟩, ⟨"tRTPS", 16, 8, .rw, true, false, .cfg, 40⟩, ⟨"tRTPL", 24, 8, .rw, true, false, .cfg, 60⟩]
  | 0x114 => [⟨"tWR", 0, 10, .rw, true, false, .cfg, 260⟩, ⟨"tWTRS", 10, 8, .rw, true, false, .cfg, 66⟩, ⟨"tWTRL", 18, 8, .rw, true, false, .cfg, 146⟩]
  | 0x118 => [⟨"tRTW", 0, 8, .rw, true, false, .cfg, 240⟩, ⟨"tRREFD", 8, 8, .rw, true, false, .cfg, 66⟩, ⟨"tMRD", 16, 8, .rw, true, false, .cfg, 80⟩, ⟨"tMOD", 24, 8, .rw, true, false, .cfg, 106⟩]
  | 0x11c => [⟨"tRFCab", 0, 14, .rw, true, false, .cfg, 6560⟩, ⟨"tRFCpb", 16, 14, .rw, true, false, .cfg, 3200⟩]
  | 0x120 => [⟨"tRFMab", 0, 14, .rw, true, false, .cfg, 6560⟩, ⟨"tRFMpb", 16, 14, .rw, true, false, .cfg, 3200⟩]
  | 0x124 => [⟨"tREFI", 0, 16, .rw, true, false, .cfg, 62400⟩, ⟨"tXS", 16, 14, .rw, true, false, .cfg, 6720⟩]
  | 0x128 => [⟨"tXP", 0, 8, .rw, true, false, .cfg, 133⟩, ⟨"tCKE", 8, 8, .rw, true, false, .cfg, 53⟩, ⟨"tCKESR", 16, 8, .rw, true, false, .cfg, 66⟩, ⟨"tCKSRE", 24, 8, .rw, true, false, .cfg, 66⟩]
  | 0x12c => [⟨"tRDPDE", 0, 10, .rw, true, false, .cfg, 346⟩, ⟨"tWRPDE", 10, 10, .rw, true, false, .cfg, 266⟩]
  | 0x130 => [⟨"RAAIMT", 0, 8, .rw, true, false, .cfg, 32⟩, ⟨"RAAMMT", 8, 8, .rw, true, false, .cfg, 96⟩, ⟨"RAA_DEC", 16, 8, .rw, true, false, .cfg, 32⟩]
  | _ => []

/-- SCRIBE cluster block (R328). -/
def scribeFields (rel : Nat) : List Field :=
  if 0x40 ≤ rel ∧ rel < 0x80 then
    match (rel - 0x40) % 0x10 with
    | 0x0 => [⟨"BASE_LO", 12, 20, .rw, true, false, .cfg, 0⟩]
    | 0x4 => [⟨"BASE_HI", 0, 20, .rw, true, false, .cfg, 0⟩]
    | 0x8 => [⟨"LIM_LO", 12, 20, .rw, true, false, .cfg, 0⟩]
    | 0xc => [⟨"LIM_HI", 0, 20, .rw, true, false, .cfg, 0⟩, ⟨"R", 24, 1, .rw, true, false, .cfg, 0⟩, ⟨"W", 25, 1, .rw, true, false, .cfg, 0⟩, ⟨"X", 26, 1, .rw, true, false, .cfg, 0⟩, ⟨"NIB", 27, 1, .rw, true, false, .cfg, 0⟩, ⟨"EN", 31, 1, .rw, true, false, .cfg, 0⟩]
    | _ => []
  else
  if 0x100 ≤ rel ∧ rel < 0x180 then
    match (rel - 0x100) % 0x10 with
    | 0x0 => [⟨"STATE", 0, 2, .ro, true, false, .hw, 0⟩, ⟨"PL", 2, 1, .ro, true, false, .hw, 0⟩, ⟨"LAST_CAUSE", 8, 8, .ro, true, false, .fixed, 0⟩]
    | 0x4 => [⟨"PC", 0, 32, .ro, true, false, .hw, 0⟩]
    | 0x8 => [⟨"INKWELL", 0, 10, .ro, true, false, .hw, 0⟩, ⟨"INDEX", 16, 16, .ro, true, false, .hw, 0⟩]
    | _ => []
  else
  match rel with
  | 0x0 => [⟨"EN", 0, 1, .rw, false, false, .cfg, 1⟩, ⟨"RESET", 1, 1, .rw, false, false, .fixed, 0⟩, ⟨"PRIV_EN", 2, 1, .rw, true, false, .cfg, 0⟩]
  | 0x4 => [⟨"QUIESCED", 0, 1, .ro, false, false, .hw, 0⟩, ⟨"RESET_BUSY", 1, 1, .ro, false, false, .hw, 0⟩, ⟨"BUSY", 8, 8, .ro, false, false, .hw, 0⟩, ⟨"WAITING", 16, 8, .ro, false, false, .hw, 0⟩, ⟨"TASKQ_USED", 24, 6, .ro, false, false, .hw, 0⟩]
  | 0x8 => [⟨"PEND", 0, 8, .mw, false, false, .fixed, 0⟩]
  | 0xc => [⟨"ABORT", 0, 8, .mw, true, false, .fixed, 0⟩]
  | 0x10 => [⟨"GATHER_HOLD", 0, 16, .rw, true, false, .cfg, 64⟩]
  | 0x14 => [⟨"GRACE", 0, 32, .rw, true, false, .cfg, 100000⟩]
  | 0x20 => [⟨"ADDR", 2, 30, .rw, true, false, .cfg, 0⟩]
  | 0x24 => [⟨"ADDR", 0, 20, .rw, true, false, .cfg, 0⟩]
  | 0x28 => [⟨"EN", 0, 1, .rw, true, false, .cfg, 0⟩, ⟨"TASK", 1, 1, .rw, true, false, .cfg, 0⟩, ⟨"BASE", 20, 12, .rw, true, false, .cfg, 0⟩]
  | 0x2c => [⟨"BASE", 0, 20, .rw, true, false, .cfg, 0⟩]
  | 0x30 => [⟨"EN", 0, 1, .rw, true, false, .cfg, 0⟩, ⟨"BASE", 12, 7, .rw, true, false, .cfg, 0⟩]
  | 0x80 => [⟨"TASK_FAULT", 0, 1, .w1c, true, false, .fixed, 0⟩, ⟨"DOUBLE_FAULT", 1, 1, .w1c, true, false, .fixed, 0⟩, ⟨"STORE_ERR", 2, 1, .w1c, true, false, .fixed, 0⟩, ⟨"FORCED_END", 3, 1, .w1c, true, false, .fixed, 0⟩, ⟨"SLATE_CE", 4, 1, .w1c, true, false, .fixed, 0⟩, ⟨"SLATE_UE", 5, 1, .w1c, true, false, .fixed, 0⟩]
  | _ => []

/-- INKWELL block (R390). -/
def inkFields (rel : Nat) : List Field :=
  if 0x10000 ≤ rel ∧ rel < 0x20000 then
    match (rel - 0x10000) % 0x40 with
    | 0x0 => [⟨"EN", 0, 1, .rw, false, false, .cfg, 0⟩, ⟨"PRIV_EN", 1, 1, .rw, true, false, .cfg, 0⟩, ⟨"RESET_PTRS", 2, 1, .rw, false, false, .fixed, 0⟩, ⟨"PRIO", 4, 2, .rw, false, false, .cfg, 0⟩, ⟨"INFLIGHT", 8, 3, .rw, false, false, .cfg, 3⟩]
    | 0x4 => [⟨"QUIESCED", 0, 1, .ro, false, false, .hw, 0⟩, ⟨"HALTED", 1, 1, .ro, false, false, .hw, 0⟩, ⟨"WAITING", 2, 1, .ro, false, false, .hw, 0⟩, ⟨"STARTED", 3, 4, .ro, false, false, .hw, 0⟩]
    | 0x8 => [⟨"BASE", 6, 26, .rw, false, false, .cfg, 0⟩]
    | 0xc => [⟨"BASE", 0, 20, .rw, false, false, .cfg, 0⟩, ⟨"LOG2SIZE", 24, 5, .rw, false, false, .cfg, 4⟩]
    | 0x10 => [⟨"BASE", 6, 26, .rw, false, false, .cfg, 0⟩]
    | 0x14 => [⟨"BASE", 0, 20, .rw, false, false, .cfg, 0⟩]
    | 0x18 => [⟨"PTR", 0, 17, .ro, false, false, .fixed, 0⟩]
    | 0x1c => [⟨"PTR", 0, 17, .ro, false, false, .fixed, 0⟩]
    | 0x20 => [⟨"PTR", 0, 17, .ro, false, false, .fixed, 0⟩]
    | 0x24 => [⟨"PTR", 0, 17, .ro, false, false, .fixed, 0⟩]
    | 0x28 => [⟨"EVT_EN", 0, 1, .rw, false, false, .cfg, 0⟩, ⟨"ERR_NOW", 1, 1, .rw, false, false, .cfg, 1⟩, ⟨"COUNT", 8, 8, .rw, false, false, .cfg, 1⟩, ⟨"TIME", 16, 16, .rw, false, false, .cfg, 0⟩]
    | 0x2c => [⟨"DB_ERR", 0, 1, .w1c, false, false, .fixed, 0⟩, ⟨"CFG_BUSY", 1, 1, .w1c, false, false, .fixed, 0⟩, ⟨"CFG_BAD", 2, 1, .w1c, false, false, .fixed, 0⟩, ⟨"FETCH_ERR", 3, 1, .w1c, false, false, .fixed, 0⟩, ⟨"CQ_ERR", 4, 1, .w1c, false, false, .fixed, 0⟩, ⟨"FENCE_STOP", 5, 1, .w1c, false, false, .fixed, 0⟩]
    | 0x30 => [⟨"INDEX", 0, 16, .ro, false, false, .fixed, 0⟩, ⟨"REASON", 16, 8, .ro, false, false, .fixed, 0⟩]
    | _ => []
  else
  match rel with
  | 0x0 => [⟨"ENG_BUSY", 0, 8, .ro, false, false, .hw, 0⟩, ⟨"ACTIVE", 16, 11, .ro, false, false, .hw, 0⟩]
  | 0x4 => [⟨"PERIOD", 0, 16, .rw, true, false, .cfg, 1000⟩]
  | _ => []

/-- TELEMETRY block (R392, R418). -/
def telFields (rel : Nat) : List Field :=
  if 0x0 ≤ rel ∧ rel < 0x3600 then
    match (rel - 0x0) % 0x8 with
    | 0x0 => [⟨"COUNT_LO", 0, 32, .rw, true, false, .fixed, 0⟩]
    | 0x4 => [⟨"COUNT_HI", 0, 16, .rw, true, false, .fixed, 0⟩]
    | _ => []
  else
  if 0x4000 ≤ rel ∧ rel < 0x40d8 then
    if (rel - 0x4000) % 4 = 0 then [⟨"OVF", 0, 32, .w1c, true, false, .fixed, 0⟩] else []
  else
  if 0x5000 ≤ rel ∧ rel < 0x5d80 then
    if (rel - 0x5000) % 4 = 0 then [⟨"N", 0, 16, .rw, true, false, .fixed, 0xFFFF⟩, ⟨"EVT_EN", 31, 1, .rw, true, false, .fixed, 0⟩] else []
  else
  match rel with
  | 0x4100 => [⟨"EN", 0, 32, .rw, true, false, .fixed, 0⟩]
  | 0x4104 => [⟨"EN", 0, 32, .rw, true, false, .fixed, 0⟩]
  | 0x8000 => [⟨"CLEAR_ALL", 0, 1, .rw, true, false, .fixed, 0⟩]
  | 0x8100 => [⟨"EN", 0, 1, .rw, true, false, .cfg, 0⟩, ⟨"NOW", 1, 1, .rw, true, false, .fixed, 0⟩]
  | 0x8104 => [⟨"PERIOD", 0, 20, .rw, true, false, .cfg, 1000⟩]
  | 0x8108 => [⟨"BASE", 14, 18, .rw, true, false, .cfg, 0⟩]
  | 0x810c => [⟨"BASE", 0, 20, .rw, true, false, .cfg, 0⟩, ⟨"LOG2", 24, 4, .rw, true, false, .cfg, 4⟩]
  | 0x8110 => [⟨"PUT", 0, 13, .ro, true, false, .fixed, 0⟩]
  | 0x8114 => [⟨"GET", 0, 13, .rw, true, false, .fixed, 0⟩]
  | 0x8118 => [⟨"BUSY", 0, 1, .ro, true, false, .hw, 0⟩, ⟨"SKIP", 1, 1, .w1c, true, false, .fixed, 0⟩, ⟨"ERR", 2, 1, .w1c, true, false, .fixed, 0⟩, ⟨"REASON", 8, 8, .ro, true, false, .fixed, 0⟩]
  | 0x811c => [⟨"RECNO", 0, 32, .ro, true, false, .fixed, 0⟩]
  | 0x8200 => [⟨"EN", 0, 1, .rw, true, false, .cfg, 0⟩, ⟨"DITHER", 4, 4, .rw, true, false, .cfg, 4⟩, ⟨"BLT_INK", 8, 1, .rw, true, false, .cfg, 1⟩]
  | 0x8204 => [⟨"K", 0, 17, .rw, true, false, .cfg, 4096⟩]
  | 0x8208 => [⟨"BLT_PORTS", 0, 16, .rw, true, false, .cfg, 65535⟩, ⟨"BLT_CLUS", 16, 16, .rw, true, false, .cfg, 65535⟩]
  | 0x820c => [⟨"SEED", 0, 16, .rw, true, false, .cfg, 44257⟩]
  | 0x8210 => [⟨"BASE", 6, 26, .rw, true, false, .cfg, 0⟩]
  | 0x8214 => [⟨"BASE", 0, 20, .rw, true, false, .cfg, 0⟩, ⟨"LOG2", 24, 5, .rw, true, false, .cfg, 12⟩]
  | 0x8218 => [⟨"PUT", 0, 21, .ro, true, false, .fixed, 0⟩]
  | 0x821c => [⟨"GET", 0, 21, .rw, true, false, .fixed, 0⟩]
  | 0x8220 => [⟨"DROP", 0, 1, .w1c, true, false, .fixed, 0⟩, ⟨"ERR", 1, 1, .w1c, true, false, .fixed, 0⟩, ⟨"REASON", 8, 8, .ro, true, false, .fixed, 0⟩, ⟨"HELD", 16, 13, .ro, true, false, .hw, 0⟩]
  | _ => []

/-- CX image (R505). -/
def cxFields (rel : Nat) : List Field :=
  if 0x100 ≤ rel ∧ rel < 0x180 then
    match (rel - 0x100) % 0x8 with
    | 0x0 => [⟨"BASE", 0, 20, .rw, false, false, .cfg, 0⟩]
    | 0x4 => [⟨"LIMIT", 0, 20, .rw, false, false, .cfg, 0⟩, ⟨"POLICY", 24, 1, .rw, false, false, .cfg, 0⟩, ⟨"EN", 31, 1, .rw, false, false, .cfg, 0⟩]
    | _ => []
  else
  match rel with
  | 0x0 => [⟨"ID", 0, 32, .ro, false, false, .fixed, 0x0C400001⟩]
  | 0x4 => [⟨"LINE_LOG2", 0, 8, .ro, false, false, .fixed, 6⟩, ⟨"WAYS", 8, 8, .ro, false, false, .fixed, 8⟩, ⟨"SIZE_MIB", 16, 16, .ro, false, false, .fixed, 128⟩]
  | 0x8 => [⟨"BASE", 0, 16, .ro, false, false, .cfg, 0⟩, ⟨"SIZE_GIB", 16, 8, .ro, false, false, .fixed, 64⟩]
  | 0xc => [⟨"READY", 0, 1, .ro, false, false, .hw, 0⟩, ⟨"PORTS_UP", 8, 8, .ro, false, false, .hw, 0⟩, ⟨"ENGINE_BUSY", 16, 1, .ro, false, false, .hw, 0⟩, ⟨"ENGINE_OPC", 24, 8, .ro, false, false, .hw, 0⟩]
  | 0x20 => [⟨"DATA", 0, 32, .wo, false, false, .fixed, 0⟩]
  | 0x24 => [⟨"COUNT", 0, 7, .ro, false, false, .fixed, 0⟩, ⟨"EMPTY", 16, 1, .ro, false, false, .fixed, 1⟩, ⟨"FULL", 17, 1, .ro, false, false, .fixed, 0⟩]
  | 0x28 => [⟨"OVERRUN", 0, 1, .w1c, false, false, .fixed, 0⟩, ⟨"UNDERRUN", 1, 1, .w1c, false, false, .fixed, 0⟩]
  | 0x2c => [⟨"CLEAR", 0, 1, .rw, false, false, .fixed, 0⟩]
  | 0x30 => [⟨"DATA", 0, 32, .ro, false, false, .fixed, 0⟩]
  | 0x34 => [⟨"COUNT", 0, 7, .ro, false, false, .fixed, 0⟩, ⟨"EMPTY", 16, 1, .ro, false, false, .fixed, 1⟩, ⟨"FULL", 17, 1, .ro, false, false, .fixed, 0⟩]
  | 0x38 => [⟨"OVERRUN", 0, 1, .w1c, false, false, .fixed, 0⟩, ⟨"UNDERRUN", 1, 1, .w1c, false, false, .fixed, 0⟩]
  | 0x3c => [⟨"CLEAR", 0, 1, .rw, false, false, .fixed, 0⟩]
  | _ => []

/-- BLK_STATUS of every block (R67). -/
def blkStatusFields : List Field :=
  [⟨"LOCK_VIOL", 0, 1, .w1c, true, false, .fixed, 0⟩, ⟨"VOTE_FIX", 1, 1, .w1c, true, false, .fixed, 0⟩,
   ⟨"ACCESS_ERR", 2, 1, .w1c, true, false, .fixed, 0⟩, ⟨"GUARD_DENY", 3, 1, .w1c, true, false, .fixed, 0⟩]

/-- BLK_LAST_VIOL of every block (R67). -/
def blkViolFields : List Field :=
  [⟨"OFFSET", 0, 16, .ro, true, false, .fixed, 0⟩, ⟨"MASTER", 16, 10, .ro, true, false, .fixed, 0⟩,
   ⟨"SECURE", 26, 1, .ro, true, false, .fixed, 0⟩, ⟨"DOORBELL", 27, 1, .ro, true, false, .fixed, 0⟩,
   ⟨"CAUSE", 28, 2, .ro, true, false, .fixed, 0⟩]

/-- The blocks of the control window (R41). -/
inductive Block
  | ident | boot | power | event | indirect
  | port (p : Nat) | slice (s : Nat) | directory | hbm (k : Nat) | scribe (c : Nat)
  | inkwell | telemetry | cxImage | doorbell (n : Nat) | gap
  deriving DecidableEq, Repr

/-- The block at a native control-window offset (R41). -/
def blockAt (off : Nat) : Block :=
  if off < 0x10000 then .ident else if off < 0x20000 then .boot else if off < 0x30000 then .power
  else if off < 0x40000 then .event else if off < 0x50000 then .indirect else if off < 0x100000 then .gap
  else if off < 0x200000 then .port ((off - 0x100000) / 0x10000)
  else if off < 0x300000 then .slice ((off - 0x200000) / 0x10000)
  else if off < 0x310000 then .directory else if off < 0x400000 then .gap
  else if off < 0x440000 then .hbm ((off - 0x400000) / 0x10000) else if off < 0x500000 then .gap
  else if off < 0x600000 then .scribe ((off - 0x500000) / 0x10000)
  else if off < 0x700000 then .inkwell else if off < 0x710000 then .telemetry
  else if off < 0x800000 then .gap else if off < 0x810000 then .cxImage
  else if off < 0x1000000 then .gap
  else if off < 0x1400000 then .doorbell ((off - 0x1000000) / 0x1000) else .gap

/-- The base offset of a block (R41). -/
def Block.base : Block → Nat
  | .ident => 0 | .boot => 0x10000 | .power => 0x20000 | .event => 0x30000 | .indirect => 0x40000
  | .port p => 0x100000 + p * 0x10000 | .slice s => 0x200000 + s * 0x10000 | .directory => 0x300000
  | .hbm k => 0x400000 + k * 0x10000 | .scribe c => 0x500000 + c * 0x10000 | .inkwell => 0x600000
  | .telemetry => 0x700000 | .cxImage => 0x800000 | .doorbell n => 0x1000000 + n * 0x1000 | .gap => 0

/-- The power domain that serves a block (R41). -/
def Block.domain : Block → Nat
  | .ident | .power | .event | .indirect | .gap => 0
  | .boot | .cxImage => 1
  | .port p => 4 + p | .slice s => 20 + s | .directory => 2 | .hbm k => 36 + 2 * k
  | .scribe c => 44 + c | .inkwell | .doorbell _ => 60 | .telemetry => 61

/-- The block whose BLK_STATUS logs an access to `b`: doorbell pages log in INKWELL (R67, R361), the
CX image in BOOT (R505). -/
def Block.logger : Block → Block
  | .doorbell _ => .inkwell
  | .cxImage => .boot
  | b => b

/-- The offset of a block's BLK_STATUS (R67). -/
def Block.statusOff (b : Block) : Nat := b.logger.base + 0xFFF8
/-- The offset of a block's BLK_LAST_VIOL (R67). -/
def Block.violOff (b : Block) : Nat := b.logger.base + 0xFFFC

/-- The fields of the register at a block-relative offset. -/
def blockFields (b : Block) (rel : Nat) : List Field :=
  match b with
  | .gap | .doorbell _ => []
  | .cxImage => cxFields rel
  | b =>
    if rel = 0xFFF8 then blkStatusFields else if rel = 0xFFFC then blkViolFields
    else match b with
    | .ident => identFields rel | .boot => bootFields rel | .power => powerFields rel
    | .event => eventFields rel | .indirect => indirectFields rel | .port _ => portFields rel
    | .slice _ => sliceFields rel | .directory => directoryFields rel | .hbm _ => hbmFields rel
    | .scribe _ => scribeFields rel | .inkwell => inkFields rel | .telemetry => telFields rel
    | _ => []

/-- The fields of the register at a native control-window offset; none where no register is listed (R24). -/
def regFields (off : Nat) : List Field := blockFields (blockAt off) (off - (blockAt off).base)

/-- The sum of the masks of the fields that `p` selects. -/
def maskOf (fs : List Field) (p : Field → Bool) : Nat :=
  fs.foldl (fun m f => if p f then m ||| f.mask else m) 0

/-- The value the Reset column (or default) gives the stored fields of a register (R25). -/
def resetOf (fs : List Field) : Nat :=
  fs.foldl (fun m f => if f.src = .hw || f.src = .fuse then m else m ||| (f.reset * 2 ^ f.lo)) 0

/-- The reset value of the register at an offset (R25); zero in hw and fuse fields, which are live. -/
def regReset (off : Nat) : Word := BitVec.ofNat 32 (resetOf (regFields off))

/-- Whether the register holds a triple-voted field (R69). -/
def regTV (off : Nat) : Bool := (regFields off).any (·.tv)

/-- The bits of the triple-voted fields of a register (R69, R72). -/
def tvMask (off : Nat) : Word := BitVec.ofNat 32 (maskOf (regFields off) (·.tv))

end Sys2Proof.Machine
end

