-- ==== Sys2Proof/Machine/Store.lean ====
section
/-! DEFINITION. The canonical store: sparse data by key, one list for one content. -/
namespace Sys2Proof.Machine

/-- Sparse data: (key, value) pairs. Canonical form (`swf`): keys strictly rise and no value equals
what an unlisted key reads as. -/
abbrev Store (α : Type) := List (Nat × α)

/-- The value at a key; an unlisted key reads as the default `d k`. -/
def sget {α : Type} (d : Nat → α) : Store α → Nat → α
  | [], k => d k
  | (j, v) :: t, k => if k = j then v else sget d t k

/-- Put an entry at its place among rising keys, over the entry of the same key. -/
def sput {α : Type} : Store α → Nat → α → Store α
  | [], k, v => [(k, v)]
  | (j, w) :: t, k, v =>
    if k < j then (k, v) :: (j, w) :: t else if k = j then (k, v) :: t else (j, w) :: sput t k v

/-- Write a key, keeping the canonical form: writing the default removes the entry. -/
def sset {α : Type} [DecidableEq α] (d : Nat → α) (m : Store α) (k : Nat) (v : α) : Store α :=
  if v = d k then m.filter (fun e => !(e.1 == k)) else sput m k v

/-- Every key of the store is above `lo`. -/
def sAbove {α : Type} (lo : Nat) (m : Store α) : Bool := m.all fun e => decide (lo < e.1)

/-- The canonical form: keys strictly rising, no entry equal to its default. -/
def swf {α : Type} [DecidableEq α] (d : Nat → α) : Store α → Bool
  | [] => true
  | (j, v) :: t => !(decide (v = d j)) && sAbove j t && swf d t

/-- Change the value at a key. -/
def smod {α : Type} [DecidableEq α] (d : Nat → α) (m : Store α) (k : Nat) (f : α → α) : Store α :=
  sset d m k (f (sget d m k))

end Sys2Proof.Machine
end

