-- ==== Sys2Proof/Machine/Units.lean ====
section
/-! DEFINITION. The units of the device as plain data, and what each holds after reset. -/
namespace Sys2Proof.Machine

/-! ## Registers -/

/-- The three copies of a triple-voted register (R69). -/
structure Triple where
  a : Word
  b : Word
  c : Word
  deriving DecidableEq, Repr

/-- The bitwise majority of the three copies (R69). -/
def Triple.maj (t : Triple) : Word := (t.a &&& t.b) ||| (t.a &&& t.c) ||| (t.b &&& t.c)

/-- A high shadow of a block (R73): block, master, offset of the high word, its value. Newest first. -/
structure Shadow where
  block : Block
  master : Nat
  hiOff : Nat
  value : Word
  deriving DecidableEq, Repr

/-- A low-word write held until its master's next access to the block (R75). -/
structure HeldLow where
  block : Block
  master : Nat
  off : Nat
  value : Word
  deriving DecidableEq, Repr

/-- Who holds the claim of INDIRECT window 1 (R83). -/
inductive Claim | none | agent (a : AgentId) | secure
  deriving DecidableEq, Repr

/-- Where the answer of a control-window access goes: nowhere but `cwData`; as a response to a request; to the management
port, as `n` bytes of which the controller clocks so many (R85). -/
inductive ReplyTo
  | bus
  | msg (dst : AgentId) (tag : Tag)
  | mgmt (n clocked : Nat)
  deriving DecidableEq, Repr

/-- A control-window access (R51). -/
structure Access where
  m : Master
  off : Nat
  bytes : Nat
  write : Bool
  data : DWord
  reply : ReplyTo
  deriving DecidableEq, Repr

/-- The register file and what the register interface keeps beside it. -/
structure RegState where
  /-- Registers by native control-window offset. -/
  file : Store Word
  /-- The copies of the triple-voted registers (R69). -/
  tv : Store Triple
  /-- W1L locks, triple-voted (R58, R72): 1 locked. -/
  locks : Store Triple
  /-- Post-boot values (R540) where they differ from the Reset column. -/
  postBoot : Store Word
  /-- W1L registers that a record wrote (R540): 1. -/
  postLocked : Store Word
  shadows : List Shadow
  held : List HeldLow
  claim : Claim
  /-- Accesses that wait for their domain to be Lit (R43, R81), with the domain. -/
  stalled : List (Nat × Access)
  /-- Far registers that hold a written value: WAYQ_CTL of the slices (R245), by slice. -/
  wayq : Store Word
  /-- KEEP bits written to far registers (R23, R57), by target x 2^24 + offset. -/
  farKeep : Store Word
  deriving DecidableEq, Repr

/-! ## Ports -/

/-- The states of a port (R119). -/
inductive PortSt
  | down | detect | equalize | lock | param | active | recover | linkIdle | quiesce | disabled
  deriving DecidableEq, Repr

/-- The state code that PORT_STATUS.STATE reports (R119). -/
def PortSt.code : PortSt → Nat
  | .down => 0 | .detect => 1 | .equalize => 2 | .lock => 3 | .param => 4 | .active => 5
  | .recover => 6 | .linkIdle => 7 | .quiesce => 8 | .disabled => 9

/-- A payload flit kept for replay (R111). -/
structure SentFlit where
  seq : BitVec 9
  crdVc : Nat
  crd : Nat
  area : List Word
  replays : Nat
  deriving DecidableEq, Repr

/-- One port (R119–R138). -/
structure Port where
  st : PortSt
  x4 : Bool
  half : Bool
  reversed : Bool
  quiesced : Bool
  partnerDevnum : Nat
  partnerFabric : Bool
  lastFail : Nat
  polarity : BitVec 8
  /-- Lanes locked and lanes with signal (LANE_STATUS, R138). -/
  locked : BitVec 8
  sigDet : BitVec 8
  lanes : List LaneEq
  /-- Lanes the partner declared bad. -/
  partnerBad : BitVec 8
  /-- This RECOVER re-equalises (R122). -/
  reeq : Bool
  /-- This RECOVER was commanded by RETRAIN and may widen the port (R126). -/
  retrain : Bool
  /-- This RECOVER was entered from LINK_IDLE with retained equalisation (R130). -/
  fromIdle : Bool
  /-- The next sequence number to send and the last accepted (R107, R112). -/
  txSeq : BitVec 9
  rxLast : BitVec 9
  nakDue : Bool
  discarding : Bool
  /-- Unacknowledged payload flits, oldest first (R111), and how many of them are to be sent again. -/
  replay : List SentFlit
  resend : Nat
  /-- Credits held for sending and the initial counts, per VC (R116). -/
  txCred : List Nat
  txInit : List Nat
  /-- Messages received and not yet passed on, oldest first; words freed and not yet returned, per VC. -/
  rxq : List Msg
  rxFreed : List Nat
  /-- Messages waiting to leave, oldest first. -/
  egress : List Msg
  idleReq : Bool
  /-- Flits since the last idle flit (R114). -/
  sinceIdle : Nat
  /-- The last flit sent: its bytes (the model's view of the wire). -/
  lastTx : List Byte
  /-- The stream that carries it on the lanes (R94, R100, R101, R103). -/
  wire : Wire
  /-- The message bits of received codewords that wait for the rest of their flit (R103). -/
  rx : RxStream
  /-- The port has been ACTIVE since the boot started it (R474). -/
  reached : Bool
  /-- AGENT_MSGs sent to a host and not yet acknowledged on the link (R153), with the flit's sequence number. -/
  ackMsgs : List (BitVec 9 × Msg)
  deriving DecidableEq, Repr

/-- A port with no link state, in the given state. -/
def Port.fresh (st : PortSt) : Port :=
  { st := st, x4 := false, half := false, reversed := false, quiesced := false, partnerDevnum := 0,
    partnerFabric := false, lastFail := 0, polarity := 0, locked := 0, sigDet := 0, lanes := [],
    partnerBad := 0, reeq := false, retrain := false, fromIdle := false, txSeq := 0, rxLast := 511, nakDue := false, discarding := false,
    replay := [], resend := 0, txCred := [0, 0, 0, 0, 0, 0], txInit := [0, 0, 0, 0, 0, 0],
    rxq := [], rxFreed := [0, 0, 0, 0, 0, 0], egress := [], idleReq := false, sinceIdle := 0,
    lastTx := [], wire := Wire.fresh, rx := RxStream.fresh, reached := false, ackMsgs := [] }

/-- A message that the spine holds for another agent, with the port it came from (R163, R393 slot 12). -/
structure HeldMsg where
  msg : Msg
  from_ : Option Nat
  /-- The spine has admitted it (R405). -/
  admitted : Bool
  deriving DecidableEq, Repr

/-- The messages inside the device that no port holds. -/
structure Spine where
  /-- Requests of the device's own agents not yet taken (R39). -/
  req : List Msg
  /-- Responses for the device's own agents not yet delivered. -/
  rsp : List Msg
  /-- Messages for other agents not yet routed. -/
  fwd : List HeldMsg
  deriving DecidableEq, Repr

/-! ## Events and telemetry -/

/-- An event waiting at its source (R410). -/
structure Event where
  source : Nat
  code : Nat
  info : Word
  deriving DecidableEq, Repr

/-- A FIFO of 64-bit entries (R383): entries oldest first, pointers modulo twice the size, the entry last popped
(R384, R385). -/
structure Fifo where
  items : List DWord
  rd : Nat
  wr : Nat
  last : DWord
  deriving DecidableEq, Repr

def Fifo.empty : Fifo := { items := [], rd := 0, wr := 0, last := 0 }

/-- The event sequencer (R410–R416). -/
structure EvtState where
  waiting : List Event
  seq : BitVec 48
  /-- The event-message queue (R415), oldest first. -/
  msgq : List Msg
  efifo : Fifo
  mbox : Store Fifo
  deriving DecidableEq, Repr

/-! ## Power -/

/-- The state of a power domain (R451). -/
inductive DomSt | lit | banked | ember | cold
  deriving DecidableEq, Repr

/-- One power domain (R449–R460). -/
structure Domain where
  st : DomSt
  /-- Gating, power restore or reinitialisation in progress, and the state it moves to. -/
  moving : Option DomSt
  /-- The state left, for the wake event (R412). -/
  from_ : DomSt
  refused : Bool
  /-- A command waits: an Ember command for its conditions, or any command for a move in progress to end. -/
  pend : Option DomSt
  /-- A command (not an idle timer) is in progress: GO clears when its target is reached (R457). -/
  commanded : Option DomSt
  /-- Extra tokens granted, the millivolts at which they were granted (R463), and the extra asked for since the last pass that
  granted (R465). -/
  extra : Nat
  extraAt : Nat
  wants : Nat
  /-- A wake source came after gating began: the domain wakes once it has entered (R458). -/
  again : Bool
  deriving DecidableEq, Repr

def Domain.lit : Domain :=
  { st := .lit, moving := none, from_ := .lit, refused := false, pend := none, commanded := none, extra := 0, extraAt := 750, wants := 0,
    again := false }

/-! ## Pins, board, fuses, boot -/

/-- Levels of the control pins (R518, R529). Inputs as the board drives them, outputs as the device drives them. -/
structure Pins where
  resetN : Bool
  warmResetN : Bool
  brakeN : Bool
  ready : Bool
  alertN : Bool
  deriving DecidableEq, Repr

/-- What a fuse load gives (R477, R478). -/
structure Fuses where
  devId : BitVec 16
  stepping : Byte
  serial : DWord
  lifecycle : BitVec 2
  compatLock : Bool
  keySet : Bool
  keyHash : BitVec 384
  /-- Rows that failed their CRC (BAD_ROWS). -/
  badRows : Byte
  deriving DecidableEq, Repr

/-- The bitwise majority of three values (R69). -/
def majBits {n : Nat} (a b c : BitVec n) : BitVec n := (a &&& b) ||| (a &&& c) ||| (b &&& c)
def majBool (a b c : Bool) : Bool := (a && b) || (a && c) || (b && c)

/-- The fuse shadow as it is stored: three copies (R69, R421). -/
structure FuseCopies where
  a : Fuses
  b : Fuses
  c : Fuses
  deriving DecidableEq, Repr

def FuseCopies.of (f : Fuses) : FuseCopies := ⟨f, f, f⟩

/-- The value of the fuse shadow: the majority of its copies. -/
def FuseCopies.maj (t : FuseCopies) : Fuses :=
  { devId := majBits t.a.devId t.b.devId t.c.devId, stepping := majBits t.a.stepping t.b.stepping t.c.stepping,
    serial := majBits t.a.serial t.b.serial t.c.serial, lifecycle := majBits t.a.lifecycle t.b.lifecycle t.c.lifecycle,
    compatLock := majBool t.a.compatLock t.b.compatLock t.c.compatLock, keySet := majBool t.a.keySet t.b.keySet t.c.keySet,
    keyHash := majBits t.a.keyHash t.b.keyHash t.c.keyHash, badRows := majBits t.a.badRows t.b.badRows t.c.badRows }

/-- A fuse row (R477): what it holds, and whether its CRC passes. -/
structure FuseRow (α : Type) where
  val : α
  ok : Bool
  deriving DecidableEq, Repr

/-- What a row reads as: unprogrammed where it fails its CRC (R446, R477). -/
def FuseRow.read {α : Type} (r : FuseRow α) (unprogrammed : α) : α := if r.ok then r.val else unprogrammed

/-- The fuse array (R477): the row of stepping and serial number, that of the variant, the redundant lifecycle rows, those of
COMPAT_LOCK and of the key hash; of the trim and repair rows, which have no shadow, whether each passes its CRC. -/
structure FuseArray where
  identity : FuseRow (Byte × DWord)
  variant : FuseRow (BitVec 16)
  life : List (FuseRow (BitVec 2))
  lock : FuseRow Bool
  key : FuseRow (Option (BitVec 384))
  others : List Bool
  deriving DecidableEq, Repr

/-- The lifecycle state: the most advanced of the rows that pass (R477). -/
def FuseArray.lifecycle (f : FuseArray) : Nat := f.life.foldl (fun a r => max a (r.read 0).toNat) 0

/-- The key hash, where it is programmed. -/
def FuseArray.keyHash (f : FuseArray) : Option (BitVec 384) := f.key.read none

/-- COMPAT_LOCK is programmed. -/
def FuseArray.compatLock (f : FuseArray) : Bool := f.lock.read false

/-- The rows that fail their CRC. -/
def FuseArray.badRows (f : FuseArray) : Nat :=
  ([f.identity.ok, f.variant.ok, f.lock.ok, f.key.ok] ++ f.life.map (·.ok) ++ f.others).countP fun ok => !ok

/-- The identity, variant or lifecycle rows cannot be read (R476, R477): the lifecycle rows where none of them passes (log
entry 63). -/
def FuseArray.criticalBad (f : FuseArray) : Bool := !f.identity.ok || !f.variant.ok || f.life.all fun r => !r.ok

/-- A fuse load (R477, R478). -/
def FuseArray.load (f : FuseArray) : Fuses :=
  { devId := f.variant.read 0, stepping := (f.identity.read (0, 0)).1, serial := (f.identity.read (0, 0)).2,
    lifecycle := BitVec.ofNat 2 f.lifecycle, compatLock := f.compatLock, keySet := f.keyHash.isSome,
    keyHash := f.keyHash.getD 0, badRows := BitVec.ofNat 8 f.badRows }

/-- A record of a configuration image (R481, R483): TYPE, LEN, and the words of its value. -/
structure Record where
  type : Nat
  len : Nat
  words : List Word
  deriving DecidableEq, Repr

/-- A configuration image as the boot sequencer reads it (R480, R481): header fields, records in order, and of the last
200 bytes, taken as the signature block, the SHA-384 of the public key and whether the signature verifies. -/
structure Image where
  magic : Word
  format : BitVec 16
  devId : BitVec 16
  length : Nat
  imageId : DWord
  records : List Record
  keyDigest : BitVec 384
  sigGood : Bool
  deriving DecidableEq, Repr

/-- A crash-log record in the boot flash (R447, R448): where it lies, and its words; no words for a slot whose record fails
its CRC (R446). -/
structure CrashRec where
  off : Nat
  words : List Word
  deriving DecidableEq, Repr

/-- The boot flash (R479, R447): a valid SFDP table or none, its smallest erase sector, the bytes of the two slots from their
start (what follows is erased), the crash-log records written. -/
structure Flash where
  sfdpOk : Bool
  sector : Nat
  slotA : List Byte
  slotB : List Byte
  crash : List CrashRec
  deriving DecidableEq, Repr

/-- A row of a stack that a hard or soft repair maps away (R282, R284): stack, 2ch + pc, SID, bank code, row. -/
structure RowId where
  k : Nat
  pc : Nat
  sid : Nat
  bank : Nat
  row : Nat
  deriving DecidableEq, Repr

/-- What power loss keeps (R488). -/
structure Nv where
  fuses : FuseArray
  flash : Flash
  hard : List RowId
  deriving DecidableEq, Repr

/-- What the board and the silicon present and no register holds (R276, R492, R520). -/
structure Phys where
  /-- The rails below their operating range (R525). -/
  lowRails : List Rail
  refclk : List Bool
  vppFuse : Bool
  /-- Per stack: it identifies itself with the right height and rate, and its pseudo-channels train (R276). -/
  stackIdOk : List Bool
  stackTrains : List Bool
  /-- The DQ and ECC lanes of a pseudo-channel that fail read or write training, and the pseudo-channels that fail it
  otherwise (R276, R277). -/
  badLanes : Store (List (BitVec 6))
  badPcs : List Nat
  deriving DecidableEq, Repr

/-- Every monitored rail is in its operating range (R525). -/
def Phys.powerGood (x : Phys) : Bool := x.lowRails.isEmpty

/-- The boot sequencer (R473–R494). -/
structure Boot where
  /-- The fuse shadow (R478), in three copies. -/
  copies : FuseCopies
  /-- The mode selected since the last cold reset, true for compatibility mode (R13); none before it is selected. -/
  mode : Option Bool
  step : Nat
  released : Bool
  failed : Bool
  slotB : Bool
  warm : Bool
  kept : Bool
  /-- The device is in the fatal state (R431). -/
  fatal : Bool
  /-- Power-up waits for RESET_N and the rails (R473). -/
  inReset : Bool
  /-- A fuse operation in progress (R492): its OP. -/
  fuseBusy : Option Nat
  /-- A crash-log write in progress (R447). -/
  crashBusy : Option CrashRec
  /-- A further crash-log command was issued meanwhile and is accepted in turn (R60, R78). -/
  crashNext : Bool
  deriving DecidableEq, Repr

/-- The value of the fuse shadow (R69, R478). -/
def Boot.shadow (x : Boot) : Fuses := x.copies.maj

/-- The timebase (R88). -/
structure Timebase where
  count : DWord
  locked : Bool
  deriving DecidableEq, Repr

/-- The management port (R84, R85): dynamic address, pointer, and the bytes the last read supplied. -/
structure Mgmt where
  addr : Option (BitVec 7)
  ptr : Word
  readBytes : List Byte
  deriving DecidableEq, Repr

/-- The damper, the voltage loop, the sensors and the ageing monitors (R434–R442, R461–R471). -/
structure Damper where
  /-- BUDGET and BRAKE as the last pass took them (R461). -/
  budget : Nat
  brake : Nat
  braked : Bool
  pin : Bool
  /-- THERM_WARN holds the brake budget (R435). -/
  hot : Bool
  target : Nat
  raise : Nat
  avsHold : Bool
  /-- AVSBus frames that failed in a row (R471). -/
  avsFails : Nat
  mv : Nat
  deciAmps : Nat
  model : Nat
  short : Nat
  temps : List Int
  age : Store Nat
  ageValid : Store Nat
  /-- Equivalent service time in units of 1/172,800,000 ms (R442). -/
  wear : Nat
  deriving DecidableEq, Repr

/-! ## What the units hold after reset -/

def Pins.released : Pins := { resetN := true, warmResetN := true, brakeN := true, ready := true, alertN := true }

def Phys.good : Phys :=
  { lowRails := [], refclk := [true, true, true, true], vppFuse := true,
    stackIdOk := [true, true, true, true], stackTrains := [true, true, true, true],
    badLanes := [], badPcs := [] }

/-- The fuses of an NT-8640 B1 in BLANK (log entry 9). -/
def Fuses.blank : Fuses :=
  { devId := 0x8640, stepping := 0x21, serial := 0, lifecycle := 0, compatLock := false, keySet := false,
    keyHash := 0, badRows := 0 }

/-- The rows that hold them; two lifecycle rows, whose number the manual does not give (log entry 63). -/
def FuseArray.blank : FuseArray :=
  { identity := ⟨(0x21, 0), true⟩, variant := ⟨0x8640, true⟩, life := [⟨0, true⟩, ⟨0, true⟩], lock := ⟨false, true⟩,
    key := ⟨none, true⟩, others := [] }

def Nv.blank : Nv :=
  { fuses := FuseArray.blank, flash := { sfdpOk := true, sector := 4096, slotA := [], slotB := [], crash := [] },
    hard := [] }

def Boot.released0 : Boot :=
  { copies := FuseCopies.of Fuses.blank, mode := some false, step := 8, released := true, failed := false, slotB := false, warm := false,
    kept := false, fatal := false, inReset := false, fuseBusy := none, crashBusy := none,
    crashNext := false }

def RegState.empty : RegState :=
  { file := [], tv := [], locks := [], postBoot := [], postLocked := [], shadows := [], held := [], claim := .none,
    stalled := [], wayq := [], farKeep := [] }

def EvtState.empty : EvtState := { waiting := [], seq := 0, msgq := [], efifo := Fifo.empty, mbox := [] }

/-- The damper once it has taken the regulator (R470); no reading taken yet (log entry 8). -/
def Damper.boot : Damper :=
  { budget := wfld (regReset 0x20000) 0 11, brake := wfld (regReset 0x20000) 16 11, braked := false, pin := false, hot := false, target := 750, raise := 0, avsHold := false, avsFails := 0,
    mv := 0, deciAmps := 0, model := 0, short := 0, temps := [], age := [],
    ageValid := [], wear := 0 }

/-- The default port: enabled and in DETECT, as link training leaves it with no partner (R119). -/
def portD (_ : Nat) : Port := Port.fresh .detect
/-- The default domain: Lit (R453). -/
def domD (_ : Nat) : Domain := Domain.lit
/-- The default of the triple-voted copies: three times the reset value. -/
def tvD (off : Nat) : Triple := ⟨regReset off, regReset off, regReset off⟩
/-- The default of numeric stores: zero. -/
def zeroD (_ : Nat) : Nat := 0
/-- The default of word stores: zero. -/
def wordD (_ : Nat) : Word := 0
/-- The default of lock copies: unlocked. -/
def lockD (_ : Nat) : Triple := ⟨0, 0, 0⟩
/-- The default of FIFO stores: empty. -/
def fifoD (_ : Nat) : Fifo := Fifo.empty

/-! ## HBM queues (R253–R260); a line is named by its home-window line number PA[37:6] -/

/-- A line as stored: data, poison, and the symbols that have gone wrong since it was written (R253, R255). -/
structure HbmLine where
  data : LineData
  poison : Bool
  errs : List SymErr
  deriving DecidableEq, Repr

/-- What a read in a read queue is for (R258). -/
inductive RdSrc | demand | kindle | scrub
  deriving DecidableEq, Repr

/-- A read-queue entry (R258): the line, its purpose, source class, when it entered, RD commands issued, whether a
write of the line has entered a queue since (R256), and whether its data is discarded on return (R183). -/
structure RdEntry where
  line : Nat
  src : RdSrc
  cls : Nat
  seq : Nat
  ck : Nat
  cols : Nat
  wrote : Bool
  drop : Bool
  deriving DecidableEq, Repr

/-- A read whose last RD command is issued and whose data is on its way: what the stack drove (R249). -/
structure Flight where
  rd : RdEntry
  stored : HbmLine
  /-- The clock of the last beat, RL and a burst after the last RD command (R270). -/
  due : Nat
  deriving DecidableEq, Repr

/-- An entry of the write or the flue queue (R258–R260): WR commands issued, and whether it came from SCRUB or
UE handling (the poison write-back, R257). -/
structure WrEntry where
  line : Nat
  data : LineData
  poison : Bool
  cls : Nat
  flue : Bool
  seq : Nat
  ck : Nat
  cols : Nat
  /-- The clock of its last data beat, once the last WR command is issued (R258, R270). -/
  due : Nat
  deriving DecidableEq, Repr

/-- A line on its way back to its slice: `kindle` for a kindling read. -/
structure Returned where
  line : Nat
  data : LineData
  poison : Bool
  kindle : Bool
  deriving DecidableEq, Repr

/-- The DRAM commands that timing rules name (R270, R274): activate, read, write, precharge of a bank and of all banks of a
SID, refresh and refresh management per bank and per SID, mode register set, self-refresh and power-down entry and exit. -/
inductive DramOp | act | rd | wr | pre | preAb | refPb | refAb | rfmPb | rfmAb | mrs | srEnter | srExit | pdEnter | pdExit
  deriving DecidableEq, Repr

/-- A DRAM command as it reached the pins: clock, command, SID, bank code, row, burst address (R249). -/
structure DramCmd where
  ck : Nat
  op : DramOp
  sid : Nat
  bank : Nat
  row : Nat
  burst : Nat
  deriving DecidableEq, Repr

/-- A row of the row error table (R281). -/
structure RowErr where
  sid : Nat
  bank : Nat
  row : Nat
  n : Nat
  deriving DecidableEq, Repr

/-- A pseudo-channel with its controller (R253–R291). -/
structure Pc where
  rdq : List RdEntry
  wrq : List WrEntry
  flight : List Flight
  seq : Nat
  /-- The command clock as last known, and the commands recent enough to bind a timing rule, newest first. -/
  now : Nat
  hist : List DramCmd
  writeMode : Bool
  /-- Per class, the clock of its last command (R264). -/
  lastCls : List Nat
  /-- Open rows by 16 SID + bank: row + 1, 0 closed. Row hits in a row (R265), RAA (R274), refreshes owed (R272),
  negative when pulled in; SID s has debt entry 64 + s in all-bank mode. -/
  rows : Store Nat
  hits : Store Nat
  raa : Store Nat
  debt : Store Int
  /-- The request that a bank at ROW_HIT_CAP serves next (R265): its sequence number + 1, by 16 SID + bank. -/
  capped : Store Nat
  /-- The clock at which the last refresh obligation of a bank or SID fell due (R271), keyed as `debt`. -/
  refAt : Store Nat
  /-- Patrol scrub: lines visited of this pass (R280), passes completed. -/
  scrubPos : Nat
  rowErrs : List RowErr
  /-- Rows that wait for soft repair (R282). -/
  cands : List RowErr
  trained : Bool
  repairLane : Option (BitVec 6)
  trainFail : Bool
  rdEye : Byte
  wrEye : Byte
  trainTemp : Int
  lastTrain : Word
  /-- The training that left the eyes, where no command reported them (R275, R291): the free value it names. -/
  eyeFree : Option Nat
  /-- The grain at which the last training ended (R278). -/
  trainAt : Nat
  /-- A retraining fell due in Ember: it comes before the first request (R287). -/
  retrainFirst : Bool
  /-- A scrub read that fell due while the half was gated waits for its wake (R449). -/
  scrubDue : Bool
  /-- The clocks of the ACTs for scrub, which the limit of R464 does not count. -/
  scrubActs : List Nat
  deriving DecidableEq, Repr

/-- The command sequencers of one half of a stack (R247, R267, R269): the timing values in force, and the latencies in the
DRAM mode registers, in command-clock periods. -/
structure Sequencer where
  tim : List Word
  rl : Nat
  wl : Nat
  deriving DecidableEq, Repr

/-- A stack (R267–R289): the sequencers of channels 0–7 and of channels 8–15, its temperature, doubled refresh, soft repairs
made; hard repairs are in `Nv`. `lost`: its contents were lost with its clock and no wipe has run since (R248). -/
structure Stack where
  lo : Sequencer
  hi : Sequencer
  lost : Bool
  temp : Int
  ref2x : Bool
  soft : List RowId
  deriving DecidableEq, Repr

/-! ## Slices (R171–R245) -/

/-- A way of a Hearth set (R205). `line` stands for the tag together with slice and set (R204). -/
structure HLine where
  valid : Bool
  dirty : Bool
  line : Nat
  age : Nat
  data : LineData
  poison : Bool
  errs : List SymErr
  /-- Reserved for a pending fill (R219, R220). -/
  reserved : Bool
  deriving DecidableEq, Repr

/-- The states of a directory entry (R174); a line without an entry is in state A. -/
inductive DirSt | S | L | X | D
  deriving DecidableEq, Repr

/-- A directory entry (R174): pointers as host indices, P0 first; `bad` an uncorrectable error (R199). -/
structure DEntry where
  valid : Bool
  line : Nat
  st : DirSt
  bcast : Bool
  ptrs : List Nat
  age : Nat
  bad : Bool
  deriving DecidableEq, Repr

/-- The kinds of request a slice serves. -/
inductive ReqKind
  | rdShared | rdOwn | upgrade | rdUc | lres | wrLine | wrPart | scnd | zero | amo
  | clean | inv | cleanInv | cleanAll | prefetch | restore
  deriving DecidableEq, Repr

/-- A request as a slice holds it (R145–R149, R186, R240). -/
structure Req where
  kind : ReqKind
  src : AgentId
  tag : Tag
  addr : PA
  priv : Bool
  size : Nat
  mask : BitVec 64
  data : LineData
  poison : Bool
  amoOp : Nat
  operand : DWord
  compare : DWord
  /-- The scribe core that performs an LRES, SCND, store or atomic (R240). -/
  core : Option Nat
  deriving DecidableEq, Repr

/-- An unanswered snoop (R181): host index, opcode, tag; `gone` after SNP_GONE while the notice is awaited (R191). -/
structure Snoop where
  host : Nat
  opc : Nat
  tag : Tag
  gone : Bool
  deriving DecidableEq, Repr

/-- Where a transaction's home data is: not asked for, awaited from HBM, or here; `fill` says that it came from HBM or
from a clean copy and may be placed in the Hearth. -/
inductive Fetch
  | none | wait
  | got (data : LineData) (poison fill : Bool)
  deriving DecidableEq, Repr

/-- An open transaction (R180). -/
structure Txn where
  line : Nat
  req : Req
  snps : List Snoop
  /-- The owner named at acceptance, in X or D; and whether any answer may bring data (tainted set, R199). -/
  owner : Option Nat
  anyOwner : Bool
  /-- Hosts found to hold nothing any more; senders whose notice was taken in this transaction (R191). -/
  gone : List Nat
  taken : List Nat
  /-- Directory state at acceptance was A, S or L (R218). -/
  calm : Bool
  fetch : Fetch
  /-- Clean data that a snoop answer brought (R182). -/
  snpData : Option (LineData × Bool)
  /-- What acceptance fixed (R201, R214): the policy of the line, and whether RD_SHARED gives the lead. -/
  pol : Nat
  lead : Bool
  /-- The victim search (R207): none before it; else the way and the age it gives the line, or that no way was eligible
  (R210, R211). -/
  found : Option (Option (Nat × Nat))
  /-- The Hearth lookup has been counted (R226, R393). -/
  looked : Bool
  /-- 0 gathering, 1 effect done, 2 response sent. -/
  stage : Nat
  gack : Bool
  /-- The response data. -/
  out : LineData
  outPoison : Bool
  ok : Bool
  secs : List Req
  deriving DecidableEq, Repr

/-- A dirty victim between its choice and the flue (R219). -/
structure Victim where
  line : Nat
  set : Nat
  way : Nat
  cls : Nat
  deriving DecidableEq, Repr

/-- A line that waits for its reserved way (R221); `notify` the eviction notice to answer then (R190), `host` for dirty
host data, which holds a place of the slice's snoop-response and eviction intake (R216). -/
structure Install where
  line : Nat
  set : Nat
  way : Nat
  data : LineData
  poison : Bool
  dirty : Bool
  age : Nat
  host : Bool
  notify : Option (AgentId × Tag)
  deriving DecidableEq, Repr

/-- A line that waits for room in an HBM write queue or the flue queue (R216, R258). -/
structure OutWr where
  line : Nat
  data : LineData
  poison : Bool
  cls : Nat
  flue : Bool
  host : Bool
  notify : Option (AgentId × Tag)
  deriving DecidableEq, Repr

/-- A directory entry in the eviction buffer (R194). -/
structure EvEntry where
  line : Nat
  owner : Option Nat
  snps : List Snoop
  taken : List Nat
  deriving DecidableEq, Repr

/-- The states of a kindling entry (R222). -/
inductive KSt | pending | ready | stale
  deriving DecidableEq, Repr

structure KEntry where
  line : Nat
  st : KSt
  data : LineData
  poison : Bool
  deriving DecidableEq, Repr

/-- A stream-detector entry (R226): the block, the direction once confirmed, the slice's miss count at its last event. -/
structure Stream where
  block : Nat
  dir : Option Bool
  last : Nat
  deriving DecidableEq, Repr

/-- Why a sweep runs (R231, R233, R242): for the CLEAN_ALL with a number, to disable, to prepare Cold. -/
inductive SweepWhy
  | cleanAll (id : Nat)
  | disable
  deriving DecidableEq, Repr

/-- One slice. -/
structure Slice where
  hearth : Store HLine
  dir : Store DEntry
  /-- Tainted sets (R199): 1. -/
  taint : Store Nat
  txns : List Txn
  inq : List Req
  confq : List Req
  retryq : List Req
  /-- Snoop answers, notices and GACKs that wait at the slice for its domain (R216, R241). -/
  srsp : List Msg
  victims : List Victim
  installs : List Install
  outWr : List OutWr
  evbuf : List EvEntry
  kindle : List KEntry
  streams : List Stream
  misses : Nat
  ret : List Returned
  /-- Poison notices on their way (R257). -/
  notices : List Nat
  snpTag : Tag
  disabling : Bool
  disabled : Bool
  /-- HEARTH_EN = 1 was written while disabling (R234). -/
  reEnable : Bool
  sweeps : List SweepWhy
  sweepPos : Nat
  /-- Ways walking, each with the set at which its walk ends, and the walk's position (R236). -/
  walking : List (Nat × Nat)
  walkPos : Nat
  quenched : BitVec 16
  powering : BitVec 16
  /-- Ways that retire when their walk ends (R426). -/
  retiring : BitVec 16
  retired : BitVec 16
  wayErrs : List Nat
  /-- A register-issued maintenance operation of this slice's registers is in progress (R244). -/
  maintBusy : Bool
  /-- Preparing for Cold (R242). -/
  coldPrep : Bool
  deriving DecidableEq, Repr

/-- A CLEAN_ALL in progress (R231): the slice that took it, the request, and the slices still sweeping. -/
structure CleanAll where
  id : Nat
  at_ : Nat
  req : Req
  left : List Nat
  deriving DecidableEq, Repr

/-! ## Scribe clusters (R292–R326) -/

/-- What a core does (R328 STATE): idle, running, in WFD. -/
inductive CoreSt | idle | running | wfd
  deriving DecidableEq, Repr

/-- The ways a descriptor ends (R376). -/
inductive Status
  | ok | badOpcode | badDesc | unitAbsent | noTarget | poisoned | destFull | timeout | fenceFailed | privDenied
  | fault | doubleFault | aborted | disabled | reset
  deriving DecidableEq, Repr

def Status.code : Status → Nat
  | .ok => 0 | .badOpcode => 1 | .badDesc => 2 | .unitAbsent => 3 | .noTarget => 4 | .poisoned => 5 | .destFull => 6
  | .timeout => 7 | .fenceFailed => 8 | .privDenied => 9 | .fault => 10 | .doubleFault => 11 | .aborted => 12
  | .disabled => 13 | .reset => 14

/-- A destination of a load: none, a general register, a wide register. -/
inductive Dest
  | g (i : Nat)
  | w (i : Nat)
  deriving DecidableEq, Repr

/-- What a core waits for (R304, R306, R309): the response of a load, with its destination, size, sign and NIB attribute;
of a control-window load; of an atomic, an LRES, an SCND. -/
inductive CoreWait
  | load (d : Dest) (addr : PA) (n : Nat) (sext nib : Bool)
  | cwLoad (d : Dest) (addr : PA) (n : Nat) (sext zero : Bool)
  | amo (rd : Nat) (addr : PA) (n : Nat)
  | lres (rd : Nat) (addr : PA) (n : Nat)
  | scnd (rd : Nat) (addr : PA)
  deriving DecidableEq, Repr

/-- A line of a nib data cache (R292), by PA / 64. -/
structure NibLine where
  line : Nat
  data : LineData
  deriving DecidableEq, Repr

/-- A store-buffer entry (R302): a line, its bytes, and poison taken up (R421). -/
structure SbEntry where
  line : Nat
  data : LineData
  mask : BitVec 64
  poison : Bool
  deriving DecidableEq, Repr

/-- A pending STORE_ERR event: reason and line address (R316). -/
structure StoreErr where
  reason : Nat
  addr : PA
  deriving DecidableEq, Repr

/-- A scribe core (R292, R293, R329). -/
structure Core where
  st : CoreSt
  pc : PA
  g : Store DWord
  w : Store Wide
  pl : Bool
  ppl : Bool
  hold : Bool
  msgw : Bool
  epc : DWord
  cause : DWord
  badaddr : DWord
  tvec : DWord
  scratch : DWord
  /-- st.WINn base and limit parts, st.SLATE, st.TASK as taken at task start (R321, R331). -/
  win : List (DWord × DWord)
  slate : DWord
  task : DWord
  /-- Nib instruction cache: the lines it holds (PA / 64), and nib data cache; most recently used first. -/
  inib : List Nat
  dnib : List NibLine
  /-- Store buffer, oldest first. -/
  sb : List SbEntry
  /-- The reservation flag and its line, PA / 64 (R313). -/
  resv : Option Nat
  wait : Option CoreWait
  /-- The tag of the access it waits for. -/
  waitTag : Tag
  /-- A control-window store is on its way (R306), and posted requests not yet answered, by tag. -/
  cwBusy : Option (Tag × PA)
  posted : List (Tag × PA)
  /-- Events pending (R318). -/
  evDisabled : Bool
  evAbort : Bool
  evStore : List StoreErr
  /-- A forced ending is due GRACE grains after the first ABORT or DISABLED (R322). -/
  doom : Option Status
  /-- The task is ending and waits as FENCE.SYS does: status and task result (R322); forced, by GRACE. -/
  ending : Option (Status × DWord)
  forced : Bool
  /-- WFD's destination and timeout, and whether it has passed in Ember (R323, R326). -/
  wfdRd : Nat
  wfdTime : DWord
  wfdLate : Bool
  lastCause : Byte
  deriving DecidableEq, Repr

/-- A gather-buffer entry (R305): the line, its bytes, the cores whose stores it holds; draining with a tag. -/
structure GEntry where
  line : Nat
  data : LineData
  mask : BitVec 64
  cores : BitVec 8
  poison : Bool
  drain : Option Tag
  deriving DecidableEq, Repr

/-- A cluster (R292, R320–R325). -/
structure Cluster where
  gather : List GEntry
  tasks : List LaunchRec
  /-- The next request tag, without its core number in bits [2:0]. -/
  tagCtr : Nat
  /-- The tags in use (R142). -/
  tags : List Tag
  msgHead : BitVec 6
  msgTail : BitVec 6
  disabling : Bool
  resetting : Bool
  slate : Store Byte
  /-- Wrong bits per 64-bit slate word (R301). -/
  slateErr : Store Nat
  deriving DecidableEq, Repr

/-! ## Inkwells (R355–R382) -/

/-- Where a fetched descriptor stands (R365–R368). -/
inductive DPhase
  | held
  | running
  | launching
  | inTask
  | msgSent
  | polling
  | wantPoll
  /-- Over, without an engine: it needs one to complete (R366). -/
  | ended (st : Status) (result : DWord)
  | done (st : Status) (result : DWord)
  deriving DecidableEq, Repr

/-- A fetched descriptor: its slot, its 64 bytes, where it stands, the engine on it, the last value a WAIT read. -/
structure Desc where
  slot : Nat
  raw : LineData
  phase : DPhase
  engine : Option Nat
  value : DWord
  /-- The timebase when the last read of a WAIT returned (R374). -/
  polledAt : DWord
  expired : Bool
  /-- The tag of the agent message it waits for (R365). -/
  msgTag : Option Tag
  deriving DecidableEq, Repr

/-- An inkwell's own state (R357, R378–R380); its registers are in the register file. -/
structure Inkwell where
  head : Nat
  tail : Nat
  cqTail : Nat
  cqHead : Nat
  halted : Bool
  descs : List Desc
  /-- Slots in the order in which their descriptors completed. -/
  doneQ : List Nat
  /-- The record write in flight: engine, tag, slot. -/
  recWr : Option (Nat × Tag × Nat)
  /-- Records since the last completion event; failed descriptors since the previous FENCE. -/
  p : Nat
  fails : Nat
  deriving DecidableEq, Repr

/-- One unit of an engine's data movement: a piece of at most one destination line, or one list entry. -/
structure Job where
  /-- Offset of its first byte in the range or list, or its entry index. -/
  off : Nat
  src : Nat
  dst : Nat
  len : Nat
  /-- Reads: tag, line number, data once returned. -/
  reads : List (Tag × Nat × Option (LineData × Bool))
  /-- The write, atomic or maintenance request in flight. -/
  wr : Option Tag
  /-- The write is a result write to RES (R373). -/
  res : Bool
  deriving DecidableEq, Repr

/-- A failure of a descriptor (R370, R373): its status, reason, whether at LIST, RES or PAYLOAD, and where. -/
structure Fail where
  st : Status
  reason : Nat
  side : Bool
  at_ : Nat
  deriving DecidableEq, Repr

/-- An engine (R365, R366): the descriptor it works on, its fetch, and the progress of the operation. -/
structure Engine where
  work : Option (Nat × Nat)
  fetch : Option (Nat × Tag)
  tagCtr : Nat
  /-- The tags in use (R142). -/
  tags : List Tag
  /-- The list element in progress: address, length, bytes of it issued. -/
  elem : Option (Nat × Nat × Nat)
  pos : Nat
  /-- The next list entry, the list line in hand, its read in flight. -/
  next : Nat
  list : Option (Nat × LineData)
  listRd : Option (Tag × Nat)
  jobs : List Job
  fail : Option Fail
  /-- CRC or hash value, first difference found, entries performed. -/
  crc : DWord
  diff : Option Nat
  /-- Bytes that wait for the rest of their eight in a hash (R350). -/
  rest : List Byte
  /-- The line reads of the last piece issued: the next piece of the range shares a line with it (R369). -/
  last : List (Tag × Nat × Option (LineData × Bool))
  /-- Elements of a GATHER or SCATTER list not yet begun, and the bytes of all of them (R370, R372). -/
  elems : List (Nat × Nat)
  total : Nat
  /-- Bytes of a GATHER whose destination line is not yet whole: offset, length, value, poison (R369). -/
  gath : List (Nat × Nat × Nat × Bool)
  /-- What a GATHER or SCATTER has written so far, latest first: address, length, value (R372). -/
  wrote : List (Nat × Nat × Nat)
  deriving DecidableEq, Repr

/-! ## Telemetry and the blotter (R392–R409) -/

/-- A request that the blotter follows (R405–R408): ingress kind 0 host port, 1 fabric port, 2 cluster, 3 engine; its
number; the ID field; core; requester, tag, opcode, address; the times of admission, of acceptance (or hand-off), of the
data (or performance), and of the response leaving; OUTCOME, SNOOPED, RETRY, POISON. -/
structure Follow where
  kind : Nat
  ingress : Nat
  id : Nat
  core : Nat
  src : AgentId
  tag : Tag
  opc : Nat
  addr : PA
  tb : Nat
  acc : Option Nat
  got : Option Nat
  left : Option Nat
  /-- The fabric port it was handed off to. -/
  via : Option Nat
  /-- OUTCOME, where a row of R407 names it. -/
  outcome : Option Nat
  snooped : Bool
  retry : Bool
  poison : Bool
  deriving DecidableEq, Repr

/-- The blotter: LFSR, requests to the next selection, followed requests, the internal ring of records, the drain write in
flight with its number of records, and whether the single ready record has waited 1 µs. -/
structure Blotter where
  lfsr : Nat
  dist : Nat
  follows : List Follow
  ring : List (List Word)
  drain : Option (Tag × Nat)
  waited : Bool
  deriving DecidableEq, Repr

/-- A dump record being written (R402): its header line, its address, the writes not yet performed, whether the header is
sent. -/
structure DumpRec where
  header : LineData
  addr : Nat
  out : List Tag
  headerSent : Bool
  /-- Its record number (R401, R412). -/
  recno : Nat
  /-- The engine has stopped: only the writes that are out are waited for (R142, R396, R403). -/
  stopped : Bool
  deriving DecidableEq, Repr

/-- Telemetry: the counters by group x 32 + slot; per threshold, 2 x (grains until an event may be raised again) + (1 if the
last sample was above); the dump being written; a dump was skipped since the last record. -/
structure Tel where
  ctr : Store Nat
  thr : Store Nat
  dump : Option DumpRec
  gap : Bool
  /-- A dump that fell due while the domain was gated waits for its wake (R449). -/
  due : Bool
  blot : Blotter
  deriving DecidableEq, Repr

/-! ## Compatibility mode (R504–R515) -/

/-- The CX command being executed (R507–R510): header, arguments, whether its step has run, STATUS, the position of a
set-and-way sweep, and the lines it sent to the flue. -/
structure CxRun where
  hdr : Word
  args : List Word
  began : Bool
  status : Nat
  pos : Nat
  flues : List Nat
  deriving DecidableEq, Repr

structure Cx where
  cmd : Fifo
  rsp : Fifo
  run : Option CxRun
  deriving DecidableEq, Repr

/-! ## The test access port (R493) -/

/-- The states of an IEEE 1149.1 controller. -/
inductive TapSt
  | reset | idle | selDr | capDr | shDr | ex1Dr | pauDr | ex2Dr | updDr
  | selIr | capIr | shIr | ex1Ir | pauIr | ex2Ir | updIr
  deriving DecidableEq, Repr

/-- The controller, the shift stages of the instruction register and of the data register, the latches of the boundary
register, the instruction that is in effect, TDO (none: not driven). -/
structure Tap where
  st : TapSt
  ir : List Bool
  dr : List Bool
  latch : List Bool
  instr : Config.TapInstr
  tdo : Option Bool
  deriving DecidableEq, Repr

def Blotter.empty : Blotter := { lfsr := 0, dist := 0, follows := [], ring := [], drain := none, waited := false }
def Tel.empty : Tel := { ctr := [], thr := [], dump := none, gap := false, due := false, blot := Blotter.empty }
def Cx.empty : Cx := { cmd := Fifo.empty, rsp := Fifo.empty, run := none }
def Tap.reset : Tap := { st := .reset, ir := [], dr := [], latch := [], instr := .idcode, tdo := none }

def dwordD (_ : Nat) : DWord := 0
def wideD (_ : Nat) : Wide := 0
def byteD (_ : Nat) : Byte := 0
/-- A core after reset: idle (R325). -/
def coreD (_ : Nat) : Core :=
  { st := .idle, pc := 0, g := [], w := [], pl := false, ppl := false, hold := false, msgw := false, epc := 0, cause := 0,
    badaddr := 0, tvec := 0, scratch := 0, win := [], slate := 0, task := 0, inib := [], dnib := [], sb := [], resv := none,
    wait := none, waitTag := 0, cwBusy := none, posted := [], evDisabled := false, evAbort := false, evStore := [],
    doom := none, ending := none, forced := false, wfdRd := 0, wfdTime := 0, wfdLate := false, lastCause := 0 }
def clusterD (_ : Nat) : Cluster :=
  { gather := [], tasks := [], tagCtr := 0, tags := [], msgHead := 0, msgTail := 0, disabling := false, resetting := false,
    slate := [], slateErr := [] }
def inkD (_ : Nat) : Inkwell :=
  { head := 0, tail := 0, cqTail := 0, cqHead := 0, halted := false, descs := [], doneQ := [], recWr := none, p := 0,
    fails := 0 }
def engineD (_ : Nat) : Engine :=
  { work := none, fetch := none, tagCtr := 0, tags := [], elem := none, pos := 0, next := 0, list := none, listRd := none,
    jobs := [], fail := none, crc := 0, diff := none, rest := [], last := [], elems := [], total := 0, gath := [], wrote := [] }

def hlineD (_ : Nat) : HLine :=
  { valid := false, dirty := false, line := 0, age := 0, data := 0, poison := false, errs := [], reserved := false }
def dentryD (_ : Nat) : DEntry :=
  { valid := false, line := 0, st := .S, bcast := false, ptrs := [], age := 0, bad := false }
/-- A slice after the ash sweep (R235). -/
def sliceD (_ : Nat) : Slice :=
  { hearth := [], dir := [], taint := [], txns := [], inq := [], confq := [], retryq := [], srsp := [], victims := [],
    installs := [], outWr := [], evbuf := [], kindle := [], streams := [], misses := 0, ret := [], notices := [], snpTag := 0,
    disabling := false, disabled := false, reEnable := false, sweeps := [], sweepPos := 0, walking := [], walkPos := 0,
    quenched := 0, powering := 0, retiring := 0, retired := 0, wayErrs := List.replicate 16 0, maintBusy := false, coldPrep := false }
/-- The timing registers of a stack as reset leaves them, in the order of R270. -/
def timReset : List Word := (List.range 13).map fun i => regReset (0x400100 + 4 * i)
/-- A pseudo-channel after training (R275). -/
def pcD (_ : Nat) : Pc :=
  { rdq := [], wrq := [], flight := [], seq := 0, now := 0, hist := [], writeMode := false,
    lastCls := [0, 0, 0, 0, 0, 0, 0, 0], rows := [], hits := [], raa := [], debt := [], capped := [], refAt := [], scrubPos := 0, rowErrs := [],
    cands := [], trained := true, repairLane := none, trainFail := false, rdEye := 0, wrEye := 0, trainTemp := 0,
    lastTrain := 0, eyeFree := some 0, trainAt := 0, retrainFirst := false, scrubDue := false, scrubActs := [] }
/-- No lane fails training. -/
def lanesD (_ : Nat) : List (BitVec 6) := []
/-- Sequencers with the reset values of R270: RL of 48 and WL of 16 periods. -/
def seqD : Sequencer := { tim := timReset, rl := 48, wl := 16 }
def stackD (_ : Nat) : Stack := { lo := seqD, hi := seqD, lost := false, temp := 0, ref2x := false, soft := [] }
def intD (_ : Nat) : Int := 0
def hbmLineD (_ : Nat) : HbmLine := { data := 0, poison := false, errs := [] }

end Sys2Proof.Machine
end

