-- ==== Sys2Proof/Machine/State.lean ====
section
/-! DEFINITION. The whole state of the device as plain data, its faults and refusals, and its reset. -/
namespace Sys2Proof.Machine

/-- Why a command stops. -/
inductive Fault
  /-- Raised by every command that names a unit no part has (WellFormed fails): a port above 15, for
  example. The spec gives such a command no effect. Safe: the machine stops where no hardware runs. -/
  | noSuchUnit
  deriving DecidableEq, Repr

/-- Why a command is refused. -/
inductive Refusal
  /-- Raised by the dispatch arm of a command that has no meaning yet. Safe. -/
  | notModelled (mnemonic : String)
  deriving DecidableEq, Repr

/-- The state of the device (INVENTORY.md lists every piece with its rule). -/
structure State where
  /-- Commands waiting, first in, first out (the model's own). -/
  pending : List Instr
  /-- How many free values have been drawn (the model's own, log entry 3). -/
  freeCtr : Nat
  /-- The data the last control-window read returned (the model's own view of the bus). -/
  cwData : DWord
  pins : Pins
  phys : Phys
  nv : Nv
  boot : Boot
  tb : Timebase
  mgmt : Mgmt
  reg : RegState
  ports : Store Port
  spine : Spine
  /-- The purge set (R168): per device number, the local host agents in it. -/
  purge : Store Word
  evt : EvtState
  doms : Store Domain
  damper : Damper
  /-- Counter increments not yet handed off (R394), by group x 32 + slot. -/
  acc : Store Nat
  slices : Store Slice
  /-- Scribe reservations (R239): core k's line + 1, 0 for none. -/
  resv : Store Nat
  /-- CLEAN_ALL operations in progress (R231) and how many have begun. -/
  cleanAlls : List CleanAll
  cleanSeq : Nat
  pcs : Store Pc
  hstacks : Store Stack
  /-- The contents of the stacks by home-window line number. -/
  hbm : Store HbmLine
  clusters : Store Cluster
  cores : Store Core
  inks : Store Inkwell
  engines : Store Engine
  /-- Per priority, the inkwell that an engine served last (R366). -/
  inkLast : Store Nat
  tel : Tel
  cx : Cx
  tap : Tap
  deriving DecidableEq, Repr

/-- The machine right after release from the cold reset of an NT-8640 B1 whose flash and fuses are blank (log entry 9). -/
def State.reset : State :=
  { pending := [], freeCtr := 0, cwData := 0, pins := Pins.released, phys := Phys.good, nv := Nv.blank,
    boot := Boot.released0, tb := ⟨0, true⟩, mgmt := ⟨none, 0, []⟩, reg := RegState.empty, ports := [],
    spine := ⟨[], [], []⟩, purge := [], evt := EvtState.empty, doms := [], damper := Damper.boot, acc := [],
    slices := [], resv := [], cleanAlls := [], cleanSeq := 0, pcs := [], hstacks := [], hbm := [],
    clusters := [], cores := [], inks := [], engines := [], inkLast := [], tel := Tel.empty, cx := Cx.empty, tap := Tap.reset }

end Sys2Proof.Machine
end

