-- ==== Sys2Proof/Machine/Ops.lean ====
section
/-! DEFINITION. The named operations that the meanings share: registers, presence, domains, counters, events,
ports, address classes, and the sending of messages. -/
namespace Sys2Proof.Machine
open Config

/-! ## Registers -/

/-- The value of the register at a native offset: the majority of the copies where it is triple-voted (R69). -/
def State.rd (s : State) (off : Nat) : Word :=
  if regTV off then (sget tvD s.reg.tv off).maj else sget regReset s.reg.file off

/-- Store a register; all three copies of a triple-voted one (R72). -/
def State.wr (s : State) (off : Nat) (v : Word) : State :=
  if regTV off then { s with reg := { s.reg with tv := sset tvD s.reg.tv off ⟨v, v, v⟩ } }
  else { s with reg := { s.reg with file := sset regReset s.reg.file off v } }

/-- Field lo, w of a register. -/
def State.fld (s : State) (off lo w : Nat) : Nat := wfld (s.rd off) lo w

/-- One bit of a register. -/
def State.bit (s : State) (off i : Nat) : Bool := (s.rd off).getLsbD i

/-- Replace field lo, w of a register. -/
def State.setFld (s : State) (off lo w v : Nat) : State := s.wr off (w32 (putBits (s.rd off).toNat lo w v))

/-- Offsets of the registers of the blocks (R41). -/
def portReg (p rel : Nat) : Nat := 0x100000 + p * 0x10000 + rel
def sliceReg (i rel : Nat) : Nat := 0x200000 + i * 0x10000 + rel
def hbmReg (k rel : Nat) : Nat := 0x400000 + k * 0x10000 + rel
def scrReg (c rel : Nat) : Nat := 0x500000 + c * 0x10000 + rel
def inkReg (n rel : Nat) : Nat := 0x610000 + n * 0x40 + rel
def dirReg (rel : Nat) : Nat := 0x300000 + rel
def evtReg (rel : Nat) : Nat := 0x30000 + rel
def pwrReg (rel : Nat) : Nat := 0x20000 + rel
def bootReg (rel : Nat) : Nat := 0x10000 + rel
def telReg (rel : Nat) : Nat := 0x700000 + rel
def indReg (rel : Nat) : Nat := 0x40000 + rel
def cxReg (rel : Nat) : Nat := 0x800000 + rel
def domReg (d rel : Nat) : Nat := 0x21000 + 0x10 * d + rel

/-! ## Variant, mode, presence (R2, R9, R10, R16) -/

def State.devId (s : State) : Nat := s.boot.shadow.devId.toNat
/-- The device runs in compatibility mode (R13, R87 MODE). -/
def State.compat (s : State) : Bool := s.bit 0x8 0
/-- The lifecycle state (R478, R489), voted (R72). -/
def State.lifecycle (s : State) : Nat := s.fld (bootReg 0) 8 2
/-- The device number (R34, R87 MODE). -/
def State.devNum (s : State) : Nat := s.fld 0x8 4 4
/-- The home and management agent of this device (R32). -/
def State.home (s : State) : AgentId := mkAgent s.devNum 63

def State.portPresent (s : State) (p : Nat) : Bool :=
  decide (p < nPorts) && !((s.devId == 0x8610 || s.compat) && decide (8 ≤ p))
def State.slicePresent (s : State) (i : Nat) : Bool :=
  decide (i < nSlices) && !(s.devId == 0x8610 && decide (8 ≤ i))
def State.stackPresent (s : State) (k : Nat) : Bool :=
  decide (k < nStacks) && !(s.devId == 0x8610 && decide (2 ≤ k))
def State.clusterPresent (s : State) (c : Nat) : Bool :=
  decide (c < nClusters) && !(s.devId == 0x8610) && !(s.devId == 0x8632 && decide (8 ≤ c)) && !s.compat
def State.fwdPresent (s : State) : Bool := !(s.devId == 0x8610) && !s.compat

/-- The unit that power domain d serves is present (R10, R449). -/
def State.domPresent (s : State) (d : Nat) : Bool :=
  if d < 4 then true else if d < 20 then s.portPresent (d - 4) else if d < 36 then s.slicePresent (d - 20)
  else if d < 44 then s.stackPresent ((d - 36) / 2) else if d < 60 then s.clusterPresent (d - 44)
  else if d < 62 then true else decide (d < 64) && s.fwdPresent

/-- The block belongs to a present unit (R9). -/
def State.blockPresent (s : State) : Block → Bool
  | .port p => s.portPresent p
  | .slice i => s.slicePresent i
  | .hbm k => s.stackPresent k
  | .scribe c => s.clusterPresent c
  | _ => true

/-- The present slices, as numbers. -/
def State.sliceList (s : State) : List Nat := (List.range nSlices).filter s.slicePresent
/-- The present ports, as numbers. -/
def State.portsList (s : State) : List Nat := (List.range nPorts).filter s.portPresent

/-! ## Power domains (R449–R451) -/

def State.dom (s : State) (d : Nat) : Domain := sget domD s.doms d

/-- The state a domain reports: Cold for an absent unit (R9). -/
def State.domSt (s : State) (d : Nat) : DomSt := if s.domPresent d then (s.dom d).st else .cold

def State.modDom (s : State) (d : Nat) (f : Domain → Domain) : State :=
  { s with doms := smod domD s.doms d f }

/-- The domain answers accesses at once: Lit or Banked (R43, R451), and not gating. -/
def State.domLit (s : State) (d : Nat) : Bool :=
  (s.domSt d == .lit || s.domSt d == .banked) && (s.dom d).moving.isNone

/-- The spine half that a domain is attached to, as its domain (R43, R450). -/
def halfOf (d : Nat) : Option Nat :=
  if d < 4 ∨ 64 ≤ d then none
  else if d < 12 ∨ (20 ≤ d ∧ d < 28) ∨ (36 ≤ d ∧ d < 40) ∨ (44 ≤ d ∧ d < 52) ∨ d = 62 then some 2 else some 3

/-- Begin to wake one Ember or Cold domain; one that is being gated wakes once it has entered (R458). In the fatal state no
Cold domain wakes (R431). -/
def State.wakeOne (s : State) (d : Nat) : State :=
  if s.domPresent d && ((s.dom d).moving == some .ember || ((s.dom d).moving == some .cold && !s.boot.fatal)) then
    s.modDom d fun x => { x with again := true }
  else if s.domPresent d && (s.dom d).moving.isNone && (s.domSt d == .ember || (s.domSt d == .cold && !s.boot.fatal)) then
    s.modDom d fun x => { x with moving := some .lit, from_ := x.st }
  else s

/-- Wake a domain together with its spine half, as a register access or a command does (R43, R449). -/
def State.wakeAccess (s : State) (d : Nat) : State :=
  match halfOf d with
  | some h => (s.wakeOne d).wakeOne h
  | none => s.wakeOne d

/-- Wake a domain as traffic does (R43, R449, R460): a Cold port and Cold telemetry stay Cold (R458). -/
def State.wake (s : State) (d : Nat) : State :=
  if (s.domSt d == .cold || (s.dom d).moving == some .cold) && ((decide (4 ≤ d) && decide (d < 20)) || d == 61) then s else s.wakeAccess d

/-! ## Counters and events -/

/-- The counters of a group count: its unit is present (R9, R392). -/
def State.groupPresent (s : State) (g : Nat) : Bool :=
  if g < 16 then s.portPresent g else if g < 32 then s.slicePresent (g - 16) else if g < 36 then s.stackPresent (g - 32)
  else if g < 52 then s.clusterPresent (g - 36) else decide (g < 54)

/-- The unit of a group is Cold and counts nothing (R396). -/
def State.groupCold (s : State) (g : Nat) : Bool :=
  if g < 16 then s.domSt (4 + g) == .cold else if g < 32 then s.domSt (4 + g) == .cold
  else if g < 36 then s.domSt (2 * g - 28) == .cold && s.domSt (2 * g - 27) == .cold
  else if g < 52 then s.domSt (8 + g) == .cold else if g = 52 then s.domSt 60 == .cold else false

/-- Add n to the accumulator of slot i of group g (R394). -/
def State.count (s : State) (g i n : Nat) : State :=
  if s.groupPresent g && !s.groupCold g then { s with acc := smod zeroD s.acc (g * 32 + i) (· + n) } else s

/-- Hold an event at its source until the sequencer takes it (R410). -/
def State.raise (s : State) (source code : Nat) (info : Word) : State :=
  { s with evt := { s.evt with waiting := s.evt.waiting ++ [⟨source, code, info⟩] } }

/-- Hardware sets a W1C status bit whose event has a code of its own; the event is raised when the bit goes from 0 to 1 (R411). -/
def State.setStatus (s : State) (off i source code : Nat) (info : Word) : State :=
  if s.bit off i then s else (s.setFld off i 1 1).raise source code info

/-- Hardware sets a W1C status bit; its event is raised when the bit goes from 0 to 1 (R411). -/
def State.setErr (s : State) (off i source : Nat) (info : Word) : State :=
  if s.bit off i then s else (s.setFld off i 1 1).raise source (0x10 + i) info

/-! ## Votes (R69, R70) -/

/-- The event source of a block (R412). INDIRECT has none: no event of its own can arise there. -/
def blockSource : Block → Nat
  | .ident => 0x00 | .boot => 0x01 | .power => 0x02 | .event => 0x03 | .indirect => 0x03
  | .port p => 0x10 + p | .slice i => 0x20 + i | .directory => 0x30 | .hbm k => 0x40 + k
  | .scribe c => 0x50 + c | .inkwell => 0x60 | .doorbell _ => 0x60 | .telemetry => 0x70
  | .cxImage => 0x01 | .gap => 0x00

/-- Copies that differ from the majority of a triple. -/
def tripleOff (t : Triple) : Bool := t.a != t.maj || t.b != t.maj || t.c != t.maj

/-- VOTE_FIX of the block of a register (R70): the bit, the counter, and the event when the bit rises (R411). -/
def voteFixed (s : State) (off : Nat) : State :=
  let b := blockAt off
  let was := s.bit b.statusOff 1
  let s := (s.setFld b.statusOff 1 1 1).count 53 4 1
  if was then s else s.raise (blockSource b) 2 (w32 ((off - b.base) % 0x10000))

/-- Vote the register at an offset and repair it where its copies disagree (R70). -/
def voteReg (s : State) (off : Nat) : State :=
  let t := sget tvD s.reg.tv off
  if regTV off && tripleOff t then
    voteFixed { s with reg := { s.reg with tv := sset tvD s.reg.tv off ⟨t.maj, t.maj, t.maj⟩ } } off
  else s

/-- An internal use of the entry of the route table for device d (R69, R162). -/
def voteRoute (s : State) (d : Nat) : State := [0x0, 0x4, 0x8].foldl (fun s r => voteReg s (dirReg (0x1000 + r + 0x10 * d))) s

/-- Internal uses of the address map and of the compatibility select (R36, R37, R69, R162): what every decode votes. -/
def voteMap (s : State) : State :=
  (List.range 16).foldl voteRoute (voteReg (voteReg (voteReg s 0x8) (bootReg 0x14)) (bootReg 0x18))

/-- The next free value (log entry 3). -/
def State.free (s : State) : State × BitVec 512 := ({ s with freeCtr := s.freeCtr + 1 }, freeBits s.freeCtr)

/-- The next free choice (log entry 3). -/
def State.freeB (s : State) : State × Bool := ({ s with freeCtr := s.freeCtr + 1 }, freeBool s.freeCtr)

/-! ## Ports -/

def State.port (s : State) (p : Nat) : Port := sget portD s.ports p
def State.modPort (s : State) (p : Nat) (f : Port → Port) : State :=
  { s with ports := smod portD s.ports p f }

def State.isFabric (s : State) (p : Nat) : Bool := s.bit (portReg p 0) 0
def State.isCxPort (s : State) (p : Nat) : Bool := s.bit (portReg p 0) 3
def State.portEn (s : State) (p : Nat) : Bool := s.bit (portReg p 4) 0
/-- The agents AGENT_EN enables on a host port (R33, R96): bit 0 agent 2p, bit 1 agent 2p + 1. -/
def State.agentEn (s : State) (p : Nat) : Nat := if s.isFabric p then 0 else s.fld (portReg p 0) 4 2

/-- Local number l names an enabled host agent of a present port (R33). -/
def State.hostAgent (s : State) (l : Nat) : Bool :=
  decide (l < 32) && s.portPresent (l / 2) && (s.agentEn (l / 2)).testBit (l % 2)

/-- The INFO word of a PORT error event (R428). -/
def portInfo (s : State) (p vc : Nat) : Word :=
  w32 ((s.port p).st.code + 16 * (s.port p).lastFail + 256 * s.fld (portReg p 0x10) 0 8 + 65536 * vc)

/-- Set bit i of PORT_ERR of port p and raise its event (R137, R412). -/
def State.portErr (s : State) (p i vc : Nat) : State := s.setErr (portReg p 0xC) i (0x10 + p) (portInfo s p vc)

/-- The port can carry a message: ACTIVE, RECOVER or LINK_IDLE, its domain not Cold (R166). -/
def State.canCarry (s : State) (p : Nat) : Bool :=
  s.portPresent p && !(s.domSt (4 + p) == .cold) &&
  ((s.port p).st == .active || (s.port p).st == .recover || (s.port p).st == .linkIdle)

/-! ## Messages -/

/-- The opcodes of the message catalogue (R144). -/
def opcRD_SHARED := 0x01
def opcRD_OWN := 0x02
def opcRD_UC := 0x03
def opcUPGRADE := 0x04
def opcWR_LINE := 0x08
def opcWR_PART := 0x09
def opcZERO_LINE := 0x0A
def opcAMO := 0x10
def opcMAINT := 0x18
def opcPREFETCH := 0x19
def opcSNP_SHARED := 0x20
def opcSNP_INV := 0x21
def opcSNP_LEAD := 0x22
def opcSNP_ACK_I := 0x30
def opcSNP_ACK_S := 0x31
def opcSNP_DATA_I := 0x32
def opcSNP_DATA_S := 0x33
def opcSNP_GONE := 0x34
def opcSNP_MISS := 0x35
def opcEVICT_CLEAN := 0x38
def opcEVICT_DIRTY := 0x39
def opcGACK := 0x3A
def opcDATA_S := 0x40
def opcDATA_L := 0x41
def opcDATA_X := 0x42
def opcDATA_UC := 0x44
def opcGRANT_X := 0x45
def opcWR_DONE := 0x48
def opcCMP := 0x49
def opcAMO_DATA := 0x4A
def opcEVICT_DONE := 0x4B
def opcMSG_DONE := 0x4C
def opcNO_TARGET := 0x4F
def opcAGENT_MSG := 0x50
def opcEVENT_MSG := 0x58
def opcPURGE_NOTICE := 0x5C

/-- Opcodes whose message carries an address in words 2 and 3 (R141, R144). -/
def hasAddr (opc : Nat) : Bool := decide (opc < 0x40)

/-- The length of a message in words (R139). -/
def msgLen (m : Msg) : Nat := 2 + (if hasAddr m.opc then 2 else 0) + m.body.length

/-- The request channels (R115). -/
def isReq (m : Msg) : Bool := decide (m.opc < 0x20)
def isSnp (m : Msg) : Bool := decide (0x20 ≤ m.opc) && decide (m.opc < 0x30)

/-- The virtual channel of an opcode; REQ stands for REQ and FREQ (R144). -/
def vcOf (opc : Nat) : Nat :=
  if opc < 0x20 then 0 else if opc < 0x30 then 1 else if opc < 0x40 then 2 else if opc < 0x50 then 3 else 4

/-- A message of this device's home agent to `dst`. -/
def State.mkMsg (s : State) (opc : Nat) (dst : AgentId) (tag : Tag) (param : Nat) (poison : Bool) (addr : PA)
    (body : List Word) : Msg :=
  { opc := opc, vc := vcOf opc, src := s.home, dst := dst, tag := tag, priv := false, hop := false,
    poison := poison, param := BitVec.ofNat 8 param, addr := addr, body := body }

/-- A response of this device's home agent (R145). -/
def State.mkRsp (s : State) (opc : Nat) (dst : AgentId) (tag : Tag) (body : List Word) : Msg :=
  s.mkMsg opc dst tag 0 false 0 body

/-- A response (R144). -/
def isRsp (m : Msg) : Bool := decide (0x40 ≤ m.opc) && decide (m.opc < 0x50)

/-- Note something of the followed request of a requester and tag whose response has not left (R406–R408). -/
def State.blotNote (s : State) (src : AgentId) (tag : Tag) (f : Follow → Follow) : State :=
  { s with tel := { s.tel with blot := { s.tel.blot with follows := s.tel.blot.follows.map fun w =>
      if w.src = src ∧ w.tag = tag ∧ w.left = none then f w else w } } }

/-- The followed requests that a test selects, of those whose response has not left, are lost: their places are free (R406). -/
def State.blotLose (s : State) (p : Follow → Bool) : State :=
  { s with tel := { s.tel with blot := { s.tel.blot with
      follows := s.tel.blot.follows.filter fun w => !(w.left.isNone && p w) } } }

/-- A response leaves the device toward its requester, or is delivered to its cluster or engine (R406). -/
def State.blotLeave (s : State) (m : Msg) : State :=
  if isRsp m then s.blotNote m.dst m.tag fun w =>
    { w with left := some s.tb.count.toNat, poison := m.poison, outcome := if m.opc = opcNO_TARGET then some 9 else w.outcome }
  else s

/-- A response will not leave (R406). -/
def State.blotLost (s : State) (m : Msg) : State :=
  if isRsp m then s.blotLose fun w => w.src == m.dst && w.tag == m.tag else s

/-- This device refuses a request: the moment of the refusal (R408). -/
def State.blotRefuse (s : State) (m : Msg) : State :=
  if m.opc = opcNO_TARGET ∧ m.src = s.home then
    s.blotNote m.dst m.tag fun w => { w with acc := some s.tb.count.toNat, outcome := some 9 }
  else s

/-- A discarded message is an uncorrected-contained error (R160, R166, R420, R430). -/
def State.discard (s : State) (p : Nat) (m : Msg) : State :=
  (s.blotLost m).setErr (evtReg 0x20) 7 0x03 (w32 (p % 16 + 16 * m.opc + 2048 * m.dst.toNat))

/-- Queue a message at a port (R157: in order); HOP is 0 on a host port (R143). -/
def State.enqueue (s : State) (p : Nat) (m : Msg) : State :=
  s.modPort p fun x => { x with egress := x.egress ++ [{ m with hop := m.hop && s.isFabric p }] }

/-- The entry of the route table for device d: its port, where the entry is valid (R162, R164). -/
def State.routePort (s : State) (d : Nat) : Option Nat :=
  let p := s.fld (dirReg (0x1000 + 0x10 * d)) 4 4
  if s.fwdPresent && decide (d ≠ s.devNum) && s.bit (dirReg (0x1000 + 0x10 * d)) 0 && s.isFabric p
  then some p else none

/-- The way to a device is looked up: the entry of another device is voted (R69). -/
def voteDevice (s : State) (d : Nat) : State := if d = s.devNum then s else voteRoute s d

/-- The port that carries messages to an agent, and whether there is one: the agent's host port on this device,
the routed fabric port for another device (R46). -/
def State.portFor (s : State) (a : AgentId) : Option Nat :=
  if a.dev = s.devNum then (if s.hostAgent a.loc then some (a.loc / 2) else none) else s.routePort a.dev

/-- Two messages whose order is kept (R157): on the request channels or one other channel, from one source; requests and
snoop answers of one line, other messages to one destination. -/
def sameOrder (a b : Msg) : Bool :=
  (a.vc == b.vc || (isReq a && isReq b)) && a.src == b.src &&
  (if hasAddr a.opc && hasAddr b.opc then a.addr.toNat / 64 == b.addr.toNat / 64 else a.dst == b.dst)

/-- The spine holds a message for another agent (R163). -/
def State.hold (s : State) (m : Msg) (ingress : Option Nat) (admitted : Bool) : State :=
  { s with spine := { s.spine with fwd := s.spine.fwd ++ [⟨m, ingress, admitted⟩] } }

/-- A message of this device leaves by a port that can carry it. One for a fabric port passes the forwarding unit of that port,
which wakes with its half, and it waits until the unit is Lit and behind an earlier one of its order (R157, R450). In the fatal
state nothing waits (R431). -/
def State.depart (s : State) (p : Nat) (m : Msg) : State :=
  if s.isFabric p && !s.boot.fatal && (!s.domLit (62 + p / 8) || s.spine.fwd.any fun h => sameOrder h.msg m)
  then (s.wake (62 + p / 8)).hold m none true
  else s.enqueue p m

/-- Deliver a response, snoop response or event message; discard it where it cannot go (R166). -/
def State.sendPlain (s : State) (m : Msg) : State :=
  let s := s.blotRefuse m
  if m.dst.dev = s.devNum ∧ 32 ≤ m.dst.loc then { s with spine := { s.spine with rsp := s.spine.rsp ++ [m] } }
  else
    let s := voteDevice s m.dst.dev
    match s.portFor m.dst with
    | some p => if s.canCarry p then s.depart p m else s.discard p m
    | none => s.discard 0 m

/-- A snoop of this device's own slices to this agent leaves: a port that can carry it is there (R166). -/
def State.snoopLeaves (s : State) (a : AgentId) : Bool :=
  match s.portFor a with
  | some p => s.canCarry p
  | none => false

/-- Send a snoop of this device's own slices; where it cannot go nothing is sent, and the slice takes it as unanswered
(R166, R169, log entry 12). -/
def State.sendSnoop (s : State) (m : Msg) : State :=
  let s := voteDevice (voteReg s (bootReg 0x14)) m.dst.dev
  match s.portFor m.dst with
  | some p => if s.canCarry p then s.depart p m else s
  | none => s

/-- Refuse a message: NO_TARGET with a reason to its source (R152). -/
def State.refuse (s : State) (m : Msg) (reason : Nat) : State :=
  s.sendPlain (s.mkRsp opcNO_TARGET m.src m.tag [w32 reason])

/-- The response a refusal is counted at: the port the message came from (R393 slot 12). -/
def State.refuseAt (s : State) (ingress : Option Nat) (m : Msg) (reason : Nat) : State :=
  match ingress with
  | some p => (s.refuse m reason).count p 12 1
  | none => s.refuse m reason

/-- Free the receive-buffer words of a message taken from port p; they wait to be returned as credits (R116). -/
def freeWords (m : Msg) (x : Port) : Port := { x with rxFreed := lmod x.rxFreed m.vc (· + msgLen m) }

/-- Find the first message in the receive buffers that a test selects: the port and the message. -/
def State.findRx (s : State) (p : Msg → Bool) : Option (Nat × Msg) :=
  (List.range nPorts).findSome? fun i => ((s.port i).rxq.find? p).map fun m => (i, m)

/-- Take the message that a command stands for out of the queue that holds it: a port's receive buffer (its
words are then freed) or the spine. A message held nowhere has just arrived (log entry 11). -/
def State.takeMsg (s : State) (p : Msg → Bool) : State × Option Nat :=
  match s.findRx p with
  | some (i, m) => (s.modPort i fun x => freeWords m { x with rxq := eraseFirst p x.rxq }, some i)
  | none => ({ s with spine := { s.spine with req := eraseFirst p s.spine.req, rsp := eraseFirst p s.spine.rsp,
                                               fwd := eraseFirst (fun h => p h.msg) s.spine.fwd } },
             (s.spine.fwd.find? fun h => p h.msg).bind fun h => h.from_)

/-- The message that a command stands for, wherever it is held. -/
def State.heldMsg (s : State) (p : Msg → Bool) : Option Msg :=
  match s.findRx p with
  | some (_, m) => some m
  | none => match s.spine.rsp.find? p with
    | some m => some m
    | none => match s.spine.fwd.find? fun h => p h.msg with
      | some h => some h.msg
      | none => s.spine.req.find? p

/-- The elements of a list before the first that a test selects. -/
def beforeFirst {α : Type} (p : α → Bool) : List α → List α
  | [] => []
  | x :: t => if p x then [] else x :: beforeFirst p t

/-- The held messages that came before the one a test selects, or before a new one where none is selected: what the spine
holds came before what a receive buffer holds. Responses of one source to one agent keep their order on the spine too, as
they do on a link: so a load whose data left the home before a write of its line was performed takes it before the write's
completion empties the gather buffer (R304, R308; log entry 83). -/
def State.before (s : State) (p : Msg → Bool) : List Msg :=
  let fwd := s.spine.fwd.map fun h => h.msg
  match s.findRx p with
  | some (i, _) => fwd ++ beforeFirst p (s.port i).rxq
  | none =>
    if s.spine.rsp.any p then beforeFirst p s.spine.rsp
    else if fwd.any p then beforeFirst p fwd
    else if s.spine.req.any p then fwd ++ beforeFirst p s.spine.req
    else s.spine.rsp ++ fwd ++ s.spine.req ++ (List.range nPorts).flatMap fun i => (s.port i).rxq

/-- An earlier message must be taken before the one that a command stands for (R157). -/
def State.mustWait (s : State) (p : Msg → Bool) (m : Msg) : Bool := (s.before p).any (sameOrder m)

/-- A message that cannot be taken yet stays where it is held; one held nowhere is held by the spine. -/
def State.holdMsg (s : State) (p : Msg → Bool) (m : Msg) (ingress : Option Nat) : State :=
  if (s.heldMsg p).isSome then s else s.hold m ingress false

/-- The spine has admitted the request that a test selects (R405): one of the device's own agents, or one it holds since. -/
def State.wasAdmitted (s : State) (p : Msg → Bool) : Bool :=
  s.spine.req.any p || ((s.spine.fwd.find? fun h => p h.msg).map (·.admitted)).getD false

/-- The test that selects a message by opcode, source, tag and address. -/
def sameMsg (opc : Nat) (src : AgentId) (tag : Tag) (addr : PA) (m : Msg) : Bool :=
  m.opc == opc && m.src == src && m.tag == tag && m.addr == addr

/-- The privilege attribute a request of `src` may carry: a host port without PRIV_EN removes it (R63). -/
def State.privOf (s : State) (src : AgentId) (priv : Bool) : Bool :=
  if src.dev = s.devNum ∧ src.loc < 32 then priv && s.bit (portReg (src.loc / 2) 0) 8 else priv

/-! ## Address classes (R36–R39) -/

/-- The home window in GiB (R36). -/
def State.homeGiB (s : State) : Nat :=
  if s.compat then 64 else if s.devId = 0x8632 then 144 else if s.devId = 0x8610 then 96 else 192

inductive AddrClass
  | cw (off : Nat)
  | home (off : Nat)
  | route (d : Nat)
  | nothing
  deriving DecidableEq, Repr

/-- The home window size of a route entry in 16 GiB units; other values act as 0 (R164). -/
def routeSize (v : Nat) : Nat := if v = 4 ∨ v = 6 ∨ v = 9 ∨ v = 12 then v else 0

/-- A route entry covers an address (R165). -/
def State.routeCovers (s : State) (d a : Nat) : Bool :=
  let h := dirReg (0x1004 + 0x10 * d)
  let c := dirReg (0x1008 + 0x10 * d)
  (s.routePort d).isSome &&
  ((decide (s.fld h 0 14 * 2 ^ 38 ≤ a) && decide (a < s.fld h 0 14 * 2 ^ 38 + routeSize (s.fld h 16 5) * 2 ^ 34)) ||
   (s.bit c 31 && decide (a / 2 ^ 26 = s.fld c 0 26)))

/-- What an address names, by the first row of R39 that applies. -/
def State.classify (s : State) (pa : PA) : AddrClass :=
  let a := pa.toNat
  if a / 2 ^ 26 = s.fld (bootReg 0x18) 0 26 then .cw (a % 2 ^ 26)
  else if a / 2 ^ 38 = s.fld (bootReg 0x14) 0 14 ∧ a % 2 ^ 38 < s.homeGiB * 2 ^ 30 then .home (a % 2 ^ 38)
  else match (List.range 16).find? fun d => s.routeCovers d a with
    | some d => .route d
    | none => .nothing

/-! ## Lifts of unit meanings to outcomes -/

/-- A command on a unit that exists has its effect; on any other it faults. -/
def onUnit (n i : Nat) (t : State) : Host.Outcome State Fault Refusal :=
  if i < n then .next t else .fault .noSuchUnit

end Sys2Proof.Machine
end

