-- ==== Sys2Proof/Machine/Flags.lean ====
section
/-! DEFINITION. The status flags of the register interface: what sets and clears W1C bits, BLK_STATUS and BLK_LAST_VIOL
(R58, R59, R67, R78), vote repair (R69–R72), the locks of W1L registers. -/
namespace Sys2Proof.Machine

/-! ## Masters (R62) -/

/-- The number a master is known by: its agent ID, or beyond them the management port and the boot sequencer. -/
def masterKey : Master → Nat
  | .agent a _ => a.toNat
  | .mgmt => 1024
  | .boot => 1025

/-- Secure masters (R62, R64). -/
def masterSecure : Master → Bool
  | .agent _ _ => false
  | _ => true

/-- Privileged or secure (R65, R66). -/
def masterPriv : Master → Bool
  | .agent _ p => p
  | _ => true

/-- MASTER and SECURE as BLK_LAST_VIOL and the lock-violation event carry them (R67, R412): bits [25:16] and [26]. -/
def masterBits : Master → Nat
  | .agent a _ => 2 ^ 16 * a.toNat
  | .mgmt => 2 ^ 26
  | .boot => 2 ^ 26 + 2 ^ 16

/-! ## Block status (R67) -/

/-- OFFSET and DOORBELL for an access at a native offset (R67, R361): bits [15:0] and [27]. -/
def violOffset (off : Nat) : Nat :=
  match blockAt off with
  | .doorbell _ => (off - 0x1000000) % 0x10000 + 2 ^ 27
  | b => (off - b.base) % 0x10000

/-- A BLK_STATUS bit sets and the fields of BLK_LAST_VIOL are overwritten (R67); the device counter of the kind counts
(R393). -/
def noteViol (s : State) (m : Master) (off bit cause slot : Nat) : State :=
  let b := blockAt off
  let s := (s.setFld b.statusOff bit 1 1).setFld b.violOff 0 30 (violOffset off + masterBits m + 2 ^ 28 * cause)
  s.count 53 slot 1

/-- A malformed access, or a discarded low word (R52, R75). -/
def accessErr (s : State) (m : Master) (off : Nat) : State := noteViol s m off 2 3 7

/-- A write to guarded fields is refused (R55). -/
def guardDeny (s : State) (m : Master) (off : Nat) : State := noteViol s m off 3 2 6

/-- A lock violation of the register at `reg`, in an access at `off` (R59): the event only when LOCK_VIOL rises. -/
def lockViol (s : State) (m : Master) (off reg : Nat) : State :=
  let b := blockAt reg
  let was := s.bit b.statusOff 0
  let s := noteViol s m off 0 1 5
  if was then s else s.raise (blockSource b) 1 (w32 ((reg - b.base) % 0x10000 + masterBits m))

/-! ## Votes (R69–R71) -/

/-- Vote the lock of a W1L register (R72). -/
def voteLock (s : State) (off : Nat) : State :=
  let t := sget lockD s.reg.locks off
  if tripleOff t then
    voteFixed { s with reg := { s.reg with locks := sset lockD s.reg.locks off ⟨t.maj, t.maj, t.maj⟩ } } off
  else s

/-- Vote the fuse shadow (R69, R421): a repair counts at the BOOT block, which lies with the fuses in domain 1 (DESIGN CHOICE, log
entry 82). -/
def voteFuses (s : State) : State :=
  let t := s.boot.copies
  if t = FuseCopies.of t.maj then s
  else voteFixed { s with boot := { s.boot with copies := FuseCopies.of t.maj } } (bootReg 0)

/-- Internal uses of the budget fields (R69, R461, R469): what every damper pass and every step of the voltage votes. -/
def voteBudget (s : State) : State := voteReg (voteReg (voteReg s (pwrReg 0)) (pwrReg 4)) (pwrReg 8)

/-- Internal uses of the compatibility select, of the lifecycle state and of the fuses (R69): what every control-window access
votes. -/
def voteMode (s : State) : State := voteFuses (voteReg (voteReg s 0x8) (bootReg 0))

/-- The W1L register at an offset is locked (R58). -/
def locked (s : State) (off : Nat) : Bool := (sget lockD s.reg.locks off).maj.getLsbD 0

/-- Lock a W1L register: its first write took effect (R58). -/
def lockReg (s : State) (off : Nat) : State :=
  { s with reg := { s.reg with locks := sset lockD s.reg.locks off ⟨1, 1, 1⟩ } }

/-- Bits of one copy of a triple flip. -/
def Triple.hit (t : Triple) (copy : Nat) (bits : Word) : Triple :=
  if copy = 0 then { t with a := t.a ^^^ bits } else if copy = 1 then { t with b := t.b ^^^ bits }
  else { t with c := t.c ^^^ bits }

/-- A strike on one copy (R69): of a lock where the offset carries bit 26, else of the voted fields of a register. -/
def strikeVoted (s : State) (off copy : Nat) (bits : Word) : State :=
  if 2 ^ 26 ≤ off then
    { s with reg := { s.reg with locks := smod lockD s.reg.locks (off - 2 ^ 26) fun t => t.hit copy (bits &&& 1) } }
  else if regTV off then
    { s with reg := { s.reg with tv := smod tvD s.reg.tv off fun t => t.hit copy (bits &&& tvMask off) } }
  else s

/-- Bits of the word at an offset of the fuse shadow flip (R478). -/
def Fuses.hit (f : Fuses) (off : Nat) (bits : Word) : Fuses :=
  match off with
  | 0x0 => { f with devId := f.devId ^^^ bits.setWidth 16, stepping := f.stepping ^^^ bits.extractLsb' 16 8 }
  | 0x4 => { f with serial := f.serial ^^^ bits.setWidth 64 }
  | 0x8 => { f with serial := f.serial ^^^ bits.setWidth 64 <<< 32 }
  | 0x14 => { f with lifecycle := f.lifecycle ^^^ bits.setWidth 2 }
  | 0x18 => { f with compatLock := f.compatLock ^^ bits.getLsbD 0, keySet := f.keySet ^^ bits.getLsbD 1 }
  | 0x80 => { f with badRows := f.badRows ^^^ bits.setWidth 8 }
  | n => if 0x20 ≤ n ∧ n < 0x50 ∧ n % 4 = 0 then { f with keyHash := f.keyHash ^^^ bits.setWidth 384 <<< (8 * (n - 0x20)) } else f

/-- A strike on one copy of the fuse shadow (R69, R421). -/
def strikeFuse (s : State) (off copy : Nat) (bits : Word) : State :=
  let t := s.boot.copies
  { s with boot := { s.boot with copies :=
      if copy = 0 then { t with a := t.a.hit off bits } else if copy = 1 then { t with b := t.b.hit off bits }
      else { t with c := t.c.hit off bits } } }

/-- The sweep votes every register whose copies are listed (R71); the others hold equal copies. -/
def voteSweep (s : State) : State :=
  let s := (s.reg.tv.map fun e => e.1).foldl voteReg s
  voteFuses ((s.reg.locks.map fun e => e.1).foldl voteLock s)

end Sys2Proof.Machine
end

