-- ==== Sys2Proof/Machine/Grants.lean ====
section
/-! DEFINITION. What the damper's grants allow a consumer: costs (R463) and the rate limit (R464). -/
namespace Sys2Proof.Machine
open Config

/-- The voltage at which costs are computed (R463, R471). -/
def costV (s : State) : Nat := if s.damper.avsHold then 880 else s.damper.target

/-- A cost at v millivolts (R463). -/
def scaleCost (v x : Nat) : Nat := (x * v * v + 562499) / 562500

/-- What a consumer is always granted, and its full extra, at 0.75 V (R463). -/
def consumer (s : State) (d : Nat) : Nat × Nat :=
  let on := s.domSt d == .lit || s.domSt d == .banked
  if s.domPresent d = false then (0, 0)
  else if 4 ≤ d ∧ d < 20 then
    (if !on then 0 else match (s.port (d - 4)).st with
      | .linkIdle => 4
      | .down | .quiesce | .disabled => freePortCost
      | _ => 20, 0)
  else if 20 ≤ d ∧ d < 36 then (if on then (7, 18) else (0, 0))
  else if 36 ≤ d ∧ d < 44 then (if on then (18, 36) else (2, 0))
  else if 44 ≤ d ∧ d < 60 then (if on then (1, 10) else (0, 0))
  else (0, 0)

/-- A grant of e tokens made at v millivolts, at w millivolts (R463). -/
def rescale (v w e : Nat) : Nat := if v = 0 then e else (e * w * w + v * v - 1) / (v * v)

/-- The extra that a domain holds, in tokens at v millivolts (R463, R469): always reckoned from the grant as it was made. -/
def State.extraOf (s : State) (d v : Nat) : Nat := rescale (s.dom d).extraAt v (s.dom d).extra

/-- The part of a consumer's cost that is no activity: its floor at 0.75 V (R463). -/
def floorCost (d : Nat) : Nat := if 20 ≤ d ∧ d < 36 then 4 else if 36 ≤ d ∧ d < 44 then 12 else 0

/-- The share of its full rate that a domain may run at (R464), as numerator and denominator: (g - floor) and (full - floor). -/
def rateShare (s : State) (d : Nat) : Nat × Nat :=
  let v := costV s
  let c := consumer s d
  let fl := scaleCost v (floorCost d)
  (scaleCost v c.1 + s.extraOf d v - fl, scaleCost v (c.1 + c.2) - fl)

/-- A domain that has done so many activities in the window of 1 µs is held (R464): it does not hold its full grant, and the
count has reached its share of the full rate. How many activities a domain makes at full rate depends on the part and its
corner, and the manual gives no number (log entry 77); one activity a window is always made. -/
def rateHeld (s : State) (d done : Nat) : Bool :=
  let r := rateShare s d
  done != 0 && decide (r.1 < r.2) && decide (fullRate d * r.1 ≤ done * r.2)

/-- The accumulator that counts the activities of domain d in the present window (R464), beyond those of the counters. -/
def paceKey (d : Nat) : Nat := 2048 + d

/-- One activity more of domain d in the window. -/
def State.pace (s : State) (d : Nat) : State := { s with acc := smod zeroD s.acc (paceKey d) (· + 1) }

/-- The activities of domain d in the window. -/
def State.paced (s : State) (d : Nat) : Nat := sget zeroD s.acc (paceKey d)

/-- The domain does not hold its full grant (R464). -/
def limited (s : State) (d : Nat) : Bool := decide ((rateShare s d).1 < (rateShare s d).2)

/-- One instruction more of core k in the window: of its cluster and of itself. -/
def State.paceCore (s : State) (k : Nat) : State := (s.pace (44 + k / 8)).pace (64 + k)

/-- A window of 1 µs ends. -/
def State.newWindow (s : State) : State := { s with acc := s.acc.filter fun e => decide (e.1 < 2048) }

end Sys2Proof.Machine
end

