-- ==== Sys2Proof/Machine/HbmQ.lean ====
section
/-! DEFINITION. The slice hash (R202–R204), the HBM address map (R250), the line decoder (R253–R255) and the
queues of the pseudo-channel controllers (R256–R261). A home line is named by its number PA[37:6]. -/
namespace Sys2Proof.Machine
open Config

/-- Parity of the bits of a number under a mask of 48 bits. -/
def parity (v : Nat) : Nat := ((List.range 48).filter fun i => v.testBit i).length % 2

/-- The hash masks of R202. -/
def hashMasks (ten : Bool) : List Nat :=
  if ten then [0x249249249240, 0x492492492480, 0x924924924900]
  else [0x444444444440, 0x888888888880, 0x111111111100, 0x222222222200]

/-- The slice of an address (R202). -/
def sliceHash (ten : Bool) (pa : Nat) : Nat :=
  (hashMasks ten).foldr (fun m acc => parity (pa &&& m) + 2 * acc) 0

/-- The device is an NT-8610. -/
def State.ten (s : State) : Bool := s.devId == 0x8610

/-- The address of a home line. -/
def State.linePA (s : State) (line : Nat) : Nat := s.fld (bootReg 0x14) 0 14 * 2 ^ 38 + line * 64

/-- The slice that homes a line of the home window. -/
def State.sliceOf (s : State) (line : Nat) : Nat := sliceHash s.ten (s.linePA line)

/-- The line number of an address in the home window. -/
def lineOf (pa : PA) : Nat := pa.toNat % 2 ^ 38 / 64

/-- The set index of a line (R203). -/
def State.setOf (s : State) (line : Nat) : Nat := if s.ten then bitsOf line 3 16 else bitsOf line 4 16

/-- Where a line lies in the stacks (R250): pseudo-channel index P, SID, bank code, row, column. -/
structure DramLoc where
  pc : Nat
  sid : Nat
  bank : Nat
  row : Nat
  col : Nat
  deriving DecidableEq, Repr

/-- The address map (R250). -/
def hbmLoc (ten : Bool) (line : Nat) : DramLoc :=
  if ten then
    let t := bitsOf line 27 4
    { pc := bitsOf line 4 6 ^^^ bitsOf line 14 6, sid := t / 3,
      bank := bitsOf line 10 4 ^^^ bitsOf line 20 4 ^^^ bitsOf line 24 4,
      row := t % 3 * 8192 + bitsOf line 14 13, col := bitsOf line 0 4 }
  else
    let t := bitsOf line 28 4
    { pc := bitsOf line 4 7 ^^^ bitsOf line 15 7, sid := t / 3,
      bank := bitsOf line 11 4 ^^^ bitsOf line 22 4 ^^^ bitsOf line 26 4,
      row := t % 3 * 8192 + bitsOf line 15 13, col := bitsOf line 0 4 }

/-- The line that a place in the stacks holds (R251: the map is one-to-one). -/
def hbmLine (ten : Bool) (l : DramLoc) : Nat :=
  let t := 3 * l.sid + l.row / 8192
  let r := l.row % 8192
  if ten then
    -- PA[20+12:20] = r, PA[36:33] = t; PA[29:26] = r[9:6], PA[33:30] = t[0] r[12:10]
    let b := l.bank ^^^ bitsOf r 6 4 ^^^ (bitsOf r 10 3 + t % 2 * 8)
    l.col + (l.pc ^^^ bitsOf r 0 6) * 2 ^ 4 + b * 2 ^ 10 + r * 2 ^ 14 + t * 2 ^ 27
  else
    -- PA[33:21] = r, PA[37:34] = t; PA[31:28] = r[10:7], PA[35:32] = t[1:0] r[12:11]
    let b := l.bank ^^^ bitsOf r 7 4 ^^^ (bitsOf r 11 2 + t % 4 * 4)
    l.col + (l.pc ^^^ bitsOf r 0 7) * 2 ^ 4 + b * 2 ^ 11 + r * 2 ^ 15 + t * 2 ^ 28

/-- The power domain of pseudo-channel P (R247). -/
def pcDomain (p : Nat) : Nat := 36 + 2 * (p / 32) + p % 32 / 16

def State.pc (s : State) (p : Nat) : Pc := sget pcD s.pcs p
def State.modPc (s : State) (p : Nat) (f : Pc → Pc) : State := { s with pcs := smod pcD s.pcs p f }
def State.slice (s : State) (i : Nat) : Slice := sget sliceD s.slices i
def State.modSlice (s : State) (i : Nat) (f : Slice → Slice) : State :=
  { s with slices := smod sliceD s.slices i f }
def State.stackSt (s : State) (k : Nat) : Stack := sget stackD s.hstacks k
def State.modStack (s : State) (k : Nat) (f : Stack → Stack) : State :=
  { s with hstacks := smod stackD s.hstacks k f }
def State.hbmAt (s : State) (line : Nat) : HbmLine := sget hbmLineD s.hbm line
def State.setHbm (s : State) (line : Nat) (l : HbmLine) : State := { s with hbm := sset hbmLineD s.hbm line l }

/-! ## The line decoder (R253–R255) -/

/-- The bits in error of a symbol. -/
def symXor (errs : List SymErr) (i : Nat) : Byte :=
  errs.foldl (fun a e => if e.sym = i then a ^^^ e.bits else a) 0

/-- The wrong symbols, lowest first. -/
def badSyms (errs : List SymErr) : List Nat := (List.range 72).filter fun i => symXor errs i != 0

/-- The data bytes as stored. -/
def corrupt (d : LineData) (errs : List SymErr) : LineData :=
  d ^^^ BitVec.ofNat 512 ((List.range 64).foldl (fun a i => a + (symXor errs i).toNat * 2 ^ (8 * i)) 0)

/-- What a decode reports (R255): nothing, a corrected error, an uncorrectable error, stored poison. -/
inductive Report | none | ce | ue | stored
  deriving DecidableEq, Repr

/-- The outcome of decoding a line: data, poison, report, corrected symbols. -/
structure Decoded where
  data : LineData
  poison : Bool
  rep : Report
  syms : List Nat
  deriving DecidableEq, Repr

/-- The data bytes of a line as symbols 0–63 (R253). -/
def dataSyms (d : LineData) : List Nat := (List.range 64).map fun i => (lineByte d i).toNat

/-- The eight check symbols of a line's data (R254). -/
def checkSyms (d : LineData) : List Nat := rsRem (rsGen 8) (dataSyms d)

/-- The poison pattern on the check symbols (R255). -/
def poisonSyms : List Nat := List.replicate 64 0 ++ List.replicate 8 0xB6

/-- The sum of two lists of symbols. -/
def addSyms (a b : List Nat) : List Nat := List.zipWith (fun x y => x ^^^ y) a b

/-- The 72 symbols that the stack holds of a line (R253–R255): data, check symbols, the poison pattern where the line was
written poisoned, and what has gone wrong since. -/
def HbmLine.symbols (h : HbmLine) : List Nat :=
  let written := dataSyms h.data ++ checkSyms h.data
  addSyms (if h.poison then addSyms written poisonSyms else written) ((List.range 72).map fun i => (symXor h.errs i).toNat)

/-- Where a symbol travels (R253): the burst, 0 at burst address 2C and 1 at 2C + 1, and the lane: 0–31 are DQ, 32–35 ECC.
Bit j of the symbol is on beat j. -/
def symPlace (n : Nat) : Nat × Nat := if n < 64 then (n / 32, n % 32) else ((n - 64) / 4, 32 + (n - 64) % 4)

/-- The symbol that a lane carries in a burst (R253). -/
def symAt (burst lane : Nat) : Nat := if lane < 32 then 32 * burst + lane else 64 + 4 * burst + (lane - 32)

/-- The levels of the 36 lanes on beat j of a burst of a line (R253). -/
def beatBits (h : HbmLine) (burst j : Nat) : List Bool :=
  (List.range 36).map fun lane => (h.symbols.getD (symAt burst lane) 0).testBit j

/-- The line whose symbols differ from those of `d` by a list of symbols: its data. -/
def moveData (d : LineData) (e : List Nat) : LineData :=
  d ^^^ BitVec.ofNat 512 ((List.range 64).foldl (fun a i => a + nth e i * 2 ^ (8 * i)) 0)

/-- Decode a line with its wrong symbols (R254, R255). The code is linear, so what the decoder finds depends on how the
symbols read differ from the codeword of the data written: by the wrong symbols, and by the poison pattern where the line
was written poisoned. One or two wrong symbols are corrected, three or four detected. Five or more may come to lie within
two symbols of another codeword, or of another codeword with the poison pattern: then the first, else the third row of
R255 holds of them; otherwise they decode as a free value says (log entry 3): detected, or miscorrected into free data
reported as corrected or as no error. -/
def decodeLine (s : State) (d : LineData) (poison : Bool) (errs : List SymErr) : State × Decoded :=
  let bad := badSyms errs
  if bad.length = 0 then (s, ⟨d, poison, if poison then .stored else .none, []⟩)
  else if bad.length ≤ 2 then
    (s, if poison then ⟨corrupt d errs, true, .stored, []⟩ else ⟨d, false, .ce, bad⟩)
  else if bad.length ≤ 4 then (s, ⟨corrupt d errs, true, .ue, []⟩)
  else
    let plain := (List.range 72).map fun i => (symXor errs i).toNat
    let other := addSyms plain poisonSyms
    let read := if poison then other else plain
    match rsFix 72 read, rsFix 72 (if poison then plain else other) with
    | some fix, _ =>
      let wrong := fix.foldl (fun l e => lmod l e.1 (· ^^^ e.2)) read
      (s, ⟨moveData d wrong, false, if fix = [] then .none else .ce, fix.map fun e => e.1⟩)
    | none, some _ => (s, ⟨corrupt d errs, true, .stored, []⟩)
    | none, none =>
      let (s, v) := s.free
      match freeDecode s.freeCtr with
      | none => (s, ⟨corrupt d errs, true, .ue, []⟩)
      | some d' =>
        let (s, b) := s.freeB
        let (s, two) := s.freeB
        (s, ⟨d', false, if b then .ce else .none,
          if b then (if two then [v.toNat % 72, v.toNat / 128 % 72] else [v.toNat % 72]) else []⟩)

/-! ## Returns to the slices -/

/-- A line on its way back to its slice. -/
def returnLine (s : State) (line : Nat) (d : LineData) (poison kindle : Bool) : State :=
  s.modSlice (s.sliceOf line) fun x => { x with ret := x.ret ++ [⟨line, d, poison, kindle⟩] }

/-! ## Queues (R258–R261) -/

/-- The write entries in the queues: the flue queue's, and the first n of the write queue; write-backs beyond them wait at
the spine (R258, log entry 78). -/
def takeWr : Nat → List WrEntry → List WrEntry
  | _, [] => []
  | 0, e :: t => if e.flue then e :: takeWr 0 t else takeWr 0 t
  | n + 1, e :: t => e :: takeWr (if e.flue then n + 1 else n) t

/-- The entries of the write queue, of 64 places, and of the flue queue. -/
def wrInQueue (x : Pc) : List WrEntry := takeWr 64 x.wrq
def wrCount (x : Pc) : Nat := min 64 (x.wrq.filter fun e => !e.flue).length
def flueCount (x : Pc) : Nat := (x.wrq.filter fun e => e.flue).length

/-- The reads in the read queue: its 64 places, the rest held by the spine (R258). -/
def rdInQueue (x : Pc) : List RdEntry := x.rdq.take 64

/-- Read mode or write mode (R263). A write entry waits until it retires. -/
def nextMode (s : State) (p : Nat) (x : Pc) : Bool :=
  let r := hbmReg (p / 32) 0x10
  let hi := min 96 (s.fld r 0 7)
  let lo := if s.fld r 8 7 < hi then s.fld r 8 7 else hi - 1
  let demand := (rdInQueue x).any fun e => e.src == .demand
  let n := (wrInQueue x).length
  let full := decide (32 ≤ flueCount x)
  if x.writeMode then !((decide (n ≤ lo) && !full && demand) || n == 0)
  else (decide (hi ≤ n) && n != 0) || full || (!demand && n != 0)

/-- The mode of a controller after something entered or left its queues (R263). -/
def State.setMode (s : State) (p : Nat) : State := s.modPc p fun x => { x with writeMode := nextMode s p x }

/-- An unretired entry of the line, the youngest (R259). -/
def matchWr (x : Pc) (line : Nat) : Option WrEntry := (x.wrq.filter fun e => e.line == line).getLast?

/-- A write of the line has entered a queue: reads in progress must not be written back over it (R256). -/
def markWrote (line : Nat) (x : Pc) : Pc :=
  { x with rdq := x.rdq.map fun r => if r.line = line then { r with wrote := true } else r,
           flight := x.flight.map fun f => if f.rd.line = line then { f with rd := { f.rd with wrote := true } } else f }

/-- Put a line write into the queue of its controller, in place of an unissued entry of the line (R260), else as a
new entry. -/
def hbmPut (s : State) (line : Nat) (d : LineData) (poison : Bool) (cls : Nat) (flue : Bool) : State :=
  let p := (hbmLoc s.ten line).pc
  ((s.wake (pcDomain p)).modPc p fun x =>
    let x := markWrote line x
    if x.wrq.any fun e => e.line == line && e.cols == 0 then
      { x with wrq := x.wrq.map fun e =>
          if e.line = line ∧ e.cols = 0 then { e with data := d, poison := poison } else e }
    else
      { x with wrq := x.wrq ++ [⟨line, d, poison, cls, flue, x.seq, x.now, 0, 0⟩], seq := x.seq + 1 }).setMode p

/-- The queue has room for a write of the line (R258, R260). -/
def hbmRoom (s : State) (line : Nat) (flue : Bool) : Bool :=
  let x := s.pc (hbmLoc s.ten line).pc
  (x.wrq.any fun e => e.line == line && e.cols == 0) ||
  (if flue then decide (flueCount x < 32) else decide (wrCount x < 64))

/-- A write toward HBM; `none` while its queue is full (R258). -/
def hbmWrite (s : State) (line : Nat) (d : LineData) (poison : Bool) (cls : Nat) (flue : Bool) : Option State :=
  if hbmRoom s line flue then some (hbmPut s line d poison cls flue) else none

/-- A read of a line: served from the youngest matching write entry (R259), else queued. A patrol scrub read that
matches is dropped. -/
def hbmRead (s : State) (line : Nat) (src : RdSrc) (cls : Nat) : State :=
  let p := (hbmLoc s.ten line).pc
  let s := s.wake (pcDomain p)
  match matchWr (s.pc p) line with
  | some e =>
    if src = .scrub then s
    else returnLine (s.count (32 + p / 32) 2 1) line e.data e.poison (src == .kindle)
  | none => (s.modPc p fun x =>
      { x with rdq := x.rdq ++ [⟨line, src, cls, x.seq, x.now, 0, false, false⟩], seq := x.seq + 1 }).setMode p

/-- Change every read of a line that is under way, wherever it is: in the read queue, in flight. -/
def modReads (s : State) (line : Nat) (f : RdEntry → RdEntry) : State :=
  s.modPc (hbmLoc s.ten line).pc fun x =>
    { x with rdq := x.rdq.map fun r => if r.line = line then f r else r,
             flight := x.flight.map fun g => if g.rd.line = line then { g with rd := f g.rd } else g }

/-- Discard the demand read of a line that is under way (R183). -/
def dropRead (s : State) (line : Nat) : State :=
  (modReads s line fun r => if r.src = .demand then { r with drop := true } else r).modSlice (s.sliceOf line) fun x =>
    { x with ret := x.ret.filter fun r => !(r.line == line && !r.kindle) }

/-- A kindling read becomes the primary fetch of a transaction (R223). -/
def adoptRead (s : State) (line : Nat) (cls : Nat) : State :=
  (modReads s line fun r => if r.src = .kindle then { r with src := .demand, cls := cls } else r).modSlice
    (s.sliceOf line) fun x => { x with ret := x.ret.map fun r => if r.line = line then { r with kindle := false } else r }

/-! ## Outcomes of a DRAM read (R255–R257, R281, R282, R290) -/

/-- The SOURCE code of HBM_ERR_INFO (R290); 3 is a repair read. -/
def srcCode : RdSrc → Nat
  | .demand => 0 | .kindle => 1 | .scrub => 2

/-- Log a read that reported something (R255, R290, R428). -/
def hbmReport (s : State) (line : Nat) (source : Nat) (o : Decoded) : State :=
  let l := hbmLoc s.ten line
  let k := l.pc / 32
  let kind := match o.rep with | .none => 0 | .ce => 1 | .ue => 2 | .stored => 3
  if kind = 0 then s
  else
    let info := w32 (l.pc % 32 + 2 ^ 5 * l.sid + 2 ^ 7 * l.bank + 2 ^ 11 * l.row + 2 ^ 26 * source)
    let s := (s.setErr (hbmReg k 0x30) (kind - 1) (0x40 + k) info).count (32 + k) (6 + kind) 1
    let pa := s.linePA line
    let s := (s.wr (hbmReg k 0x34) (w32 pa)).wr (hbmReg k 0x38) (w32 (pa / 2 ^ 32))
    s.wr (hbmReg k 0x3C) (w32 (o.syms.getD 0 0x7F + 2 ^ 8 * o.syms.getD 1 0x7F + 2 ^ 16 * kind + 2 ^ 18 * source +
      2 ^ 24 * (l.pc % 32)))

/-- Write a line back after a read (R256, R257): only when no write entry of the line is queued and none has entered
since the read. One that finds the write queue full waits at the spine, where reads and writes of its line find it
(R258, log entry 78). -/
def writeBack (s : State) (line : Nat) (d : LineData) (poison wrote : Bool) : State :=
  if wrote = false ∧ (matchWr (s.pc (hbmLoc s.ten line).pc) line).isNone = true then hbmPut s line d poison 7 false else s

/-- A poison notice to the slice of a line (R257). -/
def sendNotice (s : State) (line : Nat) : State :=
  let i := s.sliceOf line
  (s.wake (20 + i)).modSlice i fun x => { x with notices := x.notices ++ [line] }

/-- The row of a place becomes a repair candidate while PPR_EN is 1 (R282). -/
def addCandidate (s : State) (l : DramLoc) : State :=
  if s.bit (hbmReg (l.pc / 32) 0) 2 then
    s.modPc l.pc fun x =>
      if x.cands.any fun c => c.sid == l.sid && c.bank == l.bank && c.row == l.row then x
      else { x with cands := x.cands ++ [⟨l.sid, l.bank, l.row, 0⟩] }
  else s

/-- The entry of the row error table to replace: the one with the lowest count, the first of these. -/
def lowestRow (l : List RowErr) : Nat :=
  (List.range l.length).foldl (fun b i =>
    match l[i]?, l[b]? with
    | some x, some y => if x.n < y.n then i else b
    | _, _ => b) 0

/-- A corrected error on a row (R281, R282). -/
def rowError (s : State) (l : DramLoc) : State :=
  let same := fun (e : RowErr) => e.sid == l.sid && e.bank == l.bank && e.row == l.row
  let thr := s.fld (hbmReg (l.pc / 32) 0x20) 4 4
  let s := s.modPc l.pc fun x =>
    if x.rowErrs.any same then { x with rowErrs := x.rowErrs.map fun e => if same e then { e with n := e.n + 1 } else e }
    else if x.rowErrs.length < 16 then { x with rowErrs := x.rowErrs ++ [⟨l.sid, l.bank, l.row, 1⟩] }
    else { x with rowErrs := lmod x.rowErrs (lowestRow x.rowErrs) fun _ => ⟨l.sid, l.bank, l.row, 1⟩ }
  if (s.pc l.pc).rowErrs.any fun e => same e && decide ((if thr = 0 then 1 else thr) ≤ e.n) then addCandidate s l else s

/-- What the controller does with a decoded read: log, write back, count the row (R255–R257, R280–R282). -/
def afterRead (s : State) (line : Nat) (source : Nat) (wrote : Bool) (o : Decoded) : State :=
  let l := hbmLoc s.ten line
  let s := hbmReport s line source o
  match o.rep with
  | .ce =>
    let s := if s.bit (hbmReg (l.pc / 32) 0) 3 || source == 2 then writeBack s line o.data false wrote else s
    rowError s l
  | .ue => addCandidate (sendNotice (writeBack s line o.data true wrote) line) l
  | _ => s

/-! ## Poison at home (R168, R169) -/

/-- Poison every home copy of a line outside the Hearth and the kindling buffer: HBM, its queues, its reads. -/
def poisonHbm (s : State) (line : Nat) : State :=
  let p := (hbmLoc s.ten line).pc
  let s := s.setHbm line { s.hbmAt line with poison := true }
  let s := s.modPc p fun x =>
    { x with wrq := x.wrq.map fun e => if e.line = line then { e with poison := true } else e,
             flight := x.flight.map fun f =>
               if f.rd.line = line then { f with stored := { f.stored with poison := true } } else f }
  s.modSlice (s.sliceOf line) fun x =>
    { x with ret := x.ret.map fun r => if r.line = line then { r with poison := true } else r }

end Sys2Proof.Machine
end

