-- ==== Sys2Proof/Machine/Slice.lean ====
section
/-! DEFINITION. The slices: Hearth lookup, allocation and policies, the kindling buffer and stream detector, the
directory, transactions and their intake (R171–R242, R422–R427). A slice is named by its number `i`, a line by PA[37:6]. -/
namespace Sys2Proof.Machine
open Config

/-! ## The Hearth arrays (R205) -/

def State.hway (s : State) (i set w : Nat) : HLine := sget hlineD (s.slice i).hearth (set * 16 + w)
def State.setHway (s : State) (i set w : Nat) (h : HLine) : State :=
  s.modSlice i fun x => { x with hearth := sset hlineD x.hearth (set * 16 + w) h }
def State.clearWay (s : State) (i set w : Nat) : State := s.setHway i set w (hlineD 0)

/-- The way that holds a line: valid and not reserved for a fill (R219). -/
def findWay (s : State) (i line : Nat) : Option Nat :=
  (List.range 16).find? fun w =>
    let h := s.hway i (s.setOf line) w
    h.valid && !h.reserved && h.line == line

/-- An open transaction, a victim on its way, or another unfinished work on the line. -/
def lineBusy (x : Slice) (line : Nat) : Bool :=
  (x.txns.any fun t => t.line == line) || (x.victims.any fun v => v.line == line) ||
  (x.evbuf.any fun e => e.line == line) || (x.installs.any fun n => n.line == line) ||
  (x.outWr.any fun o => o.line == line)

/-- A way that may not be chosen for an allocation on account of its line: the line has an open transaction, or is a
victim already (R207, R219). -/
def lineHeld (x : Slice) (line : Nat) : Bool :=
  (x.txns.any fun t => t.line == line) || x.victims.any fun v => v.line == line

/-- Data of the line that has not reached its way or its write queue yet. -/
def lineMoving (x : Slice) (line : Nat) : Bool :=
  (x.installs.any fun n => n.line == line) || (x.outWr.any fun o => o.line == line)

/-- Policy of a line by the region table (R212). -/
def regionPolicy (s : State) (i line : Nat) : Nat :=
  let blk := line / 1024
  match (List.range 64).find? fun n =>
      s.bit (sliceReg i (0x1004 + 8 * n)) 31 && decide (s.fld (sliceReg i (0x1000 + 8 * n)) 0 22 ≤ blk) &&
      decide (blk ≤ s.fld (sliceReg i (0x1004 + 8 * n)) 0 22) with
  | some n => s.fld (sliceReg i (0x1004 + 8 * n)) 24 2
  | none => s.fld (sliceReg i 0) 4 2

/-- The slice allocates nothing: disabling, disabled, or every way quenched or retired (R233, R238). -/
def noAlloc (x : Slice) : Bool := x.disabling || x.disabled || x.quenched ||| x.retired == 0xFFFF

/-- The policy a request meets: UC where the slice allocates nothing (R233, R238). -/
def effPolicy (s : State) (i line : Nat) : Nat := if noAlloc (s.slice i) then 2 else regionPolicy s i line

/-- The source class of a request (R208). -/
def classOf (s : State) (src : AgentId) (write : Bool) : Nat :=
  if src.dev ≠ s.devNum then 2
  else if src.loc < 32 then (if write then 1 else 0)
  else if src.loc < 48 then 4 else if src.loc < 56 then 5 else 7

def insAge (s : State) (i cls : Nat) : Nat := s.fld (sliceReg i (0x40 + 4 * cls)) 16 2

/-! ## Error counts and retirement of ways (R426) -/

/-- A quench walk of a way starts (R236); a way that is already walking or powered down needs none. -/
def startWalk (i w : Nat) (s : State) : State :=
  s.modSlice i fun x =>
    if x.quenched.getLsbD w || x.powering.getLsbD w || x.walking.any fun e => e.1 == w then x
    else { x with walking := x.walking ++ [(w, x.walkPos)] }

/-- A way retires at the end of its walk: RETIRED and its event (R236, R426, R428). -/
def retireWay (i w : Nat) (s : State) : State :=
  let s := s.modSlice i fun x =>
    { x with retiring := x.retiring &&& ~~~ (BitVec.ofNat 16 (2 ^ w)), retired := x.retired ||| BitVec.ofNat 16 (2 ^ w) }
  (s.setErr (sliceReg i 0x88) 3 (0x20 + i) (w32 w)).wr (sliceReg i 0x8C) (w32 w)

/-- THR as it acts (R426, R429): 0 as 1. -/
def wayThr (s : State) (i : Nat) : Nat := max 1 (s.fld (sliceReg i 0x90) 8 8)

/-- Add to the error count of a way; at THR the way begins to retire (R426). -/
def wayErrors (s : State) (i w n : Nat) : State :=
  let s := s.modSlice i fun x => { x with wayErrs := lmod x.wayErrs w (· + n) }
  let x := s.slice i
  if s.bit (sliceReg i 0x90) 0 && decide (wayThr s i ≤ nth x.wayErrs w) &&
      !x.retiring.getLsbD w && !x.retired.getLsbD w then
    if x.quenched.getLsbD w then retireWay i w s
    else startWalk i w (s.modSlice i fun x => { x with retiring := x.retiring ||| BitVec.ofNat 16 (2 ^ w) })
  else s

/-- EN or THR of a slice is written: a way whose count has reached THR begins to retire (R426). -/
def judgeWays (s : State) (i : Nat) : State := (List.range 16).foldl (fun s w => wayErrors s i w 0) s

/-- Log a data error of a slice (R428, R429): kind 1 corrected, 2 uncorrectable. -/
def dataError (s : State) (i set w kind : Nat) (dirty refetch : Bool) : State :=
  let body := w + 2 ^ 4 * set + 2 ^ 20 * b2n dirty + 2 ^ 21 * b2n refetch
  (s.setErr (sliceReg i 0x88) (kind - 1) (0x20 + i) (w32 body)).wr (sliceReg i 0x8C) (w32 (body + 2 ^ 22 * kind))

/-- Read the data of a way (R423): `none` where a clean line is uncorrectable; it is then invalidated and read again
from HBM. -/
def readWay (s : State) (i set w : Nat) : State × Option (LineData × Bool) :=
  let h := s.hway i set w
  let (s, o) := decodeLine s h.data h.poison h.errs
  let thr := wayThr s i
  match o.rep with
  | .none => (s, some (o.data, o.poison))
  | .stored => (s, some (o.data, true))
  | .ce =>
    let s := s.setHway i set w { h with data := o.data, errs := [] }
    (wayErrors ((dataError s i set w 1 h.dirty false).count (16 + i) 14 1) i w 1, some (o.data, false))
  | .ue =>
    if h.dirty then
      let s := s.setHway i set w { h with data := o.data, poison := true, errs := [] }
      (wayErrors (dataError s i set w 2 true false) i w thr, some (o.data, true))
    else
      (wayErrors ((dataError (s.clearWay i set w) i set w 1 false true).count (16 + i) 14 1) i w thr, none)

/-! ## Allocation (R206, R207, R219, R220) -/

/-- The ways eligible for an allocation of class `cls` (R207). -/
def eligible (s : State) (i set cls : Nat) : List Nat :=
  let x := s.slice i
  if noAlloc x then [] else
  (List.range 16).filter fun w =>
    let h := s.hway i set w
    s.bit (sliceReg i (0x40 + 4 * cls)) w && !x.quenched.getLsbD w && !x.retired.getLsbD w && !x.powering.getLsbD w &&
    !(x.walking.any fun e => e.1 == w) && !h.reserved && !(h.valid && lineHeld x h.line)

/-- The victim search (R207): a free way, else the first of the oldest age once every eligible way has aged to 3. -/
def chooseWay (s : State) (i set cls : Nat) : State × Option Nat :=
  let el := eligible s i set cls
  match el.find? fun w => !(s.hway i set w).valid with
  | some w => (s, some w)
  | none =>
    match el with
    | [] => (s, none)
    | _ =>
      let top := el.foldl (fun a w => max a (s.hway i set w).age) 0
      let s' := el.foldl (fun s w =>
        let h := s.hway i set w
        s.setHway i set w { h with age := h.age + (3 - top) }) s
      (s', el.find? fun w => (s.hway i set w).age == top)

/-- Choose a way and make it give up its line: a dirty line becomes a victim on its way to the flue; else the way is
reserved at once (R219, R220). -/
def allocWay (s : State) (i set cls : Nat) : State × Option Nat :=
  match chooseWay s i set cls with
  | (s, none) => (s, none)
  | (s, some w) =>
    let h := s.hway i set w
    if h.valid && h.dirty then
      (s.modSlice i fun x => { x with victims := x.victims ++ [⟨h.line, set, w, cls⟩] }, some w)
    else (s.setHway i set w { hlineD 0 with reserved := true }, some w)

/-- A victim search and the age that it gives the line (R206, R207, R210): `none` where no way is eligible. -/
def searchWay (s : State) (i set cls : Nat) : State × Option (Nat × Nat) :=
  let age := insAge s i cls
  match allocWay s i set cls with
  | (s, some w) => (s, some (w, age))
  | (s, none) => (s, none)

/-- Write a line into its reserved way. -/
def fillWay (s : State) (i set w line : Nat) (d : LineData) (poison dirty : Bool) (age : Nat) : State :=
  s.setHway i set w { valid := true, dirty := dirty, line := line, age := age, data := d, poison := poison,
                      errs := [], reserved := false }

/-- Write a line into a way that was allocated for it, now or when its victim has left (R221). -/
def placeLine (s : State) (i w line : Nat) (d : LineData) (poison dirty : Bool) (age : Nat) (host : Bool)
    (notify : Option (AgentId × Tag)) : State :=
  let set := s.setOf line
  if (s.hway i set w).reserved then
    let s := fillWay s i set w line d poison dirty age
    match notify with
    | some (a, t) => s.sendPlain (s.mkRsp opcEVICT_DONE a t [])
    | none => s
  else s.modSlice i fun x => { x with installs := x.installs ++ [⟨line, set, w, d, poison, dirty, age, host, notify⟩] }

/-- Send a line to an HBM write queue, or hold it until there is room, and behind what is held of the line (R216, R258); a
notice is answered when it is in the queue (R190). -/
def outWrite (s : State) (i line : Nat) (d : LineData) (poison : Bool) (cls : Nat) (flue host : Bool)
    (notify : Option (AgentId × Tag)) : State :=
  let s := if flue then s.count (16 + i) 7 1 else s
  let hold := s.modSlice i fun x => { x with outWr := x.outWr ++ [⟨line, d, poison, cls, flue, host, notify⟩] }
  if (s.slice i).outWr.any fun o => o.line == line then hold
  else match hbmWrite s line d poison cls flue with
    | some s =>
      match notify with
      | some (a, t) => s.sendPlain (s.mkRsp opcEVICT_DONE a t [])
      | none => s
    | none => hold

/-! ## The kindling buffer (R222–R227) -/

def kFind (x : Slice) (line : Nat) : Option KEntry := x.kindle.find? fun e => e.line == line && e.st != .stale
def kDrop (line : Nat) (x : Slice) : Slice :=
  { x with kindle := x.kindle.filter fun e => !(e.line == line && e.st != .stale) }

/-- A write, an invalidation or dirty host data for a line: a ready entry is freed, a pending one made stale (R223). -/
def kindleKill (s : State) (i line : Nat) : State :=
  match kFind (s.slice i) line with
  | none => s
  | some e =>
    if e.st = .ready then (s.modSlice i (kDrop line)).count (16 + i) 5 1
    else s.modSlice i fun x => { x with kindle := x.kindle.map fun e =>
      if e.line = line ∧ e.st = .pending then { e with st := .stale } else e }

/-- The directory entry of a line: its way. -/
def dirWay (s : State) (i line : Nat) : Option Nat :=
  (List.range 16).find? fun w =>
    let e := sget dentryD (s.slice i).dir (s.setOf line * 16 + w)
    e.valid && e.line == line

def dirGet (s : State) (i line w : Nat) : DEntry := sget dentryD (s.slice i).dir (s.setOf line * 16 + w)
def dirSet (s : State) (i line w : Nat) (e : DEntry) : State :=
  s.modSlice i fun x => { x with dir := sset dentryD x.dir (s.setOf line * 16 + w) e }
def dirEntry (s : State) (i line : Nat) : Option DEntry := (dirWay s i line).map (dirGet s i line)

/-- An entry that no host holds any more is freed (R175); while a transaction of its line is open it keeps its way,
pinned (R180). -/
def dirVacate (s : State) (i line w : Nat) : State :=
  if (s.slice i).txns.any fun t => t.line == line then
    dirSet s i line w { dirGet s i line w with st := .S, bcast := false, ptrs := [] }
  else dirSet s i line w (dentryD 0)

/-- Make a kindling fill where R222, R224 and R225 allow it. -/
def kindleFill (s : State) (i line cls : Nat) : State :=
  let x := s.slice i
  let owned := match dirEntry s i line with
    | some e => e.st == .X || e.st == .D
    | none => false
  let pol := regionPolicy s i line
  if s.bit (sliceReg i 0) 1 = false ∨ (findWay s i line).isSome = true ∨ (x.kindle.any fun e => e.line == line) = true ∨
      lineBusy x line = true ∨ owned = true ∨ pol = 2 ∨ pol = 3 ∨
      16 ≤ (x.kindle.filter fun e => e.st != .ready).length then s
  else
    let room := if x.kindle.length < 64 then some x
      else match x.kindle.find? fun e => e.st == .ready with
        | some old => some { x with kindle := eraseFirst (· == old) x.kindle }
        | none => none
    match room with
    | none => s
    | some y =>
      let s := if x.kindle.length < 64 then s else s.count (16 + i) 5 1
      let s := s.modSlice i fun _ => { y with kindle := y.kindle ++ [⟨line, .pending, 0, false⟩] }
      hbmRead (s.count (16 + i) 4 1) line .kindle cls

/-- The block number of a line (R226) and the slice's line in a block. -/
def blockOf (s : State) (line : Nat) : Nat := if s.ten then line / 8 else line / 16
def blockLine (s : State) (i b : Nat) : Option Nat :=
  let n := if s.ten then 8 else 16
  ((List.range n).map fun j => b * n + j).find? fun l => s.sliceOf l == i && decide (l * 64 < s.homeGiB * 2 ^ 30)

/-- Fills a confirmed stream requests (R226). -/
def streamFills (s : State) (i b : Nat) (up : Bool) (cls : Nat) : State :=
  let depth := s.fld (sliceReg i 0) 8 4
  (List.range (if depth = 0 then 16 else depth)).foldl (fun s k =>
    if up = false ∧ b < k + 1 then s else
    match blockLine s i (if up then b + (k + 1) else b - (k + 1)) with
    | some l => kindleFill s i l cls
    | none => s) s

/-- A demand miss or a kindling hit of a line with policy `pol`, seen by the stream detector (R226); under UC and NOPF it is
ignored (R213). The list is in order of use. A miss in the very block that an entry records or tracks matches no entry
(DESIGN CHOICE, log entry 76). -/
def streamEvent (s : State) (i line cls pol : Nat) (miss : Bool) : State :=
  if s.bit (sliceReg i 0) 2 = false ∨ (cls = 0 ∨ cls = 2 ∨ cls = 4 ∨ cls = 5) = false ∨ pol = 2 ∨ pol = 3 then s
  else
    let x := s.slice i
    let b := blockOf s line
    let next := fun (e : Stream) => match e.dir with
      | some up => if up then e.block + 1 == b else b + 1 == e.block
      | none => false
    let near := fun (e : Stream) => e.dir.isNone && (e.block + 1 == b || b + 1 == e.block)
    let put := fun (old : Stream) (e : Stream) (s : State) =>
      s.modSlice i fun x => { x with streams := eraseFirst (· == old) x.streams ++ [e] }
    match x.streams.find? next with
    | some e =>
      let e' : Stream := { e with block := b, last := x.misses }
      streamFills (put e e' s) i b (e.dir == some true) cls
    | none =>
      if miss = false then s
      else match x.streams.find? near with
        | some e =>
          let up := e.block + 1 == b
          streamFills (put e { block := b, dir := some up, last := x.misses } s) i b up cls
        | none => s.modSlice i fun x =>
            { x with streams := (if 32 ≤ x.streams.length then x.streams.drop 1 else x.streams) ++
                       [{ block := b, dir := none, last := x.misses }] }

/-! ## The directory (R171–R201) -/

/-- The host index of a host agent, and back (R173). -/
def hostIdx (a : AgentId) : Nat := a.dev * 32 + a.loc
def hostAgentId (h : Nat) : AgentId := mkAgent (h / 32) (h % 32)

def purged (s : State) (h : Nat) : Bool := (sget wordD s.purge (h / 32)).getLsbD (h % 32)

/-- The effective broadcast set (R181). -/
def bcastSet (s : State) : List Nat :=
  (List.range 16).flatMap fun d =>
    let v := s.rd (dirReg (0x100 + 4 * d)) ||| s.rd (dirReg (0x180 + 4 * d))
    (bitsSet 32 (v &&& ~~~ (sget wordD s.purge d)).toNat).map fun l => d * 32 + l

/-- The holders of an entry (R181), purged agents left out (R168). -/
def holders (s : State) (e : DEntry) : List Nat :=
  if e.bcast then bcastSet s else e.ptrs.filter fun h => !purged s h

/-- The owner of an entry in X or D. -/
def ownerOf (e : DEntry) : Option Nat := if e.st == .X || e.st == .D then e.ptrs.head? else none

/-- Record a host as granted in broadcast mode (R187). -/
def markSeen (s : State) (h : Nat) : State :=
  let r := dirReg (0x180 + 4 * (h / 32))
  s.wr r (s.rd r ||| w32 (2 ^ (h % 32)))

/-- How many holders an entry names before it goes to broadcast (R187, R502). -/
def pointerCount (s : State) : Nat := if s.compat then 2 else 3

/-- Add a holder, as the lead or as a sharer (R187). -/
def addHolder (s : State) (i : Nat) (e : DEntry) (h : Nat) (lead : Bool) : State × DEntry :=
  if e.bcast then (markSeen s h, if lead then { e with st := .L, ptrs := [h] } else e)
  else if e.ptrs.contains h then
    match e.ptrs with
    | p0 :: _ => (s, if lead then { e with st := .L, ptrs := (e.ptrs.map fun p => if p = h then p0 else p).set 0 h } else e)
    | [] => (s, e)
  else if e.ptrs.length < pointerCount s then
    (s, if lead then { e with st := .L, ptrs := h :: (e.ptrs.drop 1 ++ e.ptrs.take 1) }
        else { e with ptrs := e.ptrs ++ [h] })
  else
    let s := (h :: e.ptrs).foldl markSeen s
    (s.count (16 + i) 11 1,
     if lead then { e with st := .L, bcast := true, ptrs := [h] }
     else { e with bcast := true, ptrs := if e.st = .L then e.ptrs.take 1 else [] })

/-- Poison every home copy of a line (R168, R169). -/
def poisonHome (s : State) (i line : Nat) : State :=
  let set := s.setOf line
  let s := match findWay s i line with
    | some w => s.setHway i set w { s.hway i set w with poison := true }
    | none => s
  let s := s.modSlice i fun x =>
    { x with kindle := x.kindle.map fun e => if e.line = line then { e with poison := true } else e,
             installs := x.installs.map fun n => if n.line = line then { n with poison := true } else n,
             outWr := x.outWr.map fun o => if o.line = line then { o with poison := true } else o,
             txns := x.txns.map fun t =>
               if t.line = line then
                 { t with fetch := match t.fetch with | .got d _ f => .got d true f | f => f } else t }
  poisonHbm s line

/-- INFO of a DIRECTORY error event (R428). -/
def dirInfo (s : State) (i line : Nat) (h : Option Nat) : Word :=
  w32 ((match h with | some h => h | none => 0x1FF) + 2 ^ 12 * i + 2 ^ 16 * s.setOf line)

/-- Discard the ways of a set that fail their check: ENTRY_UE, and the set is tainted (R199). -/
def dirCheckSet (s : State) (i set : Nat) : State :=
  (List.range 16).foldl (fun s w =>
    if (sget dentryD (s.slice i).dir (set * 16 + w)).bad then
      let s := s.modSlice i fun x => { x with dir := sset dentryD x.dir (set * 16 + w) (dentryD 0), taint := sset zeroD x.taint set 1 }
      (s.setErr (dirReg 8) 3 0x30 (w32 (0x1FF + 2 ^ 12 * i + 2 ^ 16 * set))).count 53 11 1
    else s) s

/-- Check the set of a line (R199). -/
def dirCheck (s : State) (i line : Nat) : State := dirCheckSet s i (s.setOf line)

/-- Forget the purged hosts that an entry names (R168): a line whose owner is purged is poisoned at home. -/
def dirPurgeBy (s : State) (i line : Nat) (gone : Nat → Bool) : State :=
  match dirWay s i line with
  | none => s
  | some w =>
    let e := dirGet s i line w
    match ownerOf e with
    | some o =>
      if gone o then
        let s := (poisonHome s i line).setErr (dirReg 8) 1 0x30 (dirInfo s i line (some o))
        dirVacate (s.count 53 9 1) i line w
      else s
    | none =>
      let lost := e.st == .L && (match e.ptrs with | p :: _ => gone p | [] => true)
      let keep := e.ptrs.filter fun h => !gone h
      if keep = [] ∧ e.bcast = false then dirVacate s i line w
      else dirSet s i line w { e with ptrs := keep, st := if lost then .S else e.st }

/-- Forget the agents of the purge set in an entry (R168). -/
def dirPurge (s : State) (i line : Nat) : State := dirPurgeBy s i line (purged s)

/-- A line is in a tainted set (R199). -/
def tainted (s : State) (i line : Nat) : Bool := sget zeroD (s.slice i).taint (s.setOf line) == 1

def txnOf (s : State) (i line : Nat) : Option Txn := (s.slice i).txns.find? fun t => t.line == line
def modTxn (s : State) (i line : Nat) (f : Txn → Txn) : State :=
  s.modSlice i fun x => { x with txns := x.txns.map fun t => if t.line = line then f t else t }

/-- Finish an eviction-buffer entry whose snoops are answered and whose data is home (R194). -/
def evFinish (s : State) (i line : Nat) : State :=
  s.modSlice i fun x =>
    if lineMoving x line then x
    else { x with evbuf := x.evbuf.filter fun e => !(e.line == line && e.snps.isEmpty) }

/-- Host h holds nothing of the line any more, as far as the open transaction is concerned. -/
def markGone (s : State) (i line h : Nat) : State := modTxn s i line fun t => { t with gone := t.gone ++ [h] }

/-- The snoop to host h is complete. -/
def endSnoop (s : State) (i line h : Nat) : State :=
  let f := fun (l : List Snoop) => l.filter fun n => n.host != h
  (modTxn s i line fun t => { t with snps := f t.snps }).modSlice i fun x =>
    { x with evbuf := x.evbuf.map fun e => if e.line = line then { e with snps := f e.snps } else e }

/-- A snoop that went unanswered: as SNP_MISS, and a line the agent held in X or D is poisoned (R169), unless its eviction notice
has been taken meanwhile and so the data is home (R191). The snoops of a tainted
set name no owner, so they poison nothing (DESIGN CHOICE, log entry 76). -/
def timeoutSnoop (s : State) (i line h : Nat) : State :=
  let owner := match txnOf s i line with
    | some t => t.owner == some h && !t.gone.contains h
    | none => (s.slice i).evbuf.any fun e => e.line == line && e.owner == some h && !e.taken.contains h
  let s := if owner then poisonHome s i line else s
  let s := (s.setErr (dirReg 8) 0 0x30 (dirInfo s i line (some h))).count (16 + i) 9 1
  endSnoop (markGone s i line h) i line h

/-- The snoops among these that cannot leave the device count as unanswered (R166), and end as R169 says (log entry 12). -/
def endUnsent (s : State) (i line : Nat) (sn : List Snoop) : State :=
  (sn.filter fun n => !s.snoopLeaves (hostAgentId n.host)).foldl (fun s n => timeoutSnoop s i line n.host) s

/-- Send a snoop to each host: the messages and the list of what is awaited (R181, R158). -/
def sendSnoops (s : State) (i line opc : Nat) (hs : List Nat) : State × List Snoop :=
  hs.foldl (fun (s, l) h =>
    let tag := (s.slice i).snpTag
    let s := s.sendSnoop (s.mkMsg opc (hostAgentId h) tag 0 false (BitVec.ofNat 52 (s.linePA line)) [])
    ((s.modSlice i fun x => { x with snpTag := x.snpTag + 1 }).count (16 + i) 8 1, l ++ [⟨h, opc, tag, false⟩])) (s, [])

/-- Age order within a set: the new entry is the newest (R174, R193). -/
def dirAge (s : State) (i set w : Nat) (e : DEntry) : State :=
  let d := fun (s : State) j => sget dentryD (s.slice i).dir (set * 16 + j)
  let others := (List.range 16).filter fun j => j ≠ w ∧ (d s j).valid
  let rank := fun j => (others.filter fun k => decide ((d s k).age < (d s j).age)).length
  let s' := others.foldl (fun t j =>
    t.modSlice i fun x => { x with dir := sset dentryD x.dir (set * 16 + j) { d s j with age := rank j } }) s
  s'.modSlice i fun x => { x with dir := sset dentryD x.dir (set * 16 + w) { e with age := others.length } }

/-- Move an entry to the eviction buffer and back-invalidate its holders (R194). -/
def evictEntry (s : State) (i : Nat) (e : DEntry) : State :=
  let (s, sn) := sendSnoops s i e.line opcSNP_INV (holders s e)
  let s := s.count (16 + i) 10 1
  if sn.isEmpty then s
  else evFinish (endUnsent (s.modSlice i fun x => { x with evbuf := x.evbuf ++ [⟨e.line, ownerOf e, sn, []⟩] })
    i e.line sn) i e.line

/-- Allocate a directory way for a line (R193); `none` where the request must wait in the retry queue. Purged agents that the
victim names are absent (R168). -/
def dirAlloc (s : State) (i line : Nat) : Option State :=
  let set := s.setOf line
  let e0 : DEntry := { dentryD 0 with valid := true, line := line }
  let ways := List.range 16
  match ways.find? fun w => !(dirGet s i line w).valid with
  | some w => some (dirAge s i set w e0)
  | none =>
    let free := ways.filter fun w => !((s.slice i).txns.any fun t => t.line == (dirGet s i line w).line)
    match free with
    | [] => none
    | w0 :: _ =>
      if 32 ≤ (s.slice i).evbuf.length then none
      else
        let w := free.foldl (fun b j => if (dirGet s i line j).age < (dirGet s i line b).age then j else b) w0
        let s := dirPurge s i (dirGet s i line w).line
        let e := dirGet s i line w
        some (dirAge (if e.valid then evictEntry (dirSet s i line w (dentryD 0)) i e else s) i set w e0)

/-- Free the entry of a line (R175). -/
def dirFree (s : State) (i line : Nat) : State :=
  match dirWay s i line with
  | some w => dirSet s i line w (dentryD 0)
  | none => s

/-! ## Reservations (R239, R240) -/

/-- Clear every reservation on a line but that of core `keep`. -/
def clearResv (s : State) (line : Nat) (keep : Option Nat) : State :=
  { s with resv := s.resv.filter fun e => !(e.2 == line + 1 && some e.1 != keep) }

/-! ## Transactions -/

def isWriteKind : ReqKind → Bool
  | .wrLine | .wrPart | .scnd | .zero | .amo => true
  | _ => false
def isGrantKind : ReqKind → Bool
  | .rdShared | .rdOwn | .upgrade => true
  | _ => false
def isUncached : ReqKind → Bool
  | .rdUc | .lres => true
  | _ => false
def isInvKind : ReqKind → Bool
  | .inv | .cleanInv => true
  | _ => false

def reqClass (s : State) (r : Req) : Nat := classOf s r.src (isWriteKind r.kind)

/-- Send the response of a request (R145). -/
def respond (s : State) (r : Req) (opc param : Nat) (poison : Bool) (body : List Word) : State :=
  s.sendPlain { s.mkRsp opc r.src r.tag body with param := BitVec.ofNat 8 param, poison := poison }

/-- The body of DATA_UC (R146): the addressed bytes in word 2, words 2–3, or the whole line. -/
def ucBody (size : Nat) (addr : PA) (d : LineData) : List Word :=
  if size = 6 then wordsLE 16 d.toNat
  else if size = 3 then wordsLE 2 (lineBytes d (addr.toNat % 64) 8)
  else [w32 (lineBytes d (addr.toNat % 64) (2 ^ size))]

/-- What a write leaves in a line, from the line before it (R146, R147, R424): new data, poison, the value an atomic
returns, and whether it was performed. -/
def newLine (r : Req) (old : LineData) (op : Bool) : LineData × Bool × Nat × Bool :=
  match r.kind with
  | .wrLine => (r.data, r.poison, 0, true)
  | .zero => (0, false, 0, true)
  | .wrPart => (mergeLine old r.data r.mask, op || r.poison, 0, true)
  | .scnd => if op then (old, true, 0, false) else (mergeLine old r.data r.mask, r.poison, 0, true)
  | _ =>
    let n := if r.amoOp / 8 % 2 = 1 then 8 else 4
    let at_ := r.addr.toNat % 64
    let v := lineBytes old at_ n
    if op then (old, true, v, false)
    else (putLine old at_ n (amoValue (r.amoOp % 8) (8 * n) v (r.operand.toNat % 2 ^ (8 * n)) (r.compare.toNat % 2 ^ (8 * n))),
      r.poison, v, true)

/-- Put a whole line home: into the Hearth, the HBM write queue, or both, by the policy `pol` (R211, R213). `host` marks dirty
host data, which leaves the age of a present line unchanged (R206); `found` is what a victim search for it gave. A line
still on its way into the Hearth is replaced where it stands, and so is a victim, which the flue then takes with the new
data (R219). -/
def storeLine (s : State) (i line : Nat) (d : LineData) (poison : Bool) (cls pol : Nat) (host : Bool)
    (found : Option (Option (Nat × Nat))) (notify : Option (AgentId × Tag)) : State :=
  let set := s.setOf line
  let done := fun (s : State) => match notify with
    | some (a, t) => s.sendPlain (s.mkRsp opcEVICT_DONE a t [])
    | none => s
  let out := fun (s : State) => outWrite s i line d poison cls false host notify
  match findWay s i line with
  | some w =>
    let h := s.hway i set w
    let age := if host then h.age else 0
    let leaving := (s.slice i).victims.any fun v => v.line == line
    if pol = 2 ∧ leaving = false then out (s.clearWay i set w)
    else if pol = 1 ∧ leaving = false then
      out (s.setHway i set w { h with data := d, poison := poison, errs := [], dirty := false, age := age })
    else done (s.setHway i set w { h with data := d, poison := poison, errs := [], dirty := true, age := age })
  | none =>
    match found with
    | some (some (w, age)) => placeLine s i w line d poison true age host notify
    | some none => out s
    | none =>
      if (s.slice i).installs.any fun n => n.line == line then
        let through := pol == 1 || pol == 2
        let s := s.modSlice i fun x => { x with installs := x.installs.map fun n =>
          if n.line = line then
            { n with data := d, poison := poison, dirty := !through, notify := if through then n.notify else notify,
                     host := n.host || host && !through }
          else n }
        if through then out s else s
      else if pol = 1 ∨ pol = 2 then out s
      else match searchWay s i set cls with
        | (s, some (w, age)) => placeLine s i w line d poison true age host notify
        | (s, none) => out s

/-- Dirty host data goes home (R182): for INV and CLEAN_INV straight to HBM, the older Hearth copy dropped (R186). -/
def writeHome (s : State) (i line : Nat) (d : LineData) (poison : Bool) (notify : Option (AgentId × Tag)) : State :=
  let s := kindleKill s i line
  let inv := match txnOf s i line with
    | some t => isInvKind t.req.kind && t.stage == 0
    | none => false
  if inv then
    let s := match findWay s i line with
      | some w => s.clearWay i (s.setOf line) w
      | none => s
    outWrite s i line d poison 3 false true notify
  else storeLine s i line d poison 3 (effPolicy s i line) true none notify

/-- Hit the Hearth on demand: the age becomes 0 (R206). -/
def touch (s : State) (i set w : Nat) : State := s.setHway i set w { s.hway i set w with age := 0 }

/-- Note where the data of a followed request comes from (R407). -/
def noteFrom (s : State) (t : Txn) (outcome : Nat) : State :=
  s.blotNote t.req.src t.req.tag fun w => { w with outcome := some outcome }

/-- The moment a followed request has its data at the slice, or is performed (R408). -/
def noteGot (s : State) (r : Req) : State := s.blotNote r.src r.tag fun w => { w with got := some s.tb.count.toNat }

/-- The moment a followed request is accepted at the address-conflict check (R408). -/
def noteAcc (s : State) (r : Req) : State := s.blotNote r.src r.tag fun w => { w with acc := some s.tb.count.toNat }

/-- The policy a transaction goes by: that of its acceptance (R214), but UC while the slice allocates nothing (R233, R238). What
was accepted before a disable or while the slice allocated nothing stays UC when it is enabled (R234). -/
def txnPol (s : State) (i : Nat) (t : Txn) : Nat := if noAlloc (s.slice i) then 2 else t.pol

/-- A demand lookup misses the Hearth: it is counted, and the stream detector sees it (R226, R393). While HEARTH_EN = 0 the
request goes by UC, so the detector ignores it, whereas a hint still fills by the region's policy (DESIGN CHOICE, log entry
76: R225 and R233 leave it open). -/
def missSeen (s : State) (i : Nat) (t : Txn) : State :=
  let s := (s.modSlice i fun x => { x with misses := x.misses + 1 }).count (16 + i) 2 1
  modTxn (streamEvent s i t.line (reqClass s t.req) (txnPol s i t) true) i t.line fun t => { t with looked := true }

/-- A miss of a transaction with policy `pol` allocates (R213): a write or atomic under WB and NOPF, a read but under UC. -/
def allocates (t : Txn) (pol : Nat) : Bool := if isWriteKind t.req.kind then pol == 0 || pol == 3 else pol != 2

/-- A miss that goes to HBM: the way for the fill where the policy allocates and no snoop is pending, and the read. -/
def missFetch (s : State) (i : Nat) (t : Txn) (adopt : Bool) : State :=
  let cls := reqClass s t.req
  let pol := txnPol s i t
  let s := missSeen s i t
  let alloc := allocates t pol && t.snps.isEmpty
  let r := if alloc then searchWay s i (s.setOf t.line) cls else (s, none)
  let s := noteFrom (modTxn r.1 i t.line fun t => { t with fetch := .wait, found := if alloc then some r.2 else none }) t
    (if (matchWr (s.pc (hbmLoc s.ten t.line).pc) t.line).isSome then 3 else 2)
  if adopt then adoptRead s t.line cls else hbmRead s t.line .demand cls

/-- Look for the home data of a transaction (R183, R223): Hearth, kindling buffer, HBM. A ready entry is freed without
promotion also where the policy has become UC since its fill (DESIGN CHOICE, log entry 76). -/
def startFetch (s : State) (i : Nat) (t : Txn) : State :=
  let set := s.setOf t.line
  let miss := fun (s : State) =>
    if isWriteKind t.req.kind then missFetch (kindleKill s i t.line) i t false
    else match kFind (s.slice i) t.line with
      | none => missFetch s i t false
      | some e =>
        let s := s.modSlice i (kDrop t.line)
        if e.st = .ready then
          let s := streamEvent (s.count (16 + i) 3 1) i t.line (reqClass s t.req) (txnPol s i t) false
          let s := noteGot (noteFrom (modTxn s i t.line fun t => { t with fetch := .got e.data e.poison false }) t 1) t.req
          if txnPol s i t = 2 then s
          else match searchWay s i set 6 with
            | (s, some (w, age)) => placeLine s i w t.line e.data e.poison false age false none
            | (s, none) => s
        else missFetch s i t true
  match findWay s i t.line with
  | some w =>
    match readWay s i set w with
    | (s, some (d, p)) =>
      modTxn (noteGot (noteFrom ((touch s i set w).count (16 + i) 1 1) t 0) t.req) i t.line fun t =>
        { t with fetch := .got d p false, looked := true }
    | (s, none) => miss s
  | none => miss s

/-- Place a clean line in the Hearth (R213, R221): where its victim search has been made, as it ended (R211). -/
def fillLine (s : State) (i : Nat) (t : Txn) (d : LineData) (poison : Bool) : State :=
  if (findWay s i t.line).isSome then s
  else
    let r := match t.found with
      | some f => (s, f)
      | none => if txnPol s i t = 2 then (s, none) else searchWay s i (s.setOf t.line) (reqClass s t.req)
    match r with
    | (s, some (w, age)) => placeLine s i w t.line d poison false age false none
    | (s, none) => s

/-- The transaction needs the line's data before its effect (R185, R186, R213). A granted UPGRADE of a holder needs
none; nor do full writes and maintenance. -/
def needsData (t : Txn) : Bool :=
  match t.req.kind with
  | .rdShared | .rdOwn | .rdUc | .lres | .wrPart | .scnd | .amo => true
  | .upgrade => !t.ok
  | _ => false

/-- Serve the secondaries of a primary that is performed, from the fill's data d (R218): after a write or atomic, with what it
wrote merged into it (log entry 19). -/
def serveSecs (s : State) (t : Txn) (d : LineData) (poison : Bool) : State :=
  let (d, poison) := if isWriteKind t.req.kind then ((newLine t.req d poison).1, (newLine t.req d poison).2.1) else (d, poison)
  t.secs.foldl (fun s r =>
    let s := noteGot s r
    if r.kind = .prefetch then respond s r opcCMP 0 false []
    else respond s r opcDATA_UC 0 poison (ucBody r.size r.addr d)) s

/-- The entry of a line once the hosts that hold nothing any more are taken out; `none` when no holder is left. -/
def liveEntry (s : State) (i : Nat) (t : Txn) : Option DEntry :=
  match dirEntry s i t.line with
  | none => none
  | some e =>
    let keep := e.ptrs.filter fun h => !(t.gone.contains h || purged s h)
    let lost := e.st == .L && (match e.ptrs with | p :: _ => !keep.contains p | [] => true)
    some { e with ptrs := keep, st := if lost then .S else e.st }

def putEntry (s : State) (i line : Nat) (e : DEntry) : State :=
  match dirWay s i line with
  | some w => dirSet s i line w e
  | none => s

/-- The lead role may go to a requester (R184); never in compatibility mode (R500, R502). -/
def leadOk (s : State) (h : Nat) : Bool := !s.compat && s.bit (dirReg (0x200 + 4 * (h / 32))) (h % 32) && !s.bit (dirReg 0) 0

/-- Directory effect and response of RD_SHARED (R184, R185, R187). -/
def grantShared (s : State) (i : Nat) (t : Txn) (d : LineData) (poison : Bool) : State :=
  let h := hostIdx t.req.src
  let lead := t.lead
  let s := match liveEntry s i t with
    | some e =>
      let e1 := if e.st = .X ∨ e.st = .D then { e with st := .S } else e
      let r := addHolder s i e1 h lead
      putEntry r.1 i t.line r.2
    | none => s
  modTxn (respond s t.req (if lead then opcDATA_L else opcDATA_S) 0 poison (wordsLE 16 d.toNat)) i t.line
    fun t => { t with stage := 2 }

/-- Directory effect and response of RD_OWN and UPGRADE (R185, R188). -/
def grantExclusive (s : State) (i : Nat) (t : Txn) (d : LineData) (poison : Bool) : State :=
  let h := hostIdx t.req.src
  let st := if t.req.kind = .rdOwn then DirSt.X else DirSt.D
  let s := match dirEntry s i t.line with
    | some e => putEntry s i t.line { e with st := st, bcast := false, ptrs := [h] }
    | none => s
  let s := clearResv s t.line none
  let s := if t.req.kind = .upgrade ∧ t.ok = true then respond s t.req opcGRANT_X 0 false []
    else respond s t.req opcDATA_X 0 poison (wordsLE 16 d.toNat)
  modTxn s i t.line fun t => { t with stage := 2 }

/-- A requester purged while its transaction was open: the purge acts on the state that the grant leaves (R192). -/
def grantPurged (s : State) (i : Nat) (t : Txn) : State :=
  if t.gack then s else dirPurgeBy s i t.line fun g => g == hostIdx t.req.src

/-- After an uncached read or a CLEAN of a line in X or D: S with the owner where it kept a copy, else A (R186). -/
def demote (s : State) (i : Nat) (t : Txn) : State :=
  match liveEntry s i t with
  | some e =>
    if e.st = .X ∨ e.st = .D then
      if e.ptrs = [] then dirFree s i t.line else putEntry s i t.line { e with st := .S }
    else s
  | none => s

/-- Send a dirty Hearth line by the flue; it is clean from then on. -/
def flueLine (s : State) (i set w cls : Nat) : State :=
  match readWay s i set w with
  | (s, some (d, p)) =>
    let h := s.hway i set w
    outWrite (s.setHway i set w { h with dirty := false }) i h.line d p cls true false none
  | (s, none) => s

/-- The Hearth effect of CLEAN, INV and CLEAN_INV (R230). -/
def maintHearth (s : State) (i : Nat) (t : Txn) : State :=
  let set := s.setOf t.line
  let s := if isInvKind t.req.kind then kindleKill s i t.line else s
  match findWay s i t.line with
  | none => s
  | some w =>
    let s := if (s.hway i set w).dirty && t.req.kind != .inv then flueLine s i set w (reqClass s t.req) else s
    if isInvKind t.req.kind then s.clearWay i set w else s

/-- The lookup of a full-line write: a Hearth hit, or a miss the stream detector sees (R226, R393). -/
def fullLookup (s : State) (i : Nat) (t : Txn) : State :=
  if t.looked then s
  else if (findWay s i t.line).isSome then s.count (16 + i) 1 1
  else missSeen s i t

/-- The effect of a transaction whose snoops are answered and whose data is here. -/
def commit (s : State) (i : Nat) (t : Txn) (d : LineData) (poison fill : Bool) : State :=
  let s := if fill && !isWriteKind t.req.kind then fillLine s i t d poison else s
  let s := s.blotNote t.req.src t.req.tag fun w =>
    { w with got := w.got.or (some s.tb.count.toNat), outcome := if isWriteKind t.req.kind then some 6 else w.outcome }
  match t.req.kind with
  | .rdShared => grantPurged (grantShared s i t d poison) i t
  | .rdOwn | .upgrade => grantPurged (grantExclusive s i t d poison) i t
  | .rdUc | .lres =>
    modTxn (respond (demote s i t) t.req opcDATA_UC 0 poison (ucBody t.req.size t.req.addr d)) i t.line
      fun t => { t with stage := 2 }
  | .wrLine | .wrPart | .scnd | .zero | .amo =>
    let (nd, np, v, ok) := newLine t.req d poison
    let s := dirFree s i t.line
    let s := kindleKill s i t.line
    let s := if t.req.kind = .wrLine ∨ t.req.kind = .zero then fullLookup s i t else s
    let s := if ok then
        clearResv (storeLine s i t.line nd np (reqClass s t.req) (txnPol s i t) false t.found none) t.line t.req.core
      else if fill && (t.found.isSome || allocates t (txnPol s i t)) then fillLine s i t d poison else s
    modTxn s i t.line fun t => { t with stage := 1, out := BitVec.ofNat 512 v, outPoison := poison, ok := ok }
  | .clean => modTxn (maintHearth (demote s i t) i t) i t.line fun t => { t with stage := 1 }
  | .inv | .cleanInv => modTxn (maintHearth (dirFree s i t.line) i t) i t.line fun t => { t with stage := 1 }
  | .cleanAll | .prefetch | .restore => modTxn s i t.line fun t => { t with stage := 1 }

/-- The response of a write or maintenance operation once it is performed (R155, R186, R230). -/
def lateRespond (s : State) (i : Nat) (t : Txn) : State :=
  let s := noteGot s t.req
  let s := match t.req.kind with
    | .amo => respond s t.req opcAMO_DATA 0 t.outPoison (wordsLE 2 t.out.toNat)
    | .scnd => (respond s t.req opcWR_DONE (b2n t.ok) false []).count (16 + i) 15 (b2n !t.ok)
    | .wrLine | .wrPart | .zero => respond s t.req opcWR_DONE 0 false []
    | _ => respond s t.req opcCMP 0 false []
  modTxn s i t.line fun t => { t with stage := 2 }

/-- The effect of a transaction with no snoop pending, where its data is here; a write waits until the line has come to rest. -/
def performTxn (s : State) (i : Nat) (t : Txn) : State :=
  let moving := lineMoving (s.slice i) t.line
  if needsData t then
    match t.fetch with
    | .got d p f => if moving && isWriteKind t.req.kind then s else serveSecs (commit s i t d p f) t d p
    | _ => s
  else if moving then s else commit s i t 0 false false

/-- Clean data that a snoop answer brought, for a line the Hearth does not hold: the source of the line, and a clean fill
under the region policy (R182). The lookup was a miss (R226). A read of home data in parallel is not used. An operation
that invalidates the line places nothing (log entry 76). -/
def takeClean (s : State) (i : Nat) (t : Txn) (d : LineData) (poison : Bool) : State :=
  let s := modTxn s i t.line fun t => { t with snpData := none }
  if (findWay s i t.line).isSome || isInvKind t.req.kind then s
  else
    let s := if t.fetch = .wait then dropRead s t.line else s
    let s := if t.looked || !(needsData t || isWriteKind t.req.kind) then s else missSeen s i t
    noteGot (noteFrom (modTxn (fillLine s i t d poison) i t.line fun t => { t with fetch := .got d poison false }) t 5) t.req

/-- Carry a transaction as far as it goes: data, effect, response, end (R180). -/
def advance (s : State) (i line : Nat) : State :=
  let gather := fun (s : State) => match txnOf s i line with
    | none => s
    | some t =>
      if t.stage ≠ 0 ∨ t.snps ≠ [] ∨ lineMoving (s.slice i) line = true then s
      else
        let s := match t.snpData, t.fetch with
          | some _, .got _ _ _ => s
          | some (d, p), _ => takeClean s i t d p
          | none, _ => s
        let s := match txnOf s i line with
          | some t => if needsData t = true ∧ t.fetch = .none then startFetch s i t else s
          | none => s
        match txnOf s i line with
        | some t => performTxn s i t
        | none => s
  let late := fun (s : State) => match txnOf s i line with
    | some t => if t.stage = 1 ∧ lineMoving (s.slice i) line = false then lateRespond s i t else s
    | none => s
  let finish := fun (s : State) => match txnOf s i line with
    | some t =>
      if t.stage = 2 ∧ t.gack = false ∧ lineMoving (s.slice i) line = false then
        let s := s.modSlice i fun x => { x with txns := x.txns.filter fun t => t.line != line }
        match dirEntry s i line with
        | some e => if e.ptrs = [] ∧ e.bcast = false then dirFree s i line else s
        | none => s
      else s
    | none => s
  finish (late (gather s))

/-! ## Acceptance (R180, R181, R185, R186, R193, R240) -/

/-- What a request snoops, from the entry of its line: opcode and hosts, and whether home data is read in parallel; with
SNP_LEAD only a pending kindling read is adopted (R223). -/
def snoopPlan (s : State) (i : Nat) (r : Req) (e : Option DEntry) : Nat × List Nat × Bool :=
  let line := lineOf r.addr
  let me := if r.src.loc < 32 then some (hostIdx r.src) else none
  let others := fun (l : List Nat) => l.filter fun h => some h != me
  let xpar := s.bit (dirReg 0) 1
  match e with
  | none =>
    if tainted s i line then
      (opcSNP_INV, if isGrantKind r.kind then others (bcastSet s) else bcastSet s, false)
    else (0, [], false)
  | some e =>
    let hs := holders s e
    let owned := e.st == .X || e.st == .D
    let par := e.st == .X && xpar
    match r.kind with
    | .rdShared =>
      if owned then (opcSNP_SHARED, hs, par)
      else if e.st = .L ∧ (findWay s i line).isNone = true ∧
          (match kFind (s.slice i) line with | some k => k.st != .ready | none => true) = true then
        (opcSNP_LEAD, others (e.ptrs.take 1), (kFind (s.slice i) line).isSome)
      else (0, [], false)
    | .rdOwn => if owned then (opcSNP_INV, hs, par) else (opcSNP_INV, others hs, true)
    | .upgrade =>
      if owned then (opcSNP_INV, hs, par)
      else (opcSNP_INV, others hs, !(match me with | some h => hs.contains h | none => false))
    | .rdUc | .lres => if owned then (opcSNP_SHARED, hs, par) else (0, [], false)
    | .clean => if owned then (opcSNP_SHARED, hs, false) else (0, [], false)
    | .wrLine | .wrPart | .scnd | .zero | .amo | .inv | .cleanInv => (opcSNP_INV, hs, false)
    | .cleanAll | .prefetch | .restore => (0, [], false)

/-- A CLEAN_ALL taken by slice i starts a sweep on every present slice that is not Cold (R231). -/
def startCleanAll (s : State) (i : Nat) (r : Req) : State :=
  let on := s.sliceList.filter fun j => s.domSt (20 + j) != .cold
  let id := s.cleanSeq
  let s := { s with cleanSeq := id + 1, cleanAlls := s.cleanAlls ++ [⟨id, i, r, on⟩] }
  on.foldl (fun s j => (s.wake (20 + j)).modSlice j fun x => { x with sweeps := x.sweeps ++ [.cleanAll id] }) s

/-- The transaction of a request whose line is open and whose directory way, where it needs one, is there. -/
def openTxn (s : State) (i : Nat) (r : Req) : State :=
  let line := lineOf r.addr
  let e := match dirEntry s i line with
    | some e => if e.ptrs = [] ∧ e.bcast = false then none else some e
    | none => none
  let plan := snoopPlan s i r e
  let (s, sn) := sendSnoops s i line plan.1 plan.2.1
  let holder := r.kind == .upgrade && (match e with
    | some e => (e.st == .S || e.st == .L) && (holders s e).contains (hostIdx r.src)
    | none => false)
  let t : Txn :=
    { line := line, req := r, snps := sn, owner := e.bind ownerOf, anyOwner := e.isNone, gone := [], taken := [],
      calm := match e with | some e => e.st == .S || e.st == .L | none => true,
      fetch := .none, snpData := none, pol := effPolicy s i line, lead := leadOk s (hostIdx r.src), found := none,
      looked := false, stage := 0, gack := isGrantKind r.kind && !purged s (hostIdx r.src), out := 0,
      outPoison := false, ok := holder, secs := [] }
  let s := s.modSlice i fun x => { x with txns := x.txns ++ [t] }
  let s := s.blotNote r.src r.tag fun w => { w with acc := some s.tb.count.toNat, snooped := !sn.isEmpty }
  let s := endUnsent s i line sn
  let s := match txnOf s i line with
    | some t => if t.snps ≠ [] ∧ plan.2.2 = true ∧ needsData t = true then startFetch s i t else s
    | none => s
  advance s i line

/-- Begin a request at the address-conflict check: hints, CLEAN_ALL and reservations here, the rest as a transaction. -/
def begin_ (s : State) (i : Nat) (r : Req) : State :=
  let line := lineOf r.addr
  match r.kind with
  | .prefetch =>
    let s := noteGot (noteAcc s r) r
    let s := if s.bit (sliceReg i 0) 3 then kindleFill s i line (reqClass s r) else s
    respond s r opcCMP 0 false []
  | .cleanAll => startCleanAll (noteAcc s r) i r
  | .lres =>
    let k := r.core.getD 0
    openTxn { s with resv := sset zeroD s.resv k (line + 1) } i r
  | .scnd =>
    let k := r.core.getD 0
    let ok := sget zeroD s.resv k == line + 1
    let s := { s with resv := sset zeroD s.resv k 0 }
    if ok then openTxn s i r else (respond (noteGot (noteAcc s r) r) r opcWR_DONE 0 false []).count (16 + i) 15 1
  | _ => openTxn s i r

/-- The request needs a directory way and its line has none. -/
def needsWay (s : State) (i : Nat) (r : Req) : Bool := isGrantKind r.kind && (dirWay s i (lineOf r.addr)).isNone

/-- A way of a set that a walk cannot visit yet: an open transaction, a pending fill, or no room in the flue. -/
def walkBlocked (s : State) (i set w : Nat) : Bool :=
  let h := s.hway i set w
  h.reserved || (h.valid && (lineBusy (s.slice i) h.line || (h.dirty && !hbmRoom s h.line true)))

/-- The miss registers in use (R215): the open transactions, a sweep step that waits, the CLEAN_ALLs that this slice took from
maintenance registers. -/
def missUsed (s : State) (i : Nat) : Nat :=
  (s.slice i).txns.length +
  (if !(s.slice i).sweeps.isEmpty && (List.range 16).any fun w => walkBlocked s i (s.slice i).sweepPos w then 1 else 0) +
  (s.cleanAlls.filter fun c => c.at_ == i && c.req.src == s.home).length

/-- The places in use of the snoop-response and eviction intake (R216): what waits for the slice's domain, and dirty host data
that waits for its way or for an HBM queue. -/
def srspUsed (x : Slice) : Nat :=
  x.srsp.length + (x.installs.filter fun n => n.host).length + (x.outWr.filter fun o => o.host).length

/-- Try to begin a request that has passed the check; it may go to the directory retry queue (R193, R195). `none`
where it must wait for a miss register (R217) or for a place in that queue. -/
def tryBegin (s : State) (i : Nat) (r : Req) (retry : Bool) : Option State :=
  let line := lineOf r.addr
  let s := dirPurge (dirCheck s i line) i line
  let x := s.slice i
  let hit := fun (s' : State) => if 512 < missUsed s' i ∧ missUsed s i < missUsed s' i then none else some s'
  if needsWay s i r then
    let behind := !retry && x.retryq.any fun q => s.setOf (lineOf q.addr) == s.setOf line
    match (if behind then none else dirAlloc s i line) with
    | some s => hit (begin_ s i r)
    | none =>
      if retry ∨ 64 ≤ x.retryq.length then none
      else some (((s.modSlice i fun x => { x with retryq := x.retryq ++ [r] }).count (16 + i) 12 1).blotNote r.src r.tag
        fun w => { w with retry := true })
  else hit (begin_ s i r)

/-- A request may join the primary of its line (R218): an uncached read, or a hint where HINT_EN is 1 (R227). -/
def mayJoin (x : Slice) (hints : Bool) (r : Req) : Bool :=
  (isUncached r.kind || (r.kind == .prefetch && hints)) && !(x.confq.any fun q => lineOf q.addr == lineOf r.addr) &&
  x.txns.any fun t => t.line == lineOf r.addr && t.calm && t.fetch == .wait && t.stage == 0 && decide (t.secs.length < 8)

/-- A request joins the primary of its line; an LRES makes its reservation as it is accepted (R218, R240). -/
def join (s : State) (i : Nat) (r : Req) : State :=
  let s := if r.kind = .lres then { s with resv := sset zeroD s.resv (r.core.getD 0) (lineOf r.addr + 1) } else s
  let s := s.blotNote r.src r.tag fun w => { w with acc := some s.tb.count.toNat, outcome := some 4 }
  ((modTxn s i (lineOf r.addr) fun q => { q with secs := q.secs ++ [r] }).count (16 + i) 6 1).count (16 + i) 0 1

/-- One move of the intake (R195, R217): the retry queue first, then waiting requests whose line is open, then the head
of the request input, which the damper's grant may hold (R464). `none` where nothing moves. -/
def intake (s : State) (i : Nat) : Option State :=
  let x := s.slice i
  let fromRetry := x.retryq.findSome? fun r =>
    if lineBusy x (lineOf r.addr) then none
    else (tryBegin s i r true).map fun s' =>
      s'.modSlice i fun x => { x with retryq := eraseFirst (· == r) x.retryq }
  match fromRetry with
  | some s' => some s'
  | none =>
    let closed := fun line => lineBusy x line || x.retryq.any fun q => lineOf q.addr == line
    let fromConf := x.confq.findSome? fun r =>
      if closed (lineOf r.addr) ∨ (x.confq.find? fun q => lineOf q.addr == lineOf r.addr) ≠ some r then none
      else (tryBegin (s.modSlice i fun x => { x with confq := eraseFirst (· == r) x.confq }) i r false).map
        fun s' => s'.count (16 + i) 0 1
    match fromConf with
    | some s' => some s'
    | none =>
      match x.inq with
      | [] => none
      | r :: t =>
        if decide (64 ≤ x.retryq.length) || rateHeld s (20 + i) (s.paced (20 + i)) then none
        else
          let s1 := (s.modSlice i fun x => { x with inq := t }).pace (20 + i)
          if mayJoin x (s.bit (sliceReg i 0) 3) r then some (join s1 i r)
          else if closed (lineOf r.addr) || x.confq.any fun q => lineOf q.addr == lineOf r.addr then
            if x.confq.length < 64 then some (s1.modSlice i fun x => { x with confq := x.confq ++ [r] }) else none
          else (tryBegin s1 i r false).map fun s' => s'.count (16 + i) 0 1

/-- Repeat the intake; the first argument bounds the moves. -/
def settleN : Nat → State → Nat → State
  | 0, s, _ => s
  | n + 1, s, i =>
    match intake s i with
    | some s' => settleN n s' i
    | none => s

/-- Move the intake of a slice as far as it goes, while its domain is Lit (R43). -/
def settle (s : State) (i : Nat) : State :=
  if s.domLit (20 + i) then
    let x := s.slice i
    settleN (3 * (x.inq.length + x.confq.length + x.retryq.length) + 1) s i
  else s

/-- Take a request into the input of its slice (R216); the slice's domain wakes. -/
def submit (s : State) (r : Req) : State :=
  let i := s.sliceOf (lineOf r.addr)
  settle ((s.wake (20 + i)).modSlice i fun x => { x with inq := x.inq ++ [r] }) i

/-! ## Snoop answers and eviction notices (R169, R182, R189–R192) -/

/-- The kinds of snoop answer (R177). -/
inductive Answer | ackI | ackS | dataI | dataS | gone | miss
  deriving DecidableEq, Repr

/-- Go on with everything that waited on a line. -/
def goOn (s : State) (i line : Nat) : State := settle (evFinish (advance s i line) i line) i

/-- The owner that the open transaction or eviction of a line named at its start, and whether any answerer may bring
dirty data (tainted set). -/
def mayBring (s : State) (i line h : Nat) : Bool :=
  match txnOf s i line with
  | some t => t.owner == some h || t.anyOwner
  | none =>
    match (s.slice i).evbuf.find? fun e => e.line == line with
    | some e => e.owner == some h
    | none => false

/-- The Hearth lookup of a transaction whose data a host brings: a hit, or a miss the stream detector sees (R226, R393). -/
def lookUp (s : State) (i : Nat) (t : Txn) : State :=
  if t.looked || !(needsData t || isWriteKind t.req.kind) then s
  else if (findWay s i t.line).isSome then
    modTxn (s.count (16 + i) 1 1) i t.line fun t => { t with looked := true }
  else missSeen s i t

/-- Dirty host data goes home while a way is reserved for the line's fill: into that way (R221), and on to HBM where the policy
writes through (R213). -/
def writeReserved (s : State) (i line w age : Nat) (d : LineData) (poison : Bool) (notify : Option (AgentId × Tag)) : State :=
  let pol := effPolicy s i line
  let s := kindleKill s i line
  if pol = 1 ∨ pol = 2 then
    outWrite (placeLine s i w line d poison false age true none) i line d poison 3 false true notify
  else placeLine s i w line d poison true age true notify

/-- Dirty host data from a snoop answer or a notice: home, and the source of the transaction's data (R182, R183). -/
def takeDirty (s : State) (i line : Nat) (d : LineData) (poison : Bool) (notify : Option (AgentId × Tag)) : State :=
  match txnOf s i line with
  | some t =>
    if t.stage = 0 then
      let s := lookUp s i t
      let s := match t.fetch, t.found with
        | .wait, some (some (w, age)) => writeReserved s i line w age d poison notify
        | _, _ => writeHome s i line d poison notify
      let s := if t.fetch = .wait then dropRead s line else s
      modTxn (noteGot (noteFrom s t 5) t.req) i line fun t => { t with fetch := .got d poison false }
    else writeHome s i line d poison notify
  | none => writeHome s i line d poison notify

/-- A stray dirty line (R189). -/
def stray (s : State) (i line h : Nat) : State :=
  (s.setErr (dirReg 8) 2 0x30 (dirInfo s i line (some h))).count 53 10 1

/-- Clean data that a back-invalidation brought: a clean fill under the region policy, of class DEVICE (R182, R194, log
entry 76). -/
def cleanBack (s : State) (i line : Nat) (d : LineData) (poison : Bool) : State :=
  if (findWay s i line).isSome || lineMoving (s.slice i) line || effPolicy s i line == 2 then s
  else match searchWay s i (s.setOf line) 7 with
    | (s, some (w, age)) => placeLine s i w line d poison false age false none
    | (s, none) => s

/-- Take the answer to a pending snoop of host h (R177, R189, R191). -/
def takeAnswer (s : State) (i line h : Nat) (a : Answer) (d : LineData) (dirty poison : Bool) : State :=
  let taken := match txnOf s i line with
    | some t => t.taken.contains h
    | none => (s.slice i).evbuf.any fun e => e.line == line && e.taken.contains h
  let data := fun (s : State) =>
    if dirty then (if mayBring s i line h then takeDirty s i line d poison none else stray s i line h)
    else match txnOf s i line with
      | some _ => modTxn s i line fun t => { t with snpData := some (d, poison) }
      | none => cleanBack s i line d poison
  match a with
  | .ackI | .miss => endSnoop (markGone s i line h) i line h
  | .ackS => endSnoop s i line h
  | .dataI => endSnoop (markGone (data s) i line h) i line h
  | .dataS => endSnoop (data s) i line h
  | .gone =>
    if taken then endSnoop s i line h
    else
      let f := fun (l : List Snoop) => l.map fun n => if n.host = h then { n with gone := true } else n
      (modTxn s i line fun t => { t with snps := f t.snps }).modSlice i fun x =>
        { x with evbuf := x.evbuf.map fun e => if e.line = line then { e with snps := f e.snps } else e }

/-- The snoop to host h with this tag is awaited, for the line. -/
def awaited (s : State) (i line h : Nat) (tag : Tag) : Bool :=
  let ok := fun (l : List Snoop) => l.any fun n => n.host == h && n.tag == tag
  (match txnOf s i line with | some t => ok t.snps | none => false) ||
  (s.slice i).evbuf.any fun e => e.line == line && ok e.snps

/-- Take host h out of the entry of a line (R190): the entry stays, without holder, while a transaction that will fill
it is open. -/
def dropHolder (s : State) (i line h : Nat) : State :=
  match dirWay s i line with
  | none => s
  | some w =>
    let e := dirGet s i line w
    let ptrs := e.ptrs.filter fun p => p != h
    let lost := e.st == .L && e.ptrs.head? == some h
    if ptrs = [] ∧ e.bcast = false then dirVacate s i line w
    else dirSet s i line w { e with ptrs := ptrs, st := if lost then .S else e.st }

/-- Take an eviction notice (R190, R191, R199): `dirty` with its data for EVICT_DIRTY. The open transaction's snoop targets were
fixed at its acceptance (R181): a notice of one of them answers its snoop though the entry no longer names it. A host that the
open transaction has found to hold nothing, or whose snoop timed out, is no longer named: its data is discarded (R169). -/
def takeNotice (s : State) (i line : Nat) (src : AgentId) (tag : Tag) (dirty : Bool) (d : LineData) (poison : Bool) :
    State :=
  let h := hostIdx src
  let s := dirPurge (dirCheck s i line) i line
  let done := fun (s : State) => s.sendPlain (s.mkRsp opcEVICT_DONE src tag [])
  let snooped := match txnOf s i line with
    | some t => t.snps.any fun n => n.host == h
    | none => false
  let found := match txnOf s i line with
    | some t => t.stage == 0 && t.gone.contains h
    | none => false
  let inBuf := (s.slice i).evbuf.find? fun e => e.line == line && (e.snps.any fun n => n.host == h)
  let note := fun (s : State) =>
    let f := fun (l : List Snoop) => l.filter fun n => !(n.host == h && n.gone)
    (modTxn s i line fun t => { t with taken := t.taken ++ [h], gone := t.gone ++ [h], snps := f t.snps }).modSlice i
      fun x => { x with evbuf := x.evbuf.map fun e =>
        if e.line = line then { e with taken := e.taken ++ [h], snps := f e.snps } else e }
  if found then done s
  else match inBuf with
  | some e =>
    if dirty then
      if e.owner = some h then note (takeDirty s i line d poison (some (src, tag)))
      else done (note (stray s i line h))
    else done (note s)
  | none =>
    match dirEntry s i line with
    | some e =>
      if e.ptrs = [] ∧ e.bcast = false ∧ tainted s i line = true then
        note (if dirty then takeDirty s i line d poison (some (src, tag)) else done s)
      else if ownerOf e = some h then
        let s := dropHolder s i line h
        note (if dirty then takeDirty s i line d poison (some (src, tag)) else done s)
      else if (holders s e).contains h then
        let s := if dirty then stray s i line h else s
        done (note (if e.ptrs.contains h then dropHolder s i line h else s))
      else if snooped then done (note (if dirty then stray s i line h else s))
      else done s
    | none =>
      if tainted s i line then note (if dirty then takeDirty s i line d poison (some (src, tag)) else done s)
      else if snooped then done (note (if dirty then stray s i line h else s))
      else done s

/-! ## Room in the queues; the purge sweep -/

/-- Lines held for the HBM queues go on where there is room (R216). -/
def drainSlice (s : State) (i : Nat) : State :=
  (s.slice i).outWr.foldl (fun s o =>
    match hbmWrite s o.line o.data o.poison o.cls o.flue with
    | some s =>
      let s := s.modSlice i fun x => { x with outWr := eraseFirst (· == o) x.outWr }
      let s := match o.notify with
        | some (a, t) => s.sendPlain (s.mkRsp opcEVICT_DONE a t [])
        | none => s
      goOn s i o.line
    | none => s) s

/-- The slice awaits a snoop answer or a GACK of a purged agent. -/
def awaitsPurged (s : State) (i : Nat) : Bool :=
  ((s.slice i).txns.any fun t => (t.snps.any fun n => purged s n.host) ||
    (t.gack && t.req.src.loc < 32 && purged s (hostIdx t.req.src))) ||
  (s.slice i).evbuf.any fun e => e.snps.any fun n => purged s n.host

/-- What a slice awaits of purged agents ends (R192): a pending snoop as R169 says, a pending GACK as received. -/
def purgePending (s : State) (i : Nat) : State :=
  if awaitsPurged s i = false then s
  else
    let late := (s.slice i).txns.flatMap (fun t => (t.snps.filter fun n => purged s n.host).map fun n => (t.line, n.host)) ++
      (s.slice i).evbuf.flatMap fun e => (e.snps.filter fun n => purged s n.host).map fun n => (e.line, n.host)
    let s := late.foldl (fun s lh => timeoutSnoop s i lh.1 lh.2) s
    let lines := (s.slice i).txns.map fun t => t.line
    let s := s.modSlice i fun x => { x with txns := x.txns.map fun t =>
      if t.gack && t.req.src.loc < 32 && purged s (hostIdx t.req.src) then { t with gack := false } else t }
    settle ((lines ++ late.map fun l => l.1).foldl (fun s l => evFinish (advance s i l) i l) s) i

/-- Check every set of a bank that holds anything (R199). -/
def dirCheckAll (s : State) (i : Nat) : State := (s.slice i).dir.foldl (fun s e => dirCheckSet s i (e.1 / 16)) s

/-- Take the purged agents out of every entry of a bank whose ways have been checked (R168, R199). -/
def dirPurgeAll (s : State) (i : Nat) : State :=
  let s := dirCheckAll s i
  (s.slice i).dir.foldl (fun s e => if e.2.valid then dirPurge s i e.2.line else s) s

/-- The purge sweep of one slice (R168, R192): what it awaits of purged agents, then every entry. -/
def purgeSlice (s : State) (i : Nat) : State := settle (dirPurgeAll (purgePending s i) i) i

end Sys2Proof.Machine
end

