-- ==== Sys2Proof/Machine/Hearth.lean ====
section
/-! DEFINITION. The Hearth's own events: fills, the flue, kindling arrivals, sweeps, disable and enable, way quench,
poison notices, and register-issued maintenance (R219–R238, R244, R245, R257, R426). -/
namespace Sys2Proof.Machine
open Config

/-! ## Fills, flue, kindling -/

/-- HBM data for the open transaction of a line reaches its slice (R44, R221). -/
def fillArrive (s : State) (i line : Nat) : State :=
  match (s.slice i).ret.find? fun r => r.line == line && !r.kindle with
  | none => s
  | some r =>
    let s := s.modSlice i fun x => { x with ret := eraseFirst (· == r) x.ret }
    match txnOf s i line with
    | some t =>
      if t.fetch = .wait then
        goOn (noteGot (modTxn s i line fun t => { t with fetch := .got r.data r.poison true }) t.req) i line
      else s
    | none => s

/-- HBM_READ_RETURN (R221). -/
def execHbmReadReturn (s_ line : Nat) (s : State) : Host.Outcome State Fault Refusal :=
  onUnit nSlices s_ (fillArrive s s_ line)

/-- The controller takes a dirty victim into its flue queue: the way is reserved, and a line that waited for it is
written (R219, R221). -/
def victimTaken (s : State) (i line : Nat) : State :=
  match (s.slice i).victims.find? fun v => v.line == line with
  | none => s
  | some v =>
    if hbmRoom s line true && !((s.slice i).outWr.any fun o => o.line == line) then
      match readWay s i v.set v.way with
      | (s, some (d, p)) =>
        let s := (hbmPut s line d p v.cls true).count (16 + i) 7 1
        let s := s.modSlice i fun x => { x with victims := eraseFirst (· == v) x.victims }
        let s := s.setHway i v.set v.way { hlineD 0 with reserved := true }
        let s := match (s.slice i).installs.find? fun n => n.set == v.set && n.way == v.way with
          | some n =>
            let s := s.modSlice i fun x => { x with installs := eraseFirst (· == n) x.installs }
            let s := fillWay s i n.set n.way n.line n.data n.poison n.dirty n.age
            let s := match n.notify with
              | some (a, t) => s.sendPlain (s.mkRsp opcEVICT_DONE a t [])
              | none => s
            goOn s i n.line
          | none => s
        goOn s i line
      | (s, none) => s
    else s

/-- FLUE_VICTIM_ACCEPTED (R219). -/
def execFlueVictimAccepted (s_ line : Nat) (s : State) : Host.Outcome State Fault Refusal :=
  onUnit nSlices s_ (victimTaken s s_ line)

/-- Kindling data reaches its entry; the data of a stale entry is dropped (R222). -/
def kindleArrive (s : State) (i line : Nat) : State :=
  match (s.slice i).ret.find? fun r => r.line == line && r.kindle with
  | none => s
  | some r =>
    s.modSlice i fun x =>
      let rest := x.kindle.filter fun e => !(e.line == line && e.st != .ready)
      let x := { x with ret := eraseFirst (· == r) x.ret }
      if x.kindle.any fun e => e.line == line && e.st == .pending then
        { x with kindle := rest ++ [⟨line, .ready, r.data, r.poison⟩] }
      else { x with kindle := rest }

/-- KINDLING_DATA_ARRIVE (R222). Data for a slice that is not Lit waits at its boundary and wakes it (R459). -/
def execKindlingDataArrive (s_ line : Nat) (s : State) : Host.Outcome State Fault Refusal :=
  onUnit nSlices s_ (if s.domLit (20 + s_) then kindleArrive s s_ line
    else if (s.slice s_).ret.any fun r => r.line == line && r.kindle then s.wake (20 + s_) else s)

/-- STREAM_ENTRY_EXPIRE (R226): no matching event for 65,536 misses of the slice. -/
def execStreamEntryExpire (s_ i : Nat) (s : State) : Host.Outcome State Fault Refusal :=
  onUnit nSlices s_ (s.modSlice s_ fun x =>
    match x.streams[i]? with
    | some e => if e.last + 65536 ≤ x.misses then { x with streams := x.streams.eraseIdx i } else x
    | none => x)

/-! ## Sweeps, disable, enable (R231–R234) -/

/-- Visit one way of a set: a dirty line leaves by the flue; `inval` invalidates the line. -/
def walkWay (s : State) (i set w : Nat) (inval : Bool) : State :=
  let h := s.hway i set w
  if h.valid = false ∨ walkBlocked s i set w = true then s
  else
    let s := if h.dirty then flueLine s i set w 7 else s
    if inval then s.clearWay i set w else s

/-- A slice has finished its part of a CLEAN_ALL; the operation completes with the last (R231). -/
def cleanAllPart (s : State) (i id : Nat) : State :=
  let s := { s with cleanAlls := s.cleanAlls.map fun (c : CleanAll) => if c.id = id then { c with left := c.left.filter (· != i) } else c }
  match s.cleanAlls.find? fun (c : CleanAll) => c.id == id && c.left.isEmpty with
  | some c => respond { noteGot s c.req with cleanAlls := s.cleanAlls.filter fun (c : CleanAll) => c.id != id } c.req opcCMP 0 false []
  | none => s

/-- The running sweep of a slice ends (R231, R233, R234). -/
def sweepEnd (s : State) (i : Nat) : State :=
  match (s.slice i).sweeps with
  | [] => s
  | w :: t =>
    let s := s.modSlice i fun x => { x with sweeps := t, sweepPos := 0 }
    match w with
    | .cleanAll id => cleanAllPart s i id
    | .disable => s.modSlice i fun x => { x with disabling := false, disabled := !x.reEnable || x.coldPrep, reEnable := false }

/-- One step of the running sweep: one set, once nothing in it must wait; the slice must be Lit (R241). -/
def sweepStep (s : State) (i : Nat) : State :=
  if s.domLit (20 + i) = false then s
  else match (s.slice i).sweeps with
  | [] => s
  | why :: _ =>
    let set := (s.slice i).sweepPos
    let s := (List.range 16).foldl (fun s w => walkWay s i set w (why == .disable)) s
    if (List.range 16).any fun w => walkBlocked s i set w then s
    else if set + 1 < 65536 then s.modSlice i fun x => { x with sweepPos := set + 1 }
    else sweepEnd s i

/-- SWEEP_STEP (R231, R233). -/
def execSweepStep (s_ : Nat) (s : State) : Host.Outcome State Fault Refusal := onUnit nSlices s_ (sweepStep s s_)

/-- HEARTH_EN = 0 is written (R233): no allocation, and a sweep that cleans and invalidates. The open transactions allocate
nothing more, also after an enable (R234). -/
def hearthDisable (s : State) (i : Nat) : State :=
  let x := s.slice i
  if x.disabled then s
  else if x.disabling then s.modSlice i fun x => { x with reEnable := false }
  else s.modSlice i fun x => { x with disabling := true, sweeps := x.sweeps ++ [.disable], txns := x.txns.map fun t => { t with pol := 2 } }

/-- HEARTH_EN = 1 is written (R234): at once when disabled, held while disabling. -/
def hearthEnable (s : State) (i : Nat) : State :=
  s.modSlice i fun x =>
    if x.disabled && !x.coldPrep then { x with disabled := false } else if x.disabling then { x with reEnable := true } else x

/-! ## Way quench (R236–R238, R245) -/

/-- The QUENCH bits of a slice as they read: bits of retired ways read 1. -/
def wayqRead (s : State) (i : Nat) : Word :=
  sget wordD s.reg.wayq i ||| ((s.slice i).retired.setWidth 32) ||| ((s.slice i).retiring.setWidth 32)

/-- Power a quenched way up (R237). -/
def powerUp (i w : Nat) (s : State) : State :=
  s.modSlice i fun x => { x with powering := x.powering ||| BitVec.ofNat 16 (2 ^ w) }

/-- One QUENCH bit is written (R236, R237). The bit of a way that is on its way to RETIRED reads 1 and ignores a write of 0 as that
of a retired way does (DESIGN CHOICE, log entry 76: R426 says it of a way in RETIRED). -/
def quenchBit (i : Nat) (v : Word) (s : State) (w : Nat) : State :=
  let x := s.slice i
  if x.retired.getLsbD w || x.retiring.getLsbD w then s
  else if v.getLsbD w then startWalk i w s
  else if x.quenched.getLsbD w && !x.powering.getLsbD w then powerUp i w s else s

/-- WAYQ_CTL is written: the bits of retired ways stay 1. -/
def wayqWrite (s : State) (i : Nat) (v : Word) : State :=
  let v := v &&& 0xFFFF
  let s := { s with reg := { s.reg with wayq := sset wordD s.reg.wayq i (v ||| ((s.slice i).retired.setWidth 32)) } }
  (List.range 16).foldl (quenchBit i v) s

/-- A walk of a way is over (R236, R237, R426). -/
def walkEnd (i : Nat) (s : State) (w : Nat) : State :=
  let s := s.modSlice i fun x =>
    { x with walking := x.walking.filter fun e => e.1 != w, quenched := x.quenched ||| BitVec.ofNat 16 (2 ^ w) }
  if (s.slice i).retiring.getLsbD w then retireWay i w s
  else if (wayqRead s i).getLsbD w then s else powerUp i w s

/-- One step of the quench walk: the walking ways of one set. -/
def quenchStep (s : State) (i : Nat) : State :=
  let set := (s.slice i).walkPos
  let ways := (s.slice i).walking
  if ways.isEmpty then s
  else
    let s := ways.foldl (fun s e => walkWay s i set e.1 true) s
    if ways.any fun e => walkBlocked s i set e.1 then s
    else
      let pos := (set + 1) % 65536
      let s := s.modSlice i fun x => { x with walkPos := pos }
      (ways.filter fun e => e.2 == pos).foldl (fun s e => walkEnd i s e.1) s

/-- QUENCH_WALK_STEP (R236). -/
def execQuenchWalkStep (s_ : Nat) (s : State) : Host.Outcome State Fault Refusal := onUnit nSlices s_ (quenchStep s s_)

/-- A way is powered up and swept (R237): it becomes eligible, or walks again where QUENCH was set meanwhile. -/
def powerUpDone (s : State) (i w : Nat) : State :=
  if (s.slice i).powering.getLsbD w then
    let m := ~~~ (BitVec.ofNat 16 (2 ^ w))
    let s := s.modSlice i fun x => { x with powering := x.powering &&& m, quenched := x.quenched &&& m }
    if (wayqRead s i).getLsbD w then startWalk i w s else s
  else s

/-- WAY_POWER_UP_DONE (R237). -/
def execWayPowerUpDone (s_ : Nat) (way : BitVec 4) (s : State) : Host.Outcome State Fault Refusal :=
  onUnit nSlices s_ (powerUpDone s s_ way.toNat)

/-! ## Poison notices, error counts (R257, R426) -/

/-- A poison notice: a clean, unpoisoned Hearth copy goes to the HBM write queue; it waits while the line's check is
closed (R257). -/
def poisonNotice (s : State) (i line : Nat) : State :=
  let good := match findWay s i line with
    | some w =>
      let h := s.hway i (s.setOf line) w
      !h.dirty && !h.poison
    | none => false
  if good && lineBusy (s.slice i) line then s
  else
    let s := s.modSlice i fun x => { x with notices := x.notices.erase line }
    match findWay s i line with
    | some w =>
      if good then
        match readWay s i (s.setOf line) w with
        | (s, some (d, false)) => outWrite s i line d false 7 false false none
        | (s, _) => s
      else s
    | none => s

/-- POISON_NOTICE (R257): a notice at a slice that is not Lit wakes it and waits (R241, R449). -/
def execPoisonNotice (s_ line : Nat) (s : State) : Host.Outcome State Fault Refusal :=
  onUnit nSlices s_ (if s.domLit (20 + s_) then poisonNotice s s_ line else s.wake (20 + s_))

/-- WAY_ERROR_COUNT_CLEAR (R426): every count clears. -/
def execWayErrorCountClear (s : State) : Host.Outcome State Fault Refusal :=
  .next ((List.range nSlices).foldl (fun s i => s.modSlice i fun x => { x with wayErrs := List.replicate 16 0 }) s)

/-! ## Register-issued maintenance (R244) -/

/-- The tag of the maintenance request of slice j's registers: agent 63 draws these from its own tags. -/
def maintTag (j : Nat) : Tag := BitVec.ofNat 12 (0x100 + j)

/-- Issue the operation that SLC_MAINT_CMD of slice j holds, as a request of agent 63; an address outside the home
window is refused (R244). A CLEAN_ALL, whose address is ignored, goes to the slice of the home window's first line and holds its
miss register there (DESIGN CHOICE, log entry 76: R215 and R244 name no slice). -/
def maintIssue (s : State) (j : Nat) : State :=
  let op := s.fld (sliceReg j 0x18) 0 2
  let a := (s.rd (sliceReg j 0x10)).toNat / 64 * 64 + s.fld (sliceReg j 0x14) 0 20 * 2 ^ 32
  let home := s.fld (bootReg 0x14) 0 14 * 2 ^ 38
  let s := s.setFld (sliceReg j 0x18) 4 1 0
  let addr := BitVec.ofNat 52 (if op = 3 then home else a)
  match s.classify addr with
  | .home _ =>
    let m := { s.mkMsg opcMAINT 0 (maintTag j) op false addr [] with priv := true }
    { s.modSlice j fun x => { x with maintBusy := true } with spine := { s.spine with req := s.spine.req ++ [m] } }
  | _ => (s.setFld (sliceReg j 0x1C) 0 1 1).setFld (sliceReg j 0x1C) 1 1 1

/-- GO = 1 is written: issued when the previous operation is complete. -/
def maintGo (s : State) (j : Nat) : State := if (s.slice j).maintBusy then s else maintIssue s j

/-- A register-issued operation completes: DONE, and the operation whose GO waits is issued (R244). -/
def maintDone (s : State) (j : Nat) : State :=
  if (s.slice j).maintBusy then
    let s := (s.modSlice j fun x => { x with maintBusy := false }).setFld (sliceReg j 0x1C) 0 1 1
    if s.bit (sliceReg j 0x18) 4 then maintIssue s j else s
  else s

end Sys2Proof.Machine
end

