-- ==== Sys2Proof/Machine/Operands.lean ====
section
/-! DEFINITION. Message words (R139–R141), the message catalogue (R144), and flits (R106–R109). -/
namespace Sys2Proof.Machine

/-- The header word of a message (R139). -/
def msgHeader (m : Msg) : Word :=
  w32 (msgLen m + 2 ^ 6 * m.vc + 2 ^ 9 * m.opc + 2 ^ 16 * m.src.toNat + 2 ^ 26 * b2n m.priv + 2 ^ 27 * b2n m.hop
    + 2 ^ 28 * b2n m.poison)

/-- The second word of a message (R140). -/
def msgSecond (m : Msg) : Word := w32 (m.tag.toNat + 2 ^ 12 * m.dst.toNat + 2 ^ 22 * m.param.toNat)

/-- The words of a message (R139–R141). -/
def msgWords (m : Msg) : List Word :=
  [msgHeader m, msgSecond m] ++ (if hasAddr m.opc then wordsLE 2 m.addr.toNat else []) ++ m.body

/-- A message from its words (R139–R141); the length is the number of words given. -/
def msgOfWords : List Word → Option Msg
  | w0 :: w1 :: t =>
    let opc := wfld w0 9 7
    let mk (addr : PA) (body : List Word) : Msg :=
      { opc := opc, vc := wfld w0 6 3, src := BitVec.ofNat 10 (wfld w0 16 10), dst := BitVec.ofNat 10 (wfld w1 12 10),
        tag := BitVec.ofNat 12 (wfld w1 0 12), priv := w0.getLsbD 26, hop := w0.getLsbD 27, poison := w0.getLsbD 28,
        param := BitVec.ofNat 8 (wfld w1 22 8), addr := addr, body := body }
    if hasAddr opc then
      match t with
      | a :: b :: body => some (mk (BitVec.ofNat 52 (a.toNat + 2 ^ 32 * wfld b 0 20)) body)
      | _ => none
    else some (mk 0 t)
  | _ => none

/-- The directions of the catalogue (R144). -/
inductive Dir | hostToDev | devToHost | devDev
  deriving DecidableEq, Repr

/-- The lengths the catalogue gives an opcode (R144); empty for an opcode it does not list. An AGENT_MSG has an even number of
payload words (R153), so the even lengths of 5–19 are none of its (DESIGN CHOICE, log entry 75). -/
def catLens (opc : Nat) : List Nat :=
  if opc = 0x01 ∨ opc = 0x02 ∨ opc = 0x03 ∨ opc = 0x04 ∨ opc = 0x0A ∨ opc = 0x18 ∨ opc = 0x19 then [4]
  else if opc = 0x08 then [20] else if opc = 0x09 then [22] else if opc = 0x10 then [8]
  else if opc = 0x20 ∨ opc = 0x21 ∨ opc = 0x22 then [4]
  else if opc = 0x30 ∨ opc = 0x31 ∨ opc = 0x34 ∨ opc = 0x35 ∨ opc = 0x38 ∨ opc = 0x3A then [4]
  else if opc = 0x32 ∨ opc = 0x33 ∨ opc = 0x39 then [20]
  else if opc = 0x40 ∨ opc = 0x41 ∨ opc = 0x42 then [18] else if opc = 0x44 then [3, 4, 18]
  else if opc = 0x45 ∨ opc = 0x48 ∨ opc = 0x49 ∨ opc = 0x4B ∨ opc = 0x4C then [2]
  else if opc = 0x4A then [4] else if opc = 0x4F then [3]
  else if opc = 0x50 then [5, 7, 9, 11, 13, 15, 17, 19] else if opc = 0x58 then [5] else if opc = 0x5C then [3]
  else []

/-- The directions the catalogue permits an opcode on a link (R144): requests, snoop responses and agent messages
come from hosts; snoops, responses, agent and event messages go to hosts; every message but none runs between devices. -/
def catDir (opc : Nat) (d : Dir) : Bool :=
  match d with
  | .devDev => true
  | .hostToDev => decide (opc < 0x20) || (decide (0x30 ≤ opc) && decide (opc < 0x40)) || opc == 0x50
  | .devToHost => (decide (0x20 ≤ opc) && decide (opc < 0x30)) || (decide (0x40 ≤ opc) && decide (opc < 0x50))
      || opc == 0x50 || opc == 0x58

/-- The channel a message may travel on (R144): requests on REQ, and on FREQ of a fabric port. -/
def catVC (opc vc : Nat) (fabric : Bool) : Bool := vc == vcOf opc || (decide (opc < 0x20) && vc == 5 && fabric)

/-- A received message obeys the catalogue (R144). -/
def msgLegal (m : Msg) (fabric : Bool) : Bool :=
  (catLens m.opc).contains (msgLen m) && catVC m.opc m.vc fabric &&
  catDir m.opc (if fabric then .devDev else .hostToDev)

/-! ## Flits -/

/-- The kinds of flit (R107). -/
def kindIdle := 0
def kindPayload := 1
def kindNak := 2
def kindControl := 3

/-- The flit header (R107). -/
def flitHeader (kind : Nat) (seq ack : BitVec 9) (crdVc crd : Nat) : Word :=
  w32 (kind + 2 ^ 2 * seq.toNat + 2 ^ 11 * ack.toNat + 2 ^ 20 * crdVc + 2 ^ 23 * crd)

/-- Words in the message area (R106). -/
def areaWords (cx : Bool) : Nat := if cx then 29 else 61

/-- The bytes of a flit: header, message area filled with zero words, CRC (R106, R108, R109). -/
def flitBytes (cx : Bool) (hdr : Word) (area : List Word) : List Byte :=
  let body := bytesOfWords (hdr :: (area ++ List.replicate (areaWords cx - area.length) 0))
  body ++ bytesLE 8 (crc64 body)

/-- Split a message area into messages (R109): `none` where one runs past the end of the area or has no
second word. The first argument bounds the recursion by the words of the area. -/
def parseArea : Nat → List Word → Option (List Msg)
  | 0, _ => some []
  | _, [] => some []
  | n + 1, w :: t =>
    if w = 0 then some []
    else
      let len := wfld w 0 6
      if len = 0 ∨ t.length + 1 < len then none
      else match msgOfWords ((w :: t).take len), parseArea n ((w :: t).drop len) with
        | some m, some ms => some (m :: ms)
        | _, _ => none

end Sys2Proof.Machine
end

