-- ==== Sys2Proof/Machine/Link.lean ====
section
/-! DEFINITION. The link ports: training, flits, retry, credits, RECOVER, LINK_IDLE, emptying and purge
(R91–R138, R160–R169). -/
namespace Sys2Proof.Machine
open Config

/-! ## Purge (R168) -/

/-- Set agents of device d in the purge set and start the sweep; their broadcast bits clear (R197); PURGE counts them
(R168, R393). -/
def purgeSet (s : State) (d : Nat) (mask : Nat) : State :=
  if mask = 0 then s
  else
    let s := { s with purge := smod wordD s.purge d fun w => w ||| w32 mask }
    let s := s.wr (dirReg (0x100 + 4 * d)) (s.rd (dirReg (0x100 + 4 * d)) &&& ~~~ w32 mask)
    let s := s.wr (dirReg (0x180 + 4 * d)) (s.rd (dirReg (0x180 + 4 * d)) &&& ~~~ w32 mask)
    let s := s.count 53 8 (bitsSet 32 mask).length
    match s.reg.claim with
    | .agent a => if a.dev = d ∧ a.loc < 32 ∧ mask.testBit a.loc then
        { s with reg := { s.reg with claim := .none } } else s
    | _ => s

/-- Purge agents, as (device, mask) pairs: what the slices await of them ends at once (R168, R192). -/
def purgeAgents (s : State) (l : List (Nat × Nat)) : State :=
  let s := l.foldl (fun s dm => purgeSet s dm.1 dm.2) s
  s.sliceList.foldl purgePending s

/-- The agents a port carries, as (device, mask) pairs (R168). -/
def agentsBehind (s : State) (p : Nat) : List (Nat × Nat) :=
  if s.isFabric p then
    ((List.range 16).filter fun d => s.routePort d == some p).map fun d => (d, 2 ^ 32 - 1)
  else [(s.devNum, s.agentEn p * 2 ^ (2 * p))]

/-- PURGE_NOTICE naming the local agents of a mask, to agent 63 of every device with a valid route (R168); none in
compatibility mode (R500). -/
def purgeNotices (s : State) (mask : Nat) : State :=
  if s.compat then s
  else (List.range 16).foldl (fun s d =>
    if (s.routePort d).isSome then s.sendPlain (s.mkMsg opcPURGE_NOTICE (mkAgent d 63) 0 0 false 0 [w32 mask])
    else s) s

/-- The claim of window 1 is released when its holder is behind port p: on this device by its host port, on
another device by the routed port (R83). -/
def releaseClaim (s : State) (p : Nat) : State :=
  match s.reg.claim with
  | .agent a =>
    if a.loc < 32 ∧ ((a.dev = s.devNum ∧ a.loc / 2 = p ∧ s.isFabric p = false) ∨ s.routePort a.dev = some p)
    then { s with reg := { s.reg with claim := .none } }
    else if 32 ≤ a.loc ∧ a.dev ≠ s.devNum ∧ s.routePort a.dev = some p
    then { s with reg := { s.reg with claim := .none } } else s
  | _ => s

/-- A snoop of this device's own slices that will not reach its host counts as unanswered (R167, R169). -/
def snoopLost (s : State) (m : Msg) : State :=
  match s.classify m.addr with
  | .home off =>
    let line := off / 64
    let i := s.sliceOf line
    let h := hostIdx m.dst
    if awaited s i line h m.tag then goOn (timeoutSnoop s i line h) i line else s
  | _ => s

/-- What becomes of one message of an emptied egress queue (R167); `held` says that the message waited at the
spine because the 4 KiB queue of its channel was full, and is routed now to a port that is down: no answer is dropped there
without its error (R166). -/
def emptyEgress (p : Nat) (s : State) (held : Bool) (m : Msg) : State :=
  if isReq m || m.opc == opcAGENT_MSG then
    (s.refuse m (if held then 6 else 9)).count p 15 (if held then 0 else 1)
  else if isSnp m then (if m.src = s.home then snoopLost s m else s.discard p m)
  else if held then s.discard p m
  else (s.blotLost m).count p 15 1

/-- The egress messages of a port with, for each, whether it lies past the 4 KiB (1,024 words) of its channel. -/
def egressHeld : List Msg → List Nat → List (Bool × Msg)
  | [], _ => []
  | m :: t, used =>
    let u := nth used m.vc + msgLen m
    (decide (1024 < u), m) :: egressHeld t (lmod used m.vc fun _ => u)

/-- Forget the link state of a port: queues, replay buffer, credits (R123, R167); no lane is locked, and none has signal
until the next DETECT (R138, log entry 74). PORT_STATUS keeps X4, HALF, REVERSED and POLARITY and the PARTNER fields of the
last link until the next training writes them (DESIGN CHOICE, log entry 74: R137 does not say). -/
def portCleared (x : Port) : Port :=
  { x with replay := [], resend := 0, txCred := [0, 0, 0, 0, 0, 0], txInit := [0, 0, 0, 0, 0, 0], rxq := [],
           rxFreed := [0, 0, 0, 0, 0, 0], egress := [], idleReq := false, nakDue := false, discarding := false,
           txSeq := 0, rxLast := 511, ackMsgs := [], reeq := false, retrain := false, fromIdle := false,
           locked := 0, sigDet := 0, rx := RxStream.fresh }

/-- Empty port p, which has just left its traffic states for `st` (R167, R168); the followed requests lost with it free their
places (R406). -/
def emptyPort (s : State) (p : Nat) (st : PortSt) : State :=
  let x := s.port p
  let s := s.modPort p fun x => { portCleared x with st := st }
  let s := s.count p 15 x.rxq.length
  let s := (egressHeld x.egress [0, 0, 0, 0, 0, 0]).foldl (fun s hm => emptyEgress p s hm.1 hm.2) s
  let s := s.blotLose fun w => w.via == some p && w.outcome == some 7 && w.got.isNone
  let s := purgeAgents s (agentsBehind s p)
  let s := if s.isFabric p then s else purgeNotices s (s.agentEn p * 2 ^ (2 * p))
  releaseClaim s p

/-- Link-down (R123): the port leaves ACTIVE, RECOVER or LINK_IDLE for DOWN with a cause (R121). -/
def linkDown (s : State) (p : Nat) (cause : Nat) : State :=
  let s := s.modPort p fun x => { x with lastFail := cause }
  let s := (s.portErr p 3 0).count p 9 1
  emptyPort s p .down

/-- Training fails (R121): TRAIN_FAIL, the cause, DOWN. -/
def trainFail (s : State) (p : Nat) (cause : Nat) : State :=
  let s := s.modPort p fun x => { x with lastFail := cause }
  let s := (s.portErr p 6 0).count p 10 1
  s.modPort p fun x => { x with st := .down, locked := 0, sigDet := 0, rx := RxStream.fresh }

/-- The port enters RECOVER (R122); RETRAIN is accepted when it re-equalises (R137). -/
def enterRecover (s : State) (p : Nat) (reeq : Bool) : State :=
  let s := s.modPort p fun x => { x with st := .recover, reeq := reeq, retrain := false, fromIdle := false, idleReq := false }
  (s.portErr p 2 0).count p 8 1

/-- The port disables (R134): QUIESCE, emptied, purged. -/
def disablePort (s : State) (p : Nat) : State :=
  if (s.port p).st = .disabled ∨ (s.port p).st = .quiesce then s else emptyPort s p .quiesce

/-- EN = 1 (R134): QUIESCED clears and DETECT starts, from DOWN or DISABLED; a port still in QUIESCE starts
DETECT when its disable completes. -/
def enablePort (s : State) (p : Nat) : State :=
  if s.boot.fatal then s
  else if (s.port p).st = .disabled ∨ (s.port p).st = .down then
    s.modPort p fun x => { x with st := .detect, quiesced := false }
  else s

/-- The port reset command: the effect of link-down, in every state (R136, log entry 35). -/
def resetPort (s : State) (p : Nat) : State := linkDown s p 10

/-- RETRAIN (R126, R136): RECOVER with re-equalisation from ACTIVE or LINK_IDLE; else cleared without action. -/
def retrainPort (s : State) (p : Nat) : State :=
  match (s.port p).st with
  | .active | .linkIdle =>
    ((enterRecover (s.wake (4 + p)) p true).modPort p fun x => { x with retrain := true }).setFld (portReg p 4) 1 1 0
  | _ => s.setFld (portReg p 4) 1 1 0

/-! ## Training (R119–R121, R125) -/

/-- Mark lanes bad (R125): LANE_BAD, DEGRADED and the counter for each newly bad lane. -/
def markBad (s : State) (p : Nat) (lanes : Nat) : State :=
  let old := s.fld (portReg p 0x10) 0 8
  let new := (bitsSet 8 lanes).filter fun i => !old.testBit i
  if new.isEmpty then s
  else ((s.setFld (portReg p 0x10) 0 8 (old ||| lanes)).portErr p 4 0).count p 11 new.length

/-- The width and half to run on, given the lanes bad on either side (R125): `none` where no half is clear. -/
def chooseWidth (bad : Nat) (force : Bool) : Option (Bool × Bool) :=
  if bad % 256 = 0 ∧ force = false then some (false, false)
  else if bad % 16 = 0 then some (true, false)
  else if bad / 16 % 16 = 0 then some (true, true)
  else none

/-- The lanes of a width and half, as a mask (R100). -/
def widthLanes (x4 half : Bool) : BitVec 8 := if !x4 then 0xFF else if half then 0xF0 else 0x0F

/-- The lanes whose electrical-idle exit DETECT waits for: all, or the active half where FORCE_X4 or LANE_BAD requires x4
(R119). -/
def awaitedLanes (s : State) (p : Nat) : BitVec 8 :=
  match chooseWidth (s.fld (portReg p 0x10) 0 8) (s.bit (portReg p 0) 9) with
  | some (x4, half) => widthLanes x4 half
  | none => 0xFF

/-- Signal detect and receive termination of a port are powered (R133): not in a reset, not before step 7 of the boot,
not in Cold, not where the port is absent. -/
def sigDetectOn (s : State) (p : Nat) : Bool :=
  s.phys.powerGood && !s.boot.inReset && decide (7 ≤ s.boot.step) && s.portPresent p && (s.dom (4 + p)).st != .cold

/-- What the transmit balls of a port do (R129, R133). -/
def txBalls (s : State) (p : Nat) : BallState :=
  if sigDetectOn s p = false then .float
  else match (s.port p).st with
    | .down | .disabled | .linkIdle => .electricalIdle
    | _ => .driven

/-- The receive buffer of a channel in words: ours by role and profile (R116). -/
def rxWords (fabric cx : Bool) (vc : Nat) : Nat :=
  nth (if cx then [3072, 1024, 1536, 2048, 512, 0]
       else if fabric then [3072, 2048, 3072, 4096, 1024, 3072]
       else [6144, 2048, 3072, 4096, 1024, 0]) vc

/-- The channels a port carries (R116). -/
def carried (fabric : Bool) : List Nat := if fabric then [0, 1, 2, 3, 4, 5] else [0, 1, 2, 3, 4]

/-- What our PARAM control flits carry (R119, R499): role, identity (DEV_ID, or the CX-40's), device number, agents, FEC, x4
asked for, bad lanes, receive-buffer sizes in bytes by channel. -/
structure ParamSent where
  fabric : Bool
  identity : Word
  devnum : Nat
  agents : Nat
  fecRs : Bool
  x4 : Bool
  bad : Nat
  bufs : List Nat
  deriving DecidableEq, Repr

/-- The declaration of port p in PARAM (R97–R99, R116, R119, R125, R499). -/
def paramSent (s : State) (p : Nat) : ParamSent :=
  let cx := s.isCxPort p
  { fabric := s.isFabric p
    identity := if cx then 0x0C400001 else s.rd 0
    devnum := if cx then 0 else s.devNum
    agents := s.agentEn p
    fecRs := s.bit (portReg p 0) 2
    x4 := (s.port p).x4 && (s.port p).st == .recover || s.bit (portReg p 0) 9
    bad := s.fld (portReg p 0x10) 0 8
    bufs := (List.range 6).map fun v => 4 * rxWords (s.isFabric p) cx v }

/-- The cause for which the checks of PARAM fail, lowest code first (R97, R98, R117, R121, log entry 14), but for a fabric
declaration in the CX profile, which is PARTNER_INVALID (R499); `none` where they pass. -/
def paramCause (s : State) (p : Nat) (q : PartnerParam) : Option Nat :=
  let fab := s.isFabric p
  let bad := s.fld (portReg p 0x10) 0 8 ||| q.bad.toNat
  if s.isCxPort p = true ∧ q.fabric = true then some 9
  else if q.fabric ≠ fab ∨ (fab = false ∧ q.agents.toNat ≠ s.agentEn p) then some 4
  else if fab = true ∧ q.devnum.toNat = s.devNum then some 5
  else if q.fecRs ≠ s.bit (portReg p 0) 2 then some 6
  else if (chooseWidth bad (s.bit (portReg p 0) 9 || q.x4)).isNone then some 7
  else if (fab = true ∧ (q.compat = true ∨ (q.devId ≠ 0x8640 ∧ q.devId ≠ 0x8632))) ∨ q.cx ≠ s.isCxPort p then some 9
  else if (carried fab).any fun v => decide (nth q.bufs v < 512) then some 11
  else none

/-- The width fields of a port from PARAM: x4 where FORCE_X4 or the partner's declared width asks for it, or a lane is bad on
either side (R119, R125). A port never widens by itself (R126): `keepX4` holds x4, and with no lane bad and x4 not
forced the half it runs on (DESIGN CHOICE, log entry 73). -/
def setWidth (s : State) (p : Nat) (q : PartnerParam) (keepX4 : Bool) : State :=
  let bad := s.fld (portReg p 0x10) 0 8 ||| q.bad.toNat
  let force := s.bit (portReg p 0) 9
  match chooseWidth bad (force || q.x4 || keepX4) with
  | some (x4, half) => s.modPort p fun x =>
      { x with x4 := x4, half := if keepX4 ∧ bad % 256 = 0 ∧ force = false then x.half else half, partnerBad := q.bad,
               partnerDevnum := q.devnum.toNat, partnerFabric := q.fabric }
  | none => s

/-- The agents of port p are still being swept (R168). -/
def sweepPending (s : State) (p : Nat) : Bool :=
  (agentsBehind s p).any fun dm => decide ((sget wordD s.purge dm.1).toNat &&& dm.2 ≠ 0)

/-! ## Retry and flits (R107–R118) -/

/-- Flits of the replay buffer that an ACK leaves unacknowledged (R111–R113): everything after the flit it names,
all of them where it names none. -/
def afterAck (ack : BitVec 9) (l : List SentFlit) : List SentFlit :=
  if l.any fun f => f.seq == ack then (l.dropWhile fun f => f.seq != ack).drop 1 else l

/-- The AGENT_MSGs for hosts whose flit is now acknowledged get MSG_DONE (R153). -/
def msgDones (s : State) (p : Nat) (live : List SentFlit) : State :=
  let x := s.port p
  let done := x.ackMsgs.filter fun qm => !(live.any fun f => f.seq == qm.1)
  let s := s.modPort p fun x => { x with ackMsgs := x.ackMsgs.filter fun qm => live.any fun f => f.seq == qm.1 }
  done.foldl (fun s qm => s.sendPlain (s.mkMsg opcMSG_DONE qm.2.src qm.2.tag 0 false 0 [])) s

/-- Take an ACK (R107, R111). -/
def takeAck (s : State) (p : Nat) (ack : BitVec 9) : State :=
  let live := afterAck ack (s.port p).replay
  let s := s.modPort p fun x => { x with replay := live, resend := min x.resend live.length }
  msgDones s p live

/-- Start a replay from the oldest unacknowledged flit; the port enters RECOVER when a flit has been replayed
REPLAY_LIMIT times (R113). -/
def startReplay (s : State) (p : Nat) : State :=
  let lim := s.fld (portReg p 0x14) 16 4
  match (s.port p).replay with
  | [] => s
  | f :: _ =>
    if (if lim = 0 then 1 else lim) ≤ f.replays then enterRecover s p false
    else (s.portErr p 1 0).modPort p fun x => { x with resend := x.replay.length }

/-- NAK (R113). -/
def nakReceive (s : State) (p : Nat) (ack : BitVec 9) : State :=
  if (s.port p).st = .active then startReplay (takeAck s p ack) p else s

/-- The free words of a port's receive buffer for a channel (R116, PORT_CREDIT.RX_FREE). -/
def rxSpace (s : State) (p vc : Nat) : Nat :=
  rxWords (s.isFabric p) (s.isCxPort p) vc - (((s.port p).rxq.filter fun m => m.vc == vc).map msgLen).sum

/-- The credits of our receive buffer that the partner may use on a channel (R116): not those still to be returned. -/
def rxFree (s : State) (p vc : Nat) : Nat := rxSpace s p vc - nth (s.port p).rxFreed vc

/-- A protocol or credit error: the bit, then link-down (R110). -/
def protoError (s : State) (p i vc : Nat) : State := linkDown (s.portErr p i vc) p 10

/-- A message that the CX profile excludes (R500): DATA_L, SNP_LEAD, EVENT_MSG, PURGE_NOTICE, anything on FREQ or with
HOP set. -/
def cxExcluded (m : Msg) : Bool :=
  m.hop || m.vc == 5 || [opcDATA_L, opcSNP_LEAD, opcEVENT_MSG, opcPURGE_NOTICE].contains m.opc

/-- Accept the messages of a good flit in order; the first illegal message or credit overrun ends in link-down
(R110, R144). PRIV and HOP are cleared where the port clears them (R63, R143); PRIV of a message that is no request has no
meaning and is kept as received (DESIGN CHOICE, log entry 75). -/
def acceptMsgs (s : State) (p : Nat) : List Msg → State
  | [] => s
  | m :: t =>
    let fab := s.isFabric p
    if msgLegal m fab = false ∨ (s.isCxPort p && cxExcluded m) = true then protoError s p 7 m.vc
    else if rxFree s p m.vc < msgLen m then protoError s p 5 m.vc
    else
      let m' := { m with priv := m.priv && (fab || s.bit (portReg p 0) 8), hop := m.hop && fab }
      let s := if s.boot.fatal then s.modPort p (freeWords m)
               else s.modPort p fun x => { x with rxq := x.rxq ++ [m'] }
      acceptMsgs (s.count p 3 1) p t

/-- Take the credits a payload flit returns (R110, R114). -/
def takeCredits (s : State) (p vc n : Nat) : Option State :=
  if vc = 7 ∨ n = 0 then some s
  else if (carried (s.isFabric p)).contains vc = false then none
  else if nth (s.port p).txInit vc < nth (s.port p).txCred vc + n then none
  else some (s.modPort p fun x => { x with txCred := lmod x.txCred vc (· + n) })

/-- A flit that fails CRC or FEC: discarded, one NAK, and payload flits are discarded until the expected one
arrives (R104, R112). -/
def badFlit (s : State) (p : Nat) : State :=
  let s := (s.portErr p 0 0).count p 4 1
  s.modPort p fun x => { x with nakDue := x.nakDue || !x.discarding, discarding := true }

/-- A payload flit with a good CRC (R112); the ACK and the credits of a discarded one are not used. A NAK that is owed is still
sent after the expected flit has come. Of several faults in one flit the first is reported: the credit return, then the
message area as a whole, then its messages in order (DESIGN CHOICE, log entry 73: R110 gives no order). -/
def payloadFlit (s : State) (p : Nat) (seq ack : BitVec 9) (crdVc crd : Nat) (area : List Word) : State :=
  let x := s.port p
  if seq = x.rxLast + 1 then
    let s := (takeAck s p ack).modPort p fun x => { x with rxLast := seq, discarding := false, idleReq := false }
    let s := s.count p 1 1
    match takeCredits s p crdVc crd with
    | none => protoError s p 5 (crdVc % 8)
    | some s =>
      match parseArea area.length area with
      | none => protoError s p 7 0
      | some ms => acceptMsgs s p ms
  else s.modPort p fun x => { x with nakDue := x.nakDue || !x.discarding, discarding := true, idleReq := false }

/-- A flit passes its CRC (R106, R108). -/
def crcGood (s : State) (p : Nat) (flit : List Byte) : Bool :=
  let n := if s.isCxPort p then 128 else 256
  flit.length == n && crc64 (flit.take (n - 8)) == ofBytesLE (flit.drop (n - 8))

/-- A flit whose FEC is good: CRC, then by kind (R107, R110, R112, R113). Of the two bits R110 names, a CRD field in a flit
that is no payload sets PROTO_ERR (DESIGN CHOICE, log entry 73). -/
def goodFec (s : State) (p : Nat) (flit : List Byte) : State :=
  let n := if s.isCxPort p then 128 else 256
  if crcGood s p flit = false then badFlit s p
  else
    match wordsOfBytes (flit.take (n - 8)) with
    | [] => s
    | h :: area =>
      let kind := wfld h 0 2
      let ack := BitVec.ofNat 9 (wfld h 11 9)
      if kind ≠ kindPayload ∧ wfld h 23 9 ≠ 0 then protoError s p 7 (wfld h 20 3)
      else if kind = kindPayload then
        payloadFlit s p (BitVec.ofNat 9 (wfld h 2 9)) ack (wfld h 20 3) (wfld h 23 9) area
      else if kind = kindNak then nakReceive s p ack
      else takeAck s p ack

/-- FEC decoding of a received flit (R102–R104): the flit, where every codeword of it decodes, and the codewords corrected. Of a
flit that came by RS(544,514) the sender may give the bytes its codewords held, with what their decoding reported (log entry
4). -/
def fecDecode (s : State) (p : Nat) (bytes : List Byte) (rs : RsOutcome) : Option (List Byte) × Nat :=
  if s.bit (portReg p 0) 2 then (if rs.bad then none else some bytes, rs.corrected)
  else match (if bytes.length = 262 then leanReceive bytes else none) with
    | none => (none, 0)
    | some (f, c) => (some f, c)

/-- A flit after FEC decoding, or none where a codeword of it was not corrected (R104). -/
def decodedFlit (s : State) (p : Nat) : Option (List Byte) → State
  | none => badFlit s p
  | some f => goodFec s p f

/-- The bytes of a flit (R106). -/
def flitLen (s : State) (p : Nat) : Nat := if s.isCxPort p then 128 else 256

/-- What arrived is a codeword of RS(544,514), not a flit (R103, log entry 4). -/
def isCodeword (s : State) (p : Nat) (bytes : List Byte) : Bool := s.bit (portReg p 0) 2 && bytes.length == codewordBytes

/-- What leaves FEC decoding (R102–R104): counters of codewords, then each flit or its failure. The flits that a codeword of
RS(544,514) completes are taken one by one while the port is ACTIVE. -/
def flitIn (s : State) (p : Nat) (bytes : List Byte) (rs : RsOutcome) : State :=
  if isCodeword s p bytes then
    let r := (s.port p).rx.take (flitLen s p) bytes
    let s := s.modPort p fun x => { x with rx := r.2.1 }
    let s := match r.2.2 with
      | none => s.count p 7 1
      | some c => s.count p 6 (min c 1)
    r.1.foldl (fun s f => if (s.port p).st = .active then decodedFlit s p f else s) s
  else
    let r := fecDecode s p bytes rs
    let s := s.count p 6 r.2
    decodedFlit (if r.1.isNone then s.count p 7 1 else s) p r.1

/-- A flit is a control flit: it decoded, passes its CRC and has KIND 3 (R107, R124). -/
def isControl (s : State) (p : Nat) : Option (List Byte) → Bool
  | none => false
  | some f => crcGood s p f && match f with
    | b :: _ => b.toNat % 4 == kindControl
    | [] => false

/-- What arrives before ACTIVE (R124): control flits belong to PARAM; any other flit, and one that does not decode, is discarded
and the training attempt fails with EARLY_FLIT (log entry 73). -/
def earlyFlit (s : State) (p : Nat) (bytes : List Byte) (rs : RsOutcome) : State :=
  if isCodeword s p bytes then
    let r := (s.port p).rx.take (flitLen s p) bytes
    if r.1.all (isControl s p) then s.modPort p fun x => { x with rx := r.2.1 } else trainFail s p 12
  else if isControl s p (fecDecode s p bytes rs).1 then s else trainFail s p 12

/-- A message may leave on its channel: credits, and the transit reserve on a fabric port (R114, R161). -/
def mayLeave (fab : Bool) (cred : List Nat) (m : Msg) : Bool :=
  decide (msgLen m + (if fab && !m.hop && decide (1 ≤ m.vc) && decide (m.vc ≤ 4) then 64 else 0) ≤ nth cred m.vc)

/-- The channels that a message which cannot go blocks behind it: one that only the transit reserve may hold back blocks
those with HOP = 0, as number vc + 8; any other the whole channel (R157, R161). -/
def blocks (fab : Bool) (cred : List Nat) (m : Msg) : Nat :=
  if fab && !m.hop && decide (1 ≤ m.vc) && decide (m.vc ≤ 4) && !mayLeave fab cred m then m.vc + 8 else m.vc

/-- Pack messages for one flit, oldest first, keeping the order of each channel (R109, R157, log entry 15):
`room` words are left, `blocked` are channels passed over. Answers the packed and the remaining messages and credits. -/
def packMsgs (fab : Bool) : List Msg → Nat → List Nat → List Nat → List Msg × List Msg × List Nat
  | [], _, cred, _ => ([], [], cred)
  | m :: t, room, cred, blocked =>
    let passed := blocked.contains m.vc || (!m.hop && blocked.contains (m.vc + 8))
    if passed = false ∧ msgLen m ≤ room ∧ mayLeave fab cred m = true then
      let r := packMsgs fab t (room - msgLen m) (lmod cred m.vc (· - msgLen m)) blocked
      (m :: r.1, r.2.1, r.2.2)
    else
      let r := packMsgs fab t room cred (if passed then blocked else blocks fab cred m :: blocked)
      (r.1, m :: r.2.1, r.2.2)

/-- Put a flit on the wire: under lean FEC with its parity, else through the RS(544,514) encoder; then on the lanes
(R100–R103). -/
def putWire (s : State) (p : Nat) (hdr : Word) (area : List Word) : State :=
  let b := flitBytes (s.isCxPort p) hdr area
  s.modPort p fun x =>
    if s.bit (portReg p 0) 2 then { x with lastTx := b, wire := x.wire.rs x.x4 x.half b }
    else { x with lastTx := leanEncode b, wire := x.wire.lean x.x4 x.half (leanEncode b) }

/-- Put a NAK, idle or control flit on the wire: no sequence number is used (R107). -/
def putBare (s : State) (p kind : Nat) : State :=
  let x := s.port p
  putWire s p (flitHeader kind x.txSeq x.rxLast 7 0) []

/-- Send an idle flit. -/
def sendIdle (s : State) (p : Nat) : State := (putBare s p kindIdle).modPort p fun y => { y with sinceIdle := 0 }

/-- The idle flit due in every 2,048 flits goes before the next flit (R114). -/
def idleIfDue (s : State) (p : Nat) : State := if 2047 ≤ (s.port p).sinceIdle then sendIdle s p else s

/-- Send a NAK or control flit. -/
def sendBare (s : State) (p kind : Nat) : State :=
  (putBare (idleIfDue s p) p kind).modPort p fun y => { y with sinceIdle := y.sinceIdle + 1 }

/-- The channel with credits to return, and how many (R107, R114); of several, the lowest (DESIGN CHOICE, log entry 73). -/
def creditDue (x : Port) : Nat × Nat :=
  match (List.range 6).find? fun v => decide (0 < nth x.rxFreed v) with
  | some v => (v, min 511 (nth x.rxFreed v))
  | none => (7, 0)

/-- Send the new payload flit that carries these messages, of what `packMsgs` answered, and the credits due (R107, R111,
R114). With it their responses leave the device (R406). -/
def sendPayload (s : State) (p : Nat) : State :=
  let s := idleIfDue s p
  let x := s.port p
  let r := packMsgs (s.isFabric p) x.egress (areaWords (s.isCxPort p)) x.txCred []
  let c := creditDue x
  let area := r.1.flatMap msgWords
  let f : SentFlit := { seq := x.txSeq, crdVc := c.1, crd := c.2, area := area, replays := 0 }
  let am := r.1.filter fun m => m.opc == opcAGENT_MSG && !s.isFabric p
  let s := putWire s p (flitHeader kindPayload x.txSeq x.rxLast c.1 c.2) area
  let s := s.modPort p fun y =>
    { y with egress := r.2.1, txCred := r.2.2, replay := y.replay ++ [f], txSeq := y.txSeq + 1,
             sinceIdle := y.sinceIdle + 1, ackMsgs := y.ackMsgs ++ am.map fun m => (x.txSeq, m),
             rxFreed := if c.1 < 6 then lmod y.rxFreed c.1 (· - c.2) else y.rxFreed }
  r.1.foldl (fun s m => s.blotLeave m) ((s.count p 0 1).count p 2 r.1.length)

/-- Send a new payload flit where there is something to send and room in the replay buffer, else an idle flit
(R111, R114). -/
def sendNew (s : State) (p : Nat) : State :=
  let x := s.port p
  let r := packMsgs (s.isFabric p) x.egress (areaWords (s.isCxPort p)) x.txCred []
  if x.replay.length < 128 ∧ (r.1 ≠ [] ∨ (creditDue x).2 ≠ 0) then sendPayload s p else sendIdle s p

/-- Send the next flit of the replay again, its ACK field as of now (R111, R113). -/
def resendNext (s : State) (p : Nat) : State :=
  let s := idleIfDue s p
  let x := s.port p
  let i := x.replay.length - x.resend
  match x.replay[i]? with
  | some f =>
    let s := putWire s p (flitHeader kindPayload f.seq x.rxLast f.crdVc f.crd) f.area
    let s := s.modPort p fun y =>
      { y with resend := y.resend - 1, sinceIdle := y.sinceIdle + 1,
               replay := lmod y.replay i fun g => { g with replays := g.replays + 1 } }
    s.count p 5 1
  | none => s

/-- The next flit of a port in ACTIVE (R111–R114): the idle flit due in every 2,048, a NAK owed, a flit to be
sent again, or new traffic. -/
def flitOut (s : State) (p : Nat) : State :=
  let x := s.port p
  if 2047 ≤ x.sinceIdle then sendIdle s p
  else if x.nakDue then (sendBare s p kindNak).modPort p fun y => { y with nakDue := false }
  else if 0 < x.resend then resendNext s p
  else sendNew s p

/-- Traffic that abandons the partner's IDLE_REQ (R128): a payload flit, with nothing in it where there is nothing to send;
where the replay buffer is full no new one may go (R111). -/
def answerTraffic (s : State) (p : Nat) : State :=
  let x := s.port p
  if 0 < x.resend then resendNext s p
  else if x.replay.length < 128 then sendPayload s p
  else flitOut s p

/-! ## LINK_IDLE (R128–R132) -/

/-- The conditions for LINK_IDLE (R128): ACTIVE, queues and replay buffer empty, all credits returned; never in the
CX profile (R132). -/
def idleReady (s : State) (p : Nat) : Bool :=
  let x := s.port p
  x.st == .active && x.egress.isEmpty && x.rxq.isEmpty && x.replay.isEmpty && x.rxFreed == [0, 0, 0, 0, 0, 0] &&
  x.txCred == x.txInit && !s.isCxPort p

/-- The port enters LINK_IDLE, and its lanes are in electrical idle (R119, R128); where its own idle timer asked for it, its domain goes on to Ember (R454). -/
def enterIdle (s : State) (p : Nat) : State :=
  let s' := (s.modPort p fun x => { x with st := .linkIdle, idleReq := false, locked := 0, sigDet := 0 }).count p 14 1
  if (s.port p).idleReq && s.domLit (4 + p) then s'.modDom (4 + p) fun x => { x with moving := some .ember } else s'

/-- The port sends IDLE_REQ (R128): a control flit, as IDLE_ACK is; the manual gives neither a content, and the model's have
an empty message area (DESIGN CHOICE, log entry 73). -/
def idleRequest (s : State) (p : Nat) : State :=
  if idleReady s p then (sendBare s p kindControl).modPort p fun x => { x with idleReq := true } else s

/-! ## The commands -/

/-- PORT_QUIESCED (R134): QUIESCED sets and the port is DISABLED; where EN has returned to 1 it starts DETECT, unless a command
takes its domain Cold (R135). -/
def execPortQuiesced (p : Nat) (s : State) : Host.Outcome State Fault Refusal :=
  onUnit nPorts p (
    if (s.port p).st = .quiesce then
      let s := s.modPort p fun x => { x with st := .disabled, quiesced := true }
      if s.portEn p && (s.dom (4 + p)).commanded != some .cold then enablePort s p else s
    else s)

/-- ELECTRICAL_IDLE_EXIT (R119, R120, R133): DETECT ends when the awaited lanes leave electrical idle, which the port sees only
with signal detect powered. -/
def execElectricalIdleExit (p : Nat) (s : State) : Host.Outcome State Fault Refusal :=
  onUnit nPorts p (
    if (s.port p).st = .detect ∧ s.portEn p = true ∧ sigDetectOn s p = true then
      s.modPort p fun x => { x with st := .equalize, sigDet := awaitedLanes s p }
    else s)

/-- EQUALIZE_COMPLETE (R105, R119, R125): lanes that failed are marked bad; lean FEC with more than 2
errors on any lane in the last 10 ms fails. -/
def execEqualizeComplete (p : Nat) (r : EqResult) (s : State) : Host.Outcome State Fault Refusal :=
  onUnit nPorts p (
    if (s.port p).st = .equalize then
      let s := markBad s p r.failed.toNat
      if s.bit (portReg p 0) 2 = false ∧ r.errors.any (fun n => decide (2 < n)) = true then trainFail s p 3
      else s.modPort p fun x => { x with st := .lock, lanes := r.lanes }
    else s)

/-- LOCK_COMPLETE (R99, R119, R125). -/
def execLockComplete (p : Nat) (r : LockResult) (s : State) : Host.Outcome State Fault Refusal :=
  onUnit nPorts p (
    if (s.port p).st = .lock then
      (markBad s p r.failed.toNat).modPort p fun x =>
        { x with st := .param, reversed := r.reversed, polarity := r.inverted, locked := x.sigDet &&& ~~~ r.failed }
    else s)

/-- PARAM_COMPLETE (R97, R98, R116, R117, R121): the checks, then ACTIVE with the partner's buffers as credits. It
does not complete while the port's agents are swept (R168). -/
def execParamComplete (p : Nat) (partner : PartnerParam) (s : State) : Host.Outcome State Fault Refusal :=
  onUnit nPorts p (
    if (s.port p).st = .param ∧ sweepPending s p = false then
      match paramCause s p partner with
      | some c => trainFail s p c
      | none =>
        (setWidth s p partner false).modPort p fun x =>
          { portCleared x with st := .active, locked := x.locked, sigDet := x.sigDet, wire := Wire.fresh, reached := true, txInit := partner.bufs.map (· / 4), txCred := partner.bufs.map (· / 4) }
    else s)

/-- TRAINING_TIMEOUT (R121, R125): the state's limit passed; the lanes that failed are marked bad. -/
def execTrainingTimeout (p : Nat) (failed : BitVec 8) (s : State) : Host.Outcome State Fault Refusal :=
  onUnit nPorts p (
    match (s.port p).st with
    | .equalize => trainFail (markBad s p failed.toNat) p 1
    | .lock => trainFail (markBad s p failed.toNat) p 2
    | .param => trainFail s p 8
    | _ => s)

/-- DOWN_WAIT_EXPIRE (R121): 10 ms in DOWN have passed and EN = 1. A Cold port stays in DOWN (R460), and no port starts before
step 7 of the boot (R473). -/
def execDownWaitExpire (p : Nat) (s : State) : Host.Outcome State Fault Refusal :=
  onUnit nPorts p (
    if (s.port p).st = .down ∧ s.portEn p = true ∧ s.boot.fatal = false ∧ sigDetectOn s p = true then
      s.modPort p fun x => { x with st := .detect }
    else s)

/-- FLIT_RECEIVE (R103, R104, R110, R112, R124): in ACTIVE what arrives is decoded; before it, it is discarded or belongs to
training. -/
def execFlitReceive (p : Nat) (bytes : List Byte) (rs : RsOutcome) (s : State) : Host.Outcome State Fault Refusal :=
  onUnit nPorts p (
    match (s.port p).st with
    | .active => flitIn s p bytes rs
    | .equalize | .lock | .param => earlyFlit s p bytes rs
    | _ => s)

/-- FLIT_TRANSMIT (R111, R114). -/
def execFlitTransmit (p : Nat) (s : State) : Host.Outcome State Fault Refusal :=
  onUnit nPorts p (if (s.port p).st = .active then flitOut s p else s)

/-- NAK_RECEIVE (R113). -/
def execNakReceive (p : Nat) (ack : BitVec 9) (s : State) : Host.Outcome State Fault Refusal :=
  onUnit nPorts p (nakReceive s p ack)

/-- REPLAY_TIMEOUT (R113). -/
def execReplayTimeout (p : Nat) (s : State) : Host.Outcome State Fault Refusal :=
  onUnit nPorts p (if (s.port p).st = .active then startReplay s p else s)

/-- RECOVER_COMPLETE (R122, R125, R126): lanes still bad are marked, PARAM is exchanged again, the port returns to
ACTIVE and replays from the partner's last ACK; with no clear half, or a failed check, it is link-down. The replays of a
flit are counted anew (DESIGN CHOICE, log entry 73). -/
def execRecoverComplete (p : Nat) (r : EqResult) (partner : PartnerParam) (partnerAck : BitVec 9) (s : State) :
    Host.Outcome State Fault Refusal :=
  onUnit nPorts p (
    if (s.port p).st = .recover ∧ s.domLit (4 + p) = true then
      let x := s.port p
      let s := if x.reeq then markBad s p r.failed.toNat else s
      match paramCause s p partner with
      | some c => linkDown s p (if c = 7 then 7 else 10)
      | none =>
        let s := setWidth s p partner (x.x4 && !x.retrain)
        let s := takeAck s p partnerAck
        s.modPort p fun x =>
          { x with st := .active, reeq := false, retrain := false, resend := x.replay.length,
                   replay := x.replay.map fun f => { f with replays := 0 },
                   lanes := if x.reeq then r.lanes else x.lanes, fromIdle := false, wire := Wire.fresh, rx := RxStream.fresh,
                   sigDet := widthLanes x.x4 x.half,
                   locked := widthLanes x.x4 x.half &&& ~~~ (if x.reeq then r.failed else 0) }
    else s)

/-- RECOVER_OVERRUN (R122). -/
def execRecoverOverrun (p : Nat) (s : State) : Host.Outcome State Fault Refusal :=
  onUnit nPorts p (if (s.port p).st = .recover then linkDown s p 10 else s)

/-- LANE_ERROR_WINDOW (R125): corrected symbols of a lane in a 1 ms window; THRESH = 0 disables the check. -/
def execLaneErrorWindow (p : Nat) (lane : BitVec 3) (corrected : Nat) (s : State) : Host.Outcome State Fault Refusal :=
  onUnit nPorts p (
    let thr := s.fld (portReg p 0x14) 0 16
    if (s.port p).st = .active ∧ thr ≠ 0 ∧ thr < corrected ∧ s.bit (portReg p 0x10) lane.toNat = false then
      enterRecover (markBad s p (2 ^ lane.toNat)) p true
    else s)

/-- LANE_LOCK_LOSS (R125). -/
def execLaneLockLoss (p : Nat) (lane : BitVec 3) (s : State) : Host.Outcome State Fault Refusal :=
  onUnit nPorts p (
    if (s.port p).st = .active ∧ s.bit (portReg p 0x10) lane.toNat = false then
      let s := s.modPort p fun x => { x with locked := x.locked &&& ~~~ (BitVec.ofNat 8 (2 ^ lane.toNat)) }
      enterRecover (markBad s p (2 ^ lane.toNat)) p true
    else s)

/-- IDLE_REQ_RECEIVE (R128): a crossing request is taken as IDLE_ACK; else IDLE_ACK when the conditions hold; else
traffic. -/
def execIdleReqReceive (p : Nat) (s : State) : Host.Outcome State Fault Refusal :=
  onUnit nPorts p (
    if (s.port p).st = .active then
      if (s.port p).idleReq then enterIdle s p
      else if idleReady s p then enterIdle (sendBare s p kindControl) p
      else answerTraffic s p
    else s)

/-- IDLE_ACK_RECEIVE (R128). -/
def execIdleAckReceive (p : Nat) (s : State) : Host.Outcome State Fault Refusal :=
  onUnit nPorts p (if (s.port p).st = .active ∧ (s.port p).idleReq = true then enterIdle s p else s)

/-- IDLE_REQ_TIMEOUT (R128). -/
def execIdleReqTimeout (p : Nat) (s : State) : Host.Outcome State Fault Refusal :=
  onUnit nPorts p (s.modPort p fun x => { x with idleReq := false })

/-- LINK_IDLE_WAKE (R130): receive activity or a queued message; an Ember domain wakes too. -/
def execLinkIdleWake (p : Nat) (rxActivity : Bool) (s : State) : Host.Outcome State Fault Refusal :=
  onUnit nPorts p (
    if (s.port p).st = .linkIdle ∧ (rxActivity = true ∨ (s.port p).egress ≠ []) then
      (enterRecover (s.wake (4 + p)) p false).modPort p fun x =>
        { x with fromIdle := true, sigDet := if rxActivity then widthLanes x.x4 x.half else x.sigDet }
    else s)

/-- RELOCK_TIMEOUT (R130): relock from LINK_IDLE not done within 100 us: re-equalise. -/
def execRelockTimeout (p : Nat) (s : State) : Host.Outcome State Fault Refusal :=
  onUnit nPorts p (if (s.port p).st = .recover ∧ (s.port p).fromIdle = true then s.modPort p fun x => { x with reeq := true } else s)

end Sys2Proof.Machine
end

