-- ==== Sys2Proof/Machine/Coherence.lean ====
section
/-! DEFINITION. Snoop answers, eviction notices, grants and purges as they reach the slices (R150, R168, R169,
R177–R192), and the forwarding of messages (R160–R166). -/
namespace Sys2Proof.Machine
open Config

/-- The home line that an address names. -/
def homeLine (s : State) (addr : PA) : Option Nat :=
  match s.classify addr with
  | .home off => some (off / 64)
  | _ => none

/-- The answer that a snoop answer gives (R177). -/
def answerOf (opc : Nat) : Option Answer :=
  if opc = opcSNP_ACK_I then some .ackI else if opc = opcSNP_ACK_S then some .ackS
  else if opc = opcSNP_DATA_I then some .dataI else if opc = opcSNP_DATA_S then some .dataS
  else if opc = opcSNP_GONE then some .gone else if opc = opcSNP_MISS then some .miss else none

/-- The GACK of the open transaction of a line arrives (R150, R180). -/
def takeGack (s : State) (i line : Nat) (src : AgentId) (tag : Tag) : State :=
  goOn (modTxn s i line fun t =>
    if t.req.src = src ∧ t.req.tag = tag ∧ t.stage = 2 then { t with gack := false } else t) i line

/-- The slice takes a message of the SRSP channel (R150, R169, R189–R191): a late answer, to no awaited snoop, is discarded; a
notice of an agent the directory does not name is answered and its data discarded. -/
def srspTake (s : State) (i line : Nat) (m : Msg) : State :=
  let h := hostIdx m.src
  let d := BitVec.ofNat 512 (ofWordsLE m.body)
  match answerOf m.opc with
  | some a =>
    if 32 ≤ m.src.loc ∨ awaited s i line h m.tag = false then s
    else goOn (takeAnswer s i line h a d (m.param.getLsbD 0) m.poison) i line
  | none =>
    if m.opc = opcGACK then takeGack s i line m.src m.tag
    else if 32 ≤ m.src.loc then s
    else goOn (takeNotice s i line m.src m.tag (m.opc == opcEVICT_DIRTY) d m.poison) i line

/-- A message of the SRSP channel reaches the slice of its line (R216, R241): the slice takes it, at once where its domain is
Lit, else when the domain has woken. One whose 64-place intake is full, or that would pass an earlier one of its source and
line (R157), waits where it is held. In the fatal state it is dropped (R431). `m0` is the message of the operands; one held
for another device is none of this command's (R160). -/
def srspArrive (s : State) (m0 : Msg) : State :=
  let p := fun m => sameMsg m0.opc m0.src m0.tag m0.addr m && m.dst.dev == s.devNum
  let m := (s.heldMsg p).getD m0
  let t := (s.takeMsg p).1
  match homeLine s m.addr with
  | none => t
  | some line =>
    let i := s.sliceOf line
    if t.boot.fatal then t
    else if s.mustWait p m || decide (64 ≤ srspUsed (s.slice i)) then s.holdMsg p m none
    else if s.domLit (20 + i) && (s.slice i).srsp.isEmpty then srspTake t i line m
    else (t.wake (20 + i)).modSlice i fun x => { x with srsp := x.srsp ++ [m] }

/-- A slice that has become Lit takes what waits at its intakes and its boundary (R241, R459). -/
def sliceResume (s : State) (i : Nat) : State :=
  if s.domLit (20 + i) then
    let s := ((s.slice i).ret.filter (·.kindle)).foldl (fun s r => kindleArrive s i r.line) s
    let q := (s.slice i).srsp
    settle (q.foldl (fun s m => match homeLine s m.addr with
      | some line => srspTake s i line m
      | none => s) (s.modSlice i fun x => { x with srsp := [] })) i
  else s

/-- A message of the SRSP channel from its operands (R144). -/
def srspMsg (s : State) (opc : Nat) (src : AgentId) (tag : Tag) (addr : PA) (dirty poison : Bool) (body : List Word) : Msg :=
  { opc := opc, vc := 2, src := src, dst := s.home, tag := tag, priv := false, hop := false, poison := poison,
    param := BitVec.ofNat 8 (b2n dirty), addr := addr, body := body }

/-- SNP_ACK_I (R177): no data, copy invalid. -/
def execSnpAckI (src : AgentId) (tag : Tag) (addr : PA) (s : State) : Host.Outcome State Fault Refusal :=
  .next (srspArrive s (srspMsg s opcSNP_ACK_I src tag addr false false []))

/-- SNP_ACK_S (R177): no data, shared copy kept. -/
def execSnpAckS (src : AgentId) (tag : Tag) (addr : PA) (s : State) : Host.Outcome State Fault Refusal :=
  .next (srspArrive s (srspMsg s opcSNP_ACK_S src tag addr false false []))

/-- SNP_DATA_I (R177, R182): data, copy invalid. -/
def execSnpDataI (src : AgentId) (tag : Tag) (addr : PA) (dirty : Bool) (data : LineData) (poison : Bool) (s : State) :
    Host.Outcome State Fault Refusal :=
  .next (srspArrive s (srspMsg s opcSNP_DATA_I src tag addr dirty poison (wordsLE 16 data.toNat)))

/-- SNP_DATA_S (R177, R182): data, shared copy kept. -/
def execSnpDataS (src : AgentId) (tag : Tag) (addr : PA) (dirty : Bool) (data : LineData) (poison : Bool) (s : State) :
    Host.Outcome State Fault Refusal :=
  .next (srspArrive s (srspMsg s opcSNP_DATA_S src tag addr dirty poison (wordsLE 16 data.toNat)))

/-- SNP_GONE (R191): the sender's eviction notice completes the snoop. -/
def execSnpGone (src : AgentId) (tag : Tag) (addr : PA) (s : State) : Host.Outcome State Fault Refusal :=
  .next (srspArrive s (srspMsg s opcSNP_GONE src tag addr false false []))

/-- SNP_MISS (R189, R191): no copy held. -/
def execSnpMiss (src : AgentId) (tag : Tag) (addr : PA) (s : State) : Host.Outcome State Fault Refusal :=
  .next (srspArrive s (srspMsg s opcSNP_MISS src tag addr false false []))

/-- EVICT_CLEAN (R190). -/
def execEvictClean (src : AgentId) (tag : Tag) (addr : PA) (s : State) : Host.Outcome State Fault Refusal :=
  .next (srspArrive s (srspMsg s opcEVICT_CLEAN src tag addr false false []))

/-- EVICT_DIRTY (R190). -/
def execEvictDirty (src : AgentId) (tag : Tag) (addr : PA) (data : LineData) (poison : Bool) (s : State) :
    Host.Outcome State Fault Refusal :=
  .next (srspArrive s (srspMsg s opcEVICT_DIRTY src tag addr false poison (wordsLE 16 data.toNat)))

/-- GACK (R150): the grant is received and the transaction ends. -/
def execGack (src : AgentId) (tag : Tag) (addr : PA) (s : State) : Host.Outcome State Fault Refusal :=
  .next (srspArrive s (srspMsg s opcGACK src tag addr false false []))

/-- A snoop to host h for the line has no response yet: one that SNP_GONE answered waits for its notice (R191). -/
def snoopPending (s : State) (i line h : Nat) : Bool :=
  let open_ := fun (l : List Snoop) => l.any fun n => n.host == h && !n.gone
  (match txnOf s i line with | some t => open_ t.snps | none => false) ||
  (s.slice i).evbuf.any fun e => e.line == line && open_ e.snps

/-- SNOOP_TIMEOUT (R169): a snoop without response is taken as SNP_MISS. -/
def execSnoopTimeout (agent : AgentId) (addr : PA) (s : State) : Host.Outcome State Fault Refusal :=
  .next (match homeLine s addr with
    | none => s
    | some line =>
      let i := s.sliceOf line
      if snoopPending s i line (hostIdx agent) then goOn (timeoutSnoop s i line (hostIdx agent)) i line else s)

/-- PURGE_NOTICE (R168): the named agents of the sending device are purged. A notice held for another device is none of this
command's (R160). In compatibility mode no notice passes a port: it is a protocol error there, by FLIT_RECEIVE (R500), and has
no effect here. -/
def execPurgeNotice (src : AgentId) (agents : Word) (s : State) : Host.Outcome State Fault Refusal :=
  let p := fun (m : Msg) => m.opc == opcPURGE_NOTICE && m.src == src && m.body == [agents] && m.dst.dev == s.devNum
  let t := (s.takeMsg p).1
  .next (if s.compat then t
    else if t.boot.fatal = true ∨ src.dev = s.devNum then t else purgeAgents t [(src.dev, agents.toNat)])

/-- PURGE_SWEEP_COMPLETE (R168, R192): every bank has lost the purged pointers, and the purge set clears. -/
def execPurgeSweepComplete (s : State) : Host.Outcome State Fault Refusal :=
  .next { s.sliceList.foldl purgeSlice s with purge := [] }

/-! ## Forwarding (R160–R166) -/

/-- A message that no port carries (R166): a request or agent message is refused, a snoop of this device's own slices counts as
unanswered, any other message is discarded. -/
def noPort (s : State) (ingress : Option Nat) (p reason : Nat) (m : Msg) : State :=
  if isReq m || m.opc == opcAGENT_MSG then s.refuseAt ingress m reason
  else if isSnp m && m.src == s.home then snoopLost s m
  else s.discard p m

/-- Put a message out of port p on its way to another device: refused, discarded or queued by the state of the port
(R166). -/
def sendVia (s : State) (ingress : Option Nat) (p : Nat) (m : Msg) : State :=
  if s.canCarry p then
    (if isReq m then s.blotNote m.src m.tag fun w => { w with acc := some s.tb.count.toNat, outcome := some 7, via := some p } else s).enqueue p m
  else noPort s ingress p (if s.portPresent p then 6 else 2) m

/-- The forwarding units that a message passes between its ports, a fabric port each (R450). -/
def fwdUnits (s : State) (ingress : Option Nat) (egress : Nat) : List Nat :=
  (match ingress with
    | some p => if s.isFabric p && p / 8 != egress / 8 then [62 + p / 8] else []
    | none => []) ++ [62 + egress / 8]

/-- The device that a message goes to (R163): a request by its address, any other by its destination. -/
def msgDevice (s : State) (m : Msg) : Option Nat :=
  if isReq m then (match s.classify m.addr with | .route d => some d | _ => none) else some m.dst.dev

/-- The forwarding units that a held message is to pass (R450). -/
def heldUnits (s : State) (h : HeldMsg) : List Nat :=
  match (msgDevice s h.msg).bind s.routePort with
  | some p => fwdUnits s h.from_ p
  | none => []

/-- A message as it goes on: a host port without PRIV_EN has removed the privilege attribute (R63); what a request of the
device's own agents carries in reserved PARAM bits stays inside. -/
def outgoing (s : State) (m : Msg) : Msg :=
  let m := { m with priv := s.privOf m.src m.priv }
  if isReq m && m.src.dev == s.devNum && decide (32 ≤ m.src.loc) then
    { m with param := m.param &&& (if m.opc = opcRD_UC then 7 else if m.opc = opcAMO then 15 else if m.opc = opcMAINT then 3 else 0) }
  else m

/-- Forward a message to another device (R46, R160, R163, R166). The forwarding units it passes must be Lit; else they wake with
their halves and the message waits (R450). -/
def forwardMsg (s : State) (ingress : Option Nat) (m : Msg) : State :=
  let fabIn := match ingress with
    | some p => s.isFabric p
    | none => false
  if fabIn && (if isReq m then m.vc == 5 else m.hop) then
    if isReq m || m.opc == opcAGENT_MSG then s.refuseAt ingress m 7 else s.discard (ingress.getD 0) m
  else match msgDevice s m with
  | none => s.refuseAt ingress m 1
  | some d =>
    let s := voteRoute s d
    match s.routePort d with
      | none => noPort s ingress (ingress.getD 0) 5 m
      | some p =>
        let units := fwdUnits s ingress p
        if units.all s.domLit then
          sendVia s ingress p { outgoing s m with hop := fabIn, vc := if isReq m then (if fabIn then 5 else 0) else m.vc }
        else (units.foldl (fun s d => s.wake d) s).hold m ingress true

/-- A message for an agent of this device that no command of its own delivers: on to the host port, or to the device
agent that waits for it (R153, R166). -/
def deliverLocal (s : State) (ingress : Option Nat) (m : Msg) : State :=
  if m.dst.loc < 32 ∧ m.opc = opcAGENT_MSG then
    if s.portPresent (m.dst.loc / 2) = false then s.refuseAt ingress m 2
    else if s.hostAgent m.dst.loc = false then s.refuseAt ingress m 3
    else sendVia s ingress (m.dst.loc / 2) m
  else s.sendPlain m

end Sys2Proof.Machine
end

