-- ==== Sys2Proof/Machine/Events.lean ====
section
/-! DEFINITION. FIFOs (R383–R388), the event sequencer and event messages (R410–R416), and the fatal state (R431). -/
namespace Sys2Proof.Machine
open Config

/-! ## FIFOs (R383–R386) -/

/-- Push entries together where they fit into a FIFO of n (R384, R387). -/
def fifoPush (n : Nat) (f : Fifo) (ws : List DWord) : Option Fifo :=
  if n < f.items.length + ws.length then none
  else some { f with items := f.items ++ ws, wr := (f.wr + ws.length) % (2 * n) }

/-- Pop an entry: the FIFO after it, the entry, and whether the FIFO was empty, when the last entry popped is
returned again (R384). -/
def fifoPop (n : Nat) (f : Fifo) : Fifo × DWord × Bool :=
  match f.items with
  | [] => (f, f.last, true)
  | x :: t => ({ f with items := t, rd := (f.rd + 1) % (2 * n), last := x }, x, false)

/-- CLEAR: the read pointer equals the write pointer (R386). -/
def fifoClear (f : Fifo) : Fifo := { f with items := [], rd := f.wr }

/-- The base of the registers of a FIFO in the EVENT block (R389). -/
def mboxReg (m rel : Nat) : Nat := evtReg (0x1000 + 0x20 * m + rel)
def efifoReg (rel : Nat) : Nat := evtReg (0x2000 + rel)

/-! ## The sequencer (R410–R416) -/

/-- ALERT_N is low while PEND is 1 (R416). -/
def alertPin (s : State) : State := { s with pins := { s.pins with alertN := !s.bit (evtReg 0x14) 0 } }

/-- The words of EVENT_MSG (R154). -/
def eventBody (seq : BitVec 48) (e : Event) : List Word :=
  [w32 seq.toNat, w32 (seq.toNat / 2 ^ 32 + 2 ^ 16 * e.source + 2 ^ 24 * e.code), e.info]

/-- The two entries of an event in the event FIFO (R414), at timebase tb. -/
def eventEntries (seq : BitVec 48) (e : Event) (tb : Nat) : List DWord :=
  [BitVec.ofNat 64 (bitsOf seq.toNat 0 32 + 2 ^ 32 * (seq.toNat / 2 ^ 32 + 2 ^ 16 * e.source + 2 ^ 24 * (e.code % 128))),
   BitVec.ofNat 64 (e.info.toNat + 2 ^ 32 * (tb % 2 ^ 31) + 2 ^ 63)]

/-- An event message that cannot be sent (R415). -/
def msgLost (s : State) : State := (s.setFld (evtReg 0x10) 0 1 1).count 53 3 1

/-- The agent an event's message goes to (R413). -/
def eventDst (s : State) (e : Event) : AgentId :=
  let v := s.rd (evtReg (0x4000 + 4 * wfld e.info 0 10))
  if e.source = 0x61 ∧ v.getLsbD 31 = true then BitVec.ofNat 10 v.toNat
  else BitVec.ofNat 10 (s.fld (evtReg (0x100 + 4 * e.source)) 16 10)

/-- Number an event and deliver it by its route (R410, R413–R416); never as a message in compatibility mode (R501). -/
def sequenceEvent (s : State) (e : Event) : State :=
  let seq := s.evt.seq
  let s := { s with evt := { s.evt with seq := seq + 1 } }.count 53 0 1
  let route := evtReg (0x100 + 4 * (e.source % 128))
  let s := if s.bit route 0 then
      match fifoPush 1024 s.evt.efifo (eventEntries seq e s.tb.count.toNat) with
      | some f => { s with evt := { s.evt with efifo := f } }
      | none => (s.setFld (efifoReg 0x10) 0 1 1).count 53 1 1
    else s
  let s := if s.bit route 1 && !s.compat then
      if 256 ≤ s.evt.msgq.length then msgLost s
      else { s with evt := { s.evt with
        msgq := s.evt.msgq ++ [s.mkMsg opcEVENT_MSG (eventDst s e) 0 0 false 0 (eventBody seq e)] } }
    else s
  if s.bit route 2 then alertPin (s.setFld (evtReg 0x14) 0 1 1) else s

/-- The words of a channel that wait in the egress queue of a port. -/
def egressWords (x : Port) (vc : Nat) : Nat := (x.egress.filter fun m => m.vc == vc).foldl (fun n m => n + msgLen m) 0

/-- An event message need not wait: its port has MSG credits for it beyond what is queued there, or it is lost (R415). -/
def evtMayGo (s : State) (m : Msg) : Bool :=
  match s.portFor m.dst with
  | some p => !s.canCarry p ||
      mayLeave (s.isFabric p) (lmod (s.port p).txCred m.vc fun c => c - egressWords (s.port p) m.vc) m
  | none => true

/-- Send the oldest event message that need not wait for credits: to its port, or lost where R166 would discard or refuse
it (R415). -/
def eventMsgSend (s : State) : State :=
  match s.evt.msgq.find? (evtMayGo s) with
  | none => s
  | some m =>
    let s := { s with evt := { s.evt with msgq := eraseFirst (evtMayGo s) s.evt.msgq } }
    match s.portFor m.dst with
    | some p => if s.canCarry p then (s.depart p m).count 53 2 1 else msgLost s
    | none => msgLost s

/-- The sequencer takes the oldest event that source `unit` holds (R410). -/
def sequenceNext (s : State) (unit : Nat) : State :=
  match s.evt.waiting.find? fun e => e.source == unit with
  | some e => sequenceEvent { s with evt := { s.evt with waiting := eraseFirst (· == e) s.evt.waiting } } e
  | none => s

/-- EVENT_SEQUENCE (R410). -/
def execEventSequence (unit : Nat) (s : State) : Host.Outcome State Fault Refusal := .next (sequenceNext s unit)

/-- EVENT_MSG_SEND (R415). -/
def execEventMsgSend (s : State) : Host.Outcome State Fault Refusal := .next (eventMsgSend s)

/-! ## The fatal state (R431) -/

/-- Apply a function n times. -/
def repeatN (f : State → State) : Nat → State → State
  | 0, s => s
  | n + 1, s => repeatN f n (f s)

/-- What is queued leaves: event messages to their ports, then the egress queues of ACTIVE ports (R431 step 3). -/
def flushOut (s : State) : State :=
  let s := repeatN eventMsgSend s.evt.msgq.length s
  s.portsList.foldl (fun s p =>
    if (s.port p).st = .active then repeatN (fun s => if (s.port p).egress = [] then s else sendNew s p) (s.port p).egress.length s else s) s

/-- A port goes to DISABLED in the fatal state: emptied without responses, its agents purged (R431 steps 2 and 4) and a claim
behind it released (R83). -/
def fatalPort (s : State) (p : Nat) : State :=
  if (s.port p).st = .disabled ∨ (s.port p).st = .quiesce then s
  else
    let lost := (s.port p).egress
    let s := lost.foldl (fun s m => s.blotLost m) (s.modPort p fun x => { portCleared x with st := .quiesce })
    let s := s.blotLose fun w => w.via == some p && w.outcome == some 7 && w.got.isNone
    releaseClaim ((agentsBehind s p).foldl (fun s dm => purgeSet s dm.1 dm.2) s) p

/-- All host agents of the device, as a mask of local numbers. -/
def hostMask (s : State) : Nat := s.portsList.foldl (fun a p => a + s.agentEn p * 2 ^ (2 * p)) 0

/-- Enter the fatal state for an event (R431). The cold domains of a thermal trip are the caller's. -/
def enterFatal (s : State) (source code : Nat) (info : Word) : State :=
  if s.boot.fatal then s
  else
    let seq := s.evt.seq
    let s := sequenceEvent s ⟨source, code, info⟩
    let s := s.setFld (evtReg 0x20) 0 1 1
    let s := s.wr (evtReg 0x24) (w32 (source % 256 + 2 ^ 8 * (code % 128) + 2 ^ 31))
    let s := (s.wr (evtReg 0x28) (w32 seq.toNat)).wr (evtReg 0x2C) (w32 (seq.toNat / 2 ^ 32))
    let s := sequenceEvent s ⟨0x03, 0x10, 0⟩
    let s := { s with boot := { s.boot with fatal := true }, pins := { s.pins with ready := false } }
    let s := flushOut (purgeNotices s (hostMask s))
    s.portsList.foldl fatalPort s

/-- A fatal error of a unit: its W1C bit sets, and the device enters the fatal state for it (R411, R431). In the fatal state a
bit that goes from 0 to 1 raises its event as any other does (R411, R412). -/
def fatalErr (s : State) (off i source : Nat) (info : Word) : State :=
  if s.boot.fatal then s.setErr off i source info else enterFatal (s.setFld off i 1 1) source (0x10 + i) info

end Sys2Proof.Machine
end

