-- ==== Sys2Proof/Machine/Hbm.lean ====
section
/-! DEFINITION. The pseudo-channel controllers: scheduling and DRAM timing (R263–R274), retirement and decoding,
retraining (R278, R279), patrol scrub (R280, R281), repair (R282–R284), RELOAD (R269) and wipe (R285). -/
namespace Sys2Proof.Machine
open Config

/-! ## Timing rules (R267, R270) -/

/-- A timing field in command-clock periods: 1/16 grain at 2.4 GHz, rounded up (R248, R267). -/
def timCk (k : Sequencer) (i lo w : Nat) : Nat := (wfld (k.tim.getD i 0) lo w * 3 + 19) / 20

/-- A timing field that is a count. -/
def timCount (k : Sequencer) (i lo w : Nat) : Nat := wfld (k.tim.getD i 0) lo w

/-- The sequencers that serve pseudo-channel P (R247). -/
def State.seqOf (s : State) (p : Nat) : Sequencer := if p % 32 < 16 then (s.stackSt (p / 32)).lo else (s.stackSt (p / 32)).hi

/-- Sequencers that take timing values, and the mode registers that they write (R267, R269). -/
def sequencer (tim : List Word) : Sequencer :=
  let q : Sequencer := ⟨tim, 0, 0⟩
  { q with rl := timCk q 0 0 10, wl := timCk q 0 10 10 }

/-- The fields of R270 that are times which the stack requires, as register, low bit, width: tREFI and the counts are none. -/
def timeFields : List (Nat × Nat × Nat) :=
  [(0, 0, 10), (0, 10, 10), (0, 20, 10), (1, 0, 8), (1, 8, 8), (1, 16, 8), (1, 24, 8), (2, 0, 8), (2, 8, 8), (2, 16, 8),
   (2, 24, 8), (3, 0, 10), (3, 10, 10), (3, 20, 8), (4, 0, 8), (4, 8, 8), (4, 16, 8), (4, 24, 8), (5, 0, 10), (5, 10, 8),
   (5, 18, 8), (6, 0, 8), (6, 8, 8), (6, 16, 8), (6, 24, 8), (7, 0, 14), (7, 16, 14), (8, 0, 14), (8, 16, 14), (9, 16, 14),
   (10, 0, 8), (10, 8, 8), (10, 16, 8), (10, 24, 8), (11, 0, 10), (11, 10, 10)]

/-- Some value in force is below its reset value, which is all the manual says to be long enough (R268, log entry 79). -/
def tooShort (k : Sequencer) : Bool :=
  timeFields.any fun f => decide (wfld (k.tim.getD f.1 0) f.2.1 f.2.2 < wfld (timReset.getD f.1 0) f.2.1 f.2.2)

/-- A line whose DRAM result is undefined: free data, poison and wrong symbols (R248, R268). -/
def freeLine (s : State) : State × HbmLine :=
  let (s, d) := s.free
  let (s, v) := s.free
  let (s, b) := s.freeB
  (s, ⟨d, b, (List.range (v.toNat % 8)).map fun i => ⟨bitsOf v.toNat (16 * i + 8) 7 % 72, BitVec.ofNat 8 (bitsOf v.toNat (16 * i + 16) 8)⟩⟩)

/-- What the stack drives for a line (R249): what it holds; an undefined line where a timing value is too short (R268), or
where its contents were lost with its clock and the line has not been written since (R248). -/
def dramLine (s : State) (line : Nat) : State × HbmLine :=
  let p := (hbmLoc s.ten line).pc
  let h := s.hbmAt line
  if tooShort (s.seqOf p) || ((s.stackSt (p / 32)).lost && h == hbmLineD line) then freeLine s else (s, h)

/-- The stack takes a line from the pins (R249); what it then holds is undefined where a timing value is too short (R268). -/
def dramStore (s : State) (line : Nat) (d : LineData) (poison : Bool) : State :=
  if tooShort (s.seqOf (hbmLoc s.ten line).pc) then
    match freeLine s with
    | (s, h) => s.setHbm line h
  else s.setHbm line { data := d, poison := poison, errs := [] }

/-- Clocks from a write command to the end of its data (R248, R270): WL and two clocks of a BL8 burst. -/
def writeEnd (k : Sequencer) : Nat := k.wl + 2

/-- Clocks from a read command to the end of its data (R248, R270): RL and two clocks of a BL8 burst. -/
def readEnd (k : Sequencer) : Nat := k.rl + 2

/-- The least distance from an earlier command to a later one (R270). Banks are named by SID and bank code; the bank
group is the bank code's upper half. The write-recovery rule binds the bank written (log entry 21). An all-bank precharge is
bound by what binds a precharge of any bank of its SID. -/
def timGap (k : Sequencer) (c n : DramCmd) : Nat :=
  let sid := c.sid == n.sid
  let bg := sid && c.bank / 4 == n.bank / 4
  let bank := sid && c.bank == n.bank
  match c.op, n.op with
  | .mrs, .mrs => timCk k 6 16 8
  | .mrs, _ => timCk k 6 24 8
  | .srEnter, .srExit => max (timCk k 10 16 8) (timCk k 10 24 8)
  | .srExit, _ => timCk k 9 16 14
  | .pdEnter, .pdExit => timCk k 10 8 8
  | .pdExit, _ => timCk k 10 0 8
  | .rd, .pdEnter => timCk k 11 0 10
  | .wr, .pdEnter => timCk k 11 10 10
  | .act, .act =>
    if !sid then timCk k 0 20 10 else if bank then timCk k 3 10 10
    else if bg then timCk k 4 8 8 else timCk k 4 0 8
  | .act, .rd => if bank then timCk k 2 0 8 else 0
  | .act, .wr => if bank then timCk k 2 8 8 else 0
  | .act, .pre => if bank then timCk k 3 0 10 else 0
  | .act, .preAb => if sid then timCk k 3 0 10 else 0
  | .rd, .rd | .wr, .wr => if !sid then timCk k 1 16 8 else if bg then timCk k 1 8 8 else timCk k 1 0 8
  | .rd, .wr => timCk k 6 0 8
  | .rd, .pre => if bg then timCk k 4 24 8 else timCk k 4 16 8
  | .rd, .preAb => if sid then timCk k 4 24 8 else timCk k 4 16 8
  | .wr, .rd => writeEnd k + (if bg then timCk k 5 18 8 else timCk k 5 10 8)
  | .wr, .pre => if bank then writeEnd k + timCk k 5 0 10 else 0
  | .wr, .preAb => if sid then writeEnd k + timCk k 5 0 10 else 0
  | .pre, .pre | .pre, .preAb | .preAb, .pre | .preAb, .preAb => timCk k 1 24 8
  | .pre, .act | .pre, .refPb | .pre, .rfmPb => if bank then timCk k 2 16 8 else 0
  | .pre, .refAb | .pre, .rfmAb => if sid then timCk k 2 16 8 else 0
  | .pre, .srEnter | .pre, .mrs => timCk k 2 16 8
  | .preAb, .act | .preAb, .refPb | .preAb, .rfmPb | .preAb, .refAb | .preAb, .rfmAb => if sid then timCk k 2 24 8 else 0
  | .preAb, .srEnter | .preAb, .mrs => timCk k 2 24 8
  | .refPb, .refPb | .refPb, .act => if bank then timCk k 7 16 14 else timCk k 6 8 8
  | .refPb, .rfmPb => if bank then timCk k 7 16 14 else 0
  | .refPb, .refAb | .refPb, .rfmAb => if sid then timCk k 7 16 14 else 0
  | .refPb, .srEnter | .refPb, .mrs => timCk k 7 16 14
  | .refAb, .act | .refAb, .refPb | .refAb, .refAb | .refAb, .rfmPb | .refAb, .rfmAb => if sid then timCk k 7 0 14 else 0
  | .refAb, .srEnter | .refAb, .mrs => timCk k 7 0 14
  | .rfmPb, .act | .rfmPb, .refPb | .rfmPb, .rfmPb => if bank then timCk k 8 16 14 else 0
  | .rfmPb, .refAb | .rfmPb, .rfmAb => if sid then timCk k 8 16 14 else 0
  | .rfmPb, .srEnter | .rfmPb, .mrs => timCk k 8 16 14
  | .rfmAb, .act | .rfmAb, .refPb | .rfmAb, .rfmPb | .rfmAb, .refAb | .rfmAb, .rfmAb => if sid then timCk k 8 0 14 else 0
  | .rfmAb, .srEnter | .rfmAb, .mrs => timCk k 8 0 14
  | _, _ => 0

/-- The fourth last ACT of a SID, where there is one (tFAW). -/
def fourthAct (hist : List DramCmd) (sid : Nat) : Option DramCmd :=
  (hist.filter fun c => c.op == .act && c.sid == sid)[3]?

/-- A bank's key: 16 SID + bank code. -/
def bankKey (sid bank : Nat) : Nat := 16 * sid + bank

/-- SIDs of a pseudo-channel (R246). -/
def State.nSid (s : State) : Nat := if s.devId = 0x8632 then 3 else 4

/-- A command is legal at its clock: after every earlier command's distance, at most four ACTs per tFAW, no ACT to a
bank at RAAMMT (R270, R274), one command a clock. -/
def legal (k : Sequencer) (x : Pc) (rfm : Bool) (n : DramCmd) : Bool :=
  (x.hist.all fun c => decide (c.ck < n.ck) && decide (c.ck + timGap k c n ≤ n.ck)) &&
  (match n.op with
   | .act =>
     (match fourthAct x.hist n.sid with | some c => decide (c.ck + timCk k 3 20 8 ≤ n.ck) | none => true) &&
     !(rfm && decide (timCount k 12 8 8 ≤ sget zeroD x.raa (bankKey n.sid n.bank)))
   | _ => true)

/-! ## Candidates (R264, R265) -/

/-- A request that a command serves: a read or a write entry, by its sequence number. -/
inductive Cand
  | read (e : RdEntry)
  | write (e : WrEntry)
  | refresh (sid bank : Nat)
  | refreshAll (sid : Nat)
  | rfm (sid bank : Nat)
  | rfmAll (sid : Nat)
  deriving DecidableEq, Repr

/-- The row open in a bank: row + 1, or 0. -/
def openRow (x : Pc) (sid bank : Nat) : Nat := sget zeroD x.rows (bankKey sid bank)

def Cand.line : Cand → Nat
  | .read e => e.line
  | .write e => e.line
  | _ => 0
def Cand.seq : Cand → Nat
  | .read e => e.seq
  | .write e => e.seq
  | _ => 0
def Cand.ck : Cand → Nat
  | .read e => e.ck
  | .write e => e.ck
  | _ => 0
def Cand.cls : Cand → Nat
  | .read e => e.cls
  | .write e => e.cls
  | _ => 8

/-- The requests that may have a command: DRAM writes to one line in order, and no write before an earlier read of its
line (R260, R261). -/
def requests (x : Pc) : List Cand :=
  (rdInQueue x).map Cand.read ++
  ((wrInQueue x).filter fun e => decide (e.cols < 2) && !(x.rdq.any fun r => r.line == e.line && decide (r.seq < e.seq)) &&
    !(x.wrq.any fun f => f.line == e.line && decide (f.seq < e.seq) && decide (f.cols < 2))).map Cand.write

/-- The request is a row hit (R264). -/
def rowHit (ten : Bool) (x : Pc) (c : Cand) : Bool :=
  let l := hbmLoc ten c.line
  openRow x l.sid l.bank == l.row + 1

/-- A request for another row of the bank waits (R265). -/
def rowConflict (ten : Bool) (all : List Cand) (sid bank row : Nat) : Bool :=
  all.any fun d =>
    let m := hbmLoc ten d.line
    m.sid == sid && m.bank == bank && m.row != row

/-- A column command has been issued for the request. -/
def Cand.started : Cand → Bool
  | .read e => e.cols != 0
  | .write e => e.cols != 0
  | _ => false

/-- A request that a bank at ROW_HIT_CAP passes over: the bank first serves the one it named, while that waits (R265). -/
def capHolds (ten : Bool) (x : Pc) (all : List Cand) (c : Cand) : Bool :=
  let l := hbmLoc ten c.line
  let first := sget zeroD x.capped (bankKey l.sid l.bank)
  first != 0 && !c.started && c.seq + 1 != first && all.any fun d => d.seq + 1 == first

/-- A refresh or RFM command of a whole SID at clock ck: the all-bank precharge before it where a bank is open (log entry
80). -/
def allBank (x : Pc) (ck : Nat) (op : DramOp) (sid : Nat) : DramCmd :=
  ⟨ck, if (List.range 16).any fun b => openRow x sid b != 0 then .preAb else op, sid, 0, 0, 0⟩

/-- The command that a candidate asks for next, at clock ck. A request that a bank at ROW_HIT_CAP passes over asks for none
(R265). -/
def nextCmd (ten : Bool) (x : Pc) (all : List Cand) (ck : Nat) (c : Cand) : Option DramCmd :=
  match c with
  | .refresh sid bank => some ⟨ck, if openRow x sid bank = 0 then .refPb else .pre, sid, bank, 0, 0⟩
  | .rfm sid bank => some ⟨ck, if openRow x sid bank = 0 then .rfmPb else .pre, sid, bank, 0, 0⟩
  | .refreshAll sid => some (allBank x ck .refAb sid)
  | .rfmAll sid => some (allBank x ck .rfmAb sid)
  | .read e =>
    let l := hbmLoc ten e.line
    let o := openRow x l.sid l.bank
    if capHolds ten x all c then none
    else if o = 0 then some ⟨ck, .act, l.sid, l.bank, l.row, 0⟩
    else if o = l.row + 1 then some ⟨ck, .rd, l.sid, l.bank, l.row, 2 * l.col + e.cols⟩
    else some ⟨ck, .pre, l.sid, l.bank, 0, 0⟩
  | .write e =>
    let l := hbmLoc ten e.line
    let o := openRow x l.sid l.bank
    if capHolds ten x all c then none
    else if o = 0 then some ⟨ck, .act, l.sid, l.bank, l.row, 0⟩
    else if o = l.row + 1 then some ⟨ck, .wr, l.sid, l.bank, l.row, 2 * l.col + e.cols⟩
    else some ⟨ck, .pre, l.sid, l.bank, 0, 0⟩

/-- Order by age. -/
def oldestFirst (l : List Cand) : List Cand := l.insertionSort fun a b => a.seq ≤ b.seq

/-- Row hits first, each part by age. -/
def hitsFirst (ten : Bool) (x : Pc) (l : List Cand) : List Cand :=
  oldestFirst (l.filter (rowHit ten x)) ++ oldestFirst (l.filter fun c => !rowHit ten x c)

/-- The banks of a pseudo-channel. -/
def banksOf (nsid : Nat) : List (Nat × Nat) := (List.range nsid).flatMap fun sid => (List.range 16).map fun b => (sid, b)

/-- The refresh obligations that stand at a debt, in the refresh mode of the stack (R271). The debts of the two modes are kept
apart, and a change of REF_MODE lets those of the other mode stand (DESIGN CHOICE, log entry 80). -/
def refreshes (s : State) (p : Nat) (x : Pc) (stands : Int → Bool) : List Cand :=
  if s.bit (hbmReg (p / 32) 0) 1 then
    ((List.range s.nSid).filter fun sid => stands (sget intD x.debt (64 + sid))).map Cand.refreshAll
  else ((banksOf s.nSid).filter fun b => stands (sget intD x.debt (bankKey b.1 b.2))).map fun b => Cand.refresh b.1 b.2

/-- The banks at an RAA count, while RFM is enabled (R274). -/
def raaBanks (s : State) (p : Nat) (x : Pc) (count : Nat) : List (Nat × Nat) :=
  if s.bit (hbmReg (p / 32) 0) 4 then (banksOf s.nSid).filter fun b => decide (count ≤ sget zeroD x.raa (bankKey b.1 b.2)) else []

/-- The RFM that is mandatory (R274): per bank, or in all-bank mode of the SID (log entry 80). -/
def mandatoryRfm (s : State) (p : Nat) (x : Pc) : List Cand :=
  (raaBanks s p x (timCount (s.seqOf p) 12 8 8)).map fun b =>
    if s.bit (hbmReg (p / 32) 0) 1 then Cand.rfmAll b.1 else Cand.rfm b.1 b.2

/-- The banks that a refresh closes are idle. -/
def closedFor (x : Pc) : Cand → Bool
  | .refresh sid bank => openRow x sid bank == 0
  | .refreshAll sid => (List.range 16).all fun b => openRow x sid b == 0
  | _ => false

/-- The candidates of a controller in the order of R264. A refresh that is due is postponed while demand reads or writes wait
(R272); while none waits it goes before the background reads (log entry 80). Of several refreshes and RFMs of one group the
refreshes come first, and of each the lowest SID and bank (DESIGN CHOICE, log entry 80: R264 orders requests by age alone). -/
def candidates (s : State) (p : Nat) (x : Pc) (ck : Nat) : List Cand :=
  let k := p / 32
  let ten := s.ten
  let all := requests x
  let older := fun (c : Cand) (grains : Nat) => decide (grains * 12 < (ck - c.ck) * 5)
  let ageCap := s.fld (hbmReg k 0x14) 0 16
  let clsCap := s.fld (hbmReg k 0x14) 16 16
  let starved := (List.range 8).filterMap fun c =>
    (oldestFirst (all.filter fun r => r.cls == c)).head?.bind fun r =>
      if clsCap * 12 < (ck - max (nth x.lastCls c) r.ck) * 5 then some r else none
  let demand := all.filter fun c => match c with | .read e => e.src == .demand | _ => false
  let back := all.filter fun c => match c with | .read e => e.src != .demand | _ => false
  let writes := all.filter fun c => match c with | .write _ => true | _ => false
  refreshes s p x (fun d => decide (8 ≤ d)) ++ mandatoryRfm s p x ++
  oldestFirst (all.filter fun c => older c ageCap) ++
  oldestFirst starved ++
  hitsFirst ten x (if x.writeMode then writes else demand) ++
  (if demand.isEmpty && writes.isEmpty then refreshes s p x (fun d => decide (1 ≤ d)) else []) ++
  hitsFirst ten x back ++
  (refreshes s p x (fun d => decide (-8 < d))).filter (closedFor x) ++
  (raaBanks s p x (timCount (s.seqOf p) 12 0 8)).map fun b => Cand.rfm b.1 b.2

/-! ## Issuing a command -/

/-- Commands old enough to bind no rule are forgotten: no field spans 2,500 clocks. -/
def keepHist (ck : Nat) (l : List DramCmd) : List DramCmd := l.filter fun c => decide (ck < c.ck + 2500)

/-- The effect of a command on the banks of the controller (R265, R272, R274). While RFM_EN is 0 no RAA count changes, and they go
on from there when it is 1 again (DESIGN CHOICE, log entry 80). -/
def bankEffect (s : State) (p : Nat) (c : DramCmd) (x : Pc) : Pc :=
  let st := s.seqOf p
  let all := (List.range 16).map fun b => bankKey c.sid b
  let rfm := s.bit (hbmReg (p / 32) 0) 4
  let key := bankKey c.sid c.bank
  let raa := fun (f : Nat → Nat) (keys : List Nat) (x : Pc) =>
    if rfm then { x with raa := keys.foldl (fun m j => smod zeroD m j f) x.raa } else x
  let x := { x with hist := c :: keepHist c.ck x.hist, now := c.ck }
  match c.op with
  | .act => raa (· + 1) [key] { x with rows := sset zeroD x.rows key (c.row + 1), hits := sset zeroD x.hits key 0 }
  | .pre => { x with rows := sset zeroD x.rows key 0 }
  | .preAb => { x with rows := all.foldl (fun m j => sset zeroD m j 0) x.rows }
  | .refPb => raa (· - timCount st 12 16 8) [key] { x with debt := smod intD x.debt key (· - 1) }
  | .refAb => raa (· - timCount st 12 16 8) all
      { x with debt := smod intD x.debt (64 + c.sid) (· - 1) }
  | .rfmPb => raa (· - timCount st 12 0 8) [key] x
  | .rfmAb => raa (· - timCount st 12 0 8) all x
  | .rd | .wr | .mrs | .srEnter | .srExit | .pdEnter | .pdExit => x

/-- A column command for a read at clock ck: after the second the entry leaves the queue with what the stack drives (R249,
R258). -/
def readColumn (s : State) (p : Nat) (e : RdEntry) (ck : Nat) : State :=
  let s := s.count (32 + p / 32) 3 1
  if e.cols = 0 then s.modPc p fun x => { x with rdq := x.rdq.map fun f => if f.seq = e.seq then { f with cols := 1 } else f }
  else match dramLine (s.count (32 + p / 32) 0 1) e.line with
    | (s, h) => s.modPc p fun x =>
      { x with rdq := x.rdq.filter fun f => f.seq != e.seq, flight := x.flight ++ [⟨e, h, ck + readEnd (s.seqOf p)⟩] }

/-- A column command for a write at clock ck (R249). -/
def writeColumn (s : State) (p : Nat) (e : WrEntry) (ck : Nat) : State :=
  let s := s.count (32 + p / 32) 3 1
  let s := if e.cols = 0 then s else s.count (32 + p / 32) 1 1
  s.modPc p fun x => { x with wrq := x.wrq.map fun f =>
    if f.seq = e.seq then { f with cols := f.cols + 1, due := ck + writeEnd (s.seqOf p) } else f }

/-- The oldest request for another row of a bank (R265). -/
def oldestConflict (ten : Bool) (all : List Cand) (sid bank row : Nat) : Option Cand :=
  (oldestFirst (all.filter fun d =>
    let m := hbmLoc ten d.line
    m.sid == sid && m.bank == bank && m.row != row)).head?

/-- A row hit is served (R265): counted while a request for another row of the bank waits; at ROW_HIT_CAP the bank names the
oldest such request. -/
def rowHitServed (s : State) (p : Nat) (c : DramCmd) (x : Pc) : Pc :=
  let key := bankKey c.sid c.bank
  let cap := max 1 (s.fld (hbmReg (p / 32) 0x10) 16 5)
  match oldestConflict s.ten (requests x) c.sid c.bank c.row with
  | none => { x with hits := sset zeroD x.hits key 0 }
  | some d =>
    let n := sget zeroD x.hits key + 1
    { x with hits := sset zeroD x.hits key n, capped := if cap ≤ n then sset zeroD x.capped key (d.seq + 1) else x.capped }

/-- A command reaches the pins: its effect on the banks, and the counters of R393. -/
def issueCommand (s : State) (p : Nat) (c : DramCmd) : State :=
  let s := s.modPc p (bankEffect s p c)
  match c.op with
  | .act => s.count (32 + p / 32) 4 1
  | .refPb | .refAb => s.count (32 + p / 32) 5 1
  | .rfmPb | .rfmAb => s.count (32 + p / 32) 6 1
  | _ => s

/-- Issue a command for a candidate. -/
def issue (s : State) (p : Nat) (cand : Cand) (c : DramCmd) : State :=
  let s := issueCommand s p c
  let s := s.modPc p fun x => { x with lastCls := if cand.cls < 8 then lmod x.lastCls cand.cls fun _ => c.ck else x.lastCls }
  let hit := fun (s : State) => if cand.started then s else s.modPc p (rowHitServed s p c)
  match c.op, cand with
  | .act, .read e => if e.src = .scrub then
      s.modPc p fun x => { x with scrubActs := c.ck :: x.scrubActs.filter fun k => decide (c.ck < k + 2400) } else s
  | .rd, .read e => readColumn (hit s) p e c.ck
  | .wr, .write e => writeColumn (hit s) p e c.ck
  | _, _ => s

/-- The clock at which a command becomes legal, none before `now` (R270). -/
def earliest (k : Sequencer) (x : Pc) (n : DramCmd) : Nat :=
  x.hist.foldl (fun m c => max m (max (c.ck + 1) (c.ck + timGap k c n))) x.now

/-- A command that the controller issues by itself as soon as it is legal. -/
def issueSoon (s : State) (p : Nat) (op : DramOp) (sid bank : Nat) : State :=
  let n : DramCmd := ⟨0, op, sid, bank, 0, 0⟩
  issueCommand s p { n with ck := earliest (s.seqOf p) (s.pc p) n }

/-- The ACTs that the pseudo-channels of a half have issued in the 1 µs up to clock ck, those for scrub left out (R464). -/
def halfActs (s : State) (p ck : Nat) : Nat :=
  (List.range 16).foldl (fun n i =>
    let x := s.pc (p / 16 * 16 + i)
    n + (x.hist.filter fun c => c.op == .act && decide (ck < c.ck + 2400) && !x.scrubActs.contains c.ck).length) 0

/-- The limit of R464 holds a command: an ACT for a read, while the half's ACTs reach its share. Those for
writes are counted, but never held; those for scrub are outside it. -/
def actHeld (s : State) (p : Nat) (cand : Cand) (c : DramCmd) : Bool :=
  match c.op, cand with
  | .act, .read e => e.src != .scrub && rateHeld s (pcDomain p) (halfActs s p c.ck)
  | _, _ => false

/-- A present pseudo-channel whose domain is Lit and which is trained. -/
def pcReady (s : State) (p : Nat) : Bool :=
  s.stackPresent (p / 32) && s.domLit (pcDomain p) && (s.pc p).trained

/-- A retraining that fell due in Ember comes before the first request (R287), while periodic training is enabled. -/
def mustRetrain (s : State) (p : Nat) : Bool := (s.pc p).retrainFirst && s.bit (hbmReg (p / 32) 0x18) 0

/-- The first candidate whose next command is legal and not held, with that command (R264, R464). -/
def pickCommand (s : State) (p : Nat) (x : Pc) (ck : Nat) : Option (Cand × DramCmd) :=
  let all := requests x
  (candidates s p x ck).findSome? fun cand =>
    (nextCmd s.ten x all ck cand).bind fun c =>
      if legal (s.seqOf p) x (s.bit (hbmReg (p / 32) 0) 4) c && !actHeld s p cand c then some (cand, c) else none

/-- The controller's command at clock ck: the first legal one in the order of R264; none where no command is legal. -/
def schedule (s : State) (p ck : Nat) : State :=
  if pcReady s p = false ∨ ck < (s.pc p).now ∨ mustRetrain s p = true then s
  else
    let s := (s.modPc p fun x => { x with now := ck }).setMode p
    match pickCommand s p (s.pc p) ck with
    | some (cand, c) => (issue s p cand c).setMode p
    | none => s

/-- HBM_SCHEDULE_COMMAND (R264). -/
def execHbmScheduleCommand (pc ck : Nat) (s : State) : Host.Outcome State Fault Refusal :=
  onUnit nPcs pc (schedule s pc ck)

/-- The effective tREFI of a pseudo-channel (R273), in command-clock periods: the half of the value as rounded up, rounded down
(DESIGN CHOICE, log entry 80). -/
def effRefi (s : State) (p : Nat) : Nat :=
  let t := timCk (s.seqOf p) 9 0 16
  if (s.stackSt (p / 32)).ref2x then t / 2 else t

/-- The key of a refresh obligation in the refresh mode of the stack (R271). -/
def refKey (s : State) (p sid bank : Nat) : Nat := if s.bit (hbmReg (p / 32) 0) 1 then 64 + sid else bankKey sid bank

/-- REFRESH_DUE (R271–R273): at the clock one more refresh is owed by the bank or by the SID, once per effective tREFI. -/
def execRefreshDue (at_ : PcTime) (sid bank : Nat) (s : State) : Host.Outcome State Fault Refusal :=
  let pc := at_.pc
  let ck := at_.ck
  onUnit nPcs pc (
    let key := refKey s pc sid bank
    if pcReady s pc = true ∧ sid < s.nSid ∧ bank < 16 ∧ sget zeroD (s.pc pc).refAt key + effRefi s pc ≤ ck then
      s.modPc pc fun x => { x with debt := smod intD x.debt key (· + 1), refAt := sset zeroD x.refAt key ck }
    else s)

/-- The clock of the last column command of a bank. -/
def lastColumn (x : Pc) (sid bank : Nat) : Nat :=
  match x.hist.find? fun c => c.sid == sid && c.bank == bank && (c.op == .rd || c.op == .wr) with
  | some c => c.ck
  | none => 0

/-- ROW_IDLE_CLOSE (R265): a row that no queued request hits closes after ROW_IDLE grains. -/
def execRowIdleClose (pc sid bank ck : Nat) (s : State) : Host.Outcome State Fault Refusal :=
  onUnit nPcs pc (
    let x := s.pc pc
    let c : DramCmd := ⟨ck, .pre, sid, bank, 0, 0⟩
    let wanted := (requests x).any fun r =>
      let l := hbmLoc s.ten r.line
      l.sid == sid && l.bank == bank && rowHit s.ten x r
    if pcReady s pc = true ∧ x.now ≤ ck ∧ openRow x sid bank ≠ 0 ∧ wanted = false ∧
        s.fld (hbmReg (pc / 32) 0x10) 24 8 * 12 ≤ (ck - lastColumn x sid bank) * 5 ∧
        legal (s.seqOf pc) x false c = true then
      issueCommand s pc c
    else s)

/-- Lines held for the queues go on in every slice (R216). -/
def drainAll (s : State) : State := s.sliceList.foldl drainSlice s

/-- WRITE_ENTRY_RETIRE (R258): the oldest entry whose last data beat has been driven at the clock leaves its queue; the
stack holds its line. -/
def execWriteEntryRetire (at_ : PcTime) (s : State) : Host.Outcome State Fault Refusal :=
  let pc := at_.pc
  let ck := at_.ck
  onUnit nPcs pc (
    match (s.pc pc).wrq.find? fun e => decide (2 ≤ e.cols) && decide (e.due ≤ ck) with
    | some e =>
      let s := dramStore s e.line e.data e.poison
      drainAll ((s.modPc pc fun x => { x with wrq := eraseFirst (fun f => f.seq == e.seq) x.wrq }).setMode pc)
    | none => s)

/-- HBM_READ_DECODE (R255–R257): the oldest read whose data is in at the clock is decoded, with `noise` the symbols that went
wrong besides those stored, reported, and returned to its slice. -/
def execHbmReadDecode (at_ : PcTime) (noise : List SymErr) (s : State) : Host.Outcome State Fault Refusal :=
  let pc := at_.pc
  let ck := at_.ck
  onUnit nPcs pc (
    match (s.pc pc).flight with
    | [] => s
    | f :: t =>
      if ck < f.due then s
      else
        let s := s.modPc pc fun x => { x with flight := t }
        let (s, o) := decodeLine s f.stored.data f.stored.poison (f.stored.errs ++ noise)
        let s := afterRead s f.rd.line (srcCode f.rd.src) f.rd.wrote o
        if f.rd.src = .scrub ∨ f.rd.drop = true then s
        else returnLine s f.rd.line o.data o.poison (f.rd.src == .kindle))

/-! ## Patrol scrub (R280, R281) -/

/-- The rows of each bank of a SID that scrub visits; in compatibility mode those of the window (R252). -/
def scrubRows (s : State) (sid : Nat) : Nat :=
  if s.nSid ≤ sid then 0
  else if s.compat = false then 24576
  else
    let t := if s.ten then 8 else 4
    if 3 * sid + 3 ≤ t then 24576 else (t - 3 * sid) * 8192

/-- The place after a place of the walk: column, row, bank, SID; 0 at the end of a pass. A place is
((SID x 16 + bank) x 24,576 + row) x 16 + column. -/
def scrubNext (s : State) (pos : Nat) : Nat :=
  let col := pos % 16
  let row := pos / 16 % 24576
  let bk := pos / 16 / 24576
  if col < 15 then pos + 1
  else if row + 1 < scrubRows s (bk / 16) then (bk * 24576 + row + 1) * 16
  else if scrubRows s ((bk + 1) / 16) = 0 then 0
  else (bk + 1) * 24576 * 16

/-- The line at a place of the walk. -/
def scrubLine (s : State) (p pos : Nat) : Nat :=
  hbmLine s.ten { pc := p, sid := pos / 16 / 24576 / 16, bank := pos / 16 / 24576 % 16, row := pos / 16 % 24576, col := pos % 16 }

/-- One scrub read and the walk's move; at the end of a pass the row error table clears. -/
def scrubRead (s : State) (p : Nat) : State :=
  let x := s.pc p
  let line := scrubLine s p x.scrubPos
  let s := if (matchWr x line).isNone then hbmRead (s.count (32 + p / 32) 10 1) line .scrub 7 else s
  let next := scrubNext s x.scrubPos
  let s := s.modPc p fun x => { x with scrubPos := next, rowErrs := if next = 0 then [] else x.rowErrs }
  if next = 0 then
    let s := s.count (32 + p / 32) 11 1
    if p % 32 = 0 then s.setFld (hbmReg (p / 32) 0x24) 0 16 (s.fld (hbmReg (p / 32) 0x24) 0 16 + 1) else s
  else s

/-- A scrub read falls due (R280): at a half that is not Lit it wakes it and waits (R449). -/
def scrubFalls (s : State) (p : Nat) : State :=
  if s.bit (hbmReg (p / 32) 0x20) 0 = false ∨ s.stackPresent (p / 32) = false then s
  else if pcReady s p then scrubRead s p
  else if s.domLit (pcDomain p) then s
  else (s.wake (pcDomain p)).modPc p fun x => { x with scrubDue := true }

/-- SCRUB_READ (R280). -/
def execScrubRead (pc : Nat) (s : State) : Host.Outcome State Fault Refusal := onUnit nPcs pc (scrubFalls s pc)

/-! ## Repair (R282–R284) -/

/-- Log a repair in the lowest free entry of HBM_PPR_LOG, or set LOG_FULL (R290). -/
def pprLog (s : State) (k p sid bank row : Nat) (hard : Bool) : State :=
  match (List.range 16).find? fun i => !s.bit (hbmReg k (0x300 + 4 * i)) 31 with
  | some i =>
    s.wr (hbmReg k (0x300 + 4 * i)) (w32 (row + 2 ^ 15 * bank + 2 ^ 19 * sid + 2 ^ 21 * p + 2 ^ 26 * b2n hard + 2 ^ 31))
  | none => s.setFld (hbmReg k (0x300 + 4 * 15)) 30 1 1

/-- INFO of a repair event (R428). -/
def rowInfo (p sid bank row : Nat) : Word := w32 (p % 32 + 2 ^ 5 * sid + 2 ^ 7 * bank + 2 ^ 11 * row)

/-- Repair one line of a row: the newest data, or what the stack gives, is written into the spare row (R282). -/
def repairLine (noise : List SymErr) (s : State) (line : Nat) : State :=
  match matchWr (s.pc (hbmLoc s.ten line).pc) line with
  | some e => dramStore s line e.data e.poison
  | none =>
    let (s, h) := dramLine s line
    let (s, o) := decodeLine s h.data h.poison (h.errs ++ noise)
    let s := hbmReport s line 3 o
    let s := if o.rep = .ue then sendNotice s line else s
    dramStore s line o.data o.poison

/-- The soft repair of the oldest candidate of a pseudo-channel (R282, R283). -/
def softRepair (s : State) (p : Nat) (noise : List SymErr) : State :=
  let k := p / 32
  match (s.pc p).cands with
  | [] => s
  | c :: t =>
    let s := s.modPc p fun x => { x with cands := t }
    let info := rowInfo p c.sid c.bank c.row
    if (s.stackSt k).soft.any fun r => r.pc == p % 32 && r.sid == c.sid && r.bank == c.bank then
      s.setErr (hbmReg k 0x30) 4 (0x40 + k) info
    else
      let lines := (List.range 16).map fun col =>
        hbmLine s.ten { pc := p, sid := c.sid, bank := c.bank, row := c.row, col := col }
      let s := lines.foldl (repairLine noise) s
      let s := s.modStack k fun x => { x with soft := x.soft ++ [⟨k, p % 32, c.sid, c.bank, c.row⟩] }
      let s := s.modPc p fun x => { x with rows := sset zeroD x.rows (bankKey c.sid c.bank) 0 }
      let s := pprLog s k (p % 32) c.sid c.bank c.row false
      (s.setErr (hbmReg k 0x30) 3 (0x40 + k) info).count (32 + k) 14 1

/-- SOFT_REPAIR (R282); `noise` is what the repair reads find wrong besides what is stored (log entry 22). -/
def execSoftRepair (pc : Nat) (noise : List SymErr) (s : State) : Host.Outcome State Fault Refusal :=
  onUnit nPcs pc (if pcReady s pc && s.bit (hbmReg (pc / 32) 0) 2 then softRepair s pc noise else s)

/-! ## Retraining (R277–R279) -/

/-- The lanes of a pseudo-channel that fail training (R277): those of the stack, and one that failed in this training. -/
def failedLanes (s : State) (p : Nat) (lane : Option (BitVec 6)) : List (BitVec 6) :=
  let l := sget lanesD s.phys.badLanes p
  match lane with
  | some a => if l.contains a then l else l ++ [a]
  | none => l

/-- A training of a pseudo-channel ends (R275–R277, R291): one failed lane is remapped to the redundant lane, a second fails
it. `eyes` are the eyes it left, where a command reports them. -/
def trainPc (s : State) (p : Nat) (ok : Bool) (lane : Option (BitVec 6)) (eyes : Option (Byte × Byte)) (temp : Int) : State :=
  let lanes := failedLanes s p lane
  let good := ok && decide (lanes.length ≤ 1)
  let n := s.freeCtr
  let s := { s with phys := { s.phys with badLanes := sset lanesD s.phys.badLanes p lanes } }
  s.modPc p fun x =>
    { x with trained := good, trainFail := !good, repairLane := lanes.head?, rdEye := (eyes.getD (x.rdEye, x.wrEye)).1,
             wrEye := (eyes.getD (x.rdEye, x.wrEye)).2, eyeFree := if eyes.isSome then none else some n, trainTemp := temp,
             lastTrain := w32 s.tb.count.toNat, trainAt := s.tb.count.toNat, retrainFirst := false }

/-- The reference clock of stack k runs and the stack trains (R248, R276). -/
def stackOk (s : State) (k : Nat) : Bool := s.phys.stackTrains.getD k false && s.phys.refclk.getD k false

/-- The training of R275 on a list of pseudo-channels: what each leaves, its eyes a free value (log entry 3). -/
def trainPcs (s : State) (l : List Nat) : State :=
  let s' := l.foldl (fun s p => trainPc s p (stackOk s (p / 32) && !s.phys.badPcs.contains p) none none (s.stackSt (p / 32)).temp) s
  { s' with freeCtr := s.freeCtr + 1 }

/-- The first of a list of pseudo-channels whose training failed. -/
def trainFailed (s : State) (l : List Nat) : Option Nat := l.find? fun p => (s.pc p).trainFail

/-- TRAIN_FAIL of stack k for a pseudo-channel (R276, R428). -/
def trainFailErr (s : State) (k p : Nat) : State := s.setErr (hbmReg k 0x30) 6 (0x40 + k) (w32 (p % 32))

/-- A full retraining: a lane may be remapped once; a second failed lane, or another failure, fails it and is fatal
(R277, R279). -/
def fullRetrain (s : State) (p : Nat) (r : RetrainResult) : State :=
  let k := p / 32
  let s := (s.setErr (hbmReg k 0x30) 5 (0x40 + k) (w32 (p % 32))).count (32 + k) 13 1
  let s := trainPc s p r.fullOk r.repairLane (some (r.fullRd, r.fullWr)) r.temp
  if (s.pc p).trainFail then fatalErr s (hbmReg k 0x30) 6 (0x40 + k) (w32 (p % 32)) else s

/-- A pseudo-channel is due for retraining (R278): PERIOD grains since its last training, or a temperature that has moved by
DELTA_T. -/
def retrainDue (s : State) (p : Nat) : Bool :=
  let k := p / 32
  let x := s.pc p
  let period := s.fld (hbmReg k 0x1C) 0 32
  let delta := s.fld (hbmReg k 0x18) 8 4
  s.bit (hbmReg k 0x18) 0 &&
    (decide ((if period = 0 then 1000000 else period) ≤ s.tb.count.toNat - x.trainAt) ||
     (delta != 0 && decide (delta ≤ ((s.stackSt k).temp - x.trainTemp).natAbs)))

/-- Another pseudo-channel of the stack comes first (R278): of a lower number, and due as well (log entry 81). -/
def turnOfOther (s : State) (p : Nat) : Bool :=
  (List.range (p % 32)).any fun i =>
    let q := p / 32 * 32 + i
    pcReady s q && retrainDue s q

/-- The refresh obligations that fall due in the next `len` clocks are met (R278): open banks closed, then the refreshes. -/
def refreshAhead (s : State) (p len : Nat) : State :=
  let allMode := s.bit (hbmReg (p / 32) 0) 1
  let x := s.pc p
  let soon := fun key => decide (sget zeroD x.refAt key + effRefi s p ≤ x.now + len)
  if allMode then
    ((List.range s.nSid).filter fun sid => soon (64 + sid)).foldl (fun s sid =>
      let s := if (List.range 16).any fun b => openRow (s.pc p) sid b != 0 then issueSoon s p .preAb sid 0 else s
      issueSoon s p .refAb sid 0) s
  else
    ((banksOf s.nSid).filter fun b => soon (bankKey b.1 b.2)).foldl (fun s b =>
      let s := if openRow (s.pc p) b.1 b.2 != 0 then issueSoon s p .pre b.1 b.2 else s
      issueSoon s p .refPb b.1 b.2) s

/-- PERIODIC_RETRAIN (R278, R279): a pseudo-channel that is due, and whose turn it is, meets the refreshes of its stall of 2 µs
and is retrained. One whose retraining fell due in Ember is retrained whatever holds since, and does not wait for its turn
(R287). -/
def execPeriodicRetrain (pc : Nat) (r : RetrainResult) (s : State) : Host.Outcome State Fault Refusal :=
  onUnit nPcs pc (
    let k := pc / 32
    if pcReady s pc && (mustRetrain s pc || (retrainDue s pc && !turnOfOther s pc)) then
      let s := (refreshAhead s pc 4800).count (32 + k) 12 1
      if min r.rdEye.toNat r.wrEye.toNat < s.fld (hbmReg k 0x18) 16 6 then fullRetrain s pc r
      else trainPc s pc true none (some (r.rdEye, r.wrEye)) r.temp
    else s)

/-! ## Self-refresh (R287–R289) -/

/-- The channels of a half enter self-refresh: open banks are closed first. -/
def selfEnter (s : State) (p : Nat) : State :=
  let s := (List.range s.nSid).foldl (fun s sid =>
    if (List.range 16).any fun b => openRow (s.pc p) sid b != 0 then issueSoon s p .preAb sid 0 else s) s
  issueSoon s p .srEnter 0 0

/-- The channels leave self-refresh; no command is legal for tXS after it (R270). -/
def selfExit (s : State) (p : Nat) : State := issueSoon s p .srExit 0 0

/-! ## RELOAD and wipe (R269, R285) -/

/-- The timing registers of a stack as software has left them. -/
def timRegs (s : State) (k : Nat) : List Word := (List.range 13).map fun i => s.rd (hbmReg k (0x100 + 4 * i))

/-- RELOAD (R269): the new values come into force on every pseudo-channel, the mode registers are written with tMRD and tMOD
after them, and the command clears. -/
def hbmReload (s : State) (k : Nat) : State :=
  let q := sequencer (timRegs s k)
  let s := s.modStack k fun x => { x with lo := q, hi := q }
  let s := (List.range 32).foldl (fun s i =>
    if pcReady s (32 * k + i) then issueSoon (issueSoon s (32 * k + i) .mrs 0 0) (32 * k + i) .mrs 0 0 else s) s
  s.setFld (hbmReg k 0) 0 1 0

/-- A wipe: every line zero, row error tables, candidates and RAA cleared (R274, R281, R285). What the writes of a stack with a
value too short leave is undefined (R268). -/
def wipe (s : State) : State :=
  (List.range nPcs).foldl (fun s p => s.modPc p fun x => { x with rowErrs := [], cands := [], raa := [] })
    ((List.range nStacks).foldl (fun s k => s.modStack k fun x => { x with lost := tooShort x.lo || tooShort x.hi }) { s with hbm := [] })

end Sys2Proof.Machine
end

