-- ==== Sys2Proof/Machine/InkOps.lean ====
section
/-! DEFINITION. Operations that every agent of the device shares: inkwells and the end of a descriptor (R368, R377),
sending a request (R369), the selection of the blotter (R405, R406). -/
namespace Sys2Proof.Machine
open Config

/-! ## The blotter's selection (R405, R406) -/

/-- One step of the 16-bit Galois register of x^16 + x^14 + x^13 + x^11 + 1 (R405). -/
def lfsrStep (v : Nat) : Nat := if v % 2 = 1 then (v / 2) ^^^ 0xB400 else v / 2

/-- n steps of the register. -/
def lfsrSteps : Nat → Nat → Nat
  | 0, v => v
  | n + 1, v => lfsrSteps n (lfsrStep v)

/-- K as it acts (R418): 0 as 1, above 65,536 as 65,536. -/
def State.blotK (s : State) : Nat :=
  let k := s.fld (telReg 0x8204) 0 17
  if k = 0 then 1 else min k 65536

/-- The distance to the next selection, from the register after its steps (R405). -/
def blotDistance (k dither l : Nat) : Nat :=
  let r := l % 2 ^ dither
  let b := if dither = 0 then 0 else bitsOf l dither 1
  max 1 (k + r + b - 2 ^ dither / 2)

/-- Draw the next distance (R405). -/
def blotDraw (s : State) : State :=
  let l := lfsrSteps 16 s.tel.blot.lfsr
  { s with tel := { s.tel with blot := { s.tel.blot with
      lfsr := l, dist := blotDistance s.blotK (s.fld (telReg 0x8200) 4 4) l } } }

/-- A selection or a record is dropped (R406, R409). -/
def blotDrop (s : State) : State := (s.count 53 15 1).setStatus (telReg 0x8220) 0 0x70 0x25 0

/-- The spine admits an eligible request: every dist-th is selected and followed (R405, R406). A sample wakes an Ember domain 61
(R449); the spine counts and follows, and only the record goes into the domain (log entry 52). -/
def blotAdmit (s : State) (f : Follow) : State :=
  if s.bit (telReg 0x8200) 0 && s.domSt 61 != .cold then
    if 1 < s.tel.blot.dist then
      { s with tel := { s.tel with blot := { s.tel.blot with dist := s.tel.blot.dist - 1 } } }
    else
      let s := (blotDraw s).wake 61
      if 64 ≤ s.tel.blot.follows.length then blotDrop s
      else { s with tel := { s.tel with blot := { s.tel.blot with follows := s.tel.blot.follows ++ [f] } } }
  else s

/-- What the blotter notes of a request at its admission (R407). -/
def followOf (s : State) (kind ingress id core : Nat) (m : Msg) : Follow :=
  { kind := kind, ingress := ingress, id := id, core := core, src := m.src, tag := m.tag, opc := m.opc, addr := m.addr,
    tb := s.tb.count.toNat, acc := none, got := none, left := none, via := none, outcome := none, snooped := false, retry := false,
    poison := false }

/-! ## Requests of the device's own agents -/

/-- The first number from n on, modulo m, whose tag is not in use (R142); at most `fuel` are in use. -/
def freeTag (tagOf : Nat → Tag) (used : List Tag) (m : Nat) : Nat → Nat → Nat
  | 0, n => n
  | fuel + 1, n => if used.contains (tagOf n) then freeTag tagOf used m fuel ((n + 1) % m) else n

/-- A request of an agent of the device. -/
def reqMsg (src : AgentId) (tag : Tag) (opc : Nat) (priv : Bool) (param : Nat) (addr : PA) (poison : Bool)
    (body : List Word) : Msg :=
  { opc := opc, vc := 0, src := src, dst := 0, tag := tag, priv := priv, hop := false, poison := poison,
    param := BitVec.ofNat 8 param, addr := addr, body := body }

/-- Put a request onto the spine. -/
def State.putReq (s : State) (m : Msg) : State := { s with spine := { s.spine with req := s.spine.req ++ [m] } }

/-- Body of a partial write (R146): mask, then the line. -/
def partBody (mask : BitVec 64) (d : LineData) : List Word := wordsLE 2 mask.toNat ++ wordsLE 16 d.toNat

/-- Body of an atomic (R147). -/
def amoBody (operand compare : DWord) : List Word := wordsLE 2 operand.toNat ++ wordsLE 2 compare.toNat

/-- The address of the line that holds an address. -/
def lineAddr (a : PA) : PA := BitVec.ofNat 52 (a.toNat / 64 * 64)

/-- An address in a control window: the device's own, or one that a valid route entry with CW_EN routes (R295, R370). -/
def State.inCw (s : State) (a : PA) : Bool :=
  match s.classify a with
  | .cw _ => true
  | .route d => s.bit (dirReg (0x1008 + 0x10 * d)) 31 && decide (a.toNat / 2 ^ 26 = s.fld (dirReg (0x1008 + 0x10 * d)) 0 26)
  | _ => false

/-! ## Inkwells -/

def State.ink (s : State) (n : Nat) : Inkwell := sget inkD s.inks n
def State.modInk (s : State) (n : Nat) (f : Inkwell → Inkwell) : State := { s with inks := smod inkD s.inks n f }

/-- Change the fetched descriptor in a slot. -/
def modDesc (s : State) (n slot : Nat) (f : Desc → Desc) : State :=
  s.modInk n fun x => { x with descs := x.descs.map fun d => if d.slot = slot then f d else d }

def descOf (s : State) (n slot : Nat) : Option Desc := (s.ink n).descs.find? fun d => d.slot == slot

/-- A status that counts as failed (R377). -/
def Status.failed (st : Status) : Bool := st != .ok && st != .timeout

/-- The progress of an engine is cleared; its tags go on. -/
def Engine.cleared (x : Engine) : Engine := { engineD 0 with tagCtr := x.tagCtr, tags := x.tags }

/-- An engine gives up its work. -/
def freeEngine (s : State) (e : Nat) : State := { s with engines := smod engineD s.engines e Engine.cleared }

/-- A descriptor that holds an engine lets it go (R365). -/
def releaseEngine (s : State) (n slot : Nat) : State :=
  match descOf s n slot with
  | some d => match d.engine with
    | some e => if (sget engineD s.engines e).work = some (n, slot) then freeEngine s e else s
    | none => s
  | none => s

/-- A descriptor has completed (R368). -/
def isDone (d : Desc) : Bool := match d.phase with
  | .done _ _ => true
  | _ => false

/-- The engine that a descriptor holds (R365). -/
def heldEngine (s : State) (n : Nat) (d : Desc) : Option Nat :=
  d.engine.filter fun e => (sget engineD s.engines e).work == some (n, d.slot)

/-- A descriptor completes with a status and result; its record waits its turn (R358, R368). -/
def completeDesc (s : State) (n slot : Nat) (raw : LineData) (st : Status) (result : DWord) : State :=
  let s := if st.failed then s.count 52 4 1 else s
  (modDesc s n slot fun d => { d with phase := .done st result }).modInk n fun x =>
    { x with doneQ := x.doneQ ++ [slot], fails := x.fails + b2n (st.failed && raw.setWidth 8 != 0x0D#8) }

/-- A descriptor is over. One that holds its engine completes, and keeps the engine for its record; one that waited without an
engine needs one to complete (R366). -/
def finishDesc (s : State) (n slot : Nat) (st : Status) (result : DWord) : State :=
  match descOf s n slot with
  | none => s
  | some d => match heldEngine s n d with
    | some e => completeDesc { s with engines := smod engineD s.engines e fun x => { x.cleared with work := x.work } } n slot d.raw st result
    | none => modDesc s n slot fun d => { d with phase := .ended st result, engine := none }

end Sys2Proof.Machine
end

