-- ==== Sys2Proof/Machine/Scribe.lean ====
section
/-! DEFINITION. Scribe cores (R292–R332): registers, access windows, the store and gather buffers, fences, exceptions,
the end of a task, and how an instruction runs. -/
namespace Sys2Proof.Machine
open Config

def State.core (s : State) (k : Nat) : Core := sget coreD s.cores k
def State.modCore (s : State) (k : Nat) (f : Core → Core) : State := { s with cores := smod coreD s.cores k f }
def State.cluster (s : State) (c : Nat) : Cluster := sget clusterD s.clusters c
def State.modCluster (s : State) (c : Nat) (f : Cluster → Cluster) : State :=
  { s with clusters := smod clusterD s.clusters c f }

/-- Agent of the cluster of core k (R32). -/
def State.scrAgent (s : State) (k : Nat) : AgentId := mkAgent s.devNum (32 + k / 8)

/-! ## Registers (R329) -/

/-- A general register; g0 reads zero. -/
def Core.gr (x : Core) (i : BitVec 5) : DWord := if i = 0 then 0 else sget dwordD x.g i.toNat
/-- Write a general register; a write to g0 is discarded. -/
def Core.setG (x : Core) (i : BitVec 5) (v : DWord) : Core := if i = 0 then x else { x with g := sset dwordD x.g i.toNat v }
/-- A wide register. -/
def Core.wide (x : Core) (i : BitVec 4) : Wide := sget wideD x.w i.toNat
def Core.setWide (x : Core) (i : BitVec 4) (v : Wide) : Core := { x with w := sset wideD x.w i.toNat v }

/-! ## Where an access goes (R295, R298, R299, R339) -/

/-- Bits [51:0] of base plus sign-extended offset (R339). -/
def effAddr (base : DWord) (imm : BitVec 16) : PA := (base + imm.signExtend 64).setWidth 52

inductive Place
  | slate (off : Nat)
  | cw
  | mem
  deriving DecidableEq, Repr

/-- The slate offset of an address in the slate window (R295 row 1, R331). -/
def slateOff (x : Core) (a : PA) : Option Nat :=
  let base := x.slate.toNat / 2 ^ 20 * 2 ^ 20
  if x.slate.getLsbD 0 = true ∧ base ≤ a.toNat ∧ a.toNat < base + 0x80000 then some (a.toNat - base) else none

/-- Where an access goes, by the first row of R295 that matches. -/
def placeOf (s : State) (x : Core) (a : PA) : Place :=
  match slateOff x a with
  | some o => .slate o
  | none => if s.inCw a then .cw else .mem

/-- A window matches an address (R298). -/
def winMatch (w : DWord × DWord) (a : PA) : Bool :=
  w.1.getLsbD 0 && decide (w.1.toNat / 4096 ≤ a.toNat / 4096) && decide (a.toNat / 4096 ≤ w.2.toNat / 4096)

/-- The rights of the windows that match: R 1, W 2, X 4 (R298). -/
def winRights (x : Core) (a : PA) : Nat :=
  (x.win.filter fun w => winMatch w a).foldl (fun r w => r ||| bitsOf w.2.toNat 0 3) 0

/-- The rights missing for an access at the core's level; 0 where it may go on (R298, R299). -/
def missing (x : Core) (p : Place) (a : PA) (need : Nat) : Nat :=
  if x.pl then 0
  else match p with
    | .slate _ => if x.slate.getLsbD 1 then 0 else need
    | _ => need - (need &&& winRights x a)

/-- The NIB attribute of an access: the lowest matching window's; 1 at supervisor level where none matches (R299). -/
def nibAttr (x : Core) (a : PA) : Bool :=
  match x.win.find? fun w => winMatch w a with
  | some w => w.2.getLsbD 3
  | none => x.pl

/-! ## Causes (R316) -/

structure Cause where
  code : Nat
  reason : Nat
  addr : Option PA
  deriving DecidableEq, Repr

def illegal (reason : Nat) : Cause := ⟨1, reason, none⟩
def privCause : Cause := ⟨2, 0, none⟩
def misaligned (a : PA) : Cause := ⟨3, 0, some a⟩
def windowCause (a : PA) (missing : Nat) : Cause := ⟨4, missing, some a⟩
def accessCause (a : PA) (reason : Nat) : Cause := ⟨5, reason, some a⟩
def poisonCause (a : PA) (reason : Nat) : Cause := ⟨6, reason, some a⟩
def fetchFault (a : PA) (reason : Nat) : Cause := ⟨7, reason, some a⟩

/-- The fault result of a cause (R322). -/
def faultResult (c : Cause) : DWord :=
  BitVec.ofNat 64 (c.code % 256 + 256 * (c.reason % 256) + 2 ^ 16 * (match c.addr with | some a => a.toNat / 64 | none => 0))

/-! ## Request tags and requests -/

/-- The tag of core j with a number: bits [2:0] are j. -/
def coreTag (j n : Nat) : Tag := BitVec.ofNat 12 (8 * n + j)

/-- The number of the next tag of core j: the first that is not in use (R142). -/
def Cluster.nextNum (x : Cluster) (j : Nat) : Nat := freeTag (coreTag j) x.tags 512 x.tags.length x.tagCtr

/-- A new tag of core j of cluster c. -/
def newTag (s : State) (c j : Nat) : State × Tag :=
  let n := (s.cluster c).nextNum j
  (s.modCluster c fun x => { x with tagCtr := (n + 1) % 512, tags := coreTag j n :: x.tags }, coreTag j n)

/-- A core's requests are privileged while it runs at supervisor level and its cluster is enabled for it (R294). -/
def corePriv (s : State) (k : Nat) : Bool := (s.core k).pl && s.bit (scrReg (k / 8) 0) 2

/-- A core sends a request of one instruction: on the spine, eligible for the blotter (R405). -/
def coreSend (s : State) (k : Nat) (tag : Tag) (opc param : Nat) (addr : PA) (body : List Word) : State :=
  let m := reqMsg (s.scrAgent k) tag opc (corePriv s k) param addr false body
  let s := s.putReq m
  if s.bit (telReg 0x8208) (16 + k / 8) then
    blotAdmit s (followOf s 2 (k / 8) (s.core k).pc.toNat (k % 8) m)
  else s

/-! ## The gather buffer (R305) -/

/-- Start draining the open entry of a line, where none drains already. -/
def drainLine (s : State) (c line : Nat) : State :=
  let g := (s.cluster c).gather
  if g.any fun e => e.line == line && e.drain.isSome then s
  else match g.find? fun e => e.line == line with
    | none => s
    | some e =>
      let (s, tag) := newTag s c 0
      let j := (bitsSet 8 e.cores.toNat)
      -- a write that holds stores of one core alone carries its number (R315)
      let own := match j with
        | [j] => 0x80 + 2 ^ 4 * j
        | _ => 0
      let a : PA := BitVec.ofNat 52 (line * 64)
      let m := if e.mask = BitVec.allOnes 64 then
          reqMsg (s.scrAgent (8 * c)) tag opcWR_LINE false own a e.poison (wordsLE 16 e.data.toNat)
        else reqMsg (s.scrAgent (8 * c)) tag opcWR_PART false own a e.poison (partBody e.mask e.data)
      ((s.putReq m).modCluster c fun x =>
        { x with gather := x.gather.map fun f => if f.line = line then { f with drain := some tag } else f }).count (36 + c) 5 1

/-- The drains that need no command: full entries; with `crowd`, the oldest open entry at 24 or more (R305). -/
def gatherAuto (s : State) (c : Nat) (crowd : Bool) : State :=
  let s := ((s.cluster c).gather.filter fun e => e.mask == BitVec.allOnes 64 && e.drain.isNone).foldl
    (fun s e => drainLine s c e.line) s
  let g := (s.cluster c).gather
  if crowd && decide (24 ≤ g.length) then
    match g.find? fun e => e.drain.isNone && !(g.any fun f => f.line == e.line && f.drain.isSome) with
    | some e => drainLine s c e.line
    | none => s
  else s

/-- The gather buffer takes a store-buffer entry of core k; `none` while it is full (R303, R305). -/
def gatherTake (s : State) (k : Nat) (e : SbEntry) : Option State :=
  let c := k / 8
  let x := s.cluster c
  let bit : BitVec 8 := BitVec.ofNat 8 (2 ^ (k % 8))
  let drop := fun (s : State) => s.modCore k fun x => { x with sb := eraseFirst (· == e) x.sb }
  if x.gather.any fun f => f.line == e.line && f.drain.isNone then
    some (gatherAuto (drop (s.modCluster c fun x => { x with gather := x.gather.map fun f =>
      if f.line = e.line ∧ f.drain = none then
        { f with data := mergeLine f.data e.data e.mask, mask := f.mask ||| e.mask, cores := f.cores ||| bit,
                 poison := f.poison || e.poison }
      else f })) c false)
  else if x.gather.length < 32 then
    some (gatherAuto (drop (s.modCluster c fun x =>
      { x with gather := x.gather ++ [⟨e.line, e.data, e.mask, bit, e.poison, none⟩] })) c true)
  else none

/-- The bytes that the gather buffer holds of a line, the open entry over the draining one (R305). -/
def gatherView (s : State) (c line : Nat) : LineData × BitVec 64 × Bool :=
  let put := fun (v : LineData × BitVec 64 × Bool) (e : GEntry) => (mergeLine v.1 e.data e.mask, v.2.1 ||| e.mask, v.2.2 || e.poison)
  let g := (s.cluster c).gather.filter fun e => e.line == line
  (g.filter fun e => e.drain.isNone).foldl put ((g.filter fun e => e.drain.isSome).foldl put (0, 0, false))

/-- The cluster's stores to a line go to the home (R305, R308): every core's store-buffer entry, then the gather entry. -/
def flushLine (s : State) (c line : Nat) : State :=
  let s := (List.range 8).foldl (fun s j =>
    match (s.core (8 * c + j)).sb.find? fun e => e.line == line with
    | some e => (gatherTake s (8 * c + j) e).getD s
    | none => s) s
  drainLine s c line

/-- The store and gather buffers of a cluster drain (R325): every store-buffer entry that the gather buffer can take leaves for
it, then every open gather entry for its home. -/
def clusterDrain (s : State) (c : Nat) : State :=
  let s := (List.range 8).foldl (fun s j =>
    (s.core (8 * c + j)).sb.foldl (fun s e => (gatherTake s (8 * c + j) e).getD s) s) s
  ((s.cluster c).gather.filter fun e => e.drain.isNone).foldl (fun s e => drainLine s c e.line) s

/-- No store of the cluster to the line is on its way. -/
def lineFlushed (s : State) (c line : Nat) : Bool :=
  !((s.cluster c).gather.any fun e => e.line == line) &&
  (List.range 8).all fun j => !((s.core (8 * c + j)).sb.any fun e => e.line == line)

/-! ## Reservations (R313–R315) -/

/-- The core's reservation is lost: its flag at once, and entry k at the slice (R315). -/
def dropResv (s : State) (k : Nat) : State :=
  { s.modCore k fun x => { x with resv := none } with resv := sset zeroD s.resv k 0 }

/-! ## FENCE.SYS and the end of a task (R310, R322) -/

/-- What FENCE.SYS waits for is done (R310). -/
def fenceDone (s : State) (k : Nat) : Bool :=
  let x := s.core k
  x.wait.isNone && x.sb.isEmpty && x.cwBusy.isNone && x.posted.isEmpty &&
  !((s.cluster (k / 8)).gather.any fun e => e.cores.getLsbD (k % 8))

/-- Gather entries that hold the core's stores drain (R305). -/
def fenceDrain (s : State) (k : Nat) : State :=
  ((s.cluster (k / 8)).gather.filter fun e => e.cores.getLsbD (k % 8) && e.drain.isNone).foldl
    (fun s e => drainLine s (k / 8) e.line) s

/-- The INFO word of a SCRIBE event (R428). -/
def scrInfo (x : Core) (k : Nat) : Word :=
  w32 (k % 8 + 2 ^ 3 * bitsOf x.task.toNat 0 10 + 2 ^ 13 * bitsOf x.task.toNat 16 16)

def scrErr (s : State) (k bit : Nat) : State :=
  s.setErr (scrReg (k / 8) 0x80) bit (0x50 + k / 8) (scrInfo (s.core k) k)

/-- A core goes idle: events, reservation and the bit in SCR_ABORT clear (R322). -/
def coreIdle (s : State) (k : Nat) : State :=
  (dropResv (s.modCore k fun x => { x with
    st := .idle, ending := none, forced := false, doom := none, evDisabled := false, evAbort := false, evStore := [],
    wait := none, wfdLate := false }) k).setFld (scrReg (k / 8) 0xC) (k % 8) 1 0

/-- The task has ended: its record and its error bits (R322). -/
def finishTask (s : State) (k : Nat) (st : Status) (res : DWord) : State :=
  let x := s.core k
  let r := match st, x.evStore with
    | .ok, e :: _ => (Status.fault, faultResult ⟨9, e.reason, some e.addr⟩)
    | _, _ => (st, res)
  let s := if r.1 = .fault then scrErr s k 0 else if r.1 = .doubleFault then scrErr s k 1 else s
  let s := if x.forced then scrErr s k 3 else s
  coreIdle ((finishDesc s (bitsOf x.task.toNat 0 10) (bitsOf x.task.toNat 16 16) r.1 r.2).count (36 + k / 8) 13 1) k

/-- An ending task waits as FENCE.SYS, then it has ended (R322). -/
def endCheck (s : State) (k : Nat) : State :=
  match (s.core k).ending with
  | none => s
  | some (st, res) =>
    let s := fenceDrain s k
    if fenceDone s k then finishTask s k st res else s

/-- The task of core k begins to end. A STORE_ERR from before the final wait does not count for TRAP 0 (R322). -/
def endTask (s : State) (k : Nat) (st : Status) (res : DWord) : State :=
  endCheck (s.modCore k fun x => { x with st := .running, ending := some (st, res), evStore := [] }) k

/-- A forced ending stops the core at its next instruction boundary (R322). -/
def checkForced (s : State) (k : Nat) : State :=
  let x := s.core k
  match x.doom with
  | some d => if x.forced = true ∧ x.wait = none ∧ x.ending = none ∧ x.st ≠ .idle then endTask s k d 0 else s
  | none => s

/-! ## Instruction fetch (R292, R299, R307) -/

/-- Where the data of a fetch comes from (R407). -/
def fetchFrom (s : State) (a : PA) : Option Nat :=
  match s.classify a with
  | .home off =>
    let line := off / 64
    let i := s.sliceOf line
    some (if (findWay s i line).isSome then 0
      else if (kFind (s.slice i) line).any fun e => e.st == .ready then 1
      else if (matchWr (s.pc (hbmLoc s.ten line).pc) line).isSome then 3 else 2)
  | .route _ => some 7
  | _ => none

/-- An instruction fetch that leaves the nib cache is a request that the blotter may select (R405). The model serves it within
the instruction, so its moments fall together (log entry 52). -/
def blotFetch (s : State) (k : Nat) : State :=
  if s.bit (telReg 0x8208) (16 + k / 8) then
    let pc := (s.core k).pc
    let a := lineAddr pc
    let now := some s.tb.count.toNat
    blotAdmit s { followOf s 2 (k / 8) pc.toNat (k % 8) (reqMsg (s.scrAgent k) 0 opcRD_UC (corePriv s k) 6 a false []) with
      acc := now, got := now, left := now, outcome := fetchFrom s a }
  else s

/-- Fetching the line of an instruction through the nib instruction cache (R292, R299, R307). -/
def fetchLine (s : State) (k : Nat) : State :=
  let x := s.core k
  let line := x.pc.toNat / 64
  if nibAttr x x.pc && x.inib.contains line then
    s.modCore k fun x => { x with inib := line :: x.inib.filter (· != line) }
  else
    let s := (blotFetch s k).count (36 + k / 8) 4 1
    if nibAttr x x.pc then s.modCore k fun x => { x with inib := (line :: x.inib).take 48 } else s

/-! ## Exceptions and events (R317, R318) -/

/-- Steps 2, 4 and 5 of R317 for a cause that enters with the given EPC; without handler the task ends as given. A cause
without an address leaves a free value in st.BADADDR (log entry 3). -/
def enterHandler (s : State) (k : Nat) (c : Cause) (epc : PA) (st : Status) (res : DWord) : State :=
  let s := ((dropResv s k).modCore k fun x => { x with lastCause := BitVec.ofNat 8 c.code }).count (36 + k / 8) 11 1
  if (s.core k).tvec = 0 then endTask s k st res
  else
    let (s, bad) : State × DWord := match c.addr with
      | some a => (s, a.setWidth 64)
      | none => (s.free.1, s.free.2.setWidth 64)
    s.modCore k fun x => { x with
      st := .running, epc := epc.setWidth 64, cause := BitVec.ofNat 64 (c.code + 256 * c.reason), badaddr := bad,
      ppl := x.pl, pl := true, hold := true, pc := x.tvec.setWidth 52 }

/-- A precise cause (R317): a double fault while HOLD is 1. The instruction that raises it has been issued (R464) and, but for
FETCH, fetched. -/
def raiseAt (s : State) (k : Nat) (c : Cause) (epc : PA) : State :=
  let s := (if c.code = 7 then s else fetchLine s k).paceCore k
  if (s.core k).hold then
    endTask (((dropResv s k).modCore k fun x => { x with lastCause := BitVec.ofNat 8 c.code }).count (36 + k / 8) 11 1)
      k .doubleFault (faultResult c)
  else enterHandler s k c epc .fault (faultResult c)

/-- A precise cause of the instruction at the PC. -/
def raiseCause (s : State) (k : Nat) (c : Cause) : State := checkForced (raiseAt s k c (s.core k).pc) k

/-- An event could be taken now (R318). -/
def eventDue (x : Core) : Bool := !x.hold && (x.evDisabled || x.evAbort || !x.evStore.isEmpty)

/-- The events are taken in the order DISABLED, ABORT, STORE_ERR (R318). -/
def takeEvent (s : State) (k : Nat) : State :=
  let x := s.core k
  if x.evDisabled then
    enterHandler (s.modCore k fun x => { x with evDisabled := false }) k ⟨11, 0, none⟩ x.pc .disabled 0
  else if x.evAbort then
    enterHandler (s.modCore k fun x => { x with evAbort := false }) k ⟨10, 0, none⟩ x.pc .aborted 0
  else match x.evStore with
    | e :: t =>
      let c : Cause := ⟨9, e.reason, some e.addr⟩
      enterHandler (s.modCore k fun x => { x with evStore := t }) k c x.pc .fault (faultResult c)
    | [] => s

/-! ## WFD (R323) -/

/-- The reason bits that would end WFD now: knock, message, and the timeout as given. -/
def wfdBits (s : State) (k : Nat) (late : Bool) : Nat :=
  let x := s.core k
  let c := s.cluster (k / 8)
  b2n (s.bit (scrReg (k / 8) 8) (k % 8)) + 2 * b2n (x.msgw && c.msgHead != c.msgTail) + 4 * b2n late

/-- An instruction has completed; the core goes on at `pc`. -/
def retireTo (s : State) (k : Nat) (pc : PA) : State :=
  (((fetchLine s k).modCore k fun x => { x with pc := pc }).count (36 + k / 8) 0 1).paceCore k

/-- An instruction has completed; the core goes on with the next one. -/
def retire (s : State) (k : Nat) : State := retireTo s k ((s.core k).pc + 4)

/-- WFD returns with its reason bits; a reported knock clears (R323). -/
def wfdReturn (s : State) (k : Nat) (rd : BitVec 5) (bits : Nat) : State :=
  let s := if bits % 2 = 1 then s.setFld (scrReg (k / 8) 8) (k % 8) 1 0 else s
  retire (s.modCore k fun x => { (x.setG rd (BitVec.ofNat 64 bits)) with st := .running, wfdLate := false }) k

/-- A core in WFD looks whether it may go on, while its domain is Lit (R323, R326). With HOLD = 1 a pending event ends
the wait without being taken. -/
def wfdCheck (s : State) (k : Nat) (late : Bool) : State :=
  let x := s.core k
  if x.st = .wfd ∧ s.domLit (44 + k / 8) = true then
    let bits := wfdBits s k (late || x.wfdLate)
    let held := x.hold && (x.evDisabled || x.evAbort || !x.evStore.isEmpty)
    if (bits ≠ 0 ∨ held = true) ∧ eventDue x = false then wfdReturn s k (BitVec.ofNat 5 x.wfdRd) bits else s
  else s

/-! ## Posted writes that are refused (R316) -/

/-- STORE_ERR goes to every core whose stores the refused write held. -/
def storeErr (s : State) (c : Nat) (cores : BitVec 8) (addr : PA) (reason : Nat) : State :=
  let js := bitsSet 8 cores.toNat
  let s := scrErr s (8 * c + js.headD 0) 2
  js.foldl (fun s j =>
    let k := 8 * c + j
    wfdCheck (if (s.core k).st = .idle then s
      else s.modCore k fun x => { x with evStore := x.evStore ++ [⟨reason, lineAddr addr⟩] }) k false) s

/-- After something of the cluster came back: endings go on. -/
def clusterGo (s : State) (c : Nat) : State := (List.range 8).foldl (fun s j => endCheck s (8 * c + j)) s

/-! ## How an instruction runs -/

/-- The core works: its cluster is present, Lit, not in reset; the core runs a task and waits for nothing. -/
def coreAwake (s : State) (k : Nat) : Bool :=
  let x := s.core k
  s.clusterPresent (k / 8) && s.domLit (44 + k / 8) && !(s.cluster (k / 8)).resetting && !s.boot.fatal &&
  x.st == .running && x.wait.isNone && x.ending.isNone

/-- Under a grant that limits its cluster a core issues only while no other working core of it has issued fewer: so the limit
spaces issue evenly across the cores (R464). -/
def coreTurn (s : State) (k : Nat) : Bool :=
  !limited s (44 + k / 8) || (List.range 8).all fun j =>
    let o := 8 * (k / 8) + j
    !coreAwake s o || decide (s.paced (64 + k) ≤ s.paced (64 + o))

/-- The core may run an instruction: it works, and the damper's grant does not hold its cluster or it (R464). -/
def coreReady (s : State) (k : Nat) : Bool :=
  coreAwake s k && !rateHeld s (44 + k / 8) (s.paced (44 + k / 8)) && coreTurn s k

/-- The FETCH cause of the instruction at the PC (R297, R298): REGION, then WINDOW. -/
def fetchCause (s : State) (x : Core) : Option Cause :=
  match placeOf s x x.pc with
  | .mem => if missing x .mem x.pc 4 = 0 then none else some (fetchFault x.pc 1)
  | _ => some (fetchFault x.pc 2)

/-- What an instruction does: raise a precise cause; raise one with EPC at the next instruction (TRAP, R316); act in a way that
ends in a precise cause; or act. -/
inductive Act
  | cause (c : Cause)
  | trap (c : Cause)
  | fault (f : State → State)
  | go (f : State → State)

/-- Run an instruction of core k (R351, R353): FETCH first, then its own causes; where an event is due, only a precise cause
has effect, else the event is taken first. -/
def instr (s : State) (k : Nat) (f : Core → Act) : State :=
  if coreReady s k then
    match fetchCause s (s.core k) with
    | some c => raiseCause s k c
    | none =>
      match f (s.core k) with
      | .cause c => raiseCause s k c
      | .trap c => checkForced (raiseAt s k c ((s.core k).pc + 4)) k
      | .fault g => g s
      | .go g => if eventDue (s.core k) then s else g s
  else s

/-- An instruction that writes core state alone and goes on with the next. -/
def reg (k : Nat) (f : Core → Core) : Act := .go fun s => retire (s.modCore k f) k

end Sys2Proof.Machine
end

