-- ==== Sys2Proof/Machine/ScribeAlu.lean ====
section
/-! DEFINITION. Scribe instructions that change core state alone (R336–R338, R345–R350): integer, branches and jumps, wide. -/
namespace Sys2Proof.Machine
open Config

/-! ## Integer operations (R336–R338) -/

def b2d (b : Bool) : DWord := if b then 1 else 0

/-- High half of the signed and of the unsigned product (R336). -/
def mulh (a b : DWord) : DWord := BitVec.ofInt 64 (a.toInt * b.toInt / 2 ^ 64)
def mulhu (a b : DWord) : DWord := BitVec.ofNat 64 (a.toNat * b.toNat / 2 ^ 64)

/-- Signed division, rounded toward zero; by zero all ones (R336, R337). -/
def divS (a b : DWord) : DWord := if b = 0 then BitVec.allOnes 64 else BitVec.ofInt 64 (a.toInt.tdiv b.toInt)
/-- Unsigned division (R336, R337). -/
def divU (a b : DWord) : DWord := if b = 0 then BitVec.allOnes 64 else BitVec.ofNat 64 (a.toNat / b.toNat)
/-- Signed remainder with the sign of the dividend; by zero the dividend (R336, R337). -/
def remS (a b : DWord) : DWord := if b = 0 then a else BitVec.ofInt 64 (a.toInt.tmod b.toInt)
/-- Unsigned remainder (R336, R337). -/
def remU (a b : DWord) : DWord := if b = 0 then a else BitVec.ofNat 64 (a.toNat % b.toNat)

/-- rd := f rs1 rs2. -/
def aluRR (f : DWord → DWord → DWord) (rd ra rb : BitVec 5) (k : Nat) : Core → Act := fun x =>
  reg k fun y => y.setG rd (f (x.gr ra) (x.gr rb))

/-- rd := f rs1 value. -/
def aluRI (f : DWord → DWord → DWord) (rd ra : BitVec 5) (v : DWord) (k : Nat) : Core → Act := fun x =>
  reg k fun y => y.setG rd (f (x.gr ra) v)

/-- Run an instruction on a core that exists. -/
def onCore (k : Nat) (s : State) (f : Core → Act) : Host.Outcome State Fault Refusal := onUnit nCores k (instr s k f)

/-- ADD (R336): modulo 2^64. -/
def execAdd (core : Nat) (rd ra rb : BitVec 5) (s : State) : Host.Outcome State Fault Refusal :=
  onCore core s (aluRR (fun a b => a + b) rd ra rb core)

/-- SUB (R336): modulo 2^64. -/
def execSub (core : Nat) (rd ra rb : BitVec 5) (s : State) : Host.Outcome State Fault Refusal :=
  onCore core s (aluRR (fun a b => a - b) rd ra rb core)

/-- AND (R336). -/
def execAnd (core : Nat) (rd ra rb : BitVec 5) (s : State) : Host.Outcome State Fault Refusal :=
  onCore core s (aluRR (fun a b => a &&& b) rd ra rb core)

/-- OR (R336). -/
def execOr (core : Nat) (rd ra rb : BitVec 5) (s : State) : Host.Outcome State Fault Refusal :=
  onCore core s (aluRR (fun a b => a ||| b) rd ra rb core)

/-- XOR (R336). -/
def execXor (core : Nat) (rd ra rb : BitVec 5) (s : State) : Host.Outcome State Fault Refusal :=
  onCore core s (aluRR (fun a b => a ^^^ b) rd ra rb core)

/-- SLL (R336): by rs2[5:0]. -/
def execSll (core : Nat) (rd ra rb : BitVec 5) (s : State) : Host.Outcome State Fault Refusal :=
  onCore core s (aluRR (fun a b => a <<< (b.toNat % 64)) rd ra rb core)

/-- SRL (R336): zeros in. -/
def execSrl (core : Nat) (rd ra rb : BitVec 5) (s : State) : Host.Outcome State Fault Refusal :=
  onCore core s (aluRR (fun a b => a >>> (b.toNat % 64)) rd ra rb core)

/-- SRA (R336): sign in. -/
def execSra (core : Nat) (rd ra rb : BitVec 5) (s : State) : Host.Outcome State Fault Refusal :=
  onCore core s (aluRR (fun a b => a.sshiftRight (b.toNat % 64)) rd ra rb core)

/-- SLT (R336): signed. -/
def execSlt (core : Nat) (rd ra rb : BitVec 5) (s : State) : Host.Outcome State Fault Refusal :=
  onCore core s (aluRR (fun a b => b2d (a.slt b)) rd ra rb core)

/-- SLTU (R336): unsigned. -/
def execSltu (core : Nat) (rd ra rb : BitVec 5) (s : State) : Host.Outcome State Fault Refusal :=
  onCore core s (aluRR (fun a b => b2d (a.ult b)) rd ra rb core)

/-- MIN (R336): signed. -/
def execMin (core : Nat) (rd ra rb : BitVec 5) (s : State) : Host.Outcome State Fault Refusal :=
  onCore core s (aluRR (fun a b => if a.slt b then a else b) rd ra rb core)

/-- MAX (R336): signed. -/
def execMax (core : Nat) (rd ra rb : BitVec 5) (s : State) : Host.Outcome State Fault Refusal :=
  onCore core s (aluRR (fun a b => if a.slt b then b else a) rd ra rb core)

/-- MINU (R336): unsigned. -/
def execMinu (core : Nat) (rd ra rb : BitVec 5) (s : State) : Host.Outcome State Fault Refusal :=
  onCore core s (aluRR (fun a b => if a.ult b then a else b) rd ra rb core)

/-- MAXU (R336): unsigned. -/
def execMaxu (core : Nat) (rd ra rb : BitVec 5) (s : State) : Host.Outcome State Fault Refusal :=
  onCore core s (aluRR (fun a b => if a.ult b then b else a) rd ra rb core)

/-- MUL (R336): low 64 bits. -/
def execMul (core : Nat) (rd ra rb : BitVec 5) (s : State) : Host.Outcome State Fault Refusal :=
  onCore core s (aluRR (fun a b => a * b) rd ra rb core)

/-- MULH (R336): high, signed. -/
def execMulh (core : Nat) (rd ra rb : BitVec 5) (s : State) : Host.Outcome State Fault Refusal :=
  onCore core s (aluRR (mulh) rd ra rb core)

/-- MULHU (R336): high, unsigned. -/
def execMulhu (core : Nat) (rd ra rb : BitVec 5) (s : State) : Host.Outcome State Fault Refusal :=
  onCore core s (aluRR (mulhu) rd ra rb core)

/-- DIV (R336): signed. -/
def execDiv (core : Nat) (rd ra rb : BitVec 5) (s : State) : Host.Outcome State Fault Refusal :=
  onCore core s (aluRR (divS) rd ra rb core)

/-- DIVU (R336): unsigned. -/
def execDivu (core : Nat) (rd ra rb : BitVec 5) (s : State) : Host.Outcome State Fault Refusal :=
  onCore core s (aluRR (divU) rd ra rb core)

/-- REM (R336): signed. -/
def execRem (core : Nat) (rd ra rb : BitVec 5) (s : State) : Host.Outcome State Fault Refusal :=
  onCore core s (aluRR (remS) rd ra rb core)

/-- REMU (R336): unsigned. -/
def execRemu (core : Nat) (rd ra rb : BitVec 5) (s : State) : Host.Outcome State Fault Refusal :=
  onCore core s (aluRR (remU) rd ra rb core)

/-- ADD immediate (R338). -/
def execAddImmediate (core : Nat) (rd ra : BitVec 5) (imm : BitVec 16) (s : State) : Host.Outcome State Fault Refusal :=
  onCore core s (aluRI (fun a b => a + b) rd ra (imm.signExtend 64) core)

/-- AND immediate (R338). -/
def execAndImmediate (core : Nat) (rd ra : BitVec 5) (imm : BitVec 16) (s : State) : Host.Outcome State Fault Refusal :=
  onCore core s (aluRI (fun a b => a &&& b) rd ra (imm.setWidth 64) core)

/-- OR immediate (R338). -/
def execOrImmediate (core : Nat) (rd ra : BitVec 5) (imm : BitVec 16) (s : State) : Host.Outcome State Fault Refusal :=
  onCore core s (aluRI (fun a b => a ||| b) rd ra (imm.setWidth 64) core)

/-- XOR immediate (R338). -/
def execXorImmediate (core : Nat) (rd ra : BitVec 5) (imm : BitVec 16) (s : State) : Host.Outcome State Fault Refusal :=
  onCore core s (aluRI (fun a b => a ^^^ b) rd ra (imm.setWidth 64) core)

/-- SLT immediate (R338). -/
def execSltImmediate (core : Nat) (rd ra : BitVec 5) (imm : BitVec 16) (s : State) : Host.Outcome State Fault Refusal :=
  onCore core s (aluRI (fun a b => b2d (a.slt b)) rd ra (imm.signExtend 64) core)

/-- SLTU immediate (R338). -/
def execSltuImmediate (core : Nat) (rd ra : BitVec 5) (imm : BitVec 16) (s : State) : Host.Outcome State Fault Refusal :=
  onCore core s (aluRI (fun a b => b2d (a.ult b)) rd ra (imm.signExtend 64) core)

/-- SLL immediate (R338). -/
def execSllImmediate (core : Nat) (rd ra : BitVec 5) (sh : BitVec 6) (s : State) : Host.Outcome State Fault Refusal :=
  onCore core s (aluRI (fun a b => a <<< b.toNat) rd ra (sh.setWidth 64) core)

/-- SRL immediate (R338). -/
def execSrlImmediate (core : Nat) (rd ra : BitVec 5) (sh : BitVec 6) (s : State) : Host.Outcome State Fault Refusal :=
  onCore core s (aluRI (fun a b => a >>> b.toNat) rd ra (sh.setWidth 64) core)

/-- SRA immediate (R338). -/
def execSraImmediate (core : Nat) (rd ra : BitVec 5) (sh : BitVec 6) (s : State) : Host.Outcome State Fault Refusal :=
  onCore core s (aluRI (fun a b => a.sshiftRight b.toNat) rd ra (sh.setWidth 64) core)

/-- LUI (R338): sext(imm21) shifted left by 11. -/
def execLui (core : Nat) (rd : BitVec 5) (imm : BitVec 21) (s : State) : Host.Outcome State Fault Refusal :=
  onCore core s fun _ => reg core fun y => y.setG rd (imm.signExtend 64 <<< 11)

/-- ADDHI (R338): rd plus sext(imm21) shifted left by 32. -/
def execAddhi (core : Nat) (rd : BitVec 5) (imm : BitVec 21) (s : State) : Host.Outcome State Fault Refusal :=
  onCore core s fun x => reg core fun y => y.setG rd (x.gr rd + (imm.signExtend 64 <<< 32))

/-! ## Control flow (R345, R346) -/

/-- The target of a branch or jump with a word offset (R345). -/
def target (pc : PA) (off : PA) : PA := pc + (off <<< 2)

/-- A conditional branch (R345). -/
def branch (c : DWord → DWord → Bool) (ra rb : BitVec 5) (off : BitVec 13) (k : Nat) : Core → Act := fun x =>
  .go fun s => retireTo s k (if c (x.gr ra) (x.gr rb) then target x.pc (off.signExtend 52) else x.pc + 4)

/-- BR.EQ (R346). -/
def execBrEq (core : Nat) (ra rb : BitVec 5) (off : BitVec 13) (s : State) : Host.Outcome State Fault Refusal :=
  onCore core s (branch (fun a b => a == b) ra rb off core)

/-- BR.NE (R346). -/
def execBrNe (core : Nat) (ra rb : BitVec 5) (off : BitVec 13) (s : State) : Host.Outcome State Fault Refusal :=
  onCore core s (branch (fun a b => a != b) ra rb off core)

/-- BR.LT (R346). -/
def execBrLt (core : Nat) (ra rb : BitVec 5) (off : BitVec 13) (s : State) : Host.Outcome State Fault Refusal :=
  onCore core s (branch (fun a b => a.slt b) ra rb off core)

/-- BR.GE (R346). -/
def execBrGe (core : Nat) (ra rb : BitVec 5) (off : BitVec 13) (s : State) : Host.Outcome State Fault Refusal :=
  onCore core s (branch (fun a b => !a.slt b) ra rb off core)

/-- BR.LTU (R346). -/
def execBrLtu (core : Nat) (ra rb : BitVec 5) (off : BitVec 13) (s : State) : Host.Outcome State Fault Refusal :=
  onCore core s (branch (fun a b => a.ult b) ra rb off core)

/-- BR.GEU (R346). -/
def execBrGeu (core : Nat) (ra rb : BitVec 5) (off : BitVec 13) (s : State) : Host.Outcome State Fault Refusal :=
  onCore core s (branch (fun a b => !a.ult b) ra rb off core)

/-- JAL (R345). -/
def execJal (core : Nat) (rd : BitVec 5) (off : BitVec 21) (s : State) : Host.Outcome State Fault Refusal :=
  onCore core s fun x => .go fun s =>
    retireTo (s.modCore core fun y => y.setG rd ((x.pc + 4).setWidth 64)) core (target x.pc (off.signExtend 52))

/-- JR (R345): MISALIGNED where the target is not a multiple of 4. -/
def execJr (core : Nat) (rd ra : BitVec 5) (imm : BitVec 16) (s : State) : Host.Outcome State Fault Refusal :=
  onCore core s fun x =>
    let t := effAddr (x.gr ra) imm
    if t.toNat % 4 ≠ 0 then .cause (misaligned t)
    else .go fun s => retireTo (s.modCore core fun y => y.setG rd ((x.pc + 4).setWidth 64)) core t

/-! ## Wide operations (R348–R350) -/

/-- Bits of a lane, and lanes of a wide register (R333). -/
def laneW (ew : BitVec 2) : Nat := 8 * 2 ^ ew.toNat
def laneN (ew : BitVec 2) : Nat := 32 / 2 ^ ew.toNat

/-- Lane i of a wide register (R329). -/
def lane (ew : BitVec 2) (w : Wide) (i : Nat) : Nat := bitsOf w.toNat (laneW ew * i) (laneW ew)

/-- The wide register with the given lanes. -/
def ofLanes (ew : BitVec 2) (f : Nat → Nat) : Wide :=
  BitVec.ofNat 256 ((List.range (laneN ew)).foldl (fun a i => a + f i % 2 ^ laneW ew * 2 ^ (laneW ew * i)) 0)

/-- wd := f ws1 ws2. -/
def wideOp (f : Wide → Wide → Wide) (wd wa wb : BitVec 4) (k : Nat) : Core → Act := fun x =>
  reg k fun y => y.setWide wd (f (x.wide wa) (x.wide wb))

/-- Lane by lane. -/
def laneOp (ew : BitVec 2) (f : Nat → Nat → Nat) (a b : Wide) : Wide := ofLanes ew fun i => f (lane ew a i) (lane ew b i)

/-- All ones in a lane, or zero. -/
def laneMask (ew : BitVec 2) (b : Bool) : Nat := if b then 2 ^ laneW ew - 1 else 0

/-- WADD (R348). -/
def execWadd (core : Nat) (ew : BitVec 2) (wd wa wb : BitVec 4) (s : State) : Host.Outcome State Fault Refusal :=
  onCore core s (wideOp (laneOp ew (fun a b => a + b)) wd wa wb core)

/-- WSUB (R348). -/
def execWsub (core : Nat) (ew : BitVec 2) (wd wa wb : BitVec 4) (s : State) : Host.Outcome State Fault Refusal :=
  onCore core s (wideOp (laneOp ew (fun a b => a + 2 ^ laneW ew - b)) wd wa wb core)

/-- WCMP.EQ (R348). -/
def execWcmpEq (core : Nat) (ew : BitVec 2) (wd wa wb : BitVec 4) (s : State) : Host.Outcome State Fault Refusal :=
  onCore core s (wideOp (laneOp ew (fun a b => laneMask ew (a == b))) wd wa wb core)

/-- WCMP.LT (R348). -/
def execWcmpLt (core : Nat) (ew : BitVec 2) (wd wa wb : BitVec 4) (s : State) : Host.Outcome State Fault Refusal :=
  onCore core s (wideOp (laneOp ew (fun a b => laneMask ew (decide (sval (laneW ew) a < sval (laneW ew) b)))) wd wa wb core)

/-- WCMP.LTU (R348). -/
def execWcmpLtu (core : Nat) (ew : BitVec 2) (wd wa wb : BitVec 4) (s : State) : Host.Outcome State Fault Refusal :=
  onCore core s (wideOp (laneOp ew (fun a b => laneMask ew (decide (a < b)))) wd wa wb core)

/-- WAND (R348). -/
def execWand (core : Nat) (wd wa wb : BitVec 4) (s : State) : Host.Outcome State Fault Refusal :=
  onCore core s (wideOp (fun a b => a &&& b) wd wa wb core)

/-- WOR (R348). -/
def execWor (core : Nat) (wd wa wb : BitVec 4) (s : State) : Host.Outcome State Fault Refusal :=
  onCore core s (wideOp (fun a b => a ||| b) wd wa wb core)

/-- WXOR (R348). -/
def execWxor (core : Nat) (wd wa wb : BitVec 4) (s : State) : Host.Outcome State Fault Refusal :=
  onCore core s (wideOp (fun a b => a ^^^ b) wd wa wb core)

/-- The byte shuffle (R348). -/
def shuffle (a b : Wide) : Wide :=
  ofLanes 0 fun j => let i := lane 0 b j; if 128 ≤ i then 0 else lane 0 a (i % 32)

/-- WSHUF (R348). -/
def execWshuf (core : Nat) (wd wa wb : BitVec 4) (s : State) : Host.Outcome State Fault Refusal :=
  onCore core s (wideOp shuffle wd wa wb core)

/-- WEXT (R349): a lane to a general register; a lane that does not exist is ILLEGAL (R334). -/
def execWext (core : Nat) (ew : BitVec 2) (rd : BitVec 5) (wa : BitVec 4) (lane_ : BitVec 5) (s : State) :
    Host.Outcome State Fault Refusal :=
  onCore core s fun x =>
    if laneN ew ≤ lane_.toNat then .cause (illegal 0)
    else reg core fun y => y.setG rd (BitVec.ofNat 64 (lane ew (x.wide wa) lane_.toNat))

/-- WINS (R349): a general register to a lane. -/
def execWins (core : Nat) (ew : BitVec 2) (wd : BitVec 4) (ra : BitVec 5) (lane_ : BitVec 5) (s : State) :
    Host.Outcome State Fault Refusal :=
  onCore core s fun x =>
    if laneN ew ≤ lane_.toNat then .cause (illegal 0)
    else reg core fun y => y.setWide wd (ofLanes ew fun i =>
      if i = lane_.toNat then (x.gr ra).toNat else lane ew (x.wide wd) i)

/-- WSPL (R349): a general register to every lane. -/
def execWspl (core : Nat) (ew : BitVec 2) (wd : BitVec 4) (ra : BitVec 5) (s : State) : Host.Outcome State Fault Refusal :=
  onCore core s fun x => reg core fun y => y.setWide wd (ofLanes ew fun _ => (x.gr ra).toNat)

/-- rd := f of the lanes of a wide register. -/
def reduce (f : List Nat → DWord) (ew : BitVec 2) (rd : BitVec 5) (wa : BitVec 4) (k : Nat) : Core → Act := fun x =>
  reg k fun y => y.setG rd (f ((List.range (laneN ew)).map fun i => lane ew (x.wide wa) i))

/-- The best of signed lanes, sign-extended (R349). -/
def bestLane (ew : BitVec 2) (better : Int → Int → Bool) (l : List Nat) : DWord :=
  let v := l.map fun a => sval (laneW ew) a
  BitVec.ofInt 64 (v.foldl (fun a b => if better b a then b else a) (v.headD 0))

/-- WRED.ADD (R349). -/
def execWredAdd (core : Nat) (ew : BitVec 2) (rd : BitVec 5) (wa : BitVec 4) (s : State) : Host.Outcome State Fault Refusal :=
  onCore core s (reduce (fun l => BitVec.ofNat 64 l.sum) ew rd wa core)

/-- WRED.MIN (R349). -/
def execWredMin (core : Nat) (ew : BitVec 2) (rd : BitVec 5) (wa : BitVec 4) (s : State) : Host.Outcome State Fault Refusal :=
  onCore core s (reduce (bestLane ew fun b a => decide (b < a)) ew rd wa core)

/-- WRED.MAX (R349). -/
def execWredMax (core : Nat) (ew : BitVec 2) (rd : BitVec 5) (wa : BitVec 4) (s : State) : Host.Outcome State Fault Refusal :=
  onCore core s (reduce (bestLane ew fun b a => decide (a < b)) ew rd wa core)

/-- WRED.XOR (R349). -/
def execWredXor (core : Nat) (ew : BitVec 2) (rd : BitVec 5) (wa : BitVec 4) (s : State) : Host.Outcome State Fault Refusal :=
  onCore core s (reduce (fun l => BitVec.ofNat 64 (l.foldl (· ^^^ ·) 0)) ew rd wa core)

/-- n bit steps of a reflected CRC (R350). -/
def crcRefl (poly : DWord) : Nat → DWord → DWord
  | 0, c => c
  | n + 1, c => crcRefl poly n (if c.getLsbD 0 then (c >>> 1) ^^^ poly else c >>> 1)

/-- The CRC step over bytes (R350). -/
def crcMoreBytes (poly : DWord) (c : DWord) (l : List Byte) : DWord := l.foldl (fun c b => crcRefl poly 8 (c ^^^ b.setWidth 64)) c

def crcPoly32 : DWord := 0x82F63B78
def crcPoly64 : DWord := 0xC96C5795D7870F42

/-- The start value of a CRC step: CRC-32C takes the low word (R350). -/
def crcStart (crc64 : Bool) (c : DWord) : DWord := if crc64 then c else c &&& 0xFFFFFFFF

/-- The hash step over 64-bit lanes (R350). -/
def hashStep (h : DWord) (l : List DWord) : DWord := l.foldl (fun h v => (h ^^^ v).rotateLeft 31 * 0x9E3779B97F4A7C15) h

/-- WCRC (R350): a CRC step over the 32 bytes of a wide register. -/
def execWcrc (core : Nat) (crc64 : Bool) (rd ra : BitVec 5) (wb : BitVec 4) (s : State) : Host.Outcome State Fault Refusal :=
  onCore core s fun x => reg core fun y =>
    y.setG rd (crcMoreBytes (if crc64 then crcPoly64 else crcPoly32) (crcStart crc64 (x.gr ra)) (bytesLE 32 (x.wide wb).toNat))

/-- WHASH (R350): a hash step over the four 64-bit lanes. -/
def execWhash (core : Nat) (rd ra : BitVec 5) (wb : BitVec 4) (s : State) : Host.Outcome State Fault Refusal :=
  onCore core s fun x => reg core fun y =>
    y.setG rd (hashStep (x.gr ra) ((List.range 4).map fun i => BitVec.ofNat 64 (lane 3 (x.wide wb) i)))

end Sys2Proof.Machine
end

