-- ==== Sys2Proof/Machine/ScribeMem.lean ====
section
/-! DEFINITION. Scribe memory instructions (R295–R316, R339–R344) and the responses that reach the cores. -/
namespace Sys2Proof.Machine
open Config

/-! ## Destinations, nib data cache, slate -/

/-- A loaded value of n bytes in its destination (R340). -/
def setDest (x : Core) (d : Dest) (v n : Nat) (sext : Bool) : Core :=
  match d with
  | .g i => x.setG (BitVec.ofNat 5 i) (if sext then (BitVec.ofNat (8 * n) v).signExtend 64 else BitVec.ofNat 64 v)
  | .w i => x.setWide (BitVec.ofNat 4 i) (BitVec.ofNat 256 v)

/-- Allocate a line in the nib data cache, or use it: most recently used first (R292). The core's own stores to the line
that are still in its store buffer stand in it, so that a later load returns them (R308, log entry 46). -/
def nibPut (x : Core) (line : Nat) (d : LineData) : Core :=
  let d := match x.sb.find? fun e => e.line == line with
    | some e => mergeLine d e.data e.mask
    | none => d
  { x with dnib := (⟨line, d⟩ :: x.dnib.filter fun l => l.line != line).take 48 }

def nibFind (x : Core) (line : Nat) : Option NibLine := x.dnib.find? fun l => l.line == line

/-- The core's nib line of an address is invalidated (R309). -/
def nibDrop (s : State) (k line : Nat) : State :=
  s.modCore k fun x => { x with dnib := x.dnib.filter fun l => l.line != line }

/-- n bytes of the slate. -/
def slateRead (s : State) (c off n : Nat) : Nat :=
  ofBytesLE ((List.range n).map fun i => sget byteD (s.cluster c).slate (off + i))

/-- Write n bytes of the slate; a whole word loses its wrong bits. -/
def slateWrite (s : State) (c off n v : Nat) : State :=
  s.modCluster c fun x =>
    { x with
      slate := (List.range n).foldl (fun m i => sset byteD m (off + i) (BitVec.ofNat 8 (v / 2 ^ (8 * i)))) x.slate
      slateErr := x.slateErr.filter fun e => !(decide (off ≤ 8 * e.1) && decide (8 * e.1 + 8 ≤ off + n)) }

/-- The INFO word of a slate error (R428). -/
def slateInfo (k off : Nat) : Word := w32 (k % 8 + 2 ^ 3 * (off / 8))

/-- Check the words that a slate access reads (R301, R421): corrected words are repaired and logged; an uncorrectable one
sets SLATE_UE and answers true. -/
def slateCheck (s : State) (k off n : Nat) : State × Bool :=
  let c := k / 8
  let bad := (s.cluster c).slateErr.filter fun e => decide (8 * e.1 < off + n) && decide (off < 8 * e.1 + 8)
  let ue := bad.any fun e => decide (2 ≤ e.2)
  let s := bad.foldl (fun s e => s.setErr (scrReg c 0x80) (if 2 ≤ e.2 then 5 else 4) (0x50 + c) (slateInfo k (8 * e.1))) s
  (s.modCluster c fun x => { x with slateErr := x.slateErr.filter fun e => !(bad.contains e && decide (e.2 < 2)) }, ue)

/-- A slate access meets an uncorrectable word (R301). -/
def slateBad (s : State) (k off n : Nat) : Bool :=
  (s.cluster (k / 8)).slateErr.any fun e => decide (2 ≤ e.2) && decide (8 * e.1 < off + n) && decide (off < 8 * e.1 + 8)

/-- An access on the slate: one that meets an uncorrectable word ends in POISON, before any event (R301, R353). -/
def slateAct (s : State) (k off n : Nat) (f : State → State) : Act := if slateBad s k off n then .fault f else .go f

def slateCount (s : State) (k : Nat) : State := s.count (36 + k / 8) 6 1

/-! ## Loads (R304, R306, R340, R341) -/

/-- The SIZE code of a control-window access of n bytes (R146). There is none for 32 bytes: LDW asks with the code of one byte,
which is malformed as well (R51, R341; log entry 83). -/
def sizeCode (n : Nat) : Nat := if n = 32 then 0 else Nat.log2 n

/-- The load has its value. -/
def deliver (s : State) (k : Nat) (d : Dest) (v n : Nat) (sext : Bool) : State :=
  retire (s.modCore k fun x => setDest x d v n sext) k

/-- A slate load (R300, R301). -/
def loadSlate (s : State) (k : Nat) (d : Dest) (a : PA) (off n : Nat) (sext : Bool) : State :=
  let (s, ue) := slateCheck (slateCount s k) k off n
  if ue then raiseCause s k (poisonCause a 1) else deliver s k d (slateRead s (k / 8) off n) n sext

/-- A memory load (R304). -/
def loadMem (s : State) (k : Nat) (d : Dest) (a : PA) (n : Nat) (sext : Bool) : State :=
  let x := s.core k
  let line := a.toNat / 64
  let o := a.toNat % 64
  let need := byteMask o n
  let nib := nibAttr x a
  let beyond := fun (s : State) =>
    match (if nib then nibFind x line else none) with
    | some l => deliver ((s.modCore k fun x => nibPut x line l.data).count (36 + k / 8) 2 1) k d (lineBytes l.data o n) n sext
    | none =>
      let s := s.count (36 + k / 8) 3 (b2n nib)
      let g := gatherView s (k / 8) line
      if g.2.1 = BitVec.allOnes 64 then
        if g.2.2 then raiseCause s k (poisonCause a 0)
        else deliver (if nib then s.modCore k fun x => nibPut x line g.1 else s) k d (lineBytes g.1 o n) n sext
      else
        let (s, tag) := newTag s (k / 8) (k % 8)
        coreSend (s.modCore k fun x => { x with wait := some (.load d a n sext nib), waitTag := tag }) k tag opcRD_UC 6
          (lineAddr a) []
  match x.sb.find? fun e => e.line == line with
  | none => beyond s
  | some e =>
    if e.mask &&& need = need then
      if e.poison then raiseCause s k (poisonCause a 0) else deliver s k d (lineBytes e.data o n) n sext
    else if e.mask &&& need = 0 then beyond s
    else s

/-- A memory load takes poison from the store buffer or the gather buffer (R304, R422). -/
def loadPoisoned (s : State) (k : Nat) (a : PA) (n : Nat) : Bool :=
  let x := s.core k
  let line := a.toNat / 64
  let need := byteMask (a.toNat % 64) n
  let g := gatherView s (k / 8) line
  match x.sb.find? fun e => e.line == line with
  | some e => if e.mask &&& need = 0 then g.2.1 == BitVec.allOnes 64 && g.2.2 && !(nibAttr x a && (nibFind x line).isSome)
    else e.poison && e.mask &&& need == need
  | none => g.2.1 == BitVec.allOnes 64 && g.2.2 && !(nibAttr x a && (nibFind x line).isSome)

/-- A control-window load: alone (R306); other sizes than 4 and 8 are malformed and give zero (R341). -/
def loadCw (s : State) (k : Nat) (d : Dest) (a : PA) (n : Nat) (sext : Bool) : State :=
  if (s.core k).cwBusy.isSome then s
  else
    let (s, tag) := newTag s (k / 8) (k % 8)
    coreSend (s.modCore k fun x => { x with wait := some (.cwLoad d a n sext (n != 4 && n != 8)), waitTag := tag }) k tag
      opcRD_UC (sizeCode n) a []

/-- A load (R351: MISALIGNED, then WINDOW). -/
def loadOp (s : State) (k : Nat) (d : Dest) (base : BitVec 5) (imm : BitVec 16) (n : Nat) (sext : Bool) (x : Core) : Act :=
  let a := effAddr (x.gr base) imm
  let p := placeOf s x a
  if a.toNat % n ≠ 0 then .cause (misaligned a)
  else if missing x p a 1 ≠ 0 then .cause (windowCause a (missing x p a 1))
  else match p with
    | .slate off => slateAct s k off n fun s => loadSlate s k d a off n sext
    | .cw => .go fun s => loadCw s k d a n sext
    | .mem => if loadPoisoned s k a n then .fault fun s => loadMem s k d a n sext else .go fun s => loadMem s k d a n sext

/-! ## Stores (R302, R306, R340, R341) -/

/-- The bytes of a store in a line. -/
def storeLineOf (a : PA) (n v : Nat) : LineData := putLine 0 (a.toNat % 64) n v

/-- A memory store enters the store buffer (R302); a full buffer stalls the core. -/
def storeMem (s : State) (k : Nat) (a : PA) (n v : Nat) : State :=
  let x := s.core k
  let line := a.toNat / 64
  let m := byteMask (a.toNat % 64) n
  let d := storeLineOf a n v
  let nib := fun (x : Core) => if nibAttr x a then
      { x with dnib := x.dnib.map fun l => if l.line = line then { l with data := mergeLine l.data d m } else l } else x
  if x.sb.any fun e => e.line == line then
    retire (s.modCore k fun x => nib { x with sb := x.sb.map fun e =>
      if e.line = line then { e with data := mergeLine e.data d m, mask := e.mask ||| m } else e }) k
  else if x.sb.length < 16 then
    retire (s.modCore k fun x => nib { x with sb := x.sb ++ [⟨line, d, m, false⟩] }) k
  else s

/-- A control-window store: alone, not waited for (R306). -/
def storeCw (s : State) (k : Nat) (a : PA) (n v : Nat) : State :=
  if (s.core k).cwBusy.isSome then s
  else
    let (s, tag) := newTag s (k / 8) (k % 8)
    retire (coreSend (s.modCore k fun x => { x with cwBusy := some (tag, a) }) k tag opcWR_PART 0 (lineAddr a)
      (partBody (byteMask (a.toNat % 64) n) (storeLineOf a n v))) k

/-- A store of n bytes (R351: MISALIGNED, then WINDOW). -/
def storeOp (s : State) (k : Nat) (base : BitVec 5) (imm : BitVec 16) (n : Nat) (v : Core → Nat) (x : Core) : Act :=
  let a := effAddr (x.gr base) imm
  let p := placeOf s x a
  if a.toNat % n ≠ 0 then .cause (misaligned a)
  else if missing x p a 2 ≠ 0 then .cause (windowCause a (missing x p a 2))
  else match p with
    | .slate off => .go fun s => retire (slateWrite (slateCount s k) (k / 8) off n (v x)) k
    | .cw => .go fun s => storeCw s k a n (v x)
    | .mem => .go fun s => storeMem s k a n (v x)

/-! ## Atomics (R309, R341, R342) -/

/-- An atomic on the slate, indivisible (R300). -/
def amoSlate (s : State) (k : Nat) (rd : BitVec 5) (a : PA) (off n op : Nat) (opnd cmp : DWord) : State :=
  let (s, ue) := slateCheck ((slateCount s k).count (36 + k / 8) 8 1) k off n
  if ue then raiseCause s k (poisonCause a 1)
  else
    let old := slateRead s (k / 8) off n
    let new := amoValue op (8 * n) old (opnd.toNat % 2 ^ (8 * n)) (cmp.toNat % 2 ^ (8 * n))
    deliver (slateWrite s (k / 8) off n new) k (.g rd.toNat) old n true

/-- An atomic at the home of its line: the cluster's stores to the line first (R308), then the request (R309). One in a control
window waits for the control-window access before it (R306). -/
def amoSend (s : State) (k : Nat) (rd : BitVec 5) (a : PA) (n op : Nat) (opnd cmp : DWord) : State :=
  let line := a.toNat / 64
  if placeOf s (s.core k) a = .cw ∧ (s.core k).cwBusy.isSome = true then s
  else if lineFlushed s (k / 8) line then
    let (s, tag) := newTag (nibDrop (s.count (36 + k / 8) 8 1) k line) (k / 8) (k % 8)
    let lim := fun (v : DWord) => if n = 4 then v &&& 0xFFFFFFFF else v
    coreSend (s.modCore k fun x => { x with wait := some (.amo rd.toNat a n), waitTag := tag }) k tag opcAMO
      (op + 8 * b2n (n == 8)) a (amoBody (lim opnd) (lim cmp))
  else flushLine s (k / 8) line

/-- AMO (R342, R351): needs R and W. -/
def amoOp (s : State) (k : Nat) (dword : Bool) (op : Nat) (rd base rb : BitVec 5) (cmp : Core → DWord) (x : Core) : Act :=
  let a : PA := (x.gr base).setWidth 52
  let n := if dword then 8 else 4
  let p := placeOf s x a
  if a.toNat % n ≠ 0 then .cause (misaligned a)
  else if missing x p a 3 ≠ 0 then .cause (windowCause a (missing x p a 3))
  else match p with
    | .slate off => slateAct s k off n fun s => amoSlate s k rd a off n op (x.gr rb) (cmp x)
    | _ => .go fun s => amoSend s k rd a n op (x.gr rb) (cmp x)

/-! ## Reservations (R312–R314, R343) -/

/-- The line is in the device's own home window (R312). -/
def ownHome (s : State) (a : PA) : Bool :=
  match s.classify a with
  | .home _ => true
  | _ => false

/-- The causes of LRES and SCND that no response carries (R351). -/
def resCause (s : State) (x : Core) (a : PA) (n need : Nat) : Option Cause :=
  let p := placeOf s x a
  if a.toNat % n ≠ 0 then some (misaligned a)
  else match p with
    | .slate _ => some (illegal 1)
    | _ => if missing x p a need ≠ 0 then some (windowCause a (missing x p a need))
      else if ownHome s a then none else some (accessCause a 0x20)

/-- LRES (R313). -/
def lresOp (s : State) (k n : Nat) (rd base : BitVec 5) (x : Core) : Act :=
  let a : PA := (x.gr base).setWidth 52
  let line := a.toNat / 64
  match resCause s x a n 1 with
  | some c => .cause c
  | none => .go fun s =>
    if lineFlushed s (k / 8) line then
      let (s, tag) := newTag (nibDrop s k line) (k / 8) (k % 8)
      coreSend (s.modCore k fun x => { x with resv := none, wait := some (.lres rd.toNat a n), waitTag := tag }) k tag opcRD_UC
        (6 + 8) (lineAddr a) []
    else flushLine s (k / 8) line

/-- SCND (R314): fails at the core without flag or on another line; else the slice decides. It invalidates the nib line in
either case (R309). -/
def scndOp (s : State) (k n : Nat) (rd base rb : BitVec 5) (x : Core) : Act :=
  let a : PA := (x.gr base).setWidth 52
  let line := a.toNat / 64
  match resCause s x a n 2 with
  | some c => .cause c
  | none => .go fun s =>
    if x.resv ≠ some line then
      deliver ((dropResv (nibDrop s k line) k).count (36 + k / 8) 10 1) k (.g rd.toNat) 0 8 false
    else if lineFlushed s (k / 8) line then
      let (s, tag) := newTag (nibDrop s k line) (k / 8) (k % 8)
      coreSend (s.modCore k fun x => { x with wait := some (.scnd rd.toNat a), waitTag := tag }) k tag opcWR_PART 1
        (lineAddr a) (partBody (byteMask (a.toNat % 64) n) (storeLineOf a n ((x.gr rb).toNat % 2 ^ (8 * n))))
    else flushLine s (k / 8) line

/-! ## Cache operations (R341, R344) -/

/-- The cache operations: ZLN, PFK, CLN, CINV. -/
inductive CacheOp | zln | pfk | cln | cinv
  deriving DecidableEq, Repr

/-- Send the request of a cache operation: posted, but for the hint (R309, R344). One in a control window is the core's
control-window access until its response (R306). -/
def cacheSend (s : State) (k : Nat) (o : CacheOp) (a : PA) (cw : Bool) : State :=
  let la := lineAddr a
  let (s, tag) := newTag s (k / 8) (k % 8)
  let s := if o = .pfk then s
    else if cw then s.modCore k fun x => { x with cwBusy := some (tag, la) }
    else s.modCore k fun x => { x with posted := x.posted ++ [(tag, la)] }
  let s := if o = .zln ∨ o = .cinv then nibDrop s k (a.toNat / 64) else s
  retire (match o with
    | .zln => coreSend s k tag opcZERO_LINE 0 la []
    | .pfk => coreSend s k tag opcPREFETCH 0 la []
    | .cln => coreSend s k tag opcMAINT 0 la []
    | .cinv => coreSend s k tag opcMAINT 2 la []) k

/-- A cache operation (R351, R352): a hint outside its windows or in a control window is dropped. -/
def cacheOp (s : State) (k : Nat) (o : CacheOp) (base : BitVec 5) (imm : BitVec 16) (x : Core) : Act :=
  let a := effAddr (x.gr base) imm
  let p := placeOf s x a
  let need := if o = .zln ∨ o = .cinv then 2 else 1
  match p with
  | .slate _ => .cause (illegal 1)
  | _ =>
    if missing x p a need ≠ 0 then
      if o = .pfk then .go fun s => retire s k else .cause (windowCause a (missing x p a need))
    else if p = .cw then
      (if o = .pfk then .go fun s => retire s k
       else .go fun s => if (s.core k).cwBusy.isSome then s else cacheSend s k o a true)
    else .go fun s => if lineFlushed s (k / 8) (a.toNat / 64) then cacheSend s k o a false else flushLine s (k / 8) (a.toNat / 64)

/-! ## Responses (R304, R313, R314, R316) -/

/-- A response as it reaches a cluster. -/
inductive Rsp
  | line (d : LineData) (poison : Bool)
  | value (v : DWord) (poison : Bool)
  | done (ok : Bool)
  | refused (reason : Nat)
  deriving DecidableEq, Repr

/-- The response of the access that core k waits for. A response of another kind than the access leaves it waiting. -/
def finishWait (s : State) (k : Nat) (w : CoreWait) (r : Rsp) : State :=
  let s0 := s.modCore k fun x => { x with wait := none }
  let line := fun (a : PA) => a.toNat / 64
  match r, w with
  | .refused n, .load _ a _ _ _ => raiseCause s0 k (accessCause a n)
  | .refused n, .cwLoad _ a _ _ _ => raiseCause s0 k (accessCause a n)
  | .refused n, .amo _ a _ => raiseCause s0 k (accessCause a n)
  | .refused n, .lres _ a _ => raiseCause s0 k (accessCause a n)
  | .refused n, .scnd _ a => raiseCause s0 k (accessCause a n)
  | .line d p, .load dst a n sext nib =>
    let g := gatherView s (k / 8) (line a)
    let need := byteMask (a.toNat % 64) n
    let d := mergeLine d g.1 g.2.1
    if (p && g.2.1 &&& need != need) || (g.2.2 && g.2.1 &&& need != 0) then raiseCause s0 k (poisonCause a 0)
    else checkForced (deliver (if nib && !p && !g.2.2 then s0.modCore k fun x => nibPut x (line a) d else s0) k dst
      (lineBytes d (a.toNat % 64) n) n sext) k
  | .line d p, .cwLoad dst a n sext zero =>
    if p then raiseCause s0 k (poisonCause a 0)
    else checkForced (deliver s0 k dst (if zero then 0 else bitsOf d.toNat 0 (8 * n)) n sext) k
  | .line d p, .lres rd a n =>
    if p then raiseCause s0 k (poisonCause a 0)
    else checkForced (deliver (s0.modCore k fun x => { x with resv := some (line a) }) k (.g rd)
      (lineBytes d (a.toNat % 64) n) n true) k
  | .value v p, .amo rd a n =>
    if p then raiseCause s0 k (poisonCause a 0)
    else checkForced (deliver s0 k (.g rd) (v.toNat % 2 ^ (8 * n)) n true) k
  | .done ok, .scnd rd _ =>
    checkForced (deliver (((s0.modCore k fun x => { x with resv := none })).count (36 + k / 8) (if ok then 9 else 10) 1) k
      (.g rd) (b2n ok) 8 false) k
  | _, _ => s

/-- A response has arrived: its tag is free again (R142). -/
def freeCoreTag (s : State) (c : Nat) (tag : Tag) : State :=
  s.modCluster c fun x => { x with tags := eraseFirst (· == tag) x.tags }

/-- A response for cluster c with a tag: to the core that waits, to a control-window store, a posted operation or a gather
drain; to nobody, it is dropped. -/
def coreResponse (s : State) (c : Nat) (tag : Tag) (r : Rsp) : State :=
  let j := tag.toNat % 8
  let k := 8 * c + j
  let s := freeCoreTag s c tag
  let x := s.core k
  let bit : BitVec 8 := BitVec.ofNat 8 (2 ^ j)
  let err := fun (s : State) (cores : BitVec 8) (a : PA) => match r with
    | .refused n => storeErr s c cores a n
    | _ => s
  let s := match x.wait with
    | some w => if x.waitTag = tag then finishWait s k w r else s
    | none => s
  let s := match x.cwBusy with
    | some (t, a) => if t = tag then err (s.modCore k fun x => { x with cwBusy := none }) bit a else s
    | none => s
  let s := match x.posted.find? fun p => p.1 == tag with
    | some p => err (s.modCore k fun x => { x with posted := eraseFirst (· == p) x.posted }) bit p.2
    | none => s
  let s := match (s.cluster c).gather.find? fun e => e.drain == some tag with
    | some e => gatherAuto (err (s.modCluster c fun x => { x with gather := eraseFirst (· == e) x.gather }) e.cores
        (BitVec.ofNat 52 (e.line * 64))) c true
    | none => s
  clusterGo s c

/-! ## The commands -/

/-- LD.B (R340). -/
def execLdB (core : Nat) (rd ra : BitVec 5) (imm : BitVec 16) (s : State) : Host.Outcome State Fault Refusal :=
  onCore core s (loadOp s core (.g rd.toNat) ra imm 1 true)

/-- LD.H (R340). -/
def execLdH (core : Nat) (rd ra : BitVec 5) (imm : BitVec 16) (s : State) : Host.Outcome State Fault Refusal :=
  onCore core s (loadOp s core (.g rd.toNat) ra imm 2 true)

/-- LD.W (R340). -/
def execLdW (core : Nat) (rd ra : BitVec 5) (imm : BitVec 16) (s : State) : Host.Outcome State Fault Refusal :=
  onCore core s (loadOp s core (.g rd.toNat) ra imm 4 true)

/-- LD.D (R340). -/
def execLdD (core : Nat) (rd ra : BitVec 5) (imm : BitVec 16) (s : State) : Host.Outcome State Fault Refusal :=
  onCore core s (loadOp s core (.g rd.toNat) ra imm 8 true)

/-- LD.BU (R340). -/
def execLdBu (core : Nat) (rd ra : BitVec 5) (imm : BitVec 16) (s : State) : Host.Outcome State Fault Refusal :=
  onCore core s (loadOp s core (.g rd.toNat) ra imm 1 false)

/-- LD.HU (R340). -/
def execLdHu (core : Nat) (rd ra : BitVec 5) (imm : BitVec 16) (s : State) : Host.Outcome State Fault Refusal :=
  onCore core s (loadOp s core (.g rd.toNat) ra imm 2 false)

/-- LD.WU (R340). -/
def execLdWu (core : Nat) (rd ra : BitVec 5) (imm : BitVec 16) (s : State) : Host.Outcome State Fault Refusal :=
  onCore core s (loadOp s core (.g rd.toNat) ra imm 4 false)

/-- LDW (R340): 32 bytes to a wide register. -/
def execLdw (core : Nat) (wd : BitVec 4) (ra : BitVec 5) (imm : BitVec 16) (s : State) : Host.Outcome State Fault Refusal :=
  onCore core s (loadOp s core (.w wd.toNat) ra imm 32 false)

/-- ST.B (R340). -/
def execStB (core : Nat) (rb ra : BitVec 5) (imm : BitVec 16) (s : State) : Host.Outcome State Fault Refusal :=
  onCore core s (storeOp s core ra imm 1 fun x => (x.gr rb).toNat % 2 ^ 8)

/-- ST.H (R340). -/
def execStH (core : Nat) (rb ra : BitVec 5) (imm : BitVec 16) (s : State) : Host.Outcome State Fault Refusal :=
  onCore core s (storeOp s core ra imm 2 fun x => (x.gr rb).toNat % 2 ^ 16)

/-- ST.W (R340). -/
def execStW (core : Nat) (rb ra : BitVec 5) (imm : BitVec 16) (s : State) : Host.Outcome State Fault Refusal :=
  onCore core s (storeOp s core ra imm 4 fun x => (x.gr rb).toNat % 2 ^ 32)

/-- ST.D (R340). -/
def execStD (core : Nat) (rb ra : BitVec 5) (imm : BitVec 16) (s : State) : Host.Outcome State Fault Refusal :=
  onCore core s (storeOp s core ra imm 8 fun x => (x.gr rb).toNat % 2 ^ 64)

/-- STW (R340): 32 bytes of a wide register. -/
def execStw (core : Nat) (wb : BitVec 4) (ra : BitVec 5) (imm : BitVec 16) (s : State) : Host.Outcome State Fault Refusal :=
  onCore core s (storeOp s core ra imm 32 fun x => (x.wide wb).toNat)

/-- AMO.ADD (R342). -/
def execAmoAdd (core : Nat) (dword : Bool) (rd ra rb : BitVec 5) (s : State) :
    Host.Outcome State Fault Refusal :=
  onCore core s (amoOp s core dword 0 rd ra rb fun _ => 0)

/-- AMO.SWP (R342). -/
def execAmoSwp (core : Nat) (dword : Bool) (rd ra rb : BitVec 5) (s : State) :
    Host.Outcome State Fault Refusal :=
  onCore core s (amoOp s core dword 1 rd ra rb fun _ => 0)

/-- AMO.CAS (R342). -/
def execAmoCas (core : Nat) (dword : Bool) (rd ra rb rc : BitVec 5) (s : State) :
    Host.Outcome State Fault Refusal :=
  onCore core s (amoOp s core dword 2 rd ra rb fun x => x.gr rc)

/-- AMO.MIN (R342). -/
def execAmoMin (core : Nat) (dword : Bool) (rd ra rb : BitVec 5) (s : State) :
    Host.Outcome State Fault Refusal :=
  onCore core s (amoOp s core dword 3 rd ra rb fun _ => 0)

/-- AMO.MAX (R342). -/
def execAmoMax (core : Nat) (dword : Bool) (rd ra rb : BitVec 5) (s : State) :
    Host.Outcome State Fault Refusal :=
  onCore core s (amoOp s core dword 4 rd ra rb fun _ => 0)

/-- AMO.AND (R342). -/
def execAmoAnd (core : Nat) (dword : Bool) (rd ra rb : BitVec 5) (s : State) :
    Host.Outcome State Fault Refusal :=
  onCore core s (amoOp s core dword 5 rd ra rb fun _ => 0)

/-- AMO.OR (R342). -/
def execAmoOr (core : Nat) (dword : Bool) (rd ra rb : BitVec 5) (s : State) :
    Host.Outcome State Fault Refusal :=
  onCore core s (amoOp s core dword 6 rd ra rb fun _ => 0)

/-- AMO.XOR (R342). -/
def execAmoXor (core : Nat) (dword : Bool) (rd ra rb : BitVec 5) (s : State) :
    Host.Outcome State Fault Refusal :=
  onCore core s (amoOp s core dword 7 rd ra rb fun _ => 0)

/-- LRES.W (R313, R343). -/
def execLresW (core : Nat) (rd ra : BitVec 5) (s : State) : Host.Outcome State Fault Refusal :=
  onCore core s (lresOp s core 4 rd ra)

/-- LRES.D (R313, R343). -/
def execLresD (core : Nat) (rd ra : BitVec 5) (s : State) : Host.Outcome State Fault Refusal :=
  onCore core s (lresOp s core 8 rd ra)

/-- SCND.W (R314, R343). -/
def execScndW (core : Nat) (rd ra rb : BitVec 5) (s : State) : Host.Outcome State Fault Refusal :=
  onCore core s (scndOp s core 4 rd ra rb)

/-- SCND.D (R314, R343). -/
def execScndD (core : Nat) (rd ra rb : BitVec 5) (s : State) : Host.Outcome State Fault Refusal :=
  onCore core s (scndOp s core 8 rd ra rb)

/-- ZLN (R344). -/
def execZln (core : Nat) (ra : BitVec 5) (imm : BitVec 16) (s : State) : Host.Outcome State Fault Refusal :=
  onCore core s (cacheOp s core .zln ra imm)

/-- PFK (R344). -/
def execPfk (core : Nat) (ra : BitVec 5) (imm : BitVec 16) (s : State) : Host.Outcome State Fault Refusal :=
  onCore core s (cacheOp s core .pfk ra imm)

/-- CLN (R344). -/
def execCln (core : Nat) (ra : BitVec 5) (imm : BitVec 16) (s : State) : Host.Outcome State Fault Refusal :=
  onCore core s (cacheOp s core .cln ra imm)

/-- CINV (R344). -/
def execCinv (core : Nat) (ra : BitVec 5) (imm : BitVec 16) (s : State) : Host.Outcome State Fault Refusal :=
  onCore core s (cacheOp s core .cinv ra imm)

/-- The oldest store-buffer entry that the gather buffer can take leaves (R303, R305). -/
def sbDrain (s : State) (k : Nat) : State :=
  if s.domLit (44 + k / 8) then
    match (s.core k).sb.findSome? fun e => gatherTake s k e with
    | some s => clusterGo s (k / 8)
    | none => s
  else s

/-- STORE_BUFFER_DRAIN (R303). -/
def execStoreBufferDrain (core : Nat) (s : State) : Host.Outcome State Fault Refusal := onUnit nCores core (sbDrain s core)

/-- GATHER_HOLD_EXPIRE (R305): the i-th entry has been open for GATHER_HOLD grains; it drains unless a write of its line is
still out. -/
def execGatherHoldExpire (c i : Nat) (s : State) : Host.Outcome State Fault Refusal :=
  onUnit nClusters c (match (s.cluster c).gather[i]? with
    | some e => if e.drain = none then drainLine s c e.line else s
    | none => s)

/-- The response that a core waits for, from its operands: by the kind of access. -/
def rspFor (w : CoreWait) (poison : Bool) (refused : Option Nat) (data : LineData) : Rsp :=
  match refused, w with
  | some n, _ => .refused n
  | none, .amo _ _ _ => .value (data.setWidth 64) poison
  | none, .scnd _ _ => .done (data.getLsbD 0)
  | none, _ => .line data poison

/-- What a response says, from its words (R144–R153). -/
def rspOf (m : Msg) : Rsp :=
  let v := ofWordsLE m.body
  if m.opc = opcDATA_UC then .line (BitVec.ofNat 512 v) m.poison
  else if m.opc = opcAMO_DATA then .value (BitVec.ofNat 64 v) m.poison
  else if m.opc = opcNO_TARGET then .refused (v % 256)
  else .done (m.param.getLsbD 0)

/-- SCRIBE_RESPONSE_RETURN (R316): the response of the access that the core waits for. Where the device holds it, what it says
counts, and it does not pass an earlier one of its source (R157, R308). -/
def execScribeResponseReturn (core : Nat) (poison : Bool) (refused : Option Nat) (data : LineData) (s : State) :
    Host.Outcome State Fault Refusal :=
  onUnit nCores core (match (s.core core).wait with
    | some w =>
      let p := fun (m : Msg) => m.dst == s.scrAgent core && m.tag == (s.core core).waitTag && decide (0x40 ≤ m.opc)
      match s.heldMsg p with
      | some m =>
        if s.mustWait p m then s else clusterGo (finishWait (freeCoreTag (s.takeMsg p).1 (core / 8) m.tag) core w (rspOf m)) (core / 8)
      | none => clusterGo (finishWait (freeCoreTag s (core / 8) (s.core core).waitTag) core w (rspFor w poison refused data)) (core / 8)
    | none => s)

/-- STORE_ERR (R316): the refusal of a posted write, to the cores whose stores it held. A gather drain of that line is the
write that was refused. -/
def execStoreErr (c : Nat) (cores : BitVec 8) (addr : PA) (reason : BitVec 8) (s : State) : Host.Outcome State Fault Refusal :=
  onUnit nClusters c (match (s.cluster c).gather.find? fun e => e.line == addr.toNat / 64 && e.drain.isSome && e.cores == cores with
    | some e => coreResponse s c (e.drain.getD 0) (.refused reason.toNat)
    | none => clusterGo (storeErr s c cores addr reason.toNat) c)

end Sys2Proof.Machine
end

