-- ==== Sys2Proof/Machine/ScribeSys.lean ====
section
/-! DEFINITION. Scribe system instructions, tasks, events, waits, messages, disable and reset of clusters (R307, R310,
R317–R326, R331, R332, R347). -/
namespace Sys2Proof.Machine
open Config

/-! ## State registers (R293, R331, R332) -/

/-- The numbers of the state registers. -/
def stListed (k : BitVec 12) : Bool := decide (k.toNat ≤ 5) || (decide (0x10 ≤ k.toNat) && decide (k.toNat ≤ 0x18)) ||
  (decide (0x20 ≤ k.toNat) && decide (k.toNat ≤ 0x23))

/-- The content of a state register (R293, R331). -/
def stRead (s : State) (k : Nat) (x : Core) (r : Nat) : DWord :=
  let c := s.cluster (k / 8)
  if 0x10 ≤ r ∧ r < 0x18 then
    let w := x.win.getD ((r - 0x10) / 2) (0, 0)
    if r % 2 = 0 then w.1 else w.2
  else match r with
  | 0 => BitVec.ofNat 64 (b2n x.pl + 2 * b2n x.ppl + 4 * b2n x.hold + 8 * b2n x.msgw)
  | 1 => x.epc
  | 2 => x.cause
  | 3 => x.badaddr
  | 4 => x.tvec
  | 5 => x.scratch
  | 0x18 => x.slate
  | 0x20 => BitVec.ofNat 64 (c.msgHead.toNat + 2 ^ 8 * c.msgTail.toNat)
  | 0x21 => BitVec.ofNat 64 (k % 8 + 2 ^ 3 * (k / 8) + 2 ^ 7 * s.devNum)
  | 0x22 => s.tb.count
  | 0x23 => x.task
  | _ => 0

/-- The value with bits [1:0] clear (R331). -/
def word4 (v : DWord) : DWord := v &&& ~~~ 3

/-- A write of a state register, its writable bits (R331). -/
def stWrite (s : State) (k r : Nat) (v : DWord) : State :=
  match r with
  | 0 => s.modCore k fun x => { x with pl := v.getLsbD 0, ppl := v.getLsbD 1, hold := v.getLsbD 2, msgw := v.getLsbD 3 }
  | 1 => s.modCore k fun x => { x with epc := word4 v }
  | 2 => s.modCore k fun x => { x with cause := v }
  | 3 => s.modCore k fun x => { x with badaddr := v }
  | 4 => s.modCore k fun x => { x with tvec := word4 v }
  | 5 => s.modCore k fun x => { x with scratch := v }
  | 0x20 => s.modCluster (k / 8) fun c => { c with msgHead := v.setWidth 6 }
  | _ => s

/-- RDST (R331, R347). -/
def execRdst (core : Nat) (rd : BitVec 5) (k : BitVec 12) (s : State) : Host.Outcome State Fault Refusal :=
  onCore core s fun x =>
    if stListed k = false then .cause (illegal 0)
    else if x.pl = false ∧ k.toNat < 0x20 then .cause privCause
    else reg core fun y => y.setG rd (stRead s core x k.toNat)

/-- The cause of a WRST (R332). -/
def wrstCause (x : Core) (k : BitVec 12) : Option Cause :=
  if stListed k = false then some (illegal 0)
  else if x.pl = false ∧ k.toNat < 0x20 then some privCause
  else if k.toNat ≤ 5 ∨ k.toNat = 0x20 then none
  else some (illegal 0)

/-- WRST (R331, R332, R347): what it writes holds from the next instruction on. -/
def execWrst (core : Nat) (k : BitVec 12) (ra : BitVec 5) (s : State) : Host.Outcome State Fault Refusal :=
  onCore core s fun x =>
    match wrstCause x k with
    | some c => .cause c
    | none => .go fun s => stWrite (retire s core) core k.toNat (x.gr ra)

/-! ## Fences (R310) -/

/-- The core's nib data cache is invalidated. -/
def nibClear (s : State) (k : Nat) : State := s.modCore k fun x => { x with dnib := [] }

/-- FENCE.CORE: the store buffer is empty and the control-window access performed. -/
def fenceCore (s : State) (k : Nat) : State :=
  if (s.core k).sb.isEmpty && (s.core k).cwBusy.isNone then retire s k else s

/-- FENCE.CLUS: every store is in the gather buffer; then the nib data cache is invalidated. -/
def fenceClus (s : State) (k : Nat) : State := if (s.core k).sb.isEmpty then retire (nibClear s k) k else s

/-- FENCE.SYS: every store is performed at its home; then the nib data cache is invalidated. -/
def fenceSys (s : State) (k : Nat) : State :=
  if fenceDone s k then (retire (nibClear s k) k).count (36 + k / 8) 7 1 else fenceDrain s k

/-- FENCE.CORE (R310). A fence whose condition does not hold yet leaves the core at it. -/
def execFenceCore (core : Nat) (s : State) : Host.Outcome State Fault Refusal :=
  onCore core s fun _ => .go fun s => fenceCore s core

/-- FENCE.CLUS (R310). -/
def execFenceClus (core : Nat) (s : State) : Host.Outcome State Fault Refusal :=
  onCore core s fun _ => .go fun s => fenceClus s core

/-- FENCE.SYS (R310): starts the drains it waits for. -/
def execFenceSys (core : Nat) (s : State) : Host.Outcome State Fault Refusal :=
  onCore core s fun _ => .go fun s => fenceSys s core

/-! ## TRAP, ERET, WFD (R319, R322, R323, R347) -/

/-- TRAP: code 0 ends the task with g1 as its result; any other code raises TRAP, with EPC at the next instruction (R316). -/
def execTrap (core : Nat) (code : BitVec 8) (s : State) : Host.Outcome State Fault Refusal :=
  onCore core s fun x =>
    if code = 0 then .go fun s => endTask (retire s core) core .ok (x.gr 1) else .trap ⟨8, code.toNat, none⟩

/-- ERET (R319). -/
def execEret (core : Nat) (s : State) : Host.Outcome State Fault Refusal :=
  onCore core s fun x =>
    if x.pl = false then .cause privCause
    else .go fun s =>
      (retire s core).modCore core fun y => { y with pl := x.ppl, hold := false, pc := x.epc.setWidth 52 }

/-- WFD (R323): the core waits; what already holds ends the wait at once. -/
def execWfd (core : Nat) (rd ra : BitVec 5) (s : State) : Host.Outcome State Fault Refusal :=
  onCore core s fun x => .go fun s =>
    wfdCheck (s.modCore core fun y => { y with st := .wfd, wfdRd := rd.toNat, wfdTime := x.gr ra, wfdLate := false }) core false

/-- WFD_TIMEOUT (R323, R326): the grains of the timeout have passed; in Ember the core returns at the next wake. -/
def execWfdTimeout (core : Nat) (s : State) : Host.Outcome State Fault Refusal :=
  onUnit nCores core (
    let x := s.core core
    if x.st = .wfd ∧ x.wfdTime ≠ 0 then wfdCheck (s.modCore core fun y => { y with wfdLate := true }) core true else s)

/-! ## Events (R318, R322) -/

/-- An event at an instruction boundary: where the instruction at the PC raises FETCH there, the precise cause is taken and
the event stays (R353). -/
def boundary (s : State) (k : Nat) : State :=
  match fetchCause s (s.core k) with
  | some c => raiseCause s k c
  | none => checkForced (takeEvent s k) k

/-- EVENT_TAKEN (R318): at an instruction boundary, or in WFD. -/
def execEventTaken (core : Nat) (s : State) : Host.Outcome State Fault Refusal :=
  onUnit nCores core (
    let x := s.core core
    if eventDue x then
      if coreAwake s core then boundary s core
      else if x.st = .wfd ∧ s.domLit (44 + core / 8) = true ∧ s.boot.fatal = false then checkForced (takeEvent s core) core
      else s
    else s)

/-- GRACE_EXPIRE (R322): GRACE grains after the first ABORT or DISABLED the task is ended by force, unless its final wait
runs already. -/
def execGraceExpire (core : Nat) (s : State) : Host.Outcome State Fault Refusal :=
  onUnit nCores core (
    let x := s.core core
    if x.doom ≠ none ∧ x.st ≠ .idle ∧ x.ending = none then
      checkForced (s.modCore core fun y => { y with forced := true }) core
    else s)

/-- ILLEGAL_WORD (R334): a word that spells no instruction. -/
def execIllegalWord (core : Nat) (word : Word) (s : State) : Host.Outcome State Fault Refusal :=
  onCore core s fun _ => if (scribeDecode core word).isNone then .cause (illegal 0) else .go fun s => s

/-- INSTRUCTION_FETCH_FAULT (R316): the fetch raises FETCH: REGION and WINDOW where they hold (R297, R298), or the NO_TARGET (3)
or POISON (4) that came back. -/
def execInstructionFetchFault (core : Nat) (reason : BitVec 8) (s : State) : Host.Outcome State Fault Refusal :=
  onCore core s fun x =>
    if reason = 3 ∨ reason = 4 then .cause (fetchFault x.pc reason.toNat) else .go fun s => s

/-! ## Tasks (R320, R321) -/

/-- The inkwell is privileged (R321). -/
def inkPriv (s : State) (n : Nat) : Bool := s.bit (inkReg n 0) 1

/-- LAUNCH_RECORD (R320, R325, R375): a launch record reaches its cluster. A full or dark cluster takes none yet. -/
def launch (s : State) (c : Nat) (r : LaunchRec) : State :=
  let n := r.inkwell
  let i := r.index.toNat
  if s.boot.fatal then s
  else if s.clusterPresent c = false then finishDesc s n i .unitAbsent 2
  else if s.domLit (44 + c) = false then s.wake (44 + c)
  else if (s.cluster c).resetting then s
  else if s.bit (scrReg c 0) 0 = false ∨ (s.dom (44 + c)).commanded = some .cold then finishDesc s n i .disabled 0
  else if r.supervisor = true ∧ inkPriv s n = false then finishDesc s n i .privDenied 0
  else if 32 ≤ (s.cluster c).tasks.length then s
  else
    let s := modDesc (releaseEngine s n i) n i fun d => { d with phase := .inTask, engine := none }
    (s.modCluster c fun x => { x with tasks := x.tasks ++ [r] }).count 52 10 1

/-- LAUNCH_RECORD. -/
def execLaunchRecord (c : Nat) (r : LaunchRec) (s : State) : Host.Outcome State Fault Refusal := onUnit nClusters c (launch s c r)

/-- The mask admits core j (R320). -/
def admits (mask : Byte) (j : Nat) : Bool := mask == 0 || mask.getLsbD j

/-- Which record each idle core takes: the oldest record first, to the lowest idle core that it admits (R320). -/
def assign : List LaunchRec → List Nat → List (Nat × LaunchRec)
  | [], _ => []
  | r :: t, idle =>
    match idle.find? fun j => admits r.mask j with
    | some j => (j, r) :: assign t (idle.filter (· != j))
    | none => assign t idle

/-- An access window as a task takes it (R331). -/
def winCopy (s : State) (c n : Nat) : DWord × DWord :=
  let o := fun rel => (s.rd (scrReg c (0x40 + 0x10 * n + rel))).toNat
  (BitVec.ofNat 64 (o 0 / 4096 * 4096 + bitsOf (o 4) 0 20 * 2 ^ 32 + bitsOf (o 0xC) 31 1),
   BitVec.ofNat 64 (o 8 / 4096 * 4096 + bitsOf (o 0xC) 0 20 * 2 ^ 32 + bitsOf (o 0xC) 24 4))

/-- The state in which a core starts a task (R321). State registers that R321 does not name keep their values. -/
def startedCore (s : State) (c : Nat) (r : LaunchRec) (x : Core) : Core :=
  { (((({ x with g := [] }).setG 1 r.arg0).setG 2 r.arg1).setG 3 r.arg2).setG 4 r.arg3 with
    st := .running, pc := BitVec.ofNat 52 (r.entry.toNat / 4 * 4), w := [], pl := r.supervisor, hold := false, msgw := false,
    tvec := BitVec.ofNat 64 ((s.rd (scrReg c 0x20)).toNat / 4 * 4 + s.fld (scrReg c 0x24) 0 20 * 2 ^ 32),
    win := (List.range 4).map (winCopy s c),
    slate := BitVec.ofNat 64 (s.fld (scrReg c 0x28) 0 2 + s.fld (scrReg c 0x28) 20 12 * 2 ^ 20 + s.fld (scrReg c 0x2C) 0 20 * 2 ^ 32),
    task := BitVec.ofNat 64 (r.inkwell + 2 ^ 16 * r.index.toNat + 2 ^ 32 * b2n r.supervisor),
    inib := [], dnib := [], sb := [], resv := none, wait := none, cwBusy := none, posted := [], evDisabled := false,
    evAbort := false, evStore := [], doom := none, ending := none, forced := false, wfdLate := false }

/-- TASK_START (R320, R321): an idle core takes the record that is its own; a commanded Ember holds the queue (R325). -/
def taskStart (s : State) (k : Nat) : State :=
  let c := k / 8
  let x := s.cluster c
  let idle := (List.range 8).filter fun j => (s.core (8 * c + j)).st == .idle
  if s.clusterPresent c && s.domLit (44 + c) && !x.resetting && !s.boot.fatal && (s.dom (44 + c)).commanded != some .ember then
    match (assign x.tasks idle).find? fun a => a.1 == k % 8 with
    | some (_, r) =>
      let s := s.modCluster c fun x => { x with tasks := eraseFirst (· == r) x.tasks }
      if r.supervisor = true ∧ inkPriv s r.inkwell = false then finishDesc s r.inkwell r.index.toNat .privDenied 0
      else (s.modCore k (startedCore s c r)).count (36 + c) 12 1
    | none => s
  else s

/-- TASK_START. -/
def execTaskStart (core : Nat) (s : State) : Host.Outcome State Fault Refusal := onUnit nCores core (taskStart s core)

/-! ## Abort, knock, disable, enable, reset: what their register writes do (R318, R322, R323, R325) -/

/-- ABORT rises on the cores of a mask that run a task. -/
def abortCores (s : State) (c mask : Nat) : State :=
  (bitsSet 8 mask).foldl (fun s j =>
    let k := 8 * c + j
    if (s.core k).st = .idle then s.setFld (scrReg c 0xC) j 1 0
    else wfdCheck (s.modCore k fun x => { x with evAbort := true, doom := some (x.doom.getD .aborted) }) k false) s

/-- A knock for the cores whose bits are set. -/
def knockCores (s : State) (c : Nat) : State := (List.range 8).foldl (fun s j => wfdCheck s (8 * c + j) false) s

/-- Queued launch records complete with a status. -/
def dropTasks (s : State) (c : Nat) (st : Status) : State :=
  ((s.cluster c).tasks.foldl (fun s r => finishDesc s r.inkwell r.index.toNat st 0) s).modCluster c fun x => { x with tasks := [] }

/-- Disable (R325): DISABLED on every running task, queued records completed, and the buffers drain. -/
def clusterDisable (s : State) (c : Nat) : State :=
  clusterDrain ((List.range 8).foldl (fun s j =>
    let k := 8 * c + j
    if (s.core k).st = .idle then s
    else wfdCheck (s.modCore k fun x => { x with evDisabled := true, doom := some (x.doom.getD .disabled) }) k false)
    ((dropTasks s c .disabled).modCluster c fun x => { x with disabling := true })) c

/-- The disable is complete (R325): EN = 0, every core idle, both buffers empty. -/
def clusterQuiesced (s : State) (c : Nat) : Bool :=
  !s.bit (scrReg c 0) 0 && (s.cluster c).gather.isEmpty &&
  (List.range 8).all fun j => (s.core (8 * c + j)).st == .idle && (s.core (8 * c + j)).sb.isEmpty

/-- A running task ends with RESET, at once, its buffers discarded (R322, R325). -/
def resetCore (s : State) (k : Nat) : State :=
  let x := s.core k
  let s := if x.st = .idle then s
    else (finishDesc s (bitsOf x.task.toNat 0 10) (bitsOf x.task.toNat 16 16) .reset 0).count (36 + k / 8) 13 1
  coreIdle (s.modCore k fun x => { x with sb := [], cwBusy := none, posted := [], inib := [], dnib := [] }) k

/-- Cluster reset (R325): buffers discarded, tasks ended, reservations, slate and nib caches cleared, the claim released. -/
def clusterReset (s : State) (c : Nat) : State :=
  let s := (List.range 8).foldl (fun s j => resetCore s (8 * c + j)) (dropTasks s c .reset)
  let s := s.modCluster c fun x => { x with gather := [], slate := [], slateErr := [], resetting := true }
  match s.reg.claim with
  | .agent a => if a = mkAgent s.devNum (32 + c) then { s with reg := { s.reg with claim := .none } } else s
  | _ => s

/-- CLUSTER_RESET_COMPLETE (R325): the reset is over and RESET clears itself. -/
def execClusterResetComplete (c : Nat) (s : State) : Host.Outcome State Fault Refusal :=
  onUnit nClusters c (if (s.cluster c).resetting then
    (s.modCluster c fun x => { x with resetting := false }).setFld (scrReg c 0) 1 1 0 else s)

/-! ## The message ring (R324) -/

/-- A message for cluster c goes into its ring; false where the ring is full or off. -/
def ringPush (s : State) (c : Nat) (src : AgentId) (mbox : BitVec 3) (chan : BitVec 8) (payload : List Word) : State × Bool :=
  let x := s.cluster c
  let cfg := s.rd (scrReg c 0x30)
  if cfg.getLsbD 0 = false ∨ (x.msgTail - x.msgHead).toNat = 32 then (s, false)
  else
    let base := wfld cfg 12 7 * 4096 + 128 * (x.msgTail.toNat % 32)
    let hdr := src.toNat + 2 ^ 10 * mbox.toNat + 2 ^ 16 * chan.toNat + 2 ^ 24 * payload.length
    let s := slateWrite (slateWrite s c base 8 hdr) c (base + 8) (4 * payload.length) (ofWordsLE payload)
    let s := (s.modCluster c fun x => { x with msgTail := x.msgTail + 1 }).count (36 + c) 15 1
    (knockCores s c, true)

end Sys2Proof.Machine
end

