-- ==== Sys2Proof/Machine/Inkwell.lean ====
section
/-! DEFINITION. Inkwells and their engines (R356–R382): doorbells, fetch, data movement, completion. -/
namespace Sys2Proof.Machine
open Config

/-! ## Rings and pointers (R356, R357) -/

def State.engine (s : State) (e : Nat) : Engine := sget engineD s.engines e
def State.modEngine (s : State) (e : Nat) (f : Engine → Engine) : State := { s with engines := smod engineD s.engines e f }

/-- LOG2SIZE, and the ring size S (R356). -/
def inkLog (s : State) (n : Nat) : Nat := s.fld (inkReg n 0xC) 24 5
def inkSize (s : State) (n : Nat) : Nat := 2 ^ inkLog s n

/-- Difference of two ring pointers (R357). -/
def ringDiff (size a b : Nat) : Nat := (a + 2 * size - b % (2 * size)) % (2 * size)

/-- Base of the descriptor ring and of the completion ring. -/
def ringBase (s : State) (n : Nat) : Nat := (s.rd (inkReg n 8)).toNat / 64 * 64 + s.fld (inkReg n 0xC) 0 20 * 2 ^ 32
def cqBase (s : State) (n : Nat) : Nat := (s.rd (inkReg n 0x10)).toNat / 64 * 64 + s.fld (inkReg n 0x14) 0 20 * 2 ^ 32

/-- The window of 64 MiB at `w` overlaps the range. -/
def overlaps (w a len : Nat) : Bool := decide (a < (w + 1) * 2 ^ 26) && decide (w * 2 ^ 26 < a + len)

/-- A range touches a control window (R370). -/
def touchesCw (s : State) (a len : Nat) : Bool :=
  decide (0 < len) && (overlaps (s.fld (bootReg 0x18) 0 26) a len ||
    (List.range 16).any fun d => (s.routePort d).isSome && s.bit (dirReg (0x1008 + 0x10 * d)) 31 &&
      overlaps (s.fld (dirReg (0x1008 + 0x10 * d)) 0 26) a len)

/-! ## Errors, halt (R377, R380) -/

/-- An INK_ERR bit with its INFO (R428). -/
def inkErr (s : State) (n bit slot : Nat) : State :=
  s.setErr (inkReg n 0x2C) bit 0x60 (w32 (n + (if 3 ≤ bit then 2 ^ 16 * slot else 0)))

/-- An inkwell halts with an error bit, the index and the reason (R380). -/
def haltInk (s : State) (n bit slot reason : Nat) : State :=
  let s := (inkErr s n bit slot).wr (inkReg n 0x30) (w32 (slot + 2 ^ 16 * reason))
  ((s.modInk n fun x => { x with halted := true }).setFld (inkReg n 0) 0 1 0).count 52 13 1

/-- A fetch of the inkwell is on its way. -/
def inkFetching (s : State) (n : Nat) : Bool :=
  (List.range nEngines).any fun e => match (s.engine e).fetch with
    | some (m, _) => m == n
    | none => false

/-- QUIESCED (R379, R380): nothing fetched remains, and no fetch is on its way. -/
def inkQuiesced (s : State) (n : Nat) : Bool :=
  (!s.bit (inkReg n 0) 0 || (s.ink n).halted) && (s.ink n).descs.isEmpty && !inkFetching s n

/-! ## Doorbells (R361, R362) -/

/-- TAIL is written (R362). -/
def writeTail (s : State) (n v : Nat) : State :=
  let x := s.ink n
  let sz := inkSize s n
  if v < 2 * sz ∧ ringDiff sz v x.head ≤ sz ∧ ringDiff sz x.tail x.head ≤ ringDiff sz v x.head then
    (s.modInk n fun x => { x with tail := v }).count 52 0 1
  else (inkErr s n 0 0).count 52 1 1

/-- CQ_HEAD is written (R362). -/
def writeCqHead (s : State) (n v : Nat) : State :=
  let x := s.ink n
  let sz := inkSize s n
  if v < 2 * sz ∧ ringDiff sz x.cqTail v ≤ ringDiff sz x.cqTail x.cqHead then
    (s.modInk n fun x => { x with cqHead := v }).count 52 0 1
  else (inkErr s n 0 0).count 52 1 1

/-! ## What a descriptor asks for (R371, R372) -/

/-- The work of an engine: operation, addresses, length or count, LIST, RES, KIND or COND, PATTERN or SEED, the inkwell and
slot, the privilege attribute, and whether a CX command gives it. -/
structure Work where
  opc : Nat
  src : Nat
  dst : Nat
  len : Nat
  list : Nat
  res : Nat
  kind : Nat
  pat : DWord
  n : Nat
  slot : Nat
  priv : Bool
  cx : Bool
  deriving DecidableEq, Repr

/-- A field of a descriptor: bytes lo .. lo+w-1. -/
def dfld (d : LineData) (lo w : Nat) : Nat := lineBytes d lo w
def daddr (d : LineData) (lo : Nat) : Nat := dfld d lo 8 % 2 ^ 52

/-- The work that a descriptor names (R372). -/
def workOf (s : State) (n slot : Nat) (d : LineData) : Work :=
  let opc := dfld d 0 1
  let w : Work := { opc := opc, src := daddr d 8, dst := daddr d 16, len := dfld d 24 4, list := daddr d 8, res := daddr d 16,
                    kind := dfld d 28 1, pat := BitVec.ofNat 64 (dfld d 32 8), n := n, slot := slot, priv := inkPriv s n, cx := false }
  if opc = 7 then { w with list := daddr d 16 } else w

/-- Size of a list entry (R373). -/
def entrySize (opc : Nat) : Nat := if opc = 8 then 32 else if opc = 9 then 8 else 16

def isList (opc : Nat) : Bool := opc == 6 || opc == 7 || opc == 8 || opc == 9

/-- The checks of R372; false is BAD_DESC. -/
def descOk (w : Work) (d : LineData) : Bool :=
  let fits := fun (a : Nat) => decide (a + w.len ≤ 2 ^ 52)
  match w.opc with
  | 1 => (decide (w.src + w.len ≤ w.dst) || decide (w.dst + w.len ≤ w.src) || w.len == 0) && fits w.src && fits w.dst
  | 2 | 3 => fits w.dst
  | 4 => fits w.src && fits w.dst
  | 5 => decide (w.kind ≤ 2) && (w.kind != 2 || w.len % 32 == 0)
  | 6 | 7 => w.list % 16 == 0 && decide (w.len ≤ 65536)
  | 8 => w.list % 32 == 0 && w.res % 8 == 0 && decide (w.len ≤ 65536)
  | 9 => w.list % 8 == 0 && decide (w.len ≤ 65536)
  | 11 => let k := dfld d 20 1
          daddr d 8 % 8 == 0 && k % 2 == 0 && decide (2 ≤ k) && decide (k ≤ 16)
  | 12 => daddr d 8 % 8 == 0 && decide (dfld d 32 1 ≤ 3)
  | _ => true

/-- The ranges that are checked before any request: data ranges, then LIST, RES and PAYLOAD (R370). -/
def dataRanges (w : Work) : List (Nat × Nat) :=
  match w.opc with
  | 1 | 4 => [(w.src, w.len), (w.dst, w.len)]
  | 2 | 3 => [(w.dst, w.len)]
  | 5 => [(w.src, w.len)]
  | _ => []
def sideRanges (w : Work) (d : LineData) : List (Nat × Nat) :=
  match w.opc with
  | 6 | 7 | 9 => [(w.list, w.len * entrySize w.opc)]
  | 8 => [(w.list, w.len * 32), (w.res, if w.res = 0 then 0 else 8 * w.len)]
  | 11 => [(daddr d 8, 4 * dfld d 20 1)]
  | _ => []

/-- The result of an operation over an empty range (R372). -/
def crcInit (w : Work) : DWord := if w.kind = 0 then crcStart false w.pat else w.pat
def emptyResult (w : Work) : DWord := if w.opc = 4 then BitVec.allOnes 64 else if w.opc = 5 then crcInit w else 0

/-- RESULT of a failure (R370, R373, R376). -/
def failResult (f : Fail) : DWord := BitVec.ofNat 64 (f.reason + 2 ^ 8 * b2n f.side + 2 ^ 32 * (f.at_ % 2 ^ 32))

/-- A refusal as a failure: UNIT_ABSENT for that reason, else NO_TARGET (R370). -/
def refusal (reason : Nat) (side : Bool) (at_ : Nat) : Fail := ⟨if reason = 2 then .unitAbsent else .noTarget, reason, side, at_⟩
def poisoned (side : Bool) (at_ : Nat) : Fail := ⟨.poisoned, 0, side, at_⟩

/-- Poison does not stop this operation: it copies (R370). -/
def carriesPoison (opc : Nat) : Bool := opc == 1 || opc == 6 || opc == 7

/-- Of two failures the one reported: of an operation that carries poison on, a refusal before poison; then the lower place or
the lower entry (R370, R373). -/
def worse (opc : Nat) (f : Option Fail) (g : Fail) : Fail :=
  match f with
  | none => g
  | some f =>
    if carriesPoison opc = true ∧ f.st = .poisoned ∧ g.st ≠ .poisoned then g
    else if carriesPoison opc = true ∧ f.st ≠ .poisoned ∧ g.st = .poisoned then f
    else if f.side = g.side ∧ g.at_ < f.at_ then g else f

/-! ## Requests of an engine (R366, R369) -/

def engAgent (s : State) (e : Nat) : AgentId := mkAgent s.devNum (48 + e)

/-- The number of an engine's next tag: the first that is not in use (R142). -/
def Engine.nextNum (x : Engine) : Nat := freeTag (BitVec.ofNat 12) x.tags 4096 x.tags.length x.tagCtr

/-- The engine takes its next tag. -/
def Engine.takeTag (x : Engine) : Engine :=
  { x with tagCtr := (x.nextNum + 1) % 4096, tags := BitVec.ofNat 12 x.nextNum :: x.tags }

/-- A request of engine e: tag, spine, blotter (R405). -/
def engSend (s : State) (e : Nat) (w : Work) (opc param : Nat) (a : Nat) (poison : Bool) (body : List Word) : State × Tag :=
  let tag : Tag := BitVec.ofNat 12 (s.engine e).nextNum
  let m := reqMsg (engAgent s e) tag opc w.priv param (BitVec.ofNat 52 a) poison body
  let s := (s.modEngine e Engine.takeTag).putReq m
  let s := if opc = opcRD_UC then s.count 52 6 1 else if opc = opcAMO then s.count 52 8 1
    else if opc = opcMAINT then s.count 52 9 1 else s.count 52 7 1
  (if s.bit (telReg 0x8200) 8 then blotAdmit s (followOf s 3 e (w.n + 2 ^ 16 * w.slot) 0 m) else s, tag)

/-- An uncached line read. -/
def readLine (s : State) (e : Nat) (w : Work) (line : Nat) : State × Tag := engSend s e w opcRD_UC 6 (line * 64) false []

/-- Write len bytes (at most to the end of the line) with value v: a full line, zeros of a ZERO, or a partial write (R369). -/
def writePiece (s : State) (e : Nat) (w : Work) (a len v : Nat) (poison : Bool) : State × Tag :=
  let a := a % 2 ^ 52
  if len = 64 then
    if w.opc = 3 then engSend s e w opcZERO_LINE 0 a false []
    else engSend s e w opcWR_LINE 0 a poison (wordsLE 16 v)
  else engSend s e w opcWR_PART 0 (a / 64 * 64) poison (partBody (byteMask (a % 64) len) (putLine 0 (a % 64) len v))

/-- Requests in flight of an engine. -/
def inFlight (x : Engine) : Nat :=
  x.jobs.foldl (fun a j => a + (j.reads.filter fun r => r.2.2.isNone).length + b2n j.wr.isSome) (b2n x.listRd.isSome)

/-- A line read of a job: its tag, its line, the data once returned. -/
abbrev LineRead := Tag × Nat × Option (LineData × Bool)

/-- The read of a line: the one that the piece before it has made, or a new one (R369). -/
def shareLine (s : State) (e : Nat) (w : Work) (line : Nat) (before : Option LineRead) : State × LineRead :=
  match before.filter fun r => r.2.1 == line with
  | some r => (s, r)
  | none =>
    let (s, t) := readLine s e w line
    (s, (t, line, none))

/-- Read n bytes at a (one or two lines), as the reads of a job. -/
def readBytes (s : State) (e : Nat) (w : Work) (a n : Nat) : State × List LineRead :=
  let a := a % 2 ^ 52
  let (s, r) := shareLine s e w (a / 64) (s.engine e).last.getLast?
  if a % 64 + n ≤ 64 then (s.modEngine e fun x => { x with last := [r] }, [r])
  else
    let (s, q) := shareLine s e w ((a / 64 + 1) % 2 ^ 46) none
    (s.modEngine e fun x => { x with last := [r, q] }, [r, q])

/-- The n bytes at a from the lines read. -/
def gotBytes (a n : Nat) (l : List (Tag × Nat × Option (LineData × Bool))) : Nat :=
  let o := a % 64
  match l with
  | [(_, _, some (d, _))] => lineBytes d o n
  | [(_, _, some (d, _)), (_, _, some (f, _))] => lineBytes d o (64 - o) + 2 ^ (8 * (64 - o)) * lineBytes f 0 (n - (64 - o))
  | _ => 0

/-! ## Work in progress -/

/-- The work of engine e: its descriptor's, or the CX command's (R510). -/
def engWork (s : State) (e : Nat) : Option (Work × LineData) :=
  match (s.engine e).work with
  | some (n, slot) => (descOf s n slot).bind fun d => if isDone d then none else some (workOf s n slot d.raw, d.raw)
  | none =>
    if e = 0 then s.cx.run.bind fun r =>
      let arg := fun i => (r.args.getD i 0).toNat
      let addr := fun i => (arg i + 2 ^ 32 * arg (i + 1)) % 2 ^ 52
      let w : Work := { opc := wfld r.hdr 0 8, src := 0, dst := 0, len := 0, list := 0, res := 0, kind := 0, pat := 0, n := 0,
                        slot := 0, priv := true, cx := true }
      match wfld r.hdr 0 8 with
      | 1 => some ({ w with src := addr 0, dst := addr 2, len := arg 4 }, 0)
      | 2 => some ({ w with dst := addr 0, len := arg 2, pat := BitVec.ofNat 64 (arg 3 * (2 ^ 32 + 1)) }, 0)
      | 3 => some ({ w with opc := 0x103, src := addr 0 / 64 * 64, len := if arg 2 = 0 then 0
                        else (addr 0 + arg 2 - 1) / 64 - addr 0 / 64 + 1, kind := arg 3 % 4 }, 0)
      | _ => none
    else none

/-- Issue has stopped (R370): on any failure, but for poison that a copy carries on. -/
def stopped (w : Work) (x : Engine) : Bool :=
  match x.fail with
  | none => false
  | some f => !(f.st == .poisoned && !f.side && carriesPoison w.opc)

/-- Everything of the work has been issued. -/
def allIssued (w : Work) (x : Engine) : Bool :=
  if isList w.opc then
    decide (w.len ≤ x.next) && x.elems.isEmpty && (match x.elem with | some (_, l, i) => decide (l ≤ i) | none => true)
  else if w.opc = 11 then decide (0 < x.pos)
  else decide (w.len ≤ x.pos)

/-- The work is over: nothing in flight, and all issued or issue stopped. -/
def workOver (w : Work) (x : Engine) : Bool := x.jobs.isEmpty && x.listRd.isNone && (stopped w x || allIssued w x)

/-- RESULT of completed work (R372, R373). -/
def okResult (w : Work) (x : Engine) : DWord :=
  match w.opc with
  | 4 => match x.diff with
    | some o => BitVec.ofNat 64 o
    | none => BitVec.allOnes 64
  | 5 => x.crc
  | 6 | 7 => BitVec.ofNat 64 x.pos
  | 8 | 9 => BitVec.ofNat 64 x.next
  | _ => 0

/-- All reads of a job are back. -/
def readsIn (j : Job) : Bool := j.reads.all fun r => r.2.2.isSome

/-- Where issue has stopped, data that is here goes nowhere: only jobs with an access that has not returned remain (R368, R370). -/
def sweepJobs (w : Work) (x : Engine) : Engine :=
  if stopped w x then { x with jobs := x.jobs.filter fun j => j.wr.isSome || !readsIn j } else x

/-- Complete the descriptor of engine e where its work is over (R368). CX commands wait for CX_COMMAND_COMPLETE; a MSG for
its answer. -/
def engineGo (s : State) (e : Nat) : State :=
  match engWork s e with
  | some (w, _) =>
    let s := s.modEngine e (sweepJobs w)
    let x := s.engine e
    if w.cx = true ∨ workOver w x = false ∨ w.opc = 12 ∨ w.opc = 10 then s
    else match x.fail with
      | some f => finishDesc s w.n w.slot f.st (failResult f)
      | none => if w.opc = 11 then s else finishDesc s w.n w.slot .ok (okResult w x)
  | none => s

/-- A failure of the engine's work. -/
def noteFail (s : State) (e : Nat) (w : Work) (f : Fail) : State := s.modEngine e fun x => { x with fail := some (worse w.opc x.fail f) }

/-- Put a job at the end of the engine's list. -/
def addJob (s : State) (e : Nat) (j : Job) : State := s.modEngine e fun x => { x with jobs := x.jobs ++ [j] }

/-- The value of the pattern bytes that fill a piece at offset off (R372). -/
def patternValue (pat : DWord) (off n : Nat) : Nat :=
  ofBytesLE ((List.range n).map fun i => BitVec.ofNat 8 (pat.toNat / 2 ^ (8 * ((off + i) % 8))))

/-! ## Responses to an engine (R368–R374) -/

/-- A read of a job returned poison. -/
def readsPoison (j : Job) : Bool := j.reads.any fun r => match r.2.2 with | some (_, p) => p | none => false

/-- Replace or remove a job. -/
def setJob (s : State) (e : Nat) (j j2 : Job) : State := s.modEngine e fun x => { x with jobs := x.jobs.map fun q => if q = j then j2 else q }
def dropJob (s : State) (e : Nat) (j : Job) : State := s.modEngine e fun x => { x with jobs := eraseFirst (· == j) x.jobs }

/-- Lanes of 64 bits of bytes, for the hash. -/
def lanes64 : List Byte → Nat → List DWord
  | _, 0 => []
  | l, n + 1 => BitVec.ofNat 64 (ofBytesLE (l.take 8)) :: lanes64 (l.drop 8) n

/-- The CRC or hash over further bytes (R350, R372). -/
def crcMore (kind : Nat) (c : DWord) (l : List Byte) : DWord :=
  if kind = 2 then hashStep c (lanes64 l (l.length / 8)) else crcMoreBytes (if kind = 1 then crcPoly64 else crcPoly32) c l

/-- Further bytes of a CRC: with those of a hash that wait for the rest of their eight. -/
def crcTake (w : Work) (x : Engine) (l : List Byte) : Engine :=
  let l := x.rest ++ l
  let n := if w.kind = 2 then l.length / 8 * 8 else l.length
  { x with crc := crcMore w.kind x.crc (l.take n), rest := l.drop n }

/-- CRC jobs are taken in address order as far as their data is here. -/
def crcHeads (w : Work) : List Job → Engine → Engine
  | [], x => { x with jobs := [] }
  | j :: t, x => if readsIn j then crcHeads w t (crcTake w x (bytesLE j.len (gotBytes j.src j.len j.reads))) else { x with jobs := j :: t }

/-- The first byte in which two values of n bytes differ. -/
def firstDiff (a b n : Nat) : Option Nat := (List.range n).find? fun i => bitsOf a (8 * i) 8 != bitsOf b (8 * i) 8

/-- Send the message of a MSG descriptor once its payload is here (R372, R365): the engine is then free. -/
def sendMsg (s : State) (e : Nat) (w : Work) (d : LineData) (v : Nat) : State :=
  let k := dfld d 20 1
  let tag : Tag := BitVec.ofNat 12 (s.engine e).nextNum
  let m : Msg := { opc := opcAGENT_MSG, vc := vcOf opcAGENT_MSG, src := engAgent s e, dst := BitVec.ofNat 10 (dfld d 16 2), tag := tag,
                   priv := false, hop := false, poison := false, param := 0, addr := 0,
                   body := w32 (dfld d 18 1 % 8 + 2 ^ 8 * dfld d 19 1) :: wordsLE k v }
  let s := (s.modEngine e Engine.takeTag).count 52 11 1
  let s := s.hold m none false
  modDesc (freeEngine s e) w.n w.slot fun x => { x with phase := .msgSent, msgTag := some tag }

/-- The values that byte a may have where the descriptor also writes (R372): those of its writes so far. -/
def writtenAt (l : List (Nat × Nat × Nat)) (a : Nat) : List Nat :=
  l.filterMap fun r => if r.1 ≤ a ∧ a < r.1 + r.2.1 then some (bitsOf r.2.2 (8 * (a - r.1)) 8) else none

/-- Bytes a .. a+n-1 that the descriptor has written: bit i for byte a+i. -/
def coveredBytes (l : List (Nat × Nat × Nat)) (a n : Nat) : Nat :=
  (List.range n).foldl (fun m i => if (writtenAt l (a + i)).isEmpty then m else m + 2 ^ i) 0

/-- Bytes read at a: one that the descriptor has also written is the byte read or what one of its writes put there, chosen
freely for each byte (R372, log entry 53). -/
def mixReads (s : State) (e a n v : Nat) : State × Nat :=
  let l := (s.engine e).wrote
  if coveredBytes l a n = 0 then (s, v)
  else
    let (s, f) := s.free
    (s, ofBytesLE ((List.range n).map fun i =>
      let c := bitsOf v (8 * i) 8 :: writtenAt l (a + i)
      BitVec.ofNat 8 (c.getD (bitsOf f.toNat (8 * i) 8 % c.length) 0)))

/-- The descriptor writes n bytes of value v at a. -/
def noteWrite (s : State) (e a n v : Nat) : State := s.modEngine e fun x => { x with wrote := (a, n, v) :: x.wrote }

/-- Write a piece of a SCATTER. A byte that it writes twice keeps either value (R372): a free mask leaves bytes of the later
write out (log entry 53). -/
def writeElement (s : State) (e : Nat) (w : Work) (src dst n v : Nat) (poison : Bool) : State × Tag :=
  let (s, v) := mixReads s e src n v
  let wr := coveredBytes (s.engine e).wrote dst n
  let s := noteWrite s e dst n v
  if wr = 0 then writePiece s e w dst n v poison
  else
    let (s, g) := s.free
    let keep := byteMask 0 n &&& ~~~ (BitVec.ofNat 64 wr &&& g.setWidth 64)
    let a := dst % 2 ^ 52
    engSend s e w opcWR_PART 0 (a / 64 * 64) poison (partBody (keep <<< (a % 64)) (putLine 0 (a % 64) n v))

/-- Bytes of a GATHER are here: they wait until their destination line is whole, which is then written (R369). -/
def gatherPiece (s : State) (e : Nat) (w : Work) (j : Job) : State :=
  let (s, v) := mixReads s e j.src j.len (gotBytes j.src j.len j.reads)
  let x := s.engine e
  let lo := j.dst / 64 * 64 - w.dst
  let hi := min (j.dst / 64 * 64 + 64 - w.dst) x.total
  let mine := fun (g : Nat × Nat × Nat × Bool) => decide (lo ≤ g.1) && decide (g.1 < hi)
  let all := (j.off, j.len, v, readsPoison j) :: x.gath
  let got := all.filter mine
  if got.foldl (fun n g => n + g.2.1) 0 < hi - lo then s.modEngine e fun x => { x with gath := all }
  else
    let v := got.foldl (fun v g => v + 2 ^ (8 * (g.1 - lo)) * g.2.2.1) 0
    let s := noteWrite (s.modEngine e fun x => { x with gath := all.filter fun g => !mine g }) e (w.dst + lo) (hi - lo) v
    let (s, t) := writePiece s e w (w.dst + lo) (hi - lo) v (got.any fun g => g.2.2.2)
    addJob s e ⟨lo, 0, w.dst + lo, hi - lo, [], some t, false⟩

/-- The data of a piece of a COPY, GATHER or SCATTER is here: it is written. -/
def pieceHere (s : State) (e : Nat) (w : Work) (j : Job) : State :=
  let v := gotBytes j.src j.len j.reads
  if w.opc = 6 then gatherPiece s e w j
  else
    let (s, t) := if w.opc = 7 then writeElement s e w j.src j.dst j.len v (readsPoison j)
      else writePiece s e w j.dst j.len v (readsPoison j)
    addJob s e { j with wr := some t }

/-- A job waits for the read with a tag. -/
def hasRead (tag : Tag) (j : Job) : Bool := j.reads.any fun q => q.1 == tag && q.2.2.isNone

/-- The read with a tag is back. -/
def fillReads (tag : Tag) (v : LineData × Bool) (l : List LineRead) : List LineRead :=
  l.map fun q => if q.1 = tag ∧ q.2.2.isNone = true then (q.1, q.2.1, some v) else q

/-- Where in its range the line read with a tag begins, for a job that waits for it: the first byte of it that the range
holds (R370). -/
def readPlace (w : Work) (tag : Tag) (j : Job) : Nat :=
  j.off + (if j.reads.findIdx? (fun q => q.1 == tag && q.2.2.isNone) = some 1 ∧ w.opc ≠ 4 then 64 - j.src % 64 else 0)

/-- A read of a job is back: the job goes on once all its reads are, unless issue has stopped. -/
def jobRead (s : State) (e : Nat) (w : Work) (d : LineData) (j : Job) : State :=
  if stopped w (s.engine e) = true ∨ readsIn j = false then s
  else match w.opc with
    | 1 | 6 | 7 => pieceHere (dropJob s e j) e w j
    | 4 =>
      let v := match j.reads with
        | [(_, _, some (a, _)), (_, _, some (b, _))] => firstDiff (lineBytes a (j.src % 64) j.len) (lineBytes b (j.dst % 64) j.len) j.len
        | _ => none
      let s := dropJob s e j
      match v with
      | some o => s.modEngine e fun x => { x with diff := some (match x.diff with | some q => min q (j.off + o) | none => j.off + o) }
      | none => s
    | 5 => s.modEngine e fun x => crcHeads w x.jobs x
    | 11 => sendMsg (dropJob s e j) e w d (gotBytes j.src j.len j.reads)
    | _ => s

/-- The read with a tag is back: every piece that shares the line has it (R369), and the first of them says where a failure
is. -/
def readBack (s : State) (e : Nat) (w : Work) (tag : Tag) (j : Job) (r : Rsp) : State :=
  let v : LineData × Bool := match r with
    | .line data p => (data, p)
    | _ => (0, false)
  let s := s.modEngine e fun x =>
    { x with jobs := x.jobs.map fun j => { j with reads := fillReads tag v j.reads }, last := fillReads tag v x.last }
  match r with
  | .refused k => noteFail s e w (refusal k (w.opc == 11) (readPlace w tag j))
  | _ => if v.2 then noteFail s e w (poisoned (w.opc == 11) (readPlace w tag j)) else s

/-- A write, atomic or maintenance request of a job is back. -/
def jobDone (s : State) (e : Nat) (w : Work) (j : Job) (r : Rsp) : State :=
  match r with
  | .refused n => noteFail (dropJob s e j) e w (refusal n j.res (if j.res then 8 * j.off else j.off))
  | .value v p =>
    if p then noteFail (dropJob s e j) e w (poisoned false j.off)
    else if w.res = 0 then dropJob s e j
    else
      let x : DWord := if j.len = 4 then (v.setWidth 32).signExtend 64 else v
      let (s, t) := writePiece s e w (w.res + 8 * j.off) 8 x.toNat false
      setJob s e j { j with wr := some t, res := true }
  | _ => dropJob s e j

/-! ## Issue (R369, R372, R373) -/

/-- Move one piece: from a source address to a destination address, by the destination's lines (R369). Where the piece before
has read all of it, it is written at once. -/
def movePiece (s : State) (e : Nat) (w : Work) (src dst room : Nat) : State × Nat :=
  let n := min (64 - dst % 64) room
  let off := (s.engine e).pos
  let (s, r) := readBytes s e w src n
  let s := s.modEngine e fun x => { x with pos := x.pos + n }
  let j : Job := ⟨off, src, dst, n, r, none, false⟩
  (if readsIn j then pieceHere s e w j else addJob s e j, n)

/-- The list entry `next`, or the read of its line (R373): the entry's value, once its line is here. -/
def listEntry (s : State) (e : Nat) (w : Work) : State × Option Nat :=
  let x := s.engine e
  let sz := entrySize w.opc
  let a := (w.list + sz * x.next) % 2 ^ 52
  match x.list with
  | some (l, d) =>
    if l = a / 64 then (s, some (lineBytes d (a % 64) sz))
    else if x.listRd.isSome then (s, none)
    else let (s, t) := readLine s e w (a / 64)
         (s.modEngine e fun x => { x with listRd := some (t, a / 64) }, none)
  | none =>
    if x.listRd.isSome then (s, none)
    else let (s, t) := readLine s e w (a / 64)
         (s.modEngine e fun x => { x with listRd := some (t, a / 64) }, none)

/-- One issue of a data-range operation: COPY, FILL, ZERO, COMPARE, CRC, MAINT_RANGE. -/
def issueRange (s : State) (e : Nat) (w : Work) : State :=
  let x := s.engine e
  let p := x.pos
  let left := w.len - p
  match w.opc with
  | 1 => (movePiece s e w (w.src + p) (w.dst + p) left).1
  | 2 | 3 =>
    let a := w.dst + p
    let n := min (64 - a % 64) left
    let (s, t) := writePiece s e w a n (if w.opc = 3 then 0 else patternValue w.pat p n) false
    addJob (s.modEngine e fun x => { x with pos := x.pos + n }) e ⟨p, 0, a, n, [], some t, false⟩
  | 4 =>
    let n := min (min (64 - (w.src + p) % 64) (64 - (w.dst + p) % 64)) left
    let (s, r) := shareLine s e w ((w.src + p) / 64) x.last[0]?
    let (s, q) := shareLine s e w ((w.dst + p) / 64) x.last[1]?
    addJob (s.modEngine e fun x => { x with pos := x.pos + n, last := [r, q] }) e ⟨p, w.src + p, w.dst + p, n, [r, q], none, false⟩
  | 5 =>
    let n := min (64 - (w.src + p) % 64) left
    let (s, r) := readBytes s e w (w.src + p) n
    addJob (s.modEngine e fun x => { x with pos := x.pos + n }) e ⟨p, w.src + p, 0, n, r, none, false⟩
  | _ =>
    let (s, t) := engSend s e w opcMAINT w.kind (w.src + 64 * p) false []
    addJob (s.modEngine e fun x => { x with pos := x.pos + 1 }) e ⟨p, 0, w.src + 64 * p, 0, [], some t, false⟩

/-- Take the next entry of the list (R373): an atomic or maintenance request, or an element. The words that an operation of
its size, or one other than CAS, does not use are zero in the AMO (R147). Once the whole list of elements is
here, the contiguous range of a GATHER or SCATTER is checked (R370). -/
def takeEntry (s : State) (e : Nat) (w : Work) : State :=
  match listEntry s e w with
  | (s, none) => s
  | (s, some v) =>
    let i := (s.engine e).next
    let s := s.modEngine e fun x => { x with next := x.next + 1 }
    match w.opc with
    | 8 =>
      let op := bitsOf v (8 * 24) 4
      let n := if op / 8 = 1 then 8 else 4
      let (s, t) := engSend s e w opcAMO op (v % 2 ^ 52) false
        (amoBody (BitVec.ofNat 64 (bitsOf v 64 (8 * n))) (BitVec.ofNat 64 (if op % 8 = 2 then bitsOf v 128 (8 * n) else 0)))
      addJob s e ⟨i, 0, 0, n, [], some t, false⟩
    | 9 =>
      let (s, t) := engSend s e w opcMAINT (v % 4) (v % 2 ^ 52 / 64 * 64) false []
      addJob s e ⟨i, 0, 0, 0, [], some t, false⟩
    | _ =>
      let l := bitsOf v 64 32
      let s := s.modEngine e fun x => { x with elems := x.elems ++ [(v % 2 ^ 52, l)], total := x.total + l }
      if w.len ≤ i + 1 ∧ touchesCw s (if w.opc = 6 then w.dst else w.src) (s.engine e).total = true then
        noteFail s e w (refusal 4 false 0)
      else s

/-- Begin the next element, which is checked before its first access (R370). The lines of a GATHER's elements are each
element's own. -/
def nextElem (s : State) (e : Nat) (w : Work) : State :=
  match (s.engine e).elems with
  | (a, l) :: t =>
    if touchesCw s a l then noteFail s e w (refusal 4 false (s.engine e).pos)
    else s.modEngine e fun x => { x with elem := some (a, l, 0), elems := t, last := if w.opc = 6 then [] else x.last }
  | [] => s

/-- One issue of a list operation: a piece of the element in hand, else the next entry, else the next element (R372, R373). -/
def issueList (s : State) (e : Nat) (w : Work) : State :=
  let x := s.engine e
  let go := if x.next < w.len then takeEntry s e w else nextElem s e w
  match x.elem with
  | some (a, l, i) =>
    if i < l then
      let (s, n) := if w.opc = 6 then movePiece s e w (a + i) (w.dst + x.pos) (l - i)
        else movePiece s e w (w.src + x.pos) (a + i) (l - i)
      s.modEngine e fun x => { x with elem := some (a, l, i + n) }
    else go
  | none => go

/-- One issue of engine e's work, of an operation with this code, while it may issue (R366: 64 line requests in flight). -/
def issue1 (s : State) (e opc : Nat) : State :=
  match engWork s e with
  | some (w, _) =>
    let x := s.engine e
    if w.opc ≠ opc ∨ s.boot.fatal = true ∨ s.domLit 60 = false ∨ stopped w x = true ∨ allIssued w x = true ∨ 63 ≤ inFlight x then s
    else if isList w.opc then engineGo (issueList s e w) e else engineGo (issueRange s e w) e
  | none => s

/-! ## WAIT (R374) -/

/-- The condition of a WAIT holds. -/
def waitMeets (d : LineData) (v : DWord) : Bool :=
  let a := v &&& BitVec.ofNat 64 (dfld d 24 8)
  let b := BitVec.ofNat 64 (dfld d 16 8)
  match dfld d 32 1 with
  | 0 => a == b
  | 1 => a != b
  | 2 => b.ule a
  | _ => a.ult b

/-- A poll of a WAIT: its read goes out. -/
def pollRead (s : State) (e n slot : Nat) (d : LineData) : State :=
  let (s, t) := engSend s e (workOf s n slot d) opcRD_UC 3 (daddr d 8) false []
  (modDesc (s.modEngine e fun x => { x with work := some (n, slot), listRd := some (t, 0) }) n slot fun x =>
    { x with phase := .polling, engine := some e }).count 52 12 1

/-- The read of a poll is back. -/
def pollBack (s : State) (e : Nat) (w : Work) (desc : Desc) (r : Rsp) : State :=
  match r with
  | .refused n => finishDesc s w.n w.slot (refusal n false 0).st (failResult (refusal n false 0))
  | .line data p =>
    let v : DWord := data.setWidth 64
    if p then finishDesc s w.n w.slot .poisoned (failResult (poisoned false 0))
    else if waitMeets desc.raw v then finishDesc s w.n w.slot .ok v
    else if desc.expired then finishDesc s w.n w.slot .timeout v
    else modDesc (freeEngine s e) w.n w.slot fun x =>
      { x with phase := .wantPoll, engine := none, value := v, polledAt := s.tb.count }
  | _ => s

/-! ## Start and fetch (R364–R367, R371) -/

/-- A fetched descriptor starts on engine e (R371, R372, R370): checks, empty ranges, control windows. -/
def startDesc (s : State) (e n slot : Nat) (d : LineData) : State :=
  let w := workOf s n slot d
  let s := s.count 52 2 1
  if w.opc = 0 ∨ 13 < w.opc then finishDesc s n slot .badOpcode 0
  else if descOk w d = false then finishDesc s n slot .badDesc 0
  else if w.len = 0 ∧ w.opc < 10 then finishDesc s n slot .ok (emptyResult w)
  else if (dataRanges w).any fun r => touchesCw s r.1 r.2 then
    finishDesc s n slot .noTarget (failResult (refusal 4 false 0))
  else if (sideRanges w d).any fun r => touchesCw s r.1 r.2 then finishDesc s n slot .noTarget (failResult (refusal 4 true 0))
  else s.modEngine e fun x => { x with crc := crcInit w }

/-- A descriptor of the inkwell keeps later ones from being fetched (R367). -/
def blocksFetch (d : Desc) : Bool :=
  let opc := dfld d.raw 0 1
  opc == 13 || (opc == 12 && !isDone d) || (opc == 10 && (d.phase == .running || d.phase == .launching))

/-- The inkwell can fetch a descriptor (R359, R365, R367, R379, R380); none can in compatibility mode (R382). -/
def canFetch (s : State) (n : Nat) : Bool :=
  let x := s.ink n
  let sz := inkSize s n
  s.bit (inkReg n 0) 0 && !s.compat && !x.halted && decide (0 < ringDiff sz x.tail x.head) &&
  decide (ringDiff sz x.cqTail x.cqHead + x.descs.length < sz) &&
  decide ((x.descs.filter fun d => !isDone d).length < s.fld (inkReg n 0) 8 3 + 1) && !(x.descs.any blocksFetch) && !inkFetching s n

/-- Engine e is free. -/
def engFree (s : State) (e : Nat) : Bool :=
  let x := s.engine e
  x.work.isNone && x.fetch.isNone && !(e == 0 && s.cx.run.isSome)

/-- The lowest-numbered free engine (R366). -/
def lowestFree (s : State) : Option Nat := (List.range nEngines).find? fun e => engFree s e

/-- The engine unit works: domain 60 Lit, the device not in the fatal state. -/
def inkLit (s : State) : Bool := s.domLit 60 && !s.boot.fatal

/-- PRIO of an inkwell, and the inkwell served last at a priority (R366). -/
def inkPrio (s : State) (n : Nat) : Nat := s.fld (inkReg n 0) 4 2
def lastServed (s : State) (p : Nat) : Nat := sget (fun _ => 0) s.inkLast p

/-- The inkwell to serve, of those with work: the highest PRIO, round-robin within it after the one served last (R366). -/
def chooseInk (s : State) (has : Nat → Bool) : Option Nat :=
  [3, 2, 1, 0].findSome? fun p =>
    ((List.range nInkwells).map fun i => (lastServed s p + 1 + i) % nInkwells).find? fun n => has n && inkPrio s n == p

/-- An engine serves inkwell n: its turn is over. -/
def served (s : State) (n : Nat) : State := { s with inkLast := sset (fun _ => 0) s.inkLast (inkPrio s n) n }

/-- The inkwells that have a descriptor or an enable: all that can have work. -/
def inkActive (s : State) (n : Nat) : Bool := s.bit (inkReg n 0) 0 || !(s.ink n).descs.isEmpty

/-- INK_POLL.PERIOD in grains; 0 acts as 1 (R390). -/
def pollPeriod (s : State) : Nat := max 1 (s.fld 0x600004 0 16)

/-- A started descriptor needs an engine again (R366): to complete, or to poll, INK_POLL.PERIOD grains after its last read
returned (R374). At a WAIT_POLL every waiting poll counts as due. -/
def needsEngine (s : State) (polls : Bool) (d : Desc) : Bool :=
  match d.phase with
  | .ended _ _ => true
  | .wantPoll => polls || decide (pollPeriod s ≤ (s.tb.count - d.polledAt).toNat)
  | _ => false

/-- The descriptor of an inkwell that needs an engine again: the oldest, in ring order (R366). -/
def waitingDesc (s : State) (polls : Bool) (n : Nat) : Option Desc := (s.ink n).descs.find? (needsEngine s polls)

/-- The next piece of work for an engine (R366): the inkwell, and its descriptor that needs an engine again, or none for a
fetch. -/
def nextWork (s : State) (polls : Bool) : Option (Nat × Option Nat) :=
  (chooseInk s fun n => inkActive s n && ((waitingDesc s polls n).isSome || canFetch s n)).map fun n =>
    (n, (waitingDesc s polls n).map fun d => d.slot)

/-- DESCRIPTOR_FETCH (R364, R366): the lowest free engine fetches for the inkwell whose turn it is. -/
def descriptorFetch (s : State) (e : Nat) : State :=
  if inkLit s = false ∨ lowestFree s ≠ some e then s
  else match nextWork s false with
    | some (n, none) =>
      let sz := inkSize s n
      let slot := (s.ink n).head % sz
      let s := served s n
      if touchesCw s (ringBase s n) (64 * sz) then haltInk s n 3 slot 4
      else
        let w : Work := { (workOf s n slot 0) with opc := 0 }
        let (s, t) := readLine s e w ((ringBase s n / 64 + slot) % 2 ^ 46)
        s.modEngine e fun x => { x with fetch := some (n, t) }
    | _ => s

/-- The descriptor's line is back (R365, R380). -/
def fetchBack (s : State) (e n : Nat) (r : Rsp) : State :=
  let s := s.modEngine e fun x => { x with fetch := none }
  let x := s.ink n
  let slot := x.head % inkSize s n
  match r with
  | .refused k => haltInk s n 3 slot k
  | .line d p =>
    if p then haltInk s n 3 slot 0xFF
    else if x.halted = true ∨ s.bit (inkReg n 0) 0 = false then s
    else
      let fence := dfld d 0 1 == 13
      let desc : Desc := { slot := slot, raw := d, phase := if fence then .held else .running,
                           engine := if fence then none else some e, value := 0, polledAt := 0, expired := false, msgTag := none }
      let s := s.modInk n fun x => { x with head := (x.head + 1) % (2 * inkSize s n), descs := x.descs ++ [desc] }
      if fence then s
      else startDesc (s.modEngine e fun x => { x.cleared with work := some (n, slot) }) e n slot d
  | _ => s

/-! ## Records and completion events (R358, R368, R376, R378) -/

/-- The 16 bytes of a completion record (R376). -/
def recordValue (s : State) (n slot : Nat) (d : Desc) (st : Status) (res : DWord) : Nat :=
  let phase := 1 - bitsOf (s.ink n).cqTail (inkLog s n) 1
  slot % 2 ^ 16 + 2 ^ 16 * st.code + 2 ^ 24 * phase + 2 ^ 32 * dfld d.raw 4 4 + 2 ^ 64 * res.toNat

/-- Raise the completion event of an inkwell (R378). -/
def completionEvent (s : State) (n : Nat) : State :=
  ((s.raise 0x61 0x30 (w32 (n + 2 ^ 12 * (s.ink n).cqTail))).modInk n fun x => { x with p := 0 }).count 52 5 1

/-- Take a descriptor off its inkwell once its record is over. -/
def removeDesc (s : State) (n slot : Nat) : State :=
  (releaseEngine s n slot).modInk n fun x =>
    { x with descs := x.descs.filter fun d => d.slot != slot, doneQ := eraseFirst (· == slot) x.doneQ, recWr := none }

/-- The record of a completed descriptor goes out on its engine, when its turn has come (R358, R368, R380). -/
def recordOut (s : State) (n slot : Nat) : State :=
  let x := s.ink n
  if x.recWr ≠ none ∨ x.doneQ.head? ≠ some slot then s
  else match descOf s n slot with
    | none => s
    | some d =>
      match d.phase, d.engine with
      | .done st res, some e =>
        if touchesCw s (cqBase s n) (16 * inkSize s n) then removeDesc (haltInk s n 4 slot 4) n slot
        else
          let a := cqBase s n + 16 * (x.cqTail % inkSize s n)
          let (s, t) := writePiece s e (workOf s n slot 0) a 16 (recordValue s n slot d st res) false
          s.modInk n fun x => { x with recWr := some (e, t, slot) }
      | _, _ => s

/-- A descriptor that is over and waits without an engine gets the lowest free one when it is the next work, and completes
(R366); the record of a completed one goes out. -/
def writeRecord (s : State) (n slot : Nat) : State :=
  if inkLit s = false then s
  else match descOf s n slot with
    | none => s
    | some d => match d.phase with
      | .ended st res => match lowestFree s with
        | some e =>
          if nextWork s false = some (n, some slot) then
            let s := (served s n).modEngine e fun x => { x.cleared with work := some (n, slot) }
            recordOut (completeDesc (modDesc s n slot fun d => { d with engine := some e }) n slot d.raw st res) n slot
          else s
        | none => s
      | _ => recordOut s n slot

/-- The record write is back: CQ_TAIL moves, and an event may be due; a refused one halts the inkwell (R378, R380). -/
def recordBack (s : State) (n slot : Nat) (r : Rsp) : State :=
  match descOf s n slot with
  | none => s.modInk n fun x => { x with recWr := none }
  | some d =>
    match r with
    | .refused k => removeDesc (haltInk s n 4 slot k) n slot
    | _ =>
      let failed := match d.phase with | .done st _ => st.failed | _ => false
      let evt := s.rd (inkReg n 0x28)
      let s := removeDesc s n slot
      let s := (s.modInk n fun x => { x with cqTail := (x.cqTail + 1) % (2 * inkSize s n),
                                             p := if evt.getLsbD 0 then x.p + 1 else 0 }).count 52 3 1
      if evt.getLsbD 0 && (decide (max 1 (wfld evt 8 8) ≤ (s.ink n).p) || d.raw.getLsbD 8 || (evt.getLsbD 1 && failed)) then
        completionEvent s n
      else s

/-! ## All responses to an engine -/

/-- The inkwell whose record write this is. -/
def recordOf (s : State) (e : Nat) (tag : Tag) : Option (Nat × Nat) :=
  s.inks.findSome? fun i => match i.2.recWr with
    | some (f, t, slot) => if f = e ∧ t = tag then some (i.1, slot) else none
    | none => none

/-- The inkwell and slot whose agent message this tag of engine e answers. -/
def msgOf (s : State) (e : Nat) (tag : Tag) : Option (Nat × Nat) :=
  s.inks.findSome? fun i => (i.2.descs.find? fun d => d.phase == .msgSent && d.msgTag == some tag && d.engine == some e).map
    fun d => (i.1, d.slot)

/-- A response for engine e with a tag, which is free again (R142). -/
def engineResponse (s : State) (e : Nat) (tag : Tag) (r : Rsp) : State :=
  let s := s.modEngine e fun x => { x with tags := eraseFirst (· == tag) x.tags }
  let x := s.engine e
  match x.fetch.bind fun f => if f.2 = tag then some f.1 else none with
  | some n => fetchBack s e n r
  | none =>
  match recordOf s e tag with
  | some (n, slot) => recordBack s n slot r
  | none =>
  match msgOf s e tag with
  | some (n, slot) =>
    (match r with
      | .refused k => finishDesc s n slot (refusal k false 0).st (BitVec.ofNat 64 k)
      | .done full => finishDesc s n slot (if full then .destFull else .ok) 0
      | _ => s)
  | none =>
  match engWork s e with
  | none => s
  | some (w, d) =>
    if (match x.listRd with | some (t, _) => t == tag | none => false) then
      let line := match x.listRd with | some (_, l) => l | none => 0
      let s := s.modEngine e fun x => { x with listRd := none }
      if w.opc = 12 then
        match descOf s w.n w.slot with
        | some desc => pollBack s e w desc r
        | none => s
      else
        let at_ := line * 64 - w.list
        engineGo (match r with
          | .refused k => noteFail s e w (refusal k true at_)
          | .line data p => if p then noteFail s e w (poisoned true at_) else s.modEngine e fun x => { x with list := some (line, data) }
          | _ => s) e
    else match x.jobs.find? fun j => j.wr == some tag || hasRead tag j with
      | none => s
      | some j =>
        if j.wr = some tag then engineGo (jobDone s e w j r) e
        else
          let s := readBack s e w tag j r
          let ready := (x.jobs.filter (hasRead tag)).filterMap fun j => (s.engine e).jobs.find? fun q => q.off == j.off
          engineGo (ready.foldl (fun s j => jobRead s e w d j) s) e

/-! ## The commands -/

/-- DESCRIPTOR_FETCH (R364). -/
def execDescriptorFetch (e : Nat) (s : State) : Host.Outcome State Fault Refusal := onUnit nEngines e (descriptorFetch s e)

/-- COPY_DESCRIPTOR (R372): one piece of the copy is issued. -/
def execCopyDescriptor (e : Nat) (s : State) : Host.Outcome State Fault Refusal :=
  onUnit nEngines e (if (s.engine e).work.isSome then issue1 s e 1 else s)

/-- FILL_DESCRIPTOR (R372). -/
def execFillDescriptor (e : Nat) (s : State) : Host.Outcome State Fault Refusal :=
  onUnit nEngines e (if (s.engine e).work.isSome then issue1 s e 2 else s)

/-- ZERO_DESCRIPTOR (R372). -/
def execZeroDescriptor (e : Nat) (s : State) : Host.Outcome State Fault Refusal := onUnit nEngines e (issue1 s e 3)

/-- COMPARE_DESCRIPTOR (R372). -/
def execCompareDescriptor (e : Nat) (s : State) : Host.Outcome State Fault Refusal := onUnit nEngines e (issue1 s e 4)

/-- CRC_DESCRIPTOR (R350, R372). -/
def execCrcDescriptor (e : Nat) (s : State) : Host.Outcome State Fault Refusal := onUnit nEngines e (issue1 s e 5)

/-- GATHER_DESCRIPTOR (R372): an element's piece, or the next entry of the list. -/
def execGatherDescriptor (e : Nat) (s : State) : Host.Outcome State Fault Refusal := onUnit nEngines e (issue1 s e 6)

/-- SCATTER_DESCRIPTOR (R372). -/
def execScatterDescriptor (e : Nat) (s : State) : Host.Outcome State Fault Refusal := onUnit nEngines e (issue1 s e 7)

/-- ATOMIC_DESCRIPTOR (R373). -/
def execAtomicDescriptor (e : Nat) (s : State) : Host.Outcome State Fault Refusal := onUnit nEngines e (issue1 s e 8)

/-- MAINT_DESCRIPTOR (R373). -/
def execMaintDescriptor (e : Nat) (s : State) : Host.Outcome State Fault Refusal := onUnit nEngines e (issue1 s e 9)

/-- The launch record of a TASK descriptor (R372). -/
def launchOf (w : Work) (d : LineData) : LaunchRec :=
  { inkwell := w.n, index := BitVec.ofNat 16 w.slot, entry := BitVec.ofNat 52 (daddr d 8), arg0 := BitVec.ofNat 64 (dfld d 16 8),
    arg1 := BitVec.ofNat 64 (dfld d 24 8), arg2 := BitVec.ofNat 64 (dfld d 32 8), arg3 := BitVec.ofNat 64 (dfld d 40 8),
    mask := BitVec.ofNat 8 (dfld d 49 1), supervisor := d.getLsbD (8 * 50) }

/-- The descriptor in work on engine e, in the given phase, with the given operation. -/
def inPhase (s : State) (e opc : Nat) (ph : DPhase) : Option (Work × LineData) :=
  match (s.engine e).work, engWork s e with
  | some (n, slot), some (w, d) =>
    if w.opc = opc ∧ (descOf s n slot).any (fun x => x.phase == ph) = true ∧ inkLit s = true then some (w, d) else none
  | _, _ => none

/-- TASK_DESCRIPTOR (R372, R375): the launch record is sent to its cluster, which takes it or leaves the engine with it until it
does (R320, R365). -/
def execTaskDescriptor (e : Nat) (s : State) : Host.Outcome State Fault Refusal :=
  onUnit nEngines e (match inPhase s e 10 .running, inPhase s e 10 .launching with
    | some (w, d), _ => launch (modDesc s w.n w.slot fun x => { x with phase := .launching }) (dfld d 48 1 % 16) (launchOf w d)
    | none, some (w, d) => launch s (dfld d 48 1 % 16) (launchOf w d)
    | none, none => s)

/-- MSG_DESCRIPTOR (R372): the payload is read, then the message goes out. -/
def execMsgDescriptor (e : Nat) (s : State) : Host.Outcome State Fault Refusal :=
  onUnit nEngines e (match inPhase s e 11 .running with
    | some (w, d) =>
      if 0 < (s.engine e).pos then s
      else
        let n := 4 * dfld d 20 1
        let (s, r) := readBytes s e w w.src n
        addJob (s.modEngine e fun x => { x with pos := n }) e ⟨0, w.src, 0, n, r, none, false⟩
    | none => s)

/-- WAIT_DESCRIPTOR (R374): the first poll. -/
def execWaitDescriptor (e : Nat) (s : State) : Host.Outcome State Fault Refusal :=
  onUnit nEngines e (match inPhase s e 12 .running with
    | some (w, d) => pollRead s e w.n w.slot d
    | none => s)

/-- FENCE_DESCRIPTOR (R367, R377): the held FENCE that is the oldest descriptor of its inkwell starts and completes. -/
def execFenceDescriptor (n : Nat) (s : State) : Host.Outcome State Fault Refusal :=
  onUnit nInkwells n (match (s.ink n).descs with
    | d :: _ =>
      if d.phase = .held ∧ inkLit s = true then
        let f := (s.ink n).fails
        let s := (s.modInk n fun x => { x with fails := 0 }).count 52 2 1
        if d.raw.getLsbD 64 = true ∧ f ≠ 0 then haltInk (finishDesc s n d.slot .fenceFailed (BitVec.ofNat 64 f)) n 5 d.slot 0
        else finishDesc s n d.slot .ok 0
      else s
    | [] => s)

/-- WAIT_POLL (R374): a WAIT polls again, on the lowest free engine. -/
def execWaitPoll (e : Nat) (s : State) : Host.Outcome State Fault Refusal :=
  onUnit nEngines e (
    if inkLit s = false ∨ lowestFree s ≠ some e then s
    else match nextWork s true with
      | some (n, some slot) => match descOf s n slot with
        | some d => if d.phase = .wantPoll then pollRead (served s n) e n slot d.raw else s
        | none => s
      | _ => s)

/-- WAIT_TIMEOUT (R374): TIMEOUT µs have passed; an outstanding read is waited for. -/
def execWaitTimeout (n : Nat) (i : BitVec 16) (s : State) : Host.Outcome State Fault Refusal :=
  onUnit nInkwells n (match descOf s n i.toNat with
    | some d =>
      if dfld d.raw 0 1 ≠ 12 ∨ dfld d.raw 36 4 = 0 then s
      else match d.phase with
        | .wantPoll => finishDesc s n i.toNat .timeout d.value
        | .polling => modDesc s n i.toNat fun x => { x with expired := true }
        | _ => s
    | none => s)

/-- DESCRIPTOR_COMPLETE (R368): the record of the descriptor whose turn it is goes out. -/
def execDescriptorComplete (n : Nat) (i : BitVec 16) (s : State) : Host.Outcome State Fault Refusal :=
  onUnit nInkwells n (writeRecord s n i.toNat)

/-- COMPLETION_EVENT_TIMER (R378): TIME µs have passed since the oldest record that P counts. -/
def execCompletionEventTimer (n : Nat) (s : State) : Host.Outcome State Fault Refusal :=
  onUnit nInkwells n (if s.bit (inkReg n 0x28) 0 && s.fld (inkReg n 0x28) 16 16 != 0 && decide (0 < (s.ink n).p)
    then completionEvent s n else s)

end Sys2Proof.Machine
end

