-- ==== Sys2Proof/Machine/Telemetry.lean ====
section
/-! DEFINITION. Counters, thresholds, dumps and the blotter (R392–R409). -/
namespace Sys2Proof.Machine
open Config

/-! ## Counters (R394–R396) -/

/-- The telemetry domain cannot take increments: Cold or entering Cold (R396). -/
def telDark (s : State) : Bool := s.domSt 61 == .cold || (s.dom 61).moving == some .cold

/-- Add to a counter; a wrap sets its overflow bit and may raise OVERFLOW (R395). -/
def addCounter (s : State) (g i n : Nat) : State :=
  let v := sget zeroD s.tel.ctr (32 * g + i) + n
  let s := { s with tel := { s.tel with ctr := sset zeroD s.tel.ctr (32 * g + i) (v % 2 ^ 48) } }
  if v < 2 ^ 48 ∨ s.bit (telReg (0x4000 + 4 * g)) i = true then s
  else
    let s := s.setFld (telReg (0x4000 + 4 * g)) i 1 1
    if s.bit (telReg (0x4100 + 4 * (g / 32))) (g % 32) then s.raise 0x70 0x24 (w32 g) else s

/-- Instructions issue in pairs where the hardware chooses to (R354), so PAIRS of a cluster takes a free increment with each
hand-off: at most half of the instructions retired since the last one, rounded up (log entry 49). -/
def countPairs (s : State) (g : Nat) : State :=
  let n := sget zeroD s.acc (32 * g)
  if 36 ≤ g ∧ g < 52 ∧ n ≠ 0 then
    let (s, f) := s.free
    s.count g 1 (f.toNat % ((n + 1) / 2 + 1))
  else s

/-- COUNTER_HANDOFF (R394): the accumulated increments of a group pass to its counters; a dark domain 61 loses them, an Ember
one wakes first. -/
def handoff (s : State) (g : Nat) : State :=
  let clear := fun (s : State) => { s with acc := s.acc.filter fun e => e.1 / 32 != g }
  if s.domLit 61 then
    let s := countPairs s g
    (s.acc.filter fun e => e.1 / 32 == g).foldl (fun s e => addCounter s g (e.1 % 32) e.2) (clear s)
  else if telDark s then clear s
  else s.wake 61

/-- COUNTER_HANDOFF. -/
def execCounterHandoff (group : Nat) (s : State) : Host.Outcome State Fault Refusal := onUnit 54 group (handoff s group)

/-- CLEAR_ALL (R418): every counter and every overflow bitmap. -/
def clearAll (s : State) : State :=
  (List.range 54).foldl (fun s g => s.wr (telReg (0x4000 + 4 * g)) 0) { s with tel := { s.tel with ctr := [] } }

/-! ## Thresholds (R397–R399) -/

def maxOf (l : List Nat) : Nat := l.foldl max 0

/-- Occupancy of queue q of group g; none where the table assigns none (R397), and none of a Cold unit, which counts nothing
(R396). -/
def occupancy (s : State) (g q : Nat) : Option Nat :=
  if s.groupPresent g = false ∨ s.groupCold g = true then none
  else if g < 16 then
    let x := s.port g
    if q = 0 then some (x.rxq.foldl (fun a m => a + msgLen m) 0)
    else if q = 1 then some (x.egress.foldl (fun a m => a + msgLen m) 0) else none
  else if g < 32 then
    let x := s.slice (g - 16)
    match q with
    | 0 => some x.inq.length
    | 1 => some (min 512 (missUsed s (g - 16)))
    | 2 => some x.retryq.length
    | 3 => some (srspUsed x)
    | _ => none
  else if g < 36 then
    let pcs := (List.range 32).map fun i => s.pc (32 * (g - 32) + i)
    match q with
    | 0 => some (maxOf (pcs.map fun x => min 64 x.rdq.length))
    | 1 => some (maxOf (pcs.map wrCount))
    | 2 => some (maxOf (pcs.map flueCount))
    | _ => none
  else if g < 52 then
    let x := s.cluster (g - 36)
    if q = 0 then some x.tasks.length else if q = 1 then some x.gather.length else none
  else if g = 52 then
    if q = 0 then some ((List.range nEngines).filter fun e => (s.engine e).work.isSome).length else none
  else if q = 0 then some s.evt.efifo.items.length else if q = 1 then some s.tel.blot.ring.length else none

/-- One threshold of one queue takes a sample (R398, R399); what it counts is handed off as R394 says. -/
def sampleOne (s : State) (g q occ i : Nat) : State :=
  let r := s.rd (telReg (0x5000 + 0x40 * g + 0x10 * q + 4 * i))
  let key := 16 * g + 4 * q + i
  let old := sget zeroD s.tel.thr key
  let above := decide (wfld r 0 16 < occ)
  let quiet := old / 2
  let s := if above then s.count g (16 + 4 * q + i) 1 else s
  let fire := above && old % 2 == 0 && quiet == 0 && r.getLsbD 31
  let left := if above then (if fire || quiet != 0 then 1000 else 0) else quiet - 1
  let s := { s with tel := { s.tel with thr := sset zeroD s.tel.thr key (2 * left + b2n above) } }
  if fire then s.raise 0x70 0x23 (w32 (g + 2 ^ 6 * q + 2 ^ 8 * i)) else s

/-- Every threshold takes a sample of its queue (R398), also while domain 61 is in Ember (R394). -/
def sampleAll (s : State) : State :=
  if !telDark s then
    (List.range 54).foldl (fun s g => (List.range 4).foldl (fun s q =>
      match occupancy s g q with
      | some occ => (List.range 4).foldl (fun s i => sampleOne s g q occ i) s
      | none => s) s) s
  else s

/-- THRESHOLD_SAMPLE (R398). -/
def execThresholdSample (s : State) : Host.Outcome State Fault Refusal := .next (sampleAll s)

/-! ## Dumps (R400–R403) -/

/-- LOG2 and PERIOD as they act (R418). -/
def dumpLog (s : State) : Nat := max 1 (min 12 (s.fld (telReg 0x810C) 24 4))
def dumpPeriod (s : State) : Nat := max 10 (min 1000000 (s.fld (telReg 0x8104) 0 20))

/-- Word i of a dump record (R401). -/
def dumpWord (s : State) (recno i : Nat) : Nat :=
  let put := s.fld (telReg 0x8110) 0 13
  let seq := (s.evt.seq - 1).toNat
  match i with
  | 0 => 1 + 2 ^ 16 * s.devId
  | 1 => recno
  | 2 => bitsOf s.tb.count.toNat 0 32
  | 3 => bitsOf s.tb.count.toNat 32 32
  | 4 => bitsOf seq 0 32
  | 5 => bitsOf seq 32 16 + 2 ^ 16 * s.devNum + 2 ^ 24 * ((1 - bitsOf put (dumpLog s) 1) + 2 * b2n s.tel.gap)
  | 6 => dumpPeriod s
  | _ =>
    if 16 ≤ i ∧ i < 70 then (s.rd (telReg (0x4000 + 4 * (i - 16)))).toNat
    else if 256 ≤ i ∧ i < 3712 then
      let c := sget zeroD s.tel.ctr ((i - 256) / 2)
      if i % 2 = 0 then bitsOf c 0 32 else bitsOf c 32 16
    else 0

/-- Line l of the record. -/
def dumpLine (s : State) (recno l : Nat) : LineData :=
  BitVec.ofNat 512 (ofWordsLE ((List.range 16).map fun i => w32 (dumpWord s recno (16 * l + i))))

/-- The tag of the write of line l of a dump record. -/
def dumpTag (l : Nat) : Tag := BitVec.ofNat 12 (0x200 + l)

/-- A line write of the device agent (class DEVICE, R208). -/
def devWrite (s : State) (tag : Tag) (a : Nat) (d : LineData) : State :=
  s.putReq (reqMsg s.home tag opcWR_LINE false 0 (BitVec.ofNat 52 a) false (wordsLE 16 d.toNat))

/-- A dump falls due: a snapshot and its writes, or a skip (R400, R402, R403). -/
def takeDump (s : State) : State :=
  let recno := (s.rd (telReg 0x811C)).toNat + 1
  let s := s.wr (telReg 0x811C) (w32 recno)
  let log := dumpLog s
  let put := s.fld (telReg 0x8110) 0 13
  let get := s.fld (telReg 0x8114) 0 13
  if s.tel.dump.isSome || ringDiff (2 ^ log) put get == 2 ^ log then
    let s := { s with tel := { s.tel with gap := true } }
    (s.count 53 14 1).setStatus (telReg 0x8118) 1 0x70 0x21 (w32 recno)
  else
    let base := (s.rd (telReg 0x8108)).toNat / 2 ^ 14 * 2 ^ 14 + s.fld (telReg 0x810C) 0 20 * 2 ^ 32 + 16384 * (put % 2 ^ log)
    let lines := (List.range 255).map (· + 1)
    let s' := lines.foldl (fun t l => devWrite t (dumpTag l) (base + 64 * l) (dumpLine s recno l)) s
    { s' with tel := { s'.tel with dump := some ⟨dumpLine s recno 0, base, lines.map dumpTag, false, recno, false⟩, gap := false } }

/-- A dump falls due: domain 61 in Ember wakes for it, and it is taken then (R449). Cold telemetry takes none (R396). -/
def dumpFalls (s : State) : State :=
  if s.bit (telReg 0x8100) 0 = false ∨ telDark s = true then s
  else if s.domLit 61 then takeDump s
  else { s.wake 61 with tel := { s.tel with due := true } }

/-- DUMP_PERIOD (R400). -/
def execDumpPeriod (s : State) : Host.Outcome State Fault Refusal := .next (dumpFalls s)

/-- The header line is performed: PUT advances, DUMP_DONE is raised (R402). -/
def dumpDone (s : State) : State :=
  match s.tel.dump with
  | some d =>
    if d.headerSent then
      let s := { s with tel := { s.tel with dump := none } }
      if d.stopped then s
      else
        let put := (s.fld (telReg 0x8110) 0 13 + 1) % (2 * 2 ^ dumpLog s)
        (s.setFld (telReg 0x8110) 0 13 put).raise 0x70 0x20 (w32 d.recno)
    else s
  | none => s

/-- DUMP_DONE (R402). -/
def execDumpDone (s : State) : Host.Outcome State Fault Refusal :=
  .next (dumpDone (s.takeMsg fun m => m.dst == s.home && m.tag == dumpTag 0 && m.opc == opcWR_DONE).1)

/-- A refused dump write stops the engine (R403). -/
def dumpStop (s : State) (k : Nat) : State :=
  ((s.setFld (telReg 0x8100) 0 1 0).setStatus (telReg 0x8118) 2 0x70 0x22 (w32 k)).setFld (telReg 0x8118) 8 8 k

/-- A dump write is back (R402, R403). A stopped record only waits for the writes that are out, whose tags are in use (R142). -/
def dumpBack (s : State) (tag : Tag) (r : Rsp) : State :=
  match s.tel.dump with
  | none => s
  | some d =>
    let d := { d with out := d.out.filter (· != tag) }
    let keep := fun (s : State) (d : DumpRec) => { s with tel := { s.tel with dump := if d.out = [] then none else some d } }
    match r with
    | .refused k => if d.stopped then keep s d else keep (dumpStop s k) { d with stopped := true }
    | _ =>
      if tag = dumpTag 0 then dumpDone s
      else if d.stopped then keep s d
      else if d.out = [] ∧ d.headerSent = false then
        devWrite { s with tel := { s.tel with dump := some { d with headerSent := true } } } (dumpTag 0) d.addr d.header
      else { s with tel := { s.tel with dump := some d } }

/-! ## The blotter (R405–R409) -/

def modBlot (s : State) (f : Blotter → Blotter) : State := { s with tel := { s.tel with blot := f s.tel.blot } }

/-- EN is set: the LFSR is loaded from SEED and the first distance drawn (R405). -/
def blotStart (s : State) : State :=
  let seed := s.fld (telReg 0x820C) 0 16
  blotDraw (modBlot s fun b => { b with lfsr := if seed = 0 then 0xACE1 else seed })

/-- LOG2 of the host ring as it acts (R418). -/
def blotLog (s : State) : Nat := max 6 (min 20 (s.fld (telReg 0x8214) 24 5))

/-- The time between two moments in grains, at most 65,535 (R408). -/
def grains (a b : Nat) : Nat := min 65535 (b - a)

/-- The eight words of a record, PHASE left 0 (R407, R408). -/
def blotWords (s : State) (f : Follow) (left : Nat) : List Word :=
  let acc := f.acc.getD left
  let got := if f.outcome = some 8 ∨ f.outcome = some 9 then acc else f.got.getD left
  let l1 := grains f.tb acc
  let l2 := grains acc got
  let l3 := grains got left
  let slice := match s.classify f.addr with
    | .home off => s.sliceOf (off / 64)
    | _ => 0
  let id := f.id % 2 ^ 52 + 2 ^ 52 * slice + 2 ^ 56 * (f.ingress % 16)
  [w32 f.tb, w32 (bitsOf f.tb 32 16 + 2 ^ 16 * l3), w32 id, w32 (id / 2 ^ 32), w32 f.addr.toNat, w32 (f.addr.toNat / 2 ^ 32),
   w32 (f.src.toNat + 2 ^ 10 * f.core + 2 ^ 13 * f.kind + 2 ^ 16 * f.opc
     + 2 ^ 24 * (f.outcome.getD (freeOutcome f.opc).toNat + 2 ^ 4 * b2n f.snooped + 2 ^ 5 * b2n f.retry + 2 ^ 6 * b2n f.poison)),
   w32 (l1 + 2 ^ 16 * l2)]

/-- BLOTTER_RECORD (R406, R407): the i-th followed request, whose response has left, is recorded. A domain 61 that is not Lit
wakes first (R449, R459). -/
def execBlotterRecord (i : Nat) (s : State) : Host.Outcome State Fault Refusal :=
  .next (match s.tel.blot.follows[i]? with
    | some f => match f.left with
      | some left =>
        if s.domLit 61 = false then s.wake 61
        else
        let s := modBlot s fun b => { b with follows := b.follows.eraseIdx i }
        if 4096 ≤ s.tel.blot.ring.length then blotDrop s
        else modBlot s fun b => { b with ring := b.ring ++ [blotWords s f left] }
      | none => s
    | none => s)

/-- PHASE of a record is NOT bit LOG2 of the ring PUT (R407). -/
def withPhase (s : State) (put : Nat) (ws : List Word) : List Word :=
  lmod ws 6 fun w => w ||| w32 (2 ^ 31 * (1 - bitsOf put (blotLog s) 1))

def blotTag : Tag := 0x300

/-- Records drain to the host ring (R409): a line when both of its records are ready, else one record that has waited. -/
def blotDrain (s : State) : State :=
  let b := s.tel.blot
  let size := 2 ^ blotLog s
  let put := s.fld (telReg 0x8218) 0 21
  let used := ringDiff size put (s.fld (telReg 0x821C) 0 21)
  let base := (s.rd (telReg 0x8210)).toNat / 64 * 64 + s.fld (telReg 0x8214) 0 20 * 2 ^ 32
  let a := base + 32 * (put % size)
  if s.domLit 61 = false ∨ b.drain.isSome = true ∨ s.bit (telReg 0x8220) 1 = true then s
  else match b.ring with
    | r1 :: r2 :: _ =>
      if put % 2 = 0 ∧ used + 2 ≤ size then
        modBlot (devWrite s blotTag a (BitVec.ofNat 512 (ofWordsLE (withPhase s put r1 ++ withPhase s (put + 1) r2))))
          fun b => { b with drain := some (blotTag, 2) }
      else one s b.waited put used size a r1
    | [r1] => one s b.waited put used size a r1
    | [] => s
where
  /-- A single record goes out by a partial write. -/
  one (s : State) (waited : Bool) (put used size a : Nat) (r : List Word) : State :=
    if waited = true ∧ used < size then
      let d := putLine 0 (a % 64) 32 (ofWordsLE (withPhase s put r))
      modBlot (s.putReq (reqMsg s.home blotTag opcWR_PART false 0 (BitVec.ofNat 52 (a / 64 * 64)) false
        (partBody (byteMask (a % 64) 32) d))) fun b => { b with drain := some (blotTag, 1) }
    else s

/-- BLOTTER_DRAIN_WRITE (R409). -/
def execBlotterDrainWrite (s : State) : Host.Outcome State Fault Refusal := .next (blotDrain s)

/-- BLOTTER_RECORD_WAIT_EXPIRE (R409): the single ready record has waited 1 µs. -/
def execBlotterRecordWaitExpire (s : State) : Host.Outcome State Fault Refusal :=
  .next (if s.tel.blot.ring.isEmpty then s else blotDrain (modBlot s fun b => { b with waited := true }))

/-- A drain write is back: PUT advances; a refusal stops the blotter (R409). One of a blotter that has stopped changes
nothing. -/
def blotBack (s : State) (r : Rsp) : State :=
  match s.tel.blot.drain with
  | none => s
  | some (_, n) =>
    match r with
    | .refused k =>
      let s := modBlot s fun b => { b with drain := none }
      if n = 0 then s
      else ((s.setFld (telReg 0x8200) 0 1 0).setStatus (telReg 0x8220) 1 0x70 0x26 (w32 k)).setFld (telReg 0x8220) 8 8 k
    | _ =>
      let put := (s.fld (telReg 0x8218) 0 21 + n) % (2 * 2 ^ blotLog s)
      (modBlot s fun b => { b with drain := none, waited := false, ring := b.ring.drop n }).setFld (telReg 0x8218) 0 21 put

/-- Telemetry stops when domain 61 is commanded Cold (R396). What remains of a dump or a drain are the writes that are out. -/
def telStop (s : State) : State :=
  { s with tel := { s.tel with
      dump := s.tel.dump.map fun d => { d with stopped := true }, ctr := [], thr := [], gap := false, due := false,
      blot := { Blotter.empty with drain := s.tel.blot.drain.map fun d => (d.1, 0) } } }

end Sys2Proof.Machine
end

