-- ==== Sys2Proof/Machine/Power.lean ====
section
/-! DEFINITION. Power domains and their commands (R449–R460, R540), the damper and the core voltage (R461–R471),
temperature (R434–R436), ageing and service life (R438–R443). -/
namespace Sys2Proof.Machine
open Config

/-! ## Post-boot registers (R540) -/

/-- Registers whose offset a test selects return to their post-boot values, with their locks; shadows and held words of
their blocks are lost. -/
def postRestore (s : State) (p : Nat → Bool) : State :=
  let r := s.reg
  let q := fun (e : Nat × Word) => p e.1
  let file := ((r.postBoot.filter q).filter fun e => !regTV e.1).foldl (fun f e => sset regReset f e.1 e.2)
    (r.file.filter fun e => !p e.1)
  let tv := ((r.postBoot.filter q).filter fun e => regTV e.1).foldl (fun f e => sset tvD f e.1 ⟨e.2, e.2, e.2⟩)
    (r.tv.filter fun e => !p e.1)
  let locks := (r.postLocked.filter q).foldl (fun f e => sset lockD f e.1 ⟨1, 1, 1⟩) (r.locks.filter fun e => !p e.1)
  { s with reg := { r with file := file, tv := tv, locks := locks, shadows := r.shadows.filter fun h => !p h.block.base,
                           held := r.held.filter fun h => !p h.block.base } }

/-- The register at an offset belongs to a block of domain d (R41). -/
def inDomain (d off : Nat) : Bool := blockAt off != .gap && (blockAt off).domain == d

/-- The key under which the post-boot value of WAYQ_CTL of slice i is kept, beyond the control window. -/
def wayqKey (i : Nat) : Nat := 0x4000000 + i

/-! ## Conditions (R449) -/

/-- A slice has no miss register or intake entry in use, no sweep and no walk (R241). -/
def sliceIdle (x : Slice) : Bool :=
  x.txns.isEmpty && x.inq.isEmpty && x.srsp.isEmpty && x.confq.isEmpty && x.retryq.isEmpty && x.victims.isEmpty && x.installs.isEmpty &&
  x.outWr.isEmpty && x.evbuf.isEmpty && x.sweeps.isEmpty && x.walking.isEmpty

/-- The pseudo-channels of an HBM domain (R247, R449). -/
def halfPcs (d : Nat) : List Nat := (List.range 16).map fun i => 32 * ((d - 36) / 2) + 16 * ((d - 36) % 2) + i

/-- The queues of an HBM half are empty (R287). -/
def halfIdle (s : State) (d : Nat) : Bool :=
  (halfPcs d).all fun p => (s.pc p).rdq.isEmpty && (s.pc p).wrq.isEmpty && (s.pc p).flight.isEmpty

/-- Every core of a cluster idle or in WFD, its buffers empty (R326). -/
def clusterStill (s : State) (c : Nat) : Bool :=
  (s.cluster c).gather.isEmpty && !(s.cluster c).resetting &&
  (List.range 8).all fun j => (s.core (8 * c + j)).st != .running && (s.core (8 * c + j)).sb.isEmpty

/-- No inkwell has a started descriptor, no engine works (R449). -/
def inksStill (s : State) : Bool :=
  (s.inks.all fun e => e.2.descs.all fun d => d.phase == .held) &&
  (List.range nEngines).all fun e => (s.engine e).work.isNone && (s.engine e).fetch.isNone

/-- The Ember conditions of a domain hold (R449); `timer` adds what only the idle timer asks for: an empty task queue
(R326). -/
def emberReady (s : State) (d : Nat) (timer : Bool) : Bool :=
  if d < 2 then false
  else if d < 4 then (List.range 64).all fun e => halfOf e != some d ||
    (((s.domSt e == .ember) || (s.domSt e == .cold)) && (s.dom e).moving.isNone)
  else if d < 20 then (s.port (d - 4)).st == .linkIdle || (s.port (d - 4)).st == .disabled
  else if d < 36 then sliceIdle (s.slice (d - 20))
  else if d < 44 then halfIdle s d
  else if d < 60 then clusterStill s (d - 44) && (!timer || (s.cluster (d - 44)).tasks.isEmpty)
  else if d = 60 then inksStill s && s.cx.run.isNone
  else if d = 61 then s.tel.dump.isNone && s.tel.blot.drain.isNone
  else !(s.spine.fwd.any fun h => (heldUnits s h).contains d)

/-- A fabric port that forwarding unit h serves has EN = 1 (R449, R450). -/
def fwdInUse (s : State) (h : Nat) : Bool :=
  (List.range 8).any fun i => s.portPresent (8 * h + i) && s.isFabric (8 * h + i) && s.portEn (8 * h + i)

/-! ## Preparing for Cold (R135, R200, R242, R288, R325, R382, R396) -/

/-- Clear the reservations on lines of slice i, and the flags of their cores (R240, R315). -/
def dropResvSlice (s : State) (i : Nat) : State :=
  let t := s.cores.foldl (fun t e => match e.2.resv with
    | some line => if s.sliceOf (line % 2 ^ 32) = i then t.modCore e.1 fun x => { x with resv := none } else t
    | none => t) s
  { t with resv := s.resv.filter fun e => !(s.sliceOf (e.2 - 1) == i) }

/-- A slice disables its Hearth, back-invalidates its directory bank as the eviction buffer has room, and clears its
reservations (R200, R242). Ways that fail their check are discarded (R199), and purged agents leave their entries first
(R168). -/
def coldSlice (s : State) (i : Nat) : State :=
  let s := (hearthDisable s i).modSlice i fun x => { x with coldPrep := true }
  let s := dirPurgeAll s i
  let s := (s.slice i).dir.foldl (fun s e =>
    if e.2.valid && !((s.slice i).txns.any fun t => t.line == e.2.line) && decide ((s.slice i).evbuf.length < 32) then
      evictEntry (dirSet s i e.2.line (e.1 % 16) (dentryD 0)) i e.2
    else s) s
  settle (dropResvSlice s i) i

/-- Every enabled inkwell is disabled (R379, R382). -/
def coldInks (s : State) : State :=
  (List.range nInkwells).foldl (fun s n => if s.bit (inkReg n 0) 0 then s.setFld (inkReg n 0) 0 1 0 else s) s

/-- What a unit does before its domain goes Cold; done again while it waits, it carries the preparation on. -/
def prepCold (s : State) (d : Nat) : State :=
  if d < 4 then s
  else if d < 20 then (if (s.port (d - 4)).st = .down ∧ s.portEn (d - 4) = false then s else disablePort s (d - 4))
  else if d < 36 then coldSlice s (d - 20)
  else if d < 44 then s
  else if d < 60 then (if (s.cluster (d - 44)).disabling then clusterDrain s (d - 44) else clusterDisable s (d - 44))
  else if d = 60 then coldInks s
  else if d = 61 then telStop s
  else s

/-- The preparation is done. -/
def coldReady (s : State) (d : Nat) : Bool :=
  if d < 4 then false
  else if d < 20 then (s.port (d - 4)).st == .disabled || (s.port (d - 4)).st == .down
  else if d < 36 then (s.slice (d - 20)).disabled && sliceIdle (s.slice (d - 20)) && !((s.slice (d - 20)).dir.any fun e => e.2.valid)
  else if d < 44 then halfIdle s d
  else if d < 60 then (s.cluster (d - 44)).tasks.isEmpty && (s.cluster (d - 44)).tags.isEmpty && clusterStill s (d - 44) &&
    ((List.range 8).all fun j => (s.core (8 * (d - 44) + j)).st == .idle)
  else if d = 60 then (s.inks.all fun e => e.2.descs.isEmpty) && inksStill s && s.cx.run.isNone
  else emberReady s d false

/-! ## What power removal takes away (R451) -/

/-- A slice that has lost power and been swept: retired ways, error counts and taint are kept, and what waits at its
input (R235). -/
def ashSlice (x : Slice) : Slice :=
  { sliceD 0 with taint := x.taint, retired := x.retired, wayErrs := x.wayErrs, quenched := x.retired, inq := x.inq, srsp := x.srsp }

/-- A unit loses what it holds. Requests that reached its boundary meanwhile wait there (R458, R459), and the tags of requests
that have no response yet are not drawn again (R142). -/
def coldLoss (s : State) (d : Nat) : State :=
  if d < 4 then s
  else if d < 20 then s.modPort (d - 4) fun _ => Port.fresh .down
  else if d < 36 then (dropResvSlice s (d - 20)).modSlice (d - 20) ashSlice
  else if d < 44 then (halfPcs d).foldl (fun s p =>
    s.modPc p fun x => { pcD 0 with now := x.now, seq := x.seq, scrubPos := x.scrubPos, trained := false, rdq := x.rdq,
                                    wrq := x.wrq, scrubDue := x.scrubDue }) s
  else if d < 60 then (List.range 8).foldl (fun s j => s.modCore (8 * (d - 44) + j) fun _ => coreD 0)
    ({ s with resv := s.resv.filter fun e => e.1 / 8 != d - 44 }.modCluster (d - 44) fun x =>
      { clusterD 0 with tags := x.tags, tagCtr := x.tagCtr })
  else if d = 60 then { s with inks := [], engines := [] }
  else if d = 61 then telStop s
  else s

/-! ## Domain commands (R452, R456, R457) -/

/-- A command is accepted or refused: GO clears, unless another waits (R457). -/
def finishCmd (s : State) (d : Nat) : State :=
  let s := s.modDom d fun x => { x with commanded := none }
  if (s.dom d).pend.isSome then s else s.setFld (domReg d 0) 4 1 0

/-- A command is refused (R456). -/
def refuseCmd (s : State) (d : Nat) : State :=
  let s := (s.modDom d fun x => { x with refused := true }).setFld (pwrReg 0x1C) 0 6 d
  finishCmd (s.setErr (pwrReg 0x18) 3 0x02 (s.rd (pwrReg 0x1C))) d

/-- Domains gate only once the power-up has ended: at release each present one is Lit or Banked (R453, R474; DESIGN CHOICE, log
entry 86). -/
def mayGate (s : State) : Bool := s.boot.step == 8

/-- Carry the running command of a domain on as far as the domain's state lets it go (R452, R456). -/
def stepCmd (s : State) (d : Nat) : State :=
  let x := s.dom d
  if x.moving.isSome then s
  else match x.commanded with
    | some .ember =>
      if x.st = .ember ∨ x.st = .cold then finishCmd s d
      else if mayGate s = false then s
      else
        let s := if 44 ≤ d ∧ d < 60 then clusterDrain s (d - 44) else s
        if emberReady s d false then s.modDom d fun x => { x with moving := some .ember } else s
    | some .cold =>
      if x.st = .cold then finishCmd s d
      else if x.st = .ember then s.wakeAccess d
      else if mayGate s = false then s
      else
        let s := prepCold s d
        if coldReady s d then s.modDom d fun x => { x with moving := some .cold } else s
    | some _ => if x.st = .ember ∨ x.st = .cold then s.wakeAccess d else finishCmd s d
    | none => s

/-- Start a command with the TARGET of its register (R456, R457); an absent domain ignores it (R449). -/
def startCmd (s : State) (d : Nat) : State :=
  let t := s.fld (domReg d 0) 0 2
  let s := s.modDom d fun x => { x with refused := false, pend := none }
  if s.domPresent d = false then finishCmd s d
  else if t = 3 ∨ (d < 2 ∧ t ≠ 0) ∨ (t = 2 ∧ (d < 4 ∨ (62 ≤ d ∧ fwdInUse s (d - 62) = true))) then refuseCmd s d
  else stepCmd (s.modDom d fun x => { x with commanded := some (if t = 0 then .lit else if t = 1 then .ember else .cold) }) d

/-- Start the command that waits, once the running one is over (R457). -/
def queuedCmd (s : State) (d : Nat) : State :=
  if (s.dom d).commanded.isNone && (s.dom d).pend.isSome then startCmd s d else s

/-- GO = 1 is written: a running Ember command that has not begun gating is replaced, any other is waited for (R457). -/
def issueCmd (s : State) (d : Nat) : State :=
  match (s.dom d).commanded with
  | none => startCmd s d
  | some .ember => if (s.dom d).moving = some .ember then s.modDom d fun x => { x with pend := some .lit } else startCmd s d
  | some _ => s.modDom d fun x => { x with pend := some .lit }

/-! ## Transitions (R454, R455, R458, R460) -/

/-- Something waits at the boundary of a domain: an access, a request, a message (R458). -/
def wanted (s : State) (d : Nat) : Bool :=
  (s.reg.stalled.any fun a => a.1 == d) ||
  (if d < 4 then (List.range 64).any fun e => halfOf e == some d && (s.dom e).moving == some .lit
   else if d < 20 then (s.port (d - 4)).st == .recover || ((s.port (d - 4)).st == .linkIdle && !(s.port (d - 4)).egress.isEmpty)
   else if d < 36 then !((s.slice (d - 20)).inq.isEmpty && (s.slice (d - 20)).srsp.isEmpty && (s.slice (d - 20)).notices.isEmpty)
   else if d < 44 then !halfIdle s d || (halfPcs d).any fun p => (s.pc p).scrubDue
   else if d < 60 then s.spine.fwd.any fun h => h.msg.opc == opcAGENT_MSG && h.msg.dst == mkAgent s.devNum (d - 12)
   else if d < 62 then d == 61 && s.tel.due
   else s.spine.fwd.any fun h => (heldUnits s h).contains d)

/-- A domain has reached Ember or Cold: its command is accepted, the next one starts, and what waits wakes it. -/
def reached (s : State) (d : Nat) (t : DomSt) : State :=
  let s := if 36 ≤ d ∧ d < 44 then (halfPcs d).foldl selfEnter s else s
  let s := if t = .cold then coldLoss s d else s
  let again := (s.dom d).again
  let s := queuedCmd (stepCmd (s.modDom d fun x => { x with st := t, moving := none, extra := 0, wants := 0, again := false }) d) d
  if again || s.reg.stalled.any (fun a => a.1 == d) then s.wakeAccess d else if wanted s d then s.wake d else s

/-- Gating ends, or a command whose conditions now hold is carried through. -/
def gatingDone (s : State) (d : Nat) : State :=
  if s.domPresent d = false then s
  else match (s.dom d).moving with
    | some .ember => reached s d .ember
    | some .cold => reached s d .cold
    | some _ => s
    | none =>
      let s := stepCmd s d
      match (s.dom d).moving with
      | some .ember => reached s d .ember
      | some .cold => reached s d .cold
      | _ => s

/-- DOMAIN_GATING_COMPLETE (R460). -/
def execDomainGatingComplete (d : Nat) (s : State) : Host.Outcome State Fault Refusal := onUnit nDomains d (gatingDone s d)

/-- No handshake is in flight in a Lit domain (R451, log entry 28): nothing is queued or under way there. The read of STATE
is itself a handshake in domain 0. -/
def domStill (s : State) (d : Nat) : Bool :=
  if d = 0 then false
  else if d = 1 then s.boot.fuseBusy.isNone && s.boot.crashBusy.isNone
  else if d < 4 then s.spine.req.isEmpty && s.spine.rsp.isEmpty && s.spine.fwd.isEmpty
  else if d < 20 then (s.port (d - 4)).egress.isEmpty && (s.port (d - 4)).rxq.isEmpty
  else emberReady s d false

/-- The idle timer of a domain expires (R454, R455): IDLE is not 0, the domain Banked, its conditions hold and no wake source
is present; a port first asks for LINK_IDLE. -/
def idleExpiry (s : State) (d : Nat) : State :=
  if mayGate s && s.domPresent d && s.domLit d && s.fld (domReg d 8) 0 16 != 0 && domStill s d && !wanted s d then
    if emberReady s d true then s.modDom d fun x => { x with moving := some .ember }
    else if 4 ≤ d ∧ d < 20 then idleRequest s (d - 4) else s
  else s

/-- DOMAIN_IDLE_TIMER_EXPIRY (R454). -/
def execDomainIdleTimerExpiry (d : Nat) (s : State) : Host.Outcome State Fault Refusal := onUnit nDomains d (idleExpiry s d)

/-- DOMAIN_WAKE (R43, R449): a wake source. A register access that waits is one for every domain. -/
def execDomainWake (d : Nat) (s : State) : Host.Outcome State Fault Refusal :=
  onUnit nDomains d (if s.reg.stalled.any fun a => a.1 == d then s.wakeAccess d else s.wake d)

/-- The pseudo-channels of an HBM half are trained, with the timing values of the registers in the half's sequencers, then
leave self-refresh (R269, R288). -/
def trainHalf (s : State) (d : Nat) : State :=
  let k := (d - 36) / 2
  let q := sequencer (timRegs s k)
  let s := s.modStack k fun x => if d % 2 = 0 then { x with lo := q } else { x with hi := q }
  let s := trainPcs s (halfPcs d)
  match trainFailed s (halfPcs d) with
  | some p => trainFailErr s k p
  | none => s

/-- The domain that holds a far register, by the key of its KEEP bits (R80). -/
def farKeyDomain (key : Nat) : Nat :=
  let t := key / 2 ^ 24
  if t < 4 then 36 + 2 * t + bitsOf key 19 1 else if t < 0x20 then 4 + (t - 0x10) else if t < 0x30 then 1 else 20 + (t - 0x30)

/-- A unit is initialised again after Cold (R135, R235, R242, R288, R325, R382, R396, R460). -/
def reinit (s : State) (d : Nat) : State :=
  let s := postRestore s (inDomain d)
  let s := { s with reg := { s.reg with farKeep := s.reg.farKeep.filter fun e => farKeyDomain e.1 != d } }
  if d < 20 then s
  else if d < 36 then
    let i := d - 20
    let s := s.modSlice i fun x => { ashSlice x with disabled := !s.bit (sliceReg i 0) 0 }
    wayqWrite s i (sget wordD s.reg.postBoot (wayqKey i))
  else if d < 44 then trainHalf s d
  else s

/-- The wake event (R412). -/
def wakeEvent (s : State) (d : Nat) (left : DomSt) : State :=
  if s.bit (evtReg (if d < 32 then 0x18 else 0x1C)) (d % 32) then
    s.raise 0x02 0x20 (w32 (d + (if left = .cold then 192 else 128)))
  else s

/-- An HBM half leaves self-refresh (R287, R288); in one that returns from Ember a retraining that fell due comes before the
first request. -/
def halfWakes (s : State) (d : Nat) (left : DomSt) : State :=
  (halfPcs d).foldl (fun s p =>
    let s := selfExit s p
    if left = .ember ∧ retrainDue s p = true then s.modPc p fun x => { x with retrainFirst := true } else s) s

/-- The scrub reads that waited for an HBM half are made (R280, R449). -/
def scrubResume (s : State) (d : Nat) : State :=
  (halfPcs d).foldl (fun s p => if (s.pc p).scrubDue then scrubFalls (s.modPc p fun x => { x with scrubDue := false }) p else s) s

/-- Telemetry goes on: a blotter whose EN came back as 1 starts (R405, R540), and a dump that waited is taken (R449). -/
def telResume (s : State) (left : DomSt) : State :=
  let s := if left = .cold ∧ s.bit (telReg 0x8200) 0 = true then blotStart s else s
  if s.tel.due then dumpFalls { s with tel := { s.tel with due := false } } else s

/-- What waited for a domain goes on once it is Lit. -/
def resume (s : State) (d : Nat) (left : DomSt) : State :=
  if 20 ≤ d ∧ d < 36 then sliceResume s (d - 20)
  else if 36 ≤ d ∧ d < 44 then scrubResume s d
  else if 44 ≤ d ∧ d < 60 then knockCores s (d - 44)
  else if d = 61 then telResume s left
  else s

/-- A wake completes: everything but the accesses that wait (R460). An attached domain waits for its spine half. -/
def wakeDone (s : State) (d : Nat) : State :=
  let left := (s.dom d).from_
  let s := s.modDom d fun x => { x with st := .lit, moving := none }
  let s := if left = .cold then reinit s d else s
  let s := wakeEvent (if 36 ≤ d ∧ d < 44 then halfWakes s d left else s) d left
  resume (queuedCmd (stepCmd s d) d) d left

/-- The wake of a domain can complete. -/
def wakeReady (s : State) (d : Nat) : Bool :=
  s.domPresent d && (s.dom d).moving == some .lit &&
  (match halfOf d with
   | some h => s.domLit h
   | none => true)

/-! ## Budgets and costs (R461, R463) -/

/-- The base core voltage (R469). -/
def vSet (s : State) : Nat := max 620 (min 880 (s.fld (pwrReg 8) 0 10))

/-- The effective budget (R461): of BUDGET and BRAKE what the last pass took. -/
def effBudget (s : State) : Nat :=
  let eff := min (max 640 s.damper.budget) (min 1520 (s.fld (pwrReg 4) 0 11))
  if s.damper.braked then min eff (max 640 s.damper.brake) else eff

/-- What BUDGET and BRAKE hold takes effect (R461): at a pass, and when the boot applies its records (R470). -/
def takeBudget (s : State) : State :=
  { s with damper := { s.damper with budget := s.fld (pwrReg 0) 0 11, brake := s.fld (pwrReg 0) 16 11 } }

/-- The protected part at v millivolts: fixed, floors and minimums (R463, R465). -/
def protAt (s : State) (v : Nat) : Nat :=
  (List.range 64).foldl (fun a d => a + scaleCost v (consumer s d).1) (scaleCost v 40)

/-- The largest extra of a domain at v millivolts: its full extra, half of it for a hot stack, at most CAP (R465, R467). -/
def extraMax (s : State) (v d : Nat) : Nat :=
  let c := consumer s d
  let full := scaleCost v (c.1 + c.2) - scaleCost v c.1
  let k := (d - 36) / 2
  let hot := 36 ≤ d ∧ d < 44 ∧ (s.fld (hbmReg k 8) 0 8 : Int) < (s.stackSt k).temp
  min (if hot then full / 2 else full) (s.fld (domReg d 0xC) 16 10)

/-- All extra granted, at v millivolts (R463). -/
def granted (s : State) (v : Nat) : Nat := (List.range 64).foldl (fun a d => a + s.extraOf d v) 0

/-- The measured core power in tokens of 0.25 W (R468). -/
def measured (s : State) : Nat := s.damper.mv * s.damper.deciAmps / 2500

/-! ## The pass (R465, R466) -/

/-- Slices and HBM halves; clusters. -/
def groupOne : List Nat := (List.range 24).map (· + 20)
def groupTwo : List Nat := (List.range 16).map (· + 44)

/-- Of domains with extra, let `keep` tokens of their total remain, in proportion; the remainder goes to the
lowest-numbered domains. -/
def keepShare (total keep : Nat) (l : List (Nat × Nat)) : List (Nat × Nat) :=
  let base := l.map fun e => (e.1, e.2, if total = 0 then 0 else e.2 * keep / total)
  (base.foldl (fun (acc : List (Nat × Nat) × Nat) e =>
      if 0 < acc.2 ∧ e.2.2 < e.2.1 then (acc.1 ++ [(e.1, e.2.2 + 1)], acc.2 - 1) else (acc.1 ++ [(e.1, e.2.2)], acc.2))
    ([], keep - base.foldl (fun a e => a + e.2.2) 0)).1

/-- The extras of a list of domains. -/
def extrasOf (s : State) (v : Nat) (l : List Nat) : List (Nat × Nat) := l.map fun d => (d, s.extraOf d v)
def sumExtras (l : List (Nat × Nat)) : Nat := l.foldl (fun a e => a + e.2) 0
/-- Grant a domain so many tokens of extra at v millivolts; a grant that stands already is left as it is. -/
def setExtra (s : State) (v d n : Nat) : State :=
  if s.extraOf d v = n then s else s.modDom d fun x => { x with extra := n, extraAt := v }
def setExtras (s : State) (v : Nat) (l : List (Nat × Nat)) : State := l.foldl (fun s e => setExtra s v e.1 e.2) s

/-- Withdraw extra until `room` tokens remain: clusters first, then slices and HBM halves together, each kind losing the
same share (R465). -/
def withdraw (s : State) (v room : Nat) : State :=
  let sl := extrasOf s v ((List.range 16).map (· + 20))
  let hb := extrasOf s v ((List.range 8).map (· + 36))
  let cl := extrasOf s v groupTwo
  let one := sumExtras sl + sumExtras hb
  let keep := min one room
  let keepHb := if one = 0 then 0 else sumExtras hb * keep / one
  let s := setExtras s v (keepShare (sumExtras sl) (keep - keepHb) sl)
  let s := setExtras s v (keepShare (sumExtras hb) keepHb hb)
  setExtras s v (keepShare (sumExtras cl) (min (sumExtras cl) (room - keep)) cl)

/-- Grant requests one token at a time, round-robin from the lowest-numbered domain (R465): the first argument bounds the
rounds. Answers the tokens left. -/
def grantRounds (v : Nat) (l : List Nat) : Nat → State → Nat → State × Nat
  | 0, s, left => (s, left)
  | n + 1, s, left =>
    let r := l.foldl (fun (sl : State × Nat) d =>
      let x := sl.1.extraOf d v
      if 0 < sl.2 ∧ x < (sl.1.dom d).wants ∧ x < extraMax sl.1 v d then (setExtra sl.1 v d (x + 1), sl.2 - 1)
      else sl) (s, left)
    if r.2 = left then r else grantRounds v l n r.1 r.2

/-- The cost of the ageing raise: what it adds to the protected part (R439, R465). -/
def raiseCost (s : State) : Nat :=
  protAt s (max (costV s) (min 880 (vSet s + s.damper.raise))) - protAt s (costV s)

/-- One pass of the damper (R461–R466), which votes its budget registers (R70). -/
def damperPass (s : State) : State :=
  let s := takeBudget (voteBudget s)
  let s := { s with damper := { s.damper with braked := s.damper.pin || s.damper.hot } }
  let v := costV s
  let s := (List.range 64).foldl (fun s d => setExtra s v d (min (s.extraOf d v) (extraMax s v d))) s
  let prot := protAt s v
  let short := measured s - (prot + granted s v)
  let eff := effBudget s
  let s := if eff < prot + short then
      let s := setExtras s v ((groupOne ++ groupTwo).map fun d => (d, 0))
      ({ s with damper := { s.damper with raise := 0 } }).setErr (pwrReg 0x18) 2 0x02 (s.rd (pwrReg 0x1C))
    else
      let pool := eff - prot - short
      let cost := raiseCost s
      if pool < granted s v + cost then
        let s := withdraw s v (pool - cost)
        if pool < cost then { s with damper := { s.damper with raise := 0 } } else s
      else
        let r := grantRounds v groupOne 64 s (pool - cost - granted s v)
        let r := grantRounds v groupTwo 64 r.1 r.2
        (groupOne ++ groupTwo).foldl (fun s d => s.modDom d fun x => { x with wants := 0 }) r.1
  { s with damper := { s.damper with model := protAt s v + granted s v, short := short } }

/-- DAMPER_PASS (R465). -/
def execDamperPass (s : State) : Host.Outcome State Fault Refusal := .next (if s.boot.released then damperPass s else s)

/-- EXTRA_REQUEST (R465): a consumer that waits at its rate limit asks for its full extra. -/
def execExtraRequest (d : Nat) (s : State) : Host.Outcome State Fault Refusal :=
  onUnit nDomains d (if s.domLit d && (consumer s d).2 != 0 then
    s.modDom d fun x => { x with wants := extraMax s (costV s) d } else s)

/-- EXTRA_RETURN (R465): a consumer gives back extra it has not used. -/
def execExtraReturn (d : Nat) (s : State) : Host.Outcome State Fault Refusal :=
  onUnit nDomains d (s.modDom d fun x => { x with extra := 0, wants := 0 })

/-- The brake takes effect (R462): every consumer runs within the brake budget, then BRAKED sets. -/
def brakeOn (s : State) : State := damperPass { s with damper := { s.damper with pin := true } }

/-- PWR_BRAKE_ASSERT (R462): a level shorter than 100 ns is ignored, and so is the ball before release. -/
def execPwrBrakeAssert (lowNs : Nat) (s : State) : Host.Outcome State Fault Refusal :=
  .next (if lowNs < 100 then s
    else
      let s := { s with pins := { s.pins with brakeN := false } }
      if s.boot.released then brakeOn s else s)

/-- PWR_BRAKE_RELEASE (R462): the budget returns at the next pass. -/
def execPwrBrakeRelease (s : State) : Host.Outcome State Fault Refusal :=
  .next { s with pins := { s.pins with brakeN := true }, damper := { s.damper with pin := false } }

/-! ## Core voltage (R439, R468–R471) -/

/-- AVSBus frames failed three times (R471). -/
def avsFail (s : State) : State :=
  ({ s with damper := { s.damper with avsHold := true, raise := 0 } }).setErr (pwrReg 0x18) 0 0x02 (s.rd (pwrReg 0x1C))

/-- A good frame: the hold ends; an alert of the regulator is recorded (R471). -/
def avsGood (s : State) (r : AvsReply) : State :=
  let s := { s with damper := { s.damper with avsHold := false } }
  if r.status = 0 then s
  else
    let s := s.setFld (pwrReg 0x1C) 8 8 r.status.toNat
    s.setErr (pwrReg 0x18) 1 0x02 (s.rd (pwrReg 0x1C))

/-- The damper has the regulator (R470, R473): no frame goes out before step 5. -/
def avsLive (s : State) : Bool := !s.boot.inReset && decide (5 < s.boot.step)

/-- AVS_POLL (R468): voltage, current and status are read. -/
def execAvsPoll (r : AvsReply) (s : State) : Host.Outcome State Fault Refusal :=
  .next (if avsLive s = false then s
    else if r.ok then avsGood { s with damper := { s.damper with mv := r.mv % 1024, deciAmps := r.deciAmps % 65536 } } r
    else avsFail s)

/-- The largest AGE of the Lit domains (R439). -/
def worstAge (s : State) : Nat :=
  (List.range 64).foldl (fun a d => if s.domLit d then max a (sget zeroD s.damper.age d) else a) 0

/-- The raise that ageing calls for, in millivolts, never above 0.88 V (R439). -/
def raiseWanted (s : State) : Nat :=
  if s.bit (pwrReg 0x8100) 0 then min (5 * ((worstAge s - 1024) / 10)) (880 - vSet s) else 0

/-- Every grant at voltage w is covered (R469). -/
def covered (s : State) (w : Nat) : Bool := decide (protAt s w + granted s w + s.damper.short ≤ effBudget s)

/-- The raise moves by at most 5 mV toward what ageing calls for; up only where the pool covers it (R439, R465). -/
def moveRaise (s : State) : State :=
  let want := raiseWanted s
  let r := s.damper.raise
  if r < want then
    let r' := min want (r + 5)
    if covered s (min 880 (vSet s + r')) then { s with damper := { s.damper with raise := r' } } else s
  else { s with damper := { s.damper with raise := max want (r - 5) } }

/-- The target moves by one step toward V_SET plus the raise, up only where every grant at the higher cost is covered (R469). -/
def moveTarget (s : State) : State :=
  let goal := max 620 (min 880 (vSet s + s.damper.raise))
  let v := s.damper.target
  if v < goal then
    let w := min goal (v + 5)
    if covered s w then { s with damper := { s.damper with target := w } } else s
  else { s with damper := { s.damper with target := max goal (v - 5) } }

/-- AVS_VOLTAGE_STEP (R469): the next step is written; while voltage is held the frame only tries the regulator (R471). -/
def execAvsVoltageStep (r : AvsReply) (s : State) : Host.Outcome State Fault Refusal :=
  .next (if avsLive s = false then s
    else if r.ok = false then avsFail s
    else if s.damper.avsHold then avsGood s r
    else moveTarget (moveRaise (voteBudget (avsGood s r))))

/-! ## Temperature (R273, R434–R436, R467) -/

/-- Every domain but 0 and 1 goes Cold at once, without a drain (R431 step 5). -/
def allCold (s : State) : State :=
  (List.range 62).foldl (fun s i =>
    let d := i + 2
    (coldLoss s d).modDom d fun x =>
      { x with st := .cold, moving := none, commanded := none, pend := none, extra := 0, wants := 0, again := false }) s

/-- The INFO word of THERM_WARN and THERM_TRIP (R430). -/
def thermInfo (t : Int) (sensor : Nat) : Word := w32 ((t % 256).toNat + 256 * sensor)

/-- A reading above its trip point: the fatal state, and every switchable domain Cold (R431, R436). -/
def thermTrip (s : State) (t : Int) (sensor : Nat) : State := allCold (fatalErr s (evtReg 0x20) 3 0x03 (thermInfo t sensor))

/-- The highest reading of a list. -/
def hottest (l : List Int) : Int := l.foldl max (l.headD 0)

/-- A reading is judged (R435, R436): the brake budget holds from above 105 °C until every reading is at or below 100 °C. -/
def thermJudge (s : State) (t : Int) (sensor : Nat) (trip : Int) : State :=
  let cool := (s.damper.temps.all fun x => decide (x ≤ 100)) &&
    (List.range nStacks).all fun k => !s.stackPresent k || decide ((s.stackSt k).temp ≤ 100)
  let s := if 105 < t then
      ({ s with damper := { s.damper with hot := true } }).setErr (evtReg 0x20) 2 0x03 (thermInfo t sensor)
    else if cool then { s with damper := { s.damper with hot := false } } else s
  if trip < t then thermTrip s t sensor else s

/-- DAMPER_TEMP_READ (R434): the 24 junction sensors in the order of PWR_TEMP.SENSOR. -/
def execDamperTempRead (temps : List Int) (s : State) : Host.Outcome State Fault Refusal :=
  .next (if temps = [] then s
    else thermJudge { s with damper := { s.damper with temps := temps.take 24 } } (hottest (temps.take 24)) 0 115)

/-- A stack's temperature is read (R273). -/
def stackTemp (s : State) (k : Nat) (t : Int) : State :=
  let s := s.modStack k fun x => { x with temp := t, ref2x := if 85 < t then true else if t ≤ 83 then false else x.ref2x }
  let s := if (s.fld (hbmReg k 8) 0 8 : Int) < t then s.setErr (hbmReg k 0x30) 7 (0x40 + k) (w32 (t % 256).toNat) else s
  thermJudge s t (1 + k) 110

/-- STACK_TEMP_READ (R273): by a controller that has power; the highest of the die readings counts. -/
def execStackTempRead (k : Nat) (temps : List Int) (s : State) : Host.Outcome State Fault Refusal :=
  onUnit nStacks k (if !temps.isEmpty && s.stackPresent k && !(s.domSt (36 + 2 * k) == .cold && s.domSt (37 + 2 * k) == .cold)
    then stackTemp s k (hottest temps) else s)

/-! ## Ageing and service life (R438–R443) -/

/-- AGE_MEASURE (R438, R440): `delay` is the worst monitor of the domain against its beginning-of-life delay, in 1/1,024. -/
def execAgeMeasure (domain delay : Nat) (s : State) : Host.Outcome State Fault Refusal :=
  onUnit nDomains domain (
    if 2 ≤ domain ∧ s.domLit domain = true then
      let a := delay % 4096
      let s := { s with damper := { s.damper with age := sset zeroD s.damper.age domain a,
                                                  ageValid := sset zeroD s.damper.ageValid domain 1 } }
      if s.fld (pwrReg 0x8100) 16 12 < a then s.setErr (evtReg 0x20) 8 0x03 (w32 (domain + 2 ^ 16 * a)) else s
    else s)

/-- AFv in 1/48000 at so many millivolts (R442). -/
def factorV (mv : Nat) : Nat :=
  if mv < 620 then freeAgeing mv
  else if mv ≤ 700 then 14400 + 150 * (mv - 620)
  else if mv ≤ 750 then 26400 + 192 * (mv - 700)
  else if mv ≤ 800 then 36000 + 240 * (mv - 750)
  else if mv ≤ 850 then 48000 + 432 * (mv - 800)
  else if mv ≤ 880 then 69600 + 560 * (mv - 850)
  else freeAgeing mv

/-- AFt in 1/3600 at so many degrees (R442). -/
def factorT (t : Int) : Nat :=
  if t < 0 then freeAgeing t
  else
    let c := t.toNat
    if c ≤ 45 then 180 + 8 * c
    else if c ≤ 65 then 540 + 45 * (c - 45)
    else if c ≤ 85 then 1440 + 108 * (c - 65)
    else if c ≤ 95 then 3600 + 198 * (c - 85)
    else if c ≤ 105 then 5580 + 306 * (c - 95)
    else freeAgeing t

/-- PWR_WEAR in equivalent milliseconds (R441). -/
def wearMs (s : State) : Nat := s.damper.wear / 172800000

/-- WEAR_ACCUMULATE (R442, R443): a millisecond at a mean core voltage and a highest junction reading. -/
def execWearAccumulate (mv : Nat) (degC : Int) (s : State) : Host.Outcome State Fault Refusal :=
  .next (
    let s := { s with damper := { s.damper with wear := s.damper.wear + factorV mv * factorT degC } }
    if 1262304000000 < wearMs s then s.setErr (evtReg 0x20) 9 0x03 0 else s)

/-! ## The fatal state by command (R431, R437) -/

/-- HANG (R437): a handshake of a Lit domain is unanswered for 1 ms. -/
def execHang (domain : Nat) (s : State) : Host.Outcome State Fault Refusal :=
  onUnit nDomains domain (if s.domLit domain then fatalErr s (evtReg 0x20) 4 0x03 (w32 domain) else s)

/-- The bit of a fatal error (R420): its error register and bit, where source and code name a fatal error. -/
def fatalBit (source code : Nat) : Option (Nat × Nat) :=
  if source = 3 ∧ (code = 0x11 ∨ code = 0x13 ∨ code = 0x14 ∨ code = 0x15) then some (evtReg 0x20, code - 0x10)
  else if 0x20 ≤ source ∧ source < 0x30 ∧ code = 0x12 then some (sliceReg (source - 0x20) 0x88, 2)
  else if 0x40 ≤ source ∧ source < 0x44 ∧ code = 0x16 then some (hbmReg (source - 0x40) 0x30, 6)
  else none

/-- ENTER_FATAL_STATE (R431): for a fatal error of R420. TAG_UE leaves its way and set in SLC_ERR_INFO, with KIND 3 (R429). -/
def execEnterFatalState (source : BitVec 8) (code : BitVec 7) (info : Word) (s : State) :
    Host.Outcome State Fault Refusal :=
  .next (match fatalBit source.toNat code.toNat with
    | some (off, i) =>
      let s := if code.toNat = 0x12 then s.wr (sliceReg (source.toNat - 0x20) 0x8C) (w32 (info.toNat % 2 ^ 22 + 2 ^ 22 * 3)) else s
      let s := fatalErr s off i source.toNat info
      if source.toNat = 3 ∧ code.toNat = 0x13 then allCold s else s
    | none => s)

end Sys2Proof.Machine
end

