-- ==== Sys2Proof/Machine/Timebase.lean ====
section
/-! DEFINITION. The timebase and the reference clocks (R88, R89, R433), and the counters that count grains (R393). -/
namespace Sys2Proof.Machine
open Config

/-- Channels of a port whose oldest message lacks credits (R393, slot 13): in ACTIVE, and in RECOVER, which keeps messages and credits
(R122). -/
def creditStalls (s : State) (p : Nat) : Nat :=
  let x := s.port p
  if x.st = .active ∨ x.st = .recover then
    ((List.range 6).filter fun v => match x.egress.find? fun m => m.vc == v with
      | some m => !mayLeave (s.isFabric p) x.txCred m
      | none => false).length
  else 0

/-- The head of a slice's request input waits for a miss register (R217, R393). -/
def missStall (s : State) (i : Nat) : Nat :=
  if (s.slice i).inq.isEmpty = false ∧ 512 ≤ missUsed s i then 1 else 0

/-- Pseudo-channels of a stack that are stalled (R393, slot 15): those of a half that is not Cold which are not trained, or
retrain before they serve a request (R278, R287). -/
def stalledPcs (s : State) (k : Nat) : Nat :=
  (s.pcs.filter fun e => decide (e.1 / 32 = k) && s.domSt (pcDomain e.1) != .cold && (!e.2.trained || mustRetrain s e.1)).length

/-- Cores of a cluster in WFD (R393, slot 14). -/
def wfdCores (s : State) (c : Nat) : Nat := ((List.range 8).filter fun j => (s.core (8 * c + j)).st == .wfd).length

/-- Engines that hold a descriptor, and inkwells that can start one while no engine is free (R393). -/
def enginesBusy (s : State) : Nat := ((List.range nEngines).filter fun e => (s.engine e).work.isSome).length
def startStalls (s : State) : Nat :=
  if (lowestFree s).isSome then 0 else ((List.range nInkwells).filter fun n => inkActive s n && canFetch s n).length

/-- Add to a counter unless nothing is to be added. -/
def State.countSome (s : State) (g i n : Nat) : State := if n = 0 then s else s.count g i n

/-- One grain of every condition that a ...GRAINS counter counts (R393). -/
def countGrain (s : State) : State :=
  let s := s.portsList.foldl (fun s p => s.countSome p 13 (creditStalls s p)) s
  let s := s.sliceList.foldl (fun s i => s.countSome (16 + i) 13 (missStall s i)) s
  let s := (List.range nStacks).foldl (fun s k => s.countSome (32 + k) 15 (stalledPcs s k)) s
  let s := (List.range nClusters).foldl (fun s c => s.countSome (36 + c) 14 (wfdCores s c)) s
  let s := (s.countSome 52 14 (enginesBusy s)).countSome 52 15 (startStalls s)
  s.countSome 53 13 (b2n s.damper.pin)

/-- A window of R464 ends: requests that a grant held at the input of a slice go on. -/
def nextWindow (s : State) : State :=
  s.sliceList.foldl (fun s i => if (s.slice i).inq.isEmpty then s else settle s i) s.newWindow

/-- TIMEBASE_TICK (R88, R89): one grain, while the timebase is locked. A window of R464 is 1,000 grains; while the timebase is
not locked every tick opens one (log entry 77). -/
def execTimebaseTick (s : State) : Host.Outcome State Fault Refusal :=
  .next (if s.tb.locked then
      let s := countGrain { s with tb := { s.tb with count := s.tb.count + 1 } }
      if s.tb.count.toNat % 1000 = 0 then nextWindow s else s
    else nextWindow s)

/-- REFCLKq is lost (R95, R248, R433, R519): ACTIVE ports of q go down, stack q stops and loses its contents, q = 0 takes the
lock. A device in reset uses no clock yet: a missing one is found by the power-up (R525). -/
def refclkLost (s : State) (q : Nat) : State :=
  let s := { s with phys := { s.phys with refclk := lmod s.phys.refclk q fun _ => false } }
  if s.boot.inReset then s
  else
  let s := (List.range 4).foldl (fun s i =>
    if s.portPresent (4 * q + i) && (s.port (4 * q + i)).st == .active then linkDown s (4 * q + i) 10 else s) s
  let s := if q = 0 then ({ s with tb := { s.tb with locked := false } }).setErr 0x28 1 0x00 0 else s
  if s.stackPresent q then
    let s := { s with hbm := s.hbm.filter fun e => (hbmLoc s.ten e.1).pc / 32 != q }.modStack q fun x => { x with lost := true }
    let s := (List.range 32).foldl (fun s i => s.modPc (32 * q + i) fun x => { x with trained := false }) s
    fatalErr s (evtReg 0x20) 1 0x03 (w32 (2 ^ q))
  else s

/-- REFCLK_LOSS (R433). -/
def execRefclkLoss (q : Nat) (s : State) : Host.Outcome State Fault Refusal :=
  onUnit 4 q (if s.phys.refclk.getD q false then refclkLost s q else s)

end Sys2Proof.Machine
end

