-- ==== Sys2Proof/Machine/Boot.lean ====
section
/-! DEFINITION. Power-up, the configuration image, the resets, release, lifecycle, fuses and the crash log (R445–R448,
R473–R494). -/
namespace Sys2Proof.Machine
open Config

/-! ## Checking an image (R476, R480–R485, R496) -/

/-- The mode that will hold after boot (R13, R14, R495): the mode selected since the last cold reset, else what COMPAT_LOCK or
the record says. So a warm reset that retries a cold boot which failed before a mode was selected selects it (DESIGN
CHOICE, log entry 71). -/
def modeAfter (fuses : Fuses) (held : Option Bool) (recs : List Record) : Bool :=
  match held with
  | some b => b
  | none => fuses.compatLock || ((recs.filter fun r => r.type == 1).getLast?.map fun r => (r.words.headD 0).getLsbD 0).getD false

/-- The fields that a REG record may write: cfg, not RO (R485). -/
def cfgMask (off : Nat) : Nat := maskOf (regFields off) fun f => f.src == .cfg && f.ty != .ro

/-- The blocks that a REG record may name (R485). -/
def regBlockOk : Block → Bool
  | .ident | .boot | .cxImage | .gap | .doorbell _ => false
  | .slice i => i == 0
  | .hbm k => k == 0
  | .scribe c => c == 0
  | _ => true

/-- A 32-bit value holds no bit outside a mask. -/
def within (v mask : Nat) : Bool := v &&& mask == v

/-- Word i of a record. -/
def recWord (r : Record) (i : Nat) : Nat := (r.words.getD i 0).toNat

/-- A PORT record (R4, R93, R483, R484, R496). One that names an absent port passes the checks that judge the port (log entry
65). -/
def portRecOk (devId : Nat) (compat : Bool) (r : Record) : Bool :=
  let w := recWord r 0
  let fabric := w.testBit 8
  let lean := !w.testBit 10
  let absent := (devId == 0x8610 || compat) && decide (8 ≤ w % 16)
  within w 0xFF0F && within (recWord r 1) 0xFFFFF && (absent || (!(w.testBit 9 && lean) && !(fabric && devId == 0x8610) &&
    !(compat && (fabric || lean || (bitsOf w 11 2 == 0 && w.testBit 15)))))

/-- A CRASHLOG record: clear of the image slots, whole erase sectors, two at least (R484). -/
def crashRecOk (sector : Nat) (r : Record) : Bool :=
  let off := recWord r 0
  let size := recWord r 1
  decide (0x80000 ≤ off) && (sector == 0 || (off % sector == 0 && size % sector == 0)) && decide (2 * sector ≤ size) && decide (0 < size)

/-- A record passes the checks that judge it alone (R483–R485, R496). -/
def recordOk (fuses : Fuses) (sector : Nat) (compat : Bool) (r : Record) : Bool :=
  let w := recWord r 0
  let len := fun n => r.len == n && r.words.length == n / 4
  let nsid := if fuses.devId.toNat = 0x8632 then 3 else 4
  match r.type with
  | 1 => len 4 && within w 1
  | 2 => len 4 && within w 15
  | 3 => len 8 && within w 0x3FFF && within (recWord r 1) 0x3FFFFFF
  | 4 => len 4 && within w 0xFFFFFF01
  | 5 => len 8 && portRecOk fuses.devId.toNat compat r
  | 6 => len 8 && within w 0x1FFF && within (recWord r 1) 0x7FFF &&
         ((fuses.devId.toNat == 0x8610 && decide (2 ≤ w % 4)) || (decide (bitsOf w 7 2 < nsid) && decide (recWord r 1 < 24576)))
  | 7 => len 8 && crashRecOk sector r
  | 8 => len 8 && within w 0x3FFFFFF && w % 4 == 0 && !(regFields w).isEmpty && regBlockOk (blockAt w) &&
         within (recWord r 1) (cfgMask w)
  | 9 => len 8 && w == 0x30000000 && within (recWord r 1) 0xFFFF
  | t => t.testBit 15

/-- The first record that is invalid: its bytes run past the start of the signature block, or a check fails. `at_` is where
the record begins, `i` its index. -/
def firstBad (ok : Record → Bool) (limit : Nat) : List Record → Nat → Nat → Option Nat
  | [], _, _ => none
  | r :: t, at_, i => if limit < at_ + 4 + r.len ∨ ok r = false then some i else firstBad ok limit t (at_ + 4 + r.len) (i + 1)

/-! ## Applying records (R485) -/

/-- The value of a cfg write: in compatibility mode no inkwell is enabled (R382) and LEAD_DIS stays 1 (R502). -/
def cfgValue (s : State) (off v : Nat) : Nat :=
  if s.compat = true ∧ off = dirReg 0 then v ||| 1
  else if s.compat = true ∧ inkReg 0 0 ≤ off ∧ off < inkReg nInkwells 0 ∧ (off - inkReg 0 0) % 0x40 = 0 then v / 2 * 2 else v

/-- Write cfg fields of one register; a W1L register locks (R58, R485), and an EN that becomes 1 starts the blotter (R405). -/
def cfgWrite (s : State) (off : Nat) (v : Nat) : State :=
  let v := cfgValue s off v
  let starts := off == telReg 0x8200 && !s.bit off 0 && v.testBit 0
  let s := s.wr off (w32 (((s.rd off).toNat &&& (2 ^ 32 - 1 - cfgMask off)) ||| v))
  if (regFields off).any fun f => f.ty == .w1l then
    { s with reg := { s.reg with locks := sset lockD s.reg.locks off ⟨1, 1, 1⟩,
                                 postLocked := sset wordD s.reg.postLocked off 1 } }
  else if starts then blotStart s else s

/-- The offsets that a REG record reaches: unit 0 of slices, stacks and clusters stands for every present one (R485). -/
def regTargets (s : State) (off : Nat) : List Nat :=
  match blockAt off with
  | .slice _ => s.sliceList.map fun i => off + 0x10000 * i
  | .hbm _ => ((List.range nStacks).filter s.stackPresent).map fun k => off + 0x10000 * k
  | .scribe _ => ((List.range nClusters).filter s.clusterPresent).map fun c => off + 0x10000 * c
  | b => if s.blockPresent b then [off] else []

/-- A PORT record (R483). -/
def applyPort (s : State) (r : Record) : State :=
  let w := recWord r 0
  let p := w % 16
  if s.portPresent p then
    let s := s.wr (portReg p 0) (w32 (bitsOf w 8 3 + 2 ^ 3 * b2n s.compat + 2 ^ 4 * bitsOf w 11 2 + 2 ^ 8 * bitsOf w 13 2))
    let s := s.setFld (portReg p 4) 0 1 (bitsOf w 15 1)
    s.wr (portReg p 0x14) (w32 (recWord r 1))
  else s

/-- Apply one record; those of step 6, of the mode and of absent units change nothing here (R484, R496). -/
def applyRecord (s : State) (r : Record) : State :=
  let w := recWord r 0
  match r.type with
  | 2 => if s.compat then s else s.setFld 0x8 4 4 w
  | 3 => (s.wr (bootReg 0x14) (w32 w)).wr (bootReg 0x18) (w32 (recWord r 1))
  | 4 => s.wr (bootReg 0x10) (w32 w)
  | 5 => applyPort s r
  | 7 => (s.wr (bootReg 0x1C) (w32 w)).wr (bootReg 0x20) (w32 (recWord r 1))
  | 8 => (regTargets s w).foldl (fun s off => cfgWrite s off (recWord r 1)) s
  | 9 => s.sliceList.foldl (fun s i =>
      wayqWrite { s with reg := { s.reg with postBoot := sset regReset s.reg.postBoot (wayqKey i) (w32 (recWord r 1)) } } i
        (w32 (recWord r 1))) s
  | _ => s

/-- The agents that AGENT_EN enables on host-role ports with EN = 1: the default of the device's own DIR_BCAST (R201). -/
def bcastDefault (s : State) : Nat :=
  s.portsList.foldl (fun a p => if s.portEn p then a + s.agentEn p * 2 ^ (2 * p) else a) 0

/-- The defaults that depend on the mode and on the records (R201, R214, R498, R499, R502). -/
def bootDefaults (s : State) (compat : Bool) (recs : List Record) : State :=
  let s := s.setFld 0x8 0 1 (b2n compat)
  let s := if compat then
      let s := (List.range 8).foldl (fun s p => s.setFld (portReg p 0) 3 1 1) s
      let s := s.sliceList.foldl (fun s i => s.setFld (sliceReg i 0) 4 2 1) s
      s.setFld (dirReg 0) 0 1 1
    else s
  let t := recs.foldl applyRecord s
  (s.wr (dirReg 0x100) 0).wr (dirReg (0x100 + 4 * t.devNum)) (w32 (bcastDefault t))

/-- The registers once the records are applied. -/
def applyAll (s : State) (compat : Bool) (recs : List Record) : State := recs.foldl applyRecord (bootDefaults s compat recs)

/-! ## Overlaps (R38, R165) -/

/-- The windows and route entries as (set, base, end): set 0 the home window, 1 the control window, 2 + d entry d. Every
entry with VALID = 1 counts, also one that R162 or R164 ignores (DESIGN CHOICE, log entry 75). -/
def windows (s : State) : List (Nat × Nat × Nat) :=
  let home := s.fld (bootReg 0x14) 0 14 * 2 ^ 38
  let cw := s.fld (bootReg 0x18) 0 26 * 2 ^ 26
  [(0, home, home + s.homeGiB * 2 ^ 30), (1, cw, cw + 2 ^ 26)] ++
  (List.range 16).flatMap fun d =>
    let o := fun rel => dirReg (rel + 0x10 * d)
    if s.bit (o 0x1000) 0 then
      let b := s.fld (o 0x1004) 0 14 * 2 ^ 38
      let c := s.fld (o 0x1008) 0 26 * 2 ^ 26
      [(2 + d, b, b + routeSize (s.fld (o 0x1004) 16 5) * 2 ^ 34)] ++ (if s.bit (o 0x1008) 31 then [(2 + d, c, c + 2 ^ 26)] else [])
    else []

/-- The sets that overlap another. -/
def overlapping (l : List (Nat × Nat × Nat)) : List Nat :=
  (l.filter fun a => l.any fun b => a.1 != b.1 && decide (a.2.1 < b.2.2) && decide (b.2.1 < a.2.2)).map fun a => a.1

/-- The sets that a record sets. -/
def setsOf (r : Record) : List Nat :=
  if r.type = 3 then [0, 1]
  else
    let rel := recWord r 0 - 0x301000
    if r.type = 8 ∧ 0x301000 ≤ recWord r 0 ∧ rel < 0x100 then [2 + rel / 16] else []

/-- The index of the last record that set any of the overlapping windows or entries, where some overlap (R476). -/
def overlapAt (s : State) (compat : Bool) (recs : List Record) : Option Nat :=
  let sets := overlapping (windows (applyAll s compat recs))
  if sets.isEmpty then none
  else some (((List.range recs.length).filter fun i => match recs[i]? with
    | some r => (setsOf r).any fun x => sets.contains x
    | none => false).getLastD 0)

/-! ## The bytes of a slot (R479–R481) -/

/-- The first n bytes of a slot; a byte that nothing was written to is erased, all ones (PRESUMED, log entry 4). -/
def slotBytes (l : List Byte) (n : Nat) : List Byte := (l ++ List.replicate (n - l.length) 0xFF).take n

/-- The little-endian number of n bytes at a place. -/
def leAt (l : List Byte) (at_ n : Nat) : Nat := ofBytesLE ((l.drop at_).take n)

/-- The records of an image, from the bytes that follow its header (R481). -/
def parseRecords : Nat → List Byte → List Record
  | 0, _ => []
  | n + 1, l =>
    let len := leAt l 2 2
    let v := (l.drop 4).take len
    ⟨leAt l 0 2, len, (List.range (v.length / 4)).map fun i => w32 (leAt v (4 * i) 4)⟩ :: parseRecords n (l.drop (4 + len))

/-- The signature block of an image (R481): the SHA-384 of the key, as KEY_HASH holds it, and whether the signature over the bytes
before the block verifies under that key. -/
def keyDigest (block : List Byte) : BitVec 384 :=
  BitVec.ofNat 384 (ofBytesLE ((List.range 48).map fun i => (sha384 (block.take 97)).extractLsb' (8 * (47 - i)) 8))
def sigGood (body block : List Byte) : Bool :=
  let be := fun at_ => ofBytesBE ((block.drop at_).take 48)
  block.headD 0 == 4 && ecdsaGood (sha384 body).toNat (be 1) (be 49) (be 100) (be 148)

/-- The header is valid (R480). -/
def headerOk (i : Image) : Bool :=
  i.magic == 0x4643544E && i.format == 1 && decide (264 ≤ i.length) && i.length % 4 == 0 && decide (i.length ≤ 262144)

/-- What the boot sequencer reads of a slot (R480, R481): the header, and where that is valid the records and the signature block.
As many records as the header counts are read, so long as they can lie in the image. -/
def readImage (slot : List Byte) : Image :=
  let h := slotBytes slot 64
  let head : Image :=
    { magic := w32 (leAt h 0 4), format := BitVec.ofNat 16 (leAt h 4 2), devId := BitVec.ofNat 16 (leAt h 6 2), length := leAt h 8 4,
      imageId := BitVec.ofNat 64 (leAt h 16 8), records := [], keyDigest := 0, sigGood := false }
  if headerOk head = false then head
  else
    let all := slotBytes slot head.length
    let block := all.drop (head.length - 200)
    { head with records := parseRecords (min (leAt h 12 4) (head.length / 4)) (all.drop 64), keyDigest := keyDigest block,
                sigGood := sigGood (all.take (head.length - 200)) block }

/-! ## The slots (R476, R479–R482) -/

/-- The cause for which an image fails, 0 where it passes, and the record it names (R476, R482). -/
def imageCause (s : State) (i : Image) : Nat × Nat :=
  let f := s.boot.shadow
  if headerOk i = false then (3, 0)
  else if i.devId ≠ 0 ∧ i.devId ≠ f.devId then (5, 0)
  else if s.lifecycle ≠ 0 ∧ (i.keyDigest ≠ f.keyHash ∨ i.sigGood = false) then (4, 0)
  else
    let compat := modeAfter f s.boot.mode i.records
    match firstBad (recordOk f s.nv.flash.sector compat) (i.length - 200) i.records 64 0 with
    | some n => (6, n)
    | none => match overlapAt s compat i.records with
      | some n => (6, n)
      | none => (0, 0)

/-- A boot failure (R476): the sequence stops, the cause is recorded and raised. -/
def bootFail (s : State) (step cause causeA unit rec : Nat) : State :=
  let v := w32 (cause + 16 * causeA + 256 * unit + 2 ^ 16 * rec)
  (({ s with boot := { s.boot with failed := true, step := step } }).wr (bootReg 4) v).raise 0x01 0x20 v

/-- Slot B is used, slot A having failed with this cause (R476, R479). -/
def useSlotB (s : State) (causeA : Nat) : State :=
  (({ s with boot := { s.boot with slotB := true } }).wr (bootReg 4) (w32 (16 * causeA))).raise 0x01 0x21 (w32 causeA)

/-! ## The steps of R473 -/

/-- The rows that the image asks to repair in stack k, in image order (R284, R483). -/
def repairRows (k : Nat) (recs : List Record) : List RowId :=
  (recs.filter fun r => r.type == 6 && recWord r 0 % 4 == k).map fun r =>
    let w := recWord r 0
    ⟨k, bitsOf w 2 5, bitsOf w 7 2, bitsOf w 9 4, recWord r 1⟩

/-- A hard repair is attempted (R284); how many resources the stack has left is not stated (log entry 3). -/
def hardRepair (s : State) (r : RowId) : State :=
  let info := rowInfo r.pc r.sid r.bank r.row
  match s.freeB with
  | (s, true) =>
    let s := { s with nv := { s.nv with hard := s.nv.hard ++ [r] } }
    ((pprLog s r.k r.pc r.sid r.bank r.row true).setErr (hbmReg r.k 0x30) 3 (0x40 + r.k) info).count (32 + r.k) 14 1
  | (s, false) => s.setErr (hbmReg r.k 0x30) 4 (0x40 + r.k) info

/-- The hard repairs of stack k, in image order (R284): a row already repaired is skipped, then at most eight are attempted. -/
def hardRepairs (recs : List Record) (s : State) (k : Nat) : State :=
  ((repairRows k recs).foldl (fun (a : State × Nat) r =>
    if a.1.nv.hard.contains r || decide (8 ≤ a.2) then a else (hardRepair a.1 r, a.2 + 1)) (s, 0)).1

/-- Step 7: ports with EN = 1 begin training, others stay DOWN (R119, R473). -/
def startPorts (s : State) : State :=
  s.portsList.foldl (fun s p => if s.portEn p then s.modPort p fun x => { x with st := .detect } else s) s

/-- Every port in DOWN: so they are in a reset and until step 7 (R119, R133). -/
def portsDown : Store Port := (List.range nPorts).map fun p => (p, Port.fresh .down)

/-- The pseudo-channels of a stack. -/
def stackPcs (k : Nat) : List Nat := (List.range 32).map fun i => 32 * k + i

/-- Every pseudo-channel untrained: so they are in a reset and until step 6 (R275). -/
def pcsUntrained : Store Pc := (List.range nPcs).map fun p => (p, { pcD p with trained := false })

/-- Steps 6 and 7 (R269, R275, R276, R284, R285, R288, R289): a kept HBM is trained without checks, repairs or wipe, then
leaves self-refresh. Every stack that fails sets its TRAIN_FAIL; the lowest is the one recorded. -/
def bootHbm (s : State) (recs : List Record) (keep : Bool) : State :=
  let ks := (List.range nStacks).filter s.stackPresent
  let wrong := if keep then [] else ks.filter fun k => !s.phys.stackIdOk.getD k false
  let s := wrong.foldl (fun s k => s.setErr (hbmReg k 0x30) 6 (0x40 + k) 0) s
  match wrong with
  | k :: _ => bootFail s 6 8 (s.fld (bootReg 4) 4 4) k 0
  | [] =>
    let s := ks.foldl (fun s k => s.modStack k fun x => { x with lo := sequencer (timRegs s k), hi := sequencer (timRegs s k) }) s
    let s := trainPcs s (ks.flatMap stackPcs)
    let bad := ks.filter fun k => (trainFailed s (stackPcs k)).isSome
    let s := bad.foldl (fun s k => trainFailErr s k ((trainFailed s (stackPcs k)).getD 0)) s
    match bad with
    | k :: _ => bootFail s 6 7 (s.fld (bootReg 4) 4 4) k 0
    | [] =>
      let s := if keep then (ks.flatMap stackPcs).foldl selfExit s else wipe (ks.foldl (hardRepairs recs) s)
      startPorts { s with boot := { s.boot with step := 7 } }

/-- Step 5 on: the records are applied, the registers they leave are the post-boot values, and the damper takes the
regulator and its budget (R461, R470, R485, R540). -/
def bootRecords (s : State) (compat keep : Bool) (recs : List Record) (imageId : DWord) : State :=
  let s := (s.wr (bootReg 8) (w32 imageId.toNat)).wr (bootReg 0xC) (w32 (imageId.toNat / 2 ^ 32))
  let s := applyAll { s with boot := { s.boot with mode := some compat } } compat recs
  let post := s.reg.tv.foldl (fun f e => sset regReset f e.1 e.2.maj) (s.reg.file.foldl (fun f e => sset regReset f e.1 e.2) s.reg.postBoot)
  let s := { s with reg := { s.reg with postBoot := post } }
  let s := s.sliceList.foldl (fun s i => s.modSlice i fun x => { x with disabled := !s.bit (sliceReg i 0) 0 }) s
  bootHbm (takeBudget { s with boot := { s.boot with step := 6 } }) recs keep

/-- Step 4: slot A, then slot B (R476, R479, R480). -/
def bootImage (s : State) (keep : Bool) : State :=
  let mode := fun recs => modeAfter s.boot.shadow s.boot.mode recs
  let blank := bootRecords s (mode []) keep [] 0
  let f := s.nv.flash
  if f.sfdpOk = false then bootFail s 4 2 0 0 0
  else
    let i := readImage f.slotA
    let j := readImage f.slotB
    let a := imageCause s i
    let b := imageCause s j
    let go := fun (s : State) (i : Image) => bootRecords s (mode i.records) keep i.records i.imageId
    if a.1 = 0 then go s i
    else if b.1 = 0 then go (useSlotB s a.1) j
    else if a.1 = 3 ∧ b.1 = 3 ∧ s.lifecycle = 0 then blank
    else bootFail s 4 b.1 a.1 0 b.2

/-- Steps 2 on: the fuse shadow is loaded (R477); the ash sweep has left every slice empty. -/
def bootSteps (s : State) (keep : Bool) : State :=
  let f := s.nv.fuses
  let s := ({ s with boot := { s.boot with copies := FuseCopies.of f.load, step := 2 } }).setFld (bootReg 0) 8 2 f.lifecycle
  if f.criticalBad then bootFail s 2 1 0 0 0
  else
    let s := if f.others.all id then s else s.raise 0x01 0x23 (w32 f.load.badRows.toNat)
    bootImage { s with boot := { s.boot with step := 4 } } keep

/-! ## Cold reset (R445, R473, R486, R488, R525, R530) -/

/-- The key hash that BOOT_KEY_0 to BOOT_KEY_11 hold (R494). -/
def keyRegs (s : State) : BitVec 384 :=
  BitVec.ofNat 384 (ofWordsLE ((List.range 12).map fun n => s.rd (bootReg (0x40 + 4 * n))))

/-- The row of a fuse operation is programmed (R492); one that does not verify, or was interrupted, fails its CRC (R446). A row
that holds COMPAT_LOCK already keeps it. -/
def progRow (s : State) (op : Nat) (ok : Bool) : FuseArray :=
  let f := s.nv.fuses
  if op = 1 then { f with key := ⟨some (keyRegs s), ok⟩ }
  else if f.compatLock then f else { f with lock := ⟨true, ok⟩ }

/-- What a reset makes of the non-volatile state: a crash-log record being written and a fuse row being programmed fail their
CRC (R446). -/
def nvAfter (s : State) : Nv :=
  let nv := match s.boot.crashBusy with
    | some r => { s.nv with flash := { s.nv.flash with crash := s.nv.flash.crash ++ [{ r with words := [] }] } }
    | none => s.nv
  match s.boot.fuseBusy with
  | some op => { nv with fuses := progRow s op false }
  | none => nv

/-- The device in cold reset: what only power or fuses hold is left. -/
def inColdReset (s : State) : State :=
  { State.reset with
    pending := s.pending, freeCtr := s.freeCtr, cwData := s.cwData, tap := s.tap, nv := nvAfter s, phys := s.phys,
    ports := portsDown, pcs := pcsUntrained, hbm := s.hbm, tb := ⟨0, false⟩, pins := { s.pins with ready := false, alertN := true },
    boot := { Boot.released0 with copies := s.boot.copies, mode := none, step := 1, released := false, inReset := true } }

/-- Step 1 ends: the supplies are good, RESET_N is high and REFCLK0 is stable (R473, R525). -/
def leaveReset (s : State) : State :=
  if s.boot.inReset && s.pins.resetN && s.phys.powerGood && s.phys.refclk.getD 0 false then
    bootSteps { s with boot := { s.boot with inReset := false }, tb := { s.tb with locked := true } } false
  else s

/-- A whole cold reset, as far as it goes by itself. -/
def coldReset (s : State) : State := leaveReset (inColdReset s)

/-- COLD_RESET (R473, R530): RESET_N was low for so long, and is still. A pulse shorter than 1 µs is ignored; one shorter
than 10 µs has either outcome (log entry 3). -/
def execColdReset (lowNs : Nat) (stillLow : Bool) (s : State) : Host.Outcome State Fault Refusal :=
  let s' := { s with pins := { s.pins with resetN := !stillLow } }
  .next (if lowNs < 1000 then s'
    else if lowNs < 10000 then
      match s'.freeB with
      | (t, true) => coldReset t
      | (t, false) => t
    else coldReset s')

/-- A rail leaves its operating range, or is back in it. -/
def setRail (s : State) (rail : Rail) (low : Bool) : State :=
  let others := s.phys.lowRails.filter (· != rail)
  { s with phys := { s.phys with lowRails := if low then rail :: others else others } }

/-- RAIL_UNDERVOLTAGE (R525): a monitored rail below its range for 2 µs acts as RESET_N low. -/
def execRailUndervoltage (rail : Rail) (lowNs : Nat) (stillLow : Bool) (s : State) : Host.Outcome State Fault Refusal :=
  .next (if lowNs < 2000 then setRail s rail stillLow else coldReset (setRail s rail stillLow))

/-- RESET_N_RISE (R473, R525): every rail has been in range for 1 ms and RESET_N goes high. -/
def execResetNRise (s : State) : Host.Outcome State Fault Refusal :=
  .next (leaveReset { s with pins := { s.pins with resetN := true }, phys := { s.phys with lowRails := [] } })

/-- TIMEBASE_LOCK_RETURN (R88, R89, R525): REFCLK0 is back; the timebase counts on from the held value. In cold reset it first
locks in step 1, once RESET_N has risen, and a power-up that waited for REFCLK0 alone goes on. -/
def execTimebaseLockReturn (s : State) : Host.Outcome State Fault Refusal :=
  .next (leaveReset { s with tb := { s.tb with locked := !s.boot.inReset }, phys := { s.phys with refclk := lmod s.phys.refclk 0 fun _ => true } })

/-! ## Release (R462, R474) -/

/-- The fabric ports that release waits for (R474, R494). -/
def waitedPorts (s : State) : List Nat :=
  (bitsSet 16 (s.fld (bootReg 0x10) 16 16)).filter fun p => s.portPresent p && s.isFabric p

/-- READY goes high; PWR_BRAKE_N takes effect. Every present domain is Lit or Banked then (R453), since none has gated before
(log entry 86). -/
def releaseNow (s : State) : State :=
  let s := { s with boot := { s.boot with step := 8, released := true }, pins := { s.pins with ready := true } }
  if s.pins.brakeN then s else brakeOn s

/-- RELEASE (R474): every waited port has become ACTIVE, or the timeout has passed. In the fatal state READY stays low (R431). -/
def execRelease (timedOut : Bool) (s : State) : Host.Outcome State Fault Refusal :=
  .next (
    let late := (waitedPorts s).filter fun p => !(s.port p).reached
    if s.boot.step = 7 ∧ s.boot.released = false ∧ s.boot.failed = false ∧ s.boot.fatal = false then
      if late.isEmpty then releaseNow s
      else if timedOut then releaseNow (s.raise 0x01 0x22 (w32 (late.foldl (fun a p => a + 2 ^ p) 0)))
      else s
    else s)

/-! ## Warm reset (R289, R486–R488) -/

/-- Every dirty line and every line on its way to HBM is written to DRAM (R268, R289, R487 step 2). -/
def flushHome (s : State) : State :=
  let put := fun (s : State) line d poison => dramStore s line d poison
  let s := (List.range nPcs).foldl (fun s p => (s.pc p).wrq.foldl (fun s e => put s e.line e.data e.poison) s) s
  s.sliceList.foldl (fun s i =>
    let x := s.slice i
    let s := x.outWr.foldl (fun s o => put s o.line o.data o.poison) s
    let s := x.hearth.foldl (fun s e => if e.2.valid && e.2.dirty then
      match readWay s i (e.1 / 16) (e.1 % 16) with
      | (s, some (d, p)) => put s e.2.line d p
      | (s, none) => s
      else s) s
    x.installs.foldl (fun s n => if n.dirty then put s n.line n.data n.poison else s) s) s

/-- The registers that a warm reset keeps: EVT_ERR without FATAL, the fatal cause and sequence, the crash-log status, the
event FIFO's flags (R488). -/
def warmKeeps (off : Nat) : Bool :=
  [evtReg 0x20, evtReg 0x24, evtReg 0x28, evtReg 0x2C, evtReg 0x34, efifoReg 0x10].contains off

/-- The repair log, which only a reset that wipes HBM clears (R283, HBM_PPR_LOG; log entry 47). -/
def pprLogAt (off : Nat) : Bool :=
  decide (hbmReg 0 0 ≤ off) && decide (off < hbmReg 4 0) && decide (0x300 ≤ off % 0x10000) && decide (off % 0x10000 < 0x340)

/-- A warm reset (R487): ports disabled and purged, the flush, the reset of the base die, and the boot that follows. -/
def warmReset (s : State) : State :=
  let s := { s with pins := { s.pins with ready := false } }
  let s := s.portsList.foldl disablePort s
  let s := { s.sliceList.foldl purgeSlice s with purge := [] }
  let keep := s.bit (bootReg 0x10) 0 && s.boot.released && !s.boot.fatal
  let s := if keep then flushHome s else s
  let t := { State.reset with
    pending := s.pending, freeCtr := s.freeCtr, cwData := s.cwData, tap := s.tap, nv := nvAfter s, phys := s.phys,
    ports := portsDown, pcs := pcsUntrained, hbm := s.hbm, tb := s.tb, mgmt := s.mgmt, pins := { s.pins with ready := false, alertN := true },
    hstacks := if keep then s.hstacks else [],
    evt := { s.evt with mbox := [] },
    damper := { Damper.boot with target := s.damper.target, age := s.damper.age, ageValid := s.damper.ageValid, wear := s.damper.wear },
    reg := { RegState.empty with file := s.reg.file.filter fun e => warmKeeps e.1 || keep && pprLogAt e.1 },
    boot := { Boot.released0 with copies := s.boot.copies, mode := s.boot.mode, step := 1, released := false, warm := true, kept := keep } }
  bootSteps ((t.setFld (evtReg 0x20) 0 1 0).setFld 0x8 0 1 (b2n (s.boot.mode.getD false))) keep

/-- A warm reset is accepted: no boot is running and RESET_N is high (R486). -/
def warmAccepted (s : State) : Bool := (s.boot.released || s.boot.failed) && s.pins.resetN && !s.boot.inReset

/-- The WARM_RESET_N pulse: ignored below 1 µs (R486). -/
def warmPulse (s : State) (lowNs : Nat) : State := if 1000 ≤ lowNs ∧ warmAccepted s = true then warmReset s else s

/-! ## Lifecycle and fuses (R489–R492, R494) -/

/-- A fuse or lifecycle command fails (R494). -/
def fuseErr (s : State) (cause : Nat) : State := (s.setFld (bootReg 0x38) 2 1 1).setFld (bootReg 0x38) 4 4 cause

/-- The transitions that are allowed (R490). -/
def lcAllowed (s : State) (target : Nat) : Bool :=
  match s.lifecycle, target with
  | 0, 1 => s.boot.shadow.keySet
  | 1, 2 | 1, 3 | 2, 3 => true
  | _, _ => false

/-- BOOT_LC_CMD with GO = 1 (R491). The state reads as the most advanced of the programmed rows (R477). `verified`: the lifecycle rows were programmed and verify; where they do not, the
state reads as the old or the new one (R446) and the command has failed (log entry 31). -/
def lifecycle (s : State) (secure : Bool) (target : Nat) (confirm : Nat) (verified : Bool) : State :=
  let s := voteReg s (bootReg 0)
  let refuse := fun c => (fuseErr s c).setFld (bootReg 0x30) 4 1 0
  if secure = false then refuse 5
  else if confirm ≠ 0x5AC3 then refuse 4
  else if lcAllowed s target = false then refuse 1
  else
    let s := s.portsList.foldl disablePort { s with pins := { s.pins with ready := false } }
    let row := BitVec.ofNat 2 (max s.nv.fuses.lifecycle target)
    let prog := fun (s : State) =>
      { s with nv := { s.nv with fuses := { s.nv.fuses with life := s.nv.fuses.life.map fun _ => ⟨row, true⟩ } } }
    let s := s.setFld (bootReg 0x30) 4 1 0
    if verified then coldReset (prog s)
    else match s.freeB with
      | (s, b) => fuseErr (if b then prog s else s) 6

/-- BOOT_FUSE_CMD with GO = 1 (R489, R492): programming begins, or the command is refused. -/
def fuseCmd (s : State) (secure : Bool) : State :=
  let op := s.fld (bootReg 0x34) 0 2
  let s := voteReg s (bootReg 0)
  let refuse := fun c => (fuseErr s c).setFld (bootReg 0x34) 4 1 0
  if secure = false then refuse 5
  else if op = 0 ∨ op = 3 then refuse 7
  else if s.lifecycle ≠ 0 ∧ ¬ (s.lifecycle = 1 ∧ op = 2) then refuse 1
  else if op = 1 ∧ s.nv.fuses.keyHash.isSome = true then refuse 2
  else if s.phys.vppFuse = false then refuse 3
  else { s with boot := { s.boot with fuseBusy := some op } }

/-- FUSE_PROGRAMMING_COMPLETE (R492): a programmed fuse takes effect at the next fuse load; a row that does not verify
reads as unprogrammed (R446). -/
def execFuseProgrammingComplete (verified : Bool) (s : State) : Host.Outcome State Fault Refusal :=
  .next (match s.boot.fuseBusy with
    | none => s
    | some op =>
      let s := ({ s with boot := { s.boot with fuseBusy := none } }).setFld (bootReg 0x34) 4 1 0
      let s := { s with nv := { s.nv with fuses := progRow s op verified } }
      if verified then s.setFld (bootReg 0x38) 1 1 1 else fuseErr s 6)

/-! ## The crash log (R447, R448) -/

/-- A register in a crash-log record: zero where its unit is absent or its domain Cold (R448). -/
def crashReg (s : State) (off : Nat) : Nat :=
  if s.blockPresent (blockAt off) && s.domSt (blockAt off).domain != .cold then (s.rd off).toNat else 0

/-- PWR_AGE_d (R441). -/
def ageReg (s : State) (d : Nat) : Nat :=
  if 2 ≤ d ∧ s.domPresent d = true then sget zeroD s.damper.age d + 2 ^ 31 * sget zeroD s.damper.ageValid d else 0

/-- The words of a crash-log record but for its CRC (R448). -/
def crashWords (s : State) (number : Nat) : List Nat :=
  let w := wearMs s
  let f := s.boot.shadow
  let seq := s.fld (evtReg 0x28) 0 32 + 2 ^ 32 * s.fld (evtReg 0x2C) 0 16 + 2 ^ 48 * s.evt.seq.toNat
  [number, s.tb.count.toNat, s.tb.count.toNat / 2 ^ 32, f.serial.toNat, f.serial.toNat / 2 ^ 32,
   f.devId.toNat + 2 ^ 16 * f.stepping.toNat + 2 ^ 24 * (b2n s.compat + 2 * b2n f.compatLock + 16 * s.devNum),
   s.fld (evtReg 0x20) 0 32, s.fld (evtReg 0x24) 0 32, seq, seq / 2 ^ 32, seq / 2 ^ 64, w, w / 2 ^ 32, 0, 0, 0] ++
  (List.range 64).map (ageReg s) ++
  (List.range 16).map (fun p => crashReg s (portReg p 0xC)) ++
  (List.range 16).map (fun i => crashReg s (sliceReg i 0x88)) ++
  [crashReg s (dirReg 8)] ++
  (List.range 4).map (fun k => crashReg s (hbmReg k 0x30)) ++
  (List.range 16).map (fun c => crashReg s (scrReg c 0x80)) ++
  [crashReg s (hbmReg 0 0x34), crashReg s (hbmReg 0 0x38), crashReg s (hbmReg 0 0x3C)] ++
  List.replicate 119 0

/-- A crash-log record of 1,024 bytes with its CRC-32C (R448). -/
def crashRecord (s : State) (number : Nat) : List Word :=
  let ws := (crashWords s number).map w32
  ws ++ [(~~~ (crcMoreBytes crcPoly32 0xFFFFFFFF (bytesOfWords ws))).setWidth 32]

/-- The records of the region, and the slot to write: a free one, or the first of the erase sector that holds the oldest
record, once that is erased (R447). Answers the records left, the slot and the record number. -/
def crashSlot (fl : Flash) (off size : Nat) : List CrashRec × Nat × Nat :=
  let here := fl.crash.filter fun r => decide (off ≤ r.off) && decide (r.off < off + size)
  let num := fun (r : CrashRec) => (r.words.headD 0).toNat
  let good := here.filter fun r => !r.words.isEmpty
  let next := good.foldl (fun n r => max n (num r + 1)) 0
  match (List.range (size / 1024)).find? fun i => !(here.any fun r => r.off == off + 1024 * i) with
  | some i => (fl.crash, off + 1024 * i, next)
  | none =>
    let oldest := (good.find? fun r => good.all fun q => decide (num r ≤ num q)).map fun r => r.off
    let sec := off + (oldest.getD off - off) / fl.sector * fl.sector
    (fl.crash.filter fun r => !(decide (sec ≤ r.off) && decide (r.off < sec + fl.sector)), sec, next)

/-- EVT_CRASH_CTL.WRITE = 1 by the secure master (R447): the command starts, or waits for the one in progress (R60, R78). -/
def crashWrite (s : State) : State :=
  let off := s.fld (bootReg 0x1C) 0 32
  let size := s.fld (bootReg 0x20) 0 32
  if s.boot.crashBusy.isSome then { s with boot := { s.boot with crashNext := true } }
  else if size = 0 then (s.setFld (evtReg 0x30) 0 1 0).setFld (evtReg 0x34) 2 1 1
  else
    let (left, slot, n) := crashSlot s.nv.flash off size
    { s with nv := { s.nv with flash := { s.nv.flash with crash := left } },
             boot := { s.boot with crashBusy := some ⟨slot, crashRecord s n⟩ } }

/-- CRASH_LOG_WRITE_COMPLETE (R446, R447): the record was read back, and matched or not. -/
def execCrashLogWriteComplete (ok : Bool) (s : State) : Host.Outcome State Fault Refusal :=
  .next (match s.boot.crashBusy with
    | none => s
    | some r =>
      let r := if ok then r else { r with words := [] }
      let next := s.boot.crashNext
      let s := { s with boot := { s.boot with crashBusy := none, crashNext := false },
                        nv := { s.nv with flash := { s.nv.flash with crash := s.nv.flash.crash ++ [r] } } }
      let s := s.setFld (evtReg 0x34) (if ok then 1 else 2) 1 1
      if next then crashWrite s else s.setFld (evtReg 0x30) 0 1 0)

end Sys2Proof.Machine
end

