-- ==== Sys2Proof/Machine/CX.lean ====
section
/-! DEFINITION. The CX command engine (R507–R515). -/
namespace Sys2Proof.Machine
open Config

/-! ## Commands as words (R507, R509, R513) -/

def CxRun.opc (r : CxRun) : Nat := wfld r.hdr 0 8
def CxRun.tag (r : CxRun) : Nat := wfld r.hdr 16 16
def CxRun.arg (r : CxRun) (i : Nat) : Nat := (r.args.getD i 0).toNat
/-- The address in arguments i (low) and i + 1 (high), of which bits [51:0] are used (R509). -/
def CxRun.addr (r : CxRun) (i : Nat) : Nat := (r.arg i + 2 ^ 32 * r.arg (i + 1)) % 2 ^ 52

/-- The argument count of an operation (R509); none for an OPC that is not listed. -/
def cxWords (opc : Nat) : Option Nat :=
  match opc with
  | 0 => some 0
  | 1 => some 5
  | 2 => some 4
  | 3 => some 4
  | 4 => some 1
  | _ => none

/-- The arguments break a rule that makes the command BAD_CMD (R509, R511, R513). -/
def cxBadArgs (r : CxRun) : Bool :=
  match r.opc with
  | 1 => decide (0 < r.arg 4) && decide (r.addr 0 < r.addr 2 + r.arg 4) && decide (r.addr 2 < r.addr 0 + r.arg 4)
  | 3 => decide (3 ≤ r.arg 3)
  | 4 =>
    let w := r.arg 0
    bitsOf w 21 1 != 0 || bitsOf w 22 2 == 3 || bitsOf w 24 7 != 0 || (bitsOf w 31 1 == 1 && bitsOf w 0 21 != 0)
  | _ => false

/-- The byte ranges of a command (R511). -/
def cxRanges (r : CxRun) : List (Nat × Nat) :=
  match r.opc with
  | 1 => [(r.addr 0, r.arg 4), (r.addr 2, r.arg 4)]
  | 2 => [(r.addr 0, r.arg 2)]
  | 3 => [(r.addr 0, r.arg 2)]
  | _ => []

/-- A range lies wholly within the home window and touches no control window (R511). -/
def cxInHome (s : State) (a len : Nat) : Bool :=
  let base := s.fld (bootReg 0x14) 0 14 * 2 ^ 38
  decide (base ≤ a) && decide (a + len ≤ base + s.homeGiB * 2 ^ 30) && !touchesCw s a len

/-- STATUS as the checks before any access give it (R511): 0 OK, 1 BAD_CMD, 2 RANGE. -/
def cxCheck (s : State) (r : CxRun) : Nat :=
  if cxWords r.opc ≠ some (wfld r.hdr 8 4) ∨ cxBadArgs r = true then 1
  else if (cxRanges r).any fun x => decide (0 < x.2) && !cxInHome s x.1 x.2 then 2
  else 0

/-! ## Start (R507, R512) -/

/-- Pop n words in one arbitration (R507). -/
def cxPop (n : Nat) (f : Fifo) : Fifo :=
  { f with items := f.items.drop n, rd := (f.rd + n) % 128, last := (f.items.take n).getLastD f.last }

/-- A commanded Cold of domain 60 is in progress (R512). -/
def cold60 (s : State) : Bool := (s.dom 60).commanded == some .cold || (s.dom 60).moving == some .cold

/-- The oldest command is whole, the engine idle, and the response FIFO has room (R507). -/
def cxMayStart (s : State) : Bool :=
  s.compat && !s.boot.fatal && s.cx.run.isNone && decide (s.cx.rsp.items.length < 64) &&
  (match s.cx.cmd.items with
   | [] => false
   | h :: t => decide (bitsOf h.toNat 8 4 ≤ t.length))

/-- The command engine takes the oldest command (R507); domain 60 is woken first (R512). -/
def cxStart (s : State) : State :=
  if cxMayStart s then
    if s.domLit 60 && !cold60 s then
      match s.cx.cmd.items with
      | [] => s
      | h :: t =>
        let n := bitsOf h.toNat 8 4
        let r : CxRun := { hdr := h.setWidth 32, args := (t.take n).map fun w => w.setWidth 32, began := false, status := 0,
                           pos := 0, flues := [] }
        let r := { r with status := cxCheck s r }
        (freeEngine { s with cx := { s.cx with cmd := cxPop (n + 1) s.cx.cmd, run := some r } } 0).count 52 2 1
    else s.wakeAccess 60
  else s

/-- CX_COMMAND_START (R507). -/
def execCxCommandStart (s : State) : Host.Outcome State Fault Refusal := .next (cxStart s)

/-! ## The operations (R509, R510) -/

/-- The command being executed, where it has this OPC and TAG and passed its checks. -/
def cxRunning (s : State) (opc : Nat) (tag : BitVec 16) : Option CxRun :=
  s.cx.run.filter fun r => r.opc == opc && r.tag == tag.toNat && r.status == 0

def State.modRun (s : State) (f : CxRun → CxRun) : State := { s with cx := { s.cx with run := s.cx.run.map f } }

/-- One issue of the engine's range operation (R510). -/
def cxIssue (s : State) (opc engOpc : Nat) (tag : BitVec 16) : State :=
  match cxRunning s opc tag with
  | some _ => issue1 (s.modRun fun r => { r with began := true }) 0 engOpc
  | none => s

/-- NOP (R509). -/
def execNop (tag : BitVec 16) (s : State) : Host.Outcome State Fault Refusal :=
  .next (match cxRunning s 0 tag with
    | some _ => s.modRun fun r => { r with began := true }
    | none => s)

/-- CX_COPY (R509): one piece of at most one destination line. -/
def execCxCopy (tag : BitVec 16) (s : State) : Host.Outcome State Fault Refusal := .next (cxIssue s 1 1 tag)

/-- CX_FILL (R509). -/
def execCxFill (tag : BitVec 16) (s : State) : Host.Outcome State Fault Refusal := .next (cxIssue s 2 2 tag)

/-- MAINT_RANGE (R509, R510): the next line in address order. -/
def execMaintRange (tag : BitVec 16) (s : State) : Host.Outcome State Fault Refusal := .next (cxIssue s 3 0x103 tag)

/-! ## Set and way (R513–R515) -/

/-- How many Hearth locations a MAINT_SW names (R514). -/
def swCount (s : State) (w : Nat) : Nat :=
  if bitsOf w 31 1 = 1 then s.sliceList.length * 65536 * 16 else if s.ten then 4 else 8

/-- The n-th Hearth location of a MAINT_SW: slice, set, way (R514). With ALL, the ways of a set in every slice, set by set. -/
def swPlace (s : State) (w n : Nat) : Nat × Nat × Nat :=
  if bitsOf w 31 1 = 1 then
    let m := s.sliceList.length
    (n / 16 % m, n / (16 * m), n % 16)
  else
    let set := bitsOf w 0 18
    let way := 2 * bitsOf w 18 3 + n % 2
    if s.ten then (set % 8, set / 8 * 2 + n / 2, way) else (set % 16, set / 16 * 4 + n / 2, way)

/-- Act on one location (R515); none while it must wait. A Cold slice holds no line. -/
def swVisit (s : State) (op : Nat) (l : Nat × Nat × Nat) : Option (State × Option Nat) :=
  let (i, set, way) := l
  if s.domSt (20 + i) == .cold then some (s, none)
  else if s.domLit (20 + i) = false then none
  else
    let h := s.hway i set way
    if h.valid = false then some (s, none)
    else if lineBusy (s.slice i) h.line then none
    else
      let s' := if h.dirty then flueLine s i set way 5 else s
      some (if op = 0 then s' else s'.clearWay i set way, if h.dirty then some h.line else none)

/-- Visit locations in order until one must wait, at most n. -/
def swWalk (op w : Nat) : Nat → State → CxRun → State × CxRun
  | 0, s, r => (s, r)
  | n + 1, s, r =>
    if swCount s w ≤ r.pos then (s, r)
    else match swVisit s op (swPlace s w r.pos) with
      | none => (s, r)
      | some (s, f) => swWalk op w n s { r with pos := r.pos + 1, flues := r.flues ++ f.toList }

/-- The slice of the next location is neither Lit nor Cold: it wakes first (R43). -/
def swAsleep (s : State) (w : Nat) (r : CxRun) : Bool :=
  let i := (swPlace s w r.pos).1
  !(s.domLit (20 + i)) && s.domSt (20 + i) != .cold

/-- MAINT_SW (R513–R515): the next 256 locations (log entry 42). -/
def maintSw (s : State) (r : CxRun) : State :=
  let w := r.arg 0
  let r := { r with began := true }
  if swAsleep s w r then s.wakeAccess (20 + (swPlace s w r.pos).1)
  else
    let (s, r) := swWalk (bitsOf w 22 2) w 256 s r
    { s with cx := { s.cx with run := some r } }

/-- MAINT_SW (R515). -/
def execMaintSw (tag : BitVec 16) (s : State) : Host.Outcome State Fault Refusal :=
  .next (match cxRunning s 4 tag with
    | some r => if s.boot.fatal then s else maintSw s r
    | none => s)

/-! ## Completion (R510, R511) -/

/-- Every line the flue took is in an HBM write queue (R515). -/
def swWritten (s : State) (r : CxRun) : Bool :=
  r.flues.all fun l => !((s.slice (s.sliceOf l)).outWr.any fun o => o.line == l && o.flue)

/-- The command is over: refused at its checks, or all its accesses returned. -/
def cxOver (s : State) (r : CxRun) : Bool :=
  r.status != 0 ||
  (match r.opc with
   | 0 => r.began
   | 4 => decide (swCount s (r.arg 0) ≤ r.pos) && swWritten s r
   | _ => match engWork s 0 with
     | some (w, _) => workOver w (s.engine 0)
     | none => true)

/-- STATUS of a command that is over (R511). -/
def cxStatus (s : State) (r : CxRun) : Nat :=
  if r.status ≠ 0 then r.status
  else match (s.engine 0).fail with
    | some f => if f.st = .poisoned then 4 else 3
    | none => 0

/-- The response word (R511). -/
def cxResponse (s : State) (r : CxRun) : DWord := BitVec.ofNat 64 (cxStatus s r + 2 ^ 8 * r.opc + 2 ^ 16 * r.tag)

/-- The response of a command that is over is pushed (R510). -/
def cxComplete (s : State) : State :=
  match s.cx.run with
  | some r =>
    if s.boot.fatal = false ∧ cxOver s r = true then
      match fifoPush 64 s.cx.rsp [cxResponse s r] with
      | some f => (freeEngine { s with cx := { s.cx with rsp := f, run := none } } 0).count 52 3 1
      | none => s
    else s
  | none => s

/-- CX_COMMAND_COMPLETE (R510). -/
def execCxCommandComplete (s : State) : Host.Outcome State Fault Refusal := .next (cxComplete s)

end Sys2Proof.Machine
end

