-- ==== Sys2Proof/Machine/Regs.lean ====
section
/-! DEFINITION. What registers read: the live fields that reflect unit state (R25: hw, fuse), and the far registers
(R80, R138, R245, R291, R478). -/
namespace Sys2Proof.Machine
open Config

/-! ## Live fields, block by block: the bits they add to the stored value -/

/-- Set a bit of a number where a test holds. -/
def bitIf (b : Bool) (i : Nat) : Nat := if b then 2 ^ i else 0

/-- The sum over 0 .. n-1 of a bit per index. -/
def bitsIf (n : Nat) (p : Nat → Bool) : Nat := (List.range n).foldl (fun a i => a + bitIf (p i) i) 0

/-- IDENT (R87, R88). -/
def liveIdent (s : State) (rel : Nat) : Nat :=
  let f := s.boot.shadow
  match rel with
  | 0x0 => f.devId.toNat
  | 0x4 => f.stepping.toNat
  | 0x8 => bitIf f.compatLock 1
  | 0x10 => f.serial.toNat % 2 ^ 32
  | 0x14 => f.serial.toNat / 2 ^ 32
  | 0x20 => s.tb.count.toNat % 2 ^ 32
  | 0x24 => s.tb.count.toNat / 2 ^ 32
  | 0x28 => b2n s.tb.locked
  | _ => 0

/-- BLANK and RETURNED leave internal test access and KEEP bits open (R57, R489). -/
def testOpen (s : State) : Bool := s.lifecycle == 0 || s.lifecycle == 3

/-- BOOT (R494). -/
def liveBoot (s : State) (rel : Nat) : Nat :=
  let b := s.boot
  match rel with
  | 0x0 => b.step + bitIf s.pins.ready 4 + bitIf b.failed 5 + bitIf b.slotB 6
      + bitIf b.warm 10 + bitIf b.kept 11
  | 0x38 => b2n b.fuseBusy.isSome
  | 0x70 => b2n (testOpen s)
  | _ => 0

/-- STATE of a domain as it reads (R451): a Lit domain without a handshake in flight is Banked. -/
def domState (s : State) (d : Nat) : Nat :=
  match s.domSt d with
  | .ember => 2
  | .cold => 3
  | _ => if (s.dom d).moving = none ∧ domStill s d = true then 1 else 0

/-- GRANT of a domain (R463, R472). -/
def domGrant (s : State) (d : Nat) : Nat :=
  if d < 4 ∨ 60 ≤ d then (if s.domPresent d then freeShare d else 0)
  else scaleCost (costV s) (consumer s d).1 + s.extraOf d (costV s)

/-- The hottest junction reading and the first sensor that gave it (R472). -/
def tempWord (s : State) : Nat :=
  let l := s.damper.temps
  (hottest l % 256).toNat + 2 ^ 8 * (l.findIdx fun t => t == hottest l) % 2 ^ 13

/-- POWER (R441, R472). -/
def livePower (s : State) (rel : Nat) : Nat :=
  if 0x1000 ≤ rel ∧ rel < 0x1400 then
    let d := (rel - 0x1000) / 0x10
    let x := s.dom d
    match rel % 0x10 with
    | 0x4 => domState s d + bitIf x.moving.isSome 2 + bitIf x.refused 3 +
        bitIf (x.commanded == some .ember && x.moving.isNone) 4
    | 0xC => domGrant s d % 2 ^ 10
    | _ => 0
  else if 0x8000 ≤ rel ∧ rel < 0x8100 then
    let d := (rel - 0x8000) / 4
    if sget zeroD s.damper.ageValid d = 0 then 0 else sget zeroD s.damper.age d + 2 ^ 31
  else match rel with
    | 0xC => b2n s.damper.braked + bitIf s.damper.pin 1 + bitIf s.damper.avsHold 2 + 2 ^ 16 * s.damper.target
    | 0x10 => s.damper.model % 2 ^ 11 + 2 ^ 16 * (s.damper.short % 2 ^ 11)
    | 0x14 => s.damper.deciAmps % 2 ^ 16 + 2 ^ 16 * (s.damper.mv % 2 ^ 10)
    | 0x20 => tempWord s
    | 0x8104 => s.damper.raise
    | 0x8108 => wearMs s % 2 ^ 32
    | 0x810C => wearMs s / 2 ^ 32
    | _ => 0

/-- EVENT (R417, R447); the FIFO registers are apart. -/
def liveEvent (s : State) (rel : Nat) : Nat :=
  match rel with
  | 0x8 => s.evt.seq.toNat % 2 ^ 32
  | 0xC => s.evt.seq.toNat / 2 ^ 32
  | 0x10 => 2 ^ 16 * s.evt.msgq.length
  | 0x34 => b2n s.boot.crashBusy.isSome
  | _ => 0

/-- PORT (R137). -/
def livePort (s : State) (p rel : Nat) : Nat :=
  let x := s.port p
  if rel = 8 then
    x.st.code + bitIf x.x4 4 + bitIf x.half 5 + bitIf x.reversed 6 + bitIf x.quiesced 7 + 2 ^ 8 * (x.partnerDevnum % 16)
      + bitIf x.partnerFabric 12 + 2 ^ 16 * (x.lastFail % 16) + 2 ^ 24 * x.polarity.toNat
  else if 0x20 ≤ rel ∧ rel < 0x38 then
    nth x.txCred ((rel - 0x20) / 4) % 2 ^ 16 + 2 ^ 16 * (rxSpace s p ((rel - 0x20) / 4) % 2 ^ 16)
  else 0

/-- SLICE (R244). -/
def liveSlice (s : State) (i rel : Nat) : Nat :=
  let x := s.slice i
  match rel with
  | 0x4 => b2n x.disabling + bitIf x.disabled 1 + bitIf (!x.sweeps.isEmpty) 2 + bitIf (!x.walking.isEmpty) 3
      + 2 ^ 16 * min 512 (missUsed s i)
  | 0x80 => min 64 x.retryq.length + 2 ^ 8 * min 32 x.evbuf.length
  | 0x84 => x.taint.length
  | _ => 0

/-- DIRECTORY (R201). -/
def liveDirectory (s : State) (rel : Nat) : Nat :=
  if rel = 4 then b2n (!s.purge.isEmpty) + bitIf (s.sliceList.any fun i => !(s.slice i).taint.isEmpty) 1
  else if 0x300 ≤ rel ∧ rel < 0x340 then (sget wordD s.purge ((rel - 0x300) / 4)).toNat
  else 0

/-- HBM (R290): channels 8–15 read zero while their domain is Ember or Cold. -/
def liveHbm (s : State) (k rel : Nat) : Nat :=
  if rel = 4 then
    b2n ((List.range 32).all fun i => (s.pc (32 * k + i)).trained) + bitIf (s.stackSt k).ref2x 2
      + 2 ^ 16 * ((s.stackSt k).temp.toNat % 256)
  else if 0x200 ≤ rel ∧ rel < 0x280 then
    let i := (rel - 0x200) / 4
    let x := s.pc (32 * k + i)
    if 16 ≤ i ∧ s.domLit (37 + 2 * k) = false then 0
    else min 64 x.rdq.length + 2 ^ 8 * wrCount x + 2 ^ 16 * flueCount x + bitIf x.writeMode 24 + bitIf (!x.trained || mustRetrain s (32 * k + i)) 25
  else 0

/-- STATE of a core as it reads (R328). -/
def coreState (s : State) (c j : Nat) : Nat :=
  let x := s.core (8 * c + j)
  if x.forced || (s.cluster c).resetting then 3
  else match x.st with
    | .idle => 0
    | .running => 1
    | .wfd => 2

/-- SCRIBE (R328). -/
def liveScribe (s : State) (c rel : Nat) : Nat :=
  let y := s.cluster c
  if rel = 4 then
    b2n (clusterQuiesced s c) + bitIf y.resetting 1 + 2 ^ 8 * bitsIf 8 (fun j => (s.core (8 * c + j)).st != .idle)
      + 2 ^ 16 * bitsIf 8 (fun j => (s.core (8 * c + j)).st == .wfd) + 2 ^ 24 * min 32 y.tasks.length
  else if 0x100 ≤ rel ∧ rel < 0x180 then
    let j := (rel - 0x100) / 0x10
    let x := s.core (8 * c + j)
    match rel % 0x10 with
    | 0x0 => coreState s c j + bitIf x.pl 2 + 2 ^ 8 * x.lastCause.toNat
    | 0x4 => x.pc.toNat % 2 ^ 32
    | 0x8 => if x.st = .idle then 0 else bitsOf x.task.toNat 0 10 + 2 ^ 16 * bitsOf x.task.toNat 16 16
    | _ => 0
  else 0

/-- A fetched descriptor is started, and not complete (R390). -/
def startedDesc (d : Desc) : Bool := d.phase != .held && !isDone d

/-- A WAIT, a launch record that waits, or a FENCE until its record is performed holds the inkwell (R367, R390). -/
def inkWaits (x : Inkwell) : Bool :=
  x.descs.any fun d => let opc := dfld d.raw 0 1
                       opc == 13 || (opc == 12 && !isDone d) || d.phase == .launching

/-- INKWELL (R390). -/
def liveInk (s : State) (rel : Nat) : Nat :=
  if rel = 0 then
    bitsIf nEngines (fun e => (s.engine e).work.isSome)
      + 2 ^ 16 * (s.inks.filter fun e => e.2.descs.any startedDesc).length
  else if 0x10000 ≤ rel ∧ rel < 0x20000 then
    let n := (rel - 0x10000) / 0x40
    let x := s.ink n
    match rel % 0x40 with
    | 0x4 => b2n (inkQuiesced s n) + bitIf x.halted 1 + bitIf (inkWaits x) 2 + 2 ^ 3 * (x.descs.filter fun d => !isDone d).length
    | 0x18 => x.head
    | 0x1C => x.tail
    | 0x20 => x.cqTail
    | 0x24 => x.cqHead
    | _ => 0
  else 0

/-- TELEMETRY (R392, R418). -/
def liveTel (s : State) (rel : Nat) : Nat :=
  if rel < 0x3600 then
    let v := if s.groupPresent (rel / 0x100) then sget zeroD s.tel.ctr (32 * (rel / 0x100) + rel % 0x100 / 8) else 0
    if rel % 8 = 0 then v % 2 ^ 32 else if rel % 8 = 4 then v / 2 ^ 32 else 0
  else match rel with
    | 0x8118 => b2n (s.tel.dump.any fun d => !d.stopped)
    | 0x8220 => 2 ^ 16 * s.tel.blot.ring.length
    | _ => 0

/-- CX image (R505). -/
def liveCx (s : State) (rel : Nat) : Nat :=
  match rel with
  | 0x8 => 4 * s.fld (bootReg 0x14) 0 14
  | 0xC => b2n s.boot.released + 2 ^ 8 * bitsIf 8 (fun p => (s.port p).st == .active) + bitIf s.cx.run.isSome 16
      + 2 ^ 24 * (match s.cx.run with
                  | some r => r.opc
                  | none => 0)
  | _ => 0

/-! ## Registers that are wholly unit state -/

/-- COUNT, EMPTY and FULL of a FIFO of n entries (R383). -/
def fifoCount (n : Nat) (f : Fifo) : Word :=
  w32 (f.items.length + bitIf f.items.isEmpty 16 + bitIf (f.items.length == n) 17)

/-- The read and the write pointer of a FIFO (R383). -/
def fifoPtrs (f : Fifo) : Word := w32 (f.rd + 2 ^ 16 * f.wr)

/-- The FIFO whose registers hold an EVENT-block offset, and the register's place in its group (R389). -/
def fifoAt (rel : Nat) : Option (FifoId × Nat) :=
  if 0x1000 ≤ rel ∧ rel < 0x1100 then some (.mbox ((rel - 0x1000) / 0x20), rel % 0x20)
  else if 0x2000 ≤ rel ∧ rel < 0x2018 then some (.event, rel - 0x2000) else none

/-- The entries of a FIFO: how many it holds at most (R387, R388, R505). -/
def fifoSize : FifoId → Nat
  | .mbox _ => 256
  | .event => 1024
  | _ => 64

def getFifo (s : State) : FifoId → Fifo
  | .mbox m => sget fifoD s.evt.mbox m
  | .event => s.evt.efifo
  | .cxCmd => s.cx.cmd
  | .cxRsp => s.cx.rsp

def setFifo (s : State) (i : FifoId) (f : Fifo) : State :=
  match i with
  | .mbox m => { s with evt := { s.evt with mbox := sset fifoD s.evt.mbox m f } }
  | .event => { s with evt := { s.evt with efifo := f } }
  | .cxCmd => { s with cx := { s.cx with cmd := f } }
  | .cxRsp => { s with cx := { s.cx with rsp := f } }

/-- The FLAGS register of a FIFO (R389, R505). -/
def fifoFlags : FifoId → Nat
  | .mbox m => mboxReg m 0x10
  | .event => efifoReg 0x10
  | .cxCmd => cxReg 0x28
  | .cxRsp => cxReg 0x38

/-- A CX region register as slice 0 gives it back (R506). -/
def cxRegion (s : State) (rel : Nat) : Word :=
  let n := (rel - 0x100) / 8
  if rel % 8 = 0 then w32 (s.fld (sliceReg 0 (0x1000 + 8 * n)) 0 20)
  else
    let r := sliceReg 0 (0x1004 + 8 * n)
    w32 (s.fld r 0 20 + bitIf (s.fld r 24 2 == 2) 24 + bitIf (s.bit r 31) 31)

/-- A register whose named fields are all unit state; DATA_LO shows nothing here, since reading it pops. -/
def wholeValue (s : State) (off : Nat) : Option Word :=
  let b := blockAt off
  let rel := off - b.base
  match b with
  | .event => (fifoAt rel).bind fun e =>
    match e.2 with
    | 0x0 => some 0
    | 0x4 => some (w32 ((getFifo s e.1).last.toNat / 2 ^ 32))
    | 0x8 => some (fifoCount (fifoSize e.1) (getFifo s e.1))
    | 0xC => some (fifoPtrs (getFifo s e.1))
    | _ => none
  | .cxImage =>
    if 0x100 ≤ rel ∧ rel < 0x180 ∧ rel % 4 = 0 then some (cxRegion s rel)
    else match rel with
      | 0x20 => some 0
      | 0x24 => some (fifoCount 64 s.cx.cmd)
      | 0x30 => some 0
      | 0x34 => some (fifoCount 64 s.cx.rsp)
      | _ => none
  | .doorbell n =>
    let x := s.ink n
    some (match rel with
      | 0x0 => w32 x.tail
      | 0x4 => w32 x.cqHead
      | 0x8 => w32 x.head
      | 0xC => w32 x.cqTail
      | _ => 0)
  | _ => none

/-- The live bits of the register at an offset. -/
def liveBits (s : State) (off : Nat) : Nat :=
  let b := blockAt off
  let rel := off - b.base
  match b with
  | .ident => liveIdent s rel | .boot => liveBoot s rel | .power => livePower s rel | .event => liveEvent s rel
  | .port p => livePort s p rel | .slice i => liveSlice s i rel | .directory => liveDirectory s rel
  | .hbm k => liveHbm s k rel | .scribe c => liveScribe s c rel | .inkwell => liveInk s rel
  | .telemetry => liveTel s rel | .cxImage => liveCx s rel | _ => 0

/-- The bits of a register that its field table names. -/
def namedMask (off : Nat) : Word := w32 (maskOf (regFields off) fun _ => true)

/-- The value of a listed register, live fields included; zero where none is listed (R24). A write-only field reads zero. The
bits that no field names are KEEP bits and read as they were left (R23, R57). -/
def regValue (s : State) (off : Nat) : Word :=
  match wholeValue s off with
  | some v => if (regFields off).isEmpty then v else v ||| (s.rd off &&& ~~~ namedMask off)
  | none =>
    let fs := regFields off
    if fs.isEmpty then 0
    else (s.rd off ||| w32 (liveBits s off)) &&& ~~~ w32 (maskOf fs fun f => f.ty == .wo)

/-! ## Far registers (R80) -/

/-- What a TARGET names (R80). -/
inductive FarPlace
  | phy (k : Nat)
  | serdes (p : Nat)
  | fuse
  | wayq (i : Nat)
  | reserved
  deriving DecidableEq, Repr

def farPlace (target : Nat) : FarPlace :=
  if target < 4 then .phy target
  else if 0x10 ≤ target ∧ target < 0x20 then .serdes (target - 0x10)
  else if target = 0x20 then .fuse
  else if 0x30 ≤ target ∧ target < 0x40 then .wayq (target - 0x30)
  else .reserved

/-- The unit behind a far target is present (R9, R81). -/
def farPresent (s : State) : FarPlace → Bool
  | .phy k => s.stackPresent k
  | .serdes p => s.portPresent p
  | .wayq i => s.slicePresent i
  | _ => true

/-- The power domain of a far access (R80). -/
def farDomain (t : FarPlace) (off : Nat) : Nat :=
  match t with
  | .phy k => 36 + 2 * k + bitsOf off 19 1
  | .serdes p => 4 + p
  | .wayq i => 20 + i
  | _ => 1

/-- The enable masks of the fused variant (R2, R478). -/
def fuseEnables (f : Fuses) : Nat × Nat × Nat × Nat × Nat :=
  if f.devId = 0x8610 then (0xFF, 0xFF, 3, 0, 0) else if f.devId = 0x8632 then (0xFFFF, 0xFFFF, 15, 1, 0xFF)
  else (0xFFFF, 0xFFFF, 15, 1, 0xFFFF)

/-- The fuse shadow (R478). -/
def fuseRead (f : Fuses) (off : Nat) : Nat :=
  let (pe, se, ke, fe, ce) := fuseEnables f
  if 0x20 ≤ off ∧ off < 0x50 ∧ off % 4 = 0 then bitsOf f.keyHash.toNat (8 * (off - 0x20)) 32
  else match off with
    | 0x0 => f.devId.toNat + 2 ^ 16 * f.stepping.toNat
    | 0x4 => f.serial.toNat % 2 ^ 32
    | 0x8 => f.serial.toNat / 2 ^ 32
    | 0xC => pe + 2 ^ 16 * se
    | 0x10 => ke + 2 ^ 4 * fe + 2 ^ 16 * ce
    | 0x14 => f.lifecycle.toNat
    | 0x18 => b2n f.compatLock + bitIf f.keySet 1
    | 0x80 => f.badRows.toNat
    | _ => 0

/-- The SerDes registers of a lane (R138); the physical lane is 7 - l where lanes are reversed (R99). -/
def laneRead (x : Port) (l rel : Nat) : Nat :=
  let e := x.lanes.getD l ⟨0, 0, 0, 0⟩
  match rel with
  | 0x0 => b2n (x.sigDet.getLsbD l) + bitIf (x.locked.getLsbD l) 1 + bitIf (x.polarity.getLsbD l) 2 + 2 ^ 8 * e.eye.toNat
      + 2 ^ 16 * physLane x.reversed l
  | 0x4 => e.pre.toNat + 2 ^ 8 * e.main.toNat + 2 ^ 16 * e.post.toNat
  | _ => 0

/-- The PHY registers of a pseudo-channel (R291). -/
def phyRead (p : Nat) (x : Pc) (rel : Nat) : Nat :=
  match rel with
  | 0x0 => b2n x.trained + bitIf x.repairLane.isSome 1 + 2 ^ 2 * (x.repairLane.getD 0).toNat + bitIf x.trainFail 8
  | 0x4 =>
    (match x.eyeFree with
      | some n => (freeEye (128 * n + p)).toNat
      | none => x.rdEye.toNat + 2 ^ 8 * x.wrEye.toNat) + 2 ^ 16 * (x.trainTemp % 256).toNat
  | 0x8 => x.lastTrain.toNat
  | _ => 0

/-- The named bits of the far register at an offset of a target; none where no register is listed (R138, R245, R291). The fuse
shadow takes no write (R80). -/
def farNamed (t : FarPlace) (off : Nat) : Option Word :=
  match t with
  | .phy _ => if off / 2 ^ 20 = 0 ∧ bitsOf off 12 3 = 0 then
      (match off % 2 ^ 12 with
       | 0x0 => some 0x1FF
       | 0x4 => some 0xFFFFFF
       | 0x8 => some 0xFFFFFFFF
       | _ => none) else none
  | .serdes _ => if off < 0x8000 then
      (match off % 0x1000 with
       | 0x0 => some 0xFFFFFF07
       | 0x4 => some 0xFFFFFF
       | _ => none) else none
  | .wayq _ => if off = 0 then some 0xFFFF else if off = 4 then some 0xFFFFFFFF else none
  | _ => none

/-- The key of a far register among the stored KEEP bits. -/
def farKey (t : FarPlace) (off : Nat) : Nat :=
  off + 2 ^ 24 * (match t with
    | .phy k => k
    | .serdes p => 0x10 + p
    | .wayq i => 0x30 + i
    | _ => 0x20)

/-- The far register of a present target, with its KEEP bits (R57, R80). -/
def farRead (s : State) (t : FarPlace) (off : Nat) : Word :=
  (match farNamed t off with
    | some m => sget wordD s.reg.farKeep (farKey t off) &&& ~~~ m
    | none => 0) ||| w32 (match t with
    | .phy k => if off / 2 ^ 20 = 0 ∧ bitsOf off 12 3 = 0
        then phyRead (32 * k + 2 * bitsOf off 16 4 + bitsOf off 15 1) (s.pc (32 * k + 2 * bitsOf off 16 4 + bitsOf off 15 1)) (off % 2 ^ 12)
        else 0
    | .serdes p => if off < 0x8000 then laneRead (s.port p) (off / 0x1000) (off % 0x1000) else 0
    | .fuse => fuseRead s.boot.shadow off
    | .wayq i => if off = 0 then (wayqRead s i).toNat
        else if off = 4 then (s.slice i).quenched.toNat + 2 ^ 16 * (s.slice i).retired.toNat else 0
    | .reserved => 0)

/-- A far write: WAYQ_CTL is the one register whose fields take it; KEEP bits take it in BLANK and RETURNED (R57). -/
def farWrite (s : State) (t : FarPlace) (off : Nat) (v : Word) : State :=
  let s := match farNamed t off with
    | some m => if testOpen s then
        { s with reg := { s.reg with farKeep := sset wordD s.reg.farKeep (farKey t off) (v &&& ~~~ m) } } else s
    | none => s
  match t with
  | .wayq i => if off = 0 then wayqWrite s i v else s
  | _ => s

end Sys2Proof.Machine
end

