-- ==== Sys2Proof/Machine/CwAccess.lean ====
section
/-! DEFINITION. A control-window access: where it goes (R41, R42, R504), the order of its checks (R55), the performing of
reads and writes by field type (R22, R56–R61), 64-bit pairs (R73–R76), the INDIRECT window (R79–R83), and what a write to a
register with a behaviour of its own starts. -/
namespace Sys2Proof.Machine
open Config

/-! ## Where an access goes -/

/-- The native offset that an access names; none where it reads zero and its writes are ignored, with nothing logged
(R41, R42, R55 rows 1 and 2, R504). In native mode that holds of the CX image for every access, also a malformed one, which logs no
ACCESS_ERR (DESIGN CHOICE, log entry 40: R42 and R505 leave it open). -/
def cwPlace (s : State) (m : Master) (off : Nat) : Option Nat :=
  let o := if s.compat then
      (if off < 0x10000 then some (0x800000 + off)
       else if 0x2000000 ≤ off ∧ off < 0x3400000 ∧ masterSecure m = true then some (off - 0x2000000) else none)
    else if 0x800000 ≤ off ∧ off < 0x810000 then none else some off
  o.filter fun o => blockAt o != .gap && s.blockPresent (blockAt o)

/-- Before step 5 completes only these blocks are served (R475). -/
def cwServed (s : State) (b : Block) : Bool :=
  decide (5 < s.boot.step) || b == .ident || b == .boot || b == .power || b == .event || b == .indirect

/-- An access of a listed size and alignment (R51, R505). -/
def wellFormedAccess (off bytes : Nat) : Bool :=
  (bytes == 4 && off % 4 == 0) || (bytes == 8 && off % 8 == 0 && blockAt off != .cxImage)

/-! ## Guards (R66, R79) -/

/-- Window 0 of INDIRECT serves the secure master only (R79). -/
def inWindow0 (off : Nat) : Bool := decide (0x40000 ≤ off) && decide (off < 0x4000C)
def inWindow1 (off : Nat) : Bool := decide (0x40010 ≤ off) && decide (off < 0x4001C)

/-- The master may reach the guarded fields of a register. -/
def passes (m : Master) (off : Nat) : Bool := if inWindow0 off then masterSecure m else masterPriv m

/-- The guarded bits of a register; all of it where every field is guarded (log entry 36). -/
def guardMask (off : Nat) : Word :=
  let fs := regFields off
  if fs.isEmpty then 0 else if fs.all (·.g) then BitVec.allOnes 32 else w32 (maskOf fs (·.g))

/-! ## 64-bit pairs (R73–R75, R385) -/

/-- The low register of a pair that reads through the shadow (log entry 37). -/
def pairLow (off : Nat) : Bool :=
  match blockAt off with
  | .ident => off == 0x20
  | .event => off == evtReg 0x8 || off == evtReg 0x18 || off == evtReg 0x28 ||
      (match fifoAt (off - 0x30000) with
       | some (_, 0) => true
       | _ => false)
  | .power => off == pwrReg 0x8108
  | .telemetry => (decide (off - 0x700000 < 0x3600) && off % 8 == 0) || off == telReg 0x4100
  | _ => false

/-- What a master may see of a register's value: the guarded bits as zero where it does not pass (R66). -/
def seen (m : Master) (off : Nat) (v : Word) : Word := if passes m off then v else v &&& ~~~ guardMask off

/-- A 4-byte write of this low word is held (R75): of every pair, unless the guard refuses it (R66). -/
def holdsLow (m : Master) (off : Nat) : Bool := pairLow off && (passes m off || guardMask off == 0)

/-- Take a shadow (R73, R74): the master's own, or the least recently used of the block's 16. -/
def takeShadow (l : List Shadow) (x : Shadow) : List Shadow :=
  let own := l.any fun e => e.block == x.block && e.master == x.master
  let rest := l.filter fun e => !(e.block == x.block && e.master == x.master)
  let used := rest.filter fun e => e.block == x.block
  if own = false ∧ 16 ≤ used.length then
    match used.getLast? with
    | some last => x :: eraseFirst (· == last) rest
    | none => x :: rest
  else x :: rest

/-- The shadow a master holds in a block for a high register. -/
def heldShadow (s : State) (m : Master) (hi : Nat) : Option Shadow :=
  if pairLow (hi - 4) then s.reg.shadows.find? fun e => e.block == blockAt hi && e.master == masterKey m && e.hiOff == hi
  else none

/-- An access of a master to a block ends its hold on the shadow there; the place stays its own (R73, R74). -/
def spendShadow (s : State) (m : Master) (b : Block) : State :=
  { s with reg := { s.reg with shadows := s.reg.shadows.map fun e =>
      if e.block = b ∧ e.master = masterKey m then { e with hiOff := 0 } else e } }

/-- A low word that a master holds in a block is discarded by any access but the write of its high word (R75). -/
def dropHeld (s : State) (m : Master) (b : Block) : State :=
  match s.reg.held.find? fun h => h.block == b && h.master == masterKey m with
  | some h => accessErr { s with reg := { s.reg with held := eraseFirst (· == h) s.reg.held } } m h.off
  | none => s

/-- The low word held for a high register. -/
def heldFor (s : State) (m : Master) (hi : Nat) : Option HeldLow :=
  s.reg.held.find? fun h => h.block == blockAt hi && h.master == masterKey m && h.off + 4 == hi

/-! ## The claim of window 1 (R83) -/

/-- This master holds the claim. -/
def holdsClaim (s : State) (m : Master) : Bool :=
  match s.reg.claim, m with
  | .agent a, .agent b _ => a == b
  | .secure, .mgmt => true
  | .secure, .boot => true
  | _, _ => false

/-- Window 1 is claimed by another, so that this master reads zero there and its writes are ignored (R83). -/
def shutOut (s : State) (m : Master) : Bool := s.reg.claim != .none && !holdsClaim s m && !masterSecure m

/-- IND_CLAIM1 is read: the claim is granted where no master holds it (R83). -/
def claimRead (s : State) (m : Master) : State × Word :=
  let s := match s.reg.claim, m with
    | .none, .agent a _ => { s with reg := { s.reg with claim := .agent a } }
    | .none, _ => { s with reg := { s.reg with claim := .secure } }
    | _, _ => s
  let owner := match s.reg.claim with
    | .none => 0
    | .agent a => 2 ^ 16 * a.toNat + 2 ^ 27
    | .secure => 2 ^ 26 + 2 ^ 27
  (s, w32 (owner + b2n (holdsClaim s m)) ||| (s.rd 0x4001C &&& ~~~ namedMask 0x4001C))

/-- IND_CLAIM1 is written: 0 by the holder or the secure master releases it (R83); KEEP bits as everywhere (R57). -/
def claimWrite (s : State) (m : Master) (v : Word) : State :=
  let keep := if testOpen s then ~~~ namedMask 0x4001C else 0
  let s := s.wr 0x4001C ((s.rd 0x4001C &&& ~~~ keep) ||| (v &&& keep))
  if v.getLsbD 0 = false ∧ (holdsClaim s m || masterSecure m) = true then { s with reg := { s.reg with claim := .none } } else s

/-! ## IND_DATA (R79–R82) -/

/-- The ADDR register of the window that a DATA register belongs to. -/
def indAddr (off : Nat) : Nat := off - 4

/-- Advance OFFSET after an access where AUTO_INC is 1 (R79). -/
def indStep (s : State) (data : Nat) : State :=
  let a := indAddr data
  if s.bit a 31 then s.setFld a 0 24 (s.fld a 0 24 + 4) else s

/-- A far access that names a reserved target sets BAD_TARGET (R80). -/
def indBad (s : State) (data : Nat) : State := s.setFld (data + 4) 0 1 1

/-- The IND_DATA register that an access touches, by the word in which it begins or, for 8 bytes at ADDR, its second word. -/
def touchedData (a : Access) (off : Nat) : Nat := if off % 0x10 = 0 ∧ a.bytes = 8 then off + 4 else off / 4 * 4

/-- Row 1 of R55 for far targets: the access touches IND_DATA of a window whose target belongs to an absent unit (R9, R81). -/
def farAbsent (s : State) (a : Access) (off : Nat) : Bool :=
  let data := touchedData a off
  (data == 0x40004 || data == 0x40014) &&
  (let addr := if off / 4 * 4 ≠ data ∧ a.write = true then a.data.setWidth 32 else s.rd (indAddr data)
   !farPresent s (farPlace (wfld addr 24 7)))

/-- What the ADDR register of a window names: the place, its offset, whether it is served (R9, R475). -/
def indTarget (s : State) (addr : Word) : FarPlace × Nat × Bool :=
  let t := farPlace (wfld addr 24 7)
  (t, wfld addr 0 24 / 4 * 4, farPresent s t && (decide (5 < s.boot.step) || t == .fuse))

/-- IND_DATA is read (R80). -/
def indRead (s : State) (data : Nat) : State × Word :=
  let (t, o, ok) := indTarget s (s.rd (indAddr data))
  if t = .reserved then (indStep (indBad s data) data, 0)
  else (indStep s data, if ok then farRead s t o else 0)

/-- IND_DATA is written (R80). -/
def indWrite (s : State) (data : Nat) (v : Word) : State :=
  let (t, o, ok) := indTarget s (s.rd (indAddr data))
  if t = .reserved then indStep (indBad s data) data
  else indStep (if ok then farWrite s t o v else s) data

/-- The domain that an access to a window must find Lit: the far target's, where the access touches IND_DATA and passes its
checks (R81). -/
def indDomain (s : State) (a : Access) (off : Nat) : Option Nat :=
  let data := touchedData a off
  if (data = 0x40004 ∨ data = 0x40014) ∧ passes a.m data = true ∧ wellFormedAccess off a.bytes = true then
    let addr := if off ≠ data ∧ a.write = true then a.data.setWidth 32 else s.rd (indAddr data)
    let (t, o, ok) := indTarget s addr
    if t ≠ .reserved ∧ ok = true ∧ s.domLit (farDomain t o) = false then some (farDomain t o) else none
  else none

/-- A far access of the same window is in progress (R79): the domain it waits for. -/
def windowBusy (s : State) (off : Nat) : Option Nat :=
  (s.reg.stalled.find? fun e =>
    let o := (cwPlace s e.2.m e.2.off).getD 0
    (inWindow0 off && inWindow0 o) || ((inWindow1 off || off == 0x4001C) && (inWindow1 o || o == 0x4001C))).map fun e => e.1

/-! ## FIFOs (R384, R385) -/

/-- Pop a FIFO: an empty one sets UNDERRUN. -/
def popFifo (s : State) (i : FifoId) : State × DWord :=
  let (f, v, under) := fifoPop (fifoSize i) (getFifo s i)
  let s := setFifo s i f
  (if under then s.setFld (fifoFlags i) 1 1 1 else s, v)

/-! ## Reads -/

/-- The FIFO that a read of the register at an offset pops. -/
def popsAt (off : Nat) : Option FifoId :=
  match blockAt off with
  | .event => (fifoAt (off - 0x30000)).bind fun e => if e.2 = 0 then some e.1 else none
  | .cxImage => if off = cxReg 0x30 then some .cxRsp else none
  | _ => none

/-- Read one register (R54, R66, R69): the guarded bits as zero to a master that does not pass. -/
def readReg (s : State) (m : Master) (off : Nat) : State × Word :=
  let ok := passes m off
  if inWindow1 off && shutOut s m then (s, 0)
  else if off = 0x40004 ∨ off = 0x40014 then (if ok then indRead s off else (s, 0))
  else if off = 0x4001C then (if ok then claimRead s m else (s, 0))
  else
    let s := voteReg s off
    (s, seen m off (regValue s off))

/-- Pop through the first register of a pair or alone, where the master passes (R385). -/
def readPop (s : State) (m : Master) (i : FifoId) (off : Nat) : State × DWord :=
  if passes m off || blockAt off == .cxImage then popFifo s i else (s, 0)

/-- A 4-byte read (R73, R385): the shadow is a copy of the whole high word, and the guard acts on each read of it (R66). -/
def read4 (s : State) (m : Master) (off : Nat) : State × DWord :=
  let shadow := (heldShadow s m off).map (·.value)
  let own := passes m off
  let s := spendShadow s m (blockAt off)
  match popsAt off with
  | some i =>
    let (s, v) := readPop s m i off
    let s := if i = .cxRsp ∨ own = false then s else
      { s with reg := { s.reg with shadows := takeShadow s.reg.shadows ⟨blockAt off, masterKey m, off + 4, w32 (v.toNat / 2 ^ 32)⟩ } }
    (s, BitVec.ofNat 64 (v.toNat % 2 ^ 32))
  | none =>
    let (s, v) := readReg s m off
    if pairLow off then
      let hi := regValue s (off + 4)
      ({ s with reg := { s.reg with shadows := takeShadow s.reg.shadows ⟨blockAt off, masterKey m, off + 4, hi⟩ } }, v.setWidth 64)
    else match shadow with
      | some w => ({ s with reg := { s.reg with shadows := takeShadow s.reg.shadows ⟨blockAt off, masterKey m, 0, w⟩ } }, (seen m off w).setWidth 64)
      | none => (s, v.setWidth 64)

/-- An 8-byte read (R51, R73, R385). -/
def read8 (s : State) (m : Master) (off : Nat) : State × DWord :=
  let s := spendShadow s m (blockAt off)
  match popsAt off with
  | some i => readPop s m i off
  | none =>
    let (s, lo) := readReg s m off
    let (s, hi) := readReg s m (off + 4)
    (s, BitVec.ofNat 64 (lo.toNat + 2 ^ 32 * hi.toNat))

/-! ## Writes by field type (R22, R56–R60) -/

/-- The self-clearing command bits of a register (R60). -/
def selfClear (off : Nat) : Nat :=
  let b := blockAt off
  let rel := off - b.base
  match b with
  | .boot => if rel = 0x24 then 1 else if rel = 0x30 ∨ rel = 0x34 then 0x10 else 0
  | .power => if 0x1000 ≤ rel ∧ rel < 0x1400 ∧ rel % 0x10 = 0 then 0x10 else 0
  | .event => if rel = 0x30 then 1 else match fifoAt rel with
      | some (_, 0x14) => 1
      | _ => 0
  | .port _ => if rel = 4 then 6 else 0
  | .slice _ => if rel = 0x18 then 0x10 else 0
  | .hbm _ => if rel = 0 then 1 else 0
  | .scribe _ => if rel = 0 then 2 else 0
  | .inkwell => if 0x10000 ≤ rel ∧ rel < 0x20000 ∧ rel % 0x40 = 0 then 4 else 0
  | .telemetry => if rel = 0x8000 then 1 else if rel = 0x8100 then 2 else 0
  | .cxImage => if rel = 0x2C ∨ rel = 0x3C then 1 else 0
  | _ => 0

/-- Unnamed bits that the manual says read zero, so that they are no KEEP bits (R76, R244, R505, R506). -/
def zeroBits (off : Nat) : Nat :=
  match blockAt off with
  | .telemetry => if off - 0x700000 < 0x3600 then 2 ^ 32 - 1 else 0
  | .slice i => if off = sliceReg i 0x10 then 0x3F else 0
  | .cxImage => 2 ^ 32 - 1
  | _ => 0

/-- The KEEP bits of a register (R23, R57); they take a written value only where the lifecycle leaves them open. -/
def keepBits (s : State) (off : Nat) : Nat :=
  if testOpen s then 2 ^ 32 - 1 - (maskOf (regFields off) (fun _ => true) ||| zeroBits off) else 0

/-- The value that a write leaves in a register, `ok` the bits the master may reach. Of a register whose fields are unit state
only the KEEP bits are stored. -/
def writtenValue (s : State) (off : Nat) (v ok : Word) : Word :=
  let fs := regFields off
  let old := s.rd off
  let keep := w32 (keepBits s off)
  let sc := w32 (selfClear off)
  if fs.any fun f => f.ty == .mw then
    let sel := (v >>> 16) &&& (w32 (maskOf fs fun f => f.ty == .mw) ||| keep) &&& ok &&& 0xFFFF
    (old &&& ~~~ sel) ||| (v &&& sel)
  else
    let held := if (wholeValue s off).isSome then 0 else w32 (maskOf fs fun f => f.ty == .rw || f.ty == .w1l)
    let plain := (held ||| keep) &&& ok &&& ~~~ sc
    let w1c := w32 (maskOf fs fun f => f.ty == .w1c) &&& ok
    ((old &&& ~~~ plain) ||| (v &&& plain) ||| (v &&& sc &&& ok)) &&& ~~~ (v &&& w1c)

/-! ## Writes that are ignored by a rule of their register -/

/-- EN of inkwell n may become 1: LOG2SIZE lies in 4–16 (R381). -/
def inkSizeOk (s : State) (n : Nat) : Bool := decide (4 ≤ inkLog s n) && decide (inkLog s n ≤ 16)

/-- The value as the register's own rule lets it through; none where the write is ignored, with the state it leaves. -/
def filterWrite (s : State) (m : Master) (off : Nat) (v : Word) : State × Option Word :=
  let b := blockAt off
  let rel := off - b.base
  match b with
  | .boot =>
    if (rel = 0x34 ∨ (0x40 ≤ rel ∧ rel < 0x70)) ∧ s.boot.fuseBusy.isSome = true then (s.setFld (bootReg 0x38) 2 1 1, none)
    else if rel = 0x24 ∧ masterSecure m = false then (s, some (v &&& ~~~ 1)) else (s, some v)
  | .event => if (rel = 0x14 ∨ rel = 0x30) ∧ masterSecure m = false then (s, some (v &&& ~~~ 1)) else (s, some v)
  | .directory => if rel = 0 ∧ s.compat = true then (s, some ((v &&& ~~~ 1) ||| (s.rd off &&& 1))) else (s, some v)
  | .inkwell =>
    if 0x10000 ≤ rel ∧ rel < 0x20000 then
      let n := (rel - 0x10000) / 0x40
      match rel % 0x40 with
      | 0x0 =>
        if s.compat then (s, some (v &&& ~~~ 1))
        else if v.getLsbD 0 = true ∧ inkSizeOk s n = false then (inkErr s n 2 0, some ((v &&& ~~~ 1) ||| (s.rd off &&& 1)))
        else (s, some v)
      | 0x8 | 0xC | 0x10 | 0x14 =>
        if s.bit (inkReg n 0) 0 = false ∧ inkQuiesced s n = true then (s, some v) else (inkErr s n 1 0, none)
      | _ => (s, some v)
    else (s, some v)
  | .telemetry =>
    let moves := fun (put get size : Nat) =>
      let new := wfld v 0 (if rel = 0x8114 then 13 else 21)
      decide (new < 2 * size) && decide (ringDiff size new get ≤ ringDiff size put get)
    if (rel = 0x8108 ∨ rel = 0x810C) ∧ s.bit (telReg 0x8100) 0 = true then (s, none)
    else if (rel = 0x8210 ∨ rel = 0x8214) ∧ s.bit (telReg 0x8200) 0 = true then (s, none)
    else if rel = 0x8114 ∧ moves (s.fld (telReg 0x8110) 0 13) (s.fld off 0 13) (2 ^ dumpLog s) = false then (s, none)
    else if rel = 0x821C ∧ moves (s.fld (telReg 0x8218) 0 21) (s.fld off 0 21) (2 ^ blotLog s) = false then (s, none)
    else (s, some v)
  | _ => (s, some v)

/-! ## What a write starts -/

/-- BOOT (R486, R491, R492). -/
def startBoot (s : State) (m : Master) (rel : Nat) (v : Word) : State :=
  match rel with
  | 0x24 => if v.getLsbD 0 then
      (let s := s.setFld (bootReg 0x24) 0 1 0
       if warmAccepted s then warmReset s else s) else s
  | 0x30 => if v.getLsbD 4 then
      (let (s, b) := s.freeB
       lifecycle s (masterSecure m) (s.fld (bootReg 0x30) 0 2) (wfld v 16 16) b) else s
  | 0x34 => if v.getLsbD 4 then fuseCmd s (masterSecure m) else s
  | _ => s

/-- EVENT (R386, R416, R447). -/
def startEvent (s : State) (rel : Nat) (v : Word) : State :=
  if rel = 0x14 then alertPin s
  else if rel = 0x30 then (if v.getLsbD 0 then crashWrite s else s)
  else match fifoAt rel with
    | some (i, 0x14) => if v.getLsbD 0 then (setFifo s i (fifoClear (getFifo s i))).setFld (evtReg rel) 0 1 0 else s
    | _ => s

/-- PORT_CTL (R126, R134, R136): EN = 0 wins over RETRAIN and RESET. -/
def startPort (s : State) (p : Nat) (oldEn : Bool) (v : Word) : State :=
  if v.getLsbD 0 = false then
    (disablePort s p).setFld (portReg p 4) 1 2 0
  else
    let s := if oldEn then s else enablePort s p
    let s := if v.getLsbD 2 && !s.boot.fatal then resetPort s p else s
    let s := s.setFld (portReg p 4) 2 1 0
    if v.getLsbD 1 then retrainPort s p else s

/-- SLICE (R233, R234, R244, R426). -/
def startSlice (s : State) (i rel : Nat) (v : Word) : State :=
  match rel with
  | 0x0 => if v.getLsbD 0 then hearthEnable s i else hearthDisable s i
  | 0x18 => if v.getLsbD 4 then maintGo s i else s
  | 0x90 => judgeWays s i
  | _ => s

/-- SCRIBE (R322, R323, R325). -/
def startScribe (s : State) (c rel : Nat) (old v : Word) : State :=
  match rel with
  | 0x0 =>
    let s := if old.getLsbD 0 && !v.getLsbD 0 then clusterDisable s c
      else if v.getLsbD 0 then s.modCluster c fun x => { x with disabling := false } else s
    if v.getLsbD 1 && !(s.cluster c).resetting then clusterReset s c else s
  | 0x8 => knockCores s c
  | 0xC => abortCores s c (wfld v 0 8 &&& wfld v 16 8)
  | _ => s

/-- INK_CTL (R379–R381). -/
def startInk (s : State) (n : Nat) (old v : Word) : State :=
  let s := if v.getLsbD 2 then
      (let s := s.setFld (inkReg n 0) 2 1 0
       if old.getLsbD 0 = false ∧ (s.ink n).descs.isEmpty = true ∧ inkFetching s n = false then
         s.modInk n fun x => { x with head := 0, tail := 0, cqTail := 0, cqHead := 0 }
       else inkErr s n 1 0) else s
  if s.bit (inkReg n 0) 0 && v.getLsbD 0 then
    s.modInk n fun x => { x with halted := false, fails := if old.getLsbD 0 then x.fails else 0 }
  else s

/-- TELEMETRY (R400, R403, R405, R418). -/
def startTel (s : State) (rel : Nat) (old v : Word) : State :=
  match rel with
  | 0x8000 => if v.getLsbD 0 then (clearAll s).setFld (telReg 0x8000) 0 1 0 else s
  | 0x8100 =>
    let s := if v.getLsbD 0 && !old.getLsbD 0 then s.wr (telReg 0x811C) 0 else s
    if v.getLsbD 1 then (takeDump s).setFld (telReg 0x8100) 1 1 0 else s
  | 0x8200 => if v.getLsbD 0 && !old.getLsbD 0 then blotStart s else s
  | _ => s

/-- A CX region register is written: the fields of every present slice (R506). -/
def cxRegionWrite (s : State) (rel : Nat) (v : Word) : State :=
  let n := (rel - 0x100) / 8
  s.sliceList.foldl (fun s i =>
    if rel % 8 = 0 then s.setFld (sliceReg i (0x1000 + 8 * n)) 0 22 (wfld v 0 20)
    else
      let r := sliceReg i (0x1004 + 8 * n)
      ((s.setFld r 0 22 (wfld v 0 20)).setFld r 24 2 (if v.getLsbD 24 then 2 else 1)).setFld r 31 1 (b2n (v.getLsbD 31))) s

/-- The CX image (R384, R386, R505, R506). -/
def startCx (s : State) (rel : Nat) (v : Word) : State :=
  if 0x100 ≤ rel ∧ rel < 0x180 then cxRegionWrite s rel v
  else match rel with
    | 0x20 => match fifoPush 64 s.cx.cmd [v.setWidth 64] with
      | some f => setFifo s .cxCmd f
      | none => s.setFld (cxReg 0x28) 0 1 1
    | 0x2C => if v.getLsbD 0 then (setFifo s .cxCmd (fifoClear s.cx.cmd)).setFld (cxReg 0x2C) 0 1 0 else s
    | 0x3C => if v.getLsbD 0 then (setFifo s .cxRsp (fifoClear s.cx.rsp)).setFld (cxReg 0x3C) 0 1 0 else s
    | _ => s

/-- What a write that took effect starts: the register before it and the value as it went through. -/
def startWrite (s : State) (m : Master) (off : Nat) (old v : Word) : State :=
  let b := blockAt off
  let rel := off - b.base
  match b with
  | .boot => startBoot s m rel v
  | .power => if 0x1000 ≤ rel ∧ rel < 0x1400 ∧ rel % 0x10 = 0 ∧ v.getLsbD 4 = true then issueCmd s ((rel - 0x1000) / 0x10) else s
  | .event => startEvent s rel v
  | .port p => if rel = 4 then startPort s p (old.getLsbD 0) v else s
  | .slice i => startSlice s i rel v
  | .hbm k => if rel = 0 ∧ v.getLsbD 0 = true then hbmReload s k else s
  | .scribe c => startScribe s c rel old v
  | .inkwell =>
    if 0x10000 ≤ rel ∧ rel < 0x20000 then
      let n := (rel - 0x10000) / 0x40
      if rel % 0x40 = 0 then startInk s n old v
      else if rel % 0x40 = 0x28 ∧ v.getLsbD 0 = false then s.modInk n fun x => { x with p := 0 } else s
    else s
  | .telemetry => startTel s rel old v
  | .cxImage => startCx s rel v
  | _ => s

/-! ## Writes -/

/-- The queues of a group that have threshold counters (R397). -/
def queueCount (g : Nat) : Nat :=
  if g < 16 then 2 else if g < 32 then 4 else if g < 36 then 3 else if g < 52 then 2 else if g = 52 then 1 else 2

/-- The tables assign slot i of group g (R393, R397): the others read zero. -/
def slotAssigned (g i : Nat) : Bool := decide (i < 16) || decide ((i - 16) / 4 < queueCount g)

/-- A counter's words are written (R75, R76); a counter of an absent unit takes nothing (R9). -/
def counterWrite (s : State) (off : Nat) (lo : Option Word) (hi : Option Word) : State :=
  let rel := off - 0x700000
  let key := 32 * (rel / 0x100) + rel % 0x100 / 8
  if s.groupPresent (rel / 0x100) = false ∨ slotAssigned (rel / 0x100) (rel % 0x100 / 8) = false then s
  else
    let old := sget zeroD s.tel.ctr key
    let l := (lo.map (·.toNat)).getD (old % 2 ^ 32)
    let h := (hi.map fun w => wfld w 0 16).getD (old / 2 ^ 32)
    { s with tel := { s.tel with ctr := sset zeroD s.tel.ctr key (l + 2 ^ 32 * h) } }

/-- Write one register whose checks up to row 3 of R55 are passed; `acc` is the offset of the access. Answers whether a
guarded field refused the write. A master that the claim shuts out of window 1 (R83) is refused after row 3 and before row 4: its
malformed access sets ACCESS_ERR, and its unprivileged write logs no GUARD_DENY (DESIGN CHOICE, log entry 56). -/
def writeReg (s : State) (m : Master) (acc off : Nat) (v : Word) : State × Bool :=
  let gm := guardMask off
  let denied := !passes m off && gm != 0
  let ok : Word := if denied then ~~~ gm else BitVec.allOnes 32
  if inWindow1 off && shutOut s m then (s, false)
  else if (regFields off).isEmpty then (s, denied)
  else if ok = 0 then (s, true)
  else if off = 0x40004 ∨ off = 0x40014 then (indWrite s off v, false)
  else if off = 0x4001C then (claimWrite s m v, false)
  else if (regFields off).any fun f => f.ty == .w1l then
    let s := voteLock (voteReg s off) off
    if locked s off then (lockViol s m acc off, denied)
    else (lockReg (s.wr off (writtenValue s off v ok)) off, denied)
  else if blockAt off = .telemetry ∧ off - 0x700000 < 0x3600 then
    (if off % 8 = 0 then counterWrite s off (some v) none else counterWrite s (off - 4) none (some v), denied)
  else
    match filterWrite s m off v with
    | (s, none) => (s, denied)
    | (s, some v) =>
      let v := if off = 0x40000 ∨ off = 0x40010 then v &&& ~~~ 3 else v
      let s := voteReg s off
      let old := s.rd off
      let s := s.wr off (writtenValue s off v ok)
      (startWrite s m off old (if denied then (v &&& ok) ||| (old &&& ~~~ ok) else v), denied)

/-- Log a guard refusal once (R55). -/
def logDenied (s : State) (m : Master) (acc : Nat) (denied : Bool) : State := if denied then guardDeny s m acc else s

/-- A 4-byte write of a doorbell page (R361, R362); 8 bytes at 0x000 write both pointers. -/
def doorbellWrite (s : State) (n rel bytes : Nat) (d : DWord) : State :=
  if rel = 0 then
    let s := writeTail s n (bitsOf d.toNat 0 17)
    if bytes = 8 then writeCqHead s n (bitsOf d.toNat 32 17) else s
  else if rel = 4 then writeCqHead s n (bitsOf d.toNat 0 17) else s

/-- A 4-byte write (R75). -/
def write4 (s : State) (m : Master) (off : Nat) (v : Word) : State :=
  let s := spendShadow s m (blockAt off)
  match heldFor s m off with
  | some h =>
    let s := { s with reg := { s.reg with held := eraseFirst (· == h) s.reg.held } }
    let (s, d1) := writeReg s m off (off - 4) h.value
    let (s, d2) := writeReg s m off off v
    logDenied s m off (d1 || d2)
  | none =>
    let s := dropHeld s m (blockAt off)
    if holdsLow m off then
      { s with reg := { s.reg with held := ⟨blockAt off, masterKey m, off, v⟩ :: s.reg.held } }
    else match blockAt off with
      | .doorbell n => doorbellWrite s n (off % 0x1000) 4 (v.setWidth 64)
      | _ =>
        let (s, d) := writeReg s m off off v
        logDenied s m off d

/-- An 8-byte write (R51, R75). -/
def write8 (s : State) (m : Master) (off : Nat) (v : DWord) : State :=
  let s := dropHeld (spendShadow s m (blockAt off)) m (blockAt off)
  match blockAt off with
  | .doorbell n => doorbellWrite s n (off % 0x1000) 8 v
  | _ =>
    let (s, d1) := writeReg s m off off (v.setWidth 32)
    let (s, d2) := writeReg s m off (off + 4) ((v >>> 32).setWidth 32)
    logDenied s m off (d1 || d2)

/-! ## The access -/

/-- The answer of an access (R52, R53): to the bus, or as a response of agent 63. It has reached its block now (R408). -/
def answer (s : State) (a : Access) (v : DWord) : State :=
  match a.reply with
  | .bus => if a.write then s else { s with cwData := v }
  | .mgmt n clocked =>
    { s with cwData := v, mgmt := { s.mgmt with readBytes := (bytesLE n v.toNat).take clocked } }
  | .msg dst tag =>
    let s := s.blotNote dst tag fun w => { w with acc := some s.tb.count.toNat }
    if a.write then s.sendPlain (s.mkRsp opcWR_DONE dst tag [])
    else s.sendPlain (s.mkRsp opcDATA_UC dst tag (wordsLE (if a.bytes = 64 then 16 else if a.bytes = 8 then 2 else 1) v.toNat))

/-- An access to a served, awake register of a present block: row 1 of R55 for far targets, where the rows after it would log
the access, and rows 3 to 6. -/
def perform (s : State) (a : Access) (off : Nat) : State × DWord :=
  if farAbsent s a off && (!wellFormedAccess off a.bytes || !passes a.m (touchedData a off)) then
    (dropHeld (spendShadow s a.m (blockAt off)) a.m (blockAt off), 0)
  else if wellFormedAccess off a.bytes = false then
    (accessErr (dropHeld (spendShadow s a.m (blockAt off)) a.m (blockAt off)) a.m off, 0)
  else if a.write then
    (if a.bytes = 8 then write8 s a.m off a.data else write4 s a.m off (a.data.setWidth 32), 0)
  else
    let s := dropHeld s a.m (blockAt off)
    if a.bytes = 8 then read8 s a.m off else read4 s a.m off

/-- A control-window access (R43, R55, R81): what reads zero is answered at once, what sleeps is woken and waited for. -/
def cwAccess (s : State) (a : Access) : State :=
  if s.boot.inReset then s
  else
  let s := voteMode s
  match cwPlace s a.m a.off with
    | none => answer s a 0
    | some off =>
      let b := blockAt off
      let stall := fun (s : State) d => { s.wakeAccess d with reg := { (s.wakeAccess d).reg with stalled := s.reg.stalled ++ [(d, a)] } }
      if cwServed s b = false then answer s a 0
      else if s.domLit b.domain = false ∧ b.domain ≠ 0 ∧ b.domain ≠ 1 then stall s b.domain
      else
        let waits := if inWindow1 off && shutOut s a.m then none else windowBusy s off
        let sleeps := if inWindow1 off && shutOut s a.m then none else indDomain s a off
        match waits, sleeps with
        | some d, _ => stall s d
        | none, some d => stall (s.setFld (if off < 0x40010 then 0x40008 else 0x40018) 1 1 1) d
        | none, none => (fun r => answer r.1 a r.2) (perform s a off)

/-- The accesses that waited for a domain are performed, in order (R43, R81). -/
def resumeStalled (s : State) (d : Nat) : State :=
  let go := s.reg.stalled.filter fun e => e.1 == d
  go.foldl (fun s e => cwAccess s e.2) { s with reg := { s.reg with stalled := s.reg.stalled.filter fun e => e.1 != d } }

end Sys2Proof.Machine
end

