-- ==== Sys2Proof/Machine/CwCmds.lean ====
section
/-! DEFINITION. The commands that are accesses to the control window: plain reads and writes, the 64-bit pairs, the INDIRECT
window, the management port, and the writes whose register starts something. -/
namespace Sys2Proof.Machine
open Config

/-! ## Accesses to a register by its native offset -/

/-- The offset at which a master finds a native register: the secure master's in compatibility mode lie higher (R42). -/
def usedOff (s : State) (m : Master) (off : Nat) : Nat := if s.compat && masterSecure m then off + 0x2000000 else off

/-- The offset at which a register of the CX image lies (R42, R504). -/
def cxUsed (s : State) (rel : Nat) : Nat := if s.compat then rel else cxReg rel

/-- A read of `bytes` bytes at an offset of the window. -/
def cwRead (s : State) (m : Master) (off bytes : Nat) : State := cwAccess s ⟨m, off, bytes, false, 0, .bus⟩

/-- A write of `bytes` bytes at an offset of the window. -/
def cwWrite (s : State) (m : Master) (off bytes : Nat) (v : DWord) : State := cwAccess s ⟨m, off, bytes, true, v, .bus⟩

/-- A 4-byte write of a native register. -/
def writeNative (s : State) (m : Master) (off : Nat) (v : Nat) : State :=
  cwWrite s m (usedOff s m off) 4 (BitVec.ofNat 64 v)

/-- What software writes back to change one field and keep the others: the stored fields that take a written value. -/
def keepRest (s : State) (off lo w v : Nat) : Nat :=
  let fs := regFields off
  putBits ((s.rd off).toNat &&& maskOf fs (fun f => f.ty == .rw || f.ty == .w1l)) lo w v

/-- Write one field of a native register and keep the others. -/
def writeField (s : State) (m : Master) (off lo w v : Nat) : State := writeNative s m off (keepRest s off lo w v)

/-! ## Plain accesses (R51, R55, R73, R75) -/

/-- REGISTER_WRITE (R55): a write of the named size. -/
def execRegisterWrite (m : Master) (off : BitVec 26) (bytes : Nat) (data : DWord) (s : State) :
    Host.Outcome State Fault Refusal :=
  .next (cwWrite s m off.toNat bytes data)

/-- LOW_WORD_READ (R73): a 4-byte read; of a pair's low word it takes the shadow. -/
def execLowWordRead (m : Master) (off : BitVec 26) (s : State) : Host.Outcome State Fault Refusal :=
  .next (cwRead s m off.toNat 4)

/-- LOW_WORD_WRITE (R75): a 4-byte write; of a pair's low word it is held. -/
def execLowWordWrite (m : Master) (off : BitVec 26) (data : Word) (s : State) : Host.Outcome State Fault Refusal :=
  .next (cwWrite s m off.toNat 4 (data.setWidth 64))

/-! ## The INDIRECT window (R79–R83) -/

/-- The IND_ADDR register of a window: window 1 where `w`. -/
def windowReg (w : Bool) : Nat := if w then indReg 0x10 else indReg 0

/-- IND_DATA_READ (R81). -/
def execIndDataRead (m : Master) (window : Bool) (s : State) : Host.Outcome State Fault Refusal :=
  .next (cwRead s m (usedOff s m (windowReg window + 4)) 4)

/-- IND_DATA_WRITE (R81). -/
def execIndDataWrite (m : Master) (window : Bool) (data : Word) (s : State) : Host.Outcome State Fault Refusal :=
  .next (writeNative s m (windowReg window + 4) data.toNat)

/-- IND_CLAIM_READ (R83). -/
def execIndClaimRead (m : Master) (s : State) : Host.Outcome State Fault Refusal :=
  .next (cwRead s m (usedOff s m (indReg 0x1C)) 4)

/-- IND_CLAIM_RELEASE (R83): a write of 0. -/
def execIndClaimRelease (m : Master) (s : State) : Host.Outcome State Fault Refusal :=
  .next (writeNative s m (indReg 0x1C) 0)

/-! ## The management port (R84–R86, R475) -/

/-- The port answers the bus: from the end of boot step 2 (R475). -/
def mgmtLive (s : State) : Bool := !s.boot.inReset && decide (2 < s.boot.step)

/-- The port acknowledges a transfer: it has its address, and its access before has completed (R84, R86). -/
def mgmtReady (s : State) : Bool := mgmtLive s && s.mgmt.addr.isSome && s.reg.stalled.all fun e => e.2.m != .mgmt

/-- The 48-bit Provisional ID of the port (R84). -/
def provisionalId (s : State) : Nat :=
  0x1B5D * 2 ^ 33 + s.boot.shadow.devId.toNat * 2 ^ 16 + s.boot.shadow.serial.toNat % 2 ^ 16

/-- The BCR and the DCR of the port (R84). -/
def mgmtBcr : Byte := 0
def mgmtDcr : Byte := 0

/-- What the port sends when it takes part in ENTDAA: its Provisional ID, most significant byte first, BCR, DCR (R84; the order
is that of I3C, log entry 55). -/
def entdaaBytes (s : State) : List Byte := (bytesLE 6 (provisionalId s)).reverse ++ [mgmtBcr, mgmtDcr]

/-- MGMT_ENTDAA (R84): a port without an address sends its identity and takes the address. -/
def execMgmtEntdaa (da : BitVec 7) (s : State) : Host.Outcome State Fault Refusal :=
  .next (if mgmtLive s && s.mgmt.addr.isNone then
    { s with mgmt := { s.mgmt with addr := some da, readBytes := entdaaBytes s } } else s)

/-- The pointer keeps the OFFSET rules of a write of so many bytes (R85). -/
def ptrOk (ptr : Word) (bytes : Nat) : Bool := wfld ptr 26 5 == 0 && wfld ptr 0 26 % bytes == 0

/-- Set the pointer (R85). -/
def setPtr (s : State) (ptr : Word) : State := { s with mgmt := { s.mgmt with ptr := ptr } }

/-- A write that follows the pointer; where the pointer breaks the rules it is a malformed access (R85). -/
def mgmtWrite (s : State) (ptr : Word) (bytes : Nat) (data : DWord) : State :=
  if mgmtReady s then
    cwWrite (setPtr s ptr) .mgmt (wfld ptr 0 26) (if ptrOk ptr bytes then bytes else 0) data
  else s

/-- A malformed private write: an access of no listed size to the block at the pointer's OFFSET (R85). -/
def mgmtMalformed (s : State) : State := cwWrite s .mgmt (wfld s.mgmt.ptr 0 26) 0 0

/-- A private write of these bytes, first on the bus first (R85): four or more set the pointer; 4, 8 and 12 are the listed
lengths, any other is malformed, at the new OFFSET, or with fewer than four bytes at the present one. -/
def mgmtPrivateWrite (s : State) (b : List Byte) : State :=
  let word := fun i => BitVec.ofNat 32 (ofBytesLE ((b.drop (4 * i)).take 4))
  if mgmtReady s = false then s
  else if b.length < 4 then mgmtMalformed s
  else if b.length = 4 then setPtr s (word 0)
  else if b.length = 8 then mgmtWrite s (word 0) 4 ((word 1).setWidth 64)
  else if b.length = 12 then mgmtWrite s (word 0) 8 ((word 1).setWidth 64 ||| ((word 2).setWidth 64 <<< 32))
  else mgmtMalformed (setPtr s (word 0))

/-- MGMT_SET_POINTER (R85): a private write, of 4 bytes where it sets the pointer and does no more. -/
def execMgmtSetPointer (bytes : List Byte) (s : State) : Host.Outcome State Fault Refusal :=
  .next (mgmtPrivateWrite s bytes)

/-- MGMT_WRITE_4 (R85). -/
def execMgmtWrite4 (ptr data : Word) (s : State) : Host.Outcome State Fault Refusal :=
  .next (mgmtWrite s ptr 4 (data.setWidth 64))

/-- MGMT_WRITE_8 (R85). -/
def execMgmtWrite8 (ptr : Word) (data : DWord) (s : State) : Host.Outcome State Fault Refusal :=
  .next (mgmtWrite s ptr 8 data)

/-- A private read of the management port (R85): one read of 4 or 8 bytes, as WIDE selects. -/
def mgmtRead (s : State) (clocked : Nat) : State :=
  let n := if s.mgmt.ptr.getLsbD 31 then 8 else 4
  if mgmtReady s then
    cwAccess s ⟨.mgmt, wfld s.mgmt.ptr 0 26, if ptrOk s.mgmt.ptr n then n else 0, false, 0, .mgmt n clocked⟩
  else s

/-- MGMT_PRIVATE_READ (R85); the controller clocks so many bytes. -/
def execMgmtPrivateRead (clocked : Nat) (s : State) : Host.Outcome State Fault Refusal := .next (mgmtRead s clocked)

/-! ## Ports (R126, R134, R136) -/

/-- PORT_ENABLE (R134): EN = 1 is written. -/
def execPortEnable (m : Master) (p : Nat) (s : State) : Host.Outcome State Fault Refusal :=
  onUnit nPorts p (writeField s m (portReg p 4) 0 1 1)

/-- PORT_DISABLE (R134): EN = 0 is written. -/
def execPortDisable (m : Master) (p : Nat) (s : State) : Host.Outcome State Fault Refusal :=
  onUnit nPorts p (writeField s m (portReg p 4) 0 1 0)

/-- PORT_RETRAIN (R126): RETRAIN = 1 is written. -/
def execPortRetrain (m : Master) (p : Nat) (s : State) : Host.Outcome State Fault Refusal :=
  onUnit nPorts p (writeField s m (portReg p 4) 1 1 1)

/-- PORT_RESET (R136): RESET = 1 is written. -/
def execPortReset (m : Master) (p : Nat) (s : State) : Host.Outcome State Fault Refusal :=
  onUnit nPorts p (writeField s m (portReg p 4) 2 1 1)

/-! ## Slices and stacks (R233–R237, R244, R245, R269) -/

/-- HEARTH_DISABLE (R233): HEARTH_EN = 0 is written. -/
def execHearthDisable (m : Master) (sl : Nat) (s : State) : Host.Outcome State Fault Refusal :=
  onUnit nSlices sl (writeField s m (sliceReg sl 0) 0 1 0)

/-- HEARTH_ENABLE (R234): HEARTH_EN = 1 is written. -/
def execHearthEnable (m : Master) (sl : Nat) (s : State) : Host.Outcome State Fault Refusal :=
  onUnit nSlices sl (writeField s m (sliceReg sl 0) 0 1 1)

/-- Write WAYQ_CTL of a slice through a window of INDIRECT: window 0 by the secure master, window 1 by another (R79, R245). -/
def writeWayq (s : State) (m : Master) (sl : Nat) (v : Word) : State :=
  let w := !masterSecure m
  writeNative (writeNative s m (windowReg w) ((0x30 + sl) * 2 ^ 24)) m (windowReg w + 4) v.toNat

/-- WAY_QUENCH (R236): QUENCH bits are set. -/
def execWayQuench (m : Master) (sl : Nat) (ways : BitVec 16) (s : State) : Host.Outcome State Fault Refusal :=
  onUnit nSlices sl (writeWayq s m sl (wayqRead s sl ||| ways.setWidth 32))

/-- WAY_UNQUENCH (R237): QUENCH bits are cleared. -/
def execWayUnquench (m : Master) (sl : Nat) (ways : BitVec 16) (s : State) : Host.Outcome State Fault Refusal :=
  onUnit nSlices sl (writeWayq s m sl (wayqRead s sl &&& ~~~ ways.setWidth 32))

/-- SLC_MAINT_CMD is written with GO = 1 (R244). -/
def slcMaint (s : State) (m : Master) (sl op : Nat) : State := writeNative s m (sliceReg sl 0x18) (op + 0x10)

/-- SLC_MAINT_CLEAN (R244). -/
def execSlcMaintClean (m : Master) (sl : Nat) (s : State) : Host.Outcome State Fault Refusal := onUnit nSlices sl (slcMaint s m sl 0)

/-- SLC_MAINT_INV (R244). -/
def execSlcMaintInv (m : Master) (sl : Nat) (s : State) : Host.Outcome State Fault Refusal := onUnit nSlices sl (slcMaint s m sl 1)

/-- SLC_MAINT_CLEAN_INV (R244). -/
def execSlcMaintCleanInv (m : Master) (sl : Nat) (s : State) : Host.Outcome State Fault Refusal :=
  onUnit nSlices sl (slcMaint s m sl 2)

/-- SLC_MAINT_CLEAN_ALL (R244). -/
def execSlcMaintCleanAll (m : Master) (sl : Nat) (s : State) : Host.Outcome State Fault Refusal :=
  onUnit nSlices sl (slcMaint s m sl 3)

/-- HBM_RELOAD (R269): RELOAD = 1 is written. -/
def execHbmReload (m : Master) (k : Nat) (s : State) : Host.Outcome State Fault Refusal :=
  onUnit nStacks k (writeField s m (hbmReg k 0) 0 1 1)

/-! ## Clusters (R322, R323, R325) -/

/-- ABORT (R322): the core's bit of SCR_ABORT is set. -/
def execAbort (m : Master) (core : Nat) (s : State) : Host.Outcome State Fault Refusal :=
  onUnit nCores core (writeNative s m (scrReg (core / 8) 0xC) (2 ^ (core % 8) + 2 ^ (16 + core % 8)))

/-- KNOCK (R323): bits of SCR_KNOCK are set. -/
def execKnock (m : Master) (c : Nat) (cores : BitVec 8) (s : State) : Host.Outcome State Fault Refusal :=
  onUnit nClusters c (writeNative s m (scrReg c 8) (cores.toNat + 2 ^ 16 * cores.toNat))

/-- CLUSTER_DISABLE (R325): EN = 0 is written. -/
def execClusterDisable (m : Master) (c : Nat) (s : State) : Host.Outcome State Fault Refusal :=
  onUnit nClusters c (writeField s m (scrReg c 0) 0 1 0)

/-- CLUSTER_ENABLE (R325): EN = 1 is written. -/
def execClusterEnable (m : Master) (c : Nat) (s : State) : Host.Outcome State Fault Refusal :=
  onUnit nClusters c (writeField s m (scrReg c 0) 0 1 1)

/-- CLUSTER_RESET (R325): RESET = 1 is written. -/
def execClusterReset (m : Master) (c : Nat) (s : State) : Host.Outcome State Fault Refusal :=
  onUnit nClusters c (writeField s m (scrReg c 0) 1 1 1)

/-! ## Inkwells (R361, R379, R381) -/

/-- The offset of an inkwell's doorbell page (R361). -/
def doorbellOff (n rel : Nat) : Nat := 0x1000000 + n * 0x1000 + rel

/-- DOORBELL_TAIL_WRITE (R362). -/
def execDoorbellTailWrite (m : Master) (n : Nat) (v : Word) (s : State) : Host.Outcome State Fault Refusal :=
  onUnit nInkwells n (writeNative s m (doorbellOff n 0) v.toNat)

/-- DOORBELL_CQ_HEAD_WRITE (R362). -/
def execDoorbellCqHeadWrite (m : Master) (n : Nat) (v : Word) (s : State) : Host.Outcome State Fault Refusal :=
  onUnit nInkwells n (writeNative s m (doorbellOff n 4) v.toNat)

/-- INKWELL_DISABLE (R379): EN = 0 is written. -/
def execInkwellDisable (m : Master) (n : Nat) (s : State) : Host.Outcome State Fault Refusal :=
  onUnit nInkwells n (writeField s m (inkReg n 0) 0 1 0)

/-- INKWELL_ENABLE (R379, R380): EN = 1 is written. -/
def execInkwellEnable (m : Master) (n : Nat) (s : State) : Host.Outcome State Fault Refusal :=
  onUnit nInkwells n (writeField s m (inkReg n 0) 0 1 1)

/-- RESET_PTRS (R381): RESET_PTRS = 1 is written. -/
def execResetPtrs (m : Master) (n : Nat) (s : State) : Host.Outcome State Fault Refusal :=
  onUnit nInkwells n (writeField s m (inkReg n 0) 2 1 1)

/-! ## FIFOs and the CX image (R384–R386, R505, R506) -/

/-- The offset of a register of a FIFO's group, as a master uses it: DATA at 0, CTL at 0x14 (R389, R505). -/
def fifoReg (s : State) (m : Master) (f : FifoId) (ctl : Bool) : Nat :=
  match f with
  | .mbox i => usedOff s m (mboxReg i (if ctl then 0x14 else 0))
  | .event => usedOff s m (efifoReg (if ctl then 0x14 else 0))
  | .cxCmd => cxUsed s (if ctl then 0x2C else 0x20)
  | .cxRsp => cxUsed s (if ctl then 0x3C else 0x30)

/-- How many bytes the read that pops a FIFO takes: a whole entry. -/
def popBytes : FifoId → Nat
  | .mbox _ => 8
  | .event => 8
  | _ => 4

/-- The FIFO exists. -/
def fifoPresent : FifoId → Bool
  | .mbox i => decide (i < 8)
  | _ => true

/-- FIFO_POP (R384, R385). -/
def execFifoPop (m : Master) (f : FifoId) (s : State) : Host.Outcome State Fault Refusal :=
  if fifoPresent f then .next (cwRead s m (fifoReg s m f false) (popBytes f)) else .fault .noSuchUnit

/-- FIFO_CLEAR (R386): CLEAR = 1 is written. -/
def execFifoClear (m : Master) (f : FifoId) (s : State) : Host.Outcome State Fault Refusal :=
  if fifoPresent f then .next (cwWrite s m (fifoReg s m f true) 4 1) else .fault .noSuchUnit

/-- CX_CMD_PUSH (R505): a word is pushed. -/
def execCxCmdPush (m : Master) (data : Word) (s : State) : Host.Outcome State Fault Refusal :=
  .next (cwWrite s m (cxUsed s 0x20) 4 (data.setWidth 64))

/-- CX_RSP_POP (R505): a word is popped. -/
def execCxRspPop (m : Master) (s : State) : Host.Outcome State Fault Refusal := .next (cwRead s m (cxUsed s 0x30) 4)

/-- CX_RGN_WRITE (R506): CX_RGN_BASE_n is written, or CX_RGN_LIM_n. -/
def execCxRgnWrite (m : Master) (n : BitVec 4) (limit : Bool) (data : Word) (s : State) :
    Host.Outcome State Fault Refusal :=
  .next (cwWrite s m (cxUsed s (0x100 + 8 * n.toNat + if limit then 4 else 0)) 4 (data.setWidth 64))

/-! ## Telemetry (R400, R405, R418) -/

/-- CLEAR_ALL (R418). -/
def execClearAll (m : Master) (s : State) : Host.Outcome State Fault Refusal := .next (writeField s m (telReg 0x8000) 0 1 1)

/-- DUMP_NOW (R400). -/
def execDumpNow (m : Master) (s : State) : Host.Outcome State Fault Refusal := .next (writeField s m (telReg 0x8100) 1 1 1)

/-- BLOTTER_ENABLE (R405): EN = 1 is written. -/
def execBlotterEnable (m : Master) (s : State) : Host.Outcome State Fault Refusal := .next (writeField s m (telReg 0x8200) 0 1 1)

/-! ## Reset, lifecycle, fuses, crash log (R447, R486, R491, R492) -/

/-- WARM_RESET (R486): a pulse on the pin, or a write of BOOT_RESET.WARM. -/
def execWarmReset (cause : WarmCause) (s : State) : Host.Outcome State Fault Refusal :=
  .next (match cause with
    | .pin lowNs => warmPulse s lowNs
    | .write m => writeNative s m (bootReg 0x24) 1)

/-- BOOT_LC_CMD is written with GO = 1 (R491): TARGET and CONFIRM first, then the command of a master that passes the guard;
`verified` is how the programming of the rows ends. -/
def lcWrite (s : State) (m : Master) (target : BitVec 2) (confirm : BitVec 16) (verified : Bool) : State :=
  let off := usedOff s m (bootReg 0x30)
  let t := writeNative s m (bootReg 0x30) (target.toNat + 2 ^ 16 * confirm.toNat)
  if (cwPlace s m off).isSome && passes m (bootReg 0x30) && !s.boot.inReset then
    lifecycle t (masterSecure m) target.toNat confirm.toNat verified
  else t

/-- LIFECYCLE_TRANSITION (R491). -/
def execLifecycleTransition (m : Master) (target : BitVec 2) (confirm : BitVec 16) (verified : Bool) (s : State) :
    Host.Outcome State Fault Refusal :=
  .next (lcWrite s m target confirm verified)

/-- PROGRAM_KEY_HASH (R492): OP 1 with GO = 1. -/
def execProgramKeyHash (m : Master) (s : State) : Host.Outcome State Fault Refusal := .next (writeNative s m (bootReg 0x34) 0x11)

/-- PROGRAM_COMPAT_LOCK (R492): OP 2 with GO = 1. -/
def execProgramCompatLock (m : Master) (s : State) : Host.Outcome State Fault Refusal :=
  .next (writeNative s m (bootReg 0x34) 0x12)

/-- CRASH_LOG_WRITE (R447): EVT_CRASH_CTL.WRITE = 1. -/
def execCrashLogWrite (m : Master) (s : State) : Host.Outcome State Fault Refusal := .next (writeNative s m (evtReg 0x30) 1)

/-! ## Domains (R456, R460) -/

/-- PWR_DOM_CTL_d is written with a TARGET and GO = 1 (R456). -/
def domCommand (s : State) (m : Master) (d target : Nat) : State := writeNative s m (domReg d 0) (target + 0x10)

/-- DOMAIN_LIT_COMMAND (R456). -/
def execDomainLitCommand (m : Master) (d : Nat) (s : State) : Host.Outcome State Fault Refusal :=
  onUnit nDomains d (domCommand s m d 0)

/-- DOMAIN_EMBER_COMMAND (R456). -/
def execDomainEmberCommand (m : Master) (d : Nat) (s : State) : Host.Outcome State Fault Refusal :=
  onUnit nDomains d (domCommand s m d 1)

/-- DOMAIN_COLD_COMMAND (R456). -/
def execDomainColdCommand (m : Master) (d : Nat) (s : State) : Host.Outcome State Fault Refusal :=
  onUnit nDomains d (domCommand s m d 2)

/-- DOMAIN_WAKE_COMPLETE (R460): the domain is Lit, and the accesses that waited for it are performed. -/
def execDomainWakeComplete (d : Nat) (s : State) : Host.Outcome State Fault Refusal :=
  onUnit nDomains d (if wakeReady s d then resumeStalled (wakeDone s d) d else s)

end Sys2Proof.Machine
end

