-- ==== Sys2Proof/Machine/Messages.lean ====
section
/-! DEFINITION. Responses as they reach their requester (R145–R153, R155) and agent messages (R153, R324, R387). -/
namespace Sys2Proof.Machine
open Config

/-! ## Responses -/

/-- A response for the device's own agent 63 (R244, R402, R409). -/
def homeResponse (s : State) (tag : Tag) (r : Rsp) : State :=
  let t := tag.toNat
  if 0x100 ≤ t ∧ t < 0x100 + nSlices then maintDone s (t - 0x100)
  else if 0x200 ≤ t ∧ t < 0x300 then dumpBack s tag r
  else if tag = blotTag then blotBack s r
  else s

/-- The test that selects a message by opcode, source, destination and tag. -/
def sameRsp (opc : Nat) (src dst : AgentId) (tag : Tag) (m : Msg) : Bool :=
  m.opc == opc && m.src == src && m.dst == dst && m.tag == tag

/-- A response that is held nowhere, from its operands. -/
def rspMsg (opc : Nat) (src dst : AgentId) (tag : Tag) (param : Nat) (poison : Bool) (body : List Word) : Msg :=
  { opc := opc, vc := vcOf opc, src := src, dst := dst, tag := tag, priv := false, hop := false, poison := poison,
    param := BitVec.ofNat 8 param, addr := 0, body := body }

/-- A response arrives (R46, R145): on to another device, to a host's port, or to the agent of this device that waits for it.
Where the message is held, what it says counts; `m0` is the message of the operands. It does not pass an earlier one of
its order (R157). In the fatal state nothing is delivered
(R431). -/
def respondTo (s : State) (m0 : Msg) : State :=
  let p := sameRsp m0.opc m0.src m0.dst m0.tag
  let m := (s.heldMsg p).getD m0
  if s.mustWait p m && !s.boot.fatal then s.holdMsg p m none
  else
  let (s, ing) := s.takeMsg p
  let s := s.blotNote m.dst m.tag fun w =>
    if w.outcome = some 7 ∧ w.got = none then { w with got := some s.tb.count.toNat } else w
  if s.boot.fatal then s
  else if m.dst.dev ≠ s.devNum then forwardMsg s ing m
  else
    let l := m.dst.loc
    if l < 32 then s.sendPlain m
    else
      let s := s.blotLeave m
      if l < 48 then coreResponse s (l - 32) m.tag (rspOf m)
      else if l < 56 then engineResponse s (l - 48) m.tag (rspOf m)
      else if l = 63 then homeResponse s m.tag (rspOf m)
      else s.discard 0 m

/-- DATA_UC (R146): the data of an uncached read. -/
def execDataUc (src dst : AgentId) (tag : Tag) (data : LineData) (poison : Bool) (s : State) : Host.Outcome State Fault Refusal :=
  .next (respondTo s (rspMsg opcDATA_UC src dst tag 0 poison (wordsLE 16 data.toNat)))

/-- WR_DONE (R155): the write is performed; PARAM[0] of the answer to an SCND of this device says whether it stored. -/
def execWrDone (src dst : AgentId) (tag : Tag) (s : State) : Host.Outcome State Fault Refusal :=
  .next (respondTo s (rspMsg opcWR_DONE src dst tag (b2n (dst.dev == s.devNum && decide (32 ≤ dst.loc) && decide (dst.loc < 48)))
    false []))

/-- AMO_DATA (R147): the value before the atomic. -/
def execAmoData (src dst : AgentId) (tag : Tag) (value : DWord) (poison : Bool) (s : State) : Host.Outcome State Fault Refusal :=
  .next (respondTo s (rspMsg opcAMO_DATA src dst tag 0 poison (wordsLE 2 value.toNat)))

/-- CMP: a MAINT or PREFETCH is complete. -/
def execCmp (src dst : AgentId) (tag : Tag) (s : State) : Host.Outcome State Fault Refusal :=
  .next (respondTo s (rspMsg opcCMP src dst tag 0 false []))

/-- MSG_DONE (R153); `full` is PARAM[0]. -/
def execMsgDone (src dst : AgentId) (tag : Tag) (full : Bool) (s : State) : Host.Outcome State Fault Refusal :=
  .next (respondTo s (rspMsg opcMSG_DONE src dst tag (b2n full) false []))

/-- NO_TARGET (R152): a refusal. -/
def execNoTarget (src dst : AgentId) (tag : Tag) (reason : BitVec 8) (s : State) : Host.Outcome State Fault Refusal :=
  .next (respondTo s (rspMsg opcNO_TARGET src dst tag 0 false [reason.setWidth 32]))

/-! ## Agent messages (R153) -/

/-- The 64-bit pairs of a payload (R387). -/
def pairs : List Word → List DWord
  | a :: b :: t => BitVec.ofNat 64 (a.toNat + 2 ^ 32 * b.toNat) :: pairs t
  | _ => []

/-- Push a message into mailbox m as a whole, or set its OVERRUN (R387). -/
def mboxPush (s : State) (m : Nat) (payload : List Word) : State × Bool :=
  match fifoPush 256 (sget fifoD s.evt.mbox m) (pairs payload) with
  | some f => ({ s with evt := { s.evt with mbox := sset fifoD s.evt.mbox m f } }, true)
  | none => (s.setFld (mboxReg m 0x10) 0 1 1, false)

/-- Answer an agent message: MSG_DONE with PARAM[0] = 1 where it was not delivered (R153). -/
def msgDone (s : State) (m : Msg) (ok : Bool) : State :=
  s.sendPlain { s.mkRsp opcMSG_DONE m.src m.tag [] with param := BitVec.ofNat 8 (b2n !ok) }

/-- An agent message at this device (R153): to a host's port, a cluster's ring, a mailbox, or refused. A cluster that is not Lit
wakes, and the message waits (R326). -/
def agentMsg (s : State) (ing : Option Nat) (m : Msg) (mbox : BitVec 3) (chan : BitVec 8) (payload : List Word) : State :=
  let l := m.dst.loc
  if m.dst.dev ≠ s.devNum then forwardMsg s ing m
  else if l < 32 then deliverLocal s ing m
  else if l < 48 then
    let c := l - 32
    if s.clusterPresent c = false then s.refuseAt ing m 2
    else if s.domLit (44 + c) = true ∧ (s.cluster c).resetting = false then
      let r := ringPush s c m.src mbox chan payload
      msgDone r.1 m r.2
    else
      let s := s.wake (44 + c)
      s.hold m ing false
  else if l = 63 then
    let r := mboxPush s mbox.toNat payload
    msgDone r.1 m r.2
  else s.refuseAt ing m 3

/-- AGENT_MSG (R153), in the order of its source and destination (R157). -/
def execAgentMsg (src dst : AgentId) (tag : Tag) (mbox : BitVec 3) (chan : BitVec 8) (payload : List Word) (s : State) :
    Host.Outcome State Fault Refusal :=
  let p := sameRsp opcAGENT_MSG src dst tag
  let m0 := rspMsg opcAGENT_MSG src dst tag 0 false (w32 (mbox.toNat + 2 ^ 8 * chan.toNat) :: payload)
  let m := (s.heldMsg p).getD m0
  let w := m.body.headD 0
  let r := s.takeMsg p
  .next (if s.mustWait p m && !s.boot.fatal then s.holdMsg p m none
    else if r.1.boot.fatal then r.1
    else agentMsg r.1 r.2 m (BitVec.ofNat 3 (wfld w 0 3)) (BitVec.ofNat 8 (wfld w 8 8)) m.body.tail)

end Sys2Proof.Machine
end

