-- ==== Sys2Proof/Machine/Requests.lean ====
section
/-! DEFINITION. Requests as they reach the decoder (R39): to the control window (R40, R149), to a slice (R185, R186), to another
device (R160), or refused (R148, R152). -/
namespace Sys2Proof.Machine
open Config

/-! ## What a request asks for -/

/-- A request with a reserved SIZE, a line request off its line, an RD_UC or AMO off its size (R148). -/
def badRequest (m : Msg) : Bool :=
  let a := m.addr.toNat
  if m.opc = opcRD_UC then
    let size := m.param.toNat % 8
    size == 4 || size == 5 || size == 7 || decide (a % 2 ^ size ≠ 0)
  else if m.opc = opcAMO then decide (a % (if m.param.getLsbD 3 then 8 else 4) ≠ 0)
  else decide (a % 64 ≠ 0)

/-- The kind of a request at its slice; `own` for one of this device's scribe cores, whose LRES and SCND stand out (R239). An
unprivileged INV is performed as CLEAN_INV (R229). -/
def kindOf (m : Msg) (own : Bool) : ReqKind :=
  if m.opc = opcRD_SHARED then .rdShared
  else if m.opc = opcRD_OWN then .rdOwn
  else if m.opc = opcUPGRADE then .upgrade
  else if m.opc = opcRD_UC then (if own && m.param.getLsbD 3 then .lres else .rdUc)
  else if m.opc = opcWR_LINE then .wrLine
  else if m.opc = opcWR_PART then (if own && m.param.getLsbD 0 then .scnd else .wrPart)
  else if m.opc = opcZERO_LINE then .zero
  else if m.opc = opcAMO then .amo
  else if m.opc = opcMAINT then
    match m.param.toNat % 4 with
    | 0 => .clean
    | 1 => if m.priv then .inv else .cleanInv
    | 2 => .cleanInv
    | _ => .cleanAll
  else .prefetch

/-- The core that a request of this device's clusters comes from alone (R240). -/
def coreOf (m : Msg) : Option Nat :=
  let c := 8 * (m.src.loc - 32)
  if m.opc = opcWR_LINE ∨ (m.opc = opcWR_PART ∧ m.param.getLsbD 0 = false) then
    (if m.param.getLsbD 7 then some (c + m.param.toNat / 16 % 8) else none)
  else some (c + m.tag.toNat % 8)

/-- A request of a scribe cluster of this device. -/
def fromCluster (s : State) (m : Msg) : Bool := m.src.dev == s.devNum && decide (32 ≤ m.src.loc) && decide (m.src.loc < 48)

/-- A request as its slice holds it: mask and data of a write, operands of an atomic (R146, R147). -/
def reqOf (s : State) (m : Msg) : Req :=
  let own := fromCluster s m
  let b := m.body
  let part := m.opc == opcWR_PART
  { kind := kindOf m own, src := m.src, tag := m.tag, addr := m.addr, priv := m.priv, size := m.param.toNat % 8,
    mask := if part then BitVec.ofNat 64 (ofWordsLE (b.take 2)) else 0,
    data := BitVec.ofNat 512 (ofWordsLE (if part then b.drop 2 else b)),
    poison := m.poison, amoOp := m.param.toNat % 16,
    operand := BitVec.ofNat 64 (ofWordsLE (b.take 2)), compare := BitVec.ofNat 64 (ofWordsLE (b.drop 2)),
    core := if own then coreOf m else none }

/-! ## The control window (R40, R149) -/

/-- The bytes that a write mask selects, where they are 4 or 8 aligned bytes and no more: the first and their number (R149). -/
def maskAccess (mask : BitVec 64) : Option (Nat × Nat) :=
  ((List.range 16).findSome? fun i => if mask = byteMask (4 * i) 4 then some (4 * i, 4) else none).orElse fun _ =>
    (List.range 8).findSome? fun i => if mask = byteMask (8 * i) 8 then some (8 * i, 8) else none

/-- A request to the control window: an access of its requester, or refused (R40, R149). -/
def cwRequest (s : State) (ing : Option Nat) (m : Msg) (off : Nat) : State :=
  let who : Master := .agent m.src m.priv
  let s' := s.blotNote m.src m.tag fun w => { w with outcome := some 8 }
  if m.opc = opcRD_UC then cwAccess s' ⟨who, off, 2 ^ (m.param.toNat % 8), false, 0, .msg m.src m.tag⟩
  else if m.opc = opcWR_PART then
    let r := reqOf s m
    match maskAccess r.mask with
    | some (first, n) =>
      cwAccess s' ⟨who, off + first, n, true, BitVec.ofNat 64 (lineBytes r.data first n), .msg m.src m.tag⟩
    | none => cwAccess s' ⟨who, off, 0, true, 0, .msg m.src m.tag⟩
  else s.refuseAt ing m 4

/-! ## The decoder (R39) -/

/-- The blotter sees a request that the spine admits from a port (R405). -/
def admitPort (s : State) (ing : Option Nat) (m : Msg) : State :=
  match ing with
  | some p =>
    if s.bit (telReg 0x8208) p then blotAdmit s (followOf s (if s.isFabric p then 1 else 0) p m.tag.toNat 0 m) else s
  | none => s

/-- The ingress of a message: the port whose buffer held it; none for one that the spine held; for one held nowhere, the
port of its host (log entry 11). -/
def ingressOf (s : State) (p : Msg → Bool) (m : Msg) : Option Nat :=
  match s.findRx p with
  | some (i, _) => some i
  | none =>
    match s.spine.fwd.find? fun h => p h.msg with
    | some h => h.from_
    | none =>
    if s.spine.req.any p then none
    else if m.src.dev = s.devNum ∧ s.hostAgent m.src.loc = true then some (m.src.loc / 2) else none

/-- A request goes where its address says (R39), by the voted address map (R69). Only hosts send the cacheable requests (R144):
one whose SRC is no host caching agent has no response and no effect (DESIGN CHOICE, log entry 75). -/
def decode39 (s : State) (ing : Option Nat) (m : Msg) : State :=
  let s := voteMap s
  if isGrantKind (kindOf m false) && decide (32 ≤ m.src.loc) then s
  else match s.classify m.addr with
    | .cw off => if badRequest m then s.refuseAt ing m 8 else cwRequest s ing m off
    | .home _ => if badRequest m then s.refuseAt ing m 8 else submit s (reqOf s m)
    | _ => forwardMsg s ing m

/-- The input of the slice that a request is for holds its 128 entries: the spine holds the request (R216). -/
def inputFull (s : State) (m : Msg) : Bool :=
  match s.classify m.addr with
  | .home _ => !badRequest m && decide (128 ≤ (s.slice (s.sliceOf (lineOf m.addr))).inq.length)
  | _ => false

/-- The request that a command stands for reaches the decoder: the one that `p` selects where the device holds it, else `m0`.
Where the slice's input is full, or an earlier request of its source to its line has not been taken (R157), it stays
where it is held. In the fatal state and in reset it is dropped (R431). -/
def request (s : State) (p : Msg → Bool) (m0 : Msg) : State :=
  let held := s.heldMsg p
  let m := held.getD m0
  let m := { m with priv := s.privOf m.src m.priv }
  let ing := ingressOf s p m
  let t := (s.takeMsg p).1
  if s.boot.fatal || s.boot.inReset then t
  else if inputFull s m || s.mustWait p m then s.holdMsg p m ing
  else decode39 (if s.wasAdmitted p then t else admitPort t ing m) ing m

/-- A request selected by opcode, source, tag and address. -/
def plainRequest (s : State) (opc : Nat) (src : AgentId) (tag : Tag) (priv : Bool) (param : Nat) (addr : PA) (poison : Bool)
    (body : List Word) : State :=
  request s (sameMsg opc src tag addr) (reqMsg src tag opc priv param addr poison body)

/-- A MAINT request, selected by its operation too. -/
def maintRequest (s : State) (op : Nat) (src : AgentId) (tag : Tag) (priv : Bool) (addr : PA) : State :=
  request s (fun m => sameMsg opcMAINT src tag addr m && m.param.toNat % 4 == op) (reqMsg src tag opcMAINT priv op addr false [])

/-! ## The commands -/

/-- RD_SHARED (R185). -/
def execRdShared (src : AgentId) (tag : Tag) (addr : PA) (s : State) : Host.Outcome State Fault Refusal :=
  .next (plainRequest s opcRD_SHARED src tag false 0 addr false [])

/-- RD_OWN (R185). -/
def execRdOwn (src : AgentId) (tag : Tag) (addr : PA) (s : State) : Host.Outcome State Fault Refusal :=
  .next (plainRequest s opcRD_OWN src tag false 0 addr false [])

/-- UPGRADE (R185). -/
def execUpgrade (src : AgentId) (tag : Tag) (addr : PA) (s : State) : Host.Outcome State Fault Refusal :=
  .next (plainRequest s opcUPGRADE src tag false 0 addr false [])

/-- RD_UC (R146, R149, R186). -/
def execRdUc (src : AgentId) (tag : Tag) (priv : Bool) (addr : PA) (size : BitVec 3) (s : State) :
    Host.Outcome State Fault Refusal :=
  .next (plainRequest s opcRD_UC src tag priv size.toNat addr false [])

/-- WR_LINE (R186). -/
def execWrLine (src : AgentId) (tag : Tag) (addr : PA) (data : LineData) (poison : Bool) (s : State) :
    Host.Outcome State Fault Refusal :=
  .next (plainRequest s opcWR_LINE src tag false 0 addr poison (wordsLE 16 data.toNat))

/-- WR_PART (R146, R149, R186). -/
def execWrPart (src : AgentId) (tag : Tag) (priv : Bool) (addr : PA) (mask : BitVec 64) (data : LineData) (poison : Bool)
    (s : State) : Host.Outcome State Fault Refusal :=
  .next (plainRequest s opcWR_PART src tag priv 0 addr poison (partBody mask data))

/-- ZERO_LINE (R213). -/
def execZeroLine (src : AgentId) (tag : Tag) (addr : PA) (s : State) : Host.Outcome State Fault Refusal :=
  .next (plainRequest s opcZERO_LINE src tag false 0 addr false [])

/-- AMO (R147). -/
def execAmo (src : AgentId) (tag : Tag) (addr : PA) (param : BitVec 8) (operand compare : DWord) (poison : Bool) (s : State) :
    Host.Outcome State Fault Refusal :=
  .next (plainRequest s opcAMO src tag false param.toNat addr poison (amoBody operand compare))

/-- MAINT_CLEAN (R230). -/
def execMaintClean (src : AgentId) (tag : Tag) (addr : PA) (s : State) : Host.Outcome State Fault Refusal :=
  .next (maintRequest s 0 src tag false addr)

/-- MAINT_INV (R229). -/
def execMaintInv (src : AgentId) (tag : Tag) (priv : Bool) (addr : PA) (s : State) : Host.Outcome State Fault Refusal :=
  .next (maintRequest s 1 src tag priv addr)

/-- MAINT_CLEAN_INV (R230). -/
def execMaintCleanInv (src : AgentId) (tag : Tag) (addr : PA) (s : State) : Host.Outcome State Fault Refusal :=
  .next (maintRequest s 2 src tag false addr)

/-- MAINT_CLEAN_ALL (R231). -/
def execMaintCleanAll (src : AgentId) (tag : Tag) (addr : PA) (s : State) : Host.Outcome State Fault Refusal :=
  .next (maintRequest s 3 src tag false addr)

/-- PREFETCH (R227). -/
def execPrefetch (src : AgentId) (tag : Tag) (addr : PA) (s : State) : Host.Outcome State Fault Refusal :=
  .next (plainRequest s opcPREFETCH src tag false 0 addr false [])

/-! ## Forwarding (R46, R160) -/

/-- A message for another device is routed, in the order of its source (R157); one for an agent of this device is delivered. A request that this device serves
is no message to forward. -/
def forward (s : State) (ingress : Option Nat) (msg : Msg) : State :=
  let here := match s.classify msg.addr with
    | .cw _ => true
    | .home _ => true
    | _ => false
  if isReq msg && here then s
  else
    let ing := match s.findRx (· == msg) with
      | some (p, _) => some p
      | none => match s.spine.fwd.find? fun h => h.msg == msg with
        | some h => h.from_
        | none => ingress
    let t := (s.takeMsg (· == msg)).1
    if t.boot.fatal then t
    else if s.mustWait (· == msg) msg then s.holdMsg (· == msg) msg ing
    else if isReq msg then forwardMsg (if s.wasAdmitted (· == msg) then t else admitPort t ing msg) ing msg
    else if msg.dst.dev = s.devNum then deliverLocal t ing msg
    else forwardMsg t ing msg

/-- MESSAGE_FORWARD (R160). -/
def execMessageForward (ingress : Option Nat) (msg : Msg) (s : State) : Host.Outcome State Fault Refusal :=
  .next (forward s ingress msg)

end Sys2Proof.Machine
end

