-- ==== Sys2Proof/Machine/Strikes.lean ====
section
/-! DEFINITION. Particle strikes on the storage of the device and the vote sweep (R69–R71, R199, R301, R420–R426). The manual
gives storage errors no command of their own: strikes since the last sweep arrive with the sweep (log entry 82). -/
namespace Sys2Proof.Machine
open Config

/-- A corrected error in queue data is repaired; one beyond correction: the copies of the line go on with poison, and
INT_DATA_UE names the domain (R421, R430). -/
def dataUe (s : State) (d : Nat) : State := s.setErr (evtReg 0x20) 6 0x03 (w32 d)

/-- A message of a line goes on with poison where it carries data. -/
def msgTransit (line : Nat) (m : Msg) : Msg :=
  if hasAddr m.opc = true ∧ lineOf m.addr = line ∧ m.body ≠ [] then { m with poison := true } else m

/-- The copies of a home line that a slice holds on their way: in its kindling entries, its miss registers, its queues and
intakes. -/
def sliceTransit (line : Nat) (x : Slice) : Slice :=
  let req := fun (r : Req) => if lineOf r.addr = line then { r with poison := true } else r
  { x with
    ret := x.ret.map fun r => if r.line = line then { r with poison := true } else r
    kindle := x.kindle.map fun k => if k.line = line then { k with poison := true } else k
    installs := x.installs.map fun n => if n.line = line then { n with poison := true } else n
    outWr := x.outWr.map fun o => if o.line = line then { o with poison := true } else o
    txns := x.txns.map fun t =>
      if t.line = line then
        { t with
          snpData := t.snpData.map fun v => (v.1, true)
          fetch := match t.fetch with
            | .got d _ f => .got d true f
            | f => f
          req := req t.req
          secs := t.secs.map req
          outPoison := true }
      else t
    srsp := x.srsp.map (msgTransit line)
    inq := x.inq.map req
    confq := x.confq.map req
    retryq := x.retryq.map req }

/-- The copies of a home line in the write and flue queues of its controller. -/
def queueTransit (line : Nat) (x : Pc) : Pc :=
  { x with wrq := x.wrq.map fun e => if e.line = line then { e with poison := true } else e }

/-- The data of a line in the messages that the spine holds. -/
def spineTransit (line : Nat) (x : Spine) : Spine :=
  { x with req := x.req.map (msgTransit line), fwd := x.fwd.map fun h => { h with msg := msgTransit line h.msg } }

/-- A response with data that the spine holds, by its destination and tag: the line goes on with poison (R421). -/
def strikeMessage (s : State) (dst : AgentId) (tag : Tag) : State :=
  let hit := fun (m : Msg) => if m.dst = dst ∧ m.tag = tag ∧ m.body ≠ [] ∧ isRsp m = true ∧ m.opc ≠ opcNO_TARGET then
    { m with poison := true } else m
  let sp := { s.spine with rsp := s.spine.rsp.map hit, fwd := s.spine.fwd.map fun h => { h with msg := hit h.msg } }
  if sp = s.spine then s else dataUe { s with spine := sp } 2

/-- A strike on the copies of a line in queues and buffers (R421). What the spine holds is named by its half 0 (DESIGN CHOICE,
log entry 82). -/
def strikeTransit (s : State) (line : Nat) : State :=
  let i := s.sliceOf line
  let p := (hbmLoc s.ten line).pc
  let s := if spineTransit line s.spine = s.spine then s else dataUe { s with spine := spineTransit line s.spine } 2
  let s := if sliceTransit line (s.slice i) = s.slice i then s else dataUe (s.modSlice i (sliceTransit line)) (20 + i)
  if queueTransit line (s.pc p) = s.pc p then s else dataUe (s.modPc p (queueTransit line)) (pcDomain p)

/-- Tag copies of a way fail (R421, R426): one is rebuilt from its twin and counted; both are fatal. -/
def strikeTag (s : State) (i set way : Nat) (both : Bool) : State :=
  if both then
    let body := way + 2 ^ 4 * set + 2 ^ 20 * b2n (s.hway i set way).dirty
    fatalErr (s.wr (sliceReg i 0x8C) (w32 (body + 2 ^ 22 * 3))) (sliceReg i 0x88) 2 (0x20 + i) (w32 body)
  else wayErrors s i way 1

/-- A slate word with one wrong bit, or two (R301). -/
def strikeSlate (s : State) (c word : Nat) (two : Bool) : State :=
  s.modCluster c fun x => { x with slateErr := sset zeroD x.slateErr word (if two then 2 else 1) }

/-- A store-buffer or gather-buffer entry of a line leaves with poison (R421). -/
def strikeStore (s : State) (k line : Nat) : State :=
  s.modCore k fun x => { x with sb := x.sb.map fun e => if e.line = line then { e with poison := true } else e }
def strikeGather (s : State) (c line : Nat) : State :=
  s.modCluster c fun x => { x with gather := x.gather.map fun e => if e.line = line then { e with poison := true } else e }

/-- A nib line with a parity error is invalidated (R421). -/
def strikeNib (s : State) (k line : Nat) : State :=
  (nibDrop s k line).modCore k fun x => { x with inib := x.inib.filter fun l => l != line }

/-- One strike. One on a unit that is absent or has no power finds nothing. -/
def strike (s : State) (u : Upset) : State :=
  let slice := fun (i set way : Nat) => s.slicePresent i && !(s.domSt (20 + i) == .cold) && decide (set < 65536) && decide (way < 16)
  let cluster := fun (c : Nat) => s.clusterPresent c && !(s.domSt (44 + c) == .cold)
  match u with
  | .voted off copy bits => strikeVoted s off copy bits
  | .hearth i set way e =>
    if slice i set way && (s.hway i set way).valid then
      s.setHway i set way { s.hway i set way with errs := (s.hway i set way).errs ++ [e] }
    else s
  | .tag i set way both => if slice i set way then strikeTag s i set way both else s
  | .dirEntry i set way =>
    if slice i set way then
      s.modSlice i fun x => { x with dir := smod dentryD x.dir (set * 16 + way) fun e => { e with bad := true } }
    else s
  | .slate c word two => if cluster c && decide (word < 65536) then strikeSlate s c word two else s
  | .transit line => strikeTransit s line
  | .message dst tag => strikeMessage s dst tag
  | .fuse off copy bits => strikeFuse s off copy bits
  | .store k line => if cluster (k / 8) then strikeStore s k line else s
  | .gather c line => if cluster c then strikeGather s c line else s
  | .nib k line => if cluster (k / 8) then strikeNib s k line else s
  | .control d => if s.domLit d then fatalErr s (evtReg 0x20) 5 0x03 (w32 d) else s

/-- TV_VOTE_SWEEP (R71): strikes since the last sweep, then every vote. -/
def execTvVoteSweep (upsets : List Upset) (s : State) : Host.Outcome State Fault Refusal :=
  .next (voteSweep (upsets.foldl strike s))

end Sys2Proof.Machine
end

