-- ==== Sys2Proof/Machine/Tap.lean ====
section
/-! DEFINITION. The levels of the balls (R133, R528, R529) and the test access port (R493, R537): an IEEE 1149.1 controller, one TCK
cycle a command (log entry 44). -/
namespace Sys2Proof.Machine
open Config

/-- The next controller state for a TMS level (IEEE 1149.1, PRESUMED, log entry 44). -/
def TapSt.next : TapSt → Bool → TapSt
  | .reset, tms => if tms then .reset else .idle
  | .idle, tms => if tms then .selDr else .idle
  | .selDr, tms => if tms then .selIr else .capDr
  | .capDr, tms => if tms then .ex1Dr else .shDr
  | .shDr, tms => if tms then .ex1Dr else .shDr
  | .ex1Dr, tms => if tms then .updDr else .pauDr
  | .pauDr, tms => if tms then .ex2Dr else .pauDr
  | .ex2Dr, tms => if tms then .updDr else .shDr
  | .updDr, tms => if tms then .selDr else .idle
  | .selIr, tms => if tms then .reset else .capIr
  | .capIr, tms => if tms then .ex1Ir else .shIr
  | .shIr, tms => if tms then .ex1Ir else .shIr
  | .ex1Ir, tms => if tms then .updIr else .pauIr
  | .pauIr, tms => if tms then .ex2Ir else .pauIr
  | .ex2Ir, tms => if tms then .updIr else .shIr
  | .updIr, tms => if tms then .selDr else .idle

/-- IDCODE (R537). -/
def idcode (f : Fuses) : Nat := 1 + 2 * 0x2B5 + 2 ^ 12 * f.devId.toNat + 2 ^ 28 * (f.stepping.toNat / 16)

/-- The bits of a number, least significant first. -/
def natBits (n v : Nat) : List Bool := (List.range n).map v.testBit

/-- The instruction that acts: the internal ones act as BYPASS in PROVISIONED and DEPLOYED (R493). -/
def State.tapInstr (s : State) : TapInstr :=
  match s.tap.instr with
  | .internal => if s.lifecycle = 1 ∨ s.lifecycle = 2 then .bypass else .internal
  | i => i

/-! ## The balls (R133, R528, R529) -/

/-- What the device does at a ball: drives it low or high, or nothing. A lane that carries its coded stream is `signal`. -/
inductive Level | low | high | z | signal
  deriving DecidableEq, Repr

/-- What the device's own logic drives. READY and ALERT_N are open drain; between commands the flash and the regulator interface are
at rest, as R529 has them before their first transfer (log entry 44). -/
def ownLevel (s : State) : Ball → Level
  | .ready => if s.pins.ready then .z else .low
  | .alertN => if s.pins.alertN then .z else .low
  | .flashSck | .avsClk => .low
  | .flashCsN | .avsMdata => .high
  | .tx p _ _ => if txBalls s p = .driven then .signal else .z
  | _ => .z

/-- An external test drives the balls from the latches of the boundary register (R493). -/
def extesting (s : State) : Bool := s.tapInstr == .extest || s.tapInstr == .extestPulse || s.tapInstr == .extestTrain

/-- What the latch of a cell holds, where the boundary register has the cell. -/
def latchOf (s : State) (c : Cell) : Option Bool := ((boundaryCells.zip s.tap.latch).find? fun e => e.1 == c).map (·.2)

/-- What the device does at a ball: nothing at any 1.8 V ball while VDD_IO is off, what an external test asks, else what its own
logic drives. A released open-drain ball is not driven. -/
def ballLevel (s : State) (b : Ball) : Level :=
  let lane := match b with
    | .tx _ _ _ | .rx _ _ _ | .refclk _ _ => true
    | _ => false
  if s.phys.lowRails.contains .io && !lane then .z
  else if extesting s then
    match latchOf s (.drive b) with
    | none => ownLevel s b
    | some v =>
      if latchOf s (.enable b) = some false then .z
      else if v then (if b = .ready ∨ b = .alertN then .z else .high) else .low
  else ownLevel s b

/-- The level that the device finds at a ball: what the board drives on an input of the state, what the device drives itself, else
a free value, the n-th (log entry 3). -/
def levelAt (s : State) (n : Nat) (b : Ball) : Bool :=
  match b with
  | .resetN => s.pins.resetN
  | .warmResetN => s.pins.warmResetN
  | .brakeN => s.pins.brakeN
  | b => match ballLevel s b with
    | .low => false
    | .high => true
    | _ => freeCell n b

/-- What a cell captures: the level at its ball, or what the device's own logic would drive there (R493). -/
def captureCell (s : State) (n : Nat) : Cell → Bool
  | .observe b => levelAt s n b
  | .drive b => match ownLevel s b with
    | .low => false
    | .high => true
    | .z => if b = .ready ∨ b = .alertN then true else freeCell n b
    | .signal => freeCell n b
  | .enable b => ownLevel s b != .z

/-! ## The controller -/

/-- The instruction selects the boundary register (R493). -/
def boundaryScan (s : State) : Bool := s.tapInstr == .sample || extesting s

/-- The data register that an instruction captures: IDCODE 32 bits, BYPASS one, the boundary register its cells; of an internal
test register the manual says nothing. -/
def tapCapture (s : State) : List Bool :=
  match s.tapInstr with
  | .idcode => natBits 32 (idcode s.boot.shadow)
  | .bypass => [false]
  | .internal => []
  | _ => boundaryCells.map (captureCell s s.freeCtr)

/-- The rising edge of TCK: what the present state captures or shifts. A boundary capture takes a free value. -/
def tapRise (s : State) (tdi : Bool) : State :=
  let t := s.tap
  match t.st with
  | .capDr => { s with tap := { t with dr := tapCapture s }, freeCtr := s.freeCtr + b2n (boundaryScan s) }
  | .shDr => { s with tap := { t with dr := match t.dr with
                                         | [] => []
                                         | _ :: r => r ++ [tdi] } }
  | .capIr => { s with tap := { t with ir := [] } }
  | .shIr => { s with tap := { t with ir := tdi :: t.ir } }
  | _ => s

/-- The falling edge: the instruction that takes effect, and TDO, which is driven only while shifting (R537). What no
register of known length holds is free. -/
def tapFall (s : State) : State :=
  match s.tap.st with
  | .reset => { s with tap := { s.tap with instr := .idcode, tdo := none } }
  | .updDr =>
    { s with tap := { s.tap with latch := if boundaryScan s then s.tap.dr else s.tap.latch, tdo := none } }
  | .updIr => { s with tap := { s.tap with instr := tapDecode s.tap.ir, tdo := none } }
  | .shIr =>
    let (s, b) := s.freeB
    { s with tap := { s.tap with tdo := some b } }
  | .shDr =>
    match s.tap.dr with
    | b :: _ => { s with tap := { s.tap with tdo := some b } }
    | [] =>
      let (s, b) := s.freeB
      { s with tap := { s.tap with tdo := some b } }
  | _ => { s with tap := { s.tap with tdo := none } }

/-- One TCK cycle; TRST_N low resets the controller at once. -/
def tapCycle (s : State) (trst tms tdi : Bool) : State :=
  if trst then { s with tap := Tap.reset }
  else
    let s := tapRise s tdi
    tapFall { s with tap := { s.tap with st := s.tap.st.next tms } }

/-- BOUNDARY_SCAN (R493). -/
def execBoundaryScan (trst tms tdi : Bool) (s : State) : Host.Outcome State Fault Refusal := .next (tapCycle s trst tms tdi)

end Sys2Proof.Machine
end

