-- ==== Sys2Proof/Machine/Dispatch.lean ====
section
/-! DEFINITION. One arm per command: the meaning it calls. -/
namespace Sys2Proof.Machine

def exec (i : Instr) (s : State) : Host.Outcome State Fault Refusal :=
  match i with
  | .coldReset lowNs stillLow => Sys2Proof.Machine.execColdReset lowNs stillLow s
  | .railUndervoltage rail lowNs stillLow => Sys2Proof.Machine.execRailUndervoltage rail lowNs stillLow s
  | .release timedOut => Sys2Proof.Machine.execRelease timedOut s
  | .warmReset cause => Sys2Proof.Machine.execWarmReset cause s
  | .portReset m p => Sys2Proof.Machine.execPortReset m p s
  | .lifecycleTransition m target confirm verified => Sys2Proof.Machine.execLifecycleTransition m target confirm verified s
  | .programKeyHash m => Sys2Proof.Machine.execProgramKeyHash m s
  | .programCompatLock m => Sys2Proof.Machine.execProgramCompatLock m s
  | .timebaseTick => Sys2Proof.Machine.execTimebaseTick s
  | .refclkLoss q => Sys2Proof.Machine.execRefclkLoss q s
  | .timebaseLockReturn => Sys2Proof.Machine.execTimebaseLockReturn s
  | .enterFatalState source code info => Sys2Proof.Machine.execEnterFatalState source code info s
  | .hang domain => Sys2Proof.Machine.execHang domain s
  | .damperTempRead temps => Sys2Proof.Machine.execDamperTempRead temps s
  | .stackTempRead k temps => Sys2Proof.Machine.execStackTempRead k temps s
  | .ageMeasure domain delay => Sys2Proof.Machine.execAgeMeasure domain delay s
  | .wearAccumulate mv degC => Sys2Proof.Machine.execWearAccumulate mv degC s
  | .pwrBrakeAssert lowNs => Sys2Proof.Machine.execPwrBrakeAssert lowNs s
  | .pwrBrakeRelease => Sys2Proof.Machine.execPwrBrakeRelease s
  | .registerWrite m off bytes data => Sys2Proof.Machine.execRegisterWrite m off bytes data s
  | .lowWordRead m off => Sys2Proof.Machine.execLowWordRead m off s
  | .lowWordWrite m off data => Sys2Proof.Machine.execLowWordWrite m off data s
  | .tvVoteSweep upsets => Sys2Proof.Machine.execTvVoteSweep upsets s
  | .indDataRead m window => Sys2Proof.Machine.execIndDataRead m window s
  | .indDataWrite m window data => Sys2Proof.Machine.execIndDataWrite m window data s
  | .indClaimRead m => Sys2Proof.Machine.execIndClaimRead m s
  | .indClaimRelease m => Sys2Proof.Machine.execIndClaimRelease m s
  | .mgmtEntdaa da => Sys2Proof.Machine.execMgmtEntdaa da s
  | .mgmtSetPointer bytes => Sys2Proof.Machine.execMgmtSetPointer bytes s
  | .mgmtWrite4 ptr data => Sys2Proof.Machine.execMgmtWrite4 ptr data s
  | .mgmtWrite8 ptr data => Sys2Proof.Machine.execMgmtWrite8 ptr data s
  | .mgmtPrivateRead clocked => Sys2Proof.Machine.execMgmtPrivateRead clocked s
  | .portEnable m p => Sys2Proof.Machine.execPortEnable m p s
  | .portDisable m p => Sys2Proof.Machine.execPortDisable m p s
  | .portQuiesced p => Sys2Proof.Machine.execPortQuiesced p s
  | .purgeSweepComplete => Sys2Proof.Machine.execPurgeSweepComplete s
  | .portRetrain m p => Sys2Proof.Machine.execPortRetrain m p s
  | .electricalIdleExit p => Sys2Proof.Machine.execElectricalIdleExit p s
  | .equalizeComplete p r => Sys2Proof.Machine.execEqualizeComplete p r s
  | .lockComplete p r => Sys2Proof.Machine.execLockComplete p r s
  | .paramComplete p partner => Sys2Proof.Machine.execParamComplete p partner s
  | .trainingTimeout p failed => Sys2Proof.Machine.execTrainingTimeout p failed s
  | .downWaitExpire p => Sys2Proof.Machine.execDownWaitExpire p s
  | .flitReceive p bytes rs => Sys2Proof.Machine.execFlitReceive p bytes rs s
  | .flitTransmit p => Sys2Proof.Machine.execFlitTransmit p s
  | .nakReceive p ack => Sys2Proof.Machine.execNakReceive p ack s
  | .replayTimeout p => Sys2Proof.Machine.execReplayTimeout p s
  | .recoverComplete p r partner partnerAck => Sys2Proof.Machine.execRecoverComplete p r partner partnerAck s
  | .recoverOverrun p => Sys2Proof.Machine.execRecoverOverrun p s
  | .laneErrorWindow p lane corrected => Sys2Proof.Machine.execLaneErrorWindow p lane corrected s
  | .laneLockLoss p lane => Sys2Proof.Machine.execLaneLockLoss p lane s
  | .idleReqReceive p => Sys2Proof.Machine.execIdleReqReceive p s
  | .idleAckReceive p => Sys2Proof.Machine.execIdleAckReceive p s
  | .idleReqTimeout p => Sys2Proof.Machine.execIdleReqTimeout p s
  | .linkIdleWake p rxActivity => Sys2Proof.Machine.execLinkIdleWake p rxActivity s
  | .relockTimeout p => Sys2Proof.Machine.execRelockTimeout p s
  | .rdShared src tag addr => Sys2Proof.Machine.execRdShared src tag addr s
  | .rdOwn src tag addr => Sys2Proof.Machine.execRdOwn src tag addr s
  | .upgrade src tag addr => Sys2Proof.Machine.execUpgrade src tag addr s
  | .rdUc src tag priv addr size => Sys2Proof.Machine.execRdUc src tag priv addr size s
  | .wrLine src tag addr data poison => Sys2Proof.Machine.execWrLine src tag addr data poison s
  | .wrPart src tag priv addr mask data poison => Sys2Proof.Machine.execWrPart src tag priv addr mask data poison s
  | .zeroLine src tag addr => Sys2Proof.Machine.execZeroLine src tag addr s
  | .amo src tag addr param operand compare poison => Sys2Proof.Machine.execAmo src tag addr param operand compare poison s
  | .maintClean src tag addr => Sys2Proof.Machine.execMaintClean src tag addr s
  | .maintInv src tag priv addr => Sys2Proof.Machine.execMaintInv src tag priv addr s
  | .maintCleanInv src tag addr => Sys2Proof.Machine.execMaintCleanInv src tag addr s
  | .maintCleanAll src tag addr => Sys2Proof.Machine.execMaintCleanAll src tag addr s
  | .prefetch src tag addr => Sys2Proof.Machine.execPrefetch src tag addr s
  | .snpAckI src tag addr => Sys2Proof.Machine.execSnpAckI src tag addr s
  | .snpAckS src tag addr => Sys2Proof.Machine.execSnpAckS src tag addr s
  | .snpDataI src tag addr dirty data poison => Sys2Proof.Machine.execSnpDataI src tag addr dirty data poison s
  | .snpDataS src tag addr dirty data poison => Sys2Proof.Machine.execSnpDataS src tag addr dirty data poison s
  | .snpGone src tag addr => Sys2Proof.Machine.execSnpGone src tag addr s
  | .snpMiss src tag addr => Sys2Proof.Machine.execSnpMiss src tag addr s
  | .evictClean src tag addr => Sys2Proof.Machine.execEvictClean src tag addr s
  | .evictDirty src tag addr data poison => Sys2Proof.Machine.execEvictDirty src tag addr data poison s
  | .gack src tag addr => Sys2Proof.Machine.execGack src tag addr s
  | .snoopTimeout agent addr => Sys2Proof.Machine.execSnoopTimeout agent addr s
  | .agentMsg src dst tag mbox chan payload => Sys2Proof.Machine.execAgentMsg src dst tag mbox chan payload s
  | .purgeNotice src agents => Sys2Proof.Machine.execPurgeNotice src agents s
  | .messageForward ingress msg => Sys2Proof.Machine.execMessageForward ingress msg s
  | .dataUc src dst tag data poison => Sys2Proof.Machine.execDataUc src dst tag data poison s
  | .wrDone src dst tag => Sys2Proof.Machine.execWrDone src dst tag s
  | .amoData src dst tag value poison => Sys2Proof.Machine.execAmoData src dst tag value poison s
  | .cmp src dst tag => Sys2Proof.Machine.execCmp src dst tag s
  | .msgDone src dst tag full => Sys2Proof.Machine.execMsgDone src dst tag full s
  | .noTarget src dst tag reason => Sys2Proof.Machine.execNoTarget src dst tag reason s
  | .hbmReadReturn sl line => Sys2Proof.Machine.execHbmReadReturn sl line s
  | .flueVictimAccepted sl line => Sys2Proof.Machine.execFlueVictimAccepted sl line s
  | .kindlingDataArrive sl line => Sys2Proof.Machine.execKindlingDataArrive sl line s
  | .streamEntryExpire sl ix => Sys2Proof.Machine.execStreamEntryExpire sl ix s
  | .sweepStep sl => Sys2Proof.Machine.execSweepStep sl s
  | .hearthDisable m sl => Sys2Proof.Machine.execHearthDisable m sl s
  | .hearthEnable m sl => Sys2Proof.Machine.execHearthEnable m sl s
  | .wayQuench m sl ways => Sys2Proof.Machine.execWayQuench m sl ways s
  | .wayUnquench m sl ways => Sys2Proof.Machine.execWayUnquench m sl ways s
  | .quenchWalkStep sl => Sys2Proof.Machine.execQuenchWalkStep sl s
  | .wayPowerUpDone sl way => Sys2Proof.Machine.execWayPowerUpDone sl way s
  | .slcMaintClean m sl => Sys2Proof.Machine.execSlcMaintClean m sl s
  | .slcMaintInv m sl => Sys2Proof.Machine.execSlcMaintInv m sl s
  | .slcMaintCleanInv m sl => Sys2Proof.Machine.execSlcMaintCleanInv m sl s
  | .slcMaintCleanAll m sl => Sys2Proof.Machine.execSlcMaintCleanAll m sl s
  | .poisonNotice sl line => Sys2Proof.Machine.execPoisonNotice sl line s
  | .wayErrorCountClear => Sys2Proof.Machine.execWayErrorCountClear s
  | .hbmScheduleCommand pc ck => Sys2Proof.Machine.execHbmScheduleCommand pc ck s
  | .refreshDue pc sid bank => Sys2Proof.Machine.execRefreshDue pc sid bank s
  | .rowIdleClose pc sid bank ck => Sys2Proof.Machine.execRowIdleClose pc sid bank ck s
  | .writeEntryRetire pc => Sys2Proof.Machine.execWriteEntryRetire pc s
  | .hbmReadDecode pc noise => Sys2Proof.Machine.execHbmReadDecode pc noise s
  | .periodicRetrain pc r => Sys2Proof.Machine.execPeriodicRetrain pc r s
  | .scrubRead pc => Sys2Proof.Machine.execScrubRead pc s
  | .softRepair pc noise => Sys2Proof.Machine.execSoftRepair pc noise s
  | .hbmReload m k => Sys2Proof.Machine.execHbmReload m k s
  | .ldB core rd ra imm => Sys2Proof.Machine.execLdB core rd ra imm s
  | .ldH core rd ra imm => Sys2Proof.Machine.execLdH core rd ra imm s
  | .ldW core rd ra imm => Sys2Proof.Machine.execLdW core rd ra imm s
  | .ldD core rd ra imm => Sys2Proof.Machine.execLdD core rd ra imm s
  | .ldBu core rd ra imm => Sys2Proof.Machine.execLdBu core rd ra imm s
  | .ldHu core rd ra imm => Sys2Proof.Machine.execLdHu core rd ra imm s
  | .ldWu core rd ra imm => Sys2Proof.Machine.execLdWu core rd ra imm s
  | .stB core rb ra imm => Sys2Proof.Machine.execStB core rb ra imm s
  | .stH core rb ra imm => Sys2Proof.Machine.execStH core rb ra imm s
  | .stW core rb ra imm => Sys2Proof.Machine.execStW core rb ra imm s
  | .stD core rb ra imm => Sys2Proof.Machine.execStD core rb ra imm s
  | .ldw core wd ra imm => Sys2Proof.Machine.execLdw core wd ra imm s
  | .stw core wb ra imm => Sys2Proof.Machine.execStw core wb ra imm s
  | .add core rd ra rb => Sys2Proof.Machine.execAdd core rd ra rb s
  | .sub core rd ra rb => Sys2Proof.Machine.execSub core rd ra rb s
  | .and core rd ra rb => Sys2Proof.Machine.execAnd core rd ra rb s
  | .or core rd ra rb => Sys2Proof.Machine.execOr core rd ra rb s
  | .xor core rd ra rb => Sys2Proof.Machine.execXor core rd ra rb s
  | .sll core rd ra rb => Sys2Proof.Machine.execSll core rd ra rb s
  | .srl core rd ra rb => Sys2Proof.Machine.execSrl core rd ra rb s
  | .sra core rd ra rb => Sys2Proof.Machine.execSra core rd ra rb s
  | .slt core rd ra rb => Sys2Proof.Machine.execSlt core rd ra rb s
  | .sltu core rd ra rb => Sys2Proof.Machine.execSltu core rd ra rb s
  | .min core rd ra rb => Sys2Proof.Machine.execMin core rd ra rb s
  | .max core rd ra rb => Sys2Proof.Machine.execMax core rd ra rb s
  | .minu core rd ra rb => Sys2Proof.Machine.execMinu core rd ra rb s
  | .maxu core rd ra rb => Sys2Proof.Machine.execMaxu core rd ra rb s
  | .mul core rd ra rb => Sys2Proof.Machine.execMul core rd ra rb s
  | .mulh core rd ra rb => Sys2Proof.Machine.execMulh core rd ra rb s
  | .mulhu core rd ra rb => Sys2Proof.Machine.execMulhu core rd ra rb s
  | .div core rd ra rb => Sys2Proof.Machine.execDiv core rd ra rb s
  | .divu core rd ra rb => Sys2Proof.Machine.execDivu core rd ra rb s
  | .rem core rd ra rb => Sys2Proof.Machine.execRem core rd ra rb s
  | .remu core rd ra rb => Sys2Proof.Machine.execRemu core rd ra rb s
  | .addImmediate core rd ra imm => Sys2Proof.Machine.execAddImmediate core rd ra imm s
  | .andImmediate core rd ra imm => Sys2Proof.Machine.execAndImmediate core rd ra imm s
  | .orImmediate core rd ra imm => Sys2Proof.Machine.execOrImmediate core rd ra imm s
  | .xorImmediate core rd ra imm => Sys2Proof.Machine.execXorImmediate core rd ra imm s
  | .sltImmediate core rd ra imm => Sys2Proof.Machine.execSltImmediate core rd ra imm s
  | .sltuImmediate core rd ra imm => Sys2Proof.Machine.execSltuImmediate core rd ra imm s
  | .sllImmediate core rd ra sh => Sys2Proof.Machine.execSllImmediate core rd ra sh s
  | .srlImmediate core rd ra sh => Sys2Proof.Machine.execSrlImmediate core rd ra sh s
  | .sraImmediate core rd ra sh => Sys2Proof.Machine.execSraImmediate core rd ra sh s
  | .lui core rd imm => Sys2Proof.Machine.execLui core rd imm s
  | .addhi core rd imm => Sys2Proof.Machine.execAddhi core rd imm s
  | .amoAdd core dword rd ra rb => Sys2Proof.Machine.execAmoAdd core dword rd ra rb s
  | .amoSwp core dword rd ra rb => Sys2Proof.Machine.execAmoSwp core dword rd ra rb s
  | .amoCas core dword rd ra rb rc => Sys2Proof.Machine.execAmoCas core dword rd ra rb rc s
  | .amoMin core dword rd ra rb => Sys2Proof.Machine.execAmoMin core dword rd ra rb s
  | .amoMax core dword rd ra rb => Sys2Proof.Machine.execAmoMax core dword rd ra rb s
  | .amoAnd core dword rd ra rb => Sys2Proof.Machine.execAmoAnd core dword rd ra rb s
  | .amoOr core dword rd ra rb => Sys2Proof.Machine.execAmoOr core dword rd ra rb s
  | .amoXor core dword rd ra rb => Sys2Proof.Machine.execAmoXor core dword rd ra rb s
  | .lresW core rd ra => Sys2Proof.Machine.execLresW core rd ra s
  | .lresD core rd ra => Sys2Proof.Machine.execLresD core rd ra s
  | .scndW core rd ra rb => Sys2Proof.Machine.execScndW core rd ra rb s
  | .scndD core rd ra rb => Sys2Proof.Machine.execScndD core rd ra rb s
  | .zln core ra imm => Sys2Proof.Machine.execZln core ra imm s
  | .pfk core ra imm => Sys2Proof.Machine.execPfk core ra imm s
  | .cln core ra imm => Sys2Proof.Machine.execCln core ra imm s
  | .cinv core ra imm => Sys2Proof.Machine.execCinv core ra imm s
  | .brEq core ra rb off => Sys2Proof.Machine.execBrEq core ra rb off s
  | .brNe core ra rb off => Sys2Proof.Machine.execBrNe core ra rb off s
  | .brLt core ra rb off => Sys2Proof.Machine.execBrLt core ra rb off s
  | .brGe core ra rb off => Sys2Proof.Machine.execBrGe core ra rb off s
  | .brLtu core ra rb off => Sys2Proof.Machine.execBrLtu core ra rb off s
  | .brGeu core ra rb off => Sys2Proof.Machine.execBrGeu core ra rb off s
  | .jal core rd off => Sys2Proof.Machine.execJal core rd off s
  | .jr core rd ra imm => Sys2Proof.Machine.execJr core rd ra imm s
  | .wadd core ew wd wa wb => Sys2Proof.Machine.execWadd core ew wd wa wb s
  | .wsub core ew wd wa wb => Sys2Proof.Machine.execWsub core ew wd wa wb s
  | .wand core wd wa wb => Sys2Proof.Machine.execWand core wd wa wb s
  | .wor core wd wa wb => Sys2Proof.Machine.execWor core wd wa wb s
  | .wxor core wd wa wb => Sys2Proof.Machine.execWxor core wd wa wb s
  | .wcmpEq core ew wd wa wb => Sys2Proof.Machine.execWcmpEq core ew wd wa wb s
  | .wcmpLt core ew wd wa wb => Sys2Proof.Machine.execWcmpLt core ew wd wa wb s
  | .wcmpLtu core ew wd wa wb => Sys2Proof.Machine.execWcmpLtu core ew wd wa wb s
  | .wshuf core wd wa wb => Sys2Proof.Machine.execWshuf core wd wa wb s
  | .wext core ew rd wa lane => Sys2Proof.Machine.execWext core ew rd wa lane s
  | .wins core ew wd ra lane => Sys2Proof.Machine.execWins core ew wd ra lane s
  | .wspl core ew wd ra => Sys2Proof.Machine.execWspl core ew wd ra s
  | .wredAdd core ew rd wa => Sys2Proof.Machine.execWredAdd core ew rd wa s
  | .wredMin core ew rd wa => Sys2Proof.Machine.execWredMin core ew rd wa s
  | .wredMax core ew rd wa => Sys2Proof.Machine.execWredMax core ew rd wa s
  | .wredXor core ew rd wa => Sys2Proof.Machine.execWredXor core ew rd wa s
  | .wcrc core crc64 rd ra wb => Sys2Proof.Machine.execWcrc core crc64 rd ra wb s
  | .whash core rd ra wb => Sys2Proof.Machine.execWhash core rd ra wb s
  | .fenceCore core => Sys2Proof.Machine.execFenceCore core s
  | .fenceClus core => Sys2Proof.Machine.execFenceClus core s
  | .fenceSys core => Sys2Proof.Machine.execFenceSys core s
  | .trap core code => Sys2Proof.Machine.execTrap core code s
  | .eret core => Sys2Proof.Machine.execEret core s
  | .wfd core rd ra => Sys2Proof.Machine.execWfd core rd ra s
  | .rdst core rd k => Sys2Proof.Machine.execRdst core rd k s
  | .wrst core k ra => Sys2Proof.Machine.execWrst core k ra s
  | .storeBufferDrain core => Sys2Proof.Machine.execStoreBufferDrain core s
  | .gatherHoldExpire c ix => Sys2Proof.Machine.execGatherHoldExpire c ix s
  | .scribeResponseReturn core poison refused data => Sys2Proof.Machine.execScribeResponseReturn core poison refused data s
  | .storeErr c cores addr reason => Sys2Proof.Machine.execStoreErr c cores addr reason s
  | .abort m core => Sys2Proof.Machine.execAbort m core s
  | .eventTaken core => Sys2Proof.Machine.execEventTaken core s
  | .graceExpire core => Sys2Proof.Machine.execGraceExpire core s
  | .wfdTimeout core => Sys2Proof.Machine.execWfdTimeout core s
  | .knock m c cores => Sys2Proof.Machine.execKnock m c cores s
  | .clusterDisable m c => Sys2Proof.Machine.execClusterDisable m c s
  | .clusterEnable m c => Sys2Proof.Machine.execClusterEnable m c s
  | .clusterReset m c => Sys2Proof.Machine.execClusterReset m c s
  | .launchRecord c r => Sys2Proof.Machine.execLaunchRecord c r s
  | .taskStart core => Sys2Proof.Machine.execTaskStart core s
  | .doorbellTailWrite m n v => Sys2Proof.Machine.execDoorbellTailWrite m n v s
  | .doorbellCqHeadWrite m n v => Sys2Proof.Machine.execDoorbellCqHeadWrite m n v s
  | .descriptorFetch e => Sys2Proof.Machine.execDescriptorFetch e s
  | .copyDescriptor e => Sys2Proof.Machine.execCopyDescriptor e s
  | .fillDescriptor e => Sys2Proof.Machine.execFillDescriptor e s
  | .zeroDescriptor e => Sys2Proof.Machine.execZeroDescriptor e s
  | .compareDescriptor e => Sys2Proof.Machine.execCompareDescriptor e s
  | .crcDescriptor e => Sys2Proof.Machine.execCrcDescriptor e s
  | .gatherDescriptor e => Sys2Proof.Machine.execGatherDescriptor e s
  | .scatterDescriptor e => Sys2Proof.Machine.execScatterDescriptor e s
  | .atomicDescriptor e => Sys2Proof.Machine.execAtomicDescriptor e s
  | .maintDescriptor e => Sys2Proof.Machine.execMaintDescriptor e s
  | .taskDescriptor e => Sys2Proof.Machine.execTaskDescriptor e s
  | .msgDescriptor e => Sys2Proof.Machine.execMsgDescriptor e s
  | .waitDescriptor e => Sys2Proof.Machine.execWaitDescriptor e s
  | .fenceDescriptor n => Sys2Proof.Machine.execFenceDescriptor n s
  | .waitPoll e => Sys2Proof.Machine.execWaitPoll e s
  | .waitTimeout n ix => Sys2Proof.Machine.execWaitTimeout n ix s
  | .descriptorComplete n ix => Sys2Proof.Machine.execDescriptorComplete n ix s
  | .completionEventTimer n => Sys2Proof.Machine.execCompletionEventTimer n s
  | .inkwellDisable m n => Sys2Proof.Machine.execInkwellDisable m n s
  | .inkwellEnable m n => Sys2Proof.Machine.execInkwellEnable m n s
  | .resetPtrs m n => Sys2Proof.Machine.execResetPtrs m n s
  | .fifoPop m f => Sys2Proof.Machine.execFifoPop m f s
  | .fifoClear m f => Sys2Proof.Machine.execFifoClear m f s
  | .cxCmdPush m data => Sys2Proof.Machine.execCxCmdPush m data s
  | .cxRspPop m => Sys2Proof.Machine.execCxRspPop m s
  | .cxCommandStart => Sys2Proof.Machine.execCxCommandStart s
  | .nop tag => Sys2Proof.Machine.execNop tag s
  | .cxCopy tag => Sys2Proof.Machine.execCxCopy tag s
  | .cxFill tag => Sys2Proof.Machine.execCxFill tag s
  | .maintRange tag => Sys2Proof.Machine.execMaintRange tag s
  | .maintSw tag => Sys2Proof.Machine.execMaintSw tag s
  | .cxCommandComplete => Sys2Proof.Machine.execCxCommandComplete s
  | .cxRgnWrite m n limit data => Sys2Proof.Machine.execCxRgnWrite m n limit data s
  | .counterHandoff group => Sys2Proof.Machine.execCounterHandoff group s
  | .thresholdSample => Sys2Proof.Machine.execThresholdSample s
  | .clearAll m => Sys2Proof.Machine.execClearAll m s
  | .dumpPeriod => Sys2Proof.Machine.execDumpPeriod s
  | .dumpNow m => Sys2Proof.Machine.execDumpNow m s
  | .dumpDone => Sys2Proof.Machine.execDumpDone s
  | .blotterEnable m => Sys2Proof.Machine.execBlotterEnable m s
  | .blotterRecord ix => Sys2Proof.Machine.execBlotterRecord ix s
  | .blotterRecordWaitExpire => Sys2Proof.Machine.execBlotterRecordWaitExpire s
  | .blotterDrainWrite => Sys2Proof.Machine.execBlotterDrainWrite s
  | .eventSequence unit => Sys2Proof.Machine.execEventSequence unit s
  | .eventMsgSend => Sys2Proof.Machine.execEventMsgSend s
  | .crashLogWrite m => Sys2Proof.Machine.execCrashLogWrite m s
  | .domainLitCommand m d => Sys2Proof.Machine.execDomainLitCommand m d s
  | .domainEmberCommand m d => Sys2Proof.Machine.execDomainEmberCommand m d s
  | .domainColdCommand m d => Sys2Proof.Machine.execDomainColdCommand m d s
  | .domainIdleTimerExpiry d => Sys2Proof.Machine.execDomainIdleTimerExpiry d s
  | .domainWake d => Sys2Proof.Machine.execDomainWake d s
  | .domainWakeComplete d => Sys2Proof.Machine.execDomainWakeComplete d s
  | .domainGatingComplete d => Sys2Proof.Machine.execDomainGatingComplete d s
  | .damperPass => Sys2Proof.Machine.execDamperPass s
  | .extraRequest d => Sys2Proof.Machine.execExtraRequest d s
  | .extraReturn d => Sys2Proof.Machine.execExtraReturn d s
  | .avsPoll r => Sys2Proof.Machine.execAvsPoll r s
  | .avsVoltageStep r => Sys2Proof.Machine.execAvsVoltageStep r s
  | .resetNRise => Sys2Proof.Machine.execResetNRise s
  | .illegalWord core word => Sys2Proof.Machine.execIllegalWord core word s
  | .instructionFetchFault core reason => Sys2Proof.Machine.execInstructionFetchFault core reason s
  | .clusterResetComplete c => Sys2Proof.Machine.execClusterResetComplete c s
  | .fuseProgrammingComplete verified => Sys2Proof.Machine.execFuseProgrammingComplete verified s
  | .crashLogWriteComplete ok => Sys2Proof.Machine.execCrashLogWriteComplete ok s
  | .boundaryScan trst tms tdi => Sys2Proof.Machine.execBoundaryScan trst tms tdi s

end Sys2Proof.Machine
end

