-- ==== Sys2Proof/Safety.lean ====
section
/-! DEFINITION. The words in which statements are made: when a unit does its work, and what a command leaves alone. -/
namespace Sys2Proof.Machine

/-! ## Scribe cores -/

/-- Core k runs the instruction at its PC (R351): its cluster is present, Lit and out of reset, the device is not in the
fatal state, the core runs a task and waits for nothing, the fetch raises no FETCH cause, and no event is due. -/
structure Runs (s : State) (k : Nat) : Prop where
  core : k < Config.nCores
  ready : coreReady s k = true
  fetch : fetchCause s (s.core k) = none
  quiet : eventDue (s.core k) = false

/-- The key of slot i of a counter group (R392). -/
def slotOf (g i : Nat) : Nat := g * 32 + i

/-- The value a counter's accumulator holds. -/
def State.slot (s : State) (g i : Nat) : Nat := sget zeroD s.acc (slotOf g i)

/-- The blotter is off, or does not select requests of the cluster of core k (R405). -/
def NotFollowed (s : State) (k : Nat) : Prop := s.bit (telReg 0x8200) 0 = false ∨ s.bit (telReg 0x8208) (16 + k / 8) = false

/-- From u to t only what the blotter does for an instruction fetch of core k that it may follow (R405, R406, R449): its own state,
BLT_STATUS and its event for a drop, the wake of domain 61 with its spine half; nothing where it does not follow the core in s. -/
structure ButFetch (s t u : State) (k : Nat) : Prop where
  rest : t = { u with tel := { u.tel with blot := t.tel.blot }, doms := t.doms, reg := t.reg, evt := t.evt }
  regs : ∀ off, off ≠ telReg 0x8220 → t.rd off = u.rd off
  domains : ∀ d, d ≠ 3 → d ≠ 61 → t.dom d = u.dom d
  off : NotFollowed s k → t = u

/-- The core differs from what it was at most in its PC, its registers and its nib instruction cache. -/
def SameButRegs (x y : Core) : Prop := y = { x with pc := y.pc, g := y.g, w := y.w, inib := y.inib }

/-- An instruction of core k has completed that touches only the core's registers in it: the PC, every general and every wide
register afterwards, and one more instruction counted (R393). -/
structure Retired (s t : State) (k : Nat) (pc : PA) (g : BitVec 5 → DWord) (w : BitVec 4 → Wide) : Prop where
  pc : (t.core k).pc = pc
  gr : ∀ i, (t.core k).gr i = g i
  wide : ∀ i, (t.core k).wide i = w i
  core : SameButRegs (s.core k) (t.core k)
  counted : t.slot (36 + k / 8) 0 = s.slot (36 + k / 8) 0 + 1

/-- No core but k differs, and no counter but the listed slots of its cluster's group and, where the blotter follows its fetches, the
count of dropped records. (The activity counts of R464 lie from 2048 on.) -/
structure OthersKept (s t : State) (k : Nat) (slots : List Nat) : Prop where
  cores : ∀ j, j ≠ k → t.core j = s.core j
  counters : ∀ n < 2048, (∀ i ∈ slots, n ≠ slotOf (36 + k / 8) i) → (n ≠ slotOf 53 15 ∨ NotFollowed s k) →
    sget zeroD t.acc n = sget zeroD s.acc n

/-- An instruction has completed that changes registers and counters of core k alone. -/
structure Completes (s t : State) (k : Nat) (pc : PA) (g : BitVec 5 → DWord) (w : BitVec 4 → Wide) : Prop
    extends Retired s t k pc g w, OthersKept s t k [0, 4] where
  rest : ButFetch s t { s with cores := t.cores, acc := t.acc } k

/-- As `Completes`, for an instruction on the slate: the clusters beside, whose contents the statement gives; slots 6 and 8
count slate accesses and atomics. -/
structure CompletesSlate (s t : State) (k : Nat) (pc : PA) (g : BitVec 5 → DWord) (w : BitVec 4 → Wide) : Prop
    extends Retired s t k pc g w, OthersKept s t k [0, 4, 6, 8] where
  rest : ButFetch s t { s with cores := t.cores, acc := t.acc, clusters := t.clusters } k
  clusters : ∀ c, c ≠ k / 8 → t.cluster c = s.cluster c

/-- The general registers of a core once rd is written: g0 reads zero, and a write to it is discarded (R329). -/
def gWith (x : Core) (rd : BitVec 5) (v : DWord) : BitVec 5 → DWord := fun i => if i ≠ 0 ∧ i = rd then v else x.gr i

/-- The wide registers of a core once wd is written. -/
def wWith (x : Core) (wd : BitVec 4) (v : Wide) : BitVec 4 → Wide := fun i => if i = wd then v else x.wide i

/-- An access of n bytes of core k to the slate that has its value: inside the slate window, aligned, permitted, and no word
it touches holds a wrong bit (R295, R298, R300, R301). -/
structure SlateAccess (s : State) (k : Nat) (a : PA) (off n : Nat) : Prop where
  place : slateOff (s.core k) a = some off
  aligned : a.toNat % n = 0
  allowed : (s.core k).pl = true ∨ (s.core k).slate.getLsbD 1 = true
  clean : ∀ e ∈ (s.cluster (k / 8)).slateErr, 8 * e.1 + 8 ≤ off ∨ off + n ≤ 8 * e.1

/-- Byte o of the slate of a cluster. -/
def Cluster.byte (c : Cluster) (o : Nat) : Nat := (sget byteD c.slate o).toNat

/-- v is the little-endian number of n slate bytes (R21). -/
def SlateNumber (c : Cluster) (off n v : Nat) : Prop := v < 2 ^ (8 * n) ∧ ∀ i < n, v / 2 ^ (8 * i) % 256 = c.byte (off + i)

/-- Of the cluster only slate bytes changed, those of an access to the bytes of v. -/
def SlateWritten (c d : Cluster) (off n v : Nat) : Prop :=
  d = { c with slate := d.slate } ∧
  ∀ o, d.byte o = if off ≤ o ∧ o < off + n then v / 2 ^ (8 * (o - off)) % 256 else c.byte o

/-- An aligned and permitted access of n bytes of core k to memory; `right` is 1 to read, 2 to write, 3 both (R295, R298). -/
structure MemAccess (s : State) (k : Nat) (a : PA) (n right : Nat) : Prop where
  place : placeOf s (s.core k) a = .mem
  aligned : a.toNat % n = 0
  allowed : missing (s.core k) .mem a right = 0

/-- Nothing of a line is in the core's store buffer or in the gather buffer of its cluster. -/
def NoStores (s : State) (k line : Nat) : Prop :=
  (∀ j, j / 8 = k / 8 → ∀ e ∈ (s.core j).sb, e.line ≠ line) ∧ ∀ e ∈ (s.cluster (k / 8)).gather, e.line ≠ line

/-- The byte that a store buffer holds for offset o of a line (R302). -/
def Core.sbByte (x : Core) (line o : Nat) : Option Byte :=
  match x.sb.find? fun e => e.line == line with
  | some e => if e.mask.getLsbD o then some (lineByte e.data o) else none
  | none => none


/-- The blotter is off, or does not select requests of the engines (R405). -/
def EnginesNotFollowed (s : State) : Prop := s.bit (telReg 0x8200) 0 = false ∨ s.bit (telReg 0x8200) 8 = false

/-- The number of the next request tag of core k: the first that its cluster has not in use (R142). -/
def State.nextNum (s : State) (k : Nat) : Nat := (s.cluster (k / 8)).nextNum (k % 8)

/-- The tag that the next request of core k carries: its number in bits [2:0]. -/
def State.nextTag (s : State) (k : Nat) : Tag := BitVec.ofNat 12 (8 * s.nextNum k + k % 8)

/-- Core k has sent one request, and of the rest of the device only the counters, the cluster's tags and the listed things of the
core may differ. -/
structure Sent (s t : State) (k : Nat) (m : Msg) : Prop where
  sent : t.spine = { s.spine with req := s.spine.req ++ [m] }
  cores : ∀ j, j ≠ k → t.core j = s.core j
  clusters : ∀ c, c ≠ k / 8 → t.cluster c = s.cluster c
  cluster : t.cluster (k / 8) =
    { s.cluster (k / 8) with tagCtr := (s.nextNum k + 1) % 512, tags := s.nextTag k :: (s.cluster (k / 8)).tags }
  rest : t = { s with cores := t.cores, acc := t.acc, clusters := t.clusters, spine := t.spine }

/-- The request of core k: from its cluster's agent, privileged as R294 says. -/
def State.coreReq (s : State) (k opc param : Nat) (addr : PA) (body : List Word) : Msg :=
  { opc := opc, vc := 0, src := s.scrAgent k, dst := 0, tag := s.nextTag k, priv := corePriv s k, hop := false, poison := false,
    param := BitVec.ofNat 8 param, addr := addr, body := body }

/-- Core k has entered its exception handler for a cause (R317): EPC, CAUSE, BADADDR where the cause has an address, PPL, PL,
HOLD and PC are as the rule says, its reservation is lost, its registers are what they were. -/
structure Enters (s t : State) (k : Nat) (code reason : Nat) (addr : Option PA) (epc : PA) : Prop where
  pc : (t.core k).pc = (s.core k).tvec.setWidth 52
  epc : (t.core k).epc = epc.setWidth 64
  cause : (t.core k).cause = BitVec.ofNat 64 (code + 256 * reason)
  badaddr : ∀ a, addr = some a → (t.core k).badaddr = a.setWidth 64
  levels : (t.core k).ppl = (s.core k).pl ∧ (t.core k).pl = true ∧ (t.core k).hold = true
  resv : (t.core k).resv = none ∧ sget zeroD t.resv k = 0
  regs : (t.core k).g = (s.core k).g ∧ (t.core k).w = (s.core k).w ∧ (t.core k).st = .running
  memory : (t.core k).sb = (s.core k).sb ∧ (t.core k).dnib = (s.core k).dnib
  cores : ∀ j, j ≠ k → t.core j = s.core j
  rest : ButFetch s t { s with cores := t.cores, acc := t.acc, resv := t.resv, freeCtr := t.freeCtr } k

/-! ## Registers -/

/-- The three copies of every triple-voted value agree (R69): no vote has anything to repair. -/
structure Agree (s : State) : Prop where
  copies : ∀ x, tripleOff (sget tvD s.reg.tv x) = false
  locks : ∀ x, tripleOff (sget lockD s.reg.locks x) = false
  fuses : s.boot.copies = FuseCopies.of s.boot.shadow

/-- A write of the native register at `off` that its master sends where it finds the register (R42), while no power-up, sleep
or guard is in its way (R43, R55, R66, R475), which no vote repairs on the way (R70), and which completes no held low word
(R75). -/
structure CwReach (s : State) (m : Master) (off : Nat) : Prop where
  running : s.boot.inReset = false
  votes : Agree s
  place : cwPlace s m (usedOff s m off) = some off
  served : cwServed s (blockAt off) = true
  awake : s.domLit (blockAt off).domain = true
  allowed : passes m off = true ∨ guardMask off = 0
  noHeld : ∀ h ∈ s.reg.held, ¬ (h.block = blockAt off ∧ h.master = masterKey m)

/-- A master reaches a register of the CX image (R42, R475, R504). -/
structure CxReach (s : State) (m : Master) (rel : Nat) : Prop where
  running : s.boot.inReset = false
  votes : Agree s
  place : cwPlace s m (cxUsed s rel) = some (cxReg rel)
  served : 5 < s.boot.step
  noHeld : ∀ h ∈ s.reg.held, ¬ (h.block = blockAt (cxReg rel) ∧ h.master = masterKey m)

/-! ## Messages and slices -/

/-- No queue of the device holds a message of this kind, nor an earlier one of its order (R157), and the device takes messages: the
message has just arrived (log entry 11). The blotter, where it is on, has room to follow it, and its domain and spine half are
awake (R406, R449); no vote repairs anything (R70). -/
structure Arrives (s : State) (q : Msg → Bool) : Prop where
  votes : Agree s
  order : ∀ m, q m = true → m.vc = vcOf m.opc → s.mustWait q m = false
  rx : ∀ p < Config.nPorts, ∀ m ∈ (s.port p).rxq, q m = false
  spine : ∀ m ∈ s.spine.req ++ s.spine.rsp ++ s.spine.fwd.map (fun h => h.msg), q m = false
  alive : s.boot.fatal = false ∧ s.boot.inReset = false
  room : s.bit (telReg 0x8200) 0 = false ∨ (s.tel.blot.follows.length < 64 ∧ s.domLit 61 = true ∧ s.domLit 3 = true)

/-- The agent is a host of this device whose port p carries messages. -/
structure HostAt (s : State) (a : AgentId) (p : Nat) : Prop where
  here : a.dev = s.devNum
  agent : s.hostAgent a.loc = true
  port : p = a.loc / 2
  carries : s.canCarry p = true

/-- No slice has an open transaction or a displaced directory entry: none awaits a snoop answer or a GACK. -/
abbrev NoneAwaited (s : State) : Prop := ∀ i, (s.slice i).txns = [] ∧ (s.slice i).evbuf = []

/-- Port p has one more message to send; no other port and no other slice than i differs. -/
structure Answered (s t : State) (i p : Nat) (m : Msg) : Prop where
  sent : t.port p = { s.port p with egress := (s.port p).egress ++ [m] }
  ports : ∀ q, q ≠ p → t.port q = s.port q
  slices : ∀ j, j ≠ i → t.slice j = s.slice j

/-- Slice i is Lit and takes a message of its snoop-response intake at once: nothing waits there, and places are free (R216,
R241). -/
structure TakesAnswers (s : State) (i : Nat) : Prop where
  lit : s.domLit (20 + i) = true
  free : (s.slice i).srsp = [] ∧ srspUsed (s.slice i) < 64

/-- Slice i is Lit and takes a request of a line at once: nothing waits at it, the damper's grant does not hold it (R464), miss
registers are free (R215), nothing is under way on the line, no agent is purged, the line's directory set is sound. -/
structure CalmLine (s : State) (i line : Nat) : Prop where
  slice : i = s.sliceOf line
  lit : s.domLit (20 + i) = true ∧ s.domLit (2 + i / 8) = true
  idle : (s.slice i).inq = [] ∧ (s.slice i).confq = [] ∧ (s.slice i).retryq = []
  granted : rateHeld s (20 + i) (s.paced (20 + i)) = false
  room : missUsed s i < 511
  calm : lineBusy (s.slice i) line = false
  kindle : ∀ e ∈ (s.slice i).kindle, e.line ≠ line
  sound : s.purge = [] ∧ tainted s i line = false ∧ ∀ w < 16, (dirGet s i line w).bad = false

/-- Besides its open transaction nothing is under way on the line. -/
def NothingBeside (s : State) (i line : Nat) : Prop :=
  (∀ v ∈ (s.slice i).victims, v.line ≠ line) ∧ (∀ e ∈ (s.slice i).evbuf, e.line ≠ line) ∧
  (∀ n ∈ (s.slice i).installs, n.line ≠ line) ∧ ∀ o ∈ (s.slice i).outWr, o.line ≠ line

/-- The line is in way w of the Hearth with good data d. -/
structure HearthHit (s : State) (i line w : Nat) (d : LineData) : Prop where
  way : findWay s i line = some w
  data : (s.hway i (s.setOf line) w).data = d
  good : (s.hway i (s.setOf line) w).errs = [] ∧ (s.hway i (s.setOf line) w).poison = false

/-- Of slice i only one way of the Hearth differs. -/
structure OneWay (s t : State) (i set w : Nat) (h : HLine) : Prop where
  way : t.hway i set w = h
  others : ∀ n, n ≠ set * 16 + w → sget hlineD (t.slice i).hearth n = sget hlineD (s.slice i).hearth n

/-! ## Engines -/

/-- Engine e works on the descriptor d of an inkwell and may issue: the engine unit is Lit, nothing has failed, there is room in
flight, and the blotter does not follow engine requests (R366, R405). -/
structure EngineWorks (s : State) (e n slot : Nat) (d : Desc) : Prop where
  engine : e < Config.nEngines
  work : (s.engine e).work = some (n, slot)
  desc : descOf s n slot = some d
  going : isDone d = false
  alive : s.boot.fatal = false ∧ s.domLit 60 = true
  room : (s.engine e).fail = none ∧ inFlight (s.engine e) < 63
  quiet : EnginesNotFollowed s

/-- The j-th of the tags that engine e takes next: the first that are not in use (R142). -/
def State.engTag (s : State) (e j : Nat) : Tag := BitVec.ofNat 12 (Engine.takeTag^[j] (s.engine e)).nextNum

/-- A request of engine e with a privilege attribute and the j-th of its next tags. -/
def State.engMsg (s : State) (e : Nat) (priv : Bool) (j opc param a : Nat) (body : List Word) : Msg :=
  reqMsg (engAgent s e) (s.engTag e j) opc priv param (BitVec.ofNat 52 a) false body

/-- The engine's last piece has read this line already, as the i-th line of it (R369). -/
def Engine.hasLine (x : Engine) (i line : Nat) : Prop := ∃ r, x.last[i]? = some r ∧ r.2.1 = line

/-- The line reads for len bytes at a source address (R369): one line or two, but for a first line that the piece before has read. -/
def State.PieceReads (s : State) (e : Nat) (priv : Bool) (a len : Nat) (ms : List Msg) : Prop :=
  ∀ line b, line = a % 2 ^ 52 / 64 → b = decide (64 < a % 2 ^ 52 % 64 + len) →
    let next := fun j => s.engMsg e priv j opcRD_UC 6 ((line + 1) % 2 ^ 46 * 64) []
    ((s.engine e).hasLine ((s.engine e).last.length - 1) line → ms = if b then [next 0] else []) ∧
    (¬ (s.engine e).hasLine ((s.engine e).last.length - 1) line →
      ms = s.engMsg e priv 0 opcRD_UC 6 (line * 64) [] :: if b then [next 1] else [])

/-- The piece before has read the one line that holds k bytes at address a, and it has come back with this (R369). -/
def Engine.Here (x : Engine) (a k : Nat) (v : LineData × Bool) : Prop :=
  a % 2 ^ 52 % 64 + k ≤ 64 ∧ ∃ r, x.last[x.last.length - 1]? = some r ∧ r.2.1 = a % 2 ^ 52 / 64 ∧ r.2.2 = some v

/-- The write of a piece of k bytes of value v at address a (R369): WR_LINE where it is a whole line, else WR_PART. -/
def State.pieceWrite (s : State) (e : Nat) (priv : Bool) (a k v : Nat) (bad : Bool) : Msg :=
  { (if k = 64 then s.engMsg e priv 0 opcWR_LINE 0 (a % 2 ^ 52) (wordsLE 16 v)
      else s.engMsg e priv 0 opcWR_PART 0 (a % 2 ^ 52 / 64 * 64)
        (partBody (byteMask (a % 2 ^ 52 % 64) k) (putLine 0 (a % 2 ^ 52 % 64) k v))) with poison := bad }

/-- Engine e has sent requests; nothing else differs but its progress and the counters. -/
structure EngineSent (s t : State) (e : Nat) (ms : List Msg) : Prop where
  sent : t.spine = { s.spine with req := s.spine.req ++ ms }
  others : ∀ f, f ≠ e → t.engine f = s.engine f
  rest : t = { s with engines := t.engines, spine := t.spine, acc := t.acc, inks := t.inks }

/-- The engine has one more job, for len bytes to dst, and its position has moved on. -/
def Moved (x y : Engine) (dst len : Nat) : Prop :=
  y.pos = x.pos + len ∧ y.work = x.work ∧ y.fail = none ∧ ∃ j, y.jobs = x.jobs ++ [j] ∧ j.dst = dst ∧ j.len = len ∧ j.off = x.pos

/-! ## Telemetry -/

/-- A dump has been taken (R400–R402): its number is one more, its 255 lines after the header are sent to the slot of the ring
that PUT names, and the header is kept until they are written. -/
structure DumpTaken (s t : State) (recno base : Nat) : Prop where
  record : recno = (s.rd (telReg 0x811C)).toNat + 1
  place : base = (s.rd (telReg 0x8108)).toNat / 2 ^ 14 * 2 ^ 14 + s.fld (telReg 0x810C) 0 20 * 2 ^ 32 +
    16384 * (s.fld (telReg 0x8110) 0 13 % 2 ^ dumpLog s)
  number : t.rd (telReg 0x811C) = w32 recno
  dump : t.tel = { s.tel with gap := false, dump := some ⟨dumpLine s recno 0, base, ((List.range 255).map fun l => dumpTag (l + 1)), false, recno, false⟩ }
  lines : t.spine = { s.spine with req := s.spine.req ++ ((List.range 255).map fun l =>
    reqMsg s.home (dumpTag (l + 1)) opcWR_LINE false 0 (BitVec.ofNat 52 (base + 64 * (l + 1))) false
      (wordsLE 16 (dumpLine s recno (l + 1)).toNat)) }
  rest : t = { s with reg := t.reg, spine := t.spine, tel := t.tel }

/-! ## The fatal state -/

/-- The device has entered the fatal state for an error, which is bit i of the register at `off` (R420, R431): the bit and FATAL are
set, cause and number of the error are kept, it and FATAL have taken the next two numbers, READY is low, and no port carries traffic
(after a thermal trip a port may be without power). -/
structure FatalEntered (s t : State) (off i source code : Nat) : Prop where
  fatal : t.boot = { s.boot with fatal := true }
  ready : t.pins.ready = false
  bits : t.bit off i = true ∧ t.bit (evtReg 0x20) 0 = true
  cause : t.rd (evtReg 0x24) = w32 (source + 2 ^ 8 * code + 2 ^ 31)
  number : t.rd (evtReg 0x28) = w32 s.evt.seq.toNat ∧ t.rd (evtReg 0x2C) = w32 (s.evt.seq.toNat / 2 ^ 32)
  next : t.evt.seq = s.evt.seq + 2
  ports : ∀ p, s.portPresent p = true → (t.port p).st = .quiesce ∨ (t.port p).st = .disabled ∨ (code = 0x13 ∧ (t.port p).st = .down)

/-! ## Instruction words -/

/-- The command is a scribe instruction (R333–R349); WEXT and WINS name a lane that their element width has. -/
def isScribe : Instr → Bool
  | .add .. | .sub .. | .and .. | .or .. | .xor .. | .sll .. | .srl .. | .sra .. | .slt .. | .sltu .. | .min ..
  | .max .. | .minu .. | .maxu .. | .mul .. | .mulh .. | .mulhu .. | .div .. | .divu .. | .rem .. | .remu ..
  | .addImmediate .. | .andImmediate .. | .orImmediate .. | .xorImmediate .. | .sltImmediate .. | .sltuImmediate ..
  | .sllImmediate .. | .srlImmediate .. | .sraImmediate .. | .lui .. | .addhi .. | .ldB .. | .ldH .. | .ldW ..
  | .ldD .. | .ldBu .. | .ldHu .. | .ldWu .. | .stB .. | .stH .. | .stW .. | .stD .. | .ldw .. | .stw .. | .amoAdd ..
  | .amoSwp .. | .amoCas .. | .amoMin .. | .amoMax .. | .amoAnd .. | .amoOr .. | .amoXor .. | .lresW .. | .lresD ..
  | .scndW .. | .scndD .. | .zln .. | .pfk .. | .cln .. | .cinv .. | .brEq .. | .brNe .. | .brLt .. | .brGe ..
  | .brLtu .. | .brGeu .. | .jal .. | .jr .. | .wadd .. | .wsub .. | .wand .. | .wor .. | .wxor .. | .wcmpEq ..
  | .wcmpLt .. | .wcmpLtu .. | .wshuf .. | .wspl .. | .wredAdd .. | .wredMin .. | .wredMax .. | .wredXor ..
  | .wcrc .. | .whash .. | .fenceCore .. | .fenceClus .. | .fenceSys .. | .trap .. | .eret .. | .wfd .. | .rdst ..
  | .wrst .. => true
  | .wext _ ew _ _ lane | .wins _ ew _ _ lane => laneOk ew lane
  | _ => false

/-! ## Fuses -/

/-- Key programming runs only while no key hash is programmed (R492). -/
def FuseStep (s : State) : Prop := s.boot.fuseBusy = some 1 → s.nv.fuses.keyHash = none

/-- From f to g no programmed fuse went back (R446, R490, R492). -/
structure FusesForward (f g : FuseArray) : Prop where
  identity : g.identity = f.identity ∧ g.variant = f.variant ∧ g.others = f.others
  rows : g.life.length = f.life.length
  lifecycle : f.lifecycle ≤ g.lifecycle
  lock : f.compatLock = true → g.compatLock = true
  key : ∀ h, f.keyHash = some h → g.keyHash = some h

/-! ## Ports -/

/-- Nothing but port p differs. -/
structure OnlyPort (s t : State) (p : Nat) : Prop where
  others : ∀ q, q ≠ p → t.port q = s.port q
  rest : t = { s with ports := t.ports }

end Sys2Proof.Machine
end

