-- ==== Sys2Proof/WellFormed.lean ====
section
/-! DEFINITION. The checks a command's operands pass: each unit a command names is one the largest part has
(R2, R247, R328, R355, R449). A command that fails its check ends in the fault noSuchUnit. -/
namespace Sys2Proof

/-- The FIFO exists (R387, R389, R505). -/
def fifoOk : FifoId → Bool
  | .mbox i => decide (i < Config.nMailboxes)
  | _ => true

/-- The operands of a command name units that exist. -/
def Instr.wellFormed : Instr → Bool
  | .coldReset _ _ => true
  | .railUndervoltage _ _ _ => true
  | .release _ => true
  | .warmReset _ => true
  | .portReset _ p => decide (p < Config.nPorts)
  | .lifecycleTransition _ _ _ _ => true
  | .programKeyHash _ => true
  | .programCompatLock _ => true
  | .timebaseTick => true
  | .refclkLoss q => decide (q < 4)
  | .timebaseLockReturn => true
  | .enterFatalState _ _ _ => true
  | .hang domain => decide (domain < Config.nDomains)
  | .damperTempRead _ => true
  | .stackTempRead k _ => decide (k < Config.nStacks)
  | .ageMeasure domain _ => decide (domain < Config.nDomains)
  | .wearAccumulate _ _ => true
  | .pwrBrakeAssert _ => true
  | .pwrBrakeRelease => true
  | .registerWrite _ _ _ _ => true
  | .lowWordRead _ _ => true
  | .lowWordWrite _ _ _ => true
  | .tvVoteSweep _ => true
  | .indDataRead _ _ => true
  | .indDataWrite _ _ _ => true
  | .indClaimRead _ => true
  | .indClaimRelease _ => true
  | .mgmtEntdaa _ => true
  | .mgmtSetPointer _ => true
  | .mgmtWrite4 _ _ => true
  | .mgmtWrite8 _ _ => true
  | .mgmtPrivateRead _ => true
  | .portEnable _ p => decide (p < Config.nPorts)
  | .portDisable _ p => decide (p < Config.nPorts)
  | .portQuiesced p => decide (p < Config.nPorts)
  | .purgeSweepComplete => true
  | .portRetrain _ p => decide (p < Config.nPorts)
  | .electricalIdleExit p => decide (p < Config.nPorts)
  | .equalizeComplete p _ => decide (p < Config.nPorts)
  | .lockComplete p _ => decide (p < Config.nPorts)
  | .paramComplete p _ => decide (p < Config.nPorts)
  | .trainingTimeout p _ => decide (p < Config.nPorts)
  | .downWaitExpire p => decide (p < Config.nPorts)
  | .flitReceive p _ _ => decide (p < Config.nPorts)
  | .flitTransmit p => decide (p < Config.nPorts)
  | .nakReceive p _ => decide (p < Config.nPorts)
  | .replayTimeout p => decide (p < Config.nPorts)
  | .recoverComplete p _ _ _ => decide (p < Config.nPorts)
  | .recoverOverrun p => decide (p < Config.nPorts)
  | .laneErrorWindow p _ _ => decide (p < Config.nPorts)
  | .laneLockLoss p _ => decide (p < Config.nPorts)
  | .idleReqReceive p => decide (p < Config.nPorts)
  | .idleAckReceive p => decide (p < Config.nPorts)
  | .idleReqTimeout p => decide (p < Config.nPorts)
  | .linkIdleWake p _ => decide (p < Config.nPorts)
  | .relockTimeout p => decide (p < Config.nPorts)
  | .rdShared _ _ _ => true
  | .rdOwn _ _ _ => true
  | .upgrade _ _ _ => true
  | .rdUc _ _ _ _ _ => true
  | .wrLine _ _ _ _ _ => true
  | .wrPart _ _ _ _ _ _ _ => true
  | .zeroLine _ _ _ => true
  | .amo _ _ _ _ _ _ _ => true
  | .maintClean _ _ _ => true
  | .maintInv _ _ _ _ => true
  | .maintCleanInv _ _ _ => true
  | .maintCleanAll _ _ _ => true
  | .prefetch _ _ _ => true
  | .snpAckI _ _ _ => true
  | .snpAckS _ _ _ => true
  | .snpDataI _ _ _ _ _ _ => true
  | .snpDataS _ _ _ _ _ _ => true
  | .snpGone _ _ _ => true
  | .snpMiss _ _ _ => true
  | .evictClean _ _ _ => true
  | .evictDirty _ _ _ _ _ => true
  | .gack _ _ _ => true
  | .snoopTimeout _ _ => true
  | .agentMsg _ _ _ _ _ _ => true
  | .purgeNotice _ _ => true
  | .messageForward _ _ => true
  | .dataUc _ _ _ _ _ => true
  | .wrDone _ _ _ => true
  | .amoData _ _ _ _ _ => true
  | .cmp _ _ _ => true
  | .msgDone _ _ _ _ => true
  | .noTarget _ _ _ _ => true
  | .hbmReadReturn s _ => decide (s < Config.nSlices)
  | .flueVictimAccepted s _ => decide (s < Config.nSlices)
  | .kindlingDataArrive s _ => decide (s < Config.nSlices)
  | .streamEntryExpire s _ => decide (s < Config.nSlices)
  | .sweepStep s => decide (s < Config.nSlices)
  | .hearthDisable _ s => decide (s < Config.nSlices)
  | .hearthEnable _ s => decide (s < Config.nSlices)
  | .wayQuench _ s _ => decide (s < Config.nSlices)
  | .wayUnquench _ s _ => decide (s < Config.nSlices)
  | .quenchWalkStep s => decide (s < Config.nSlices)
  | .wayPowerUpDone s _ => decide (s < Config.nSlices)
  | .slcMaintClean _ s => decide (s < Config.nSlices)
  | .slcMaintInv _ s => decide (s < Config.nSlices)
  | .slcMaintCleanInv _ s => decide (s < Config.nSlices)
  | .slcMaintCleanAll _ s => decide (s < Config.nSlices)
  | .poisonNotice s _ => decide (s < Config.nSlices)
  | .wayErrorCountClear => true
  | .hbmScheduleCommand pc _ => decide (pc < Config.nPcs)
  | .refreshDue pc _ _ => decide (pc.pc < Config.nPcs)
  | .rowIdleClose pc _ _ _ => decide (pc < Config.nPcs)
  | .writeEntryRetire pc => decide (pc.pc < Config.nPcs)
  | .hbmReadDecode pc _ => decide (pc.pc < Config.nPcs)
  | .periodicRetrain pc _ => decide (pc < Config.nPcs)
  | .scrubRead pc => decide (pc < Config.nPcs)
  | .softRepair pc _ => decide (pc < Config.nPcs)
  | .hbmReload _ k => decide (k < Config.nStacks)
  | .ldB core _ _ _ => decide (core < Config.nCores)
  | .ldH core _ _ _ => decide (core < Config.nCores)
  | .ldW core _ _ _ => decide (core < Config.nCores)
  | .ldD core _ _ _ => decide (core < Config.nCores)
  | .ldBu core _ _ _ => decide (core < Config.nCores)
  | .ldHu core _ _ _ => decide (core < Config.nCores)
  | .ldWu core _ _ _ => decide (core < Config.nCores)
  | .stB core _ _ _ => decide (core < Config.nCores)
  | .stH core _ _ _ => decide (core < Config.nCores)
  | .stW core _ _ _ => decide (core < Config.nCores)
  | .stD core _ _ _ => decide (core < Config.nCores)
  | .ldw core _ _ _ => decide (core < Config.nCores)
  | .stw core _ _ _ => decide (core < Config.nCores)
  | .add core _ _ _ => decide (core < Config.nCores)
  | .sub core _ _ _ => decide (core < Config.nCores)
  | .and core _ _ _ => decide (core < Config.nCores)
  | .or core _ _ _ => decide (core < Config.nCores)
  | .xor core _ _ _ => decide (core < Config.nCores)
  | .sll core _ _ _ => decide (core < Config.nCores)
  | .srl core _ _ _ => decide (core < Config.nCores)
  | .sra core _ _ _ => decide (core < Config.nCores)
  | .slt core _ _ _ => decide (core < Config.nCores)
  | .sltu core _ _ _ => decide (core < Config.nCores)
  | .min core _ _ _ => decide (core < Config.nCores)
  | .max core _ _ _ => decide (core < Config.nCores)
  | .minu core _ _ _ => decide (core < Config.nCores)
  | .maxu core _ _ _ => decide (core < Config.nCores)
  | .mul core _ _ _ => decide (core < Config.nCores)
  | .mulh core _ _ _ => decide (core < Config.nCores)
  | .mulhu core _ _ _ => decide (core < Config.nCores)
  | .div core _ _ _ => decide (core < Config.nCores)
  | .divu core _ _ _ => decide (core < Config.nCores)
  | .rem core _ _ _ => decide (core < Config.nCores)
  | .remu core _ _ _ => decide (core < Config.nCores)
  | .addImmediate core _ _ _ => decide (core < Config.nCores)
  | .andImmediate core _ _ _ => decide (core < Config.nCores)
  | .orImmediate core _ _ _ => decide (core < Config.nCores)
  | .xorImmediate core _ _ _ => decide (core < Config.nCores)
  | .sltImmediate core _ _ _ => decide (core < Config.nCores)
  | .sltuImmediate core _ _ _ => decide (core < Config.nCores)
  | .sllImmediate core _ _ _ => decide (core < Config.nCores)
  | .srlImmediate core _ _ _ => decide (core < Config.nCores)
  | .sraImmediate core _ _ _ => decide (core < Config.nCores)
  | .lui core _ _ => decide (core < Config.nCores)
  | .addhi core _ _ => decide (core < Config.nCores)
  | .amoAdd core _ _ _ _ => decide (core < Config.nCores)
  | .amoSwp core _ _ _ _ => decide (core < Config.nCores)
  | .amoCas core _ _ _ _ _ => decide (core < Config.nCores)
  | .amoMin core _ _ _ _ => decide (core < Config.nCores)
  | .amoMax core _ _ _ _ => decide (core < Config.nCores)
  | .amoAnd core _ _ _ _ => decide (core < Config.nCores)
  | .amoOr core _ _ _ _ => decide (core < Config.nCores)
  | .amoXor core _ _ _ _ => decide (core < Config.nCores)
  | .lresW core _ _ => decide (core < Config.nCores)
  | .lresD core _ _ => decide (core < Config.nCores)
  | .scndW core _ _ _ => decide (core < Config.nCores)
  | .scndD core _ _ _ => decide (core < Config.nCores)
  | .zln core _ _ => decide (core < Config.nCores)
  | .pfk core _ _ => decide (core < Config.nCores)
  | .cln core _ _ => decide (core < Config.nCores)
  | .cinv core _ _ => decide (core < Config.nCores)
  | .brEq core _ _ _ => decide (core < Config.nCores)
  | .brNe core _ _ _ => decide (core < Config.nCores)
  | .brLt core _ _ _ => decide (core < Config.nCores)
  | .brGe core _ _ _ => decide (core < Config.nCores)
  | .brLtu core _ _ _ => decide (core < Config.nCores)
  | .brGeu core _ _ _ => decide (core < Config.nCores)
  | .jal core _ _ => decide (core < Config.nCores)
  | .jr core _ _ _ => decide (core < Config.nCores)
  | .wadd core _ _ _ _ => decide (core < Config.nCores)
  | .wsub core _ _ _ _ => decide (core < Config.nCores)
  | .wand core _ _ _ => decide (core < Config.nCores)
  | .wor core _ _ _ => decide (core < Config.nCores)
  | .wxor core _ _ _ => decide (core < Config.nCores)
  | .wcmpEq core _ _ _ _ => decide (core < Config.nCores)
  | .wcmpLt core _ _ _ _ => decide (core < Config.nCores)
  | .wcmpLtu core _ _ _ _ => decide (core < Config.nCores)
  | .wshuf core _ _ _ => decide (core < Config.nCores)
  | .wext core _ _ _ _ => decide (core < Config.nCores)
  | .wins core _ _ _ _ => decide (core < Config.nCores)
  | .wspl core _ _ _ => decide (core < Config.nCores)
  | .wredAdd core _ _ _ => decide (core < Config.nCores)
  | .wredMin core _ _ _ => decide (core < Config.nCores)
  | .wredMax core _ _ _ => decide (core < Config.nCores)
  | .wredXor core _ _ _ => decide (core < Config.nCores)
  | .wcrc core _ _ _ _ => decide (core < Config.nCores)
  | .whash core _ _ _ => decide (core < Config.nCores)
  | .fenceCore core => decide (core < Config.nCores)
  | .fenceClus core => decide (core < Config.nCores)
  | .fenceSys core => decide (core < Config.nCores)
  | .trap core _ => decide (core < Config.nCores)
  | .eret core => decide (core < Config.nCores)
  | .wfd core _ _ => decide (core < Config.nCores)
  | .rdst core _ _ => decide (core < Config.nCores)
  | .wrst core _ _ => decide (core < Config.nCores)
  | .storeBufferDrain core => decide (core < Config.nCores)
  | .gatherHoldExpire c _ => decide (c < Config.nClusters)
  | .scribeResponseReturn core _ _ _ => decide (core < Config.nCores)
  | .storeErr c _ _ _ => decide (c < Config.nClusters)
  | .abort _ core => decide (core < Config.nCores)
  | .eventTaken core => decide (core < Config.nCores)
  | .graceExpire core => decide (core < Config.nCores)
  | .wfdTimeout core => decide (core < Config.nCores)
  | .knock _ c _ => decide (c < Config.nClusters)
  | .clusterDisable _ c => decide (c < Config.nClusters)
  | .clusterEnable _ c => decide (c < Config.nClusters)
  | .clusterReset _ c => decide (c < Config.nClusters)
  | .launchRecord c _ => decide (c < Config.nClusters)
  | .taskStart core => decide (core < Config.nCores)
  | .doorbellTailWrite _ n _ => decide (n < Config.nInkwells)
  | .doorbellCqHeadWrite _ n _ => decide (n < Config.nInkwells)
  | .descriptorFetch e => decide (e < Config.nEngines)
  | .copyDescriptor e => decide (e < Config.nEngines)
  | .fillDescriptor e => decide (e < Config.nEngines)
  | .zeroDescriptor e => decide (e < Config.nEngines)
  | .compareDescriptor e => decide (e < Config.nEngines)
  | .crcDescriptor e => decide (e < Config.nEngines)
  | .gatherDescriptor e => decide (e < Config.nEngines)
  | .scatterDescriptor e => decide (e < Config.nEngines)
  | .atomicDescriptor e => decide (e < Config.nEngines)
  | .maintDescriptor e => decide (e < Config.nEngines)
  | .taskDescriptor e => decide (e < Config.nEngines)
  | .msgDescriptor e => decide (e < Config.nEngines)
  | .waitDescriptor e => decide (e < Config.nEngines)
  | .fenceDescriptor n => decide (n < Config.nInkwells)
  | .waitPoll e => decide (e < Config.nEngines)
  | .waitTimeout n _ => decide (n < Config.nInkwells)
  | .descriptorComplete n _ => decide (n < Config.nInkwells)
  | .completionEventTimer n => decide (n < Config.nInkwells)
  | .inkwellDisable _ n => decide (n < Config.nInkwells)
  | .inkwellEnable _ n => decide (n < Config.nInkwells)
  | .resetPtrs _ n => decide (n < Config.nInkwells)
  | .fifoPop _ f => fifoOk f
  | .fifoClear _ f => fifoOk f
  | .cxCmdPush _ _ => true
  | .cxRspPop _ => true
  | .cxCommandStart => true
  | .nop _ => true
  | .cxCopy _ => true
  | .cxFill _ => true
  | .maintRange _ => true
  | .maintSw _ => true
  | .cxCommandComplete => true
  | .cxRgnWrite _ _ _ _ => true
  | .counterHandoff group => decide (group < 54)
  | .thresholdSample => true
  | .clearAll _ => true
  | .dumpPeriod => true
  | .dumpNow _ => true
  | .dumpDone => true
  | .blotterEnable _ => true
  | .blotterRecord _ => true
  | .blotterRecordWaitExpire => true
  | .blotterDrainWrite => true
  | .eventSequence _ => true
  | .eventMsgSend => true
  | .crashLogWrite _ => true
  | .domainLitCommand _ d => decide (d < Config.nDomains)
  | .domainEmberCommand _ d => decide (d < Config.nDomains)
  | .domainColdCommand _ d => decide (d < Config.nDomains)
  | .domainIdleTimerExpiry d => decide (d < Config.nDomains)
  | .domainWake d => decide (d < Config.nDomains)
  | .domainWakeComplete d => decide (d < Config.nDomains)
  | .domainGatingComplete d => decide (d < Config.nDomains)
  | .damperPass => true
  | .extraRequest d => decide (d < Config.nDomains)
  | .extraReturn d => decide (d < Config.nDomains)
  | .avsPoll _ => true
  | .avsVoltageStep _ => true
  | .resetNRise => true
  | .illegalWord core _ => decide (core < Config.nCores)
  | .instructionFetchFault core _ => decide (core < Config.nCores)
  | .clusterResetComplete c => decide (c < Config.nClusters)
  | .fuseProgrammingComplete _ => true
  | .crashLogWriteComplete _ => true
  | .boundaryScan _ _ _ => true

end Sys2Proof
end

