-- ==== Sys2Proof/Certificates/Slice0/Obligations.lean ====
section
/-! DEFINITION. The statements for the provers, each a rule of the spec said of the machine. -/
open Sys2Proof Sys2Proof.Machine Sys2Proof.Config

/-! ## Scribe cores: registers -/

/-- R336, R337: every integer operation of a running core writes its result to rd, for every operand, division by zero and the
overflowing division included; the PC moves on by 4 and nothing else changes. Its word is that of opcode 0x01 with its function
code and rs3 = 0; no other word of opcode 0x01 is an instruction. -/
def Obligations.IntegerOperationsWriteTheirResult : Prop :=
  (∀ op ∈ ([
      (.add, 0, fun a b => BitVec.ofNat 64 (a.toNat + b.toNat)),
      (.sub, 1, fun a b => BitVec.ofInt 64 (a.toInt - b.toInt)),
      (.and, 2, fun a b => BitVec.ofNat 64 (a.toNat &&& b.toNat)),
      (.or, 3, fun a b => BitVec.ofNat 64 (a.toNat ||| b.toNat)),
      (.xor, 4, fun a b => BitVec.ofNat 64 (a.toNat ^^^ b.toNat)),
      (.sll, 5, fun a b => BitVec.ofNat 64 (a.toNat * 2 ^ (b.toNat % 64))),
      (.srl, 6, fun a b => BitVec.ofNat 64 (a.toNat / 2 ^ (b.toNat % 64))),
      (.sra, 7, fun a b => BitVec.ofInt 64 (a.toInt / 2 ^ (b.toNat % 64))),
      (.slt, 8, fun a b => if a.toInt < b.toInt then 1 else 0),
      (.sltu, 9, fun a b => if a.toNat < b.toNat then 1 else 0),
      (.min, 10, fun a b => BitVec.ofInt 64 (min a.toInt b.toInt)),
      (.max, 11, fun a b => BitVec.ofInt 64 (max a.toInt b.toInt)),
      (.minu, 12, fun a b => BitVec.ofNat 64 (min a.toNat b.toNat)),
      (.maxu, 13, fun a b => BitVec.ofNat 64 (max a.toNat b.toNat)),
      (.mul, 16, fun a b => BitVec.ofNat 64 (a.toNat * b.toNat)),
      (.mulh, 17, fun a b => BitVec.ofInt 64 (a.toInt * b.toInt / 2 ^ 64)),
      (.mulhu, 18, fun a b => BitVec.ofNat 64 (a.toNat * b.toNat / 2 ^ 64)),
      (.div, 20, fun a b => if b = 0 then BitVec.ofInt 64 (-1)
        else if a = BitVec.ofInt 64 (-2 ^ 63) ∧ b = BitVec.ofInt 64 (-1) then a else BitVec.ofInt 64 (a.toInt.tdiv b.toInt)),
      (.divu, 21, fun a b => if b = 0 then BitVec.ofInt 64 (-1) else BitVec.ofNat 64 (a.toNat / b.toNat)),
      (.rem, 22, fun a b => if b = 0 then a
        else if a = BitVec.ofInt 64 (-2 ^ 63) ∧ b = BitVec.ofInt 64 (-1) then 0 else BitVec.ofInt 64 (a.toInt.tmod b.toInt)),
      (.remu, 23, fun a b => if b = 0 then a else BitVec.ofNat 64 (a.toNat % b.toNat))] :
      List ((Nat → BitVec 5 → BitVec 5 → BitVec 5 → Instr) × BitVec 6 × (DWord → DWord → DWord))),
    ∀ (k : Nat) (rd ra rb : BitVec 5), scribeDecode k (fmtR 0x01 rd ra rb 0 op.2.1) = some (op.1 k rd ra rb) ∧
      ∀ s : State, Runs s k → ∃ t, exec (op.1 k rd ra rb) s = .next t ∧
        Completes s t k ((s.core k).pc + 4) (gWith (s.core k) rd (op.2.2 ((s.core k).gr ra) ((s.core k).gr rb))) (s.core k).wide) ∧
  ∀ (k : Nat) (rd ra rb rc : BitVec 5) (fn : BitVec 6),
    rc ≠ 0 ∨ fn ∉ ([0, 1, 2, 3, 4, 5, 6, 7, 8, 9, 10, 11, 12, 13, 16, 17, 18, 20, 21, 22, 23] : List (BitVec 6)) →
    scribeDecode k (fmtR 0x01 rd ra rb rc fn) = none

/-- R338: the immediate operations, LUI and ADDHI, with the extension of their immediate that the rule gives each, and their
words: the opcode of each; a shift word whose imm16[15:8] is not zero or whose kind is 3 is no instruction. -/
def Obligations.ImmediateOperationsWriteTheirResult : Prop :=
  (∀ op ∈ ([
      (.addImmediate, 2, fun a i => BitVec.ofInt 64 (a.toInt + i.toInt)),
      (.andImmediate, 3, fun a i => BitVec.ofNat 64 (a.toNat &&& i.toNat)),
      (.orImmediate, 4, fun a i => BitVec.ofNat 64 (a.toNat ||| i.toNat)),
      (.xorImmediate, 5, fun a i => BitVec.ofNat 64 (a.toNat ^^^ i.toNat)),
      (.sltImmediate, 6, fun a i => if a.toInt < i.toInt then 1 else 0),
      (.sltuImmediate, 7, fun a i => if a.toNat < (BitVec.ofInt 64 i.toInt).toNat then 1 else 0)] :
      List ((Nat → BitVec 5 → BitVec 5 → BitVec 16 → Instr) × BitVec 6 × (DWord → BitVec 16 → DWord))),
    ∀ (k : Nat) (rd ra : BitVec 5) (imm : BitVec 16), scribeDecode k (fmtI op.2.1 rd ra imm) = some (op.1 k rd ra imm) ∧
      ∀ s : State, Runs s k → ∃ t, exec (op.1 k rd ra imm) s = .next t ∧
        Completes s t k ((s.core k).pc + 4) (gWith (s.core k) rd (op.2.2 ((s.core k).gr ra) imm)) (s.core k).wide) ∧
  (∀ op ∈ ([
      (.sllImmediate, 0, fun a n => BitVec.ofNat 64 (a.toNat * 2 ^ n)),
      (.srlImmediate, 1, fun a n => BitVec.ofNat 64 (a.toNat / 2 ^ n)),
      (.sraImmediate, 2, fun a n => BitVec.ofInt 64 (a.toInt / 2 ^ n))] :
      List ((Nat → BitVec 5 → BitVec 5 → BitVec 6 → Instr) × BitVec 2 × (DWord → Nat → DWord))),
    ∀ (k : Nat) (rd ra : BitVec 5) (sh : BitVec 6), scribeDecode k (fmtI 8 rd ra (0#8 ++ op.2.1 ++ sh)) = some (op.1 k rd ra sh) ∧
      ∀ s : State, Runs s k → ∃ t, exec (op.1 k rd ra sh) s = .next t ∧
        Completes s t k ((s.core k).pc + 4) (gWith (s.core k) rd (op.2.2 ((s.core k).gr ra) sh.toNat)) (s.core k).wide) ∧
  (∀ (k : Nat) (rd ra : BitVec 5) (hi : BitVec 8) (kind : BitVec 2) (sh : BitVec 6), hi ≠ 0 ∨ kind = 3 →
    scribeDecode k (fmtI 8 rd ra (hi ++ kind ++ sh)) = none) ∧
  (∀ (k : Nat) (rd : BitVec 5) (imm : BitVec 21), scribeDecode k (fmtU 9 rd imm) = some (.lui k rd imm) ∧
    scribeDecode k (fmtU 0xA rd imm) = some (.addhi k rd imm)) ∧
  ∀ (s : State) (k : Nat) (rd : BitVec 5) (imm : BitVec 21), Runs s k →
    (∃ t, exec (.lui k rd imm) s = .next t ∧
      Completes s t k ((s.core k).pc + 4) (gWith (s.core k) rd (BitVec.ofInt 64 (imm.toInt * 2 ^ 11))) (s.core k).wide) ∧
    ∃ t, exec (.addhi k rd imm) s = .next t ∧
      Completes s t k ((s.core k).pc + 4)
        (gWith (s.core k) rd (BitVec.ofInt 64 (((s.core k).gr rd).toInt + imm.toInt * 2 ^ 32))) (s.core k).wide

/-- R345, R346: a conditional branch goes to PC + 4 × offset where its condition holds and to PC + 4 otherwise; JAL and JR link
and go to their targets, JR where the target is a multiple of 4. -/
def Obligations.BranchesAndJumpsGoToTheirTarget : Prop :=
  (∀ op ∈ ([
      (.brEq, 0, fun a b => decide (a.toNat = b.toNat)),
      (.brNe, 1, fun a b => decide (a.toNat ≠ b.toNat)),
      (.brLt, 4, fun a b => decide (a.toInt < b.toInt)),
      (.brGe, 5, fun a b => decide (b.toInt ≤ a.toInt)),
      (.brLtu, 6, fun a b => decide (a.toNat < b.toNat)),
      (.brGeu, 7, fun a b => decide (b.toNat ≤ a.toNat))] :
      List ((Nat → BitVec 5 → BitVec 5 → BitVec 13 → Instr) × BitVec 3 × (DWord → DWord → Bool))),
    ∀ (k : Nat) (ra rb : BitVec 5) (off : BitVec 13), scribeDecode k (fmtB ra rb op.2.1 off) = some (op.1 k ra rb off) ∧
      ∀ s : State, Runs s k → ∃ t, exec (op.1 k ra rb off) s = .next t ∧
        Completes s t k
          ((s.core k).pc + if op.2.2 ((s.core k).gr ra) ((s.core k).gr rb) then BitVec.ofInt 52 (off.toInt * 4) else 4)
          (s.core k).gr (s.core k).wide) ∧
  (∀ (k : Nat) (ra rb : BitVec 5) (off : BitVec 13), scribeDecode k (fmtB ra rb 2 off) = none ∧ scribeDecode k (fmtB ra rb 3 off) = none) ∧
  (∀ (s : State) (k : Nat) (rd : BitVec 5) (off : BitVec 21), Runs s k →
    ∃ t, exec (.jal k rd off) s = .next t ∧
      Completes s t k ((s.core k).pc + BitVec.ofInt 52 (off.toInt * 4))
        (gWith (s.core k) rd (((s.core k).pc + 4).setWidth 64)) (s.core k).wide) ∧
  ∀ (s : State) (k : Nat) (rd ra : BitVec 5) (imm : BitVec 16), Runs s k →
    (BitVec.ofInt 52 (((s.core k).gr ra).toInt + imm.toInt)).toNat % 4 = 0 →
    ∃ t, exec (.jr k rd ra imm) s = .next t ∧
      Completes s t k (BitVec.ofInt 52 (((s.core k).gr ra).toInt + imm.toInt))
        (gWith (s.core k) rd (((s.core k).pc + 4).setWidth 64)) (s.core k).wide

/-- R348, R349: a lane-wise operation leaves in every lane of wd what its rule says of the lanes of its operands. Its word is that
of opcode 0x30 with its function code; where LS must be 0, no other lane size is an instruction. -/
def Obligations.WideOperationsActOnEveryLane : Prop :=
  (∀ op ∈ ([
      (.wadd, 0, fun n a b => (a + b) % 2 ^ n),
      (.wsub, 1, fun n a b => (((a : Int) - b) % 2 ^ n).toNat),
      (.wcmpEq, 8, fun n a b => if a = b then 2 ^ n - 1 else 0),
      (.wcmpLt, 9, fun n a b => if sval n a < sval n b then 2 ^ n - 1 else 0),
      (.wcmpLtu, 10, fun n a b => if a < b then 2 ^ n - 1 else 0)] :
      List ((Nat → BitVec 2 → BitVec 4 → BitVec 4 → BitVec 4 → Instr) × BitVec 6 × (Nat → Nat → Nat → Nat))),
    ∀ (k : Nat) (ew : BitVec 2) (wd wa wb : BitVec 4), scribeDecode k (fmtW wd wa wb ew op.2.1) = some (op.1 k ew wd wa wb) ∧
      ∀ s : State, Runs s k → ∃ t v, exec (op.1 k ew wd wa wb) s = .next t ∧
        Completes s t k ((s.core k).pc + 4) (s.core k).gr (wWith (s.core k) wd v) ∧
        ∀ i < laneN ew, lane ew v i = op.2.2 (laneW ew) (lane ew ((s.core k).wide wa) i) (lane ew ((s.core k).wide wb) i)) ∧
  (∀ op ∈ ([(.wand, 2, fun a b => a &&& b), (.wor, 3, fun a b => a ||| b), (.wxor, 4, fun a b => a ^^^ b)] :
      List ((Nat → BitVec 4 → BitVec 4 → BitVec 4 → Instr) × BitVec 6 × (Wide → Wide → Wide))),
    ∀ (k : Nat) (wd wa wb : BitVec 4), scribeDecode k (fmtW wd wa wb 0 op.2.1) = some (op.1 k wd wa wb) ∧
      ∀ s : State, Runs s k → ∃ t, exec (op.1 k wd wa wb) s = .next t ∧
        Completes s t k ((s.core k).pc + 4) (s.core k).gr
          (wWith (s.core k) wd (op.2.2 ((s.core k).wide wa) ((s.core k).wide wb)))) ∧
  (∀ (k : Nat) (wd wa wb : BitVec 4), scribeDecode k (fmtW wd wa wb 0 0x10) = some (.wshuf k wd wa wb) ∧
    ∀ fn ∈ ([2, 3, 4, 0x10] : List (BitVec 6)), ∀ ls : BitVec 2, ls ≠ 0 → scribeDecode k (fmtW wd wa wb ls fn) = none) ∧
  (∀ (s : State) (k : Nat) (wd wa wb : BitVec 4), Runs s k →
    ∃ t v, exec (.wshuf k wd wa wb) s = .next t ∧
      Completes s t k ((s.core k).pc + 4) (s.core k).gr (wWith (s.core k) wd v) ∧
      ∀ j < 32, lane 0 v j = (let i := lane 0 ((s.core k).wide wb) j
        if i.testBit 7 then 0 else lane 0 ((s.core k).wide wa) (i % 32))) ∧
  (∀ (s : State) (k : Nat) (ew : BitVec 2) (wd : BitVec 4) (ra ix : BitVec 5), Runs s k → ix.toNat < laneN ew →
    ∃ t v, exec (.wins k ew wd ra ix) s = .next t ∧
      Completes s t k ((s.core k).pc + 4) (s.core k).gr (wWith (s.core k) wd v) ∧
      ∀ i < laneN ew, lane ew v i =
        if i = ix.toNat then ((s.core k).gr ra).toNat % 2 ^ laneW ew else lane ew ((s.core k).wide wd) i) ∧
  ∀ (s : State) (k : Nat) (ew : BitVec 2) (wd : BitVec 4) (ra : BitVec 5), Runs s k →
    ∃ t v, exec (.wspl k ew wd ra) s = .next t ∧
      Completes s t k ((s.core k).pc + 4) (s.core k).gr (wWith (s.core k) wd v) ∧
      ∀ i < laneN ew, lane ew v i = ((s.core k).gr ra).toNat % 2 ^ laneW ew

/-- R349, R350: the operations that bring a wide register to a general one: a lane, the reductions over the lanes, a CRC step over
the 32 bytes (P = 0 the CRC-32C, P = 1 the CRC-64 of ECMA-182), a hash step over the four 64-bit lanes. -/
def Obligations.WideReductionsWriteAGeneralRegister : Prop :=
  (∀ (s : State) (k : Nat) (ew : BitVec 2) (rd : BitVec 5) (wa : BitVec 4) (ix : BitVec 5), Runs s k → ix.toNat < laneN ew →
    ∃ t, exec (.wext k ew rd wa ix) s = .next t ∧
      Completes s t k ((s.core k).pc + 4) (gWith (s.core k) rd (BitVec.ofNat 64 (lane ew ((s.core k).wide wa) ix.toNat)))
        (s.core k).wide) ∧
  (∀ op ∈ ([
      (.wredAdd, fun ew v r => r = BitVec.ofNat 64 (((List.range (laneN ew)).map (lane ew v)).sum)),
      (.wredMin, fun ew v r => (∃ i < laneN ew, r.toInt = sval (laneW ew) (lane ew v i)) ∧
        ∀ i < laneN ew, r.toInt ≤ sval (laneW ew) (lane ew v i)),
      (.wredMax, fun ew v r => (∃ i < laneN ew, r.toInt = sval (laneW ew) (lane ew v i)) ∧
        ∀ i < laneN ew, sval (laneW ew) (lane ew v i) ≤ r.toInt),
      (.wredXor, fun ew v r => ∀ j < 64,
        r.getLsbD j = (((List.range (laneN ew)).filter fun i => (lane ew v i).testBit j).length % 2 == 1))] :
      List ((Nat → BitVec 2 → BitVec 5 → BitVec 4 → Instr) × (BitVec 2 → Wide → DWord → Prop))),
    ∀ (s : State) (k : Nat) (ew : BitVec 2) (rd : BitVec 5) (wa : BitVec 4), Runs s k →
      ∃ t r, exec (op.1 k ew rd wa) s = .next t ∧ op.2 ew ((s.core k).wide wa) r ∧
        Completes s t k ((s.core k).pc + 4) (gWith (s.core k) rd r) (s.core k).wide) ∧
  (∀ (s : State) (k : Nat) (p : Bool) (rd ra : BitVec 5) (wb : BitVec 4), Runs s k →
    ∃ t, exec (.wcrc k p rd ra wb) s = .next t ∧
      Completes s t k ((s.core k).pc + 4)
        (gWith (s.core k) rd
          ((List.range 32).foldl
            (fun c n => (fun c => if c.getLsbD 0 then (c >>> 1) ^^^ (if p then 0xC96C5795D7870F42 else 0x82F63B78) else c >>> 1)^[8]
              (c ^^^ (BitVec.ofNat 64 (lane 0 ((s.core k).wide wb) n))))
            (if p then (s.core k).gr ra else BitVec.ofNat 64 (((s.core k).gr ra).toNat % 2 ^ 32))))
        (s.core k).wide) ∧
  ∀ (s : State) (k : Nat) (rd ra : BitVec 5) (wb : BitVec 4), Runs s k →
    ∃ t, exec (.whash k rd ra wb) s = .next t ∧
      Completes s t k ((s.core k).pc + 4)
        (gWith (s.core k) rd
          ((List.range 4).foldl (fun h i => (h ^^^ BitVec.ofNat 64 (lane 3 ((s.core k).wide wb) i)).rotateLeft 31
            * 0x9E3779B97F4A7C15) ((s.core k).gr ra)))
        (s.core k).wide

/-! ## Scribe cores: the slate -/

/-- R300, R340: a load from the slate takes its bytes little-endian, extended as its form says; g0 discards it; nothing else of
the machine changes. R300, R340: a store to the slate writes the low bytes of its register, little-endian, and no other byte;
nothing else of the machine changes. -/
def Obligations.SlateLoadsAndStoresActOnTheSlate : Prop :=
  (
  (∀ op ∈ ([(.ldB, 1, true), (.ldH, 2, true), (.ldW, 4, true), (.ldD, 8, true), (.ldBu, 1, false), (.ldHu, 2, false),
      (.ldWu, 4, false)] : List ((Nat → BitVec 5 → BitVec 5 → BitVec 16 → Instr) × Nat × Bool)),
    ∀ (s : State) (k : Nat) (rd ra : BitVec 5) (imm : BitVec 16) (off : Nat), Runs s k →
      SlateAccess s k (effAddr ((s.core k).gr ra) imm) off op.2.1 →
      ∃ t v, exec (op.1 k rd ra imm) s = .next t ∧ SlateNumber (s.cluster (k / 8)) off op.2.1 v ∧
        CompletesSlate s t k ((s.core k).pc + 4)
          (gWith (s.core k) rd (if op.2.2 then BitVec.ofInt 64 (sval (8 * op.2.1) v) else BitVec.ofNat 64 v)) (s.core k).wide ∧
        t.cluster (k / 8) = s.cluster (k / 8)) ∧
  ∀ (s : State) (k : Nat) (wd : BitVec 4) (ra : BitVec 5) (imm : BitVec 16) (off : Nat), Runs s k →
    SlateAccess s k (effAddr ((s.core k).gr ra) imm) off 32 →
    ∃ t v, exec (.ldw k wd ra imm) s = .next t ∧ SlateNumber (s.cluster (k / 8)) off 32 v ∧
      CompletesSlate s t k ((s.core k).pc + 4) (s.core k).gr (wWith (s.core k) wd (BitVec.ofNat 256 v)) ∧
      t.cluster (k / 8) = s.cluster (k / 8)) ∧
  (
  (∀ op ∈ ([(.stB, 1), (.stH, 2), (.stW, 4), (.stD, 8)] : List ((Nat → BitVec 5 → BitVec 5 → BitVec 16 → Instr) × Nat)),
    ∀ (s : State) (k : Nat) (rb ra : BitVec 5) (imm : BitVec 16) (off : Nat), Runs s k →
      SlateAccess s k (effAddr ((s.core k).gr ra) imm) off op.2 →
      ∃ t, exec (op.1 k rb ra imm) s = .next t ∧
        CompletesSlate s t k ((s.core k).pc + 4) (s.core k).gr (s.core k).wide ∧
        SlateWritten (s.cluster (k / 8)) (t.cluster (k / 8)) off op.2 (((s.core k).gr rb).toNat)) ∧
  ∀ (s : State) (k : Nat) (wb : BitVec 4) (ra : BitVec 5) (imm : BitVec 16) (off : Nat), Runs s k →
    SlateAccess s k (effAddr ((s.core k).gr ra) imm) off 32 →
    ∃ t, exec (.stw k wb ra imm) s = .next t ∧
      CompletesSlate s t k ((s.core k).pc + 4) (s.core k).gr (s.core k).wide ∧
      SlateWritten (s.cluster (k / 8)) (t.cluster (k / 8)) off 32 (((s.core k).wide wb).toNat))

/-- R147, R300, R342: an atomic on the slate returns the value from before it, sign-extended, and leaves what its operation makes
of it, MIN and MAX comparing signed values, CAS writing only where the memory value equals the compare value; a 4-byte atomic uses
the low 32 bits of its operands. -/
def Obligations.SlateAtomicsAreIndivisible : Prop :=
  (∀ op ∈ ([
      (.amoAdd, fun w o b => (o + b) % 2 ^ w),
      (.amoSwp, fun _ _ b => b),
      (.amoMin, fun w o b => if sval w b < sval w o then b else o),
      (.amoMax, fun w o b => if sval w o < sval w b then b else o),
      (.amoAnd, fun _ o b => o &&& b),
      (.amoOr, fun _ o b => o ||| b),
      (.amoXor, fun _ o b => o ^^^ b)] :
      List ((Nat → Bool → BitVec 5 → BitVec 5 → BitVec 5 → Instr) × (Nat → Nat → Nat → Nat))),
    ∀ (s : State) (k : Nat) (dword : Bool) (rd ra rb : BitVec 5) (off n : Nat), n = (if dword then 8 else 4) → Runs s k →
      SlateAccess s k (((s.core k).gr ra).setWidth 52) off n →
      ∃ t v, exec (op.1 k dword rd ra rb) s = .next t ∧ SlateNumber (s.cluster (k / 8)) off n v ∧
        CompletesSlate s t k ((s.core k).pc + 4) (gWith (s.core k) rd (BitVec.ofInt 64 (sval (8 * n) v))) (s.core k).wide ∧
        SlateWritten (s.cluster (k / 8)) (t.cluster (k / 8)) off n
          (op.2 (8 * n) v (((s.core k).gr rb).toNat % 2 ^ (8 * n)))) ∧
  ∀ (s : State) (k : Nat) (dword : Bool) (rd ra rb rc : BitVec 5) (off n : Nat), n = (if dword then 8 else 4) → Runs s k →
    SlateAccess s k (((s.core k).gr ra).setWidth 52) off n →
    ∃ t v, exec (.amoCas k dword rd ra rb rc) s = .next t ∧ SlateNumber (s.cluster (k / 8)) off n v ∧
      CompletesSlate s t k ((s.core k).pc + 4) (gWith (s.core k) rd (BitVec.ofInt 64 (sval (8 * n) v))) (s.core k).wide ∧
      SlateWritten (s.cluster (k / 8)) (t.cluster (k / 8)) off n
        (if v = ((s.core k).gr rc).toNat % 2 ^ (8 * n) then ((s.core k).gr rb).toNat % 2 ^ (8 * n) else v)

/-! ## Scribe cores: memory -/

/-- R304, R340, R359: a load of a line that no buffer or nib cache of the cluster holds asks the home for the line and waits: one
RD_UC of 64 bytes leaves, the PC and the registers stay. R304, R342, R343: the answer of the home ends the wait of a core: a load
and an LRES take their bytes of the line, an atomic its value, an SCND its success, LDW the 32 bytes in its wide register; LRES
sets the reservation flag, SCND clears it; the PC moves on. -/
def Obligations.LoadsWaitForTheirLine : Prop :=
  (
  (∀ op ∈ ([(.ldB, 1, true), (.ldH, 2, true), (.ldW, 4, true), (.ldD, 8, true), (.ldBu, 1, false), (.ldHu, 2, false),
      (.ldWu, 4, false)] : List ((Nat → BitVec 5 → BitVec 5 → BitVec 16 → Instr) × Nat × Bool)),
    ∀ (s : State) (k : Nat) (rd ra : BitVec 5) (imm : BitVec 16) (a : PA), a = effAddr ((s.core k).gr ra) imm → Runs s k →
      MemAccess s k a op.2.1 1 → NoStores s k (a.toNat / 64) → nibFind (s.core k) (a.toNat / 64) = none → NotFollowed s k →
      ∃ t, exec (op.1 k rd ra imm) s = .next t ∧
        Sent s t k (s.coreReq k opcRD_UC 6 (BitVec.ofNat 52 (a.toNat / 64 * 64)) []) ∧
        t.core k = { s.core k with
          wait := some (.load (.g rd.toNat) a op.2.1 op.2.2 (nibAttr (s.core k) a)), waitTag := s.nextTag k }) ∧
  ∀ (s : State) (k : Nat) (wd : BitVec 4) (ra : BitVec 5) (imm : BitVec 16) (a : PA), a = effAddr ((s.core k).gr ra) imm →
    Runs s k → MemAccess s k a 32 1 → NoStores s k (a.toNat / 64) → nibFind (s.core k) (a.toNat / 64) = none → NotFollowed s k →
    ∃ t, exec (.ldw k wd ra imm) s = .next t ∧
      Sent s t k (s.coreReq k opcRD_UC 6 (BitVec.ofNat 52 (a.toNat / 64 * 64)) []) ∧
      t.core k = { s.core k with
        wait := some (.load (.w wd.toNat) a 32 false (nibAttr (s.core k) a)), waitTag := s.nextTag k }) ∧
  (
  ∀ (s : State) (k : Nat) (data : LineData) (rd : BitVec 5) (a : PA) (n : Nat) (sext : Bool) (w : CoreWait), k < nCores →
    (s.core k).wait = some w → (s.core k).doom = none → (∀ j, (s.core j).ending = none) → NoStores s k (a.toNat / 64) →
    (s.core k).sb = [] → 0 < n → a.toNat % 64 + n ≤ 64 →
    s.heldMsg (fun m => m.dst == s.scrAgent k && m.tag == (s.core k).waitTag && decide (0x40 ≤ m.opc)) = none →
    ∃ t, exec (.scribeResponseReturn k false none data) s = .next t ∧
      (∀ nib, w = .load (.g rd.toNat) a n sext nib → ∀ v, v = data.toNat / 2 ^ (8 * (a.toNat % 64)) % 2 ^ (8 * n) →
        (∀ i, (t.core k).gr i =
          gWith (s.core k) rd (if sext then BitVec.ofInt 64 (sval (8 * n) v) else BitVec.ofNat 64 v) i) ∧
        (t.core k).resv = (s.core k).resv) ∧
      (∀ (wd : BitVec 4) nib, w = .load (.w wd.toNat) a 32 false nib → n = 32 → sext = false →
        (∀ i, (t.core k).wide i = wWith (s.core k) wd (BitVec.ofNat 256 (data.toNat / 2 ^ (8 * (a.toNat % 64)) % 2 ^ 256)) i) ∧
        (∀ i, (t.core k).gr i = (s.core k).gr i) ∧ (t.core k).resv = (s.core k).resv) ∧
      (w = .lres rd.toNat a n → ∀ v, v = data.toNat / 2 ^ (8 * (a.toNat % 64)) % 2 ^ (8 * n) →
        (∀ i, (t.core k).gr i = gWith (s.core k) rd (BitVec.ofInt 64 (sval (8 * n) v)) i) ∧
        (t.core k).resv = some (a.toNat / 64)) ∧
      (w = .amo rd.toNat a n → n ≤ 8 →
        (∀ i, (t.core k).gr i = gWith (s.core k) rd (BitVec.ofInt 64 (sval (8 * n) (data.toNat % 2 ^ (8 * n)))) i) ∧
        (t.core k).resv = (s.core k).resv) ∧
      (w = .scnd rd.toNat a →
        (∀ i, (t.core k).gr i = gWith (s.core k) rd (if data.getLsbD 0 then 1 else 0) i) ∧ (t.core k).resv = none) ∧
      ((∃ d nib, w = .load d a n sext nib) ∨ w = .lres rd.toNat a n ∨ w = .amo rd.toNat a n ∨ w = .scnd rd.toNat a →
        (t.core k).wait = none ∧ (t.core k).pc = (s.core k).pc + 4) ∧
      (∀ j, j ≠ k → t.core j = s.core j) ∧ (∀ c, c ≠ k / 8 → t.cluster c = s.cluster c) ∧
      t.cluster (k / 8) = { s.cluster (k / 8) with tags := eraseFirst (· == (s.core k).waitTag) (s.cluster (k / 8)).tags } ∧
      ButFetch s t { s with cores := t.cores, acc := t.acc, clusters := t.clusters } k)

/-- R302, R340: a store to memory enters the store buffer of its core, over what is there of its line, and no other byte of the
buffer changes; provided the line is there or an entry is free. R303, R305: the oldest store-buffer entry moves into the gather
buffer as an entry of its own where that holds nothing of its line; an open gather entry whose hold time has passed drains as one
write of the bytes it holds. -/
def Obligations.StoresAreBufferedAndDrained : Prop :=
  (
  ∀ op ∈ ([(fun k rb _ ra imm => .stB k rb ra imm, 1, fun x rb _ => (x.gr rb).toNat),
      (fun k rb _ ra imm => .stH k rb ra imm, 2, fun x rb _ => (x.gr rb).toNat),
      (fun k rb _ ra imm => .stW k rb ra imm, 4, fun x rb _ => (x.gr rb).toNat),
      (fun k rb _ ra imm => .stD k rb ra imm, 8, fun x rb _ => (x.gr rb).toNat),
      (fun k _ wb ra imm => .stw k wb ra imm, 32, fun x _ wb => (x.wide wb).toNat)] :
      List ((Nat → BitVec 5 → BitVec 4 → BitVec 5 → BitVec 16 → Instr) × Nat × (Core → BitVec 5 → BitVec 4 → Nat))),
    ∀ (s : State) (k : Nat) (rb : BitVec 5) (wb : BitVec 4) (ra : BitVec 5) (imm : BitVec 16) (a : PA),
      a = effAddr ((s.core k).gr ra) imm → Runs s k → MemAccess s k a op.2.1 2 →
      ((∃ e ∈ (s.core k).sb, e.line = a.toNat / 64) ∨ (s.core k).sb.length < 16) →
      ∃ t, exec (op.1 k rb wb ra imm) s = .next t ∧
        (t.core k).pc = (s.core k).pc + 4 ∧ (t.core k).g = (s.core k).g ∧ (t.core k).w = (s.core k).w ∧
        (∀ line, ∀ o < 64, (t.core k).sbByte line o =
          if line = a.toNat / 64 ∧ a.toNat % 64 ≤ o ∧ o < a.toNat % 64 + op.2.1 then
            some (BitVec.ofNat 8 (op.2.2 (s.core k) rb wb / 2 ^ (8 * (o - a.toNat % 64))))
          else (s.core k).sbByte line o) ∧
        OthersKept s t k [0, 4] ∧ ButFetch s t { s with cores := t.cores, acc := t.acc } k) ∧
  (
  (∀ (s : State) (k : Nat) (e : SbEntry) (l : List SbEntry), k < nCores → s.domLit (44 + k / 8) = true →
    (s.core k).sb = e :: l → (∀ f ∈ (s.cluster (k / 8)).gather, f.line ≠ e.line) → (s.cluster (k / 8)).gather.length < 23 →
    e.mask ≠ BitVec.allOnes 64 → (∀ f ∈ (s.cluster (k / 8)).gather, f.mask ≠ BitVec.allOnes 64) → (∀ j, (s.core j).ending = none) →
    ∃ t, exec (.storeBufferDrain k) s = .next t ∧ t.core k = { s.core k with sb := l } ∧
      (∀ j, j ≠ k → t.core j = s.core j) ∧ (∀ c, c ≠ k / 8 → t.cluster c = s.cluster c) ∧
      t.cluster (k / 8) = { s.cluster (k / 8) with
        gather := (s.cluster (k / 8)).gather ++ [⟨e.line, e.data, e.mask, BitVec.ofNat 8 (2 ^ (k % 8)), e.poison, none⟩] } ∧
      t = { s with cores := t.cores, clusters := t.clusters }) ∧
  ∀ (s : State) (c i : Nat) (e : GEntry), c < nClusters → (s.cluster c).gather[i]? = some e → e.drain = none →
    (∀ f ∈ (s.cluster c).gather, f.line = e.line → f = e) → e.mask ≠ BitVec.allOnes 64 →
    ∃ t m, exec (.gatherHoldExpire c i) s = .next t ∧ t.spine = { s.spine with req := s.spine.req ++ [m] } ∧
      m.opc = opcWR_PART ∧ m.src = mkAgent s.devNum (32 + c) ∧ m.addr = BitVec.ofNat 52 (e.line * 64) ∧
      m.body = partBody e.mask e.data ∧ m.poison = e.poison ∧
      (∀ f ∈ (t.cluster c).gather, f.line = e.line → f.drain = some m.tag) ∧
      t = { s with clusters := t.clusters, spine := t.spine, acc := t.acc })

/-- R309, R312–R314, R342–R344: an access that its line's home performs leaves as one request once no earlier store of the cluster
to the line is on its way. Atomics, LRES and SCND wait for the answer; ZLN, CLN, CINV and PFK let the core go on. -/
def Obligations.HomeAccessesSendTheirRequest : Prop :=
  (∀ op ∈ ([(.amoAdd, 0), (.amoSwp, 1), (.amoMin, 3), (.amoMax, 4), (.amoAnd, 5), (.amoOr, 6), (.amoXor, 7)] :
      List ((Nat → Bool → BitVec 5 → BitVec 5 → BitVec 5 → Instr) × Nat)),
    ∀ (s : State) (k : Nat) (dword : Bool) (rd ra rb : BitVec 5) (a : PA) (n : Nat), a = ((s.core k).gr ra).setWidth 52 →
      n = (if dword then 8 else 4) → Runs s k → MemAccess s k a n 3 → NoStores s k (a.toNat / 64) → NotFollowed s k →
      ∃ t, exec (op.1 k dword rd ra rb) s = .next t ∧
        Sent s t k (s.coreReq k opcAMO (op.2 + if dword then 8 else 0) a
          (wordsLE 2 (((s.core k).gr rb).toNat % 2 ^ (8 * n)) ++ [0, 0])) ∧
        (t.core k).pc = (s.core k).pc ∧ (t.core k).wait = some (.amo rd.toNat a n)) ∧
  (∀ (s : State) (k : Nat) (dword : Bool) (rd ra rb rc : BitVec 5) (a : PA) (n : Nat), a = ((s.core k).gr ra).setWidth 52 →
    n = (if dword then 8 else 4) → Runs s k → MemAccess s k a n 3 → NoStores s k (a.toNat / 64) → NotFollowed s k →
    ∃ t, exec (.amoCas k dword rd ra rb rc) s = .next t ∧
      Sent s t k (s.coreReq k opcAMO (2 + if dword then 8 else 0) a
        (wordsLE 2 (((s.core k).gr rb).toNat % 2 ^ (8 * n)) ++ wordsLE 2 (((s.core k).gr rc).toNat % 2 ^ (8 * n)))) ∧
      (t.core k).pc = (s.core k).pc ∧ (t.core k).wait = some (.amo rd.toNat a n)) ∧
  (∀ op ∈ ([(.lresW, 4), (.lresD, 8)] : List ((Nat → BitVec 5 → BitVec 5 → Instr) × Nat)),
    ∀ (s : State) (k : Nat) (rd ra : BitVec 5) (a : PA), a = ((s.core k).gr ra).setWidth 52 → Runs s k →
      MemAccess s k a op.2 1 → ownHome s a = true → NoStores s k (a.toNat / 64) → NotFollowed s k →
      ∃ t m, exec (op.1 k rd ra) s = .next t ∧ Sent s t k m ∧ m.opc = opcRD_UC ∧ m.addr.toNat = a.toNat / 64 * 64 ∧
        (t.core k).pc = (s.core k).pc ∧ (t.core k).wait = some (.lres rd.toNat a op.2)) ∧
  (∀ op ∈ ([(.scndW, 4), (.scndD, 8)] : List ((Nat → BitVec 5 → BitVec 5 → BitVec 5 → Instr) × Nat)),
    ∀ (s : State) (k : Nat) (rd ra rb : BitVec 5) (a : PA), a = ((s.core k).gr ra).setWidth 52 → Runs s k →
      MemAccess s k a op.2 2 → ownHome s a = true →
      ((s.core k).resv ≠ some (a.toNat / 64) →
        ∃ t, exec (op.1 k rd ra rb) s = .next t ∧ (t.core k).pc = (s.core k).pc + 4 ∧
          (∀ i, (t.core k).gr i = gWith (s.core k) rd 0 i) ∧ (t.core k).resv = none ∧ t.spine = s.spine ∧
          ButFetch s t { s with cores := t.cores, acc := t.acc, resv := t.resv } k) ∧
      ((s.core k).resv = some (a.toNat / 64) → NoStores s k (a.toNat / 64) → NotFollowed s k →
        ∃ t m, exec (op.1 k rd ra rb) s = .next t ∧ Sent s t k m ∧ m.opc = opcWR_PART ∧ m.addr.toNat = a.toNat / 64 * 64 ∧
          m.body = partBody (byteMask (a.toNat % 64) op.2)
            (putLine 0 (a.toNat % 64) op.2 (((s.core k).gr rb).toNat % 2 ^ (8 * op.2))) ∧
          (t.core k).pc = (s.core k).pc ∧ (t.core k).wait = some (.scnd rd.toNat a))) ∧
  ∀ op ∈ ([(.zln, opcZERO_LINE, 0, 2, true), (.pfk, opcPREFETCH, 0, 1, false), (.cln, opcMAINT, 0, 1, false),
      (.cinv, opcMAINT, 2, 2, true)] : List ((Nat → BitVec 5 → BitVec 16 → Instr) × Nat × Nat × Nat × Bool)),
    ∀ (s : State) (k : Nat) (ra : BitVec 5) (imm : BitVec 16) (a : PA), a = effAddr ((s.core k).gr ra) imm → Runs s k →
      MemAccess s k a 1 op.2.2.2.1 → NoStores s k (a.toNat / 64) → NotFollowed s k →
      ∃ t, exec (op.1 k ra imm) s = .next t ∧
        Sent s t k (s.coreReq k op.2.1 op.2.2.1 (BitVec.ofNat 52 (a.toNat / 64 * 64)) []) ∧
        (t.core k).pc = (s.core k).pc + 4 ∧ (t.core k).g = (s.core k).g ∧ (t.core k).w = (s.core k).w ∧
        (t.core k).wait = none ∧
        (op.2.2.2.2 = true → nibFind (t.core k) (a.toNat / 64) = none)

/-! ## Scribe cores: fences, state registers, exceptions, tasks -/

/-- R310: FENCE.CORE goes on once the store buffer is empty and no control-window access is out; FENCE.CLUS once the store buffer
is empty; FENCE.SYS once every store is performed at its home. The last two invalidate the nib data cache. -/
def Obligations.FencesGoOnWhenTheirStoresAreOut : Prop :=
  ∀ (s : State) (k : Nat), Runs s k → (s.core k).sb = [] →
    ((s.core k).cwBusy = none →
      ∃ t, exec (.fenceCore k) s = .next t ∧ Completes s t k ((s.core k).pc + 4) (s.core k).gr (s.core k).wide) ∧
    (∃ t, exec (.fenceClus k) s = .next t ∧ (t.core k).pc = (s.core k).pc + 4 ∧ (t.core k).dnib = [] ∧
      (t.core k).g = (s.core k).g ∧ (t.core k).w = (s.core k).w ∧ OthersKept s t k [0, 4] ∧
      ButFetch s t { s with cores := t.cores, acc := t.acc } k) ∧
    ((s.core k).cwBusy = none → (s.core k).posted = [] → (∀ e ∈ (s.cluster (k / 8)).gather, e.cores.getLsbD (k % 8) = false) →
      ∃ t, exec (.fenceSys k) s = .next t ∧ (t.core k).pc = (s.core k).pc + 4 ∧ (t.core k).dnib = [] ∧
        (t.core k).g = (s.core k).g ∧ (t.core k).w = (s.core k).w ∧ OthersKept s t k [0, 4, 7] ∧
        ButFetch s t { s with cores := t.cores, acc := t.acc } k)

/-- R331, R332, R347: RDST reads and WRST writes the state registers. WRST to st.EPC and st.TVEC keeps bits [1:0] zero, to
st.STATUS it writes the four bits; the registers of R293 that no one writes are read from the core, its cluster and the timebase.
-/
def Obligations.StateRegistersAreReadAndWritten : Prop :=
  (∀ (s : State) (k : Nat) (rd : BitVec 5), Runs s k → (s.core k).pl = true →
    ∀ r ∈ ([(0, fun x => BitVec.ofNat 64 ((if x.pl then 1 else 0) + 2 * (if x.ppl then 1 else 0)
              + 4 * (if x.hold then 1 else 0) + 8 * (if x.msgw then 1 else 0))),
        (1, fun x => x.epc), (2, fun x => x.cause), (3, fun x => x.badaddr), (4, fun x => x.tvec), (5, fun x => x.scratch),
        (0x10, fun x => (x.win.getD 0 (0, 0)).1), (0x11, fun x => (x.win.getD 0 (0, 0)).2),
        (0x12, fun x => (x.win.getD 1 (0, 0)).1), (0x13, fun x => (x.win.getD 1 (0, 0)).2),
        (0x14, fun x => (x.win.getD 2 (0, 0)).1), (0x15, fun x => (x.win.getD 2 (0, 0)).2),
        (0x16, fun x => (x.win.getD 3 (0, 0)).1), (0x17, fun x => (x.win.getD 3 (0, 0)).2),
        (0x18, fun x => x.slate),
        (0x20, fun _ => BitVec.ofNat 64 ((s.cluster (k / 8)).msgHead.toNat + 2 ^ 8 * (s.cluster (k / 8)).msgTail.toNat)),
        (0x21, fun _ => BitVec.ofNat 64 (k % 8 + 2 ^ 3 * (k / 8) + 2 ^ 7 * s.devNum)),
        (0x22, fun _ => s.tb.count), (0x23, fun x => x.task)] : List (BitVec 12 × (Core → DWord))),
      ∃ t, exec (.rdst k rd r.1) s = .next t ∧
        Completes s t k ((s.core k).pc + 4) (gWith (s.core k) rd (r.2 (s.core k))) (s.core k).wide) ∧
  ∀ (s : State) (k : Nat) (ra : BitVec 5) (v : DWord), Runs s k → (s.core k).pl = true → v = (s.core k).gr ra →
    (∀ r ∈ ([(0, fun x => { x with pl := v.getLsbD 0, ppl := v.getLsbD 1, hold := v.getLsbD 2, msgw := v.getLsbD 3 }),
        (1, fun x => { x with epc := BitVec.ofNat 64 (v.toNat / 4 * 4) }), (2, fun x => { x with cause := v }),
        (3, fun x => { x with badaddr := v }), (4, fun x => { x with tvec := BitVec.ofNat 64 (v.toNat / 4 * 4) }),
        (5, fun x => { x with scratch := v })] : List (BitVec 12 × (Core → Core))),
      ∃ t, exec (.wrst k r.1 ra) s = .next t ∧ OthersKept s t k [0, 4] ∧
        (∃ l, t.core k = { r.2 (s.core k) with pc := (s.core k).pc + 4, inib := l }) ∧
        ButFetch s t { s with cores := t.cores, acc := t.acc } k) ∧
    ∃ t, exec (.wrst k 0x20 ra) s = .next t ∧ (t.core k).pc = (s.core k).pc + 4 ∧
      t.cluster (k / 8) = { s.cluster (k / 8) with msgHead := BitVec.ofNat 6 v.toNat } ∧
      (∀ c, c ≠ k / 8 → t.cluster c = s.cluster c) ∧ OthersKept s t k [0, 4] ∧
      ButFetch s t { s with cores := t.cores, clusters := t.clusters, acc := t.acc } k

/-- R316, R317: a precise cause enters the handler of a core that has one and does not hold: a word that spells no instruction, a
fetch fault that comes back, a TRAP with a code (EPC past it), a misaligned access, an access outside its windows, a privileged
instruction at task level. R319: ERET at supervisor level sets PL to PPL, clears HOLD and goes to st.EPC; the core's registers
stay. -/
def Obligations.ExceptionsEnterTheHandlerAndReturn : Prop :=
  (
  ∀ (s : State) (k : Nat), Runs s k → (s.core k).hold = false → (s.core k).tvec ≠ 0 → (s.core k).doom = none →
    (∀ word, scribeDecode k word = none →
      ∃ t, exec (.illegalWord k word) s = .next t ∧ Enters s t k 1 0 none (s.core k).pc) ∧
    (∀ reason : BitVec 8, reason = 3 ∨ reason = 4 →
      ∃ t, exec (.instructionFetchFault k reason) s = .next t ∧
        Enters s t k 7 reason.toNat (some (s.core k).pc) (s.core k).pc) ∧
    (∀ code : BitVec 8, code ≠ 0 →
      ∃ t, exec (.trap k code) s = .next t ∧ Enters s t k 8 code.toNat none ((s.core k).pc + 4)) ∧
    (∀ op ∈ ([(.ldH, 2), (.ldW, 4), (.ldD, 8), (.ldHu, 2), (.ldWu, 4), (.stH, 2), (.stW, 4), (.stD, 8)] :
        List ((Nat → BitVec 5 → BitVec 5 → BitVec 16 → Instr) × Nat)),
      ∀ (r ra : BitVec 5) (imm : BitVec 16) (a : PA), a = effAddr ((s.core k).gr ra) imm → a.toNat % op.2 ≠ 0 →
        ∃ t, exec (op.1 k r ra imm) s = .next t ∧ Enters s t k 3 0 (some a) (s.core k).pc) ∧
    (∀ op ∈ ([(.ldB, 1, 1), (.ldBu, 1, 1), (.ldH, 2, 1), (.ldW, 4, 1), (.ldD, 8, 1), (.stB, 1, 2), (.stH, 2, 2), (.stW, 4, 2),
        (.stD, 8, 2)] : List ((Nat → BitVec 5 → BitVec 5 → BitVec 16 → Instr) × Nat × Nat)),
      ∀ (r ra : BitVec 5) (imm : BitVec 16) (a : PA), a = effAddr ((s.core k).gr ra) imm → a.toNat % op.2.1 = 0 →
        placeOf s (s.core k) a = .mem → missing (s.core k) .mem a op.2.2 ≠ 0 →
        ∃ t, exec (op.1 k r ra imm) s = .next t ∧
          Enters s t k 4 (missing (s.core k) .mem a op.2.2) (some a) (s.core k).pc) ∧
    ((s.core k).pl = false → ∃ t, exec (.eret k) s = .next t ∧ Enters s t k 2 0 none (s.core k).pc)) ∧
  (
  ∀ (s : State) (k : Nat), Runs s k → (s.core k).pl = true →
    ∃ t l, exec (.eret k) s = .next t ∧
      t.core k = { s.core k with pl := (s.core k).ppl, hold := false, pc := (s.core k).epc.setWidth 52, inib := l } ∧
      OthersKept s t k [0, 4] ∧ ButFetch s t { s with cores := t.cores, acc := t.acc } k)

/-- R317, R322: TRAP 0 ends the task of a core whose stores are all out: the core is idle and holds no reservation, and the task's
descriptor, which its TASK register names, is the one that ends, with status OK and g1 as its result. R322: GRACE grains after an
ABORT or DISABLED, a core that runs its task still is stopped by force and, with nothing left to wait for, idle; its descriptor
ends with the status of that event and result 0, and SCR_ERR records it. -/
def Obligations.TasksEndByTrapZeroOrByForce : Prop :=
  (
  ∀ (s : State) (k : Nat), Runs s k → (s.core k).sb = [] → (s.core k).cwBusy = none → (s.core k).posted = [] →
    (∀ e ∈ (s.cluster (k / 8)).gather, e.cores.getLsbD (k % 8) = false) →
    ∀ n slot, n = bitsOf (s.core k).task.toNat 0 10 → slot = bitsOf (s.core k).task.toNat 16 16 →
    ∃ t, exec (.trap k 0) s = .next t ∧ (t.core k).st = .idle ∧ (t.core k).resv = none ∧ sget zeroD t.resv k = 0 ∧
      (t.core k).evAbort = false ∧ (t.core k).evDisabled = false ∧ (t.core k).doom = none ∧ (t.core k).wait = none ∧
      (∀ j, j ≠ k → t.core j = s.core j) ∧ t.hbm = s.hbm ∧ t.clusters = s.clusters ∧
      (∀ d, descOf s n slot = some d →
        (heldEngine s n d = none → descOf t n slot = some { d with phase := .ended .ok ((s.core k).gr 1), engine := none }) ∧
        (heldEngine s n d ≠ none → descOf t n slot = some { d with phase := .done .ok ((s.core k).gr 1) } ∧
          (t.ink n).doneQ = (s.ink n).doneQ ++ [slot])) ∧
      (∀ i, i ≠ slot → descOf t n i = descOf s n i) ∧ ∀ i, i ≠ n → t.ink i = s.ink i) ∧
  (
  ∀ (s : State) (k : Nat) (d : Status), k < nCores → (s.core k).doom = some d → (s.core k).st = .running →
    (s.core k).ending = none → (s.core k).wait = none → (s.core k).sb = [] → (s.core k).cwBusy = none → (s.core k).posted = [] →
    (∀ e ∈ (s.cluster (k / 8)).gather, e.cores.getLsbD (k % 8) = false) →
    ∀ n slot, n = bitsOf (s.core k).task.toNat 0 10 → slot = bitsOf (s.core k).task.toNat 16 16 →
    ∃ t, exec (.graceExpire k) s = .next t ∧ (t.core k).st = .idle ∧ (t.core k).doom = none ∧ (t.core k).resv = none ∧
      t.bit (scrReg (k / 8) 0x80) 3 = true ∧ (∀ j, j ≠ k → t.core j = s.core j) ∧
      (∀ x, descOf s n slot = some x →
        (heldEngine s n x = none → descOf t n slot = some { x with phase := .ended d 0, engine := none }) ∧
        (heldEngine s n x ≠ none → descOf t n slot = some { x with phase := .done d 0 })) ∧
      (∀ i, i ≠ slot → descOf t n i = descOf s n i) ∧ ∀ i, i ≠ n → t.ink i = s.ink i)

/-- R318, R353: an event is taken as an exception at an instruction boundary and in WFD, DISABLED first, then ABORT; STORE_ERR
carries the address of its line. Where the fetch at the PC raises FETCH, that cause is taken and the event stays. R323: WFD with
nothing to report puts the core into WFD at its PC; the passing of its timeout ends the wait with bit 2 in rd. -/
def Obligations.EventsEnterTheHandlerOrEndAWait : Prop :=
  (
  (∀ (s : State) (k : Nat) (c : Cause), k < nCores → coreAwake s k = true → eventDue (s.core k) = true → (s.core k).tvec ≠ 0 →
    (s.core k).doom = none → fetchCause s (s.core k) = some c →
    ∃ t, exec (.eventTaken k) s = .next t ∧ Enters s t k 7 c.reason (some (s.core k).pc) (s.core k).pc ∧
      (t.core k).evDisabled = (s.core k).evDisabled ∧ (t.core k).evAbort = (s.core k).evAbort ∧
      (t.core k).evStore = (s.core k).evStore) ∧
  ∀ (s : State) (k : Nat), k < nCores → (s.core k).hold = false → (s.core k).tvec ≠ 0 → (s.core k).forced = false →
    (coreAwake s k = true ∧ fetchCause s (s.core k) = none) ∨
      ((s.core k).st = .wfd ∧ s.domLit (44 + k / 8) = true ∧ s.boot.fatal = false) →
    ((s.core k).evDisabled = true →
      ∃ t, exec (.eventTaken k) s = .next t ∧ Enters s t k 11 0 none (s.core k).pc ∧ (t.core k).evDisabled = false) ∧
    ((s.core k).evDisabled = false → (s.core k).evAbort = true →
      ∃ t, exec (.eventTaken k) s = .next t ∧ Enters s t k 10 0 none (s.core k).pc ∧ (t.core k).evAbort = false) ∧
    (∀ e l, (s.core k).evDisabled = false → (s.core k).evAbort = false → (s.core k).evStore = e :: l →
      ∃ t, exec (.eventTaken k) s = .next t ∧ Enters s t k 9 e.reason (some e.addr) (s.core k).pc ∧ (t.core k).evStore = l)) ∧
  (
  (∀ (s : State) (k : Nat) (rd ra : BitVec 5), Runs s k → wfdBits s k false = 0 → (s.core k).evDisabled = false →
    (s.core k).evAbort = false → (s.core k).evStore = [] →
    ∃ t, exec (.wfd k rd ra) s = .next t ∧
      t.core k = { s.core k with st := .wfd, wfdRd := rd.toNat, wfdTime := (s.core k).gr ra, wfdLate := false } ∧
      (∀ j, j ≠ k → t.core j = s.core j) ∧ t = { s with cores := t.cores }) ∧
  ∀ (s : State) (k : Nat), k < nCores → (s.core k).st = .wfd → (s.core k).wfdTime ≠ 0 → s.domLit (44 + k / 8) = true →
    wfdBits s k false = 0 → (s.core k).evDisabled = false → (s.core k).evAbort = false → (s.core k).evStore = [] →
    ∃ t, exec (.wfdTimeout k) s = .next t ∧ (t.core k).st = .running ∧ (t.core k).pc = (s.core k).pc + 4 ∧
      (∀ i, (t.core k).gr i = gWith (s.core k) (BitVec.ofNat 5 (s.core k).wfdRd) 4 i) ∧
      OthersKept s t k [0, 4] ∧ ButFetch s t { s with cores := t.cores, acc := t.acc } k)

/-- R320, R321: a launch record that its cluster takes waits in the cluster's queue, oldest last; an idle core that the oldest
record admits starts it: the entry address, g1 to g4, the level, and everything of the last task gone. -/
def Obligations.TasksAreQueuedAndStarted : Prop :=
  (∀ (s : State) (c : Nat) (r : LaunchRec), c < nClusters → s.boot.fatal = false → s.clusterPresent c = true →
    s.domLit (44 + c) = true → (s.cluster c).resetting = false → s.bit (scrReg c 0) 0 = true →
    (s.dom (44 + c)).commanded ≠ some .cold → (r.supervisor = true → inkPriv s r.inkwell = true) →
    (s.cluster c).tasks.length < 32 →
    ∃ t, exec (.launchRecord c r) s = .next t ∧
      t.cluster c = { s.cluster c with tasks := (s.cluster c).tasks ++ [r] } ∧ (∀ d, d ≠ c → t.cluster d = s.cluster d) ∧
      t.hbm = s.hbm ∧ t.cores = s.cores ∧ t.reg = s.reg) ∧
  ∀ (s : State) (k : Nat) (r : LaunchRec) (l : List LaunchRec), k < nCores → r.inkwell < nInkwells → s.clusterPresent (k / 8) = true →
    s.domLit (44 + k / 8) = true → (s.cluster (k / 8)).resetting = false → s.boot.fatal = false →
    (s.dom (44 + k / 8)).commanded ≠ some .ember → (s.cluster (k / 8)).tasks = r :: l → (s.core k).st = .idle →
    (r.mask = 0 ∨ r.mask.getLsbD (k % 8) = true) →
    (∀ j, j < k → j / 8 = k / 8 → (s.core j).st ≠ .idle ∨ (r.mask ≠ 0 ∧ r.mask.getLsbD (j % 8) = false)) →
    (r.supervisor = true → inkPriv s r.inkwell = true) →
    ∃ t, exec (.taskStart k) s = .next t ∧ (t.core k).st = .running ∧
      (t.core k).pc.toNat = r.entry.toNat / 4 * 4 ∧ (t.core k).pl = r.supervisor ∧
      (∀ i, (t.core k).gr i = if i = 1 then r.arg0 else if i = 2 then r.arg1 else if i = 3 then r.arg2 else
        if i = 4 then r.arg3 else 0) ∧ (∀ i, (t.core k).wide i = 0) ∧
      (t.core k).hold = false ∧ (t.core k).sb = [] ∧ (t.core k).dnib = [] ∧ (t.core k).resv = none ∧
      (t.core k).task.toNat = r.inkwell + 2 ^ 16 * r.index.toNat + 2 ^ 32 * (if r.supervisor then 1 else 0) ∧
      (t.cluster (k / 8)).tasks = l ∧ (∀ j, j ≠ k → t.core j = s.core j) ∧ t.hbm = s.hbm ∧ t.reg = s.reg

/-- R316, R325: STORE_ERR becomes pending at every core whose stores the refused write held, and at no other, and SCR_ERR records
it; the end of a cluster reset clears SCR_CTL.RESET. R322, R323, R325: the cluster commands, as writes of their registers. ABORT
marks the core's running task, KNOCK sets its bits, EN = 0 raises DISABLED for every running task, ends the queued records with
DISABLED (where they hold no engine, as launched ones do) and drains the buffers, EN = 1 lets records in again, RESET ends
everything in the cluster and clears its slate. -/
def Obligations.ClusterCommandsAndRefusedStoresReachTheirCores : Prop :=
  (
  (∀ (s : State) (c : Nat) (cores : BitVec 8) (addr : PA) (reason : BitVec 8), c < nClusters →
    (∀ e ∈ (s.cluster c).gather, e.line = addr.toNat / 64 → e.drain = none ∨ e.cores ≠ cores) →
    (∀ j, (s.core j).st ≠ .wfd) → (∀ j, (s.core j).ending = none) →
    ∃ t, exec (.storeErr c cores addr reason) s = .next t ∧
      (∀ j < 8, t.core (8 * c + j) = if cores.getLsbD j = true ∧ (s.core (8 * c + j)).st ≠ .idle then
          { s.core (8 * c + j) with evStore := (s.core (8 * c + j)).evStore ++
            [⟨reason.toNat, BitVec.ofNat 52 (addr.toNat / 64 * 64)⟩] }
        else s.core (8 * c + j)) ∧
      (∀ j, j / 8 ≠ c → t.core j = s.core j) ∧ t.bit (scrReg c 0x80) 2 = true ∧
      t = { s with cores := t.cores, reg := t.reg, evt := t.evt }) ∧
  ∀ (s : State) (c : Nat), c < nClusters → (s.cluster c).resetting = true →
    ∃ t, exec (.clusterResetComplete c) s = .next t ∧ (t.cluster c).resetting = false ∧
      t.bit (scrReg c 0) 1 = false ∧ (∀ o, o ≠ scrReg c 0 → t.rd o = s.rd o) ∧
      (∀ d, d ≠ c → t.cluster d = s.cluster d) ∧
      t = { s with clusters := t.clusters, reg := t.reg }) ∧
  (
  ∀ (s : State) (m : Master) (c : Nat), c < nClusters → (∀ k, (s.core k).st ≠ .wfd) →
    (∀ k, k / 8 = c → CwReach s m (scrReg c 0xC) → (s.core k).st = .running →
      ∃ t, exec (.abort m k) s = .next t ∧ t.bit (scrReg c 0xC) (k % 8) = true ∧
        t.core k = { s.core k with evAbort := true, doom := some ((s.core k).doom.getD .aborted) } ∧
        (∀ j, j ≠ k → t.core j = s.core j) ∧ (∀ x, x ≠ scrReg c 0xC → t.rd x = s.rd x) ∧
        t = { s with reg := t.reg, cores := t.cores }) ∧
    (∀ cores : BitVec 8, CwReach s m (scrReg c 8) →
      ∃ t, exec (.knock m c cores) s = .next t ∧
        (∀ j < 8, t.bit (scrReg c 8) j = (s.bit (scrReg c 8) j || cores.getLsbD j)) ∧
        (∀ x, x ≠ scrReg c 8 → t.rd x = s.rd x) ∧ t = { s with reg := t.reg }) ∧
    (CwReach s m (scrReg c 0) → s.bit (scrReg c 0) 1 = false →
      (s.bit (scrReg c 0) 0 = true →
        (∀ r ∈ (s.cluster c).tasks, ∀ d, descOf s r.inkwell r.index.toNat = some d → d.engine = none) →
        ∃ t, exec (.clusterDisable m c) s = .next t ∧ (t.cluster c).tasks = [] ∧
          (∀ n slot d, descOf s n slot = some d → descOf t n slot =
            if ∃ r ∈ (s.cluster c).tasks, r.inkwell = n ∧ r.index.toNat = slot then
              some { d with phase := .ended .disabled 0, engine := none }
            else some d) ∧ t.bit (scrReg c 0) 0 = false ∧ (t.cluster c).disabling = true ∧
          (∀ k, k / 8 = c → t.core k = if (s.core k).st = .idle then { s.core k with sb := (t.core k).sb }
            else { s.core k with
              evDisabled := true, doom := some ((s.core k).doom.getD .disabled), sb := (t.core k).sb }) ∧
          (∀ k, k / 8 ≠ c → t.core k = s.core k) ∧ (∀ j, j ≠ c → t.cluster j = s.cluster j) ∧
          ((s.cluster c).gather = [] → (∀ k, k / 8 = c → (s.core k).sb = []) →
            (∀ k, k / 8 = c → (t.core k).sb = []) ∧ t.cluster c = { s.cluster c with tasks := [], disabling := true } ∧
            t = { s with reg := t.reg, cores := t.cores, clusters := t.clusters, inks := t.inks })) ∧
      (∃ t, exec (.clusterEnable m c) s = .next t ∧ t.bit (scrReg c 0) 0 = true ∧
        (∀ x, x ≠ scrReg c 0 → t.rd x = s.rd x) ∧ (∀ j, j ≠ c → t.cluster j = s.cluster j) ∧
        t.cluster c = { s.cluster c with disabling := false } ∧ t = { s with reg := t.reg, clusters := t.clusters }) ∧
      ((s.cluster c).resetting = false →
        ∃ t, exec (.clusterReset m c) s = .next t ∧ t.bit (scrReg c 0) 1 = true ∧ (t.cluster c).resetting = true ∧
          (t.cluster c).slate = [] ∧ (t.cluster c).gather = [] ∧ (t.cluster c).tasks = [] ∧
          (∀ k, k / 8 = c → (t.core k).st = .idle ∧ (t.core k).sb = [] ∧ (t.core k).dnib = [] ∧ (t.core k).resv = none) ∧
          (∀ k, k / 8 ≠ c → t.core k = s.core k) ∧ (∀ j, j ≠ c → t.cluster j = s.cluster j) ∧ t.hbm = s.hbm)))

/-! ## The control window -/

/-- R22, R51, R55, R58, R59: a write that passes the checks acts on each field by its type, one of 8 bytes on both registers of
its pair. RW takes the value, RO ignores it, W1C clears where a 1 is written, MW takes the bits its upper half selects; W1L takes
its first write, which locks it, and a write to a locked register changes nothing but the violation log. No other register
changes. R52, R55, R67: what is refused changes no register but the log of its block. An access of another size or alignment is
logged as malformed, a write of guarded fields by a master without privilege as a guard refusal; a place with no block reads zero
and takes nothing. -/
def Obligations.RegisterWritesFollowFieldTypesAndGuards : Prop :=
  (
  ∀ (s : State) (m : Master) (o : BitVec 26) (off : Nat) (v : DWord), CwReach s m off → o.toNat = usedOff s m off →
    ((∃ n < 16, off = dirReg (0x1004 + 0x10 * n)) ∨ (∃ n < 128, off = evtReg (0x100 + 4 * n)) ∨
        (∃ k < 4, ∃ n < 13, off = hbmReg k (0x100 + 4 * n)) ∨ (∃ d < 64, off = domReg d 8) →
      ∃ t, exec (.registerWrite m o 4 v) s = .next t ∧
        (∀ f ∈ regFields off, t.fld off f.lo f.width = v.toNat / 2 ^ f.lo % 2 ^ f.width) ∧
        (∀ x, x ≠ off → t.rd x = s.rd x) ∧ t = { s with reg := t.reg }) ∧
    (off = evtReg 0x18 → passes m off = true → passes m (off + 4) = true →
      ∃ t, exec (.registerWrite m o 8 v) s = .next t ∧ t.rd off = v.setWidth 32 ∧ t.rd (off + 4) = (v >>> 32).setWidth 32 ∧
        (∀ x, x ≠ off → x ≠ off + 4 → t.rd x = s.rd x) ∧ t = { s with reg := t.reg }) ∧
    (∀ p, p < nPorts → off = portReg p 8 →
      ∃ t, exec (.registerWrite m o 4 v) s = .next t ∧ (∀ f ∈ regFields off, t.fld off f.lo f.width = s.fld off f.lo f.width) ∧
        (∀ x, x ≠ off → t.rd x = s.rd x) ∧ t = { s with reg := t.reg }) ∧
    (∀ p, p < nPorts → off = portReg p 0xC →
      ∃ t, exec (.registerWrite m o 4 v) s = .next t ∧ (∀ i < 8, t.bit off i = (s.bit off i && !v.getLsbD i)) ∧
        (∀ x, x ≠ off → t.rd x = s.rd x) ∧ t = { s with reg := t.reg }) ∧
    (∀ p, p < nPorts → off = portReg p 0x10 →
      ∃ t, exec (.registerWrite m o 4 v) s = .next t ∧
        (∀ i < 8, t.bit off i = if v.getLsbD (16 + i) then v.getLsbD i else s.bit off i) ∧
        (∀ x, x ≠ off → t.rd x = s.rd x) ∧ t = { s with reg := t.reg }) ∧
    (off = pwrReg 4 → locked s off = false →
      ∃ t, exec (.registerWrite m o 4 v) s = .next t ∧ t.fld off 0 11 = v.toNat % 2 ^ 11 ∧ locked t off = true ∧
        (∀ x, x ≠ off → t.rd x = s.rd x) ∧ t = { s with reg := t.reg }) ∧
    (off = pwrReg 4 → locked s off = true →
      ∃ t, exec (.registerWrite m o 4 v) s = .next t ∧ t.bit (pwrReg 0xFFF8) 0 = true ∧
        t.fld (pwrReg 0xFFFC) 0 30 = 4 + masterBits m + 2 ^ 28 ∧ t.fld (pwrReg 0xFFFC) 30 2 = s.fld (pwrReg 0xFFFC) 30 2 ∧
        locked t off = true ∧
        (∀ x, x ≠ pwrReg 0xFFF8 → x ≠ pwrReg 0xFFFC → t.rd x = s.rd x) ∧ t = { s with reg := t.reg, evt := t.evt, acc := t.acc })) ∧
  (
  ∀ (s : State) (m : Master) (o : BitVec 26) (n : Nat) (v : DWord), s.boot.inReset = false → Agree s →
    (∀ off, cwPlace s m o.toNat = some off → cwServed s (blockAt off) = true → s.domLit (blockAt off).domain = true →
      (∀ h ∈ s.reg.held, ¬ (h.block = blockAt off ∧ h.master = masterKey m)) → s.reg.stalled = [] →
      inWindow0 off = false → inWindow1 off = false →
      (wellFormedAccess off n = false →
        ∃ t, exec (.registerWrite m o n v) s = .next t ∧ t.bit (blockAt off).statusOff 2 = true ∧
          t.fld (blockAt off).violOff 0 30 = violOffset off + masterBits m + 3 * 2 ^ 28 ∧
          t.fld (blockAt off).violOff 30 2 = s.fld (blockAt off).violOff 30 2 ∧
          (∀ x, x ≠ (blockAt off).statusOff → x ≠ (blockAt off).violOff → t.rd x = s.rd x) ∧
          t = { s with reg := t.reg, acc := t.acc }) ∧
      (∀ d, d < 16 → off = dirReg (0x1004 + 0x10 * d) → passes m off = false →
        ∃ t, exec (.registerWrite m o 4 v) s = .next t ∧ t.bit (dirReg 0xFFF8) 3 = true ∧
          t.fld (dirReg 0xFFFC) 0 30 = 0x1004 + 0x10 * d + masterBits m + 2 * 2 ^ 28 ∧
          t.fld (dirReg 0xFFFC) 30 2 = s.fld (dirReg 0xFFFC) 30 2 ∧
          (∀ x, x ≠ dirReg 0xFFF8 → x ≠ dirReg 0xFFFC → t.rd x = s.rd x) ∧ t = { s with reg := t.reg, acc := t.acc })) ∧
    (cwPlace s m o.toNat = none →
      exec (.registerWrite m o n v) s = .next s ∧ exec (.lowWordRead m o) s = .next { s with cwData := 0 }))

/-- R73, R75, R88: a 64-bit pair. Reading the low word of the timebase takes a shadow of its high word, which the same master then
reads whatever the timebase has become; a write of the low word of EVT_WAKE_EN is held and takes effect with the write of the high
word. R69–R72: one strike on one copy of one triple-voted register or lock, or of the fuse shadow, where all copies agreed, is
voted away by the sweep: every register, lock and fuse reads as before, but VOTE_FIX of the block is set (of BOOT for the fuses,
log entry 82). -/
def Obligations.PairsAndVotedRegistersStayWhole : Prop :=
  (
  ∀ (s : State) (m : Master) (o o' : BitVec 26),
    (CwReach s m 0x20 → cwPlace s m (usedOff s m 0x24) = some 0x24 → o.toNat = usedOff s m 0x20 →
      o'.toNat = usedOff s m 0x24 →
      ∃ t, exec (.lowWordRead m o) s = .next t ∧ t.cwData = s.tb.count &&& 0xFFFFFFFF ∧
        (∀ x, t.rd x = s.rd x) ∧ t = { s with cwData := t.cwData, reg := t.reg } ∧
        ∀ tb, ∃ u, exec (.lowWordRead m o') { t with tb := tb } = .next u ∧ u.cwData = s.tb.count >>> 32) ∧
    (∀ v w : Word, CwReach s m (evtReg 0x18) → cwPlace s m (usedOff s m (evtReg 0x1C)) = some (evtReg 0x1C) →
      o.toNat = usedOff s m (evtReg 0x18) → o'.toNat = usedOff s m (evtReg 0x1C) →
      ∃ t, exec (.lowWordWrite m o v) s = .next t ∧ (∀ x, t.rd x = s.rd x) ∧ t = { s with reg := t.reg } ∧
        ∃ u, exec (.lowWordWrite m o' w) t = .next u ∧ u.rd (evtReg 0x18) = v ∧ u.rd (evtReg 0x1C) = w ∧
          (∀ x, x ≠ evtReg 0x18 → x ≠ evtReg 0x1C → u.rd x = s.rd x) ∧ u = { s with reg := u.reg })) ∧
  (
  ∀ (s : State) (off copy : Nat) (bits : Word), off < 2 ^ 26 → copy < 3 → Agree s →
    (regTV off = true → bits &&& tvMask off ≠ 0 →
      ∃ t, exec (.tvVoteSweep [.voted off copy bits]) s = .next t ∧ t.bit (blockAt off).statusOff 1 = true ∧
        (∀ x, x ≠ (blockAt off).statusOff → t.rd x = s.rd x) ∧ (∀ x, locked t x = locked s x) ∧ Agree t ∧
        t = { s with reg := t.reg, evt := t.evt, acc := t.acc }) ∧
    ((regFields off).any (fun f => f.ty == .w1l) = true → bits.getLsbD 0 = true →
      ∃ t, exec (.tvVoteSweep [.voted (2 ^ 26 + off) copy bits]) s = .next t ∧ t.bit (blockAt off).statusOff 1 = true ∧
        (∀ x, x ≠ (blockAt off).statusOff → t.rd x = s.rd x) ∧ (∀ x, locked t x = locked s x) ∧ Agree t ∧
        t = { s with reg := t.reg, evt := t.evt, acc := t.acc }) ∧
    (s.boot.shadow.hit off bits ≠ s.boot.shadow →
      ∃ t, exec (.tvVoteSweep [.fuse off copy bits]) s = .next t ∧ t.bit (blockAt (bootReg 0)).statusOff 1 = true ∧
        (∀ x, x ≠ (blockAt (bootReg 0)).statusOff → t.rd x = s.rd x) ∧ (∀ x, locked t x = locked s x) ∧ Agree t ∧
        t = { s with reg := t.reg, evt := t.evt, acc := t.acc }))

/-- R79–R83: a window of INDIRECT. IND_DATA reads and writes the far register that TARGET and OFFSET name and steps OFFSET by 4
where AUTO_INC is 1: here the fuse shadow and the way quench register of a slice; a reserved target reads zero and sets
BAD_TARGET. Reading IND_CLAIM1 gives the free claim to its reader and none that is held, and its holder's 0 releases it. -/
def Obligations.IndirectWindowReachesFarRegisters : Prop :=
  ∀ (s : State) (m : Master) (w : Bool), s.reg.stalled = [] → (s.reg.claim = .none ∨ holdsClaim s m = true) →
    (CwReach s m (windowReg w + 4) →
      (s.fld (windowReg w) 24 7 = 0x20 → s.domLit 1 = true →
        ∃ t, exec (.indDataRead m w) s = .next t ∧
          t.cwData = BitVec.ofNat 64 (fuseRead s.boot.shadow (s.fld (windowReg w) 0 24 / 4 * 4) % 2 ^ 32) ∧
          t.fld (windowReg w) 0 24 = (s.fld (windowReg w) 0 24 + if s.bit (windowReg w) 31 then 4 else 0) % 2 ^ 24 ∧
          t.fld (windowReg w) 24 8 = s.fld (windowReg w) 24 8 ∧ (∀ x, x ≠ windowReg w → t.rd x = s.rd x) ∧
          t = { s with cwData := t.cwData, reg := t.reg }) ∧
      (∀ (i : Nat) (v : Word), i < nSlices → s.fld (windowReg w) 24 7 = 0x30 + i → s.fld (windowReg w) 0 24 < 4 →
        s.slicePresent i = true → 5 < s.boot.step → s.domLit (20 + i) = true →
        ∃ t, exec (.indDataWrite m w v) s = .next t ∧
          wayqRead t i = (v &&& 0xFFFF) ||| ((s.slice i).retired.setWidth 32) ||| ((s.slice i).retiring.setWidth 32) ∧
          t.fld (windowReg w) 0 24 = s.fld (windowReg w) 0 24 + (if s.bit (windowReg w) 31 then 4 else 0) ∧
          (∀ x, x ≠ windowReg w → t.rd x = s.rd x) ∧ (∀ j, j ≠ i → t.slice j = s.slice j) ∧
          t = { s with reg := t.reg, slices := t.slices }) ∧
      (s.fld (windowReg w) 24 7 = 0x21 →
        ∃ t, exec (.indDataRead m w) s = .next t ∧ t.cwData = 0 ∧ t.bit (windowReg w + 8) 0 = true ∧
          t = { s with cwData := 0, reg := t.reg })) ∧
    (CwReach s m (indReg 0x1C) →
      (∀ (a : AgentId) (p : Bool), m = .agent a p → s.reg.claim = .none →
        ∃ t, exec (.indClaimRead m) s = .next t ∧ t.reg.claim = .agent a ∧
          t.cwData &&& 0x0FFF0001 = BitVec.ofNat 64 (1 + 2 ^ 16 * a.toNat + 2 ^ 27) ∧ (∀ x, t.rd x = s.rd x) ∧
          t = { s with cwData := t.cwData, reg := t.reg } ∧
          ∀ (b : AgentId), b ≠ a → CwReach t (.agent b p) (indReg 0x1C) →
            ∃ u, exec (.indClaimRead (.agent b p)) t = .next u ∧ u.reg.claim = .agent a ∧
              u.cwData &&& 0x0FFF0001 = BitVec.ofNat 64 (2 ^ 16 * a.toNat + 2 ^ 27)) ∧
      (holdsClaim s m = true →
        ∃ t, exec (.indClaimRelease m) s = .next t ∧ t.reg.claim = .none ∧
          (∀ x, x ≠ indReg 0x1C → t.rd x = s.rd x) ∧ t = { s with reg := t.reg }))

/-- R84, R85: the management port sends its identity and takes a dynamic address; with one it sets its pointer, writes 4 or 8
bytes where the pointer says, and supplies the bytes of a private read, least significant first. That the identity of 48 bits goes
most significant byte first is PRESUMED (log entry 55). -/
def Obligations.ManagementPortReachesTheWindow : Prop :=
  (∀ (s : State) (da : BitVec 7), mgmtLive s = true → s.mgmt.addr = none →
    exec (.mgmtEntdaa da) s = .next { s with mgmt := { s.mgmt with addr := some da, readBytes := entdaaBytes s } } ∧
      ofBytesLE ((entdaaBytes s).take 6).reverse =
        0x1B5D * 2 ^ 33 + s.boot.shadow.devId.toNat * 2 ^ 16 + s.boot.shadow.serial.toNat % 2 ^ 16) ∧
  ∀ (s : State), mgmtReady s = true →
    (∀ (ptr : Word) (b : List Byte), b.length = 4 → ofBytesLE b = ptr.toNat →
      exec (.mgmtSetPointer b) s = .next { s with mgmt := { s.mgmt with ptr := ptr } }) ∧
    (∀ (ptr v : Word) (d : Nat), d < 16 → CwReach s .mgmt (dirReg (0x1004 + 0x10 * d)) →
      ptr.toNat % 2 ^ 31 = usedOff s .mgmt (dirReg (0x1004 + 0x10 * d)) →
      ∃ t, exec (.mgmtWrite4 ptr v) s = .next t ∧ t.fld (dirReg (0x1004 + 0x10 * d)) 0 14 = v.toNat % 2 ^ 14 ∧
        t.fld (dirReg (0x1004 + 0x10 * d)) 16 5 = v.toNat / 2 ^ 16 % 2 ^ 5 ∧
        (∀ x, x ≠ dirReg (0x1004 + 0x10 * d) → t.rd x = s.rd x) ∧ t.mgmt = { s.mgmt with ptr := ptr } ∧
        t = { s with reg := t.reg, mgmt := t.mgmt }) ∧
    (∀ (ptr : Word) (v : DWord) (d : Nat), d < 16 → CwReach s .mgmt (dirReg (0x1000 + 0x10 * d)) →
      ptr.toNat % 2 ^ 31 = usedOff s .mgmt (dirReg (0x1000 + 0x10 * d)) →
      ∃ t, exec (.mgmtWrite8 ptr v) s = .next t ∧ t.bit (dirReg (0x1000 + 0x10 * d)) 0 = v.getLsbD 0 ∧
        t.fld (dirReg (0x1000 + 0x10 * d)) 4 4 = v.toNat / 2 ^ 4 % 2 ^ 4 ∧
        t.fld (dirReg (0x1004 + 0x10 * d)) 0 14 = v.toNat / 2 ^ 32 % 2 ^ 14 ∧
        t.fld (dirReg (0x1004 + 0x10 * d)) 16 5 = v.toNat / 2 ^ 48 % 2 ^ 5 ∧
        (∀ x, x ≠ dirReg (0x1000 + 0x10 * d) → x ≠ dirReg (0x1004 + 0x10 * d) → t.rd x = s.rd x) ∧
        t.mgmt = { s.mgmt with ptr := ptr } ∧ t = { s with reg := t.reg, mgmt := t.mgmt }) ∧
    (CwReach s .mgmt 0x10 → s.mgmt.ptr.toNat % 2 ^ 31 = usedOff s .mgmt 0x10 → s.rd 0x10 = 0 → s.rd 0x14 = 0 →
      ∃ t, exec (.mgmtPrivateRead 8) s = .next t ∧
        t.mgmt.readBytes = (if s.mgmt.ptr.getLsbD 31 then bytesLE 8 s.boot.shadow.serial.toNat
          else bytesLE 4 (s.boot.shadow.serial.toNat % 2 ^ 32)) ∧
        (∀ x, t.rd x = s.rd x) ∧ t = { s with cwData := t.cwData, reg := t.reg, mgmt := t.mgmt })

/-! ## Ports and links -/

/-- R119, R121, R134: the steps of link training. With no lane failing, each command of the table takes a port that is in the
state before to the state after with what it has found out; the partner's buffers become the credits, one for each 4 bytes, the
sequence numbers start again (their first values are DEDUCED, log entry 34, and that a partner that declares x4 takes this side to
x4 is log entry 73); a port in DOWN tries again only where its signal detect is powered (R460, R473); nothing but the port
changes. R105, R121, R137: a training state that passes its limit sets TRAIN_FAIL, records its cause (1 EQ_TIMEOUT, 2
LOCK_TIMEOUT, 8 PARAM_TIMEOUT) and leaves the port in DOWN, as does (3, FEC_MARGIN) an equalisation for lean FEC in which a lane
showed more than 2 errors; its lanes show no signal and no lock any more (the model's choice, log entry 74); no other port and no
memory changes. -/
def Obligations.TrainingEndsInActiveOrDown : Prop :=
  (
  ∀ (s : State) (p : Nat), p < nPorts →
    ((s.port p).st = .detect → s.portEn p = true → sigDetectOn s p = true →
      ∃ t, exec (.electricalIdleExit p) s = .next t ∧ OnlyPort s t p ∧
        t.port p = { s.port p with st := .equalize, sigDet := awaitedLanes s p } ∧
        (s.fld (portReg p 0x10) 0 8 = 0 → awaitedLanes s p = if s.bit (portReg p 0) 9 then 0x0F else 0xFF)) ∧
    (∀ r : EqResult, (s.port p).st = .equalize → r.failed = 0 → (s.bit (portReg p 0) 2 = true ∨ ∀ n ∈ r.errors, n ≤ 2) →
      ∃ t, exec (.equalizeComplete p r) s = .next t ∧ OnlyPort s t p ∧
        t.port p = { s.port p with st := .lock, lanes := r.lanes }) ∧
    (∀ r : LockResult, (s.port p).st = .lock → r.failed = 0 →
      ∃ t, exec (.lockComplete p r) s = .next t ∧ OnlyPort s t p ∧
        t.port p = { s.port p with st := .param, reversed := r.reversed, polarity := r.inverted, locked := (s.port p).sigDet }) ∧
    (∀ q : PartnerParam, (s.port p).st = .param → sweepPending s p = false → paramCause s p q = none →
      ∃ t, exec (.paramComplete p q) s = .next t ∧ OnlyPort s t p ∧ (t.port p).st = .active ∧
        (t.port p).txCred = q.bufs.map (· / 4) ∧ (t.port p).txInit = q.bufs.map (· / 4) ∧ (t.port p).txSeq = 0 ∧
        (s.fld (portReg p 0x10) 0 8 = 0 → q.bad = 0 → (t.port p).x4 = (s.bit (portReg p 0) 9 || q.x4)) ∧
        (t.port p).rxLast = 511 ∧ (t.port p).reached = true ∧ (t.port p).replay = [] ∧ (t.port p).egress = [] ∧ (t.port p).rxq = []) ∧
    ((s.port p).st = .down →
      (s.portEn p = true → s.boot.fatal = false → sigDetectOn s p = true →
        ∃ t, exec (.downWaitExpire p) s = .next t ∧ OnlyPort s t p ∧ t.port p = { s.port p with st := .detect }) ∧
      ((s.dom (4 + p)).st = .cold ∨ s.boot.step < 7 → exec (.downWaitExpire p) s = .next s)) ∧
    ((s.port p).st = .quiesce → s.portEn p = false →
      ∃ t, exec (.portQuiesced p) s = .next t ∧ OnlyPort s t p ∧
        t.port p = { s.port p with st := .disabled, quiesced := true })) ∧
  (
  ∀ (s : State) (p : Nat), p < nPorts →
    (∀ e ∈ ([(.equalize, 1), (.lock, 2), (.param, 8)] : List (PortSt × Nat)), (s.port p).st = e.1 →
      ∃ t, exec (.trainingTimeout p 0) s = .next t ∧
        (t.port p) = { s.port p with st := .down, lastFail := e.2, locked := 0, sigDet := 0, rx := RxStream.fresh } ∧
        t.bit (portReg p 0xC) 6 = true ∧ (∀ q, q ≠ p → t.port q = s.port q) ∧
        t = { s with ports := t.ports, reg := t.reg, evt := t.evt, acc := t.acc }) ∧
    ∀ r : EqResult, (s.port p).st = .equalize → r.failed = 0 → s.bit (portReg p 0) 2 = false → (∃ n ∈ r.errors, 2 < n) →
      ∃ t, exec (.equalizeComplete p r) s = .next t ∧
        (t.port p) = { s.port p with st := .down, lastFail := 3, locked := 0, sigDet := 0, rx := RxStream.fresh } ∧
        t.bit (portReg p 0xC) 6 = true ∧ (∀ q, q ≠ p → t.port q = s.port q) ∧
        t = { s with ports := t.ports, reg := t.reg, evt := t.evt, acc := t.acc })

/-- R107, R110, R112: a port in ACTIVE takes a payload flit whose CRC is good and whose sequence number is the one expected: its
message joins the receive buffer with PRIV and HOP as the port passes them, and the number counts as received. A flit that RS
decoding gives up, reported so (log entry 4) or in a codeword as it arrives, is discarded and a NAK is owed. R107, R111, R114: an
ACTIVE port with one message that its credits admit sends it in a payload flit under the next sequence number, keeps the flit for
replay and spends the credits. -/
def Obligations.FlitsCrossAPortInSequence : Prop :=
  (
  (∀ (s : State) (p : Nat) (bytes : List Byte) (rs : RsOutcome) (h : Word) (area : List Word) (m : Msg), p < nPorts →
    (s.port p).st = .active → s.boot.fatal = false → s.bit (portReg p 0) 2 = true → rs.bad = false →
    bytes.length = (if s.isCxPort p then 128 else 256) →
    crc64 (bytes.take (bytes.length - 8)) = ofBytesLE (bytes.drop (bytes.length - 8)) →
    wordsOfBytes (bytes.take (bytes.length - 8)) = h :: area → wfld h 0 2 = kindPayload →
    BitVec.ofNat 9 (wfld h 2 9) = (s.port p).rxLast + 1 → wfld h 20 3 = 7 → parseArea area.length area = some [m] →
    msgLegal m (s.isFabric p) = true → s.isCxPort p = false → msgLen m ≤ rxFree s p m.vc → (s.port p).replay = [] →
    (s.port p).ackMsgs = [] →
    ∃ t, exec (.flitReceive p bytes rs) s = .next t ∧
      (t.port p).rxq = (s.port p).rxq ++ [{ m with
        priv := m.priv && (s.isFabric p || s.bit (portReg p 0) 8), hop := m.hop && s.isFabric p }] ∧
      (t.port p).rxLast = (s.port p).rxLast + 1 ∧ (t.port p).st = .active ∧ (t.port p).nakDue = (s.port p).nakDue ∧
      (t.port p).txCred = (s.port p).txCred ∧ (∀ q, q ≠ p → t.port q = s.port q) ∧
      t = { s with ports := t.ports, acc := t.acc }) ∧
  ∀ (s : State) (p : Nat) (bytes : List Byte) (rs : RsOutcome), p < nPorts → (s.port p).st = .active →
    s.bit (portReg p 0) 2 = true → (s.port p).discarding = false →
    (isCodeword s p bytes = false ∧ rs.bad = true) ∨
      (isCodeword s p bytes = true ∧ rsDecode (symbolsOf 544 (ofBytesLE bytes)) = none) →
    ∃ t, exec (.flitReceive p bytes rs) s = .next t ∧ (t.port p).nakDue = true ∧ (t.port p).rxq = (s.port p).rxq ∧
      (t.port p).rxLast = (s.port p).rxLast ∧ t.bit (portReg p 0xC) 0 = true ∧ (∀ q, q ≠ p → t.port q = s.port q) ∧
      t.hbm = s.hbm) ∧
  (
  ∀ (s : State) (p : Nat) (m : Msg), p < nPorts → (s.port p).st = .active → (s.port p).egress = [m] →
    (s.port p).nakDue = false → (s.port p).sinceIdle < 2047 → (s.port p).resend = 0 → (s.port p).replay.length < 128 →
    (s.port p).rxFreed = [0, 0, 0, 0, 0, 0] → s.isFabric p = false → m.opc ≠ opcAGENT_MSG → m.vc < 6 →
    msgLen m ≤ areaWords (s.isCxPort p) → msgLen m ≤ nth (s.port p).txCred m.vc → (s.port p).txCred.length = 6 →
    ∃ t, exec (.flitTransmit p) s = .next t ∧ (t.port p).egress = [] ∧ (t.port p).txSeq = (s.port p).txSeq + 1 ∧
      (∃ f, (t.port p).replay = (s.port p).replay ++ [f] ∧ f.seq = (s.port p).txSeq ∧ f.area = msgWords m ∧ f.replays = 0) ∧
      nth (t.port p).txCred m.vc = nth (s.port p).txCred m.vc - msgLen m ∧
      (∀ v, v ≠ m.vc → nth (t.port p).txCred v = nth (s.port p).txCred v) ∧
      (t.port p).rxq = (s.port p).rxq ∧ (∀ q, q ≠ p → t.port q = s.port q) ∧ (isRsp m = false → t.tel = s.tel) ∧
      t = { s with ports := t.ports, acc := t.acc, tel := { s.tel with blot := t.tel.blot } })

/-- R113: a NAK, or a replay timeout, makes an ACTIVE port send again everything that is not acknowledged, oldest first, as long
as its oldest flit has been replayed fewer times than REPLAY_LIMIT (0 acts as 1); else the port enters RECOVER. R122, R125, R130:
what takes an ACTIVE or idle port to RECOVER: a lane over its threshold or out of lock, which becomes bad; receive activity or a
queued message in LINK_IDLE; a relock from LINK_IDLE that takes too long makes its RECOVER re-equalise. R121–R123, R126: the end
of RECOVER. Where the parameters pass again the port is ACTIVE and sends everything unacknowledged again, its replays counted anew
(the model's choice, log entry 73); where RECOVER overruns its limit the link is down, cause 10 LINK_LOST, and the port holds
nothing. -/
def Obligations.LinkErrorsAreReplayedOrRecovered : Prop :=
  (
  ∀ (s : State) (p : Nat) (f : SentFlit) (l : List SentFlit) (lim : Nat), p < nPorts → (s.port p).st = .active →
    (s.port p).replay = f :: l →
    lim = (if s.fld (portReg p 0x14) 16 4 = 0 then 1 else s.fld (portReg p 0x14) 16 4) →
    (lim ≤ f.replays →
      (∀ ack, (∀ g ∈ (s.port p).replay, g.seq ≠ ack) → (s.port p).ackMsgs = [] →
        ∃ t, exec (.nakReceive p ack) s = .next t ∧ (t.port p).st = .recover ∧ (t.port p).reeq = false ∧
          (t.port p).replay = (s.port p).replay ∧ t.bit (portReg p 0xC) 2 = true ∧ (∀ q, q ≠ p → t.port q = s.port q) ∧
          t = { s with ports := t.ports, reg := t.reg, evt := t.evt, acc := t.acc }) ∧
      ∃ t, exec (.replayTimeout p) s = .next t ∧ (t.port p).st = .recover ∧ (t.port p).reeq = false ∧
        (t.port p).replay = (s.port p).replay ∧ t.bit (portReg p 0xC) 2 = true ∧ (∀ q, q ≠ p → t.port q = s.port q) ∧
        t = { s with ports := t.ports, reg := t.reg, evt := t.evt, acc := t.acc }) ∧
    (f.replays < lim →
    (∀ ack, (∀ g ∈ (s.port p).replay, g.seq ≠ ack) → (s.port p).ackMsgs = [] →
      ∃ t, exec (.nakReceive p ack) s = .next t ∧ (t.port p).replay = (s.port p).replay ∧
        (t.port p).resend = (s.port p).replay.length ∧ (t.port p).st = .active ∧ t.bit (portReg p 0xC) 1 = true ∧
        (∀ q, q ≠ p → t.port q = s.port q) ∧ t = { s with ports := t.ports, reg := t.reg, evt := t.evt }) ∧
    ∃ t, exec (.replayTimeout p) s = .next t ∧ (t.port p).replay = (s.port p).replay ∧
      (t.port p).resend = (s.port p).replay.length ∧ (t.port p).st = .active ∧ t.bit (portReg p 0xC) 1 = true ∧
      (∀ q, q ≠ p → t.port q = s.port q) ∧ t = { s with ports := t.ports, reg := t.reg, evt := t.evt })) ∧
  (
  ∀ (s : State) (p : Nat), p < nPorts →
    (∀ (lane : BitVec 3) (n : Nat), (s.port p).st = .active → s.fld (portReg p 0x14) 0 16 ≠ 0 →
      s.fld (portReg p 0x14) 0 16 < n → s.bit (portReg p 0x10) lane.toNat = false →
      ∃ t, exec (.laneErrorWindow p lane n) s = .next t ∧ (t.port p).st = .recover ∧ (t.port p).reeq = true ∧
        t.bit (portReg p 0x10) lane.toNat = true ∧ t.bit (portReg p 0xC) 2 = true ∧ t.bit (portReg p 0xC) 4 = true ∧
        (∀ q, q ≠ p → t.port q = s.port q) ∧ t = { s with ports := t.ports, reg := t.reg, evt := t.evt, acc := t.acc }) ∧
    (∀ lane : BitVec 3, (s.port p).st = .active → s.bit (portReg p 0x10) lane.toNat = false →
      ∃ t, exec (.laneLockLoss p lane) s = .next t ∧ (t.port p).st = .recover ∧ (t.port p).reeq = true ∧
        (t.port p).locked.getLsbD lane.toNat = false ∧ t.bit (portReg p 0x10) lane.toNat = true ∧
        (∀ q, q ≠ p → t.port q = s.port q) ∧ t = { s with ports := t.ports, reg := t.reg, evt := t.evt, acc := t.acc }) ∧
    (∀ rx : Bool, (s.port p).st = .linkIdle → (rx = true ∨ (s.port p).egress ≠ []) →
      ∃ t, exec (.linkIdleWake p rx) s = .next t ∧ (t.port p).st = .recover ∧ (t.port p).reeq = false ∧
        (t.port p).fromIdle = true ∧
        (t.port p).egress = (s.port p).egress ∧ (t.port p).replay = (s.port p).replay ∧
        (∀ q, q ≠ p → t.port q = s.port q) ∧
        t = { s with ports := t.ports, reg := t.reg, evt := t.evt, acc := t.acc, doms := t.doms }) ∧
    ((s.port p).st = .recover →
      ∃ t, exec (.relockTimeout p) s = .next t ∧ OnlyPort s t p ∧
        t.port p = { s.port p with reeq := (s.port p).reeq || (s.port p).fromIdle })) ∧
  (
  ∀ (s : State) (p : Nat), p < nPorts → (s.port p).st = .recover →
    (∀ (r : EqResult) (q : PartnerParam) (ack : BitVec 9), s.domLit (4 + p) = true → (s.port p).reeq = false →
      paramCause s p q = none → (s.port p).ackMsgs = [] → (∀ f ∈ (s.port p).replay, f.seq ≠ ack) →
      ∃ t, exec (.recoverComplete p r q ack) s = .next t ∧ (t.port p).st = .active ∧ (t.port p).retrain = false ∧
        (t.port p).resend = (s.port p).replay.length ∧
        (t.port p).replay = (s.port p).replay.map (fun f => { f with replays := 0 }) ∧
        (t.port p).egress = (s.port p).egress ∧ (t.port p).txSeq = (s.port p).txSeq ∧
        (∀ q, q ≠ p → t.port q = s.port q) ∧ t = { s with ports := t.ports }) ∧
    (NoneAwaited s → ∃ t, exec (.recoverOverrun p) s = .next t ∧ (t.port p).st = .down ∧ (t.port p).lastFail = 10 ∧
      (t.port p).egress = [] ∧ (t.port p).rxq = [] ∧ (t.port p).replay = [] ∧ t.bit (portReg p 0xC) 3 = true ∧
      t.hbm = s.hbm ∧ t.cores = s.cores))

/-- R126, R134, R136: the port commands, as writes of PORT_CTL that pass the checks of the register interface: EN = 1 starts
DETECT, EN = 0 quiesces and empties the port, RESET takes the link down in every state (with the cause that log entry 35 names),
RETRAIN takes an ACTIVE or idle port to RECOVER with re-equalisation. R128: LINK_IDLE is entered by the port that receives
IDLE_REQ while its own conditions hold, and by the port that receives IDLE_ACK; a request that is not answered lapses. -/
def Obligations.PortCommandsAndLinkIdleActOnTheirPort : Prop :=
  (
  ∀ (s : State) (m : Master) (p : Nat), p < nPorts → CwReach s m (portReg p 4) → s.boot.fatal = false →
    s.fld (portReg p 4) 1 2 = 0 →
    (s.portEn p = false → ((s.port p).st = .disabled ∨ (s.port p).st = .down) →
      ∃ t, exec (.portEnable m p) s = .next t ∧ t.portEn p = true ∧
        t.port p = { s.port p with st := .detect, quiesced := false } ∧ (∀ q, q ≠ p → t.port q = s.port q) ∧
        t = { s with ports := t.ports, reg := t.reg }) ∧
    ((s.port p).st ≠ .disabled → (s.port p).st ≠ .quiesce → NoneAwaited s →
      ∃ t, exec (.portDisable m p) s = .next t ∧ t.portEn p = false ∧ (t.port p).st = .quiesce ∧
        (t.port p).egress = [] ∧ (t.port p).rxq = [] ∧ (t.port p).replay = [] ∧ t.hbm = s.hbm) ∧
    (s.portEn p = true → NoneAwaited s →
      ∃ t, exec (.portReset m p) s = .next t ∧ (t.port p).st = .down ∧ (t.port p).lastFail = 10 ∧
        (t.port p).egress = [] ∧ (t.port p).replay = [] ∧ t.bit (portReg p 4) 2 = false ∧ t.bit (portReg p 0xC) 3 = true ∧
        t.hbm = s.hbm) ∧
    (s.portEn p = true → ((s.port p).st = .active ∨ (s.port p).st = .linkIdle) →
      ∃ t, exec (.portRetrain m p) s = .next t ∧ (t.port p).st = .recover ∧ (t.port p).reeq = true ∧
        (t.port p).retrain = true ∧ t.bit (portReg p 4) 1 = false ∧ (t.port p).egress = (s.port p).egress ∧
        (t.port p).replay = (s.port p).replay ∧ (∀ q, q ≠ p → t.port q = s.port q) ∧ t.hbm = s.hbm)) ∧
  (
  ∀ (s : State) (p : Nat), p < nPorts → (s.port p).st = .active →
    ((s.port p).idleReq = false → idleReady s p = true →
      ∃ t, exec (.idleReqReceive p) s = .next t ∧ (t.port p).st = .linkIdle ∧ (∀ q, q ≠ p → t.port q = s.port q) ∧
        t = { s with ports := t.ports, acc := t.acc }) ∧
    ((s.port p).idleReq = true →
      (∃ t, exec (.idleAckReceive p) s = .next t ∧ (t.port p).st = .linkIdle ∧ (t.port p).idleReq = false ∧
        (∀ q, q ≠ p → t.port q = s.port q) ∧ t = { s with ports := t.ports, acc := t.acc, doms := t.doms }) ∧
      ∃ t, exec (.idleReqTimeout p) s = .next t ∧ OnlyPort s t p ∧ t.port p = { s.port p with idleReq := false }))

/-- R94, R100: what an ACTIVE port sends under lean FEC is on its lanes as PAM4 levels, byte n of its stream on lane n mod W, the
bit pair [1:0] of a byte first, by the Gray code 00, 01, 11, 10; at x4 the half that is not active is silent. -/
def Obligations.FlitsGoToTheLanesAsLevels : Prop :=
  (∀ b : Byte, pamLevels 4 b.toNat = [0, 2, 4, 6].map fun i =>
    if b.getLsbD (i + 1) then (if b.getLsbD i then 2 else 3) else (if b.getLsbD i then 1 else 0)) ∧
  ∀ (s : State) (p w : Nat), p < nPorts → (s.port p).st = .active → (s.port p).sinceIdle < 2047 → (s.port p).resend = 0 →
    s.bit (portReg p 0) 2 = false → (s.port p).wire.since < 4095 → w = (if (s.port p).x4 then 4 else 8) →
    ∃ t, exec (.flitTransmit p) s = .next t ∧
      ∀ lane < 8, (t.port p).wire.lanes[lane]? = some (
        if lane / w = (if (s.port p).x4 && (s.port p).half then 1 else 0) then
          ((List.range (t.port p).lastTx.length).filter fun i => ((s.port p).wire.next + i) % w = lane % w).flatMap fun i =>
            pamLevels 4 ((t.port p).lastTx.getD i 0).toNat
        else [])

/-! ## Requests and the directory -/

/-- R184–R187, R206: a read of a host that hits the Hearth, of a line that no host holds. RD_SHARED is granted as lead or as
sharer and RD_OWN exclusively, with the line; the UPGRADE of the one holder needs none; each of these waits for its GACK. RD_UC is
answered with the addressed bytes and ends. -/
def Obligations.ReadsAreAnsweredFromTheHearth : Prop :=
  ∀ (s : State) (src : AgentId) (tag : Tag) (addr : PA) (p i line w off : Nat) (d : LineData), HostAt s src p →
    s.classify addr = .home off → off % 64 = 0 → line = off / 64 → CalmLine s i line →
    (HearthHit s i line w d → dirWay s i line = none → (∃ v < 16, (dirGet s i line v).valid = false) →
      (Arrives s (sameMsg opcRD_SHARED src tag addr) →
        ∃ t, exec (.rdShared src tag addr) s = .next t ∧
          Answered s t i p (s.mkRsp (if leadOk s (hostIdx src) then opcDATA_L else opcDATA_S) src tag (wordsLE 16 d.toNat)) ∧
          OneWay s t i (s.setOf line) w { s.hway i (s.setOf line) w with age := 0 } ∧
          (∃ e, dirEntry t i line = some e ∧ e.st = (if leadOk s (hostIdx src) then .L else .S) ∧ e.bcast = false ∧
            e.ptrs = [hostIdx src]) ∧
          (∃ x, (t.slice i).txns = (s.slice i).txns ++ [x] ∧ x.line = line ∧ x.req.src = src ∧ x.req.tag = tag ∧
            x.snps = [] ∧ x.stage = 2 ∧ x.gack = true) ∧
          t = { s with ports := t.ports, slices := t.slices, acc := t.acc, tel := t.tel }) ∧
      (Arrives s (sameMsg opcRD_OWN src tag addr) →
        ∃ t, exec (.rdOwn src tag addr) s = .next t ∧ Answered s t i p (s.mkRsp opcDATA_X src tag (wordsLE 16 d.toNat)) ∧
          OneWay s t i (s.setOf line) w { s.hway i (s.setOf line) w with age := 0 } ∧
          (∃ e, dirEntry t i line = some e ∧ e.st = .X ∧ e.ptrs = [hostIdx src]) ∧
          (∃ x, (t.slice i).txns = (s.slice i).txns ++ [x] ∧ x.line = line ∧ x.stage = 2 ∧ x.gack = true) ∧
          (∀ k, sget zeroD t.resv k ≠ line + 1) ∧
          t = { s with ports := t.ports, slices := t.slices, acc := t.acc, tel := t.tel, resv := t.resv })) ∧
    (∀ v e, dirWay s i line = some v → dirGet s i line v = e → e.st = .S → e.bcast = false → e.ptrs = [hostIdx src] →
      Arrives s (sameMsg opcUPGRADE src tag addr) →
      ∃ t, exec (.upgrade src tag addr) s = .next t ∧ Answered s t i p (s.mkRsp opcGRANT_X src tag []) ∧
        dirEntry t i line = some { e with st := .D } ∧
        (∃ x, (t.slice i).txns = (s.slice i).txns ++ [x] ∧ x.line = line ∧ x.stage = 2 ∧ x.gack = true) ∧
        (t.slice i).hearth = (s.slice i).hearth ∧ (∀ k, sget zeroD t.resv k ≠ line + 1) ∧
        t = { s with ports := t.ports, slices := t.slices, acc := t.acc, tel := t.tel, resv := t.resv }) ∧
    ∀ (at_ : PA) (size : BitVec 3) (priv : Bool) (b : Nat), HearthHit s i line w d → dirWay s i line = none →
      s.classify at_ = .home (off + b) → b < 64 → size ≠ 4 → size ≠ 5 → size ≠ 7 → at_.toNat % 2 ^ size.toNat = 0 →
      Arrives s (sameMsg opcRD_UC src tag at_) →
      ∃ t, exec (.rdUc src tag priv at_ size) s = .next t ∧ Answered s t i p (s.mkRsp opcDATA_UC src tag (if size = 6 then wordsLE 16 d.toNat
          else if size = 3 then wordsLE 2 (lineBytes d b 8) else [w32 (lineBytes d b (2 ^ size.toNat))])) ∧
        OneWay s t i (s.setOf line) w { s.hway i (s.setOf line) w with age := 0 } ∧ (t.slice i).txns = (s.slice i).txns ∧
        (∀ n, sget dentryD (t.slice i).dir n = sget dentryD (s.slice i).dir n) ∧
        t = { s with ports := t.ports, slices := t.slices, acc := t.acc, tel := t.tel }

/-- R146, R147, R155, R186, R211: a write of a host that hits a write-back line no host holds. The line has the new bytes and is
dirty, age 0, no core keeps a reservation on it, and the requester gets WR_DONE; an atomic answers with the value before. That a
CAS that does not match leaves the line dirty too is DEDUCED (log entry 18). -/
def Obligations.WritesReachTheHearth : Prop :=
  ∀ (s : State) (src : AgentId) (tag : Tag) (addr : PA) (p i line w off : Nat) (d : LineData), HostAt s src p →
    s.classify addr = .home off → line = off / 64 → CalmLine s i line → HearthHit s i line w d → dirWay s i line = none →
    effPolicy s i line = 0 →
    (∀ (n : LineData) (bad : Bool), off % 64 = 0 → Arrives s (sameMsg opcWR_LINE src tag addr) →
      ∃ t, exec (.wrLine src tag addr n bad) s = .next t ∧ Answered s t i p (s.mkRsp opcWR_DONE src tag []) ∧
        OneWay s t i (s.setOf line) w { s.hway i (s.setOf line) w with data := n, dirty := true, age := 0, poison := bad } ∧
        (t.slice i).txns = (s.slice i).txns ∧ (∀ k, sget zeroD t.resv k ≠ line + 1) ∧
        t = { s with ports := t.ports, slices := t.slices, acc := t.acc, tel := t.tel, resv := t.resv }) ∧
    (∀ (mask : BitVec 64) (n : LineData) (priv : Bool), off % 64 = 0 → Arrives s (sameMsg opcWR_PART src tag addr) →
      ∃ t, exec (.wrPart src tag priv addr mask n false) s = .next t ∧ Answered s t i p (s.mkRsp opcWR_DONE src tag []) ∧
        (∃ v, OneWay s t i (s.setOf line) w { s.hway i (s.setOf line) w with data := v, dirty := true, age := 0 } ∧
          ∀ b < 64, lineByte v b = if mask.getLsbD b then lineByte n b else lineByte d b) ∧
        (t.slice i).txns = (s.slice i).txns ∧ (∀ k, sget zeroD t.resv k ≠ line + 1) ∧
        t = { s with ports := t.ports, slices := t.slices, acc := t.acc, tel := t.tel, resv := t.resv }) ∧
    (off % 64 = 0 → Arrives s (sameMsg opcZERO_LINE src tag addr) →
      ∃ t, exec (.zeroLine src tag addr) s = .next t ∧ Answered s t i p (s.mkRsp opcWR_DONE src tag []) ∧
        OneWay s t i (s.setOf line) w { s.hway i (s.setOf line) w with data := 0, dirty := true, age := 0 } ∧
        (t.slice i).txns = (s.slice i).txns ∧ (∀ k, sget zeroD t.resv k ≠ line + 1) ∧
        t = { s with ports := t.ports, slices := t.slices, acc := t.acc, tel := t.tel, resv := t.resv }) ∧
    ∀ (param : BitVec 8) (n : Nat) (x y : DWord), n = (if param.getLsbD 3 then 8 else 4) → addr.toNat % n = 0 →
      Arrives s (sameMsg opcAMO src tag addr) →
      ∃ t, exec (.amo src tag addr param x y false) s = .next t ∧
        Answered s t i p (s.mkRsp opcAMO_DATA src tag (wordsLE 2 (lineBytes d (off % 64) n))) ∧
        (∃ v, OneWay s t i (s.setOf line) w { s.hway i (s.setOf line) w with data := v, dirty := true, age := 0 } ∧
          lineBytes v (off % 64) n = amoValue (param.toNat % 8) (8 * n) (lineBytes d (off % 64) n) (x.toNat % 2 ^ (8 * n))
            (y.toNat % 2 ^ (8 * n)) ∧
          ∀ b < 64, b < off % 64 ∨ off % 64 + n ≤ b → lineByte v b = lineByte d b) ∧
        (t.slice i).txns = (s.slice i).txns ∧ (∀ k, sget zeroD t.resv k ≠ line + 1) ∧
        t = { s with ports := t.ports, slices := t.slices, acc := t.acc, tel := t.tel, resv := t.resv }

/-- R227–R231: maintenance of a dirty Hearth line that no host holds. CLEAN leaves it clean and sends it to HBM, CLEAN_INV sends
it and drops it, a privileged INV drops it alone; CMP follows. CLEAN_ALL starts a sweep on every slice that is not Cold. A hint
for a line nowhere near is completed and leaves a pending kindling fill. -/
def Obligations.MaintenanceActsOnTheLine : Prop :=
  ∀ (s : State) (src : AgentId) (tag : Tag) (addr : PA) (p i line off pc : Nat), HostAt s src p →
    s.classify addr = .home off → off % 64 = 0 → line = off / 64 → CalmLine s i line → dirWay s i line = none →
    pc = (hbmLoc s.ten line).pc → s.domLit (pcDomain pc) = true → (∀ h, halfOf (pcDomain pc) = some h → s.domLit h = true) →
    (∀ e ∈ (s.pc pc).wrq, e.line ≠ line) → flueCount (s.pc pc) < 32 →
    (∀ (w : Nat) (d : LineData), HearthHit s i line w d → (s.hway i (s.setOf line) w).dirty = true →
      (Arrives s (fun m => sameMsg opcMAINT src tag addr m && m.param.toNat % 4 == 0) →
        ∃ t, exec (.maintClean src tag addr) s = .next t ∧ Answered s t i p (s.mkRsp opcCMP src tag []) ∧
          OneWay s t i (s.setOf line) w { s.hway i (s.setOf line) w with dirty := false } ∧
          (t.pc pc).wrq = (s.pc pc).wrq ++ [⟨line, d, false, 0, true, (s.pc pc).seq, (s.pc pc).now, 0, 0⟩] ∧
          (∀ q, q ≠ pc → t.pc q = s.pc q) ∧ (t.slice i).txns = (s.slice i).txns ∧
          t = { s with ports := t.ports, slices := t.slices, acc := t.acc, tel := t.tel, pcs := t.pcs }) ∧
      (Arrives s (fun m => sameMsg opcMAINT src tag addr m && m.param.toNat % 4 == 2) →
        ∃ t, exec (.maintCleanInv src tag addr) s = .next t ∧ Answered s t i p (s.mkRsp opcCMP src tag []) ∧
          OneWay s t i (s.setOf line) w (hlineD 0) ∧
          (t.pc pc).wrq = (s.pc pc).wrq ++ [⟨line, d, false, 0, true, (s.pc pc).seq, (s.pc pc).now, 0, 0⟩] ∧
          (∀ q, q ≠ pc → t.pc q = s.pc q) ∧ (t.slice i).txns = (s.slice i).txns ∧
          t = { s with ports := t.ports, slices := t.slices, acc := t.acc, tel := t.tel, pcs := t.pcs }) ∧
      (Arrives s (fun m => sameMsg opcMAINT src tag addr m && m.param.toNat % 4 == 1) → s.bit (portReg p 0) 8 = true →
        ∃ t, exec (.maintInv src tag true addr) s = .next t ∧ Answered s t i p (s.mkRsp opcCMP src tag []) ∧
          OneWay s t i (s.setOf line) w (hlineD 0) ∧ (t.slice i).txns = (s.slice i).txns ∧
          t = { s with ports := t.ports, slices := t.slices, acc := t.acc, tel := t.tel })) ∧
    (Arrives s (fun m => sameMsg opcMAINT src tag addr m && m.param.toNat % 4 == 3) →
      ∃ t x, exec (.maintCleanAll src tag addr) s = .next t ∧ t.cleanAlls = s.cleanAlls ++ [x] ∧ x.id = s.cleanSeq ∧
        x.req.src = src ∧ x.req.tag = tag ∧ x.left = s.sliceList.filter (fun j => s.domSt (20 + j) != .cold) ∧
        (∀ j ∈ x.left, (t.slice j).sweeps = (s.slice j).sweeps ++ [.cleanAll s.cleanSeq]) ∧
        (∀ j n, sget hlineD (t.slice j).hearth n = sget hlineD (s.slice j).hearth n) ∧
        t = { s with slices := t.slices, acc := t.acc, tel := t.tel, doms := t.doms, cleanAlls := t.cleanAlls,
                     cleanSeq := s.cleanSeq + 1 }) ∧
    (Arrives s (sameMsg opcPREFETCH src tag addr) → s.fld (sliceReg i 0) 1 1 = 1 → s.bit (sliceReg i 0) 3 = true →
      findWay s i line = none → regionPolicy s i line = 0 → (s.slice i).kindle.length < 16 →
      ∃ t, exec (.prefetch src tag addr) s = .next t ∧ Answered s t i p (s.mkRsp opcCMP src tag []) ∧
        (t.slice i).kindle = (s.slice i).kindle ++ [⟨line, .pending, 0, false⟩] ∧
        (∃ r, (t.pc pc).rdq = (s.pc pc).rdq ++ [r] ∧ r.line = line ∧ r.src = .kindle) ∧
        (∀ q, q ≠ pc → t.pc q = s.pc q) ∧
        t = { s with ports := t.ports, slices := t.slices, acc := t.acc, tel := t.tel, pcs := t.pcs })

/-- R169, R177, R182, R189, R191: an answer to one of several snoops of an open transaction. It is no longer awaited; a host that
keeps no copy is noted, clean data is kept for the requester, SNP_GONE leaves the snoop until the notice comes; a snoop that times
out counts as SNP_MISS, and poisons the line at home where its host owned it and its notice has not come; one that SNP_GONE has
answered does not time out. R177, R182, R185, R188: the last answer lets the open transaction go on. An UPGRADE whose other
sharers have no copy any more is granted: GRANT_X to its requester, which alone is named. An RD_SHARED whose owner answers with
dirty data has that data, which also replaces the line in the Hearth: the requester is named as the lead or as a sharer, beside
the owner where that kept a copy. -/
def Obligations.SnoopAnswersAreTakenOnce : Prop :=
  (
  ∀ (s : State) (src : AgentId) (tag : Tag) (addr : PA) (i line off : Nat) (x : Txn), s.classify addr = .home off →
    line = off / 64 → i = s.sliceOf line → src.loc < 32 → txnOf s i line = some x → x.stage = 0 →
    (∃ n ∈ x.snps, n.host = hostIdx src ∧ n.tag = tag) → (∃ n ∈ x.snps, n.host ≠ hostIdx src) →
    (s.slice i).inq = [] → (s.slice i).confq = [] → (s.slice i).retryq = [] → (∀ e ∈ (s.slice i).evbuf, e.line ≠ line) →
    TakesAnswers s i →
    let rest := x.snps.filter fun n => n.host != hostIdx src
    let one := fun (t : State) (y : Txn) => txnOf t i line = some y ∧ (∀ j, j ≠ i → t.slice j = s.slice j) ∧
      t.slice i = { s.slice i with txns := (t.slice i).txns } ∧ (∀ l, l ≠ line → txnOf t i l = txnOf s i l)
    (Arrives s (sameMsg opcSNP_ACK_I src tag addr) →
      ∃ t, exec (.snpAckI src tag addr) s = .next t ∧ one t { x with snps := rest, gone := x.gone ++ [hostIdx src] } ∧
        t = { s with slices := t.slices }) ∧
    (Arrives s (sameMsg opcSNP_ACK_S src tag addr) →
      ∃ t, exec (.snpAckS src tag addr) s = .next t ∧ one t { x with snps := rest } ∧ t = { s with slices := t.slices }) ∧
    (∀ (d : LineData) (bad : Bool), Arrives s (sameMsg opcSNP_DATA_I src tag addr) →
      ∃ t, exec (.snpDataI src tag addr false d bad) s = .next t ∧
        one t { x with snps := rest, gone := x.gone ++ [hostIdx src], snpData := some (d, bad) } ∧
        t = { s with slices := t.slices, tel := t.tel }) ∧
    (∀ (d : LineData) (bad : Bool), Arrives s (sameMsg opcSNP_DATA_S src tag addr) →
      ∃ t, exec (.snpDataS src tag addr false d bad) s = .next t ∧ one t { x with snps := rest, snpData := some (d, bad) } ∧
        t = { s with slices := t.slices, tel := t.tel }) ∧
    (Arrives s (sameMsg opcSNP_GONE src tag addr) → x.taken.contains (hostIdx src) = false →
      ∃ t, exec (.snpGone src tag addr) s = .next t ∧
        one t { x with snps := x.snps.map fun n => if n.host = hostIdx src then { n with gone := true } else n } ∧
        t = { s with slices := t.slices }) ∧
    (Arrives s (sameMsg opcSNP_MISS src tag addr) →
      ∃ t, exec (.snpMiss src tag addr) s = .next t ∧ one t { x with snps := rest, gone := x.gone ++ [hostIdx src] } ∧
        t = { s with slices := t.slices }) ∧
    ((∀ n ∈ x.snps, n.host = hostIdx src → n.gone = true) → exec (.snoopTimeout src addr) s = .next s) ∧
    ((∃ n ∈ x.snps, n.host = hostIdx src ∧ n.gone = false) → x.owner ≠ some (hostIdx src) ∨ hostIdx src ∈ x.gone →
      ∃ t, exec (.snoopTimeout src addr) s = .next t ∧ one t { x with snps := rest, gone := x.gone ++ [hostIdx src] } ∧
        t.bit (dirReg 8) 0 = true ∧ t = { s with slices := t.slices, reg := t.reg, evt := t.evt, acc := t.acc }) ∧
    ((∃ n ∈ x.snps, n.host = hostIdx src ∧ n.gone = false) → x.owner = some (hostIdx src) → hostIdx src ∉ x.gone →
      ∃ t, exec (.snoopTimeout src addr) s = .next t ∧ (∃ y, txnOf t i line = some y ∧ y.snps = rest) ∧
        t.hbmAt line = { s.hbmAt line with poison := true } ∧ (∀ l, l ≠ line → t.hbmAt l = s.hbmAt l) ∧
        t.bit (dirReg 8) 0 = true)) ∧
  (
  ∀ (s : State) (src : AgentId) (tag : Tag) (addr : PA) (i line off p h : Nat) (x : Txn) (n : Snoop) (e : DEntry),
    s.classify addr = .home off → line = off / 64 → i = s.sliceOf line → src.loc < 32 → txnOf s i line = some x → x.stage = 0 →
    x.snps = [n] → n.host = hostIdx src → n.tag = tag → x.secs = [] → x.gack = true → x.gone = [] → s.purge = [] →
    HostAt s x.req.src p → h = hostIdx x.req.src → h ≠ hostIdx src → dirEntry s i line = some e → NothingBeside s i line →
    (s.slice i).inq = [] → (s.slice i).confq = [] → (s.slice i).retryq = [] → TakesAnswers s i →
    (∀ a ∈ ([(opcSNP_ACK_I, .snpAckI), (opcSNP_MISS, .snpMiss)] : List (Nat × (AgentId → Tag → PA → Instr))),
      Arrives s (sameMsg a.1 src tag addr) → x.req.kind = .upgrade → x.ok = true → x.snpData = none →
      ∃ t, exec (a.2 src tag addr) s = .next t ∧ Answered s t i p (s.mkRsp opcGRANT_X x.req.src x.req.tag []) ∧
        dirEntry t i line = some { e with st := .D, bcast := false, ptrs := [h] } ∧
        (∃ y, txnOf t i line = some y ∧ y.stage = 2 ∧ y.gack = true ∧ y.snps = []) ∧
        (t.slice i).hearth = (s.slice i).hearth ∧ (∀ k, sget zeroD t.resv k ≠ line + 1) ∧
        t = { s with ports := t.ports, slices := t.slices, acc := t.acc, tel := t.tel, resv := t.resv }) ∧
    ∀ (w : Nat) (keeps : Bool) (d : LineData) (bad : Bool), findWay s i line = some w → effPolicy s i line = 0 →
      x.req.kind = .rdShared → x.owner = some (hostIdx src) → x.fetch = .none → x.snpData = none → (e.st = .X ∨ e.st = .D) →
      e.bcast = false → e.ptrs = [hostIdx src] → (∀ q ∈ (s.slice i).kindle, q.line ≠ line) →
      Arrives s (sameMsg (if keeps then opcSNP_DATA_S else opcSNP_DATA_I) src tag addr) →
      ∃ t, exec (if keeps then .snpDataS src tag addr true d bad else .snpDataI src tag addr true d bad) s = .next t ∧
        Answered s t i p { s.mkRsp (if x.lead then opcDATA_L else opcDATA_S) x.req.src x.req.tag (wordsLE 16 d.toNat) with
          poison := bad } ∧
        OneWay s t i (s.setOf line) w { s.hway i (s.setOf line) w with data := d, poison := bad, errs := [], dirty := true } ∧
        dirEntry t i line = some { e with
          st := if x.lead then .L else .S
          ptrs := if keeps then (if x.lead then [h, hostIdx src] else [hostIdx src, h]) else [h] } ∧
        (∃ y, txnOf t i line = some y ∧ y.stage = 2 ∧ y.gack = true ∧ y.snps = []) ∧
        t = { s with ports := t.ports, slices := t.slices, acc := t.acc, tel := t.tel })

/-- R150, R168, R175, R190, R192: the end of what a host holds. The notice of the last holder frees the directory entry, brings an
owner's dirty line home, and is answered; GACK ends its transaction; a purge notice puts its agents into the purge set, and the
end of the sweep takes the pointer of such an agent from an entry that two agents share, and clears the set. -/
def Obligations.NoticesGrantsAndPurgesEndTheirHold : Prop :=
  (∀ (s : State) (src : AgentId) (tag : Tag) (addr : PA) (p i line off v : Nat) (e : DEntry), HostAt s src p →
    s.classify addr = .home off → line = off / 64 → CalmLine s i line → dirWay s i line = some v → dirGet s i line v = e →
    e.bcast = false → e.ptrs = [hostIdx src] → TakesAnswers s i →
    (e.st = .S → Arrives s (sameMsg opcEVICT_CLEAN src tag addr) →
      ∃ t, exec (.evictClean src tag addr) s = .next t ∧ Answered s t i p (s.mkRsp opcEVICT_DONE src tag []) ∧
        dirGet t i line v = dentryD 0 ∧
        (∀ n, n ≠ s.setOf line * 16 + v → sget dentryD (t.slice i).dir n = sget dentryD (s.slice i).dir n) ∧
        t.slice i = { s.slice i with dir := (t.slice i).dir } ∧ t = { s with ports := t.ports, slices := t.slices, tel := t.tel }) ∧
    (∀ (w : Nat) (old d : LineData) (bad : Bool), e.st = .D → Arrives s (sameMsg opcEVICT_DIRTY src tag addr) →
      HearthHit s i line w old → effPolicy s i line = 0 →
      ∃ t, exec (.evictDirty src tag addr d bad) s = .next t ∧ Answered s t i p (s.mkRsp opcEVICT_DONE src tag []) ∧
        dirGet t i line v = dentryD 0 ∧
        (∀ n, n ≠ s.setOf line * 16 + v → sget dentryD (t.slice i).dir n = sget dentryD (s.slice i).dir n) ∧
        OneWay s t i (s.setOf line) w { s.hway i (s.setOf line) w with data := d, poison := bad, dirty := true } ∧
        t = { s with ports := t.ports, slices := t.slices, tel := t.tel })) ∧
  (∀ (s : State) (src : AgentId) (tag : Tag) (addr : PA) (i line off : Nat) (x : Txn) (e : DEntry), s.classify addr = .home off →
    line = off / 64 → i = s.sliceOf line → Arrives s (sameMsg opcGACK src tag addr) → txnOf s i line = some x →
    x.req.src = src → x.req.tag = tag → x.stage = 2 → lineMoving (s.slice i) line = false → dirEntry s i line = some e →
    e.ptrs ≠ [] → (s.slice i).inq = [] → (s.slice i).confq = [] → (s.slice i).retryq = [] →
    (∀ b ∈ (s.slice i).evbuf, b.line ≠ line) → TakesAnswers s i →
    ∃ t, exec (.gack src tag addr) s = .next t ∧ (∀ j, j ≠ i → t.slice j = s.slice j) ∧
      t.slice i = { s.slice i with txns := (s.slice i).txns.filter fun y => y.line != line } ∧ t = { s with slices := t.slices }) ∧
  (∀ (s : State) (src : AgentId) (agents : Word), src.dev ≠ s.devNum → agents ≠ 0 → NoneAwaited s → s.compat = false →
    Arrives s (fun m => m.opc == opcPURGE_NOTICE && m.src == src && m.body == [agents]) →
    ∃ t, exec (.purgeNotice src agents) s = .next t ∧
      sget wordD t.purge src.dev = sget wordD s.purge src.dev ||| agents ∧
      (∀ d, d ≠ src.dev → sget wordD t.purge d = sget wordD s.purge d) ∧
      t.rd (dirReg (0x100 + 4 * src.dev)) = s.rd (dirReg (0x100 + 4 * src.dev)) &&& ~~~ agents ∧
      t = { s with purge := t.purge, reg := t.reg, acc := t.acc }) ∧
  ∀ (s : State) (k w a b : Nat) (e : DEntry), (∀ i, (s.slice i).txns = [] ∧ (s.slice i).evbuf = [] ∧ (s.slice i).inq = [] ∧
      (s.slice i).confq = [] ∧ (s.slice i).retryq = [] ∧ (i ≠ k → (s.slice i).dir = [])) → s.slicePresent k = true → w < 16 →
    (s.slice k).dir = [(s.setOf e.line * 16 + w, e)] → e.valid = true → e.bad = false → e.st = .S → e.bcast = false → e.ptrs = [a, b] →
    purged s a = true → purged s b = false →
    ∃ t, exec .purgeSweepComplete s = .next t ∧ t.purge = [] ∧ (∀ i, i ≠ k → t.slice i = s.slice i) ∧
      (t.slice k).dir = [(s.setOf e.line * 16 + w, { e with ptrs := [b] })] ∧ t = { s with purge := [], slices := t.slices }

/-- R46, R145–R153: a response for a host of this device is queued at the host's port, as it came. R46, R160–R163: a response for
another device leaves at the port its route names. From a host side its HOP is 0; one that came in at a fabric port leaves that
port's buffer, whose words are free again, and goes on with HOP = 1. The forwarding units it passes are Lit (R450). -/
def Obligations.ResponsesReachTheirHostOrTheirRoute : Prop :=
  (
  ∀ (s : State) (src dst : AgentId) (tag : Tag) (p : Nat), HostAt s dst p →
    let sent := fun (t : State) (m : Msg) => t.port p = { s.port p with egress := (s.port p).egress ++ [m] } ∧
      (∀ q, q ≠ p → t.port q = s.port q) ∧ t = { s with ports := t.ports, tel := t.tel }
    (∀ (d : LineData) (bad : Bool), Arrives s (sameRsp opcDATA_UC src dst tag) →
      ∃ t, exec (.dataUc src dst tag d bad) s = .next t ∧
        sent t (rspMsg opcDATA_UC src dst tag 0 bad (wordsLE 16 d.toNat))) ∧
    (Arrives s (sameRsp opcWR_DONE src dst tag) →
      ∃ t, exec (.wrDone src dst tag) s = .next t ∧ sent t (rspMsg opcWR_DONE src dst tag 0 false [])) ∧
    (∀ (v : DWord) (bad : Bool), Arrives s (sameRsp opcAMO_DATA src dst tag) →
      ∃ t, exec (.amoData src dst tag v bad) s = .next t ∧
        sent t (rspMsg opcAMO_DATA src dst tag 0 bad [v.setWidth 32, (v >>> 32).setWidth 32])) ∧
    (Arrives s (sameRsp opcCMP src dst tag) →
      ∃ t, exec (.cmp src dst tag) s = .next t ∧ sent t (rspMsg opcCMP src dst tag 0 false [])) ∧
    (∀ full : Bool, Arrives s (sameRsp opcMSG_DONE src dst tag) →
      ∃ t, exec (.msgDone src dst tag full) s = .next t ∧
        sent t (rspMsg opcMSG_DONE src dst tag (if full then 1 else 0) false [])) ∧
    (∀ reason : BitVec 8, Arrives s (sameRsp opcNO_TARGET src dst tag) →
      ∃ t, exec (.noTarget src dst tag reason) s = .next t ∧
        sent t (rspMsg opcNO_TARGET src dst tag 0 false [reason.setWidth 32]))) ∧
  (
  ∀ (s : State) (m : Msg) (p : Nat), 0x40 ≤ m.opc → m.opc < 0x50 → m.dst.dev ≠ s.devNum → s.routePort m.dst.dev = some p →
    s.canCarry p = true → s.domLit (62 + p / 8) = true → s.boot.fatal = false → m.vc = vcOf m.opc → Agree s →
    (Arrives s (· == m) →
      ∃ t, exec (.messageForward none m) s = .next t ∧
        t.port p = { s.port p with egress := (s.port p).egress ++ [{ m with priv := s.privOf m.src m.priv, hop := false }] } ∧
        (∀ q, q ≠ p → t.port q = s.port q) ∧ t = { s with ports := t.ports }) ∧
    ∀ (q : Nat) (l : List Msg), q < nPorts → q ≠ p → s.isFabric q = true → s.domLit (62 + q / 8) = true → (s.port q).rxq = m :: l → m.hop = false →
      (∀ r < q, ∀ n ∈ (s.port r).rxq, n ≠ m) → (∀ h ∈ s.spine.fwd, sameOrder m h.msg = false) →
      ∃ t, exec (.messageForward (some q) m) s = .next t ∧
        t.port p = { s.port p with egress := (s.port p).egress ++ [{ m with priv := s.privOf m.src m.priv, hop := true }] } ∧
        t.port q = freeWords m { s.port q with rxq := l } ∧ (∀ r, r ≠ p → r ≠ q → t.port r = s.port r) ∧
        t = { s with ports := t.ports })

/-! ## Responses and agent messages -/

/-- R153, R324, R387: an agent message enters the mailbox that it names, as a whole or not at all, or the ring of its cluster, and
its sender gets MSG_DONE, with PARAM[0] = 1 where it was not taken; one for a host goes out at the host's port. -/
def Obligations.AgentMessagesAreDeliveredWhole : Prop :=
  ∀ (s : State) (src : AgentId) (tag : Tag) (mbox : BitVec 3) (chan : BitVec 8) (pay : List Word) (p : Nat), HostAt s src p →
    let done := fun (t : State) (full : Nat) => t.port p = { s.port p with egress := (s.port p).egress ++
      [{ s.mkRsp opcMSG_DONE src tag [] with param := BitVec.ofNat 8 full }] } ∧ (∀ q, q ≠ p → t.port q = s.port q)
    (∀ f, Arrives s (sameRsp opcAGENT_MSG src s.home tag) → sget fifoD s.evt.mbox mbox.toNat = f →
      f.items.length + pay.length / 2 ≤ 256 →
      ∃ t, exec (.agentMsg src s.home tag mbox chan pay) s = .next t ∧ done t 0 ∧
        sget fifoD t.evt.mbox mbox.toNat =
          { f with items := f.items ++ pairs pay, wr := (f.wr + pay.length / 2) % 512 } ∧
        (∀ j, j ≠ mbox.toNat → sget fifoD t.evt.mbox j = sget fifoD s.evt.mbox j) ∧
        t = { s with ports := t.ports, evt := { s.evt with mbox := t.evt.mbox }, tel := t.tel }) ∧
    (Arrives s (sameRsp opcAGENT_MSG src s.home tag) →
      256 < (sget fifoD s.evt.mbox mbox.toNat).items.length + pay.length / 2 →
      ∃ t, exec (.agentMsg src s.home tag mbox chan pay) s = .next t ∧ done t 1 ∧
        t.bit (mboxReg mbox.toNat 0x10) 0 = true ∧ t = { s with ports := t.ports, reg := t.reg, tel := t.tel }) ∧
    (∀ c, c < nClusters → Arrives s (sameRsp opcAGENT_MSG src (mkAgent s.devNum (32 + c)) tag) → s.devNum < 16 →
      s.clusterPresent c = true → s.domLit (44 + c) = true → (s.cluster c).resetting = false →
      s.bit (scrReg c 0x30) 0 = true → ((s.cluster c).msgTail - (s.cluster c).msgHead).toNat < 32 → pay.length ≤ 16 →
      let base := s.fld (scrReg c 0x30) 12 7 * 4096 + 128 * ((s.cluster c).msgTail.toNat % 32)
      ∃ t, exec (.agentMsg src (mkAgent s.devNum (32 + c)) tag mbox chan pay) s = .next t ∧ done t 0 ∧
        SlateNumber (t.cluster c) base 8 (src.toNat + 2 ^ 10 * mbox.toNat + 2 ^ 16 * chan.toNat + 2 ^ 24 * pay.length) ∧
        SlateNumber (t.cluster c) (base + 8) (4 * pay.length) (ofWordsLE pay) ∧
        (t.cluster c).msgTail = (s.cluster c).msgTail + 1 ∧ (t.cluster c).msgHead = (s.cluster c).msgHead ∧
        (∀ o, o < base ∨ base + 8 + 4 * pay.length ≤ o → (t.cluster c).byte o = (s.cluster c).byte o) ∧
        (∀ j, j ≠ c → t.cluster j = s.cluster j) ∧ t.hbm = s.hbm) ∧
    ∀ (dst : AgentId) (q : Nat), HostAt s dst q → Arrives s (sameRsp opcAGENT_MSG src dst tag) →
      ∃ t, exec (.agentMsg src dst tag mbox chan pay) s = .next t ∧
        t.port q = { s.port q with egress := (s.port q).egress ++
          [rspMsg opcAGENT_MSG src dst tag 0 false (w32 (mbox.toNat + 2 ^ 8 * chan.toNat) :: pay)] } ∧
        (∀ r, r ≠ q → t.port r = s.port r) ∧ t = { s with ports := t.ports }

/-! ## The Hearth -/

/-- R219–R222, R226: what comes back to a slice, and what leaves it. HBM data ends the fetch of an uncached read, fills the way
kept for it and answers the requester; a dirty victim that the flue takes leaves its way reserved; kindling data makes its entry
ready, but at a slice that is not Lit it waits; a stream entry that has been idle for 65,536 misses goes. -/
def Obligations.FillsAndVictimsMoveThroughTheHearth : Prop :=
  ∀ (s : State) (i line : Nat), i < nSlices → i = s.sliceOf line → (s.slice i).inq = [] → (s.slice i).confq = [] →
    (s.slice i).retryq = [] → (s.slice i).evbuf = [] →
    (∀ (r : Returned) (l : List Returned) (x : Txn) (w age p : Nat), (s.slice i).ret = r :: l → r.line = line → r.kindle = false →
      txnOf s i line = some x → x.fetch = .wait → x.stage = 0 → x.snps = [] → x.gack = false → x.secs = [] → x.req.kind = .rdUc →
      x.found = some (some (w, age)) →
      w < 16 → (s.hway i (s.setOf line) w).reserved = true → findWay s i line = none → dirWay s i line = none →
      lineMoving (s.slice i) line = false → HostAt s x.req.src p →
      ∃ t, exec (.hbmReadReturn i line) s = .next t ∧
        Answered s t i p { s.mkRsp opcDATA_UC x.req.src x.req.tag (ucBody x.req.size x.req.addr r.data) with poison := r.poison } ∧
        OneWay s t i (s.setOf line) w { valid := true, dirty := false, line := line, age := age, data := r.data,
                                        poison := r.poison, errs := [], reserved := false } ∧
        (t.slice i).txns = (s.slice i).txns.filter (fun y => y.line != line) ∧ (t.slice i).ret = l ∧
        t = { s with ports := t.ports, slices := t.slices, tel := t.tel }) ∧
    (∀ (v : Victim) (l : List Victim) (h : HLine) (pc : Nat), (s.slice i).victims = v :: l → v.line = line →
      h = s.hway i v.set v.way → h.errs = [] → h.poison = false → v.way < 16 → (∀ n ∈ (s.slice i).installs, n.way ≠ v.way) →
      (∀ o ∈ (s.slice i).outWr, o.line ≠ line) →
      txnOf s i line = none → pc = (hbmLoc s.ten line).pc → s.domLit (pcDomain pc) = true →
      (∀ h, halfOf (pcDomain pc) = some h → s.domLit h = true) → (∀ e ∈ (s.pc pc).wrq, e.line ≠ line) →
      flueCount (s.pc pc) < 32 →
      ∃ t, exec (.flueVictimAccepted i line) s = .next t ∧ (t.slice i).victims = l ∧
        OneWay s t i v.set v.way { hlineD 0 with reserved := true } ∧
        (t.pc pc).wrq = (s.pc pc).wrq ++ [⟨line, h.data, false, v.cls, true, (s.pc pc).seq, (s.pc pc).now, 0, 0⟩] ∧
        (∀ q, q ≠ pc → t.pc q = s.pc q) ∧ (∀ j, j ≠ i → t.slice j = s.slice j) ∧
        t = { s with slices := t.slices, pcs := t.pcs, acc := t.acc }) ∧
    (∀ (r : Returned) (l : List Returned) (e : KEntry), (s.slice i).ret = r :: l → r.line = line → r.kindle = true →
      (s.domLit (20 + i) = false → ∃ t, exec (.kindlingDataArrive i line) s = .next t ∧ t = { s with doms := t.doms }) ∧
      (s.domLit (20 + i) = true →
      e ∈ (s.slice i).kindle → e.line = line → e.st = .pending → (∀ y ∈ (s.slice i).kindle, y.line = line → y = e) →
      ∃ t, exec (.kindlingDataArrive i line) s = .next t ∧
        t.slice i = { s.slice i with ret := l, kindle := (s.slice i).kindle.filter (fun y => y.line != line) ++
          [⟨line, .ready, r.data, r.poison⟩] } ∧
        (∀ j, j ≠ i → t.slice j = s.slice j) ∧ t = { s with slices := t.slices })) ∧
    ∀ (n : Nat) (e : Stream), (s.slice i).streams[n]? = some e → e.last + 65536 ≤ (s.slice i).misses →
      ∃ t, exec (.streamEntryExpire i n) s = .next t ∧
        t.slice i = { s.slice i with streams := (s.slice i).streams.eraseIdx n } ∧
        (∀ j, j ≠ i → t.slice j = s.slice j) ∧ t = { s with slices := t.slices }

/-- R231, R233, R234: HEARTH_EN = 0 marks the slice as disabling, so that its open requests allocate nothing more, and starts its
sweep, which invalidates its lines set by set while the slice is Lit; after its last set the slice is disabled, or enabled again
where HEARTH_EN = 1 was written meanwhile. -/
def Obligations.DisablingSweepsASliceEmpty : Prop :=
  ∀ (s : State) (i : Nat), i < nSlices →
    (∀ m : Master, CwReach s m (sliceReg i 0) →
      ((s.slice i).disabled = false → (s.slice i).disabling = false →
        ∃ t, exec (.hearthDisable m i) s = .next t ∧ t.bit (sliceReg i 0) 0 = false ∧
          (∀ x, x ≠ sliceReg i 0 → t.rd x = s.rd x) ∧
          t.slice i = { s.slice i with disabling := true, sweeps := (s.slice i).sweeps ++ [.disable],
                                        txns := (s.slice i).txns.map fun x => { x with pol := 2 } } ∧
          (∀ j, j ≠ i → t.slice j = s.slice j) ∧ t = { s with reg := t.reg, slices := t.slices }) ∧
      ((s.slice i).disabled = true → (s.slice i).coldPrep = false →
        ∃ t, exec (.hearthEnable m i) s = .next t ∧ t.bit (sliceReg i 0) 0 = true ∧
          (∀ x, x ≠ sliceReg i 0 → t.rd x = s.rd x) ∧ t.slice i = { s.slice i with disabled := false } ∧
          (∀ j, j ≠ i → t.slice j = s.slice j) ∧ t = { s with reg := t.reg, slices := t.slices }) ∧
      ((s.slice i).disabled = false → (s.slice i).disabling = true →
        ∃ t, exec (.hearthEnable m i) s = .next t ∧ t.slice i = { s.slice i with reEnable := true } ∧
          (∀ j, j ≠ i → t.slice j = s.slice j) ∧ t = { s with reg := t.reg, slices := t.slices })) ∧
    (s.domLit (20 + i) = false → exec (.sweepStep i) s = .next s) ∧
    ∀ l, (s.slice i).sweeps = .disable :: l → s.domLit (20 + i) = true →
      (∀ w < 16, (s.hway i (s.slice i).sweepPos w).reserved = false ∧ ((s.hway i (s.slice i).sweepPos w).valid = true →
        (s.hway i (s.slice i).sweepPos w).dirty = false ∧ lineBusy (s.slice i) (s.hway i (s.slice i).sweepPos w).line = false)) →
      ∃ t, exec (.sweepStep i) s = .next t ∧ (∀ w < 16, (t.hway i (s.slice i).sweepPos w).valid = false) ∧
        (∀ n, n / 16 ≠ (s.slice i).sweepPos → sget hlineD (t.slice i).hearth n = sget hlineD (s.slice i).hearth n) ∧
        (∀ j, j ≠ i → t.slice j = s.slice j) ∧ t = { s with slices := t.slices } ∧
        ((s.slice i).sweepPos < 65535 → (t.slice i).sweepPos = (s.slice i).sweepPos + 1 ∧ (t.slice i).sweeps = .disable :: l ∧
          (t.slice i).disabled = (s.slice i).disabled) ∧
        ((s.slice i).sweepPos = 65535 → (t.slice i).sweepPos = 0 ∧ (t.slice i).sweeps = l ∧ (t.slice i).disabling = false ∧
          (t.slice i).disabled = (!(s.slice i).reEnable || (s.slice i).coldPrep))

/-- R79, R236, R237, R245: way quench. QUENCH bits that are set through the window of the master start a walk of their ways at the
walk's position; the walk invalidates the way set by set and powers it down when it is back where it began; clearing the bit
powers it up, and it is eligible again when that is done. That the secure master goes by window 0 and any other by window 1 is
DEDUCED (log entry 56). -/
def Obligations.QuenchedWaysWalkAndPowerDown : Prop :=
  ∀ (s : State) (i : Nat), i < nSlices → (s.slice i).retired = 0 → (s.slice i).retiring = 0 →
    (∀ (m : Master) (ways : BitVec 16), CwReach s m (windowReg (!masterSecure m)) → CwReach s m (windowReg (!masterSecure m) + 4) →
      s.reg.stalled = [] → (s.reg.claim = .none ∨ holdsClaim s m = true) → s.slicePresent i = true → 5 < s.boot.step →
      s.domLit (20 + i) = true → (s.slice i).powering = 0 → (s.slice i).walking = [] →
      ((s.slice i).quenched = 0 → sget wordD s.reg.wayq i = 0 →
        ∃ t, exec (.wayQuench m i ways) s = .next t ∧ wayqRead t i = ways.setWidth 32 ∧
          t.slice i = { s.slice i with walking := (bitsSet 16 ways.toNat).map fun w => (w, (s.slice i).walkPos) } ∧
          (∀ j, j ≠ i → t.slice j = s.slice j) ∧
          (∀ x, x ≠ windowReg (!masterSecure m) → t.rd x = s.rd x) ∧ t = { s with reg := t.reg, slices := t.slices }) ∧
      (sget wordD s.reg.wayq i = (s.slice i).quenched.setWidth 32 →
        ∃ t, exec (.wayUnquench m i ways) s = .next t ∧
          wayqRead t i = (((s.slice i).quenched &&& ~~~ ways).setWidth 32) ∧
          t.slice i = { s.slice i with powering := (s.slice i).quenched &&& ways } ∧ (∀ j, j ≠ i → t.slice j = s.slice j) ∧
          (∀ x, x ≠ windowReg (!masterSecure m) → t.rd x = s.rd x) ∧ t = { s with reg := t.reg, slices := t.slices })) ∧
    (∀ w e, w < 16 → (s.slice i).walking = [(w, e)] → (s.slice i).walkPos < 65536 →
      (s.hway i (s.slice i).walkPos w).reserved = false → (s.hway i (s.slice i).walkPos w).valid = true →
      (s.hway i (s.slice i).walkPos w).dirty = false → lineBusy (s.slice i) (s.hway i (s.slice i).walkPos w).line = false →
      (wayqRead s i).getLsbD w = true →
      ∃ t, exec (.quenchWalkStep i) s = .next t ∧ OneWay s t i (s.slice i).walkPos w (hlineD 0) ∧
        (t.slice i).walkPos = ((s.slice i).walkPos + 1) % 65536 ∧
        (t.slice i).quenched = (if e = ((s.slice i).walkPos + 1) % 65536 then (s.slice i).quenched ||| BitVec.ofNat 16 (2 ^ w)
          else (s.slice i).quenched) ∧
        (t.slice i).walking = (if e = ((s.slice i).walkPos + 1) % 65536 then [] else [(w, e)]) ∧
        (∀ j, j ≠ i → t.slice j = s.slice j) ∧ t = { s with slices := t.slices }) ∧
    ∀ w : BitVec 4, (s.slice i).powering.getLsbD w.toNat = true → (wayqRead s i).getLsbD w.toNat = false →
      ∃ t, exec (.wayPowerUpDone i w) s = .next t ∧
        t.slice i = { s.slice i with powering := (s.slice i).powering &&& ~~~ BitVec.ofNat 16 (2 ^ w.toNat),
                                     quenched := (s.slice i).quenched &&& ~~~ BitVec.ofNat 16 (2 ^ w.toNat) } ∧
        (∀ j, j ≠ i → t.slice j = s.slice j) ∧ t = { s with slices := t.slices }

/-- R244, R257, R426: a GO of a slice's maintenance register sends its operation, at the address that the registers hold, as a
request of agent 63, and its completion sets DONE; a poison notice sends a good clean copy back to HBM; the error counts of the
ways clear every day. -/
def Obligations.SlicesMaintainTheirLines : Prop :=
  (∀ op ∈ ([(fun m i => .slcMaintClean m i, 0), (fun m i => .slcMaintInv m i, 1), (fun m i => .slcMaintCleanInv m i, 2)] :
      List ((Master → Nat → Instr) × Nat)),
    ∀ (s : State) (m : Master) (i : Nat) (addr : PA) (off : Nat), i < nSlices → CwReach s m (sliceReg i 0x18) →
      (s.slice i).maintBusy = false →
      addr = BitVec.ofNat 52 ((s.rd (sliceReg i 0x10)).toNat / 64 * 64 + s.fld (sliceReg i 0x14) 0 20 * 2 ^ 32) →
      s.classify addr = .home off →
      ∃ t, exec (op.1 m i) s = .next t ∧ t.fld (sliceReg i 0x18) 0 2 = op.2 ∧ t.bit (sliceReg i 0x18) 4 = false ∧
        t.spine = { s.spine with req := s.spine.req ++
          [{ s.mkMsg opcMAINT 0 (maintTag i) op.2 false addr [] with priv := true }] } ∧
        t.slice i = { s.slice i with maintBusy := true } ∧ (∀ j, j ≠ i → t.slice j = s.slice j) ∧
        (∀ x, x ≠ sliceReg i 0x18 → t.rd x = s.rd x) ∧ t = { s with reg := t.reg, slices := t.slices, spine := t.spine }) ∧
  (∀ (s : State) (m : Master) (i off : Nat), i < nSlices → CwReach s m (sliceReg i 0x18) → (s.slice i).maintBusy = false →
    s.classify (BitVec.ofNat 52 (s.fld (bootReg 0x14) 0 14 * 2 ^ 38)) = .home off →
    ∃ t, exec (.slcMaintCleanAll m i) s = .next t ∧ t.fld (sliceReg i 0x18) 0 2 = 3 ∧
      t.spine = { s.spine with req := s.spine.req ++ [{ s.mkMsg opcMAINT 0 (maintTag i) 3 false
        (BitVec.ofNat 52 (s.fld (bootReg 0x14) 0 14 * 2 ^ 38)) [] with priv := true }] } ∧
      t.slice i = { s.slice i with maintBusy := true } ∧ (∀ j, j ≠ i → t.slice j = s.slice j) ∧
      t = { s with reg := t.reg, slices := t.slices, spine := t.spine }) ∧
  (∀ (s : State) (i : Nat), i < nSlices → s.devNum < 16 → Arrives s (sameRsp opcCMP s.home s.home (maintTag i)) →
    (s.slice i).maintBusy = true → s.bit (sliceReg i 0x18) 4 = false →
    ∃ t, exec (.cmp s.home s.home (maintTag i)) s = .next t ∧ t.bit (sliceReg i 0x1C) 0 = true ∧
      (∀ x, x ≠ sliceReg i 0x1C → t.rd x = s.rd x) ∧ t.slice i = { s.slice i with maintBusy := false } ∧
      (∀ j, j ≠ i → t.slice j = s.slice j) ∧ t = { s with reg := t.reg, slices := t.slices, tel := t.tel }) ∧
  (∀ (s : State) (i line w pc : Nat) (d : LineData), i < nSlices → s.domLit (20 + i) = true → HearthHit s i line w d →
    (s.hway i (s.setOf line) w).dirty = false → lineBusy (s.slice i) line = false → pc = (hbmLoc s.ten line).pc →
    s.domLit (pcDomain pc) = true → (∀ h, halfOf (pcDomain pc) = some h → s.domLit h = true) →
    (∀ e ∈ (s.pc pc).wrq, e.line ≠ line) → wrCount (s.pc pc) < 64 →
    ∃ t, exec (.poisonNotice i line) s = .next t ∧
      (t.pc pc).wrq = (s.pc pc).wrq ++ [⟨line, d, false, 7, false, (s.pc pc).seq, (s.pc pc).now, 0, 0⟩] ∧
      (∀ q, q ≠ pc → t.pc q = s.pc q) ∧ t.slice i = { s.slice i with notices := (s.slice i).notices.erase line } ∧
      (∀ j, j ≠ i → t.slice j = s.slice j) ∧ t = { s with slices := t.slices, pcs := t.pcs }) ∧
  ∀ s : State, ∃ t, exec .wayErrorCountClear s = .next t ∧
    (∀ i < nSlices, t.slice i = { s.slice i with wayErrs := List.replicate 16 0 }) ∧
    (∀ i, nSlices ≤ i → t.slice i = s.slice i) ∧ t = { s with slices := t.slices }

/-! ## HBM -/

/-- R249, R263–R265, R464: the command that a controller issues for its one request, where no timing rule, no refresh and no grant
is in its way: ACT to a closed bank, PRE to a bank whose open row is another, else the column command, of burst 2C, then 2C + 1.
The second RD sends the read on its way with what the stack holds, for as long as RL and a burst take; a write counts its column
commands. A read's ACT beyond the grant's share may be held (how far it goes is log entry 77). -/
def Obligations.ControllersIssueTheCommandOfTheirRequest : Prop :=
  ∀ (s : State) (p ck : Nat) (l : DramLoc), p < nPcs → pcReady s p = true → (s.pc p).now ≤ ck → (s.pc p).hist = [] →
    (s.pc p).debt = [] → s.bit (hbmReg (p / 32) 0) 4 = false → mustRetrain s p = false →
    let only := fun (t : State) => (∀ q, q ≠ p → t.pc q = s.pc q) ∧ t = { s with pcs := t.pcs, acc := t.acc }
    (∀ e : RdEntry, (s.pc p).rdq = [e] → (s.pc p).wrq = [] → e.src = .demand → l = hbmLoc s.ten e.line →
      (openRow (s.pc p) l.sid l.bank = 0 → rateHeld s (pcDomain p) (halfActs s p ck) = false →
        ∃ t, exec (.hbmScheduleCommand p ck) s = .next t ∧ only t ∧ (t.pc p).hist = [⟨ck, .act, l.sid, l.bank, l.row, 0⟩] ∧
          openRow (t.pc p) l.sid l.bank = l.row + 1 ∧ (t.pc p).rdq = [e] ∧ (t.pc p).now = ck) ∧
      (openRow (s.pc p) l.sid l.bank ≠ 0 → openRow (s.pc p) l.sid l.bank ≠ l.row + 1 →
        ∃ t, exec (.hbmScheduleCommand p ck) s = .next t ∧ only t ∧ (t.pc p).hist = [⟨ck, .pre, l.sid, l.bank, 0, 0⟩] ∧
          openRow (t.pc p) l.sid l.bank = 0 ∧ (t.pc p).rdq = [e]) ∧
      (openRow (s.pc p) l.sid l.bank = l.row + 1 → l.pc = p → tooShort (s.seqOf p) = false → (s.stackSt (p / 32)).lost = false →
        ∃ t, exec (.hbmScheduleCommand p ck) s = .next t ∧ only t ∧
          (t.pc p).hist = [⟨ck, .rd, l.sid, l.bank, l.row, 2 * l.col + e.cols⟩] ∧
          (e.cols = 0 → (t.pc p).rdq = [{ e with cols := 1 }] ∧ (t.pc p).flight = (s.pc p).flight) ∧
          (e.cols ≠ 0 → (t.pc p).rdq = [] ∧ (t.pc p).flight = (s.pc p).flight ++ [⟨e, s.hbmAt e.line, ck + (s.seqOf p).rl + 2⟩]))) ∧
    ∀ e : WrEntry, (s.pc p).rdq = [] → (s.pc p).wrq = [e] → e.cols < 2 → l = hbmLoc s.ten e.line →
      openRow (s.pc p) l.sid l.bank = l.row + 1 →
      ∃ t, exec (.hbmScheduleCommand p ck) s = .next t ∧ only t ∧
        (t.pc p).hist = [⟨ck, .wr, l.sid, l.bank, l.row, 2 * l.col + e.cols⟩] ∧
        (t.pc p).wrq = [{ e with cols := e.cols + 1, due := ck + (s.seqOf p).wl + 2 }]

/-- R253–R258: a write entry whose data has been driven leaves its queue, and the stack holds its line; the oldest read in flight
comes back to its slice, with up to two wrong symbols corrected, which sets CE. -/
def Obligations.StacksHoldAndGiveBackTheirLines : Prop :=
  (∀ (s : State) (p ck : Nat) (e : WrEntry) (l : List WrEntry), p < nPcs → (s.pc p).wrq = e :: l → 2 ≤ e.cols → e.due ≤ ck →
    tooShort (s.seqOf (hbmLoc s.ten e.line).pc) = false → (∀ i, (s.slice i).outWr = []) →
    ∃ t, exec (.writeEntryRetire ⟨p, ck⟩) s = .next t ∧ t.hbmAt e.line = { data := e.data, poison := e.poison, errs := [] } ∧
      (∀ n, n ≠ e.line → t.hbmAt n = s.hbmAt n) ∧ t.pc p = { s.pc p with wrq := l, writeMode := (t.pc p).writeMode } ∧
      (∀ q, q ≠ p → t.pc q = s.pc q) ∧
      t = { s with hbm := t.hbm, pcs := t.pcs }) ∧
  ∀ (s : State) (p ck i : Nat) (f : Flight) (l : List Flight), p < nPcs → (s.pc p).flight = f :: l → f.due ≤ ck → f.stored.poison = false →
    f.rd.src = .demand → f.rd.drop = false → i = s.sliceOf f.rd.line →
    let back := fun (t : State) => (t.slice i).ret = (s.slice i).ret ++ [⟨f.rd.line, f.stored.data, false, false⟩] ∧
      (∀ j, j ≠ i → t.slice j = s.slice j) ∧ t.hbm = s.hbm ∧ t.ports = s.ports ∧ t.cores = s.cores
    (f.stored.errs = [] →
      ∃ t, exec (.hbmReadDecode ⟨p, ck⟩ []) s = .next t ∧ back t ∧ t.pc p = { s.pc p with flight := l } ∧
        t = { s with pcs := t.pcs, slices := t.slices }) ∧
    ∀ noise : List SymErr, badSyms (f.stored.errs ++ noise) ≠ [] → (badSyms (f.stored.errs ++ noise)).length ≤ 2 →
      ∃ t, exec (.hbmReadDecode ⟨p, ck⟩ noise) s = .next t ∧ back t ∧
        t.bit (hbmReg ((hbmLoc s.ten f.rd.line).pc / 32) 0x30) 0 = true

/-- R265, R269, R271, R278–R283: the upkeep of the stacks. A refresh that falls due is owed by its bank; an idle row closes; a
periodic retraining, at its turn (log entry 81) or as the first thing after Ember, records its eyes, and one with too small an eye
is followed by a full one; a scrub read is queued and the walk moves on; a soft repair takes its row's candidate, keeps every
line, and is logged; RELOAD brings the timing registers into force and writes the mode registers. -/
def Obligations.StacksAreKeptUp : Prop :=
  (∀ (s : State) (p : Nat), p < nPcs → pcReady s p = true →
    (∀ sid bank ck key, sid < s.nSid → bank < 16 →
      key = (if s.bit (hbmReg (p / 32) 0) 1 then 64 + sid else 16 * sid + bank) →
      sget zeroD (s.pc p).refAt key + effRefi s p ≤ ck →
      ∃ t, exec (.refreshDue ⟨p, ck⟩ sid bank) s = .next t ∧
        sget intD (t.pc p).debt key = sget intD (s.pc p).debt key + 1 ∧
        (∀ n, n ≠ key → sget intD (t.pc p).debt n = sget intD (s.pc p).debt n) ∧
        sget zeroD (t.pc p).refAt key = ck ∧ (∀ n, n ≠ key → sget zeroD (t.pc p).refAt n = sget zeroD (s.pc p).refAt n) ∧
        t.pc p = { s.pc p with debt := (t.pc p).debt, refAt := (t.pc p).refAt } ∧ (∀ q, q ≠ p → t.pc q = s.pc q) ∧ t = { s with pcs := t.pcs }) ∧
    (∀ sid bank ck, openRow (s.pc p) sid bank ≠ 0 → (s.pc p).rdq = [] → (s.pc p).wrq = [] → (s.pc p).hist = [] →
      (s.pc p).now ≤ ck → s.fld (hbmReg (p / 32) 0x10) 24 8 * 12 ≤ ck * 5 →
      ∃ t, exec (.rowIdleClose p sid bank ck) s = .next t ∧ openRow (t.pc p) sid bank = 0 ∧
        (∀ n, n ≠ 16 * sid + bank → sget zeroD (t.pc p).rows n = sget zeroD (s.pc p).rows n) ∧
        (t.pc p).hist = [⟨ck, .pre, sid, bank, 0, 0⟩] ∧ (∀ q, q ≠ p → t.pc q = s.pc q) ∧ t = { s with pcs := t.pcs }) ∧
    (∀ r : RetrainResult, (mustRetrain s p = true ∨ (retrainDue s p = true ∧ turnOfOther s p = false)) →
      (sget lanesD s.phys.badLanes p).length ≤ 1 →
      let trained := fun (t : State) (rd wr : Byte) => (t.pc p).trained = true ∧ (t.pc p).trainFail = false ∧
        (t.pc p).rdEye = rd ∧ (t.pc p).wrEye = wr ∧ (t.pc p).eyeFree = none ∧ (t.pc p).trainTemp = r.temp ∧
        (t.pc p).lastTrain = w32 s.tb.count.toNat ∧ (t.pc p).retrainFirst = false ∧
        (t.pc p).rdq = (s.pc p).rdq ∧ (t.pc p).wrq = (s.pc p).wrq ∧ (t.pc p).flight = (s.pc p).flight ∧
        (∀ q, q ≠ p → t.pc q = s.pc q) ∧ (∀ q, sget lanesD t.phys.badLanes q = sget lanesD s.phys.badLanes q) ∧
        t.phys = { s.phys with badLanes := t.phys.badLanes }
      (s.fld (hbmReg (p / 32) 0x18) 16 6 ≤ min r.rdEye.toNat r.wrEye.toNat →
        ∃ t, exec (.periodicRetrain p r) s = .next t ∧ trained t r.rdEye r.wrEye ∧
          t = { s with pcs := t.pcs, acc := t.acc, phys := t.phys }) ∧
      (min r.rdEye.toNat r.wrEye.toNat < s.fld (hbmReg (p / 32) 0x18) 16 6 → r.fullOk = true → r.repairLane = none →
        ∃ t, exec (.periodicRetrain p r) s = .next t ∧ trained t r.fullRd r.fullWr ∧
          t.bit (hbmReg (p / 32) 0x30) 5 = true ∧
          t = { s with pcs := t.pcs, acc := t.acc, reg := t.reg, evt := t.evt, phys := t.phys })) ∧
    (s.bit (hbmReg (p / 32) 0x20) 0 = true → (∀ h, halfOf (pcDomain p) = some h → s.domLit h = true) →
      (hbmLoc s.ten (scrubLine s p (s.pc p).scrubPos)).pc = p →
      (∀ e ∈ (s.pc p).wrq, e.line ≠ scrubLine s p (s.pc p).scrubPos) → scrubNext s (s.pc p).scrubPos ≠ 0 →
      ∃ t, exec (.scrubRead p) s = .next t ∧
        (∃ r, (t.pc p).rdq = (s.pc p).rdq ++ [r] ∧ r.line = scrubLine s p (s.pc p).scrubPos ∧ r.src = .scrub) ∧
        (t.pc p).scrubPos = scrubNext s (s.pc p).scrubPos ∧ (∀ q, q ≠ p → t.pc q = s.pc q) ∧
        t = { s with pcs := t.pcs, acc := t.acc }) ∧
    (∀ (c : RowErr) (l : List RowErr), s.bit (hbmReg (p / 32) 0) 2 = true → (s.pc p).cands = c :: l →
      c.row < 2 ^ 15 → c.bank < 16 → c.sid < 4 →
      (∀ r ∈ (s.stackSt (p / 32)).soft, r.pc ≠ p % 32) → s.bit (hbmReg (p / 32) 0x300) 31 = false →
      (∀ n, (s.hbmAt n).errs = [] ∧ (s.pc (hbmLoc s.ten n).pc).wrq = []) → tooShort (s.seqOf p) = false →
      (s.stackSt (p / 32)).lost = false →
      ∃ t, exec (.softRepair p []) s = .next t ∧ (t.pc p).cands = l ∧
        (t.stackSt (p / 32)).soft = (s.stackSt (p / 32)).soft ++ [⟨p / 32, p % 32, c.sid, c.bank, c.row⟩] ∧
        (∀ n, t.hbmAt n = s.hbmAt n) ∧ openRow (t.pc p) c.sid c.bank = 0 ∧ t.bit (hbmReg (p / 32) 0x300) 31 = true ∧
        t.bit (hbmReg (p / 32) 0x30) 3 = true ∧ (∀ q, q ≠ p → t.pc q = s.pc q) ∧
        t = { s with pcs := t.pcs, hbm := t.hbm, hstacks := t.hstacks, reg := t.reg, evt := t.evt, acc := t.acc })) ∧
  ∀ (s : State) (m : Master) (k : Nat), k < nStacks → CwReach s m (hbmReg k 0) →
    ∃ t, exec (.hbmReload m k) s = .next t ∧ 
      t.stackSt k = { s.stackSt k with lo := sequencer (timRegs s k), hi := sequencer (timRegs s k) } ∧
      (∀ j, j ≠ k → t.stackSt j = s.stackSt j) ∧ t.bit (hbmReg k 0) 0 = false ∧
      (∀ q, q / 32 ≠ k → t.pc q = s.pc q) ∧ (∀ q, t.pc q = { s.pc q with hist := (t.pc q).hist, now := (t.pc q).now }) ∧
      (∀ x, x ≠ hbmReg k 0 → t.rd x = s.rd x) ∧ t = { s with reg := t.reg, hstacks := t.hstacks, pcs := t.pcs }

/-! ## Inkwells and engines -/

/-- R147, R369, R372, R373: one issue of a data-movement descriptor. COPY, GATHER and SCATTER read the source of a piece of at
most one destination line, CRC a piece of one source line, COMPARE a piece of one line of each range; a line that the piece before
has read is not read again (the model's reading, log entry 84), and a piece of a COPY, GATHER or SCATTER whose line has come back
with it is written at once, or, of a GATHER, waits for the rest of its destination line. FILL and ZERO write a piece, a whole line
as WR_LINE or ZERO_LINE. A list operation that needs an entry whose line is not here reads it; ATOMIC and MAINT send what their
entry names, ATOMIC with the words that its operation does not use zero. -/
def Obligations.EnginesMoveDataByLines : Prop :=
  ∀ (s : State) (e n slot : Nat) (d : Desc) (p len : Nat), EngineWorks s e n slot d → p = (s.engine e).pos →
    len = dfld d.raw 24 4 →
    let a0 := daddr d.raw 8
    let a1 := daddr d.raw 16
    let opc := dfld d.raw 0 1
    (opc = 1 → p < len → ∀ k, k = min (64 - (a1 + p) % 64) (len - p) →
      ((∀ v, ¬ (s.engine e).Here (a0 + p) k v) →
        ∃ t ms, exec (.copyDescriptor e) s = .next t ∧ s.PieceReads e (inkPriv s n) (a0 + p) k ms ∧ EngineSent s t e ms ∧
          Moved (s.engine e) (t.engine e) (a1 + p) k ∧ t.inks = s.inks) ∧
      ∀ l bad, (s.engine e).Here (a0 + p) k (l, bad) →
        ∃ t, exec (.copyDescriptor e) s = .next t ∧ Moved (s.engine e) (t.engine e) (a1 + p) k ∧ t.inks = s.inks ∧
          EngineSent s t e [s.pieceWrite e (inkPriv s n) (a1 + p) k (lineBytes l ((a0 + p) % 64) k) bad]) ∧
    (opc = 2 → p < len → ∀ k, k = min (64 - (a1 + p) % 64) (len - p) →
      ∃ t, exec (.fillDescriptor e) s = .next t ∧ Moved (s.engine e) (t.engine e) (a1 + p) k ∧ t.inks = s.inks ∧
        EngineSent s t e [s.pieceWrite e (inkPriv s n) (a1 + p) k (patternValue (BitVec.ofNat 64 (dfld d.raw 32 8)) p k) false]) ∧
    (opc = 3 → p < len → ∀ k, k = min (64 - (a1 + p) % 64) (len - p) →
      ∃ t, exec (.zeroDescriptor e) s = .next t ∧ Moved (s.engine e) (t.engine e) (a1 + p) k ∧ t.inks = s.inks ∧
        EngineSent s t e [if k = 64 then s.engMsg e (inkPriv s n) 0 opcZERO_LINE 0 ((a1 + p) % 2 ^ 52) []
          else s.engMsg e (inkPriv s n) 0 opcWR_PART 0 ((a1 + p) % 2 ^ 52 / 64 * 64) (partBody (byteMask ((a1 + p) % 2 ^ 52 % 64) k) 0)]) ∧
    (opc = 4 → p < len → ∀ k, k = min (min (64 - (a0 + p) % 64) (64 - (a1 + p) % 64)) (len - p) →
      let r0 := fun j => s.engMsg e (inkPriv s n) j opcRD_UC 6 ((a0 + p) / 64 * 64) []
      let r1 := fun j => s.engMsg e (inkPriv s n) j opcRD_UC 6 ((a1 + p) / 64 * 64) []
      ∃ t ms, exec (.compareDescriptor e) s = .next t ∧ Moved (s.engine e) (t.engine e) (a1 + p) k ∧ t.inks = s.inks ∧
        EngineSent s t e ms ∧
        ((s.engine e).hasLine 0 ((a0 + p) / 64) → (s.engine e).hasLine 1 ((a1 + p) / 64) → ms = []) ∧
        ((s.engine e).hasLine 0 ((a0 + p) / 64) → ¬ (s.engine e).hasLine 1 ((a1 + p) / 64) → ms = [r1 0]) ∧
        (¬ (s.engine e).hasLine 0 ((a0 + p) / 64) → (s.engine e).hasLine 1 ((a1 + p) / 64) → ms = [r0 0]) ∧
        (¬ (s.engine e).hasLine 0 ((a0 + p) / 64) → ¬ (s.engine e).hasLine 1 ((a1 + p) / 64) → ms = [r0 0, r1 1])) ∧
    (opc = 5 → p < len → ∀ k, k = min (64 - (a0 + p) % 64) (len - p) →
      ∃ t ms, exec (.crcDescriptor e) s = .next t ∧ s.PieceReads e (inkPriv s n) (a0 + p) k ms ∧ EngineSent s t e ms ∧
        Moved (s.engine e) (t.engine e) 0 k ∧ t.inks = s.inks) ∧
    (∀ a l i k, (s.engine e).elem = some (a, l, i) → i < l →
      (opc = 6 → k = min (64 - (a1 + p) % 64) (l - i) →
        ((∀ v, ¬ (s.engine e).Here (a + i) k v) →
          ∃ t ms, exec (.gatherDescriptor e) s = .next t ∧ s.PieceReads e (inkPriv s n) (a + i) k ms ∧ EngineSent s t e ms ∧
            Moved (s.engine e) (t.engine e) (a1 + p) k ∧ (t.engine e).elem = some (a, l, i + k) ∧ t.inks = s.inks) ∧
        ∀ f bad v lo hi, (s.engine e).Here (a + i) k (f, bad) → coveredBytes (s.engine e).wrote (a + i) k = 0 →
          (s.engine e).gath = [] → v = lineBytes f ((a + i) % 64) k → lo = (a1 + p) / 64 * 64 - a1 →
          hi = min ((a1 + p) / 64 * 64 + 64 - a1) (s.engine e).total →
          (p = lo → k = hi - lo →
            ∃ t, exec (.gatherDescriptor e) s = .next t ∧ Moved (s.engine e) (t.engine e) (a1 + p) k ∧
              (t.engine e).elem = some (a, l, i + k) ∧ t.inks = s.inks ∧
              EngineSent s t e [s.pieceWrite e (inkPriv s n) (a1 + p) k v bad]) ∧
          (k < hi - lo → (s.engine e).elems ≠ [] →
            ∃ t, exec (.gatherDescriptor e) s = .next t ∧ (t.engine e).pos = p + k ∧ (t.engine e).gath = [(p, k, v, bad)] ∧
              (t.engine e).elem = some (a, l, i + k) ∧ t.inks = s.inks ∧ EngineSent s t e [])) ∧
      (opc = 7 → k = min (64 - (a + i) % 64) (l - i) →
        ((∀ v, ¬ (s.engine e).Here (a0 + p) k v) →
          ∃ t ms, exec (.scatterDescriptor e) s = .next t ∧ s.PieceReads e (inkPriv s n) (a0 + p) k ms ∧ EngineSent s t e ms ∧
            Moved (s.engine e) (t.engine e) (a + i) k ∧ (t.engine e).elem = some (a, l, i + k) ∧ t.inks = s.inks) ∧
        ∀ f bad, (s.engine e).Here (a0 + p) k (f, bad) → coveredBytes (s.engine e).wrote (a0 + p) k = 0 →
          coveredBytes (s.engine e).wrote (a + i) k = 0 →
          ∃ t, exec (.scatterDescriptor e) s = .next t ∧ Moved (s.engine e) (t.engine e) (a + i) k ∧
            (t.engine e).elem = some (a, l, i + k) ∧ t.inks = s.inks ∧
            EngineSent s t e [s.pieceWrite e (inkPriv s n) (a + i) k (lineBytes f ((a0 + p) % 64) k) bad])) ∧
    (∀ c ∈ ([(.gatherDescriptor e, 6, 16), (.scatterDescriptor e, 7, 16), (.atomicDescriptor e, 8, 32), (.maintDescriptor e, 9, 8)] :
        List (Instr × Nat × Nat)),
      opc = c.2.1 → (s.engine e).elem = none → (s.engine e).list = none → (s.engine e).listRd = none →
      (s.engine e).next < len → ∀ a, a = ((if opc = 7 then a1 else a0) + c.2.2 * (s.engine e).next) % 2 ^ 52 →
      ∃ t, exec c.1 s = .next t ∧ EngineSent s t e [s.engMsg e (inkPriv s n) 0 opcRD_UC 6 (a / 64 * 64) []] ∧
        (t.engine e).listRd = some (s.engTag e 0, a / 64) ∧ (t.engine e).next = (s.engine e).next ∧ t.inks = s.inks) ∧
    ∀ (l a v : Nat) (ld : LineData), (s.engine e).elem = none → (s.engine e).list = some (l, ld) → (s.engine e).next < len → l = a / 64 →
      (opc = 8 → a = (a0 + 32 * (s.engine e).next) % 2 ^ 52 → v = lineBytes ld (a % 64) 32 →
        ∃ t, exec (.atomicDescriptor e) s = .next t ∧ (t.engine e).next = (s.engine e).next + 1 ∧ t.inks = s.inks ∧
          EngineSent s t e [s.engMsg e (inkPriv s n) 0 opcAMO (v / 2 ^ 192 % 16) (v % 2 ^ 52)
            (let w := if v / 2 ^ 195 % 2 = 1 then 64 else 32
             amoBody (BitVec.ofNat 64 (v / 2 ^ 64 % 2 ^ w))
               (BitVec.ofNat 64 (if v / 2 ^ 192 % 8 = 2 then v / 2 ^ 128 % 2 ^ w else 0)))]) ∧
      (opc = 9 → a = (a0 + 8 * (s.engine e).next) % 2 ^ 52 → v = lineBytes ld (a % 64) 8 →
        ∃ t, exec (.maintDescriptor e) s = .next t ∧ (t.engine e).next = (s.engine e).next + 1 ∧ t.inks = s.inks ∧
          EngineSent s t e [s.engMsg e (inkPriv s n) 0 opcMAINT (v % 4) (v % 2 ^ 52 / 64 * 64) []])

/-- R364–R368, R374–R378: how descriptors are fetched, how TASK, MSG, WAIT and FENCE do their work, and how they end. The lowest
free engine serves the inkwell whose turn it is: it reads the descriptor at HEAD, or polls. A TASK enters its cluster's queue and
frees its engine; a MSG reads its payload; a WAIT polls, and times out with the last value; a FENCE ends, or stops its inkwell
where it was told to and something failed. A descriptor that ended without an engine completes on the lowest free one (log entry
84); the record of the oldest completion is written at CQ_TAIL, one record at a time (the model's choice, log entry 53); the
coalescing timer raises the event. -/
def Obligations.DescriptorsStartAndComplete : Prop :=
  (∀ (s : State) (e n : Nat), e < nEngines → inkLit s = true → lowestFree s = some e →
    nextWork s false = some (n, none) → touchesCw s (ringBase s n) (64 * inkSize s n) = false → EnginesNotFollowed s →
    ∃ t, exec (.descriptorFetch e) s = .next t ∧ lastServed t (inkPrio s n) = n ∧ t.inks = s.inks ∧
      (t.engine e).fetch = some (n, s.engTag e 0) ∧
      EngineSent (served s n) t e [s.engMsg e (inkPriv s n) 0 opcRD_UC 6 ((ringBase s n / 64 + (s.ink n).head % inkSize s n) % 2 ^ 46 * 64) []]) ∧
  (∀ (s : State) (e n slot : Nat) (d : Desc), EngineWorks s e n slot d → n < nInkwells → slot < 2 ^ 16 → d.slot = slot → d.engine = some e →
    (d.phase = .running ∨ (dfld d.raw 0 1 = 10 ∧ d.phase = .launching)) →
    (∀ c, dfld d.raw 0 1 = 10 → c = dfld d.raw 48 1 % 16 → s.clusterPresent c = true → s.domLit (44 + c) = true →
      (s.cluster c).resetting = false → s.bit (scrReg c 0) 0 = true → (s.dom (44 + c)).commanded ≠ some .cold →
      (d.raw.getLsbD 400 = true → inkPriv s n = true) → (s.cluster c).tasks.length < 32 →
      ∃ t r, exec (.taskDescriptor e) s = .next t ∧ t.cluster c = { s.cluster c with tasks := (s.cluster c).tasks ++ [r] } ∧
        r.inkwell = n ∧ r.index.toNat = slot ∧ r.entry.toNat = daddr d.raw 8 ∧ r.arg0.toNat = dfld d.raw 16 8 ∧
        r.mask.toNat = dfld d.raw 49 1 ∧ r.supervisor = d.raw.getLsbD 400 ∧ (t.engine e).work = none ∧
        descOf t n slot = some { d with phase := .inTask, engine := none } ∧ (∀ j, j ≠ c → t.cluster j = s.cluster j) ∧
        t = { s with clusters := t.clusters, inks := t.inks, engines := t.engines, acc := t.acc }) ∧
    (dfld d.raw 0 1 = 11 → (s.engine e).pos = 0 →
      ∃ t ms, exec (.msgDescriptor e) s = .next t ∧ t.inks = s.inks ∧ (t.engine e).pos = 4 * dfld d.raw 20 1 ∧
        s.PieceReads e (inkPriv s n) (daddr d.raw 8) (4 * dfld d.raw 20 1) ms ∧ EngineSent s t e ms) ∧
    (dfld d.raw 0 1 = 12 →
      ∃ t, exec (.waitDescriptor e) s = .next t ∧ EngineSent s t e [s.engMsg e (inkPriv s n) 0 opcRD_UC 3 (daddr d.raw 8) []] ∧
        descOf t n slot = some { d with phase := .polling, engine := some e } ∧ (∀ m, m ≠ n → t.ink m = s.ink m))) ∧
  (∀ (s : State) (e n : Nat) (d : Desc), e < nEngines → inkLit s = true → lowestFree s = some e →
    nextWork s true = some (n, some d.slot) → descOf s n d.slot = some d → d.phase = .wantPoll → EnginesNotFollowed s →
    ∃ t, exec (.waitPoll e) s = .next t ∧ lastServed t (inkPrio s n) = n ∧
      EngineSent (served s n) t e [s.engMsg e (inkPriv s n) 0 opcRD_UC 3 (daddr d.raw 8) []] ∧
      descOf t n d.slot = some { d with phase := .polling, engine := some e } ∧ (t.engine e).work = some (n, d.slot) ∧
      (∀ m, m ≠ n → t.ink m = s.ink m)) ∧
  (∀ (s : State) (n : Nat) (i : BitVec 16) (d : Desc), n < nInkwells → descOf s n i.toNat = some d →
    (dfld d.raw 0 1 = 12 → dfld d.raw 36 4 ≠ 0 → d.phase = .wantPoll → d.engine = none →
      ∃ t, exec (.waitTimeout n i) s = .next t ∧ descOf t n i.toNat = some { d with phase := .ended .timeout d.value } ∧
        (t.ink n).doneQ = (s.ink n).doneQ ∧ (∀ m, m ≠ n → t.ink m = s.ink m) ∧ t = { s with inks := t.inks }) ∧
    (dfld d.raw 0 1 = 12 → dfld d.raw 36 4 ≠ 0 → d.phase = .polling →
      ∃ t, exec (.waitTimeout n i) s = .next t ∧ descOf t n i.toNat = some { d with expired := true } ∧
        (∀ m, m ≠ n → t.ink m = s.ink m) ∧ t = { s with inks := t.inks }) ∧
    (∀ st res e, inkLit s = true → touchesCw s (cqBase s n) (16 * inkSize s n) = false → EnginesNotFollowed s →
      ∀ a, a = (cqBase s n + 16 * ((s.ink n).cqTail % inkSize s n)) % 2 ^ 52 →
      ∀ m, m = s.engMsg e (inkPriv s n) 0 opcWR_PART 0 (a / 64 * 64)
          (partBody (byteMask (a % 64) 16) (putLine 0 (a % 64) 16 (recordValue s n i.toNat d st res))) →
      (d.phase = .done st res → (s.ink n).recWr = none → (s.ink n).doneQ.head? = some i.toNat → d.engine = some e →
        ∃ t, exec (.descriptorComplete n i) s = .next t ∧ EngineSent s t e [m] ∧
          t.ink n = { s.ink n with recWr := some (e, s.engTag e 0, i.toNat) } ∧ (∀ j, j ≠ n → t.ink j = s.ink j)) ∧
      (d.phase = .ended st res → lowestFree s = some e → nextWork s false = some (n, some i.toNat) →
        ∃ t ms, exec (.descriptorComplete n i) s = .next t ∧ lastServed t (inkPrio s n) = n ∧ EngineSent (served s n) t e ms ∧
          descOf t n i.toNat = some { d with phase := .done st res, engine := some e } ∧ (t.engine e).work = some (n, i.toNat) ∧
          (t.ink n).doneQ = (s.ink n).doneQ ++ [i.toNat] ∧ (∀ j, j ≠ n → t.ink j = s.ink j) ∧
          (t.ink n).fails = (s.ink n).fails + (if st.failed = true ∧ dfld d.raw 0 1 ≠ 13 then 1 else 0) ∧
          ((s.ink n).doneQ = [] ∧ (s.ink n).recWr = none → ms = [m] ∧ (t.ink n).recWr = some (e, s.engTag e 0, i.toNat)) ∧
          (¬ ((s.ink n).doneQ = [] ∧ (s.ink n).recWr = none) → ms = [] ∧ (t.ink n).recWr = (s.ink n).recWr)))) ∧
  (∀ (s : State) (n : Nat) (d : Desc) (l : List Desc), n < nInkwells → (s.ink n).descs = d :: l → d.phase = .held → d.engine = none →
    inkLit s = true → dfld d.raw 0 1 = 13 →
    ((d.raw.getLsbD 64 = false ∨ (s.ink n).fails = 0) →
      ∃ t, exec (.fenceDescriptor n) s = .next t ∧ descOf t n d.slot = some { d with phase := .ended .ok 0 } ∧
        (t.ink n).doneQ = (s.ink n).doneQ ∧ (t.ink n).fails = 0 ∧ (t.ink n).halted = (s.ink n).halted ∧
        (∀ m, m ≠ n → t.ink m = s.ink m) ∧ t = { s with inks := t.inks, acc := t.acc }) ∧
    (d.raw.getLsbD 64 = true → (s.ink n).fails ≠ 0 →
      ∃ t, exec (.fenceDescriptor n) s = .next t ∧
        descOf t n d.slot = some { d with phase := .ended .fenceFailed (BitVec.ofNat 64 (s.ink n).fails) } ∧
        (t.ink n).fails = 0 ∧ (t.ink n).halted = true ∧ t.bit (inkReg n 0) 0 = false ∧ t.bit (inkReg n 0x2C) 5 = true ∧
        (∀ m, m ≠ n → t.ink m = s.ink m) ∧ t = { s with inks := t.inks, acc := t.acc, reg := t.reg, evt := t.evt })) ∧
  ∀ (s : State) (n : Nat), n < nInkwells → s.bit (inkReg n 0x28) 0 = true → s.fld (inkReg n 0x28) 16 16 ≠ 0 → 0 < (s.ink n).p →
    ∃ t, exec (.completionEventTimer n) s = .next t ∧
      t.evt = { s.evt with waiting := s.evt.waiting ++ [⟨0x61, 0x30, w32 (n + 2 ^ 12 * (s.ink n).cqTail)⟩] } ∧
      t.ink n = { s.ink n with p := 0 } ∧ (∀ m, m ≠ n → t.ink m = s.ink m) ∧ t = { s with inks := t.inks, evt := t.evt, acc := t.acc }

/-- R357, R361, R362, R379–R381: doorbells move TAIL and CQ_HEAD forward within the ring, and refuse the rest with DB_ERR; EN = 0
stops fetching, EN = 1 starts again, and RESET_PTRS zeroes the pointers of a disabled, empty inkwell. -/
def Obligations.DoorbellsAndControlsMoveTheirInkwell : Prop :=
  ∀ (s : State) (m : Master) (n : Nat), n < nInkwells →
    (∀ (v : Word), CwReach s m (doorbellOff n 0) → ∀ x, x = v.toNat % 2 ^ 17 →
      (x < 2 * inkSize s n → ringDiff (inkSize s n) x (s.ink n).head ≤ inkSize s n →
        ringDiff (inkSize s n) (s.ink n).tail (s.ink n).head ≤ ringDiff (inkSize s n) x (s.ink n).head →
        ∃ t, exec (.doorbellTailWrite m n v) s = .next t ∧ t.ink n = { s.ink n with tail := x } ∧
          (∀ j, j ≠ n → t.ink j = s.ink j) ∧ (∀ y, t.rd y = s.rd y) ∧ t = { s with inks := t.inks, acc := t.acc, reg := t.reg }) ∧
      (¬ (x < 2 * inkSize s n ∧ ringDiff (inkSize s n) x (s.ink n).head ≤ inkSize s n ∧
          ringDiff (inkSize s n) (s.ink n).tail (s.ink n).head ≤ ringDiff (inkSize s n) x (s.ink n).head) →
        ∃ t, exec (.doorbellTailWrite m n v) s = .next t ∧ t.bit (inkReg n 0x2C) 0 = true ∧
          t = { s with reg := t.reg, evt := t.evt, acc := t.acc })) ∧
    (∀ (v : Word), CwReach s m (doorbellOff n 4) → ∀ x, x = v.toNat % 2 ^ 17 →
      (x < 2 * inkSize s n →
        ringDiff (inkSize s n) (s.ink n).cqTail x ≤ ringDiff (inkSize s n) (s.ink n).cqTail (s.ink n).cqHead →
        ∃ t, exec (.doorbellCqHeadWrite m n v) s = .next t ∧ t.ink n = { s.ink n with cqHead := x } ∧
          (∀ j, j ≠ n → t.ink j = s.ink j) ∧ (∀ y, t.rd y = s.rd y) ∧ t = { s with inks := t.inks, acc := t.acc, reg := t.reg }) ∧
      (¬ (x < 2 * inkSize s n ∧
          ringDiff (inkSize s n) (s.ink n).cqTail x ≤ ringDiff (inkSize s n) (s.ink n).cqTail (s.ink n).cqHead) →
        ∃ t, exec (.doorbellCqHeadWrite m n v) s = .next t ∧ t.bit (inkReg n 0x2C) 0 = true ∧
          t = { s with reg := t.reg, evt := t.evt, acc := t.acc })) ∧
    (CwReach s m (inkReg n 0) → s.bit (inkReg n 0) 2 = false →
      (∃ t, exec (.inkwellDisable m n) s = .next t ∧ t.bit (inkReg n 0) 0 = false ∧
        (∀ x, x ≠ inkReg n 0 → t.rd x = s.rd x) ∧ t = { s with reg := t.reg }) ∧
      (s.compat = false → inkSizeOk s n = true →
        ∃ t, exec (.inkwellEnable m n) s = .next t ∧ t.bit (inkReg n 0) 0 = true ∧
          t.ink n = { s.ink n with halted := false, fails := if s.bit (inkReg n 0) 0 then (s.ink n).fails else 0 } ∧
          (∀ j, j ≠ n → t.ink j = s.ink j) ∧ (∀ x, x ≠ inkReg n 0 → t.rd x = s.rd x) ∧
          t = { s with reg := t.reg, inks := t.inks }) ∧
      (s.bit (inkReg n 0) 0 = false → (s.ink n).descs = [] → inkFetching s n = false →
        ∃ t, exec (.resetPtrs m n) s = .next t ∧ t.bit (inkReg n 0) 2 = false ∧
          t.ink n = { s.ink n with head := 0, tail := 0, cqTail := 0, cqHead := 0 } ∧ (∀ j, j ≠ n → t.ink j = s.ink j) ∧
          (∀ x, x ≠ inkReg n 0 → t.rd x = s.rd x) ∧ t = { s with reg := t.reg, inks := t.inks }))

/-! ## FIFOs and the CX image -/

/-- R384–R386, R505: a read of DATA pops the oldest entry of a FIFO; an empty FIFO gives the last entry popped again and sets
UNDERRUN; CLEAR empties it; a word written to the CX command FIFO is pushed, or sets OVERRUN where it is full. -/
def Obligations.FifosPopPushAndClear : Prop :=
  ∀ (s : State) (m : Master),
    (∀ (i : Nat) (f : Fifo), i < 8 → sget fifoD s.evt.mbox i = f →
      (∀ x l, CwReach s m (mboxReg i 0) → f.items = x :: l →
        ∃ t, exec (.fifoPop m (.mbox i)) s = .next t ∧ t.cwData = x ∧
          sget fifoD t.evt.mbox i = { f with items := l, rd := (f.rd + 1) % 512, last := x } ∧
          (∀ j, j ≠ i → sget fifoD t.evt.mbox j = sget fifoD s.evt.mbox j) ∧ (∀ y, t.rd y = s.rd y) ∧
          t = { s with cwData := x, reg := t.reg, evt := { s.evt with mbox := t.evt.mbox } }) ∧
      (CwReach s m (mboxReg i 0) → f.items = [] →
        ∃ t, exec (.fifoPop m (.mbox i)) s = .next t ∧ t.cwData = f.last ∧ sget fifoD t.evt.mbox i = f ∧
          t.bit (mboxReg i 0x10) 1 = true ∧ t = { s with cwData := f.last, reg := t.reg, evt := t.evt }) ∧
      (CwReach s m (mboxReg i 0x14) →
        ∃ t, exec (.fifoClear m (.mbox i)) s = .next t ∧ sget fifoD t.evt.mbox i = { f with items := [], rd := f.wr } ∧
          (∀ j, j ≠ i → sget fifoD t.evt.mbox j = sget fifoD s.evt.mbox j) ∧ t.bit (mboxReg i 0x14) 0 = false ∧
          t = { s with reg := t.reg, evt := { s.evt with mbox := t.evt.mbox } })) ∧
    (∀ x l, CwReach s m (efifoReg 0) → s.evt.efifo.items = x :: l →
      ∃ t, exec (.fifoPop m .event) s = .next t ∧ t.cwData = x ∧
        t.evt = { s.evt with efifo := { s.evt.efifo with items := l, rd := (s.evt.efifo.rd + 1) % 2048, last := x } } ∧
        t = { s with cwData := x, reg := t.reg, evt := t.evt }) ∧
    (∀ data : Word, CxReach s m 0x20 →
      (s.cx.cmd.items.length < 64 →
        ∃ t, exec (.cxCmdPush m data) s = .next t ∧ t.cx = { s.cx with cmd := { s.cx.cmd with
            items := s.cx.cmd.items ++ [data.setWidth 64], wr := (s.cx.cmd.wr + 1) % 128 } } ∧
          t = { s with reg := t.reg, cx := t.cx }) ∧
      (s.cx.cmd.items.length = 64 →
        ∃ t, exec (.cxCmdPush m data) s = .next t ∧ t.bit (cxReg 0x28) 0 = true ∧ t = { s with reg := t.reg })) ∧
    ∀ x l, CxReach s m 0x30 → s.cx.rsp.items = x :: l → x.toNat < 2 ^ 32 →
      ∃ t, exec (.cxRspPop m) s = .next t ∧ t.cwData = x ∧
        t.cx = { s.cx with rsp := { s.cx.rsp with items := l, rd := (s.cx.rsp.rd + 1) % 128, last := x } } ∧
        t = { s with cwData := x, reg := t.reg, cx := t.cx }

/-- R506–R515: the CX command engine. The oldest whole command is popped and checked; NOP begins; CX_COPY, CX_FILL and MAINT_RANGE
go on one piece or line at a time with privileged requests; MAINT_SW acts on its locations; the end pushes the response word and
frees the engine. A region register is written into every present slice. -/
def Obligations.CxCommandsRunOneAtATime : Prop :=
  (∀ (s : State) (h : DWord) (l : List DWord), cxMayStart s = true → s.domLit 60 = true → cold60 s = false →
    s.cx.cmd.items = h :: l →
    ∃ t r, exec .cxCommandStart s = .next t ∧ t.cx.run = some r ∧ r.hdr = h.setWidth 32 ∧
      r.args = (l.take (h.toNat / 2 ^ 8 % 2 ^ 4)).map (fun w => w.setWidth 32) ∧ r.began = false ∧
      r.status = cxCheck s { r with status := 0 } ∧ t.cx.cmd.items = l.drop (h.toNat / 2 ^ 8 % 2 ^ 4) ∧ t.cx.rsp = s.cx.rsp ∧
      (t.engine 0).work = none ∧ (∀ e, e ≠ 0 → t.engine e = s.engine e) ∧
      t = { s with cx := t.cx, engines := t.engines, acc := t.acc }) ∧
  (∀ (s : State) (r : CxRun) (tag : BitVec 16), s.cx.run = some r → r.tag = tag.toNat → r.status = 0 →
    (r.opc = 0 → exec (.nop tag) s = .next { s with cx := { s.cx with run := some { r with began := true } } }) ∧
    (∀ p, p = (s.engine 0).pos → (s.engine 0).work = none → (s.engine 0).fail = none → inFlight (s.engine 0) < 63 →
      s.boot.fatal = false → s.domLit 60 = true → EnginesNotFollowed s →
      let sent := fun (t : State) (ms : List Msg) => t.spine = { s.spine with req := s.spine.req ++ ms } ∧
        (∀ e, e ≠ 0 → t.engine e = s.engine e) ∧ t.cx = { s.cx with run := some { r with began := true } } ∧
        t = { s with cx := t.cx, engines := t.engines, spine := t.spine, acc := t.acc }
      (r.opc = 1 → p < r.arg 4 → ∀ k, k = min (64 - (r.addr 2 + p) % 64) (r.arg 4 - p) →
        ((∀ v, ¬ (s.engine 0).Here (r.addr 0 + p) k v) →
          ∃ t ms, exec (.cxCopy tag) s = .next t ∧ s.PieceReads 0 true (r.addr 0 + p) k ms ∧ sent t ms ∧
            Moved (s.engine 0) (t.engine 0) (r.addr 2 + p) k) ∧
        ∀ l bad, (s.engine 0).Here (r.addr 0 + p) k (l, bad) →
          ∃ t, exec (.cxCopy tag) s = .next t ∧ Moved (s.engine 0) (t.engine 0) (r.addr 2 + p) k ∧
            sent t [s.pieceWrite 0 true (r.addr 2 + p) k (lineBytes l ((r.addr 0 + p) % 64) k) bad]) ∧
      (r.opc = 2 → p < r.arg 2 → ∀ k, k = min (64 - (r.addr 0 + p) % 64) (r.arg 2 - p) →
        ∃ t, exec (.cxFill tag) s = .next t ∧ Moved (s.engine 0) (t.engine 0) (r.addr 0 + p) k ∧
          sent t [s.pieceWrite 0 true (r.addr 0 + p) k (patternValue (BitVec.ofNat 64 (r.arg 3 * (2 ^ 32 + 1))) p k) false]) ∧
      (r.opc = 3 → 0 < r.arg 2 → p < (r.addr 0 + r.arg 2 - 1) / 64 - r.addr 0 / 64 + 1 →
        ∃ t, exec (.maintRange tag) s = .next t ∧ (t.engine 0).pos = p + 1 ∧
          sent t [s.engMsg 0 true 0 opcMAINT (r.arg 3 % 4) (r.addr 0 / 64 * 64 + 64 * p) []])) ∧
    (∀ i set w, r.opc = 4 → s.boot.fatal = false → r.pos + 1 = swCount s (r.arg 0) → swPlace s (r.arg 0) r.pos = (i, set, w) → w < 16 →
      s.domLit (20 + i) = true → (s.hway i set w).valid = true → (s.hway i set w).dirty = false →
      lineBusy (s.slice i) (s.hway i set w).line = false →
      ∃ t, exec (.maintSw tag) s = .next t ∧
        t.cx = { s.cx with run := some { r with began := true, pos := r.pos + 1 } } ∧ (∀ j, j ≠ i → t.slice j = s.slice j) ∧
        OneWay s t i set w (if r.arg 0 / 2 ^ 22 % 4 = 0 then s.hway i set w else hlineD 0) ∧
        t = { s with cx := t.cx, slices := t.slices })) ∧
  (∀ (s : State) (r : CxRun), s.cx.run = some r → s.boot.fatal = false → cxOver s r = true → s.cx.rsp.items.length < 64 →
    ∃ t, exec .cxCommandComplete s = .next t ∧ t.cx = { s.cx with run := none, rsp := { s.cx.rsp with
        items := s.cx.rsp.items ++ [BitVec.ofNat 64 (cxStatus s r + 2 ^ 8 * r.opc + 2 ^ 16 * r.tag)],
        wr := (s.cx.rsp.wr + 1) % 128 } } ∧
      (t.engine 0).jobs = [] ∧ (∀ e, e ≠ 0 → t.engine e = s.engine e) ∧ t = { s with cx := t.cx, engines := t.engines, acc := t.acc }) ∧
  ∀ (s : State) (m : Master) (n : BitVec 4) (v : Word) (i : Nat), s.slicePresent i = true →
    (CxReach s m (0x100 + 8 * n.toNat) →
      ∃ t, exec (.cxRgnWrite m n false v) s = .next t ∧ t.fld (sliceReg i (0x1000 + 8 * n.toNat)) 0 22 = v.toNat % 2 ^ 20 ∧
        t = { s with reg := t.reg }) ∧
    (CxReach s m (0x104 + 8 * n.toNat) →
      ∃ t, exec (.cxRgnWrite m n true v) s = .next t ∧ t.fld (sliceReg i (0x1004 + 8 * n.toNat)) 0 22 = v.toNat % 2 ^ 20 ∧
        t.fld (sliceReg i (0x1004 + 8 * n.toNat)) 24 2 = (if v.getLsbD 24 then 2 else 1) ∧
        t.bit (sliceReg i (0x1004 + 8 * n.toNat)) 31 = v.getLsbD 31 ∧ t = { s with reg := t.reg })

/-! ## Telemetry -/

/-- R394–R399, R418: a handoff adds what a group has counted to its counters and leaves nothing to hand off, and a wrap sets the
overflow bit; of a cluster, PAIRS takes besides at most half of what INSTR takes (R354; how much is free, log entry 49). A sample
of a queue above its threshold counts, and raises the event where that is enabled; CLEAR_ALL zeroes every counter and every
overflow bitmap. -/
def Obligations.CountersTakeTheirIncrements : Prop :=
  (∀ (s : State) (g : Nat), g < 54 → s.domLit 61 = true →
    (swf zeroD s.acc = true → ∀ pairs, pairs = (if 36 ≤ g ∧ g < 52 then (s.slot g 0 + 1) / 2 else 0) →
      (∀ i < 32, sget zeroD s.tel.ctr (slotOf g i) + s.slot g i + pairs < 2 ^ 48) →
      ∃ t p, exec (.counterHandoff g) s = .next t ∧ p ≤ pairs ∧
        (∀ i < 32, t.slot g i = 0 ∧
          sget zeroD t.tel.ctr (slotOf g i) = sget zeroD s.tel.ctr (slotOf g i) + s.slot g i + (if i = 1 then p else 0)) ∧
        (∀ n, n / 32 ≠ g → sget zeroD t.tel.ctr n = sget zeroD s.tel.ctr n ∧ sget zeroD t.acc n = sget zeroD s.acc n) ∧
        t = { s with acc := t.acc, freeCtr := t.freeCtr, tel := { s.tel with ctr := t.tel.ctr } }) ∧
    (∀ i n, i < 32 → s.acc = [(slotOf g i, n)] → 2 ^ 48 ≤ sget zeroD s.tel.ctr (slotOf g i) + n →
      ∃ t, exec (.counterHandoff g) s = .next t ∧
        sget zeroD t.tel.ctr (slotOf g i) = (sget zeroD s.tel.ctr (slotOf g i) + n) % 2 ^ 48 ∧
        t.bit (telReg (0x4000 + 4 * g)) i = true ∧ t.acc = [])) ∧
  (∀ s : State, telDark s = false → s.tel.thr = [] →
    (∀ g q i occ, g < 54 → q < 4 → i < 4 → occupancy s g q = some occ → ¬ (g = 53 ∧ q = 0 ∧ i = 0) →
      occ ≤ s.fld (telReg (0x5000 + 0x40 * g + 0x10 * q + 4 * i)) 0 16) →
    s.fld (telReg 0x5D40) 0 16 < s.evt.efifo.items.length →
    ∃ t, exec .thresholdSample s = .next t ∧
      t.slot 53 16 = s.slot 53 16 + 1 ∧ (∀ n, n ≠ slotOf 53 16 → sget zeroD t.acc n = sget zeroD s.acc n) ∧
      t.tel = { s.tel with thr := t.tel.thr } ∧
      t.evt = (if s.bit (telReg 0x5D40) 31 then { s.evt with waiting := s.evt.waiting ++ [⟨0x70, 0x23, 53⟩] } else s.evt) ∧
      t = { s with tel := t.tel, evt := t.evt, acc := t.acc }) ∧
  ∀ (s : State) (m : Master), CwReach s m (telReg 0x8000) →
    ∃ t, exec (.clearAll m) s = .next t ∧ t.tel = { s.tel with ctr := [] } ∧
      (∀ g < 54, t.rd (telReg (0x4000 + 4 * g)) = 0) ∧ t.bit (telReg 0x8000) 0 = false ∧ t = { s with reg := t.reg, tel := t.tel }

/-- R400–R409: dumps and the blotter. A dump that falls due or is commanded is taken, or skipped where the ring has no free slot;
domain 61 in Ember wakes for one first. Its header, once written, advances PUT and raises DUMP_DONE with the record's number,
unless the engine has been stopped (log entry 85). EN loads the blotter and draws the first distance, by 16 steps (the model's
choice, log entry 52); a followed request whose response has left becomes a record, once domain 61 is Lit; a pair of records
leaves as a line, and one that has waited as half a line. -/
def Obligations.DumpsAndRecordsGoToTheirRings : Prop :=
  (∀ s : State, s.bit (telReg 0x8100) 0 = true → s.domLit 61 = true →
    (s.tel.dump = none → ringDiff (2 ^ dumpLog s) (s.fld (telReg 0x8110) 0 13) (s.fld (telReg 0x8114) 0 13) ≠ 2 ^ dumpLog s →
      ∃ t recno base, exec .dumpPeriod s = .next t ∧ DumpTaken s t recno base ∧ (∀ x, x ≠ telReg 0x811C → t.rd x = s.rd x)) ∧
    (ringDiff (2 ^ dumpLog s) (s.fld (telReg 0x8110) 0 13) (s.fld (telReg 0x8114) 0 13) = 2 ^ dumpLog s →
      ∃ t, exec .dumpPeriod s = .next t ∧ t.tel = { s.tel with gap := true } ∧ t.bit (telReg 0x8118) 1 = true ∧
        t.evt = (if s.bit (telReg 0x8118) 1 then s.evt else
          { s.evt with waiting := s.evt.waiting ++ [⟨0x70, 0x21, s.rd (telReg 0x811C) + 1⟩] }) ∧
        t.rd (telReg 0x811C) = s.rd (telReg 0x811C) + 1 ∧ t.spine = s.spine ∧
        t = { s with reg := t.reg, tel := t.tel, evt := t.evt, acc := t.acc })) ∧
  (∀ s : State, s.bit (telReg 0x8100) 0 = true → (s.dom 61).st = .ember → (s.dom 61).moving = none → s.domLit 3 = true →
    ∃ t, exec .dumpPeriod s = .next t ∧ t.tel = { s.tel with due := true } ∧
      t.dom 61 = { s.dom 61 with moving := some .lit, from_ := .ember } ∧ (∀ d, d ≠ 61 → t.dom d = s.dom d) ∧
      t = { s with tel := t.tel, doms := t.doms }) ∧
  (∀ (s : State) (m : Master), CwReach s m (telReg 0x8100) → s.tel.dump = none →
    ringDiff (2 ^ dumpLog s) (s.fld (telReg 0x8110) 0 13) (s.fld (telReg 0x8114) 0 13) ≠ 2 ^ dumpLog s →
    ∃ t recno base, exec (.dumpNow m) s = .next t ∧ DumpTaken s t recno base ∧ t.bit (telReg 0x8100) 1 = false ∧
      (∀ x, x ≠ telReg 0x811C → x ≠ telReg 0x8100 → t.rd x = s.rd x)) ∧
  (∀ (s : State) (d : DumpRec), Arrives s (fun m => m.dst == s.home && m.tag == dumpTag 0 && m.opc == opcWR_DONE) →
    s.tel.dump = some d → d.headerSent = true →
    (d.stopped = true → exec .dumpDone s = .next { s with tel := { s.tel with dump := none } }) ∧
    (d.stopped = false → ∃ t, exec .dumpDone s = .next t ∧ t.tel = { s.tel with dump := none } ∧
      t.fld (telReg 0x8110) 0 13 = (s.fld (telReg 0x8110) 0 13 + 1) % (2 * 2 ^ dumpLog s) ∧
      t.evt = { s.evt with waiting := s.evt.waiting ++ [⟨0x70, 0x20, w32 d.recno⟩] } ∧
      (∀ x, x ≠ telReg 0x8110 → t.rd x = s.rd x) ∧ t = { s with reg := t.reg, tel := t.tel, evt := t.evt })) ∧
  (∀ (s : State) (m : Master), CwReach s m (telReg 0x8200) → s.bit (telReg 0x8200) 0 = false →
    ∃ t l, exec (.blotterEnable m) s = .next t ∧ t.bit (telReg 0x8200) 0 = true ∧
      l = lfsrSteps 16 (if s.fld (telReg 0x820C) 0 16 = 0 then 0xACE1 else s.fld (telReg 0x820C) 0 16) ∧
      t.tel = { s.tel with blot := { s.tel.blot with lfsr := l, dist := blotDistance s.blotK (s.fld (telReg 0x8200) 4 4) l } } ∧
      (∀ x, x ≠ telReg 0x8200 → t.rd x = s.rd x) ∧ t = { s with reg := t.reg, tel := t.tel }) ∧
  (∀ (s : State) (i left : Nat) (f : Follow), s.tel.blot.follows[i]? = some f → f.left = some left →
    s.domLit 61 = true → s.tel.blot.ring.length < 4096 →
    exec (.blotterRecord i) s = .next { s with tel := { s.tel with blot := { s.tel.blot with
      follows := s.tel.blot.follows.eraseIdx i, ring := s.tel.blot.ring ++ [blotWords s f left] } } }) ∧
  ∀ (s : State) (r : List Word) (put size a : Nat), s.domLit 61 = true → s.tel.blot.drain = none → s.bit (telReg 0x8220) 1 = false →
    put = s.fld (telReg 0x8218) 0 21 → size = 2 ^ blotLog s →
    a = (s.rd (telReg 0x8210)).toNat / 64 * 64 + s.fld (telReg 0x8214) 0 20 * 2 ^ 32 + 32 * (put % size) →
    (∀ r2 l, s.tel.blot.ring = r :: r2 :: l → put % 2 = 0 →
      ringDiff size put (s.fld (telReg 0x821C) 0 21) + 2 ≤ size →
      ∃ t, exec .blotterDrainWrite s = .next t ∧ t.tel = { s.tel with blot := { s.tel.blot with drain := some (blotTag, 2) } } ∧
        t.spine = { s.spine with req := s.spine.req ++ [reqMsg s.home blotTag opcWR_LINE false 0 (BitVec.ofNat 52 a) false
          (wordsLE 16 (BitVec.ofNat 512 (ofWordsLE (withPhase s put r ++ withPhase s (put + 1) r2))).toNat)] } ∧
        t = { s with spine := t.spine, tel := t.tel }) ∧
    (s.tel.blot.ring = [r] → ringDiff size put (s.fld (telReg 0x821C) 0 21) < size →
      ∃ t, exec .blotterRecordWaitExpire s = .next t ∧
        t.tel = { s.tel with blot := { s.tel.blot with waited := true, drain := some (blotTag, 1) } } ∧
        t.spine = { s.spine with req := s.spine.req ++ [reqMsg s.home blotTag opcWR_PART false 0 (BitVec.ofNat 52 (a / 64 * 64)) false
          (partBody (byteMask (a % 64) 32) (putLine 0 (a % 64) 32 (ofWordsLE (withPhase s put r))))] } ∧
        t = { s with spine := t.spine, tel := t.tel })

/-! ## Events and the fatal state -/

/-- R410, R413–R416: the sequencer takes the oldest event of a source, gives it the next number and sends it where its route says:
to the event FIFO, or OVERRUN where two entries do not fit; to the event-message queue; to ALERT_N. The oldest event message goes
to the port of its agent, behind what the forwarding unit of a fabric port holds for the same order, or is lost. -/
def Obligations.EventsAreNumberedAndRouted : Prop :=
  (∀ (s : State) (e : Event) (l : List Event) (r : Nat), s.evt.waiting = e :: l → e.source < 128 → r = evtReg (0x100 + 4 * e.source) →
    ∃ t, exec (.eventSequence e.source) s = .next t ∧ t.evt.waiting = l ∧ t.evt.seq = s.evt.seq + 1 ∧ t.evt.mbox = s.evt.mbox ∧
      (if s.bit r 0 = true ∧ s.evt.efifo.items.length + 2 ≤ 1024 then
        t.evt.efifo = { s.evt.efifo with
          items := s.evt.efifo.items ++
            [BitVec.ofNat 64 (s.evt.seq.toNat % 2 ^ 32 + 2 ^ 32 * (s.evt.seq.toNat / 2 ^ 32 + 2 ^ 16 * e.source + 2 ^ 24 * (e.code % 128))),
             BitVec.ofNat 64 (e.info.toNat + 2 ^ 32 * (s.tb.count.toNat % 2 ^ 31) + 2 ^ 63)], wr := (s.evt.efifo.wr + 2) % 2048 }
      else t.evt.efifo = s.evt.efifo ∧ (s.bit r 0 = true → t.bit (efifoReg 0x10) 0 = true)) ∧
      (if s.bit r 1 = true ∧ s.compat = false ∧ s.evt.msgq.length < 256 then
        t.evt.msgq = s.evt.msgq ++ [s.mkMsg opcEVENT_MSG (eventDst s e) 0 0 false 0 (eventBody s.evt.seq e)]
      else t.evt.msgq = s.evt.msgq ∧ (s.bit r 1 = true → s.compat = false → t.bit (evtReg 0x10) 0 = true)) ∧
      (s.bit r 2 = true → t.bit (evtReg 0x14) 0 = true ∧ t.pins = { s.pins with alertN := false }) ∧
      (s.bit r 2 = false → t.pins = s.pins ∧ t.rd (evtReg 0x14) = s.rd (evtReg 0x14)) ∧
      t = { s with evt := t.evt, reg := t.reg, acc := t.acc, pins := t.pins }) ∧
  ∀ (s : State) (m : Msg) (l : List Msg), s.evt.msgq = m :: l →
    (∀ p, s.portFor m.dst = some p → s.canCarry p = true → m.hop = false → evtMayGo s m = true →
      (s.isFabric p = true → s.domLit (62 + p / 8) = true ∧ ∀ h ∈ s.spine.fwd, sameOrder h.msg m = false) →
      ∃ t, exec .eventMsgSend s = .next t ∧ t.evt = { s.evt with msgq := l } ∧
        t.port p = { s.port p with egress := (s.port p).egress ++ [m] } ∧ (∀ q, q ≠ p → t.port q = s.port q) ∧
        t = { s with evt := t.evt, ports := t.ports, acc := t.acc }) ∧
    (s.portFor m.dst = none →
      ∃ t, exec .eventMsgSend s = .next t ∧ t.evt = { s.evt with msgq := l } ∧ t.bit (evtReg 0x10) 0 = true ∧
        t = { s with evt := t.evt, reg := t.reg, acc := t.acc })

/-- R431, R437: a fatal error of R420 that is reported sets its bit, is numbered, sets FATAL with its cause and number, takes
READY low and stops every port; memory, slices, cores and fuses stay. A thermal trip takes every domain but 0 and 1 Cold. In the
fatal state a further error sets its bit, and where the bit was 0 raises its event (R411, R412). TAG_UE leaves its way and set
with KIND 3 in SLC_ERR_INFO. A hang of a Lit domain is such an error; one of another domain changes nothing. -/
def Obligations.FatalErrorsStopTheDevice : Prop :=
  (∀ (s : State) (source : BitVec 8) (code : BitVec 7) (info : Word) (off i : Nat),
    (source.toNat, code.toNat, off, i) ∈ [(3, 0x11, evtReg 0x20, 1), (3, 0x13, evtReg 0x20, 3), (3, 0x14, evtReg 0x20, 4),
        (3, 0x15, evtReg 0x20, 5)] ++ ((List.range 16).map fun n => (0x20 + n, 0x12, sliceReg n 0x88, 2)) ++
        ((List.range 4).map fun k => (0x40 + k, 0x16, hbmReg k 0x30, 6)) →
    (s.boot.fatal = false →
      ∃ t, exec (.enterFatalState source code info) s = .next t ∧ FatalEntered s t off i source.toNat code.toNat ∧ t.nv = s.nv ∧
        t.hbm = s.hbm ∧ (code.toNat ≠ 0x13 →
          t = { s with boot := t.boot, pins := t.pins, reg := t.reg, evt := t.evt, ports := t.ports, purge := t.purge,
                       spine := t.spine, tel := t.tel, acc := t.acc }) ∧
        (code.toNat = 0x13 → ∀ d, 2 ≤ d → d < 64 → (t.dom d).st = .cold ∧ (t.dom d).extra = 0)) ∧
    (s.boot.fatal = true → code.toNat ≠ 0x13 → ∃ t, exec (.enterFatalState source code info) s = .next t ∧ t.bit off i = true ∧
      t.evt = (if s.bit off i then s.evt else { s.evt with waiting := s.evt.waiting ++ [⟨source.toNat, code.toNat, info⟩] }) ∧
      (code.toNat ≠ 0x12 → ∀ x, x ≠ off → t.rd x = s.rd x) ∧ t = { s with reg := t.reg, evt := t.evt }) ∧
    (code.toNat = 0x12 → ∃ t, exec (.enterFatalState source code info) s = .next t ∧
      t.rd (sliceReg (source.toNat - 0x20) 0x8C) = w32 (info.toNat % 2 ^ 22 + 2 ^ 22 * 3))) ∧
  (∀ (s : State) (d : Nat), d < 64 → s.domLit d = true → s.boot.fatal = false →
    ∃ t, exec (.hang d) s = .next t ∧ FatalEntered s t (evtReg 0x20) 4 3 0x14 ∧ t.nv = s.nv ∧ t.hbm = s.hbm ∧ t.slices = s.slices ∧
      t.cores = s.cores ∧ t.doms = s.doms) ∧
  (∀ (s : State) (d : Nat), d < 64 → s.domLit d = true → s.boot.fatal = true →
    ∃ t, exec (.hang d) s = .next t ∧ t.bit (evtReg 0x20) 4 = true ∧ (∀ x, x ≠ evtReg 0x20 → t.rd x = s.rd x) ∧
      t.evt = (if s.bit (evtReg 0x20) 4 then s.evt else { s.evt with waiting := s.evt.waiting ++ [⟨3, 0x14, w32 d⟩] }) ∧
      t = { s with reg := t.reg, evt := t.evt }) ∧
  ∀ (s : State) (d : Nat), d < 64 → s.domLit d = false → exec (.hang d) s = .next s

/-! ## Power domains, the damper, voltage, temperature and age -/

/-- R135, R241, R287, R325, R326, R382, R396, R449, R456, R457: a domain command is carried out or refused, and domains gate only
once the power-up has ended (the model's choice, log entry 86). Lit ends at once. Ember begins once its conditions hold, a cluster
draining its buffers for it. Cold is refused where R449 does not allow it; else the unit prepares: a port is disabled, a slice's
Hearth is, with its directory bank, an HBM half empties its queues, a cluster is disabled, every inkwell is, telemetry stops; the
domain is gated once its preparation is done. R43, R270, R287, R449, R451, R454, R455, R457, R458, R460, R540: the idle timer
starts an Ember entry where its conditions hold, no wake source is present and IDLE is not 0; gating ends in Ember, an HBM half
closing its rows and entering self-refresh, or in Cold, which takes away what the unit holds, and the domain's command is
accepted; a wake source starts the wake of an Ember domain, or has one wake that is being gated once it has entered. The end of a
wake makes the domain Lit, raises the wake event where enabled, and after Cold gives its registers their post-boot values; an HBM
half leaves self-refresh. -/
def Obligations.DomainsMoveByCommandAndTimer : Prop :=
  (
  ∀ (s : State) (m : Master) (d : Nat), d < 64 → CwReach s m (domReg d 0) → s.domPresent d = true → s.domLit d = true →
    (s.dom d).commanded = none → (s.dom d).pend = none →
    let other := fun (t : State) => (∀ e, e ≠ d → t.dom e = s.dom e)
    let going := fun (t : State) (x : DomSt) => other t ∧ t.bit (domReg d 0) 4 = true ∧
      t.dom d = { s.dom d with refused := false, moving := some x, commanded := some x }
    let waits := fun (t : State) (x : DomSt) => other t ∧ t.bit (domReg d 0) 4 = true ∧
      t.dom d = { s.dom d with refused := false, commanded := some x }
    let refused := fun (o : Host.Outcome State Fault Refusal) => ∃ t, o = .next t ∧ other t ∧ t.bit (domReg d 0) 4 = false ∧
      t.bit (pwrReg 0x18) 3 = true ∧ t.dom d = { s.dom d with refused := true } ∧
      (if s.bit (pwrReg 0x18) 3 then t.evt = s.evt
       else ∃ e, t.evt = { s.evt with waiting := s.evt.waiting ++ [e] } ∧ e.source = 2 ∧ e.code = 0x13) ∧
      t = { s with reg := t.reg, doms := t.doms, evt := t.evt }
    (∃ t, exec (.domainLitCommand m d) s = .next t ∧ t.dom d = { s.dom d with refused := false } ∧ other t ∧
      t.bit (domReg d 0) 4 = false ∧ t = { s with reg := t.reg, doms := t.doms }) ∧
    (d < 2 → refused (exec (.domainEmberCommand m d) s)) ∧
    (2 ≤ d → s.boot.step = 8 → emberReady s d false = true →
      ∃ t, exec (.domainEmberCommand m d) s = .next t ∧ going t .ember ∧ t = { s with reg := t.reg, doms := t.doms }) ∧
    (2 ≤ d → s.boot.step ≠ 8 →
      ∃ t, exec (.domainEmberCommand m d) s = .next t ∧ waits t .ember ∧ t = { s with reg := t.reg, doms := t.doms }) ∧
    (2 ≤ d → s.boot.step = 8 → emberReady s d false = false →
      ∃ t, exec (.domainEmberCommand m d) s = .next t ∧ 
        ((d < 44 ∨ 60 ≤ d) → waits t .ember ∧ t = { s with reg := t.reg, doms := t.doms }) ∧
        (44 ≤ d → d < 60 → t.bit (domReg d 0) 4 = true ∧ (t.dom d).commanded = some .ember ∧
          (∀ e ∈ (t.cluster (d - 44)).gather, ∃ f ∈ (t.cluster (d - 44)).gather, f.line = e.line ∧ f.drain ≠ none) ∧
          (∀ k, k / 8 ≠ d - 44 → t.core k = s.core k) ∧ (∀ c, c ≠ d - 44 → t.cluster c = s.cluster c) ∧
          t = { s with reg := t.reg, doms := t.doms, cores := t.cores, clusters := t.clusters, spine := t.spine, acc := t.acc })) ∧
    ((d < 4 ∨ 62 ≤ d ∧ fwdInUse s (d - 62) = true) → refused (exec (.domainColdCommand m d) s)) ∧
    (s.boot.step = 8 → 4 ≤ d → (62 ≤ d → fwdInUse s (d - 62) = false) → ∃ t, exec (.domainColdCommand m d) s = .next t ∧
      (d < 20 → (s.port (d - 4)).st = .disabled ∨ (s.port (d - 4)).st = .down ∧ s.portEn (d - 4) = false →
        going t .cold ∧ t = { s with reg := t.reg, doms := t.doms }) ∧
      (d < 20 → (s.port (d - 4)).st ≠ .disabled → ¬ ((s.port (d - 4)).st = .down ∧ s.portEn (d - 4) = false) →
        (t.port (d - 4)).st = .quiesce ∧ (t.dom d).commanded = some .cold ∧ (t.dom d).moving = none) ∧
      (20 ≤ d → d < 36 → sliceIdle (s.slice (d - 20)) = true → (s.slice (d - 20)).dir = [] →
        let x := s.slice (d - 20)
        (x.disabled = true → going t .cold ∧ t.slice (d - 20) = { x with coldPrep := true }) ∧
        (x.disabled = false → x.disabling = false → waits t .cold ∧
          t.slice (d - 20) = { x with coldPrep := true, disabling := true, sweeps := [.disable] }) ∧
        (∀ i, i ≠ d - 20 → t.slice i = s.slice i) ∧ (∀ k line, (t.core k).resv = some line → s.sliceOf (line % 2 ^ 32) ≠ d - 20) ∧
        t = { s with reg := t.reg, doms := t.doms, slices := t.slices, cores := t.cores, resv := t.resv }) ∧
      (36 ≤ d → d < 44 → (if halfIdle s d then going t .cold else waits t .cold) ∧ t = { s with reg := t.reg, doms := t.doms }) ∧
      (44 ≤ d → d < 60 → (s.cluster (d - 44)).disabling = false → (s.cluster (d - 44)).tasks = [] → (t.cluster (d - 44)).disabling = true ∧
        (∀ k, k / 8 = d - 44 → (s.core k).st = .running → (t.core k).evDisabled = true) ∧
        ((∀ k, k / 8 = d - 44 → (s.core k).st = .idle) → clusterStill s (d - 44) = true → (s.cluster (d - 44)).tags = [] →
          going t .cold ∧ t = { s with reg := t.reg, doms := t.doms, clusters := t.clusters }) ∧
        ((∃ k, k / 8 = d - 44 ∧ (s.core k).st = .running) → (t.dom d).commanded = some .cold ∧ (t.dom d).moving = none)) ∧
      (d = 60 → (∀ n < Config.nInkwells, t.bit (inkReg n 0) 0 = false) ∧ t = { s with reg := t.reg, doms := t.doms } ∧
        (inksStill s = true → (∀ n, (s.ink n).descs = []) → s.cx.run = none → swf inkD s.inks = true → going t .cold)) ∧
      (d = 61 → (if s.tel.dump = none ∧ s.tel.blot.drain = none then going t .cold else waits t .cold) ∧ t.tel.ctr = [] ∧
        t = { s with reg := t.reg, doms := t.doms, tel := t.tel }) ∧
      (62 ≤ d → (if emberReady s d false then going t .cold else waits t .cold) ∧ t = { s with reg := t.reg, doms := t.doms }))) ∧
  (
  ∀ (s : State) (d : Nat), d < 64 → s.domPresent d = true →
    let other := fun (t : State) => (∀ e, e ≠ d → t.dom e = s.dom e)
    (s.boot.step = 8 → s.domLit d = true → s.fld (domReg d 8) 0 16 ≠ 0 → domStill s d = true → wanted s d = false → emberReady s d true = true →
      ∃ t, exec (.domainIdleTimerExpiry d) s = .next t ∧ t.dom d = { s.dom d with moving := some .ember } ∧
        other t ∧ t = { s with doms := t.doms }) ∧
    (s.fld (domReg d 8) 0 16 = 0 ∨ s.boot.step ≠ 8 ∨ domStill s d = false ∨ wanted s d = true →
      exec (.domainIdleTimerExpiry d) s = .next s) ∧
    ((s.dom d).moving = some .ember → (s.dom d).pend = none → (s.dom d).again = false → wanted s d = false →
      (s.dom d).commanded = none ∨ (s.dom d).commanded = some .ember →
      ∃ t, exec (.domainGatingComplete d) s = .next t ∧
        t.dom d = { s.dom d with st := .ember, moving := none, commanded := none, extra := 0, wants := 0 } ∧ other t ∧
        ((s.dom d).commanded = none → t.reg = s.reg) ∧ ((s.dom d).commanded ≠ none → t.bit (domReg d 0) 4 = false) ∧
        t = { s with doms := t.doms, pcs := t.pcs, reg := t.reg } ∧
        (36 ≤ d → d < 44 → ∀ p ∈ halfPcs d, (∀ sid < s.nSid, ∀ b < 16, openRow (t.pc p) sid b = 0) ∧
          (t.pc p).hist.head?.map (fun c => c.op) = some .srEnter) ∧
        (∀ p, (36 ≤ d → d < 44 → p ∉ halfPcs d) → t.pc p = s.pc p)) ∧
    ((s.dom d).moving = some .ember → (s.dom d).pend = none → (s.dom d).again = true → (s.dom d).commanded = none →
      (d < 20 ∨ 44 ≤ d) → (∀ h, halfOf d = some h → s.domLit h = true) →
      ∃ t, exec (.domainGatingComplete d) s = .next t ∧ other t ∧
        t.dom d = { s.dom d with st := .ember, moving := some .lit, from_ := .ember, extra := 0, wants := 0, again := false } ∧
        t = { s with doms := t.doms }) ∧
    ((s.dom d).moving = some .cold → (s.dom d).commanded = some .cold → (s.dom d).pend = none → (s.dom d).again = false →
      wanted s d = false → 4 ≤ d →
      ∃ t, exec (.domainGatingComplete d) s = .next t ∧
        t.dom d = { s.dom d with st := .cold, moving := none, commanded := none, extra := 0, wants := 0 } ∧
        other t ∧ t.bit (domReg d 0) 4 = false ∧ (d < 20 → t.port (d - 4) = Port.fresh .down) ∧ (∀ p, p + 4 ≠ d → t.port p = s.port p) ∧
        (20 ≤ d → d < 36 → t.slice (d - 20) = ashSlice (s.slice (d - 20)) ∧
          ∀ k line, (t.core k).resv = some line → s.sliceOf (line % 2 ^ 32) ≠ d - 20) ∧ (∀ i, i + 20 ≠ d → t.slice i = s.slice i) ∧
        (36 ≤ d → d < 44 → ∀ p ∈ halfPcs d, (t.pc p).trained = false) ∧ (∀ p, (36 ≤ d → d < 44 → p ∉ halfPcs d) → t.pc p = s.pc p) ∧
        (44 ≤ d → d < 60 →
          t.cluster (d - 44) = { clusterD 0 with tags := (s.cluster (d - 44)).tags, tagCtr := (s.cluster (d - 44)).tagCtr } ∧
          ∀ j < 8, t.core (8 * (d - 44) + j) = coreD 0) ∧ (∀ c, c + 44 ≠ d → t.cluster c = s.cluster c) ∧
        (∀ k, k / 8 + 44 ≠ d → t.core k = { s.core k with resv := (t.core k).resv }) ∧
        (d = 60 → t.inks = [] ∧ t.engines = []) ∧ (d ≠ 60 → t.inks = s.inks ∧ t.engines = s.engines) ∧
        (d = 61 → t.tel.ctr = []) ∧ (d ≠ 61 → t.tel = s.tel) ∧
        t = { s with doms := t.doms, reg := t.reg, resv := t.resv, clusters := t.clusters, cores := t.cores, inks := t.inks,
                     engines := t.engines, tel := t.tel, ports := t.ports, slices := t.slices, pcs := t.pcs }) ∧
    ((∀ h, halfOf d = some h → s.domLit h = true) →
      ∃ t, exec (.domainWake d) s = .next t ∧ other t ∧ t = { s with doms := t.doms } ∧
        ((s.dom d).st = .ember → (s.dom d).moving = none → t.dom d = { s.dom d with moving := some .lit, from_ := .ember }) ∧
        ((s.dom d).moving = some .ember → (s.dom d).st ≠ .cold → t.dom d = { s.dom d with again := true }) ∧
        (s.domLit d = true → t = s)) ∧
    (wakeReady s d = true → (s.dom d).commanded = none → (s.dom d).pend = none → s.reg.stalled = [] → (s.dom d).from_ = .ember →
      (20 ≤ d → d < 36 → sliceIdle (s.slice (d - 20)) = true ∧ ∀ r ∈ (s.slice (d - 20)).ret, r.kindle = false) →
      (36 ≤ d → d < 44 → ∀ p ∈ halfPcs d, (s.pc p).scrubDue = false) →
      (44 ≤ d → d < 60 → ∀ k, k / 8 + 44 = d → (s.core k).st ≠ .wfd) → (d = 61 → s.tel.due = false) →
      ∃ t, exec (.domainWakeComplete d) s = .next t ∧ t.dom d = { s.dom d with st := .lit, moving := none } ∧
        other t ∧ (∀ i, t.slice i = s.slice i) ∧ t = { s with doms := t.doms, evt := t.evt, pcs := t.pcs, slices := t.slices } ∧
        (36 ≤ d → d < 44 → ∀ p ∈ halfPcs d, (t.pc p).hist.head?.map (fun c => c.op) = some .srExit ∧
          (t.pc p).retrainFirst = ((s.pc p).retrainFirst || retrainDue s p)) ∧
        (∀ p, (36 ≤ d → d < 44 → p ∉ halfPcs d) → t.pc p = s.pc p) ∧
        t.evt = (if s.bit (evtReg (if d < 32 then 0x18 else 0x1C)) (d % 32) then
          { s.evt with waiting := s.evt.waiting ++ [⟨0x02, 0x20, w32 (d + 128)⟩] } else s.evt)) ∧
    (wakeReady s d = true → (s.dom d).commanded = none → (s.dom d).pend = none → s.reg.stalled = [] → (4 ≤ d ∧ d < 20 ∨ 60 ≤ d) →
      (s.dom d).from_ = .cold → swf regReset s.reg.postBoot = true → s.tel.due = false →
      ∃ t, exec (.domainWakeComplete d) s = .next t ∧ t.dom d = { s.dom d with st := .lit, moving := none } ∧ other t ∧
        (∀ off, inDomain d off = true → regTV off = false → t.rd off = sget regReset s.reg.postBoot off) ∧
        (∀ off, inDomain d off = false → t.rd off = s.rd off) ∧
        (d ≠ 61 ∨ t.bit (telReg 0x8200) 0 = false → t.tel = s.tel) ∧
        t = { s with reg := t.reg, doms := t.doms, evt := t.evt, tel := t.tel }))

/-- R461–R466: after a pass the fixed costs, what is granted and the measured shortfall fit the effective budget wherever the
protected part and the shortfall alone do, and no domain holds more than its maximum; where they do not, no extra is left, the
ageing raise ends and the shortfall is recorded. A pass takes BUDGET and BRAKE as they stand. A consumer asks for its full extra
(the model's reading, log entry 27), or gives it back. The brake ball takes a pass at once, within the brake budget. -/
def Obligations.TheDamperKeepsItsBudget : Prop :=
  let kept := fun (s t : State) => (t.damper.braked = (t.damper.pin || s.damper.hot)) ∧
    (protAt t (costV t) + t.damper.short ≤ effBudget t → protAt t (costV t) + granted t (costV t) + t.damper.short ≤ effBudget t) ∧
    (effBudget t < protAt t (costV t) + t.damper.short →
      (∀ d, 20 ≤ d → d < 60 → t.extraOf d (costV t) = 0) ∧ t.damper.raise = 0 ∧ t.bit (pwrReg 0x18) 2 = true) ∧
    (∀ d < 64, t.extraOf d (costV t) ≤ extraMax t (costV t) d ∧ (t.dom d).st = (s.dom d).st ∧ (t.dom d).moving = (s.dom d).moving) ∧
    t.damper.model = protAt t (costV t) + granted t (costV t) ∧
    t.damper.budget = s.fld (pwrReg 0) 0 11 ∧ t.damper.brake = s.fld (pwrReg 0) 16 11
  (∀ s : State, (s.boot.released = true → ∃ t, exec .damperPass s = .next t ∧ kept s t ∧ t.damper.pin = s.damper.pin ∧
      t = { s with doms := t.doms, damper := t.damper, reg := t.reg, evt := t.evt, acc := t.acc }) ∧
    (s.boot.released = false → exec .damperPass s = .next s)) ∧
  (∀ (s : State) (d : Nat), d < 64 →
    (s.domLit d = true → (consumer s d).2 ≠ 0 →
      ∃ t, exec (.extraRequest d) s = .next t ∧ t.dom d = { s.dom d with wants := extraMax s (costV s) d } ∧
        (∀ e, e ≠ d → t.dom e = s.dom e) ∧ t = { s with doms := t.doms }) ∧
    ∃ t, exec (.extraReturn d) s = .next t ∧ t.dom d = { s.dom d with extra := 0, wants := 0 } ∧
      (∀ e, e ≠ d → t.dom e = s.dom e) ∧ t = { s with doms := t.doms }) ∧
  (∀ (s : State) (n : Nat), (n < 100 → exec (.pwrBrakeAssert n) s = .next s) ∧
    (100 ≤ n → s.boot.released = false →
      exec (.pwrBrakeAssert n) s = .next { s with pins := { s.pins with brakeN := false } }) ∧
    (100 ≤ n → s.boot.released = true → ∃ t, exec (.pwrBrakeAssert n) s = .next t ∧ kept s t ∧ t.damper.pin = true ∧
      t.pins = { s.pins with brakeN := false } ∧ effBudget t ≤ max 640 (s.fld (pwrReg 0) 16 11) ∧
      t = { s with doms := t.doms, damper := t.damper, reg := t.reg, evt := t.evt, acc := t.acc, pins := t.pins })) ∧
  ∀ s : State, exec .pwrBrakeRelease s =
    .next { s with pins := { s.pins with brakeN := true }, damper := { s.damper with pin := false } }

/-- R434–R442, R468–R471: a poll takes voltage and current, a failed frame holds the voltage; a step moves the target by at most 5
mV, the last one by what is left (log entry 26), up only where every grant is covered, at the budget the last pass took; no frame
goes out before the boot has applied the records; a temperature above the warning takes the brake budget, above the trip the fatal
state; ages and service life accumulate and set their errors beyond their limits. -/
def Obligations.VoltageTemperatureAndAgeAreFollowed : Prop :=
  (∀ (s : State) (r : AvsReply), (avsLive s = false → exec (.avsPoll r) s = .next s ∧ exec (.avsVoltageStep r) s = .next s) ∧ (avsLive s = true →
    (r.ok = true → r.status = 0 → r.mv < 1024 → r.deciAmps < 65536 → exec (.avsPoll r) s =
      .next { s with damper := { s.damper with avsHold := false, mv := r.mv, deciAmps := r.deciAmps } }) ∧
    (r.ok = false → ∃ t, exec (.avsPoll r) s = .next t ∧ t.damper = { s.damper with avsHold := true, raise := 0 } ∧
      t.bit (pwrReg 0x18) 0 = true ∧ t = { s with damper := t.damper, reg := t.reg, evt := t.evt }) ∧
    (∀ v goal, r.ok = true → r.status = 0 → s.damper.avsHold = false → s.bit (pwrReg 0x8100) 0 = false → s.damper.raise = 0 →
      v = s.damper.target → 0 < v → goal = vSet s →
      ∃ t, exec (.avsVoltageStep r) s = .next t ∧
        t.damper = { s.damper with target := if v < goal then (if covered s (min goal (v + 5)) then min goal (v + 5) else v)
                                             else max goal (v - 5) } ∧
        (Agree s → t.reg = s.reg ∧ t.evt = s.evt ∧ t.acc = s.acc) ∧
        t = { s with damper := t.damper, reg := t.reg, evt := t.evt, acc := t.acc }))) ∧
  (∀ (s : State) (x : Int) (l : List Int), l.length < 24 → (∀ y ∈ l, y ≤ x) →
    (x ≤ 100 → (∀ k < 4, (s.stackSt k).temp ≤ 100) → exec (.damperTempRead (x :: l)) s =
      .next { s with damper := { s.damper with temps := x :: l, hot := false } }) ∧
    (105 < x → x ≤ 115 → ∃ t, exec (.damperTempRead (x :: l)) s = .next t ∧
      t.damper = { s.damper with temps := x :: l, hot := true } ∧ t.bit (evtReg 0x20) 2 = true ∧
      t = { s with damper := t.damper, reg := t.reg, evt := t.evt }) ∧
    (115 < x → ∃ t, exec (.damperTempRead (x :: l)) s = .next t ∧ t.boot.fatal = true ∧ t.bit (evtReg 0x20) 3 = true ∧
      ∀ d, 2 ≤ d → d < 64 → (t.dom d).st = .cold)) ∧
  (∀ (s : State) (k : Nat) (x : Int) (l : List Int), k < 4 → (∀ y ∈ l, y ≤ x) → s.stackPresent k = true → s.domLit (36 + 2 * k) = true →
    (x ≤ 105 → x ≤ (s.fld (hbmReg k 8) 0 8 : Int) → (100 < x ∨ ∃ y ∈ s.damper.temps, 100 < y) →
      ∃ t, exec (.stackTempRead k (x :: l)) s = .next t ∧
        t.stackSt k = { s.stackSt k with temp := x, ref2x := if 85 < x then true else if x ≤ 83 then false else (s.stackSt k).ref2x } ∧
        (∀ j, j ≠ k → t.stackSt j = s.stackSt j) ∧ t = { s with hstacks := t.hstacks }) ∧
    ((s.fld (hbmReg k 8) 0 8 : Int) < x → x ≤ 110 → ∃ t, exec (.stackTempRead k (x :: l)) s = .next t ∧ t.bit (hbmReg k 0x30) 7 = true ∧
      (t.stackSt k).temp = x ∧ t = { s with hstacks := t.hstacks, reg := t.reg, evt := t.evt, damper := t.damper }) ∧
    (110 < x → ∃ t, exec (.stackTempRead k (x :: l)) s = .next t ∧ t.boot.fatal = true ∧ t.bit (evtReg 0x20) 3 = true ∧
      ∀ d, 2 ≤ d → d < 64 → (t.dom d).st = .cold)) ∧
  (∀ (s : State) (d a : Nat), 2 ≤ d → d < 64 → s.domLit d = true → a < 4096 →
    ∃ t, exec (.ageMeasure d a) s = .next t ∧ sget zeroD t.damper.age d = a ∧ sget zeroD t.damper.ageValid d = 1 ∧
      (∀ e, e ≠ d → sget zeroD t.damper.age e = sget zeroD s.damper.age e) ∧
      (s.fld (pwrReg 0x8100) 16 12 < a → t.bit (evtReg 0x20) 8 = true) ∧
      (a ≤ s.fld (pwrReg 0x8100) 16 12 → t.reg = s.reg ∧ t.evt = s.evt) ∧
      t = { s with damper := t.damper, reg := t.reg, evt := t.evt }) ∧
  ∀ (s : State) (mv : Nat) (c : Int) (v f : Nat),
    (mv, v) ∈ [(620, 14400), (660, 20400), (700, 26400), (750, 36000), (775, 42000), (800, 48000), (850, 69600), (880, 86400)] →
    (c, f) ∈ ([(0, 180), (45, 540), (55, 990), (65, 1440), (85, 3600), (95, 5580), (105, 8640)] : List (Int × Nat)) →
    ∃ t, exec (.wearAccumulate mv c) s = .next t ∧ t.damper = { s.damper with wear := s.damper.wear + v * f } ∧
      (1262304000000 < (s.damper.wear + v * f) / 172800000 → t.bit (evtReg 0x20) 9 = true) ∧
      ((s.damper.wear + v * f) / 172800000 ≤ 1262304000000 → t.reg = s.reg ∧ t.evt = s.evt) ∧
      t = { s with damper := t.damper, reg := t.reg, evt := t.evt }

/-! ## Reset, boot, clocks, lifecycle, fuses, the crash log -/

/-- R410, R431, R445–R447, R462, R473, R474, R486–R488, R525, R530: RESET_N low for 10 µs and a rail out of range hold the device
in cold reset, which keeps only what power or fuses keep, and the test access port (the model's choice, log entry 61), until every
rail is back; with blank fuses and a blank flash the power-up that follows ends, once released, in the state after reset, its
memory wiped, its pseudo-channels trained, which leaves a free value for their eyes (that one command runs the boot, the state it
ends in, and the eyes are the model's: log entries 64, 9 and 81); a pulse too short resets nothing. Release waits until its ports
have been ACTIVE, or for the timeout; in the fatal state READY stays low. A warm reset keeps the fuses, the mode, the timebase,
the events that wait, their number and FIFO and the service life, and without KEEP_HOME wipes HBM. -/
def Obligations.ResetsKeepAndWipeWhatTheTableSays : Prop :=
  let held := fun (s : State) => { State.reset with
    pending := s.pending, freeCtr := s.freeCtr, cwData := s.cwData, tap := s.tap, nv := s.nv, phys := s.phys, hbm := s.hbm,
    ports := portsDown, pcs := pcsUntrained, tb := ⟨0, false⟩, pins := { s.pins with ready := false, alertN := true },
    boot := { Boot.released0 with copies := s.boot.copies, mode := none, step := 1, released := false, inReset := true } }
  let up := fun (s t : State) => t.boot.step = 7 ∧ t.boot.released = false ∧ t.pins.ready = false ∧ t.hbm = [] ∧
    exec (.release false) t = .next { State.reset with
      pending := s.pending, freeCtr := s.freeCtr + 1, cwData := s.cwData, tap := s.tap, pcs := t.pcs } ∧
    ∀ p < nPcs, t.pc p = { pcD 0 with eyeFree := some s.freeCtr }
  (∀ (s : State) (n : Nat) (low : Bool), n < 1000 →
    exec (.coldReset n low) s = .next { s with pins := { s.pins with resetN := !low } }) ∧
  (∀ (s : State) (n : Nat), 10000 ≤ n → s.boot.crashBusy = none → s.boot.fuseBusy = none →
    exec (.coldReset n true) s = .next (held { s with pins := { s.pins with resetN := false } })) ∧
  (∀ (s : State) (n : Nat), 10000 ≤ n → s.boot.crashBusy = none → s.boot.fuseBusy = none → s.nv = Nv.blank → s.phys = Phys.good → s.pins.warmResetN = true →
    s.pins.brakeN = true → ∃ t, exec (.coldReset n false) s = .next t ∧ up s t) ∧
  (∀ (s : State) (rail : Rail) (n : Nat), s.boot.crashBusy = none → s.boot.fuseBusy = none →
    let rails := fun (l : List Rail) => { s with phys := { s.phys with lowRails := l } }
    let rest := s.phys.lowRails.filter fun r => r != rail
    (n < 2000 → ∀ low, exec (.railUndervoltage rail n low) s = .next (rails (if low then rail :: rest else rest))) ∧
    (2000 ≤ n → exec (.railUndervoltage rail n true) s = .next (held (rails (rail :: rest))) ∧
      (rest ≠ [] → exec (.railUndervoltage rail n false) s = .next (held (rails rest))))) ∧
  (∀ s : State, (s.boot.inReset = false →
      exec .resetNRise s = .next { s with pins := { s.pins with resetN := true }, phys := { s.phys with lowRails := [] } }) ∧
    (s.nv = Nv.blank → s.phys = Phys.good → s.pins.warmResetN = true → s.pins.brakeN = true →
      ∃ t, exec .resetNRise (held s) = .next t ∧ up s t)) ∧
  (∀ (s : State) (late : List Nat), s.boot.step = 7 → s.boot.released = false → s.boot.failed = false → s.boot.fatal = false → s.pins.brakeN = true →
    late = ((waitedPorts s).filter fun p => !(s.port p).reached) →
    let done := fun (s : State) => { s with boot := { s.boot with step := 8, released := true }, pins := { s.pins with ready := true } }
    (late = [] → ∀ b, exec (.release b) s = .next (done s)) ∧
    (late ≠ [] → exec (.release false) s = .next s ∧
      ∃ v, exec (.release true) s = .next (done (s.raise 0x01 0x22 v)) ∧ ∀ p < Config.nPorts, v.getLsbD p = true ↔ p ∈ late)) ∧
  (∀ (s : State) (b : Bool), s.boot.fatal = true → exec (.release b) s = .next s) ∧
  (∀ (s : State) (n : Nat), (n < 1000 ∨ warmAccepted s = false) → exec (.warmReset (.pin n)) s = .next s) ∧
  ∀ (s : State) (n : Nat), 1000 ≤ n → warmAccepted s = true → s.boot.crashBusy = none → s.boot.fuseBusy = none → s.nv = Nv.blank → s.phys = Phys.good →
    s.bit (bootReg 0x10) 0 = false →
    ∃ t, exec (.warmReset (.pin n)) s = .next t ∧ t.boot.step = 7 ∧ t.boot.released = false ∧ t.boot.warm = true ∧
      (∀ b, s.boot.mode = some b → t.compat = b ∧ t.boot.mode = some b) ∧ t.boot.fatal = false ∧ t.pins.ready = false ∧ t.nv = s.nv ∧ t.tb = s.tb ∧ t.evt.seq = s.evt.seq ∧ t.evt.efifo = s.evt.efifo ∧
      (∃ l, t.evt.waiting = s.evt.waiting ++ l) ∧ t.evt.msgq = s.evt.msgq ∧
      t.damper.wear = s.damper.wear ∧ t.damper.age = s.damper.age ∧ t.bit (evtReg 0x20) 0 = false ∧
      t.rd (evtReg 0x24) = s.rd (evtReg 0x24) ∧ t.hbm = [] ∧ t.cores = [] ∧ t.clusters = [] ∧ t.inks = [] ∧ t.purge = [] ∧
      t.pending = s.pending

/-- R88, R89, R248, R433, R464, R493, R537: a grain counts while the timebase is locked, and every thousandth, or any while it is
not, opens a new window for the activity that grants limit (log entry 77); REFCLK0 takes and returns the lock; the loss of a
stack's clock is fatal and loses the stack's contents, but a device in reset only finds it missing. The test access port follows
TMS (as IEEE 1149.1 has it, log entry 44; TRST_N is its reset, log entry 61), captures IDCODE, the bypass bit or the boundary
register, shifts, and takes the latter's latches. -/
def Obligations.ClocksCountAndTheTestPortShifts : Prop :=
  (∀ s : State, ((∀ i, (s.slice i).inq = []) ∨ s.tb.locked = true ∧ (s.tb.count + 1).toNat % 1000 ≠ 0 →
      ∃ t, exec .timebaseTick s = .next t ∧ t.tb = { s.tb with count := if s.tb.locked then s.tb.count + 1 else s.tb.count } ∧
        ((s.tb.locked = true → (s.tb.count + 1).toNat % 1000 = 0) → ∀ n, 2048 ≤ n → sget zeroD t.acc n = 0) ∧
        (s.tb.locked = false → ∀ n < 2048, sget zeroD t.acc n = sget zeroD s.acc n) ∧ t = { s with tb := t.tb, acc := t.acc }) ∧
    (s.boot.inReset = false ∨ s.pins.resetN = false → exec .timebaseLockReturn s = .next { s with
      tb := { s.tb with locked := !s.boot.inReset }, phys := { s.phys with refclk := lmod s.phys.refclk 0 fun _ => true } })) ∧
  (∀ (s : State) (q : Nat), q < 4 →
    (s.phys.refclk.getD q false = false → exec (.refclkLoss q) s = .next s) ∧
    (s.phys.refclk.getD q false = true → s.boot.inReset = true → exec (.refclkLoss q) s =
      .next { s with phys := { s.phys with refclk := lmod s.phys.refclk q fun _ => false } }) ∧
    (s.phys.refclk.getD q false = true → s.boot.inReset = false → s.stackPresent q = true →
      ∃ t, exec (.refclkLoss q) s = .next t ∧ t.boot.fatal = true ∧ t.bit (evtReg 0x20) 1 = true ∧
        t.phys = { s.phys with refclk := lmod s.phys.refclk q fun _ => false } ∧ (∀ i < 32, (t.pc (32 * q + i)).trained = false) ∧
        (t.stackSt q).lost = true ∧ (∀ line, (hbmLoc s.ten line).pc / 32 = q → sget hbmLineD t.hbm line = hbmLineD 0) ∧
        (∀ line, (hbmLoc s.ten line).pc / 32 ≠ q → sget hbmLineD t.hbm line = sget hbmLineD s.hbm line) ∧
        t.nv = s.nv ∧ t.tb.count = s.tb.count ∧
        t.tb.locked = (if q = 0 then false else s.tb.locked))) ∧
  ∀ (s : State) (tms tdi : Bool), exec (.boundaryScan true tms tdi) s = .next { s with tap := Tap.reset } ∧
    ∃ t, exec (.boundaryScan false tms tdi) s = .next t ∧ t.tap.st = s.tap.st.next tms ∧
      (t.tap.st = .reset → t.tap.instr = .idcode ∧ t.tap.tdo = none) ∧
      (s.tap.st = .capDr → s.tapInstr = .idcode → t.tap.dr = natBits 32 (1 + 2 * 0x2B5 + 2 ^ 12 * s.boot.shadow.devId.toNat +
        2 ^ 28 * (s.boot.shadow.stepping.toNat / 16))) ∧
      (s.tap.st = .capDr → s.tapInstr = .bypass → t.tap.dr = [false]) ∧
      (s.tap.st = .capDr → boundaryScan s = true → t.tap.dr = Config.boundaryCells.map (captureCell s s.freeCtr)) ∧
      (t.tap.st = .updDr → boundaryScan s = true → t.tap.latch = s.tap.dr) ∧
      (∀ b l, s.tap.st = .shDr → s.tap.dr = b :: l → t.tap.dr = l ++ [tdi] ∧ (tms = false → t.tap.tdo = (l ++ [tdi]).head?)) ∧
      (s.tap.st = .shIr → t.tap.ir = tdi :: s.tap.ir) ∧ t = { s with tap := t.tap, freeCtr := t.freeCtr }

/-- R446–R448, R477, R489–R494: a lifecycle command of the secure master is refused with its cause (which of several, log entry
30) or programs every lifecycle row, none of which goes back (log entry 63), and begins a cold reset; a fuse command starts
programming or is refused, its end takes or leaves the fuses; a crash-log command records the state in a free slot, waits for the
one in progress, or sets ERR where there is no region. -/
def Obligations.LifecycleFusesAndCrashLogArePersistent : Prop :=
  let allowed := fun (s : State) (target : BitVec 2) => (s.lifecycle = 0 ∧ target = 1 ∧ s.boot.shadow.keySet = true) ∨
    (s.lifecycle = 1 ∧ target = 2) ∨ (s.lifecycle = 1 ∧ target = 3) ∨ (s.lifecycle = 2 ∧ target = 3)
  (∀ (s : State) (m : Master) (target : BitVec 2) (confirm : BitVec 16), CwReach s m (bootReg 0x30) → passes m (bootReg 0x30) = true →
    masterSecure m = true →
    (∀ c v, (c = 4 ∧ confirm ≠ 0x5AC3 ∨ c = 1 ∧ confirm = 0x5AC3 ∧ ¬ allowed s target) →
      ∃ t, exec (.lifecycleTransition m target confirm v) s = .next t ∧ t.bit (bootReg 0x38) 2 = true ∧
        t.fld (bootReg 0x38) 4 4 = c ∧ t.bit (bootReg 0x30) 4 = false ∧ t = { s with reg := t.reg }) ∧
    (confirm = 0x5AC3 → allowed s target → s.phys = Phys.good → s.pins.resetN = true → s.boot.fuseBusy = none →
      s.nv.fuses.criticalBad = false →
      ∃ t, exec (.lifecycleTransition m target confirm true) s = .next t ∧ t.nv.fuses = { s.nv.fuses with
          life := s.nv.fuses.life.map fun _ => ⟨BitVec.ofNat 2 (max s.nv.fuses.lifecycle target.toNat), true⟩ } ∧
        t.boot.shadow = t.nv.fuses.load ∧ t.boot.released = false ∧ t.pins.ready = false ∧ t.tb = ⟨0, true⟩ ∧ t.pending = s.pending)) ∧
  (∀ (s : State) (m : Master), CwReach s m (bootReg 0x34) → masterSecure m = true → s.boot.fuseBusy = none →
    let started := fun (o : Host.Outcome State Fault Refusal) (op : Nat) => ∃ t, o = .next t ∧
      t.boot = { s.boot with fuseBusy := some op } ∧ t.fld (bootReg 0x34) 0 2 = op ∧ t = { s with reg := t.reg, boot := t.boot }
    let refused := fun (o : Host.Outcome State Fault Refusal) (c : Nat) => ∃ t, o = .next t ∧ t.bit (bootReg 0x38) 2 = true ∧
      t.fld (bootReg 0x38) 4 4 = c ∧ t.bit (bootReg 0x34) 4 = false ∧ t = { s with reg := t.reg }
    (s.lifecycle = 0 → s.nv.fuses.keyHash = none → s.phys.vppFuse = true → started (exec (.programKeyHash m) s) 1) ∧
    (s.lifecycle = 0 → s.nv.fuses.keyHash ≠ none → refused (exec (.programKeyHash m) s) 2) ∧
    (s.lifecycle ≠ 0 → refused (exec (.programKeyHash m) s) 1) ∧
    (s.lifecycle = 0 ∨ s.lifecycle = 1 → s.phys.vppFuse = true → started (exec (.programCompatLock m) s) 2) ∧
    (s.lifecycle = 0 ∨ s.lifecycle = 1 → s.phys.vppFuse = false → refused (exec (.programCompatLock m) s) 3)) ∧
  (∀ (s : State) (ok : Bool), (s.boot.fuseBusy = none → exec (.fuseProgrammingComplete ok) s = .next s) ∧
    ∀ op, s.boot.fuseBusy = some op →
      ∃ t, exec (.fuseProgrammingComplete ok) s = .next t ∧ t.boot = { s.boot with fuseBusy := none } ∧ t.bit (bootReg 0x34) 4 = false ∧
        t.nv.fuses = (if op = 1 then { s.nv.fuses with
            key := ⟨some (BitVec.ofNat 384 (ofWordsLE ((List.range 12).map fun n => s.rd (bootReg (0x40 + 4 * n))))), ok⟩ }
          else if s.nv.fuses.compatLock then s.nv.fuses else { s.nv.fuses with lock := ⟨true, ok⟩ }) ∧
        (ok = true → t.bit (bootReg 0x38) 1 = true ∧ (op = 1 → t.nv.fuses.keyHash ≠ none) ∧ (op ≠ 1 → t.nv.fuses.compatLock = true)) ∧
        (ok = false → t.bit (bootReg 0x38) 2 = true ∧ t.fld (bootReg 0x38) 4 4 = 6 ∧ (op = 1 → t.nv.fuses.keyHash = none) ∧
          (op ≠ 1 → t.nv.fuses.compatLock = s.nv.fuses.compatLock)) ∧
        t = { s with boot := t.boot, reg := t.reg, nv := { s.nv with fuses := t.nv.fuses } }) ∧
  (∀ (s : State) (m : Master), CwReach s m (evtReg 0x30) → masterSecure m = true → s.boot.crashBusy = none →
    (s.fld (bootReg 0x20) 0 32 = 0 → ∃ t, exec (.crashLogWrite m) s = .next t ∧ t.bit (evtReg 0x34) 2 = true ∧
      t.bit (evtReg 0x30) 0 = false ∧ t = { s with reg := t.reg }) ∧
    (1024 ≤ s.fld (bootReg 0x20) 0 32 → s.nv.flash.crash = [] → ∃ t, exec (.crashLogWrite m) s = .next t ∧
      t.boot = { s.boot with crashBusy := some ⟨s.fld (bootReg 0x1C) 0 32, crashRecord t 0⟩ } ∧
      t = { s with reg := t.reg, boot := t.boot })) ∧
  (∀ (s : State) (m : Master), CwReach s m (evtReg 0x30) → masterSecure m = true → s.boot.crashBusy ≠ none →
    ∃ t, exec (.crashLogWrite m) s = .next t ∧ t.boot = { s.boot with crashNext := true } ∧ t.bit (evtReg 0x30) 0 = true ∧
      t = { s with reg := t.reg, boot := t.boot }) ∧
  ∀ (s : State) (r : CrashRec) (ok : Bool), s.boot.crashBusy = some r →
    let done := { s.nv with flash := { s.nv.flash with crash := s.nv.flash.crash ++ [if ok then r else { r with words := [] }] } }
    (s.boot.crashNext = false → ∃ t, exec (.crashLogWriteComplete ok) s = .next t ∧ t.boot = { s.boot with crashBusy := none } ∧
      t.nv = done ∧ t.bit (evtReg 0x30) 0 = false ∧ t.bit (evtReg 0x34) (if ok then 1 else 2) = true ∧
      t = { s with boot := t.boot, nv := t.nv, reg := t.reg }) ∧
    (s.boot.crashNext = true → 2048 ≤ s.fld (bootReg 0x20) 0 32 → s.nv.flash.crash = [] → r.off = s.fld (bootReg 0x1C) 0 32 →
      ∃ t q, exec (.crashLogWriteComplete ok) s = .next t ∧ t.boot = { s.boot with crashBusy := some q, crashNext := false } ∧
        q.off = s.fld (bootReg 0x1C) 0 32 + 1024 ∧ t.nv = done ∧ t.bit (evtReg 0x34) (if ok then 1 else 2) = true ∧
        t.rd (evtReg 0x30) = s.rd (evtReg 0x30) ∧ t = { s with boot := t.boot, nv := t.nv, reg := t.reg })

/-! ## The machine as a whole -/

/-- A step runs the command at the front of the queue on the state with the queue's rest; on an empty queue the block idles (the
model's choice, log entry 1). -/
def Obligations.AStepRunsTheFrontCommand : Prop :=
  (∀ (s : State) (c : Instr), step { s with pending := c :: s.pending } = exec c s) ∧
  (∀ (s : State) (c : Instr) (rest : List Instr), s.pending = c :: rest → step s = exec c { s with pending := rest }) ∧
  ∀ s : State, s.pending = [] → step s = .next s

/-- The machine after reset, of the variant and fuses that the model chooses and with the timebase locked at zero (log entry 9;
R88 counts from boot step 1): READY high, every domain Lit, every counter zero, nothing in a queue, every line of home memory zero
and sound, and the registers at the defaults of their tables (R88, R137, R164, R244, R290, R417, R441, R445, R453, R472, R474,
R477, R494). FuseStep, the premise of FusesOnlyMoveForward, holds there. -/
def Obligations.ResetLeavesTheTabledValues : Prop :=
  State.reset.pending = [] ∧ State.reset.pins.ready = true ∧ State.reset.pins.alertN = true ∧ State.reset.tb = ⟨0, true⟩ ∧
  (∀ d, (State.reset.dom d).st = .lit ∧ (State.reset.dom d).moving = none) ∧ (∀ n, sget zeroD State.reset.tel.ctr n = 0) ∧
  (∀ line, sget hbmLineD State.reset.hbm line = { data := 0, poison := false, errs := [] }) ∧
  (∀ e ∈ [(portReg 3 4, 0, 1, 1), (portReg 3 0x14, 16, 4, 8), (dirReg 0x1010, 0, 1, 0), (sliceReg 2 0, 0, 1, 1),
      (sliceReg 2 0x44, 0, 16, 0xFFFF), (hbmReg 1 0x10, 0, 7, 64), (hbmReg 1 0x14, 0, 16, 2000), (hbmReg 1 0x20, 8, 24, 3400000),
      (inkReg 5 0xC, 24, 5, 4), (evtReg 0x100, 0, 1, 1), (evtReg 0x108, 0, 1, 0), (pwrReg 0x8100, 16, 12, 1126),
      (pwrReg 0, 0, 11, 1360), (pwrReg 0, 16, 11, 800), (pwrReg 8, 0, 10, 750), (bootReg 0x10, 0, 1, 0), (0x8, 0, 1, 0)],
    State.reset.fld e.1 e.2.1 e.2.2.1 = e.2.2.2) ∧
  FuseStep State.reset

/-- Every command whose operands name units that exist is executed: it answers a next state in every state; the others stop in the
fault noSuchUnit (the model's choice, log entry 7), and no command is refused. That a condition which a command stands for but the
state does not meet leaves the state as it is, is the model's reading (log entry 2). -/
def Obligations.CommandsOnExistingUnitsRun : Prop :=
  ∀ (c : Instr) (s : State), (c.wellFormed = true → ∃ t, exec c s = .next t) ∧
    (c.wellFormed = false → exec c s = .fault .noSuchUnit)

/-- R333–R349: every scribe instruction has a word, and no other command has; it decodes to it for its core, with every operand; a
word that decodes has an encoding that decodes to the same; and a word whose major opcode R335 does not list decodes to nothing
(R334). -/
def Obligations.ScribeWordsDecodeAsEncoded : Prop :=
  (∀ i : Instr, isScribe i = true ↔ ∃ w, scribeEncode i = some w) ∧
  (∀ (i : Instr) (w : Word), scribeEncode i = some w → ∃ k, scribeDecode k w = some i) ∧
  (∀ (k : Nat) (w : Word) (i : Instr), scribeDecode k w = some i → ∃ v, scribeEncode i = some v ∧ scribeDecode k v = some i) ∧
  (∀ (k : Nat) (w : Word), (w.extractLsb' 26 6).toNat ∉ [0x01, 0x02, 0x03, 0x04, 0x05, 0x06, 0x07, 0x08, 0x09, 0x0A, 0x10, 0x11, 0x12,
      0x13, 0x14, 0x15, 0x16, 0x18, 0x19, 0x1A, 0x1B, 0x1C, 0x1D, 0x20, 0x21, 0x22, 0x28, 0x29, 0x2A, 0x30, 0x31, 0x38] →
    scribeDecode k w = none) ∧
  ∀ k : Nat, scribeDecode k 0x24C00200 = some (.lui k 6 0x200) ∧ scribeDecode k 0x80A63808 = some (.amoAdd k true 5 6 7) ∧
    scribeDecode k 0xA0E01FFD = some (.brEq k 7 0 0x1FFD)

/-- R446, R477, R489, R490, R492: whatever the state and the command, no step takes a programmed fuse back: the lifecycle state
only advances, the compatibility lock and the key hash stay once set, identity rows stay; and a step takes exactly the front
command off the queue. The premise, that key programming runs only while no key is set, is itself kept. -/
def Obligations.FusesOnlyMoveForward : Prop :=
  ∀ s t : State, FuseStep s → step s = .next t →
    FuseStep t ∧ FusesForward s.nv.fuses t.nv.fuses ∧ t.pending = s.pending.tail
end

