-- ==== Sys2Proof/Laws/Decode.lean ====
section
/-! SUPPORT. Lemmas of the scribe instruction words: the fields of each format, and what decoding a word of a format gives. -/
namespace Sys2Proof

theorem extract_hi {n m : Nat} (x : BitVec n) (y : BitVec m) (lo len : Nat) (h : m ≤ lo) :
    (x ++ y).extractLsb' lo len = x.extractLsb' (lo - m) len := BitVec.extractLsb'_append_eq_of_le h
theorem extract_lo {n m : Nat} (x : BitVec n) (y : BitVec m) (lo len : Nat) (h : lo + len ≤ m) :
    (x ++ y).extractLsb' lo len = y.extractLsb' lo len := BitVec.extractLsb'_append_eq_of_add_le h
theorem extract_all {n : Nat} (x : BitVec n) : x.extractLsb' 0 n = x := BitVec.extractLsb'_eq_self

theorem fmtR_0 (op : BitVec 6) (rd ra rb rc : BitVec 5) (fn : BitVec 6) :
    (fmtR op rd ra rb rc fn).extractLsb' 0 6 = fn := by
  unfold fmtR; rw [extract_lo]  <;> first | decide | exact extract_all _
theorem fmtR_6 (op : BitVec 6) (rd ra rb rc : BitVec 5) (fn : BitVec 6) :
    (fmtR op rd ra rb rc fn).extractLsb' 6 5 = rc := by
  unfold fmtR; rw [extract_hi, extract_lo]  <;> first | decide | exact extract_all _
theorem fmtR_11 (op : BitVec 6) (rd ra rb rc : BitVec 5) (fn : BitVec 6) :
    (fmtR op rd ra rb rc fn).extractLsb' 11 5 = rb := by
  unfold fmtR; rw [extract_hi, extract_hi, extract_lo]  <;> first | decide | exact extract_all _
theorem fmtR_16 (op : BitVec 6) (rd ra rb rc : BitVec 5) (fn : BitVec 6) :
    (fmtR op rd ra rb rc fn).extractLsb' 16 5 = ra := by
  unfold fmtR; rw [extract_hi, extract_hi, extract_hi, extract_lo]  <;> first | decide | exact extract_all _
theorem fmtR_21 (op : BitVec 6) (rd ra rb rc : BitVec 5) (fn : BitVec 6) :
    (fmtR op rd ra rb rc fn).extractLsb' 21 5 = rd := by
  unfold fmtR; rw [extract_hi, extract_hi, extract_hi, extract_hi, extract_lo]  <;> first | decide | exact extract_all _
theorem fmtR_26 (op : BitVec 6) (rd ra rb rc : BitVec 5) (fn : BitVec 6) :
    (fmtR op rd ra rb rc fn).extractLsb' 26 6 = op := by
  unfold fmtR; rw [extract_hi, extract_hi, extract_hi, extract_hi, extract_hi]  <;> first | decide | exact extract_all _

theorem fmtI_0 (op : BitVec 6) (rd ra : BitVec 5) (imm : BitVec 16) :
    (fmtI op rd ra imm).extractLsb' 0 16 = imm := by
  unfold fmtI; rw [extract_lo]  <;> first | decide | exact extract_all _
theorem fmtI_16 (op : BitVec 6) (rd ra : BitVec 5) (imm : BitVec 16) :
    (fmtI op rd ra imm).extractLsb' 16 5 = ra := by
  unfold fmtI; rw [extract_hi, extract_lo]  <;> first | decide | exact extract_all _
theorem fmtI_21 (op : BitVec 6) (rd ra : BitVec 5) (imm : BitVec 16) :
    (fmtI op rd ra imm).extractLsb' 21 5 = rd := by
  unfold fmtI; rw [extract_hi, extract_hi, extract_lo]  <;> first | decide | exact extract_all _
theorem fmtI_26 (op : BitVec 6) (rd ra : BitVec 5) (imm : BitVec 16) :
    (fmtI op rd ra imm).extractLsb' 26 6 = op := by
  unfold fmtI; rw [extract_hi, extract_hi, extract_hi]  <;> first | decide | exact extract_all _

theorem fmtB_0 (ra rb : BitVec 5) (cc : BitVec 3) (off : BitVec 13) :
    (fmtB ra rb cc off).extractLsb' 0 13 = off := by
  unfold fmtB; rw [extract_lo]  <;> first | decide | exact extract_all _
theorem fmtB_13 (ra rb : BitVec 5) (cc : BitVec 3) (off : BitVec 13) :
    (fmtB ra rb cc off).extractLsb' 13 3 = cc := by
  unfold fmtB; rw [extract_hi, extract_lo]  <;> first | decide | exact extract_all _
theorem fmtB_16 (ra rb : BitVec 5) (cc : BitVec 3) (off : BitVec 13) :
    (fmtB ra rb cc off).extractLsb' 16 5 = rb := by
  unfold fmtB; rw [extract_hi, extract_hi, extract_lo]  <;> first | decide | exact extract_all _
theorem fmtB_21 (ra rb : BitVec 5) (cc : BitVec 3) (off : BitVec 13) :
    (fmtB ra rb cc off).extractLsb' 21 5 = ra := by
  unfold fmtB; rw [extract_hi, extract_hi, extract_hi, extract_lo]  <;> first | decide | exact extract_all _
theorem fmtB_26 (ra rb : BitVec 5) (cc : BitVec 3) (off : BitVec 13) :
    (fmtB ra rb cc off).extractLsb' 26 6 = 0x28#6 := by
  unfold fmtB; rw [extract_hi, extract_hi, extract_hi, extract_hi]  <;> decide

theorem fmtU_0 (op : BitVec 6) (rd : BitVec 5) (imm : BitVec 21) :
    (fmtU op rd imm).extractLsb' 0 21 = imm := by
  unfold fmtU; rw [extract_lo]  <;> first | decide | exact extract_all _
theorem fmtU_21 (op : BitVec 6) (rd : BitVec 5) (imm : BitVec 21) :
    (fmtU op rd imm).extractLsb' 21 5 = rd := by
  unfold fmtU; rw [extract_hi, extract_lo]  <;> first | decide | exact extract_all _
theorem fmtU_26 (op : BitVec 6) (rd : BitVec 5) (imm : BitVec 21) :
    (fmtU op rd imm).extractLsb' 26 6 = op := by
  unfold fmtU; rw [extract_hi, extract_hi]  <;> first | decide | exact extract_all _

theorem fmtWI_0 (op : BitVec 6) (w : BitVec 4) (ra : BitVec 5) (imm : BitVec 16) :
    (fmtWI op w ra imm).extractLsb' 0 16 = imm := by
  unfold fmtWI; rw [extract_lo]  <;> first | decide | exact extract_all _
theorem fmtWI_16 (op : BitVec 6) (w : BitVec 4) (ra : BitVec 5) (imm : BitVec 16) :
    (fmtWI op w ra imm).extractLsb' 16 5 = ra := by
  unfold fmtWI; rw [extract_hi, extract_lo]  <;> first | decide | exact extract_all _
theorem fmtWI_21 (op : BitVec 6) (w : BitVec 4) (ra : BitVec 5) (imm : BitVec 16) :
    (fmtWI op w ra imm).extractLsb' 21 1 = 0#1 := by
  unfold fmtWI; rw [extract_hi, extract_hi, extract_lo]  <;> decide
theorem fmtWI_22 (op : BitVec 6) (w : BitVec 4) (ra : BitVec 5) (imm : BitVec 16) :
    (fmtWI op w ra imm).extractLsb' 22 4 = w := by
  unfold fmtWI; rw [extract_hi, extract_hi, extract_hi, extract_lo]  <;> first | decide | exact extract_all _
theorem fmtWI_26 (op : BitVec 6) (w : BitVec 4) (ra : BitVec 5) (imm : BitVec 16) :
    (fmtWI op w ra imm).extractLsb' 26 6 = op := by
  unfold fmtWI; rw [extract_hi, extract_hi, extract_hi, extract_hi]  <;> first | decide | exact extract_all _

theorem fmtW_0 (wd wa wb : BitVec 4) (ls : BitVec 2) (fn : BitVec 6) :
    (fmtW wd wa wb ls fn).extractLsb' 0 6 = fn := by
  unfold fmtW; rw [extract_lo]  <;> first | decide | exact extract_all _
theorem fmtW_6 (wd wa wb : BitVec 4) (ls : BitVec 2) (fn : BitVec 6) :
    (fmtW wd wa wb ls fn).extractLsb' 6 6 = 0#6 := by
  unfold fmtW; rw [extract_hi, extract_lo]  <;> decide
theorem fmtW_12 (wd wa wb : BitVec 4) (ls : BitVec 2) (fn : BitVec 6) :
    (fmtW wd wa wb ls fn).extractLsb' 12 2 = ls := by
  unfold fmtW; rw [extract_hi, extract_hi, extract_lo]  <;> first | decide | exact extract_all _
theorem fmtW_14 (wd wa wb : BitVec 4) (ls : BitVec 2) (fn : BitVec 6) :
    (fmtW wd wa wb ls fn).extractLsb' 14 4 = wb := by
  unfold fmtW; rw [extract_hi, extract_hi, extract_hi, extract_lo]  <;> first | decide | exact extract_all _
theorem fmtW_18 (wd wa wb : BitVec 4) (ls : BitVec 2) (fn : BitVec 6) :
    (fmtW wd wa wb ls fn).extractLsb' 18 4 = wa := by
  unfold fmtW; rw [extract_hi, extract_hi, extract_hi, extract_hi, extract_lo]  <;> first | decide | exact extract_all _
theorem fmtW_22 (wd wa wb : BitVec 4) (ls : BitVec 2) (fn : BitVec 6) :
    (fmtW wd wa wb ls fn).extractLsb' 22 4 = wd := by
  unfold fmtW; rw [extract_hi, extract_hi, extract_hi, extract_hi, extract_hi, extract_lo]  <;> first | decide | exact extract_all _
theorem fmtW_26 (wd wa wb : BitVec 4) (ls : BitVec 2) (fn : BitVec 6) :
    (fmtW wd wa wb ls fn).extractLsb' 26 6 = 0x30#6 := by
  unfold fmtW; rw [extract_hi, extract_hi, extract_hi, extract_hi, extract_hi, extract_hi]  <;> decide

theorem fmtG_0 (ga : BitVec 5) (w : BitVec 4) (gb : BitVec 5) (ls : BitVec 2) (idx fn : BitVec 5) :
    (fmtG ga w gb ls idx fn).extractLsb' 0 5 = fn := by
  unfold fmtG; rw [extract_lo]  <;> first | decide | exact extract_all _
theorem fmtG_5 (ga : BitVec 5) (w : BitVec 4) (gb : BitVec 5) (ls : BitVec 2) (idx fn : BitVec 5) :
    (fmtG ga w gb ls idx fn).extractLsb' 5 5 = idx := by
  unfold fmtG; rw [extract_hi, extract_lo]  <;> first | decide | exact extract_all _
theorem fmtG_10 (ga : BitVec 5) (w : BitVec 4) (gb : BitVec 5) (ls : BitVec 2) (idx fn : BitVec 5) :
    (fmtG ga w gb ls idx fn).extractLsb' 10 2 = ls := by
  unfold fmtG; rw [extract_hi, extract_hi, extract_lo]  <;> first | decide | exact extract_all _
theorem fmtG_12 (ga : BitVec 5) (w : BitVec 4) (gb : BitVec 5) (ls : BitVec 2) (idx fn : BitVec 5) :
    (fmtG ga w gb ls idx fn).extractLsb' 12 5 = gb := by
  unfold fmtG; rw [extract_hi, extract_hi, extract_hi, extract_lo]  <;> first | decide | exact extract_all _
theorem fmtG_17 (ga : BitVec 5) (w : BitVec 4) (gb : BitVec 5) (ls : BitVec 2) (idx fn : BitVec 5) :
    (fmtG ga w gb ls idx fn).extractLsb' 17 4 = w := by
  unfold fmtG; rw [extract_hi, extract_hi, extract_hi, extract_hi, extract_lo]  <;> first | decide | exact extract_all _
theorem fmtG_21 (ga : BitVec 5) (w : BitVec 4) (gb : BitVec 5) (ls : BitVec 2) (idx fn : BitVec 5) :
    (fmtG ga w gb ls idx fn).extractLsb' 21 5 = ga := by
  unfold fmtG; rw [extract_hi, extract_hi, extract_hi, extract_hi, extract_hi, extract_lo]  <;> first | decide | exact extract_all _
theorem fmtG_26 (ga : BitVec 5) (w : BitVec 4) (gb : BitVec 5) (ls : BitVec 2) (idx fn : BitVec 5) :
    (fmtG ga w gb ls idx fn).extractLsb' 26 6 = 0x31#6 := by
  unfold fmtG; rw [extract_hi, extract_hi, extract_hi, extract_hi, extract_hi, extract_hi]  <;> decide

theorem fmtSys_0 (rd ra : BitVec 5) (k : BitVec 12) (fn : BitVec 4) :
    (fmtSys rd ra k fn).extractLsb' 0 4 = fn := by
  unfold fmtSys; rw [extract_lo]  <;> first | decide | exact extract_all _
theorem fmtSys_4 (rd ra : BitVec 5) (k : BitVec 12) (fn : BitVec 4) :
    (fmtSys rd ra k fn).extractLsb' 4 12 = k := by
  unfold fmtSys; rw [extract_hi, extract_lo]  <;> first | decide | exact extract_all _
theorem fmtSys_16 (rd ra : BitVec 5) (k : BitVec 12) (fn : BitVec 4) :
    (fmtSys rd ra k fn).extractLsb' 16 5 = ra := by
  unfold fmtSys; rw [extract_hi, extract_hi, extract_lo]  <;> first | decide | exact extract_all _
theorem fmtSys_21 (rd ra : BitVec 5) (k : BitVec 12) (fn : BitVec 4) :
    (fmtSys rd ra k fn).extractLsb' 21 5 = rd := by
  unfold fmtSys; rw [extract_hi, extract_hi, extract_hi, extract_lo]  <;> first | decide | exact extract_all _
theorem fmtSys_26 (rd ra : BitVec 5) (k : BitVec 12) (fn : BitVec 4) :
    (fmtSys rd ra k fn).extractLsb' 26 6 = 0x38#6 := by
  unfold fmtSys; rw [extract_hi, extract_hi, extract_hi, extract_hi]  <;> decide

theorem fmtR_amo (op : BitVec 6) (rd ra rb rc : BitVec 5) (fn : BitVec 6) (lo len : Nat) (h : lo + len ≤ 6) :
    (fmtR op rd ra rb rc fn).extractLsb' lo len = fn.extractLsb' lo len := by
  unfold fmtR; rw [extract_lo]; exact h
theorem fmtI_imm (op : BitVec 6) (rd ra : BitVec 5) (imm : BitVec 16) (lo len : Nat) (h : lo + len ≤ 16) :
    (fmtI op rd ra imm).extractLsb' lo len = imm.extractLsb' lo len := by
  unfold fmtI; rw [extract_lo]; exact h
theorem fmtWI_21b (op : BitVec 6) (w : BitVec 4) (ra : BitVec 5) (imm : BitVec 16) :
    (fmtWI op w ra imm).extractLsb' 22 4 = w := fmtWI_22 op w ra imm

theorem scribeDecode_int (k : Nat) (rd ra rb rc : BitVec 5) (fn : BitVec 6) :
    scribeDecode k (fmtR 0x01 rd ra rb rc fn) = decInt k rd ra rb rc fn := by
  unfold scribeDecode; simp only [fmtR_26, fmtR_21, fmtR_16, fmtR_11, fmtR_6, fmtR_0]; rfl
theorem scribeDecode_br (k : Nat) (ra rb : BitVec 5) (cc : BitVec 3) (off : BitVec 13) :
    scribeDecode k (fmtB ra rb cc off) = decBr k ra rb cc off := by
  unfold scribeDecode; simp only [fmtB_26, fmtB_21, fmtB_16, fmtB_13, fmtB_0]
theorem scribeDecode_w (k : Nat) (wd wa wb : BitVec 4) (ls : BitVec 2) (fn : BitVec 6) :
    scribeDecode k (fmtW wd wa wb ls fn) = decWide k wd wa wb ls 0 fn := by
  unfold scribeDecode; simp only [fmtW_26, fmtW_22, fmtW_18, fmtW_14, fmtW_12, fmtW_6, fmtW_0]; rfl
theorem scribeDecode_g (k : Nat) (ga : BitVec 5) (w : BitVec 4) (gb : BitVec 5) (ls : BitVec 2) (idx fn : BitVec 5) :
    scribeDecode k (fmtG ga w gb ls idx fn) = decG k ga w gb ls idx fn := by
  unfold scribeDecode; simp only [fmtG_26, fmtG_21, fmtG_17, fmtG_12, fmtG_10, fmtG_5, fmtG_0]
theorem scribeDecode_sys (k : Nat) (rd ra : BitVec 5) (n : BitVec 12) (fn : BitVec 4) :
    scribeDecode k (fmtSys rd ra n fn) = decSys k rd ra n fn := by
  unfold scribeDecode; simp only [fmtSys_26, fmtSys_21, fmtSys_16, fmtSys_4, fmtSys_0]
theorem scribeDecode_amo (k : Nat) (rd ra rb rc : BitVec 5) (fn : BitVec 6) :
    scribeDecode k (fmtR 0x20 rd ra rb rc fn) =
      decAmo k rd ra rb rc (fn.extractLsb' 4 2) (fn.extractLsb' 3 1) (fn.extractLsb' 0 3) := by
  unfold scribeDecode
  simp only [fmtR_26, fmtR_21, fmtR_16, fmtR_11, fmtR_6, fmtR_amo 0x20 rd ra rb rc fn 4 2 (by decide),
    fmtR_amo 0x20 rd ra rb rc fn 3 1 (by decide), fmtR_amo 0x20 rd ra rb rc fn 0 3 (by decide)]; rfl
theorem scribeDecode_shift (k : Nat) (rd ra : BitVec 5) (imm : BitVec 16) :
    scribeDecode k (fmtI 0x08 rd ra imm) = decShift k rd ra (imm.extractLsb' 8 8) (imm.extractLsb' 6 2) (imm.extractLsb' 0 6) := by
  unfold scribeDecode
  simp only [fmtI_26, fmtI_21, fmtI_16, fmtI_imm 0x08 rd ra imm 8 8 (by decide), fmtI_imm 0x08 rd ra imm 6 2 (by decide),
    fmtI_imm 0x08 rd ra imm 0 6 (by decide)]; rfl

end Sys2Proof
end

