-- ==== Sys2Proof/Laws/Store.lean ====
section
/-! SUPPORT. What reading, writing and changing a store do, for every list; and that writing keeps the canonical form. -/
namespace Sys2Proof.Machine

variable {α : Type}

theorem sget_sput_same (d : Nat → α) (m : Store α) (k : Nat) (v : α) : sget d (sput m k v) k = v := by
  induction m with
  | nil => simp [sput, sget]
  | cons e t ih =>
    obtain ⟨j, w⟩ := e
    unfold sput
    split
    · simp [sget]
    · split
      · simp [sget]
      · rename_i h
        simp [sget, h, ih]

theorem sget_sput_other (d : Nat → α) (m : Store α) (k j : Nat) (v : α) (h : j ≠ k) :
    sget d (sput m k v) j = sget d m j := by
  induction m with
  | nil => simp [sput, sget, h]
  | cons e t ih =>
    obtain ⟨i, w⟩ := e
    unfold sput
    split
    · simp [sget, h]
    · split
      · rename_i hk
        subst hk
        simp [sget, h]
      · simp [sget, ih]

theorem sget_filter_same (d : Nat → α) (m : Store α) (k : Nat) :
    sget d (m.filter (fun e => !(e.1 == k))) k = d k := by
  induction m with
  | nil => rfl
  | cons e t ih =>
    obtain ⟨i, w⟩ := e
    by_cases h : i = k
    · simpa [List.filter_cons, h] using ih
    · have h' : ¬ k = i := fun e => h e.symm
      simp [h, sget, h', ih]

theorem sget_filter_other (d : Nat → α) (m : Store α) (k j : Nat) (h : j ≠ k) :
    sget d (m.filter (fun e => !(e.1 == k))) j = sget d m j := by
  induction m with
  | nil => rfl
  | cons e t ih =>
    obtain ⟨i, w⟩ := e
    by_cases hi : i = k
    · subst hi
      simpa [List.filter_cons, sget, h] using ih
    · simp [hi, sget, ih]

theorem sAbove_filter (lo : Nat) (m : Store α) (p : Nat × α → Bool) (h : sAbove lo m = true) :
    sAbove lo (m.filter p) = true := by
  simp only [sAbove, List.all_eq_true, List.mem_filter] at *
  intro e he
  exact h e he.1

theorem sAbove_sput (lo : Nat) (m : Store α) (k : Nat) (v : α) (hk : lo < k) (h : sAbove lo m = true) :
    sAbove lo (sput m k v) = true := by
  induction m with
  | nil => simpa [sput, sAbove] using hk
  | cons e t ih =>
    obtain ⟨j, w⟩ := e
    simp only [sAbove, List.all_cons, Bool.and_eq_true, decide_eq_true_eq] at h ih
    unfold sput
    split
    · simp only [sAbove, List.all_cons, Bool.and_eq_true, decide_eq_true_eq]
      exact ⟨hk, h.1, h.2⟩
    · split
      · simp only [sAbove, List.all_cons, Bool.and_eq_true, decide_eq_true_eq]
        exact ⟨hk, h.2⟩
      · simp only [sAbove, List.all_cons, Bool.and_eq_true, decide_eq_true_eq]
        exact ⟨h.1, ih h.2⟩

variable [DecidableEq α]

/-- A read after a write to the same key gives the value written. -/
@[simp] theorem sget_sset_same (d : Nat → α) (m : Store α) (k : Nat) (v : α) : sget d (sset d m k v) k = v := by
  unfold sset
  split
  · rename_i h
    rw [sget_filter_same, h]
  · exact sget_sput_same d m k v

/-- A write leaves every other key alone. -/
theorem sget_sset_other (d : Nat → α) (m : Store α) {k j : Nat} (v : α) (h : j ≠ k) :
    sget d (sset d m k v) j = sget d m j := by
  unfold sset
  split
  · exact sget_filter_other d m k j h
  · exact sget_sput_other d m k j v h

/-- A read after a write, at any key. -/
theorem sget_sset (d : Nat → α) (m : Store α) (k j : Nat) (v : α) :
    sget d (sset d m k v) j = if j = k then v else sget d m j := by
  split
  · rename_i h
    rw [h, sget_sset_same]
  · rename_i h
    exact sget_sset_other d m v h

@[simp] theorem sget_smod_same (d : Nat → α) (m : Store α) (k : Nat) (f : α → α) :
    sget d (smod d m k f) k = f (sget d m k) := sget_sset_same d m k _

theorem sget_smod_other (d : Nat → α) (m : Store α) {k j : Nat} (f : α → α) (h : j ≠ k) :
    sget d (smod d m k f) j = sget d m j := sget_sset_other d m _ h

/-! ## The canonical form -/

theorem swf_filter (d : Nat → α) (m : Store α) (p : Nat × α → Bool) (h : swf d m = true) : swf d (m.filter p) = true := by
  induction m with
  | nil => rfl
  | cons e t ih =>
    obtain ⟨j, v⟩ := e
    simp only [swf, Bool.and_eq_true] at h
    rw [List.filter_cons]
    split
    · simp only [swf, Bool.and_eq_true]
      exact ⟨⟨h.1.1, sAbove_filter j t p h.1.2⟩, ih h.2⟩
    · exact ih h.2

theorem swf_sput (d : Nat → α) (m : Store α) (k : Nat) (v : α) (hv : v ≠ d k) (h : swf d m = true) :
    swf d (sput m k v) = true := by
  induction m with
  | nil => simp [sput, swf, sAbove, hv]
  | cons e t ih =>
    obtain ⟨j, w⟩ := e
    have h0 := h
    simp only [swf, Bool.and_eq_true] at h
    unfold sput
    split
    · rename_i hk
      simp only [swf, Bool.and_eq_true]
      refine ⟨⟨by simp [hv], ?_⟩, h⟩
      simp only [sAbove, List.all_cons, Bool.and_eq_true, decide_eq_true_eq, List.all_eq_true] at h ⊢
      exact ⟨hk, fun e he => Nat.lt_trans hk (h.1.2 e he)⟩
    · split
      · rename_i hk
        subst hk
        simp only [swf, Bool.and_eq_true]
        exact ⟨⟨by simp [hv], h.1.2⟩, h.2⟩
      · rename_i h1 h2
        simp only [swf, Bool.and_eq_true]
        exact ⟨⟨h.1.1, sAbove_sput j t k v (by omega) h.1.2⟩, ih h.2⟩

/-- Writing a key keeps the canonical form. -/
theorem swf_sset (d : Nat → α) (m : Store α) (k : Nat) (v : α) (h : swf d m = true) : swf d (sset d m k v) = true := by
  unfold sset
  split
  · exact swf_filter d m _ h
  · rename_i hv
    exact swf_sput d m k v hv h

/-- Changing a key keeps the canonical form. -/
theorem swf_smod (d : Nat → α) (m : Store α) (k : Nat) (f : α → α) (h : swf d m = true) : swf d (smod d m k f) = true :=
  swf_sset d m k _ h

end Sys2Proof.Machine
end

