-- ==== Sys2Proof/Laws/State.lean ====
section
/-! SUPPORT. What each named change of the state leaves alone, one lemma per field, and what reading gives after a change. -/
namespace Sys2Proof.Machine

variable (s : State)

/-! ### wr changes reg -/

@[simp] theorem State.wr_pending (off : Nat) (v : Word) : (s.wr off v).pending = s.pending := by unfold State.wr; split <;> rfl
@[simp] theorem State.wr_freeCtr (off : Nat) (v : Word) : (s.wr off v).freeCtr = s.freeCtr := by unfold State.wr; split <;> rfl
@[simp] theorem State.wr_cwData (off : Nat) (v : Word) : (s.wr off v).cwData = s.cwData := by unfold State.wr; split <;> rfl
@[simp] theorem State.wr_pins (off : Nat) (v : Word) : (s.wr off v).pins = s.pins := by unfold State.wr; split <;> rfl
@[simp] theorem State.wr_phys (off : Nat) (v : Word) : (s.wr off v).phys = s.phys := by unfold State.wr; split <;> rfl
@[simp] theorem State.wr_nv (off : Nat) (v : Word) : (s.wr off v).nv = s.nv := by unfold State.wr; split <;> rfl
@[simp] theorem State.wr_boot (off : Nat) (v : Word) : (s.wr off v).boot = s.boot := by unfold State.wr; split <;> rfl
@[simp] theorem State.wr_tb (off : Nat) (v : Word) : (s.wr off v).tb = s.tb := by unfold State.wr; split <;> rfl
@[simp] theorem State.wr_mgmt (off : Nat) (v : Word) : (s.wr off v).mgmt = s.mgmt := by unfold State.wr; split <;> rfl
@[simp] theorem State.wr_ports (off : Nat) (v : Word) : (s.wr off v).ports = s.ports := by unfold State.wr; split <;> rfl
@[simp] theorem State.wr_spine (off : Nat) (v : Word) : (s.wr off v).spine = s.spine := by unfold State.wr; split <;> rfl
@[simp] theorem State.wr_purge (off : Nat) (v : Word) : (s.wr off v).purge = s.purge := by unfold State.wr; split <;> rfl
@[simp] theorem State.wr_evt (off : Nat) (v : Word) : (s.wr off v).evt = s.evt := by unfold State.wr; split <;> rfl
@[simp] theorem State.wr_doms (off : Nat) (v : Word) : (s.wr off v).doms = s.doms := by unfold State.wr; split <;> rfl
@[simp] theorem State.wr_damper (off : Nat) (v : Word) : (s.wr off v).damper = s.damper := by unfold State.wr; split <;> rfl
@[simp] theorem State.wr_acc (off : Nat) (v : Word) : (s.wr off v).acc = s.acc := by unfold State.wr; split <;> rfl
@[simp] theorem State.wr_slices (off : Nat) (v : Word) : (s.wr off v).slices = s.slices := by unfold State.wr; split <;> rfl
@[simp] theorem State.wr_resv (off : Nat) (v : Word) : (s.wr off v).resv = s.resv := by unfold State.wr; split <;> rfl
@[simp] theorem State.wr_cleanAlls (off : Nat) (v : Word) : (s.wr off v).cleanAlls = s.cleanAlls := by unfold State.wr; split <;> rfl
@[simp] theorem State.wr_cleanSeq (off : Nat) (v : Word) : (s.wr off v).cleanSeq = s.cleanSeq := by unfold State.wr; split <;> rfl
@[simp] theorem State.wr_pcs (off : Nat) (v : Word) : (s.wr off v).pcs = s.pcs := by unfold State.wr; split <;> rfl
@[simp] theorem State.wr_hstacks (off : Nat) (v : Word) : (s.wr off v).hstacks = s.hstacks := by unfold State.wr; split <;> rfl
@[simp] theorem State.wr_hbm (off : Nat) (v : Word) : (s.wr off v).hbm = s.hbm := by unfold State.wr; split <;> rfl
@[simp] theorem State.wr_clusters (off : Nat) (v : Word) : (s.wr off v).clusters = s.clusters := by unfold State.wr; split <;> rfl
@[simp] theorem State.wr_cores (off : Nat) (v : Word) : (s.wr off v).cores = s.cores := by unfold State.wr; split <;> rfl
@[simp] theorem State.wr_inks (off : Nat) (v : Word) : (s.wr off v).inks = s.inks := by unfold State.wr; split <;> rfl
@[simp] theorem State.wr_engines (off : Nat) (v : Word) : (s.wr off v).engines = s.engines := by unfold State.wr; split <;> rfl
@[simp] theorem State.wr_inkLast (off : Nat) (v : Word) : (s.wr off v).inkLast = s.inkLast := by unfold State.wr; split <;> rfl
@[simp] theorem State.wr_tel (off : Nat) (v : Word) : (s.wr off v).tel = s.tel := by unfold State.wr; split <;> rfl
@[simp] theorem State.wr_cx (off : Nat) (v : Word) : (s.wr off v).cx = s.cx := by unfold State.wr; split <;> rfl
@[simp] theorem State.wr_tap (off : Nat) (v : Word) : (s.wr off v).tap = s.tap := by unfold State.wr; split <;> rfl

/-! ### setFld changes reg -/

@[simp] theorem State.setFld_pending (off lo w v : Nat) : (s.setFld off lo w v).pending = s.pending := by simp [State.setFld]
@[simp] theorem State.setFld_freeCtr (off lo w v : Nat) : (s.setFld off lo w v).freeCtr = s.freeCtr := by simp [State.setFld]
@[simp] theorem State.setFld_cwData (off lo w v : Nat) : (s.setFld off lo w v).cwData = s.cwData := by simp [State.setFld]
@[simp] theorem State.setFld_pins (off lo w v : Nat) : (s.setFld off lo w v).pins = s.pins := by simp [State.setFld]
@[simp] theorem State.setFld_phys (off lo w v : Nat) : (s.setFld off lo w v).phys = s.phys := by simp [State.setFld]
@[simp] theorem State.setFld_nv (off lo w v : Nat) : (s.setFld off lo w v).nv = s.nv := by simp [State.setFld]
@[simp] theorem State.setFld_boot (off lo w v : Nat) : (s.setFld off lo w v).boot = s.boot := by simp [State.setFld]
@[simp] theorem State.setFld_tb (off lo w v : Nat) : (s.setFld off lo w v).tb = s.tb := by simp [State.setFld]
@[simp] theorem State.setFld_mgmt (off lo w v : Nat) : (s.setFld off lo w v).mgmt = s.mgmt := by simp [State.setFld]
@[simp] theorem State.setFld_ports (off lo w v : Nat) : (s.setFld off lo w v).ports = s.ports := by simp [State.setFld]
@[simp] theorem State.setFld_spine (off lo w v : Nat) : (s.setFld off lo w v).spine = s.spine := by simp [State.setFld]
@[simp] theorem State.setFld_purge (off lo w v : Nat) : (s.setFld off lo w v).purge = s.purge := by simp [State.setFld]
@[simp] theorem State.setFld_evt (off lo w v : Nat) : (s.setFld off lo w v).evt = s.evt := by simp [State.setFld]
@[simp] theorem State.setFld_doms (off lo w v : Nat) : (s.setFld off lo w v).doms = s.doms := by simp [State.setFld]
@[simp] theorem State.setFld_damper (off lo w v : Nat) : (s.setFld off lo w v).damper = s.damper := by simp [State.setFld]
@[simp] theorem State.setFld_acc (off lo w v : Nat) : (s.setFld off lo w v).acc = s.acc := by simp [State.setFld]
@[simp] theorem State.setFld_slices (off lo w v : Nat) : (s.setFld off lo w v).slices = s.slices := by simp [State.setFld]
@[simp] theorem State.setFld_resv (off lo w v : Nat) : (s.setFld off lo w v).resv = s.resv := by simp [State.setFld]
@[simp] theorem State.setFld_cleanAlls (off lo w v : Nat) : (s.setFld off lo w v).cleanAlls = s.cleanAlls := by simp [State.setFld]
@[simp] theorem State.setFld_cleanSeq (off lo w v : Nat) : (s.setFld off lo w v).cleanSeq = s.cleanSeq := by simp [State.setFld]
@[simp] theorem State.setFld_pcs (off lo w v : Nat) : (s.setFld off lo w v).pcs = s.pcs := by simp [State.setFld]
@[simp] theorem State.setFld_hstacks (off lo w v : Nat) : (s.setFld off lo w v).hstacks = s.hstacks := by simp [State.setFld]
@[simp] theorem State.setFld_hbm (off lo w v : Nat) : (s.setFld off lo w v).hbm = s.hbm := by simp [State.setFld]
@[simp] theorem State.setFld_clusters (off lo w v : Nat) : (s.setFld off lo w v).clusters = s.clusters := by simp [State.setFld]
@[simp] theorem State.setFld_cores (off lo w v : Nat) : (s.setFld off lo w v).cores = s.cores := by simp [State.setFld]
@[simp] theorem State.setFld_inks (off lo w v : Nat) : (s.setFld off lo w v).inks = s.inks := by simp [State.setFld]
@[simp] theorem State.setFld_engines (off lo w v : Nat) : (s.setFld off lo w v).engines = s.engines := by simp [State.setFld]
@[simp] theorem State.setFld_inkLast (off lo w v : Nat) : (s.setFld off lo w v).inkLast = s.inkLast := by simp [State.setFld]
@[simp] theorem State.setFld_tel (off lo w v : Nat) : (s.setFld off lo w v).tel = s.tel := by simp [State.setFld]
@[simp] theorem State.setFld_cx (off lo w v : Nat) : (s.setFld off lo w v).cx = s.cx := by simp [State.setFld]
@[simp] theorem State.setFld_tap (off lo w v : Nat) : (s.setFld off lo w v).tap = s.tap := by simp [State.setFld]

/-! ### modDom changes doms -/

@[simp] theorem State.modDom_pending (d : Nat) (f : Domain → Domain) : (s.modDom d f).pending = s.pending := rfl
@[simp] theorem State.modDom_freeCtr (d : Nat) (f : Domain → Domain) : (s.modDom d f).freeCtr = s.freeCtr := rfl
@[simp] theorem State.modDom_cwData (d : Nat) (f : Domain → Domain) : (s.modDom d f).cwData = s.cwData := rfl
@[simp] theorem State.modDom_pins (d : Nat) (f : Domain → Domain) : (s.modDom d f).pins = s.pins := rfl
@[simp] theorem State.modDom_phys (d : Nat) (f : Domain → Domain) : (s.modDom d f).phys = s.phys := rfl
@[simp] theorem State.modDom_nv (d : Nat) (f : Domain → Domain) : (s.modDom d f).nv = s.nv := rfl
@[simp] theorem State.modDom_boot (d : Nat) (f : Domain → Domain) : (s.modDom d f).boot = s.boot := rfl
@[simp] theorem State.modDom_tb (d : Nat) (f : Domain → Domain) : (s.modDom d f).tb = s.tb := rfl
@[simp] theorem State.modDom_mgmt (d : Nat) (f : Domain → Domain) : (s.modDom d f).mgmt = s.mgmt := rfl
@[simp] theorem State.modDom_reg (d : Nat) (f : Domain → Domain) : (s.modDom d f).reg = s.reg := rfl
@[simp] theorem State.modDom_ports (d : Nat) (f : Domain → Domain) : (s.modDom d f).ports = s.ports := rfl
@[simp] theorem State.modDom_spine (d : Nat) (f : Domain → Domain) : (s.modDom d f).spine = s.spine := rfl
@[simp] theorem State.modDom_purge (d : Nat) (f : Domain → Domain) : (s.modDom d f).purge = s.purge := rfl
@[simp] theorem State.modDom_evt (d : Nat) (f : Domain → Domain) : (s.modDom d f).evt = s.evt := rfl
@[simp] theorem State.modDom_damper (d : Nat) (f : Domain → Domain) : (s.modDom d f).damper = s.damper := rfl
@[simp] theorem State.modDom_acc (d : Nat) (f : Domain → Domain) : (s.modDom d f).acc = s.acc := rfl
@[simp] theorem State.modDom_slices (d : Nat) (f : Domain → Domain) : (s.modDom d f).slices = s.slices := rfl
@[simp] theorem State.modDom_resv (d : Nat) (f : Domain → Domain) : (s.modDom d f).resv = s.resv := rfl
@[simp] theorem State.modDom_cleanAlls (d : Nat) (f : Domain → Domain) : (s.modDom d f).cleanAlls = s.cleanAlls := rfl
@[simp] theorem State.modDom_cleanSeq (d : Nat) (f : Domain → Domain) : (s.modDom d f).cleanSeq = s.cleanSeq := rfl
@[simp] theorem State.modDom_pcs (d : Nat) (f : Domain → Domain) : (s.modDom d f).pcs = s.pcs := rfl
@[simp] theorem State.modDom_hstacks (d : Nat) (f : Domain → Domain) : (s.modDom d f).hstacks = s.hstacks := rfl
@[simp] theorem State.modDom_hbm (d : Nat) (f : Domain → Domain) : (s.modDom d f).hbm = s.hbm := rfl
@[simp] theorem State.modDom_clusters (d : Nat) (f : Domain → Domain) : (s.modDom d f).clusters = s.clusters := rfl
@[simp] theorem State.modDom_cores (d : Nat) (f : Domain → Domain) : (s.modDom d f).cores = s.cores := rfl
@[simp] theorem State.modDom_inks (d : Nat) (f : Domain → Domain) : (s.modDom d f).inks = s.inks := rfl
@[simp] theorem State.modDom_engines (d : Nat) (f : Domain → Domain) : (s.modDom d f).engines = s.engines := rfl
@[simp] theorem State.modDom_inkLast (d : Nat) (f : Domain → Domain) : (s.modDom d f).inkLast = s.inkLast := rfl
@[simp] theorem State.modDom_tel (d : Nat) (f : Domain → Domain) : (s.modDom d f).tel = s.tel := rfl
@[simp] theorem State.modDom_cx (d : Nat) (f : Domain → Domain) : (s.modDom d f).cx = s.cx := rfl
@[simp] theorem State.modDom_tap (d : Nat) (f : Domain → Domain) : (s.modDom d f).tap = s.tap := rfl

/-! ### count changes acc -/

@[simp] theorem State.count_pending (g i n : Nat) : (s.count g i n).pending = s.pending := by unfold State.count; split <;> rfl
@[simp] theorem State.count_freeCtr (g i n : Nat) : (s.count g i n).freeCtr = s.freeCtr := by unfold State.count; split <;> rfl
@[simp] theorem State.count_cwData (g i n : Nat) : (s.count g i n).cwData = s.cwData := by unfold State.count; split <;> rfl
@[simp] theorem State.count_pins (g i n : Nat) : (s.count g i n).pins = s.pins := by unfold State.count; split <;> rfl
@[simp] theorem State.count_phys (g i n : Nat) : (s.count g i n).phys = s.phys := by unfold State.count; split <;> rfl
@[simp] theorem State.count_nv (g i n : Nat) : (s.count g i n).nv = s.nv := by unfold State.count; split <;> rfl
@[simp] theorem State.count_boot (g i n : Nat) : (s.count g i n).boot = s.boot := by unfold State.count; split <;> rfl
@[simp] theorem State.count_tb (g i n : Nat) : (s.count g i n).tb = s.tb := by unfold State.count; split <;> rfl
@[simp] theorem State.count_mgmt (g i n : Nat) : (s.count g i n).mgmt = s.mgmt := by unfold State.count; split <;> rfl
@[simp] theorem State.count_reg (g i n : Nat) : (s.count g i n).reg = s.reg := by unfold State.count; split <;> rfl
@[simp] theorem State.count_ports (g i n : Nat) : (s.count g i n).ports = s.ports := by unfold State.count; split <;> rfl
@[simp] theorem State.count_spine (g i n : Nat) : (s.count g i n).spine = s.spine := by unfold State.count; split <;> rfl
@[simp] theorem State.count_purge (g i n : Nat) : (s.count g i n).purge = s.purge := by unfold State.count; split <;> rfl
@[simp] theorem State.count_evt (g i n : Nat) : (s.count g i n).evt = s.evt := by unfold State.count; split <;> rfl
@[simp] theorem State.count_doms (g i n : Nat) : (s.count g i n).doms = s.doms := by unfold State.count; split <;> rfl
@[simp] theorem State.count_damper (g i n : Nat) : (s.count g i n).damper = s.damper := by unfold State.count; split <;> rfl
@[simp] theorem State.count_slices (g i n : Nat) : (s.count g i n).slices = s.slices := by unfold State.count; split <;> rfl
@[simp] theorem State.count_resv (g i n : Nat) : (s.count g i n).resv = s.resv := by unfold State.count; split <;> rfl
@[simp] theorem State.count_cleanAlls (g i n : Nat) : (s.count g i n).cleanAlls = s.cleanAlls := by unfold State.count; split <;> rfl
@[simp] theorem State.count_cleanSeq (g i n : Nat) : (s.count g i n).cleanSeq = s.cleanSeq := by unfold State.count; split <;> rfl
@[simp] theorem State.count_pcs (g i n : Nat) : (s.count g i n).pcs = s.pcs := by unfold State.count; split <;> rfl
@[simp] theorem State.count_hstacks (g i n : Nat) : (s.count g i n).hstacks = s.hstacks := by unfold State.count; split <;> rfl
@[simp] theorem State.count_hbm (g i n : Nat) : (s.count g i n).hbm = s.hbm := by unfold State.count; split <;> rfl
@[simp] theorem State.count_clusters (g i n : Nat) : (s.count g i n).clusters = s.clusters := by unfold State.count; split <;> rfl
@[simp] theorem State.count_cores (g i n : Nat) : (s.count g i n).cores = s.cores := by unfold State.count; split <;> rfl
@[simp] theorem State.count_inks (g i n : Nat) : (s.count g i n).inks = s.inks := by unfold State.count; split <;> rfl
@[simp] theorem State.count_engines (g i n : Nat) : (s.count g i n).engines = s.engines := by unfold State.count; split <;> rfl
@[simp] theorem State.count_inkLast (g i n : Nat) : (s.count g i n).inkLast = s.inkLast := by unfold State.count; split <;> rfl
@[simp] theorem State.count_tel (g i n : Nat) : (s.count g i n).tel = s.tel := by unfold State.count; split <;> rfl
@[simp] theorem State.count_cx (g i n : Nat) : (s.count g i n).cx = s.cx := by unfold State.count; split <;> rfl
@[simp] theorem State.count_tap (g i n : Nat) : (s.count g i n).tap = s.tap := by unfold State.count; split <;> rfl

/-! ### pace changes acc -/

@[simp] theorem State.pace_pending (d : Nat) : (s.pace d).pending = s.pending := rfl
@[simp] theorem State.pace_freeCtr (d : Nat) : (s.pace d).freeCtr = s.freeCtr := rfl
@[simp] theorem State.pace_cwData (d : Nat) : (s.pace d).cwData = s.cwData := rfl
@[simp] theorem State.pace_pins (d : Nat) : (s.pace d).pins = s.pins := rfl
@[simp] theorem State.pace_phys (d : Nat) : (s.pace d).phys = s.phys := rfl
@[simp] theorem State.pace_nv (d : Nat) : (s.pace d).nv = s.nv := rfl
@[simp] theorem State.pace_boot (d : Nat) : (s.pace d).boot = s.boot := rfl
@[simp] theorem State.pace_tb (d : Nat) : (s.pace d).tb = s.tb := rfl
@[simp] theorem State.pace_mgmt (d : Nat) : (s.pace d).mgmt = s.mgmt := rfl
@[simp] theorem State.pace_reg (d : Nat) : (s.pace d).reg = s.reg := rfl
@[simp] theorem State.pace_ports (d : Nat) : (s.pace d).ports = s.ports := rfl
@[simp] theorem State.pace_spine (d : Nat) : (s.pace d).spine = s.spine := rfl
@[simp] theorem State.pace_purge (d : Nat) : (s.pace d).purge = s.purge := rfl
@[simp] theorem State.pace_evt (d : Nat) : (s.pace d).evt = s.evt := rfl
@[simp] theorem State.pace_doms (d : Nat) : (s.pace d).doms = s.doms := rfl
@[simp] theorem State.pace_damper (d : Nat) : (s.pace d).damper = s.damper := rfl
@[simp] theorem State.pace_slices (d : Nat) : (s.pace d).slices = s.slices := rfl
@[simp] theorem State.pace_resv (d : Nat) : (s.pace d).resv = s.resv := rfl
@[simp] theorem State.pace_cleanAlls (d : Nat) : (s.pace d).cleanAlls = s.cleanAlls := rfl
@[simp] theorem State.pace_cleanSeq (d : Nat) : (s.pace d).cleanSeq = s.cleanSeq := rfl
@[simp] theorem State.pace_pcs (d : Nat) : (s.pace d).pcs = s.pcs := rfl
@[simp] theorem State.pace_hstacks (d : Nat) : (s.pace d).hstacks = s.hstacks := rfl
@[simp] theorem State.pace_hbm (d : Nat) : (s.pace d).hbm = s.hbm := rfl
@[simp] theorem State.pace_clusters (d : Nat) : (s.pace d).clusters = s.clusters := rfl
@[simp] theorem State.pace_cores (d : Nat) : (s.pace d).cores = s.cores := rfl
@[simp] theorem State.pace_inks (d : Nat) : (s.pace d).inks = s.inks := rfl
@[simp] theorem State.pace_engines (d : Nat) : (s.pace d).engines = s.engines := rfl
@[simp] theorem State.pace_inkLast (d : Nat) : (s.pace d).inkLast = s.inkLast := rfl
@[simp] theorem State.pace_tel (d : Nat) : (s.pace d).tel = s.tel := rfl
@[simp] theorem State.pace_cx (d : Nat) : (s.pace d).cx = s.cx := rfl
@[simp] theorem State.pace_tap (d : Nat) : (s.pace d).tap = s.tap := rfl

/-! ### raise changes evt -/

@[simp] theorem State.raise_pending (a c : Nat) (w : Word) : (s.raise a c w).pending = s.pending := rfl
@[simp] theorem State.raise_freeCtr (a c : Nat) (w : Word) : (s.raise a c w).freeCtr = s.freeCtr := rfl
@[simp] theorem State.raise_cwData (a c : Nat) (w : Word) : (s.raise a c w).cwData = s.cwData := rfl
@[simp] theorem State.raise_pins (a c : Nat) (w : Word) : (s.raise a c w).pins = s.pins := rfl
@[simp] theorem State.raise_phys (a c : Nat) (w : Word) : (s.raise a c w).phys = s.phys := rfl
@[simp] theorem State.raise_nv (a c : Nat) (w : Word) : (s.raise a c w).nv = s.nv := rfl
@[simp] theorem State.raise_boot (a c : Nat) (w : Word) : (s.raise a c w).boot = s.boot := rfl
@[simp] theorem State.raise_tb (a c : Nat) (w : Word) : (s.raise a c w).tb = s.tb := rfl
@[simp] theorem State.raise_mgmt (a c : Nat) (w : Word) : (s.raise a c w).mgmt = s.mgmt := rfl
@[simp] theorem State.raise_reg (a c : Nat) (w : Word) : (s.raise a c w).reg = s.reg := rfl
@[simp] theorem State.raise_ports (a c : Nat) (w : Word) : (s.raise a c w).ports = s.ports := rfl
@[simp] theorem State.raise_spine (a c : Nat) (w : Word) : (s.raise a c w).spine = s.spine := rfl
@[simp] theorem State.raise_purge (a c : Nat) (w : Word) : (s.raise a c w).purge = s.purge := rfl
@[simp] theorem State.raise_doms (a c : Nat) (w : Word) : (s.raise a c w).doms = s.doms := rfl
@[simp] theorem State.raise_damper (a c : Nat) (w : Word) : (s.raise a c w).damper = s.damper := rfl
@[simp] theorem State.raise_acc (a c : Nat) (w : Word) : (s.raise a c w).acc = s.acc := rfl
@[simp] theorem State.raise_slices (a c : Nat) (w : Word) : (s.raise a c w).slices = s.slices := rfl
@[simp] theorem State.raise_resv (a c : Nat) (w : Word) : (s.raise a c w).resv = s.resv := rfl
@[simp] theorem State.raise_cleanAlls (a c : Nat) (w : Word) : (s.raise a c w).cleanAlls = s.cleanAlls := rfl
@[simp] theorem State.raise_cleanSeq (a c : Nat) (w : Word) : (s.raise a c w).cleanSeq = s.cleanSeq := rfl
@[simp] theorem State.raise_pcs (a c : Nat) (w : Word) : (s.raise a c w).pcs = s.pcs := rfl
@[simp] theorem State.raise_hstacks (a c : Nat) (w : Word) : (s.raise a c w).hstacks = s.hstacks := rfl
@[simp] theorem State.raise_hbm (a c : Nat) (w : Word) : (s.raise a c w).hbm = s.hbm := rfl
@[simp] theorem State.raise_clusters (a c : Nat) (w : Word) : (s.raise a c w).clusters = s.clusters := rfl
@[simp] theorem State.raise_cores (a c : Nat) (w : Word) : (s.raise a c w).cores = s.cores := rfl
@[simp] theorem State.raise_inks (a c : Nat) (w : Word) : (s.raise a c w).inks = s.inks := rfl
@[simp] theorem State.raise_engines (a c : Nat) (w : Word) : (s.raise a c w).engines = s.engines := rfl
@[simp] theorem State.raise_inkLast (a c : Nat) (w : Word) : (s.raise a c w).inkLast = s.inkLast := rfl
@[simp] theorem State.raise_tel (a c : Nat) (w : Word) : (s.raise a c w).tel = s.tel := rfl
@[simp] theorem State.raise_cx (a c : Nat) (w : Word) : (s.raise a c w).cx = s.cx := rfl
@[simp] theorem State.raise_tap (a c : Nat) (w : Word) : (s.raise a c w).tap = s.tap := rfl

/-! ### setErr changes reg, evt -/

@[simp] theorem State.setErr_pending (off i a : Nat) (w : Word) : (s.setErr off i a w).pending = s.pending := by unfold State.setErr; split <;> simp
@[simp] theorem State.setErr_freeCtr (off i a : Nat) (w : Word) : (s.setErr off i a w).freeCtr = s.freeCtr := by unfold State.setErr; split <;> simp
@[simp] theorem State.setErr_cwData (off i a : Nat) (w : Word) : (s.setErr off i a w).cwData = s.cwData := by unfold State.setErr; split <;> simp
@[simp] theorem State.setErr_pins (off i a : Nat) (w : Word) : (s.setErr off i a w).pins = s.pins := by unfold State.setErr; split <;> simp
@[simp] theorem State.setErr_phys (off i a : Nat) (w : Word) : (s.setErr off i a w).phys = s.phys := by unfold State.setErr; split <;> simp
@[simp] theorem State.setErr_nv (off i a : Nat) (w : Word) : (s.setErr off i a w).nv = s.nv := by unfold State.setErr; split <;> simp
@[simp] theorem State.setErr_boot (off i a : Nat) (w : Word) : (s.setErr off i a w).boot = s.boot := by unfold State.setErr; split <;> simp
@[simp] theorem State.setErr_tb (off i a : Nat) (w : Word) : (s.setErr off i a w).tb = s.tb := by unfold State.setErr; split <;> simp
@[simp] theorem State.setErr_mgmt (off i a : Nat) (w : Word) : (s.setErr off i a w).mgmt = s.mgmt := by unfold State.setErr; split <;> simp
@[simp] theorem State.setErr_ports (off i a : Nat) (w : Word) : (s.setErr off i a w).ports = s.ports := by unfold State.setErr; split <;> simp
@[simp] theorem State.setErr_spine (off i a : Nat) (w : Word) : (s.setErr off i a w).spine = s.spine := by unfold State.setErr; split <;> simp
@[simp] theorem State.setErr_purge (off i a : Nat) (w : Word) : (s.setErr off i a w).purge = s.purge := by unfold State.setErr; split <;> simp
@[simp] theorem State.setErr_doms (off i a : Nat) (w : Word) : (s.setErr off i a w).doms = s.doms := by unfold State.setErr; split <;> simp
@[simp] theorem State.setErr_damper (off i a : Nat) (w : Word) : (s.setErr off i a w).damper = s.damper := by unfold State.setErr; split <;> simp
@[simp] theorem State.setErr_acc (off i a : Nat) (w : Word) : (s.setErr off i a w).acc = s.acc := by unfold State.setErr; split <;> simp
@[simp] theorem State.setErr_slices (off i a : Nat) (w : Word) : (s.setErr off i a w).slices = s.slices := by unfold State.setErr; split <;> simp
@[simp] theorem State.setErr_resv (off i a : Nat) (w : Word) : (s.setErr off i a w).resv = s.resv := by unfold State.setErr; split <;> simp
@[simp] theorem State.setErr_cleanAlls (off i a : Nat) (w : Word) : (s.setErr off i a w).cleanAlls = s.cleanAlls := by unfold State.setErr; split <;> simp
@[simp] theorem State.setErr_cleanSeq (off i a : Nat) (w : Word) : (s.setErr off i a w).cleanSeq = s.cleanSeq := by unfold State.setErr; split <;> simp
@[simp] theorem State.setErr_pcs (off i a : Nat) (w : Word) : (s.setErr off i a w).pcs = s.pcs := by unfold State.setErr; split <;> simp
@[simp] theorem State.setErr_hstacks (off i a : Nat) (w : Word) : (s.setErr off i a w).hstacks = s.hstacks := by unfold State.setErr; split <;> simp
@[simp] theorem State.setErr_hbm (off i a : Nat) (w : Word) : (s.setErr off i a w).hbm = s.hbm := by unfold State.setErr; split <;> simp
@[simp] theorem State.setErr_clusters (off i a : Nat) (w : Word) : (s.setErr off i a w).clusters = s.clusters := by unfold State.setErr; split <;> simp
@[simp] theorem State.setErr_cores (off i a : Nat) (w : Word) : (s.setErr off i a w).cores = s.cores := by unfold State.setErr; split <;> simp
@[simp] theorem State.setErr_inks (off i a : Nat) (w : Word) : (s.setErr off i a w).inks = s.inks := by unfold State.setErr; split <;> simp
@[simp] theorem State.setErr_engines (off i a : Nat) (w : Word) : (s.setErr off i a w).engines = s.engines := by unfold State.setErr; split <;> simp
@[simp] theorem State.setErr_inkLast (off i a : Nat) (w : Word) : (s.setErr off i a w).inkLast = s.inkLast := by unfold State.setErr; split <;> simp
@[simp] theorem State.setErr_tel (off i a : Nat) (w : Word) : (s.setErr off i a w).tel = s.tel := by unfold State.setErr; split <;> simp
@[simp] theorem State.setErr_cx (off i a : Nat) (w : Word) : (s.setErr off i a w).cx = s.cx := by unfold State.setErr; split <;> simp
@[simp] theorem State.setErr_tap (off i a : Nat) (w : Word) : (s.setErr off i a w).tap = s.tap := by unfold State.setErr; split <;> simp

/-! ### setStatus changes reg, evt -/

@[simp] theorem State.setStatus_pending (off i a c : Nat) (w : Word) : (s.setStatus off i a c w).pending = s.pending := by unfold State.setStatus; split <;> simp
@[simp] theorem State.setStatus_freeCtr (off i a c : Nat) (w : Word) : (s.setStatus off i a c w).freeCtr = s.freeCtr := by unfold State.setStatus; split <;> simp
@[simp] theorem State.setStatus_cwData (off i a c : Nat) (w : Word) : (s.setStatus off i a c w).cwData = s.cwData := by unfold State.setStatus; split <;> simp
@[simp] theorem State.setStatus_pins (off i a c : Nat) (w : Word) : (s.setStatus off i a c w).pins = s.pins := by unfold State.setStatus; split <;> simp
@[simp] theorem State.setStatus_phys (off i a c : Nat) (w : Word) : (s.setStatus off i a c w).phys = s.phys := by unfold State.setStatus; split <;> simp
@[simp] theorem State.setStatus_nv (off i a c : Nat) (w : Word) : (s.setStatus off i a c w).nv = s.nv := by unfold State.setStatus; split <;> simp
@[simp] theorem State.setStatus_boot (off i a c : Nat) (w : Word) : (s.setStatus off i a c w).boot = s.boot := by unfold State.setStatus; split <;> simp
@[simp] theorem State.setStatus_tb (off i a c : Nat) (w : Word) : (s.setStatus off i a c w).tb = s.tb := by unfold State.setStatus; split <;> simp
@[simp] theorem State.setStatus_mgmt (off i a c : Nat) (w : Word) : (s.setStatus off i a c w).mgmt = s.mgmt := by unfold State.setStatus; split <;> simp
@[simp] theorem State.setStatus_ports (off i a c : Nat) (w : Word) : (s.setStatus off i a c w).ports = s.ports := by unfold State.setStatus; split <;> simp
@[simp] theorem State.setStatus_spine (off i a c : Nat) (w : Word) : (s.setStatus off i a c w).spine = s.spine := by unfold State.setStatus; split <;> simp
@[simp] theorem State.setStatus_purge (off i a c : Nat) (w : Word) : (s.setStatus off i a c w).purge = s.purge := by unfold State.setStatus; split <;> simp
@[simp] theorem State.setStatus_doms (off i a c : Nat) (w : Word) : (s.setStatus off i a c w).doms = s.doms := by unfold State.setStatus; split <;> simp
@[simp] theorem State.setStatus_damper (off i a c : Nat) (w : Word) : (s.setStatus off i a c w).damper = s.damper := by unfold State.setStatus; split <;> simp
@[simp] theorem State.setStatus_acc (off i a c : Nat) (w : Word) : (s.setStatus off i a c w).acc = s.acc := by unfold State.setStatus; split <;> simp
@[simp] theorem State.setStatus_slices (off i a c : Nat) (w : Word) : (s.setStatus off i a c w).slices = s.slices := by unfold State.setStatus; split <;> simp
@[simp] theorem State.setStatus_resv (off i a c : Nat) (w : Word) : (s.setStatus off i a c w).resv = s.resv := by unfold State.setStatus; split <;> simp
@[simp] theorem State.setStatus_cleanAlls (off i a c : Nat) (w : Word) : (s.setStatus off i a c w).cleanAlls = s.cleanAlls := by unfold State.setStatus; split <;> simp
@[simp] theorem State.setStatus_cleanSeq (off i a c : Nat) (w : Word) : (s.setStatus off i a c w).cleanSeq = s.cleanSeq := by unfold State.setStatus; split <;> simp
@[simp] theorem State.setStatus_pcs (off i a c : Nat) (w : Word) : (s.setStatus off i a c w).pcs = s.pcs := by unfold State.setStatus; split <;> simp
@[simp] theorem State.setStatus_hstacks (off i a c : Nat) (w : Word) : (s.setStatus off i a c w).hstacks = s.hstacks := by unfold State.setStatus; split <;> simp
@[simp] theorem State.setStatus_hbm (off i a c : Nat) (w : Word) : (s.setStatus off i a c w).hbm = s.hbm := by unfold State.setStatus; split <;> simp
@[simp] theorem State.setStatus_clusters (off i a c : Nat) (w : Word) : (s.setStatus off i a c w).clusters = s.clusters := by unfold State.setStatus; split <;> simp
@[simp] theorem State.setStatus_cores (off i a c : Nat) (w : Word) : (s.setStatus off i a c w).cores = s.cores := by unfold State.setStatus; split <;> simp
@[simp] theorem State.setStatus_inks (off i a c : Nat) (w : Word) : (s.setStatus off i a c w).inks = s.inks := by unfold State.setStatus; split <;> simp
@[simp] theorem State.setStatus_engines (off i a c : Nat) (w : Word) : (s.setStatus off i a c w).engines = s.engines := by unfold State.setStatus; split <;> simp
@[simp] theorem State.setStatus_inkLast (off i a c : Nat) (w : Word) : (s.setStatus off i a c w).inkLast = s.inkLast := by unfold State.setStatus; split <;> simp
@[simp] theorem State.setStatus_tel (off i a c : Nat) (w : Word) : (s.setStatus off i a c w).tel = s.tel := by unfold State.setStatus; split <;> simp
@[simp] theorem State.setStatus_cx (off i a c : Nat) (w : Word) : (s.setStatus off i a c w).cx = s.cx := by unfold State.setStatus; split <;> simp
@[simp] theorem State.setStatus_tap (off i a c : Nat) (w : Word) : (s.setStatus off i a c w).tap = s.tap := by unfold State.setStatus; split <;> simp

/-! ### modPort changes ports -/

@[simp] theorem State.modPort_pending (p : Nat) (f : Port → Port) : (s.modPort p f).pending = s.pending := rfl
@[simp] theorem State.modPort_freeCtr (p : Nat) (f : Port → Port) : (s.modPort p f).freeCtr = s.freeCtr := rfl
@[simp] theorem State.modPort_cwData (p : Nat) (f : Port → Port) : (s.modPort p f).cwData = s.cwData := rfl
@[simp] theorem State.modPort_pins (p : Nat) (f : Port → Port) : (s.modPort p f).pins = s.pins := rfl
@[simp] theorem State.modPort_phys (p : Nat) (f : Port → Port) : (s.modPort p f).phys = s.phys := rfl
@[simp] theorem State.modPort_nv (p : Nat) (f : Port → Port) : (s.modPort p f).nv = s.nv := rfl
@[simp] theorem State.modPort_boot (p : Nat) (f : Port → Port) : (s.modPort p f).boot = s.boot := rfl
@[simp] theorem State.modPort_tb (p : Nat) (f : Port → Port) : (s.modPort p f).tb = s.tb := rfl
@[simp] theorem State.modPort_mgmt (p : Nat) (f : Port → Port) : (s.modPort p f).mgmt = s.mgmt := rfl
@[simp] theorem State.modPort_reg (p : Nat) (f : Port → Port) : (s.modPort p f).reg = s.reg := rfl
@[simp] theorem State.modPort_spine (p : Nat) (f : Port → Port) : (s.modPort p f).spine = s.spine := rfl
@[simp] theorem State.modPort_purge (p : Nat) (f : Port → Port) : (s.modPort p f).purge = s.purge := rfl
@[simp] theorem State.modPort_evt (p : Nat) (f : Port → Port) : (s.modPort p f).evt = s.evt := rfl
@[simp] theorem State.modPort_doms (p : Nat) (f : Port → Port) : (s.modPort p f).doms = s.doms := rfl
@[simp] theorem State.modPort_damper (p : Nat) (f : Port → Port) : (s.modPort p f).damper = s.damper := rfl
@[simp] theorem State.modPort_acc (p : Nat) (f : Port → Port) : (s.modPort p f).acc = s.acc := rfl
@[simp] theorem State.modPort_slices (p : Nat) (f : Port → Port) : (s.modPort p f).slices = s.slices := rfl
@[simp] theorem State.modPort_resv (p : Nat) (f : Port → Port) : (s.modPort p f).resv = s.resv := rfl
@[simp] theorem State.modPort_cleanAlls (p : Nat) (f : Port → Port) : (s.modPort p f).cleanAlls = s.cleanAlls := rfl
@[simp] theorem State.modPort_cleanSeq (p : Nat) (f : Port → Port) : (s.modPort p f).cleanSeq = s.cleanSeq := rfl
@[simp] theorem State.modPort_pcs (p : Nat) (f : Port → Port) : (s.modPort p f).pcs = s.pcs := rfl
@[simp] theorem State.modPort_hstacks (p : Nat) (f : Port → Port) : (s.modPort p f).hstacks = s.hstacks := rfl
@[simp] theorem State.modPort_hbm (p : Nat) (f : Port → Port) : (s.modPort p f).hbm = s.hbm := rfl
@[simp] theorem State.modPort_clusters (p : Nat) (f : Port → Port) : (s.modPort p f).clusters = s.clusters := rfl
@[simp] theorem State.modPort_cores (p : Nat) (f : Port → Port) : (s.modPort p f).cores = s.cores := rfl
@[simp] theorem State.modPort_inks (p : Nat) (f : Port → Port) : (s.modPort p f).inks = s.inks := rfl
@[simp] theorem State.modPort_engines (p : Nat) (f : Port → Port) : (s.modPort p f).engines = s.engines := rfl
@[simp] theorem State.modPort_inkLast (p : Nat) (f : Port → Port) : (s.modPort p f).inkLast = s.inkLast := rfl
@[simp] theorem State.modPort_tel (p : Nat) (f : Port → Port) : (s.modPort p f).tel = s.tel := rfl
@[simp] theorem State.modPort_cx (p : Nat) (f : Port → Port) : (s.modPort p f).cx = s.cx := rfl
@[simp] theorem State.modPort_tap (p : Nat) (f : Port → Port) : (s.modPort p f).tap = s.tap := rfl

/-! ### enqueue changes ports -/

@[simp] theorem State.enqueue_pending (p : Nat) (m : Msg) : (s.enqueue p m).pending = s.pending := rfl
@[simp] theorem State.enqueue_freeCtr (p : Nat) (m : Msg) : (s.enqueue p m).freeCtr = s.freeCtr := rfl
@[simp] theorem State.enqueue_cwData (p : Nat) (m : Msg) : (s.enqueue p m).cwData = s.cwData := rfl
@[simp] theorem State.enqueue_pins (p : Nat) (m : Msg) : (s.enqueue p m).pins = s.pins := rfl
@[simp] theorem State.enqueue_phys (p : Nat) (m : Msg) : (s.enqueue p m).phys = s.phys := rfl
@[simp] theorem State.enqueue_nv (p : Nat) (m : Msg) : (s.enqueue p m).nv = s.nv := rfl
@[simp] theorem State.enqueue_boot (p : Nat) (m : Msg) : (s.enqueue p m).boot = s.boot := rfl
@[simp] theorem State.enqueue_tb (p : Nat) (m : Msg) : (s.enqueue p m).tb = s.tb := rfl
@[simp] theorem State.enqueue_mgmt (p : Nat) (m : Msg) : (s.enqueue p m).mgmt = s.mgmt := rfl
@[simp] theorem State.enqueue_reg (p : Nat) (m : Msg) : (s.enqueue p m).reg = s.reg := rfl
@[simp] theorem State.enqueue_spine (p : Nat) (m : Msg) : (s.enqueue p m).spine = s.spine := rfl
@[simp] theorem State.enqueue_purge (p : Nat) (m : Msg) : (s.enqueue p m).purge = s.purge := rfl
@[simp] theorem State.enqueue_evt (p : Nat) (m : Msg) : (s.enqueue p m).evt = s.evt := rfl
@[simp] theorem State.enqueue_doms (p : Nat) (m : Msg) : (s.enqueue p m).doms = s.doms := rfl
@[simp] theorem State.enqueue_damper (p : Nat) (m : Msg) : (s.enqueue p m).damper = s.damper := rfl
@[simp] theorem State.enqueue_acc (p : Nat) (m : Msg) : (s.enqueue p m).acc = s.acc := rfl
@[simp] theorem State.enqueue_slices (p : Nat) (m : Msg) : (s.enqueue p m).slices = s.slices := rfl
@[simp] theorem State.enqueue_resv (p : Nat) (m : Msg) : (s.enqueue p m).resv = s.resv := rfl
@[simp] theorem State.enqueue_cleanAlls (p : Nat) (m : Msg) : (s.enqueue p m).cleanAlls = s.cleanAlls := rfl
@[simp] theorem State.enqueue_cleanSeq (p : Nat) (m : Msg) : (s.enqueue p m).cleanSeq = s.cleanSeq := rfl
@[simp] theorem State.enqueue_pcs (p : Nat) (m : Msg) : (s.enqueue p m).pcs = s.pcs := rfl
@[simp] theorem State.enqueue_hstacks (p : Nat) (m : Msg) : (s.enqueue p m).hstacks = s.hstacks := rfl
@[simp] theorem State.enqueue_hbm (p : Nat) (m : Msg) : (s.enqueue p m).hbm = s.hbm := rfl
@[simp] theorem State.enqueue_clusters (p : Nat) (m : Msg) : (s.enqueue p m).clusters = s.clusters := rfl
@[simp] theorem State.enqueue_cores (p : Nat) (m : Msg) : (s.enqueue p m).cores = s.cores := rfl
@[simp] theorem State.enqueue_inks (p : Nat) (m : Msg) : (s.enqueue p m).inks = s.inks := rfl
@[simp] theorem State.enqueue_engines (p : Nat) (m : Msg) : (s.enqueue p m).engines = s.engines := rfl
@[simp] theorem State.enqueue_inkLast (p : Nat) (m : Msg) : (s.enqueue p m).inkLast = s.inkLast := rfl
@[simp] theorem State.enqueue_tel (p : Nat) (m : Msg) : (s.enqueue p m).tel = s.tel := rfl
@[simp] theorem State.enqueue_cx (p : Nat) (m : Msg) : (s.enqueue p m).cx = s.cx := rfl
@[simp] theorem State.enqueue_tap (p : Nat) (m : Msg) : (s.enqueue p m).tap = s.tap := rfl

/-! ### blotNote changes tel -/

@[simp] theorem State.blotNote_pending (a : AgentId) (g : Tag) (f : Follow → Follow) : (s.blotNote a g f).pending = s.pending := rfl
@[simp] theorem State.blotNote_freeCtr (a : AgentId) (g : Tag) (f : Follow → Follow) : (s.blotNote a g f).freeCtr = s.freeCtr := rfl
@[simp] theorem State.blotNote_cwData (a : AgentId) (g : Tag) (f : Follow → Follow) : (s.blotNote a g f).cwData = s.cwData := rfl
@[simp] theorem State.blotNote_pins (a : AgentId) (g : Tag) (f : Follow → Follow) : (s.blotNote a g f).pins = s.pins := rfl
@[simp] theorem State.blotNote_phys (a : AgentId) (g : Tag) (f : Follow → Follow) : (s.blotNote a g f).phys = s.phys := rfl
@[simp] theorem State.blotNote_nv (a : AgentId) (g : Tag) (f : Follow → Follow) : (s.blotNote a g f).nv = s.nv := rfl
@[simp] theorem State.blotNote_boot (a : AgentId) (g : Tag) (f : Follow → Follow) : (s.blotNote a g f).boot = s.boot := rfl
@[simp] theorem State.blotNote_tb (a : AgentId) (g : Tag) (f : Follow → Follow) : (s.blotNote a g f).tb = s.tb := rfl
@[simp] theorem State.blotNote_mgmt (a : AgentId) (g : Tag) (f : Follow → Follow) : (s.blotNote a g f).mgmt = s.mgmt := rfl
@[simp] theorem State.blotNote_reg (a : AgentId) (g : Tag) (f : Follow → Follow) : (s.blotNote a g f).reg = s.reg := rfl
@[simp] theorem State.blotNote_ports (a : AgentId) (g : Tag) (f : Follow → Follow) : (s.blotNote a g f).ports = s.ports := rfl
@[simp] theorem State.blotNote_spine (a : AgentId) (g : Tag) (f : Follow → Follow) : (s.blotNote a g f).spine = s.spine := rfl
@[simp] theorem State.blotNote_purge (a : AgentId) (g : Tag) (f : Follow → Follow) : (s.blotNote a g f).purge = s.purge := rfl
@[simp] theorem State.blotNote_evt (a : AgentId) (g : Tag) (f : Follow → Follow) : (s.blotNote a g f).evt = s.evt := rfl
@[simp] theorem State.blotNote_doms (a : AgentId) (g : Tag) (f : Follow → Follow) : (s.blotNote a g f).doms = s.doms := rfl
@[simp] theorem State.blotNote_damper (a : AgentId) (g : Tag) (f : Follow → Follow) : (s.blotNote a g f).damper = s.damper := rfl
@[simp] theorem State.blotNote_acc (a : AgentId) (g : Tag) (f : Follow → Follow) : (s.blotNote a g f).acc = s.acc := rfl
@[simp] theorem State.blotNote_slices (a : AgentId) (g : Tag) (f : Follow → Follow) : (s.blotNote a g f).slices = s.slices := rfl
@[simp] theorem State.blotNote_resv (a : AgentId) (g : Tag) (f : Follow → Follow) : (s.blotNote a g f).resv = s.resv := rfl
@[simp] theorem State.blotNote_cleanAlls (a : AgentId) (g : Tag) (f : Follow → Follow) : (s.blotNote a g f).cleanAlls = s.cleanAlls := rfl
@[simp] theorem State.blotNote_cleanSeq (a : AgentId) (g : Tag) (f : Follow → Follow) : (s.blotNote a g f).cleanSeq = s.cleanSeq := rfl
@[simp] theorem State.blotNote_pcs (a : AgentId) (g : Tag) (f : Follow → Follow) : (s.blotNote a g f).pcs = s.pcs := rfl
@[simp] theorem State.blotNote_hstacks (a : AgentId) (g : Tag) (f : Follow → Follow) : (s.blotNote a g f).hstacks = s.hstacks := rfl
@[simp] theorem State.blotNote_hbm (a : AgentId) (g : Tag) (f : Follow → Follow) : (s.blotNote a g f).hbm = s.hbm := rfl
@[simp] theorem State.blotNote_clusters (a : AgentId) (g : Tag) (f : Follow → Follow) : (s.blotNote a g f).clusters = s.clusters := rfl
@[simp] theorem State.blotNote_cores (a : AgentId) (g : Tag) (f : Follow → Follow) : (s.blotNote a g f).cores = s.cores := rfl
@[simp] theorem State.blotNote_inks (a : AgentId) (g : Tag) (f : Follow → Follow) : (s.blotNote a g f).inks = s.inks := rfl
@[simp] theorem State.blotNote_engines (a : AgentId) (g : Tag) (f : Follow → Follow) : (s.blotNote a g f).engines = s.engines := rfl
@[simp] theorem State.blotNote_inkLast (a : AgentId) (g : Tag) (f : Follow → Follow) : (s.blotNote a g f).inkLast = s.inkLast := rfl
@[simp] theorem State.blotNote_cx (a : AgentId) (g : Tag) (f : Follow → Follow) : (s.blotNote a g f).cx = s.cx := rfl
@[simp] theorem State.blotNote_tap (a : AgentId) (g : Tag) (f : Follow → Follow) : (s.blotNote a g f).tap = s.tap := rfl

/-! ### blotLose changes tel -/

@[simp] theorem State.blotLose_pending (p : Follow → Bool) : (s.blotLose p).pending = s.pending := rfl
@[simp] theorem State.blotLose_freeCtr (p : Follow → Bool) : (s.blotLose p).freeCtr = s.freeCtr := rfl
@[simp] theorem State.blotLose_cwData (p : Follow → Bool) : (s.blotLose p).cwData = s.cwData := rfl
@[simp] theorem State.blotLose_pins (p : Follow → Bool) : (s.blotLose p).pins = s.pins := rfl
@[simp] theorem State.blotLose_phys (p : Follow → Bool) : (s.blotLose p).phys = s.phys := rfl
@[simp] theorem State.blotLose_nv (p : Follow → Bool) : (s.blotLose p).nv = s.nv := rfl
@[simp] theorem State.blotLose_boot (p : Follow → Bool) : (s.blotLose p).boot = s.boot := rfl
@[simp] theorem State.blotLose_tb (p : Follow → Bool) : (s.blotLose p).tb = s.tb := rfl
@[simp] theorem State.blotLose_mgmt (p : Follow → Bool) : (s.blotLose p).mgmt = s.mgmt := rfl
@[simp] theorem State.blotLose_reg (p : Follow → Bool) : (s.blotLose p).reg = s.reg := rfl
@[simp] theorem State.blotLose_ports (p : Follow → Bool) : (s.blotLose p).ports = s.ports := rfl
@[simp] theorem State.blotLose_spine (p : Follow → Bool) : (s.blotLose p).spine = s.spine := rfl
@[simp] theorem State.blotLose_purge (p : Follow → Bool) : (s.blotLose p).purge = s.purge := rfl
@[simp] theorem State.blotLose_evt (p : Follow → Bool) : (s.blotLose p).evt = s.evt := rfl
@[simp] theorem State.blotLose_doms (p : Follow → Bool) : (s.blotLose p).doms = s.doms := rfl
@[simp] theorem State.blotLose_damper (p : Follow → Bool) : (s.blotLose p).damper = s.damper := rfl
@[simp] theorem State.blotLose_acc (p : Follow → Bool) : (s.blotLose p).acc = s.acc := rfl
@[simp] theorem State.blotLose_slices (p : Follow → Bool) : (s.blotLose p).slices = s.slices := rfl
@[simp] theorem State.blotLose_resv (p : Follow → Bool) : (s.blotLose p).resv = s.resv := rfl
@[simp] theorem State.blotLose_cleanAlls (p : Follow → Bool) : (s.blotLose p).cleanAlls = s.cleanAlls := rfl
@[simp] theorem State.blotLose_cleanSeq (p : Follow → Bool) : (s.blotLose p).cleanSeq = s.cleanSeq := rfl
@[simp] theorem State.blotLose_pcs (p : Follow → Bool) : (s.blotLose p).pcs = s.pcs := rfl
@[simp] theorem State.blotLose_hstacks (p : Follow → Bool) : (s.blotLose p).hstacks = s.hstacks := rfl
@[simp] theorem State.blotLose_hbm (p : Follow → Bool) : (s.blotLose p).hbm = s.hbm := rfl
@[simp] theorem State.blotLose_clusters (p : Follow → Bool) : (s.blotLose p).clusters = s.clusters := rfl
@[simp] theorem State.blotLose_cores (p : Follow → Bool) : (s.blotLose p).cores = s.cores := rfl
@[simp] theorem State.blotLose_inks (p : Follow → Bool) : (s.blotLose p).inks = s.inks := rfl
@[simp] theorem State.blotLose_engines (p : Follow → Bool) : (s.blotLose p).engines = s.engines := rfl
@[simp] theorem State.blotLose_inkLast (p : Follow → Bool) : (s.blotLose p).inkLast = s.inkLast := rfl
@[simp] theorem State.blotLose_cx (p : Follow → Bool) : (s.blotLose p).cx = s.cx := rfl
@[simp] theorem State.blotLose_tap (p : Follow → Bool) : (s.blotLose p).tap = s.tap := rfl

/-! ### hold changes spine -/

@[simp] theorem State.hold_pending (m : Msg) (i : Option Nat) (b : Bool) : (s.hold m i b).pending = s.pending := rfl
@[simp] theorem State.hold_freeCtr (m : Msg) (i : Option Nat) (b : Bool) : (s.hold m i b).freeCtr = s.freeCtr := rfl
@[simp] theorem State.hold_cwData (m : Msg) (i : Option Nat) (b : Bool) : (s.hold m i b).cwData = s.cwData := rfl
@[simp] theorem State.hold_pins (m : Msg) (i : Option Nat) (b : Bool) : (s.hold m i b).pins = s.pins := rfl
@[simp] theorem State.hold_phys (m : Msg) (i : Option Nat) (b : Bool) : (s.hold m i b).phys = s.phys := rfl
@[simp] theorem State.hold_nv (m : Msg) (i : Option Nat) (b : Bool) : (s.hold m i b).nv = s.nv := rfl
@[simp] theorem State.hold_boot (m : Msg) (i : Option Nat) (b : Bool) : (s.hold m i b).boot = s.boot := rfl
@[simp] theorem State.hold_tb (m : Msg) (i : Option Nat) (b : Bool) : (s.hold m i b).tb = s.tb := rfl
@[simp] theorem State.hold_mgmt (m : Msg) (i : Option Nat) (b : Bool) : (s.hold m i b).mgmt = s.mgmt := rfl
@[simp] theorem State.hold_reg (m : Msg) (i : Option Nat) (b : Bool) : (s.hold m i b).reg = s.reg := rfl
@[simp] theorem State.hold_ports (m : Msg) (i : Option Nat) (b : Bool) : (s.hold m i b).ports = s.ports := rfl
@[simp] theorem State.hold_purge (m : Msg) (i : Option Nat) (b : Bool) : (s.hold m i b).purge = s.purge := rfl
@[simp] theorem State.hold_evt (m : Msg) (i : Option Nat) (b : Bool) : (s.hold m i b).evt = s.evt := rfl
@[simp] theorem State.hold_doms (m : Msg) (i : Option Nat) (b : Bool) : (s.hold m i b).doms = s.doms := rfl
@[simp] theorem State.hold_damper (m : Msg) (i : Option Nat) (b : Bool) : (s.hold m i b).damper = s.damper := rfl
@[simp] theorem State.hold_acc (m : Msg) (i : Option Nat) (b : Bool) : (s.hold m i b).acc = s.acc := rfl
@[simp] theorem State.hold_slices (m : Msg) (i : Option Nat) (b : Bool) : (s.hold m i b).slices = s.slices := rfl
@[simp] theorem State.hold_resv (m : Msg) (i : Option Nat) (b : Bool) : (s.hold m i b).resv = s.resv := rfl
@[simp] theorem State.hold_cleanAlls (m : Msg) (i : Option Nat) (b : Bool) : (s.hold m i b).cleanAlls = s.cleanAlls := rfl
@[simp] theorem State.hold_cleanSeq (m : Msg) (i : Option Nat) (b : Bool) : (s.hold m i b).cleanSeq = s.cleanSeq := rfl
@[simp] theorem State.hold_pcs (m : Msg) (i : Option Nat) (b : Bool) : (s.hold m i b).pcs = s.pcs := rfl
@[simp] theorem State.hold_hstacks (m : Msg) (i : Option Nat) (b : Bool) : (s.hold m i b).hstacks = s.hstacks := rfl
@[simp] theorem State.hold_hbm (m : Msg) (i : Option Nat) (b : Bool) : (s.hold m i b).hbm = s.hbm := rfl
@[simp] theorem State.hold_clusters (m : Msg) (i : Option Nat) (b : Bool) : (s.hold m i b).clusters = s.clusters := rfl
@[simp] theorem State.hold_cores (m : Msg) (i : Option Nat) (b : Bool) : (s.hold m i b).cores = s.cores := rfl
@[simp] theorem State.hold_inks (m : Msg) (i : Option Nat) (b : Bool) : (s.hold m i b).inks = s.inks := rfl
@[simp] theorem State.hold_engines (m : Msg) (i : Option Nat) (b : Bool) : (s.hold m i b).engines = s.engines := rfl
@[simp] theorem State.hold_inkLast (m : Msg) (i : Option Nat) (b : Bool) : (s.hold m i b).inkLast = s.inkLast := rfl
@[simp] theorem State.hold_tel (m : Msg) (i : Option Nat) (b : Bool) : (s.hold m i b).tel = s.tel := rfl
@[simp] theorem State.hold_cx (m : Msg) (i : Option Nat) (b : Bool) : (s.hold m i b).cx = s.cx := rfl
@[simp] theorem State.hold_tap (m : Msg) (i : Option Nat) (b : Bool) : (s.hold m i b).tap = s.tap := rfl

/-! ### modPc changes pcs -/

@[simp] theorem State.modPc_pending (p : Nat) (f : Pc → Pc) : (s.modPc p f).pending = s.pending := rfl
@[simp] theorem State.modPc_freeCtr (p : Nat) (f : Pc → Pc) : (s.modPc p f).freeCtr = s.freeCtr := rfl
@[simp] theorem State.modPc_cwData (p : Nat) (f : Pc → Pc) : (s.modPc p f).cwData = s.cwData := rfl
@[simp] theorem State.modPc_pins (p : Nat) (f : Pc → Pc) : (s.modPc p f).pins = s.pins := rfl
@[simp] theorem State.modPc_phys (p : Nat) (f : Pc → Pc) : (s.modPc p f).phys = s.phys := rfl
@[simp] theorem State.modPc_nv (p : Nat) (f : Pc → Pc) : (s.modPc p f).nv = s.nv := rfl
@[simp] theorem State.modPc_boot (p : Nat) (f : Pc → Pc) : (s.modPc p f).boot = s.boot := rfl
@[simp] theorem State.modPc_tb (p : Nat) (f : Pc → Pc) : (s.modPc p f).tb = s.tb := rfl
@[simp] theorem State.modPc_mgmt (p : Nat) (f : Pc → Pc) : (s.modPc p f).mgmt = s.mgmt := rfl
@[simp] theorem State.modPc_reg (p : Nat) (f : Pc → Pc) : (s.modPc p f).reg = s.reg := rfl
@[simp] theorem State.modPc_ports (p : Nat) (f : Pc → Pc) : (s.modPc p f).ports = s.ports := rfl
@[simp] theorem State.modPc_spine (p : Nat) (f : Pc → Pc) : (s.modPc p f).spine = s.spine := rfl
@[simp] theorem State.modPc_purge (p : Nat) (f : Pc → Pc) : (s.modPc p f).purge = s.purge := rfl
@[simp] theorem State.modPc_evt (p : Nat) (f : Pc → Pc) : (s.modPc p f).evt = s.evt := rfl
@[simp] theorem State.modPc_doms (p : Nat) (f : Pc → Pc) : (s.modPc p f).doms = s.doms := rfl
@[simp] theorem State.modPc_damper (p : Nat) (f : Pc → Pc) : (s.modPc p f).damper = s.damper := rfl
@[simp] theorem State.modPc_acc (p : Nat) (f : Pc → Pc) : (s.modPc p f).acc = s.acc := rfl
@[simp] theorem State.modPc_slices (p : Nat) (f : Pc → Pc) : (s.modPc p f).slices = s.slices := rfl
@[simp] theorem State.modPc_resv (p : Nat) (f : Pc → Pc) : (s.modPc p f).resv = s.resv := rfl
@[simp] theorem State.modPc_cleanAlls (p : Nat) (f : Pc → Pc) : (s.modPc p f).cleanAlls = s.cleanAlls := rfl
@[simp] theorem State.modPc_cleanSeq (p : Nat) (f : Pc → Pc) : (s.modPc p f).cleanSeq = s.cleanSeq := rfl
@[simp] theorem State.modPc_hstacks (p : Nat) (f : Pc → Pc) : (s.modPc p f).hstacks = s.hstacks := rfl
@[simp] theorem State.modPc_hbm (p : Nat) (f : Pc → Pc) : (s.modPc p f).hbm = s.hbm := rfl
@[simp] theorem State.modPc_clusters (p : Nat) (f : Pc → Pc) : (s.modPc p f).clusters = s.clusters := rfl
@[simp] theorem State.modPc_cores (p : Nat) (f : Pc → Pc) : (s.modPc p f).cores = s.cores := rfl
@[simp] theorem State.modPc_inks (p : Nat) (f : Pc → Pc) : (s.modPc p f).inks = s.inks := rfl
@[simp] theorem State.modPc_engines (p : Nat) (f : Pc → Pc) : (s.modPc p f).engines = s.engines := rfl
@[simp] theorem State.modPc_inkLast (p : Nat) (f : Pc → Pc) : (s.modPc p f).inkLast = s.inkLast := rfl
@[simp] theorem State.modPc_tel (p : Nat) (f : Pc → Pc) : (s.modPc p f).tel = s.tel := rfl
@[simp] theorem State.modPc_cx (p : Nat) (f : Pc → Pc) : (s.modPc p f).cx = s.cx := rfl
@[simp] theorem State.modPc_tap (p : Nat) (f : Pc → Pc) : (s.modPc p f).tap = s.tap := rfl

/-! ### modSlice changes slices -/

@[simp] theorem State.modSlice_pending (i : Nat) (f : Slice → Slice) : (s.modSlice i f).pending = s.pending := rfl
@[simp] theorem State.modSlice_freeCtr (i : Nat) (f : Slice → Slice) : (s.modSlice i f).freeCtr = s.freeCtr := rfl
@[simp] theorem State.modSlice_cwData (i : Nat) (f : Slice → Slice) : (s.modSlice i f).cwData = s.cwData := rfl
@[simp] theorem State.modSlice_pins (i : Nat) (f : Slice → Slice) : (s.modSlice i f).pins = s.pins := rfl
@[simp] theorem State.modSlice_phys (i : Nat) (f : Slice → Slice) : (s.modSlice i f).phys = s.phys := rfl
@[simp] theorem State.modSlice_nv (i : Nat) (f : Slice → Slice) : (s.modSlice i f).nv = s.nv := rfl
@[simp] theorem State.modSlice_boot (i : Nat) (f : Slice → Slice) : (s.modSlice i f).boot = s.boot := rfl
@[simp] theorem State.modSlice_tb (i : Nat) (f : Slice → Slice) : (s.modSlice i f).tb = s.tb := rfl
@[simp] theorem State.modSlice_mgmt (i : Nat) (f : Slice → Slice) : (s.modSlice i f).mgmt = s.mgmt := rfl
@[simp] theorem State.modSlice_reg (i : Nat) (f : Slice → Slice) : (s.modSlice i f).reg = s.reg := rfl
@[simp] theorem State.modSlice_ports (i : Nat) (f : Slice → Slice) : (s.modSlice i f).ports = s.ports := rfl
@[simp] theorem State.modSlice_spine (i : Nat) (f : Slice → Slice) : (s.modSlice i f).spine = s.spine := rfl
@[simp] theorem State.modSlice_purge (i : Nat) (f : Slice → Slice) : (s.modSlice i f).purge = s.purge := rfl
@[simp] theorem State.modSlice_evt (i : Nat) (f : Slice → Slice) : (s.modSlice i f).evt = s.evt := rfl
@[simp] theorem State.modSlice_doms (i : Nat) (f : Slice → Slice) : (s.modSlice i f).doms = s.doms := rfl
@[simp] theorem State.modSlice_damper (i : Nat) (f : Slice → Slice) : (s.modSlice i f).damper = s.damper := rfl
@[simp] theorem State.modSlice_acc (i : Nat) (f : Slice → Slice) : (s.modSlice i f).acc = s.acc := rfl
@[simp] theorem State.modSlice_resv (i : Nat) (f : Slice → Slice) : (s.modSlice i f).resv = s.resv := rfl
@[simp] theorem State.modSlice_cleanAlls (i : Nat) (f : Slice → Slice) : (s.modSlice i f).cleanAlls = s.cleanAlls := rfl
@[simp] theorem State.modSlice_cleanSeq (i : Nat) (f : Slice → Slice) : (s.modSlice i f).cleanSeq = s.cleanSeq := rfl
@[simp] theorem State.modSlice_pcs (i : Nat) (f : Slice → Slice) : (s.modSlice i f).pcs = s.pcs := rfl
@[simp] theorem State.modSlice_hstacks (i : Nat) (f : Slice → Slice) : (s.modSlice i f).hstacks = s.hstacks := rfl
@[simp] theorem State.modSlice_hbm (i : Nat) (f : Slice → Slice) : (s.modSlice i f).hbm = s.hbm := rfl
@[simp] theorem State.modSlice_clusters (i : Nat) (f : Slice → Slice) : (s.modSlice i f).clusters = s.clusters := rfl
@[simp] theorem State.modSlice_cores (i : Nat) (f : Slice → Slice) : (s.modSlice i f).cores = s.cores := rfl
@[simp] theorem State.modSlice_inks (i : Nat) (f : Slice → Slice) : (s.modSlice i f).inks = s.inks := rfl
@[simp] theorem State.modSlice_engines (i : Nat) (f : Slice → Slice) : (s.modSlice i f).engines = s.engines := rfl
@[simp] theorem State.modSlice_inkLast (i : Nat) (f : Slice → Slice) : (s.modSlice i f).inkLast = s.inkLast := rfl
@[simp] theorem State.modSlice_tel (i : Nat) (f : Slice → Slice) : (s.modSlice i f).tel = s.tel := rfl
@[simp] theorem State.modSlice_cx (i : Nat) (f : Slice → Slice) : (s.modSlice i f).cx = s.cx := rfl
@[simp] theorem State.modSlice_tap (i : Nat) (f : Slice → Slice) : (s.modSlice i f).tap = s.tap := rfl

/-! ### modStack changes hstacks -/

@[simp] theorem State.modStack_pending (k : Nat) (f : Stack → Stack) : (s.modStack k f).pending = s.pending := rfl
@[simp] theorem State.modStack_freeCtr (k : Nat) (f : Stack → Stack) : (s.modStack k f).freeCtr = s.freeCtr := rfl
@[simp] theorem State.modStack_cwData (k : Nat) (f : Stack → Stack) : (s.modStack k f).cwData = s.cwData := rfl
@[simp] theorem State.modStack_pins (k : Nat) (f : Stack → Stack) : (s.modStack k f).pins = s.pins := rfl
@[simp] theorem State.modStack_phys (k : Nat) (f : Stack → Stack) : (s.modStack k f).phys = s.phys := rfl
@[simp] theorem State.modStack_nv (k : Nat) (f : Stack → Stack) : (s.modStack k f).nv = s.nv := rfl
@[simp] theorem State.modStack_boot (k : Nat) (f : Stack → Stack) : (s.modStack k f).boot = s.boot := rfl
@[simp] theorem State.modStack_tb (k : Nat) (f : Stack → Stack) : (s.modStack k f).tb = s.tb := rfl
@[simp] theorem State.modStack_mgmt (k : Nat) (f : Stack → Stack) : (s.modStack k f).mgmt = s.mgmt := rfl
@[simp] theorem State.modStack_reg (k : Nat) (f : Stack → Stack) : (s.modStack k f).reg = s.reg := rfl
@[simp] theorem State.modStack_ports (k : Nat) (f : Stack → Stack) : (s.modStack k f).ports = s.ports := rfl
@[simp] theorem State.modStack_spine (k : Nat) (f : Stack → Stack) : (s.modStack k f).spine = s.spine := rfl
@[simp] theorem State.modStack_purge (k : Nat) (f : Stack → Stack) : (s.modStack k f).purge = s.purge := rfl
@[simp] theorem State.modStack_evt (k : Nat) (f : Stack → Stack) : (s.modStack k f).evt = s.evt := rfl
@[simp] theorem State.modStack_doms (k : Nat) (f : Stack → Stack) : (s.modStack k f).doms = s.doms := rfl
@[simp] theorem State.modStack_damper (k : Nat) (f : Stack → Stack) : (s.modStack k f).damper = s.damper := rfl
@[simp] theorem State.modStack_acc (k : Nat) (f : Stack → Stack) : (s.modStack k f).acc = s.acc := rfl
@[simp] theorem State.modStack_slices (k : Nat) (f : Stack → Stack) : (s.modStack k f).slices = s.slices := rfl
@[simp] theorem State.modStack_resv (k : Nat) (f : Stack → Stack) : (s.modStack k f).resv = s.resv := rfl
@[simp] theorem State.modStack_cleanAlls (k : Nat) (f : Stack → Stack) : (s.modStack k f).cleanAlls = s.cleanAlls := rfl
@[simp] theorem State.modStack_cleanSeq (k : Nat) (f : Stack → Stack) : (s.modStack k f).cleanSeq = s.cleanSeq := rfl
@[simp] theorem State.modStack_pcs (k : Nat) (f : Stack → Stack) : (s.modStack k f).pcs = s.pcs := rfl
@[simp] theorem State.modStack_hbm (k : Nat) (f : Stack → Stack) : (s.modStack k f).hbm = s.hbm := rfl
@[simp] theorem State.modStack_clusters (k : Nat) (f : Stack → Stack) : (s.modStack k f).clusters = s.clusters := rfl
@[simp] theorem State.modStack_cores (k : Nat) (f : Stack → Stack) : (s.modStack k f).cores = s.cores := rfl
@[simp] theorem State.modStack_inks (k : Nat) (f : Stack → Stack) : (s.modStack k f).inks = s.inks := rfl
@[simp] theorem State.modStack_engines (k : Nat) (f : Stack → Stack) : (s.modStack k f).engines = s.engines := rfl
@[simp] theorem State.modStack_inkLast (k : Nat) (f : Stack → Stack) : (s.modStack k f).inkLast = s.inkLast := rfl
@[simp] theorem State.modStack_tel (k : Nat) (f : Stack → Stack) : (s.modStack k f).tel = s.tel := rfl
@[simp] theorem State.modStack_cx (k : Nat) (f : Stack → Stack) : (s.modStack k f).cx = s.cx := rfl
@[simp] theorem State.modStack_tap (k : Nat) (f : Stack → Stack) : (s.modStack k f).tap = s.tap := rfl

/-! ### setHbm changes hbm -/

@[simp] theorem State.setHbm_pending (l : Nat) (x : HbmLine) : (s.setHbm l x).pending = s.pending := rfl
@[simp] theorem State.setHbm_freeCtr (l : Nat) (x : HbmLine) : (s.setHbm l x).freeCtr = s.freeCtr := rfl
@[simp] theorem State.setHbm_cwData (l : Nat) (x : HbmLine) : (s.setHbm l x).cwData = s.cwData := rfl
@[simp] theorem State.setHbm_pins (l : Nat) (x : HbmLine) : (s.setHbm l x).pins = s.pins := rfl
@[simp] theorem State.setHbm_phys (l : Nat) (x : HbmLine) : (s.setHbm l x).phys = s.phys := rfl
@[simp] theorem State.setHbm_nv (l : Nat) (x : HbmLine) : (s.setHbm l x).nv = s.nv := rfl
@[simp] theorem State.setHbm_boot (l : Nat) (x : HbmLine) : (s.setHbm l x).boot = s.boot := rfl
@[simp] theorem State.setHbm_tb (l : Nat) (x : HbmLine) : (s.setHbm l x).tb = s.tb := rfl
@[simp] theorem State.setHbm_mgmt (l : Nat) (x : HbmLine) : (s.setHbm l x).mgmt = s.mgmt := rfl
@[simp] theorem State.setHbm_reg (l : Nat) (x : HbmLine) : (s.setHbm l x).reg = s.reg := rfl
@[simp] theorem State.setHbm_ports (l : Nat) (x : HbmLine) : (s.setHbm l x).ports = s.ports := rfl
@[simp] theorem State.setHbm_spine (l : Nat) (x : HbmLine) : (s.setHbm l x).spine = s.spine := rfl
@[simp] theorem State.setHbm_purge (l : Nat) (x : HbmLine) : (s.setHbm l x).purge = s.purge := rfl
@[simp] theorem State.setHbm_evt (l : Nat) (x : HbmLine) : (s.setHbm l x).evt = s.evt := rfl
@[simp] theorem State.setHbm_doms (l : Nat) (x : HbmLine) : (s.setHbm l x).doms = s.doms := rfl
@[simp] theorem State.setHbm_damper (l : Nat) (x : HbmLine) : (s.setHbm l x).damper = s.damper := rfl
@[simp] theorem State.setHbm_acc (l : Nat) (x : HbmLine) : (s.setHbm l x).acc = s.acc := rfl
@[simp] theorem State.setHbm_slices (l : Nat) (x : HbmLine) : (s.setHbm l x).slices = s.slices := rfl
@[simp] theorem State.setHbm_resv (l : Nat) (x : HbmLine) : (s.setHbm l x).resv = s.resv := rfl
@[simp] theorem State.setHbm_cleanAlls (l : Nat) (x : HbmLine) : (s.setHbm l x).cleanAlls = s.cleanAlls := rfl
@[simp] theorem State.setHbm_cleanSeq (l : Nat) (x : HbmLine) : (s.setHbm l x).cleanSeq = s.cleanSeq := rfl
@[simp] theorem State.setHbm_pcs (l : Nat) (x : HbmLine) : (s.setHbm l x).pcs = s.pcs := rfl
@[simp] theorem State.setHbm_hstacks (l : Nat) (x : HbmLine) : (s.setHbm l x).hstacks = s.hstacks := rfl
@[simp] theorem State.setHbm_clusters (l : Nat) (x : HbmLine) : (s.setHbm l x).clusters = s.clusters := rfl
@[simp] theorem State.setHbm_cores (l : Nat) (x : HbmLine) : (s.setHbm l x).cores = s.cores := rfl
@[simp] theorem State.setHbm_inks (l : Nat) (x : HbmLine) : (s.setHbm l x).inks = s.inks := rfl
@[simp] theorem State.setHbm_engines (l : Nat) (x : HbmLine) : (s.setHbm l x).engines = s.engines := rfl
@[simp] theorem State.setHbm_inkLast (l : Nat) (x : HbmLine) : (s.setHbm l x).inkLast = s.inkLast := rfl
@[simp] theorem State.setHbm_tel (l : Nat) (x : HbmLine) : (s.setHbm l x).tel = s.tel := rfl
@[simp] theorem State.setHbm_cx (l : Nat) (x : HbmLine) : (s.setHbm l x).cx = s.cx := rfl
@[simp] theorem State.setHbm_tap (l : Nat) (x : HbmLine) : (s.setHbm l x).tap = s.tap := rfl

/-! ### modCore changes cores -/

@[simp] theorem State.modCore_pending (k : Nat) (f : Core → Core) : (s.modCore k f).pending = s.pending := rfl
@[simp] theorem State.modCore_freeCtr (k : Nat) (f : Core → Core) : (s.modCore k f).freeCtr = s.freeCtr := rfl
@[simp] theorem State.modCore_cwData (k : Nat) (f : Core → Core) : (s.modCore k f).cwData = s.cwData := rfl
@[simp] theorem State.modCore_pins (k : Nat) (f : Core → Core) : (s.modCore k f).pins = s.pins := rfl
@[simp] theorem State.modCore_phys (k : Nat) (f : Core → Core) : (s.modCore k f).phys = s.phys := rfl
@[simp] theorem State.modCore_nv (k : Nat) (f : Core → Core) : (s.modCore k f).nv = s.nv := rfl
@[simp] theorem State.modCore_boot (k : Nat) (f : Core → Core) : (s.modCore k f).boot = s.boot := rfl
@[simp] theorem State.modCore_tb (k : Nat) (f : Core → Core) : (s.modCore k f).tb = s.tb := rfl
@[simp] theorem State.modCore_mgmt (k : Nat) (f : Core → Core) : (s.modCore k f).mgmt = s.mgmt := rfl
@[simp] theorem State.modCore_reg (k : Nat) (f : Core → Core) : (s.modCore k f).reg = s.reg := rfl
@[simp] theorem State.modCore_ports (k : Nat) (f : Core → Core) : (s.modCore k f).ports = s.ports := rfl
@[simp] theorem State.modCore_spine (k : Nat) (f : Core → Core) : (s.modCore k f).spine = s.spine := rfl
@[simp] theorem State.modCore_purge (k : Nat) (f : Core → Core) : (s.modCore k f).purge = s.purge := rfl
@[simp] theorem State.modCore_evt (k : Nat) (f : Core → Core) : (s.modCore k f).evt = s.evt := rfl
@[simp] theorem State.modCore_doms (k : Nat) (f : Core → Core) : (s.modCore k f).doms = s.doms := rfl
@[simp] theorem State.modCore_damper (k : Nat) (f : Core → Core) : (s.modCore k f).damper = s.damper := rfl
@[simp] theorem State.modCore_acc (k : Nat) (f : Core → Core) : (s.modCore k f).acc = s.acc := rfl
@[simp] theorem State.modCore_slices (k : Nat) (f : Core → Core) : (s.modCore k f).slices = s.slices := rfl
@[simp] theorem State.modCore_resv (k : Nat) (f : Core → Core) : (s.modCore k f).resv = s.resv := rfl
@[simp] theorem State.modCore_cleanAlls (k : Nat) (f : Core → Core) : (s.modCore k f).cleanAlls = s.cleanAlls := rfl
@[simp] theorem State.modCore_cleanSeq (k : Nat) (f : Core → Core) : (s.modCore k f).cleanSeq = s.cleanSeq := rfl
@[simp] theorem State.modCore_pcs (k : Nat) (f : Core → Core) : (s.modCore k f).pcs = s.pcs := rfl
@[simp] theorem State.modCore_hstacks (k : Nat) (f : Core → Core) : (s.modCore k f).hstacks = s.hstacks := rfl
@[simp] theorem State.modCore_hbm (k : Nat) (f : Core → Core) : (s.modCore k f).hbm = s.hbm := rfl
@[simp] theorem State.modCore_clusters (k : Nat) (f : Core → Core) : (s.modCore k f).clusters = s.clusters := rfl
@[simp] theorem State.modCore_inks (k : Nat) (f : Core → Core) : (s.modCore k f).inks = s.inks := rfl
@[simp] theorem State.modCore_engines (k : Nat) (f : Core → Core) : (s.modCore k f).engines = s.engines := rfl
@[simp] theorem State.modCore_inkLast (k : Nat) (f : Core → Core) : (s.modCore k f).inkLast = s.inkLast := rfl
@[simp] theorem State.modCore_tel (k : Nat) (f : Core → Core) : (s.modCore k f).tel = s.tel := rfl
@[simp] theorem State.modCore_cx (k : Nat) (f : Core → Core) : (s.modCore k f).cx = s.cx := rfl
@[simp] theorem State.modCore_tap (k : Nat) (f : Core → Core) : (s.modCore k f).tap = s.tap := rfl

/-! ### modCluster changes clusters -/

@[simp] theorem State.modCluster_pending (k : Nat) (f : Cluster → Cluster) : (s.modCluster k f).pending = s.pending := rfl
@[simp] theorem State.modCluster_freeCtr (k : Nat) (f : Cluster → Cluster) : (s.modCluster k f).freeCtr = s.freeCtr := rfl
@[simp] theorem State.modCluster_cwData (k : Nat) (f : Cluster → Cluster) : (s.modCluster k f).cwData = s.cwData := rfl
@[simp] theorem State.modCluster_pins (k : Nat) (f : Cluster → Cluster) : (s.modCluster k f).pins = s.pins := rfl
@[simp] theorem State.modCluster_phys (k : Nat) (f : Cluster → Cluster) : (s.modCluster k f).phys = s.phys := rfl
@[simp] theorem State.modCluster_nv (k : Nat) (f : Cluster → Cluster) : (s.modCluster k f).nv = s.nv := rfl
@[simp] theorem State.modCluster_boot (k : Nat) (f : Cluster → Cluster) : (s.modCluster k f).boot = s.boot := rfl
@[simp] theorem State.modCluster_tb (k : Nat) (f : Cluster → Cluster) : (s.modCluster k f).tb = s.tb := rfl
@[simp] theorem State.modCluster_mgmt (k : Nat) (f : Cluster → Cluster) : (s.modCluster k f).mgmt = s.mgmt := rfl
@[simp] theorem State.modCluster_reg (k : Nat) (f : Cluster → Cluster) : (s.modCluster k f).reg = s.reg := rfl
@[simp] theorem State.modCluster_ports (k : Nat) (f : Cluster → Cluster) : (s.modCluster k f).ports = s.ports := rfl
@[simp] theorem State.modCluster_spine (k : Nat) (f : Cluster → Cluster) : (s.modCluster k f).spine = s.spine := rfl
@[simp] theorem State.modCluster_purge (k : Nat) (f : Cluster → Cluster) : (s.modCluster k f).purge = s.purge := rfl
@[simp] theorem State.modCluster_evt (k : Nat) (f : Cluster → Cluster) : (s.modCluster k f).evt = s.evt := rfl
@[simp] theorem State.modCluster_doms (k : Nat) (f : Cluster → Cluster) : (s.modCluster k f).doms = s.doms := rfl
@[simp] theorem State.modCluster_damper (k : Nat) (f : Cluster → Cluster) : (s.modCluster k f).damper = s.damper := rfl
@[simp] theorem State.modCluster_acc (k : Nat) (f : Cluster → Cluster) : (s.modCluster k f).acc = s.acc := rfl
@[simp] theorem State.modCluster_slices (k : Nat) (f : Cluster → Cluster) : (s.modCluster k f).slices = s.slices := rfl
@[simp] theorem State.modCluster_resv (k : Nat) (f : Cluster → Cluster) : (s.modCluster k f).resv = s.resv := rfl
@[simp] theorem State.modCluster_cleanAlls (k : Nat) (f : Cluster → Cluster) : (s.modCluster k f).cleanAlls = s.cleanAlls := rfl
@[simp] theorem State.modCluster_cleanSeq (k : Nat) (f : Cluster → Cluster) : (s.modCluster k f).cleanSeq = s.cleanSeq := rfl
@[simp] theorem State.modCluster_pcs (k : Nat) (f : Cluster → Cluster) : (s.modCluster k f).pcs = s.pcs := rfl
@[simp] theorem State.modCluster_hstacks (k : Nat) (f : Cluster → Cluster) : (s.modCluster k f).hstacks = s.hstacks := rfl
@[simp] theorem State.modCluster_hbm (k : Nat) (f : Cluster → Cluster) : (s.modCluster k f).hbm = s.hbm := rfl
@[simp] theorem State.modCluster_cores (k : Nat) (f : Cluster → Cluster) : (s.modCluster k f).cores = s.cores := rfl
@[simp] theorem State.modCluster_inks (k : Nat) (f : Cluster → Cluster) : (s.modCluster k f).inks = s.inks := rfl
@[simp] theorem State.modCluster_engines (k : Nat) (f : Cluster → Cluster) : (s.modCluster k f).engines = s.engines := rfl
@[simp] theorem State.modCluster_inkLast (k : Nat) (f : Cluster → Cluster) : (s.modCluster k f).inkLast = s.inkLast := rfl
@[simp] theorem State.modCluster_tel (k : Nat) (f : Cluster → Cluster) : (s.modCluster k f).tel = s.tel := rfl
@[simp] theorem State.modCluster_cx (k : Nat) (f : Cluster → Cluster) : (s.modCluster k f).cx = s.cx := rfl
@[simp] theorem State.modCluster_tap (k : Nat) (f : Cluster → Cluster) : (s.modCluster k f).tap = s.tap := rfl

/-! ### modInk changes inks -/

@[simp] theorem State.modInk_pending (n : Nat) (f : Inkwell → Inkwell) : (s.modInk n f).pending = s.pending := rfl
@[simp] theorem State.modInk_freeCtr (n : Nat) (f : Inkwell → Inkwell) : (s.modInk n f).freeCtr = s.freeCtr := rfl
@[simp] theorem State.modInk_cwData (n : Nat) (f : Inkwell → Inkwell) : (s.modInk n f).cwData = s.cwData := rfl
@[simp] theorem State.modInk_pins (n : Nat) (f : Inkwell → Inkwell) : (s.modInk n f).pins = s.pins := rfl
@[simp] theorem State.modInk_phys (n : Nat) (f : Inkwell → Inkwell) : (s.modInk n f).phys = s.phys := rfl
@[simp] theorem State.modInk_nv (n : Nat) (f : Inkwell → Inkwell) : (s.modInk n f).nv = s.nv := rfl
@[simp] theorem State.modInk_boot (n : Nat) (f : Inkwell → Inkwell) : (s.modInk n f).boot = s.boot := rfl
@[simp] theorem State.modInk_tb (n : Nat) (f : Inkwell → Inkwell) : (s.modInk n f).tb = s.tb := rfl
@[simp] theorem State.modInk_mgmt (n : Nat) (f : Inkwell → Inkwell) : (s.modInk n f).mgmt = s.mgmt := rfl
@[simp] theorem State.modInk_reg (n : Nat) (f : Inkwell → Inkwell) : (s.modInk n f).reg = s.reg := rfl
@[simp] theorem State.modInk_ports (n : Nat) (f : Inkwell → Inkwell) : (s.modInk n f).ports = s.ports := rfl
@[simp] theorem State.modInk_spine (n : Nat) (f : Inkwell → Inkwell) : (s.modInk n f).spine = s.spine := rfl
@[simp] theorem State.modInk_purge (n : Nat) (f : Inkwell → Inkwell) : (s.modInk n f).purge = s.purge := rfl
@[simp] theorem State.modInk_evt (n : Nat) (f : Inkwell → Inkwell) : (s.modInk n f).evt = s.evt := rfl
@[simp] theorem State.modInk_doms (n : Nat) (f : Inkwell → Inkwell) : (s.modInk n f).doms = s.doms := rfl
@[simp] theorem State.modInk_damper (n : Nat) (f : Inkwell → Inkwell) : (s.modInk n f).damper = s.damper := rfl
@[simp] theorem State.modInk_acc (n : Nat) (f : Inkwell → Inkwell) : (s.modInk n f).acc = s.acc := rfl
@[simp] theorem State.modInk_slices (n : Nat) (f : Inkwell → Inkwell) : (s.modInk n f).slices = s.slices := rfl
@[simp] theorem State.modInk_resv (n : Nat) (f : Inkwell → Inkwell) : (s.modInk n f).resv = s.resv := rfl
@[simp] theorem State.modInk_cleanAlls (n : Nat) (f : Inkwell → Inkwell) : (s.modInk n f).cleanAlls = s.cleanAlls := rfl
@[simp] theorem State.modInk_cleanSeq (n : Nat) (f : Inkwell → Inkwell) : (s.modInk n f).cleanSeq = s.cleanSeq := rfl
@[simp] theorem State.modInk_pcs (n : Nat) (f : Inkwell → Inkwell) : (s.modInk n f).pcs = s.pcs := rfl
@[simp] theorem State.modInk_hstacks (n : Nat) (f : Inkwell → Inkwell) : (s.modInk n f).hstacks = s.hstacks := rfl
@[simp] theorem State.modInk_hbm (n : Nat) (f : Inkwell → Inkwell) : (s.modInk n f).hbm = s.hbm := rfl
@[simp] theorem State.modInk_clusters (n : Nat) (f : Inkwell → Inkwell) : (s.modInk n f).clusters = s.clusters := rfl
@[simp] theorem State.modInk_cores (n : Nat) (f : Inkwell → Inkwell) : (s.modInk n f).cores = s.cores := rfl
@[simp] theorem State.modInk_engines (n : Nat) (f : Inkwell → Inkwell) : (s.modInk n f).engines = s.engines := rfl
@[simp] theorem State.modInk_inkLast (n : Nat) (f : Inkwell → Inkwell) : (s.modInk n f).inkLast = s.inkLast := rfl
@[simp] theorem State.modInk_tel (n : Nat) (f : Inkwell → Inkwell) : (s.modInk n f).tel = s.tel := rfl
@[simp] theorem State.modInk_cx (n : Nat) (f : Inkwell → Inkwell) : (s.modInk n f).cx = s.cx := rfl
@[simp] theorem State.modInk_tap (n : Nat) (f : Inkwell → Inkwell) : (s.modInk n f).tap = s.tap := rfl

/-! ### modEngine changes engines -/

@[simp] theorem State.modEngine_pending (n : Nat) (f : Engine → Engine) : (s.modEngine n f).pending = s.pending := rfl
@[simp] theorem State.modEngine_freeCtr (n : Nat) (f : Engine → Engine) : (s.modEngine n f).freeCtr = s.freeCtr := rfl
@[simp] theorem State.modEngine_cwData (n : Nat) (f : Engine → Engine) : (s.modEngine n f).cwData = s.cwData := rfl
@[simp] theorem State.modEngine_pins (n : Nat) (f : Engine → Engine) : (s.modEngine n f).pins = s.pins := rfl
@[simp] theorem State.modEngine_phys (n : Nat) (f : Engine → Engine) : (s.modEngine n f).phys = s.phys := rfl
@[simp] theorem State.modEngine_nv (n : Nat) (f : Engine → Engine) : (s.modEngine n f).nv = s.nv := rfl
@[simp] theorem State.modEngine_boot (n : Nat) (f : Engine → Engine) : (s.modEngine n f).boot = s.boot := rfl
@[simp] theorem State.modEngine_tb (n : Nat) (f : Engine → Engine) : (s.modEngine n f).tb = s.tb := rfl
@[simp] theorem State.modEngine_mgmt (n : Nat) (f : Engine → Engine) : (s.modEngine n f).mgmt = s.mgmt := rfl
@[simp] theorem State.modEngine_reg (n : Nat) (f : Engine → Engine) : (s.modEngine n f).reg = s.reg := rfl
@[simp] theorem State.modEngine_ports (n : Nat) (f : Engine → Engine) : (s.modEngine n f).ports = s.ports := rfl
@[simp] theorem State.modEngine_spine (n : Nat) (f : Engine → Engine) : (s.modEngine n f).spine = s.spine := rfl
@[simp] theorem State.modEngine_purge (n : Nat) (f : Engine → Engine) : (s.modEngine n f).purge = s.purge := rfl
@[simp] theorem State.modEngine_evt (n : Nat) (f : Engine → Engine) : (s.modEngine n f).evt = s.evt := rfl
@[simp] theorem State.modEngine_doms (n : Nat) (f : Engine → Engine) : (s.modEngine n f).doms = s.doms := rfl
@[simp] theorem State.modEngine_damper (n : Nat) (f : Engine → Engine) : (s.modEngine n f).damper = s.damper := rfl
@[simp] theorem State.modEngine_acc (n : Nat) (f : Engine → Engine) : (s.modEngine n f).acc = s.acc := rfl
@[simp] theorem State.modEngine_slices (n : Nat) (f : Engine → Engine) : (s.modEngine n f).slices = s.slices := rfl
@[simp] theorem State.modEngine_resv (n : Nat) (f : Engine → Engine) : (s.modEngine n f).resv = s.resv := rfl
@[simp] theorem State.modEngine_cleanAlls (n : Nat) (f : Engine → Engine) : (s.modEngine n f).cleanAlls = s.cleanAlls := rfl
@[simp] theorem State.modEngine_cleanSeq (n : Nat) (f : Engine → Engine) : (s.modEngine n f).cleanSeq = s.cleanSeq := rfl
@[simp] theorem State.modEngine_pcs (n : Nat) (f : Engine → Engine) : (s.modEngine n f).pcs = s.pcs := rfl
@[simp] theorem State.modEngine_hstacks (n : Nat) (f : Engine → Engine) : (s.modEngine n f).hstacks = s.hstacks := rfl
@[simp] theorem State.modEngine_hbm (n : Nat) (f : Engine → Engine) : (s.modEngine n f).hbm = s.hbm := rfl
@[simp] theorem State.modEngine_clusters (n : Nat) (f : Engine → Engine) : (s.modEngine n f).clusters = s.clusters := rfl
@[simp] theorem State.modEngine_cores (n : Nat) (f : Engine → Engine) : (s.modEngine n f).cores = s.cores := rfl
@[simp] theorem State.modEngine_inks (n : Nat) (f : Engine → Engine) : (s.modEngine n f).inks = s.inks := rfl
@[simp] theorem State.modEngine_inkLast (n : Nat) (f : Engine → Engine) : (s.modEngine n f).inkLast = s.inkLast := rfl
@[simp] theorem State.modEngine_tel (n : Nat) (f : Engine → Engine) : (s.modEngine n f).tel = s.tel := rfl
@[simp] theorem State.modEngine_cx (n : Nat) (f : Engine → Engine) : (s.modEngine n f).cx = s.cx := rfl
@[simp] theorem State.modEngine_tap (n : Nat) (f : Engine → Engine) : (s.modEngine n f).tap = s.tap := rfl

/-! ### putReq changes spine -/

@[simp] theorem State.putReq_pending (m : Msg) : (s.putReq m).pending = s.pending := rfl
@[simp] theorem State.putReq_freeCtr (m : Msg) : (s.putReq m).freeCtr = s.freeCtr := rfl
@[simp] theorem State.putReq_cwData (m : Msg) : (s.putReq m).cwData = s.cwData := rfl
@[simp] theorem State.putReq_pins (m : Msg) : (s.putReq m).pins = s.pins := rfl
@[simp] theorem State.putReq_phys (m : Msg) : (s.putReq m).phys = s.phys := rfl
@[simp] theorem State.putReq_nv (m : Msg) : (s.putReq m).nv = s.nv := rfl
@[simp] theorem State.putReq_boot (m : Msg) : (s.putReq m).boot = s.boot := rfl
@[simp] theorem State.putReq_tb (m : Msg) : (s.putReq m).tb = s.tb := rfl
@[simp] theorem State.putReq_mgmt (m : Msg) : (s.putReq m).mgmt = s.mgmt := rfl
@[simp] theorem State.putReq_reg (m : Msg) : (s.putReq m).reg = s.reg := rfl
@[simp] theorem State.putReq_ports (m : Msg) : (s.putReq m).ports = s.ports := rfl
@[simp] theorem State.putReq_purge (m : Msg) : (s.putReq m).purge = s.purge := rfl
@[simp] theorem State.putReq_evt (m : Msg) : (s.putReq m).evt = s.evt := rfl
@[simp] theorem State.putReq_doms (m : Msg) : (s.putReq m).doms = s.doms := rfl
@[simp] theorem State.putReq_damper (m : Msg) : (s.putReq m).damper = s.damper := rfl
@[simp] theorem State.putReq_acc (m : Msg) : (s.putReq m).acc = s.acc := rfl
@[simp] theorem State.putReq_slices (m : Msg) : (s.putReq m).slices = s.slices := rfl
@[simp] theorem State.putReq_resv (m : Msg) : (s.putReq m).resv = s.resv := rfl
@[simp] theorem State.putReq_cleanAlls (m : Msg) : (s.putReq m).cleanAlls = s.cleanAlls := rfl
@[simp] theorem State.putReq_cleanSeq (m : Msg) : (s.putReq m).cleanSeq = s.cleanSeq := rfl
@[simp] theorem State.putReq_pcs (m : Msg) : (s.putReq m).pcs = s.pcs := rfl
@[simp] theorem State.putReq_hstacks (m : Msg) : (s.putReq m).hstacks = s.hstacks := rfl
@[simp] theorem State.putReq_hbm (m : Msg) : (s.putReq m).hbm = s.hbm := rfl
@[simp] theorem State.putReq_clusters (m : Msg) : (s.putReq m).clusters = s.clusters := rfl
@[simp] theorem State.putReq_cores (m : Msg) : (s.putReq m).cores = s.cores := rfl
@[simp] theorem State.putReq_inks (m : Msg) : (s.putReq m).inks = s.inks := rfl
@[simp] theorem State.putReq_engines (m : Msg) : (s.putReq m).engines = s.engines := rfl
@[simp] theorem State.putReq_inkLast (m : Msg) : (s.putReq m).inkLast = s.inkLast := rfl
@[simp] theorem State.putReq_tel (m : Msg) : (s.putReq m).tel = s.tel := rfl
@[simp] theorem State.putReq_cx (m : Msg) : (s.putReq m).cx = s.cx := rfl
@[simp] theorem State.putReq_tap (m : Msg) : (s.putReq m).tap = s.tap := rfl

/-! ### What the accessors read after a change elsewhere -/

@[simp] theorem State.core_wr (off : Nat) (v : Word) (j : Nat) : (s.wr off v).core j = s.core j := by simp [State.core]
@[simp] theorem State.cluster_wr (off : Nat) (v : Word) (j : Nat) : (s.wr off v).cluster j = s.cluster j := by simp [State.cluster]
@[simp] theorem State.dom_wr (off : Nat) (v : Word) (j : Nat) : (s.wr off v).dom j = s.dom j := by simp [State.dom]
@[simp] theorem State.port_wr (off : Nat) (v : Word) (j : Nat) : (s.wr off v).port j = s.port j := by simp [State.port]
@[simp] theorem State.slice_wr (off : Nat) (v : Word) (j : Nat) : (s.wr off v).slice j = s.slice j := by simp [State.slice]
@[simp] theorem State.pc_wr (off : Nat) (v : Word) (j : Nat) : (s.wr off v).pc j = s.pc j := by simp [State.pc]
@[simp] theorem State.ink_wr (off : Nat) (v : Word) (j : Nat) : (s.wr off v).ink j = s.ink j := by simp [State.ink]
@[simp] theorem State.engine_wr (off : Nat) (v : Word) (j : Nat) : (s.wr off v).engine j = s.engine j := by simp [State.engine]

@[simp] theorem State.core_setFld (off lo w v : Nat) (j : Nat) : (s.setFld off lo w v).core j = s.core j := by simp [State.core]
@[simp] theorem State.cluster_setFld (off lo w v : Nat) (j : Nat) : (s.setFld off lo w v).cluster j = s.cluster j := by simp [State.cluster]
@[simp] theorem State.dom_setFld (off lo w v : Nat) (j : Nat) : (s.setFld off lo w v).dom j = s.dom j := by simp [State.dom]
@[simp] theorem State.port_setFld (off lo w v : Nat) (j : Nat) : (s.setFld off lo w v).port j = s.port j := by simp [State.port]
@[simp] theorem State.slice_setFld (off lo w v : Nat) (j : Nat) : (s.setFld off lo w v).slice j = s.slice j := by simp [State.slice]
@[simp] theorem State.pc_setFld (off lo w v : Nat) (j : Nat) : (s.setFld off lo w v).pc j = s.pc j := by simp [State.pc]
@[simp] theorem State.ink_setFld (off lo w v : Nat) (j : Nat) : (s.setFld off lo w v).ink j = s.ink j := by simp [State.ink]
@[simp] theorem State.engine_setFld (off lo w v : Nat) (j : Nat) : (s.setFld off lo w v).engine j = s.engine j := by simp [State.engine]

@[simp] theorem State.core_modDom (d : Nat) (f : Domain → Domain) (j : Nat) : (s.modDom d f).core j = s.core j := by simp [State.core]
@[simp] theorem State.cluster_modDom (d : Nat) (f : Domain → Domain) (j : Nat) : (s.modDom d f).cluster j = s.cluster j := by simp [State.cluster]
@[simp] theorem State.port_modDom (d : Nat) (f : Domain → Domain) (j : Nat) : (s.modDom d f).port j = s.port j := by simp [State.port]
@[simp] theorem State.slice_modDom (d : Nat) (f : Domain → Domain) (j : Nat) : (s.modDom d f).slice j = s.slice j := by simp [State.slice]
@[simp] theorem State.pc_modDom (d : Nat) (f : Domain → Domain) (j : Nat) : (s.modDom d f).pc j = s.pc j := by simp [State.pc]
@[simp] theorem State.ink_modDom (d : Nat) (f : Domain → Domain) (j : Nat) : (s.modDom d f).ink j = s.ink j := by simp [State.ink]
@[simp] theorem State.engine_modDom (d : Nat) (f : Domain → Domain) (j : Nat) : (s.modDom d f).engine j = s.engine j := by simp [State.engine]
@[simp] theorem State.rd_modDom (d : Nat) (f : Domain → Domain) (q : Nat) : (s.modDom d f).rd q = s.rd q := by simp [State.rd]

@[simp] theorem State.core_count (g i n : Nat) (j : Nat) : (s.count g i n).core j = s.core j := by simp [State.core]
@[simp] theorem State.cluster_count (g i n : Nat) (j : Nat) : (s.count g i n).cluster j = s.cluster j := by simp [State.cluster]
@[simp] theorem State.dom_count (g i n : Nat) (j : Nat) : (s.count g i n).dom j = s.dom j := by simp [State.dom]
@[simp] theorem State.port_count (g i n : Nat) (j : Nat) : (s.count g i n).port j = s.port j := by simp [State.port]
@[simp] theorem State.slice_count (g i n : Nat) (j : Nat) : (s.count g i n).slice j = s.slice j := by simp [State.slice]
@[simp] theorem State.pc_count (g i n : Nat) (j : Nat) : (s.count g i n).pc j = s.pc j := by simp [State.pc]
@[simp] theorem State.ink_count (g i n : Nat) (j : Nat) : (s.count g i n).ink j = s.ink j := by simp [State.ink]
@[simp] theorem State.engine_count (g i n : Nat) (j : Nat) : (s.count g i n).engine j = s.engine j := by simp [State.engine]
@[simp] theorem State.rd_count (g i n : Nat) (q : Nat) : (s.count g i n).rd q = s.rd q := by simp [State.rd]

@[simp] theorem State.core_pace (d : Nat) (j : Nat) : (s.pace d).core j = s.core j := by simp [State.core]
@[simp] theorem State.cluster_pace (d : Nat) (j : Nat) : (s.pace d).cluster j = s.cluster j := by simp [State.cluster]
@[simp] theorem State.dom_pace (d : Nat) (j : Nat) : (s.pace d).dom j = s.dom j := by simp [State.dom]
@[simp] theorem State.port_pace (d : Nat) (j : Nat) : (s.pace d).port j = s.port j := by simp [State.port]
@[simp] theorem State.slice_pace (d : Nat) (j : Nat) : (s.pace d).slice j = s.slice j := by simp [State.slice]
@[simp] theorem State.pc_pace (d : Nat) (j : Nat) : (s.pace d).pc j = s.pc j := by simp [State.pc]
@[simp] theorem State.ink_pace (d : Nat) (j : Nat) : (s.pace d).ink j = s.ink j := by simp [State.ink]
@[simp] theorem State.engine_pace (d : Nat) (j : Nat) : (s.pace d).engine j = s.engine j := by simp [State.engine]
@[simp] theorem State.rd_pace (d : Nat) (q : Nat) : (s.pace d).rd q = s.rd q := by simp [State.rd]

@[simp] theorem State.core_raise (a c : Nat) (w : Word) (j : Nat) : (s.raise a c w).core j = s.core j := by simp [State.core]
@[simp] theorem State.cluster_raise (a c : Nat) (w : Word) (j : Nat) : (s.raise a c w).cluster j = s.cluster j := by simp [State.cluster]
@[simp] theorem State.dom_raise (a c : Nat) (w : Word) (j : Nat) : (s.raise a c w).dom j = s.dom j := by simp [State.dom]
@[simp] theorem State.port_raise (a c : Nat) (w : Word) (j : Nat) : (s.raise a c w).port j = s.port j := by simp [State.port]
@[simp] theorem State.slice_raise (a c : Nat) (w : Word) (j : Nat) : (s.raise a c w).slice j = s.slice j := by simp [State.slice]
@[simp] theorem State.pc_raise (a c : Nat) (w : Word) (j : Nat) : (s.raise a c w).pc j = s.pc j := by simp [State.pc]
@[simp] theorem State.ink_raise (a c : Nat) (w : Word) (j : Nat) : (s.raise a c w).ink j = s.ink j := by simp [State.ink]
@[simp] theorem State.engine_raise (a c : Nat) (w : Word) (j : Nat) : (s.raise a c w).engine j = s.engine j := by simp [State.engine]
@[simp] theorem State.rd_raise (a c : Nat) (w : Word) (q : Nat) : (s.raise a c w).rd q = s.rd q := by simp [State.rd]

@[simp] theorem State.core_setErr (off i a : Nat) (w : Word) (j : Nat) : (s.setErr off i a w).core j = s.core j := by simp [State.core]
@[simp] theorem State.cluster_setErr (off i a : Nat) (w : Word) (j : Nat) : (s.setErr off i a w).cluster j = s.cluster j := by simp [State.cluster]
@[simp] theorem State.dom_setErr (off i a : Nat) (w : Word) (j : Nat) : (s.setErr off i a w).dom j = s.dom j := by simp [State.dom]
@[simp] theorem State.port_setErr (off i a : Nat) (w : Word) (j : Nat) : (s.setErr off i a w).port j = s.port j := by simp [State.port]
@[simp] theorem State.slice_setErr (off i a : Nat) (w : Word) (j : Nat) : (s.setErr off i a w).slice j = s.slice j := by simp [State.slice]
@[simp] theorem State.pc_setErr (off i a : Nat) (w : Word) (j : Nat) : (s.setErr off i a w).pc j = s.pc j := by simp [State.pc]
@[simp] theorem State.ink_setErr (off i a : Nat) (w : Word) (j : Nat) : (s.setErr off i a w).ink j = s.ink j := by simp [State.ink]
@[simp] theorem State.engine_setErr (off i a : Nat) (w : Word) (j : Nat) : (s.setErr off i a w).engine j = s.engine j := by simp [State.engine]

@[simp] theorem State.core_setStatus (off i a c : Nat) (w : Word) (j : Nat) : (s.setStatus off i a c w).core j = s.core j := by simp [State.core]
@[simp] theorem State.cluster_setStatus (off i a c : Nat) (w : Word) (j : Nat) : (s.setStatus off i a c w).cluster j = s.cluster j := by simp [State.cluster]
@[simp] theorem State.dom_setStatus (off i a c : Nat) (w : Word) (j : Nat) : (s.setStatus off i a c w).dom j = s.dom j := by simp [State.dom]
@[simp] theorem State.port_setStatus (off i a c : Nat) (w : Word) (j : Nat) : (s.setStatus off i a c w).port j = s.port j := by simp [State.port]
@[simp] theorem State.slice_setStatus (off i a c : Nat) (w : Word) (j : Nat) : (s.setStatus off i a c w).slice j = s.slice j := by simp [State.slice]
@[simp] theorem State.pc_setStatus (off i a c : Nat) (w : Word) (j : Nat) : (s.setStatus off i a c w).pc j = s.pc j := by simp [State.pc]
@[simp] theorem State.ink_setStatus (off i a c : Nat) (w : Word) (j : Nat) : (s.setStatus off i a c w).ink j = s.ink j := by simp [State.ink]
@[simp] theorem State.engine_setStatus (off i a c : Nat) (w : Word) (j : Nat) : (s.setStatus off i a c w).engine j = s.engine j := by simp [State.engine]

@[simp] theorem State.core_modPort (p : Nat) (f : Port → Port) (j : Nat) : (s.modPort p f).core j = s.core j := by simp [State.core]
@[simp] theorem State.cluster_modPort (p : Nat) (f : Port → Port) (j : Nat) : (s.modPort p f).cluster j = s.cluster j := by simp [State.cluster]
@[simp] theorem State.dom_modPort (p : Nat) (f : Port → Port) (j : Nat) : (s.modPort p f).dom j = s.dom j := by simp [State.dom]
@[simp] theorem State.slice_modPort (p : Nat) (f : Port → Port) (j : Nat) : (s.modPort p f).slice j = s.slice j := by simp [State.slice]
@[simp] theorem State.pc_modPort (p : Nat) (f : Port → Port) (j : Nat) : (s.modPort p f).pc j = s.pc j := by simp [State.pc]
@[simp] theorem State.ink_modPort (p : Nat) (f : Port → Port) (j : Nat) : (s.modPort p f).ink j = s.ink j := by simp [State.ink]
@[simp] theorem State.engine_modPort (p : Nat) (f : Port → Port) (j : Nat) : (s.modPort p f).engine j = s.engine j := by simp [State.engine]
@[simp] theorem State.rd_modPort (p : Nat) (f : Port → Port) (q : Nat) : (s.modPort p f).rd q = s.rd q := by simp [State.rd]

@[simp] theorem State.core_enqueue (p : Nat) (m : Msg) (j : Nat) : (s.enqueue p m).core j = s.core j := by simp [State.core]
@[simp] theorem State.cluster_enqueue (p : Nat) (m : Msg) (j : Nat) : (s.enqueue p m).cluster j = s.cluster j := by simp [State.cluster]
@[simp] theorem State.dom_enqueue (p : Nat) (m : Msg) (j : Nat) : (s.enqueue p m).dom j = s.dom j := by simp [State.dom]
@[simp] theorem State.slice_enqueue (p : Nat) (m : Msg) (j : Nat) : (s.enqueue p m).slice j = s.slice j := by simp [State.slice]
@[simp] theorem State.pc_enqueue (p : Nat) (m : Msg) (j : Nat) : (s.enqueue p m).pc j = s.pc j := by simp [State.pc]
@[simp] theorem State.ink_enqueue (p : Nat) (m : Msg) (j : Nat) : (s.enqueue p m).ink j = s.ink j := by simp [State.ink]
@[simp] theorem State.engine_enqueue (p : Nat) (m : Msg) (j : Nat) : (s.enqueue p m).engine j = s.engine j := by simp [State.engine]
@[simp] theorem State.rd_enqueue (p : Nat) (m : Msg) (q : Nat) : (s.enqueue p m).rd q = s.rd q := by simp [State.rd]

@[simp] theorem State.core_blotNote (a : AgentId) (g : Tag) (f : Follow → Follow) (j : Nat) : (s.blotNote a g f).core j = s.core j := by simp [State.core]
@[simp] theorem State.cluster_blotNote (a : AgentId) (g : Tag) (f : Follow → Follow) (j : Nat) : (s.blotNote a g f).cluster j = s.cluster j := by simp [State.cluster]
@[simp] theorem State.dom_blotNote (a : AgentId) (g : Tag) (f : Follow → Follow) (j : Nat) : (s.blotNote a g f).dom j = s.dom j := by simp [State.dom]
@[simp] theorem State.port_blotNote (a : AgentId) (g : Tag) (f : Follow → Follow) (j : Nat) : (s.blotNote a g f).port j = s.port j := by simp [State.port]
@[simp] theorem State.slice_blotNote (a : AgentId) (g : Tag) (f : Follow → Follow) (j : Nat) : (s.blotNote a g f).slice j = s.slice j := by simp [State.slice]
@[simp] theorem State.pc_blotNote (a : AgentId) (g : Tag) (f : Follow → Follow) (j : Nat) : (s.blotNote a g f).pc j = s.pc j := by simp [State.pc]
@[simp] theorem State.ink_blotNote (a : AgentId) (g : Tag) (f : Follow → Follow) (j : Nat) : (s.blotNote a g f).ink j = s.ink j := by simp [State.ink]
@[simp] theorem State.engine_blotNote (a : AgentId) (g : Tag) (f : Follow → Follow) (j : Nat) : (s.blotNote a g f).engine j = s.engine j := by simp [State.engine]
@[simp] theorem State.rd_blotNote (a : AgentId) (g : Tag) (f : Follow → Follow) (q : Nat) : (s.blotNote a g f).rd q = s.rd q := by simp [State.rd]

@[simp] theorem State.core_blotLose (p : Follow → Bool) (j : Nat) : (s.blotLose p).core j = s.core j := by simp [State.core]
@[simp] theorem State.cluster_blotLose (p : Follow → Bool) (j : Nat) : (s.blotLose p).cluster j = s.cluster j := by simp [State.cluster]
@[simp] theorem State.dom_blotLose (p : Follow → Bool) (j : Nat) : (s.blotLose p).dom j = s.dom j := by simp [State.dom]
@[simp] theorem State.port_blotLose (p : Follow → Bool) (j : Nat) : (s.blotLose p).port j = s.port j := by simp [State.port]
@[simp] theorem State.slice_blotLose (p : Follow → Bool) (j : Nat) : (s.blotLose p).slice j = s.slice j := by simp [State.slice]
@[simp] theorem State.pc_blotLose (p : Follow → Bool) (j : Nat) : (s.blotLose p).pc j = s.pc j := by simp [State.pc]
@[simp] theorem State.ink_blotLose (p : Follow → Bool) (j : Nat) : (s.blotLose p).ink j = s.ink j := by simp [State.ink]
@[simp] theorem State.engine_blotLose (p : Follow → Bool) (j : Nat) : (s.blotLose p).engine j = s.engine j := by simp [State.engine]
@[simp] theorem State.rd_blotLose (p : Follow → Bool) (q : Nat) : (s.blotLose p).rd q = s.rd q := by simp [State.rd]

@[simp] theorem State.core_hold (m : Msg) (i : Option Nat) (b : Bool) (j : Nat) : (s.hold m i b).core j = s.core j := by simp [State.core]
@[simp] theorem State.cluster_hold (m : Msg) (i : Option Nat) (b : Bool) (j : Nat) : (s.hold m i b).cluster j = s.cluster j := by simp [State.cluster]
@[simp] theorem State.dom_hold (m : Msg) (i : Option Nat) (b : Bool) (j : Nat) : (s.hold m i b).dom j = s.dom j := by simp [State.dom]
@[simp] theorem State.port_hold (m : Msg) (i : Option Nat) (b : Bool) (j : Nat) : (s.hold m i b).port j = s.port j := by simp [State.port]
@[simp] theorem State.slice_hold (m : Msg) (i : Option Nat) (b : Bool) (j : Nat) : (s.hold m i b).slice j = s.slice j := by simp [State.slice]
@[simp] theorem State.pc_hold (m : Msg) (i : Option Nat) (b : Bool) (j : Nat) : (s.hold m i b).pc j = s.pc j := by simp [State.pc]
@[simp] theorem State.ink_hold (m : Msg) (i : Option Nat) (b : Bool) (j : Nat) : (s.hold m i b).ink j = s.ink j := by simp [State.ink]
@[simp] theorem State.engine_hold (m : Msg) (i : Option Nat) (b : Bool) (j : Nat) : (s.hold m i b).engine j = s.engine j := by simp [State.engine]
@[simp] theorem State.rd_hold (m : Msg) (i : Option Nat) (b : Bool) (q : Nat) : (s.hold m i b).rd q = s.rd q := by simp [State.rd]

@[simp] theorem State.core_modPc (p : Nat) (f : Pc → Pc) (j : Nat) : (s.modPc p f).core j = s.core j := by simp [State.core]
@[simp] theorem State.cluster_modPc (p : Nat) (f : Pc → Pc) (j : Nat) : (s.modPc p f).cluster j = s.cluster j := by simp [State.cluster]
@[simp] theorem State.dom_modPc (p : Nat) (f : Pc → Pc) (j : Nat) : (s.modPc p f).dom j = s.dom j := by simp [State.dom]
@[simp] theorem State.port_modPc (p : Nat) (f : Pc → Pc) (j : Nat) : (s.modPc p f).port j = s.port j := by simp [State.port]
@[simp] theorem State.slice_modPc (p : Nat) (f : Pc → Pc) (j : Nat) : (s.modPc p f).slice j = s.slice j := by simp [State.slice]
@[simp] theorem State.ink_modPc (p : Nat) (f : Pc → Pc) (j : Nat) : (s.modPc p f).ink j = s.ink j := by simp [State.ink]
@[simp] theorem State.engine_modPc (p : Nat) (f : Pc → Pc) (j : Nat) : (s.modPc p f).engine j = s.engine j := by simp [State.engine]
@[simp] theorem State.rd_modPc (p : Nat) (f : Pc → Pc) (q : Nat) : (s.modPc p f).rd q = s.rd q := by simp [State.rd]

@[simp] theorem State.core_modSlice (i : Nat) (f : Slice → Slice) (j : Nat) : (s.modSlice i f).core j = s.core j := by simp [State.core]
@[simp] theorem State.cluster_modSlice (i : Nat) (f : Slice → Slice) (j : Nat) : (s.modSlice i f).cluster j = s.cluster j := by simp [State.cluster]
@[simp] theorem State.dom_modSlice (i : Nat) (f : Slice → Slice) (j : Nat) : (s.modSlice i f).dom j = s.dom j := by simp [State.dom]
@[simp] theorem State.port_modSlice (i : Nat) (f : Slice → Slice) (j : Nat) : (s.modSlice i f).port j = s.port j := by simp [State.port]
@[simp] theorem State.pc_modSlice (i : Nat) (f : Slice → Slice) (j : Nat) : (s.modSlice i f).pc j = s.pc j := by simp [State.pc]
@[simp] theorem State.ink_modSlice (i : Nat) (f : Slice → Slice) (j : Nat) : (s.modSlice i f).ink j = s.ink j := by simp [State.ink]
@[simp] theorem State.engine_modSlice (i : Nat) (f : Slice → Slice) (j : Nat) : (s.modSlice i f).engine j = s.engine j := by simp [State.engine]
@[simp] theorem State.rd_modSlice (i : Nat) (f : Slice → Slice) (q : Nat) : (s.modSlice i f).rd q = s.rd q := by simp [State.rd]

@[simp] theorem State.core_modStack (k : Nat) (f : Stack → Stack) (j : Nat) : (s.modStack k f).core j = s.core j := by simp [State.core]
@[simp] theorem State.cluster_modStack (k : Nat) (f : Stack → Stack) (j : Nat) : (s.modStack k f).cluster j = s.cluster j := by simp [State.cluster]
@[simp] theorem State.dom_modStack (k : Nat) (f : Stack → Stack) (j : Nat) : (s.modStack k f).dom j = s.dom j := by simp [State.dom]
@[simp] theorem State.port_modStack (k : Nat) (f : Stack → Stack) (j : Nat) : (s.modStack k f).port j = s.port j := by simp [State.port]
@[simp] theorem State.slice_modStack (k : Nat) (f : Stack → Stack) (j : Nat) : (s.modStack k f).slice j = s.slice j := by simp [State.slice]
@[simp] theorem State.pc_modStack (k : Nat) (f : Stack → Stack) (j : Nat) : (s.modStack k f).pc j = s.pc j := by simp [State.pc]
@[simp] theorem State.ink_modStack (k : Nat) (f : Stack → Stack) (j : Nat) : (s.modStack k f).ink j = s.ink j := by simp [State.ink]
@[simp] theorem State.engine_modStack (k : Nat) (f : Stack → Stack) (j : Nat) : (s.modStack k f).engine j = s.engine j := by simp [State.engine]
@[simp] theorem State.rd_modStack (k : Nat) (f : Stack → Stack) (q : Nat) : (s.modStack k f).rd q = s.rd q := by simp [State.rd]

@[simp] theorem State.core_setHbm (l : Nat) (x : HbmLine) (j : Nat) : (s.setHbm l x).core j = s.core j := by simp [State.core]
@[simp] theorem State.cluster_setHbm (l : Nat) (x : HbmLine) (j : Nat) : (s.setHbm l x).cluster j = s.cluster j := by simp [State.cluster]
@[simp] theorem State.dom_setHbm (l : Nat) (x : HbmLine) (j : Nat) : (s.setHbm l x).dom j = s.dom j := by simp [State.dom]
@[simp] theorem State.port_setHbm (l : Nat) (x : HbmLine) (j : Nat) : (s.setHbm l x).port j = s.port j := by simp [State.port]
@[simp] theorem State.slice_setHbm (l : Nat) (x : HbmLine) (j : Nat) : (s.setHbm l x).slice j = s.slice j := by simp [State.slice]
@[simp] theorem State.pc_setHbm (l : Nat) (x : HbmLine) (j : Nat) : (s.setHbm l x).pc j = s.pc j := by simp [State.pc]
@[simp] theorem State.ink_setHbm (l : Nat) (x : HbmLine) (j : Nat) : (s.setHbm l x).ink j = s.ink j := by simp [State.ink]
@[simp] theorem State.engine_setHbm (l : Nat) (x : HbmLine) (j : Nat) : (s.setHbm l x).engine j = s.engine j := by simp [State.engine]
@[simp] theorem State.rd_setHbm (l : Nat) (x : HbmLine) (q : Nat) : (s.setHbm l x).rd q = s.rd q := by simp [State.rd]

@[simp] theorem State.cluster_modCore (k : Nat) (f : Core → Core) (j : Nat) : (s.modCore k f).cluster j = s.cluster j := by simp [State.cluster]
@[simp] theorem State.dom_modCore (k : Nat) (f : Core → Core) (j : Nat) : (s.modCore k f).dom j = s.dom j := by simp [State.dom]
@[simp] theorem State.port_modCore (k : Nat) (f : Core → Core) (j : Nat) : (s.modCore k f).port j = s.port j := by simp [State.port]
@[simp] theorem State.slice_modCore (k : Nat) (f : Core → Core) (j : Nat) : (s.modCore k f).slice j = s.slice j := by simp [State.slice]
@[simp] theorem State.pc_modCore (k : Nat) (f : Core → Core) (j : Nat) : (s.modCore k f).pc j = s.pc j := by simp [State.pc]
@[simp] theorem State.ink_modCore (k : Nat) (f : Core → Core) (j : Nat) : (s.modCore k f).ink j = s.ink j := by simp [State.ink]
@[simp] theorem State.engine_modCore (k : Nat) (f : Core → Core) (j : Nat) : (s.modCore k f).engine j = s.engine j := by simp [State.engine]
@[simp] theorem State.rd_modCore (k : Nat) (f : Core → Core) (q : Nat) : (s.modCore k f).rd q = s.rd q := by simp [State.rd]

@[simp] theorem State.core_modCluster (k : Nat) (f : Cluster → Cluster) (j : Nat) : (s.modCluster k f).core j = s.core j := by simp [State.core]
@[simp] theorem State.dom_modCluster (k : Nat) (f : Cluster → Cluster) (j : Nat) : (s.modCluster k f).dom j = s.dom j := by simp [State.dom]
@[simp] theorem State.port_modCluster (k : Nat) (f : Cluster → Cluster) (j : Nat) : (s.modCluster k f).port j = s.port j := by simp [State.port]
@[simp] theorem State.slice_modCluster (k : Nat) (f : Cluster → Cluster) (j : Nat) : (s.modCluster k f).slice j = s.slice j := by simp [State.slice]
@[simp] theorem State.pc_modCluster (k : Nat) (f : Cluster → Cluster) (j : Nat) : (s.modCluster k f).pc j = s.pc j := by simp [State.pc]
@[simp] theorem State.ink_modCluster (k : Nat) (f : Cluster → Cluster) (j : Nat) : (s.modCluster k f).ink j = s.ink j := by simp [State.ink]
@[simp] theorem State.engine_modCluster (k : Nat) (f : Cluster → Cluster) (j : Nat) : (s.modCluster k f).engine j = s.engine j := by simp [State.engine]
@[simp] theorem State.rd_modCluster (k : Nat) (f : Cluster → Cluster) (q : Nat) : (s.modCluster k f).rd q = s.rd q := by simp [State.rd]

@[simp] theorem State.core_modInk (n : Nat) (f : Inkwell → Inkwell) (j : Nat) : (s.modInk n f).core j = s.core j := by simp [State.core]
@[simp] theorem State.cluster_modInk (n : Nat) (f : Inkwell → Inkwell) (j : Nat) : (s.modInk n f).cluster j = s.cluster j := by simp [State.cluster]
@[simp] theorem State.dom_modInk (n : Nat) (f : Inkwell → Inkwell) (j : Nat) : (s.modInk n f).dom j = s.dom j := by simp [State.dom]
@[simp] theorem State.port_modInk (n : Nat) (f : Inkwell → Inkwell) (j : Nat) : (s.modInk n f).port j = s.port j := by simp [State.port]
@[simp] theorem State.slice_modInk (n : Nat) (f : Inkwell → Inkwell) (j : Nat) : (s.modInk n f).slice j = s.slice j := by simp [State.slice]
@[simp] theorem State.pc_modInk (n : Nat) (f : Inkwell → Inkwell) (j : Nat) : (s.modInk n f).pc j = s.pc j := by simp [State.pc]
@[simp] theorem State.engine_modInk (n : Nat) (f : Inkwell → Inkwell) (j : Nat) : (s.modInk n f).engine j = s.engine j := by simp [State.engine]
@[simp] theorem State.rd_modInk (n : Nat) (f : Inkwell → Inkwell) (q : Nat) : (s.modInk n f).rd q = s.rd q := by simp [State.rd]

@[simp] theorem State.core_modEngine (n : Nat) (f : Engine → Engine) (j : Nat) : (s.modEngine n f).core j = s.core j := by simp [State.core]
@[simp] theorem State.cluster_modEngine (n : Nat) (f : Engine → Engine) (j : Nat) : (s.modEngine n f).cluster j = s.cluster j := by simp [State.cluster]
@[simp] theorem State.dom_modEngine (n : Nat) (f : Engine → Engine) (j : Nat) : (s.modEngine n f).dom j = s.dom j := by simp [State.dom]
@[simp] theorem State.port_modEngine (n : Nat) (f : Engine → Engine) (j : Nat) : (s.modEngine n f).port j = s.port j := by simp [State.port]
@[simp] theorem State.slice_modEngine (n : Nat) (f : Engine → Engine) (j : Nat) : (s.modEngine n f).slice j = s.slice j := by simp [State.slice]
@[simp] theorem State.pc_modEngine (n : Nat) (f : Engine → Engine) (j : Nat) : (s.modEngine n f).pc j = s.pc j := by simp [State.pc]
@[simp] theorem State.ink_modEngine (n : Nat) (f : Engine → Engine) (j : Nat) : (s.modEngine n f).ink j = s.ink j := by simp [State.ink]
@[simp] theorem State.rd_modEngine (n : Nat) (f : Engine → Engine) (q : Nat) : (s.modEngine n f).rd q = s.rd q := by simp [State.rd]

@[simp] theorem State.core_putReq (m : Msg) (j : Nat) : (s.putReq m).core j = s.core j := by simp [State.core]
@[simp] theorem State.cluster_putReq (m : Msg) (j : Nat) : (s.putReq m).cluster j = s.cluster j := by simp [State.cluster]
@[simp] theorem State.dom_putReq (m : Msg) (j : Nat) : (s.putReq m).dom j = s.dom j := by simp [State.dom]
@[simp] theorem State.port_putReq (m : Msg) (j : Nat) : (s.putReq m).port j = s.port j := by simp [State.port]
@[simp] theorem State.slice_putReq (m : Msg) (j : Nat) : (s.putReq m).slice j = s.slice j := by simp [State.slice]
@[simp] theorem State.pc_putReq (m : Msg) (j : Nat) : (s.putReq m).pc j = s.pc j := by simp [State.pc]
@[simp] theorem State.ink_putReq (m : Msg) (j : Nat) : (s.putReq m).ink j = s.ink j := by simp [State.ink]
@[simp] theorem State.engine_putReq (m : Msg) (j : Nat) : (s.putReq m).engine j = s.engine j := by simp [State.engine]
@[simp] theorem State.rd_putReq (m : Msg) (q : Nat) : (s.putReq m).rd q = s.rd q := by simp [State.rd]

/-! ### What waking, voting and sending can change -/

theorem State.wakeOne_frame (d : Nat) : s.wakeOne d = { s with doms := (s.wakeOne d).doms } := by
  unfold State.wakeOne; (repeat' split) <;> rfl
theorem State.wakeAccess_frame (d : Nat) : s.wakeAccess d = { s with doms := (s.wakeAccess d).doms } := by
  unfold State.wakeAccess State.wakeOne; (repeat' split) <;> rfl
theorem State.wake_frame (d : Nat) : s.wake d = { s with doms := (s.wake d).doms } := by
  unfold State.wake; split
  · rfl
  · exact s.wakeAccess_frame d
theorem State.blotLeave_frame (m : Msg) : s.blotLeave m = { s with tel := (s.blotLeave m).tel } := by
  unfold State.blotLeave; split <;> rfl
theorem State.blotLost_frame (m : Msg) : s.blotLost m = { s with tel := (s.blotLost m).tel } := by
  unfold State.blotLost; split <;> rfl
theorem State.blotRefuse_frame (m : Msg) : s.blotRefuse m = { s with tel := (s.blotRefuse m).tel } := by
  unfold State.blotRefuse; split <;> rfl

/-- All that the sending of a message can change beside the message's own place. -/
def SendsOnly (s t : State) : Prop :=
  t = { s with ports := t.ports, spine := t.spine, tel := t.tel, reg := t.reg, evt := t.evt, doms := t.doms, acc := t.acc }

theorem SendsOnly.refl (s : State) : SendsOnly s s := rfl
theorem SendsOnly.trans {s t u : State} (h : SendsOnly s t) (k : SendsOnly t u) : SendsOnly s u := by
  unfold SendsOnly at *
  rw [h] at k
  exact k
theorem sendsOnly_reg (r : RegState) : SendsOnly s { s with reg := r } := rfl
theorem sendsOnly_raise (a c : Nat) (w : Word) : SendsOnly s (s.raise a c w) := rfl
theorem sendsOnly_wr (off : Nat) (v : Word) : SendsOnly s (s.wr off v) := by unfold State.wr SendsOnly; split <;> rfl
theorem sendsOnly_count (g i n : Nat) : SendsOnly s (s.count g i n) := by unfold State.count SendsOnly; split <;> rfl
theorem sendsOnly_wake (d : Nat) : SendsOnly s (s.wake d) := by unfold SendsOnly; rw [s.wake_frame d]
theorem sendsOnly_blotRefuse (m : Msg) : SendsOnly s (s.blotRefuse m) := by unfold SendsOnly; rw [s.blotRefuse_frame m]
theorem sendsOnly_blotLost (m : Msg) : SendsOnly s (s.blotLost m) := by unfold SendsOnly; rw [s.blotLost_frame m]
theorem sendsOnly_setErr (off i a : Nat) (w : Word) : SendsOnly s (s.setErr off i a w) := by
  unfold State.setErr; split
  · exact SendsOnly.refl s
  · exact (sendsOnly_wr s _ _).trans rfl
theorem sendsOnly_voteFixed (o : Nat) : SendsOnly s (voteFixed s o) := by
  unfold voteFixed; dsimp only
  split
  · exact (sendsOnly_wr s _ _).trans (sendsOnly_count _ _ _ _)
  · exact ((sendsOnly_wr s _ _).trans (sendsOnly_count _ _ _ _)).trans (sendsOnly_raise _ _ _ _)
theorem sendsOnly_voteReg (o : Nat) : SendsOnly s (voteReg s o) := by
  unfold voteReg; dsimp only; split
  · exact (sendsOnly_reg s _).trans (sendsOnly_voteFixed _ o)
  · exact SendsOnly.refl s
theorem sendsOnly_voteRoute (d : Nat) : SendsOnly s (voteRoute s d) :=
  ((sendsOnly_voteReg s _).trans (sendsOnly_voteReg _ _)).trans (sendsOnly_voteReg _ _)
theorem sendsOnly_voteDevice (d : Nat) : SendsOnly s (voteDevice s d) := by
  unfold voteDevice; split
  · exact SendsOnly.refl s
  · exact sendsOnly_voteRoute s d
theorem sendsOnly_depart (p : Nat) (m : Msg) : SendsOnly s (s.depart p m) := by
  unfold State.depart; split
  · exact (sendsOnly_wake s _).trans rfl
  · rfl
theorem sendsOnly_discard (p : Nat) (m : Msg) : SendsOnly s (s.discard p m) :=
  (sendsOnly_blotLost s m).trans (sendsOnly_setErr _ _ _ _ _)
theorem sendsOnly_sendPlain (m : Msg) : SendsOnly s (s.sendPlain m) := by
  unfold State.sendPlain; dsimp only
  refine (sendsOnly_blotRefuse s m).trans ?_
  split
  · rfl
  · refine (sendsOnly_voteDevice _ m.dst.dev).trans ?_
    (repeat' split)
    · exact sendsOnly_depart _ _ _
    · exact sendsOnly_discard _ _ _
    · exact sendsOnly_discard _ _ _
theorem sendsOnly_refuse (m : Msg) (r : Nat) : SendsOnly s (s.refuse m r) := sendsOnly_sendPlain s _
theorem sendsOnly_sendSnoop (m : Msg) : SendsOnly s (s.sendSnoop m) := by
  unfold State.sendSnoop; dsimp only
  refine ((sendsOnly_voteReg s (bootReg 0x14)).trans (sendsOnly_voteDevice _ m.dst.dev)).trans ?_
  (repeat' split)
  · exact sendsOnly_depart _ _ _
  · exact SendsOnly.refl _
  · exact SendsOnly.refl _

/-! ### Reading after a change -/

theorem Triple.maj_same (v : Word) : (⟨v, v, v⟩ : Triple).maj = v := by simp [Triple.maj]

/-- Storing a register is read back (R22, R72). -/
@[simp] theorem State.rd_wr_same (off : Nat) (v : Word) : (s.wr off v).rd off = v := by
  unfold State.wr State.rd
  split <;> simp_all [Triple.maj_same]

/-- Storing a register leaves every other register alone. -/
theorem State.rd_wr_other {off o : Nat} (v : Word) (h : o ≠ off) : (s.wr off v).rd o = s.rd o := by
  unfold State.wr State.rd
  by_cases a : regTV off = true <;> by_cases b : regTV o = true <;> simp [a, b, sget_sset_other _ _ _ h]

theorem State.rd_wr (off o : Nat) (v : Word) : (s.wr off v).rd o = if o = off then v else s.rd o := by
  split
  · rename_i h; rw [h, State.rd_wr_same]
  · rename_i h; exact State.rd_wr_other s v h

/-- Registers are read from the register file alone. -/
theorem State.rd_congr {s t : State} (h : t.reg = s.reg) (off : Nat) : t.rd off = s.rd off := by
  unfold State.rd; rw [h]

@[simp] theorem State.core_modCore_same (k : Nat) (f : Core → Core) : (s.modCore k f).core k = f (s.core k) := by
  simp [State.modCore, State.core]
theorem State.core_modCore_other {k j : Nat} (f : Core → Core) (h : j ≠ k) : (s.modCore k f).core j = s.core j := by
  simp [State.modCore, State.core, sget_smod_other _ _ _ h]
@[simp] theorem State.cluster_modCluster_same (k : Nat) (f : Cluster → Cluster) :
    (s.modCluster k f).cluster k = f (s.cluster k) := by simp [State.modCluster, State.cluster]
theorem State.cluster_modCluster_other {k j : Nat} (f : Cluster → Cluster) (h : j ≠ k) :
    (s.modCluster k f).cluster j = s.cluster j := by simp [State.modCluster, State.cluster, sget_smod_other _ _ _ h]
@[simp] theorem State.dom_modDom_same (k : Nat) (f : Domain → Domain) : (s.modDom k f).dom k = f (s.dom k) := by
  simp [State.modDom, State.dom]
theorem State.dom_modDom_other {k j : Nat} (f : Domain → Domain) (h : j ≠ k) : (s.modDom k f).dom j = s.dom j := by
  simp [State.modDom, State.dom, sget_smod_other _ _ _ h]
@[simp] theorem State.port_modPort_same (k : Nat) (f : Port → Port) : (s.modPort k f).port k = f (s.port k) := by
  simp [State.modPort, State.port]
theorem State.port_modPort_other {k j : Nat} (f : Port → Port) (h : j ≠ k) : (s.modPort k f).port j = s.port j := by
  simp [State.modPort, State.port, sget_smod_other _ _ _ h]
@[simp] theorem State.slice_modSlice_same (k : Nat) (f : Slice → Slice) : (s.modSlice k f).slice k = f (s.slice k) := by
  simp [State.modSlice, State.slice]
theorem State.slice_modSlice_other {k j : Nat} (f : Slice → Slice) (h : j ≠ k) :
    (s.modSlice k f).slice j = s.slice j := by simp [State.modSlice, State.slice, sget_smod_other _ _ _ h]
@[simp] theorem State.pc_modPc_same (k : Nat) (f : Pc → Pc) : (s.modPc k f).pc k = f (s.pc k) := by
  simp [State.modPc, State.pc]
theorem State.pc_modPc_other {k j : Nat} (f : Pc → Pc) (h : j ≠ k) : (s.modPc k f).pc j = s.pc j := by
  simp [State.modPc, State.pc, sget_smod_other _ _ _ h]
@[simp] theorem State.ink_modInk_same (k : Nat) (f : Inkwell → Inkwell) : (s.modInk k f).ink k = f (s.ink k) := by
  simp [State.modInk, State.ink]
theorem State.ink_modInk_other {k j : Nat} (f : Inkwell → Inkwell) (h : j ≠ k) : (s.modInk k f).ink j = s.ink j := by
  simp [State.modInk, State.ink, sget_smod_other _ _ _ h]
@[simp] theorem State.engine_modEngine_same (k : Nat) (f : Engine → Engine) :
    (s.modEngine k f).engine k = f (s.engine k) := by simp [State.modEngine, State.engine]
theorem State.engine_modEngine_other {k j : Nat} (f : Engine → Engine) (h : j ≠ k) :
    (s.modEngine k f).engine j = s.engine j := by simp [State.modEngine, State.engine, sget_smod_other _ _ _ h]

/-- Reading a line of the stacks after writing one (R253). -/
theorem State.hbm_setHbm (l n : Nat) (x : HbmLine) :
    sget hbmLineD (s.setHbm l x).hbm n = if n = l then x else sget hbmLineD s.hbm n := sget_sset _ _ _ _ _

/-- The stacks keep their canonical form. -/
theorem State.hbm_wf_setHbm (l : Nat) (x : HbmLine) (h : swf hbmLineD s.hbm = true) :
    swf hbmLineD (s.setHbm l x).hbm = true := swf_sset _ _ _ _ h

/-- A count goes to one slot of one group. -/
theorem State.acc_count_other {g i m : Nat} (n : Nat) (h : m ≠ g * 32 + i) :
    sget zeroD (s.count g i n).acc m = sget zeroD s.acc m := by
  unfold State.count
  split
  · exact sget_smod_other zeroD s.acc (· + n) h
  · rfl

end Sys2Proof.Machine
end

