-- ==== Sys2Proof/Laws/Scribe.lean ====
section
/-! SUPPORT. How scribe instructions run: what `instr`, `retireTo` and the register writes do, said once. -/
namespace Sys2Proof.Machine
open Config

variable {s : State} {k : Nat}

@[simp] theorem Core.gr_setG (x : Core) (rd i : BitVec 5) (v : DWord) : (x.setG rd v).gr i = gWith x rd v i := by
  unfold Core.setG gWith
  by_cases h0 : rd = 0
  · subst h0
    rw [if_pos rfl, if_neg (fun h => h.1 h.2)]
  · rw [if_neg h0]
    by_cases hi : i = 0
    · subst hi
      rw [if_neg (fun h => h.1 rfl)]
      rfl
    · by_cases he : i = rd
      · subst he
        rw [if_pos ⟨hi, rfl⟩]
        unfold Core.gr
        rw [if_neg hi]
        exact sget_sset_same _ _ _ _
      · have hn : i.toNat ≠ rd.toNat := fun e => he (BitVec.eq_of_toNat_eq e)
        rw [if_neg (fun h => he h.2)]
        unfold Core.gr
        rw [if_neg hi, if_neg hi]
        exact sget_sset_other _ _ _ hn

@[simp] theorem Core.wide_setG (x : Core) (rd : BitVec 5) (i : BitVec 4) (v : DWord) : (x.setG rd v).wide i = x.wide i := by
  unfold Core.setG Core.wide; split <;> rfl

@[simp] theorem Core.wide_setWide (x : Core) (wd i : BitVec 4) (v : Wide) : (x.setWide wd v).wide i = wWith x wd v i := by
  unfold Core.setWide Core.wide wWith
  by_cases he : i = wd
  · simp [he]
  · have : i.toNat ≠ wd.toNat := fun e => he (BitVec.eq_of_toNat_eq e)
    simp [he, sget_sset_other _ _ _ this, Core.wide]

@[simp] theorem Core.gr_setWide (x : Core) (wd : BitVec 4) (i : BitVec 5) (v : Wide) : (x.setWide wd v).gr i = x.gr i := rfl

theorem sameButRegs_refl (x : Core) : SameButRegs x x := rfl
theorem sameButRegs_setG (x : Core) (rd : BitVec 5) (v : DWord) : SameButRegs x (x.setG rd v) := by
  unfold Core.setG SameButRegs; split <;> rfl
theorem sameButRegs_setWide (x : Core) (wd : BitVec 4) (v : Wide) : SameButRegs x (x.setWide wd v) := rfl

/-- A running core's instruction acts as its meaning says (R351, R353). -/
theorem instr_go (h : Runs s k) (f : Core → Act) (g : State → State) (hf : f (s.core k) = .go g) : instr s k f = g s := by
  simp [instr, h.ready, h.fetch, hf, h.quiet]

/-- A running core's instruction raises its precise cause (R351). -/
theorem instr_cause (h : Runs s k) (f : Core → Act) (c : Cause) (hf : f (s.core k) = .cause c) :
    instr s k f = raiseCause s k c := by
  simp [instr, h.ready, h.fetch, hf]

/-- A running core's TRAP raises its cause with EPC at the next instruction (R316). -/
theorem instr_trap (h : Runs s k) (f : Core → Act) (c : Cause) (hf : f (s.core k) = .trap c) :
    instr s k f = checkForced (raiseAt s k c ((s.core k).pc + 4)) k := by
  simp [instr, h.ready, h.fetch, hf]

/-- A running core's instruction that ends in a precise cause acts, also where an event is due (R353). -/
theorem instr_fault (h : Runs s k) (f : Core → Act) (g : State → State) (hf : f (s.core k) = .fault g) : instr s k f = g s := by
  simp [instr, h.ready, h.fetch, hf]

theorem onCore_go (h : Runs s k) (f : Core → Act) (g : State → State) (hf : f (s.core k) = .go g) :
    onCore k s f = .next (g s) := by
  simp [onCore, onUnit, h.core, instr_go h f g hf]

theorem onCore_cause (h : Runs s k) (f : Core → Act) (c : Cause) (hf : f (s.core k) = .cause c) :
    onCore k s f = .next (raiseCause s k c) := by
  simp [onCore, onUnit, h.core, instr_cause h f c hf]

/-- The counters of the cluster of a running core count (R392, R396). -/
theorem Runs.counts (h : Runs s k) : (s.groupPresent (36 + k / 8) && !s.groupCold (36 + k / 8)) = true := by
  have h1 := h.ready
  have hk := h.core
  simp only [coreReady, coreAwake, Bool.and_eq_true] at h1
  obtain ⟨⟨⟨⟨⟨⟨⟨⟨hp, hl⟩, -⟩, -⟩, -⟩, -⟩, -⟩, -⟩, -⟩ := h1
  have hc : k / 8 < 16 := by simp [nCores] at hk; omega
  have e1 : ¬ (36 + k / 8 < 16) := by omega
  have e2 : ¬ (36 + k / 8 < 32) := by omega
  have e3 : ¬ (36 + k / 8 < 36) := by omega
  have e4 : 36 + k / 8 < 52 := by omega
  have e5 : 36 + k / 8 - 36 = k / 8 := by omega
  have e6 : 8 + (36 + k / 8) = 44 + k / 8 := by omega
  have hd : (s.domSt (44 + k / 8) == .cold) = false := by
    simp only [State.domLit, Bool.and_eq_true, Bool.or_eq_true, beq_iff_eq] at hl
    rcases hl.1 with h | h <;> rw [h] <;> rfl
  simp [State.groupPresent, State.groupCold, e1, e2, e3, e4, e5, e6, hp, hd]

theorem State.slot_count_same {g i n : Nat} (h : (s.groupPresent g && !s.groupCold g) = true) :
    (s.count g i n).slot g i = s.slot g i + n := by
  unfold State.count State.slot slotOf
  rw [if_pos h]
  simp

theorem State.slot_count_other {g i j : Nat} (n : Nat) (h : j ≠ i) : (s.count g i n).slot g j = s.slot g j :=
  State.acc_count_other s n (by unfold slotOf; omega)

/-- Whether a group counts depends on domains, ports and the register file, not on cores or counters. -/
theorem groupCounts_congr {t : State} (g : Nat) (hd : t.doms = s.doms) (hr : t.reg = s.reg) (hb : t.boot = s.boot) :
    (t.groupPresent g && !t.groupCold g) = (s.groupPresent g && !s.groupCold g) := by
  have h1 : ∀ p, t.portPresent p = s.portPresent p := fun p => by
    simp [State.portPresent, State.devId, State.compat, State.bit, hb, State.rd_congr hr]
  have h2 : ∀ p, t.slicePresent p = s.slicePresent p := fun p => by simp [State.slicePresent, State.devId, hb]
  have h3 : ∀ p, t.stackPresent p = s.stackPresent p := fun p => by simp [State.stackPresent, State.devId, hb]
  have h4 : ∀ p, t.clusterPresent p = s.clusterPresent p := fun p => by
    simp [State.clusterPresent, State.devId, State.compat, State.bit, hb, State.rd_congr hr]
  have h5 : t.fwdPresent = s.fwdPresent := by
    simp [State.fwdPresent, State.devId, State.compat, State.bit, hb, State.rd_congr hr]
  have h6 : ∀ d, t.domSt d = s.domSt d := fun d => by
    have h : t.domPresent d = s.domPresent d := by unfold State.domPresent; simp only [h1, h2, h3, h4, h5]
    simp only [State.domSt, h, State.dom, hd]
  simp only [State.groupPresent, State.groupCold, h1, h2, h3, h4, h6]

/-- What counting leaves of the counters of a group. -/
theorem OthersKept.of_count {t : State} (ho : ∀ j, j ≠ k → t.core j = s.core j)
    (hc : ∀ n < 2048, n ≠ slotOf (36 + k / 8) 0 → n ≠ slotOf (36 + k / 8) 4 → (n ≠ slotOf 53 15 ∨ NotFollowed s k) →
      sget zeroD t.acc n = sget zeroD s.acc n) :
    OthersKept s t k [0, 4] :=
  ⟨ho, fun n hb hn hd => hc n hb (hn 0 (by simp)) (hn 4 (by simp)) hd⟩

/-! ## The blotter (R405) -/

/-- Waking a domain changes it and its spine half alone. -/
theorem State.dom_wakeOne {d j : Nat} (h : j ≠ d) : (s.wakeOne d).dom j = s.dom j := by
  unfold State.wakeOne; (repeat' split) <;> simp [State.dom_modDom_other _ _ h]

theorem State.dom_wake61 {j : Nat} (h3 : j ≠ 3) (h : j ≠ 61) : (s.wake 61).dom j = s.dom j := by
  have e : halfOf 61 = some 3 := by decide
  unfold State.wake State.wakeAccess
  simp only [e]
  split
  · rfl
  · rw [State.dom_wakeOne h3, State.dom_wakeOne h]

/-- What following a request can change (R405, R406). -/
structure BlotOnly (s t : State) : Prop where
  rest : t = { s with tel := { s.tel with blot := t.tel.blot }, doms := t.doms, reg := t.reg, evt := t.evt, acc := t.acc }
  regs : ∀ off, off ≠ telReg 0x8220 → t.rd off = s.rd off
  domains : ∀ d, d ≠ 3 → d ≠ 61 → t.dom d = s.dom d
  counters : ∀ n, n ≠ slotOf 53 15 → sget zeroD t.acc n = sget zeroD s.acc n

theorem BlotOnly.refl (s : State) : BlotOnly s s := ⟨rfl, fun _ _ => rfl, fun _ _ _ => rfl, fun _ _ => rfl⟩

theorem BlotOnly.trans {t u : State} (h : BlotOnly s t) (j : BlotOnly t u) : BlotOnly s u := by
  refine ⟨?_, fun o a => (j.regs o a).trans (h.regs o a), fun d a b => (j.domains d a b).trans (h.domains d a b),
    fun n a => (j.counters n a).trans (h.counters n a)⟩
  have e := j.rest
  rw [h.rest] at e
  exact e

theorem blotOnly_tel (b : Blotter) : BlotOnly s { s with tel := { s.tel with blot := b } } :=
  ⟨rfl, fun _ _ => rfl, fun _ _ _ => rfl, fun _ _ => rfl⟩
theorem blotOnly_wake : BlotOnly s (s.wake 61) := by
  have h := s.wake_frame 61
  have hr : (s.wake 61).reg = s.reg := (congrArg State.reg h :)
  have ha : (s.wake 61).acc = s.acc := (congrArg State.acc h :)
  exact ⟨by rw [h], fun o _ => State.rd_congr hr o, fun d a b => State.dom_wake61 a b, fun n _ => by rw [ha]⟩
theorem blotOnly_count : BlotOnly s (s.count 53 15 1) :=
  ⟨by unfold State.count; split <;> rfl, fun o _ => State.rd_count s _ _ _ o, fun _ _ _ => State.dom_count s _ _ _ _,
    fun _ h => State.acc_count_other s 1 (by unfold slotOf at h; exact h)⟩
theorem blotOnly_wr (v : Word) : BlotOnly s (s.wr (telReg 0x8220) v) :=
  ⟨by unfold State.wr; split <;> rfl, fun _ h => State.rd_wr_other s v h, fun _ _ _ => State.dom_wr s _ _ _, fun _ _ => by simp⟩
theorem blotOnly_raise (a c : Nat) (w : Word) : BlotOnly s (s.raise a c w) := ⟨rfl, fun _ _ => rfl, fun _ _ _ => rfl, fun _ _ => rfl⟩

theorem blotDrop_only : BlotOnly s (blotDrop s) := by
  unfold blotDrop State.setStatus
  split
  · exact blotOnly_count
  · exact (blotOnly_count.trans (blotOnly_wr _)).trans (blotOnly_raise _ _ _)

theorem blotAdmit_only (f : Follow) : BlotOnly s (blotAdmit s f) := by
  unfold blotAdmit
  split
  · split
    · exact blotOnly_tel _
    · have h : BlotOnly s ((blotDraw s).wake 61) := (blotOnly_tel _).trans blotOnly_wake
      dsimp only
      split
      · exact h.trans blotDrop_only
      · exact h.trans (blotOnly_tel _)
  · exact BlotOnly.refl s

theorem blotFetch_only (k : Nat) : BlotOnly s (blotFetch s k) := by
  unfold blotFetch; split
  · exact blotAdmit_only _
  · exact BlotOnly.refl s

/-- The fetches of a core that the blotter does not follow leave it alone. -/
theorem blotFetch_off (h : NotFollowed s k) : blotFetch s k = s := by
  unfold blotFetch
  split
  · rename_i hb
    have h0 : s.bit (telReg 0x8200) 0 = false := by
      rcases h with h | h
      · exact h
      · rw [h] at hb; exact absurd hb (by decide)
    unfold blotAdmit
    simp [h0]
  · rfl

/-- An activity of a domain (R464) is counted beyond all counters. -/
theorem State.acc_pace_lt (u : State) (d : Nat) {n : Nat} (h : n < 2048) : sget zeroD (u.pace d).acc n = sget zeroD u.acc n := by
  have hn : n ≠ paceKey d := by unfold paceKey; omega
  exact sget_smod_other zeroD u.acc (· + 1) hn

theorem State.acc_paceCore_lt (u : State) (k : Nat) {n : Nat} (h : n < 2048) :
    sget zeroD (u.paceCore k).acc n = sget zeroD u.acc n :=
  (State.acc_pace_lt _ _ h).trans (State.acc_pace_lt _ _ h)

/-- What fetching, counting and a register write of core k can change (R292, R393, R405, R464). -/
structure Ran (u t : State) (k : Nat) : Prop where
  rest : t = { u with cores := t.cores, acc := t.acc, tel := { u.tel with blot := t.tel.blot }, doms := t.doms,
                      reg := t.reg, evt := t.evt }
  regs : ∀ off, off ≠ telReg 0x8220 → t.rd off = u.rd off
  domains : ∀ d, d ≠ 3 → d ≠ 61 → t.dom d = u.dom d
  cores : ∀ j, j ≠ k → t.core j = u.core j

theorem Ran.trans {t u v : State} (h : Ran u t k) (j : Ran t v k) : Ran u v k := by
  refine ⟨?_, fun o a => (j.regs o a).trans (h.regs o a), fun d a b => (j.domains d a b).trans (h.domains d a b),
    fun n a => (j.cores n a).trans (h.cores n a)⟩
  have e := j.rest
  rw [h.rest] at e
  exact e

theorem BlotOnly.ran {u t : State} (h : BlotOnly u t) (k : Nat) : Ran u t k := by
  have hc : t.cores = u.cores := (congrArg State.cores h.rest :)
  refine ⟨?_, h.regs, h.domains, fun j _ => by simp [State.core, hc]⟩
  have e := h.rest
  rw [← hc] at e
  exact e

theorem ran_count (u : State) (k g i n : Nat) : Ran u (u.count g i n) k :=
  ⟨by unfold State.count; split <;> rfl, fun _ _ => State.rd_count u .., fun _ _ _ => State.dom_count u .., fun _ _ => State.core_count ..⟩
theorem ran_modCore (u : State) (k : Nat) (f : Core → Core) : Ran u (u.modCore k f) k :=
  ⟨rfl, fun _ _ => rfl, fun _ _ _ => rfl, fun _ h => State.core_modCore_other _ _ h⟩
theorem ran_pace (u : State) (k d : Nat) : Ran u (u.pace d) k := ⟨rfl, fun _ _ => rfl, fun _ _ _ => rfl, fun _ _ => rfl⟩

/-- Changes of cores and counters alone follow one another. -/
theorem coresOnly_trans {u t v : State} (h : t = { u with cores := t.cores, acc := t.acc }) (j : v = { t with cores := v.cores, acc := v.acc }) :
    v = { u with cores := v.cores, acc := v.acc } := by
  rw [h] at j; exact j
theorem coresOnly_count (u : State) (g i n : Nat) : u.count g i n = { u with cores := (u.count g i n).cores, acc := (u.count g i n).acc } := by
  unfold State.count; split <;> rfl

/-- The frame of a completed instruction, from what ran and from what ran where the blotter follows nothing. -/
theorem Ran.butFetch {u t : State} (h : Ran u t k) (ho : NotFollowed u k → t = { u with cores := t.cores, acc := t.acc }) :
    ButFetch u t { u with cores := t.cores, acc := t.acc } k :=
  ⟨h.rest, h.regs, h.domains, ho⟩

/-- Whether the counters of a cluster count rests on its domain, the mode and the variant alone. -/
theorem groupCounts_cluster {u t : State} (h : Ran u t k) (hk : k < nCores) :
    (t.groupPresent (36 + k / 8) && !t.groupCold (36 + k / 8)) = (u.groupPresent (36 + k / 8) && !u.groupCold (36 + k / 8)) := by
  have hb : t.boot = u.boot := (congrArg State.boot h.rest :)
  have hc : k / 8 < 16 := by simp [nCores] at hk; omega
  have e1 : ¬ (36 + k / 8 < 16) := by omega
  have e2 : ¬ (36 + k / 8 < 32) := by omega
  have e3 : ¬ (36 + k / 8 < 36) := by omega
  have e4 : 36 + k / 8 < 52 := by omega
  have e5 : 36 + k / 8 - 36 = k / 8 := by omega
  have e6 : 8 + (36 + k / 8) = 44 + k / 8 := by omega
  have e7 : ¬ (44 + k / 8 < 20) := by omega
  have e8 : ¬ (44 + k / 8 < 36) := by omega
  have e9 : ¬ (44 + k / 8 < 44) := by omega
  have e10 : 44 + k / 8 < 60 := by omega
  have e11 : 44 + k / 8 - 44 = k / 8 := by omega
  have e12 : ¬ (44 + k / 8 < 4) := by omega
  have hp : t.clusterPresent (k / 8) = u.clusterPresent (k / 8) := by
    have hr := h.regs 0x8 (by decide)
    simp only [State.clusterPresent, State.devId, State.compat, State.bit, hb, hr]
  have hd : t.dom (44 + k / 8) = u.dom (44 + k / 8) := h.domains _ (by omega) (by omega)
  simp only [State.groupPresent, State.groupCold, State.domSt, State.domPresent, e1, e2, e3, e4, e5, e6, e7, e8, e9, e10, e11, e12,
    if_true, if_false, hp, hd]

/-- What fetching the line of an instruction leaves of the state (R292, R393, R405). -/
theorem fetchLine_spec (u : State) (k : Nat) :
    (∃ l, (fetchLine u k).core k = { u.core k with inib := l }) ∧ Ran u (fetchLine u k) k ∧
      (NotFollowed u k → fetchLine u k = { u with cores := (fetchLine u k).cores, acc := (fetchLine u k).acc }) ∧
      ∀ n < 2048, n ≠ slotOf (36 + k / 8) 4 → (n ≠ slotOf 53 15 ∨ NotFollowed u k) →
        sget zeroD (fetchLine u k).acc n = sget zeroD u.acc n := by
  unfold fetchLine
  dsimp only
  split
  · exact ⟨⟨_, State.core_modCore_same ..⟩, ran_modCore .., fun _ => rfl, fun _ _ _ _ => rfl⟩
  · have hb := blotFetch_only (s := u) k
    have hr := (hb.ran k).trans (ran_count (blotFetch u k) k (36 + k / 8) 4 1)
    have hc : ∀ j, (blotFetch u k).core j = u.core j := fun j => by
      have : (blotFetch u k).cores = u.cores := (congrArg State.cores hb.rest :)
      simp [State.core, this]
    have hn : ∀ n < 2048, n ≠ slotOf (36 + k / 8) 4 → (n ≠ slotOf 53 15 ∨ NotFollowed u k) →
        sget zeroD ((blotFetch u k).count (36 + k / 8) 4 1).acc n = sget zeroD u.acc n := fun n _ h4 hd => by
      rw [State.acc_count_other _ _ (by unfold slotOf at h4; exact h4)]
      rcases hd with h | h
      · exact hb.counters n h
      · rw [blotFetch_off h]
    split
    · refine ⟨⟨_, by rw [State.core_modCore_same, State.core_count, hc]⟩, hr.trans (ran_modCore ..), fun h => ?_, hn⟩
      rw [blotFetch_off h]; unfold State.modCore State.count; split <;> rfl
    · refine ⟨⟨(u.core k).inib, by rw [State.core_count, hc]⟩, hr, fun h => ?_, hn⟩
      rw [blotFetch_off h]; unfold State.count; split <;> rfl

/-- What `retireTo` leaves of the state: the fetch, the PC, one instruction counted and its activity (R292, R393, R464). -/
theorem retireTo_spec (u : State) (pc : PA) (hg : (u.groupPresent (36 + k / 8) && !u.groupCold (36 + k / 8)) = true) (hk : k < nCores) :
    (∃ l, (retireTo u k pc).core k = { u.core k with pc := pc, inib := l }) ∧ Ran u (retireTo u k pc) k ∧
      (NotFollowed u k → retireTo u k pc = { u with cores := (retireTo u k pc).cores, acc := (retireTo u k pc).acc }) ∧
      (retireTo u k pc).slot (36 + k / 8) 0 = u.slot (36 + k / 8) 0 + 1 ∧
      ∀ n < 2048, n ≠ slotOf (36 + k / 8) 0 → n ≠ slotOf (36 + k / 8) 4 → (n ≠ slotOf 53 15 ∨ NotFollowed u k) →
        sget zeroD (retireTo u k pc).acc n = sget zeroD u.acc n := by
  have hlt : slotOf (36 + k / 8) 0 < 2048 := by
    have : k / 8 < 16 := by simp [nCores] at hk; omega
    unfold slotOf; omega
  obtain ⟨⟨l, hl⟩, hf, ho, hn⟩ := fetchLine_spec u k
  have hm := hf.trans (ran_modCore (fetchLine u k) k fun x => { x with pc := pc })
  have hc := hm.trans (ran_count _ k (36 + k / 8) 0 1)
  have hp := (hc.trans (ran_pace _ k (44 + k / 8))).trans (ran_pace _ k (64 + k))
  refine ⟨⟨l, ?_⟩, hp, fun h => ?_, ?_, ?_⟩
  · show State.core (((fetchLine u k).modCore k _).count _ _ _) k = _
    rw [State.core_count, State.core_modCore_same, hl]
  · exact coresOnly_trans (coresOnly_trans (coresOnly_trans (ho h) rfl) (coresOnly_count (State.modCore _ k _) _ _ _)) rfl
  · unfold State.slot
    show sget zeroD (State.paceCore _ k).acc _ = _
    rw [State.acc_paceCore_lt _ _ hlt]
    have h0 := State.slot_count_same (i := 0) (n := 1) ((groupCounts_cluster hm hk).trans hg)
    simp only [State.slot] at h0
    rw [h0, State.modCore_acc, hn _ hlt (by unfold slotOf; omega) (by unfold slotOf; omega)]
  · intro n hb h0 h4 hd
    show sget zeroD (State.paceCore _ k).acc _ = _
    rw [State.acc_paceCore_lt _ _ hb]
    have hh := hn n hb h4 hd
    unfold slotOf at h0
    rw [State.acc_count_other _ _ h0, State.modCore_acc, hh]

/-- An instruction that changes registers of core k alone completes so. -/
theorem retireTo_completes (h : Runs s k) (u : State) (x : Core) (pc : PA) (hu : u = { s with cores := u.cores })
    (hx : u.core k = x) (ho : ∀ j, j ≠ k → u.core j = s.core j) (hf : SameButRegs (s.core k) x) :
    Completes s (retireTo u k pc) k pc x.gr x.wide := by
  have hsu : Ran s u k := by
    refine ⟨?_, fun o _ => by rw [hu]; rfl, fun d _ _ => by rw [hu]; rfl, ho⟩
    rw [hu]
  have hg : (u.groupPresent (36 + k / 8) && !u.groupCold (36 + k / 8)) = true := (groupCounts_cluster hsu h.core).trans h.counts
  have ha : u.acc = s.acc := by rw [hu]
  have hnf : NotFollowed s k → NotFollowed u k := fun h => by rw [hu]; exact h
  obtain ⟨⟨l, hk⟩, hr, hoff, hs, hn⟩ := retireTo_spec u pc hg h.core
  have hall := hsu.trans hr
  unfold SameButRegs at hf
  refine ⟨⟨by rw [hk], fun i => by rw [hk, hx]; rfl, fun i => by rw [hk, hx]; rfl, ?_, ?_⟩,
    .of_count hall.cores (fun n hb a b c => by rw [hn n hb a b (c.imp_right hnf), ha]), hall.butFetch fun h => ?_⟩
  · unfold SameButRegs
    rw [hk, hx, hf]
  · rw [hs]
    simp only [State.slot, ha]
  · exact coresOnly_trans (show u = { s with cores := u.cores, acc := u.acc } by rw [ha]; exact hu) (hoff (hnf h))

end Sys2Proof.Machine
end

