-- ==== Sys2Proof/Tests/Slice0.lean ====
section
/-! SUPPORT. Tests: ill-formed commands, scribe words, single steps, and for each statement with hypotheses a state that meets
them (the theorems named witness_…). -/
set_option Elab.async false
open Sys2Proof Sys2Proof.Machine Sys2Proof.Config
namespace Sys2Proof.Tests

/-! ## Well-formedness: one ill-formed command for each check -/

theorem test_ill_port : (Instr.portReset .mgmt 16).wellFormed = false := by decide
theorem test_ill_refclk : (Instr.refclkLoss 4).wellFormed = false := by decide
theorem test_ill_domain : (Instr.hang 64).wellFormed = false ∧ (Instr.domainWake 64).wellFormed = false := by decide
theorem test_ill_stack : (Instr.stackTempRead 4 [20]).wellFormed = false := by decide
theorem test_ill_slice : (Instr.hbmReadReturn 16 0).wellFormed = false := by decide
theorem test_ill_pc : (Instr.hbmScheduleCommand 128 0).wellFormed = false := by decide
theorem test_ill_core : (Instr.add 128 1 2 3).wellFormed = false := by decide
theorem test_ill_cluster : (Instr.gatherHoldExpire 16 0).wellFormed = false := by decide
theorem test_ill_inkwell : (Instr.doorbellTailWrite .mgmt 1024 0).wellFormed = false := by decide
theorem test_ill_engine : (Instr.descriptorFetch 64).wellFormed = false := by decide
theorem test_ill_group : (Instr.counterHandoff 54).wellFormed = false := by decide
theorem test_ill_fifo : (Instr.fifoPop .mgmt (.mbox 8)).wellFormed = false := by decide
theorem test_ill_faults : exec (.portQuiesced 16) State.reset = .fault .noSuchUnit := rfl
theorem test_ill_core_faults : exec (.add 128 1 2 3) State.reset = .fault .noSuchUnit := rfl

/-! ## Scribe words, written out from the tables of R333–R349 and the example of R355 -/

theorem test_word_lui : scribeDecode 5 0x24C00200 = some (.lui 5 6 0x200) := by decide
theorem test_word_add_imm : scribeDecode 5 0x08C60040 = some (.addImmediate 5 6 6 0x40) := by decide
theorem test_word_addhi : scribeDecode 5 0x28C00240 = some (.addhi 5 6 0x240) := by decide
theorem test_word_amo : scribeDecode 5 0x80A63808 = some (.amoAdd 5 true 5 6 7) := by decide
theorem test_word_lres : scribeDecode 5 0x84A60001 = some (.lresD 5 5 6) := by decide
theorem test_word_scnd : scribeDecode 5 0x84E62803 = some (.scndD 5 7 6 5) := by decide
theorem test_word_br : scribeDecode 5 0xA0E01FFD = some (.brEq 5 7 0 0x1FFD) := by decide
theorem test_word_sub : scribeDecode 0 0b00000100001000100001100000000001 = some (.sub 0 1 2 3) := by decide
theorem test_word_shift : scribeDecode 0 0b00100000001000100000000010000111 = some (.sraImmediate 0 1 2 7) := by decide
theorem test_word_store : scribeDecode 0 0b01101100001000100000000000001000 = some (.stD 0 1 2 8) := by decide
theorem test_word_wide : scribeDecode 0 0b11000000010010001101000000000000 = some (.wadd 0 1 1 2 3) := by decide
theorem test_word_wext : scribeDecode 0 0b11000100001001000000110001100000 = some (.wext 0 3 1 2 3) := by decide
theorem test_word_ldw : scribeDecode 0 0b01110000010000100000000000100000 = some (.ldw 0 1 2 32) := by decide
theorem test_word_cinv : scribeDecode 0 0b10001000011000100000000000000000 = some (.cinv 0 2 0) := by decide
theorem test_word_jr : scribeDecode 0 0b10101000001000100000000000000100 = some (.jr 0 1 2 4) := by decide
theorem test_word_trap : scribeDecode 0 0b11100000000000000000000001010100 = some (.trap 0 5) := by decide
theorem test_word_rdst : scribeDecode 0 0b11100000001000000000001000101000 = some (.rdst 0 1 0x22) := by decide
theorem test_word_reserved : scribeDecode 0 0xFFFFFFFF = none ∧ scribeDecode 0 0 = none ∧ scribeDecode 0 0x04000018 = none := by decide

/-! ## Ways to meet the premises of the statements -/

/-- A core that runs at supervisor level. -/
def wCore : Core := { coreD 0 with st := .running, pl := true, pc := 0x1000, tvec := 0x2000 }

/-- The state after reset with core 0 as given. -/
def wState (x : Core) : State := { State.reset with cores := [(0, x)] }

theorem wState_core (x : Core) (j : Nat) : (wState x).core j = if j = 0 then x else coreD 0 := by
  show (if j = 0 then x else sget coreD [] j) = _
  split <;> rfl

/-- A property of every core holds where it holds of core 0 and of an idle core. -/
theorem wState_all (x : Core) (P : Core → Prop) (h0 : P x) (h1 : P (coreD 0)) (j : Nat) : P ((wState x).core j) := by
  rw [wState_core]; split <;> assumption

theorem runs_of {s : State} {k : Nat}
    (h : (decide (k < nCores) && coreReady s k && (fetchCause s (s.core k)).isNone && !eventDue (s.core k)) = true) : Runs s k := by
  simp only [Bool.and_eq_true, decide_eq_true_eq, Option.isNone_iff_eq_none, Bool.not_eq_true'] at h
  exact ⟨h.1.1.1, h.1.1.2, h.1.2, h.2⟩

theorem noStores_of (x : Core) (line : Nat) (h : x.sb = []) : NoStores (wState x) 0 line := by
  refine ⟨fun j _ e he => ?_, fun e he => ?_⟩
  · have : ((wState x).core j).sb = [] := wState_all x (fun y => y.sb = []) h rfl j
    rw [this] at he; cases he
  · cases he

/-- The copies of every triple-voted value that is listed agree. -/
def agreeB (s : State) : Bool :=
  s.reg.tv.all (fun e => !tripleOff e.2) && (s.reg.locks.all fun e => !tripleOff e.2) &&
    decide (s.boot.copies = FuseCopies.of s.boot.shadow)

/-- What holds of the default and of every listed value holds of every value of a store. -/
theorem sget_all {α : Type} (d : Nat → α) (P : α → Prop) (m : Store α) (k : Nat) (h0 : P (d k)) (h : ∀ e ∈ m, P e.2) : P (sget d m k) := by
  induction m with
  | nil => exact h0
  | cons e t ih =>
    show P (if k = e.1 then e.2 else sget d t k)
    split
    · exact h e (List.mem_cons_self ..)
    · exact ih fun f hf => h f (List.mem_cons_of_mem _ hf)

theorem tripleOff_same (w : Word) : tripleOff ⟨w, w, w⟩ = false := by simp [tripleOff, Triple.maj]

theorem agree_of {s : State} (h : agreeB s = true) : Agree s := by
  simp only [agreeB, Bool.and_eq_true, List.all_eq_true, Bool.not_eq_true', decide_eq_true_eq] at h
  exact ⟨fun x => sget_all tvD (fun t => tripleOff t = false) _ x (tripleOff_same _) h.1.1,
    fun x => sget_all lockD (fun t => tripleOff t = false) _ x (tripleOff_same _) h.1.2, h.2⟩

theorem reach_of {s : State} {m : Master} {off : Nat}
    (h : (!s.boot.inReset && agreeB s && decide (cwPlace s m (usedOff s m off) = some off) && cwServed s (blockAt off) &&
      s.domLit (blockAt off).domain && (passes m off || guardMask off == 0) && s.reg.held.isEmpty) = true) : CwReach s m off := by
  simp only [Bool.and_eq_true, Bool.not_eq_true', decide_eq_true_eq, Bool.or_eq_true, beq_iff_eq, List.isEmpty_iff] at h
  obtain ⟨⟨⟨⟨⟨⟨a, g⟩, b⟩, c⟩, d⟩, e⟩, f⟩ := h
  exact ⟨a, agree_of g, b, c, d, e, by simp [f]⟩

theorem cxReach_of {s : State} {m : Master} {rel : Nat}
    (h : (!s.boot.inReset && agreeB s && decide (cwPlace s m (cxUsed s rel) = some (cxReg rel)) && decide (5 < s.boot.step) &&
      s.reg.held.isEmpty) = true) : CxReach s m rel := by
  simp only [Bool.and_eq_true, Bool.not_eq_true', decide_eq_true_eq, List.isEmpty_iff] at h
  obtain ⟨⟨⟨⟨a, g⟩, b⟩, c⟩, f⟩ := h
  exact ⟨a, agree_of g, b, c, by simp [f]⟩

/-- Nothing waits before a message where nothing is held. -/
theorem mustWait_none {s : State} (h : ∀ p < nPorts, (s.port p).rxq = []) (h2 : s.spine = ⟨[], [], []⟩) (q : Msg → Bool) (m : Msg) :
    s.mustWait q m = false := by
  have hf : s.findRx q = none := by
    simp only [State.findRx, List.findSome?_eq_none_iff, List.mem_range]
    intro p hp; simp [h p hp]
  have hb : s.before q = [] := by
    have hr : ((List.range nPorts).flatMap fun i => (s.port i).rxq) = [] := by
      simp only [List.flatMap_eq_nil_iff, List.mem_range]; exact h
    simp [State.before, hf, h2, hr]
  simp [State.mustWait, hb]

theorem arrives_of {s : State} {q : Msg → Bool}
    (h : (agreeB s && (List.range nPorts).all fun p => (s.port p).rxq.isEmpty) = true) (h2 : s.spine = ⟨[], [], []⟩)
    (h3 : s.boot.fatal = false ∧ s.boot.inReset = false) (h4 : s.bit (telReg 0x8200) 0 = false) : Arrives s q := by
  simp only [Bool.and_eq_true, List.all_eq_true, List.mem_range, List.isEmpty_iff] at h
  refine ⟨agree_of h.1, fun m _ _ => mustWait_none h.2 h2 q m, fun p hp m hm => ?_, fun m hm => ?_, h3, Or.inl h4⟩
  · rw [h.2 p hp] at hm; cases hm
  · rw [h2] at hm; cases hm

/-- The half of the hub that a domain hangs on is Lit. -/
def halfLit (s : State) (d : Nat) : Bool := (halfOf d).all s.domLit

theorem halfLit_of {s : State} {d : Nat} (h : halfLit s d = true) (n : Nat) (hn : halfOf d = some n) : s.domLit n = true := by
  simpa [halfLit, hn] using h

theorem calm_of {s : State} {i line : Nat}
    (h : (decide (i = s.sliceOf line) && s.domLit (20 + i) && s.domLit (2 + i / 8) && (s.slice i).inq.isEmpty && (s.slice i).confq.isEmpty &&
      (s.slice i).retryq.isEmpty && decide (s.paced (20 + i) = 0) && decide (missUsed s i < 511) && !lineBusy (s.slice i) line &&
      (s.slice i).kindle.isEmpty && s.purge.isEmpty && !tainted s i line && (List.range 16).all fun w => !(dirGet s i line w).bad) = true) :
    CalmLine s i line := by
  simp only [Bool.and_eq_true, Bool.not_eq_true', decide_eq_true_eq, List.isEmpty_iff, List.all_eq_true, List.mem_range] at h
  obtain ⟨⟨⟨⟨⟨⟨⟨⟨⟨⟨⟨⟨a, b⟩, c⟩, d⟩, e⟩, f⟩, r⟩, g⟩, i⟩, j⟩, k⟩, l⟩, m⟩ := h
  exact ⟨a, ⟨b, c⟩, ⟨d, e, f⟩, by simp [rateHeld, r], g, i, by simp [j], k, l, m⟩

/-! ## Scribe cores -/

theorem wRuns : Runs (wState wCore) 0 := runs_of (by decide)

theorem witness_IntegerOperations : Runs (wState wCore) 0 := wRuns
theorem witness_ImmediateOperations : Runs (wState wCore) 0 := wRuns
theorem witness_BranchesAndJumps : Runs (wState wCore) 0 ∧
    (BitVec.ofInt 52 ((((wState wCore).core 0).gr 0).toInt + (8 : BitVec 16).toInt)).toNat % 4 = 0 := ⟨wRuns, by decide⟩
theorem witness_WideOperations : Runs (wState wCore) 0 ∧ (31 : BitVec 5).toNat < laneN 0 := ⟨wRuns, by decide⟩
theorem witness_WideReductions : Runs (wState wCore) 0 ∧ (3 : BitVec 5).toNat < laneN 3 := ⟨wRuns, by decide⟩

/-- A core with the slate window at 4 GiB, open to tasks. -/
def wSlate : Core := { wCore with slate := 0x100000003, g := [(2, 0x100000000), (3, 0x10007FFE0)] }

theorem wSlateAccess : SlateAccess (wState wSlate) 0 (effAddr (((wState wSlate).core 0).gr 2) 8) 8 8 :=
  ⟨by decide, by decide, by decide, by intro e he; cases he⟩
theorem wSlateTop : SlateAccess (wState wSlate) 0 (effAddr (((wState wSlate).core 0).gr 3) 0) 0x7FFE0 32 :=
  ⟨by decide, by decide, by decide, by intro e he; cases he⟩
theorem witness_SlateLoadsAndStores : Runs (wState wSlate) 0 ∧
    SlateAccess (wState wSlate) 0 (effAddr (((wState wSlate).core 0).gr 2) 8) 8 8 ∧
    SlateAccess (wState wSlate) 0 (effAddr (((wState wSlate).core 0).gr 3) 0) 0x7FFE0 32 :=
  ⟨runs_of (by decide), wSlateAccess, wSlateTop⟩
theorem witness_SlateAtomics : Runs (wState wSlate) 0 ∧
    SlateAccess (wState wSlate) 0 ((((wState wSlate).core 0).gr 2).setWidth 52) 0 4 ∧
    SlateAccess (wState wSlate) 0 ((((wState wSlate).core 0).gr 2).setWidth 52) 0 8 :=
  ⟨runs_of (by decide), ⟨by decide, by decide, by decide, by intro e he; cases he⟩,
    ⟨by decide, by decide, by decide, by intro e he; cases he⟩⟩

/-- A core with an address of home memory in g2 and one beside it at the end of a line in g3. -/
def wMem : Core := { wCore with g := [(2, 0x4000), (3, 0x403F)] }

theorem wMemAccess (n right : Nat) (h : 0x4000 % n = 0) : MemAccess (wState wMem) 0 (effAddr (((wState wMem).core 0).gr 2) 0) n right :=
  ⟨by decide, h, rfl⟩
theorem wMemAtomic (n right : Nat) (h : 0x4000 % n = 0) : MemAccess (wState wMem) 0 ((((wState wMem).core 0).gr 2).setWidth 52) n right :=
  ⟨by decide, h, rfl⟩

/-- A core that waits for a load. -/
def wWaits (w : CoreWait) : Core := { wMem with wait := some w }

theorem witness_LoadsWaitForTheirLine :
    (Runs (wState wMem) 0 ∧ MemAccess (wState wMem) 0 (effAddr (((wState wMem).core 0).gr 2) 0) 8 1 ∧
      MemAccess (wState wMem) 0 (effAddr (((wState wMem).core 0).gr 2) 0) 32 1 ∧ NoStores (wState wMem) 0 (0x4000 / 64) ∧
      nibFind ((wState wMem).core 0) (0x4000 / 64) = none ∧ NotFollowed (wState wMem) 0) ∧
    ∀ w : CoreWait, ((wState (wWaits w)).core 0).wait = some w ∧ ((wState (wWaits w)).core 0).doom = none ∧
      (∀ j, ((wState (wWaits w)).core j).ending = none) ∧ NoStores (wState (wWaits w)) 0 (0x4000 / 64) ∧
      ((wState (wWaits w)).core 0).sb = [] :=
  ⟨⟨runs_of (by decide), wMemAccess 8 1 (by decide), wMemAccess 32 1 (by decide), noStores_of _ _ rfl, by decide, Or.inl (by decide)⟩,
    fun w => ⟨rfl, rfl, wState_all _ (fun y => y.ending = none) rfl rfl, noStores_of _ _ rfl, rfl⟩⟩

/-- A core with one entry in its store buffer, and the state in which it may drain. -/
def wSb : SbEntry := ⟨0x100, 0, 1, false⟩
def wStore : Core := { wMem with sb := [wSb] }
/-- A cluster with one open gather entry. -/
def wG : GEntry := ⟨0x100, 0, 1, 1, false, none⟩
def wGather : State := { wState wMem with clusters := [(0, { clusterD 0 with gather := [wG] })] }

theorem witness_StoresAreBufferedAndDrained :
    (Runs (wState wMem) 0 ∧ MemAccess (wState wMem) 0 (effAddr (((wState wMem).core 0).gr 2) 0) 32 2 ∧
      ((wState wMem).core 0).sb.length < 16) ∧
    (Runs (wState wStore) 0 ∧ ∃ e ∈ ((wState wStore).core 0).sb, e.line = 0x4000 / 64) ∧
    ((wState wStore).domLit 44 = true ∧ ((wState wStore).core 0).sb = [wSb] ∧ ((wState wStore).cluster 0).gather = [] ∧
      wSb.mask ≠ BitVec.allOnes 64 ∧ ∀ j, ((wState wStore).core j).ending = none) ∧
    ((wGather.cluster 0).gather[0]? = some wG ∧ wG.drain = none ∧
      (∀ f ∈ (wGather.cluster 0).gather, f.line = wG.line → f = wG) ∧ wG.mask ≠ BitVec.allOnes 64) :=
  ⟨⟨runs_of (by decide), wMemAccess 32 2 (by decide), by decide⟩, ⟨runs_of (by decide), wSb, List.mem_singleton.mpr rfl, rfl⟩,
    ⟨by decide, rfl, rfl, by decide, wState_all _ (fun y => y.ending = none) rfl rfl⟩,
    ⟨rfl, rfl, fun f hf _ => List.mem_singleton.mp hf, by decide⟩⟩

/-- A core with a reservation on its line. -/
def wResv : Core := { wMem with resv := some 0x100 }

theorem witness_HomeAccessesSendTheirRequest :
    (Runs (wState wMem) 0 ∧ MemAccess (wState wMem) 0 ((((wState wMem).core 0).gr 2).setWidth 52) 8 3 ∧
      NoStores (wState wMem) 0 (0x4000 / 64) ∧ NotFollowed (wState wMem) 0 ∧ ownHome (wState wMem) 0x4000 = true ∧
      ((wState wMem).core 0).resv ≠ some 0x100) ∧
    (Runs (wState wResv) 0 ∧ ((wState wResv).core 0).resv = some 0x100 ∧ NoStores (wState wResv) 0 0x100 ∧
      ownHome (wState wResv) 0x4000 = true) ∧
    MemAccess (wState wMem) 0 (effAddr (((wState wMem).core 0).gr 2) 0) 1 2 :=
  ⟨⟨runs_of (by decide), wMemAtomic 8 3 (by decide), noStores_of _ _ rfl, Or.inl (by decide), by decide, by decide⟩,
    ⟨runs_of (by decide), by decide, noStores_of _ _ rfl, by decide⟩, wMemAccess 1 2 (by decide)⟩

theorem witness_FencesGoOn : Runs (wState wMem) 0 ∧ ((wState wMem).core 0).sb = [] ∧ ((wState wMem).core 0).cwBusy = none ∧
    ((wState wMem).core 0).posted = [] ∧ ((wState wMem).cluster 0).gather = [] := ⟨runs_of (by decide), by decide⟩
theorem witness_StateRegisters : Runs (wState wMem) 0 ∧ ((wState wMem).core 0).pl = true := ⟨runs_of (by decide), by decide⟩

/-- A core at task level whose one window covers the first 64 KiB, readable and executable. -/
def wTask : Core := { wMem with pl := false, win := [(1, 0xF005), (0, 0), (0, 0), (0, 0)] }

theorem witness_ExceptionsEnterTheHandlerAndReturn :
    (Runs (wState wTask) 0 ∧ ((wState wTask).core 0).hold = false ∧ ((wState wTask).core 0).tvec ≠ 0 ∧
      ((wState wTask).core 0).doom = none ∧ scribeDecode 0 0 = none ∧ ((wState wTask).core 0).pl = false ∧
      (effAddr (((wState wTask).core 0).gr 2) 3).toNat % 2 ≠ 0 ∧
      placeOf (wState wTask) ((wState wTask).core 0) (effAddr (((wState wTask).core 0).gr 2) 0) = .mem ∧
      missing ((wState wTask).core 0) .mem (effAddr (((wState wTask).core 0).gr 2) 0) 2 ≠ 0) ∧
    (missing ((wState { wTask with g := [(2, 0x20000)] }).core 0) .mem 0x20000 1 ≠ 0) ∧
    Runs (wState wCore) 0 ∧ ((wState wCore).core 0).pl = true :=
  ⟨⟨runs_of (by decide), by decide⟩, by decide, wRuns, by decide⟩

/-- A core with an ABORT whose task still runs. -/
def wDoomed : Core := { wMem with doom := some .aborted }

theorem witness_TasksEnd : (Runs (wState wMem) 0 ∧ ((wState wMem).core 0).sb = [] ∧ ((wState wMem).core 0).cwBusy = none ∧
      ((wState wMem).core 0).posted = [] ∧ ((wState wMem).cluster 0).gather = []) ∧
    ((wState wDoomed).core 0).doom = some .aborted ∧ ((wState wDoomed).core 0).st = .running ∧
      ((wState wDoomed).core 0).ending = none ∧ ((wState wDoomed).core 0).wait = none ∧ ((wState wDoomed).core 0).sb = [] ∧
      ((wState wDoomed).cluster 0).gather = [] := ⟨⟨runs_of (by decide), by decide⟩, by decide⟩

theorem witness_EventsEnterTheHandlerOrEndAWait :
    (∀ x ∈ [{ wMem with evDisabled := true }, { wMem with evAbort := true }, { wMem with evStore := [⟨5, 0x4000⟩] }],
      coreAwake (wState x) 0 = true ∧ fetchCause (wState x) ((wState x).core 0) = none ∧ ((wState x).core 0).hold = false ∧
      ((wState x).core 0).tvec ≠ 0 ∧ ((wState x).core 0).forced = false) ∧
    (let s := wState { wMem with evAbort := true, st := .wfd }
     (s.core 0).st = .wfd ∧ s.domLit 44 = true ∧ s.boot.fatal = false ∧ (s.core 0).hold = false) ∧
    (let s := wState { wMem with evAbort := true, pl := false }
     coreAwake s 0 = true ∧ eventDue (s.core 0) = true ∧ (s.core 0).tvec ≠ 0 ∧ (s.core 0).doom = none ∧
      (fetchCause s (s.core 0)).isSome = true) ∧
    (Runs (wState wMem) 0 ∧ wfdBits (wState wMem) 0 false = 0 ∧ ((wState wMem).core 0).evStore = []) ∧
    ((wState { wMem with st := .wfd, wfdTime := 9 }).core 0).st = .wfd ∧
      wfdBits (wState { wMem with st := .wfd, wfdTime := 9 }) 0 false = 0 := ⟨by decide, by decide, by decide, ⟨runs_of (by decide), by decide⟩, by decide⟩

/-- A launch record, and a cluster that holds it. -/
def wLaunch : LaunchRec :=
  { inkwell := 3, index := 7, entry := 0x8000, arg0 := 1, arg1 := 2, arg2 := 3, arg3 := 4, mask := 0, supervisor := false }
def wQueued : State := { State.reset with clusters := [(0, { clusterD 0 with tasks := [wLaunch] })] }

theorem witness_TasksAreQueuedAndStarted :
    (let s := State.reset.wr (scrReg 0 0) 1
     s.boot.fatal = false ∧ s.clusterPresent 0 = true ∧ s.domLit 44 = true ∧ (s.cluster 0).resetting = false ∧
      s.bit (scrReg 0 0) 0 = true ∧ (s.dom 44).commanded ≠ some .cold ∧ (s.cluster 0).tasks.length < 32) ∧
    wQueued.clusterPresent 0 = true ∧ wQueued.domLit 44 = true ∧ (wQueued.cluster 0).resetting = false ∧
      (wQueued.dom 44).commanded ≠ some .ember ∧ (wQueued.cluster 0).tasks = [wLaunch] ∧ (wQueued.core 0).st = .idle := by decide

theorem witness_ClusterCommands :
    ((State.reset.cluster 0).gather = [] ∧ (State.reset.cores = [])) ∧
    (let s : State := { State.reset with clusters := [(0, { clusterD 0 with resetting := true })] }; (s.cluster 0).resetting = true) ∧
    (CwReach (wState wMem) .mgmt (scrReg 0 0xC) ∧ CwReach (wState wMem) .mgmt (scrReg 0 8) ∧ CwReach (wState wMem) .mgmt (scrReg 0 0) ∧
      ((wState wMem).core 0).st = .running ∧ (∀ k, ((wState wMem).core k).st ≠ .wfd) ∧ (wState wMem).bit (scrReg 0 0) 1 = false ∧
      ((wState wMem).cluster 0).tasks = [] ∧ ∀ r ∈ (wQueued.cluster 0).tasks, descOf wQueued r.inkwell r.index.toNat = none) ∧
    ((wState wMem).wr (scrReg 0 0) 1).bit (scrReg 0 0) 0 = true :=
  ⟨⟨by decide, by decide⟩, by decide,
    ⟨reach_of (by decide), reach_of (by decide), reach_of (by decide), by decide, wState_all _ (fun y => y.st ≠ .wfd) (by decide) (by decide),
      by decide, by decide, by decide⟩, by decide⟩

/-! ## The control window -/

/-- PWR_LIMIT once written, and so locked. -/
def wLocked : State := { State.reset with reg := { State.reset.reg with locks := [(pwrReg 4, ⟨1, 1, 1⟩)] } }

theorem witness_RegisterWrites :
    (∀ off ∈ [dirReg 0x1014, evtReg 0x17C, hbmReg 3 0x130, domReg 63 8, evtReg 0x18, portReg 3 8, portReg 3 0xC, portReg 3 0x10, pwrReg 4], CwReach State.reset .mgmt off ∧
      off < 2 ^ 26 ∧ usedOff State.reset .mgmt off = off) ∧
    (dirReg 0x1014 = dirReg (0x1004 + 0x10 * 1) ∧ evtReg 0x17C = evtReg (0x100 + 4 * 31) ∧ hbmReg 3 0x130 = hbmReg 3 (0x100 + 4 * 12) ∧
      passes .mgmt (evtReg 0x18) = true ∧ passes .mgmt (evtReg 0x18 + 4) = true) ∧
    locked State.reset (pwrReg 4) = false ∧ CwReach wLocked .mgmt (pwrReg 4) ∧ locked wLocked (pwrReg 4) = true ∧
    (cwPlace State.reset (.agent 4 false) (dirReg 0x1014) = some (dirReg 0x1014) ∧ inWindow0 (dirReg 0x1014) = false ∧
      inWindow1 (dirReg 0x1014) = false ∧ wellFormedAccess (dirReg 0x1014) 2 = false ∧ passes (.agent 4 false) (dirReg 0x1014) = false ∧
      cwServed State.reset (blockAt (dirReg 0x1014)) = true ∧ State.reset.domLit (blockAt (dirReg 0x1014)).domain = true ∧
      State.reset.boot.inReset = false ∧ State.reset.reg.held = [] ∧ State.reset.reg.stalled = [] ∧ Agree State.reset) ∧
    cwPlace State.reset .mgmt 0x50000 = none := by
  refine ⟨?_, by decide, by decide, reach_of (by decide), by decide, ⟨by decide, by decide, by decide, by decide, by decide, by decide,
    by decide, by decide, rfl, rfl, agree_of (by decide)⟩, by decide⟩
  simp only [List.mem_cons, List.not_mem_nil, or_false, forall_eq_or_imp, forall_eq]
  exact ⟨⟨reach_of (by decide), by decide⟩, ⟨reach_of (by decide), by decide⟩, ⟨reach_of (by decide), by decide⟩,
    ⟨reach_of (by decide), by decide⟩, ⟨reach_of (by decide), by decide⟩, ⟨reach_of (by decide), by decide⟩, ⟨reach_of (by decide), by decide⟩,
    ⟨reach_of (by decide), by decide⟩, ⟨reach_of (by decide), by decide⟩⟩

theorem witness_PairsAndVotedRegisters :
    (CwReach State.reset .mgmt 0x20 ∧ cwPlace State.reset .mgmt (usedOff State.reset .mgmt 0x24) = some 0x24 ∧
      CwReach State.reset .mgmt (evtReg 0x18) ∧ cwPlace State.reset .mgmt (usedOff State.reset .mgmt (evtReg 0x1C)) = some (evtReg 0x1C)) ∧
    regTV (pwrReg 8) = true ∧ pwrReg 8 < 2 ^ 26 ∧ (0x200 : Word) &&& tvMask (pwrReg 8) ≠ 0 ∧ Agree State.reset ∧
    (regFields (pwrReg 4)).any (fun f => f.ty == .w1l) = true ∧ (1 : Word).getLsbD 0 = true ∧
    State.reset.boot.shadow.hit 4 1 ≠ State.reset.boot.shadow :=
  ⟨⟨reach_of (by decide), by decide, reach_of (by decide), by decide⟩, by decide, by decide, by decide, agree_of (by decide), by decide, by decide, by decide⟩

/-- The state after reset with IND_ADDR1 written, and with the claim held by an agent. -/
def wInd (v : Word) : State := State.reset.wr (windowReg true) v
def wClaimed : State := { State.reset with reg := { State.reset.reg with claim := .agent 4 } }

theorem witness_IndirectWindow :
    (∀ v ∈ ([0xA0000010, 0xB0000000, 0xB5000000, 0xBF000000, 0xA1000000] : List Word), (wInd v).reg.stalled = [] ∧ (wInd v).reg.claim = .none ∧
      CwReach (wInd v) .mgmt (windowReg true + 4)) ∧
    ((wInd 0xA0000010).fld (windowReg true) 24 7 = 0x20 ∧ (wInd 0xB5000000).fld (windowReg true) 24 7 = 0x35 ∧
      (wInd 0xBF000000).fld (windowReg true) 24 7 = 0x3F ∧ (wInd 0xA1000000).fld (windowReg true) 24 7 = 0x21 ∧
      (wInd 0xB5000000).slicePresent 5 = true ∧ (wInd 0xB5000000).domLit 25 = true) ∧
    CwReach State.reset (.agent 4 true) (indReg 0x1C) ∧ CwReach wClaimed (.agent 4 true) (indReg 0x1C) ∧
      holdsClaim wClaimed (.agent 4 true) = true := by
  refine ⟨?_, by decide, reach_of (by decide), reach_of (by decide), by decide⟩
  simp only [List.mem_cons, List.not_mem_nil, or_false, forall_eq_or_imp, forall_eq]
  exact ⟨⟨by decide, by decide, reach_of (by decide)⟩, ⟨by decide, by decide, reach_of (by decide)⟩, ⟨by decide, by decide, reach_of (by decide)⟩,
    ⟨by decide, by decide, reach_of (by decide)⟩, by decide, by decide, reach_of (by decide)⟩

theorem witness_ManagementPort :
    (mgmtLive State.reset = true ∧ State.reset.mgmt.addr = none) ∧
    (let s : State := { State.reset with mgmt := { State.reset.mgmt with addr := some 9, ptr := 0x10 } }
     mgmtReady s = true ∧ s.mgmt.ptr.toNat % 2 ^ 31 = usedOff s .mgmt 0x10 ∧ s.rd 0x10 = 0 ∧ s.rd 0x14 = 0) ∧
    (CwReach State.reset .mgmt (dirReg 0x1024) ∧ CwReach State.reset .mgmt (dirReg 0x1020) ∧ CwReach State.reset .mgmt 0x10) ∧
    usedOff State.reset .mgmt (dirReg 0x1024) = 0x301024 :=
  ⟨by decide, by decide, ⟨reach_of (by decide), reach_of (by decide), reach_of (by decide)⟩, by decide⟩

/-! ## Ports and links -/

/-- The state after reset with one port as given. -/
def wPort (p : Nat) (x : Port) : State := { State.reset with ports := [(p, x)] }
/-- The same with RS(544,514) FEC. -/
def wRs (x : Port) : State := (wPort 2 x).wr (portReg 2 0) 0x34
/-- The same with the lean FEC. -/
def wLean (x : Port) : State := (wPort 2 x).wr (portReg 2 0) 0x30
/-- What a partner host declares to a port with the default configuration. -/
def wPartner : PartnerParam :=
  { fabric := false, devId := 0, devnum := 0, compat := false, agents := 3, fecRs := true, cx := false, x4 := false, bad := 0,
    bufs := [8192, 8192, 8192, 8192, 8192, 8192] }

theorem witness_TrainingEndsInActiveOrDown :
    ((wPort 2 (Port.fresh .detect)).port 2).st = .detect ∧ State.reset.portEn 2 = true ∧ sigDetectOn (wPort 2 (Port.fresh .detect)) 2 = true ∧
    (wPort 2 (Port.fresh .detect)).fld (portReg 2 0x10) 0 8 = 0 ∧
    ((wPort 2 (Port.fresh .equalize)).port 2).st = .equalize ∧ (wRs (Port.fresh .equalize)).bit (portReg 2 0) 2 = true ∧
    (wLean (Port.fresh .equalize)).bit (portReg 2 0) 2 = false ∧ (∃ n ∈ [0, 1, 0, 0, 3, 0, 0, 0], 2 < n) ∧
    ((wPort 2 (Port.fresh .lock)).port 2).st = .lock ∧
    ((wPort 2 (Port.fresh .param)).port 2).st = .param ∧ sweepPending (wPort 2 (Port.fresh .param)) 2 = false ∧
    paramCause (wRs (Port.fresh .param)) 2 wPartner = none ∧ ((wPort 2 (Port.fresh .down)).port 2).st = .down ∧
    sigDetectOn (wPort 2 (Port.fresh .down)) 2 = true ∧ ({ wPort 2 (Port.fresh .down) with boot := { State.reset.boot with step := 5 } }).boot.step < 7 ∧
    ((wPort 2 (Port.fresh .quiesce)).wr (portReg 2 4) 0).portEn 2 = false := by decide +kernel

/-- A request as a flit carries it, and the payload flit that carries it alone. -/
def wMsg : Msg :=
  { opc := opcRD_SHARED, vc := 0, src := 4, dst := 0, tag := 9, priv := false, hop := false, poison := false, param := 0,
    addr := 0x12340, body := [] }
def wHeader : Word := flitHeader kindPayload 0 0x1FF 7 0
def wFlit : List Byte := flitBytes false wHeader (msgWords wMsg)
theorem witness_flit_received :
    let s := wRs { Port.fresh .active with txCred := [512, 512, 512, 512, 512, 512] }
    (s.port 2).st = .active ∧ s.bit (portReg 2 0) 2 = true ∧ s.isCxPort 2 = false ∧ (s.port 2).discarding = false ∧
    wFlit.length = 256 ∧ wfld wHeader 0 2 = kindPayload ∧ BitVec.ofNat 9 (wfld wHeader 2 9) = (s.port 2).rxLast + 1 ∧ wfld wHeader 20 3 = 7 ∧
    msgLegal wMsg (s.isFabric 2) = true ∧ msgLen wMsg ≤ rxFree s 2 wMsg.vc ∧ (s.port 2).replay = [] ∧ (s.port 2).ackMsgs = [] := by
  decide +kernel
theorem witness_flit_crc : crc64 (wFlit.take (wFlit.length - 8)) = ofBytesLE (wFlit.drop (wFlit.length - 8)) := by decide +kernel
theorem witness_flit_words : (wordsOfBytes (wFlit.take (wFlit.length - 8))).head? = some wHeader ∧
    parseArea 61 (wordsOfBytes (wFlit.take (wFlit.length - 8))).tail = some [wMsg] ∧
    (wordsOfBytes (wFlit.take (wFlit.length - 8))).tail.length = 61 := by decide +kernel

/-- A port with RS(544,514) takes a codeword that no correction reaches, or a flit that is reported so. -/
theorem witness_flit_undecodable :
    (let s := wRs (Port.fresh .active)
     (s.port 2).st = .active ∧ s.bit (portReg 2 0) 2 = true ∧ (s.port 2).discarding = false ∧ isCodeword s 2 (List.replicate 680 0x5A) = true ∧
      isCodeword s 2 [] = false) ∧ rsDecode (symbolsOf 544 (ofBytesLE (List.replicate 680 0x5A))) = none := by decide +kernel

/-- A response for a host waits at its ACTIVE port. -/
def wRsp : Msg := { wMsg with opc := opcWR_DONE, vc := 3, addr := 0, src := 0x3F, dst := 4 }
def wSend : State := wPort 2 { Port.fresh .active with egress := [wRsp], txCred := [512, 512, 512, 512, 512, 512] }

theorem witness_FlitsCrossAPort : (wSend.port 2).st = .active ∧ (wSend.port 2).egress = [wRsp] ∧ (wSend.port 2).nakDue = false ∧
    (wSend.port 2).sinceIdle < 2047 ∧ (wSend.port 2).resend = 0 ∧ (wSend.port 2).replay.length < 128 ∧
    (wSend.port 2).rxFreed = [0, 0, 0, 0, 0, 0] ∧ wSend.isFabric 2 = false ∧ wRsp.opc ≠ opcAGENT_MSG ∧ wRsp.vc < 6 ∧
    msgLen wRsp ≤ areaWords (wSend.isCxPort 2) ∧ msgLen wRsp ≤ nth (wSend.port 2).txCred wRsp.vc ∧ (wSend.port 2).txCred.length = 6 := by
  decide

/-- An ACTIVE port with one flit unacknowledged. -/
def wSent : SentFlit := { seq := 5, crdVc := 7, crd := 0, area := [], replays := 0 }
def wReplay : State := wPort 2 { Port.fresh .active with replay := [wSent], txSeq := 6 }

theorem witness_LinkErrors :
    ((wReplay.port 2).st = .active ∧ (wReplay.port 2).replay = [wSent] ∧ wSent.replays < wReplay.fld (portReg 2 0x14) 16 4 ∧
      (∀ g ∈ (wReplay.port 2).replay, g.seq ≠ 511) ∧ (wReplay.port 2).ackMsgs = []) ∧
    (let s := wPort 2 { Port.fresh .active with replay := [{ wSent with replays := 8 }], txSeq := 6 }
     s.fld (portReg 2 0x14) 16 4 = 8 ∧ (s.port 2).st = .active ∧ (s.port 2).ackMsgs = [] ∧ ∀ g ∈ (s.port 2).replay, g.seq ≠ 511) ∧
    (wReplay.fld (portReg 2 0x14) 0 16 ≠ 0 ∧ wReplay.fld (portReg 2 0x14) 0 16 < 65535 ∧ wReplay.bit (portReg 2 0x10) 3 = false) ∧
    ((wPort 2 (Port.fresh .linkIdle)).port 2).st = .linkIdle ∧
    (let s := wPort 2 { Port.fresh .recover with replay := [wSent] }
     (s.port 2).st = .recover ∧ s.domLit 6 = true ∧ (s.port 2).reeq = false ∧ (s.port 2).ackMsgs = [] ∧
      ∀ f ∈ (s.port 2).replay, f.seq ≠ 511) ∧
    paramCause (wRs { Port.fresh .recover with replay := [wSent] }) 2 wPartner = none := by decide +kernel

theorem witness_FlitsGoToTheLanes : let s := wLean { Port.fresh .active with egress := [wRsp] }
    (s.port 2).st = .active ∧ (s.port 2).sinceIdle < 2047 ∧ (s.port 2).resend = 0 ∧ s.bit (portReg 2 0) 2 = false ∧
      (s.port 2).wire.since < 4095 := by decide +kernel
theorem test_pam : pamLevels 4 0b10110100 = [0, 1, 2, 3] := by decide

/-- The state after reset with PORT_CTL of port 2 clear. -/
def wOff : State := (wPort 2 (Port.fresh .disabled)).wr (portReg 2 4) 0

theorem witness_none_awaited : NoneAwaited wReplay ∧ NoneAwaited (wPort 2 { Port.fresh .recover with replay := [wSent] }) ∧
    NoneAwaited State.reset ∧ (0xF : Word) ≠ 0 ∧ (mkAgent 3 63).dev ≠ State.reset.devNum :=
  ⟨fun _ => ⟨rfl, rfl⟩, fun _ => ⟨rfl, rfl⟩, fun _ => ⟨rfl, rfl⟩, by decide, by decide⟩

theorem witness_PortCommandsAndLinkIdle :
    (CwReach wOff .mgmt (portReg 2 4) ∧ wOff.portEn 2 = false ∧ (wOff.port 2).st = .disabled ∧ wOff.fld (portReg 2 4) 1 2 = 0) ∧
    (CwReach (wPort 2 (Port.fresh .down)) .mgmt (portReg 2 4) ∧ (wPort 2 (Port.fresh .down)).portEn 2 = true ∧
      ((wPort 2 (Port.fresh .down)).port 2).st = .down) ∧
    (CwReach wReplay .mgmt (portReg 2 4) ∧ wReplay.portEn 2 = true ∧ (wReplay.port 2).st = .active ∧ wReplay.fld (portReg 2 4) 1 2 = 0 ∧
      wReplay.boot.fatal = false) ∧
    (idleReady (wPort 2 (Port.fresh .active)) 2 = true ∧ ((wPort 2 (Port.fresh .active)).port 2).idleReq = false) ∧
    ((wPort 2 { Port.fresh .active with idleReq := true }).port 2).idleReq = true :=
  ⟨⟨reach_of (by decide), by decide⟩, ⟨reach_of (by decide), by decide⟩, ⟨reach_of (by decide), by decide⟩, by decide⟩

/-! ## Requests and the directory -/

/-- Hosts 4 and 5 at an ACTIVE port 2, and the line that PA 0x12340 names. -/
def wHost : State := wPort 2 (Port.fresh .active)
def wLine : Nat := 0x12340 / 64
def wSlice : Nat := wHost.sliceOf wLine
def wHit : State := wHost.setHway wSlice (wHost.setOf wLine) 3
  { valid := true, dirty := true, line := wLine, age := 2, data := 0x1122, poison := false, errs := [], reserved := false }
def wEntry (st : DirSt) (ptrs : List Nat) : DEntry := { dentryD 0 with valid := true, line := wLine, st := st, ptrs := ptrs }
/-- The same with a directory entry of the line in way 5. -/
def wHeld (s : State) (st : DirSt) (ptrs : List Nat) : State := dirAge s wSlice (s.setOf wLine) 5 (wEntry st ptrs)

theorem wHostAt (s : State) (h : (decide (s.devNum = 0) && s.hostAgent 4 && s.canCarry 2) = true) : HostAt s 4 2 := by
  simp only [Bool.and_eq_true, decide_eq_true_eq] at h
  exact ⟨by rw [h.1.1]; decide, h.1.2, by decide, h.2⟩

theorem wHearthHit : HearthHit wHit wSlice wLine 3 0x1122 := ⟨by decide +kernel, by decide +kernel, by decide +kernel⟩

theorem witness_ReadsAreAnswered :
    (HostAt wHit 4 2 ∧ wHit.classify 0x12340 = .home 0x12340 ∧ CalmLine wHit wSlice wLine ∧ HearthHit wHit wSlice wLine 3 0x1122 ∧
      dirWay wHit wSlice wLine = none ∧ (∃ v < 16, (dirGet wHit wSlice wLine v).valid = false) ∧
      (∀ opc, Arrives wHit (sameMsg opc 4 9 0x12340)) ∧ wHit.classify 0x12378 = .home (0x12340 + 0x38) ∧
      (0x12378 : PA).toNat % 2 ^ (3 : BitVec 3).toNat = 0) ∧
    (let s := wHeld wHost .S [hostIdx 4]
     HostAt s 4 2 ∧ CalmLine s wSlice wLine ∧ dirWay s wSlice wLine = some 5 ∧ (dirGet s wSlice wLine 5).st = .S ∧
      (dirGet s wSlice wLine 5).bcast = false ∧ (dirGet s wSlice wLine 5).ptrs = [hostIdx 4] ∧
      Arrives s (sameMsg opcUPGRADE 4 9 0x12340)) :=
  ⟨⟨wHostAt _ (by decide +kernel), by decide +kernel, calm_of (by decide +kernel), wHearthHit, by decide +kernel, ⟨0, by decide, by decide +kernel⟩,
      fun opc => arrives_of (by decide +kernel) rfl (by decide) (by decide), by decide +kernel, by decide⟩,
    ⟨wHostAt _ (by decide +kernel), calm_of (by decide +kernel), by decide +kernel, by decide +kernel, by decide +kernel, by decide +kernel,
      arrives_of (by decide +kernel) rfl (by decide) (by decide)⟩⟩
theorem witness_WritesReachTheHearth :
    HostAt wHit 4 2 ∧ wHit.classify 0x12340 = .home 0x12340 ∧ CalmLine wHit wSlice wLine ∧ HearthHit wHit wSlice wLine 3 0x1122 ∧
      dirWay wHit wSlice wLine = none ∧ effPolicy wHit wSlice wLine = 0 ∧ (∀ opc, Arrives wHit (sameMsg opc 4 9 0x12340)) ∧
      wHit.classify 0x12378 = .home 0x12378 ∧ (0x12378 : PA).toNat % 8 = 0 :=
  ⟨wHostAt _ (by decide +kernel), by decide +kernel, calm_of (by decide +kernel), wHearthHit, by decide +kernel, by decide +kernel,
    fun opc => arrives_of (by decide +kernel) rfl (by decide) (by decide), by decide +kernel, by decide⟩
/-- The pseudo-channel of the line. -/
def wPc : Nat := (hbmLoc wHit.ten wLine).pc
theorem witness_MaintenanceActsOnTheLine :
    (HostAt wHit 4 2 ∧ wHit.domLit (pcDomain wPc) = true ∧ (∀ h, halfOf (pcDomain wPc) = some h → wHit.domLit h = true) ∧
      (wHit.pc wPc).wrq = [] ∧ flueCount (wHit.pc wPc) < 32 ∧ (wHit.hway wSlice (wHit.setOf wLine) 3).dirty = true ∧
      (∀ n, Arrives wHit (fun m => sameMsg opcMAINT 4 9 0x12340 m && m.param.toNat % 4 == n)) ∧
      (wHit.wr (portReg 2 0) 0x130).bit (portReg 2 0) 8 = true) ∧
    (HostAt wHost 4 2 ∧ CalmLine wHost wSlice wLine ∧ wHost.fld (sliceReg wSlice 0) 1 1 = 1 ∧ wHost.bit (sliceReg wSlice 0) 3 = true ∧
      findWay wHost wSlice wLine = none ∧ regionPolicy wHost wSlice wLine = 0 ∧ (wHost.slice wSlice).kindle.length < 16) :=
  ⟨⟨wHostAt _ (by decide +kernel), by decide +kernel, fun h hh => by
        have : h = 2 ∨ h = 3 := by
          have h2 : (halfOf (pcDomain wPc) = some 2 ∨ halfOf (pcDomain wPc) = some 3) := by decide +kernel
          rcases h2 with h2 | h2 <;> rw [h2] at hh <;> cases hh <;> simp
        rcases this with rfl | rfl <;> decide +kernel,
      by decide +kernel, by decide +kernel, by decide +kernel, fun n => arrives_of (by decide +kernel) rfl (by decide) (by decide), by decide +kernel⟩,
    ⟨wHostAt _ (by decide +kernel), calm_of (by decide +kernel), by decide +kernel, by decide +kernel, by decide +kernel, by decide +kernel,
      by decide +kernel⟩⟩

/-- RD_OWN of host 8 for a line that hosts 4 and 5 share: two snoops are out. -/
def wSnoop : State :=
  match execRdOwn 8 8 0x12340 (wHeld { wHost with ports := [(2, Port.fresh .active), (4, Port.fresh .active)] } .S [hostIdx 4, hostIdx 5]) with
  | .next t => t
  | _ => wHost
theorem witness_SnoopAnswers :
    (txnOf wSnoop wSlice wLine).isSome = true ∧ ((txnOf wSnoop wSlice wLine).map fun x => (x.stage, x.snps.map fun n => n.host, x.owner, x.taken)) =
      some (0, [hostIdx 4, hostIdx 5], none, []) ∧
      ((txnOf wSnoop wSlice wLine).map fun x => (x.snps.map fun n => n.gone, x.gone)) = some ([false, false], []) ∧ (wSnoop.slice wSlice).inq = [] ∧ (wSnoop.slice wSlice).confq = [] ∧
      (wSnoop.slice wSlice).retryq = [] ∧ (wSnoop.slice wSlice).evbuf = [] := by decide +kernel
/-- The same where host 4 is named as the owner. -/
def wSnoopOwner : State := wSnoop.modSlice wSlice fun x => { x with txns := x.txns.map fun y => { y with owner := some (hostIdx 4) } }
theorem witness_SnoopAnswers_owner :
    ((txnOf wSnoopOwner wSlice wLine).map fun x => (x.stage, x.snps.map fun n => n.host, x.owner)) =
      some (0, [hostIdx 4, hostIdx 5], some (hostIdx 4)) := by decide +kernel
theorem witness_SnoopAnswers_arrive : TakesAnswers wSnoop wSlice ∧ ∀ opc, Arrives wSnoop (sameMsg opc 4 0 0x12340) :=
  ⟨⟨by decide +kernel, by decide +kernel⟩, fun _ => arrives_of (by decide +kernel) (by decide +kernel) (by decide +kernel) (by decide +kernel)⟩

/-- The same where SNP_GONE of host 4 has come. -/
theorem witness_SnoopAnswers_gone :
    (let s := wSnoop.modSlice wSlice fun x => { x with txns := x.txns.map fun y => { y with snps := y.snps.map fun n => { n with gone := true } } }
     ((txnOf s wSlice wLine).map fun x => (x.stage, x.snps.map fun n => n.gone)) = some (0, [true, true])) := by decide +kernel

/-- UPGRADE of host 4 where host 5 shares the line, and RD_SHARED of host 4 where host 5 owns it: one snoop is out. -/
def wUpgrade : State := match execUpgrade 4 9 0x12340 (wHeld wHost .S [hostIdx 4, hostIdx 5]) with
  | .next t => t
  | _ => wHost
def wOwned : State := match execRdShared 4 9 0x12340 (wHeld wHit .D [hostIdx 5]) with
  | .next t => t
  | _ => wHost
/-- One snoop of the line's transaction is out, to host 5, and nothing else is under way. -/
def wOneLeft (s : State) : Bool :=
  ((txnOf s wSlice wLine).any fun x => x.stage == 0 && decide (x.snps.map (fun n => n.host) = [hostIdx 5]) && x.secs.isEmpty && x.gack &&
    x.gone.isEmpty && x.req.src == 4 && x.snpData.isNone && x.fetch == .none) &&
  (s.slice wSlice).victims.isEmpty && (s.slice wSlice).evbuf.isEmpty && (s.slice wSlice).installs.isEmpty && (s.slice wSlice).outWr.isEmpty &&
  (s.slice wSlice).inq.isEmpty && (s.slice wSlice).confq.isEmpty && (s.slice wSlice).retryq.isEmpty && s.purge.isEmpty &&
  s.domLit (20 + wSlice) && (s.slice wSlice).srsp.isEmpty && decide (srspUsed (s.slice wSlice) < 64) && (dirEntry s wSlice wLine).isSome &&
  agreeB s && s.spine.req.isEmpty && s.spine.rsp.isEmpty && s.spine.fwd.isEmpty
theorem witness_TheLastAnswer : wOneLeft wUpgrade = true ∧ wOneLeft wOwned = true ∧
    ((txnOf wUpgrade wSlice wLine).map fun x => (x.req.kind, x.ok)) = some (.upgrade, true) ∧
    ((txnOf wOwned wSlice wLine).map fun x => (x.req.kind, x.owner)) = some (.rdShared, some (hostIdx 5)) ∧
      findWay wOwned wSlice wLine = some 3 ∧ effPolicy wOwned wSlice wLine = 0 ∧ (wOwned.slice wSlice).kindle = [] ∧
      ((dirEntry wOwned wSlice wLine).map fun e => (e.bcast, e.ptrs)) = some (false, [hostIdx 5]) := by decide +kernel

theorem witness_NoticesGrantsAndPurges :
    (let s := wHeld wHost .S [hostIdx 4]
     HostAt s 4 2 ∧ CalmLine s wSlice wLine ∧ dirWay s wSlice wLine = some 5 ∧ (dirGet s wSlice wLine 5).bcast = false ∧
      (dirGet s wSlice wLine 5).ptrs = [hostIdx 4] ∧ (dirGet s wSlice wLine 5).st = .S) ∧
    (let s := wHeld wHit .D [hostIdx 4]
     HostAt s 4 2 ∧ CalmLine s wSlice wLine ∧ (dirGet s wSlice wLine 5).st = .D ∧ HearthHit s wSlice wLine 3 0x1122 ∧
      effPolicy s wSlice wLine = 0) ∧
    TakesAnswers (wHeld wHost .S [hostIdx 4]) wSlice ∧ TakesAnswers (wHeld wHit .D [hostIdx 4]) wSlice ∧
    State.reset.compat = false ∧ Arrives State.reset (fun m => m.opc == opcPURGE_NOTICE && m.src == mkAgent 3 63 && m.body == [0xF]) :=
  ⟨⟨wHostAt _ (by decide +kernel), calm_of (by decide +kernel), by decide +kernel, by decide +kernel, by decide +kernel, by decide +kernel⟩,
    ⟨wHostAt _ (by decide +kernel), calm_of (by decide +kernel), by decide +kernel, ⟨by decide +kernel, by decide +kernel, by decide +kernel⟩,
      by decide +kernel⟩,
    ⟨by decide +kernel, by decide +kernel⟩, ⟨by decide +kernel, by decide +kernel⟩, by decide,
    arrives_of (by decide) rfl (by decide) (by decide)⟩
/-- The same RD_OWN of host 4 where no one holds the line: it waits for its GACK. -/
def wGranted : State := match execRdOwn 4 9 0x12340 wHit with
  | .next t => t
  | _ => wHit
theorem witness_Gack : ((txnOf wGranted wSlice wLine).map fun x => (x.req.src, x.req.tag, x.stage)) = some (4, 9, 2) ∧
    lineMoving (wGranted.slice wSlice) wLine = false ∧ ((dirEntry wGranted wSlice wLine).map fun e => e.ptrs) = some [hostIdx 4] ∧
    (wGranted.slice wSlice).inq = [] ∧ (wGranted.slice wSlice).confq = [] ∧ (wGranted.slice wSlice).retryq = [] ∧
    (wGranted.slice wSlice).evbuf = [] ∧ wGranted.domLit (20 + wSlice) = true ∧ (wGranted.slice wSlice).srsp = [] ∧
    srspUsed (wGranted.slice wSlice) < 64 := by decide +kernel

/-! ## Purges, responses, agent messages -/

theorem sget_one {α : Type} (d : Nat → α) (k : Nat) (x : α) (j : Nat) (P : α → Prop) (h0 : P x) (h1 : P (d j)) :
    P (sget d [(k, x)] j) := by
  show P (if j = k then x else d j)
  split <;> assumption

/-- The state of wHost with slice wSlice as given. -/
def wSlc (x : Slice) : State := { wHost with slices := [(wSlice, x)] }
theorem wSlc_all (x : Slice) (P : Slice → Prop) (h0 : P x) (h1 : P (sliceD 0)) (j : Nat) : P ((wSlc x).slice j) :=
  sget_one sliceD wSlice x j P h0 h1

/-- Agent host indices 4 and 5 share the line in way 5; agent 4 is purged. -/
def wPurged : State := { wSlc { sliceD 0 with dir := [(wHost.setOf wLine * 16 + 5, wEntry .S [4, 5])] } with purge := [(0, 0x10)] }

theorem witness_purge_sweep : (∀ i, (wPurged.slice i).txns = [] ∧ (wPurged.slice i).evbuf = [] ∧ (wPurged.slice i).inq = [] ∧
      (wPurged.slice i).confq = [] ∧ (wPurged.slice i).retryq = [] ∧ (i ≠ wSlice → (wPurged.slice i).dir = [])) ∧
    wPurged.slicePresent wSlice = true ∧ (wPurged.slice wSlice).dir = [(wPurged.setOf (wEntry .S [4, 5]).line * 16 + 5, wEntry .S [4, 5])] ∧
    ((wEntry .S [4, 5]).valid = true ∧ (wEntry .S [4, 5]).bad = false) ∧ (wEntry .S [4, 5]).st = .S ∧ (wEntry .S [4, 5]).bcast = false ∧
    purged wPurged 4 = true ∧ purged wPurged 5 = false := by
  refine ⟨fun i => ?_, by decide +kernel, by decide +kernel, ⟨rfl, rfl⟩, rfl, rfl, by decide +kernel, by decide +kernel⟩
  show (_ : Prop)
  have e : wPurged.slice i = if i = wSlice then { sliceD 0 with dir := [(wHost.setOf wLine * 16 + 5, wEntry .S [4, 5])] } else sliceD i := rfl
  rw [e]; split
  · refine ⟨rfl, rfl, rfl, rfl, rfl, fun h => absurd ‹_› h⟩
  · exact ⟨rfl, rfl, rfl, rfl, rfl, fun _ => rfl⟩

/-- A response for an agent of device 2 and the state that routes it: ports 3 and 5 are fabric ports, port 5 is the route. -/
def wFar : Msg := { wMsg with opc := opcCMP, vc := 3, src := 0x3F, dst := 0x85, addr := 0 }
def wRouted : State :=
  (({ wHost with ports := [(3, { Port.fresh .active with rxq := [wFar] }), (5, Port.fresh .active)] }.wr (portReg 5 0) 0x35).wr
    (portReg 3 0) 0x35).wr (dirReg 0x1020) 0x51

theorem witness_Responses :
    HostAt wHost 4 2 ∧ (∀ opc, Arrives wHost (sameRsp opc 0x3F 4 9)) ∧
    (0x40 ≤ wFar.opc ∧ wFar.opc < 0x50 ∧ wFar.dst.dev ≠ wRouted.devNum ∧ wRouted.routePort wFar.dst.dev = some 5 ∧
      wRouted.canCarry 5 = true ∧ wRouted.domLit 62 = true ∧ wRouted.boot.fatal = false ∧ Agree wRouted) ∧
    (3 ≠ 5 ∧ wRouted.isFabric 3 = true ∧ (wRouted.port 3).rxq = [wFar] ∧ wFar.hop = false ∧
      (∀ r < 3, ∀ n ∈ (wRouted.port r).rxq, n ≠ wFar) ∧ wRouted.spine.fwd = [] ∧ wFar.vc = vcOf wFar.opc) ∧
    Arrives { wRouted with ports := [(5, Port.fresh .active)] } (· == wFar) :=
  ⟨wHostAt _ (by decide +kernel), fun opc => arrives_of (by decide +kernel) rfl (by decide) (by decide),
    ⟨by decide +kernel, by decide +kernel, by decide +kernel, by decide +kernel, by decide +kernel, by decide +kernel, by decide +kernel,
      agree_of (by decide +kernel)⟩, by decide +kernel, arrives_of (by decide +kernel) rfl (by decide) (by decide)⟩

/-- Mailbox 3 with 200 entries; the message ring of cluster 2 at 0x4000. -/
def wMail : State := { wHost with evt := { wHost.evt with mbox := [(3, { Fifo.empty with items := List.replicate 200 1, wr := 200 })] } }
def wRing : State := wHost.wr (scrReg 2 0x30) 0x4001

theorem witness_AgentMessages :
    (HostAt wMail 4 2 ∧ (∀ d, Arrives wMail (sameRsp opcAGENT_MSG 4 d 9)) ∧
      (sget fifoD wMail.evt.mbox 3).items.length + 112 / 2 ≤ 256 ∧ 256 < (sget fifoD wMail.evt.mbox 3).items.length + 114 / 2) ∧
    (HostAt wRing 4 2 ∧ (∀ d, Arrives wRing (sameRsp opcAGENT_MSG 4 d 9)) ∧ wRing.devNum < 16 ∧ wRing.clusterPresent 2 = true ∧
      wRing.domLit 46 = true ∧ (wRing.cluster 2).resetting = false ∧ wRing.bit (scrReg 2 0x30) 0 = true ∧
      wRing.fld (scrReg 2 0x30) 12 7 = 4 ∧ ((wRing.cluster 2).msgTail - (wRing.cluster 2).msgHead).toNat < 32) ∧
    HostAt wHost 5 2 ∧ Arrives wHost (sameRsp opcAGENT_MSG 4 5 9) :=
  ⟨⟨wHostAt _ (by decide +kernel), fun d => arrives_of (by decide +kernel) rfl (by decide) (by decide), by decide +kernel, by decide +kernel⟩,
    ⟨wHostAt _ (by decide +kernel), fun d => arrives_of (by decide +kernel) rfl (by decide) (by decide), by decide +kernel⟩,
    ⟨by decide +kernel, by decide +kernel, by decide, by decide +kernel⟩, arrives_of (by decide +kernel) rfl (by decide) (by decide)⟩

/-! ## The Hearth -/

def wReq (k : ReqKind) : Req :=
  { kind := k, src := 4, tag := 9, addr := 0x12340, priv := false, size := 3, mask := 0, data := 0, poison := false, amoOp := 0,
    operand := 0, compare := 0, core := none }
def wTxn : Txn :=
  { line := wLine, req := wReq .rdUc, snps := [], owner := none, anyOwner := false, gone := [], taken := [], calm := true, fetch := .wait,
    snpData := none, pol := 0, lead := false, found := some (some (6, 2)), looked := true, stage := 0, gack := false, out := 0, outPoison := false, ok := false, secs := [] }
def wSet : Nat := wHost.setOf wLine
def wReserved : HLine := { hlineD 0 with reserved := true }
def wDirty : HLine := { hlineD 0 with valid := true, dirty := true, line := wLine, data := 0x55 }
/-- What a slice holds while it fetches, sends a victim out, kindles, and follows a stream. -/
def wFetching : State := wSlc { sliceD 0 with txns := [wTxn], hearth := [(wSet * 16 + 6, wReserved)], ret := [⟨wLine, 0x77, false, false⟩] }
def wVictim : State := wSlc { sliceD 0 with victims := [⟨wLine, wSet, 2, 3⟩], hearth := [(wSet * 16 + 2, wDirty)] }
def wKindle : State := wSlc { sliceD 0 with kindle := [⟨wLine, .pending, 0, false⟩], ret := [⟨wLine, 0x77, false, true⟩] }
def wStream : State := wSlc { sliceD 0 with streams := [⟨7, none, 10⟩], misses := 65546 }

theorem witness_Fills :
    ((wSlice < nSlices ∧ wSlice = wFetching.sliceOf wLine) ∧ (wFetching.slice wSlice).ret = [⟨wLine, 0x77, false, false⟩] ∧
      txnOf wFetching wSlice wLine = some wTxn ∧ (wFetching.hway wSlice (wFetching.setOf wLine) 6).reserved = true ∧
      findWay wFetching wSlice wLine = none ∧ dirWay wFetching wSlice wLine = none ∧ lineMoving (wFetching.slice wSlice) wLine = false) ∧
    HostAt wFetching 4 2 ∧
    ((wVictim.slice wSlice).victims = [⟨wLine, wSet, 2, 3⟩] ∧ wVictim.hway wSlice wSet 2 = wDirty ∧ (wVictim.slice wSlice).installs = [] ∧
      (wVictim.slice wSlice).outWr = [] ∧ halfLit wVictim (pcDomain wPc) = true ∧ wDirty.errs = [] ∧ wDirty.poison = false ∧
      txnOf wVictim wSlice wLine = none ∧ wVictim.domLit (pcDomain wPc) = true ∧ (wVictim.pc wPc).wrq = [] ∧ flueCount (wVictim.pc wPc) < 32) ∧
    (wKindle.domLit (20 + wSlice) = true ∧
      { wKindle with doms := [(20 + wSlice, { Domain.lit with st := .ember })] }.domLit (20 + wSlice) = false ∧
      (wKindle.slice wSlice).ret = [⟨wLine, 0x77, false, true⟩] ∧ (wKindle.slice wSlice).kindle = [⟨wLine, .pending, 0, false⟩]) ∧
    ((wStream.slice wSlice).streams[0]? = some ⟨7, none, 10⟩ ∧ 10 + 65536 ≤ (wStream.slice wSlice).misses) ∧
    ∀ s ∈ [wFetching, wVictim, wKindle, wStream], (s.slice wSlice).inq = [] ∧ (s.slice wSlice).confq = [] ∧
      (s.slice wSlice).retryq = [] ∧ (s.slice wSlice).evbuf = [] :=
  ⟨by decide +kernel, wHostAt _ (by decide +kernel), by decide +kernel, by decide +kernel, by decide +kernel, by
    simp only [List.mem_cons, List.not_mem_nil, or_false, forall_eq_or_imp, forall_eq]; decide +kernel⟩

def wClean : HLine := { hlineD 0 with valid := true, line := wLine }
/-- Slice 1 as given. -/
def wS1 (x : Slice) : State := { wHost with slices := [(1, x)] }
theorem witness_DisablingSweeps :
    (CwReach wHost .mgmt (sliceReg 1 0) ∧ (wHost.slice 1).disabled = false ∧ (wHost.slice 1).disabling = false) ∧
    (let s := wS1 { sliceD 0 with disabled := true }
     CwReach s .mgmt (sliceReg 1 0) ∧ (s.slice 1).disabled = true ∧ (s.slice 1).coldPrep = false) ∧
    (let s := wS1 { sliceD 0 with disabling := true, sweeps := [.disable] }
     CwReach s .mgmt (sliceReg 1 0) ∧ (s.slice 1).disabled = false ∧ (s.slice 1).disabling = true) ∧
    (wHost.domLit 21 = true ∧ { wHost with doms := [(21, { Domain.lit with st := .ember })] }.domLit 21 = false) ∧
    ∀ p ∈ [9, 65535], let s := wS1 { sliceD 0 with disabling := true, sweeps := [.disable], sweepPos := p, hearth := [(p * 16 + 2, wClean)] }
      (s.slice 1).sweeps = [.disable] ∧ ∀ w < 16, (s.hway 1 (s.slice 1).sweepPos w).reserved = false ∧
        ((s.hway 1 (s.slice 1).sweepPos w).valid = true → (s.hway 1 (s.slice 1).sweepPos w).dirty = false ∧
          lineBusy (s.slice 1) (s.hway 1 (s.slice 1).sweepPos w).line = false) := by
  refine ⟨⟨reach_of (by decide), by decide, by decide⟩, ⟨reach_of (by decide), by decide, by decide⟩,
    ⟨reach_of (by decide), by decide, by decide⟩, by decide +kernel, ?_⟩
  simp only [List.mem_cons, List.not_mem_nil, or_false, forall_eq_or_imp, forall_eq]
  exact ⟨by decide +kernel, by decide +kernel⟩

def wQuenched : State := { wS1 { sliceD 0 with quenched := 6 } with reg := { wHost.reg with wayq := [(1, 6)] } }
/-- Way 2 walks, and its walk ends after this set or later. -/
def wWalk (e : Nat) : State := { wS1 { sliceD 0 with walking := [(2, e)], walkPos := 8, hearth := [(8 * 16 + 2, { hlineD 0 with valid := true })] } with
  reg := { wHost.reg with wayq := [(1, 4)] } }
theorem witness_QuenchedWays :
    (CwReach wHost .mgmt (windowReg false) ∧ CwReach wHost .mgmt (windowReg false + 4) ∧ masterSecure .mgmt = true ∧ wHost.reg.stalled = [] ∧
      wHost.reg.claim = .none ∧ wHost.slicePresent 1 = true ∧ 5 < wHost.boot.step ∧ wHost.domLit 21 = true ∧ (wHost.slice 1).retired = 0 ∧
      (wHost.slice 1).retiring = 0 ∧ (wHost.slice 1).powering = 0 ∧ (wHost.slice 1).walking = [] ∧ (wHost.slice 1).quenched = 0 ∧
      sget wordD wHost.reg.wayq 1 = 0) ∧
    (CwReach wQuenched .mgmt (windowReg false) ∧ CwReach wQuenched .mgmt (windowReg false + 4) ∧ (wQuenched.slice 1).walking = [] ∧
      (wQuenched.slice 1).powering = 0 ∧ sget wordD wQuenched.reg.wayq 1 = (wQuenched.slice 1).quenched.setWidth 32) ∧
    (∀ e ∈ [9, 20], (wWalk e |>.slice 1).walking = [(2, e)] ∧ ((wWalk e).hway 1 8 2).reserved = false ∧ ((wWalk e).hway 1 8 2).valid = true ∧
      ((wWalk e).hway 1 8 2).dirty = false ∧ lineBusy ((wWalk e).slice 1) ((wWalk e).hway 1 8 2).line = false ∧
      (wayqRead (wWalk e) 1).getLsbD 2 = true) ∧
    (let s := wS1 { sliceD 0 with quenched := 6, powering := 2 }
     (s.slice 1).powering.getLsbD 1 = true ∧ (wayqRead s 1).getLsbD 1 = false) := by
  refine ⟨⟨reach_of (by decide), reach_of (by decide), by decide⟩, ⟨reach_of (by decide), reach_of (by decide), by decide⟩, ?_, by decide⟩
  simp only [List.mem_cons, List.not_mem_nil, or_false, forall_eq_or_imp, forall_eq]
  exact ⟨by decide +kernel, by decide +kernel⟩

theorem witness_SlicesMaintain :
    (CwReach wHost .mgmt (sliceReg 1 0x18) ∧ (wHost.slice 1).maintBusy = false ∧
      (let s := wHost.wr (sliceReg 1 0x10) 0x12340
       CwReach s .mgmt (sliceReg 1 0x18) ∧ s.classify 0x12340 = .home 0x12340 ∧
        (0x12340 : PA) = BitVec.ofNat 52 ((s.rd (sliceReg 1 0x10)).toNat / 64 * 64 + s.fld (sliceReg 1 0x14) 0 20 * 2 ^ 32)) ∧
      (∃ off, wHost.classify (BitVec.ofNat 52 (wHost.fld (bootReg 0x14) 0 14 * 2 ^ 38)) = .home off)) ∧
    (let s := wS1 { sliceD 0 with maintBusy := true }
     s.devNum < 16 ∧ Arrives s (sameRsp opcCMP s.home s.home (maintTag 1)) ∧ (s.slice 1).maintBusy = true ∧ s.bit (sliceReg 1 0x18) 4 = false) ∧
    (let s := wHost.setHway wSlice wSet 3 { wDirty with dirty := false }
     HearthHit s wSlice wLine 3 0x55 ∧ (s.hway wSlice (s.setOf wLine) 3).dirty = false ∧ lineBusy (s.slice wSlice) wLine = false ∧
      s.domLit (20 + wSlice) = true ∧ halfLit s (pcDomain wPc) = true ∧ s.domLit (pcDomain wPc) = true ∧ (s.pc wPc).wrq = [] ∧
      wrCount (s.pc wPc) < 64) :=
  ⟨⟨reach_of (by decide), by decide, ⟨reach_of (by decide), by decide +kernel⟩, ⟨0, by decide +kernel⟩⟩,
    ⟨by decide, arrives_of (by decide) rfl (by decide) (by decide), by decide, by decide⟩,
    ⟨by decide +kernel, by decide +kernel, by decide +kernel⟩, by decide +kernel⟩

/-! ## HBM -/

/-- A read of line 0x48D and a write of it at its pseudo-channel. -/
def wRd : RdEntry := { line := wLine, src := .demand, cls := 0, seq := 0, ck := 0, cols := 0, wrote := false, drop := false }
def wWr : WrEntry := { line := wLine, data := 0x55, poison := false, cls := 0, flue := false, seq := 0, ck := 0, cols := 0, due := 0 }
def wLoc : DramLoc := hbmLoc wHost.ten wLine
def wPcs (x : Pc) : State := { wHost with pcs := [(wPc, x)] }
/-- The line's bank holds row r + 1, or no row where r is 0; RFM_EN is 0. -/
def wOpen (r : Nat) (x : Pc) : State := (wPcs { x with rows := if r = 0 then [] else [(16 * wLoc.sid + wLoc.bank, r)] }).wr (hbmReg (wPc / 32) 0) 0

theorem witness_Controllers :
    (∀ r ∈ [0, wLoc.row + 1, wLoc.row + 2], ∀ x ∈ [{ pcD 0 with rdq := [wRd] }, { pcD 0 with rdq := [{ wRd with cols := 1 }] },
        { pcD 0 with wrq := [wWr] }],
      pcReady (wOpen r x) wPc = true ∧ ((wOpen r x).pc wPc).now ≤ 5 ∧ ((wOpen r x).pc wPc).hist = [] ∧ ((wOpen r x).pc wPc).debt = [] ∧
        openRow ((wOpen r x).pc wPc) wLoc.sid wLoc.bank = r ∧ ((wOpen r x).pc wPc).rdq = x.rdq ∧ ((wOpen r x).pc wPc).wrq = x.wrq) ∧
    (∀ r ∈ [0, wLoc.row + 1, wLoc.row + 2], ∀ x ∈ [{ pcD 0 with rdq := [wRd] }, { pcD 0 with rdq := [{ wRd with cols := 1 }] },
        { pcD 0 with wrq := [wWr] }, { pcD 0 with wrq := [{ wWr with cols := 1 }] }],
      mustRetrain (wOpen r x) wPc = false ∧ rateHeld (wOpen r x) (pcDomain wPc) (halfActs (wOpen r x) wPc 5) = false ∧
        tooShort ((wOpen r x).seqOf wPc) = false ∧ ((wOpen r x).stackSt (wPc / 32)).lost = false) ∧
    wPc < nPcs ∧ wLoc.pc = wPc ∧ wRd.src = .demand ∧ (wOpen 0 (pcD 0)).bit (hbmReg (wPc / 32) 0) 4 = false := by decide +kernel

theorem wPcs_nothing (x : Pc) (h : x.wrq = []) (n : Nat) : ((wPcs x).hbmAt n).errs = [] ∧ ((wPcs x).pc (hbmLoc (wPcs x).ten n).pc).wrq = [] :=
  ⟨rfl, sget_one pcD wPc x _ (fun y => y.wrq = []) h rfl⟩

theorem witness_StacksHold :
    (let s := wPcs { pcD 0 with wrq := [{ wWr with cols := 2 }] }
     (s.pc wPc).wrq = [{ wWr with cols := 2 }] ∧ tooShort (s.seqOf (hbmLoc s.ten wLine).pc) = false ∧ ∀ i, (s.slice i).outWr = []) ∧
    (let f : Flight := ⟨wRd, { data := 0x55, poison := false, errs := [] }, 0⟩
     ((wPcs { pcD 0 with flight := [f] }).pc wPc).flight = [f] ∧ f.due ≤ 0 ∧ f.rd.src = .demand ∧ f.rd.drop = false ∧ f.stored.poison = false ∧ f.stored.errs = [] ∧
      badSyms (f.stored.errs ++ [⟨3, 1⟩, ⟨7, 8⟩]) = [3, 7]) :=
  ⟨⟨by decide +kernel, by decide +kernel, fun _ => rfl⟩, by decide +kernel⟩

/-- The pseudo-channels of a stack long after the training of one of them, which leaves Ember first or comes last. -/
def wAllPcs (first : Bool) : State :=
  { wHost.wr (hbmReg (wPc / 32) 0x18) 0x00100001 with
    tb := ⟨100000000, true⟩
    pcs := (List.range 32).map fun i => (32 * (wPc / 32) + i,
      if 32 * (wPc / 32) + i = wPc then { pcD 0 with retrainFirst := first } else { pcD 0 with trainAt := 5 }) }

theorem witness_StacksAreKeptUp :
    (pcReady wHost wPc = true ∧ wLoc.sid < wHost.nSid ∧ wHost.bit (hbmReg (wPc / 32) 0) 1 = false ∧
      (∀ sid < wHost.nSid, ∀ bank < 16, sget zeroD (wHost.pc wPc).refAt (16 * sid + bank) + effRefi wHost wPc ≤ 2 ^ 20) ∧
      (let s := wHost.wr (hbmReg (wPc / 32) 0) 2
       s.bit (hbmReg (wPc / 32) 0) 1 = true ∧ ∀ sid < s.nSid, sget zeroD (s.pc wPc).refAt (64 + sid) + effRefi s wPc ≤ 2 ^ 20)) ∧
    (let s := wOpen 5 (pcD 0)
     openRow (s.pc wPc) wLoc.sid wLoc.bank ≠ 0 ∧ (s.pc wPc).hist = [] ∧ s.fld (hbmReg (wPc / 32) 0x10) 24 8 * 12 ≤ 1000000 * 5) ∧
    (∀ b : Bool, let s := wAllPcs b
     pcReady s wPc = true ∧ retrainDue s wPc = true ∧ (mustRetrain s wPc = true ∨ (retrainDue s wPc = true ∧ turnOfOther s wPc = false)) ∧
      (sget lanesD s.phys.badLanes wPc).length ≤ 1 ∧ s.fld (hbmReg (wPc / 32) 0x18) 16 6 = 16) ∧
    (let s := wHost.wr (hbmReg (wPc / 32) 0x20) 1
     pcReady s wPc = true ∧ halfLit s (pcDomain wPc) = true ∧ s.bit (hbmReg (wPc / 32) 0x20) 0 = true ∧ (hbmLoc s.ten (scrubLine s wPc (s.pc wPc).scrubPos)).pc = wPc ∧
      (s.pc wPc).wrq = [] ∧ scrubNext s (s.pc wPc).scrubPos ≠ 0) ∧
    (let s := (wPcs { pcD 0 with cands := [⟨0, 3, 77, 9⟩] }).wr (hbmReg (wPc / 32) 0) 4
     pcReady s wPc = true ∧ tooShort (s.seqOf wPc) = false ∧ (s.stackSt (wPc / 32)).lost = false ∧ s.bit (hbmReg (wPc / 32) 0) 2 = true ∧
      (s.pc wPc).cands = [⟨0, 3, 77, 9⟩] ∧ (s.stackSt (wPc / 32)).soft = [] ∧
      s.bit (hbmReg (wPc / 32) 0x300) 31 = false) ∧
    CwReach wHost .mgmt (hbmReg 1 0) :=
  ⟨by decide +kernel, by decide +kernel, by decide +kernel, by decide +kernel, by decide +kernel, reach_of (by decide)⟩

/-! ## Engines and inkwells -/

/-- A descriptor of an operation with fields at byte offsets. -/
def wRaw (opc : Nat) (l : List (Nat × Nat)) : LineData := BitVec.ofNat 512 (l.foldl (fun n f => n + f.2 * 2 ^ (8 * f.1)) opc)
def wDesc (raw : LineData) (ph : DPhase) : Desc := { slot := 7, raw := raw, phase := ph, engine := some 0, value := 5, polledAt := 0, expired := false, msgTag := none }
/-- Inkwell 3 as given, and engine 0. -/
def wInk (x : Inkwell) (e : Engine) : State := { wHost with inks := [(3, x)], engines := [(0, e)] }
def wWork (d : Desc) (e : Engine) : State := wInk { inkD 0 with descs := [d] } { e with work := some (3, 7) }
/-- The core of a task that its descriptor names, which holds its engine or does not. -/
def wTasked (held : Bool) : State :=
  { wInk { inkD 0 with descs := [{ wDesc 0 .inTask with engine := some 0 }] } { engineD 0 with work := if held then some (3, 7) else none } with
    cores := [(0, { wMem with task := 3 + 7 * 2 ^ 16, doom := some .aborted })] }
theorem witness_TasksEnd_descriptor :
    (bitsOf ((wTasked true).core 0).task.toNat 0 10 = 3 ∧ bitsOf ((wTasked true).core 0).task.toNat 16 16 = 7) ∧
    ∀ b : Bool, ∃ d, descOf (wTasked b) 3 7 = some d ∧ (heldEngine (wTasked b) 3 d = none ↔ b = false) :=
  ⟨by decide, fun b => ⟨_, rfl, by cases b <;> decide +kernel⟩⟩

def wMove (opc : Nat) : LineData := wRaw opc [(8, 0x1010), (16, 0x2020), (24, 0x60), (32, 0xAB)]

theorem works_of {s : State} {e n slot : Nat} {d : Desc}
    (h : (decide (e < nEngines) && decide ((s.engine e).work = some (n, slot)) && decide (descOf s n slot = some d) && !isDone d && !s.boot.fatal &&
      s.domLit 60 && decide ((s.engine e).fail = none) && decide (inFlight (s.engine e) < 63) && !s.bit (telReg 0x8200) 0) = true) :
    EngineWorks s e n slot d := by
  simp only [Bool.and_eq_true, decide_eq_true_eq, Bool.not_eq_true'] at h
  obtain ⟨⟨⟨⟨⟨⟨⟨⟨a, b⟩, c⟩, j⟩, d⟩, e⟩, f⟩, g⟩, i⟩ := h
  exact ⟨a, b, c, j, ⟨d, e⟩, ⟨f, g⟩, Or.inl i⟩

/-- An engine at byte 32 of its ranges, whose last piece has read line 0x40. -/
def wHere : Engine := { engineD 0 with pos := 32, last := [(9, 0x40, some (0x1234, false))], elems := [(0x7000, 64)], total := 128 }
def wShort : LineData := wRaw 1 [(8, 0x1010), (16, 0x2020), (24, 48), (32, 0xAB)]

theorem witness_EnginesMoveData_here :
    (EngineWorks (wWork (wDesc wShort .running) wHere) 0 3 7 (wDesc wShort .running) ∧ wHere.Here (0x1010 + 32) 16 (0x1234, false) ∧
      dfld wShort 0 1 = 1 ∧ dfld wShort 24 4 = 48 ∧ daddr wShort 8 = 0x1010 ∧ daddr wShort 16 = 0x2020) ∧
    (∀ opc ∈ [6, 7], let x := { wHere with elem := some (0x1030, 16, 0) }
      EngineWorks (wWork (wDesc (wMove opc) .running) x) 0 3 7 (wDesc (wMove opc) .running) ∧ x.Here (0x1030 + 0) 16 (0x1234, false) ∧
        coveredBytes x.wrote 0x1030 16 = 0 ∧ x.gath = [] ∧ 16 < 96 - 32) ∧
    (let x := { wHere with elem := some (0x1030, 16, 0), elems := [], total := 48 }
     EngineWorks (wWork (wDesc (wMove 6) .running) x) 0 3 7 (wDesc (wMove 6) .running) ∧
      (0x2020 + 32) / 64 * 64 - 0x2020 = 32 ∧ 16 = min ((0x2020 + 32) / 64 * 64 + 64 - 0x2020) x.total - 32) := by
  simp only [List.mem_cons, List.not_mem_nil, or_false, forall_eq_or_imp, forall_eq]
  exact ⟨⟨works_of (by decide +kernel), ⟨by decide, _, rfl, rfl, rfl⟩, by decide +kernel⟩,
    ⟨⟨works_of (by decide +kernel), ⟨by decide, _, rfl, rfl, rfl⟩, by decide +kernel⟩,
      works_of (by decide +kernel), ⟨by decide, _, rfl, rfl, rfl⟩, by decide +kernel⟩, works_of (by decide +kernel), by decide +kernel⟩

theorem witness_EnginesMoveData :
    (∀ opc ∈ List.range 14, EngineWorks (wWork (wDesc (wMove opc) .running) (engineD 0)) 0 3 7 (wDesc (wMove opc) .running) ∧
      dfld (wMove opc) 0 1 = opc ∧ dfld (wMove opc) 24 4 = 0x60 ∧ daddr (wMove opc) 8 = 0x1010 ∧ daddr (wMove opc) 16 = 0x2020) ∧
    (∀ opc ∈ [6, 7], EngineWorks (wWork (wDesc (wMove opc) .running) { engineD 0 with elem := some (0x5030, 48, 16) }) 0 3 7 (wDesc (wMove opc) .running)) ∧
    (∀ opc ∈ [8, 9], EngineWorks (wWork (wDesc (wMove opc) .running) { engineD 0 with list := some (0x40, 0x55) }) 0 3 7 (wDesc (wMove opc) .running)) := by
  refine ⟨?_, ?_, ?_⟩
  · intro opc h
    have h := List.mem_range.mp h
    refine ⟨works_of ?_, ?_⟩ <;> revert opc <;> decide +kernel
  · simp only [List.mem_cons, List.not_mem_nil, or_false, forall_eq_or_imp, forall_eq]
    exact ⟨works_of (by decide +kernel), works_of (by decide +kernel)⟩
  · simp only [List.mem_cons, List.not_mem_nil, or_false, forall_eq_or_imp, forall_eq]
    exact ⟨works_of (by decide +kernel), works_of (by decide +kernel)⟩

/-- Inkwell 3 is enabled and has descriptors to fetch. -/
def wFetch : State := (wInk { inkD 0 with tail := 5 } (engineD 0)).wr (inkReg 3 0) 1
def wTaskD : LineData := wRaw 10 [(8, 0x1000), (16, 5), (48, 2)]
def wTaskDAt : State := (wWork (wDesc wTaskD .running) (engineD 0)).wr (scrReg 2 0) 1
def wMsgD : LineData := wRaw 11 [(8, 0x1010), (20, 6)]
def wWait : LineData := wRaw 12 [(8, 0x1010), (36, 1000)]
def wFence (fail : Nat) : State := wInk { inkD 0 with descs := [{ wDesc (wRaw 13 [(8, 1)]) .held with engine := none }], fails := fail } (engineD 0)

theorem witness_DescriptorsStart :
    (inkLit wFetch = true ∧ lowestFree wFetch = some 0 ∧ nextWork wFetch false = some (3, none) ∧
      touchesCw wFetch (ringBase wFetch 3) (64 * inkSize wFetch 3) = false ∧ EnginesNotFollowed wFetch) ∧
    (EngineWorks wTaskDAt 0 3 7 (wDesc wTaskD .running) ∧ dfld wTaskD 0 1 = 10 ∧ dfld wTaskD 48 1 % 16 = 2 ∧ wTaskDAt.clusterPresent 2 = true ∧
      wTaskDAt.domLit 46 = true ∧ (wTaskDAt.cluster 2).resetting = false ∧ wTaskDAt.bit (scrReg 2 0) 0 = true ∧
      (wTaskDAt.dom 46).commanded ≠ some .cold ∧ wTaskD.getLsbD 400 = false ∧ (wTaskDAt.cluster 2).tasks.length < 32) ∧
    EngineWorks ((wWork (wDesc wTaskD .launching) (engineD 0)).wr (scrReg 2 0) 1) 0 3 7 (wDesc wTaskD .launching) ∧
    (EngineWorks (wWork (wDesc wMsgD .running) (engineD 0)) 0 3 7 (wDesc wMsgD .running) ∧ dfld wMsgD 0 1 = 11 ∧ (engineD 0).pos = 0) ∧
    (EngineWorks (wWork (wDesc wWait .running) (engineD 0)) 0 3 7 (wDesc wWait .running) ∧ dfld wWait 0 1 = 12) :=
  ⟨⟨by decide +kernel, by decide +kernel, by decide +kernel, by decide +kernel, Or.inl (by decide)⟩,
    ⟨works_of (by decide +kernel), by decide +kernel⟩, works_of (by decide +kernel), ⟨works_of (by decide +kernel), by decide +kernel⟩,
    ⟨works_of (by decide +kernel), by decide +kernel⟩⟩

theorem witness_DescriptorsEnd :
    (let d := { wDesc wWait .wantPoll with engine := none }
     let s := wInk { inkD 0 with descs := [d] } (engineD 0)
     inkLit s = true ∧ lowestFree s = some 0 ∧ nextWork s true = some (3, some 7) ∧ descOf s 3 7 = some d ∧ d.phase = .wantPoll ∧ d.engine = none ∧ dfld wWait 0 1 = 12 ∧ dfld wWait 36 4 ≠ 0 ∧ s.bit (telReg 0x8200) 0 = false) ∧
    (let s := wWork (wDesc wWait .polling) (engineD 0)
     descOf s 3 7 = some (wDesc wWait .polling) ∧ dfld wWait 36 4 ≠ 0) ∧
    (let d := wDesc (wMove 1) (.done .ok 0)
     let s := wInk { inkD 0 with descs := [d], doneQ := [7] } { engineD 0 with work := some (3, 7) }
     descOf s 3 7 = some d ∧ d.engine = some 0 ∧ inkLit s = true ∧ (s.ink 3).recWr = none ∧ (s.ink 3).doneQ.head? = some 7 ∧
      touchesCw s (cqBase s 3) (16 * inkSize s 3) = false ∧ s.bit (telReg 0x8200) 0 = false) ∧
    (∀ q ∈ [[], [9]], let d := { wDesc (wMove 1) (.ended .ok 0) with engine := none }
     let s := wInk { inkD 0 with descs := [d], doneQ := q } (engineD 0)
     descOf s 3 7 = some d ∧ inkLit s = true ∧ lowestFree s = some 0 ∧ nextWork s false = some (3, some 7) ∧ (s.ink 3).recWr = none ∧
      touchesCw s (cqBase s 3) (16 * inkSize s 3) = false ∧ s.bit (telReg 0x8200) 0 = false) ∧
    (∀ n ∈ [0, 2], inkLit (wFence n) = true ∧ ((wFence n).ink 3).fails = n ∧ ∃ d, ((wFence n).ink 3).descs = [d] ∧ d.phase = .held ∧
      d.engine = none ∧ dfld d.raw 0 1 = 13 ∧ d.raw.getLsbD 64 = true) ∧
    (let s := (wInk { inkD 0 with p := 1 } (engineD 0)).wr (inkReg 3 0x28) 0x00100001
     s.bit (inkReg 3 0x28) 0 = true ∧ s.fld (inkReg 3 0x28) 16 16 ≠ 0 ∧ 0 < (s.ink 3).p) := by
  refine ⟨by decide +kernel, by decide +kernel, by decide +kernel, by decide +kernel, ?_, by decide +kernel⟩
  simp only [List.mem_cons, List.not_mem_nil, or_false, forall_eq_or_imp, forall_eq]
  exact ⟨⟨by decide +kernel, rfl, _, rfl, rfl, rfl, by decide +kernel, by decide +kernel⟩, by decide +kernel, rfl, _, rfl, rfl, rfl, by decide +kernel, by decide +kernel⟩

theorem witness_DoorbellsAndControls :
    CwReach wFetch .mgmt (doorbellOff 3 0) ∧ CwReach wFetch .mgmt (doorbellOff 3 4) ∧ CwReach wFetch .mgmt (inkReg 3 0) ∧
    inkSize wFetch 3 = 16 ∧ wFetch.bit (inkReg 3 0) 2 = false ∧ wFetch.compat = false ∧ inkSizeOk wFetch 3 = true ∧
    (ringDiff 16 9 (wFetch.ink 3).head ≤ 16 ∧ ringDiff 16 (wFetch.ink 3).tail (wFetch.ink 3).head ≤ ringDiff 16 9 (wFetch.ink 3).head) ∧ ¬ ringDiff 16 20 (wFetch.ink 3).head ≤ 16 ∧
    (let s := wInk { inkD 0 with cqTail := 5, cqHead := 2 } (engineD 0)
     CwReach s .mgmt (doorbellOff 3 4) ∧ ringDiff (inkSize s 3) (s.ink 3).cqTail 4 ≤ ringDiff (inkSize s 3) (s.ink 3).cqTail (s.ink 3).cqHead ∧
      CwReach s .mgmt (inkReg 3 0) ∧ s.bit (inkReg 3 0) 0 = false ∧ (s.ink 3).descs = [] ∧ inkFetching s 3 = false) :=
  ⟨reach_of (by decide +kernel), reach_of (by decide +kernel), reach_of (by decide +kernel), by decide +kernel, by decide +kernel, by decide +kernel,
    by decide +kernel, by decide +kernel, by decide +kernel, reach_of (by decide +kernel), by decide +kernel, reach_of (by decide +kernel), by decide +kernel⟩

/-! ## FIFOs and the CX image -/

def wFifo : Fifo := ⟨[0xAB00000011, 22, 33], 5, 8, 9⟩
def wFifos : State := { wHost with evt := { wHost.evt with mbox := [(3, wFifo)], efifo := wFifo } }
/-- Compatibility mode, with words in the CX FIFOs. -/
def wCx (cmd rsp : List DWord) : State :=
  { wHost.wr 0x8 1 with cx := { wHost.cx with cmd := ⟨cmd, 0, cmd.length % 128, 0⟩, rsp := ⟨rsp, 0, rsp.length, 0⟩ } }

theorem witness_Fifos :
    (sget fifoD wFifos.evt.mbox 3 = wFifo ∧ (sget fifoD wFifos.evt.mbox 2).items = [] ∧ CwReach wFifos .mgmt (mboxReg 3 0) ∧
      CwReach wFifos .mgmt (mboxReg 2 0) ∧ CwReach wFifos .mgmt (mboxReg 3 0x14) ∧ CwReach wFifos .mgmt (efifoReg 0)) ∧
    (CxReach (wCx [5] [6, 7]) .mgmt 0x20 ∧ (wCx [5] [6, 7]).cx.cmd.items.length < 64 ∧ CxReach (wCx (List.replicate 64 5) []) .mgmt 0x20 ∧
      (wCx (List.replicate 64 5) []).cx.cmd.items.length = 64 ∧ CxReach (wCx [5] [6, 7]) .mgmt 0x30) :=
  ⟨⟨by decide +kernel, by decide +kernel, reach_of (by decide +kernel), reach_of (by decide +kernel), reach_of (by decide +kernel),
      reach_of (by decide +kernel)⟩,
    cxReach_of (by decide +kernel), by decide +kernel, cxReach_of (by decide +kernel), by decide +kernel, cxReach_of (by decide +kernel)⟩

/-- A CX command runs. -/
def wRun (hdr : Word) (args : List Word) (pos : Nat) : State :=
  { wCx [] [] with cx := { wHost.cx with run := some { hdr := hdr, args := args, began := false, status := 0, pos := pos, flues := [] } } }
/-- Operation 4 on set 5, way pair 1, operation INV: its last location holds a clean line. -/
def wSw : State :=
  let s := wRun 0x00AB0104 [0x00840005] 7
  let (i, set, w) := swPlace s 0x00840005 7
  s.setHway i set w wClean

theorem witness_CxCommands_here :
    let s := { wRun 0x00AB0501 [0x1010, 0, 0x2020, 0, 48] 0 with engines := [(0, wHere)] }
    (s.engine 0).Here (0x1010 + 32) 16 (0x1234, false) ∧ inFlight (s.engine 0) < 63 ∧ s.domLit 60 = true :=
  ⟨⟨by decide, _, rfl, rfl, rfl⟩, by decide +kernel⟩

theorem witness_CxCommands :
    (let s := wCx [0x00AB0501, 0x1010, 0, 0x2020, 0, 0x60, 9] []
     cxMayStart s = true ∧ s.domLit 60 = true ∧ cold60 s = false) ∧
    (∀ c ∈ ([(0x00AB0000, []), (0x00AB0501, [0x1010, 0, 0x2020, 0, 0x60]), (0x00AB0402, [0x1010, 0, 0x60, 0xAABBCCDD]),
        (0x00AB0403, [0x1010, 0, 0x60, 2])] : List (Word × List Word)),
      let s := wRun c.1 c.2 0
      (s.engine 0).work = none ∧ (s.engine 0).fail = none ∧ inFlight (s.engine 0) < 63 ∧ s.boot.fatal = false ∧ s.domLit 60 = true ∧
        s.bit (telReg 0x8200) 0 = false ∧ ∃ r, s.cx.run = some r ∧ r.tag = 0xAB ∧ r.status = 0 ∧ r.opc = c.1.toNat % 16 ∧
          (c.1.toNat % 16 = 1 → r.arg 4 = 0x60) ∧ (2 ≤ c.1.toNat % 16 → r.arg 2 = 0x60)) ∧
    (∃ r, wSw.cx.run = some r ∧ r.opc = 4 ∧ r.tag = 0xAB ∧ r.pos + 1 = swCount wSw (r.arg 0) ∧
      (let p := swPlace wSw (r.arg 0) r.pos
       p.2.2 < 16 ∧ wSw.domLit (20 + p.1) = true ∧ (wSw.hway p.1 p.2.1 p.2.2).valid = true ∧ (wSw.hway p.1 p.2.1 p.2.2).dirty = false ∧
        lineBusy (wSw.slice p.1) (wSw.hway p.1 p.2.1 p.2.2).line = false)) ∧
    (let r : CxRun := { hdr := 0x00AB0000, args := [], began := true, status := 0, pos := 0, flues := [] }
     let s := { wCx [] [] with cx := { wHost.cx with run := some r } }
     s.cx.run = some r ∧ cxOver s r = true ∧ s.cx.rsp.items.length < 64) ∧
    ((wCx [] []).slicePresent 5 = true ∧ CxReach (wCx [] []) .mgmt 0x118 ∧ CxReach (wCx [] []) .mgmt 0x11C) := by
  refine ⟨by decide +kernel, ?_, ⟨_, rfl, by decide +kernel, by decide +kernel, by decide +kernel, by decide +kernel⟩, by decide +kernel, by decide +kernel,
    cxReach_of (by decide +kernel), cxReach_of (by decide +kernel)⟩
  simp only [List.mem_cons, List.not_mem_nil, or_false, forall_eq_or_imp, forall_eq]
  refine ⟨?_, ?_, ?_, ?_⟩ <;>
    exact ⟨by decide +kernel, by decide +kernel, by decide +kernel, by decide +kernel, by decide +kernel, by decide +kernel, _, rfl, by decide +kernel⟩

/-! ## Telemetry -/

def wDumps (put : Word) : State := ((wHost.wr (telReg 0x8100) 1).wr (telReg 0x810C) 0x04000001).wr (telReg 0x8110) put
def wFollow : Follow :=
  { kind := 1, ingress := 4, id := 77, core := 0, src := 4, tag := 5, opc := 3, addr := 0x1000, tb := 100, acc := some 110, got := some 130,
    left := some 180, via := none, outcome := some 0, snooped := false, retry := false, poison := false }
def wBlot (b : Blotter) : State := { wHost with tel := { wHost.tel with blot := b } }

theorem witness_Counters :
    (let s := { wHost with acc := [(slotOf 3 5, 7), (slotOf 4 1, 2)] }
     s.domLit 61 = true ∧ swf zeroD s.acc = true ∧ ∀ i < 32, sget zeroD s.tel.ctr (slotOf 3 i) + s.slot 3 i + 0 < 2 ^ 48) ∧
    (let s := { wHost with acc := [(slotOf 36 0, 7), (slotOf 36 4, 2)] }
     swf zeroD s.acc = true ∧ ∀ i < 32, sget zeroD s.tel.ctr (slotOf 36 i) + s.slot 36 i + (s.slot 36 0 + 1) / 2 < 2 ^ 48) ∧
    (let s := { wHost with acc := [(slotOf 3 5, 2 ^ 48 + 3)] }
     s.domLit 61 = true ∧ s.acc = [(slotOf 3 5, 2 ^ 48 + 3)] ∧ 2 ^ 48 ≤ sget zeroD s.tel.ctr (slotOf 3 5) + (2 ^ 48 + 3)) ∧
    CwReach wHost .mgmt (telReg 0x8000) :=
  ⟨by decide +kernel, by decide +kernel, by decide +kernel, reach_of (by decide +kernel)⟩

def wThr : State := wFifos.wr (telReg 0x5D40) 0x80000002
theorem witness_ThresholdSample :
    telDark wThr = false ∧ wThr.tel.thr = [] ∧
    ((List.range 54).all fun g => (List.range 4).all fun q => (List.range 4).all fun i => g == 53 && q == 0 && i == 0 ||
      (occupancy wThr g q).all fun occ => decide (occ ≤ wThr.fld (telReg (0x5000 + 0x40 * g + 0x10 * q + 4 * i)) 0 16)) = true ∧
    wThr.fld (telReg 0x5D40) 0 16 < wThr.evt.efifo.items.length := by decide +kernel

theorem witness_DumpsAndRecords :
    (let s := wDumps 0
     s.bit (telReg 0x8100) 0 = true ∧ s.domLit 61 = true ∧ s.tel.dump = none ∧ CwReach s .mgmt (telReg 0x8100) ∧
      ringDiff (2 ^ dumpLog s) (s.fld (telReg 0x8110) 0 13) (s.fld (telReg 0x8114) 0 13) ≠ 2 ^ dumpLog s) ∧
    (let s := wDumps 16
     s.bit (telReg 0x8100) 0 = true ∧ s.domLit 61 = true ∧
      ringDiff (2 ^ dumpLog s) (s.fld (telReg 0x8110) 0 13) (s.fld (telReg 0x8114) 0 13) = 2 ^ dumpLog s) ∧
    (let s := { wDumps 0 with doms := [(61, { Domain.lit with st := .ember })] }
     s.bit (telReg 0x8100) 0 = true ∧ (s.dom 61).st = .ember ∧ (s.dom 61).moving = none ∧ s.domLit 3 = true) ∧
    (∀ b : Bool, let s := { wHost with tel := { wHost.tel with dump := some ⟨0, 2 ^ 32, [], true, 9, b⟩ } }
     s.tel.dump = some ⟨0, 2 ^ 32, [], true, 9, b⟩ ∧ Arrives s (fun m => m.dst == s.home && m.tag == dumpTag 0 && m.opc == opcWR_DONE)) ∧
    (CwReach wHost .mgmt (telReg 0x8200) ∧ wHost.bit (telReg 0x8200) 0 = false) ∧
    ((wBlot { Blotter.empty with follows := [wFollow] }).tel.blot.follows[0]? = some wFollow ∧ wFollow.left = some 180 ∧ (wBlot { Blotter.empty with follows := [wFollow] }).domLit 61 = true) ∧
    (∀ r ∈ [[[1, 2]], [[1, 2], [3, 4]]], let s := wBlot { Blotter.empty with ring := r }
      s.domLit 61 = true ∧ s.tel.blot.drain = none ∧ s.bit (telReg 0x8220) 1 = false ∧ s.tel.blot.ring = r ∧ s.fld (telReg 0x8218) 0 21 % 2 = 0 ∧
        ringDiff (2 ^ blotLog s) (s.fld (telReg 0x8218) 0 21) (s.fld (telReg 0x821C) 0 21) + 2 ≤ 2 ^ blotLog s) :=
  ⟨⟨by decide +kernel, by decide +kernel, by decide +kernel, reach_of (by decide +kernel), by decide +kernel⟩, by decide +kernel, by decide +kernel,
    fun b => ⟨rfl, arrives_of (by cases b <;> decide +kernel) rfl (by cases b <;> decide) (by cases b <;> decide)⟩, ⟨reach_of (by decide +kernel), by decide +kernel⟩, ⟨rfl, rfl, by decide⟩, by decide +kernel⟩

/-! ## Events, fatal errors, power -/

def wEvent : Event := ⟨0x13, 0x15, 0xABCD⟩
def wEvents : State := { wHost with evt := { wHost.evt with waiting := [wEvent, ⟨1, 2, 3⟩] } }
def wEvMsg (dst : AgentId) : State :=
  { wPort 2 { Port.fresh .active with txCred := [512, 512, 512, 512, 512, 0] } with
    evt := { wHost.evt with msgq := [{ wMsg with opc := opcEVENT_MSG, dst := dst }] } }
theorem witness_Events :
    (wEvents.evt.waiting = [wEvent, ⟨1, 2, 3⟩] ∧ wEvent.source < 128) ∧
    (∃ m, (wEvMsg 4).evt.msgq = [m] ∧ (wEvMsg 4).portFor m.dst = some 2 ∧ (wEvMsg 4).canCarry 2 = true ∧ m.hop = false ∧ evtMayGo (wEvMsg 4) m = true) ∧
    (∃ m, (wEvMsg 0x85).evt.msgq = [m] ∧ (wEvMsg 0x85).portFor m.dst = none) ∧
    (wRouted.portFor 0x85 = some 5 ∧ wRouted.canCarry 5 = true ∧ wRouted.isFabric 5 = true ∧ wRouted.domLit (62 + 5 / 8) = true ∧
      wRouted.spine.fwd = []) :=
  ⟨by decide, ⟨_, rfl, by decide +kernel, by decide +kernel, rfl, by decide +kernel⟩, ⟨_, rfl, by decide +kernel⟩, by decide +kernel⟩

def wFatal : State := { wHost with boot := { wHost.boot with fatal := true } }
theorem witness_FatalErrors : wHost.boot.fatal = false ∧ wFatal.boot.fatal = true ∧ wHost.domLit 25 = true ∧ wFatal.bit (evtReg 0x20) 4 = false ∧
    (0x23, 0x12, sliceReg 3 0x88, 2) ∈ (List.range 16).map fun n => (0x20 + n, 0x12, sliceReg n 0x88, 2) := by decide +kernel

/-- Domain d as given. -/
def wDom (d : Nat) (x : Domain) : State := { wHost with doms := [(d, x)] }
def wBusyCore : State := { wHost with cores := [(0, { coreD 0 with st := .running })] }

/-- A domain command finds its register, and the domain Lit with no command. -/
def wCommandable (s : State) (d : Nat) : Bool :=
  s.domPresent d && s.domLit d && (s.dom d).commanded.isNone && (s.dom d).pend.isNone
def wBooted : State := { wHost with boot := { wHost.boot with step := 7 } }
/-- Port 0 is a fabric port with EN = 1. -/
def wFabric : State := wHost.wr (portReg 0 0) 0x35

theorem witness_DomainCommands :
    (CwReach wHost .mgmt (domReg 25 0) ∧ (∀ d < 64, wCommandable wHost d = true) ∧ wHost.boot.step = 8 ∧ emberReady wHost 25 false = true) ∧
    (CwReach wBooted .mgmt (domReg 25 0) ∧ wCommandable wBooted 25 = true ∧ wBooted.boot.step ≠ 8) ∧
    (CwReach wBusyCore .mgmt (domReg 44 0) ∧ wCommandable wBusyCore 44 = true ∧ emberReady wBusyCore 44 false = false ∧
      (wBusyCore.core 0).st = .running) ∧
    (CwReach wHost .mgmt (domReg 2 0) ∧ wHost.bit (pwrReg 0x18) 3 = false) ∧
    (CwReach wFabric .mgmt (domReg 62 0) ∧ wCommandable wFabric 62 = true ∧ fwdInUse wFabric 0 = true) ∧ fwdInUse wHost 0 = false :=
  ⟨⟨reach_of (by decide +kernel), by decide +kernel⟩, ⟨reach_of (by decide +kernel), by decide +kernel⟩,
    ⟨reach_of (by decide +kernel), by decide +kernel⟩, ⟨reach_of (by decide +kernel), by decide +kernel⟩,
    ⟨reach_of (by decide +kernel), by decide +kernel⟩, by decide +kernel⟩

theorem witness_DomainColdCommands :
    (∀ d ∈ [6, 21, 36, 44, 60, 61, 62], CwReach wHost .mgmt (domReg d 0)) ∧
    ((wHost.port 2).st ≠ .disabled ∧ ((wPort 2 (Port.fresh .disabled)).port 2).st = .disabled) ∧
    (sliceIdle (wHost.slice 1) = true ∧ (wHost.slice 1).dir = [] ∧ (wHost.slice 1).disabled = false ∧ (wHost.slice 1).disabling = false ∧
      sliceIdle ((wS1 { sliceD 0 with disabled := true }).slice 1) = true) ∧
    (halfIdle wHost 36 = true ∧ (wHost.cluster 0).tasks = [] ∧ (wHost.cluster 0).disabling = false ∧ clusterStill wHost 0 = true ∧
      (wHost.cluster 0).tags = [] ∧ wHost.cores = [] ∧ inksStill wHost = true ∧ wHost.cx.run = none ∧ wHost.inks = [] ∧
      wHost.tel.dump = none ∧ wHost.tel.blot.drain = none ∧ emberReady wHost 62 false = true) := by
  refine ⟨?_, by decide +kernel, by decide +kernel, by decide +kernel⟩
  simp only [List.mem_cons, List.not_mem_nil, or_false, forall_eq_or_imp, forall_eq]
  exact ⟨reach_of (by decide +kernel), reach_of (by decide +kernel), reach_of (by decide +kernel), reach_of (by decide +kernel),
    reach_of (by decide +kernel), reach_of (by decide +kernel), reach_of (by decide +kernel)⟩

/-- Domain d moves, under a command or none, and nothing wants it. -/
def wMoving (d : Nat) (to_ : DomSt) (c : Option DomSt) (again : Bool) : Bool :=
  let s := wDom d { Domain.lit with moving := some to_, commanded := c, again := again }
  s.domPresent d && decide ((s.dom d).moving = some to_) && decide ((s.dom d).commanded = c) && (s.dom d).pend.isNone &&
    !wanted s d && (halfOf d).all s.domLit
def wCold (d : Nat) : State := { wDom d { Domain.lit with st := .cold, moving := some .lit, from_ := .cold } with
  reg := { wHost.reg with file := [(inkReg 0 4, 0x77)] } }

theorem witness_DomainMoves :
    (let s := wHost.wr (domReg 25 8) 5
     s.boot.step = 8 ∧ s.domLit 25 = true ∧ s.fld (domReg 25 8) 0 16 ≠ 0 ∧ domStill s 25 = true ∧ wanted s 25 = false ∧ emberReady s 25 true = true) ∧
    (wHost.wr (domReg 25 8) 0).fld (domReg 25 8) 0 16 = 0 ∧
    (∀ d ∈ [6, 25, 36, 44, 60, 61, 62], wMoving d .ember none false = true ∧ wMoving d .ember (some .ember) false = true ∧
      wMoving d .cold (some .cold) false = true) ∧ wMoving 44 .ember none true = true := by decide +kernel

theorem witness_DomainWakes :
    (let s := wDom 25 { Domain.lit with st := .ember }
     (s.dom 25).st = .ember ∧ (s.dom 25).moving = none ∧ (halfOf 25).all s.domLit = true) ∧
    (∀ d ∈ [6, 25, 37, 44, 60, 61, 62], let s := wDom d { Domain.lit with st := .ember, moving := some .lit, from_ := .ember }
     wakeReady s d = true ∧ (s.dom d).from_ = .ember ∧ (s.dom d).commanded = none ∧ (s.dom d).pend = none ∧ s.reg.stalled = [] ∧
      sliceIdle (s.slice 5) = true ∧ (s.slice 5).ret = [] ∧ s.cores = [] ∧ s.tel.due = false ∧ ∀ p ∈ halfPcs 37, (s.pc p).scrubDue = false) ∧
    (∀ d ∈ [6, 60, 61, 62], wakeReady (wCold d) d = true ∧ ((wCold d).dom d).from_ = .cold ∧ ((wCold d).dom d).commanded = none ∧
      ((wCold d).dom d).pend = none ∧ (wCold d).reg.stalled = [] ∧ swf regReset (wCold d).reg.postBoot = true ∧ (wCold d).tel.due = false) := by
  decide +kernel

theorem witness_Damper :
    wHost.boot.released = true ∧ { wHost with boot := { wHost.boot with released := false } }.boot.released = false ∧
    wHost.domLit 25 = true ∧ (consumer wHost 25).2 ≠ 0 := by decide +kernel

theorem witness_VoltageTemperatureAge :
    (avsLive wHost = true ∧ avsLive { wHost with boot := { wHost.boot with step := 4 } } = false) ∧
    (wHost.damper.avsHold = false ∧ (wHost.wr (pwrReg 0x8100) 0).bit (pwrReg 0x8100) 0 = false ∧ wHost.damper.raise = 0 ∧ 0 < wHost.damper.target) ∧
    (∀ k < 4, (wHost.stackSt k).temp ≤ 100) ∧
    ([90, 101].length < 24 ∧ ∀ y ∈ ([90, 101] : List Int), y ≤ 101) ∧
    (wHost.stackPresent 1 = true ∧ wHost.domLit 38 = true ∧ (86 : Int) ≤ (wHost.fld (hbmReg 1 8) 0 8 : Int) ∧
      (101 : Int) ∈ { wHost.damper with temps := [101] }.temps ∧ (wHost.fld (hbmReg 1 8) 0 8 : Int) < 107) ∧
    (wHost.domLit 25 = true ∧ wHost.fld (pwrReg 0x8100) 16 12 = 1126) := by decide +kernel

/-! ## Reset, boot, lifecycle, fuses -/

def wBooting : State := { wHost.wr (portReg 2 0) 1 with boot := { wHost.boot with step := 7, released := false } }
theorem witness_Resets :
    (State.reset.boot.crashBusy = none ∧ State.reset.boot.fuseBusy = none ∧ State.reset.nv = Nv.blank ∧ State.reset.phys = Phys.good ∧ State.reset.pins.warmResetN = true ∧
      State.reset.pins.brakeN = true ∧ State.reset.boot.inReset = false ∧ warmAccepted State.reset = true ∧ State.reset.bit (bootReg 0x10) 0 = false) ∧
    (waitedPorts ((wBooting.wr (portReg 2 0) 0x31).wr (bootReg 0x10) 0xFF0000) = [2] ∧
      ((({ wBooting with ports := [] }.wr (portReg 2 0) 0x31).wr (bootReg 0x10) 0xFF0000).port 2).reached = false) ∧
    ((([.io] : List Rail).filter fun r => r != .core) ≠ [] ∧ wBooting.boot.fatal = false ∧ wFatal.boot.fatal = true) ∧
    warmAccepted wBooting = false ∧ wBooting.boot.step = 7 ∧ wBooting.boot.released = false ∧ wBooting.boot.failed = false := by decide +kernel

theorem witness_Clocks :
    (State.reset.tb.locked = true ∧ { State.reset.tb with locked := false }.locked = false ∧ State.reset.phys.refclk.getD 1 false = true ∧
      State.reset.stackPresent 1 = true ∧ [true, false].getD 1 false = false) ∧
    ((∀ i, (State.reset.slice i).inq = []) ∧ { State.reset with tb := ⟨998, true⟩ }.tb.locked = true ∧ ((998 : DWord) + 1).toNat % 1000 ≠ 0 ∧
      State.reset.boot.inReset = false ∧ (inColdReset State.reset).boot.inReset = true ∧ (998 : DWord).toNat < 1000) ∧
    (∀ i : Config.TapInstr, i = .idcode ∨ i = .bypass → { State.reset with tap := { Tap.reset with st := .capDr, instr := i } }.tapInstr = i) ∧
    boundaryScan { State.reset with tap := { Tap.reset with st := .ex1Dr, instr := .sample } } = true := by
  refine ⟨by decide, ⟨fun _ => rfl, by decide⟩, fun i h => ?_, by decide⟩
  rcases h with rfl | rfl <;> decide +kernel

def wKeyed : State := { State.reset with nv := { State.reset.nv with fuses := { FuseArray.blank with key := ⟨some 5, true⟩ } } }
theorem witness_Lifecycle :
    (CwReach State.reset .mgmt (bootReg 0x30) ∧ passes .mgmt (bootReg 0x30) = true ∧ masterSecure .mgmt = true ∧
      lcAllowed State.reset 3 = false ∧ State.reset.pins.resetN = true ∧ State.reset.nv.fuses.criticalBad = false) ∧
    (let s := State.reset.setFld (bootReg 0) 8 2 1
     CwReach s .mgmt (bootReg 0x30) ∧ lcAllowed s 3 = true ∧ s.phys = Phys.good ∧ s.pins.resetN = true ∧ s.boot.fuseBusy = none) ∧
    (CwReach State.reset .mgmt (bootReg 0x34) ∧ CwReach wKeyed .mgmt (bootReg 0x34) ∧ State.reset.boot.fuseBusy = none ∧
      State.reset.lifecycle = 0 ∧ State.reset.nv.fuses.keyHash = none ∧ wKeyed.nv.fuses.keyHash ≠ none ∧ State.reset.phys.vppFuse = true) ∧
    (CwReach State.reset .mgmt (evtReg 0x30) ∧ State.reset.boot.crashBusy = none ∧ State.reset.fld (bootReg 0x20) 0 32 = 0 ∧
      State.reset.nv.flash.crash = []) ∧
    (let s := State.reset.wr (bootReg 0x20) 0x2000
     CwReach s .mgmt (evtReg 0x30) ∧ 1024 ≤ s.fld (bootReg 0x20) 0 32) ∧
    ∀ b : Bool, let s := State.reset.wr (bootReg 0x20) 2048
      let s := { s with boot := { s.boot with crashBusy := some ⟨0, [1, 2]⟩, crashNext := b } }
      CwReach s .mgmt (evtReg 0x30) ∧ s.boot.crashBusy ≠ none ∧ 2048 ≤ s.fld (bootReg 0x20) 0 32 ∧ s.nv.flash.crash = [] ∧
        s.fld (bootReg 0x1C) 0 32 = 0 :=
  ⟨⟨reach_of (by decide), by decide⟩, ⟨reach_of (by decide), by decide⟩, ⟨reach_of (by decide), reach_of (by decide), by decide⟩,
    ⟨reach_of (by decide), by decide⟩, ⟨reach_of (by decide), by decide⟩, fun b => ⟨reach_of (by cases b <;> decide), by cases b <;> decide⟩⟩

/-! ## The machine as a whole -/

theorem witness_step : { State.reset with pending := [Instr.timebaseTick] }.pending = [Instr.timebaseTick] ∧ State.reset.pending = [] ∧
    Instr.timebaseTick.wellFormed = true ∧ (Instr.portQuiesced 16).wellFormed = false := ⟨rfl, rfl, by decide, by decide⟩
theorem witness_FusesOnlyMoveForward : FuseStep State.reset ∧
    ∃ t, step { State.reset with pending := [.resetNRise, .timebaseTick] } = .next t ∧ t.pending = [.timebaseTick] :=
  ⟨fun h => absurd h (by decide), _, rfl, rfl⟩
theorem witness_scribe_words : scribeEncode (.lui 5 6 0x200) = some 0x24C00200 ∧ scribeDecode 5 0x24C00200 = some (.lui 5 6 0x200) ∧
    ((0xFFFFFFFF : Word).extractLsb' 26 6).toNat = 0x3F ∧
    isScribe (.lui 5 6 0x200) = true ∧ isScribe .timebaseTick = false := by decide

/-! ## A few results of the spec's examples and of single steps -/

/-- Reset memory and every store are in canonical form. -/
theorem test_reset_stores : swf hbmLineD State.reset.hbm = true ∧ swf regReset State.reset.reg.file = true ∧ swf zeroD State.reset.acc = true :=
  ⟨rfl, rfl, rfl⟩

end Sys2Proof.Tests
end

section
/-! PROOF. Entering the exception handler and returning from it (R316, R317, R319, R351). -/
namespace Sys2Proof.Machine
open Config

variable {s u t : State} {k : Nat}

/-! ## The fetch and the issue of an instruction that raises a cause -/

/-- From s to u the instruction of core k was at most fetched and issued (R292, R464): of the core only its nib instruction cache
may differ. -/
structure OnlyFetched (s u : State) (k : Nat) : Prop where
  core : ∃ l, u.core k = { s.core k with inib := l }
  ran : Ran s u k
  off : NotFollowed s k → u = { s with cores := u.cores, acc := u.acc }

theorem onlyFetched_refl (s : State) (k : Nat) : OnlyFetched s s k :=
  ⟨⟨(s.core k).inib, rfl⟩, (BlotOnly.refl s).ran k, fun _ => rfl⟩

theorem onlyFetched_fetchLine (s : State) (k : Nat) : OnlyFetched s (fetchLine s k) k := by
  obtain ⟨hc, hr, ho, -⟩ := fetchLine_spec s k
  exact ⟨hc, hr, ho⟩

theorem OnlyFetched.paceCore (h : OnlyFetched s u k) : OnlyFetched s (u.paceCore k) k :=
  ⟨h.core, h.ran.trans ((ran_pace u k _).trans (ran_pace _ k _)), fun hn => coresOnly_trans (h.off hn) rfl⟩

/-- Entering the handler after the fetch is entering it from the state before. -/
theorem Enters.after_fetch {code reason : Nat} {addr : Option PA} {epc : PA} (hf : OnlyFetched s u k)
    (h : Enters u t k code reason addr epc) : Enters s t k code reason addr epc := by
  obtain ⟨⟨l, hl⟩, hr, ho⟩ := hf
  have hn : NotFollowed s k → NotFollowed u k := fun h => by rw [ho h]; exact h
  refine ⟨?_, h.epc, h.cause, h.badaddr, ?_, h.resv, ?_, ?_, fun j hj => (h.cores j hj).trans (hr.cores j hj), ?_⟩
  · simpa [hl] using h.pc
  · simpa [hl] using h.levels
  · simpa [hl] using h.regs
  · simpa [hl] using h.memory
  · refine ⟨?_, fun o a => (h.rest.regs o a).trans (hr.regs o a),
      fun d a b => (h.rest.domains d a b).trans (hr.domains d a b), fun hs => ?_⟩
    · have e := h.rest.rest
      rw [hr.rest] at e
      exact e
    · have e := h.rest.off (hn hs)
      rw [ho hs] at e
      exact e

/-- Where nothing else differs, nothing but what the blotter does differs. -/
theorem ButFetch.of_eq (h : t = u) : ButFetch s t u k := by
  subst h; exact ⟨rfl, fun _ _ => rfl, fun _ _ _ => rfl, fun _ => rfl⟩

/-! ## Entering the handler (steps 2 and 5 of R317) -/

/-- Step 2 of R317: the reservation is lost, and the cause is noted and counted. -/
def causeTaken (s : State) (k : Nat) (c : Cause) : State :=
  ((dropResv s k).modCore k fun x => { x with lastCause := BitVec.ofNat 8 c.code }).count (36 + k / 8) 11 1

theorem causeTaken_core_same (s : State) (k : Nat) (c : Cause) :
    (causeTaken s k c).core k = { s.core k with resv := none, lastCause := BitVec.ofNat 8 c.code } := by
  have hr : (dropResv s k).core k = { s.core k with resv := none } := s.core_modCore_same k fun x => { x with resv := none }
  rw [causeTaken, State.core_count, State.core_modCore_same, hr]

theorem causeTaken_core_other (c : Cause) {j : Nat} (h : j ≠ k) : (causeTaken s k c).core j = s.core j := by
  have hr : (dropResv s k).core j = s.core j := s.core_modCore_other (fun x => { x with resv := none }) h
  rw [causeTaken, State.core_count, State.core_modCore_other _ _ h, hr]

theorem causeTaken_resv (s : State) (k : Nat) (c : Cause) : sget zeroD (causeTaken s k c).resv k = 0 := by
  rw [causeTaken, State.count_resv]
  exact sget_sset_same zeroD s.resv k 0

theorem causeTaken_frame (s : State) (k : Nat) (c : Cause) :
    causeTaken s k c =
      { s with cores := (causeTaken s k c).cores, acc := (causeTaken s k c).acc, resv := (causeTaken s k c).resv } := by
  generalize hv : (dropResv s k).modCore k (fun x => { x with lastCause := BitVec.ofNat 8 c.code }) = v
  have hs : v = { s with cores := v.cores, resv := v.resv } := by rw [← hv]; rfl
  have ht : causeTaken s k c = v.count (36 + k / 8) 11 1 := by rw [causeTaken, hv]
  have h := coresOnly_count v (36 + k / 8) 11 1
  rw [ht, State.count_resv]
  rw [hs] at h ⊢
  exact h

/-- Step 5 of R317: what the core finds in its registers in the handler, with b in st.BADADDR. -/
def Core.inHandler (x : Core) (c : Cause) (epc : PA) (b : DWord) : Core :=
  { x with st := .running, epc := epc.setWidth 64, cause := BitVec.ofNat 64 (c.code + 256 * c.reason), badaddr := b,
           ppl := x.pl, pl := true, hold := true, pc := x.tvec.setWidth 52 }

/-- A core that has a handler takes the cause and enters it; a cause without an address leaves a free value in st.BADADDR. -/
theorem enterHandler_eq (u : State) (k : Nat) (c : Cause) (epc : PA) (st : Status) (res : DWord) (hv : (u.core k).tvec ≠ 0) :
    ∃ n b, (∀ a, c.addr = some a → b = a.setWidth 64) ∧
      enterHandler u k c epc st res = { causeTaken u k c with freeCtr := n }.modCore k fun x => x.inHandler c epc b := by
  have ht : ((causeTaken u k c).core k).tvec ≠ 0 := by rw [causeTaken_core_same]; exact hv
  obtain ⟨code, reason, addr⟩ := c
  cases addr with
  | some a => exact ⟨_, a.setWidth 64, fun _ e => by cases e; rfl, if_neg ht⟩
  | none => exact ⟨_, (causeTaken u k _).free.2.setWidth 64, (nomatch ·, ·), if_neg ht⟩

/-- A core that has a handler enters it (R317). -/
theorem enterHandler_enters (u : State) (k : Nat) (c : Cause) (epc : PA) (st : Status) (res : DWord) (hv : (u.core k).tvec ≠ 0) :
    Enters u (enterHandler u k c epc st res) k c.code c.reason c.addr epc := by
  obtain ⟨n, b, hb, he⟩ := enterHandler_eq u k c epc st res hv
  have hf := causeTaken_frame u k c
  have ho := fun j (h : j ≠ k) => causeTaken_core_other (s := u) c h
  have hr := causeTaken_resv u k c
  have hk : (enterHandler u k c epc st res).core k = ((causeTaken u k c).core k).inHandler c epc b := by
    rw [he]; exact State.core_modCore_same ..
  rw [causeTaken_core_same] at hk
  have hrest : enterHandler u k c epc st res = { u with
      cores := (enterHandler u k c epc st res).cores, acc := (enterHandler u k c epc st res).acc,
      resv := (enterHandler u k c epc st res).resv, freeCtr := (enterHandler u k c epc st res).freeCtr } := by
    rw [he, hf]; rfl
  refine ⟨by rw [hk]; rfl, by rw [hk]; rfl, by rw [hk]; rfl, fun a ha => by rw [hk]; exact hb a ha, ?_, ⟨by rw [hk]; rfl, ?_⟩,
    ?_, ?_, fun j hj => ?_, .of_eq hrest⟩
  · rw [hk]; exact ⟨rfl, rfl, rfl⟩
  · rw [he]; exact hr
  · rw [hk]; exact ⟨rfl, rfl, rfl⟩
  · rw [hk]; exact ⟨rfl, rfl⟩
  · rw [he]; exact (State.core_modCore_other _ _ hj).trans (ho j hj)

theorem enterHandler_doom (u : State) (k : Nat) (c : Cause) (epc : PA) (st : Status) (res : DWord) (hv : (u.core k).tvec ≠ 0) :
    ((enterHandler u k c epc st res).core k).doom = (u.core k).doom := by
  obtain ⟨n, b, -, he⟩ := enterHandler_eq u k c epc st res hv
  have hc := congrArg Core.doom (causeTaken_core_same u k c)
  rw [he, State.core_modCore_same]
  exact hc

/-! ## Precise causes (R316, R317) -/

/-- Core k has a handler, does not hold, and no ABORT or DISABLED will end its task by force: a precise cause enters the handler. -/
structure Handles (s : State) (k : Nat) : Prop where
  runs : Runs s k
  notHeld : (s.core k).hold = false
  handler : (s.core k).tvec ≠ 0
  undoomed : (s.core k).doom = none

/-- Before a precise cause is taken, its instruction is issued and, but for FETCH, fetched (R464). -/
theorem onlyFetched_cause (s : State) (k : Nat) (c : Cause) :
    OnlyFetched s ((if c.code = 7 then s else fetchLine s k).paceCore k) k := by
  split
  · exact (onlyFetched_refl s k).paceCore
  · exact (onlyFetched_fetchLine s k).paceCore

/-- A precise cause enters the handler, and no forced ending comes between. -/
theorem raiseAt_enters (h : Handles s k) (c : Cause) (epc : PA) :
    Enters s (checkForced (raiseAt s k c epc) k) k c.code c.reason c.addr epc := by
  have hf := onlyFetched_cause s k c
  have hr : raiseAt s k c epc = enterHandler ((if c.code = 7 then s else fetchLine s k).paceCore k) k c epc .fault (faultResult c) := by
    obtain ⟨l, hl⟩ := hf.core
    simp only [raiseAt, hl, h.notHeld]
    rfl
  generalize (if c.code = 7 then s else fetchLine s k).paceCore k = u at hf hr
  obtain ⟨l, hl⟩ := hf.core
  have hv : (u.core k).tvec ≠ 0 := by rw [hl]; exact h.handler
  have hd : ((raiseAt s k c epc).core k).doom = none := by
    rw [hr, enterHandler_doom _ _ _ _ _ _ hv, hl]; exact h.undoomed
  have he : checkForced (raiseAt s k c epc) k = raiseAt s k c epc := by simp only [checkForced, hd]
  rw [he, hr]
  exact (enterHandler_enters u k c epc _ _ hv).after_fetch hf

/-- An instruction that raises a precise cause enters the handler at its own address (R351). -/
theorem onCore_cause_enters (h : Handles s k) (f : Core → Act) (c : Cause) (hf : f (s.core k) = .cause c) :
    ∃ t, onCore k s f = .next t ∧ Enters s t k c.code c.reason c.addr (s.core k).pc :=
  ⟨_, onCore_cause h.runs f c hf, raiseAt_enters h c _⟩

/-- A TRAP enters the handler with EPC past it (R316). -/
theorem onCore_trap_enters (h : Handles s k) (f : Core → Act) (c : Cause) (hf : f (s.core k) = .trap c) :
    ∃ t, onCore k s f = .next t ∧ Enters s t k c.code c.reason c.addr ((s.core k).pc + 4) :=
  ⟨_, by rw [onCore, onUnit, if_pos h.runs.core, instr_trap h.runs f c hf], raiseAt_enters h c _⟩

/-! ## The causes of loads and stores (R351: MISALIGNED, then WINDOW) -/

section Access
variable {x : Core} {d : Dest} {base : BitVec 5} {imm : BitVec 16} {n : Nat} {sext : Bool} {v : Core → Nat} {a : PA}

theorem loadOp_misaligned (ha : a = effAddr (x.gr base) imm) (hn : a.toNat % n ≠ 0) :
    loadOp s k d base imm n sext x = .cause (misaligned a) := by
  subst ha; exact if_pos hn

theorem storeOp_misaligned (ha : a = effAddr (x.gr base) imm) (hn : a.toNat % n ≠ 0) :
    storeOp s k base imm n v x = .cause (misaligned a) := by
  subst ha; exact if_pos hn

theorem loadOp_window (ha : a = effAddr (x.gr base) imm) (hn : a.toNat % n = 0) (hp : placeOf s x a = .mem)
    (hm : missing x .mem a 1 ≠ 0) : loadOp s k d base imm n sext x = .cause (windowCause a (missing x .mem a 1)) := by
  subst ha; simp only [loadOp, hp, hn, hm, ne_eq, not_true_eq_false, not_false_eq_true, if_true, if_false]

theorem storeOp_window (ha : a = effAddr (x.gr base) imm) (hn : a.toNat % n = 0) (hp : placeOf s x a = .mem)
    (hm : missing x .mem a 2 ≠ 0) : storeOp s k base imm n v x = .cause (windowCause a (missing x .mem a 2)) := by
  subst ha; simp only [storeOp, hp, hn, hm, ne_eq, not_true_eq_false, not_false_eq_true, if_true, if_false]

end Access

/-! ## The single instructions -/

theorem illegalWord_enters (h : Handles s k) {word : Word} (hw : scribeDecode k word = none) :
    ∃ t, exec (.illegalWord k word) s = .next t ∧ Enters s t k 1 0 none (s.core k).pc :=
  onCore_cause_enters h _ (illegal 0) (by simp only [hw, Option.isNone_none, if_true])

theorem instructionFetchFault_enters (h : Handles s k) {reason : BitVec 8} (hr : reason = 3 ∨ reason = 4) :
    ∃ t, exec (.instructionFetchFault k reason) s = .next t ∧
      Enters s t k 7 reason.toNat (some (s.core k).pc) (s.core k).pc :=
  onCore_cause_enters h _ (fetchFault (s.core k).pc reason.toNat) (if_pos hr)

theorem trap_enters (h : Handles s k) {code : BitVec 8} (hc : code ≠ 0) :
    ∃ t, exec (.trap k code) s = .next t ∧ Enters s t k 8 code.toNat none ((s.core k).pc + 4) :=
  onCore_trap_enters h _ ⟨8, code.toNat, none⟩ (if_neg hc)

theorem eret_enters (h : Handles s k) (hl : (s.core k).pl = false) :
    ∃ t, exec (.eret k) s = .next t ∧ Enters s t k 2 0 none (s.core k).pc :=
  onCore_cause_enters h _ privCause (if_pos hl)

theorem misaligned_enters (h : Handles s k) :
    ∀ op ∈ ([(.ldH, 2), (.ldW, 4), (.ldD, 8), (.ldHu, 2), (.ldWu, 4), (.stH, 2), (.stW, 4), (.stD, 8)] :
        List ((Nat → BitVec 5 → BitVec 5 → BitVec 16 → Instr) × Nat)),
      ∀ (r ra : BitVec 5) (imm : BitVec 16) (a : PA), a = effAddr ((s.core k).gr ra) imm → a.toNat % op.2 ≠ 0 →
        ∃ t, exec (op.1 k r ra imm) s = .next t ∧ Enters s t k 3 0 (some a) (s.core k).pc := by
  have enters := fun f a => onCore_cause_enters h f (misaligned a)
  simp only [List.forall_mem_cons, List.not_mem_nil, false_imp_iff, implies_true, and_true]
  refine ⟨?_, ?_, ?_, ?_, ?_, ?_, ?_, ?_⟩ <;> intro r ra imm a ha hn
  iterate 5 exact enters _ a (loadOp_misaligned ha hn)
  iterate 3 exact enters _ a (storeOp_misaligned ha hn)

theorem window_enters (h : Handles s k) :
    ∀ op ∈ ([(.ldB, 1, 1), (.ldBu, 1, 1), (.ldH, 2, 1), (.ldW, 4, 1), (.ldD, 8, 1), (.stB, 1, 2), (.stH, 2, 2), (.stW, 4, 2),
        (.stD, 8, 2)] : List ((Nat → BitVec 5 → BitVec 5 → BitVec 16 → Instr) × Nat × Nat)),
      ∀ (r ra : BitVec 5) (imm : BitVec 16) (a : PA), a = effAddr ((s.core k).gr ra) imm → a.toNat % op.2.1 = 0 →
        placeOf s (s.core k) a = .mem → missing (s.core k) .mem a op.2.2 ≠ 0 →
        ∃ t, exec (op.1 k r ra imm) s = .next t ∧
          Enters s t k 4 (missing (s.core k) .mem a op.2.2) (some a) (s.core k).pc := by
  have enters := fun f a m => onCore_cause_enters h f (windowCause a m)
  simp only [List.forall_mem_cons, List.not_mem_nil, false_imp_iff, implies_true, and_true]
  refine ⟨?_, ?_, ?_, ?_, ?_, ?_, ?_, ?_, ?_⟩ <;> intro r ra imm a ha hn hp hm
  iterate 5 exact enters _ a _ (loadOp_window ha hn hp hm)
  iterate 4 exact enters _ a _ (storeOp_window ha hn hp hm)

/-- ERET at supervisor level completes, and then goes to st.EPC with PL from PPL and HOLD clear (R319). -/
theorem eret_returns (h : Runs s k) (hl : (s.core k).pl = true) :
    ∃ t l, exec (.eret k) s = .next t ∧
      t.core k = { s.core k with pl := (s.core k).ppl, hold := false, pc := (s.core k).epc.setWidth 52, inib := l } ∧
      OthersKept s t k [0, 4] ∧ ButFetch s t { s with cores := t.cores, acc := t.acc } k := by
  obtain ⟨⟨l, hk⟩, hr, ho, -, hn⟩ := retireTo_spec s ((s.core k).pc + 4) h.counts h.core
  have he : exec (.eret k) s = .next ((retire s k).modCore k fun y =>
      { y with pl := (s.core k).ppl, hold := false, pc := (s.core k).epc.setWidth 52 }) :=
    onCore_go h _ (fun u => (retire u k).modCore k _) (if_neg (ne_false_of_eq_true hl))
  have hm := fun f => hr.trans (ran_modCore _ k f)
  refine ⟨_, l, he, ?_, .of_count (hm _).cores hn, (hm _).butFetch fun hf => coresOnly_trans (ho hf) rfl⟩
  rw [State.core_modCore_same, retire, hk]

end Sys2Proof.Machine

open Sys2Proof Sys2Proof.Machine

/-- Settles O13: each precise cause is the cause that the instruction's meaning names, and a precise cause of a core that has a
handler enters it; ERET completes and then returns. -/
theorem exceptionsEnterTheHandlerAndReturn : Obligations.ExceptionsEnterTheHandlerAndReturn := by
  refine ⟨fun s k runs notHeld handler undoomed => ?_, fun s k => eret_returns⟩
  have h : Handles s k := ⟨runs, notHeld, handler, undoomed⟩
  exact ⟨fun _ => illegalWord_enters h, fun _ => instructionFetchFault_enters h, fun _ => trap_enters h, misaligned_enters h,
    window_enters h, eret_enters h⟩
end

section
/-! PROOF. Instructions that write a core's registers alone (R336–R338, R345, R346): how they complete, and what they compute. -/
namespace Sys2Proof.Machine
open Config

variable {s : State} {k : Nat}

/-! ## Instructions that write one register -/

theorem Core.gr_setG_eq (x : Core) (rd : BitVec 5) (v : DWord) : (x.setG rd v).gr = gWith x rd v :=
  funext fun i => x.gr_setG rd i v
theorem Core.wide_setG_eq (x : Core) (rd : BitVec 5) (v : DWord) : (x.setG rd v).wide = x.wide :=
  funext fun i => x.wide_setG rd i v
theorem Core.wide_setWide_eq (x : Core) (wd : BitVec 4) (v : Wide) : (x.setWide wd v).wide = wWith x wd v :=
  funext fun i => x.wide_setWide wd i v
@[simp] theorem Core.pc_setG (x : Core) (rd : BitVec 5) (v : DWord) : (x.setG rd v).pc = x.pc := by
  unfold Core.setG; split <;> rfl

/-- Writing a general register and going on at `pc` completes. -/
theorem setG_completes (h : Runs s k) (rd : BitVec 5) (v : DWord) (pc : PA) :
    Completes s (retireTo (s.modCore k fun y => y.setG rd v) k pc) k pc (gWith (s.core k) rd v) (s.core k).wide := by
  rw [← Core.gr_setG_eq, ← (s.core k).wide_setG_eq rd v]
  exact retireTo_completes h _ _ pc rfl (State.core_modCore_same ..) (fun _ => State.core_modCore_other _ _) (sameButRegs_setG ..)

/-- An instruction that writes rd and goes on with the next one completes. -/
theorem onCore_setG (h : Runs s k) {f : Core → Act} {rd : BitVec 5} {v : DWord}
    (hf : f (s.core k) = reg k fun y => y.setG rd v) :
    ∃ t, onCore k s f = .next t ∧ Completes s t k ((s.core k).pc + 4) (gWith (s.core k) rd v) (s.core k).wide := by
  refine ⟨_, onCore_go h f _ hf, ?_⟩
  rw [retire, State.core_modCore_same, Core.pc_setG]
  exact setG_completes h rd v _

/-- An instruction that writes wd and goes on with the next one completes. -/
theorem onCore_setWide (h : Runs s k) {f : Core → Act} {wd : BitVec 4} {v : Wide}
    (hf : f (s.core k) = reg k fun y => y.setWide wd v) :
    ∃ t, onCore k s f = .next t ∧ Completes s t k ((s.core k).pc + 4) (s.core k).gr (wWith (s.core k) wd v) := by
  refine ⟨_, onCore_go h f _ hf, ?_⟩
  rw [retire, State.core_modCore_same, ← Core.wide_setWide_eq]
  exact retireTo_completes h _ _ _ rfl (State.core_modCore_same ..) (fun _ => State.core_modCore_other _ _) (sameButRegs_setWide ..)

/-- An instruction that writes rd and goes on elsewhere completes. -/
theorem onCore_link (h : Runs s k) {f : Core → Act} {rd : BitVec 5} {v : DWord} {pc : PA}
    (hf : f (s.core k) = .go fun s => retireTo (s.modCore k fun y => y.setG rd v) k pc) :
    ∃ t, onCore k s f = .next t ∧ Completes s t k pc (gWith (s.core k) rd v) (s.core k).wide :=
  ⟨_, onCore_go h f _ hf, setG_completes h rd v pc⟩

/-- An instruction that writes nothing and goes on elsewhere completes. -/
theorem onCore_goto (h : Runs s k) {f : Core → Act} {pc : PA} (hf : f (s.core k) = .go fun s => retireTo s k pc) :
    ∃ t, onCore k s f = .next t ∧ Completes s t k pc (s.core k).gr (s.core k).wide :=
  ⟨_, onCore_go h f _ hf, retireTo_completes h s _ pc rfl rfl (fun _ _ => rfl) (sameButRegs_refl _)⟩

/-- Instruction i of core k writes v, a value of the core's registers, to rd; nothing else of the machine differs. -/
def Writes (k : Nat) (i : Instr) (rd : BitVec 5) (v : Core → DWord) : Prop :=
  ∀ s : State, Runs s k → ∃ t, exec i s = .next t ∧
    Completes s t k ((s.core k).pc + 4) (gWith (s.core k) rd (v (s.core k))) (s.core k).wide

theorem Writes.of_reg {i : Instr} {rd : BitVec 5} {u v : Core → DWord} (value : ∀ x, u x = v x)
    (meaning : ∀ s, exec i s = onCore k s fun x => reg k fun y => y.setG rd (u x) := by intro _; rfl) : Writes k i rd v := by
  obtain rfl : u = v := funext value
  intro s h
  rw [meaning]
  exact onCore_setG h rfl

/-! ## The operators as arithmetic -/

section Operators
variable {w v : Nat} (a b : BitVec w) (n : Nat)

theorem sub_eq_ofInt : a - b = BitVec.ofInt w (a.toInt - b.toInt) := by
  rw [Int.sub_eq_add_neg, BitVec.ofInt_add, BitVec.ofInt_neg, BitVec.ofInt_toInt, BitVec.ofInt_toInt, BitVec.sub_eq_add_neg]

theorem mul_eq_ofNat : a * b = BitVec.ofNat w (a.toNat * b.toNat) := by
  simp only [BitVec.ofNat_mul, BitVec.ofNat_toNat, BitVec.setWidth_eq]

theorem add_signExtend (i : BitVec v) : a + i.signExtend w = BitVec.ofInt w (a.toInt + i.toInt) := by
  rw [BitVec.ofInt_add, BitVec.ofInt_toInt]; rfl

/-! The logical operations with a zero-extended operand; where v is w, the operand itself is meant. -/

theorem and_setWidth (i : BitVec v) : a &&& i.setWidth w = BitVec.ofNat w (a.toNat &&& i.toNat) := by
  simp only [BitVec.ofNat_and, BitVec.ofNat_toNat, BitVec.setWidth_eq]

theorem or_setWidth (i : BitVec v) : a ||| i.setWidth w = BitVec.ofNat w (a.toNat ||| i.toNat) := by
  simp only [BitVec.ofNat_or, BitVec.ofNat_toNat, BitVec.setWidth_eq]

theorem xor_setWidth (i : BitVec v) : a ^^^ i.setWidth w = BitVec.ofNat w (a.toNat ^^^ i.toNat) := by
  simp only [BitVec.ofNat_xor, BitVec.ofNat_toNat, BitVec.setWidth_eq]

theorem shiftLeft_eq_ofNat : a <<< n = BitVec.ofNat w (a.toNat * 2 ^ n) := by
  apply BitVec.eq_of_toNat_eq
  rw [BitVec.toNat_shiftLeft, BitVec.toNat_ofNat, Nat.shiftLeft_eq]

theorem ushiftRight_eq_ofNat : a >>> n = BitVec.ofNat w (a.toNat / 2 ^ n) := by
  apply BitVec.eq_of_toNat_eq
  rw [BitVec.toNat_ushiftRight, BitVec.toNat_ofNat, Nat.shiftRight_eq_div_pow,
    Nat.mod_eq_of_lt (Nat.lt_of_le_of_lt (Nat.div_le_self ..) a.isLt)]

theorem sshiftRight_eq_ofInt : a.sshiftRight n = BitVec.ofInt w (a.toInt / 2 ^ n) := by
  rw [BitVec.sshiftRight, Int.shiftRight_eq_div_pow]; norm_cast

theorem twoPow_eq_ofInt : BitVec.twoPow w n = BitVec.ofInt w (2 ^ n) := by
  rw [show (2 ^ n : Int) = (2 ^ n : Nat) by norm_cast, BitVec.ofInt_natCast]
  apply BitVec.eq_of_toNat_eq
  rw [BitVec.toNat_twoPow, BitVec.toNat_ofNat]

theorem signExtend_shiftLeft (i : BitVec v) : i.signExtend w <<< n = BitVec.ofInt w (i.toInt * 2 ^ n) := by
  rw [BitVec.shiftLeft_eq_mul_twoPow, BitVec.ofInt_mul, twoPow_eq_ofInt]; rfl

theorem add_signExtend_shiftLeft (i : BitVec v) : a + i.signExtend w <<< n = BitVec.ofInt w (a.toInt + i.toInt * 2 ^ n) := by
  rw [signExtend_shiftLeft, BitVec.ofInt_add, BitVec.ofInt_toInt]

theorem ite_slt (x y : BitVec w) : (if a.slt b then x else y) = if a.toInt < b.toInt then x else y := by
  simp only [BitVec.slt_iff_toInt_lt]

theorem ite_ult (x y : BitVec w) : (if a.ult b then x else y) = if a.toNat < b.toNat then x else y := by
  simp only [BitVec.ult_iff_toNat_lt]

theorem beq_eq_decide_toNat : (a == b) = decide (a.toNat = b.toNat) := by
  simp only [beq_eq_decide, BitVec.toNat_inj]

theorem bne_eq_decide_toNat : (a != b) = decide (a.toNat ≠ b.toNat) := by
  rw [bne, beq_eq_decide_toNat, decide_not]

theorem not_slt_eq_decide : (!a.slt b) = decide (b.toInt ≤ a.toInt) := by
  simp only [BitVec.slt_eq_decide, ← decide_not, Int.not_lt]

theorem not_ult_eq_decide : (!a.ult b) = decide (b.toNat ≤ a.toNat) := by
  simp only [BitVec.ult_eq_decide, ← decide_not, Nat.not_lt]

theorem ite_slt_eq_min : (if a.slt b then a else b) = BitVec.ofInt w (min a.toInt b.toInt) := by
  rw [ite_slt, min_def_lt, apply_ite (BitVec.ofInt w), BitVec.ofInt_toInt, BitVec.ofInt_toInt]

theorem ite_slt_eq_max : (if a.slt b then b else a) = BitVec.ofInt w (max a.toInt b.toInt) := by
  rw [ite_slt, max_def_lt, apply_ite (BitVec.ofInt w), BitVec.ofInt_toInt, BitVec.ofInt_toInt]

theorem ite_ult_eq_min : (if a.ult b then a else b) = BitVec.ofNat w (min a.toNat b.toNat) := by
  rw [ite_ult, min_def_lt]
  simp only [apply_ite (BitVec.ofNat w), BitVec.ofNat_toNat, BitVec.setWidth_eq]

theorem ite_ult_eq_max : (if a.ult b then b else a) = BitVec.ofNat w (max a.toNat b.toNat) := by
  rw [ite_ult, max_def_lt]
  simp only [apply_ite (BitVec.ofNat w), BitVec.ofNat_toNat, BitVec.setWidth_eq]

end Operators

section Division
variable (a b : DWord)

/-- The quotient of −2^63 by −1, which has no value of its own, is the dividend (R337). -/
theorem divS_cases : divS a b = if b = 0 then BitVec.ofInt 64 (-1)
    else if a = BitVec.ofInt 64 (-2 ^ 63) ∧ b = BitVec.ofInt 64 (-1) then a else BitVec.ofInt 64 (a.toInt.tdiv b.toInt) := by
  unfold divS
  split
  · rfl
  · split
    · next h => obtain ⟨rfl, rfl⟩ := h; decide
    · rfl

/-- The remainder of −2^63 by −1 is zero (R337). -/
theorem remS_cases : remS a b = if b = 0 then a
    else if a = BitVec.ofInt 64 (-2 ^ 63) ∧ b = BitVec.ofInt 64 (-1) then 0 else BitVec.ofInt 64 (a.toInt.tmod b.toInt) := by
  unfold remS
  split
  · rfl
  · split
    · next h => obtain ⟨rfl, rfl⟩ := h; decide
    · rfl
end Division

/-! ## Integer operations (R336, R337) -/

/-- Instruction i is the word of opcode 0x01 with function code fn, and writes g of its operands to rd. -/
def IntegerRule (op : (Nat → BitVec 5 → BitVec 5 → BitVec 5 → Instr) × BitVec 6 × (DWord → DWord → DWord)) : Prop :=
  ∀ (k : Nat) (rd ra rb : BitVec 5), scribeDecode k (fmtR 0x01 rd ra rb 0 op.2.1) = some (op.1 k rd ra rb) ∧
    Writes k (op.1 k rd ra rb) rd fun x => op.2.2 (x.gr ra) (x.gr rb)

theorem integerRule {i : Nat → BitVec 5 → BitVec 5 → BitVec 5 → Instr} {fn : BitVec 6} {f g : DWord → DWord → DWord}
    (value : ∀ a b, f a b = g a b)
    (word : ∀ k rd ra rb, decInt k rd ra rb 0 fn = some (i k rd ra rb) := by intros; rfl)
    (meaning : ∀ k rd ra rb s, exec (i k rd ra rb) s = onCore k s (aluRR f rd ra rb k) := by intros; rfl) :
    IntegerRule (i, fn, g) := fun k rd ra rb =>
  ⟨(scribeDecode_int ..).trans (word ..), .of_reg (fun _ => value ..) (meaning k rd ra rb)⟩

theorem decInt_eq_none {k : Nat} {rd ra rb rc : BitVec 5} {fn : BitVec 6}
    (h : rc ≠ 0 ∨ fn ∉ ([0, 1, 2, 3, 4, 5, 6, 7, 8, 9, 10, 11, 12, 13, 16, 17, 18, 20, 21, 22, 23] : List (BitVec 6))) :
    decInt k rd ra rb rc fn = none := by
  unfold decInt
  split
  · rfl
  · next hc =>
    have hf := h.resolve_left hc
    split
    case h_22 => rfl
    all_goals exact absurd (by decide) hf

/-! ## Immediate operations (R338) -/

/-- Instruction i is the word of opcode oc, and writes g of its operand and its immediate to rd. -/
def ImmediateRule (op : (Nat → BitVec 5 → BitVec 5 → BitVec 16 → Instr) × BitVec 6 × (DWord → BitVec 16 → DWord)) : Prop :=
  ∀ (k : Nat) (rd ra : BitVec 5) (imm : BitVec 16), scribeDecode k (fmtI op.2.1 rd ra imm) = some (op.1 k rd ra imm) ∧
    Writes k (op.1 k rd ra imm) rd fun x => op.2.2 (x.gr ra) imm

/-- The immediate reaches the operation f extended by e. -/
theorem immediateRule {i : Nat → BitVec 5 → BitVec 5 → BitVec 16 → Instr} {oc : BitVec 6} {f : DWord → DWord → DWord}
    {e : BitVec 16 → DWord} {g : DWord → BitVec 16 → DWord} (value : ∀ a imm, f a (e imm) = g a imm)
    (word : ∀ k rd ra imm, scribeDecode k (fmtI oc rd ra imm) = some (i k rd ra imm) := by
      intros; simp only [scribeDecode, fmtI_26, fmtI_21, fmtI_16, fmtI_0]; rfl)
    (meaning : ∀ k rd ra imm s, exec (i k rd ra imm) s = onCore k s (aluRI f rd ra (e imm) k) := by intros; rfl) :
    ImmediateRule (i, oc, g) := fun k rd ra imm => ⟨word .., .of_reg (fun _ => value ..) (meaning k rd ra imm)⟩

theorem slt_signExtend (a : DWord) (imm : BitVec 16) : b2d (a.slt (imm.signExtend 64)) = if a.toInt < imm.toInt then 1 else 0 := by
  rw [b2d, ite_slt, BitVec.toInt_signExtend_of_le (by decide)]

/-- Instruction i is the word of opcode 0x08 with this kind, and writes its operand, shifted as g says, to rd. -/
def ShiftRule (op : (Nat → BitVec 5 → BitVec 5 → BitVec 6 → Instr) × BitVec 2 × (DWord → Nat → DWord)) : Prop :=
  ∀ (k : Nat) (rd ra : BitVec 5) (sh : BitVec 6), scribeDecode k (fmtI 8 rd ra (0#8 ++ op.2.1 ++ sh)) = some (op.1 k rd ra sh) ∧
    Writes k (op.1 k rd ra sh) rd fun x => op.2.2 (x.gr ra) sh.toNat

theorem scribeDecode_shift_fields (k : Nat) (rd ra : BitVec 5) (hi : BitVec 8) (kind : BitVec 2) (sh : BitVec 6) :
    scribeDecode k (fmtI 8 rd ra (hi ++ kind ++ sh)) = decShift k rd ra hi kind sh := by
  have h8 : (hi ++ kind ++ sh).extractLsb' 8 8 = hi := by
    rw [extract_hi _ _ _ _ (by decide), extract_hi _ _ _ _ (by decide)]; exact extract_all hi
  have h6 : (hi ++ kind ++ sh).extractLsb' 6 2 = kind := by
    rw [extract_hi _ _ _ _ (by decide), extract_lo _ _ _ _ (by decide)]; exact extract_all kind
  have h0 : (hi ++ kind ++ sh).extractLsb' 0 6 = sh := by
    rw [extract_lo _ _ _ _ (by decide)]; exact extract_all sh
  rw [scribeDecode_shift, h8, h6, h0]

theorem shiftRule {i : Nat → BitVec 5 → BitVec 5 → BitVec 6 → Instr} {kind : BitVec 2} {f g : DWord → Nat → DWord}
    (value : ∀ a n, f a n = g a n)
    (word : ∀ k rd ra sh, decShift k rd ra 0 kind sh = some (i k rd ra sh) := by intros; rfl)
    (meaning : ∀ k rd ra sh s, exec (i k rd ra sh) s = onCore k s (aluRI (fun a b => f a b.toNat) rd ra (sh.setWidth 64) k) := by
      intros; rfl) :
    ShiftRule (i, kind, g) := fun k rd ra sh =>
  ⟨(scribeDecode_shift_fields ..).trans (word ..), .of_reg (fun x =>
    (congrArg (f (x.gr ra)) (BitVec.toNat_setWidth_of_le (by decide))).trans (value ..)) (meaning k rd ra sh)⟩

theorem decShift_eq_none {k : Nat} {rd ra : BitVec 5} {hi : BitVec 8} {kind : BitVec 2} {sh : BitVec 6} (h : hi ≠ 0 ∨ kind = 3) :
    decShift k rd ra hi kind sh = none := by
  obtain h | rfl := h
  · exact if_pos h
  · exact ite_self none

theorem lui_writes (k : Nat) (rd : BitVec 5) (imm : BitVec 21) :
    Writes k (.lui k rd imm) rd fun _ => BitVec.ofInt 64 (imm.toInt * 2 ^ 11) :=
  .of_reg fun _ => signExtend_shiftLeft 11 imm

theorem addhi_writes (k : Nat) (rd : BitVec 5) (imm : BitVec 21) :
    Writes k (.addhi k rd imm) rd fun x => BitVec.ofInt 64 ((x.gr rd).toInt + imm.toInt * 2 ^ 32) :=
  .of_reg fun x => add_signExtend_shiftLeft (x.gr rd) 32 imm

/-! ## Branches and jumps (R345, R346) -/

theorem target_signExtend {n : Nat} (pc : PA) (off : BitVec n) :
    target pc (off.signExtend 52) = pc + BitVec.ofInt 52 (off.toInt * 4) :=
  congrArg (pc + ·) (signExtend_shiftLeft 2 off)

theorem setWidth_ofInt {m n : Nat} (h : m ≤ n) (z : Int) : (BitVec.ofInt n z).setWidth m = BitVec.ofInt m z := by
  rw [← BitVec.signExtend_eq_setWidth_of_le _ h]
  apply BitVec.eq_of_toInt_eq
  rw [BitVec.signExtend]
  simp only [BitVec.toInt_ofInt]
  exact Int.bmod_bmod_of_dvd (mod_cast Nat.pow_dvd_pow 2 h)

theorem effAddr_eq_ofInt (base : DWord) (imm : BitVec 16) : effAddr base imm = BitVec.ofInt 52 (base.toInt + imm.toInt) := by
  rw [effAddr, add_signExtend, setWidth_ofInt (by decide)]

/-- Instruction i is the branch word with condition code cc, and goes to its target where c holds of its operands. -/
def BranchRule (op : (Nat → BitVec 5 → BitVec 5 → BitVec 13 → Instr) × BitVec 3 × (DWord → DWord → Bool)) : Prop :=
  ∀ (k : Nat) (ra rb : BitVec 5) (off : BitVec 13), scribeDecode k (fmtB ra rb op.2.1 off) = some (op.1 k ra rb off) ∧
    ∀ s : State, Runs s k → ∃ t, exec (op.1 k ra rb off) s = .next t ∧
      Completes s t k
        ((s.core k).pc + if op.2.2 ((s.core k).gr ra) ((s.core k).gr rb) then BitVec.ofInt 52 (off.toInt * 4) else 4)
        (s.core k).gr (s.core k).wide

theorem branchRule {i : Nat → BitVec 5 → BitVec 5 → BitVec 13 → Instr} {cc : BitVec 3} {c d : DWord → DWord → Bool}
    (value : ∀ a b, c a b = d a b)
    (word : ∀ k ra rb off, decBr k ra rb cc off = some (i k ra rb off) := by intros; rfl)
    (meaning : ∀ k ra rb off s, exec (i k ra rb off) s = onCore k s (branch c ra rb off k) := by intros; rfl) :
    BranchRule (i, cc, d) := by
  obtain rfl : c = d := funext₂ value
  intro k ra rb off
  refine ⟨(scribeDecode_br ..).trans (word ..), fun s h => ?_⟩
  rw [meaning, apply_ite ((s.core k).pc + ·), ← target_signExtend]
  exact onCore_goto h rfl

end Sys2Proof.Machine

open Sys2Proof Sys2Proof.Machine

/-- Settles O1: each operation computes what its rule says, and an instruction that writes a register completes. -/
theorem integerOperationsWriteTheirResult : Obligations.IntegerOperationsWriteTheirResult := by
  refine ⟨?_, fun k rd ra rb rc fn h => (scribeDecode_int ..).trans (decInt_eq_none h)⟩
  change ∀ op ∈ _, IntegerRule op
  simp only [List.forall_mem_cons, List.not_mem_nil, false_imp_iff, implies_true, and_true]
  exact ⟨integerRule BitVec.add_def, integerRule sub_eq_ofInt,
    integerRule and_setWidth, integerRule or_setWidth, integerRule xor_setWidth,
    integerRule fun a _ => shiftLeft_eq_ofNat a _, integerRule fun a _ => ushiftRight_eq_ofNat a _,
    integerRule fun a _ => sshiftRight_eq_ofInt a _,
    integerRule fun a b => ite_slt a b 1 0, integerRule fun a b => ite_ult a b 1 0,
    integerRule ite_slt_eq_min, integerRule ite_slt_eq_max, integerRule ite_ult_eq_min, integerRule ite_ult_eq_max,
    integerRule mul_eq_ofNat, integerRule fun a b => Eq.refl (mulh a b), integerRule fun a b => Eq.refl (mulhu a b),
    integerRule divS_cases, integerRule fun a b => Eq.refl (divU a b),
    integerRule remS_cases, integerRule fun a b => Eq.refl (remU a b)⟩

/-- Settles O2: as O1, with the extension that each operation gives its immediate. -/
theorem immediateOperationsWriteTheirResult : Obligations.ImmediateOperationsWriteTheirResult := by
  refine ⟨?_, ?_, fun k rd ra hi kind sh h => (scribeDecode_shift_fields ..).trans (decShift_eq_none h), fun k rd imm => ?_,
    fun s k rd imm h => ⟨?_, ?_⟩⟩
  · change ∀ op ∈ _, ImmediateRule op
    simp only [List.forall_mem_cons, List.not_mem_nil, false_imp_iff, implies_true, and_true]
    exact ⟨immediateRule add_signExtend, immediateRule and_setWidth, immediateRule or_setWidth, immediateRule xor_setWidth,
      immediateRule slt_signExtend, immediateRule fun a imm => ite_ult a (imm.signExtend 64) 1 0⟩
  · change ∀ op ∈ _, ShiftRule op
    simp only [List.forall_mem_cons, List.not_mem_nil, false_imp_iff, implies_true, and_true]
    exact ⟨shiftRule shiftLeft_eq_ofNat, shiftRule ushiftRight_eq_ofNat, shiftRule sshiftRight_eq_ofInt⟩
  · simp only [scribeDecode, fmtU_26, fmtU_21, fmtU_0]
    exact ⟨rfl, rfl⟩
  · exact lui_writes k rd imm s h
  · exact addhi_writes k rd imm s h

/-- Settles O3: a branch or jump goes on at its target, which is an effective address or the PC and a word offset. -/
theorem branchesAndJumpsGoToTheirTarget : Obligations.BranchesAndJumpsGoToTheirTarget := by
  refine ⟨?_, fun k ra rb off => ⟨scribeDecode_br .., scribeDecode_br ..⟩, fun s k rd off h => ?_,
    fun s k rd ra imm h aligned => ?_⟩
  · change ∀ op ∈ _, BranchRule op
    simp only [List.forall_mem_cons, List.not_mem_nil, false_imp_iff, implies_true, and_true]
    exact ⟨branchRule beq_eq_decide_toNat, branchRule bne_eq_decide_toNat, branchRule fun a b => Eq.refl (a.slt b),
      branchRule not_slt_eq_decide, branchRule fun a b => Eq.refl (a.ult b), branchRule not_ult_eq_decide⟩
  · rw [← target_signExtend]
    exact onCore_link h rfl
  · rw [← effAddr_eq_ofInt] at aligned ⊢
    exact onCore_link h (if_neg (not_not.2 aligned))
end

section
/-! PROOF. The wide instructions that act lane by lane (R333, R348, R349): what a register made of lanes holds, and how
they complete. -/
namespace Sys2Proof.Machine
open Config

variable {s : State} {k : Nat}

/-! ## Lanes (R329, R333) -/

/-- The number that n digits of w bits spell, the first least significant. -/
def packed (w : Nat) (d : Nat → Nat) (n : Nat) : Nat := (List.range n).foldl (fun a i => a + d i % 2 ^ w * 2 ^ (w * i)) 0

theorem packed_succ (w : Nat) (d : Nat → Nat) (n : Nat) : packed w d (n + 1) = packed w d n + d n % 2 ^ w * 2 ^ (w * n) := by
  rw [packed, List.range_succ, List.foldl_append]; rfl

theorem packed_lt (w : Nat) (d : Nat → Nat) (n : Nat) : packed w d n < 2 ^ (w * n) := by
  induction n with
  | zero => exact Nat.one_pos
  | succ n ih =>
    have hd : d n % 2 ^ w + 1 ≤ 2 ^ w := Nat.mod_lt _ (Nat.two_pow_pos w)
    calc packed w d (n + 1) = packed w d n + d n % 2 ^ w * 2 ^ (w * n) := packed_succ ..
      _ < (d n % 2 ^ w + 1) * 2 ^ (w * n) := by rw [Nat.add_one_mul, Nat.add_comm]; exact Nat.add_lt_add_left ih _
      _ ≤ 2 ^ w * 2 ^ (w * n) := Nat.mul_le_mul_right _ hd
      _ = 2 ^ (w * (n + 1)) := by rw [Nat.mul_succ, Nat.pow_add, Nat.mul_comm]

/-- A digit is read back whatever follows it. -/
theorem packed_digit (w : Nat) (d : Nat → Nat) {i n : Nat} (h : i < n) : packed w d n / 2 ^ (w * i) % 2 ^ w = d i % 2 ^ w := by
  induction n with
  | zero => exact absurd h (Nat.not_lt_zero i)
  | succ n ih =>
    rw [packed_succ]
    obtain hi | rfl := Nat.lt_succ_iff_lt_or_eq.1 h
    · obtain ⟨m, rfl⟩ := Nat.exists_eq_add_of_lt hi
      have later (c : Nat) : c * 2 ^ (w * (i + m + 1)) = 2 ^ (w * i) * (2 ^ w * (c * 2 ^ (w * m))) := by ring
      rw [later, Nat.add_mul_div_left _ _ (Nat.two_pow_pos _), Nat.add_mul_mod_self_left, ih hi]
    · rw [Nat.add_mul_div_right _ _ (Nat.two_pow_pos _), Nat.div_eq_of_lt (packed_lt ..), Nat.zero_add, Nat.mod_mod]

theorem laneW_mul_laneN (ew : BitVec 2) : laneW ew * laneN ew = 256 := by decide +revert

theorem lane_lt (ew : BitVec 2) (w : Wide) (i : Nat) : lane ew w i < 2 ^ laneW ew := Nat.mod_lt _ (Nat.two_pow_pos _)

@[simp] theorem lane_mod (ew : BitVec 2) (w : Wide) (i : Nat) : lane ew w i % 2 ^ laneW ew = lane ew w i := Nat.mod_mod ..

theorem lane_ofLanes (ew : BitVec 2) (f : Nat → Nat) {i : Nat} (h : i < laneN ew) :
    lane ew (ofLanes ew f) i = f i % 2 ^ laneW ew := by
  have fits : packed (laneW ew) f (laneN ew) < 2 ^ 256 := laneW_mul_laneN ew ▸ packed_lt ..
  have hn : (ofLanes ew f).toNat = packed (laneW ew) f (laneN ew) := (BitVec.toNat_ofNat ..).trans (Nat.mod_eq_of_lt fits)
  rw [lane, bitsOf, hn, packed_digit _ _ h]

/-! ## Lane-wise operations (R348) -/

/-- An instruction that writes a register of lanes to wd and goes on with the next one completes, and leaves them in wd. -/
theorem onCore_ofLanes (h : Runs s k) {f : Core → Act} {wd : BitVec 4} {ew : BitVec 2} {d e : Nat → Nat}
    (hf : f (s.core k) = reg k fun y => y.setWide wd (ofLanes ew d)) (value : ∀ i < laneN ew, d i % 2 ^ laneW ew = e i) :
    ∃ t v, onCore k s f = .next t ∧ Completes s t k ((s.core k).pc + 4) (s.core k).gr (wWith (s.core k) wd v) ∧
      ∀ i < laneN ew, lane ew v i = e i := by
  obtain ⟨t, ht, hc⟩ := onCore_setWide h hf
  exact ⟨t, _, ht, hc, fun i hi => (lane_ofLanes ew d hi).trans (value i hi)⟩

theorem laneMask_mod (ew : BitVec 2) (p : Prop) [Decidable p] :
    laneMask ew (decide p) % 2 ^ laneW ew = if p then 2 ^ laneW ew - 1 else 0 := by
  have hp := Nat.two_pow_pos (laneW ew)
  simp only [laneMask, decide_eq_true_eq]
  exact Nat.mod_eq_of_lt (by split <;> omega)

/-- A difference modulo 2^n, kept from going below zero by adding 2^n first. -/
theorem sub_mod_two_pow {a b n : Nat} (h : b < 2 ^ n) : (a + 2 ^ n - b) % 2 ^ n = (((a : Int) - b) % 2 ^ n).toNat := by
  have hz : ((a + 2 ^ n - b : Nat) : Int) = a - b + 2 ^ n := by push_cast [Nat.cast_sub (show b ≤ a + 2 ^ n by omega)]; ring
  rw [← Int.add_emod_right, ← hz, show (2 ^ n : Int) = (2 ^ n : Nat) by norm_cast, ← Int.natCast_mod, Int.toNat_natCast]

theorem testBit_seven {i : Nat} (h : i < 2 ^ 8) : i.testBit 7 = decide (128 ≤ i) := by
  rw [Nat.testBit_eq_decide_div_mod_eq]; exact decide_eq_decide.2 (by omega)

/-- A byte of WSHUF: zero where bit 7 of its index is set. -/
theorem shuffledByte_mod (a b : Wide) (j : Nat) :
    (let i := lane 0 b j; if 128 ≤ i then 0 else lane 0 a (i % 32)) % 2 ^ laneW 0 =
      (let i := lane 0 b j; if i.testBit 7 then 0 else lane 0 a (i % 32)) := by
  have hb := testBit_seven (lane_lt 0 b j)
  simp only [apply_ite (· % 2 ^ laneW 0), lane_mod, Nat.zero_mod, hb, decide_eq_true_eq]

/-- Instruction i is the word of opcode 0x30 with function code fn and its lane size, and leaves g of the lanes of its operands in
every lane of wd. -/
def LaneRule (op : (Nat → BitVec 2 → BitVec 4 → BitVec 4 → BitVec 4 → Instr) × BitVec 6 × (Nat → Nat → Nat → Nat)) : Prop :=
  ∀ (k : Nat) (ew : BitVec 2) (wd wa wb : BitVec 4), scribeDecode k (fmtW wd wa wb ew op.2.1) = some (op.1 k ew wd wa wb) ∧
    ∀ s : State, Runs s k → ∃ t v, exec (op.1 k ew wd wa wb) s = .next t ∧
      Completes s t k ((s.core k).pc + 4) (s.core k).gr (wWith (s.core k) wd v) ∧
      ∀ i < laneN ew, lane ew v i = op.2.2 (laneW ew) (lane ew ((s.core k).wide wa) i) (lane ew ((s.core k).wide wb) i)

theorem laneRule {i : Nat → BitVec 2 → BitVec 4 → BitVec 4 → BitVec 4 → Instr} {fn : BitVec 6} {f : BitVec 2 → Nat → Nat → Nat}
    {g : Nat → Nat → Nat → Nat} (value : ∀ ew a b, b < 2 ^ laneW ew → f ew a b % 2 ^ laneW ew = g (laneW ew) a b)
    (word : ∀ k ew wd wa wb, decWide k wd wa wb ew 0 fn = some (i k ew wd wa wb) := by intros; rfl)
    (meaning : ∀ k ew wd wa wb s, exec (i k ew wd wa wb) s = onCore k s (wideOp (laneOp ew (f ew)) wd wa wb k) := by intros; rfl) :
    LaneRule (i, fn, g) := fun k ew wd wa wb =>
  ⟨(scribeDecode_w ..).trans (word ..), fun s h => by
    rw [meaning]
    exact onCore_ofLanes h rfl fun n _ => value ew _ _ (lane_lt ..)⟩

/-- Instruction i is the word of opcode 0x30 with function code fn and LS = 0, and writes g of its operands to wd. -/
def BitwiseRule (op : (Nat → BitVec 4 → BitVec 4 → BitVec 4 → Instr) × BitVec 6 × (Wide → Wide → Wide)) : Prop :=
  ∀ (k : Nat) (wd wa wb : BitVec 4), scribeDecode k (fmtW wd wa wb 0 op.2.1) = some (op.1 k wd wa wb) ∧
    ∀ s : State, Runs s k → ∃ t, exec (op.1 k wd wa wb) s = .next t ∧
      Completes s t k ((s.core k).pc + 4) (s.core k).gr (wWith (s.core k) wd (op.2.2 ((s.core k).wide wa) ((s.core k).wide wb)))

theorem bitwiseRule {i : Nat → BitVec 4 → BitVec 4 → BitVec 4 → Instr} {fn : BitVec 6} {g : Wide → Wide → Wide}
    (word : ∀ k wd wa wb, decWide k wd wa wb 0 0 fn = some (i k wd wa wb) := by intros; rfl)
    (meaning : ∀ k wd wa wb s, exec (i k wd wa wb) s = onCore k s (wideOp g wd wa wb k) := by intros; rfl) :
    BitwiseRule (i, fn, g) := fun k wd wa wb =>
  ⟨(scribeDecode_w ..).trans (word ..), fun s h => by
    rw [meaning]
    exact onCore_setWide h rfl⟩

theorem decWide_eq_none {k : Nat} {wd wa wb : BitVec 4} {ls : BitVec 2} (h : ls ≠ 0) :
    ∀ fn ∈ ([2, 3, 4, 0x10] : List (BitVec 6)), decWide k wd wa wb ls 0 fn = none := by
  simp only [List.forall_mem_cons, List.not_mem_nil, false_imp_iff, implies_true, and_true]
  exact ⟨if_neg h, if_neg h, if_neg h, if_neg h⟩

end Sys2Proof.Machine

open Sys2Proof Sys2Proof.Machine

/-- Settles O4: each operation writes a register of lanes, and each of its lanes is read back modulo the lane size. -/
theorem wideOperationsActOnEveryLane : Obligations.WideOperationsActOnEveryLane := by
  refine ⟨?_, ?_,
    fun k wd wa wb => ⟨scribeDecode_w .., fun fn hfn ls hls => (scribeDecode_w ..).trans (decWide_eq_none hls fn hfn)⟩,
    fun s k wd wa wb h => ?_, fun s k ew wd ra ix h hix => ?_, fun s k ew wd ra h => ?_⟩
  · change ∀ op ∈ _, LaneRule op
    simp only [List.forall_mem_cons, List.not_mem_nil, false_imp_iff, implies_true, and_true]
    exact ⟨laneRule fun ew a b _ => Eq.refl ((a + b) % 2 ^ laneW ew), laneRule fun _ _ _ => sub_mod_two_pow,
      laneRule fun ew a b _ => laneMask_mod ew (a = b),
      laneRule fun ew a b _ => laneMask_mod ew (sval (laneW ew) a < sval (laneW ew) b),
      laneRule fun ew a b _ => laneMask_mod ew (a < b)⟩
  · change ∀ op ∈ _, BitwiseRule op
    simp only [List.forall_mem_cons, List.not_mem_nil, false_imp_iff, implies_true, and_true]
    exact ⟨bitwiseRule, bitwiseRule, bitwiseRule⟩
  · exact onCore_ofLanes (ew := 0) h (show wideOp shuffle wd wa wb k (s.core k) = _ from rfl) fun j _ => shuffledByte_mod ..
  · refine onCore_ofLanes h (if_neg (Nat.not_le.2 hix)) fun j _ => ?_
    simp only [apply_ite (· % 2 ^ laneW ew), lane_mod]
  · exact onCore_ofLanes h rfl fun _ _ => rfl
end

section
/-! PROOF. The doorbells of an inkwell and the commands of its INK_CTL (R361, R362, R379–R381). -/
namespace Sys2Proof.Machine
open Config

variable {s : State} {m : Master} {n : Nat}

/-! ## Bits of a register -/

theorem putBits_eq (v lo w x : Nat) :
    putBits v lo w x = 2 ^ lo * (2 ^ w * (v / 2 ^ lo / 2 ^ w) + x % 2 ^ w) + v % 2 ^ lo := by
  have hv := Nat.div_add_mod v (2 ^ lo)
  have hd := Nat.div_add_mod (v / 2 ^ lo) (2 ^ w)
  rw [← hd, Nat.mul_add] at hv
  simp only [putBits, bitsOf, Nat.mul_add, Nat.mul_comm _ (2 ^ lo)]
  omega

/-- A field that is put in is read back, and every other bit is what it was. -/
theorem testBit_putBits (v lo w x i : Nat) :
    (putBits v lo w x).testBit i = if lo ≤ i ∧ i < lo + w then x.testBit (i - lo) else v.testBit i := by
  rw [putBits_eq, Nat.testBit_two_pow_mul_add _ (Nat.mod_lt _ (Nat.two_pow_pos _)),
    Nat.testBit_two_pow_mul_add _ (Nat.mod_lt _ (Nat.two_pow_pos _))]
  obtain hi | hi := Nat.lt_or_ge i lo
  · simp [hi, Nat.not_le.2 hi]
  · obtain ⟨j, rfl⟩ := Nat.exists_eq_add_of_le hi
    obtain hj | hj := Nat.lt_or_ge j w
    · simp [hj]
    · obtain ⟨l, rfl⟩ := Nat.exists_eq_add_of_le hj
      simp [Nat.testBit_div_two_pow, Nat.add_comm]

theorem State.bit_setFld (s : State) (off lo w v : Nat) {i : Nat} (h : i < 32) :
    (s.setFld off lo w v).bit off i = if lo ≤ i ∧ i < lo + w then v.testBit (i - lo) else s.bit off i := by
  simp only [State.bit, State.setFld, State.rd_wr_same, w32, BitVec.getLsbD_ofNat, testBit_putBits, h, decide_true, Bool.true_and]
  rfl

theorem State.bit_setErr (s : State) (off i source : Nat) (info : Word) (h : i < 32) :
    (s.setErr off i source info).bit off i = true := by
  unfold State.setErr
  split
  · assumption
  · rw [State.bit, State.rd_raise]
    exact (State.bit_setFld s off i 1 1 h).trans (by simp)

theorem State.setErr_frame (s : State) (off i source : Nat) (info : Word) :
    s.setErr off i source info = { s with reg := (s.setErr off i source info).reg, evt := (s.setErr off i source info).evt } := by
  unfold State.setErr State.setFld State.wr
  split
  · rfl
  · split <;> rfl

theorem State.wr_frame (s : State) (off : Nat) (v : Word) : s.wr off v = { s with reg := (s.wr off v).reg } := by
  unfold State.wr
  split <;> rfl

theorem State.count_frame (s : State) (g i k : Nat) : s.count g i k = { s with acc := (s.count g i k).acc } := by
  unfold State.count
  split <;> rfl

/-! ## A write that reaches its register -/

theorem voteReg_of_agree (h : Agree s) (off : Nat) : voteReg s off = s := by
  simp only [voteReg, h.copies off, Bool.and_false, Bool.false_eq_true, if_false]

theorem voteFuses_of_agree (h : Agree s) : voteFuses s = s := if_pos h.fuses

theorem voteMode_of_agree (h : Agree s) : voteMode s = s := by
  rw [voteMode, voteReg_of_agree h, voteReg_of_agree h, voteFuses_of_agree h]

@[simp] theorem State.rd_spendShadow (b : Block) (off : Nat) : (spendShadow s m b).rd off = s.rd off := rfl

theorem agree_spendShadow (h : Agree s) (b : Block) : Agree (spendShadow s m b) := ⟨h.copies, h.locks, h.fuses⟩

theorem dropHeld_of_none {b : Block} (h : ∀ e ∈ s.reg.held, ¬ (e.block = b ∧ e.master = masterKey m)) :
    dropHeld s m b = s := by
  have absent : (s.reg.held.find? fun e => e.block == b && e.master == masterKey m) = none :=
    List.find?_eq_none.2 fun e he => by simpa using h e he
  rw [dropHeld, absent]

theorem heldFor_of_none {off : Nat} (h : ∀ e ∈ s.reg.held, ¬ (e.block = blockAt off ∧ e.master = masterKey m)) :
    heldFor s m off = none :=
  List.find?_eq_none.2 fun e he => by simpa using fun hb hm => absurd ⟨hb, hm⟩ (h e he)

section Write
variable {off : Nat}

/-- The register at `off` lies, aligned, behind the windows of INDIRECT (R41, R79) and is no low register of a pair (R73). -/
structure Plain (off : Nat) : Prop where
  behind : 0x50000 ≤ off
  aligned : off % 4 = 0
  single : pairLow off = false

theorem Plain.ne (h : Plain off) {o : Nat} (ho : o < 0x50000) : off ≠ o := (ho.trans_le h.behind).ne'

theorem Plain.not_inWindow0 (h : Plain off) : inWindow0 off = false := by
  have hi : ¬ off < 0x4000C := by have := h.behind; omega
  simp [inWindow0, hi]

theorem Plain.not_inWindow1 (h : Plain off) : inWindow1 off = false := by
  have hi : ¬ off < 0x4001C := by have := h.behind; omega
  simp [inWindow1, hi]

theorem Plain.windowBusy_eq_none (h : Plain off) (s : State) : windowBusy s off = none := by
  have claim : (off == 0x4001C) = false := beq_false_of_ne (h.ne (by decide))
  simp [windowBusy, h.not_inWindow0, h.not_inWindow1, claim]

theorem Plain.touchedData_eq (h : Plain off) {a : Access} (ha : a.bytes = 4) : touchedData a off = off := by
  rw [touchedData, if_neg (by simp [ha])]
  exact Nat.div_mul_cancel (Nat.dvd_of_mod_eq_zero h.aligned)

theorem Plain.indDomain_eq_none (h : Plain off) (s : State) {a : Access} (ha : a.bytes = 4) : indDomain s a off = none := by
  rw [indDomain, h.touchedData_eq ha]
  exact if_neg fun hd => hd.1.elim (h.ne (by decide)) (h.ne (by decide))

theorem Plain.farAbsent_eq_false (h : Plain off) (s : State) {a : Access} (ha : a.bytes = 4) : farAbsent s a off = false := by
  have d0 : (off == 0x40004) = false := beq_false_of_ne (h.ne (by decide))
  have d1 : (off == 0x40014) = false := beq_false_of_ne (h.ne (by decide))
  simp [farAbsent, h.touchedData_eq ha, d0, d1]

/-- A write that its master sends to a plain register is performed at once (R43, R55). -/
theorem CwReach.writeNative_eq (h : CwReach s m off) (hp : Plain off) (v : Nat) :
    writeNative s m off v = write4 s m off (w32 v) := by
  have hv : (BitVec.ofNat 64 v).setWidth 32 = w32 v := BitVec.setWidth_ofNat_of_le (by decide) v
  have performed (o : Nat) : perform s ⟨m, o, 4, true, BitVec.ofNat 64 v, .bus⟩ off = (write4 s m off (w32 v), 0) := by
    simp [perform, hp.farAbsent_eq_false, wellFormedAccess, hp.aligned, hv]
  simp [writeNative, cwWrite, cwAccess, h.running, voteMode_of_agree h.votes, h.place, h.served, h.awake, hp.not_inWindow1,
    hp.windowBusy_eq_none, hp.indDomain_eq_none, performed, answer]

/-- A master that holds no low word writes a doorbell page at once (R361). -/
theorem CwReach.write4_doorbell (h : CwReach s m off) (hp : Plain off) (hb : blockAt off = .doorbell n) (v : Word) :
    write4 s m off v = doorbellWrite (spendShadow s m (.doorbell n)) n (off % 0x1000) 4 (v.setWidth 64) := by
  have hn : heldFor (spendShadow s m (.doorbell n)) m off = none := heldFor_of_none h.noHeld
  have hd : dropHeld (spendShadow s m (.doorbell n)) m (.doorbell n) = spendShadow s m (.doorbell n) :=
    dropHeld_of_none (hb ▸ h.noHeld)
  simp only [write4, hb, hn, hd, holdsLow, hp.single, Bool.false_and, Bool.false_eq_true, if_false]

/-- A master that holds no low word writes a register of INKWELL at once. -/
theorem CwReach.write4_inkwell (h : CwReach s m off) (hp : Plain off) (hb : blockAt off = .inkwell) (v : Word)
    {t : State} (ht : writeReg (spendShadow s m .inkwell) m off off v = (t, false)) : write4 s m off v = t := by
  have hn : heldFor (spendShadow s m .inkwell) m off = none := heldFor_of_none h.noHeld
  have hd : dropHeld (spendShadow s m .inkwell) m .inkwell = spendShadow s m .inkwell := dropHeld_of_none (hb ▸ h.noHeld)
  simp only [write4, hb, hn, hd, holdsLow, hp.single, Bool.false_and, Bool.false_eq_true, if_false, ht, logDenied]

end Write

/-! ## Doorbells (R361, R362) -/

theorem blockAt_doorbell {off : Nat} (lo : 0x1000000 ≤ off) (hi : off < 0x1400000) :
    blockAt off = .doorbell ((off - 0x1000000) / 0x1000) := by
  unfold blockAt
  iterate 18 rw [if_neg (by omega)]
  exact if_pos hi

theorem blockAt_doorbellOff {rel : Nat} (hn : n < nInkwells) (hr : rel < 0x1000) : blockAt (doorbellOff n rel) = .doorbell n := by
  have hn : n < 1024 := hn
  have hd : doorbellOff n rel = 0x1000000 + n * 0x1000 + rel := rfl
  rw [blockAt_doorbell (by omega) (by omega), show (doorbellOff n rel - 0x1000000) / 0x1000 = n by omega]

theorem plain_doorbellOff {rel : Nat} (hn : n < nInkwells) (hr : rel < 0x1000) (ha : rel % 4 = 0) : Plain (doorbellOff n rel) where
  behind := by rw [doorbellOff]; omega
  aligned := by rw [doorbellOff]; omega
  single := by rw [pairLow, blockAt_doorbellOff hn hr]

/-- A doorbell's value takes effect in the state that the access leaves to it. -/
theorem writeNative_doorbell {rel : Nat} (hn : n < nInkwells) (hr : rel < 0x1000) (ha : rel % 4 = 0)
    (h : CwReach s m (doorbellOff n rel)) (v : Word) :
    writeNative s m (doorbellOff n rel) v.toNat = doorbellWrite (spendShadow s m (.doorbell n)) n rel 4 (v.setWidth 64) := by
  have hp := plain_doorbellOff hn hr ha
  have rel_eq : doorbellOff n rel % 0x1000 = rel := by rw [doorbellOff]; omega
  rw [h.writeNative_eq hp, h.write4_doorbell hp (blockAt_doorbellOff hn hr), rel_eq, w32, BitVec.ofNat_toNat, BitVec.setWidth_eq]

theorem bitsOf_setWidth (v : Word) : bitsOf (v.setWidth 64).toNat 0 17 = v.toNat % 2 ^ 17 := by
  rw [BitVec.toNat_setWidth_of_le (by decide), bitsOf, Nat.pow_zero, Nat.div_one]

theorem execDoorbellTailWrite_eq (hn : n < nInkwells) (h : CwReach s m (doorbellOff n 0)) (v : Word) :
    exec (.doorbellTailWrite m n v) s = .next (writeTail (spendShadow s m (.doorbell n)) n (v.toNat % 2 ^ 17)) := by
  rw [← bitsOf_setWidth]
  exact (if_pos hn).trans (congrArg _ (writeNative_doorbell hn (by decide) rfl h v))

theorem execDoorbellCqHeadWrite_eq (hn : n < nInkwells) (h : CwReach s m (doorbellOff n 4)) (v : Word) :
    exec (.doorbellCqHeadWrite m n v) s = .next (writeCqHead (spendShadow s m (.doorbell n)) n (v.toNat % 2 ^ 17)) := by
  rw [← bitsOf_setWidth]
  exact (if_pos hn).trans (congrArg _ (writeNative_doorbell hn (by decide) rfl h v))

/-- What an accepted doorbell leaves: one inkwell changed by f, and one write counted (R393). -/
structure DoorbellTaken (s t : State) (n : Nat) (f : Inkwell → Inkwell) : Prop where
  ink : t.ink n = f (s.ink n)
  others : ∀ j, j ≠ n → t.ink j = s.ink j
  regs : ∀ y, t.rd y = s.rd y
  rest : t = { s with inks := t.inks, acc := t.acc, reg := t.reg }

/-- What a refused doorbell leaves: DB_ERR, with its event, and one error counted (R362, R393). -/
structure DoorbellRefused (s t : State) (n : Nat) : Prop where
  error : t.bit (inkReg n 0x2C) 0 = true
  rest : t = { s with reg := t.reg, evt := t.evt, acc := t.acc }

theorem doorbellTaken (s : State) (m : Master) (n : Nat) (b : Block) (f : Inkwell → Inkwell) (g i k : Nat) :
    DoorbellTaken s (((spendShadow s m b).modInk n f).count g i k) n f where
  ink := by rw [State.ink_count, State.ink_modInk_same]; rfl
  others j hj := by rw [State.ink_count, State.ink_modInk_other _ _ hj]; rfl
  regs y := by simp
  rest := by rw [State.count_frame]; rfl

theorem doorbellRefused (s : State) (m : Master) (n : Nat) (b : Block) (g i k : Nat) :
    DoorbellRefused s ((inkErr (spendShadow s m b) n 0 0).count g i k) n where
  error := by rw [State.bit, State.rd_count]; exact State.bit_setErr _ _ 0 _ _ (by decide)
  rest := by rw [State.count_frame, inkErr, State.setErr_frame]; rfl

/-- TAIL may move to x: inside the ring, not back, and at most S past HEAD (R362). -/
def TailFits (s : State) (n x : Nat) : Prop :=
  x < 2 * inkSize s n ∧ ringDiff (inkSize s n) x (s.ink n).head ≤ inkSize s n ∧
    ringDiff (inkSize s n) (s.ink n).tail (s.ink n).head ≤ ringDiff (inkSize s n) x (s.ink n).head

/-- CQ_HEAD may move to x: inside the ring, and not back, nor past CQ_TAIL (R362). -/
def CqHeadFits (s : State) (n x : Nat) : Prop :=
  x < 2 * inkSize s n ∧ ringDiff (inkSize s n) (s.ink n).cqTail x ≤ ringDiff (inkSize s n) (s.ink n).cqTail (s.ink n).cqHead

section Doorbell
variable {v : Word} {x : Nat} (hn : n < nInkwells) (hx : x = v.toNat % 2 ^ 17)
include hn hx

theorem doorbellTailWrite_taken (h : CwReach s m (doorbellOff n 0)) (fits : TailFits s n x) :
    ∃ t, exec (.doorbellTailWrite m n v) s = .next t ∧ DoorbellTaken s t n fun y => { y with tail := x } := by
  subst hx
  exact ⟨_, (execDoorbellTailWrite_eq hn h v).trans (congrArg _ (if_pos fits)), doorbellTaken ..⟩

theorem doorbellTailWrite_refused (h : CwReach s m (doorbellOff n 0)) (fits : ¬ TailFits s n x) :
    ∃ t, exec (.doorbellTailWrite m n v) s = .next t ∧ DoorbellRefused s t n := by
  subst hx
  exact ⟨_, (execDoorbellTailWrite_eq hn h v).trans (congrArg _ (if_neg fits)), doorbellRefused ..⟩

theorem doorbellCqHeadWrite_taken (h : CwReach s m (doorbellOff n 4)) (fits : CqHeadFits s n x) :
    ∃ t, exec (.doorbellCqHeadWrite m n v) s = .next t ∧ DoorbellTaken s t n fun y => { y with cqHead := x } := by
  subst hx
  exact ⟨_, (execDoorbellCqHeadWrite_eq hn h v).trans (congrArg _ (if_pos fits)), doorbellTaken ..⟩

theorem doorbellCqHeadWrite_refused (h : CwReach s m (doorbellOff n 4)) (fits : ¬ CqHeadFits s n x) :
    ∃ t, exec (.doorbellCqHeadWrite m n v) s = .next t ∧ DoorbellRefused s t n := by
  subst hx
  exact ⟨_, (execDoorbellCqHeadWrite_eq hn h v).trans (congrArg _ (if_neg fits)), doorbellRefused ..⟩

end Doorbell

/-! ## INK_CTL (R379–R381, R390) -/

/-- The fields of INK_CTL (R390). -/
def inkCtlFields : List Field := inkFields 0x10000

theorem blockAt_inkwell {off : Nat} (lo : 0x600000 ≤ off) (hi : off < 0x700000) : blockAt off = .inkwell := by
  unfold blockAt
  iterate 13 rw [if_neg (by omega)]
  exact if_pos hi

/-- Where INK_CTL lies: in INKWELL, at its inkwell's place among the groups of registers (R390). -/
structure InkCtlPlace (n : Nat) : Prop where
  block : blockAt (inkReg n 0) = .inkwell
  rel : inkReg n 0 - 0x600000 = 0x10000 + n * 0x40
  group : 0x10000 ≤ 0x10000 + n * 0x40 ∧ 0x10000 + n * 0x40 < 0x20000
  index : (0x10000 + n * 0x40 - 0x10000) / 0x40 = n
  start : (0x10000 + n * 0x40) % 0x40 = 0 ∧ (0x10000 + n * 0x40 - 0x10000) % 0x40 = 0

theorem inkCtlPlace (hn : n < nInkwells) : InkCtlPlace n := by
  have hn : n < 1024 := hn
  have hr : inkReg n 0 = 0x610000 + n * 0x40 := rfl
  exact ⟨blockAt_inkwell (by omega) (by omega), by omega, by omega, by omega, by omega⟩

theorem regFields_inkCtl (hn : n < nInkwells) : regFields (inkReg n 0) = inkCtlFields := by
  obtain ⟨hb, hr, hg, -, -, hf⟩ := inkCtlPlace hn
  have status : 0x10000 + n * 0x40 ≠ 0xFFF8 := by omega
  have viol : 0x10000 + n * 0x40 ≠ 0xFFFC := by omega
  simp only [regFields, hb, Block.base, hr, blockFields, status, viol, if_false, inkFields, hg, and_self, if_true, hf]
  rfl

theorem plain_inkCtl (hn : n < nInkwells) : Plain (inkReg n 0) where
  behind := by unfold inkReg; omega
  aligned := by unfold inkReg; omega
  single := by rw [pairLow, (inkCtlPlace hn).block]

theorem selfClear_inkCtl (hn : n < nInkwells) : selfClear (inkReg n 0) = 4 := by
  obtain ⟨hb, hr, ⟨hl, hu⟩, -, hf, -⟩ := inkCtlPlace hn
  simp only [selfClear, hb, Block.base, hr]
  exact if_pos ⟨hl, hu, hf⟩

theorem guardMask_inkCtl (hn : n < nInkwells) : guardMask (inkReg n 0) = 2 := by
  rw [guardMask, regFields_inkCtl hn]
  decide

/-- EN takes the written value. -/
theorem writtenValue_inkCtl_en (hn : n < nInkwells) (s : State) (v : Word) :
    (writtenValue s (inkReg n 0) v (BitVec.allOnes 32)).getLsbD 0 = v.getLsbD 0 := by
  have whole : wholeValue s (inkReg n 0) = none := by rw [wholeValue, (inkCtlPlace hn).block]
  have mw : (inkCtlFields.any fun f => f.ty == .mw) = false := by decide
  have written : maskOf inkCtlFields (fun f => f.ty == .rw || f.ty == .w1l) = 0x737 := by decide
  have w1c : maskOf inkCtlFields (fun f => f.ty == .w1c) = 0 := by decide
  simp only [writtenValue, regFields_inkCtl hn, selfClear_inkCtl hn, whole, mw, written, w1c]
  simp [w32]

theorem and_not_one {v : Word} (h : v.getLsbD 0 = false) : v &&& ~~~ 1 = v := by
  change v &&& ~~~ 1#32 = v
  ext i _
  rw [BitVec.getElem_and, BitVec.getElem_not, BitVec.getElem_one]
  obtain rfl | hi := eq_or_ne i 0
  · simpa using h.symm
  · simp [hi]

/-- A value passes the rule of EN where it does not set EN, or where EN may be set (R381, R382). -/
theorem filterWrite_inkCtl (hn : n < nInkwells) (s : State) (m : Master) (v : Word)
    (hv : v.getLsbD 0 = false ∨ s.compat = false ∧ inkSizeOk s n = true) : filterWrite s m (inkReg n 0) v = (s, some v) := by
  obtain ⟨hb, hr, hg, hi, hf, -⟩ := inkCtlPlace hn
  simp only [filterWrite, hb, Block.base, hr, hg, and_self, if_true, hi, hf]
  obtain h | ⟨hc, hs⟩ := hv
  · rw [and_not_one h]
    simp only [h, Bool.false_eq_true, false_and, if_false, ite_self]
  · simp [hc, hs]

theorem startWrite_inkCtl (hn : n < nInkwells) (s : State) (m : Master) (old v : Word) :
    startWrite s m (inkReg n 0) old v = startInk s n old v := by
  obtain ⟨hb, hr, hg, hi, hf, -⟩ := inkCtlPlace hn
  simp only [startWrite, hb, Block.base, hr, hg, and_self, if_true, hi, hf]

theorem writeReg_inkCtl (hn : n < nInkwells) (votes : Agree s)
    (ha : passes m (inkReg n 0) = true ∨ guardMask (inkReg n 0) = 0) (v : Word)
    (hv : v.getLsbD 0 = false ∨ s.compat = false ∧ inkSizeOk s n = true) :
    writeReg s m (inkReg n 0) (inkReg n 0) v =
      (startInk (s.wr (inkReg n 0) (writtenValue s (inkReg n 0) v (BitVec.allOnes 32))) n (s.rd (inkReg n 0)) v, false) := by
  have hp := plain_inkCtl hn
  have pass : passes m (inkReg n 0) = true := ha.resolve_right (by rw [guardMask_inkCtl hn]; decide)
  have listed : inkCtlFields.isEmpty = false := by decide
  have w1l : (inkCtlFields.any fun f => f.ty == .w1l) = false := by decide
  have data : ¬ (inkReg n 0 = 0x40004 ∨ inkReg n 0 = 0x40014) := fun h => h.elim (hp.ne (by decide)) (hp.ne (by decide))
  have claim : inkReg n 0 ≠ 0x4001C := hp.ne (by decide)
  have addr : ¬ (inkReg n 0 = 0x40000 ∨ inkReg n 0 = 0x40010) := fun h => h.elim (hp.ne (by decide)) (hp.ne (by decide))
  have block : blockAt (inkReg n 0) ≠ .telemetry := by rw [(inkCtlPlace hn).block]; decide
  simp [writeReg, hp.not_inWindow1, regFields_inkCtl hn, listed, pass, data, claim, w1l, block, filterWrite_inkCtl hn s m v hv,
    addr, voteReg_of_agree votes, startWrite_inkCtl hn]

/-- What software writes back keeps EN and RESET_PTRS, but for the field it changes. -/
theorem keepRest_inkCtl (hn : n < nInkwells) (s : State) (lo v : Nat) {i : Nat} (hi : i = 0 ∨ i = 2) :
    (w32 (keepRest s (inkReg n 0) lo 1 v)).getLsbD i = if i = lo then v.testBit 0 else s.bit (inkReg n 0) i := by
  have written : maskOf inkCtlFields (fun f => f.ty == .rw || f.ty == .w1l) = 0x737 := by decide
  have kept : Nat.testBit 0x737 i = true ∧ i < 32 := by obtain rfl | rfl := hi <;> decide
  have range : (lo ≤ i ∧ i < lo + 1) ↔ i = lo := by omega
  simp only [keepRest, regFields_inkCtl hn, written, w32, BitVec.getLsbD_ofNat, testBit_putBits, kept, range, Nat.testBit_and]
  obtain rfl | ne := eq_or_ne i lo
  · simp
  · simp [ne, State.bit, BitVec.testBit_toNat]

/-- From s to t at most INK_CTL of inkwell n differs among the registers that hold a value, and the inkwell has changed by f. -/
structure InkCtlActed (s t : State) (n : Nat) (f : Inkwell → Inkwell) : Prop where
  ink : t.ink n = f (s.ink n)
  others : ∀ j, j ≠ n → t.ink j = s.ink j
  regs : ∀ x, x ≠ inkReg n 0 → t.rd x = s.rd x
  rest : t = { s with reg := t.reg, inks := t.inks }

/-- From s to u nothing differs but registers, and of those that hold a value at most INK_CTL of inkwell n. -/
structure InkCtlStored (s u : State) (n : Nat) : Prop where
  regs : ∀ x, x ≠ inkReg n 0 → u.rd x = s.rd x
  rest : u = { s with reg := u.reg }

variable {u : State}

theorem InkCtlStored.ink_eq (h : InkCtlStored s u n) (j : Nat) : u.ink j = s.ink j := by rw [h.rest]; rfl

theorem InkCtlStored.setFld (h : InkCtlStored s u n) (lo w v : Nat) : InkCtlStored s (u.setFld (inkReg n 0) lo w v) n where
  regs x hx := by rw [State.setFld, State.rd_wr_other _ _ hx, h.regs x hx]
  rest := by rw [State.setFld, State.wr_frame, h.rest]

theorem InkCtlStored.modInk (h : InkCtlStored s u n) (f : Inkwell → Inkwell) : InkCtlActed s (u.modInk n f) n f where
  ink := by rw [State.ink_modInk_same, h.ink_eq]
  others j hj := by rw [State.ink_modInk_other _ _ hj, h.ink_eq]
  regs x hx := by rw [State.rd_modInk, h.regs x hx]
  rest := by rw [h.rest]; rfl

/-- A field of INK_CTL is written: what the write starts, and in which state, with EN as written. -/
theorem writeField_inkCtl (hn : n < nInkwells) (h : CwReach s m (inkReg n 0)) (lo v : Nat) {w : Word}
    (hw : w = w32 (keepRest s (inkReg n 0) lo 1 v)) (hv : w.getLsbD 0 = false ∨ s.compat = false ∧ inkSizeOk s n = true) :
    ∃ u, writeField s m (inkReg n 0) lo 1 v = startInk u n (s.rd (inkReg n 0)) w ∧ u.bit (inkReg n 0) 0 = w.getLsbD 0 ∧
      InkCtlStored s u n := by
  have hp := plain_inkCtl hn
  subst hw
  have hr := writeReg_inkCtl (s := spendShadow s m .inkwell) hn (agree_spendShadow h.votes _) h.allowed _ hv
  refine ⟨_, (h.writeNative_eq hp _).trans (h.write4_inkwell hp (inkCtlPlace hn).block _ hr), ?_, fun x hx => ?_, ?_⟩
  · rw [State.bit, State.rd_wr_same, writtenValue_inkCtl_en hn]
  · rw [State.rd_wr_other _ _ hx]; rfl
  · rw [State.wr_frame]; rfl

/-! ### What a write of INK_CTL starts -/

theorem startInk_of_clear {old v : Word} (hp : v.getLsbD 2 = false) (he : v.getLsbD 0 = false) : startInk s n old v = s := by
  simp only [startInk, hp, he, Bool.and_false, Bool.false_eq_true, if_false]

/-- EN = 1 ends a halt (R380); the count of a FENCE begins anew where EN was 0 (R377). -/
def enabled (old : Bool) (x : Inkwell) : Inkwell := { x with halted := false, fails := if old then x.fails else 0 }

theorem startInk_enable {old v : Word} (hp : v.getLsbD 2 = false) (he : v.getLsbD 0 = true) (hb : s.bit (inkReg n 0) 0 = true) :
    startInk s n old v = s.modInk n (enabled (old.getLsbD 0)) := by
  simp only [startInk, hp, he, hb, Bool.and_self, Bool.false_eq_true, if_false, if_true]
  rfl

/-- RESET_PTRS sets every pointer to 0 (R381). -/
def rewound (x : Inkwell) : Inkwell := { x with head := 0, tail := 0, cqTail := 0, cqHead := 0 }

theorem startInk_reset {old v : Word} (hp : v.getLsbD 2 = true) (he : v.getLsbD 0 = false) (ho : old.getLsbD 0 = false)
    (hd : (s.ink n).descs = []) (hf : inkFetching s n = false) :
    startInk s n old v = (s.setFld (inkReg n 0) 2 1 0).modInk n rewound := by
  have fetching : inkFetching (s.setFld (inkReg n 0) 2 1 0) n = false := by
    simpa only [inkFetching, State.engine, State.setFld_engines] using hf
  simp only [startInk, hp, he, ho, State.ink_setFld, hd, List.isEmpty_nil, fetching, and_self, if_true, Bool.and_false,
    Bool.false_eq_true, if_false]
  rfl

section Control
variable (hn : n < nInkwells) (h : CwReach s m (inkReg n 0))
include hn h

theorem inkwellDisable_clears (hp : s.bit (inkReg n 0) 2 = false) :
    ∃ t, exec (.inkwellDisable m n) s = .next t ∧ t.bit (inkReg n 0) 0 = false ∧ InkCtlStored s t n := by
  have en := keepRest_inkCtl hn s 0 0 (.inl rfl)
  have ptrs := (keepRest_inkCtl hn s 0 0 (.inr rfl)).trans hp
  obtain ⟨t, ht, hb, stored⟩ := writeField_inkCtl hn h 0 0 rfl (.inl en)
  rw [startInk_of_clear ptrs en] at ht
  exact ⟨t, (if_pos hn).trans (congrArg _ ht), hb.trans en, stored⟩

theorem inkwellEnable_sets (hp : s.bit (inkReg n 0) 2 = false) (hc : s.compat = false) (hs : inkSizeOk s n = true) :
    ∃ t, exec (.inkwellEnable m n) s = .next t ∧ t.bit (inkReg n 0) 0 = true ∧
      InkCtlActed s t n (enabled (s.bit (inkReg n 0) 0)) := by
  have en := keepRest_inkCtl hn s 0 1 (.inl rfl)
  have ptrs := (keepRest_inkCtl hn s 0 1 (.inr rfl)).trans hp
  obtain ⟨u, hu, hb, stored⟩ := writeField_inkCtl hn h 0 1 rfl (.inr ⟨hc, hs⟩)
  rw [startInk_enable ptrs en (hb.trans en)] at hu
  refine ⟨_, (if_pos hn).trans (congrArg _ hu), ?_, stored.modInk _⟩
  rw [State.bit, State.rd_modInk]
  exact hb.trans en

theorem resetPtrs_rewinds (he : s.bit (inkReg n 0) 0 = false) (hd : (s.ink n).descs = []) (hf : inkFetching s n = false) :
    ∃ t, exec (.resetPtrs m n) s = .next t ∧ t.bit (inkReg n 0) 2 = false ∧ InkCtlActed s t n rewound := by
  have en := (keepRest_inkCtl hn s 2 1 (.inl rfl)).trans he
  have ptrs := keepRest_inkCtl hn s 2 1 (.inr rfl)
  obtain ⟨u, hu, -, stored⟩ := writeField_inkCtl hn h 2 1 rfl (.inl en)
  have fetching : inkFetching u n = false := by rw [stored.rest]; exact hf
  rw [startInk_reset ptrs en he (by rw [stored.ink_eq, hd]) fetching] at hu
  refine ⟨_, (if_pos hn).trans (congrArg _ hu), ?_, (stored.setFld 2 1 0).modInk _⟩
  rw [State.bit, State.rd_modInk]
  exact State.bit_setFld u _ 2 1 0 (by decide)

end Control

end Sys2Proof.Machine

open Sys2Proof Sys2Proof.Machine

/-- Settles O43: a doorbell or a field of INK_CTL that its master reaches is written at once, and acts as its rule says. -/
theorem doorbellsAndControlsMoveTheirInkwell : Obligations.DoorbellsAndControlsMoveTheirInkwell := by
  intro s m n hn
  refine ⟨fun v h x hx => ⟨fun inside room forward => ?_, fun refused => ?_⟩,
    fun v h x hx => ⟨fun inside forward => ?_, fun refused => ?_⟩,
    fun h hp => ⟨?_, fun native size => ?_, fun disabled empty idle => ?_⟩⟩
  · obtain ⟨t, ht, ink, others, regs, rest⟩ := doorbellTailWrite_taken hn hx h ⟨inside, room, forward⟩
    exact ⟨t, ht, ink, others, regs, rest⟩
  · obtain ⟨t, ht, error, rest⟩ := doorbellTailWrite_refused hn hx h refused
    exact ⟨t, ht, error, rest⟩
  · obtain ⟨t, ht, ink, others, regs, rest⟩ := doorbellCqHeadWrite_taken hn hx h ⟨inside, forward⟩
    exact ⟨t, ht, ink, others, regs, rest⟩
  · obtain ⟨t, ht, error, rest⟩ := doorbellCqHeadWrite_refused hn hx h refused
    exact ⟨t, ht, error, rest⟩
  · obtain ⟨t, ht, en, regs, rest⟩ := inkwellDisable_clears hn h hp
    exact ⟨t, ht, en, regs, rest⟩
  · obtain ⟨t, ht, en, ink, others, regs, rest⟩ := inkwellEnable_sets hn h hp native size
    exact ⟨t, ht, en, ink, others, regs, rest⟩
  · obtain ⟨t, ht, cleared, ink, others, regs, rest⟩ := resetPtrs_rewinds hn h disabled empty idle
    exact ⟨t, ht, cleared, ink, others, regs, rest⟩
end

section
/-! PROOF. How the sequencer numbers and routes an event, and how the oldest event message leaves (R410, R413–R416). -/
namespace Sys2Proof.Machine
open Config

variable {s t u v w : State} {e : Event} {m : Msg} {p : Nat}

/-! ## What a step of the sequencer leaves alone -/

/-- From s to t only what the sequencer works on may differ (R410, R414, R415): its queues, the counters' accumulators, and
of the registers only the one at `off`. -/
structure Sequences (off : Nat) (s t : State) : Prop where
  regs : ∀ o, o ≠ off → t.rd o = s.rd o
  rest : t = { s with evt := t.evt, reg := t.reg, acc := t.acc }

theorem bit_of_rd {o : Nat} (h : t.rd o = s.rd o) (i : Nat) : t.bit o i = s.bit o i := by rw [State.bit, h, State.bit]

theorem Sequences.bit {off o : Nat} (h : Sequences off s t) (ho : o ≠ off) (i : Nat) : t.bit o i = s.bit o i :=
  bit_of_rd (h.regs o ho) i

theorem Sequences.compat_eq {off : Nat} (h : Sequences off s t) (ho : 0x8 ≠ off) : t.compat = s.compat := h.bit ho 0

theorem Sequences.mkMsg_eq {off : Nat} (h : Sequences off s t) (ho : 0x8 ≠ off) : t.mkMsg = s.mkMsg := by
  have hh : t.home = s.home := by rw [State.home, State.devNum, State.fld, h.regs _ ho]; rfl
  funext; rw [State.mkMsg, hh]; rfl

theorem sequences_evt (off : Nat) (x : EvtState) : Sequences off s { s with evt := x } := ⟨fun _ _ => rfl, rfl⟩

theorem Sequences.count {off : Nat} (h : Sequences off s t) (g i n : Nat) : Sequences off s (t.count g i n) :=
  ⟨fun o ho => (t.rd_count g i n o).trans (h.regs o ho), by rw [State.count_frame, h.rest]⟩

/-- Steps that follow one another change together what each of them may. -/
theorem Sequences.rest_trans {a b : Nat} (h : Sequences a s t) (k : Sequences b t u) :
    u = { s with evt := u.evt, reg := u.reg, acc := u.acc } := by
  have hk := k.rest
  rw [h.rest] at hk
  exact hk

theorem Sequences.trans {off : Nat} (h : Sequences off s t) (k : Sequences off t u) : Sequences off s u :=
  ⟨fun o ho => (k.regs o ho).trans (h.regs o ho), h.rest_trans k⟩

/-! ## A flag of the sequencer that is set and counted: OVERRUN, MSG_LOST (R414, R415) -/

theorem bit_setFld_one (s : State) (off : Nat) : (s.setFld off 0 1 1).bit off 0 = true := State.bit_setFld s off 0 1 1 (by decide)

theorem bit_flagged (s : State) (off i : Nat) : ((s.setFld off 0 1 1).count 53 i 1).bit off 0 = true :=
  (bit_of_rd (State.rd_count ..) 0).trans (bit_setFld_one s off)

theorem evt_flagged (s : State) (off i : Nat) : ((s.setFld off 0 1 1).count 53 i 1).evt = s.evt :=
  (State.count_evt ..).trans (State.setFld_evt ..)

theorem sequences_flagged (s : State) (off i : Nat) : Sequences off s ((s.setFld off 0 1 1).count 53 i 1) :=
  Sequences.count (t := s.setFld off 0 1 1) ⟨fun _ ho => s.rd_wr_other _ ho, by rw [State.setFld, State.wr_frame]⟩ ..

/-! ## The three routes (R414, R415, R416) -/

/-- Route bit 0: the event's entries into the event FIFO, or OVERRUN (R414). -/
def toFifo (s : State) (route : Nat) (ws : List DWord) : State :=
  if s.bit route 0 then
    match fifoPush 1024 s.evt.efifo ws with
    | some f => { s with evt := { s.evt with efifo := f } }
    | none => (s.setFld (efifoReg 0x10) 0 1 1).count 53 1 1
  else s

/-- Route bit 1: a message into the event-message queue, or MSG_LOST; none in compatibility mode (R415, R501). -/
def toQueue (s : State) (route : Nat) (m : Msg) : State :=
  if s.bit route 1 && !s.compat then
    if 256 ≤ s.evt.msgq.length then msgLost s else { s with evt := { s.evt with msgq := s.evt.msgq ++ [m] } }
  else s

/-- Route bit 2: PEND, and with it ALERT_N (R416). -/
def toAlert (s : State) (route : Nat) : State :=
  if s.bit route 2 then alertPin (s.setFld (evtReg 0x14) 0 1 1) else s

/-- The sequencer has taken an event, which leaves l to wait, and the next event gets the next number (R410). -/
def numbered (s : State) (l : List Event) : State :=
  { s with evt := { s.evt with waiting := l, seq := s.evt.seq + 1 } }.count 53 0 1

theorem bit_numbered (s : State) (l : List Event) (o i : Nat) : (numbered s l).bit o i = s.bit o i := by
  rw [State.bit, numbered, State.rd_count]; rfl

theorem sequences_numbered (off : Nat) (s : State) (l : List Event) : Sequences off s (numbered s l) :=
  (sequences_evt off _).count ..

theorem evt_numbered (s : State) (l : List Event) : (numbered s l).evt = { s.evt with waiting := l, seq := s.evt.seq + 1 } :=
  State.count_evt ..

/-- The sequencer takes the oldest event, which is its source's oldest, numbers it and then goes through its three routes. -/
theorem sequenceNext_eq {l : List Event} (h : s.evt.waiting = e :: l) (he : e.source < 128) {r : Nat}
    (hr : r = evtReg (0x100 + 4 * e.source)) (hv : v = toFifo (numbered s l) r (eventEntries s.evt.seq e s.tb.count.toNat)) :
    sequenceNext s e.source =
      toAlert (toQueue v r (v.mkMsg opcEVENT_MSG (eventDst v e) 0 0 false 0 (eventBody s.evt.seq e))) r := by
  have oldest : sequenceNext s e.source = sequenceEvent { s with evt := { s.evt with waiting := l } } e := by
    simp [sequenceNext, h, eraseFirst]
  rw [← Nat.mod_eq_of_lt he] at hr
  rw [← State.count_tb { s with evt := { s.evt with waiting := l, seq := s.evt.seq + 1 } } 53 0 1] at hv
  rw [oldest]
  subst hr hv; rfl

/-- Two entries or none: they are pushed where both fit, and else OVERRUN is set (R414). -/
structure ToFifo (s t : State) (route : Nat) (ws : List DWord) : Prop where
  fifo : if s.bit route 0 = true ∧ s.evt.efifo.items.length + ws.length ≤ 1024 then
      t.evt.efifo = { s.evt.efifo with items := s.evt.efifo.items ++ ws, wr := (s.evt.efifo.wr + ws.length) % 2048 }
    else t.evt.efifo = s.evt.efifo ∧ (s.bit route 0 = true → t.bit (efifoReg 0x10) 0 = true)
  evt : t.evt = { s.evt with efifo := t.evt.efifo }
  sequences : Sequences (efifoReg 0x10) s t

theorem toFifo_spec (s : State) (route : Nat) (ws : List DWord) : ToFifo s (toFifo s route ws) route ws := by
  by_cases hr : s.bit route 0 = true
  · by_cases hfit : s.evt.efifo.items.length + ws.length ≤ 1024
    · have hp : toFifo s route ws = { s with evt := { s.evt with efifo :=
          { s.evt.efifo with items := s.evt.efifo.items ++ ws, wr := (s.evt.efifo.wr + ws.length) % 2048 } } } := by
        simp only [toFifo, hr, if_true, fifoPush, Nat.not_lt.2 hfit, if_false]
      rw [hp]
      exact ⟨by rw [if_pos ⟨hr, hfit⟩], rfl, sequences_evt ..⟩
    · have hp : toFifo s route ws = (s.setFld (efifoReg 0x10) 0 1 1).count 53 1 1 := by
        simp only [toFifo, hr, if_true, fifoPush, Nat.lt_of_not_le hfit]
      rw [hp]
      exact ⟨by rw [if_neg fun h => hfit h.2]; exact ⟨congrArg _ (evt_flagged ..), fun _ => bit_flagged ..⟩,
        by rw [evt_flagged], sequences_flagged ..⟩
  · rw [toFifo, if_neg hr]
    exact ⟨by rw [if_neg fun h => hr h.1]; exact ⟨rfl, (absurd · hr)⟩, rfl, sequences_evt _ s.evt⟩

/-- The message is queued where the queue of 256 has room, and else MSG_LOST is set (R415). -/
structure ToQueue (s t : State) (route : Nat) (m : Msg) : Prop where
  queue : if s.bit route 1 = true ∧ s.compat = false ∧ s.evt.msgq.length < 256 then t.evt.msgq = s.evt.msgq ++ [m]
    else t.evt.msgq = s.evt.msgq ∧ (s.bit route 1 = true → s.compat = false → t.bit (evtReg 0x10) 0 = true)
  evt : t.evt = { s.evt with msgq := t.evt.msgq }
  sequences : Sequences (evtReg 0x10) s t

theorem toQueue_spec (s : State) (route : Nat) (m : Msg) : ToQueue s (toQueue s route m) route m := by
  by_cases hr : s.bit route 1 = true ∧ s.compat = false
  · have hc : (s.bit route 1 && !s.compat) = true := by simp [hr]
    rw [toQueue, if_pos hc]
    by_cases hfit : s.evt.msgq.length < 256
    · rw [if_neg (Nat.not_le.2 hfit)]
      exact ⟨by rw [if_pos ⟨hr.1, hr.2, hfit⟩], rfl, sequences_evt ..⟩
    · rw [if_pos (Nat.le_of_not_lt hfit)]
      exact ⟨by rw [if_neg fun h => hfit h.2.2]; exact ⟨congrArg _ (evt_flagged ..), fun _ _ => bit_flagged ..⟩,
        by rw [msgLost, evt_flagged], sequences_flagged ..⟩
  · have hc : ¬ (s.bit route 1 && !s.compat) = true := by simpa using hr
    rw [toQueue, if_neg hc]
    exact ⟨by rw [if_neg fun h => hr ⟨h.1, h.2.1⟩]; exact ⟨rfl, fun on native => absurd ⟨on, native⟩ hr⟩, rfl,
      sequences_evt _ s.evt⟩

/-- PEND is set and takes ALERT_N low, or neither moves (R416). -/
structure ToAlert (s t : State) (route : Nat) : Prop where
  on : s.bit route 2 = true → t.bit (evtReg 0x14) 0 = true ∧ t.pins = { s.pins with alertN := false }
  off : s.bit route 2 = false → t.pins = s.pins ∧ t.rd (evtReg 0x14) = s.rd (evtReg 0x14)
  evt : t.evt = s.evt
  regs : ∀ o, o ≠ evtReg 0x14 → t.rd o = s.rd o
  rest : t = { s with evt := t.evt, reg := t.reg, acc := t.acc, pins := t.pins }

theorem toAlert_spec (s : State) (route : Nat) : ToAlert s (toAlert s route) route := by
  cases hr : s.bit route 2 with
  | true =>
    have hp : toAlert s route = alertPin (s.setFld (evtReg 0x14) 0 1 1) := if_pos hr
    have pend := bit_setFld_one s (evtReg 0x14)
    rw [hp]
    exact ⟨fun _ => ⟨pend, by simp [alertPin, pend]⟩, fun h => absurd hr (by simp [h]), State.setFld_evt ..,
      fun _ ho => s.rd_wr_other _ ho, by rw [alertPin, State.setFld, State.wr_frame]⟩
  | false =>
    have hp : toAlert s route = s := if_neg (ne_true_of_eq_false hr)
    rw [hp]
    exact ⟨fun h => absurd hr (by simp [h]), fun _ => ⟨rfl, rfl⟩, rfl, fun _ _ => rfl, rfl⟩

/-! ## An event is numbered and routed (R410, R413) -/

/-- The event FIFO's own register is none of those that say where an event goes (EVT_ROUTE, EVT_INK_DST). -/
theorem eventDst_eq (h : Sequences (efifoReg 0x10) s t) (he : e.source < 128) : eventDst t e = eventDst s e := by
  have hi : wfld e.info 0 10 < 2 ^ 10 := Nat.mod_lt _ (by decide)
  have inkwell : evtReg (0x4000 + 4 * wfld e.info 0 10) ≠ efifoReg 0x10 := by simp only [efifoReg, evtReg]; omega
  have route : evtReg (0x100 + 4 * e.source) ≠ efifoReg 0x10 := by simp only [efifoReg, evtReg]; omega
  simp only [eventDst, State.fld, h.regs _ inkwell, h.regs _ route]

theorem eventEntries_eq (q : BitVec 48) (e : Event) (tb : Nat) : eventEntries q e tb =
    [BitVec.ofNat 64 (q.toNat % 2 ^ 32 + 2 ^ 32 * (q.toNat / 2 ^ 32 + 2 ^ 16 * e.source + 2 ^ 24 * (e.code % 128))),
     BitVec.ofNat 64 (e.info.toNat + 2 ^ 32 * (tb % 2 ^ 31) + 2 ^ 63)] := by
  rw [eventEntries, bitsOf, Nat.pow_zero, Nat.div_one]

/-- The sequencer has taken event e, whose route is r, from s; l still waits. -/
structure EventRouted (s t : State) (e : Event) (l : List Event) (r : Nat) : Prop where
  waiting : t.evt.waiting = l
  seq : t.evt.seq = s.evt.seq + 1
  mbox : t.evt.mbox = s.evt.mbox
  fifo : if s.bit r 0 = true ∧ s.evt.efifo.items.length + 2 ≤ 1024 then
      t.evt.efifo = { s.evt.efifo with items := s.evt.efifo.items ++ eventEntries s.evt.seq e s.tb.count.toNat,
                                       wr := (s.evt.efifo.wr + 2) % 2048 }
    else t.evt.efifo = s.evt.efifo ∧ (s.bit r 0 = true → t.bit (efifoReg 0x10) 0 = true)
  queue : if s.bit r 1 = true ∧ s.compat = false ∧ s.evt.msgq.length < 256 then
      t.evt.msgq = s.evt.msgq ++ [s.mkMsg opcEVENT_MSG (eventDst s e) 0 0 false 0 (eventBody s.evt.seq e)]
    else t.evt.msgq = s.evt.msgq ∧ (s.bit r 1 = true → s.compat = false → t.bit (evtReg 0x10) 0 = true)
  alert : s.bit r 2 = true → t.bit (evtReg 0x14) 0 = true ∧ t.pins = { s.pins with alertN := false }
  noAlert : s.bit r 2 = false → t.pins = s.pins ∧ t.rd (evtReg 0x14) = s.rd (evtReg 0x14)
  rest : t = { s with evt := t.evt, reg := t.reg, acc := t.acc, pins := t.pins }

theorem sequenceNext_routed {l : List Event} {r : Nat} (h : s.evt.waiting = e :: l) (he : e.source < 128)
    (hr : r = evtReg (0x100 + 4 * e.source)) : EventRouted s (sequenceNext s e.source) e l r := by
  have route : r ≠ efifoReg 0x10 ∧ r ≠ evtReg 0x10 := by simp only [efifoReg, evtReg] at hr ⊢; omega
  rw [sequenceNext_eq h he hr rfl]
  obtain ⟨fifo, fifoEvt, hv⟩ := toFifo_spec (numbered s l) r (eventEntries s.evt.seq e s.tb.count.toNat)
  generalize toFifo (numbered s l) r (eventEntries s.evt.seq e s.tb.count.toNat) = v at fifo fifoEvt hv ⊢
  have hsv : Sequences (efifoReg 0x10) s v := (sequences_numbered _ s l).trans hv
  rw [evt_numbered] at fifo fifoEvt
  rw [bit_numbered] at fifo
  rw [hsv.mkMsg_eq (by decide), eventDst_eq hsv he]
  generalize hm : s.mkMsg opcEVENT_MSG (eventDst s e) 0 0 false 0 (eventBody s.evt.seq e) = m
  obtain ⟨queue, queueEvt, hw⟩ := toQueue_spec v r m
  generalize toQueue v r m = w at queue queueEvt hw ⊢
  obtain ⟨alert, noAlert, alertEvt, regs, rest⟩ := toAlert_spec w r
  generalize toAlert w r = t at alert noAlert alertEvt regs rest ⊢
  have evt : t.evt = { s.evt with waiting := l, seq := s.evt.seq + 1, efifo := v.evt.efifo, msgq := w.evt.msgq } := by
    rw [alertEvt, queueEvt, fifoEvt]
  have hsw := hsv.rest_trans hw
  have pins : w.pins = s.pins := by rw [hsw]
  rw [hsv.bit route.1, hsv.compat_eq (by decide), fifoEvt] at queue
  rw [hw.bit route.2, hsv.bit route.1, pins] at alert noAlert
  refine ⟨by rw [evt], by rw [evt], by rw [evt], ?_, ?_, alert, fun h => ?_, ?_⟩
  · have overrun : t.bit (efifoReg 0x10) 0 = v.bit (efifoReg 0x10) 0 :=
      (bit_of_rd (regs _ (by decide)) 0).trans (hw.bit (by decide) 0)
    rw [evt, overrun]
    exact fifo
  · rw [evt, bit_of_rd (regs _ (by decide)), hm]
    exact queue
  · rw [← hsv.regs _ (by decide), ← hw.regs _ (by decide)]
    exact noAlert h
  · rw [hsw] at rest
    exact rest

/-! ## The oldest event message leaves (R415) -/

/-- A message that need not wait for a forwarding unit goes to the egress queue of its port (R157, R450). -/
theorem depart_enqueues (hop : m.hop = false)
    (h : s.isFabric p = true → s.domLit (62 + p / 8) = true ∧ ∀ x ∈ s.spine.fwd, sameOrder x.msg m = false) :
    s.depart p m = s.modPort p fun x => { x with egress := x.egress ++ [m] } := by
  have hm : { m with hop := m.hop && s.isFabric p } = m := by rw [hop, Bool.false_and, ← hop]
  have free : (s.isFabric p && !s.boot.fatal &&
      (!s.domLit (62 + p / 8) || s.spine.fwd.any fun x => sameOrder x.msg m)) = false := by
    cases hf : s.isFabric p with
    | false => rfl
    | true =>
      obtain ⟨lit, first⟩ := h hf
      have alone : (s.spine.fwd.any fun x => sameOrder x.msg m) = false :=
        List.any_eq_false.2 fun x hx => ne_true_of_eq_false (first x hx)
      rw [lit, alone]; simp
  rw [State.depart, free, State.enqueue, hm]
  rfl

variable {l : List Msg}

theorem find_oldest (hq : s.evt.msgq = m :: l) (go : evtMayGo s m = true) : s.evt.msgq.find? (evtMayGo s) = some m := by
  rw [hq]; exact List.find?_cons_of_pos go

theorem eraseFirst_oldest (hq : s.evt.msgq = m :: l) (go : evtMayGo s m = true) : eraseFirst (evtMayGo s) s.evt.msgq = l := by
  rw [hq]; exact if_pos go

/-- A port that can carry the oldest event message, and has credits for it, gets it. -/
theorem eventMsgSend_departs (hq : s.evt.msgq = m :: l) (go : evtMayGo s m = true) (port : s.portFor m.dst = some p)
    (carries : s.canCarry p = true) :
    eventMsgSend s = ({ s with evt := { s.evt with msgq := l } }.depart p m).count 53 2 1 := by
  have port' : { s with evt := { s.evt with msgq := l } }.portFor m.dst = some p := port
  have carries' : { s with evt := { s.evt with msgq := l } }.canCarry p = true := carries
  simp only [eventMsgSend, find_oldest hq go, eraseFirst_oldest hq go, port', carries', if_true]

/-- The oldest event message is lost where no port leads to its agent (R166). -/
theorem eventMsgSend_lost (hq : s.evt.msgq = m :: l) (port : s.portFor m.dst = none) :
    eventMsgSend s = msgLost { s with evt := { s.evt with msgq := l } } := by
  have go : evtMayGo s m = true := by rw [evtMayGo, port]
  have port' : { s with evt := { s.evt with msgq := l } }.portFor m.dst = none := port
  simp only [eventMsgSend, find_oldest hq go, eraseFirst_oldest hq go, port']

end Sys2Proof.Machine

open Sys2Proof Sys2Proof.Machine

/-- Settles O48: the sequencer numbers the event and takes its three routes one after the other, each of which touches its own
queue, register and pin alone; the oldest event message need not wait and goes to its port, or no port leads to its agent. -/
theorem eventsAreNumberedAndRouted : Obligations.EventsAreNumberedAndRouted := by
  refine ⟨fun s e l r hl he hr => ?_, fun s m l hq => ⟨fun p port carries hop go forward => ?_, fun port => ?_⟩⟩
  · obtain ⟨waiting, seq, mbox, fifo, queue, alert, noAlert, rest⟩ := sequenceNext_routed hl he hr
    rw [eventEntries_eq] at fifo
    exact ⟨sequenceNext s e.source, rfl, waiting, seq, mbox, fifo, queue, alert, noAlert, rest⟩
  · have enqueued := depart_enqueues (s := { s with evt := { s.evt with msgq := l } }) hop forward
    have sent := (eventMsgSend_departs hq go port carries).trans (congrArg (State.count · 53 2 1) enqueued)
    refine ⟨_, congrArg Host.Outcome.next sent, State.count_evt .., ?_, fun q hne => ?_, ?_⟩
    · rw [State.port_count]; exact State.port_modPort_same ..
    · rw [State.port_count]; exact State.port_modPort_other _ _ hne
    · rw [State.count_frame]; rfl
  · have frame := (sequences_flagged { s with evt := { s.evt with msgq := l } } (evtReg 0x10) 3).rest
    exact ⟨_, congrArg Host.Outcome.next (eventMsgSend_lost hq port), evt_flagged .., bit_flagged .., frame⟩
end

section
/-! PROOF. The instruction words of the scribe cores (R333–R349): which commands have one, and that decoding takes encoding back. -/
namespace Sys2Proof.Machine

-- One proof at a time: many at once would pass the memory limit of the check.
set_option Elab.async false

/-- The core whose instruction a command is; 0 for a command that is no instruction. -/
def scribeCore : Instr → Nat
  | .add c .. | .sub c .. | .and c .. | .or c .. | .xor c .. | .sll c .. | .srl c .. | .sra c .. | .slt c .. | .sltu c ..
  | .min c .. | .max c .. | .minu c .. | .maxu c .. | .mul c .. | .mulh c .. | .mulhu c .. | .div c .. | .divu c ..
  | .rem c .. | .remu c .. | .addImmediate c .. | .andImmediate c .. | .orImmediate c .. | .xorImmediate c ..
  | .sltImmediate c .. | .sltuImmediate c .. | .sllImmediate c .. | .srlImmediate c .. | .sraImmediate c .. | .lui c ..
  | .addhi c .. | .ldB c .. | .ldH c .. | .ldW c .. | .ldD c .. | .ldBu c .. | .ldHu c .. | .ldWu c .. | .stB c ..
  | .stH c .. | .stW c .. | .stD c .. | .ldw c .. | .stw c .. | .amoAdd c .. | .amoSwp c .. | .amoCas c .. | .amoMin c ..
  | .amoMax c .. | .amoAnd c .. | .amoOr c .. | .amoXor c .. | .lresW c .. | .lresD c .. | .scndW c .. | .scndD c ..
  | .zln c .. | .pfk c .. | .cln c .. | .cinv c .. | .brEq c .. | .brNe c .. | .brLt c .. | .brGe c .. | .brLtu c ..
  | .brGeu c .. | .jal c .. | .jr c .. | .wadd c .. | .wsub c .. | .wand c .. | .wor c .. | .wxor c .. | .wcmpEq c ..
  | .wcmpLt c .. | .wcmpLtu c .. | .wshuf c .. | .wext c .. | .wins c .. | .wspl c .. | .wredAdd c .. | .wredMin c ..
  | .wredMax c .. | .wredXor c .. | .wcrc c .. | .whash c .. | .fenceCore c | .fenceClus c | .fenceSys c | .trap c ..
  | .eret c | .wfd c .. | .rdst c .. | .wrst c .. => c
  | _ => 0

theorem scribeEncode_isSome (i : Instr) : (scribeEncode i).isSome = isScribe i := by
  cases i
  case wext c ew rd wa lane => cases h : laneOk ew lane <;> simp [scribeEncode, isScribe, h]
  case wins c ew wd ra lane => cases h : laneOk ew lane <;> simp [scribeEncode, isScribe, h]
  all_goals rfl

/-- What a decoder answers, if anything, is an instruction of core k. -/
def AnswersFor (k : Nat) (o : Option Instr) : Prop := ∀ i, o = some i → isScribe i = true ∧ scribeCore i = k

@[simp] theorem answersFor_none (k : Nat) : AnswersFor k none := fun _ h => nomatch h

@[simp] theorem answersFor_some {k : Nat} {i : Instr} : AnswersFor k (some i) ↔ isScribe i = true ∧ scribeCore i = k :=
  ⟨fun h => h i rfl, fun h _ e => Option.some.inj e ▸ h⟩

section
variable (k : Nat) (rd ra rb rc : BitVec 5) (imm : BitVec 16)

theorem decInt_answers (fn : BitVec 6) : AnswersFor k (decInt k rd ra rb rc fn) := by
  unfold decInt
  split
  · exact answersFor_none k
  · split <;> simp [isScribe, scribeCore]

theorem decShift_answers (hi : BitVec 8) (kind : BitVec 2) (sh : BitVec 6) : AnswersFor k (decShift k rd ra hi kind sh) := by
  unfold decShift
  split
  · exact answersFor_none k
  · split <;> simp [isScribe, scribeCore]

theorem decAmo_answers (hi : BitVec 2) (d : BitVec 1) (op : BitVec 3) : AnswersFor k (decAmo k rd ra rb rc hi d op) := by
  unfold decAmo
  split
  · exact answersFor_none k
  · by_cases hc : rc = 0 <;> simp only [hc, ne_eq, not_true_eq_false, not_false_eq_true, if_true, if_false] <;> split
    any_goals split
    all_goals simp [isScribe, scribeCore]

theorem decRes_answers (fn : BitVec 6) : AnswersFor k (decRes k rd ra rb rc fn) := by
  unfold decRes
  split
  · exact answersFor_none k
  · split <;> [split; split; skip; skip; skip] <;> simp [isScribe, scribeCore]

theorem decCache_answers (sel : BitVec 5) : AnswersFor k (decCache k sel ra imm) := by
  unfold decCache
  split <;> simp [isScribe, scribeCore]

theorem decBr_answers (cc : BitVec 3) (off : BitVec 13) : AnswersFor k (decBr k ra rb cc off) := by
  unfold decBr
  split <;> simp [isScribe, scribeCore]

theorem decWide_answers (wd wa wb : BitVec 4) (ls : BitVec 2) (z fn : BitVec 6) : AnswersFor k (decWide k wd wa wb ls z fn) := by
  unfold decWide
  split
  · exact answersFor_none k
  · by_cases hl : ls = 0 <;> simp only [hl, if_true, if_false] <;> split <;> simp [isScribe, scribeCore]

theorem decG_answers (ga : BitVec 5) (w : BitVec 4) (gb : BitVec 5) (ls : BitVec 2) (idx fn : BitVec 5) :
    AnswersFor k (decG k ga w gb ls idx fn) := by
  unfold decG
  split
  case h_1 | h_2 => split <;> simp [isScribe, scribeCore, *]
  case h_8 => split; split; all_goals simp [isScribe, scribeCore]
  case h_10 => exact answersFor_none k
  all_goals split <;> simp [isScribe, scribeCore]

theorem decSys_answers (n : BitVec 12) (fn : BitVec 4) : AnswersFor k (decSys k rd ra n fn) := by
  unfold decSys
  split
  case h_9 => exact answersFor_none k
  all_goals split <;> simp [isScribe, scribeCore]

end

/-- A word decodes to nothing, or to an instruction of the core that it is decoded for. -/
theorem scribeDecode_answers (k : Nat) (w : Word) : AnswersFor k (scribeDecode k w) := by
  unfold scribeDecode
  simp only
  split
  case h_1 => apply decInt_answers
  case h_8 => apply decShift_answers
  case h_24 => apply decAmo_answers
  case h_25 => apply decRes_answers
  case h_26 => apply decCache_answers
  case h_27 => apply decBr_answers
  case h_30 => apply decWide_answers
  case h_31 => apply decG_answers
  case h_32 => apply decSys_answers
  case h_33 => exact answersFor_none k
  case h_22 | h_23 => split <;> simp [isScribe, scribeCore]
  all_goals simp [isScribe, scribeCore]

@[simp] theorem bit1_beq (d : Bool) : (bit1 d == 1#1) = d := by cases d <;> rfl

theorem scribeDecode_amo_fields (k : Nat) (rd ra rb rc : BitVec 5) (d : Bool) (op : BitVec 3) :
    scribeDecode k (fmtR 0x20 rd ra rb rc (0#2 ++ bit1 d ++ op)) = decAmo k rd ra rb rc 0 (bit1 d) op := by
  have hi : (0#2 ++ bit1 d ++ op).extractLsb' 4 2 = 0 := by
    rw [extract_hi _ _ 4 2 (by decide), extract_hi _ _ 1 2 (by decide), extract_all]; rfl
  have hd : (0#2 ++ bit1 d ++ op).extractLsb' 3 1 = bit1 d := by
    rw [extract_hi _ _ 3 1 (by decide), extract_lo _ _ 0 1 (by decide), extract_all]
  have ho : (0#2 ++ bit1 d ++ op).extractLsb' 0 3 = op := by rw [extract_lo _ _ 0 3 (by decide), extract_all]
  rw [scribeDecode_amo, hi, hd, ho]

theorem scribeDecode_trap (k : Nat) (code : BitVec 8) : scribeDecode k (fmtSys 0 0 (0#4 ++ code) 4) = some (.trap k code) := by
  have hi : (0#4 ++ code).extractLsb' 8 4 = 0 := by rw [extract_hi _ _ 8 4 (by decide)]; rfl
  have ho : (0#4 ++ code).extractLsb' 0 8 = code := by rw [extract_lo _ _ 0 8 (by decide), extract_all]
  rw [scribeDecode_sys]
  simp [decSys, hi, ho]

/-- Decoding takes encoding back: the words of a format are told apart by opcode and function. -/
theorem scribeDecode_scribeEncode {i : Instr} {w : Word} (h : scribeEncode i = some w) : scribeDecode (scribeCore i) w = some i := by
  cases i
  case wext c ew rd wa lane | wins c ew wd ra lane =>
    obtain ⟨hl, rfl⟩ : laneOk ew lane = true ∧ _ = w := by simpa [scribeEncode] using h
    simp [scribeDecode_g, scribeCore, decG, hl]
  all_goals cases h
  case add | sub | and | or | xor | sll | srl | sra | slt | sltu | min | max | minu | maxu | mul | mulh | mulhu | div | divu | rem | remu =>
    exact scribeDecode_int ..
  case sllImmediate | srlImmediate | sraImmediate =>
    exact scribeDecode_shift_fields ..
  case amoAdd | amoSwp | amoCas | amoMin | amoMax | amoAnd | amoOr | amoXor =>
    exact (scribeDecode_amo_fields ..).trans (by simp [decAmo, scribeCore])
  case wadd | wsub | wand | wor | wxor | wcmpEq | wcmpLt | wcmpLtu | wshuf => exact scribeDecode_w ..
  case brEq | brNe | brLt | brGe | brLtu | brGeu => exact scribeDecode_br ..
  case wspl | wredAdd | wredMin | wredMax | wredXor | whash => exact scribeDecode_g ..
  case wcrc c p rd ra wb => cases p <;> exact scribeDecode_g ..
  case fenceCore | fenceClus | fenceSys | eret | wfd | rdst | wrst => exact scribeDecode_sys ..
  case trap => exact scribeDecode_trap ..
  case lui | addhi | jal => simp [scribeDecode, scribeCore, fmtU_0, fmtU_21, fmtU_26]
  case ldw | stw => simp [scribeDecode, scribeCore, fmtWI_0, fmtWI_16, fmtWI_21, fmtWI_22, fmtWI_26]
  case lresW | lresD | scndW | scndD =>
    simp [scribeDecode, scribeCore, decRes, fmtR_0, fmtR_6, fmtR_11, fmtR_16, fmtR_21, fmtR_26]
  all_goals simp [scribeDecode, scribeCore, decCache, fmtI_0, fmtI_16, fmtI_21, fmtI_26]

/-- A word whose major opcode R335 does not list decodes to nothing (R334). -/
theorem scribeDecode_unlisted (k : Nat) (w : Word) (h : (w.extractLsb' 26 6).toNat ∉ [0x01, 0x02, 0x03, 0x04, 0x05, 0x06, 0x07, 0x08,
    0x09, 0x0A, 0x10, 0x11, 0x12, 0x13, 0x14, 0x15, 0x16, 0x18, 0x19, 0x1A, 0x1B, 0x1C, 0x1D, 0x20, 0x21, 0x22, 0x28, 0x29, 0x2A, 0x30,
    0x31, 0x38]) : scribeDecode k w = none := by
  unfold scribeDecode
  simp only
  split
  case h_33 => rfl
  all_goals exact absurd (by simp [*]) h

end Sys2Proof.Machine

open Sys2Proof Sys2Proof.Machine

/-- Settles O59: encoding is defined on the scribe instructions, decoding takes it back, and what decodes is one of them, of the core
that it is decoded for. -/
theorem scribeWordsDecodeAsEncoded : Obligations.ScribeWordsDecodeAsEncoded := by
  have encoded (i : Instr) : isScribe i = true ↔ ∃ w, scribeEncode i = some w := by
    rw [← scribeEncode_isSome, Option.isSome_iff_exists]
  refine ⟨encoded, fun i w h => ⟨_, scribeDecode_scribeEncode h⟩, fun k w i h => ?_, scribeDecode_unlisted, fun k => ⟨?_, ?_, ?_⟩⟩
  · obtain ⟨hi, rfl⟩ := scribeDecode_answers k w i h
    obtain ⟨v, hv⟩ := (encoded i).1 hi
    exact ⟨v, hv, scribeDecode_scribeEncode hv⟩
  all_goals rfl
end

section
/-! PROOF. The machine as a whole: what a command answers, what a step runs, and the state after reset. -/
namespace Sys2Proof.Machine
open Config

/-- A command whose operands name units that exist is executed; any other ends in the fault (log entry 7). -/
def Answers (named : Bool) (o : Host.Outcome State Fault Refusal) : Prop :=
  (named = true → ∃ t, o = .next t) ∧ (named = false → o = .fault .noSuchUnit)

theorem answers_next (t : State) : Answers true (.next t) := ⟨fun _ => ⟨t, rfl⟩, nofun⟩

theorem answers_onUnit (n i : Nat) (t : State) : Answers (decide (i < n)) (onUnit n i t) :=
  ⟨fun h => ⟨t, if_pos (of_decide_eq_true h)⟩, fun h => if_neg (of_decide_eq_false h)⟩

theorem fifoPresent_eq_fifoOk (f : FifoId) : fifoPresent f = fifoOk f := by cases f <;> rfl

theorem answers_onFifo (f : FifoId) (t : State) : Answers (fifoOk f) (if fifoPresent f then .next t else .fault .noSuchUnit) := by
  rw [fifoPresent_eq_fifoOk]
  exact ⟨fun h => ⟨t, if_pos h⟩, fun h => if_neg (by simp [h])⟩

/-- The commands that name no unit answer a next state; the others are on a unit that they name. -/
theorem exec_answers (c : Instr) (s : State) : Answers c.wellFormed (exec c s) := by
  cases c
  case coldReset | railUndervoltage | release | warmReset | lifecycleTransition | programKeyHash | programCompatLock |
    timebaseTick | timebaseLockReturn | enterFatalState | damperTempRead | wearAccumulate | pwrBrakeAssert | pwrBrakeRelease
    | registerWrite | lowWordRead | lowWordWrite | tvVoteSweep | indDataRead | indDataWrite | indClaimRead | indClaimRelease
    | mgmtEntdaa | mgmtSetPointer | mgmtWrite4 | mgmtWrite8 | mgmtPrivateRead | purgeSweepComplete | rdShared | rdOwn |
    upgrade | rdUc | wrLine | wrPart | zeroLine | amo | maintClean | maintInv | maintCleanInv | maintCleanAll | prefetch |
    snpAckI | snpAckS | snpDataI | snpDataS | snpGone | snpMiss | evictClean | evictDirty | gack | snoopTimeout | agentMsg |
    purgeNotice | messageForward | dataUc | wrDone | amoData | cmp | msgDone | noTarget | wayErrorCountClear | cxCmdPush |
    cxRspPop | cxCommandStart | nop | cxCopy | cxFill | maintRange | maintSw | cxCommandComplete | cxRgnWrite |
    thresholdSample | clearAll | dumpPeriod | dumpNow | dumpDone | blotterEnable | blotterRecord | blotterRecordWaitExpire |
    blotterDrainWrite | eventSequence | eventMsgSend | crashLogWrite | damperPass | avsPoll | avsVoltageStep | resetNRise |
    fuseProgrammingComplete | crashLogWriteComplete | boundaryScan => exact answers_next _
  case fifoPop | fifoClear => exact answers_onFifo ..
  all_goals exact answers_onUnit ..

end Sys2Proof.Machine

open Sys2Proof Sys2Proof.Machine

/-- Settles O58: every command is on a unit, or names none. -/
theorem commandsOnExistingUnitsRun : Obligations.CommandsOnExistingUnitsRun := exec_answers

/-- Settles O56: the front command is taken off the queue before it runs. -/
theorem aStepRunsTheFrontCommand : Obligations.AStepRunsTheFrontCommand := by
  refine ⟨fun s c => rfl, fun s c rest h => ?_, fun s h => ?_⟩
  · simp only [step, h]
  · simp only [step, h]

/-- Settles O57: the stores are empty, so every unit is at its default; the registers are looked up in their tables. -/
theorem resetLeavesTheTabledValues : Obligations.ResetLeavesTheTabledValues := by
  refine ⟨rfl, rfl, rfl, rfl, fun d => ⟨rfl, rfl⟩, fun n => rfl, fun line => rfl, ?_, nofun⟩
  decide
end

section
/-! PROOF. The wide instructions that write a general register (R349, R350): a lane, reductions, CRC and hash steps. -/
namespace Sys2Proof.Machine
open Config

/-! ## The best lane -/

section Best
variable {better : Int → Int → Bool}

/-- The better of two values, the first where neither is. -/
def pick (better : Int → Int → Bool) (a b : Int) : Int := if better b a then b else a

theorem foldl_pick_mem (l : List Int) (a : Int) : l.foldl (pick better) a ∈ a :: l := by
  induction l generalizing a with
  | nil => exact List.mem_cons_self
  | cons b l ih =>
    have hp : pick better a b = a ∨ pick better a b = b := by unfold pick; split <;> simp
    obtain h | h := List.mem_cons.1 (ih (pick better a b))
    · rw [List.foldl_cons, h]; rcases hp with hp | hp <;> simp [hp]
    · exact List.mem_cons_of_mem _ (List.mem_cons_of_mem _ h)

/-- Nothing is better than the best, where being better is a strict order with comparable sides. -/
theorem foldl_pick_best (asymm : ∀ x y, better x y = true → better y x = false)
    (trans : ∀ x y z, better x y = false → better y z = false → better x z = false) (l : List Int) (a : Int) :
    ∀ x ∈ a :: l, better x (l.foldl (pick better) a) = false := by
  have irrefl (x : Int) : better x x = false := by
    cases h : better x x with
    | false => rfl
    | true => exact h.symm.trans (asymm x x h)
  induction l generalizing a with
  | nil => intro x hx; obtain rfl := List.mem_singleton.1 hx; exact irrefl x
  | cons b l ih =>
    have best := ih (pick better a b)
    have picked : better a (pick better a b) = false ∧ better b (pick better a b) = false := by
      unfold pick
      cases h : better b a with
      | true => exact ⟨asymm b a h, irrefl b⟩
      | false => exact ⟨irrefl a, h⟩
    have hp := best _ List.mem_cons_self
    intro x hx
    rcases List.mem_cons.1 hx with rfl | hx
    · exact trans _ _ _ picked.1 hp
    rcases List.mem_cons.1 hx with rfl | hx
    · exact trans _ _ _ picked.2 hp
    · exact best x (List.mem_cons_of_mem _ hx)

end Best

theorem sval_bounds {w : Nat} (hw : w ≤ 64) (v : Nat) : -2 ^ 63 ≤ sval w v ∧ sval w v < 2 ^ 63 := by
  have hp : (2 : Int) ^ (w - 1) ≤ 2 ^ 63 := pow_le_pow_right₀ (by decide) (by omega)
  have lo := BitVec.le_toInt (BitVec.ofNat w v)
  have hi := BitVec.toInt_lt (x := BitVec.ofNat w v)
  exact ⟨by unfold sval; omega, by unfold sval; omega⟩

theorem laneW_le (ew : BitVec 2) : laneW ew ≤ 64 := by decide +revert

theorem laneN_pos (ew : BitVec 2) : 0 < laneN ew := by decide +revert

/-- The signed lanes of a register, in order. -/
def signedLanes (ew : BitVec 2) (v : Wide) : List Int := (List.range (laneN ew)).map fun i => sval (laneW ew) (lane ew v i)

theorem mem_signedLanes {ew : BitVec 2} {v : Wide} {z : Int} :
    z ∈ signedLanes ew v ↔ ∃ i < laneN ew, z = sval (laneW ew) (lane ew v i) := by
  simp [signedLanes, eq_comm]

/-- The best of the signed lanes is one of them, as a number of 64 bits, and none is better. -/
theorem bestLane_spec {better : Int → Int → Bool} (asymm : ∀ x y, better x y = true → better y x = false)
    (trans : ∀ x y z, better x y = false → better y z = false → better x z = false) (ew : BitVec 2) (v : Wide) :
    ∀ r, r = bestLane ew better ((List.range (laneN ew)).map (lane ew v)) →
      (∃ i < laneN ew, r.toInt = sval (laneW ew) (lane ew v i)) ∧
      ∀ i < laneN ew, better (sval (laneW ew) (lane ew v i)) r.toInt = false := by
  rintro r rfl
  have hl : ((List.range (laneN ew)).map (lane ew v)).map (fun a => sval (laneW ew) a) = signedLanes ew v := List.map_map
  have hne : signedLanes ew v ≠ [] := by
    simpa [signedLanes] using (laneN_pos ew).ne'
  obtain ⟨z, l, hz⟩ := List.exists_cons_of_ne_nil hne
  have hr : bestLane ew better ((List.range (laneN ew)).map (lane ew v)) = BitVec.ofInt 64 ((z :: l).foldl (pick better) z) := by
    simp only [bestLane, hl, hz]; rfl
  have hm : (z :: l).foldl (pick better) z ∈ signedLanes ew v := by
    rw [hz]; simpa using foldl_pick_mem (better := better) (z :: l) z
  obtain ⟨i, hi, he⟩ := mem_signedLanes.1 hm
  have bounds := sval_bounds (laneW_le ew) (lane ew v i)
  have hint : (BitVec.ofInt 64 ((z :: l).foldl (pick better) z)).toInt = (z :: l).foldl (pick better) z := by
    rw [he]; exact BitVec.toInt_ofInt_eq_self (by decide) bounds.1 bounds.2
  rw [hr, hint]
  exact ⟨⟨i, hi, he⟩, fun j hj => foldl_pick_best asymm trans (z :: l) z _
    (List.mem_cons_of_mem _ (hz ▸ mem_signedLanes.2 ⟨j, hj, rfl⟩))⟩

/-! ## The exclusive or of the lanes -/

theorem testBit_foldl_xor (l : List Nat) (a j : Nat) :
    (l.foldl (· ^^^ ·) a).testBit j = (a.testBit j ^^ ((l.filter (·.testBit j)).length % 2 == 1)) := by
  induction l generalizing a with
  | nil => simp
  | cons b l ih =>
    rw [List.foldl_cons, ih, Nat.testBit_xor, List.filter_cons]
    cases b.testBit j with
    | false => simp
    | true =>
      have parity : ((l.filter (·.testBit j)).length + 1) % 2 = 1 - (l.filter (·.testBit j)).length % 2 := by omega
      have lt := Nat.mod_lt (l.filter (·.testBit j)).length (show 0 < 2 by decide)
      simp only [if_true, List.length_cons, parity]
      generalize (l.filter (·.testBit j)).length % 2 = p at lt
      interval_cases p <;> simp

theorem getLsbD_xorLanes (f : Nat → Nat) (n : Nat) {j : Nat} (hj : j < 64) :
    (BitVec.ofNat 64 (((List.range n).map f).foldl (· ^^^ ·) 0)).getLsbD j =
      (((List.range n).filter fun i => (f i).testBit j).length % 2 == 1) := by
  rw [BitVec.getLsbD_ofNat, testBit_foldl_xor, List.filter_map, List.length_map]
  simp [hj, Function.comp_def]

/-! ## CRC and hash steps (R350) -/

theorem bytesLE_eq_map (n v : Nat) : bytesLE n v = (List.range n).map fun i => BitVec.ofNat 8 (v / 2 ^ (8 * i)) := by
  induction n generalizing v with
  | zero => rfl
  | succ n ih =>
    rw [bytesLE, ih, List.range_succ_eq_map, List.map_cons, List.map_map]
    congr 1
    · simp
    · refine List.map_congr_left fun i _ => ?_
      rw [Nat.div_div_eq_div_mul, Function.comp_apply, Nat.mul_succ, Nat.pow_add, Nat.mul_comm]

theorem crcRefl_eq_iterate (poly : DWord) (n : Nat) (c : DWord) :
    crcRefl poly n c = (fun c => if c.getLsbD 0 then (c >>> 1) ^^^ poly else c >>> 1)^[n] c := by
  induction n generalizing c with
  | zero => rfl
  | succ n ih => rw [crcRefl, ih, Function.iterate_succ_apply]

theorem setWidth_byte (w : Wide) (i : Nat) :
    (BitVec.ofNat 8 (w.toNat / 2 ^ (8 * i))).setWidth 64 = BitVec.ofNat 64 (lane 0 w i) := by
  apply BitVec.eq_of_toNat_eq
  simp [lane, laneW, bitsOf]

theorem crcStart_eq (p : Bool) (c : DWord) : crcStart p c = if p then c else BitVec.ofNat 64 (c.toNat % 2 ^ 32) := by
  cases p
  · apply BitVec.eq_of_toNat_eq
    have mask : c.toNat &&& 0xFFFFFFFF = c.toNat % 2 ^ 32 := Nat.and_two_pow_sub_one_eq_mod _ 32
    have lt : c.toNat % 2 ^ 32 < 2 ^ 64 := (Nat.mod_lt _ (by decide)).trans (by decide)
    simp only [crcStart, Bool.false_eq_true, if_false, BitVec.toNat_and, BitVec.toNat_ofNat, Nat.mod_eq_of_lt lt]
    exact mask
  · rfl

/-- A CRC step over the bytes of a wide register, one byte and eight bit steps after the other. -/
theorem crcMoreBytes_wide (poly c : DWord) (w : Wide) : crcMoreBytes poly c (bytesLE 32 w.toNat) =
    (List.range 32).foldl (fun c n => (fun c => if c.getLsbD 0 then (c >>> 1) ^^^ poly else c >>> 1)^[8]
      (c ^^^ BitVec.ofNat 64 (lane 0 w n))) c := by
  simp only [crcMoreBytes, bytesLE_eq_map, List.foldl_map, crcRefl_eq_iterate, setWidth_byte]

theorem hashStep_lanes (h : DWord) (w : Wide) : hashStep h ((List.range 4).map fun i => BitVec.ofNat 64 (lane 3 w i)) =
    (List.range 4).foldl (fun h i => (h ^^^ BitVec.ofNat 64 (lane 3 w i)).rotateLeft 31 * 0x9E3779B97F4A7C15) h := List.foldl_map

/-! ## The instructions -/

/-- A reduction writes a value of the lanes of its operand that its rule allows. -/
def Reduces (op : (Nat → BitVec 2 → BitVec 5 → BitVec 4 → Instr) × (BitVec 2 → Wide → DWord → Prop)) : Prop :=
  ∀ (s : State) (k : Nat) (ew : BitVec 2) (rd : BitVec 5) (wa : BitVec 4), Runs s k →
    ∃ t r, exec (op.1 k ew rd wa) s = .next t ∧ op.2 ew ((s.core k).wide wa) r ∧
      Completes s t k ((s.core k).pc + 4) (gWith (s.core k) rd r) (s.core k).wide

theorem reduces {i : Nat → BitVec 2 → BitVec 5 → BitVec 4 → Instr} {f : BitVec 2 → List Nat → DWord}
    {rule : BitVec 2 → Wide → DWord → Prop} (value : ∀ ew v, rule ew v (f ew ((List.range (laneN ew)).map (lane ew v))))
    (meaning : ∀ k ew rd wa s, exec (i k ew rd wa) s = onCore k s (reduce (f ew) ew rd wa k) := by intros; rfl) :
    Reduces (i, rule) := fun s k ew rd wa h => by
  rw [meaning]
  obtain ⟨t, ht, hc⟩ := onCore_setG h (f := reduce (f ew) ew rd wa k) rfl
  exact ⟨t, _, ht, value ew _, hc⟩

theorem wext_completes {s : State} {k : Nat} (h : Runs s k) {ew : BitVec 2} (rd : BitVec 5) (wa : BitVec 4) {ix : BitVec 5}
    (hx : ix.toNat < laneN ew) : ∃ t, exec (.wext k ew rd wa ix) s = .next t ∧
      Completes s t k ((s.core k).pc + 4) (gWith (s.core k) rd (BitVec.ofNat 64 (lane ew ((s.core k).wide wa) ix.toNat)))
        (s.core k).wide :=
  onCore_setG h (if_neg (Nat.not_le.2 hx))

end Sys2Proof.Machine

open Sys2Proof Sys2Proof.Machine Sys2Proof.Config

/-- Settles O5: each operation writes rd, with the value that its fold over the lanes or bytes has. -/
theorem wideReductionsWriteAGeneralRegister : Obligations.WideReductionsWriteAGeneralRegister := by
  refine ⟨fun s k ew rd wa ix h hx => wext_completes h rd wa hx, ?_, fun s k p rd ra wb h => ?_, fun s k rd ra wb h => ?_⟩
  · have min (ew v) := bestLane_spec (better := fun b a => decide (b < a)) (by simp; omega) (by simp; omega) ew v _ rfl
    have max (ew v) := bestLane_spec (better := fun b a => decide (a < b)) (by simp; omega) (by simp; omega) ew v _ rfl
    simp only [decide_eq_false_iff_not, Int.not_lt] at min max
    change ∀ op ∈ _, Reduces op
    simp only [List.forall_mem_cons, List.not_mem_nil, false_imp_iff, implies_true, and_true]
    exact ⟨reduces fun _ _ => rfl, reduces min, reduces max, reduces fun _ _ _ => getLsbD_xorLanes _ _⟩
  · rw [← crcStart_eq, show (if p then 0xC96C5795D7870F42 else 0x82F63B78 : DWord) = if p then crcPoly64 else crcPoly32 from rfl,
      ← crcMoreBytes_wide]
    exact onCore_setG h rfl
  · rw [← hashStep_lanes]
    exact onCore_setG h rfl
end

section
/-! PROOF. Loads, stores and atomics on the slate (R300, R340, R342): the bytes they read and write, and how they complete. -/
namespace Sys2Proof.Machine
open Config

variable {s t u : State} {k off n : Nat}

/-! ## How an instruction on the slate completes -/

/-- From s to u only registers of core k, the cluster of core k and its counts of slate accesses and atomics may differ. -/
structure OnSlate (s u : State) (k : Nat) : Prop where
  cores : ∀ j, j ≠ k → u.core j = s.core j
  clusters : ∀ c, c ≠ k / 8 → u.cluster c = s.cluster c
  counters : ∀ n, n ≠ slotOf (36 + k / 8) 6 → n ≠ slotOf (36 + k / 8) 8 → sget zeroD u.acc n = sget zeroD s.acc n
  rest : u = { s with cores := u.cores, acc := u.acc, clusters := u.clusters }

theorem OnSlate.trans (h : OnSlate s t k) (j : OnSlate t u k) : OnSlate s u k where
  cores i hi := (j.cores i hi).trans (h.cores i hi)
  clusters c hc := (j.clusters c hc).trans (h.clusters c hc)
  counters n h6 h8 := (j.counters n h6 h8).trans (h.counters n h6 h8)
  rest := by have e := j.rest; rw [h.rest] at e; exact e

theorem onSlate_count (s : State) (k n : Nat) {i : Nat} (hi : i = 6 ∨ i = 8) : OnSlate s (s.count (36 + k / 8) i n) k where
  cores _ _ := State.core_count ..
  clusters _ _ := State.cluster_count ..
  counters m h6 h8 := State.acc_count_other s n (by rcases hi with rfl | rfl <;> assumption)
  rest := by rw [State.count_frame]

theorem onSlate_modCluster (s : State) (k : Nat) (f : Cluster → Cluster) : OnSlate s (s.modCluster (k / 8) f) k where
  cores _ _ := State.core_modCluster ..
  clusters _ h := State.cluster_modCluster_other s f h
  counters _ _ _ := rfl
  rest := rfl

theorem onSlate_modCore (s : State) (k : Nat) (f : Core → Core) : OnSlate s (s.modCore k f) k where
  cores _ h := State.core_modCore_other s f h
  clusters _ _ := rfl
  counters _ _ _ := rfl
  rest := rfl

/-- An instruction that has changed registers and the slate, and goes on with the next one, completes. -/
theorem OnSlate.retire_completes (h : Runs s k) (hu : OnSlate s u k) (hf : SameButRegs (s.core k) (u.core k))
    (hp : (u.core k).pc = (s.core k).pc) :
    CompletesSlate s (retire u k) k ((s.core k).pc + 4) (u.core k).gr (u.core k).wide ∧
      ∀ c, (retire u k).cluster c = u.cluster c := by
  have hd : u.doms = s.doms := by rw [hu.rest]
  have hr : u.reg = s.reg := by rw [hu.rest]
  have hg := (groupCounts_congr (36 + k / 8) hd hr (by rw [hu.rest])).trans h.counts
  have hnf : NotFollowed s k → NotFollowed u k := fun h => by rw [hu.rest]; exact h
  have kept (i : Nat) (h6 : i ≠ 6) (h8 : i ≠ 8) (g : Nat) : g = 36 + k / 8 → u.slot g i = s.slot g i := by
    rintro rfl; exact hu.counters _ (by unfold slotOf; omega) (by unfold slotOf; omega)
  obtain ⟨⟨l, hk⟩, ran, hoff, hs, hn⟩ := retireTo_spec u ((s.core k).pc + 4) hg h.core
  unfold SameButRegs at hf
  rw [show retire u k = retireTo u k ((s.core k).pc + 4) by rw [retire, hp]]
  generalize retireTo u k ((s.core k).pc + 4) = t at hk ran hoff hs hn ⊢
  have hc : t.clusters = u.clusters := (congrArg State.clusters ran.rest :)
  refine ⟨⟨⟨by rw [hk], fun i => by rw [hk]; rfl, fun i => by rw [hk]; rfl, ?_, ?_⟩,
    ⟨fun j hj => (ran.cores j hj).trans (hu.cores j hj), fun m hb hm hd => ?_⟩, ⟨?_, ?_, ?_, fun hn => ?_⟩, fun c h => ?_⟩, fun c => ?_⟩
  · unfold SameButRegs; rw [hk, hf]
  · rw [hs, kept 0 (by decide) (by decide) _ rfl]
  · rw [← hu.counters m (hm 6 (by simp)) (hm 8 (by simp))]
    exact hn m hb (hm 0 (by simp)) (hm 4 (by simp)) (hd.imp_right hnf)
  · have e := ran.rest
    rw [hu.rest] at e
    rw [hc]
    exact e
  · exact fun o ho => (ran.regs o ho).trans (State.rd_congr hr o)
  · exact fun d h3 h61 => (ran.domains d h3 h61).trans (by rw [State.dom, hd]; rfl)
  · have e := hoff (hnf hn)
    rw [hu.rest] at e
    rw [hc]
    exact e
  · rw [State.cluster, hc]; exact hu.clusters c h
  · rw [State.cluster, hc]; rfl

/-! ## The bytes of the slate (R21) -/

theorem ofBytesLE_lt (l : List Byte) : ofBytesLE l < 2 ^ (8 * l.length) := by
  induction l with
  | nil => exact Nat.one_pos
  | cons b l ih =>
    have hb := b.isLt
    rw [ofBytesLE, List.length_cons, Nat.mul_succ, Nat.pow_add]
    omega

theorem ofBytesLE_digit (l : List Byte) {i : Nat} (h : i < l.length) : ofBytesLE l / 2 ^ (8 * i) % 256 = l[i].toNat := by
  induction l generalizing i with
  | nil => exact absurd h (Nat.not_lt_zero i)
  | cons b l ih =>
    have hb := b.isLt
    cases i with
    | zero => simp only [ofBytesLE, Nat.mul_zero, Nat.pow_zero, Nat.div_one, List.getElem_cons_zero]; omega
    | succ i =>
      have hd : (b.toNat + 256 * ofBytesLE l) / 256 = ofBytesLE l := by omega
      rw [ofBytesLE, Nat.mul_succ, Nat.add_comm (8 * i), Nat.pow_add, ← Nat.div_div_eq_div_mul, hd]
      exact ih (Nat.lt_of_succ_lt_succ h)

theorem slateNumber_slateRead (s : State) (c off n : Nat) : SlateNumber (s.cluster c) off n (slateRead s c off n) := by
  refine ⟨?_, fun i hi => ?_⟩
  · simpa [slateRead] using ofBytesLE_lt ((List.range n).map fun i => sget byteD (s.cluster c).slate (off + i))
  · rw [slateRead, ofBytesLE_digit _ (by simpa using hi)]
    simp [Cluster.byte]

/-- Bytes written one after the other, the i-th at off + i. -/
theorem sget_foldl_sset (m : Store Byte) (off n : Nat) (f : Nat → Byte) (o : Nat) :
    sget byteD ((List.range n).foldl (fun m i => sset byteD m (off + i) (f i)) m) o =
      if off ≤ o ∧ o < off + n then f (o - off) else sget byteD m o := by
  induction n with
  | zero => simp [show ¬ (off ≤ o ∧ o < off) by omega]
  | succ n ih =>
    rw [List.range_succ, List.foldl_append, List.foldl_cons, List.foldl_nil]
    by_cases he : o = off + n
    · subst he
      rw [sget_sset_same, if_pos (by omega), Nat.add_sub_cancel_left]
    · rw [sget_sset_other _ _ _ he, ih]
      exact if_congr (by omega) rfl rfl

/-- No wrong word of the slate of a cluster lies within n bytes at an offset (R301). -/
def SlateClean (x : Cluster) (off n : Nat) : Prop := ∀ e ∈ x.slateErr, 8 * e.1 + 8 ≤ off ∨ off + n ≤ 8 * e.1

theorem slateWrite_written (v : Nat) (c : Nat) (clean : SlateClean (s.cluster c) off n) :
    SlateWritten (s.cluster c) ((slateWrite s c off n v).cluster c) off n v := by
  rw [slateWrite, State.cluster_modCluster_same]
  refine ⟨?_, fun o => ?_⟩
  · have kept : (s.cluster c).slateErr.filter (fun e => !(decide (off ≤ 8 * e.1) && decide (8 * e.1 + 8 ≤ off + n))) =
        (s.cluster c).slateErr := List.filter_eq_self.2 fun e he => by
      have := clean e he
      simp only [Bool.not_eq_true', Bool.and_eq_false_iff, decide_eq_false_iff_not]
      omega
    rw [kept]
  · simp only [Cluster.byte, sget_foldl_sset]
    split
    · simp
    · rfl

/-- Only the digits that a store of n bytes takes count. -/
theorem SlateWritten.of_mod {c d : Cluster} {v : Nat} (h : SlateWritten c d off n (v % 2 ^ (8 * n))) : SlateWritten c d off n v := by
  refine ⟨h.1, fun o => (h.2 o).trans ?_⟩
  split
  · obtain ⟨i, hi⟩ := Nat.exists_eq_add_of_lt (show o - off < n by omega)
    have hp : 2 ^ (8 * n) = 2 ^ (8 * (o - off)) * (256 * 2 ^ (8 * i)) := by
      rw [hi, show (256 : Nat) = 2 ^ 8 by rfl, ← Nat.pow_add, ← Nat.pow_add]; congr 1; ring
    rw [hp, Nat.mod_mul_right_div_self, Nat.mod_mul_right_mod]
  · rfl

/-! ## The check of the words that an access reads (R301) -/

theorem slateCheck_clean (clean : SlateClean (s.cluster (k / 8)) off n) :
    slateCheck s k off n = (s.modCluster (k / 8) fun x => x, false) := by
  have none : (s.cluster (k / 8)).slateErr.filter (fun e => decide (8 * e.1 < off + n) && decide (off < 8 * e.1 + 8)) = [] :=
    List.filter_eq_nil_iff.2 fun e he => by
      have := clean e he
      simp only [Bool.and_eq_true, decide_eq_true_eq]
      omega
  simp [slateCheck, none]

theorem slateAct_clean (clean : SlateClean (s.cluster (k / 8)) off n) (f : State → State) : slateAct s k off n f = .go f := by
  have sound : slateBad s k off n = false := List.any_eq_false.2 fun e he => by
    have := clean e he
    simp only [Bool.and_eq_true, decide_eq_true_eq]
    omega
  rw [slateAct, sound]; rfl

/-! ## Loads -/

theorem SlateAccess.missing_eq_zero {a : PA} (h : SlateAccess s k a off n) (need : Nat) : missing (s.core k) (.slate off) a need = 0 := by
  rcases h.allowed with h | h <;> simp [missing, h]

theorem SlateAccess.placeOf_eq {a : PA} (h : SlateAccess s k a off n) : placeOf s (s.core k) a = .slate off := by
  simp [placeOf, h.place]

theorem setDest_g (x : Core) (rd : BitVec 5) (v n : Nat) (sext : Bool) :
    setDest x (.g rd.toNat) v n sext = x.setG rd (if sext then BitVec.ofInt 64 (sval (8 * n) v) else BitVec.ofNat 64 v) := by
  simp [setDest, sval, BitVec.signExtend]

theorem setDest_w (x : Core) (wd : BitVec 4) (v n : Nat) (sext : Bool) :
    setDest x (.w wd.toNat) v n sext = x.setWide wd (BitVec.ofNat 256 v) := by
  simp [setDest]

/-- A load on the slate is one access, whose bytes are delivered. -/
theorem loadOp_slate {ra : BitVec 5} {imm : BitVec 16} {a : PA} (ha : a = effAddr ((s.core k).gr ra) imm) (h : SlateAccess s k a off n)
    (d : Dest) (sext : Bool) : loadOp s k d ra imm n sext (s.core k) = .go fun s => loadSlate s k d a off n sext := by
  subst ha
  simp only [loadOp, h.placeOf_eq, h.aligned, h.missing_eq_zero, ne_eq, not_true_eq_false, if_false]
  exact slateAct_clean h.clean _

theorem storeOp_slate {ra : BitVec 5} {imm : BitVec 16} {a : PA} (ha : a = effAddr ((s.core k).gr ra) imm) (h : SlateAccess s k a off n)
    (v : Core → Nat) : storeOp s k ra imm n v (s.core k) = .go fun t => retire (slateWrite (slateCount t k) (k / 8) off n (v (s.core k))) k := by
  subst ha
  simp only [storeOp, h.placeOf_eq, h.aligned, h.missing_eq_zero, ne_eq, not_true_eq_false, if_false]

/-- A load from the slate: f writes the loaded number to a register of the core. -/
theorem loadSlate_completes {d : Dest} {a : PA} {sext : Bool} {f : Nat → Core → Core} (h : Runs s k)
    (clean : SlateClean (s.cluster (k / 8)) off n) (hd : ∀ v x, setDest x d v n sext = f v x)
    (hf : ∀ v x, SameButRegs x (f v x) ∧ (f v x).pc = x.pc) :
    ∃ v, SlateNumber (s.cluster (k / 8)) off n v ∧
      CompletesSlate s (loadSlate s k d a off n sext) k ((s.core k).pc + 4) (f v (s.core k)).gr (f v (s.core k)).wide ∧
      (loadSlate s k d a off n sext).cluster (k / 8) = s.cluster (k / 8) := by
  let u := (slateCount s k).modCluster (k / 8) fun x => x
  have counted : (slateCount s k).cluster (k / 8) = s.cluster (k / 8) := State.cluster_count ..
  have hu : u.cluster (k / 8) = s.cluster (k / 8) := (State.cluster_modCluster_same ..).trans counted
  have number := slateNumber_slateRead u (k / 8) off n
  rw [hu] at number
  refine ⟨_, number, ?_⟩
  have hl : loadSlate s k d a off n sext = retire (u.modCore k (f (slateRead u (k / 8) off n))) k := by
    simp only [loadSlate, slateCheck_clean (show SlateClean ((slateCount s k).cluster (k / 8)) off n from counted ▸ clean), deliver, hd]
    rfl
  have hx : (u.modCore k (f (slateRead u (k / 8) off n))).core k = f (slateRead u (k / 8) off n) (s.core k) := by
    rw [State.core_modCore_same, State.core_modCluster, slateCount, State.core_count]
  have on := ((onSlate_count s k 1 (.inl rfl)).trans (onSlate_modCluster _ k _)).trans
    (onSlate_modCore u k (f (slateRead u (k / 8) off n)))
  have done := on.retire_completes h (by rw [hx]; exact (hf _ _).1) (by rw [hx]; exact (hf _ _).2)
  rw [hx, ← hl] at done
  exact ⟨done.1, (done.2 _).trans hu⟩

/-! ## Stores -/

theorem storeSlate_completes (h : Runs s k) (clean : SlateClean (s.cluster (k / 8)) off n) (v : Nat) :
    CompletesSlate s (retire (slateWrite (slateCount s k) (k / 8) off n v) k) k ((s.core k).pc + 4) (s.core k).gr (s.core k).wide ∧
      SlateWritten (s.cluster (k / 8)) ((retire (slateWrite (slateCount s k) (k / 8) off n v) k).cluster (k / 8)) off n v := by
  have counted : (slateCount s k).cluster (k / 8) = s.cluster (k / 8) := State.cluster_count ..
  have on : OnSlate s (slateWrite (slateCount s k) (k / 8) off n v) k := (onSlate_count s k 1 (.inl rfl)).trans (onSlate_modCluster _ k _)
  have hx : (slateWrite (slateCount s k) (k / 8) off n v).core k = s.core k := by
    rw [slateWrite, State.core_modCluster, slateCount, State.core_count]
  have done := on.retire_completes h (by rw [hx]; exact sameButRegs_refl _) (by rw [hx])
  have written := slateWrite_written (s := slateCount s k) v (k / 8) (counted ▸ clean)
  rw [hx] at done
  rw [counted] at written
  exact ⟨done.1, by rw [done.2]; exact written⟩

/-- A store instruction of n bytes: what it takes of its register, and its meaning. -/
theorem store_writes {ra : BitVec 5} {imm : BitVec 16} {v : Core → Nat} {w : Nat} (h : Runs s k)
    (access : SlateAccess s k (effAddr ((s.core k).gr ra) imm) off n) (value : v (s.core k) = w % 2 ^ (8 * n)) :
    ∃ t, onCore k s (storeOp s k ra imm n v) = .next t ∧ CompletesSlate s t k ((s.core k).pc + 4) (s.core k).gr (s.core k).wide ∧
      SlateWritten (s.cluster (k / 8)) (t.cluster (k / 8)) off n w := by
  have done := storeSlate_completes h access.clean (v (s.core k))
  refine ⟨_, onCore_go h _ _ (storeOp_slate rfl access v), done.1, ?_⟩
  rw [value] at done ⊢
  exact done.2.of_mod

/-! ## Atomics -/

theorem amoOp_slate {ra rb rd : BitVec 5} {a : PA} {dword : Bool} (ha : a = ((s.core k).gr ra).setWidth 52)
    (hn : n = if dword then 8 else 4) (h : SlateAccess s k a off n) (op : Nat) (cmp : Core → DWord) :
    amoOp s k dword op rd ra rb cmp (s.core k) =
      .go fun s' => amoSlate s' k rd a off n op ((s.core k).gr rb) (cmp (s.core k)) := by
  subst ha hn
  simp only [amoOp, h.placeOf_eq, h.aligned, h.missing_eq_zero, ne_eq, not_true_eq_false, if_false]
  exact slateAct_clean h.clean _

/-- An atomic on the slate returns the number before it and leaves the new one. -/
theorem amoSlate_completes {rd : BitVec 5} {a : PA} (h : Runs s k) (clean : SlateClean (s.cluster (k / 8)) off n) (op : Nat)
    (opnd cmp : DWord) : ∃ v, SlateNumber (s.cluster (k / 8)) off n v ∧
      CompletesSlate s (amoSlate s k rd a off n op opnd cmp) k ((s.core k).pc + 4)
        (gWith (s.core k) rd (BitVec.ofInt 64 (sval (8 * n) v))) (s.core k).wide ∧
      SlateWritten (s.cluster (k / 8)) ((amoSlate s k rd a off n op opnd cmp).cluster (k / 8)) off n
        (amoValue op (8 * n) v (opnd.toNat % 2 ^ (8 * n)) (cmp.toNat % 2 ^ (8 * n))) := by
  let counted := (slateCount s k).count (36 + k / 8) 8 1
  let u := counted.modCluster (k / 8) fun x => x
  let old := slateRead u (k / 8) off n
  let new := amoValue op (8 * n) old (opnd.toNat % 2 ^ (8 * n)) (cmp.toNat % 2 ^ (8 * n))
  let f := fun x : Core => x.setG rd (BitVec.ofInt 64 (sval (8 * n) old))
  have hcount : counted.cluster (k / 8) = s.cluster (k / 8) := (State.cluster_count ..).trans (State.cluster_count ..)
  have hu : u.cluster (k / 8) = s.cluster (k / 8) := (State.cluster_modCluster_same ..).trans hcount
  have number : SlateNumber (u.cluster (k / 8)) off n old := slateNumber_slateRead ..
  have written : SlateWritten (u.cluster (k / 8)) ((slateWrite u (k / 8) off n new).cluster (k / 8)) off n new :=
    slateWrite_written new (k / 8) (hu ▸ clean)
  rw [hu] at number written
  have ha : amoSlate s k rd a off n op opnd cmp = retire ((slateWrite u (k / 8) off n new).modCore k f) k := by
    have check : slateCheck ((slateCount s k).count (36 + k / 8) 8 1) k off n = (u, false) := slateCheck_clean (hcount ▸ clean)
    simp only [amoSlate, check, deliver, setDest_g]
    rfl
  have hx : ((slateWrite u (k / 8) off n new).modCore k f).core k = f (s.core k) := by
    rw [State.core_modCore_same, slateWrite, State.core_modCluster, State.core_modCluster, State.core_count, slateCount,
      State.core_count]
  have on : OnSlate s ((slateWrite u (k / 8) off n new).modCore k f) k :=
    (((onSlate_count s k 1 (.inl rfl)).trans (onSlate_count _ k 1 (.inr rfl))).trans (onSlate_modCluster _ k _)).trans
      ((onSlate_modCluster _ k _).trans (onSlate_modCore _ k f))
  have done := on.retire_completes h (by rw [hx]; exact sameButRegs_setG ..) (by rw [hx]; exact Core.pc_setG ..)
  rw [hx, ← ha, Core.gr_setG_eq, Core.wide_setG_eq] at done
  exact ⟨old, number, done.1, by rw [done.2]; exact written⟩

/-- Instruction i is the atomic whose new value is the rule's, on a number of the slate and an operand. -/
def SlateAtomic (op : (Nat → Bool → BitVec 5 → BitVec 5 → BitVec 5 → Instr) × (Nat → Nat → Nat → Nat)) : Prop :=
  ∀ (s : State) (k : Nat) (dword : Bool) (rd ra rb : BitVec 5) (off n : Nat), n = (if dword then 8 else 4) → Runs s k →
    SlateAccess s k (((s.core k).gr ra).setWidth 52) off n →
    ∃ t v, exec (op.1 k dword rd ra rb) s = .next t ∧ SlateNumber (s.cluster (k / 8)) off n v ∧
      CompletesSlate s t k ((s.core k).pc + 4) (gWith (s.core k) rd (BitVec.ofInt 64 (sval (8 * n) v))) (s.core k).wide ∧
      SlateWritten (s.cluster (k / 8)) (t.cluster (k / 8)) off n (op.2 (8 * n) v (((s.core k).gr rb).toNat % 2 ^ (8 * n)))

theorem slateAtomic {i : Nat → Bool → BitVec 5 → BitVec 5 → BitVec 5 → Instr} {rule : Nat → Nat → Nat → Nat} (op : Nat)
    (value : ∀ w o b, amoValue op w o b 0 = rule w o b)
    (meaning : ∀ k d rd ra rb s, exec (i k d rd ra rb) s = onCore k s (amoOp s k d op rd ra rb fun _ => 0) := by intros; rfl) :
    SlateAtomic (i, rule) := fun s k d rd ra rb off n hn h access => by
  obtain ⟨v, number, done, written⟩ := amoSlate_completes (rd := rd) (a := ((s.core k).gr ra).setWidth 52) h access.clean op
    ((s.core k).gr rb) 0
  rw [show (0 : DWord).toNat % 2 ^ (8 * n) = 0 from Nat.zero_mod _, value] at written
  exact ⟨_, v, (meaning ..).trans (onCore_go h _ _ (amoOp_slate rfl hn access op _)), number, done, written⟩

end Sys2Proof.Machine

open Sys2Proof Sys2Proof.Machine

/-- Settles O6: a load delivers the number that its bytes spell, a store leaves the digits of its register in them. -/
theorem slateLoadsAndStoresActOnTheSlate : Obligations.SlateLoadsAndStoresActOnTheSlate := by
  refine ⟨⟨fun op hop s k rd ra imm off h access => ?_, fun s k wd ra imm off h access => ?_⟩,
    fun op hop s k rb ra imm off h access => ?_, fun s k wb ra imm off h access => ?_⟩
  · have done := loadSlate_completes (d := .g rd.toNat) (a := effAddr ((s.core k).gr ra) imm) (sext := op.2.2) h access.clean
      (fun v x => setDest_g x rd v op.2.1 op.2.2) (fun v x => ⟨sameButRegs_setG .., Core.pc_setG ..⟩)
    have hgo := onCore_go h _ _ (loadOp_slate rfl access (.g rd.toNat) op.2.2)
    obtain ⟨v, number, completes, kept⟩ := done
    rw [Core.gr_setG_eq, Core.wide_setG_eq] at completes
    refine ⟨_, v, Eq.trans ?_ hgo, number, completes, kept⟩
    fin_cases hop <;> rfl
  · obtain ⟨v, number, completes, kept⟩ := loadSlate_completes (d := .w wd.toNat) (a := effAddr ((s.core k).gr ra) imm) (sext := false)
      h access.clean (fun v x => setDest_w x wd v 32 false) (fun v x => ⟨sameButRegs_setWide .., rfl⟩)
    rw [Core.wide_setWide_eq] at completes
    exact ⟨_, v, onCore_go h _ _ (loadOp_slate rfl access (.w wd.toNat) false), number, completes, kept⟩
  · fin_cases hop <;> exact store_writes (w := ((s.core k).gr rb).toNat) h access rfl
  · exact store_writes h access (Nat.mod_eq_of_lt ((s.core k).wide wb).isLt).symm

/-- Settles O7: an atomic reads the number, writes the value of its operation and delivers the number. -/
theorem slateAtomicsAreIndivisible : Obligations.SlateAtomicsAreIndivisible := by
  refine ⟨?_, fun s k d rd ra rb rc off n hn h access => ?_⟩
  · change ∀ op ∈ _, SlateAtomic op
    simp only [List.forall_mem_cons, List.not_mem_nil, false_imp_iff, implies_true, and_true]
    refine ⟨slateAtomic 0 fun _ _ _ => rfl, slateAtomic 1 fun _ _ _ => rfl, slateAtomic 3 fun w o b => ?_, slateAtomic 4 fun w o b => ?_,
      slateAtomic 5 fun _ _ _ => rfl, slateAtomic 6 fun _ _ _ => rfl, slateAtomic 7 fun _ _ _ => rfl⟩
    · exact (ite_not ..).symm.trans (if_congr Int.not_le rfl rfl)
    · exact (ite_not ..).symm.trans (if_congr Int.not_le rfl rfl)
  · obtain ⟨v, number, done, written⟩ := amoSlate_completes (rd := rd) (a := ((s.core k).gr ra).setWidth 52) h access.clean 2
      ((s.core k).gr rb) ((s.core k).gr rc)
    exact ⟨_, v, onCore_go h _ _ (amoOp_slate rfl hn access 2 _), number, done, written⟩
end

section
/-! PROOF. The answer to a load that a poisoned gather entry meets (R304, R422): it raises POISON, and the reservation is lost. -/
namespace Sys2Proof.Machine
open Config

/-- Core 0 waits for a load of line 1, of which the gather buffer of its cluster holds a poisoned entry; it holds a reservation, which
its slice keeps. -/
def poisonedWait : State :=
  { State.reset with
    cores := [(0, { coreD 0 with st := .running, pl := true, pc := 0x1000, tvec := 0x2000, resv := some 4,
                                 wait := some (.load (.g 1) 0x40 8 false false) })]
    clusters := [(0, { clusterD 0 with gather := [⟨1, 0, 1, 1, true, none⟩] })]
    resv := [(0, 5)] }

theorem poisonedWait_core (j : Nat) : poisonedWait.core j = if j = 0 then poisonedWait.core 0 else coreD 0 := by
  show (if j = 0 then _ else _) = _
  split <;> rfl

theorem poisonedWait_noStores : NoStores poisonedWait 0 0 := by
  refine ⟨fun j _ e he => ?_, by decide⟩
  rw [poisonedWait_core] at he
  split at he <;> exact absurd he (List.not_mem_nil)

/-- The reservations that a command leaves. -/
def resvAfter : Host.Outcome State Fault Refusal → Store Nat
  | .next t => t.resv
  | _ => []

theorem poisonedWait_loses_reservation :
    resvAfter (exec (.scribeResponseReturn 0 false none 0) poisonedWait) ≠ poisonedWait.resv := by decide +kernel

end Sys2Proof.Machine

open Sys2Proof Sys2Proof.Machine

/-- Refutes O8: its last clauses speak of every access that a core may wait for, but keep only the line of the address a clean. Where the
load is of another line, of which the gather buffer holds a poisoned entry, the answer raises POISON, and entering the handler takes
the core's reservation away from its slice, where the statement has nothing but cores, counters and clusters differ. -/
theorem not_loadsWaitForTheirLine : ¬ Obligations.LoadsWaitForTheirLine := by
  intro h
  have noDoom : ∀ j, (poisonedWait.core j).ending = none := fun j => by rw [poisonedWait_core]; split <;> rfl
  obtain ⟨t, ht, -, -, -, -, -, -, -, -, -, frame⟩ := h.2 poisonedWait 0 0 0 0 1 false _ (by decide) rfl rfl noDoom
    poisonedWait_noStores rfl (by decide) (by decide) (by decide)
  have kept : t.resv = poisonedWait.resv := (congrArg State.resv frame.rest :)
  exact poisonedWait_loses_reservation (by rw [ht]; exact kept)
end

section
/-! PROOF. Instructions that change their core beyond its registers: what differs when they have completed; fences and state
registers (R310, R331, R332). -/
namespace Sys2Proof.Machine
open Config

variable {s t u : State} {k : Nat} {slots : List Nat}

/-! ## Acting on one core -/

/-- From s to u only core k and the listed counters of its cluster's group may differ. -/
structure CoreOnly (s u : State) (k : Nat) (slots : List Nat) : Prop where
  cores : ∀ j, j ≠ k → u.core j = s.core j
  counters : ∀ n, (∀ i ∈ slots, n ≠ slotOf (36 + k / 8) i) → sget zeroD u.acc n = sget zeroD s.acc n
  rest : u = { s with cores := u.cores, acc := u.acc }

theorem coreOnly_refl (s : State) (k : Nat) : CoreOnly s s k [] := ⟨fun _ _ => rfl, fun _ _ => rfl, rfl⟩

theorem CoreOnly.trans {slots' : List Nat} (h : CoreOnly s t k slots) (j : CoreOnly t u k slots') : CoreOnly s u k (slots ++ slots') where
  cores i hi := (j.cores i hi).trans (h.cores i hi)
  counters n hn := (j.counters n fun i hi => hn i (List.mem_append_right _ hi)).trans
    (h.counters n fun i hi => hn i (List.mem_append_left _ hi))
  rest := coresOnly_trans h.rest j.rest

theorem coreOnly_modCore (s : State) (k : Nat) (f : Core → Core) : CoreOnly s (s.modCore k f) k [] :=
  ⟨fun _ h => State.core_modCore_other s f h, fun _ _ => rfl, rfl⟩

theorem coreOnly_count (s : State) (k i n : Nat) : CoreOnly s (s.count (36 + k / 8) i n) k [i] :=
  ⟨fun _ _ => State.core_count .., fun _ h => State.acc_count_other s n (h i List.mem_cons_self), coresOnly_count ..⟩

theorem CoreOnly.reg (h : CoreOnly s u k slots) : u.reg = s.reg := by rw [h.rest]
theorem CoreOnly.cluster (h : CoreOnly s u k slots) (c : Nat) : u.cluster c = s.cluster c := by rw [h.rest]; rfl
theorem CoreOnly.notFollowed (h : CoreOnly s u k slots) (hn : NotFollowed s k) : NotFollowed u k := by rw [h.rest]; exact hn

theorem CoreOnly.counts (hu : CoreOnly s u k slots) (h : Runs s k) :
    (u.groupPresent (36 + k / 8) && !u.groupCold (36 + k / 8)) = true :=
  (groupCounts_congr _ (by rw [hu.rest]) hu.reg (by rw [hu.rest])).trans h.counts

/-- An instruction that has changed its core and goes on with the next one: what differs. -/
theorem CoreOnly.retire_spec (h : Runs s k) (hu : CoreOnly s u k slots) (hp : (u.core k).pc = (s.core k).pc) :
    (∃ l, (retire u k).core k = { u.core k with pc := (s.core k).pc + 4, inib := l }) ∧
      OthersKept s (retire u k) k ([0, 4] ++ slots) ∧
      ButFetch s (retire u k) { s with cores := (retire u k).cores, acc := (retire u k).acc } k := by
  have goes : Machine.retire u k = retireTo u k ((s.core k).pc + 4) := by rw [Machine.retire, hp]
  obtain ⟨core, ran, off, -, hn⟩ := retireTo_spec u ((s.core k).pc + 4) (hu.counts h) h.core
  rw [← goes] at core ran off hn
  generalize Machine.retire u k = t at core ran off hn ⊢
  refine ⟨core, ⟨fun j hj => (ran.cores j hj).trans (hu.cores j hj), fun n hb hs hd => ?_⟩,
    ⟨?_, fun o ho => (ran.regs o ho).trans (State.rd_congr hu.reg o),
      fun d a b => (ran.domains d a b).trans (by rw [hu.rest]; rfl), fun hf => coresOnly_trans hu.rest (off (hu.notFollowed hf))⟩⟩
  · rw [← hu.counters n fun i hi => hs i (List.mem_append_right _ hi)]
    exact hn n hb (hs 0 (by simp)) (hs 4 (by simp)) (hd.imp_right hu.notFollowed)
  · have e := ran.rest
    rw [hu.rest] at e
    exact e

/-- Where the blotter does not follow the core, going on changes the core and counters alone. -/
theorem retire_coresOnly (u : State) (hu : (u.groupPresent (36 + k / 8) && !u.groupCold (36 + k / 8)) = true) (hk : k < nCores)
    (hn : NotFollowed u k) : (∃ l, (retire u k).core k = { u.core k with pc := (u.core k).pc + 4, inib := l }) ∧
      (∀ j, j ≠ k → (retire u k).core j = u.core j) ∧
      retire u k = { u with cores := (retire u k).cores, acc := (retire u k).acc } := by
  obtain ⟨core, ran, off, -, -⟩ := retireTo_spec u ((u.core k).pc + 4) hu hk
  exact ⟨core, ran.cores, off hn⟩

/-- A running core waits for nothing. -/
theorem Runs.wait_eq_none (h : Runs s k) : (s.core k).wait = none := by
  have ready := h.ready
  simp only [coreReady, coreAwake, Bool.and_eq_true, Option.isNone_iff_eq_none] at ready
  exact ready.1.1.1.2

/-! ## Fences (R310) -/

theorem fenceCore_completes (h : Runs s k) (hs : (s.core k).sb = []) (hc : (s.core k).cwBusy = none) :
    ∃ t, exec (.fenceCore k) s = .next t ∧ Completes s t k ((s.core k).pc + 4) (s.core k).gr (s.core k).wide := by
  refine ⟨_, onCore_go h _ _ rfl, ?_⟩
  rw [fenceCore, hs, hc]
  exact retireTo_completes h s _ _ rfl rfl (fun _ _ => rfl) (sameButRegs_refl _)

/-- A fence that goes on has cleared the nib data cache. -/
theorem retire_nibClear (h : Runs s k) : ((retire (nibClear s k) k).core k).pc = (s.core k).pc + 4 ∧
    ((retire (nibClear s k) k).core k).dnib = [] ∧ ((retire (nibClear s k) k).core k).g = (s.core k).g ∧
    ((retire (nibClear s k) k).core k).w = (s.core k).w ∧ OthersKept s (retire (nibClear s k) k) k [0, 4] ∧
    ButFetch s (retire (nibClear s k) k)
      { s with cores := (retire (nibClear s k) k).cores, acc := (retire (nibClear s k) k).acc } k := by
  have hx : (nibClear s k).core k = { s.core k with dnib := [] } := State.core_modCore_same ..
  obtain ⟨⟨l, core⟩, others, frame⟩ := CoreOnly.retire_spec h (coreOnly_modCore s k fun x => { x with dnib := [] }) (by rw [← nibClear, hx])
  rw [← nibClear] at core others frame
  rw [core, hx]
  exact ⟨rfl, rfl, rfl, rfl, others, frame⟩

theorem fenceDone_of (h : Runs s k) (hs : (s.core k).sb = []) (hc : (s.core k).cwBusy = none) (hp : (s.core k).posted = [])
    (hg : ∀ e ∈ (s.cluster (k / 8)).gather, e.cores.getLsbD (k % 8) = false) : fenceDone s k = true := by
  have none : (s.cluster (k / 8)).gather.any (fun e => e.cores.getLsbD (k % 8)) = false :=
    List.any_eq_false.2 fun e he => by simp [hg e he]
  simp [fenceDone, h.wait_eq_none, hs, hc, hp, none]

theorem OthersKept.count (h : OthersKept s t k slots) (i n : Nat) : OthersKept s (t.count (36 + k / 8) i n) k (slots ++ [i]) :=
  ⟨fun j hj => (State.core_count ..).trans (h.cores j hj), fun m hb hm hd =>
    (State.acc_count_other t n (hm i (by simp))).trans (h.counters m hb (fun i hi => hm i (List.mem_append_left _ hi)) hd)⟩

theorem ButFetch.count (h : ButFetch s t { s with cores := t.cores, acc := t.acc } k) (g i n : Nat) :
    ButFetch s (t.count g i n) { s with cores := (t.count g i n).cores, acc := (t.count g i n).acc } k := by
  refine ⟨?_, fun o ho => (State.rd_count ..).trans (h.regs o ho), fun d a b => (State.dom_count ..).trans (h.domains d a b),
    fun hn => coresOnly_trans (h.off hn) (coresOnly_count ..)⟩
  have e := coresOnly_count t g i n
  rw [h.rest] at e
  simp only [State.count_tel, State.count_doms, State.count_reg, State.count_evt]
  rw [← h.rest] at e
  rw [e, h.rest]

/-! ## State registers (R331, R332) -/

theorem word4_eq (v : DWord) : word4 v = BitVec.ofNat 64 (v.toNat / 4 * 4) := by
  apply BitVec.eq_of_getLsbD_eq
  intro i hi
  have h4 : v.toNat / 4 * 4 = v.toNat >>> 2 <<< 2 := by rw [Nat.shiftRight_eq_div_pow, Nat.shiftLeft_eq]
  have h3 : (3 : DWord).getLsbD i = decide (i < 2) := by
    rw [show (3 : DWord) = BitVec.ofNat 64 (2 ^ 2 - 1) from rfl, BitVec.getLsbD_ofNat, Nat.testBit_two_pow_sub_one, decide_eq_true hi,
      Bool.true_and]
  rw [BitVec.getLsbD_ofNat, h4, Nat.testBit_shiftLeft, Nat.testBit_shiftRight, word4, BitVec.getLsbD_and, BitVec.getLsbD_not, h3,
    decide_eq_true hi, Bool.true_and, Bool.true_and, BitVec.testBit_toNat]
  by_cases h : i < 2
  · simp [h]
  · simp [h, show 2 ≤ i by omega, show 2 + (i - 2) = i by omega]

/-- At supervisor level every listed state register is read (R331). -/
theorem rdst_completes {r : BitVec 12} {v : DWord} (h : Runs s k) (hp : (s.core k).pl = true) (rd : BitVec 5)
    (listed : stListed r = true) (value : stRead s k (s.core k) r.toNat = v) :
    ∃ t, exec (.rdst k rd r) s = .next t ∧ Completes s t k ((s.core k).pc + 4) (gWith (s.core k) rd v) (s.core k).wide :=
  onCore_setG h (by simp [listed, hp, value])

/-- A WRST of core k to state register r.1 goes on, and then changes the core as r.2 says. -/
def Writable (s : State) (k : Nat) (ra : BitVec 5) (r : BitVec 12 × (Core → Core)) : Prop :=
  ∃ t, exec (.wrst k r.1 ra) s = .next t ∧ OthersKept s t k [0, 4] ∧
    (∃ l, t.core k = { r.2 (s.core k) with pc := (s.core k).pc + 4, inib := l }) ∧
    ButFetch s t { s with cores := t.cores, acc := t.acc } k

theorem wrst_core {r : BitVec 12} {ra : BitVec 5} {f : Core → Core} (h : Runs s k) (hp : (s.core k).pl = true)
    (listed : stListed r = true := by rfl) (own : r.toNat ≤ 5 := by decide)
    (write : ∀ t : State, stWrite t k r.toNat ((s.core k).gr ra) = t.modCore k f := by intros; rfl)
    (pc : ∀ x : Core, ∀ l p, f { x with pc := p, inib := l } = { f x with pc := p, inib := l } := by intros; rfl) :
    Writable s k ra (r, f) := by
  have cause : wrstCause (s.core k) r = none := by simp [wrstCause, listed, hp, own]
  obtain ⟨⟨l, core⟩, others, frame⟩ := CoreOnly.retire_spec h (coreOnly_refl s k) rfl
  refine ⟨_, onCore_go h _ (fun t => stWrite (retire t k) k r.toNat ((s.core k).gr ra)) (by simp only [cause]), ?_⟩
  rw [write]
  refine ⟨⟨fun j hj => (State.core_modCore_other _ f hj).trans (others.cores j hj), others.counters⟩, ⟨l, ?_⟩,
    ⟨?_, frame.regs, frame.domains, fun hn => coresOnly_trans (frame.off hn) rfl⟩⟩
  · rw [State.core_modCore_same, core, pc]
  · have e := frame.rest
    generalize retire s k = t at e ⊢
    rw [e]; rfl

end Sys2Proof.Machine

open Sys2Proof Sys2Proof.Machine

/-- Settles O11: each fence finds its condition, and goes on. -/
theorem fencesGoOnWhenTheirStoresAreOut : Obligations.FencesGoOnWhenTheirStoresAreOut := by
  refine fun s k h hs => ⟨fenceCore_completes h hs, ⟨_, onCore_go h _ _ rfl, ?_⟩, fun hc hp hg => ⟨_, onCore_go h _ _ rfl, ?_⟩⟩
  · rw [fenceClus, hs]
    exact retire_nibClear h
  · obtain ⟨pc, nib, g, w, others, frame⟩ := retire_nibClear h
    rw [fenceSys, if_pos (fenceDone_of h hs hc hp hg), State.core_count]
    exact ⟨pc, nib, g, w, others.count 7 1, frame.count ..⟩

/-- Settles O12: a read delivers the register's content, a write changes the core or the ring once the instruction has gone on. -/
theorem stateRegistersAreReadAndWritten : Obligations.StateRegistersAreReadAndWritten := by
  refine ⟨fun s k rd h hp r hr => ?_, fun s k ra v h hp hv => ⟨fun r hr => ?_, ?_⟩⟩
  · fin_cases hr <;> exact rdst_completes h hp rd rfl rfl
  · revert r
    change ∀ r ∈ _, Writable s k ra r
    subst hv
    simp only [List.forall_mem_cons, List.not_mem_nil, false_imp_iff, implies_true, and_true, ← word4_eq]
    exact ⟨wrst_core h hp, wrst_core h hp, wrst_core h hp, wrst_core h hp, wrst_core h hp, wrst_core h hp⟩
  · have cause : wrstCause (s.core k) 0x20 = none := by simp [wrstCause, show stListed (0x20#12) = true from rfl, hp]
    obtain ⟨⟨l, core⟩, others, frame⟩ := CoreOnly.retire_spec h (coreOnly_refl s k) rfl
    refine ⟨_, onCore_go h _ (fun t => stWrite (retire t k) k 0x20 ((s.core k).gr ra)) (by simp only [cause]; rfl), ?_⟩
    have clusters : (retire s k).clusters = s.clusters := (congrArg State.clusters frame.rest :)
    have write : stWrite (retire s k) k 0x20 ((s.core k).gr ra) =
      (retire s k).modCluster (k / 8) fun c => { c with msgHead := ((s.core k).gr ra).setWidth 6 } := rfl
    rw [write, State.core_modCluster, core, State.cluster_modCluster_same]
    refine ⟨rfl, ?_, fun c hc => ?_, ⟨fun j hj => (State.core_modCluster ..).trans (others.cores j hj), others.counters⟩,
      ⟨?_, frame.regs, frame.domains, fun hn => ?_⟩⟩
    · rw [State.cluster, clusters, hv]; rfl
    · rw [State.cluster_modCluster_other _ _ hc, State.cluster, clusters]; rfl
    · have e := frame.rest
      generalize retire s k = t at e ⊢
      rw [e]; rfl
    · have e := frame.off hn
      generalize retire s k = t at e ⊢
      rw [e]; rfl
end

section
/-! PROOF. The bytes of a line: masks, merging and replacing (R146). -/
namespace Sys2Proof.Machine

theorem getLsbD_byteMask (lo n : Nat) {o : Nat} (ho : o < 64) : (byteMask lo n).getLsbD o = decide (lo ≤ o ∧ o < lo + n) := by
  rw [byteMask, BitVec.getLsbD_ofNat, ← Nat.shiftLeft_eq, Nat.testBit_shiftLeft, Nat.testBit_two_pow_sub_one, decide_eq_true ho,
    Bool.true_and, ← Bool.decide_and]
  exact decide_eq_decide.2 (by omega)

/-- Bit i of byte o of a line. -/
theorem getLsbD_lineByte (d : LineData) (o : Nat) {i : Nat} (hi : i < 8) : (lineByte d o).getLsbD i = d.getLsbD (8 * o + i) := by
  simp [lineByte, hi]

/-- The mask of a line has eight ones for each byte that is selected. -/
theorem getLsbD_expandMask (m : BitVec 64) {o i : Nat} (ho : o < 64) (hi : i < 8) :
    (expandMask m).getLsbD (8 * o + i) = m.getLsbD o := by
  have sum : expandMask m = BitVec.ofNat 512 (packed 8 (fun i => if m.getLsbD i then 255 else 0) 64) := by
    rw [expandMask, packed]
    congr 2
    funext a i
    split <;> simp
  have digit := packed_digit 8 (fun i => if m.getLsbD i then 255 else 0) ho
  have bit := congrArg (·.testBit i) digit
  simp only [Nat.testBit_mod_two_pow, Nat.testBit_div_two_pow, hi, decide_true, Bool.true_and] at bit
  rw [sum, BitVec.getLsbD_ofNat, decide_eq_true (show 8 * o + i < 512 by omega), Bool.true_and, Nat.add_comm, bit]
  split
  · rw [show (255 : Nat) = 2 ^ 8 - 1 by rfl, Nat.testBit_two_pow_sub_one, decide_eq_true hi, ‹m.getLsbD o = true›]
  · rw [Nat.zero_testBit, Bool.eq_false_iff.2 ‹¬ m.getLsbD o = true›]

theorem lineByte_mergeLine (old new : LineData) (m : BitVec 64) {o : Nat} (ho : o < 64) :
    lineByte (mergeLine old new m) o = if m.getLsbD o then lineByte new o else lineByte old o := by
  apply BitVec.eq_of_getLsbD_eq
  intro i hi
  have lt : 8 * o + i < 512 := by omega
  rw [apply_ite (BitVec.getLsbD · i), getLsbD_lineByte _ _ hi, getLsbD_lineByte _ _ hi, getLsbD_lineByte _ _ hi, mergeLine,
    BitVec.getLsbD_or, BitVec.getLsbD_and, BitVec.getLsbD_and, BitVec.getLsbD_not, getLsbD_expandMask m ho hi]
  cases m.getLsbD o <;> simp [lt]

/-- A line is known by its bytes. -/
theorem eq_of_lineByte {d e : LineData} (h : ∀ o < 64, lineByte d o = lineByte e o) : d = e := by
  apply BitVec.eq_of_getLsbD_eq
  intro j hj
  have hi := Nat.mod_lt j (show 0 < 8 by decide)
  have byte := congrArg (BitVec.getLsbD · (j % 8)) (h (j / 8) (by omega))
  simp only [getLsbD_lineByte _ _ hi, Nat.div_add_mod] at byte
  exact byte

theorem lineByte_putLine (d : LineData) (v : Nat) {lo n o : Nat} (ho : o < 64) :
    lineByte (putLine d lo n v) o = if lo ≤ o ∧ o < lo + n then BitVec.ofNat 8 (v / 2 ^ (8 * (o - lo))) else lineByte d o := by
  apply BitVec.eq_of_getLsbD_eq
  intro i hi
  rw [apply_ite (BitVec.getLsbD · i), getLsbD_lineByte _ _ hi, getLsbD_lineByte _ _ hi, putLine, BitVec.getLsbD_ofNat, BitVec.getLsbD_ofNat,
    testBit_putBits, decide_eq_true hi, decide_eq_true (show 8 * o + i < 512 by omega), Bool.true_and, Bool.true_and]
  by_cases h : lo ≤ o ∧ o < lo + n
  · rw [if_pos h, if_pos (by omega), Nat.testBit_div_two_pow]
    congr 1
    omega
  · rw [if_neg h, if_neg (by omega), BitVec.testBit_toNat]

end Sys2Proof.Machine
end

section
/-! PROOF. Stores to memory and the accesses that a line's home performs (R302–R305, R309, R312–R314, R342–R344). -/
namespace Sys2Proof.Machine
open Config

variable {s t u v : State} {k : Nat} {slots slots' : List Nat}

/-! ## Sending a request (R304, R405) -/

/-- A request that the blotter does not follow goes onto the spine alone. -/
theorem coreSend_notFollowed (hn : NotFollowed u k) (tag : Tag) (opc param : Nat) (addr : PA) (body : List Word) :
    coreSend u k tag opc param addr body = u.putReq (reqMsg (u.scrAgent k) tag opc (corePriv u k) param addr false body) := by
  simp only [coreSend]
  split
  · rename_i follows
    obtain off | off := hn
    · exact if_neg (by simp [show (State.putReq u _).bit (telReg 0x8200) 0 = u.bit (telReg 0x8200) 0 from rfl, off])
    · exact absurd (off.symm.trans follows) (by decide)
  · rfl

/-- A core that has taken a tag, and has changed itself besides, sends a request with it. -/
theorem coreSend_sent (hu : CoreOnly s u k slots) (hv : CoreOnly (newTag u (k / 8) (k % 8)).1 v k slots')
    (level : (v.core k).pl = (s.core k).pl) (hn : NotFollowed s k) (opc param : Nat) (addr : PA) (body : List Word) :
    Sent s (coreSend v k (newTag u (k / 8) (k % 8)).2 opc param addr body) k (s.coreReq k opc param addr body) := by
  have rest : v = { s with cores := v.cores, acc := v.acc, clusters := v.clusters } := by
    have tagged : (newTag u (k / 8) (k % 8)).1 = { u with clusters := (newTag u (k / 8) (k % 8)).1.clusters } := rfl
    have kept : v.clusters = (newTag u (k / 8) (k % 8)).1.clusters := by rw [hv.rest]
    have e := hv.rest
    generalize (newTag u (k / 8) (k % 8)).1 = w at tagged kept e
    rw [hu.rest] at tagged
    rw [tagged] at e
    rw [kept]
    exact e
  have tag : (newTag u (k / 8) (k % 8)).2 = s.nextTag k := by
    rw [newTag, hu.cluster]; rfl
  have clusters (c : Nat) : v.cluster c = ((newTag u (k / 8) (k % 8)).1).cluster c := hv.cluster c
  have priv : corePriv v k = corePriv s k := by
    rw [corePriv, level, show v.bit = s.bit by rw [rest]; rfl, corePriv]
  have agent : v.scrAgent k = s.scrAgent k := by rw [rest]; rfl
  rw [coreSend_notFollowed (by rw [rest]; exact hn), tag, priv, agent]
  refine ⟨?_, fun j hj => ?_, fun c hc => ?_, ?_, ?_⟩
  · rw [rest]; rfl
  · exact ((hv.cores j hj).trans (State.core_modCluster ..)).trans (hu.cores j hj)
  · exact ((clusters c).trans (State.cluster_modCluster_other _ _ hc)).trans (hu.cluster c)
  · refine (clusters _).trans ((State.cluster_modCluster_same ..).trans ?_)
    rw [hu.cluster]; rfl
  · generalize hm : reqMsg _ _ _ _ _ _ _ _ = m
    rw [rest]; rfl

/-- Sending leaves the core as it is. -/
theorem coreSend_core (hn : NotFollowed u k) (tag : Tag) (opc param : Nat) (addr : PA) (body : List Word) :
    (coreSend u k tag opc param addr body).core k = u.core k := by rw [coreSend_notFollowed hn]; rfl

/-- What a running core's instruction makes of the state, where its meaning is g. -/
theorem onCore_answers (h : Runs s k) {f : Core → Act} (hf : ∃ g, f (s.core k) = .go g ∧ g s = t) : onCore k s f = .next t := by
  obtain ⟨g, hg, rfl⟩ := hf
  exact onCore_go h f g hg

/-- Core k takes a tag, changes as f says, and sends a request with the tag. -/
def sendAs (u : State) (k : Nat) (f : Tag → Core → Core) (opc param : Nat) (addr : PA) (body : List Word) : State :=
  coreSend ((newTag u (k / 8) (k % 8)).1.modCore k (f (newTag u (k / 8) (k % 8)).2)) k (newTag u (k / 8) (k % 8)).2 opc param addr body

theorem sendAs_sent (hu : CoreOnly s u k slots) {f : Tag → Core → Core} (level : ∀ tag, (f tag (u.core k)).pl = (s.core k).pl)
    (hn : NotFollowed s k) (opc param : Nat) (addr : PA) (body : List Word) :
    Sent s (sendAs u k f opc param addr body) k (s.coreReq k opc param addr body) ∧
    ∃ tag, (sendAs u k f opc param addr body).core k = f tag (u.core k) := by
  let tag := (newTag u (k / 8) (k % 8)).2
  have core : ((newTag u (k / 8) (k % 8)).1.modCore k (f tag)).core k = f tag (u.core k) :=
    (State.core_modCore_same ..).trans (congrArg (f tag) (State.core_modCluster ..))
  have quiet : NotFollowed ((newTag u (k / 8) (k % 8)).1.modCore k (f tag)) k := hu.notFollowed hn
  exact ⟨coreSend_sent hu (coreOnly_modCore _ k _) (by rw [core, level]) hn .., tag, (coreSend_core quiet ..).trans core⟩

/-- A core that has sent its request goes on with the next instruction. -/
theorem Sent.retire {m : Msg} (h : Runs s k) (hn : NotFollowed s k) (hs : Sent s t k m) :
    Sent s (retire t k) k m ∧ ∃ l, (retire t k).core k = { t.core k with pc := (t.core k).pc + 4, inib := l } := by
  have counts : (t.groupPresent (36 + k / 8) && !t.groupCold (36 + k / 8)) = true :=
    (groupCounts_congr _ (by rw [hs.rest]) (by rw [hs.rest]) (by rw [hs.rest])).trans h.counts
  obtain ⟨core, others, rest⟩ := retire_coresOnly t counts h.core (by rw [hs.rest]; exact hn)
  have clusters : (Machine.retire t k).clusters = t.clusters := (congrArg State.clusters rest :)
  have spine : (Machine.retire t k).spine = t.spine := (congrArg State.spine rest :)
  refine ⟨⟨spine.trans hs.sent, fun j hj => (others j hj).trans (hs.cores j hj), fun c hc => ?_, ?_, ?_⟩, core⟩
  · rw [State.cluster, clusters]; exact hs.clusters c hc
  · rw [State.cluster, clusters]; exact hs.cluster
  · generalize Machine.retire t k = w at rest clusters spine ⊢
    rw [hs.rest] at rest
    rw [clusters, spine]
    exact rest

/-! ## Lines that no store of the cluster is on its way to (R305, R308) -/

theorem NoStores.flushed {line : Nat} (h : NoStores s k line) : lineFlushed s (k / 8) line = true := by
  obtain ⟨sb, gather⟩ := h
  simp only [lineFlushed, Bool.and_eq_true, Bool.not_eq_true', List.any_eq_false, List.all_eq_true, List.mem_range, beq_iff_eq]
  exact ⟨gather, fun j hj => sb (8 * (k / 8) + j) (by omega)⟩

/-! ## Atomics and reservations at the home (R309, R312–R314) -/

theorem amoOp_mem {ra rb rd : BitVec 5} {a : PA} {dword : Bool} {n : Nat} (ha : a = ((s.core k).gr ra).setWidth 52)
    (hn : n = if dword then 8 else 4) (h : MemAccess s k a n 3) (op : Nat) (cmp : Core → DWord) :
    amoOp s k dword op rd ra rb cmp (s.core k) =
      .go fun s' => amoSend s' k rd a n op ((s.core k).gr rb) (cmp (s.core k)) := by
  subst ha hn
  simp only [amoOp, h.place, h.aligned, h.allowed, ne_eq, not_true_eq_false, if_false]

/-- An operand of an atomic, as its request carries it. -/
theorem wordsLE_limited {n : Nat} {dword : Bool} (hn : n = if dword then 8 else 4) (x : DWord) :
    wordsLE 2 (if n = 4 then x &&& 0xFFFFFFFF else x).toNat = wordsLE 2 (x.toNat % 2 ^ (8 * n)) := by
  cases dword
  · subst hn
    have mask : x.toNat &&& 0xFFFFFFFF = x.toNat % 2 ^ 32 := Nat.and_two_pow_sub_one_eq_mod _ 32
    exact congrArg (wordsLE 2) mask
  · subst hn
    exact congrArg (wordsLE 2) (Nat.mod_eq_of_lt x.isLt).symm

theorem nibDrop_core (s : State) (k line : Nat) : (nibDrop s k line).core k =
    { s.core k with dnib := (s.core k).dnib.filter fun l => l.line != line } := State.core_modCore_same ..

theorem nibDrop_coreOnly (hu : CoreOnly s u k slots) (line : Nat) : CoreOnly s (nibDrop u k line) k slots :=
  List.append_nil slots ▸ hu.trans (coreOnly_modCore u k _)

theorem lineAddr_toNat (a : PA) : (lineAddr a).toNat = a.toNat / 64 * 64 := by
  have lt := a.isLt
  rw [lineAddr, BitVec.toNat_ofNat]
  omega

/-- An atomic leaves as one request, and its core waits (R309, R342). -/
theorem amoSend_sent {rd : BitVec 5} {a : PA} {n : Nat} {dword : Bool} (hn : n = if dword then 8 else 4)
    (place : placeOf s (s.core k) a = .mem) (noStores : NoStores s k (a.toNat / 64)) (hf : NotFollowed s k) (op : Nat) (opnd cmp : DWord) :
    Sent s (amoSend s k rd a n op opnd cmp) k (s.coreReq k opcAMO (op + if dword then 8 else 0) a
      (wordsLE 2 (opnd.toNat % 2 ^ (8 * n)) ++ wordsLE 2 (cmp.toNat % 2 ^ (8 * n)))) ∧
    ((amoSend s k rd a n op opnd cmp).core k).pc = (s.core k).pc ∧
    ((amoSend s k rd a n op opnd cmp).core k).wait = some (.amo rd.toNat a n) := by
  have size : op + 8 * b2n (n == 8) = op + if dword then 8 else 0 := by subst hn; cases dword <;> rfl
  have core := nibDrop_core (s.count (36 + k / 8) 8 1) k (a.toNat / 64)
  rw [State.core_count] at core
  have eq : amoSend s k rd a n op opnd cmp = sendAs (nibDrop (s.count (36 + k / 8) 8 1) k (a.toNat / 64)) k
      (fun tag x => { x with wait := some (.amo rd.toNat a n), waitTag := tag }) opcAMO (op + 8 * b2n (n == 8)) a
      (amoBody (if n = 4 then opnd &&& 0xFFFFFFFF else opnd) (if n = 4 then cmp &&& 0xFFFFFFFF else cmp)) := by
    rw [amoSend, if_neg (by simp [place]), if_pos noStores.flushed]; rfl
  obtain ⟨sent, tag, hx⟩ := sendAs_sent (nibDrop_coreOnly (coreOnly_count s k 8 1) (a.toNat / 64))
    (f := fun tag x => { x with wait := some (.amo rd.toNat a n), waitTag := tag }) (fun _ => by rw [core]) hf opcAMO
    (op + 8 * b2n (n == 8)) a (amoBody (if n = 4 then opnd &&& 0xFFFFFFFF else opnd) (if n = 4 then cmp &&& 0xFFFFFFFF else cmp))
  rw [← eq] at sent hx
  rw [hx, core, ← size, ← wordsLE_limited hn, ← wordsLE_limited hn]
  exact ⟨sent, rfl, rfl⟩

theorem resCause_none {a : PA} {n need : Nat} (h : MemAccess s k a n need) (own : ownHome s a = true) :
    resCause s (s.core k) a n need = none := by
  simp [resCause, h.place, h.aligned, h.allowed, own]

/-- LRES leaves as one read, and its core waits (R313). -/
theorem lresOp_sent {ra rd : BitVec 5} {a : PA} {n : Nat} (ha : a = ((s.core k).gr ra).setWidth 52) (h : Runs s k)
    (access : MemAccess s k a n 1) (own : ownHome s a = true) (noStores : NoStores s k (a.toNat / 64)) (hf : NotFollowed s k) :
    ∃ t m, onCore k s (lresOp s k n rd ra) = .next t ∧ Sent s t k m ∧ m.opc = opcRD_UC ∧ m.addr.toNat = a.toNat / 64 * 64 ∧
      (t.core k).pc = (s.core k).pc ∧ (t.core k).wait = some (.lres rd.toNat a n) := by
  subst ha
  obtain ⟨sent, tag, hx⟩ := sendAs_sent (nibDrop_coreOnly (coreOnly_refl s k) ((((s.core k).gr ra).setWidth 52).toNat / 64))
    (f := fun tag x => { x with resv := none, wait := some (.lres rd.toNat (((s.core k).gr ra).setWidth 52) n), waitTag := tag })
    (fun _ => by rw [nibDrop_core]) hf opcRD_UC (6 + 8) (lineAddr (((s.core k).gr ra).setWidth 52)) []
  rw [nibDrop_core] at hx
  refine ⟨_, _, onCore_answers h ?_, sent, rfl, lineAddr_toNat _, by rw [hx], by rw [hx]⟩
  simp only [lresOp, resCause_none access own]
  exact ⟨_, rfl, if_pos noStores.flushed⟩

/-- A core goes on with the next instruction from a state in which only cores, counters and reservations differ. -/
theorem retire_resv (h : Runs s k) (rest : u = { s with cores := u.cores, acc := u.acc, resv := u.resv }) :
    (∃ l, (Machine.retire u k).core k = { u.core k with pc := (u.core k).pc + 4, inib := l }) ∧
      (Machine.retire u k).spine = s.spine ∧
      ButFetch s (Machine.retire u k) { s with cores := (Machine.retire u k).cores, acc := (Machine.retire u k).acc,
                                               resv := (Machine.retire u k).resv } k := by
  have counts : (u.groupPresent (36 + k / 8) && !u.groupCold (36 + k / 8)) = true :=
    (groupCounts_congr _ (by rw [rest]) (by rw [rest]) (by rw [rest])).trans h.counts
  obtain ⟨core, ran, off, -, -⟩ := retireTo_spec u ((u.core k).pc + 4) counts h.core
  refine ⟨core, ?_⟩
  rw [Machine.retire]
  generalize retireTo u k ((u.core k).pc + 4) = t at ran off ⊢
  have resv : t.resv = u.resv := (congrArg State.resv ran.rest :)
  refine ⟨(congrArg State.spine ran.rest :).trans (by rw [rest]), ?_, fun o ho => (ran.regs o ho).trans (by rw [rest]; rfl),
    fun d a b => (ran.domains d a b).trans (by rw [rest]; rfl), fun hn => ?_⟩
  · have e := ran.rest
    rw [rest] at e
    rw [resv]
    exact e
  · have e := off (by rw [rest]; exact hn)
    rw [rest] at e
    rw [resv]
    exact e

/-- What SCND leaves before the core goes on, where its reservation is lost (R314). -/
def scndLost (s : State) (k rd line : Nat) : State :=
  ((dropResv (nibDrop s k line) k).count (36 + k / 8) 10 1).modCore k fun x => setDest x (.g rd) 0 8 false

theorem scndLost_rest (s : State) (k rd line : Nat) : scndLost s k rd line = { s with
    cores := (scndLost s k rd line).cores, acc := (scndLost s k rd line).acc, resv := (scndLost s k rd line).resv } := by
  have dropped : dropResv (nibDrop s k line) k = { s with
      cores := (dropResv (nibDrop s k line) k).cores, resv := (dropResv (nibDrop s k line) k).resv } := rfl
  rw [scndLost]
  generalize dropResv (nibDrop s k line) k = u at dropped ⊢
  have e := ((coreOnly_count u k 10 1).trans (coreOnly_modCore _ k fun x => setDest x (.g rd) 0 8 false)).rest
  have resv : (State.modCore (u.count (36 + k / 8) 10 1) k fun x => setDest x (.g rd) 0 8 false).resv = u.resv := by
    rw [e]
  generalize State.modCore (u.count (36 + k / 8) 10 1) k _ = v at e resv ⊢
  rw [dropped] at e
  rw [resv]
  exact e

theorem scndLost_core (s : State) (k : Nat) (rd : BitVec 5) (line : Nat) : (scndLost s k rd.toNat line).core k =
    Core.setG { s.core k with dnib := (s.core k).dnib.filter fun l => l.line != line, resv := none } rd 0 := by
  have dropped : (dropResv (nibDrop s k line) k).core k =
      { s.core k with dnib := (s.core k).dnib.filter fun l => l.line != line, resv := none } :=
    (State.core_modCore_same (nibDrop s k line) k fun x => { x with resv := none }).trans (by rw [nibDrop_core])
  rw [scndLost, State.core_modCore_same, State.core_count, setDest_g, dropped]
  rfl

/-- SCND without a reservation on the line fails at the core (R314). -/
theorem scndOp_fails {ra rb rd : BitVec 5} {a : PA} {n : Nat} (ha : a = ((s.core k).gr ra).setWidth 52) (h : Runs s k)
    (access : MemAccess s k a n 2) (own : ownHome s a = true) (lost : (s.core k).resv ≠ some (a.toNat / 64)) :
    ∃ t, onCore k s (scndOp s k n rd ra rb) = .next t ∧ (t.core k).pc = (s.core k).pc + 4 ∧
      (∀ i, (t.core k).gr i = gWith (s.core k) rd 0 i) ∧ (t.core k).resv = none ∧ t.spine = s.spine ∧
      ButFetch s t { s with cores := t.cores, acc := t.acc, resv := t.resv } k := by
  subst ha
  have hx := scndLost_core s k rd ((((s.core k).gr ra).setWidth 52).toNat / 64)
  obtain ⟨⟨l, core⟩, spine, frame⟩ := retire_resv h (scndLost_rest s k rd.toNat ((((s.core k).gr ra).setWidth 52).toNat / 64))
  refine ⟨_, onCore_answers h ?_, ?_, fun i => ?_, ?_, spine, frame⟩
  · simp only [scndOp, resCause_none access own]
    exact ⟨_, rfl, if_pos lost⟩
  · rw [core, hx, Core.pc_setG]
  · rw [core, hx]
    exact Core.gr_setG ..
  · rw [core, hx]
    unfold Core.setG
    split <;> rfl

/-- SCND with a reservation on the line leaves as one write, and its core waits (R314). -/
theorem scndOp_sent {ra rb rd : BitVec 5} {a : PA} {n : Nat} (ha : a = ((s.core k).gr ra).setWidth 52) (h : Runs s k)
    (access : MemAccess s k a n 2) (own : ownHome s a = true) (held : (s.core k).resv = some (a.toNat / 64))
    (noStores : NoStores s k (a.toNat / 64)) (hf : NotFollowed s k) :
    ∃ t m, onCore k s (scndOp s k n rd ra rb) = .next t ∧ Sent s t k m ∧ m.opc = opcWR_PART ∧ m.addr.toNat = a.toNat / 64 * 64 ∧
      m.body = partBody (byteMask (a.toNat % 64) n) (putLine 0 (a.toNat % 64) n (((s.core k).gr rb).toNat % 2 ^ (8 * n))) ∧
      (t.core k).pc = (s.core k).pc ∧ (t.core k).wait = some (.scnd rd.toNat a) := by
  subst ha
  generalize hb : partBody _ _ = body
  obtain ⟨sent, tag, hx⟩ := sendAs_sent (nibDrop_coreOnly (coreOnly_refl s k) ((((s.core k).gr ra).setWidth 52).toNat / 64))
    (f := fun tag x => { x with wait := some (.scnd rd.toNat (((s.core k).gr ra).setWidth 52)), waitTag := tag })
    (fun _ => by rw [nibDrop_core]) hf opcWR_PART 1 (lineAddr (((s.core k).gr ra).setWidth 52)) body
  rw [nibDrop_core] at hx
  subst hb
  refine ⟨_, _, onCore_answers h ?_, sent, rfl, lineAddr_toNat _, rfl, by rw [hx], by rw [hx]⟩
  simp only [scndOp, resCause_none access own]
  exact ⟨_, rfl, (if_neg (not_not.2 held)).trans (if_pos noStores.flushed)⟩

/-! ## Cache operations (R309, R344) -/

/-- A core that keeps its registers keeps what an instruction of it goes on from. -/
def SameRegisters (x y : Core) : Prop := y.pc = x.pc ∧ y.g = x.g ∧ y.w = x.w ∧ y.wait = x.wait ∧ y.pl = x.pl

/-- A cache operation that has changed its core, except the registers, sends its request and goes on. -/
theorem cacheSent {v : State} (h : Runs s k) (hf : NotFollowed s k) (hv : CoreOnly (newTag s (k / 8) (k % 8)).1 v k slots)
    (same : SameRegisters (s.core k) (v.core k)) (opc param : Nat) (la : PA) :
    Sent s (Machine.retire (coreSend v k (newTag s (k / 8) (k % 8)).2 opc param la []) k) k (s.coreReq k opc param la []) ∧
    ∃ l, (Machine.retire (coreSend v k (newTag s (k / 8) (k % 8)).2 opc param la []) k).core k =
      { v.core k with pc := (v.core k).pc + 4, inib := l } := by
  obtain ⟨-, -, -, -, level⟩ := same
  have quiet : NotFollowed v k := hv.notFollowed hf
  have sent := coreSend_sent (coreOnly_refl s k) hv level hf opc param la []
  obtain ⟨sent, l, core⟩ := sent.retire h hf
  exact ⟨sent, l, core.trans (by rw [coreSend_core quiet])⟩

theorem nibFind_filter (x : Core) (line : Nat) : nibFind { x with dnib := x.dnib.filter fun l => l.line != line } line = none := by
  simp [nibFind, List.find?_filter]

/-- What a cache operation does at its core, with the request's tag (R309, R344). -/
def cacheTaken (o : CacheOp) (la : PA) (line : Nat) (tag : Tag) (x : Core) : Core :=
  let x := if o = .pfk then x else { x with posted := x.posted ++ [(tag, la)] }
  if o = .zln ∨ o = .cinv then { x with dnib := x.dnib.filter fun l => l.line != line } else x

theorem cacheTaken_registers (o : CacheOp) (la : PA) (line : Nat) (tag : Tag) (x : Core) :
    SameRegisters x (cacheTaken o la line tag x) := by
  cases o <;> exact ⟨rfl, rfl, rfl, rfl, rfl⟩

/-- The opcode and PARAM of a cache operation's request. -/
def CacheOp.request : CacheOp → Nat × Nat
  | .zln => (opcZERO_LINE, 0)
  | .pfk => (opcPREFETCH, 0)
  | .cln => (opcMAINT, 0)
  | .cinv => (opcMAINT, 2)

theorem cacheSend_eq (o : CacheOp) (a : PA) : ∃ v, CoreOnly (newTag s (k / 8) (k % 8)).1 v k [] ∧
    v.core k = cacheTaken o (lineAddr a) (a.toNat / 64) (newTag s (k / 8) (k % 8)).2 (s.core k) ∧
    cacheSend s k o a false =
      Machine.retire (coreSend v k (newTag s (k / 8) (k % 8)).2 (CacheOp.request o).1 (CacheOp.request o).2 (lineAddr a) []) k := by
  have tagged : (newTag s (k / 8) (k % 8)).1.core k = s.core k := State.core_modCluster ..
  cases o with
  | zln => exact ⟨_, (coreOnly_modCore _ k _).trans (coreOnly_modCore _ k _),
      (State.core_modCore_same ..).trans (by rw [State.core_modCore_same, tagged]; rfl), rfl⟩
  | pfk => exact ⟨_, coreOnly_refl .., tagged, rfl⟩
  | cln => exact ⟨_, coreOnly_modCore .., (State.core_modCore_same ..).trans (by rw [tagged]; rfl), rfl⟩
  | cinv => exact ⟨_, (coreOnly_modCore _ k _).trans (coreOnly_modCore _ k _),
      (State.core_modCore_same ..).trans (by rw [State.core_modCore_same, tagged]; rfl), rfl⟩

/-- A cache operation leaves as one request, and its core goes on. -/
theorem cacheOp_sent {o : CacheOp} {ra : BitVec 5} {imm : BitVec 16} {a : PA} (ha : a = effAddr ((s.core k).gr ra) imm) (h : Runs s k)
    (access : MemAccess s k a 1 (if o = .zln ∨ o = .cinv then 2 else 1)) (noStores : NoStores s k (a.toNat / 64)) (hf : NotFollowed s k) :
    ∃ t, onCore k s (cacheOp s k o ra imm) = .next t ∧
      Sent s t k (s.coreReq k (CacheOp.request o).1 (CacheOp.request o).2 (lineAddr a) []) ∧
      ∃ tag l, t.core k = { cacheTaken o (lineAddr a) (a.toNat / 64) tag (s.core k) with pc := (s.core k).pc + 4, inib := l } := by
  subst ha
  obtain ⟨v, only, core, eq⟩ := cacheSend_eq (s := s) (k := k) o (effAddr ((s.core k).gr ra) imm)
  have same : SameRegisters (s.core k) (v.core k) := core ▸ cacheTaken_registers ..
  have pc : (v.core k).pc = (s.core k).pc := same.1
  obtain ⟨sent, l, hx⟩ := cacheSent h hf only same (CacheOp.request o).1 (CacheOp.request o).2 (lineAddr (effAddr ((s.core k).gr ra) imm))
  refine ⟨_, onCore_answers h ?_, sent, (newTag s (k / 8) (k % 8)).2, l, by rw [hx, pc, core]⟩
  simp only [cacheOp, access.place, access.allowed, ne_eq, not_true_eq_false, reduceCtorEq, if_false]
  exact ⟨_, rfl, (if_pos noStores.flushed).trans eq⟩

/-! ## The instructions (R342–R344) -/

/-- An atomic of two operands sends its request (R309, R342). -/
def AmoSends (op : (Nat → Bool → BitVec 5 → BitVec 5 → BitVec 5 → Instr) × Nat) : Prop :=
  ∀ (s : State) (k : Nat) (dword : Bool) (rd ra rb : BitVec 5) (a : PA) (n : Nat), a = ((s.core k).gr ra).setWidth 52 →
    n = (if dword then 8 else 4) → Runs s k → MemAccess s k a n 3 → NoStores s k (a.toNat / 64) → NotFollowed s k →
    ∃ t, exec (op.1 k dword rd ra rb) s = .next t ∧
      Sent s t k (s.coreReq k opcAMO (op.2 + if dword then 8 else 0) a
        (wordsLE 2 (((s.core k).gr rb).toNat % 2 ^ (8 * n)) ++ [0, 0])) ∧
      (t.core k).pc = (s.core k).pc ∧ (t.core k).wait = some (.amo rd.toNat a n)

theorem amoSends {op : (Nat → Bool → BitVec 5 → BitVec 5 → BitVec 5 → Instr) × Nat}
    (meaning : ∀ s k dword rd ra rb, exec (op.1 k dword rd ra rb) s =
      onCore k s (amoOp s k dword op.2 rd ra rb fun _ => 0) := by intros; rfl) : AmoSends op := by
  intro s k dword rd ra rb a n ha hn h access noStores hf
  have zero : wordsLE 2 ((0 : DWord).toNat % 2 ^ (8 * n)) = [0, 0] := by simp [wordsLE]
  have done := amoSend_sent (rd := rd) hn access.place noStores hf op.2 ((s.core k).gr rb) 0
  rw [zero] at done
  exact ⟨_, (meaning ..).trans (onCore_go h _ _ (amoOp_mem ha hn access ..)), done⟩

/-- LRES sends its read (R313). -/
def LresSends (op : (Nat → BitVec 5 → BitVec 5 → Instr) × Nat) : Prop :=
  ∀ (s : State) (k : Nat) (rd ra : BitVec 5) (a : PA), a = ((s.core k).gr ra).setWidth 52 → Runs s k →
    MemAccess s k a op.2 1 → ownHome s a = true → NoStores s k (a.toNat / 64) → NotFollowed s k →
    ∃ t m, exec (op.1 k rd ra) s = .next t ∧ Sent s t k m ∧ m.opc = opcRD_UC ∧ m.addr.toNat = a.toNat / 64 * 64 ∧
      (t.core k).pc = (s.core k).pc ∧ (t.core k).wait = some (.lres rd.toNat a op.2)

theorem lresSends {op : (Nat → BitVec 5 → BitVec 5 → Instr) × Nat}
    (meaning : ∀ s k rd ra, exec (op.1 k rd ra) s = onCore k s (lresOp s k op.2 rd ra) := by intros; rfl) : LresSends op := by
  intro s k rd ra a ha h access own noStores hf
  rw [meaning]
  exact lresOp_sent ha h access own noStores hf

/-- SCND fails at the core or sends its write (R314). -/
def ScndSends (op : (Nat → BitVec 5 → BitVec 5 → BitVec 5 → Instr) × Nat) : Prop :=
  ∀ (s : State) (k : Nat) (rd ra rb : BitVec 5) (a : PA), a = ((s.core k).gr ra).setWidth 52 → Runs s k →
    MemAccess s k a op.2 2 → ownHome s a = true →
    ((s.core k).resv ≠ some (a.toNat / 64) →
      ∃ t, exec (op.1 k rd ra rb) s = .next t ∧ (t.core k).pc = (s.core k).pc + 4 ∧
        (∀ i, (t.core k).gr i = gWith (s.core k) rd 0 i) ∧ (t.core k).resv = none ∧ t.spine = s.spine ∧
        ButFetch s t { s with cores := t.cores, acc := t.acc, resv := t.resv } k) ∧
    ((s.core k).resv = some (a.toNat / 64) → NoStores s k (a.toNat / 64) → NotFollowed s k →
      ∃ t m, exec (op.1 k rd ra rb) s = .next t ∧ Sent s t k m ∧ m.opc = opcWR_PART ∧ m.addr.toNat = a.toNat / 64 * 64 ∧
        m.body = partBody (byteMask (a.toNat % 64) op.2)
          (putLine 0 (a.toNat % 64) op.2 (((s.core k).gr rb).toNat % 2 ^ (8 * op.2))) ∧
        (t.core k).pc = (s.core k).pc ∧ (t.core k).wait = some (.scnd rd.toNat a))

theorem scndSends {op : (Nat → BitVec 5 → BitVec 5 → BitVec 5 → Instr) × Nat}
    (meaning : ∀ s k rd ra rb, exec (op.1 k rd ra rb) s = onCore k s (scndOp s k op.2 rd ra rb) := by intros; rfl) :
    ScndSends op := by
  intro s k rd ra rb a ha h access own
  rw [meaning]
  exact ⟨scndOp_fails ha h access own, scndOp_sent ha h access own⟩

/-- A cache operation sends its request and goes on (R344). -/
def CacheSends (op : (Nat → BitVec 5 → BitVec 16 → Instr) × Nat × Nat × Nat × Bool) : Prop :=
  ∀ (s : State) (k : Nat) (ra : BitVec 5) (imm : BitVec 16) (a : PA), a = effAddr ((s.core k).gr ra) imm → Runs s k →
    MemAccess s k a 1 op.2.2.2.1 → NoStores s k (a.toNat / 64) → NotFollowed s k →
    ∃ t, exec (op.1 k ra imm) s = .next t ∧
      Sent s t k (s.coreReq k op.2.1 op.2.2.1 (BitVec.ofNat 52 (a.toNat / 64 * 64)) []) ∧
      (t.core k).pc = (s.core k).pc + 4 ∧ (t.core k).g = (s.core k).g ∧ (t.core k).w = (s.core k).w ∧
      (t.core k).wait = none ∧
      (op.2.2.2.2 = true → nibFind (t.core k) (a.toNat / 64) = none)

theorem cacheSends (o : CacheOp) {instr : Nat → BitVec 5 → BitVec 16 → Instr}
    (meaning : ∀ s k ra imm, exec (instr k ra imm) s = onCore k s (cacheOp s k o ra imm) := by intros; rfl) :
    CacheSends (instr, (CacheOp.request o).1, (CacheOp.request o).2, if o = .zln ∨ o = .cinv then 2 else 1,
      decide (o = .zln ∨ o = .cinv)) := by
  intro s k ra imm a ha h access noStores hf
  obtain ⟨t, step, sent, tag, l, core⟩ := cacheOp_sent ha h access noStores hf
  obtain ⟨-, g, w, wait, -⟩ := cacheTaken_registers o (lineAddr a) (a.toNat / 64) tag (s.core k)
  refine ⟨t, (meaning ..).trans step, sent, by rw [core], by rw [core, ← g], by rw [core, ← w],
    by rw [core]; exact wait.trans h.wait_eq_none, fun drops => ?_⟩
  rw [core, cacheTaken, if_pos (of_decide_eq_true drops)]
  exact nibFind_filter ..

end Sys2Proof.Machine

open Sys2Proof Sys2Proof.Machine

/-- Settles O10: each access takes a tag and sends one request with it; atomics, LRES and SCND wait, cache operations retire. -/
theorem homeAccessesSendTheirRequest : Obligations.HomeAccessesSendTheirRequest := by
  refine ⟨?_, ?_, ?_, ?_, ?_⟩
  · change ∀ op ∈ _, AmoSends op
    simp only [List.forall_mem_cons, List.not_mem_nil, false_imp_iff, implies_true, and_true]
    exact ⟨amoSends, amoSends, amoSends, amoSends, amoSends, amoSends, amoSends⟩
  · intro s k dword rd ra rb rc a n ha hn h access noStores hf
    exact ⟨_, onCore_go h _ _ (amoOp_mem ha hn access 2 fun x => x.gr rc), amoSend_sent hn access.place noStores hf 2 _ _⟩
  · change ∀ op ∈ _, LresSends op
    simp only [List.forall_mem_cons, List.not_mem_nil, false_imp_iff, implies_true, and_true]
    exact ⟨lresSends, lresSends⟩
  · change ∀ op ∈ _, ScndSends op
    simp only [List.forall_mem_cons, List.not_mem_nil, false_imp_iff, implies_true, and_true]
    exact ⟨scndSends, scndSends⟩
  · change ∀ op ∈ _, CacheSends op
    simp only [List.forall_mem_cons, List.not_mem_nil, false_imp_iff, implies_true, and_true]
    exact ⟨cacheSends .zln, cacheSends .pfk, cacheSends .cln, cacheSends .cinv⟩
end

section
/-! PROOF. The store buffer and the gather buffer (R302, R303, R305, R340). -/
namespace Sys2Proof.Machine
open Config

variable {s : State} {k : Nat}

/-! ## The bytes of the store buffer (R302) -/

/-- What the store buffer l holds of byte o of a line. -/
def sbFind (l : List SbEntry) (line o : Nat) : Option Byte :=
  match l.find? fun e => e.line == line with
  | some e => if e.mask.getLsbD o then some (lineByte e.data o) else none
  | none => none

theorem sbByte_eq (x : Core) (line o : Nat) : x.sbByte line o = sbFind x.sb line o := rfl

/-- The store buffer after a store of the bytes m of d to a line: over what is there of the line, or as an entry of its own. -/
def sbStore (l : List SbEntry) (line : Nat) (d : LineData) (m : BitVec 64) : List SbEntry :=
  if l.any fun e => e.line == line then
    l.map fun e => if e.line = line then { e with data := mergeLine e.data d m, mask := e.mask ||| m } else e
  else l ++ [⟨line, d, m, false⟩]

theorem sbFind_sbStore (l : List SbEntry) (line' line : Nat) (d : LineData) (m : BitVec 64) {o : Nat} (ho : o < 64) :
    sbFind (sbStore l line d m) line' o =
      if line' = line ∧ m.getLsbD o = true then some (lineByte d o) else sbFind l line' o := by
  unfold sbStore
  split
  · have line_kept : ((fun e : SbEntry => e.line == line') ∘ fun e =>
        if e.line = line then { e with data := mergeLine e.data d m, mask := e.mask ||| m } else e) = fun e => e.line == line' := by
      funext e
      dsimp only [Function.comp]
      split <;> rfl
    rename_i there
    rw [sbFind, List.find?_map, line_kept, sbFind]
    cases found : l.find? fun e => e.line == line' with
    | none =>
      have other : line' ≠ line := by
        rintro rfl
        obtain ⟨e, he, eq⟩ := List.any_eq_true.1 there
        exact List.find?_eq_none.1 found e he eq
      simp [other]
    | some e =>
      have eq : e.line = line' := by simpa using List.find?_some found
      by_cases h : line' = line
      · subst h
        by_cases hm : m.getLsbD o = true <;> simp [eq, hm, lineByte_mergeLine _ _ _ ho]
      · simp [eq, h]
  · rename_i absent
    rw [sbFind, List.find?_append, sbFind]
    by_cases h : line' = line
    · subst h
      rw [List.find?_eq_none.2 fun e he eq => absent (List.any_eq_true.2 ⟨e, he, eq⟩)]
      by_cases hm : m.getLsbD o = true <;> simp [hm]
    · cases l.find? fun e => e.line == line' <;> simp [Ne.symm h, h]

/-! ## Stores (R302, R340) -/

/-- A store to memory: the core's store buffer takes it, its nib copy of the line may, and the core goes on. -/
theorem storeMem_eq {a : PA} (room : (∃ e ∈ (s.core k).sb, e.line = a.toNat / 64) ∨ (s.core k).sb.length < 16) (n v : Nat) :
    ∃ f : Core → Core, storeMem s k a n v = Machine.retire (s.modCore k f) k ∧
      (f (s.core k)).pc = (s.core k).pc ∧ (f (s.core k)).g = (s.core k).g ∧ (f (s.core k)).w = (s.core k).w ∧
      (f (s.core k)).sb = sbStore (s.core k).sb (a.toNat / 64) (putLine 0 (a.toNat % 64) n v) (byteMask (a.toNat % 64) n) := by
  unfold storeMem sbStore storeLineOf
  dsimp only
  split
  · refine ⟨_, rfl, ?_⟩
    split <;> exact ⟨rfl, rfl, rfl, rfl⟩
  · rename_i absent
    have free : (s.core k).sb.length < 16 := room.resolve_left fun ⟨e, he, eq⟩ => absent (List.any_eq_true.2 ⟨e, he, by simp [eq]⟩)
    rw [if_pos free]
    refine ⟨_, rfl, ?_⟩
    split <;> exact ⟨rfl, rfl, rfl, rfl⟩

/-- A store of n bytes enters the store buffer (R302, R340). -/
def StoreBuffered (op : (Nat → BitVec 5 → BitVec 4 → BitVec 5 → BitVec 16 → Instr) × Nat × (Core → BitVec 5 → BitVec 4 → Nat)) : Prop :=
  ∀ (s : State) (k : Nat) (rb : BitVec 5) (wb : BitVec 4) (ra : BitVec 5) (imm : BitVec 16) (a : PA),
    a = effAddr ((s.core k).gr ra) imm → Runs s k → MemAccess s k a op.2.1 2 →
    ((∃ e ∈ (s.core k).sb, e.line = a.toNat / 64) ∨ (s.core k).sb.length < 16) →
    ∃ t, exec (op.1 k rb wb ra imm) s = .next t ∧
      (t.core k).pc = (s.core k).pc + 4 ∧ (t.core k).g = (s.core k).g ∧ (t.core k).w = (s.core k).w ∧
      (∀ line, ∀ o < 64, (t.core k).sbByte line o =
        if line = a.toNat / 64 ∧ a.toNat % 64 ≤ o ∧ o < a.toNat % 64 + op.2.1 then
          some (BitVec.ofNat 8 (op.2.2 (s.core k) rb wb / 2 ^ (8 * (o - a.toNat % 64))))
        else (s.core k).sbByte line o) ∧
      OthersKept s t k [0, 4] ∧ ButFetch s t { s with cores := t.cores, acc := t.acc } k

/-- Byte j < n of a number is that of the number cut to n bytes. -/
theorem ofNat_cut_byte (v : Nat) {j n : Nat} (h : j < n) :
    BitVec.ofNat 8 (v % 2 ^ (8 * n) / 2 ^ (8 * j)) = BitVec.ofNat 8 (v / 2 ^ (8 * j)) := by
  apply BitVec.eq_of_toNat_eq
  rw [BitVec.toNat_ofNat, BitVec.toNat_ofNat, show 8 * n = 8 * j + (8 * (n - j - 1) + 8) by omega, pow_add,
    Nat.mod_mul_right_div_self, Nat.mod_mod_of_dvd _ (pow_dvd_pow 2 (by omega))]

theorem storeBuffered {op : (Nat → BitVec 5 → BitVec 4 → BitVec 5 → BitVec 16 → Instr) × Nat × (Core → BitVec 5 → BitVec 4 → Nat)}
    (meaning : ∀ s k rb wb ra imm, exec (op.1 k rb wb ra imm) s =
      onCore k s (storeOp s k ra imm op.2.1 fun x => op.2.2 x rb wb % 2 ^ (8 * op.2.1))) : StoreBuffered op := by
  intro s k rb wb ra imm a ha h access room
  obtain ⟨f, eq, pc, g, w, sb⟩ := storeMem_eq room op.2.1 (op.2.2 (s.core k) rb wb % 2 ^ (8 * op.2.1))
  have hx : (s.modCore k f).core k = f (s.core k) := State.core_modCore_same ..
  obtain ⟨⟨l, core⟩, others, frame⟩ := CoreOnly.retire_spec h (coreOnly_modCore s k f) (by rw [hx, pc])
  refine ⟨_, (meaning ..).trans (onCore_answers h ⟨fun s => storeMem s k a op.2.1 _, ?_, eq⟩), by rw [core], by rw [core, hx]; exact g,
    by rw [core, hx]; exact w, fun line o ho => ?_, others, frame⟩
  · subst ha
    simp only [storeOp, access.place, access.aligned, access.allowed, ne_eq, not_true_eq_false, if_false]
  · rw [core, sbByte_eq, sbByte_eq]
    dsimp only
    rw [hx, sb, sbFind_sbStore _ _ _ _ _ ho]
    refine ite_congr (by rw [getLsbD_byteMask _ _ ho, decide_eq_true_eq]) (fun within => ?_) fun _ => rfl
    obtain ⟨-, lo, hi⟩ := within
    rw [lineByte_putLine _ _ ho, if_pos ⟨lo, hi⟩, ofNat_cut_byte _ (by omega)]

/-! ## Draining into the gather buffer and to the home (R303, R305) -/

/-- Where no core is ending its task, nothing waits for its stores. -/
theorem clusterGo_of_not_ending (s : State) (c : Nat) (h : ∀ j, (s.core j).ending = none) : clusterGo s c = s :=
  List.foldl_fixed' (fun j => show endCheck s (8 * c + j) = s by rw [endCheck, h]) _

/-- The gather buffer drains nothing of its own where no entry is full and fewer than 24 are taken (R305). -/
theorem gatherAuto_quiet (s : State) (c : Nat) (crowd : Bool) (partialMasks : ∀ f ∈ (s.cluster c).gather, f.mask ≠ BitVec.allOnes 64)
    (few : (s.cluster c).gather.length < 24) : gatherAuto s c crowd = s := by
  have empty : ((s.cluster c).gather.filter fun e => e.mask == BitVec.allOnes 64 && e.drain.isNone) = [] :=
    List.filter_eq_nil_iff.2 fun f hf => by rw [beq_false_of_ne (partialMasks f hf)]; exact Bool.false_ne_true
  simp only [gatherAuto, empty, List.foldl_nil, decide_eq_false (Nat.not_le.2 few), Bool.and_false, Bool.false_eq_true, if_false]

/-- The gather entry that an entry of core k's store buffer becomes. -/
def SbEntry.gather (e : SbEntry) (k : Nat) : GEntry := ⟨e.line, e.data, e.mask, BitVec.ofNat 8 (2 ^ (k % 8)), e.poison, none⟩

/-- Entry e of core k's store buffer moves into the gather buffer. -/
def gatherMove (s : State) (k : Nat) (e : SbEntry) : State :=
  (s.modCluster (k / 8) fun x => { x with gather := x.gather ++ [e.gather k] }).modCore k fun x =>
    { x with sb := eraseFirst (· == e) x.sb }

theorem gatherMove_cluster (s : State) (k : Nat) (e : SbEntry) : (gatherMove s k e).cluster (k / 8) =
    { s.cluster (k / 8) with gather := (s.cluster (k / 8)).gather ++ [e.gather k] } := by
  rw [gatherMove, State.cluster_modCore, State.cluster_modCluster_same]

theorem gatherMove_cluster_other (s : State) (e : SbEntry) {c : Nat} (hc : c ≠ k / 8) : (gatherMove s k e).cluster c = s.cluster c := by
  rw [gatherMove, State.cluster_modCore, State.cluster_modCluster_other _ _ hc]

theorem gatherMove_core (s : State) (k : Nat) (e : SbEntry) : (gatherMove s k e).core k =
    { s.core k with sb := eraseFirst (· == e) (s.core k).sb } := by
  rw [gatherMove, State.core_modCore_same, State.core_modCluster]

theorem gatherMove_core_other (s : State) (e : SbEntry) {j : Nat} (hj : j ≠ k) : (gatherMove s k e).core j = s.core j := by
  rw [gatherMove, State.core_modCore_other _ _ hj, State.core_modCluster]

/-- The oldest entry of the store buffer moves into the gather buffer (R303). -/
theorem storeBufferDrain_moves {e : SbEntry} {l : List SbEntry} (hk : k < nCores) (lit : s.domLit (44 + k / 8) = true)
    (sb : (s.core k).sb = e :: l) (other : ∀ f ∈ (s.cluster (k / 8)).gather, f.line ≠ e.line)
    (few : (s.cluster (k / 8)).gather.length < 23) (part : e.mask ≠ BitVec.allOnes 64)
    (parts : ∀ f ∈ (s.cluster (k / 8)).gather, f.mask ≠ BitVec.allOnes 64) (goes : ∀ j, (s.core j).ending = none) :
    ∃ t, exec (.storeBufferDrain k) s = .next t ∧ t.core k = { s.core k with sb := l } ∧
      (∀ j, j ≠ k → t.core j = s.core j) ∧ (∀ c, c ≠ k / 8 → t.cluster c = s.cluster c) ∧
      t.cluster (k / 8) = { s.cluster (k / 8) with
        gather := (s.cluster (k / 8)).gather ++ [⟨e.line, e.data, e.mask, BitVec.ofNat 8 (2 ^ (k % 8)), e.poison, none⟩] } ∧
      t = { s with cores := t.cores, clusters := t.clusters } := by
  have core : (gatherMove s k e).core k = { s.core k with sb := l } := by
    rw [gatherMove_core, sb, eraseFirst, if_pos (beq_self_eq_true e)]
  have taken : gatherTake s k e = some (gatherMove s k e) := by
    have none_open : ((s.cluster (k / 8)).gather.any fun f => f.line == e.line && f.drain.isNone) = false :=
      List.any_eq_false.2 fun f hf => by rw [beq_false_of_ne (other f hf)]; exact Bool.false_ne_true
    have room : (s.cluster (k / 8)).gather.length < 32 := by omega
    simp only [gatherTake, none_open, Bool.false_eq_true, if_false, if_pos room]
    refine congrArg some (gatherAuto_quiet (gatherMove s k e) (k / 8) true ?_ ?_)
    · rw [gatherMove_cluster]
      simpa [or_imp, forall_and] using ⟨parts, part⟩
    · rw [gatherMove_cluster, List.length_append, List.length_singleton]
      omega
  have stays (j : Nat) : ((gatherMove s k e).core j).ending = none := by
    by_cases hj : j = k
    · subst hj
      rw [core]
      exact goes j
    · rw [gatherMove_core_other s e hj]
      exact goes j
  refine ⟨gatherMove s k e, (if_pos hk).trans (congrArg Host.Outcome.next ?_), core,
    fun j hj => gatherMove_core_other s e hj, fun c hc => gatherMove_cluster_other s e hc, gatherMove_cluster s k e, rfl⟩
  rw [sbDrain, if_pos lit, sb, List.findSome?_cons, taken]
  exact clusterGo_of_not_ending (gatherMove s k e) (k / 8) stays

/-- A gather entry whose hold time has passed drains as one write of its bytes (R305). -/
theorem gatherHoldExpire_drains {c i : Nat} {e : GEntry} (hc : c < nClusters) (entry : (s.cluster c).gather[i]? = some e)
    (isOpen : e.drain = none) (alone : ∀ f ∈ (s.cluster c).gather, f.line = e.line → f = e) (part : e.mask ≠ BitVec.allOnes 64) :
    ∃ t m, exec (.gatherHoldExpire c i) s = .next t ∧ t.spine = { s.spine with req := s.spine.req ++ [m] } ∧
      m.opc = opcWR_PART ∧ m.src = mkAgent s.devNum (32 + c) ∧ m.addr = BitVec.ofNat 52 (e.line * 64) ∧
      m.body = partBody e.mask e.data ∧ m.poison = e.poison ∧
      (∀ f ∈ (t.cluster c).gather, f.line = e.line → f.drain = some m.tag) ∧
      t = { s with clusters := t.clusters, spine := t.spine, acc := t.acc } := by
  have undrained : ((s.cluster c).gather.any fun f => f.line == e.line && f.drain.isSome) = false :=
    List.any_eq_false.2 fun f hf => by
      by_cases h : f.line = e.line
      · rw [alone f hf h, isOpen]; simp
      · rw [beq_false_of_ne h]; exact Bool.false_ne_true
  have found : ((s.cluster c).gather.find? fun f => f.line == e.line) = some e := by
    cases h : (s.cluster c).gather.find? fun f => f.line == e.line with
    | none => exact absurd (beq_self_eq_true e.line) (List.find?_eq_none.1 h e (List.mem_of_getElem? entry))
    | some f => rw [alone f (List.mem_of_find?_eq_some h) (by simpa using List.find?_some h)]
  have agent : s.scrAgent (8 * c) = mkAgent s.devNum (32 + c) := by
    rw [State.scrAgent, Nat.mul_div_cancel_left c (by decide)]
  have step : exec (.gatherHoldExpire c i) s = .next (drainLine s c e.line) := by
    refine (if_pos hc).trans ?_
    rw [entry]
    exact congrArg Host.Outcome.next (if_pos isOpen)
  simp only [drainLine, undrained, Bool.false_eq_true, if_false, found, if_neg part] at step
  refine ⟨_, _, step, State.count_spine .., ?_⟩
  refine ⟨rfl, agent, rfl, rfl, rfl, fun f hf line => ?_, ?_⟩
  · rw [State.cluster_count, State.cluster_modCluster_same] at hf
    obtain ⟨f', -, rfl⟩ := List.mem_map.1 hf
    by_cases h : f'.line = e.line
    · rw [if_pos h]; rfl
    · rw [if_neg h] at line
      exact absurd line h
  · rw [State.count_frame]
    rfl

end Sys2Proof.Machine

open Sys2Proof Sys2Proof.Machine

/-- Settles O9: a store changes the bytes it writes; an entry moves where nothing of its line is gathered; an expiry sends one write. -/
theorem storesAreBufferedAndDrained : Obligations.StoresAreBufferedAndDrained := by
  refine ⟨?_, ?_, ?_⟩
  · change ∀ op ∈ _, StoreBuffered op
    simp only [List.forall_mem_cons, List.not_mem_nil, false_imp_iff, implies_true, and_true]
    refine ⟨storeBuffered ?_, storeBuffered ?_, storeBuffered ?_, storeBuffered ?_, storeBuffered ?_⟩
    iterate 4 · intros; rfl
    · intros
      simp only [Nat.mod_eq_of_lt (BitVec.isLt _)]
      rfl
  · intro s k e l hk lit sb other few part parts goes
    exact storeBufferDrain_moves hk lit sb other few part parts goes
  · intro s c i e hc entry isOpen alone part
    exact gatherHoldExpire_drains hc entry isOpen alone part
end

section
/-! PROOF. Tasks end by TRAP 0 or by force (R322, R368). -/
namespace Sys2Proof.Machine
open Config

variable {s t u : State} {n slot k : Nat}

/-! ## Descriptors (R368) -/

theorem descOf_modDesc_same {f : Desc → Desc} (hf : ∀ d, (f d).slot = d.slot) :
    descOf (modDesc s n slot f) n slot = (descOf s n slot).map f := by
  have kept : ((fun d : Desc => d.slot == slot) ∘ fun d => if d.slot = slot then f d else d) = fun d => d.slot == slot := by
    funext d
    dsimp only [Function.comp]
    split
    · rw [hf]
    · rfl
  rw [descOf, modDesc, State.ink_modInk_same, List.find?_map, kept, descOf]
  cases found : (s.ink n).descs.find? fun d => d.slot == slot with
  | none => rfl
  | some d => exact congrArg some (if_pos (by simpa using List.find?_some found))

theorem descOf_modDesc_other {f : Desc → Desc} (hf : ∀ d, (f d).slot = d.slot) {i : Nat} (hi : i ≠ slot) :
    descOf (modDesc s n slot f) n i = descOf s n i := by
  have kept : ((fun d : Desc => d.slot == i) ∘ fun d => if d.slot = slot then f d else d) = fun d => d.slot == i := by
    funext d
    dsimp only [Function.comp]
    split
    · rw [hf]
    · rfl
  rw [descOf, modDesc, State.ink_modInk_same, List.find?_map, kept, descOf]
  cases found : (s.ink n).descs.find? fun d => d.slot == i with
  | none => rfl
  | some d =>
    have slot_eq : d.slot = i := by simpa using List.find?_some found
    exact congrArg some (if_neg (by rw [slot_eq]; exact hi))

/-- The descriptor in a slot is over, and no other descriptor has changed (R368). -/
structure DescEnded (s t : State) (n slot : Nat) (st : Status) (res : DWord) : Prop where
  desc : ∀ d, descOf s n slot = some d →
    (heldEngine s n d = none → descOf t n slot = some { d with phase := .ended st res, engine := none }) ∧
    (heldEngine s n d ≠ none → descOf t n slot = some { d with phase := .done st res } ∧
      (t.ink n).doneQ = (s.ink n).doneQ ++ [slot])
  others : ∀ i, i ≠ slot → descOf t n i = descOf s n i
  inks : ∀ i, i ≠ n → t.ink i = s.ink i

/-- Only inkwells and engines matter for the end of a descriptor. -/
theorem DescEnded.congr {s' t' : State} {st : Status} {res : DWord} (h : DescEnded s t n slot st res) (hi : s.inks = s'.inks)
    (he : s.engines = s'.engines) (ht : t'.inks = t.inks) : DescEnded s' t' n slot st res := by
  have before (i : Nat) : s'.ink i = s.ink i := by rw [State.ink, State.ink, hi]
  have after (i : Nat) : t'.ink i = t.ink i := by rw [State.ink, State.ink, ht]
  have held (d : Desc) : heldEngine s' n d = heldEngine s n d := by rw [heldEngine, heldEngine, he]
  obtain ⟨desc, others, inks⟩ := h
  refine ⟨fun d => ?_, fun i => ?_, fun i => ?_⟩
  · simpa only [descOf, before, after, held] using desc d
  · simpa only [descOf, before, after] using others i
  · simpa only [before, after] using inks i

theorem completeDesc_inks (s : State) (n slot : Nat) (raw : LineData) (st : Status) (res : DWord) :
    (∀ i, descOf (completeDesc s n slot raw st res) n i = descOf (modDesc s n slot fun d => { d with phase := .done st res }) n i) ∧
      ((completeDesc s n slot raw st res).ink n).doneQ = (s.ink n).doneQ ++ [slot] ∧
      ∀ i, i ≠ n → (completeDesc s n slot raw st res).ink i = s.ink i := by
  have counted (i : Nat) : (if st.failed then s.count 52 4 1 else s).ink i = s.ink i := by
    split
    · exact State.ink_count ..
    · rfl
  unfold completeDesc
  generalize (if st.failed then s.count 52 4 1 else s) = u at counted
  refine ⟨fun i => ?_, ?_, fun i hi => ?_⟩
  · simp only [descOf, modDesc, State.ink_modInk_same, counted]
  · simp only [modDesc, State.ink_modInk_same, counted]
  · simp only [modDesc, State.ink_modInk_other _ _ hi, counted]

theorem finishDesc_ended (s : State) (n slot : Nat) (st : Status) (res : DWord) :
    DescEnded s (finishDesc s n slot st res) n slot st res := by
  unfold finishDesc
  split
  · rename_i absent
    exact ⟨fun d hd => by simp [absent] at hd, fun _ _ => rfl, fun _ _ => rfl⟩
  · rename_i d there
    split
    · rename_i e held
      obtain ⟨descs, doneQ, inks⟩ := completeDesc_inks
        { s with engines := smod engineD s.engines e fun x => { x.cleared with work := x.work } } n slot d.raw st res
      refine ⟨fun d' hd' => ?_, fun i hi => (descs i).trans (descOf_modDesc_other (by intro _; rfl) hi), inks⟩
      obtain rfl : d = d' := Option.some.inj (there.symm.trans hd')
      refine ⟨fun free => by simp [held] at free, fun _ => ⟨?_, doneQ⟩⟩
      rw [descs, descOf_modDesc_same (by intro _; rfl)]
      exact congrArg (Option.map _) hd'
    · rename_i free
      refine ⟨fun d' hd' => ?_, fun i hi => descOf_modDesc_other (by intro _; rfl) hi, fun i hi => State.ink_modInk_other _ _ hi⟩
      obtain rfl : d = d' := Option.some.inj (there.symm.trans hd')
      refine ⟨fun _ => ?_, fun held => absurd free held⟩
      rw [descOf_modDesc_same (by intro _; rfl), hd']
      rfl

theorem finishDesc_frame (s : State) (n slot : Nat) (st : Status) (res : DWord) : finishDesc s n slot st res =
    { s with acc := (finishDesc s n slot st res).acc, inks := (finishDesc s n slot st res).inks,
             engines := (finishDesc s n slot st res).engines } := by
  unfold finishDesc completeDesc
  split
  · rfl
  · split
    · dsimp only
      split
      · rw [State.count_frame]
        rfl
      · rfl
    · rfl

/-! ## The end of a task (R322) -/

/-- A core after its task (R322). -/
def Core.idled (x : Core) : Core := { x with
  st := .idle, ending := none, forced := false, doom := none, evDisabled := false, evAbort := false, evStore := [],
  wait := none, wfdLate := false, resv := none }

theorem dropResv_core_same (s : State) (k : Nat) : (dropResv s k).core k = { s.core k with resv := none } :=
  State.core_modCore_same s k fun x => { x with resv := none }

theorem dropResv_core_other (s : State) {j k : Nat} (hj : j ≠ k) : (dropResv s k).core j = s.core j :=
  State.core_modCore_other s (fun x => { x with resv := none }) hj

theorem dropResv_resv (s : State) (k : Nat) : (dropResv s k).resv = sset zeroD s.resv k 0 := rfl

theorem coreIdle_core_same (s : State) (k : Nat) : (coreIdle s k).core k = (s.core k).idled := by
  rw [coreIdle, State.core_setFld, dropResv_core_same, State.core_modCore_same]
  rfl

theorem coreIdle_core_other (s : State) {j k : Nat} (hj : j ≠ k) : (coreIdle s k).core j = s.core j := by
  rw [coreIdle, State.core_setFld, dropResv_core_other _ hj, State.core_modCore_other _ _ hj]

theorem coreIdle_resv (s : State) (k : Nat) : sget zeroD (coreIdle s k).resv k = 0 := by
  rw [coreIdle, State.setFld_resv, dropResv_resv, sget_sset_same]

theorem coreIdle_rd (s : State) (k : Nat) {off : Nat} (h : off ≠ scrReg (k / 8) 0xC) : (coreIdle s k).rd off = s.rd off := by
  rw [coreIdle, State.setFld, State.rd_wr_other _ _ h]
  rfl

theorem coreIdle_kept (s : State) (k : Nat) : (coreIdle s k).inks = s.inks ∧ (coreIdle s k).hbm = s.hbm ∧
    (coreIdle s k).clusters = s.clusters := by
  simp [coreIdle, dropResv]

/-- The error bits that the end of a task sets (R322). -/
def taskErrs (s : State) (k : Nat) (st : Status) : State :=
  let t := if st = .fault then scrErr s k 0 else if st = .doubleFault then scrErr s k 1 else s
  if (s.core k).forced then scrErr t k 3 else t

/-- Two states that differ in nothing that a task or a descriptor consists of. -/
def SameTask (s t : State) : Prop :=
  t.cores = s.cores ∧ t.resv = s.resv ∧ t.inks = s.inks ∧ t.engines = s.engines ∧ t.hbm = s.hbm ∧ t.clusters = s.clusters

theorem sameTask_refl (s : State) : SameTask s s := ⟨rfl, rfl, rfl, rfl, rfl, rfl⟩

theorem sameTask_scrErr (h : SameTask s t) (k i : Nat) : SameTask s (scrErr t k i) := by
  simpa [SameTask, scrErr] using h

theorem taskErrs_same (s : State) (k : Nat) (st : Status) : SameTask s (taskErrs s k st) := by
  have first : SameTask s (if st = .fault then scrErr s k 0 else if st = .doubleFault then scrErr s k 1 else s) := by
    split
    · exact sameTask_scrErr (sameTask_refl s) k 0
    · split
      · exact sameTask_scrErr (sameTask_refl s) k 1
      · exact sameTask_refl s
  unfold taskErrs
  generalize (if st = Status.fault then scrErr s k 0 else if st = .doubleFault then scrErr s k 1 else s) = t at first
  dsimp only
  split
  · exact sameTask_scrErr first k 3
  · exact first

/-- A forced ending sets SCR_ERR.TASK_ABORTED (R325). -/
theorem taskErrs_forced (st : Status) (h : (s.core k).forced = true) : (taskErrs s k st).bit (scrReg (k / 8) 0x80) 3 = true := by
  rw [taskErrs, if_pos h]
  exact State.bit_setErr _ _ _ _ _ (by decide)

/-- The status that the end of a task gives its descriptor is the one given, where no STORE_ERR is pending (R322). -/
theorem finishTask_quiet (st : Status) (res : DWord) (h : (s.core k).evStore = []) : finishTask s k st res =
    coreIdle ((finishDesc (taskErrs s k st) (bitsOf (s.core k).task.toNat 0 10) (bitsOf (s.core k).task.toNat 16 16) st res).count
      (36 + k / 8) 13 1) k := by
  dsimp only [finishTask, taskErrs]
  rw [h]
  cases st <;> rfl

/-- Nothing that FENCE.SYS waits for is left of core k's stores (R310). -/
structure StoresOut (s : State) (k : Nat) : Prop where
  wait : (s.core k).wait = none
  sb : (s.core k).sb = []
  cwBusy : (s.core k).cwBusy = none
  posted : (s.core k).posted = []
  gather : ∀ e ∈ (s.cluster (k / 8)).gather, e.cores.getLsbD (k % 8) = false

theorem StoresOut.fenceDone (h : StoresOut s k) : fenceDone s k = true := by
  have none : (s.cluster (k / 8)).gather.any (fun e => e.cores.getLsbD (k % 8)) = false :=
    List.any_eq_false.2 fun e he => by simp [h.gather e he]
  simp [Machine.fenceDone, h.wait, h.sb, h.cwBusy, h.posted, none]

theorem StoresOut.fenceDrain (h : StoresOut s k) : fenceDrain s k = s := by
  have none : ((s.cluster (k / 8)).gather.filter fun e => e.cores.getLsbD (k % 8) && e.drain.isNone) = [] :=
    List.filter_eq_nil_iff.2 fun e he => by simp [h.gather e he]
  rw [Machine.fenceDrain, none, List.foldl_nil]

/-- A task with no store on its way ends at once (R322). -/
theorem endTask_ends (h : StoresOut s k) (st : Status) (res : DWord) : endTask s k st res =
    finishTask (s.modCore k fun x => { x with st := .running, ending := some (st, res), evStore := [] }) k st res := by
  have core : (s.modCore k fun x => { x with st := .running, ending := some (st, res), evStore := [] }).core k =
      { s.core k with st := .running, ending := some (st, res), evStore := [] } := State.core_modCore_same ..
  have out : StoresOut (s.modCore k fun x => { x with st := .running, ending := some (st, res), evStore := [] }) k := by
    obtain ⟨wait, sb, cwBusy, posted, gather⟩ := h
    refine ⟨?_, ?_, ?_, ?_, gather⟩
    all_goals rw [core]
    all_goals assumption
  unfold endTask
  generalize s.modCore k _ = t at core out ⊢
  rw [endCheck, core]
  dsimp only
  rw [out.fenceDrain, if_pos out.fenceDone]

/-- The task of core k is over: what that leaves (R322). -/
structure TaskOver (s t : State) (k : Nat) (st : Status) (res : DWord) : Prop where
  core : t.core k = (({ s.core k with st := .running, ending := some (st, res), evStore := [] } : Core)).idled
  resv : sget zeroD t.resv k = 0
  cores : ∀ j, j ≠ k → t.core j = s.core j
  rest : t.hbm = s.hbm ∧ t.clusters = s.clusters
  desc : DescEnded s t (bitsOf (s.core k).task.toNat 0 10) (bitsOf (s.core k).task.toNat 16 16) st res
  forced : (s.core k).forced = true → t.bit (scrReg (k / 8) 0x80) 3 = true

theorem endTask_over (h : StoresOut s k) (st : Status) (res : DWord) : TaskOver s (endTask s k st res) k st res := by
  rw [endTask_ends h]
  have core : (s.modCore k fun x => { x with st := .running, ending := some (st, res), evStore := [] }).core k =
      { s.core k with st := .running, ending := some (st, res), evStore := [] } := State.core_modCore_same ..
  have cores (j : Nat) (hj : j ≠ k) : (s.modCore k fun x => { x with st := .running, ending := some (st, res), evStore := [] }).core j =
      s.core j := State.core_modCore_other _ _ hj
  have same : (s.modCore k fun x => { x with st := .running, ending := some (st, res), evStore := [] }) =
      { s with cores := (s.modCore k fun x => { x with st := .running, ending := some (st, res), evStore := [] }).cores } := rfl
  generalize s.modCore k _ = u at core cores same ⊢
  have task : (u.core k).task = (s.core k).task := by rw [core]
  have forced : (u.core k).forced = (s.core k).forced := by rw [core]
  rw [finishTask_quiet st res (by rw [core]), task]
  obtain ⟨hcores, hresv, hinks, hengines, hhbm, hclusters⟩ := taskErrs_same u k st
  have set : (s.core k).forced = true → (taskErrs u k st).bit (scrReg (k / 8) 0x80) 3 = true :=
    fun h => taskErrs_forced st (forced.trans h)
  generalize taskErrs u k st = v at hcores hresv hinks hengines hhbm hclusters set ⊢
  have ended := finishDesc_ended v (bitsOf (s.core k).task.toNat 0 10) (bitsOf (s.core k).task.toNat 16 16) st res
  have frame := finishDesc_frame v (bitsOf (s.core k).task.toNat 0 10) (bitsOf (s.core k).task.toNat 16 16) st res
  generalize finishDesc v _ _ st res = w at ended frame ⊢
  have wcore (j : Nat) : (w.count (36 + k / 8) 13 1).core j = u.core j := by
    rw [State.core_count, State.core, State.core, frame, hcores]
  obtain ⟨inks, hbm, clusters⟩ := coreIdle_kept (w.count (36 + k / 8) 13 1) k
  refine ⟨?_, coreIdle_resv .., fun j hj => ?_, ⟨?_, ?_⟩, ended.congr ?_ ?_ ?_, fun f => ?_⟩
  · rw [coreIdle_core_same, wcore, core]
  · rw [coreIdle_core_other _ hj, wcore, cores j hj]
  · rw [hbm, State.count_hbm, frame, hhbm, same]
  · rw [clusters, State.count_clusters, frame, hclusters, same]
  · rw [hinks, same]
  · rw [hengines, same]
  · rw [inks, State.count_inks]
  · have other : scrReg (k / 8) 0x80 ≠ scrReg (k / 8) 0xC := by unfold scrReg; omega
    have kept : (coreIdle (w.count (36 + k / 8) 13 1) k).rd (scrReg (k / 8) 0x80) = v.rd (scrReg (k / 8) 0x80) := by
      rw [coreIdle_rd _ _ other, State.rd_count, frame]
      rfl
    rw [State.bit, kept]
    exact set f

theorem trapZero_step (h : Runs s k) :
    exec (.trap k 0) s = .next (endTask (retireTo s k ((s.core k).pc + 4)) k .ok ((s.core k).gr 1)) :=
  onCore_go h (fun x => if (0 : BitVec 8) = 0 then .go fun s => endTask (Machine.retire s k) k .ok (x.gr 1) else .trap ⟨8, 0, none⟩)
    (fun s' => endTask (Machine.retire s' k) k .ok ((s.core k).gr 1)) rfl

end Sys2Proof.Machine

open Sys2Proof Sys2Proof.Machine

/-- Settles O14: with every store out, the end of a task takes place at once; TRAP 0 and a forced ending are both such an end. -/
theorem tasksEndByTrapZeroOrByForce : Obligations.TasksEndByTrapZeroOrByForce := by
  refine ⟨fun s k h sb cwBusy posted gather n slot hn hslot => ?_,
    fun s k d hk doom running ending wait sb cwBusy posted gather n slot hn hslot => ?_⟩
  · subst hn hslot
    obtain ⟨⟨l, core⟩, ran, -, -, -⟩ := retireTo_spec s ((s.core k).pc + 4) h.counts h.core
    have rest := ran.rest
    have cores := ran.cores
    have step := trapZero_step h
    generalize retireTo s k ((s.core k).pc + 4) = u at core rest cores step
    have out : StoresOut u k := by
      refine ⟨?_, ?_, ?_, ?_, ?_⟩
      · rw [core]; exact h.wait_eq_none
      · rw [core]; exact sb
      · rw [core]; exact cwBusy
      · rw [core]; exact posted
      · rw [State.cluster, rest]; exact gather
    have task : (u.core k).task = (s.core k).task := by rw [core]
    obtain ⟨tcore, resv, others, ⟨hbm, clusters⟩, desc, -⟩ := endTask_over out .ok ((s.core k).gr 1)
    rw [task] at desc
    have ended := desc.congr (s' := s) (by rw [rest]) (by rw [rest]) rfl
    refine ⟨_, step, by rw [tcore]; rfl, by rw [tcore]; rfl, resv, by rw [tcore]; rfl, by rw [tcore]; rfl, by rw [tcore]; rfl,
      by rw [tcore]; rfl, fun j hj => (others j hj).trans (cores j hj), by rw [hbm, rest], by rw [clusters, rest],
      ended.desc, ended.others, ended.inks⟩
  · subst hn hslot
    have core : (s.modCore k fun y => { y with forced := true }).core k = { s.core k with forced := true } := State.core_modCore_same ..
    have cores (j : Nat) (hj : j ≠ k) : (s.modCore k fun y => { y with forced := true }).core j = s.core j :=
      State.core_modCore_other _ _ hj
    have rest : (s.modCore k fun y => { y with forced := true }) =
        { s with cores := (s.modCore k fun y => { y with forced := true }).cores } := rfl
    have step : exec (.graceExpire k) s = .next (checkForced (s.modCore k fun y => { y with forced := true }) k) :=
      (if_pos hk).trans (congrArg Host.Outcome.next (if_pos ⟨by simp [doom], by simp [running], ending⟩))
    generalize s.modCore k _ = u at core cores rest step
    have forced : checkForced u k = endTask u k d 0 := by
      rw [checkForced, core]
      dsimp only
      rw [doom]
      exact if_pos ⟨rfl, wait, ending, by rw [running]; decide⟩
    have out : StoresOut u k := by
      refine ⟨?_, ?_, ?_, ?_, ?_⟩
      · rw [core]; exact wait
      · rw [core]; exact sb
      · rw [core]; exact cwBusy
      · rw [core]; exact posted
      · rw [rest]; exact gather
    have task : (u.core k).task = (s.core k).task := by rw [core]
    obtain ⟨tcore, resv, others, -, desc, bit⟩ := endTask_over out d 0
    rw [task] at desc
    have ended := desc.congr (s' := s) (by rw [rest]) (by rw [rest]) rfl
    refine ⟨_, step.trans (congrArg Host.Outcome.next forced), by rw [tcore]; rfl, by rw [tcore]; rfl, by rw [tcore]; rfl,
      bit (by rw [core]), fun j hj => (others j hj).trans (cores j hj), fun x hx => ?_, ended.others, ended.inks⟩
    exact ⟨(ended.desc x hx).1, fun held => ((ended.desc x hx).2 held).1⟩
end

section
/-! PROOF. Events of a core: taken at a boundary, in WFD, or reported by WFD (R317, R318, R323, R353). -/
namespace Sys2Proof.Machine
open Config

variable {s t u : State} {k : Nat}

/-! ## The handler is entered for an event (R317, R318) -/

/-- What the handler leaves of the core besides its own registers. -/
theorem enterHandler_core (u : State) (k : Nat) (c : Cause) (epc : PA) (st : Status) (res : DWord) (hv : (u.core k).tvec ≠ 0) :
    ∃ b, (enterHandler u k c epc st res).core k =
      Core.inHandler { u.core k with resv := none, lastCause := BitVec.ofNat 8 c.code } c epc b := by
  obtain ⟨n, b, -, eq⟩ := enterHandler_eq u k c epc st res hv
  have core : ({ causeTaken u k c with freeCtr := n } : State).core k = (causeTaken u k c).core k := rfl
  exact ⟨b, by rw [eq, State.core_modCore_same, core, causeTaken_core_same]⟩

/-- A change of the core's pending events is none of what the handler's entry looks at. -/
theorem Enters.after_events {code reason : Nat} {addr : Option PA} {epc : PA} {f : Core → Core}
    (hf : ∀ x, ∃ a b l, f x = { x with evDisabled := a, evAbort := b, evStore := l })
    (h : Enters (s.modCore k f) t k code reason addr epc) : Enters s t k code reason addr epc := by
  obtain ⟨a, b, l, hx⟩ := hf (s.core k)
  have core : (s.modCore k f).core k = { s.core k with evDisabled := a, evAbort := b, evStore := l } := by
    rw [State.core_modCore_same, hx]
  obtain ⟨pc, hepc, cause, badaddr, levels, resv, regs, memory, cores, rest⟩ := h
  rw [core] at pc levels regs memory
  exact ⟨pc, hepc, cause, badaddr, levels, resv, regs, memory, fun j hj => (cores j hj).trans (State.core_modCore_other _ _ hj),
    ⟨rest.rest, rest.regs, rest.domains, rest.off⟩⟩

/-- An event is taken (R318): f clears it. -/
theorem takeEvent_enters {f : Core → Core} (hf : ∀ x, ∃ a b l, f x = { x with evDisabled := a, evAbort := b, evStore := l })
    (hv : (s.core k).tvec ≠ 0) (c : Cause) (st : Status) (res : DWord) :
    Enters s (enterHandler (s.modCore k f) k c (s.core k).pc st res) k c.code c.reason c.addr (s.core k).pc ∧
    ∃ b, (enterHandler (s.modCore k f) k c (s.core k).pc st res).core k =
      Core.inHandler { f (s.core k) with resv := none, lastCause := BitVec.ofNat 8 c.code } c (s.core k).pc b := by
  obtain ⟨a, b, l, hx⟩ := hf (s.core k)
  have core : (s.modCore k f).core k = f (s.core k) := State.core_modCore_same ..
  have handler : ((s.modCore k f).core k).tvec ≠ 0 := by rw [core, hx]; exact hv
  refine ⟨(enterHandler_enters (s.modCore k f) k c (s.core k).pc st res handler).after_events hf, ?_⟩
  rw [← core]
  exact enterHandler_core _ k c _ st res handler

/-- A core that is not being stopped by force goes on. -/
theorem checkForced_unforced (h : (s.core k).forced = false) : checkForced s k = s := by
  unfold checkForced
  dsimp only
  split
  · exact if_neg fun c => by simp [h] at c
  · rfl

theorem eventTaken_step {v : State} (hk : k < nCores) (due : eventDue (s.core k) = true)
    (place : (coreAwake s k = true ∧ fetchCause s (s.core k) = none) ∨
      ((s.core k).st = .wfd ∧ s.domLit (44 + k / 8) = true ∧ s.boot.fatal = false))
    (taken : takeEvent s k = v) (unforced : (v.core k).forced = false) : exec (.eventTaken k) s = .next v := by
  refine (if_pos hk).trans (congrArg Host.Outcome.next ((if_pos due).trans ?_))
  rcases place with ⟨awake, fetch⟩ | wait
  · rw [if_pos awake, boundary, fetch, taken]
    exact checkForced_unforced unforced
  · have asleep : ¬ coreAwake s k = true := by simp [coreAwake, wait.1]
    rw [if_neg asleep, if_pos wait, taken]
    exact checkForced_unforced unforced

/-- An event enters the handler in its order (R318), at a boundary or in WFD. -/
theorem eventTaken_enters {f : Core → Core} {c : Cause} {st : Status} {res : DWord} (hk : k < nCores) (due : eventDue (s.core k) = true)
    (hv : (s.core k).tvec ≠ 0) (unforced : (s.core k).forced = false)
    (place : (coreAwake s k = true ∧ fetchCause s (s.core k) = none) ∨
      ((s.core k).st = .wfd ∧ s.domLit (44 + k / 8) = true ∧ s.boot.fatal = false))
    (hf : ∀ x, ∃ a b l, f x = { x with evDisabled := a, evAbort := b, evStore := l })
    (taken : takeEvent s k = enterHandler (s.modCore k f) k c (s.core k).pc st res) :
    ∃ t b, exec (.eventTaken k) s = .next t ∧ Enters s t k c.code c.reason c.addr (s.core k).pc ∧
      t.core k = Core.inHandler { f (s.core k) with resv := none, lastCause := BitVec.ofNat 8 c.code } c (s.core k).pc b := by
  obtain ⟨enters, b, core⟩ := takeEvent_enters hf hv c st res
  obtain ⟨_, _, _, hx⟩ := hf (s.core k)
  exact ⟨_, b, eventTaken_step hk due place taken (by rw [core, hx]; exact unforced), enters, core⟩

/-- Where the fetch raises FETCH, that cause is taken and the events stay (R353). -/
theorem eventTaken_fetch {c : Cause} (hk : k < nCores) (awake : coreAwake s k = true) (due : eventDue (s.core k) = true)
    (hv : (s.core k).tvec ≠ 0) (undoomed : (s.core k).doom = none) (fetch : fetchCause s (s.core k) = some c) :
    ∃ t, exec (.eventTaken k) s = .next t ∧ Enters s t k 7 c.reason (some (s.core k).pc) (s.core k).pc ∧
      (t.core k).evDisabled = (s.core k).evDisabled ∧ (t.core k).evAbort = (s.core k).evAbort ∧
      (t.core k).evStore = (s.core k).evStore := by
  have notHeld : (s.core k).hold = false := by
    simp only [eventDue, Bool.and_eq_true, Bool.not_eq_true'] at due
    exact due.1
  obtain ⟨reason, rfl⟩ : ∃ r, c = fetchFault (s.core k).pc r := by
    unfold fetchCause at fetch
    split at fetch
    · split at fetch
      · cases fetch
      · exact ⟨1, (Option.some.inj fetch).symm⟩
    · exact ⟨2, (Option.some.inj fetch).symm⟩
  have step : exec (.eventTaken k) s = .next (boundary s k) :=
    (if_pos hk).trans (congrArg Host.Outcome.next ((if_pos due).trans (if_pos awake)))
  have core : (s.paceCore k).core k = s.core k := rfl
  have raised : boundary s k = checkForced (enterHandler (s.paceCore k) k (fetchFault (s.core k).pc reason) (s.core k).pc .fault
      (faultResult (fetchFault (s.core k).pc reason))) k := by
    rw [boundary, fetch]
    refine congrArg (checkForced · k) (if_neg ?_)
    exact Bool.eq_false_iff.1 notHeld
  have handler : ((s.paceCore k).core k).tvec ≠ 0 := hv
  have enters := enterHandler_enters (s.paceCore k) k (fetchFault (s.core k).pc reason) (s.core k).pc .fault
    (faultResult (fetchFault (s.core k).pc reason)) handler
  obtain ⟨b, tcore⟩ := enterHandler_core (s.paceCore k) k (fetchFault (s.core k).pc reason) (s.core k).pc .fault
    (faultResult (fetchFault (s.core k).pc reason)) handler
  rw [core] at tcore
  generalize enterHandler (s.paceCore k) k _ _ _ _ = t at raised enters tcore
  have none : (t.core k).doom = none := by rw [tcore]; exact undoomed
  have stays : checkForced t k = t := by simp only [checkForced, none]
  exact ⟨t, step.trans (congrArg Host.Outcome.next (raised.trans stays)), enters.after_fetch (onlyFetched_refl s k).paceCore,
    by rw [tcore]; rfl, by rw [tcore]; rfl, by rw [tcore]; rfl⟩

/-! ## WFD (R323) -/

/-- A core that goes on at pc, whether its cluster counts or not: what differs. -/
theorem retireTo_others (u : State) (k : Nat) (pc : PA) : OthersKept u (retireTo u k pc) k [0, 4] := by
  obtain ⟨-, ran, -, hn⟩ := fetchLine_spec u k
  refine ⟨fun j hj => ?_, fun n hb h hd => ?_⟩
  · show State.core (((fetchLine u k).modCore k _).count _ _ _) j = _
    rw [State.core_count, State.core_modCore_other _ _ hj, ran.cores j hj]
  · show sget zeroD (State.paceCore _ k).acc _ = _
    rw [State.acc_paceCore_lt _ _ hb, State.acc_count_other _ _ (h 0 (by simp)), State.modCore_acc, hn n hb (h 4 (by simp)) hd]

theorem retireTo_frame (u : State) (k : Nat) (pc : PA) :
    (∃ l, (retireTo u k pc).core k = { u.core k with pc := pc, inib := l }) ∧
      ButFetch u (retireTo u k pc) { u with cores := (retireTo u k pc).cores, acc := (retireTo u k pc).acc } k := by
  obtain ⟨⟨l, hl⟩, ran, off, -⟩ := fetchLine_spec u k
  have moved := ran.trans (ran_modCore (fetchLine u k) k fun x => { x with pc := pc })
  have counted := moved.trans (ran_count _ k (36 + k / 8) 0 1)
  have paced := (counted.trans (ran_pace _ k (44 + k / 8))).trans (ran_pace _ k (64 + k))
  refine ⟨⟨l, ?_⟩, paced.butFetch fun hn => ?_⟩
  · show State.core (((fetchLine u k).modCore k _).count _ _ _) k = _
    rw [State.core_count, State.core_modCore_same, hl]
  · exact coresOnly_trans (coresOnly_trans (coresOnly_trans (off hn) rfl) (coresOnly_count (State.modCore _ k _) _ _ _)) rfl

/-- WFD that has nothing to report waits (R323). -/
theorem wfdCheck_waits {late : Bool} (bits : wfdBits s k (late || (s.core k).wfdLate) = 0) (disabled : (s.core k).evDisabled = false)
    (abort : (s.core k).evAbort = false) (store : (s.core k).evStore = []) : wfdCheck s k late = s := by
  unfold wfdCheck
  dsimp only
  split
  · exact if_neg fun c => by simp [bits, disabled, abort, store] at c
  · rfl

/-- WFD whose time has passed reports bit 2 alone (R323). -/
theorem wfdCheck_times_out (wfd : (s.core k).st = .wfd) (lit : s.domLit (44 + k / 8) = true) (bits : wfdBits s k false = 0)
    (disabled : (s.core k).evDisabled = false) (abort : (s.core k).evAbort = false) (store : (s.core k).evStore = []) :
    wfdCheck s k true = Machine.retire (s.modCore k fun x =>
      { x.setG (BitVec.ofNat 5 (s.core k).wfdRd) 4 with st := .running, wfdLate := false }) k := by
  have late : wfdBits s k true = 4 := by
    unfold wfdBits at bits ⊢
    simp only [b2n, Bool.false_eq_true, if_false] at bits ⊢
    simp only [if_true]
    omega
  have quiet : eventDue (s.core k) = false := by simp [eventDue, disabled, abort, store]
  unfold wfdCheck
  dsimp only
  rw [if_pos ⟨wfd, lit⟩, Bool.true_or, late, if_pos ⟨Or.inl (by decide), quiet⟩]
  rfl

theorem wfd_waits (h : Runs s k) (rd ra : BitVec 5) (bits : wfdBits s k false = 0) (disabled : (s.core k).evDisabled = false)
    (abort : (s.core k).evAbort = false) (store : (s.core k).evStore = []) :
    exec (.wfd k rd ra) s = .next
      (s.modCore k fun y => { y with st := .wfd, wfdRd := rd.toNat, wfdTime := (s.core k).gr ra, wfdLate := false }) := by
  refine (onCore_go h _ _ rfl).trans (congrArg Host.Outcome.next ?_)
  have core : (s.modCore k fun y => { y with st := .wfd, wfdRd := rd.toNat, wfdTime := (s.core k).gr ra, wfdLate := false }).core k =
      { s.core k with st := .wfd, wfdRd := rd.toNat, wfdTime := (s.core k).gr ra, wfdLate := false } := State.core_modCore_same ..
  have same : wfdBits (s.modCore k fun y => { y with st := .wfd, wfdRd := rd.toNat, wfdTime := (s.core k).gr ra, wfdLate := false })
      k false = wfdBits s k false := by
    unfold wfdBits
    rw [core]
    rfl
  refine wfdCheck_waits ?_ ?_ ?_ ?_
  · rw [core]; exact same.trans bits
  all_goals rw [core]
  all_goals assumption

theorem wfdTimeout_ends (hk : k < nCores) (wfd : (s.core k).st = .wfd) (time : (s.core k).wfdTime ≠ 0)
    (lit : s.domLit (44 + k / 8) = true) (bits : wfdBits s k false = 0) (disabled : (s.core k).evDisabled = false)
    (abort : (s.core k).evAbort = false) (store : (s.core k).evStore = []) :
    ∃ t, exec (.wfdTimeout k) s = .next t ∧ (t.core k).st = .running ∧ (t.core k).pc = (s.core k).pc + 4 ∧
      (∀ i, (t.core k).gr i = gWith (s.core k) (BitVec.ofNat 5 (s.core k).wfdRd) 4 i) ∧
      OthersKept s t k [0, 4] ∧ ButFetch s t { s with cores := t.cores, acc := t.acc } k := by
  have core : (s.modCore k fun y => { y with wfdLate := true }).core k = { s.core k with wfdLate := true } := State.core_modCore_same ..
  have same : wfdBits (s.modCore k fun y => { y with wfdLate := true }) k false = wfdBits s k false := by
    unfold wfdBits
    rw [core]
    rfl
  have step : exec (.wfdTimeout k) s = .next (wfdCheck (s.modCore k fun y => { y with wfdLate := true }) k true) :=
    (if_pos hk).trans (congrArg Host.Outcome.next (if_pos ⟨wfd, time⟩))
  rw [wfdCheck_times_out (s := s.modCore k fun y => { y with wfdLate := true }) (by rw [core]; exact wfd) lit (same.trans bits) (by rw [core]; exact disabled) (by rw [core]; exact abort)
    (by rw [core]; exact store)] at step
  have only := (coreOnly_modCore s k fun y => { y with wfdLate := true }).trans
    (coreOnly_modCore (s.modCore k fun y => { y with wfdLate := true }) k fun x =>
      { x.setG (BitVec.ofNat 5 ((s.modCore k fun y => { y with wfdLate := true }).core k).wfdRd) 4 with st := .running, wfdLate := false })
  have after := State.core_modCore_same (s.modCore k fun y => { y with wfdLate := true }) k fun x =>
      { x.setG (BitVec.ofNat 5 ((s.modCore k fun y => { y with wfdLate := true }).core k).wfdRd) 4 with st := .running, wfdLate := false }
  generalize State.modCore (s.modCore k fun y => { y with wfdLate := true }) k _ = u at only after step
  rw [core] at after
  have goes : (u.core k).pc + 4 = (s.core k).pc + 4 := by rw [after]; exact congrArg (· + 4) (Core.pc_setG ..)
  rw [Machine.retire, goes] at step
  obtain ⟨⟨l, tcore⟩, frame⟩ := retireTo_frame u k ((s.core k).pc + 4)
  have others := retireTo_others u k ((s.core k).pc + 4)
  generalize retireTo u k ((s.core k).pc + 4) = t at step tcore frame others
  refine ⟨t, step, by rw [tcore, after], by rw [tcore], fun i => ?_, ⟨fun j hj => (others.cores j hj).trans (only.cores j hj),
    fun n hb h hd => ?_⟩, ?_⟩
  · rw [tcore, after]
    exact Core.gr_setG ..
  · rw [← only.counters n (by simp)]
    exact others.counters n hb h (hd.imp_right only.notFollowed)
  · obtain ⟨rest, regs, domains, off⟩ := frame
    refine ⟨?_, fun o ho => (regs o ho).trans (State.rd_congr only.reg o), fun d a b => (domains d a b).trans (by rw [only.rest]),
      fun hf => coresOnly_trans only.rest (off (only.notFollowed hf))⟩
    rw [only.rest] at rest
    exact rest

end Sys2Proof.Machine

open Sys2Proof Sys2Proof.Machine

/-- Settles O15: an event clears itself and enters the handler; WFD without one waits, and the timeout ends it. -/
theorem eventsEnterTheHandlerOrEndAWait : Obligations.EventsEnterTheHandlerOrEndAWait := by
  refine ⟨⟨fun s k c hk awake due hv undoomed fetch => eventTaken_fetch hk awake due hv undoomed fetch,
    fun s k hk notHeld hv unforced place => ⟨fun disabled => ?_, fun disabled abort => ?_, fun e l disabled abort store => ?_⟩⟩,
    fun s k rd ra h bits disabled abort store => ?_,
    fun s k hk wfd time lit bits disabled abort store => wfdTimeout_ends hk wfd time lit bits disabled abort store⟩
  · obtain ⟨t, b, step, enters, core⟩ := eventTaken_enters (f := fun x => { x with evDisabled := false }) (c := ⟨11, 0, none⟩)
      (st := .disabled) (res := 0) hk (by simp [eventDue, notHeld, disabled]) hv unforced place (fun _ => ⟨_, _, _, rfl⟩)
      (by simp only [takeEvent, disabled, if_true])
    exact ⟨t, step, enters, by rw [core]; rfl⟩
  · obtain ⟨t, b, step, enters, core⟩ := eventTaken_enters (f := fun x => { x with evAbort := false }) (c := ⟨10, 0, none⟩)
      (st := .aborted) (res := 0) hk (by simp [eventDue, notHeld, abort]) hv unforced place (fun _ => ⟨_, _, _, rfl⟩)
      (by simp only [takeEvent, disabled, abort, Bool.false_eq_true, if_true, if_false])
    exact ⟨t, step, enters, by rw [core]; rfl⟩
  · obtain ⟨t, b, step, enters, core⟩ := eventTaken_enters (f := fun x => { x with evStore := l }) (c := ⟨9, e.reason, some e.addr⟩)
      (st := .fault) (res := faultResult ⟨9, e.reason, some e.addr⟩) hk (by simp [eventDue, notHeld, store]) hv unforced place
      (fun _ => ⟨_, _, _, rfl⟩) (by simp only [takeEvent, disabled, abort, store, Bool.false_eq_true, if_false])
    exact ⟨t, step, enters, by rw [core]; rfl⟩
  · exact ⟨_, wfd_waits h rd ra bits disabled abort store, State.core_modCore_same .., fun j hj => State.core_modCore_other _ _ hj, rfl⟩
end

section
/-! PROOF. Tasks are queued and started (R320, R321). -/
namespace Sys2Proof.Machine
open Config

variable {s : State} {c k : Nat} {r : LaunchRec}

/-- What launching may change of the inkwell that launched, and of its engine. -/
theorem releaseEngine_frame (s : State) (n slot : Nat) : releaseEngine s n slot = { s with engines := (releaseEngine s n slot).engines } := by
  unfold releaseEngine
  split
  · split
    · split <;> rfl
    · rfl
  · rfl

/-- A launch record that the cluster takes is queued (R320). -/
theorem launch_queues (fatal : s.boot.fatal = false) (present : s.clusterPresent c = true) (lit : s.domLit (44 + c) = true)
    (reset : (s.cluster c).resetting = false) (enabled : s.bit (scrReg c 0) 0 = true) (warm : (s.dom (44 + c)).commanded ≠ some .cold)
    (priv : r.supervisor = true → inkPriv s r.inkwell = true) (room : (s.cluster c).tasks.length < 32) :
    launch s c r = ((modDesc (releaseEngine s r.inkwell r.index.toNat) r.inkwell r.index.toNat fun d =>
      { d with phase := .inTask, engine := none }).modCluster c fun x => { x with tasks := x.tasks ++ [r] }).count 52 10 1 := by
  have allowed : ¬ (r.supervisor = true ∧ inkPriv s r.inkwell = false) := fun h => by simp [priv h.1] at h
  simp only [launch, fatal, present, lit, reset, enabled, Bool.false_eq_true, Bool.true_eq_false, if_false, false_or, warm, if_neg allowed,
    Nat.not_le.2 room]

theorem launchRecord_queues (hc : c < nClusters) (fatal : s.boot.fatal = false) (present : s.clusterPresent c = true)
    (lit : s.domLit (44 + c) = true) (reset : (s.cluster c).resetting = false) (enabled : s.bit (scrReg c 0) 0 = true)
    (warm : (s.dom (44 + c)).commanded ≠ some .cold) (priv : r.supervisor = true → inkPriv s r.inkwell = true)
    (room : (s.cluster c).tasks.length < 32) :
    ∃ t, exec (.launchRecord c r) s = .next t ∧
      t.cluster c = { s.cluster c with tasks := (s.cluster c).tasks ++ [r] } ∧ (∀ d, d ≠ c → t.cluster d = s.cluster d) ∧
      t.hbm = s.hbm ∧ t.cores = s.cores ∧ t.reg = s.reg := by
  refine ⟨_, (if_pos hc).trans (congrArg Host.Outcome.next (launch_queues fatal present lit reset enabled warm priv room)), ?_⟩
  have kept : modDesc (releaseEngine s r.inkwell r.index.toNat) r.inkwell r.index.toNat (fun d => { d with phase := .inTask, engine := none }) =
      { s with engines := (releaseEngine s r.inkwell r.index.toNat).engines,
               inks := (modDesc (releaseEngine s r.inkwell r.index.toNat) r.inkwell r.index.toNat fun d =>
                 { d with phase := .inTask, engine := none }).inks } := by
    rw [releaseEngine_frame]
    rfl
  generalize modDesc _ _ _ _ = u at kept ⊢
  have cluster (d : Nat) : u.cluster d = s.cluster d := by rw [kept]; rfl
  refine ⟨?_, fun d hd => ?_, ?_, ?_, ?_⟩
  · rw [State.cluster_count, State.cluster_modCluster_same, cluster]
  · rw [State.cluster_count, State.cluster_modCluster_other _ _ hd, cluster]
  · rw [State.count_hbm, State.modCluster_hbm, kept]
  · rw [State.count_cores, State.modCluster_cores, kept]
  · rw [State.count_reg, State.modCluster_reg, kept]

/-! ## Starting a task (R321) -/

/-- The oldest record goes to the lowest idle core that it admits. -/
theorem assign_oldest {l : List LaunchRec} {idle : List Nat} {j : Nat} (h : idle.find? (fun i => admits r.mask i) = some j) :
    (assign (r :: l) idle).find? (fun a => a.1 == j) = some (j, r) := by
  rw [assign, h]
  exact List.find?_cons_of_pos (beq_self_eq_true j)

/-- The first number below n with p is j. -/
theorem find_range_filter {p q : Nat → Bool} {n j : Nat} (hj : j < n) (hp : p j = true) (hq : q j = true)
    (first : ∀ i < j, p i = true → q i = false) : ((List.range n).filter p).find? q = some j := by
  rw [List.find?_filter, List.find?_eq_some_iff_getElem]
  refine ⟨by simp [hp, hq], j, by simpa using hj, by simp, fun i hi => ?_⟩
  by_cases h : p i = true
  · simp [first i hi h]
  · simp [h]

/-- The registers of a core that starts a task. -/
theorem startedCore_gr (s : State) (c : Nat) (r : LaunchRec) (x : Core) (i : BitVec 5) : (startedCore s c r x).gr i =
    if i = 1 then r.arg0 else if i = 2 then r.arg1 else if i = 3 then r.arg2 else if i = 4 then r.arg3 else 0 := by
  have cleared (i : BitVec 5) : Core.gr { x with g := [] } i = 0 := by unfold Core.gr; split <;> rfl
  show ((((Core.setG { x with g := [] } 1 r.arg0).setG 2 r.arg1).setG 3 r.arg2).setG 4 r.arg3).gr i = _
  simp only [Core.gr_setG, gWith, cleared]
  by_cases h1 : i = 1
  · subst h1; simp
  by_cases h2 : i = 2
  · subst h2; simp
  by_cases h3 : i = 3
  · subst h3; simp
  by_cases h4 : i = 4
  · subst h4; simp
  simp only [h1, h2, h3, h4, and_false, if_false]

/-- The PC and the TASK register of a core that starts a task. -/
theorem startedCore_pc (s : State) (c : Nat) (r : LaunchRec) (x : Core) : (startedCore s c r x).pc.toNat = r.entry.toNat / 4 * 4 := by
  have lt := r.entry.isLt
  show (BitVec.ofNat 52 (r.entry.toNat / 4 * 4)).toNat = _
  rw [BitVec.toNat_ofNat]
  omega

theorem startedCore_task (s : State) (c : Nat) (r : LaunchRec) (x : Core) (h : r.inkwell < nInkwells) :
    (startedCore s c r x).task.toNat = r.inkwell + 2 ^ 16 * r.index.toNat + 2 ^ 32 * (if r.supervisor then 1 else 0) := by
  have index := r.index.isLt
  have inkwell : r.inkwell < 1024 := h
  have level : (if r.supervisor then 1 else 0) < 2 := by split <;> decide
  show (BitVec.ofNat 64 (r.inkwell + 2 ^ 16 * r.index.toNat + 2 ^ 32 * b2n r.supervisor)).toNat = _
  rw [BitVec.toNat_ofNat, b2n]
  omega

/-- An idle core that the oldest record admits starts it (R321). -/
theorem taskStart_starts {l : List LaunchRec} (present : s.clusterPresent (k / 8) = true) (lit : s.domLit (44 + k / 8) = true)
    (reset : (s.cluster (k / 8)).resetting = false) (fatal : s.boot.fatal = false) (warm : (s.dom (44 + k / 8)).commanded ≠ some .ember)
    (tasks : (s.cluster (k / 8)).tasks = r :: l) (idle : (s.core k).st = .idle) (admitted : r.mask = 0 ∨ r.mask.getLsbD (k % 8) = true)
    (lowest : ∀ j, j < k → j / 8 = k / 8 → (s.core j).st ≠ .idle ∨ (r.mask ≠ 0 ∧ r.mask.getLsbD (j % 8) = false))
    (priv : r.supervisor = true → inkPriv s r.inkwell = true) :
    taskStart s k = ((s.modCluster (k / 8) fun x => { x with tasks := eraseFirst (· == r) x.tasks }).modCore k
      (startedCore (s.modCluster (k / 8) fun x => { x with tasks := eraseFirst (· == r) x.tasks }) (k / 8) r)).count (36 + k / 8) 12 1 := by
  have place : 8 * (k / 8) + k % 8 = k := Nat.div_add_mod k 8
  have first : ((List.range 8).filter fun j => (s.core (8 * (k / 8) + j)).st == .idle).find? (fun i => admits r.mask i) = some (k % 8) := by
    refine find_range_filter (Nat.mod_lt k (by decide)) (by simp [place, idle]) ?_ fun i hi his => ?_
    · simpa [admits] using admitted
    · have there := lowest (8 * (k / 8) + i) (by omega) (by omega)
      have index : (8 * (k / 8) + i) % 8 = i := by omega
      rw [index] at there
      obtain ⟨some_bit, off⟩ := there.resolve_left fun h => h (by simpa using his)
      rw [admits, beq_false_of_ne some_bit, off]
      rfl
  have allowed : ¬ (r.supervisor = true ∧ inkPriv (s.modCluster (k / 8) fun x => { x with tasks := eraseFirst (· == r) x.tasks })
      r.inkwell = false) := fun ⟨sup, h⟩ => by
    have p : inkPriv s r.inkwell = false := h
    simp [priv sup] at p
  have goes : (s.clusterPresent (k / 8) && s.domLit (44 + k / 8) && !(s.cluster (k / 8)).resetting && !s.boot.fatal &&
      (s.dom (44 + k / 8)).commanded != some .ember) = true := by simp [present, lit, reset, fatal, warm]
  unfold taskStart
  dsimp only
  rw [if_pos goes, tasks, assign_oldest first]
  exact if_neg allowed

end Sys2Proof.Machine

open Sys2Proof Sys2Proof.Machine

/-- Settles O16: launching appends the record; an idle core takes the oldest one that it may. -/
theorem tasksAreQueuedAndStarted : Obligations.TasksAreQueuedAndStarted := by
  refine ⟨fun s c r hc fatal present lit reset enabled warm priv room =>
      launchRecord_queues hc fatal present lit reset enabled warm priv room,
    fun s k r l hk hn present lit reset fatal warm tasks idle admitted lowest priv => ?_⟩
  have step : exec (.taskStart k) s = .next (taskStart s k) := if_pos hk
  rw [taskStart_starts present lit reset fatal warm tasks idle admitted lowest priv] at step
  have cluster := State.cluster_modCluster_same s (k / 8) fun x => { x with tasks := eraseFirst (· == r) x.tasks }
  have core (j : Nat) := State.core_modCluster (s := s) (k / 8) (fun x => { x with tasks := eraseFirst (· == r) x.tasks }) j
  have kept : (s.modCluster (k / 8) fun x => { x with tasks := eraseFirst (· == r) x.tasks }).hbm = s.hbm ∧
      (s.modCluster (k / 8) fun x => { x with tasks := eraseFirst (· == r) x.tasks }).reg = s.reg := ⟨rfl, rfl⟩
  generalize (s.modCluster (k / 8) fun x => { x with tasks := eraseFirst (· == r) x.tasks }) = u at cluster core kept step
  refine ⟨_, step, ?_⟩
  rw [State.core_count, State.core_modCore_same]
  refine ⟨rfl, startedCore_pc .., rfl, startedCore_gr u (k / 8) r _, fun _ => rfl, rfl, rfl, rfl, rfl, startedCore_task _ _ _ _ hn, ?_,
    fun j hj => ?_, ?_, ?_⟩
  · rw [State.cluster_count, State.cluster_modCore, cluster, tasks, eraseFirst, if_pos (beq_self_eq_true r)]
  · rw [State.core_count, State.core_modCore_other _ _ hj, core]
  · rw [State.count_hbm, State.modCore_hbm, kept.1]
  · rw [State.count_reg, State.modCore_reg, kept.2]
end

section
/-! PROOF. A write of a register that passes the checks: what is stored, and what it starts (R22, R51, R55). -/
namespace Sys2Proof.Machine
open Config

variable {s u : State} {m : Master} {off : Nat}

/-! ## The value that is stored (R22, R51) -/

theorem getLsbD_w32 (n : Nat) {i : Nat} (hi : i < 32) : (w32 n).getLsbD i = n.testBit i := by
  rw [w32, BitVec.getLsbD_ofNat, decide_eq_true hi, Bool.true_and]

theorem getLsbD_not {v : Word} {i : Nat} (hi : i < 32) : (~~~ v).getLsbD i = !v.getLsbD i := by
  rw [BitVec.getLsbD_not, decide_eq_true hi, Bool.true_and]

theorem getLsbD_ones {i : Nat} (hi : i < 32) : (BitVec.allOnes 32).getLsbD i = true := by
  rw [BitVec.getLsbD_allOnes, decide_eq_true hi]

/-- A bit of an RW field takes what is written. -/
theorem writtenValue_rw {v : Word} {i : Nat} (hi : i < 32) (noMw : ((regFields off).any fun f => f.ty == .mw) = false)
    (whole : wholeValue s off = none) (rw : (maskOf (regFields off) fun f => f.ty == .rw || f.ty == .w1l).testBit i = true)
    (sc : (selfClear off).testBit i = false) (noW1c : (maskOf (regFields off) fun f => f.ty == .w1c).testBit i = false) :
    (writtenValue s off v (BitVec.allOnes 32)).getLsbD i = v.getLsbD i := by
  simp only [writtenValue, noMw, whole, Option.isSome_none, Bool.false_eq_true, if_false, BitVec.getLsbD_and, BitVec.getLsbD_or,
    getLsbD_not hi, getLsbD_w32 _ hi, getLsbD_ones hi, rw, sc, noW1c]
  simp

/-- A bit that clears itself is set where a 1 is written. -/
theorem writtenValue_selfClear {v : Word} {i : Nat} (hi : i < 32) (noMw : ((regFields off).any fun f => f.ty == .mw) = false)
    (sc : (selfClear off).testBit i = true) (noW1c : (maskOf (regFields off) fun f => f.ty == .w1c).testBit i = false)
    (hv : v.getLsbD i = true) : (writtenValue s off v (BitVec.allOnes 32)).getLsbD i = true := by
  simp only [writtenValue, noMw, Bool.false_eq_true, if_false, BitVec.getLsbD_and, BitVec.getLsbD_or,
    getLsbD_not hi, getLsbD_w32 _ hi, getLsbD_ones hi, sc, noW1c, hv]
  simp

/-- A bit of a masked-write field takes what is written where its upper half selects it, and stays else. -/
theorem writtenValue_mw {v : Word} {i : Nat} (hi : i < 16) (isMw : ((regFields off).any fun f => f.ty == .mw) = true)
    (mw : (maskOf (regFields off) fun f => f.ty == .mw).testBit i = true) :
    (writtenValue s off v (BitVec.allOnes 32)).getLsbD i = if v.getLsbD (i + 16) then v.getLsbD i else s.bit off i := by
  have lt : i < 32 := by omega
  have lower : (0xFFFF : Word).getLsbD i = true :=
    (getLsbD_w32 0xFFFF lt).trans ((Nat.testBit_two_pow_sub_one 16 i).trans (decide_eq_true hi))
  simp only [writtenValue, isMw, if_true, BitVec.getLsbD_and, BitVec.getLsbD_or, getLsbD_not lt, getLsbD_w32 _ lt, getLsbD_ones lt,
    BitVec.getLsbD_ushiftRight, Nat.add_comm 16 i, mw, lower, State.bit]
  cases v.getLsbD (i + 16) <;> simp

/-! ## What a write stores and starts (R55) -/

/-- From s to u nothing differs but registers, and of those that hold a value at most the one at off. -/
structure RegStored (s u : State) (off : Nat) : Prop where
  regs : ∀ x, x ≠ off → u.rd x = s.rd x
  rest : u = { s with reg := u.reg }

theorem regStored_wr (s : State) (m : Master) (b : Block) (off : Nat) (v : Word) : RegStored s ((spendShadow s m b).wr off v) off where
  regs x hx := State.rd_wr_other _ _ hx
  rest := by rw [State.wr_frame]; rfl

/-- The register at `off` lies, aligned, outside INDIRECT (R41, R79). -/
structure Direct (off : Nat) : Prop where
  apart : off < 0x40000 ∨ 0x50000 ≤ off
  aligned : off % 4 = 0

theorem Direct.ne (h : Direct off) {o : Nat} (lo : 0x40000 ≤ o) (hi : o < 0x50000) : off ≠ o := by
  have := h.apart
  omega

theorem Direct.not_inWindow0 (h : Direct off) : inWindow0 off = false := by
  have := h.apart
  simp only [inWindow0, Bool.and_eq_false_iff, decide_eq_false_iff_not]
  omega

theorem Direct.not_inWindow1 (h : Direct off) : inWindow1 off = false := by
  have := h.apart
  simp only [inWindow1, Bool.and_eq_false_iff, decide_eq_false_iff_not]
  omega

theorem Direct.windowBusy_eq_none (h : Direct off) (s : State) : windowBusy s off = none := by
  have claim : (off == 0x4001C) = false := beq_false_of_ne (h.ne (by decide) (by decide))
  simp [windowBusy, h.not_inWindow0, h.not_inWindow1, claim]

/-- An access to a register outside INDIRECT touches no IND_DATA. -/
theorem Direct.touchedData_apart (h : Direct off) (a : Access) : touchedData a off ≠ 0x40004 ∧ touchedData a off ≠ 0x40014 := by
  have apart := h.apart
  unfold touchedData
  split <;> omega

theorem Direct.indDomain_eq_none (h : Direct off) (s : State) (a : Access) : indDomain s a off = none :=
  if_neg fun hd => hd.1.elim (h.touchedData_apart a).1 (h.touchedData_apart a).2

theorem Direct.farAbsent_eq_false (h : Direct off) (s : State) (a : Access) : farAbsent s a off = false := by
  simp [farAbsent, h.touchedData_apart a]

/-- An access whose register is served and awake is performed at once (R43, R55). -/
theorem cwAccess_performs {a : Access} (running : s.boot.inReset = false) (votes : Agree s) (place : cwPlace s a.m a.off = some off)
    (served : cwServed s (blockAt off) = true) (awake : s.domLit (blockAt off).domain = true) (noShut : inWindow1 off = false)
    (idle : windowBusy s off = none) (near : indDomain s a off = none) :
    cwAccess s a = answer (perform s a off).1 a (perform s a off).2 := by
  simp only [cwAccess, running, voteMode_of_agree votes, place, served, awake, noShut, idle, near, Bool.false_and, Bool.false_eq_true,
    Bool.true_eq_false, false_and, if_false]

/-- A write of 4 bytes that reaches its register. -/
theorem CwReach.cwWrite4 (h : CwReach s m off) (hd : Direct off) (v : DWord) :
    cwWrite s m (usedOff s m off) 4 v = write4 s m off (v.setWidth 32) := by
  refine (cwAccess_performs h.running h.votes h.place h.served h.awake hd.not_inWindow1 (hd.windowBusy_eq_none s)
    (hd.indDomain_eq_none s _)).trans ?_
  simp [perform, hd.farAbsent_eq_false, wellFormedAccess, hd.aligned, answer]

theorem CwReach.writeNative4 (h : CwReach s m off) (hd : Direct off) (v : Nat) : writeNative s m off v = write4 s m off (w32 v) :=
  (h.cwWrite4 hd _).trans (congrArg (write4 s m off) (BitVec.setWidth_ofNat_of_le (by decide) v))

/-- The registers whose writes the rules of fields and starts cover: neither a low register of a pair, nor a counter, nor a
doorbell, nor a register that locks. -/
structure Ordinary (off : Nat) : Prop extends Direct off where
  single : pairLow off = false
  listed : (regFields off).isEmpty = false
  unlocked : ((regFields off).any fun f => f.ty == .w1l) = false
  noDoorbell : ∀ n, blockAt off ≠ .doorbell n
  noCounter : ¬ (blockAt off = .telemetry ∧ off - 0x700000 < 0x3600)

theorem filterWrite_other {v : Word} (boot : blockAt off ≠ .boot) (event : blockAt off ≠ .event) (dir : blockAt off ≠ .directory)
    (ink : blockAt off ≠ .inkwell) (tel : blockAt off ≠ .telemetry) : filterWrite s m off v = (s, some v) := by
  unfold filterWrite
  dsimp only
  split <;> simp_all

/-- A write to a register outside INDIRECT that is neither a counter nor one that locks. -/
theorem writeReg_plain (hd : Direct off) (listed : (regFields off).isEmpty = false)
    (unlocked : ((regFields off).any fun f => f.ty == .w1l) = false) (noCounter : ¬ (blockAt off = .telemetry ∧ off - 0x700000 < 0x3600))
    (votes : Agree s) (ha : passes m off = true ∨ guardMask off = 0) {acc : Nat} {v : Word}
    (filter : filterWrite s m off v = (s, some v)) :
    writeReg s m acc off v = (startWrite (s.wr off (writtenValue s off v (BitVec.allOnes 32))) m off (s.rd off) v, false) := by
  have pass : (!passes m off && guardMask off != 0) = false := by rcases ha with h | h <;> simp [h]
  have full : ¬ BitVec.allOnes 32 = (0 : Word) := by decide
  have data : ¬ (off = 0x40004 ∨ off = 0x40014) := fun h => h.elim (hd.ne (by decide) (by decide)) (hd.ne (by decide) (by decide))
  have claim : off ≠ 0x4001C := hd.ne (by decide) (by decide)
  have addr : ¬ (off = 0x40000 ∨ off = 0x40010) := fun h => h.elim (hd.ne (by decide) (by decide)) (hd.ne (by decide) (by decide))
  simp only [writeReg, hd.not_inWindow1, Bool.false_and, Bool.false_eq_true, if_false, listed, pass, full, data, claim, unlocked,
    noCounter, filter, addr, voteReg_of_agree votes]

/-- A master that holds no low word writes a single register at once. -/
theorem write4_single (noHeld : ∀ h ∈ s.reg.held, ¬ (h.block = blockAt off ∧ h.master = masterKey m)) (single : holdsLow m off = false)
    (noDoorbell : ∀ n, blockAt off ≠ .doorbell n) (v : Word) : write4 s m off v =
      logDenied (writeReg (spendShadow s m (blockAt off)) m off off v).1 m off (writeReg (spendShadow s m (blockAt off)) m off off v).2 := by
  have none : heldFor (spendShadow s m (blockAt off)) m off = none := heldFor_of_none noHeld
  have drop : dropHeld (spendShadow s m (blockAt off)) m (blockAt off) = spendShadow s m (blockAt off) := dropHeld_of_none noHeld
  rw [write4]
  dsimp only
  rw [none, drop]
  simp only [single, Bool.false_eq_true, if_false]

/-- A write that reaches an ordinary register stores its value and starts what it starts. -/
theorem CwReach.write4_ordinary (h : CwReach s m off) (ho : Ordinary off) {v : Word}
    (filter : ∀ t, filterWrite t m off v = (t, some v)) :
    ∃ u, write4 s m off v = startWrite u m off (s.rd off) v ∧ RegStored s u off ∧ u.rd off = writtenValue s off v (BitVec.allOnes 32) := by
  have written := writeReg_plain ho.toDirect ho.listed ho.unlocked ho.noCounter (agree_spendShadow (m := m) h.votes (blockAt off))
    h.allowed (acc := off) (filter _)
  refine ⟨(spendShadow s m (blockAt off)).wr off (writtenValue s off v (BitVec.allOnes 32)), ?_, regStored_wr .., State.rd_wr_same ..⟩
  rw [write4_single h.noHeld (by rw [holdsLow, ho.single, Bool.false_and]) ho.noDoorbell, written]
  rfl

theorem CwReach.writes (h : CwReach s m off) (ho : Ordinary off) {v : Nat}
    (filter : ∀ t, filterWrite t m off (w32 v) = (t, some (w32 v))) :
    ∃ u, writeNative s m off v = startWrite u m off (s.rd off) (w32 v) ∧ RegStored s u off ∧
      u.rd off = writtenValue s off (w32 v) (BitVec.allOnes 32) := by
  rw [h.writeNative4 ho.toDirect]
  exact h.write4_ordinary ho filter

/-- A field write writes back the RW fields as they are, but for the bits it changes. -/
theorem keepRest_bit (s : State) (off lo w v : Nat) {i : Nat} (hi : i < 32)
    (rw : lo ≤ i ∧ i < lo + w ∨ (maskOf (regFields off) fun f => f.ty == .rw || f.ty == .w1l).testBit i = true) :
    (w32 (keepRest s off lo w v)).getLsbD i = if lo ≤ i ∧ i < lo + w then v.testBit (i - lo) else s.bit off i := by
  rw [w32, BitVec.getLsbD_ofNat, decide_eq_true hi, Bool.true_and, keepRest, testBit_putBits]
  split
  · rfl
  · rename_i out
    rw [Nat.testBit_and, rw.resolve_left out, Bool.and_true, State.bit, BitVec.testBit_toNat]

end Sys2Proof.Machine
end

section
/-! PROOF. Cluster commands and refused stores (R316, R318, R322, R323, R325). -/
namespace Sys2Proof.Machine
open Config

variable {s t u : State} {m : Master} {c k rel : Nat}

/-! ## The registers of a cluster -/

theorem blockAt_scrReg (hc : c < nClusters) (hr : rel < 0x10000) : blockAt (scrReg c rel) = .scribe c := by
  have hc : c < 16 := hc
  have eq : scrReg c rel = 0x500000 + c * 0x10000 + rel := rfl
  unfold blockAt
  iterate 12 rw [if_neg (by omega)]
  rw [if_pos (by omega), show (scrReg c rel - 0x500000) / 0x10000 = c by omega]

theorem scrReg_sub_base (c rel : Nat) : scrReg c rel - (Block.scribe c).base = rel := Nat.add_sub_cancel_left ..

theorem regFields_scrReg (hc : c < nClusters) (hr : rel < 0xFFF8) : regFields (scrReg c rel) = scribeFields rel := by
  have status : rel ≠ 0xFFF8 := by omega
  have viol : rel ≠ 0xFFFC := by omega
  simp only [regFields, blockAt_scrReg hc (by omega : rel < 0x10000), scrReg_sub_base, blockFields, status, viol, if_false]

theorem selfClear_scrReg (hc : c < nClusters) (hr : rel < 0x10000) : selfClear (scrReg c rel) = if rel = 0 then 2 else 0 := by
  simp only [selfClear, blockAt_scrReg hc hr, scrReg_sub_base]

theorem wholeValue_scrReg (s : State) (hc : c < nClusters) (hr : rel < 0x10000) : wholeValue s (scrReg c rel) = none := by
  simp only [wholeValue, blockAt_scrReg hc hr]

theorem startWrite_scrReg (s : State) (m : Master) (hc : c < nClusters) (hr : rel < 0x10000) (old v : Word) :
    startWrite s m (scrReg c rel) old v = startScribe s c rel old v := by
  simp only [startWrite, blockAt_scrReg hc hr, scrReg_sub_base]

theorem ordinary_scrReg (hc : c < nClusters) (hr : rel < 0xFFF8) (aligned : rel % 4 = 0) (listed : (scribeFields rel).isEmpty = false)
    (unlocked : ((scribeFields rel).any fun f => f.ty == .w1l) = false) : Ordinary (scrReg c rel) where
  apart := by unfold scrReg; omega
  aligned := by unfold scrReg; omega
  single := by rw [pairLow, blockAt_scrReg hc (by omega)]
  listed := by rw [regFields_scrReg hc hr]; exact listed
  unlocked := by rw [regFields_scrReg hc hr]; exact unlocked
  noDoorbell n := by rw [blockAt_scrReg hc (by omega)]; exact Block.noConfusion
  noCounter h := by rw [blockAt_scrReg hc (by omega)] at h; exact Block.noConfusion h.1

/-- A write of a cluster's register that passes the checks. -/
theorem CwReach.writes_scrReg (h : CwReach s m (scrReg c rel)) (hc : c < nClusters) (hr : rel < 0xFFF8) (aligned : rel % 4 = 0)
    (listed : (scribeFields rel).isEmpty = false) (unlocked : ((scribeFields rel).any fun f => f.ty == .w1l) = false) (v : Nat) :
    ∃ u, writeNative s m (scrReg c rel) v = startScribe u c rel (s.rd (scrReg c rel)) (w32 v) ∧ RegStored s u (scrReg c rel) ∧
      u.rd (scrReg c rel) = writtenValue s (scrReg c rel) (w32 v) (BitVec.allOnes 32) := by
  have block := blockAt_scrReg hc (by omega : rel < 0x10000)
  obtain ⟨u, written, stored, value⟩ := h.writes (ordinary_scrReg hc hr aligned listed unlocked) (v := v)
    fun t => filterWrite_other (by rw [block]; exact Block.noConfusion) (by rw [block]; exact Block.noConfusion)
      (by rw [block]; exact Block.noConfusion) (by rw [block]; exact Block.noConfusion) (by rw [block]; exact Block.noConfusion)
  rw [startWrite_scrReg u m hc (by omega)] at written
  exact ⟨u, written, stored, value⟩

/-! ## One change of several cores of a cluster -/

theorem wfdCheck_not_wfd (h : (s.core k).st ≠ .wfd) (late : Bool) : wfdCheck s k late = s := if_neg fun c => h c.1

/-- No core is in WFD. -/
def NoneWaits (s : State) : Prop := ∀ k, (s.core k).st ≠ .wfd

/-- A step that changes core j of cluster c by f where it runs a task. -/
def Touches (g : State → Nat → State) (c : Nat) (f : Core → Core) : Prop :=
  ∀ u j, NoneWaits u → g u j = if (u.core (8 * c + j)).st = .idle then u else u.modCore (8 * c + j) f

/-- Such steps one after another change each of their cores that runs a task, once. -/
theorem Touches.foldl {g : State → Nat → State} {f : Core → Core} (hg : Touches g c f) (hf : ∀ x, (f x).st = x.st) (js : List Nat) :
    ∀ s, NoneWaits s → js.Nodup →
      (∀ k, (js.foldl g s).core k = if (∃ j ∈ js, k = 8 * c + j) ∧ (s.core k).st ≠ .idle then f (s.core k) else s.core k) ∧
      js.foldl g s = { s with cores := (js.foldl g s).cores } := by
  induction js with
  | nil => exact fun s _ _ => ⟨fun k => by simp, rfl⟩
  | cons j js ih =>
    intro s hs hn
    rw [List.nodup_cons] at hn
    have core (k : Nat) : (g s j).core k = if k = 8 * c + j ∧ (s.core k).st ≠ .idle then f (s.core k) else s.core k := by
      rw [hg s j hs]
      by_cases hk : k = 8 * c + j
      · subst hk
        by_cases idle : (s.core (8 * c + j)).st = .idle
        · simp [idle]
        · simp [idle]
      · split
        · simp [hk]
        · rw [State.core_modCore_other _ _ hk, if_neg fun h => hk h.1]
    have st (k : Nat) : ((g s j).core k).st = (s.core k).st := by
      rw [core]
      split
      · exact hf _
      · rfl
    have rest : g s j = { s with cores := (g s j).cores } := by
      rw [hg s j hs]
      split <;> rfl
    obtain ⟨cores, tail⟩ := ih (g s j) (fun k => by rw [st]; exact hs k) hn.2
    refine ⟨fun k => ?_, ?_⟩
    · rw [List.foldl_cons, cores, st, core]
      by_cases hk : k = 8 * c + j
      · have later : ¬ ∃ i ∈ js, k = 8 * c + i := fun ⟨i, hi, e⟩ => hn.1 (by rwa [show j = i by omega])
        simp [hk, hn.1]
      · simp [hk]
    · rw [List.foldl_cons]
      generalize js.foldl g (g s j) = t at tail ⊢
      rw [rest] at tail
      exact tail

/-! ## STORE_ERR and the end of a cluster reset (R316, R325) -/

theorem mem_bitsSet {n v j : Nat} : j ∈ bitsSet n v ↔ j < n ∧ v.testBit j = true := by
  simp [bitsSet]

theorem nodup_bitsSet (n v : Nat) : (bitsSet n v).Nodup := List.nodup_range.filter _

/-- The place of a core in its cluster. -/
theorem core_place (k : Nat) : k = 8 * (k / 8) + k % 8 := (Nat.div_add_mod k 8).symm

theorem storeErr_reaches {cores : BitVec 8} (addr : PA) (reason : Nat) (hs : NoneWaits s) :
    (∀ k, (storeErr s c cores addr reason).core k =
      if (k / 8 = c ∧ cores.getLsbD (k % 8) = true) ∧ (s.core k).st ≠ .idle then
        { s.core k with evStore := (s.core k).evStore ++ [⟨reason, lineAddr addr⟩] } else s.core k) ∧
    (storeErr s c cores addr reason).bit (scrReg c 0x80) 2 = true ∧
    storeErr s c cores addr reason = { s with
      cores := (storeErr s c cores addr reason).cores, reg := (storeErr s c cores addr reason).reg,
      evt := (storeErr s c cores addr reason).evt } := by
  have cluster : (8 * c + (bitsSet 8 cores.toNat).headD 0) / 8 = c := by
    have lt : (bitsSet 8 cores.toNat).headD 0 < 8 := by
      cases h : bitsSet 8 cores.toNat with
      | nil => decide
      | cons j js => exact (mem_bitsSet.1 (by rw [h]; exact List.mem_cons_self)).1
    omega
  have bit : (scrErr s (8 * c + (bitsSet 8 cores.toNat).headD 0) 2).bit (scrReg c 0x80) 2 = true := by
    rw [scrErr, cluster]
    exact State.bit_setErr _ _ _ _ _ (by decide)
  have frame : scrErr s (8 * c + (bitsSet 8 cores.toNat).headD 0) 2 = { s with
      reg := (scrErr s (8 * c + (bitsSet 8 cores.toNat).headD 0) 2).reg,
      evt := (scrErr s (8 * c + (bitsSet 8 cores.toNat).headD 0) 2).evt } := State.setErr_frame ..
  unfold storeErr
  dsimp only
  generalize scrErr s (8 * c + (bitsSet 8 cores.toNat).headD 0) 2 = u at bit frame ⊢
  have ucore (k : Nat) : u.core k = s.core k := by rw [frame]; rfl
  have touches : Touches (fun s j => wfdCheck (if (s.core (8 * c + j)).st = .idle then s
      else s.modCore (8 * c + j) fun x => { x with evStore := x.evStore ++ [⟨reason, lineAddr addr⟩] }) (8 * c + j) false) c
      fun x => { x with evStore := x.evStore ++ [⟨reason, lineAddr addr⟩] } := by
    intro v j hv
    dsimp only
    split
    · exact wfdCheck_not_wfd (hv _) false
    · exact wfdCheck_not_wfd (by rw [State.core_modCore_same]; exact hv _) false
  obtain ⟨cores', rest⟩ := touches.foldl (fun _ => rfl) (bitsSet 8 cores.toNat) u (fun k => by rw [ucore]; exact hs k) (nodup_bitsSet 8 _)
  generalize (bitsSet 8 cores.toNat).foldl _ u = t at cores' rest ⊢
  refine ⟨fun k => ?_, by rw [rest]; exact bit, ?_⟩
  · rw [cores', ucore]
    refine ite_congr (propext (and_congr_left fun _ => ?_)) (fun _ => rfl) fun _ => rfl
    constructor
    · rintro ⟨j, hj, rfl⟩
      obtain ⟨lt, there⟩ := mem_bitsSet.1 hj
      have place : (8 * c + j) / 8 = c ∧ (8 * c + j) % 8 = j := by omega
      rw [place.1, place.2]
      exact ⟨rfl, there⟩
    · rintro ⟨rfl, there⟩
      exact ⟨k % 8, mem_bitsSet.2 ⟨Nat.mod_lt k (by decide), there⟩, core_place k⟩
  · have reg : t.reg = u.reg := by rw [rest]
    have evt : t.evt = u.evt := by rw [rest]
    rw [frame] at rest
    rw [reg, evt]
    exact rest

theorem storeErr_step {cores : BitVec 8} {addr : PA} {reason : BitVec 8} (hc : c < nClusters)
    (apart : ∀ e ∈ (s.cluster c).gather, e.line = addr.toNat / 64 → e.drain = none ∨ e.cores ≠ cores) (hs : NoneWaits s)
    (goes : ∀ j, (s.core j).ending = none) :
    exec (.storeErr c cores addr reason) s = .next (storeErr s c cores addr reason.toNat) := by
  have absent : (s.cluster c).gather.find? (fun e => e.line == addr.toNat / 64 && e.drain.isSome && e.cores == cores) = none := by
    refine List.find?_eq_none.2 fun e he there => ?_
    simp only [Bool.and_eq_true, beq_iff_eq] at there
    obtain ⟨⟨line, drains⟩, same⟩ := there
    exact (apart e he line).elim (fun h => by simp [h] at drains) fun h => h same
  refine (if_pos hc).trans (congrArg Host.Outcome.next ?_)
  rw [absent]
  refine clusterGo_of_not_ending _ c fun j => ?_
  rw [(storeErr_reaches addr reason.toNat hs).1 j]
  split
  · exact goes j
  · exact goes j

/-! ## Queued records end (R322, R325) -/

/-- A descriptor that holds no engine ends without one. -/
theorem finishDesc_free {n slot : Nat} {st : Status} {res : DWord} (free : ∀ d, descOf s n slot = some d → d.engine = none) :
    finishDesc s n slot st res = { s with inks := (finishDesc s n slot st res).inks } ∧
      ∀ i j d, descOf s i j = some d → descOf (finishDesc s n slot st res) i j =
        if n = i ∧ slot = j then some { d with phase := .ended st res, engine := none } else some d := by
  have ended := finishDesc_ended s n slot st res
  have held : ∀ d, descOf s n slot = some d → heldEngine s n d = none := fun d hd => by rw [heldEngine, free d hd]; rfl
  refine ⟨?_, fun i j d hd => ?_⟩
  · unfold finishDesc
    split
    · rfl
    · rename_i d there
      rw [held d there]
      rfl
  · by_cases hi : i = n
    · subst hi
      by_cases hj : j = slot
      · subst hj
        rw [if_pos ⟨rfl, rfl⟩]
        exact (ended.desc d hd).1 (held d hd)
      · rw [if_neg fun h => hj h.2.symm, ended.others j hj, hd]
    · rw [if_neg fun h => hi h.1.symm, descOf, ended.inks i hi]
      exact hd

/-- Records whose descriptors hold no engine all end (R325). -/
theorem foldl_finishDesc_free (st : Status) (l : List LaunchRec) : ∀ s : State,
    (∀ r ∈ l, ∀ d, descOf s r.inkwell r.index.toNat = some d → d.engine = none) →
    (l.foldl (fun s r => finishDesc s r.inkwell r.index.toNat st 0) s) =
      { s with inks := (l.foldl (fun s r => finishDesc s r.inkwell r.index.toNat st 0) s).inks } ∧
    ∀ i j d, descOf s i j = some d → descOf (l.foldl (fun s r => finishDesc s r.inkwell r.index.toNat st 0) s) i j =
      if ∃ r ∈ l, r.inkwell = i ∧ r.index.toNat = j then some { d with phase := .ended st 0, engine := none } else some d := by
  induction l with
  | nil => exact fun s _ => ⟨rfl, fun i j d hd => by simpa using hd⟩
  | cons r l ih =>
    intro s free
    obtain ⟨first, descs⟩ := finishDesc_free (st := st) (res := 0) (free r List.mem_cons_self)
    rw [List.foldl_cons]
    have gone (i j : Nat) (hd : descOf s i j = none) : descOf (finishDesc s r.inkwell r.index.toNat st 0) i j = none := by
      unfold finishDesc
      split
      · exact hd
      · rename_i d there
        have none : heldEngine s r.inkwell d = none := by rw [heldEngine, free r List.mem_cons_self d there]; rfl
        rw [none]
        by_cases hi : i = r.inkwell
        · subst hi
          by_cases hj : j = r.index.toNat
          · subst hj
            rw [descOf_modDesc_same (by intro _; rfl), hd]
            rfl
          · rw [descOf_modDesc_other (by intro _; rfl) hj, hd]
        · rw [descOf, modDesc, State.ink_modInk_other _ _ hi]
          exact hd
    generalize finishDesc s r.inkwell r.index.toNat st 0 = t at first descs gone
    have next : ∀ q ∈ l, ∀ d, descOf t q.inkwell q.index.toNat = some d → d.engine = none := by
      intro q hq d hd
      cases before : descOf s q.inkwell q.index.toNat with
      | none => rw [gone _ _ before] at hd; cases hd
      | some d' =>
        rw [descs _ _ d' before] at hd
        split at hd
        · exact Option.some.inj hd ▸ rfl
        · exact Option.some.inj hd ▸ free q (List.mem_cons_of_mem _ hq) d' before
    obtain ⟨rest, after⟩ := ih t next
    refine ⟨?_, fun i j d hd => ?_⟩
    · generalize l.foldl _ t = v at rest ⊢
      rw [first] at rest
      exact rest
    · have here := descs i j d hd
      by_cases hr : r.inkwell = i ∧ r.index.toNat = j
      · rw [if_pos hr] at here
        rw [after i j _ here]
        exact (ite_self _).trans (if_pos ⟨r, List.mem_cons_self, hr⟩).symm
      · rw [if_neg hr] at here
        rw [after i j _ here]
        simp only [List.mem_cons, exists_eq_or_imp, hr, false_or]

/-! ## The buffers drain (R303, R305) -/

/-- What draining cluster c's buffers may change: the store buffers of its cores, its gather buffer and tags, and what is sent. -/
structure Drained (s t : State) (c : Nat) : Prop where
  cores : ∀ k, t.core k = { s.core k with sb := (t.core k).sb }
  apart : ∀ k, k / 8 ≠ c → t.core k = s.core k
  clusters : ∀ j, j ≠ c → t.cluster j = s.cluster j
  tasks : (t.cluster c).tasks = (s.cluster c).tasks ∧ (t.cluster c).disabling = (s.cluster c).disabling
  rest : t = { s with cores := t.cores, clusters := t.clusters, spine := t.spine, acc := t.acc }

theorem drained_refl (s : State) (c : Nat) : Drained s s c := ⟨fun _ => rfl, fun _ _ => rfl, fun _ _ => rfl, ⟨rfl, rfl⟩, rfl⟩

theorem Drained.trans (h : Drained s t c) (j : Drained t u c) : Drained s u c where
  cores k := by
    have e := j.cores k
    rw [h.cores k] at e
    exact e
  apart k hk := (j.apart k hk).trans (h.apart k hk)
  clusters i hi := (j.clusters i hi).trans (h.clusters i hi)
  tasks := ⟨j.tasks.1.trans h.tasks.1, j.tasks.2.trans h.tasks.2⟩
  rest := by
    have e := j.rest
    rw [h.rest] at e
    exact e

/-- A fold of steps that drain is a drain. -/
theorem drained_foldl {α : Type} {f : State → α → State} (hf : ∀ u x, Drained u (f u x) c) (l : List α) :
    ∀ s, Drained s (l.foldl f s) c := by
  induction l with
  | nil => exact fun s => drained_refl s c
  | cons x l ih => exact fun s => (hf s x).trans (ih (f s x))

theorem drained_modCluster (s : State) (c : Nat) {f : Cluster → Cluster} (hf : ∀ x, (f x).tasks = x.tasks ∧ (f x).disabling = x.disabling) :
    Drained s (s.modCluster c f) c where
  cores k := by rw [State.core_modCluster]
  apart k _ := State.core_modCluster ..
  clusters j hj := State.cluster_modCluster_other _ _ hj
  tasks := by rw [State.cluster_modCluster_same]; exact hf _
  rest := rfl

theorem drained_count (s : State) (c g i n : Nat) : Drained s (s.count g i n) c where
  cores k := by rw [State.core_count]
  apart k _ := State.core_count ..
  clusters j _ := State.cluster_count ..
  tasks := by rw [State.cluster_count]; exact ⟨rfl, rfl⟩
  rest := by rw [State.count_frame]

theorem drained_putReq (s : State) (c : Nat) (msg : Msg) : Drained s (s.putReq msg) c :=
  ⟨fun _ => rfl, fun _ _ => rfl, fun _ _ => rfl, ⟨rfl, rfl⟩, rfl⟩

theorem drained_drainLine (s : State) (c line : Nat) : Drained s (drainLine s c line) c := by
  unfold drainLine
  dsimp only
  split
  · exact drained_refl s c
  · split
    · exact drained_refl s c
    · refine Drained.trans ?_ (drained_count ..)
      refine Drained.trans ?_ (drained_modCluster _ c fun _ => ⟨rfl, rfl⟩)
      refine Drained.trans ?_ (drained_putReq ..)
      exact drained_modCluster s c fun _ => ⟨rfl, rfl⟩

theorem drained_gatherAuto (s : State) (c : Nat) (crowd : Bool) : Drained s (gatherAuto s c crowd) c := by
  unfold gatherAuto
  have full := drained_foldl (f := fun s (e : GEntry) => drainLine s c e.line) (fun u e => drained_drainLine u c e.line)
    ((s.cluster c).gather.filter fun e => e.mask == BitVec.allOnes 64 && e.drain.isNone) s
  generalize ((s.cluster c).gather.filter fun e => e.mask == BitVec.allOnes 64 && e.drain.isNone).foldl _ s = t at full ⊢
  dsimp only
  split
  · split
    · exact full.trans (drained_drainLine ..)
    · exact full
  · exact full

theorem drained_modSb (s : State) (k : Nat) (f : List SbEntry → List SbEntry) :
    Drained s (s.modCore k fun x => { x with sb := f x.sb }) (k / 8) where
  cores j := by
    by_cases hj : j = k
    · subst hj; rw [State.core_modCore_same]
    · rw [State.core_modCore_other _ _ hj]
  apart j hj := State.core_modCore_other _ _ fun h => hj (by rw [h])
  clusters _ _ := rfl
  tasks := ⟨rfl, rfl⟩
  rest := rfl

theorem drained_gatherTake (s : State) (k : Nat) (e : SbEntry) : Drained s ((gatherTake s k e).getD s) (k / 8) := by
  unfold gatherTake
  dsimp only
  split
  · rw [Option.getD_some]
    refine Drained.trans ?_ (drained_gatherAuto ..)
    refine Drained.trans ?_ (drained_modSb _ k (eraseFirst (· == e)))
    exact drained_modCluster s (k / 8) fun _ => ⟨rfl, rfl⟩
  · split
    · rw [Option.getD_some]
      refine Drained.trans ?_ (drained_gatherAuto ..)
      refine Drained.trans ?_ (drained_modSb _ k (eraseFirst (· == e)))
      exact drained_modCluster s (k / 8) fun _ => ⟨rfl, rfl⟩
    · exact drained_refl ..

theorem drained_clusterDrain (s : State) (c : Nat) : Drained s (clusterDrain s c) c := by
  unfold clusterDrain
  dsimp only
  refine Drained.trans ?_ (drained_foldl (fun u (e : GEntry) => drained_drainLine u c e.line) _ _)
  have core (u : State) (j : Nat) (hj : j < 8) :
      Drained u ((u.core (8 * c + j)).sb.foldl (fun s e => (gatherTake s (8 * c + j) e).getD s) u) c := by
    have place : (8 * c + j) / 8 = c := by omega
    refine drained_foldl (fun v e => ?_) _ u
    have taken := drained_gatherTake v (8 * c + j) e
    rwa [place] at taken
  have each : ∀ l : List Nat, (∀ j ∈ l, j < 8) → ∀ u,
      Drained u (l.foldl (fun s j => (s.core (8 * c + j)).sb.foldl (fun s e => (gatherTake s (8 * c + j) e).getD s) s) u) c := by
    intro l
    induction l with
    | nil => exact fun _ u => drained_refl u c
    | cons j l ih => exact fun hl u => (core u j (hl j List.mem_cons_self)).trans (ih (fun i hi => hl i (List.mem_cons_of_mem _ hi)) _)
  exact each _ (fun j hj => List.mem_range.1 hj) s

/-- Empty buffers have nothing to drain. -/
theorem clusterDrain_empty (gather : (s.cluster c).gather = []) (sb : ∀ j < 8, (s.core (8 * c + j)).sb = []) : clusterDrain s c = s := by
  have each : ∀ l : List Nat, (∀ j ∈ l, j < 8) →
      l.foldl (fun s j => (s.core (8 * c + j)).sb.foldl (fun s e => (gatherTake s (8 * c + j) e).getD s) s) s = s := by
    intro l
    induction l with
    | nil => exact fun _ => rfl
    | cons j l ih =>
      intro hl
      rw [List.foldl_cons, sb j (hl j List.mem_cons_self), List.foldl_nil]
      exact ih fun i hi => hl i (List.mem_cons_of_mem _ hi)
  unfold clusterDrain
  dsimp only
  rw [each _ fun j hj => List.mem_range.1 hj, gather]
  rfl

/-! ## SCR_CTL: disable, enable, reset (R325) -/

/-- A field of SCR_CTL is written: EN, PRIV_EN as they are, but for the field it changes; RESET as written. -/
theorem writeField_scrCtl (h : CwReach s m (scrReg c 0)) (hc : c < nClusters) (lo v : Nat) :
    ∃ u w, writeField s m (scrReg c 0) lo 1 v = startScribe u c 0 (s.rd (scrReg c 0)) w ∧ RegStored s u (scrReg c 0) ∧
      u.bit (scrReg c 0) 0 = w.getLsbD 0 ∧ (w.getLsbD 1 = true → u.bit (scrReg c 0) 1 = true) ∧
      ∀ i < 2, w.getLsbD i = if i = lo then v.testBit 0 else s.bit (scrReg c 0) i := by
  have fields : regFields (scrReg c 0) = scribeFields 0 := regFields_scrReg hc (by decide)
  have noMw : ((regFields (scrReg c 0)).any fun f => f.ty == .mw) = false := by rw [fields]; decide
  have clears : selfClear (scrReg c 0) = 2 := selfClear_scrReg hc (by decide)
  have rw01 (i : Nat) (hi : i < 2) : (maskOf (regFields (scrReg c 0)) fun f => f.ty == .rw || f.ty == .w1l).testBit i = true := by
    rw [fields]
    interval_cases i <;> decide
  have noW1c (i : Nat) (hi : i < 2) : (maskOf (regFields (scrReg c 0)) fun f => f.ty == .w1c).testBit i = false := by
    rw [fields]
    interval_cases i <;> decide
  obtain ⟨u, written, stored, value⟩ := h.writes_scrReg hc (by decide) rfl (by decide) (by decide) (keepRest s (scrReg c 0) lo 1 v)
  refine ⟨u, _, written, stored, ?_, fun reset => ?_, fun i hi => ?_⟩
  · rw [State.bit, value]
    exact writtenValue_rw (by decide) noMw (wholeValue_scrReg s hc (by decide)) (rw01 0 (by decide)) (by rw [clears]; decide)
      (noW1c 0 (by decide))
  · rw [State.bit, value]
    exact writtenValue_selfClear (by decide) noMw (by rw [clears]; decide) (noW1c 1 (by decide)) reset
  · rw [keepRest_bit s _ lo 1 v (by omega) (Or.inr (rw01 i hi))]
    by_cases hlo : i = lo
    · subst hlo; simp
    · rw [if_neg (by omega), if_neg hlo]

/-- From s to t, disabling cluster c has ended its queued records and told its cores (R325). -/
structure ClusterDisabled (s t : State) (c : Nat) : Prop where
  descs : ∀ n slot d, descOf s n slot = some d → descOf t n slot =
    if ∃ r ∈ (s.cluster c).tasks, r.inkwell = n ∧ r.index.toNat = slot then some { d with phase := .ended .disabled 0, engine := none }
    else some d
  cores : ∀ k, k / 8 = c → t.core k = if (s.core k).st = .idle then { s.core k with sb := (t.core k).sb }
    else { s.core k with evDisabled := true, doom := some ((s.core k).doom.getD .disabled), sb := (t.core k).sb }
  apart : ∀ k, k / 8 ≠ c → t.core k = s.core k
  clusters : ∀ j, j ≠ c → t.cluster j = s.cluster j
  cluster : (t.cluster c).tasks = [] ∧ (t.cluster c).disabling = true
  reg : t.reg = s.reg
  empty : (s.cluster c).gather = [] → (∀ k, k / 8 = c → (s.core k).sb = []) →
    (∀ k, k / 8 = c → (t.core k).sb = []) ∧ t.cluster c = { s.cluster c with tasks := [], disabling := true } ∧
    t = { s with cores := t.cores, clusters := t.clusters, inks := t.inks }

theorem clusterDisable_disabled (hs : NoneWaits s)
    (free : ∀ r ∈ (s.cluster c).tasks, ∀ d, descOf s r.inkwell r.index.toNat = some d → d.engine = none) :
    ClusterDisabled s (clusterDisable s c) c := by
  obtain ⟨frame, descs⟩ := foldl_finishDesc_free .disabled (s.cluster c).tasks s free
  unfold clusterDisable dropTasks
  generalize (s.cluster c).tasks.foldl (fun s r => finishDesc s r.inkwell r.index.toNat .disabled 0) s = u at frame descs ⊢
  have cluster : ((u.modCluster c fun x => { x with tasks := [] }).modCluster c fun x => { x with disabling := true }).cluster c =
      { s.cluster c with tasks := [], disabling := true } := by
    rw [State.cluster_modCluster_same, State.cluster_modCluster_same, frame]
    rfl
  have clusters (j : Nat) (hj : j ≠ c) :
      ((u.modCluster c fun x => { x with tasks := [] }).modCluster c fun x => { x with disabling := true }).cluster j = s.cluster j := by
    rw [State.cluster_modCluster_other _ _ hj, State.cluster_modCluster_other _ _ hj, frame]
    rfl
  have rest : ((u.modCluster c fun x => { x with tasks := [] }).modCluster c fun x => { x with disabling := true }) = { s with
      clusters := ((u.modCluster c fun x => { x with tasks := [] }).modCluster c fun x => { x with disabling := true }).clusters,
      inks := u.inks } := by
    rw [frame]
    rfl
  generalize (u.modCluster c fun x => { x with tasks := [] }).modCluster c (fun x => { x with disabling := true }) = v
    at cluster clusters rest ⊢
  have vcore (k : Nat) : v.core k = s.core k := by rw [rest]; rfl
  have touches : Touches (fun s j => if (s.core (8 * c + j)).st = .idle then s
      else wfdCheck (s.modCore (8 * c + j) fun x => { x with evDisabled := true, doom := some (x.doom.getD .disabled) }) (8 * c + j) false) c
      fun x => { x with evDisabled := true, doom := some (x.doom.getD .disabled) } := by
    intro w j hw
    refine ite_congr rfl (fun _ => rfl) fun _ => ?_
    exact wfdCheck_not_wfd (by rw [State.core_modCore_same]; exact hw _) false
  obtain ⟨cores, told⟩ := touches.foldl (fun _ => rfl) (List.range 8) v (fun k => by rw [vcore]; exact hs k) List.nodup_range
  dsimp only
  generalize (List.range 8).foldl _ v = w at cores told ⊢
  have inside (k : Nat) : (∃ j ∈ List.range 8, k = 8 * c + j) ↔ k / 8 = c := by
    simp only [List.mem_range]
    exact ⟨fun ⟨j, hj, e⟩ => by omega, fun e => ⟨k % 8, Nat.mod_lt k (by decide), by omega⟩⟩
  simp only [inside, vcore] at cores
  have drained := drained_clusterDrain w c
  have dcores := drained.cores
  have drest := drained.rest
  have wcluster (j : Nat) : w.cluster j = v.cluster j := by rw [told]; rfl
  refine ⟨fun n slot d hd => ?_, fun k hk => ?_, fun k hk => ?_, fun j hj => ?_, ⟨?_, ?_⟩, ?_, fun gather sb => ?_⟩
  · have inks : (clusterDrain w c).inks = u.inks := by rw [drest, told, rest]
    rw [descOf, State.ink, inks]
    exact descs n slot d hd
  · rw [dcores k, cores k]
    by_cases idle : (s.core k).st = .idle
    · rw [if_neg fun h => h.2 idle, if_pos idle]
    · rw [if_pos ⟨hk, idle⟩, if_neg idle]
  · rw [drained.apart k hk, cores k, if_neg fun h => hk h.1]
  · rw [drained.clusters j hj, wcluster, clusters j hj]
  · rw [drained.tasks.1, wcluster, cluster]
  · rw [drained.tasks.2, wcluster, cluster]
  · rw [drest, told, rest]
  · have wsb (k : Nat) (hk : k / 8 = c) : (w.core k).sb = [] := by
      rw [cores]
      split
      · exact sb k hk
      · exact sb k hk
    rw [clusterDrain_empty (by rw [wcluster, cluster]; exact gather) fun j hj => wsb _ (by omega)]
    refine ⟨wsb, by rw [wcluster, cluster], ?_⟩
    have inks : w.inks = v.inks := by rw [told]
    have cl : w.clusters = v.clusters := by rw [told]
    have vinks : v.inks = u.inks := by rw [rest]
    rw [rest] at told
    rw [inks, cl, vinks]
    exact told

/-- What a core that its cluster's reset has cleared holds no more (R325). -/
def ClearedCore (x : Core) : Prop := x.st = .idle ∧ x.sb = [] ∧ x.dnib = [] ∧ x.resv = none

/-- From s to t a cluster's reset has cleared core k. -/
structure CoreCleared (s t : State) (c : Nat) (p : Nat → Prop) : Prop where
  cleared : ∀ k, p k → ClearedCore (t.core k)
  others : ∀ k, ¬ p k → t.core k = s.core k
  regs : ∀ off, off ≠ scrReg c 0xC → t.rd off = s.rd off
  rest : t.hbm = s.hbm ∧ t.clusters = s.clusters

theorem resetCore_cleared (s : State) (k : Nat) : CoreCleared s (resetCore s k) (k / 8) (· = k) := by
  unfold resetCore
  dsimp only
  have ended : ∃ t, (if (s.core k).st = .idle then s else (finishDesc s (bitsOf (s.core k).task.toNat 0 10)
      (bitsOf (s.core k).task.toNat 16 16) .reset 0).count (36 + k / 8) 13 1) = t ∧
      t.cores = s.cores ∧ t.reg = s.reg ∧ t.hbm = s.hbm ∧ t.clusters = s.clusters := by
    refine ⟨_, rfl, ?_⟩
    split
    · exact ⟨rfl, rfl, rfl, rfl⟩
    · rw [State.count_cores, State.count_reg, State.count_hbm, State.count_clusters, finishDesc_frame]
      exact ⟨rfl, rfl, rfl, rfl⟩
  obtain ⟨t, eq, cores, reg, hbm, clusters⟩ := ended
  rw [eq]
  obtain ⟨-, khbm, kclusters⟩ :=
    coreIdle_kept (t.modCore k fun x => { x with sb := [], cwBusy := none, posted := [], inib := [], dnib := [] }) k
  refine ⟨fun j hj => ?_, fun j hj => ?_, fun off hoff => ?_, ⟨khbm.trans hbm, kclusters.trans clusters⟩⟩
  · subst hj
    rw [coreIdle_core_same, State.core_modCore_same]
    exact ⟨rfl, rfl, rfl, rfl⟩
  · rw [coreIdle_core_other _ hj, State.core_modCore_other _ _ hj, State.core, cores]
    rfl
  · rw [coreIdle_rd _ _ hoff]
    exact State.rd_congr reg off

theorem foldl_resetCore_cleared (c : Nat) (js : List Nat) : ∀ s, (∀ j ∈ js, j < 8) →
    CoreCleared s (js.foldl (fun s j => resetCore s (8 * c + j)) s) c (fun k => ∃ j ∈ js, k = 8 * c + j) := by
  induction js with
  | nil => exact fun s _ => ⟨fun k h => by simp at h, fun _ _ => rfl, fun _ _ => rfl, ⟨rfl, rfl⟩⟩
  | cons j js ih =>
    intro s hj
    have first := resetCore_cleared s (8 * c + j)
    have place : (8 * c + j) / 8 = c := by have := hj j List.mem_cons_self; omega
    rw [place] at first
    rw [List.foldl_cons]
    generalize resetCore s (8 * c + j) = t at first
    have later := ih t fun i hi => hj i (List.mem_cons_of_mem _ hi)
    refine ⟨fun k hk => ?_, fun k hk => ?_, fun off hoff => (later.regs off hoff).trans (first.regs off hoff),
      ⟨later.rest.1.trans first.rest.1, later.rest.2.trans first.rest.2⟩⟩
    · by_cases inLater : ∃ i ∈ js, k = 8 * c + i
      · exact later.cleared k inLater
      · have here : k = 8 * c + j := by simpa [inLater] using hk
        rw [later.others k inLater]
        exact first.cleared k here
    · simp only [List.mem_cons, exists_eq_or_imp, not_or] at hk
      exact (later.others k hk.2).trans (first.others k hk.1)

/-- From s to t cluster c has been reset (R325). -/
structure ClusterWasReset (s t : State) (c : Nat) : Prop where
  cluster : (t.cluster c).resetting = true ∧ (t.cluster c).slate = [] ∧ (t.cluster c).gather = [] ∧ (t.cluster c).tasks = []
  cores : ∀ k, k / 8 = c → (t.core k).st = .idle ∧ (t.core k).sb = [] ∧ (t.core k).dnib = [] ∧ (t.core k).resv = none
  apart : ∀ k, k / 8 ≠ c → t.core k = s.core k
  clusters : ∀ j, j ≠ c → t.cluster j = s.cluster j
  regs : ∀ off, off ≠ scrReg c 0xC → t.rd off = s.rd off
  hbm : t.hbm = s.hbm

theorem clusterReset_reset (s : State) (c : Nat) : ClusterWasReset s (clusterReset s c) c := by
  unfold clusterReset dropTasks
  have fold : ∀ (l : List LaunchRec) (u : State), ∃ t, l.foldl (fun s r => finishDesc s r.inkwell r.index.toNat .reset 0) u = t ∧
      t.cores = u.cores ∧ t.reg = u.reg ∧ t.hbm = u.hbm ∧ t.clusters = u.clusters := by
    intro l
    induction l with
    | nil => exact fun u => ⟨u, rfl, rfl, rfl, rfl, rfl⟩
    | cons r l ih =>
      intro u
      obtain ⟨t, eq, cores, reg, hbm, clusters⟩ := ih (finishDesc u r.inkwell r.index.toNat .reset 0)
      rw [finishDesc_frame] at cores reg hbm clusters
      exact ⟨t, eq, cores, reg, hbm, clusters⟩
  obtain ⟨u, eq, ucores, ureg, uhbm, uclusters⟩ := fold (s.cluster c).tasks s
  rw [eq]
  have cleared := foldl_resetCore_cleared c (List.range 8) (u.modCluster c fun x => { x with tasks := [] })
    fun j hj => List.mem_range.1 hj
  dsimp only
  generalize (List.range 8).foldl _ (u.modCluster c fun x => { x with tasks := [] }) = v at cleared
  obtain ⟨cores, others, regs, hbm, clusters⟩ := cleared
  have inside (k : Nat) : (∃ j ∈ List.range 8, k = 8 * c + j) ↔ k / 8 = c := by
    simp only [List.mem_range]
    exact ⟨fun ⟨j, hj, e⟩ => by omega, fun e => ⟨k % 8, Nat.mod_lt k (by decide), by omega⟩⟩
  have vcluster (j : Nat) : v.cluster j = (u.modCluster c fun x => { x with tasks := [] }).cluster j := by
    rw [State.cluster, clusters]; rfl
  have reset : ClusterWasReset s (v.modCluster c fun x => { x with gather := [], slate := [], slateErr := [], resetting := true }) c := by
    refine ⟨?_, fun k hk => ?_, fun k hk => ?_, fun j hj => ?_, fun off hoff => ?_, hbm.trans uhbm⟩
    · rw [State.cluster_modCluster_same, vcluster, State.cluster_modCluster_same]
      exact ⟨rfl, rfl, rfl, rfl⟩
    · rw [State.core_modCluster]
      exact cores k ((inside k).2 hk)
    · rw [State.core_modCluster, others k (fun h => hk ((inside k).1 h)), State.core_modCluster, State.core, ucores]
      rfl
    · rw [State.cluster_modCluster_other _ _ hj, vcluster, State.cluster_modCluster_other _ _ hj, State.cluster, uclusters]
      rfl
    · exact (regs off hoff).trans (State.rd_congr ureg off)
  generalize v.modCluster c _ = w at reset
  split
  · split
    · exact ⟨reset.cluster, reset.cores, reset.apart, reset.clusters, reset.regs, reset.hbm⟩
    · exact reset
  · exact reset

/-! ## ABORT and KNOCK (R318, R323) -/

theorem maskedWrite_bit (h : CwReach s m (scrReg c rel)) (hc : c < nClusters) (hr : rel = 8 ∨ rel = 0xC) (v : Nat) :
    ∃ u, writeNative s m (scrReg c rel) v = startScribe u c rel (s.rd (scrReg c rel)) (w32 v) ∧ RegStored s u (scrReg c rel) ∧
      ∀ j < 8, u.bit (scrReg c rel) j = if v.testBit (j + 16) then v.testBit j else s.bit (scrReg c rel) j := by
  have facts : rel < 0xFFF8 ∧ rel % 4 = 0 ∧ (scribeFields rel).isEmpty = false ∧
      ((scribeFields rel).any fun f => f.ty == .w1l) = false ∧ ((scribeFields rel).any fun f => f.ty == .mw) = true ∧
      ∀ j < 8, (maskOf (scribeFields rel) fun f => f.ty == .mw).testBit j = true := by
    rcases hr with rfl | rfl <;> decide
  obtain ⟨lt, aligned, listed, unlocked, isMw, mw⟩ := facts
  obtain ⟨u, written, stored, value⟩ := h.writes_scrReg hc lt aligned listed unlocked v
  refine ⟨u, written, stored, fun j hj => ?_⟩
  rw [State.bit, value, writtenValue_mw (by omega) (by rw [regFields_scrReg hc lt]; exact isMw)
    (by rw [regFields_scrReg hc lt]; exact mw j hj), getLsbD_w32 v (by omega), getLsbD_w32 v (by omega)]

theorem abort_marks (hc : c < nClusters) (hk : k / 8 = c) (hs : NoneWaits s) (h : CwReach s m (scrReg c 0xC))
    (running : (s.core k).st = .running) :
    ∃ t, exec (.abort m k) s = .next t ∧ t.bit (scrReg c 0xC) (k % 8) = true ∧
      t.core k = { s.core k with evAbort := true, doom := some ((s.core k).doom.getD .aborted) } ∧
      (∀ j, j ≠ k → t.core j = s.core j) ∧ (∀ x, x ≠ scrReg c 0xC → t.rd x = s.rd x) ∧
      t = { s with reg := t.reg, cores := t.cores } := by
  have lt : k < nCores := by
    have hc : c < 16 := hc
    show k < 128
    omega
  have mask : ∀ j < 8, (bitsSet 8 (wfld (w32 (2 ^ j + 2 ^ (16 + j))) 0 8 &&& wfld (w32 (2 ^ j + 2 ^ (16 + j))) 16 8) = [j]) ∧
      (2 ^ j + 2 ^ (16 + j)).testBit (j + 16) = true ∧ (2 ^ j + 2 ^ (16 + j)).testBit j = true := by decide
  obtain ⟨one, high, low⟩ := mask (k % 8) (Nat.mod_lt k (by decide))
  obtain ⟨u, written, stored, bits⟩ := maskedWrite_bit h hc (Or.inr rfl) (2 ^ (k % 8) + 2 ^ (16 + k % 8))
  have bit := bits (k % 8) (Nat.mod_lt k (by decide))
  rw [high, if_pos rfl, low] at bit
  obtain ⟨regs, rest⟩ := stored
  have ucore (j : Nat) : u.core j = s.core j := by rw [rest]; rfl
  have place : 8 * c + k % 8 = k := by omega
  have acts : startScribe u c 0xC (s.rd (scrReg c 0xC)) (w32 (2 ^ (k % 8) + 2 ^ (16 + k % 8))) =
      u.modCore k fun x => { x with evAbort := true, doom := some (x.doom.getD .aborted) } := by
    have busy : ¬ (u.core k).st = .idle := by rw [ucore, running]; decide
    simp only [startScribe, abortCores, one, List.foldl_cons, List.foldl_nil, place, busy, if_false]
    exact wfdCheck_not_wfd (by rw [State.core_modCore_same, ucore]; exact hs k) false
  rw [acts] at written
  have step : exec (.abort m k) s = .next (u.modCore k fun x => { x with evAbort := true, doom := some (x.doom.getD .aborted) }) :=
    (if_pos lt).trans (congrArg Host.Outcome.next (by rw [hk]; exact written))
  refine ⟨_, step, bit, ?_, fun j hj => ?_, regs, ?_⟩
  · rw [State.core_modCore_same, ucore]
  · rw [State.core_modCore_other _ _ hj, ucore]
  · rw [rest]
    rfl

theorem knock_sets (hc : c < nClusters) (hs : NoneWaits s) (cores : BitVec 8) (h : CwReach s m (scrReg c 8)) :
    ∃ t, exec (.knock m c cores) s = .next t ∧
      (∀ j < 8, t.bit (scrReg c 8) j = (s.bit (scrReg c 8) j || cores.getLsbD j)) ∧
      (∀ x, x ≠ scrReg c 8 → t.rd x = s.rd x) ∧ t = { s with reg := t.reg } := by
  obtain ⟨u, written, ⟨regs, rest⟩, bits⟩ := maskedWrite_bit h hc (Or.inl rfl) (cores.toNat + 2 ^ 16 * cores.toNat)
  have acts : startScribe u c 8 (s.rd (scrReg c 8)) (w32 (cores.toNat + 2 ^ 16 * cores.toNat)) = u :=
    List.foldl_fixed' (fun j => show wfdCheck u (8 * c + j) false = u from wfdCheck_not_wfd (by rw [rest]; exact hs _) false) _
  rw [acts] at written
  refine ⟨u, (if_pos hc).trans (congrArg Host.Outcome.next written), fun j hj => ?_, regs, rest⟩
  have lt := cores.isLt
  have low : (cores.toNat + 2 ^ 16 * cores.toNat).testBit j = cores.getLsbD j := by
    rw [Nat.add_comm, Nat.testBit_two_pow_mul_add _ (by omega), if_pos (by omega), BitVec.testBit_toNat]
  have high : (cores.toNat + 2 ^ 16 * cores.toNat).testBit (j + 16) = cores.getLsbD j := by
    rw [Nat.add_comm, Nat.testBit_two_pow_mul_add _ (by omega), if_neg (by omega), Nat.add_sub_cancel, BitVec.testBit_toNat]
  rw [bits j hj, low, high]
  cases cores.getLsbD j <;> simp

theorem clusterDisable_acts (hc : c < nClusters) (hs : NoneWaits s) (h : CwReach s m (scrReg c 0)) (noReset : s.bit (scrReg c 0) 1 = false)
    (enabled : s.bit (scrReg c 0) 0 = true)
    (free : ∀ r ∈ (s.cluster c).tasks, ∀ d, descOf s r.inkwell r.index.toNat = some d → d.engine = none) :
    ∃ u t, exec (.clusterDisable m c) s = .next t ∧ RegStored s u (scrReg c 0) ∧ u.bit (scrReg c 0) 0 = false ∧ ClusterDisabled u t c := by
  obtain ⟨u, w, written, stored, bit, -, bits⟩ := writeField_scrCtl h hc 0 0
  have off : w.getLsbD 0 = false := bits 0 (by decide)
  have calm : w.getLsbD 1 = false := (bits 1 (by decide)).trans noReset
  have acts : startScribe u c 0 (s.rd (scrReg c 0)) w = clusterDisable u c := by
    have was : (s.rd (scrReg c 0)).getLsbD 0 = true := enabled
    simp only [startScribe, was, off, calm, Bool.not_false, Bool.and_self, if_true, Bool.false_and, Bool.false_eq_true, if_false]
  rw [acts] at written
  have rest := stored.rest
  refine ⟨u, _, (if_pos hc).trans (congrArg Host.Outcome.next written), stored, bit.trans off,
    clusterDisable_disabled (fun k => by rw [rest]; exact hs k) ?_⟩
  rw [rest]
  exact free

theorem clusterEnable_acts (hc : c < nClusters) (h : CwReach s m (scrReg c 0)) (noReset : s.bit (scrReg c 0) 1 = false) :
    ∃ t, exec (.clusterEnable m c) s = .next t ∧ t.bit (scrReg c 0) 0 = true ∧ (∀ x, x ≠ scrReg c 0 → t.rd x = s.rd x) ∧
      (∀ j, j ≠ c → t.cluster j = s.cluster j) ∧ t.cluster c = { s.cluster c with disabling := false } ∧
      t = { s with reg := t.reg, clusters := t.clusters } := by
  obtain ⟨u, w, written, ⟨regs, rest⟩, bit, -, bits⟩ := writeField_scrCtl h hc 0 1
  have on : w.getLsbD 0 = true := bits 0 (by decide)
  have calm : w.getLsbD 1 = false := (bits 1 (by decide)).trans noReset
  have acts : startScribe u c 0 (s.rd (scrReg c 0)) w = u.modCluster c fun x => { x with disabling := false } := by
    simp only [startScribe, on, calm, Bool.not_true, Bool.and_false, Bool.false_and, Bool.false_eq_true, if_true, if_false]
  rw [acts] at written
  refine ⟨_, (if_pos hc).trans (congrArg Host.Outcome.next written), bit.trans on, regs, fun j hj => ?_, ?_, ?_⟩
  · rw [State.cluster_modCluster_other _ _ hj, rest]
    rfl
  · rw [State.cluster_modCluster_same, rest]
    rfl
  · rw [rest]
    rfl

theorem clusterReset_acts (hc : c < nClusters) (h : CwReach s m (scrReg c 0)) (idle : (s.cluster c).resetting = false) :
    ∃ u t, exec (.clusterReset m c) s = .next t ∧ u.bit (scrReg c 0) 1 = true ∧ u.cores = s.cores ∧ u.hbm = s.hbm ∧
      (∀ j, j ≠ c → u.cluster j = s.cluster j) ∧ ClusterWasReset u t c := by
  obtain ⟨u, w, written, ⟨-, rest⟩, -, bit, bits⟩ := writeField_scrCtl h hc 1 1
  have en : w.getLsbD 0 = s.bit (scrReg c 0) 0 := bits 0 (by decide)
  have reset : w.getLsbD 1 = true := bits 1 (by decide)
  have was : (s.rd (scrReg c 0)).getLsbD 0 = s.bit (scrReg c 0) 0 := rfl
  cases hen : s.bit (scrReg c 0) 0 with
  | false =>
    have acts : startScribe u c 0 (s.rd (scrReg c 0)) w = clusterReset u c := by
      have quiet : (u.cluster c).resetting = false := by rw [rest]; exact idle
      simp only [startScribe, was, en, hen, reset, quiet, Bool.false_and, Bool.not_false, Bool.and_self, Bool.false_eq_true, if_true, if_false]
    rw [acts] at written
    exact ⟨u, _, (if_pos hc).trans (congrArg Host.Outcome.next written), bit reset, by rw [rest], by rw [rest],
      fun j _ => by rw [rest]; rfl, clusterReset_reset u c⟩
  | true =>
    have acts : startScribe u c 0 (s.rd (scrReg c 0)) w = clusterReset (u.modCluster c fun x => { x with disabling := false }) c := by
      have quiet : ((u.modCluster c fun x => { x with disabling := false }).cluster c).resetting = false := by
        rw [State.cluster_modCluster_same, rest]
        exact idle
      simp only [startScribe, was, en, hen, reset, quiet, Bool.not_true, Bool.and_false, Bool.not_false, Bool.and_self, Bool.false_eq_true,
        if_true, if_false]
    rw [acts] at written
    refine ⟨u.modCluster c fun x => { x with disabling := false }, _, (if_pos hc).trans (congrArg Host.Outcome.next written), bit reset,
      by rw [State.modCluster_cores, rest], by rw [State.modCluster_hbm, rest], fun j hj => ?_, clusterReset_reset _ c⟩
    rw [State.cluster_modCluster_other _ _ hj, rest]
    rfl

end Sys2Proof.Machine

open Sys2Proof Sys2Proof.Machine

/-- Settles O17: each command stores its bits and changes the cores, records and buffers of its cluster; a refused write marks its cores. -/
theorem clusterCommandsAndRefusedStoresReachTheirCores : Obligations.ClusterCommandsAndRefusedStoresReachTheirCores := by
  refine ⟨⟨fun s c cores addr reason hc apart hs goes => ?_, fun s c hc resetting => ?_⟩, fun s m c hc hs =>
    ⟨fun k hk h running => abort_marks hc hk hs h running, fun cores h => knock_sets hc hs cores h, fun h noReset =>
      ⟨fun enabled free => ?_, clusterEnable_acts hc h noReset, fun idle => ?_⟩⟩⟩
  · obtain ⟨reach, bit, rest⟩ := storeErr_reaches (c := c) (cores := cores) addr reason.toNat hs
    refine ⟨_, storeErr_step hc apart hs goes, fun j hj => ?_, fun j hj => ?_, bit, rest⟩
    · have place : (8 * c + j) / 8 = c ∧ (8 * c + j) % 8 = j := by omega
      rw [reach, place.1, place.2]
      simp only [true_and]
      rfl
    · rw [reach, if_neg fun there => hj there.1.1]
  · refine ⟨_, (if_pos hc).trans (congrArg Host.Outcome.next (if_pos resetting)), ?_, ?_, fun o ho => ?_, fun d hd => ?_, ?_⟩
    · rw [State.cluster_setFld, State.cluster_modCluster_same]
    · exact (State.bit_setFld _ _ 1 1 0 (by decide)).trans (by simp)
    · rw [State.setFld, State.rd_wr_other _ _ ho]
      rfl
    · rw [State.cluster_setFld, State.cluster_modCluster_other _ _ hd]
    · rw [State.setFld, State.wr_frame]
      rfl
  · obtain ⟨u, t, step, ⟨-, rest⟩, bit, disabled⟩ := clusterDisable_acts hc hs h noReset enabled free
    obtain ⟨descs, cores, apart, clusters, ⟨tasks, disabling⟩, reg, empty⟩ := disabled
    have off : t.bit (scrReg c 0) 0 = false := by rw [State.bit, State.rd_congr reg]; exact bit
    rw [rest] at descs cores apart clusters empty
    refine ⟨t, step, tasks, descs, off, disabling, cores, apart, clusters, fun gather sb => ?_⟩
    obtain ⟨tsb, tcluster, trest⟩ := empty gather sb
    refine ⟨tsb, tcluster, ?_⟩
    rw [reg]
    exact trest
  · obtain ⟨u, t, step, bit, ucores, uhbm, uclusters, reset⟩ := clusterReset_acts hc h idle
    obtain ⟨⟨resetting, slate, gather, tasks⟩, cores, apart, clusters, regs, hbm⟩ := reset
    have other : scrReg c 0 ≠ scrReg c 0xC := by unfold scrReg; omega
    refine ⟨t, step, by rw [State.bit, regs _ other]; exact bit, resetting, slate, gather, tasks, cores, fun k hk => ?_,
      fun j hj => (clusters j hj).trans (uclusters j hj), hbm.trans uhbm⟩
    rw [apart k hk, State.core, ucores]
    rfl
end

section
/-! PROOF. Register writes follow the types of their fields and the guards (R22, R51, R55–R59, R66, R67). -/
namespace Sys2Proof.Machine
open Config

variable {s t u : State} {m : Master} {off : Nat}

/-! ## Fields and bits (R22) -/

/-- A number within a field is its bits there. -/
theorem bitsOf_congr {x y lo w : Nat} (h : ∀ i, lo ≤ i → i < lo + w → x.testBit i = y.testBit i) : bitsOf x lo w = bitsOf y lo w := by
  apply Nat.eq_of_testBit_eq
  intro i
  rw [bitsOf, bitsOf, Nat.testBit_mod_two_pow, Nat.testBit_mod_two_pow, Nat.testBit_div_two_pow, Nat.testBit_div_two_pow]
  by_cases hi : i < w
  · rw [h (i + lo) (by omega) (by omega)]
  · simp [hi]

theorem fld_congr_bits {x : Nat} {lo w : Nat} (h : ∀ i, lo ≤ i → i < lo + w → t.bit off i = x.testBit i) : t.fld off lo w = bitsOf x lo w :=
  bitsOf_congr fun i lo hi => (BitVec.testBit_toNat ..).trans (h i lo hi)

theorem testBit_mask (f : Field) (i : Nat) : f.mask.testBit i = decide (f.lo ≤ i ∧ i < f.lo + f.width) := by
  rw [Field.mask, ← Nat.shiftLeft_eq, Nat.testBit_shiftLeft, Nat.testBit_two_pow_sub_one, ← Bool.decide_and]
  exact decide_eq_decide.2 (by omega)

theorem testBit_maskOf (fs : List Field) (p : Field → Bool) (i : Nat) :
    (maskOf fs p).testBit i = fs.any fun f => p f && decide (f.lo ≤ i ∧ i < f.lo + f.width) := by
  have fold : ∀ m, (fs.foldl (fun m f => if p f then m ||| f.mask else m) m).testBit i =
      (m.testBit i || fs.any fun f => p f && decide (f.lo ≤ i ∧ i < f.lo + f.width)) := by
    induction fs with
    | nil => simp
    | cons f fs ih =>
      intro m
      rw [List.foldl_cons, ih, List.any_cons]
      cases hp : p f
      · simp
      · simp [Nat.testBit_or, testBit_mask, Bool.or_assoc]
  simpa [maskOf] using fold 0

/-- A named bit is no KEEP bit (R57). -/
theorem keepBits_named {i : Nat} (named : (maskOf (regFields off) fun _ => true).testBit i = true)
    (small : maskOf (regFields off) (fun _ => true) ||| zeroBits off < 2 ^ 32) : (keepBits s off).testBit i = false := by
  unfold keepBits
  split
  · rw [show 2 ^ 32 - 1 - (maskOf (regFields off) (fun _ => true) ||| zeroBits off) =
      2 ^ 32 - (maskOf (regFields off) (fun _ => true) ||| zeroBits off).succ by omega, Nat.testBit_two_pow_sub_succ small,
      Nat.testBit_or, named]
    simp
  · exact Nat.zero_testBit i

/-- A named bit of no RW field that is not cleared by a written 1 stays (R22: RO). -/
theorem writtenValue_named {v : Word} {i : Nat} (hi : i < 32) (noMw : ((regFields off).any fun f => f.ty == .mw) = false)
    (rw : (maskOf (regFields off) fun f => f.ty == .rw || f.ty == .w1l).testBit i = false)
    (sc : (selfClear off).testBit i = false) (keep : (keepBits s off).testBit i = false) :
    (writtenValue s off v (BitVec.allOnes 32)).getLsbD i =
      (s.bit off i && !(v.getLsbD i && (maskOf (regFields off) fun f => f.ty == .w1c).testBit i)) := by
  have held : (if (wholeValue s off).isSome then 0 else w32 (maskOf (regFields off) fun f => f.ty == .rw || f.ty == .w1l)).getLsbD i = false := by
    split
    · simp
    · rw [getLsbD_w32 _ hi, rw]
  simp only [writtenValue, noMw, Bool.false_eq_true, if_false, BitVec.getLsbD_and, BitVec.getLsbD_or, getLsbD_not hi, getLsbD_w32 _ hi,
    getLsbD_ones hi, sc, keep, held, State.bit]
  cases (s.rd off).getLsbD i <;> simp

/-! ## A write that starts nothing (R55) -/

/-- A write of 4 bytes to an ordinary register that starts nothing stores its value. -/
theorem registerWrite_stores {o : BitVec 26} {v : DWord} (h : CwReach s m off) (ho : o.toNat = usedOff s m off) (hr : Ordinary off)
    (filter : ∀ t, filterWrite t m off (v.setWidth 32) = (t, some (v.setWidth 32)))
    (starts : ∀ t old, startWrite t m off old (v.setWidth 32) = t) :
    ∃ t, exec (.registerWrite m o 4 v) s = .next t ∧ RegStored s t off ∧
      t.rd off = writtenValue s off (v.setWidth 32) (BitVec.allOnes 32) := by
  obtain ⟨u, written, stored, value⟩ := h.write4_ordinary hr filter
  rw [starts] at written
  refine ⟨u, congrArg Host.Outcome.next ?_, stored, value⟩
  rw [ho, h.cwWrite4 hr.toDirect, written]

/-- The registers of a block in which a register's write starts nothing and no rule of its own stands in its way. -/
structure Inert (off : Nat) : Prop extends Ordinary off where
  filter : ∀ (t : State) (m : Master) (v : Word), filterWrite t m off v = (t, some v)
  starts : ∀ (t : State) (m : Master) (old v : Word), startWrite t m off old v = t
  keeps : selfClear off = 0
  whole : ∀ t : State, wholeValue t off = none
  small : maskOf (regFields off) (fun _ => true) ||| zeroBits off < 2 ^ 32

/-- Every field of the register is RW, within the word. -/
def AllRw (off : Nat) : Prop := ∀ f ∈ regFields off, f.ty = .rw ∧ f.lo + f.width ≤ 32

theorem any_ty_false {fs : List Field} {ty : FTy} (h : ∀ f ∈ fs, f.ty ≠ ty) : (fs.any fun f => f.ty == ty) = false :=
  List.any_eq_false.2 fun f hf => by simpa using h f hf

/-- RW takes the value (R22). -/
theorem writtenValue_allRw (hr : Inert off) (rw : AllRw off) (v : Word) {f : Field} (hf : f ∈ regFields off) {i : Nat} (lo : f.lo ≤ i)
    (hi : i < f.lo + f.width) : (writtenValue s off v (BitVec.allOnes 32)).getLsbD i = v.getLsbD i := by
  have within := (rw f hf).2
  refine writtenValue_rw (by omega) (any_ty_false fun g hg => by rw [(rw g hg).1]; decide) (hr.whole s) ?_ (by rw [hr.keeps]; simp) ?_
  · rw [testBit_maskOf]
    exact List.any_eq_true.2 ⟨f, hf, by simp [(rw f hf).1, lo, hi]⟩
  · rw [testBit_maskOf]
    exact List.any_eq_false.2 fun g hg => by simp [(rw g hg).1]

theorem registerWrite_rw {o : BitVec 26} (h : CwReach s m off) (ho : o.toNat = usedOff s m off) (v : DWord) (hr : Inert off) (rw : AllRw off) :
    ∃ t, exec (.registerWrite m o 4 v) s = .next t ∧
      (∀ f ∈ regFields off, t.fld off f.lo f.width = v.toNat / 2 ^ f.lo % 2 ^ f.width) ∧
      (∀ x, x ≠ off → t.rd x = s.rd x) ∧ t = { s with reg := t.reg } := by
  obtain ⟨t, step, ⟨regs, rest⟩, value⟩ := registerWrite_stores h ho hr.toOrdinary (fun t => hr.filter t m _) (fun t old => hr.starts t m old _)
  refine ⟨t, step, fun f hf => fld_congr_bits fun i lo hi => ?_, regs, rest⟩
  have within := (rw f hf).2
  rw [State.bit, value, writtenValue_allRw hr rw _ hf lo hi, BitVec.getLsbD_setWidth, BitVec.testBit_toNat,
    decide_eq_true (by omega : i < 32), Bool.true_and]

/-! ### The registers named -/

theorem blockAt_directory {off : Nat} (lo : 0x300000 ≤ off) (hi : off < 0x310000) : blockAt off = .directory := by
  unfold blockAt
  iterate 8 rw [if_neg (by omega)]
  exact if_pos hi

theorem blockAt_event {off : Nat} (lo : 0x30000 ≤ off) (hi : off < 0x40000) : blockAt off = .event := by
  unfold blockAt
  iterate 3 rw [if_neg (by omega)]
  exact if_pos hi

theorem blockAt_power {off : Nat} (lo : 0x20000 ≤ off) (hi : off < 0x30000) : blockAt off = .power := by
  unfold blockAt
  iterate 2 rw [if_neg (by omega)]
  exact if_pos hi

theorem blockAt_hbmReg {k rel : Nat} (hk : k < 4) (hr : rel < 0x10000) : blockAt (hbmReg k rel) = .hbm k := by
  have eq : hbmReg k rel = 0x400000 + k * 0x10000 + rel := rfl
  unfold blockAt
  iterate 10 rw [if_neg (by omega)]
  rw [if_pos (by omega), show (hbmReg k rel - 0x400000) / 0x10000 = k by omega]

theorem blockAt_portReg {p rel : Nat} (hp : p < nPorts) (hr : rel < 0x10000) : blockAt (portReg p rel) = .port p := by
  have hp : p < 16 := hp
  have eq : portReg p rel = 0x100000 + p * 0x10000 + rel := rfl
  unfold blockAt
  iterate 6 rw [if_neg (by omega)]
  rw [if_pos (by omega), show (portReg p rel - 0x100000) / 0x10000 = p by omega]

theorem regFields_route {n : Nat} (hn : n < 16) : regFields (dirReg (0x1004 + 0x10 * n)) =
    [⟨"BASE", 0, 14, .rw, true, true, .cfg, 0⟩, ⟨"SIZE", 16, 5, .rw, true, true, .cfg, 0⟩] := by
  have eq : dirReg (0x1004 + 0x10 * n) = 0x300000 + (0x1004 + 0x10 * n) := rfl
  rw [regFields, blockAt_directory (by omega) (by omega), show dirReg (0x1004 + 0x10 * n) - Block.directory.base = 0x1004 + 0x10 * n from
    Nat.add_sub_cancel_left ..]
  simp only [blockFields, directoryFields, if_neg (by omega : ¬ 0x1004 + 0x10 * n = 0xFFF8), if_neg (by omega : ¬ 0x1004 + 0x10 * n = 0xFFFC),
    if_neg (by omega : ¬ (0x100 ≤ 0x1004 + 0x10 * n ∧ 0x1004 + 0x10 * n < 0x140)),
    if_neg (by omega : ¬ (0x180 ≤ 0x1004 + 0x10 * n ∧ 0x1004 + 0x10 * n < 0x1c0)),
    if_neg (by omega : ¬ (0x200 ≤ 0x1004 + 0x10 * n ∧ 0x1004 + 0x10 * n < 0x240)),
    if_neg (by omega : ¬ (0x300 ≤ 0x1004 + 0x10 * n ∧ 0x1004 + 0x10 * n < 0x340)),
    if_pos (by omega : 0x1000 ≤ 0x1004 + 0x10 * n ∧ 0x1004 + 0x10 * n < 0x1100),
    show (0x1004 + 0x10 * n - 0x1000) % 0x10 = 4 by omega]

theorem inert_route {n : Nat} (hn : n < 16) : Inert (dirReg (0x1004 + 0x10 * n)) := by
  have eq : dirReg (0x1004 + 0x10 * n) = 0x300000 + (0x1004 + 0x10 * n) := rfl
  have block : blockAt (dirReg (0x1004 + 0x10 * n)) = .directory := blockAt_directory (by omega) (by omega)
  have rel : dirReg (0x1004 + 0x10 * n) - Block.directory.base = 0x1004 + 0x10 * n := Nat.add_sub_cancel_left ..
  have away : 0x1004 + 0x10 * n ≠ 0 := by omega
  refine { apart := Or.inr (by omega), aligned := by omega, single := by rw [pairLow, block], listed := ?_, unlocked := ?_,
           noDoorbell := fun n => by rw [block]; exact Block.noConfusion, noCounter := fun h => ?_, filter := fun t m v => ?_,
           starts := fun t m old v => ?_, keeps := by rw [selfClear, block], whole := fun t => by rw [wholeValue, block], small := ?_ }
  · rw [regFields_route hn]; decide
  · rw [regFields_route hn]; decide
  · rw [block] at h; exact Block.noConfusion h.1
  · simp only [filterWrite, block, rel, away, false_and, if_false]
  · simp only [startWrite, block]
  · simp [regFields_route hn, zeroBits, block, maskOf, Field.mask]

theorem allRw_route {n : Nat} (hn : n < 16) : AllRw (dirReg (0x1004 + 0x10 * n)) := by
  rw [AllRw, regFields_route hn]
  decide

theorem regFields_evtRow {n : Nat} (hn : n < 128) : ∃ a b c, regFields (evtReg (0x100 + 4 * n)) =
    [⟨"TO_FIFO", 0, 1, .rw, true, false, .cfg, a⟩, ⟨"TO_MSG", 1, 1, .rw, true, false, .cfg, b⟩,
     ⟨"ALERT", 2, 1, .rw, true, false, .cfg, c⟩, ⟨"DST", 16, 10, .rw, true, false, .cfg, 0⟩] := by
  have eq : evtReg (0x100 + 4 * n) = 0x30000 + (0x100 + 4 * n) := rfl
  rw [regFields, blockAt_event (by omega) (by omega), show evtReg (0x100 + 4 * n) - Block.event.base = 0x100 + 4 * n from
    Nat.add_sub_cancel_left ..]
  simp only [blockFields, eventFields, if_neg (by omega : ¬ 0x100 + 4 * n = 0xFFF8), if_neg (by omega : ¬ 0x100 + 4 * n = 0xFFFC),
    if_pos (by omega : 0x100 ≤ 0x100 + 4 * n ∧ 0x100 + 4 * n < 0x300), if_pos (by omega : (0x100 + 4 * n - 0x100) % 4 = 0)]
  exact ⟨_, _, _, rfl⟩

theorem inert_evtRow {n : Nat} (hn : n < 128) : Inert (evtReg (0x100 + 4 * n)) := by
  have eq : evtReg (0x100 + 4 * n) = 0x30000 + (0x100 + 4 * n) := rfl
  have block : blockAt (evtReg (0x100 + 4 * n)) = .event := blockAt_event (by omega) (by omega)
  have rel : evtReg (0x100 + 4 * n) - Block.event.base = 0x100 + 4 * n := Nat.add_sub_cancel_left ..
  have rel' : evtReg (0x100 + 4 * n) - 0x30000 = 0x100 + 4 * n := Nat.add_sub_cancel_left ..
  have noFifo : fifoAt (0x100 + 4 * n) = none := by rw [fifoAt, if_neg (by omega), if_neg (by omega)]
  have away : 0x100 + 4 * n ≠ 0x14 ∧ 0x100 + 4 * n ≠ 0x30 := by omega
  have pair (r : Nat) (hr : r < 0x100) : (evtReg (0x100 + 4 * n) == evtReg r) = false :=
    beq_false_of_ne (by unfold evtReg; omega)
  obtain ⟨a, b, c, fields⟩ := regFields_evtRow hn
  refine { apart := Or.inl (by omega), aligned := by omega, single := ?_, listed := by rw [fields]; rfl,
           unlocked := by rw [fields]; rfl,
           noDoorbell := fun n => by rw [block]; exact Block.noConfusion, noCounter := fun h => ?_, filter := fun t m v => ?_,
           starts := fun t m old v => ?_, keeps := ?_, whole := fun t => ?_, small := ?_ }
  · simp only [pairLow, block, pair 8 (by decide), pair 0x18 (by decide), pair 0x28 (by decide), rel', noFifo, Bool.or_self]
  · rw [block] at h; exact Block.noConfusion h.1
  · simp only [filterWrite, block, rel, away, or_self, false_and, if_false]
  · simp only [startWrite, block, rel, startEvent, away, if_false, noFifo]
  · simp only [selfClear, block, rel, away, if_false, noFifo]
  · simp only [wholeValue, block, rel, noFifo, Option.bind_none]
  · simp [fields, zeroBits, block, maskOf, Field.mask]

theorem allRw_evtRow {n : Nat} (hn : n < 128) : AllRw (evtReg (0x100 + 4 * n)) := by
  obtain ⟨a, b, c, fields⟩ := regFields_evtRow hn
  rw [AllRw, fields]
  simp

theorem regFields_domIdle {d : Nat} (hd : d < 64) : ∃ a, regFields (domReg d 8) = [⟨"IDLE", 0, 16, .rw, true, false, .cfg, a⟩] := by
  have eq : domReg d 8 = 0x21000 + 0x10 * d + 8 := rfl
  rw [regFields, blockAt_power (by omega) (by omega), show domReg d 8 - Block.power.base = 0x1008 + 0x10 * d by
    show domReg d 8 - 0x20000 = _; omega]
  simp only [blockFields, powerFields, if_neg (by omega : ¬ 0x1008 + 0x10 * d = 0xFFF8), if_neg (by omega : ¬ 0x1008 + 0x10 * d = 0xFFFC),
    if_pos (by omega : 0x1000 ≤ 0x1008 + 0x10 * d ∧ 0x1008 + 0x10 * d < 0x1400),
    show (0x1008 + 0x10 * d - 0x1000) % 0x10 = 8 by omega]
  exact ⟨_, rfl⟩

theorem inert_domIdle {d : Nat} (hd : d < 64) : Inert (domReg d 8) := by
  have eq : domReg d 8 = 0x21000 + 0x10 * d + 8 := rfl
  have block : blockAt (domReg d 8) = .power := blockAt_power (by omega) (by omega)
  have rel : domReg d 8 - Block.power.base = 0x1008 + 0x10 * d := by show domReg d 8 - 0x20000 = _; omega
  have away : (0x1008 + 0x10 * d) % 0x10 ≠ 0 := by omega
  have pair : (domReg d 8 == pwrReg 0x8108) = false := beq_false_of_ne (by unfold pwrReg; omega)
  obtain ⟨a, fields⟩ := regFields_domIdle hd
  refine { apart := Or.inl (by omega), aligned := by omega, single := ?_, listed := by rw [fields]; rfl,
           unlocked := by rw [fields]; rfl,
           noDoorbell := fun n => by rw [block]; exact Block.noConfusion, noCounter := fun h => ?_, filter := fun t m v => ?_,
           starts := fun t m old v => ?_, keeps := ?_, whole := fun t => by rw [wholeValue, block], small := ?_ }
  · simp only [pairLow, block, pair]
  · rw [block] at h; exact Block.noConfusion h.1
  · exact filterWrite_other (by rw [block]; decide) (by rw [block]; decide) (by rw [block]; decide) (by rw [block]; decide)
      (by rw [block]; decide)
  · simp only [startWrite, block, rel, away, false_and, and_false, if_false]
  · simp only [selfClear, block, rel, away, and_false, if_false]
  · simp [fields, zeroBits, block, maskOf, Field.mask]

theorem allRw_domIdle {d : Nat} (hd : d < 64) : AllRw (domReg d 8) := by
  obtain ⟨a, fields⟩ := regFields_domIdle hd
  rw [AllRw, fields]
  simp

/-- The timing registers of an HBM stack: RW throughout. -/
theorem hbmFields_timing : ∀ n < 13, (hbmFields (0x100 + 4 * n)).isEmpty = false ∧
    (∀ f ∈ hbmFields (0x100 + 4 * n), f.ty = .rw ∧ f.lo + f.width ≤ 32) ∧
    maskOf (hbmFields (0x100 + 4 * n)) (fun _ => true) ||| 0 < 2 ^ 32 := by decide

theorem regFields_hbmReg {k rel : Nat} (hk : k < 4) (hr : rel < 0xFFF8) : regFields (hbmReg k rel) = hbmFields rel := by
  rw [regFields, blockAt_hbmReg hk (by omega), show hbmReg k rel - (Block.hbm k).base = rel from Nat.add_sub_cancel_left ..]
  simp only [blockFields, if_neg (by omega : ¬ rel = 0xFFF8), if_neg (by omega : ¬ rel = 0xFFFC)]

theorem inert_timing {k n : Nat} (hk : k < 4) (hn : n < 13) : Inert (hbmReg k (0x100 + 4 * n)) := by
  have eq : hbmReg k (0x100 + 4 * n) = 0x400000 + k * 0x10000 + (0x100 + 4 * n) := rfl
  have block : blockAt (hbmReg k (0x100 + 4 * n)) = .hbm k := blockAt_hbmReg hk (by omega)
  have rel : hbmReg k (0x100 + 4 * n) - (Block.hbm k).base = 0x100 + 4 * n := Nat.add_sub_cancel_left ..
  have away : 0x100 + 4 * n ≠ 0 := by omega
  have fields : regFields (hbmReg k (0x100 + 4 * n)) = hbmFields (0x100 + 4 * n) := regFields_hbmReg hk (by omega)
  obtain ⟨listed, rw, small⟩ := hbmFields_timing n hn
  refine { apart := Or.inr (by omega), aligned := by omega, single := by rw [pairLow, block], listed := by rw [fields]; exact listed,
           unlocked := by rw [fields]; exact any_ty_false fun f hf => by rw [(rw f hf).1]; decide,
           noDoorbell := fun n => by rw [block]; exact Block.noConfusion, noCounter := fun h => ?_, filter := fun t m v => ?_,
           starts := fun t m old v => ?_, keeps := ?_, whole := fun t => by rw [wholeValue, block], small := ?_ }
  · rw [block] at h; exact Block.noConfusion h.1
  · exact filterWrite_other (by rw [block]; exact Block.noConfusion) (by rw [block]; exact Block.noConfusion)
      (by rw [block]; exact Block.noConfusion) (by rw [block]; exact Block.noConfusion) (by rw [block]; exact Block.noConfusion)
  · simp only [startWrite, block, rel, away, false_and, if_false]
  · simp only [selfClear, block, rel, away, if_false]
  · rw [fields, zeroBits, block]; exact small

theorem allRw_timing {k n : Nat} (hk : k < 4) (hn : n < 13) : AllRw (hbmReg k (0x100 + 4 * n)) := by
  rw [AllRw, regFields_hbmReg hk (by omega)]
  exact (hbmFields_timing n hn).2.1

/-! ### Ports: RO, W1C and MW -/

theorem regFields_portReg {p rel : Nat} (hp : p < nPorts) (hr : rel < 0xFFF8) : regFields (portReg p rel) = portFields rel := by
  rw [regFields, blockAt_portReg hp (by omega), show portReg p rel - (Block.port p).base = rel from Nat.add_sub_cancel_left ..]
  simp only [blockFields, if_neg (by omega : ¬ rel = 0xFFF8), if_neg (by omega : ¬ rel = 0xFFFC)]

theorem inert_portReg {p rel : Nat} (hp : p < nPorts) (hr : rel = 8 ∨ rel = 0xC ∨ rel = 0x10) : Inert (portReg p rel) := by
  have eq : portReg p rel = 0x100000 + p * 0x10000 + rel := rfl
  have lt : rel < 0xFFF8 := by omega
  have block : blockAt (portReg p rel) = .port p := blockAt_portReg hp (by omega)
  have place : portReg p rel - (Block.port p).base = rel := Nat.add_sub_cancel_left ..
  have away : rel ≠ 4 := by omega
  have fields : regFields (portReg p rel) = portFields rel := regFields_portReg hp lt
  have facts : (portFields rel).isEmpty = false ∧ ((portFields rel).any fun f => f.ty == .w1l) = false ∧
      maskOf (portFields rel) (fun _ => true) ||| 0 < 2 ^ 32 := by
    rcases hr with rfl | rfl | rfl <;> decide
  obtain ⟨listed, unlocked, small⟩ := facts
  refine { apart := Or.inr (by omega), aligned := by omega, single := by rw [pairLow, block], listed := by rw [fields]; exact listed,
           unlocked := by rw [fields]; exact unlocked,
           noDoorbell := fun n => by rw [block]; exact Block.noConfusion, noCounter := fun h => ?_, filter := fun t m v => ?_,
           starts := fun t m old v => ?_, keeps := ?_, whole := fun t => by rw [wholeValue, block], small := ?_ }
  · rw [block] at h; exact Block.noConfusion h.1
  · exact filterWrite_other (by rw [block]; exact Block.noConfusion) (by rw [block]; exact Block.noConfusion)
      (by rw [block]; exact Block.noConfusion) (by rw [block]; exact Block.noConfusion) (by rw [block]; exact Block.noConfusion)
  · simp only [startWrite, block, place, away, if_false]
  · simp only [selfClear, block, place, away, if_false]
  · rw [fields, zeroBits, block]; exact small

/-- A bit that a port register names, of no RW field, is cleared where the field is W1C and a 1 is written, and stays else. -/
theorem portReg_named {p rel : Nat} (hp : p < nPorts) (hr : rel = 8 ∨ rel = 0xC) {i : Nat} (hi : i < 32)
    (named : (maskOf (portFields rel) fun _ => true).testBit i = true) (v : Word) :
    (writtenValue s (portReg p rel) v (BitVec.allOnes 32)).getLsbD i =
      (s.bit (portReg p rel) i && !(v.getLsbD i && (maskOf (portFields rel) fun f => f.ty == .w1c).testBit i)) := by
  have inert := inert_portReg hp (rel := rel) (by omega)
  have fields : regFields (portReg p rel) = portFields rel := regFields_portReg hp (by omega)
  have facts : ((portFields rel).any fun f => f.ty == .mw) = false ∧ maskOf (portFields rel) (fun f => f.ty == .rw || f.ty == .w1l) = 0 := by
    rcases hr with rfl | rfl <;> decide
  obtain ⟨noMw, noRw⟩ := facts
  rw [← fields] at noMw noRw named ⊢
  exact writtenValue_named hi noMw (by rw [noRw]; exact Nat.zero_testBit i) (by rw [inert.keeps]; exact Nat.zero_testBit i)
    (keepBits_named named inert.small)

/-- RO ignores what is written (R22). -/
theorem registerWrite_ro {o : BitVec 26} {p : Nat} (hp : p < nPorts) (h : CwReach s m (portReg p 8)) (ho : o.toNat = usedOff s m (portReg p 8))
    (v : DWord) : ∃ t, exec (.registerWrite m o 4 v) s = .next t ∧
      (∀ f ∈ regFields (portReg p 8), t.fld (portReg p 8) f.lo f.width = s.fld (portReg p 8) f.lo f.width) ∧
      (∀ x, x ≠ portReg p 8 → t.rd x = s.rd x) ∧ t = { s with reg := t.reg } := by
  have inert := inert_portReg hp (rel := 8) (Or.inl rfl)
  obtain ⟨t, step, ⟨regs, rest⟩, value⟩ := registerWrite_stores h ho inert.toOrdinary (fun t => inert.filter t m (v.setWidth 32))
    (fun t old => inert.starts t m old _)
  refine ⟨t, step, fun f hf => fld_congr_bits fun i lo hi => ?_, regs, rest⟩
  rw [regFields_portReg hp (by decide)] at hf
  have within : ∀ f ∈ portFields 8, f.lo + f.width ≤ 32 := by decide
  have noW1c : maskOf (portFields 8) (fun f => f.ty == .w1c) = 0 := by decide
  have named : (maskOf (portFields 8) fun _ => true).testBit i = true := by
    rw [testBit_maskOf]
    exact List.any_eq_true.2 ⟨f, hf, by simp [lo, hi]⟩
  have lt := within f hf
  rw [State.bit, value, portReg_named hp (Or.inl rfl) (by omega) named, noW1c, Nat.zero_testBit, Bool.and_false, Bool.not_false, Bool.and_true,
    State.bit, BitVec.testBit_toNat]

/-- W1C clears where a 1 is written (R22). -/
theorem registerWrite_w1c {o : BitVec 26} {p : Nat} (hp : p < nPorts) (h : CwReach s m (portReg p 0xC))
    (ho : o.toNat = usedOff s m (portReg p 0xC)) (v : DWord) : ∃ t, exec (.registerWrite m o 4 v) s = .next t ∧
      (∀ i < 8, t.bit (portReg p 0xC) i = (s.bit (portReg p 0xC) i && !v.getLsbD i)) ∧
      (∀ x, x ≠ portReg p 0xC → t.rd x = s.rd x) ∧ t = { s with reg := t.reg } := by
  have inert := inert_portReg hp (rel := 0xC) (Or.inr (Or.inl rfl))
  obtain ⟨t, step, ⟨regs, rest⟩, value⟩ := registerWrite_stores h ho inert.toOrdinary (fun t => inert.filter t m (v.setWidth 32))
    (fun t old => inert.starts t m old _)
  refine ⟨t, step, fun i hi => ?_, regs, rest⟩
  have masks : ∀ i < 8, (maskOf (portFields 0xC) fun _ => true).testBit i = true ∧
      (maskOf (portFields 0xC) fun f => f.ty == .w1c).testBit i = true := by decide
  rw [State.bit, value, portReg_named hp (Or.inr rfl) (by omega) (masks i hi).1, (masks i hi).2, Bool.and_true, BitVec.getLsbD_setWidth,
    decide_eq_true (by omega : i < 32), Bool.true_and]

/-- MW takes the bits that its upper half selects (R22). -/
theorem registerWrite_mw {o : BitVec 26} {p : Nat} (hp : p < nPorts) (h : CwReach s m (portReg p 0x10))
    (ho : o.toNat = usedOff s m (portReg p 0x10)) (v : DWord) : ∃ t, exec (.registerWrite m o 4 v) s = .next t ∧
      (∀ i < 8, t.bit (portReg p 0x10) i = if v.getLsbD (16 + i) then v.getLsbD i else s.bit (portReg p 0x10) i) ∧
      (∀ x, x ≠ portReg p 0x10 → t.rd x = s.rd x) ∧ t = { s with reg := t.reg } := by
  have inert := inert_portReg hp (rel := 0x10) (Or.inr (Or.inr rfl))
  obtain ⟨t, step, ⟨regs, rest⟩, value⟩ := registerWrite_stores h ho inert.toOrdinary (fun t => inert.filter t m (v.setWidth 32))
    (fun t old => inert.starts t m old _)
  refine ⟨t, step, fun i hi => ?_, regs, rest⟩
  have masks : ((portFields 0x10).any fun f => f.ty == .mw) = true ∧
      ∀ i < 8, (maskOf (portFields 0x10) fun f => f.ty == .mw).testBit i = true := by decide
  rw [State.bit, value, writtenValue_mw (by omega) (by rw [regFields_portReg hp (by decide)]; exact masks.1)
    (by rw [regFields_portReg hp (by decide)]; exact masks.2 i hi), BitVec.getLsbD_setWidth, BitVec.getLsbD_setWidth,
    decide_eq_true (by omega : i + 16 < 32), decide_eq_true (by omega : i < 32), Bool.true_and, Bool.true_and, Nat.add_comm i 16]

/-! ### A pair in one write (R51) -/

theorem agree_wr (h : Agree s) (off : Nat) (v : Word) : Agree (s.wr off v) := by
  have whole : tripleOff ⟨v, v, v⟩ = false := by simp [tripleOff, Triple.maj]
  unfold State.wr
  split
  · refine ⟨fun x => ?_, h.locks, h.fuses⟩
    by_cases hx : x = off
    · subst hx
      exact (congrArg tripleOff (sget_sset_same tvD s.reg.tv x ⟨v, v, v⟩)).trans whole
    · exact (congrArg tripleOff (sget_sset_other tvD s.reg.tv ⟨v, v, v⟩ hx)).trans (h.copies x)
  · exact ⟨h.copies, h.locks, h.fuses⟩

/-- The two registers of EVT_WAKE_EN: one RW field each, the whole word (R88, R417). -/
theorem wakeEn_facts : ∀ off ∈ [evtReg 0x18, evtReg 0x1C], Direct off ∧ (regFields off).isEmpty = false ∧
    ((regFields off).any fun f => f.ty == .w1l) = false ∧ blockAt off = .event ∧ ((regFields off).any fun f => f.ty == .mw) = false ∧
    selfClear off = 0 ∧ maskOf (regFields off) (fun f => f.ty == .w1c) = 0 ∧
    ∀ i < 32, (maskOf (regFields off) fun f => f.ty == .rw || f.ty == .w1l).testBit i = true := by
  simp only [List.forall_mem_cons, List.not_mem_nil, false_imp_iff, implies_true, and_true]
  refine ⟨⟨⟨Or.inl (by decide), by decide⟩, ?_⟩, ⟨⟨Or.inl (by decide), by decide⟩, ?_⟩⟩ <;> decide

theorem writtenValue_wakeEn (s : State) {off : Nat} (ho : off ∈ [evtReg 0x18, evtReg 0x1C]) (v : Word) :
    writtenValue s off v (BitVec.allOnes 32) = v := by
  obtain ⟨-, -, -, block, noMw, keeps, noW1c, rw⟩ := wakeEn_facts off ho
  have whole : wholeValue s off = none := by
    simp only [List.mem_cons, List.not_mem_nil, or_false] at ho
    rcases ho with rfl | rfl <;> rfl
  apply BitVec.eq_of_getLsbD_eq
  intro i hi
  exact writtenValue_rw hi noMw whole (rw i hi) (by rw [keeps]; exact Nat.zero_testBit i) (by rw [noW1c]; exact Nat.zero_testBit i)

theorem writeReg_wakeEn {off : Nat} (ho : off ∈ [evtReg 0x18, evtReg 0x1C]) (votes : Agree s)
    (ha : passes m off = true ∨ guardMask off = 0) (acc : Nat) (v : Word) : writeReg s m acc off v = (s.wr off v, false) := by
  obtain ⟨hd, listed, unlocked, block, -⟩ := wakeEn_facts off ho
  have filter : filterWrite s m off v = (s, some v) ∧ ∀ u old, startWrite u m off old v = u := by
    simp only [List.mem_cons, List.not_mem_nil, or_false] at ho
    rcases ho with rfl | rfl <;> exact ⟨rfl, fun _ _ => rfl⟩
  rw [writeReg_plain hd listed unlocked (fun h => by rw [block] at h; exact Block.noConfusion h.1) votes ha filter.1,
    writtenValue_wakeEn s ho, filter.2]

theorem CwReach.cwWrite8 (h : CwReach s m off) (hd : Direct off) (aligned : off % 8 = 0) (image : blockAt off ≠ .cxImage) (v : DWord) :
    cwWrite s m (usedOff s m off) 8 v = write8 s m off v := by
  refine (cwAccess_performs h.running h.votes h.place h.served h.awake hd.not_inWindow1 (hd.windowBusy_eq_none s)
    (hd.indDomain_eq_none s _)).trans ?_
  simp [perform, hd.farAbsent_eq_false, wellFormedAccess, aligned, image, answer]

/-- One write of 8 bytes writes both registers of a pair (R51). -/
theorem registerWrite_pair {o : BitVec 26} (h : CwReach s m (evtReg 0x18)) (ho : o.toNat = usedOff s m (evtReg 0x18)) (v : DWord)
    (low : passes m (evtReg 0x18) = true) (high : passes m (evtReg 0x1C) = true) :
    ∃ t, exec (.registerWrite m o 8 v) s = .next t ∧ t.rd (evtReg 0x18) = v.setWidth 32 ∧ t.rd (evtReg 0x1C) = (v >>> 32).setWidth 32 ∧
      (∀ x, x ≠ evtReg 0x18 → x ≠ evtReg 0x1C → t.rd x = s.rd x) ∧ t = { s with reg := t.reg } := by
  have hd : Direct (evtReg 0x18) := ⟨Or.inl (by decide), by decide⟩
  have drop : dropHeld (spendShadow s m .event) m .event = spendShadow s m .event := dropHeld_of_none h.noHeld
  have votes := agree_spendShadow (m := m) h.votes .event
  have step : exec (.registerWrite m o 8 v) s =
      .next (((spendShadow s m .event).wr (evtReg 0x18) (v.setWidth 32)).wr (evtReg 0x1C) ((v >>> 32).setWidth 32)) := by
    refine congrArg Host.Outcome.next ?_
    rw [ho, h.cwWrite8 hd (by decide) (by decide), write8, show blockAt (evtReg 0x18) = .event from rfl, drop]
    dsimp only
    rw [writeReg_wakeEn (by decide) votes (Or.inl low),
      show evtReg 0x18 + 4 = evtReg 0x1C from rfl, writeReg_wakeEn (by decide) (agree_wr votes _ _) (Or.inl high)]
    simp only [logDenied, Bool.or_self, Bool.false_eq_true, if_false]
  have apart : evtReg 0x18 ≠ evtReg 0x1C := by unfold evtReg; omega
  refine ⟨_, step, ?_, State.rd_wr_same .., fun x lo hi => ?_, ?_⟩
  · rw [State.rd_wr_other _ _ apart, State.rd_wr_same]
  · rw [State.rd_wr_other _ _ hi, State.rd_wr_other _ _ lo]
    rfl
  · have first := (regStored_wr s m .event (evtReg 0x18) (v.setWidth 32)).rest
    generalize (spendShadow s m .event).wr (evtReg 0x18) (v.setWidth 32) = u at first ⊢
    rw [State.wr_frame, first]

/-! ### A register that locks (R59) -/

theorem voteLock_of_agree (h : Agree s) (off : Nat) : voteLock s off = s := by
  rw [voteLock]
  exact if_neg (by rw [h.locks off]; decide)

/-- A write to a register that locks, once the guard lets it through (R59). -/
theorem writeReg_w1l (hd : Direct off) (listed : (regFields off).isEmpty = false) (once : ((regFields off).any fun f => f.ty == .w1l) = true)
    (votes : Agree s) (ha : passes m off = true ∨ guardMask off = 0) (acc : Nat) (v : Word) :
    writeReg s m acc off v = (if locked s off then lockViol s m acc off
      else lockReg (s.wr off (writtenValue s off v (BitVec.allOnes 32))) off, false) := by
  have pass : (!passes m off && guardMask off != 0) = false := by rcases ha with h | h <;> simp [h]
  have full : ¬ BitVec.allOnes 32 = (0 : Word) := by decide
  have data : ¬ (off = 0x40004 ∨ off = 0x40014) := fun h => h.elim (hd.ne (by decide) (by decide)) (hd.ne (by decide) (by decide))
  have claim : off ≠ 0x4001C := hd.ne (by decide) (by decide)
  simp only [writeReg, hd.not_inWindow1, Bool.false_and, Bool.false_eq_true, if_false, listed, pass, full, data, claim, once, if_true,
    voteReg_of_agree votes, voteLock_of_agree votes]
  split <;> rfl

/-! ### Violations (R67) -/

/-- From s to t a block has logged one violation. -/
structure Logged (s t : State) (b : Block) (bit value : Nat) : Prop where
  status : t.bit b.statusOff bit = true
  viol : t.fld b.violOff 0 30 = value
  keep : t.fld b.violOff 30 2 = s.fld b.violOff 30 2
  regs : ∀ x, x ≠ b.statusOff → x ≠ b.violOff → t.rd x = s.rd x
  locks : t.reg.locks = s.reg.locks

theorem masterBits_lt (m : Master) : masterBits m < 2 ^ 26 + 2 ^ 17 := by
  cases m with
  | agent a p => have := a.isLt; simp only [masterBits]; omega
  | mgmt => decide
  | boot => decide

theorem violOffset_lt (off : Nat) : violOffset off < 2 ^ 28 - 2 ^ 27 + 2 ^ 16 := by
  unfold violOffset
  split <;> omega

theorem State.fld_setFld (s : State) (off lo w v : Nat) (h : lo + w ≤ 32) : (s.setFld off lo w v).fld off lo w = v % 2 ^ w := by
  apply Nat.eq_of_testBit_eq
  intro i
  rw [State.fld, wfld, bitsOf, Nat.testBit_mod_two_pow, Nat.testBit_mod_two_pow, Nat.testBit_div_two_pow]
  by_cases hi : i < w
  · have bit := State.bit_setFld s off lo w v (i := i + lo) (by omega)
    rw [if_pos (by omega), Nat.add_sub_cancel] at bit
    rw [BitVec.testBit_toNat]
    exact congrArg (_ && ·) bit
  · simp [hi]

theorem State.fld_setFld_apart (s : State) (off lo w v : Nat) {lo' w' : Nat} (h : lo' + w' ≤ 32) (apart : lo' + w' ≤ lo ∨ lo + w ≤ lo') :
    (s.setFld off lo w v).fld off lo' w' = s.fld off lo' w' :=
  (fld_congr_bits (x := (s.rd off).toNat) fun i lo hi =>
    (State.bit_setFld s off _ _ _ (by omega)).trans ((if_neg (by omega)).trans (BitVec.testBit_toNat ..).symm))

theorem State.rd_setFld_other (s : State) {off o : Nat} (lo w v : Nat) (h : o ≠ off) : (s.setFld off lo w v).rd o = s.rd o :=
  State.rd_wr_other _ _ h

theorem State.wr_locks (s : State) (off : Nat) (v : Word) : (s.wr off v).reg.locks = s.reg.locks := by
  unfold State.wr
  split <;> rfl

theorem noteViol_logged (s : State) (m : Master) (off bit cause slot : Nat) (hb : bit < 32) (hc : cause < 4) :
    Logged s (noteViol s m off bit cause slot) (blockAt off) bit (violOffset off + masterBits m + 2 ^ 28 * cause) ∧
    noteViol s m off bit cause slot = { s with reg := (noteViol s m off bit cause slot).reg, acc := (noteViol s m off bit cause slot).acc } := by
  have other : (blockAt off).violOff ≠ (blockAt off).statusOff := by unfold Block.violOff Block.statusOff; omega
  have small : violOffset off + masterBits m + 2 ^ 28 * cause < 2 ^ 30 := by
    have := violOffset_lt off
    have := masterBits_lt m
    omega
  unfold noteViol
  dsimp only
  generalize blockAt off = b at other ⊢
  generalize violOffset off + masterBits m + 2 ^ 28 * cause = value at small ⊢
  have same (x : Nat) : (((s.setFld b.statusOff bit 1 1).setFld b.violOff 0 30 value).count 53 slot 1).rd x =
      ((s.setFld b.statusOff bit 1 1).setFld b.violOff 0 30 value).rd x := State.rd_count ..
  refine ⟨⟨?_, ?_, ?_, fun x hs hv => ?_, ?_⟩, ?_⟩
  · rw [State.bit, same, State.rd_setFld_other _ _ _ _ other.symm]
    exact (State.bit_setFld s _ bit 1 1 hb).trans (by simp)
  · rw [State.fld, same]
    exact (State.fld_setFld _ _ 0 30 value (by decide)).trans (Nat.mod_eq_of_lt small)
  · rw [State.fld, same]
    refine (State.fld_setFld_apart _ _ 0 30 value (by decide) (Or.inr (by decide))).trans ?_
    rw [State.fld, State.rd_setFld_other _ _ _ _ other, State.fld]
  · rw [same, State.rd_setFld_other _ _ _ _ hv, State.rd_setFld_other _ _ _ _ hs]
  · rw [State.count_reg, State.setFld, State.wr_locks, State.setFld, State.wr_locks]
  · rw [State.count_frame]
    generalize hu : s.setFld b.statusOff bit 1 1 = u
    have first : u = { s with reg := u.reg } := by rw [← hu, State.setFld]; exact State.wr_frame ..
    rw [State.setFld, State.wr_frame, first]

/-- A malformed access is logged (R52, R55). -/
theorem registerWrite_malformed {o : BitVec 26} {n : Nat} (running : s.boot.inReset = false) (votes : Agree s)
    (place : cwPlace s m o.toNat = some off) (served : cwServed s (blockAt off) = true) (awake : s.domLit (blockAt off).domain = true)
    (noHeld : ∀ h ∈ s.reg.held, ¬ (h.block = blockAt off ∧ h.master = masterKey m)) (noStall : s.reg.stalled = [])
    (out0 : inWindow0 off = false) (out1 : inWindow1 off = false) (bad : wellFormedAccess off n = false) (v : DWord) :
    exec (.registerWrite m o n v) s = .next (accessErr (spendShadow s m (blockAt off)) m off) := by
  have apart (a : Access) : ¬ (touchedData a off = 0x40004 ∨ touchedData a off = 0x40014) := by
    simp only [inWindow0, inWindow1, Bool.and_eq_false_iff, decide_eq_false_iff_not] at out0 out1
    unfold touchedData
    split <;> omega
  have idle : windowBusy s off = none := by rw [windowBusy, noStall]; rfl
  have near (a : Access) : indDomain s a off = none := if_neg fun hd => apart a hd.1
  have far (a : Access) : farAbsent s a off = false := by
    simp only [farAbsent, Bool.and_eq_false_iff]
    exact Or.inl (by simpa using apart a)
  have drop : dropHeld (spendShadow s m (blockAt off)) m (blockAt off) = spendShadow s m (blockAt off) := dropHeld_of_none noHeld
  refine congrArg Host.Outcome.next ((cwAccess_performs running votes place served awake out1 idle (near _)).trans ?_)
  simp only [perform, far, bad, Bool.false_and, Bool.false_eq_true, if_false, if_true, drop, answer]

/-- A write of a guarded register without privilege is refused and logged (R55, R66). -/
theorem registerWrite_denied {o : BitVec 26} (hi : Inert off) (running : s.boot.inReset = false) (votes : Agree s)
    (place : cwPlace s m o.toNat = some off) (served : cwServed s (blockAt off) = true) (awake : s.domLit (blockAt off).domain = true)
    (noHeld : ∀ h ∈ s.reg.held, ¬ (h.block = blockAt off ∧ h.master = masterKey m)) (shut : passes m off = false)
    (guard : guardMask off = BitVec.allOnes 32) (v : DWord) :
    exec (.registerWrite m o 4 v) s = .next (guardDeny (spendShadow s m (blockAt off)) m off) := by
  have hd := hi.toDirect
  have far := hd.farAbsent_eq_false s ⟨m, o.toNat, 4, true, v, .bus⟩
  have denied : writeReg (spendShadow s m (blockAt off)) m off off (v.setWidth 32) = (spendShadow s m (blockAt off), true) := by
    have full : (BitVec.allOnes 32 != (0 : Word)) = true := by decide
    have none : ~~~ BitVec.allOnes 32 = (0 : Word) := by decide
    simp only [writeReg, hd.not_inWindow1, shut, guard, full, none, hi.listed, Bool.false_and, Bool.not_false, Bool.and_self,
      Bool.false_eq_true, if_false, if_true]
  refine congrArg Host.Outcome.next ((cwAccess_performs running votes place served awake hd.not_inWindow1 (hd.windowBusy_eq_none s)
    (hd.indDomain_eq_none s _)).trans ?_)
  have written := write4_single noHeld (by rw [holdsLow, hi.single, Bool.false_and]) hi.noDoorbell (v.setWidth 32)
  rw [denied] at written
  simp only [perform, far, wellFormedAccess, hd.aligned, Bool.false_and, Bool.false_eq_true, if_false, beq_self_eq_true, Bool.and_self,
    Bool.true_or, Bool.true_eq_false, if_true, (by decide : ¬ (4 : Nat) = 8), written, logDenied, answer]

/-! ### POWER's ceiling, which locks (R59, R474) -/

theorem ceiling_facts : Direct (pwrReg 4) ∧ pairLow (pwrReg 4) = false ∧ (regFields (pwrReg 4)).isEmpty = false ∧
    ((regFields (pwrReg 4)).any fun f => f.ty == .w1l) = true ∧ blockAt (pwrReg 4) = .power ∧
    ((regFields (pwrReg 4)).any fun f => f.ty == .mw) = false ∧ selfClear (pwrReg 4) = 0 ∧
    maskOf (regFields (pwrReg 4)) (fun f => f.ty == .w1c) = 0 ∧
    ∀ i < 11, (maskOf (regFields (pwrReg 4)) fun f => f.ty == .rw || f.ty == .w1l).testBit i = true := by
  refine ⟨⟨Or.inl (by decide), by decide⟩, ?_⟩
  decide

theorem registerWrite_ceiling {o : BitVec 26} (h : CwReach s m (pwrReg 4)) (ho : o.toNat = usedOff s m (pwrReg 4)) (v : DWord) :
    exec (.registerWrite m o 4 v) s = .next (if locked s (pwrReg 4) then lockViol (spendShadow s m .power) m (pwrReg 4) (pwrReg 4)
      else lockReg ((spendShadow s m .power).wr (pwrReg 4) (writtenValue s (pwrReg 4) (v.setWidth 32) (BitVec.allOnes 32))) (pwrReg 4)) := by
  obtain ⟨hd, single, listed, once, block, -⟩ := ceiling_facts
  have written := write4_single h.noHeld (by rw [holdsLow, single, Bool.false_and]) (fun n => by rw [block]; exact Block.noConfusion)
    (v.setWidth 32)
  rw [block, writeReg_w1l hd listed once (agree_spendShadow h.votes .power) h.allowed] at written
  refine congrArg Host.Outcome.next ?_
  rw [ho, h.cwWrite4 hd, written]
  rfl

/-- The first write of a W1L register is taken, and locks it (R59). -/
theorem registerWrite_locks {o : BitVec 26} (h : CwReach s m (pwrReg 4)) (ho : o.toNat = usedOff s m (pwrReg 4)) (v : DWord)
    (free : locked s (pwrReg 4) = false) : ∃ t, exec (.registerWrite m o 4 v) s = .next t ∧ t.fld (pwrReg 4) 0 11 = v.toNat % 2 ^ 11 ∧
      locked t (pwrReg 4) = true ∧ (∀ x, x ≠ pwrReg 4 → t.rd x = s.rd x) ∧ t = { s with reg := t.reg } := by
  obtain ⟨-, -, -, -, -, noMw, keeps, noW1c, rw⟩ := ceiling_facts
  have stored := regStored_wr s m .power (pwrReg 4) (writtenValue s (pwrReg 4) (v.setWidth 32) (BitVec.allOnes 32))
  have value : ((spendShadow s m .power).wr (pwrReg 4) (writtenValue s (pwrReg 4) (v.setWidth 32) (BitVec.allOnes 32))).rd (pwrReg 4) =
      writtenValue s (pwrReg 4) (v.setWidth 32) (BitVec.allOnes 32) := State.rd_wr_same ..
  have step := registerWrite_ceiling h ho v
  rw [free] at step
  generalize (spendShadow s m .power).wr (pwrReg 4) _ = u at stored value step
  obtain ⟨regs, rest⟩ := stored
  have kept (x : Nat) : (lockReg u (pwrReg 4)).rd x = u.rd x := rfl
  refine ⟨lockReg u (pwrReg 4), step, ?_, ?_, fun x hx => (kept x).trans (regs x hx), ?_⟩
  · refine (fld_congr_bits fun i lo hi => ?_).trans (by rw [bitsOf, Nat.pow_zero, Nat.div_one])
    rw [State.bit, kept, value, writtenValue_rw (by omega) noMw rfl (rw i (by omega)) (by rw [keeps]; exact Nat.zero_testBit i)
      (by rw [noW1c]; exact Nat.zero_testBit i), BitVec.getLsbD_setWidth, BitVec.testBit_toNat, decide_eq_true (by omega : i < 32),
      Bool.true_and]
  · have lock : sget lockD (lockReg u (pwrReg 4)).reg.locks (pwrReg 4) = ⟨1, 1, 1⟩ :=
      sget_sset_same lockD u.reg.locks (pwrReg 4) ⟨1, 1, 1⟩
    rw [locked, lock]
    decide
  · rw [rest]
    rfl

theorem lockViol_eq (s : State) (m : Master) (off reg : Nat) : lockViol s m off reg = if s.bit (blockAt reg).statusOff 0 = true then
    noteViol s m off 0 1 5 else (noteViol s m off 0 1 5).raise (blockSource (blockAt reg)) 1
      (w32 ((reg - (blockAt reg).base) % 0x10000 + masterBits m)) := by
  rw [lockViol]

theorem State.evt_eta (s : State) : ∃ e, s = { s with evt := e } := ⟨_, rfl⟩

theorem State.raise_eq (s : State) (source code : Nat) (info : Word) : ∃ e, s.raise source code info = { s with evt := e } := ⟨_, rfl⟩

/-- A lock violation is logged, and may raise its event. -/
theorem lockViol_raises (s : State) (m : Master) (off reg : Nat) : ∃ e, lockViol s m off reg = { noteViol s m off 0 1 5 with evt := e } := by
  rw [lockViol_eq]
  by_cases was : s.bit (blockAt reg).statusOff 0 = true
  · rw [if_pos was]
    exact State.evt_eta ..
  · rw [if_neg was]
    exact State.raise_eq ..

/-- A write of a locked register changes nothing but the violation log (R59). -/
theorem registerWrite_locked {o : BitVec 26} (h : CwReach s m (pwrReg 4)) (ho : o.toNat = usedOff s m (pwrReg 4)) (v : DWord)
    (taken : locked s (pwrReg 4) = true) : ∃ t, exec (.registerWrite m o 4 v) s = .next t ∧ t.bit (pwrReg 0xFFF8) 0 = true ∧
      t.fld (pwrReg 0xFFFC) 0 30 = 4 + masterBits m + 2 ^ 28 ∧ t.fld (pwrReg 0xFFFC) 30 2 = s.fld (pwrReg 0xFFFC) 30 2 ∧
      locked t (pwrReg 4) = true ∧
      (∀ x, x ≠ pwrReg 0xFFF8 → x ≠ pwrReg 0xFFFC → t.rd x = s.rd x) ∧ t = { s with reg := t.reg, evt := t.evt, acc := t.acc } := by
  have step := registerWrite_ceiling h ho v
  rw [taken, if_pos rfl] at step
  obtain ⟨⟨status, viol, keep, regs, locks⟩, rest⟩ := noteViol_logged (spendShadow s m .power) m (pwrReg 4) 0 1 5 (by decide) (by decide)
  have block : blockAt (pwrReg 4) = .power := rfl
  have value : violOffset (pwrReg 4) + masterBits m + 2 ^ 28 * 1 = 4 + masterBits m + 2 ^ 28 := by
    rw [show violOffset (pwrReg 4) = 4 by simp only [violOffset, block]; rfl, Nat.mul_one]
  have statusAt : Block.power.statusOff = pwrReg 0xFFF8 := rfl
  have violAt : Block.power.violOff = pwrReg 0xFFFC := rfl
  rw [value] at viol
  rw [block, statusAt] at status
  rw [block, violAt] at viol keep
  rw [block, statusAt, violAt] at regs
  obtain ⟨e, evt⟩ := lockViol_raises (spendShadow s m .power) m (pwrReg 4) (pwrReg 4)
  generalize lockViol (spendShadow s m .power) m (pwrReg 4) (pwrReg 4) = t at step evt
  have reg : t.reg = (noteViol (spendShadow s m .power) m (pwrReg 4) 0 1 5).reg := by rw [evt]
  have rd (x : Nat) : t.rd x = (noteViol (spendShadow s m .power) m (pwrReg 4) 0 1 5).rd x := State.rd_congr reg x
  refine ⟨t, step, ?_, ?_, ?_, ?_, fun x hs hv => (rd x).trans (regs x hs hv), ?_⟩
  · rw [State.bit, rd]; exact status
  · rw [State.fld, rd]; exact viol
  · rw [State.fld, rd]; exact keep
  · rw [locked, reg, locks]
    exact taken
  · rw [rest] at evt
    rw [evt]
    rfl

/-- A state whose block has logged a violation, and in which the blotter of accesses has no other trace of the master. -/
theorem Logged.of_spendShadow {b : Block} {bit value : Nat} (h : Logged (spendShadow s m b) t b bit value)
    (rest : t = { spendShadow s m b with reg := t.reg, acc := t.acc }) : t.bit b.statusOff bit = true ∧ t.fld b.violOff 0 30 = value ∧
      t.fld b.violOff 30 2 = s.fld b.violOff 30 2 ∧ (∀ x, x ≠ b.statusOff → x ≠ b.violOff → t.rd x = s.rd x) ∧
      t = { s with reg := t.reg, acc := t.acc } :=
  ⟨h.status, h.viol, h.keep, h.regs, rest⟩

end Sys2Proof.Machine

open Sys2Proof Sys2Proof.Machine

/-- Settles O18: each field type has its rule for the stored bits, and what is refused is logged alone. -/
theorem registerWritesFollowFieldTypesAndGuards : Obligations.RegisterWritesFollowFieldTypesAndGuards := by
  refine ⟨fun s m o off v h ho => ⟨fun named => ?_, fun eq low high => ?_, fun p hp eq => ?_, fun p hp eq => ?_, fun p hp eq => ?_,
    fun eq free => ?_, fun eq taken => ?_⟩,
    fun s m o n v running votes => ⟨fun off place served awake noHeld noStall out0 out1 =>
      ⟨fun bad => ?_, fun d hd eq shut => ?_⟩, fun place => ?_⟩⟩
  · have both : Inert off ∧ AllRw off := by
      rcases named with ⟨n, hn, rfl⟩ | ⟨n, hn, rfl⟩ | ⟨k, hk, n, hn, rfl⟩ | ⟨d, hd, rfl⟩
      · exact ⟨inert_route hn, allRw_route hn⟩
      · exact ⟨inert_evtRow hn, allRw_evtRow hn⟩
      · exact ⟨inert_timing hk hn, allRw_timing hk hn⟩
      · exact ⟨inert_domIdle hd, allRw_domIdle hd⟩
    exact registerWrite_rw h ho v both.1 both.2
  · subst eq
    exact registerWrite_pair h ho v low high
  · subst eq
    exact registerWrite_ro hp h ho v
  · subst eq
    exact registerWrite_w1c hp h ho v
  · subst eq
    exact registerWrite_mw hp h ho v
  · subst eq
    exact registerWrite_locks h ho v free
  · subst eq
    exact registerWrite_locked h ho v taken
  · obtain ⟨logged, rest⟩ := noteViol_logged (spendShadow s m (blockAt off)) m off 2 3 7 (by decide) (by decide)
    have value : violOffset off + masterBits m + 2 ^ 28 * 3 = violOffset off + masterBits m + 3 * 2 ^ 28 := by omega
    rw [value] at logged
    exact ⟨_, registerWrite_malformed running votes place served awake noHeld noStall out0 out1 bad v, logged.of_spendShadow rest⟩
  · subst eq
    have at0 : dirReg (0x1004 + 0x10 * d) = 0x300000 + (0x1004 + 0x10 * d) := rfl
    have block : blockAt (dirReg (0x1004 + 0x10 * d)) = .directory := blockAt_directory (by omega) (by omega)
    have guard : guardMask (dirReg (0x1004 + 0x10 * d)) = BitVec.allOnes 32 := by
      rw [guardMask, regFields_route hd]
      rfl
    obtain ⟨logged, rest⟩ := noteViol_logged (spendShadow s m (blockAt (dirReg (0x1004 + 0x10 * d)))) m (dirReg (0x1004 + 0x10 * d)) 3 2 6
      (by decide) (by decide)
    have value : violOffset (dirReg (0x1004 + 0x10 * d)) + masterBits m + 2 ^ 28 * 2 = 0x1004 + 0x10 * d + masterBits m + 2 * 2 ^ 28 := by
      have rel : violOffset (dirReg (0x1004 + 0x10 * d)) = 0x1004 + 0x10 * d := by
        simp only [violOffset, block]
        show (dirReg (0x1004 + 0x10 * d) - 0x300000) % 0x10000 = _
        omega
      rw [rel]
      omega
    rw [value] at logged
    have step := registerWrite_denied (o := o) (inert_route hd) running votes place served awake noHeld shut guard v
    rw [block] at logged rest step
    exact ⟨_, step, logged.of_spendShadow rest⟩
  · have read (a : Access) (ha : cwPlace s a.m a.off = none) : cwAccess s a = answer s a 0 := by
      simp only [cwAccess, running, voteMode_of_agree votes, ha, Bool.false_eq_true, if_false]
    exact ⟨congrArg Host.Outcome.next (read _ place), congrArg Host.Outcome.next (read _ place)⟩
end

section
/-! PROOF. What the low word of the timebase reads where its register holds bits of its own (R24, R73). -/
namespace Sys2Proof.Machine
open Config

/-- The state after reset, but with bit 0 of the register at 0x20 stored as 1. -/
def storedTimebase : State := State.reset.wr 0x20 1

/-- The value that a read of the control window leaves. -/
def readAfter : Host.Outcome State Fault Refusal → DWord
  | .next t => t.cwData
  | _ => 0

theorem storedTimebase_reads_one : readAfter (exec (.lowWordRead .mgmt 0x20) storedTimebase) = 1 := by decide +kernel

end Sys2Proof.Machine

open Sys2Proof Sys2Proof.Machine

/-- Refutes O19: the value of a register is what is stored at its offset together with its live bits, and the statement does not ask that
nothing is stored at the offset of the timebase, as it is after reset. Where bit 0 is stored there, it reads as 1 at a count of 0. -/
theorem not_pairsAndVotedRegistersStayWhole : ¬ Obligations.PairsAndVotedRegistersStayWhole := by
  intro h
  obtain ⟨t, ht, count, -⟩ := (h.1 storedTimebase .mgmt 0x20 0x24).1 (Tests.reach_of (by decide)) (by decide) (by decide) (by decide)
  have one : readAfter (.next t) = 1 := ht ▸ storedTimebase_reads_one
  exact absurd (one.symm.trans count) (by decide)
end

section
/-! PROOF. The windows of INDIRECT and the claim of window 1 (R79–R83). -/
namespace Sys2Proof.Machine
open Config

variable {s t u : State} {m : Master} {off : Nat}

/-! ## The stored registers (R24) -/

/-- From s to t nothing differs but the stored values of registers. -/
def OnlyFile (s t : State) : Prop := t = { s with reg := { s.reg with tv := t.reg.tv, file := t.reg.file } }

theorem OnlyFile.refl (s : State) : OnlyFile s s := rfl

theorem OnlyFile.trans (h : OnlyFile s t) (h' : OnlyFile t u) : OnlyFile s u := by
  rw [OnlyFile] at h h' ⊢
  rw [h'] at *
  rw [h]

theorem onlyFile_wr (s : State) (off : Nat) (v : Word) : OnlyFile s (s.wr off v) := by
  unfold State.wr
  split
  · rfl
  · rfl

theorem onlyFile_setFld (s : State) (off lo w v : Nat) : OnlyFile s (s.setFld off lo w v) := onlyFile_wr ..

theorem OnlyFile.frame (h : OnlyFile s t) : t = { s with reg := t.reg } := by
  rw [h]

theorem OnlyFile.claim (h : OnlyFile s t) : t.reg.claim = s.reg.claim := by rw [h]
theorem OnlyFile.stalled (h : OnlyFile s t) : t.reg.stalled = s.reg.stalled := by rw [h]
theorem OnlyFile.wayq (h : OnlyFile s t) : t.reg.wayq = s.reg.wayq := by rw [h]
theorem OnlyFile.slices (h : OnlyFile s t) : t.slices = s.slices := by rw [h]

theorem State.fld_lt (s : State) (off lo w : Nat) : s.fld off lo w < 2 ^ w := Nat.mod_lt _ (Nat.two_pow_pos w)

/-! ## OFFSET steps (R79) -/

/-- The register at a steps its field OFFSET by 4 where AUTO_INC is 1, and no other register changes. -/
structure Stepped (s t : State) (a : Nat) : Prop where
  offset : t.fld a 0 24 = (s.fld a 0 24 + if s.bit a 31 then 4 else 0) % 2 ^ 24
  target : t.fld a 24 8 = s.fld a 24 8
  regs : ∀ x, x ≠ a → t.rd x = s.rd x
  file : OnlyFile s t

theorem indStep_stepped (s : State) (a : Nat) : Stepped s (indStep s (a + 4)) a := by
  rw [indStep, indAddr, Nat.add_sub_cancel]
  split
  · rename_i inc
    refine ⟨?_, State.fld_setFld_apart _ _ 0 24 _ (by decide) (Or.inr (by decide)), fun x hx => State.rd_setFld_other _ _ _ _ hx,
      onlyFile_setFld ..⟩
    rw [if_pos inc]
    exact State.fld_setFld _ _ 0 24 _ (by decide)
  · rename_i inc
    refine ⟨?_, rfl, fun x _ => rfl, .refl s⟩
    rw [if_neg inc, Nat.add_zero, Nat.mod_eq_of_lt (State.fld_lt ..)]

/-! ## An access to a register of INDIRECT (R51, R55, R79) -/

/-- The registers of INDIRECT with a behaviour of their own. -/
def windowOffs : List Nat := [0x40004, 0x40014, 0x4001C]

theorem window_facts : ∀ off ∈ windowOffs, blockAt off = .indirect ∧ pairLow off = false ∧ pairLow (off - 4) = false ∧ popsAt off = none ∧
    (regFields off).isEmpty = false ∧ guardMask off = BitVec.allOnes 32 ∧ off % 4 = 0 := by decide

theorem windowReg_mem (w : Bool) : windowReg w + 4 ∈ windowOffs := by cases w <;> decide

/-- All of INDIRECT is guarded: what reaches it passes (R66). -/
theorem CwReach.passes_window (h : CwReach s m off) (ho : off ∈ windowOffs) : passes m off = true := by
  obtain ⟨-, -, -, -, -, guard, -⟩ := window_facts off ho
  refine h.allowed.resolve_right ?_
  rw [guard]
  decide

/-- No other master holds the claim of window 1 (R83). -/
theorem shutOut_eq_false (h : s.reg.claim = .none ∨ holdsClaim s m = true) : shutOut s m = false := by
  rcases h with h | h <;> simp [shutOut, h]

theorem windowBusy_idle (h : s.reg.stalled = []) (off : Nat) : windowBusy s off = none := by simp [windowBusy, h]

theorem cwAccess_performs_open {a : Access} (running : s.boot.inReset = false) (votes : Agree s) (place : cwPlace s a.m a.off = some off)
    (served : cwServed s (blockAt off) = true) (awake : s.domLit (blockAt off).domain = true) (free : (inWindow1 off && shutOut s a.m) = false)
    (idle : windowBusy s off = none) (near : indDomain s a off = none) :
    cwAccess s a = answer (perform s a off).1 a (perform s a off).2 := by
  simp only [cwAccess, running, voteMode_of_agree votes, place, served, awake, free, idle, near, Bool.false_eq_true,
    Bool.true_eq_false, false_and, if_false]

theorem touchedData_aligned (o : Nat) (w : Bool) (d : DWord) (r : ReplyTo) (aligned : off % 4 = 0) :
    touchedData ⟨m, o, 4, w, d, r⟩ off = off := by
  unfold touchedData
  rw [if_neg fun h => absurd h.2 (Nat.succ_ne_succ_iff.2 (by decide))]
  omega

/-- A read of 4 bytes of such a register gives what the register gives. -/
theorem CwReach.cwRead_window (h : CwReach s m off) (ho : off ∈ windowOffs) (free : (inWindow1 off && shutOut s m) = false) (idle : s.reg.stalled = [])
    (near : indDomain s ⟨m, usedOff s m off, 4, false, 0, .bus⟩ off = none) :
    cwRead s m (usedOff s m off) 4 = { (readReg (spendShadow s m .indirect) m off).1 with
      cwData := (readReg (spendShadow s m .indirect) m off).2.setWidth 64 } := by
  obtain ⟨block, single, noShadow, noPop, -, -, aligned⟩ := window_facts off ho
  have drop : dropHeld s m (blockAt off) = s := dropHeld_of_none h.noHeld
  have shadow : heldShadow s m off = none := by rw [heldShadow, noShadow]; rfl
  refine (cwAccess_performs_open h.running h.votes h.place h.served h.awake free (windowBusy_idle idle off) near).trans ?_
  have performed : perform s ⟨m, usedOff s m off, 4, false, 0, .bus⟩ off = read4 s m off := by
    simp [perform, touchedData_aligned _ _ _ _ aligned, h.passes_window ho, wellFormedAccess, aligned, drop]
  rw [performed, read4, noPop, shadow, block]
  simp [answer, single]

/-- A write of 4 bytes to such a register does what the register does. -/
theorem CwReach.writeNative_window (h : CwReach s m off) (ho : off ∈ windowOffs) (free : (inWindow1 off && shutOut s m) = false) (idle : s.reg.stalled = [])
    (v : Word) (near : indDomain s ⟨m, usedOff s m off, 4, true, BitVec.ofNat 64 v.toNat, .bus⟩ off = none) :
    writeNative s m off v.toNat = logDenied (writeReg (spendShadow s m .indirect) m off off v).1 m off
      (writeReg (spendShadow s m .indirect) m off off v).2 := by
  obtain ⟨block, single, -, -, -, -, aligned⟩ := window_facts off ho
  refine (cwAccess_performs_open h.running h.votes h.place h.served h.awake free (windowBusy_idle idle off) near).trans ?_
  have performed : perform s ⟨m, usedOff s m off, 4, true, BitVec.ofNat 64 v.toNat, .bus⟩ off = (write4 s m off v, 0) := by
    simp [perform, touchedData_aligned _ _ _ _ aligned, h.passes_window ho, wellFormedAccess, aligned]
  rw [performed, write4_single h.noHeld (by rw [holdsLow, single, Bool.false_and]) (fun n => by rw [block]; exact Block.noConfusion),
    block]
  rfl

/-- IND_DATA passes its checks at once where its target needs no domain to wake (R81). -/
theorem indDomain_near (o : Nat) (w : Bool) (d : DWord) (aligned : off % 4 = 0)
    (lit : (indTarget s (s.rd (indAddr off))).1 = .reserved ∨
      s.domLit (farDomain (indTarget s (s.rd (indAddr off))).1 (indTarget s (s.rd (indAddr off))).2.1) = true) :
    indDomain s ⟨m, o, 4, w, d, .bus⟩ off = none := by
  have near : ¬ ((indTarget s (s.rd (indAddr off))).1 ≠ .reserved ∧ (indTarget s (s.rd (indAddr off))).2.2 = true ∧
      s.domLit (farDomain (indTarget s (s.rd (indAddr off))).1 (indTarget s (s.rd (indAddr off))).2.1) = false) := by
    rintro ⟨named, -, asleep⟩
    exact lit.elim named fun awake => Bool.false_ne_true (asleep.symm.trans awake)
  unfold indDomain
  simp only [touchedData_aligned _ _ _ _ aligned, ne_eq, not_true_eq_false, false_and, if_false]
  rw [if_neg near]
  exact ite_self _

/-! ## IND_DATA (R79–R82) -/

theorem indAddr_window (w : Bool) : indAddr (windowReg w + 4) = windowReg w := Nat.add_sub_cancel ..

theorem window_data (w : Bool) : windowReg w + 4 = 0x40004 ∨ windowReg w + 4 = 0x40014 := by cases w <;> decide

/-- Where an access of IND_DATA finds its target (R80). -/
theorem indTarget_window (s : State) (w : Bool) : indTarget s (s.rd (indAddr (windowReg w + 4))) =
    (farPlace (s.fld (windowReg w) 24 7), s.fld (windowReg w) 0 24 / 4 * 4, farPresent s (farPlace (s.fld (windowReg w) 24 7)) &&
      (decide (5 < s.boot.step) || farPlace (s.fld (windowReg w) 24 7) == .fuse)) := by
  rw [indAddr_window]
  rfl

theorem CwReach.readReg_data {w : Bool} (h : CwReach s m (windowReg w + 4)) (free : shutOut s m = false) :
    readReg (spendShadow s m .indirect) m (windowReg w + 4) = indRead (spendShadow s m .indirect) (windowReg w + 4) := by
  have shut : shutOut (spendShadow s m .indirect) m = false := free
  rw [readReg, shut, Bool.and_false, if_neg Bool.false_ne_true, if_pos (window_data w), h.passes_window (windowReg_mem w), if_pos rfl]

theorem CwReach.writeReg_data {w : Bool} (h : CwReach s m (windowReg w + 4)) (free : shutOut s m = false) (v : Word) :
    writeReg (spendShadow s m .indirect) m (windowReg w + 4) (windowReg w + 4) v =
      (indWrite (spendShadow s m .indirect) (windowReg w + 4) v, false) := by
  obtain ⟨-, -, -, -, listed, -⟩ := window_facts _ (windowReg_mem w)
  have shut : shutOut (spendShadow s m .indirect) m = false := free
  have full : ¬ BitVec.allOnes 32 = (0 : Word) := by decide
  simp only [writeReg, shut, Bool.and_false, Bool.false_eq_true, if_false, listed, h.passes_window (windowReg_mem w), Bool.not_true,
    Bool.false_and, full, window_data w, if_true]

/-- The fuse shadow lies behind its target (R80). -/
theorem indRead_fuse {w : Bool} (target : s.fld (windowReg w) 24 7 = 0x20) : indRead s (windowReg w + 4) =
    (indStep s (windowReg w + 4), w32 (fuseRead s.boot.shadow (s.fld (windowReg w) 0 24 / 4 * 4))) := by
  have place : farPlace (s.fld (windowReg w) 24 7) = .fuse := by rw [target]; rfl
  rw [indRead, indTarget_window, place]
  simp [farPresent, farRead, farNamed]

theorem indRead_reserved {w : Bool} (target : s.fld (windowReg w) 24 7 = 0x21) : indRead s (windowReg w + 4) =
    (indStep (indBad s (windowReg w + 4)) (windowReg w + 4), 0) := by
  have place : farPlace (s.fld (windowReg w) 24 7) = .reserved := by rw [target]; rfl
  rw [indRead, indTarget_window, place]
  rfl

/-- IND_DATA reads the fuse shadow (R80). -/
theorem indDataRead_fuse {w : Bool} (h : CwReach s m (windowReg w + 4)) (free : shutOut s m = false) (idle : s.reg.stalled = [])
    (target : s.fld (windowReg w) 24 7 = 0x20) (awake : s.domLit 1 = true) :
    ∃ t, exec (.indDataRead m w) s = .next t ∧
      t.cwData = BitVec.ofNat 64 (fuseRead s.boot.shadow (s.fld (windowReg w) 0 24 / 4 * 4) % 2 ^ 32) ∧
      t.fld (windowReg w) 0 24 = (s.fld (windowReg w) 0 24 + if s.bit (windowReg w) 31 then 4 else 0) % 2 ^ 24 ∧
      t.fld (windowReg w) 24 8 = s.fld (windowReg w) 24 8 ∧ (∀ x, x ≠ windowReg w → t.rd x = s.rd x) ∧
      t = { s with cwData := t.cwData, reg := t.reg } := by
  have place : farPlace (s.fld (windowReg w) 24 7) = .fuse := by rw [target]; rfl
  have near : indDomain s ⟨m, usedOff s m (windowReg w + 4), 4, false, 0, .bus⟩ (windowReg w + 4) = none :=
    indDomain_near _ _ _ (by cases w <;> decide) (Or.inr (by rw [indTarget_window, place]; exact awake))
  have read := h.cwRead_window (windowReg_mem w) (by rw [free, Bool.and_false]) idle near
  rw [h.readReg_data free, indRead_fuse (s := spendShadow s m .indirect) target] at read
  obtain ⟨offset, kept, regs, file⟩ := indStep_stepped (spendShadow s m .indirect) (windowReg w)
  generalize indStep (spendShadow s m .indirect) (windowReg w + 4) = u at offset kept regs file read
  refine ⟨_, congrArg Host.Outcome.next read, ?_, offset, kept, regs, ?_⟩
  · apply BitVec.eq_of_toNat_eq
    simp [w32, Nat.mod_eq_of_lt (Nat.lt_trans (Nat.mod_lt _ (by decide : 0 < 4294967296)) (by decide : 4294967296 < 18446744073709551616))]
    rfl
  · rw [file.frame]
    rfl

/-- A reserved target reads zero and sets BAD_TARGET (R80). -/
theorem indDataRead_reserved {w : Bool} (h : CwReach s m (windowReg w + 4)) (free : shutOut s m = false) (idle : s.reg.stalled = [])
    (target : s.fld (windowReg w) 24 7 = 0x21) : ∃ t, exec (.indDataRead m w) s = .next t ∧ t.cwData = 0 ∧
      t.bit (windowReg w + 8) 0 = true ∧ t = { s with cwData := 0, reg := t.reg } := by
  have place : farPlace (s.fld (windowReg w) 24 7) = .reserved := by rw [target]; rfl
  have near : indDomain s ⟨m, usedOff s m (windowReg w + 4), 4, false, 0, .bus⟩ (windowReg w + 4) = none :=
    indDomain_near _ _ _ (by cases w <;> decide) (Or.inl (by rw [indTarget_window, place]))
  have read := h.cwRead_window (windowReg_mem w) (by rw [free, Bool.and_false]) idle near
  rw [h.readReg_data free, indRead_reserved (s := spendShadow s m .indirect) target] at read
  have bad : OnlyFile (spendShadow s m .indirect) (indBad (spendShadow s m .indirect) (windowReg w + 4)) := onlyFile_setFld ..
  have set : (indBad (spendShadow s m .indirect) (windowReg w + 4)).bit (windowReg w + 8) 0 = true :=
    (State.bit_setFld _ (windowReg w + 8) 0 1 1 (by decide)).trans rfl
  obtain ⟨-, -, regs, file⟩ := indStep_stepped (indBad (spendShadow s m .indirect) (windowReg w + 4)) (windowReg w)
  have file := bad.trans file
  generalize indStep (indBad (spendShadow s m .indirect) (windowReg w + 4)) (windowReg w + 4) = u at regs file read
  refine ⟨_, congrArg Host.Outcome.next read, rfl, ?_, ?_⟩
  · exact (congrArg (·.getLsbD 0) (regs _ (by omega))).trans set
  · rw [file.frame]
    rfl

/-! ## The way quench register of a slice (R245) -/

/-- From s to t slice i alone differs, and its retired and retiring ways do not. -/
structure Walked (i : Nat) (s t : State) : Prop where
  retired : (t.slice i).retired = (s.slice i).retired
  retiring : (t.slice i).retiring = (s.slice i).retiring
  others : ∀ j, j ≠ i → t.slice j = s.slice j
  rest : t = { s with slices := t.slices }

theorem Walked.refl (i : Nat) (s : State) : Walked i s s := ⟨rfl, rfl, fun _ _ => rfl, rfl⟩

theorem Walked.trans {i : Nat} (h : Walked i s t) (h' : Walked i t u) : Walked i s u where
  retired := h'.retired.trans h.retired
  retiring := h'.retiring.trans h.retiring
  others j hj := (h'.others j hj).trans (h.others j hj)
  rest := by rw [h'.rest, h.rest]

theorem walked_modSlice (s : State) (i : Nat) (f : Slice → Slice) (retired : (f (s.slice i)).retired = (s.slice i).retired)
    (retiring : (f (s.slice i)).retiring = (s.slice i).retiring) : Walked i s (s.modSlice i f) where
  retired := by rw [State.slice_modSlice_same, retired]
  retiring := by rw [State.slice_modSlice_same, retiring]
  others _ hj := State.slice_modSlice_other s f hj
  rest := rfl

theorem quenchBit_walked (i : Nat) (v : Word) (s : State) (w : Nat) : Walked i s (quenchBit i v s w) := by
  unfold quenchBit
  dsimp only
  split
  · exact .refl i s
  · split
    · refine walked_modSlice s i _ ?_ ?_
      · split <;> rfl
      · split <;> rfl
    · split
      · exact walked_modSlice s i _ rfl rfl
      · exact .refl i s

theorem quenchBits_walked (i : Nat) (v : Word) (ws : List Nat) (s : State) : Walked i s (ws.foldl (quenchBit i v) s) := by
  induction ws generalizing s with
  | nil => exact .refl i s
  | cons w ws ih => exact (quenchBit_walked i v s w).trans (ih _)

/-- WAYQ_CTL of slice i has been written with v (R245). -/
structure Quenched (i : Nat) (v : Word) (s t : State) : Prop where
  reads : wayqRead t i = (v &&& 0xFFFF) ||| ((s.slice i).retired.setWidth 32) ||| ((s.slice i).retiring.setWidth 32)
  others : ∀ j, j ≠ i → t.slice j = s.slice j
  regs : ∀ x, t.rd x = s.rd x
  rest : t = { s with reg := t.reg, slices := t.slices }

theorem wayqWrite_quenched (s : State) (i : Nat) (v : Word) : Quenched i v s (wayqWrite s i v) := by
  have walked := quenchBits_walked i (v &&& 0xFFFF) (List.range 16) { s with reg := { s.reg with
    wayq := sset wordD s.reg.wayq i (v &&& 0xFFFF ||| ((s.slice i).retired.setWidth 32)) } }
  rw [wayqWrite]
  dsimp only
  generalize (List.range 16).foldl (quenchBit i (v &&& 0xFFFF)) _ = t at walked ⊢
  obtain ⟨retired, retiring, others, rest⟩ := walked
  refine ⟨?_, others, fun x => ?_, ?_⟩
  · have reg : t.reg.wayq = sset wordD s.reg.wayq i (v &&& 0xFFFF ||| ((s.slice i).retired.setWidth 32)) := by rw [rest]
    rw [wayqRead, reg, sget_sset_same, retired, retiring]
    exact congrArg (· ||| _) ((BitVec.or_assoc ..).trans (congrArg (_ ||| ·) BitVec.or_self))
  · rw [rest]
    rfl
  · rw [rest]

/-- The far write of WAYQ_CTL keeps the KEEP bits beside it (R57, R80). -/
theorem farWrite_wayq (s : State) (i : Nat) (v : Word) : Quenched i v s (farWrite s (.wayq i) 0 v) := by
  rw [farWrite, show farNamed (.wayq i) 0 = some 0xFFFF from rfl]
  dsimp only
  rw [if_pos rfl]
  split
  · obtain ⟨reads, others, regs, rest⟩ := wayqWrite_quenched { s with reg := { s.reg with
      farKeep := sset wordD s.reg.farKeep (farKey (.wayq i) 0) (v &&& ~~~ 0xFFFF) } } i v
    exact ⟨reads, others, regs, by rw [rest]⟩
  · exact wayqWrite_quenched s i v

theorem farPlace_wayq {i : Nat} (hi : i < nSlices) : farPlace (0x30 + i) = .wayq i := by
  have : i < 16 := hi
  rw [farPlace, if_neg (by omega), if_neg (by omega), if_neg (by omega), if_pos (by omega), Nat.add_sub_cancel_left]

theorem indWrite_wayq {w : Bool} {i : Nat} (hi : i < nSlices) (v : Word) (target : s.fld (windowReg w) 24 7 = 0x30 + i)
    (first : s.fld (windowReg w) 0 24 < 4) (present : s.slicePresent i = true) (booted : 5 < s.boot.step) :
    indWrite s (windowReg w + 4) v = indStep (farWrite s (.wayq i) 0 v) (windowReg w + 4) := by
  have place := farPlace_wayq hi
  rw [← target] at place
  rw [indWrite, indTarget_window, place]
  simp [farPresent, present, booted, Nat.div_eq_of_lt first]

/-- IND_DATA writes the way quench register of a slice (R80, R245). -/
theorem indDataWrite_wayq {w : Bool} {i : Nat} (hi : i < nSlices) (v : Word) (h : CwReach s m (windowReg w + 4))
    (free : shutOut s m = false) (idle : s.reg.stalled = []) (target : s.fld (windowReg w) 24 7 = 0x30 + i)
    (first : s.fld (windowReg w) 0 24 < 4) (present : s.slicePresent i = true) (booted : 5 < s.boot.step)
    (awake : s.domLit (20 + i) = true) :
    ∃ t, exec (.indDataWrite m w v) s = .next t ∧
      wayqRead t i = (v &&& 0xFFFF) ||| ((s.slice i).retired.setWidth 32) ||| ((s.slice i).retiring.setWidth 32) ∧
      t.fld (windowReg w) 0 24 = s.fld (windowReg w) 0 24 + (if s.bit (windowReg w) 31 then 4 else 0) ∧
      (∀ x, x ≠ windowReg w → t.rd x = s.rd x) ∧ (∀ j, j ≠ i → t.slice j = s.slice j) ∧
      t = { s with reg := t.reg, slices := t.slices } := by
  have near : indDomain s ⟨m, usedOff s m (windowReg w + 4), 4, true, BitVec.ofNat 64 v.toNat, .bus⟩ (windowReg w + 4) = none :=
    indDomain_near _ _ _ (by cases w <;> decide) (Or.inr (by rw [indTarget_window, target, farPlace_wayq hi]; exact awake))
  have write := h.writeNative_window (windowReg_mem w) (by rw [free, Bool.and_false]) idle v near
  rw [h.writeReg_data free, indWrite_wayq (s := spendShadow s m .indirect) hi v target first present booted] at write
  obtain ⟨reads, others, same, rest⟩ := farWrite_wayq (spendShadow s m .indirect) i v
  obtain ⟨offset, -, regs, file⟩ := indStep_stepped (farWrite (spendShadow s m .indirect) (.wayq i) 0 v) (windowReg w)
  generalize farWrite (spendShadow s m .indirect) (.wayq i) 0 v = u at reads others same rest offset regs file write
  generalize indStep u (windowReg w + 4) = t at offset regs file write
  have slices (j : Nat) : t.slice j = u.slice j := by rw [State.slice, State.slice, file.slices]
  refine ⟨t, congrArg Host.Outcome.next write, ?_, ?_, fun x hx => (regs x hx).trans (same x),
    fun j hj => (slices j).trans (others j hj), ?_⟩
  · exact Eq.trans (by rw [wayqRead, wayqRead, file.wayq, slices]) reads
  · have bound : u.fld (windowReg w) 0 24 = s.fld (windowReg w) 0 24 := congrArg (wfld · 0 24) (same _)
    have step : u.bit (windowReg w) 31 = s.bit (windowReg w) 31 := congrArg (·.getLsbD 31) (same _)
    rw [offset, bound, step, Nat.mod_eq_of_lt]
    split <;> omega
  · rw [file.frame, rest]
    rfl

/-! ## The claim of window 1 (R83) -/

/-- The value that IND_CLAIM1 reads for a claim of an agent, its reader's own or not. -/
def claimValue (a : AgentId) (own : Bool) : Nat := 2 ^ 16 * a.toNat + 2 ^ 27 + b2n own

theorem claimValue_testBit {a : AgentId} {own : Bool} {i : Nat} (h : (claimValue a own).testBit i = true) :
    (0x0FFF0001 : Nat).testBit i = true := by
  have small : b2n own < 2 ^ 16 := by cases own <;> decide
  have bound : 2 ^ 11 + a.toNat < 2 ^ 12 := by have := a.isLt; omega
  rw [show claimValue a own = 2 ^ 16 * (2 ^ 11 + a.toNat) + b2n own by unfold claimValue; omega,
    Nat.testBit_two_pow_mul_add _ small] at h
  rw [show 0x0FFF0001 = 2 ^ 16 * (2 ^ 12 - 1) + 1 by decide, Nat.testBit_two_pow_mul_add _ (by decide)]
  split at h
  · rename_i low
    rw [if_pos low]
    cases own
    · exact absurd h (by rw [b2n, if_neg Bool.false_ne_true, Nat.zero_testBit]; decide)
    · exact h
  · rename_i high
    rw [if_neg high, Nat.testBit_two_pow_sub_one, decide_eq_true]
    exact Nat.lt_of_not_le fun le => absurd h (by rw [Nat.testBit_lt_two_pow (Nat.lt_of_lt_of_le bound (Nat.pow_le_pow_right (by decide) le))]; decide)

/-- What IND_CLAIM1 reads where an agent holds the claim: the named bits show it. -/
def claimShown (s : State) (a : AgentId) (own : Bool) : Word := w32 (claimValue a own) ||| (s.rd 0x4001C &&& ~~~ namedMask 0x4001C)

theorem claimShown_named (s : State) (a : AgentId) (own : Bool) :
    ((claimShown s a own).setWidth 64 : DWord) &&& 0x0FFF0001 = BitVec.ofNat 64 (claimValue a own) := by
  have named : namedMask 0x4001C = w32 0x0FFF0001 := by decide
  apply BitVec.eq_of_getLsbD_eq
  intro i hi
  rw [claimShown, named, BitVec.getLsbD_and, BitVec.getLsbD_setWidth, decide_eq_true hi, Bool.true_and, BitVec.getLsbD_ofNat, decide_eq_true hi,
    Bool.true_and, show (0x0FFF0001 : DWord) = BitVec.ofNat 64 0x0FFF0001 from rfl, BitVec.getLsbD_ofNat, decide_eq_true hi, Bool.true_and]
  cases bit : (0x0FFF0001 : Nat).testBit i
  · rw [Bool.and_false]
    exact (Bool.eq_false_iff.2 fun set => Bool.false_ne_true (bit.symm.trans (claimValue_testBit set))).symm
  · have lt : i < 32 := Nat.lt_of_not_le fun le =>
      absurd bit (by rw [Nat.testBit_lt_two_pow (Nat.lt_of_lt_of_le (by decide : 0x0FFF0001 < 2 ^ 32) (Nat.pow_le_pow_right (by decide) le))]; decide)
    rw [BitVec.getLsbD_or, BitVec.getLsbD_and, getLsbD_not lt, getLsbD_w32 _ lt, getLsbD_w32 _ lt, bit, Bool.not_true, Bool.and_false,
      Bool.or_false, Bool.and_true]

theorem claimRead_held {a o : AgentId} {p : Bool} (held : s.reg.claim = .agent o) :
    claimRead s (.agent a p) = (s, claimShown s o (o == a)) := by
  unfold claimRead holdsClaim claimShown claimValue
  simp only [held]

/-- The claim goes to the agent that reads it free. -/
theorem claimRead_free {a : AgentId} {p : Bool} (free : s.reg.claim = .none) :
    claimRead s (.agent a p) = claimRead { s with reg := { s.reg with claim := .agent a } } (.agent a p) := by
  unfold claimRead
  simp only [free]

theorem claimReg_mem : indReg 0x1C ∈ windowOffs := by decide

/-- IND_CLAIM1 is no IND_DATA. -/
theorem indDomain_claim (s : State) (o : Nat) (w : Bool) (d : DWord) : indDomain s ⟨m, o, 4, w, d, .bus⟩ (indReg 0x1C) = none := by
  unfold indDomain
  rw [touchedData_aligned _ _ _ _ (by decide)]
  exact if_neg fun h => absurd h.1 (by decide)

/-- IND_CLAIM1 lies beyond the registers that the claim shuts (R83). -/
theorem claimReg_open (s : State) (m : Master) : (inWindow1 (indReg 0x1C) && shutOut s m) = false := rfl

theorem CwReach.indClaimRead (h : CwReach s m (indReg 0x1C)) (idle : s.reg.stalled = []) :
    exec (.indClaimRead m) s = .next { (claimRead (spendShadow s m .indirect) m).1 with
      cwData := (claimRead (spendShadow s m .indirect) m).2.setWidth 64 } := by
  have read := h.cwRead_window claimReg_mem (claimReg_open s m) idle (indDomain_claim ..)
  have at_ : indReg 0x1C = 0x4001C := rfl
  rw [readReg, claimReg_open, if_neg Bool.false_ne_true, if_neg (by decide), if_pos at_, h.passes_window claimReg_mem, if_pos rfl] at read
  exact congrArg Host.Outcome.next read

/-- A held claim is read. -/
theorem indClaimRead_held {a o : AgentId} {p : Bool} (h : CwReach s (.agent a p) (indReg 0x1C)) (idle : s.reg.stalled = [])
    (held : s.reg.claim = .agent o) : ∃ u, exec (.indClaimRead (.agent a p)) s = .next u ∧
      u.reg.claim = .agent o ∧ u.cwData &&& 0x0FFF0001 = BitVec.ofNat 64 (claimValue o (o == a)) := by
  have read := h.indClaimRead idle
  rw [claimRead_held (s := spendShadow s (.agent a p) .indirect) held] at read
  exact ⟨_, read, held, claimShown_named ..⟩

/-- The state in which agent a has taken the claim. -/
def claimedBy (s : State) (m : Master) (a : AgentId) : State :=
  { spendShadow s m .indirect with reg := { (spendShadow s m .indirect).reg with claim := .agent a } }

theorem claimedBy_claim (s : State) (m : Master) (a : AgentId) : (claimedBy s m a).reg.claim = .agent a := rfl
theorem claimedBy_stalled (s : State) (m : Master) (a : AgentId) : (claimedBy s m a).reg.stalled = s.reg.stalled := rfl
theorem claimedBy_rd (s : State) (m : Master) (a : AgentId) (x : Nat) : (claimedBy s m a).rd x = s.rd x := rfl
theorem claimedBy_frame (s : State) (m : Master) (a : AgentId) : claimedBy s m a = { s with reg := (claimedBy s m a).reg } := rfl

/-- What an agent finds that reads the free claim. -/
theorem CwReach.indClaimRead_takes {a : AgentId} {p : Bool} (h : CwReach s (.agent a p) (indReg 0x1C)) (idle : s.reg.stalled = [])
    (free : s.reg.claim = .none) : exec (.indClaimRead (.agent a p)) s = .next { claimedBy s (.agent a p) a with
      cwData := (claimShown (claimedBy s (.agent a p) a) a (a == a)).setWidth 64 } := by
  have taken : claimRead (spendShadow s (.agent a p) .indirect) (.agent a p) = claimRead (claimedBy s (.agent a p) a) (.agent a p) :=
    claimRead_free free
  rw [h.indClaimRead idle, taken, claimRead_held (claimedBy_claim ..)]

/-- Agent a has taken the claim by reading it (R83). -/
structure Claimed (s t : State) (a : AgentId) : Prop where
  owner : t.reg.claim = .agent a
  shown : t.cwData &&& 0x0FFF0001 = BitVec.ofNat 64 (claimValue a (a == a))
  regs : ∀ x, t.rd x = s.rd x
  rest : t = { s with cwData := t.cwData, reg := t.reg }
  stalled : t.reg.stalled = s.reg.stalled

theorem claimed_of_word {a : AgentId} {word : DWord} (owner : u.reg.claim = .agent a)
    (shown : word &&& 0x0FFF0001 = BitVec.ofNat 64 (claimValue a (a == a))) (regs : ∀ x, u.rd x = s.rd x) (frame : u = { s with reg := u.reg })
    (stalled : u.reg.stalled = s.reg.stalled) : Claimed s { u with cwData := word } a :=
  ⟨owner, shown, regs, by rw [frame], stalled⟩

/-- The free claim goes to the agent that reads it (R83). -/
theorem indClaimRead_free {a : AgentId} {p : Bool} (h : CwReach s (.agent a p) (indReg 0x1C)) (idle : s.reg.stalled = [])
    (free : s.reg.claim = .none) : ∃ t, exec (.indClaimRead (.agent a p)) s = .next t ∧ Claimed s t a :=
  ⟨_, h.indClaimRead_takes idle free, claimed_of_word (claimedBy_claim ..) (claimShown_named ..) (claimedBy_rd s (.agent a p) a)
    (claimedBy_frame ..) (claimedBy_stalled ..)⟩

theorem holdsClaim_congr (h : t.reg.claim = s.reg.claim) (m : Master) : holdsClaim t m = holdsClaim s m := by
  unfold holdsClaim
  rw [h]

theorem claimWrite_eq (holds : holdsClaim s m = true) : ∃ v, claimWrite s m 0 =
    { s.wr (indReg 0x1C) v with reg := { (s.wr (indReg 0x1C) v).reg with claim := .none } } := by
  have held (v : Word) : (holdsClaim (s.wr (indReg 0x1C) v) m || masterSecure m) = true := by
    rw [holdsClaim_congr (onlyFile_wr s (indReg 0x1C) v).claim, holds, Bool.true_or]
  exact ⟨_, if_pos ⟨BitVec.getLsbD_zero, held _⟩⟩

/-- The holder's 0 releases the claim; KEEP bits may change beside it (R57, R83). -/
theorem claimWrite_releases (holds : holdsClaim s m = true) : (claimWrite s m 0).reg.claim = .none ∧
    (∀ x, x ≠ indReg 0x1C → (claimWrite s m 0).rd x = s.rd x) ∧ claimWrite s m 0 = { s with reg := (claimWrite s m 0).reg } := by
  obtain ⟨v, written⟩ := claimWrite_eq holds
  have file := onlyFile_wr s (indReg 0x1C) v
  have regs (x : Nat) (hx : x ≠ indReg 0x1C) : (s.wr (indReg 0x1C) v).rd x = s.rd x := State.rd_wr_other s v hx
  rw [written]
  generalize s.wr (indReg 0x1C) v = u at file regs ⊢
  refine ⟨rfl, regs, ?_⟩
  rw [file.frame]

/-- The holder's 0 releases the claim (R83). -/
theorem indClaimRelease_held (h : CwReach s m (indReg 0x1C)) (idle : s.reg.stalled = []) (holds : holdsClaim s m = true) :
    ∃ t, exec (.indClaimRelease m) s = .next t ∧ t.reg.claim = .none ∧ (∀ x, x ≠ indReg 0x1C → t.rd x = s.rd x) ∧
      t = { s with reg := t.reg } := by
  have write := h.writeNative_window claimReg_mem (claimReg_open s m) idle 0 (indDomain_claim ..)
  have full : ¬ BitVec.allOnes 32 = (0 : Word) := by decide
  have written : writeReg (spendShadow s m .indirect) m (indReg 0x1C) (indReg 0x1C) 0 = (claimWrite (spendShadow s m .indirect) m 0, false) := by
    obtain ⟨-, -, -, -, listed, -⟩ := window_facts _ claimReg_mem
    have data : ¬ (indReg 0x1C = 0x40004 ∨ indReg 0x1C = 0x40014) := by decide
    have claim : (indReg 0x1C = 0x4001C) = True := eq_true rfl
    simp only [writeReg, claimReg_open, Bool.false_eq_true, if_false, listed, h.passes_window claimReg_mem, Bool.not_true,
      Bool.false_and, full, data, claim, if_true]
  rw [written] at write
  obtain ⟨released, regs, frame⟩ := claimWrite_releases (s := spendShadow s m .indirect) holds
  generalize claimWrite (spendShadow s m .indirect) m 0 = t at released regs frame write
  exact ⟨t, congrArg Host.Outcome.next write, released, regs, by rw [frame]; rfl⟩

end Sys2Proof.Machine

open Sys2Proof Sys2Proof.Machine

/-- Settles O20: an access to IND_DATA or IND_CLAIM1 that reaches it acts on what its window names, and on that alone. -/
theorem indirectWindowReachesFarRegisters : Obligations.IndirectWindowReachesFarRegisters := by
  intro s m w idle claim
  have free := shutOut_eq_false claim
  refine ⟨fun h => ⟨fun target awake => indDataRead_fuse h free idle target awake,
    fun i v hi target first present booted awake => indDataWrite_wayq hi v h free idle target first present booted awake,
    fun target => indDataRead_reserved h free idle target⟩, fun h => ⟨fun a p agent unclaimed => ?_, fun holds =>
    indClaimRelease_held h idle holds⟩⟩
  subst agent
  obtain ⟨t, read, ⟨held, shown, regs, frame, stalled⟩⟩ := indClaimRead_free h idle unclaimed
  refine ⟨t, read, held, ?_, regs, frame, fun b other reach => ?_⟩
  · rw [shown, beq_self_eq_true, claimValue, Nat.add_comm, Nat.add_assoc]
    rfl
  · obtain ⟨u, again, still, seen⟩ := indClaimRead_held reach (stalled.trans idle) held
    refine ⟨u, again, still, seen.trans ?_⟩
    rw [beq_false_of_ne other.symm]
    rfl
end

section
/-! PROOF. The management port (R84, R85). -/
namespace Sys2Proof.Machine
open Config

variable {s t u : State} {m : Master} {off : Nat}

/-! ## Bytes of a number (R21) -/

theorem ofBytesLE_bytesLE (n v : Nat) : ofBytesLE (bytesLE n v) = v % 2 ^ (8 * n) := by
  induction n generalizing v with
  | zero => simp [bytesLE, ofBytesLE, Nat.mod_one]
  | succ n ih =>
    rw [bytesLE, ofBytesLE, ih, BitVec.toNat_ofNat, Nat.mul_succ, Nat.pow_add, Nat.mul_comm (2 ^ (8 * n)), Nat.mod_mul]

theorem length_bytesLE (n v : Nat) : (bytesLE n v).length = n := by
  induction n generalizing v with
  | zero => rfl
  | succ n ih => rw [bytesLE, List.length_cons, ih]

/-- The low bytes of a number are those of its low part. -/
theorem bytesLE_mod (n v : Nat) : bytesLE n (v % 2 ^ (8 * n)) = bytesLE n v := by
  induction n generalizing v with
  | zero => rfl
  | succ n ih =>
    have low : BitVec.ofNat 8 (v % (256 * 2 ^ (8 * n))) = BitVec.ofNat 8 v := by
      apply BitVec.eq_of_toNat_eq
      rw [BitVec.toNat_ofNat, BitVec.toNat_ofNat]
      exact Nat.mod_mul_right_mod v 256 _
    rw [Nat.mul_succ, Nat.pow_add, Nat.mul_comm, bytesLE, bytesLE, low, Nat.mod_mul_right_div_self, ih]

/-! ## The identity (R84) -/

theorem provisionalId_lt (s : State) : provisionalId s < 2 ^ (8 * 6) := by
  have dev := s.boot.shadow.devId.isLt
  have serial := Nat.mod_lt s.boot.shadow.serial.toNat (Nat.two_pow_pos 16)
  unfold provisionalId
  omega

theorem entdaaBytes_identity (s : State) : ofBytesLE ((entdaaBytes s).take 6).reverse = provisionalId s := by
  have bytes : (entdaaBytes s).take 6 = (bytesLE 6 (provisionalId s)).reverse := by
    rw [entdaaBytes, List.take_append_of_le_length (by rw [List.length_reverse, length_bytesLE])]
    exact List.take_of_length_le (by rw [List.length_reverse, length_bytesLE])
  rw [bytes, List.reverse_reverse, ofBytesLE_bytesLE, Nat.mod_eq_of_lt (provisionalId_lt s)]

/-! ## The pointer (R85) -/

theorem setPointer_sets {b : List Byte} {ptr : Word} (ready : mgmtReady s = true) (four : b.length = 4) (value : ofBytesLE b = ptr.toNat) :
    exec (.mgmtSetPointer b) s = .next (setPtr s ptr) := by
  have word : BitVec.ofNat 32 (ofBytesLE (b.take 4)) = ptr := by
    rw [List.take_of_length_le (Nat.le_of_eq four), value, BitVec.ofNat_toNat, BitVec.setWidth_eq]
  refine congrArg Host.Outcome.next ?_
  simp [mgmtPrivateWrite, ready, four, word]

/-- The pointer names the register at an offset. -/
theorem pointer_offset {ptr : Word} {o : Nat} (h : ptr.toNat % 2 ^ 31 = o) (small : o < 2 ^ 26) :
    wfld ptr 0 26 = o ∧ wfld ptr 26 5 = 0 := by
  simp only [wfld, bitsOf, Nat.pow_zero, Nat.div_one]
  omega

theorem CwReach.setPtr (h : CwReach s m off) (ptr : Word) : CwReach (setPtr s ptr) m off :=
  ⟨h.running, ⟨h.votes.copies, h.votes.locks, h.votes.fuses⟩, h.place, h.served, h.awake, h.allowed, h.noHeld⟩

theorem passes_mgmt (off : Nat) : passes .mgmt off = true := by
  unfold passes
  split
  · rfl
  · rfl

/-- A field of one bit. -/
theorem bit_of_fld {x : DWord} {i : Nat} (h : t.fld off i 1 = x.toNat / 2 ^ i % 2 ^ 1) : t.bit off i = x.getLsbD i := by
  rw [State.bit, ← BitVec.testBit_toNat, ← BitVec.testBit_toNat, Nat.testBit_eq_decide_div_mod_eq, Nat.testBit_eq_decide_div_mod_eq]
  have bits : (t.rd off).toNat / 2 ^ i % 2 = x.toNat / 2 ^ i % 2 := h
  rw [bits]

theorem usedOff_mgmt (s : State) (off : Nat) : usedOff s .mgmt off = off ∨ usedOff s .mgmt off = off + 0x2000000 := by
  unfold usedOff
  split
  · exact Or.inr rfl
  · exact Or.inl rfl

/-- A write of the port reaches the register that its pointer names. -/
theorem mgmtWrite_reaches {ptr : Word} {n : Nat} (ready : mgmtReady s = true) (ptrAt : ptr.toNat % 2 ^ 31 = usedOff s .mgmt off)
    (small : off < 0x2000000) (aligned : off % n = 0) (size : n = 4 ∨ n = 8) (data : DWord) :
    mgmtWrite s ptr n data = cwWrite (setPtr s ptr) .mgmt (usedOff (setPtr s ptr) .mgmt off) n data := by
  have used := usedOff_mgmt s off
  obtain ⟨place, high⟩ := pointer_offset ptrAt (by omega)
  have ok : ptrOk ptr n = true := by
    rw [ptrOk, place, high]
    simp only [beq_self_eq_true, Bool.true_and, beq_iff_eq]
    rcases used with used | used <;> rcases size with rfl | rfl <;> omega
  rw [mgmtWrite, if_pos ready, ok, if_pos rfl, place]
  rfl

/-! ## The registers of a route (R172) -/

theorem directory_rel (rel : Nat) : dirReg rel - Block.directory.base = rel := Nat.add_sub_cancel_left ..

theorem regFields_routeHead {n : Nat} (hn : n < 16) : regFields (dirReg (0x1000 + 0x10 * n)) =
    [⟨"VALID", 0, 1, .rw, true, true, .cfg, 0⟩, ⟨"PORT", 4, 4, .rw, true, true, .cfg, 0⟩] := by
  have eq : dirReg (0x1000 + 0x10 * n) = 0x300000 + (0x1000 + 0x10 * n) := rfl
  rw [regFields, blockAt_directory (by omega) (by omega), directory_rel]
  simp only [blockFields, directoryFields, if_neg (by omega : ¬ 0x1000 + 0x10 * n = 0xFFF8), if_neg (by omega : ¬ 0x1000 + 0x10 * n = 0xFFFC),
    if_neg (by omega : ¬ (0x100 ≤ 0x1000 + 0x10 * n ∧ 0x1000 + 0x10 * n < 0x140)),
    if_neg (by omega : ¬ (0x180 ≤ 0x1000 + 0x10 * n ∧ 0x1000 + 0x10 * n < 0x1c0)),
    if_neg (by omega : ¬ (0x200 ≤ 0x1000 + 0x10 * n ∧ 0x1000 + 0x10 * n < 0x240)),
    if_neg (by omega : ¬ (0x300 ≤ 0x1000 + 0x10 * n ∧ 0x1000 + 0x10 * n < 0x340)),
    if_pos (by omega : 0x1000 ≤ 0x1000 + 0x10 * n ∧ 0x1000 + 0x10 * n < 0x1100),
    show (0x1000 + 0x10 * n - 0x1000) % 0x10 = 0 by omega]

/-- A register of the directory beyond its first starts nothing. -/
theorem inert_directory {rel : Nat} (lo : 0 < rel) (hi : rel < 0x10000) (aligned : rel % 4 = 0)
    (listed : (regFields (dirReg rel)).isEmpty = false) (unlocked : ((regFields (dirReg rel)).any fun f => f.ty == .w1l) = false)
    (small : maskOf (regFields (dirReg rel)) (fun _ => true) < 2 ^ 32) : Inert (dirReg rel) := by
  have eq : dirReg rel = 0x300000 + rel := rfl
  have block : blockAt (dirReg rel) = .directory := blockAt_directory (by omega) (by omega)
  have away : rel ≠ 0 := by omega
  refine { apart := Or.inr (by omega), aligned := by omega, single := by rw [pairLow, block], listed, unlocked,
           noDoorbell := fun n => by rw [block]; exact Block.noConfusion, noCounter := fun h => ?_, filter := fun t m v => ?_,
           starts := fun t m old v => ?_, keeps := by rw [selfClear, block], whole := fun t => by rw [wholeValue, block], small := ?_ }
  · rw [block] at h; exact Block.noConfusion h.1
  · simp only [filterWrite, block, directory_rel, away, false_and, if_false]
  · simp only [startWrite, block]
  · rw [zeroBits, block, Nat.or_zero]
    exact small

theorem inert_routeHead {n : Nat} (hn : n < 16) : Inert (dirReg (0x1000 + 0x10 * n)) := by
  refine inert_directory (by omega) (by omega) (by omega) ?_ ?_ ?_
  · rw [regFields_routeHead hn]; decide
  · rw [regFields_routeHead hn]; decide
  · rw [regFields_routeHead hn]; decide

theorem allRw_routeHead {n : Nat} (hn : n < 16) : AllRw (dirReg (0x1000 + 0x10 * n)) := by
  rw [AllRw, regFields_routeHead hn]
  decide

/-! ## Writes of the port (R85) -/

/-- An RW field holds its part of the value written. -/
theorem fld_written (hr : Inert off) (rw : AllRw off) {v : Word} {x : Nat} (value : t.rd off = writtenValue s off v (BitVec.allOnes 32))
    (bits : ∀ i < 32, v.getLsbD i = x.testBit i) {f : Field} (hf : f ∈ regFields off) :
    t.fld off f.lo f.width = x / 2 ^ f.lo % 2 ^ f.width := by
  refine fld_congr_bits fun i lo hi => ?_
  have within := (rw f hf).2
  rw [State.bit, value, writtenValue_allRw hr rw _ hf lo hi, bits i (by omega)]

theorem writeReg_inert (hr : Inert off) (votes : Agree s) (ha : passes m off = true ∨ guardMask off = 0) (acc : Nat) (v : Word) :
    writeReg s m acc off v = (s.wr off (writtenValue s off v (BitVec.allOnes 32)), false) := by
  rw [writeReg_plain hr.toDirect hr.listed hr.unlocked hr.noCounter votes ha (hr.filter s m v), hr.starts]

/-- From s to t the two registers at off have taken a value of 8 bytes, and nothing else differs. -/
structure PairStored (s t : State) (off : Nat) (v : DWord) : Prop where
  low : ∀ f ∈ regFields off, t.fld off f.lo f.width = v.toNat / 2 ^ f.lo % 2 ^ f.width
  high : ∀ f ∈ regFields (off + 4), t.fld (off + 4) f.lo f.width = v.toNat / 2 ^ 32 / 2 ^ f.lo % 2 ^ f.width
  regs : ∀ x, x ≠ off → x ≠ off + 4 → t.rd x = s.rd x
  rest : t = { s with reg := t.reg }

/-- The two registers of an 8-byte write, one after the other. -/
theorem pairStored_wr {lo hi : Word} {v : DWord} (hr : Inert off) (hr' : Inert (off + 4)) (rw : AllRw off) (rw' : AllRw (off + 4))
    (stored : RegStored s t off) (first : t.rd off = writtenValue u off lo (BitVec.allOnes 32))
    (second : hi = writtenValue t (off + 4) ((v >>> 32).setWidth 32) (BitVec.allOnes 32)) (low : lo = v.setWidth 32) :
    PairStored s (t.wr (off + 4) hi) off v where
  low _ hf := by
    have kept : (t.wr (off + 4) hi).rd off = t.rd off := State.rd_wr_other t hi (by omega)
    refine fld_written hr rw (kept.trans first) (fun i h => ?_) hf
    rw [low, BitVec.getLsbD_setWidth, decide_eq_true h, Bool.true_and, BitVec.testBit_toNat]
  high _ hf := by
    have value : (t.wr (off + 4) hi).rd (off + 4) = writtenValue t (off + 4) ((v >>> 32).setWidth 32) (BitVec.allOnes 32) := by
      rw [State.rd_wr_same, second]
    refine fld_written hr' rw' value (fun i h => ?_) hf
    rw [BitVec.getLsbD_setWidth, decide_eq_true h, Bool.true_and, BitVec.getLsbD_ushiftRight, Nat.testBit_div_two_pow,
      BitVec.testBit_toNat, Nat.add_comm]
  regs x h h' := (State.rd_wr_other t hi h').trans (stored.regs x h)
  rest := by rw [State.wr_frame, stored.rest]

/-- A master that passes writes 8 bytes to two registers that start nothing. -/
theorem CwReach.cwWrite8_inert (h : CwReach s m off) (hr : Inert off) (hr' : Inert (off + 4)) (rw : AllRw off) (rw' : AllRw (off + 4))
    (aligned : off % 8 = 0) (image : blockAt off ≠ .cxImage) (passes' : passes m (off + 4) = true) (v : DWord) :
    PairStored s (cwWrite s m (usedOff s m off) 8 v) off v := by
  have votes := agree_spendShadow (m := m) h.votes (blockAt off)
  have drop : dropHeld (spendShadow s m (blockAt off)) m (blockAt off) = spendShadow s m (blockAt off) := dropHeld_of_none h.noHeld
  have stored := regStored_wr s m (blockAt off) off (writtenValue (spendShadow s m (blockAt off)) off (v.setWidth 32) (BitVec.allOnes 32))
  rw [h.cwWrite8 hr.toDirect aligned image, write8, drop]
  split
  · exact absurd ‹blockAt off = _› (hr.noDoorbell _)
  · rw [writeReg_inert hr votes h.allowed]
    dsimp only
    rw [writeReg_inert hr' (agree_wr votes _ _) (Or.inl passes')]
    simp only [logDenied, Bool.or_self, Bool.false_eq_true, if_false]
    exact pairStored_wr hr hr' rw rw' stored (State.rd_wr_same ..) rfl rfl

/-! ## Private reads (R85) -/

theorem cwAccess_mgmtRead {n : Nat} (h : CwReach s .mgmt off) (hd : Direct off) (size : n = 4 ∨ n = 8) (wide : off % n = 0) (image : blockAt off ≠ .cxImage)
    (clocked : Nat) :
    cwAccess s ⟨.mgmt, usedOff s .mgmt off, n, false, 0, .mgmt n clocked⟩ =
      answer (if n = 8 then read8 s .mgmt off else read4 s .mgmt off).1 ⟨.mgmt, usedOff s .mgmt off, n, false, 0, .mgmt n clocked⟩
        (if n = 8 then read8 s .mgmt off else read4 s .mgmt off).2 := by
  have drop : dropHeld s .mgmt (blockAt off) = s := dropHeld_of_none h.noHeld
  refine (cwAccess_performs h.running h.votes h.place h.served h.awake hd.not_inWindow1 (hd.windowBusy_eq_none s)
    (hd.indDomain_eq_none s _)).trans ?_
  rcases size with rfl | rfl
  · simp [perform, hd.farAbsent_eq_false, wellFormedAccess, hd.aligned, drop]
  · simp [perform, hd.farAbsent_eq_false, wellFormedAccess, wide, image, drop]

theorem serial_facts : ∀ off ∈ [0x10, 0x14], Direct off ∧ blockAt off = .ident ∧ pairLow off = false ∧ pairLow (off - 4) = false ∧
    popsAt off = none ∧ (regFields off).isEmpty = false ∧ maskOf (regFields off) (fun f => f.ty == .wo) = 0 := by
  simp only [List.forall_mem_cons, List.not_mem_nil, false_imp_iff, implies_true, and_true]
  refine ⟨⟨⟨Or.inl (by decide), by decide⟩, ?_⟩, ⟨⟨Or.inl (by decide), by decide⟩, ?_⟩⟩ <;> decide

/-- A word of SERIAL that has nothing stored beside it reads as it is fused (R88). -/
theorem readReg_serial (ho : off ∈ [0x10, 0x14]) (votes : Agree s) (blank : s.rd off = 0) :
    readReg s .mgmt off = (s, w32 (liveIdent s off)) := by
  obtain ⟨hd, block, -, -, -, listed, noWo⟩ := serial_facts off ho
  have whole : wholeValue s off = none := by rw [wholeValue, block]
  have data : ¬ (off = 0x40004 ∨ off = 0x40014) := fun h => h.elim (hd.ne (by decide) (by decide)) (hd.ne (by decide) (by decide))
  have claim : off ≠ 0x4001C := hd.ne (by decide) (by decide)
  have value : regValue s off = w32 (liveIdent s off) := by
    rw [regValue, whole]
    simp only [listed, Bool.false_eq_true, if_false, blank, noWo]
    rw [liveBits, block, (by decide : ~~~ w32 0 = BitVec.allOnes 32), BitVec.and_allOnes]
    exact BitVec.zero_or
  have seenAll (v : Word) : seen .mgmt off v = v := if_pos (passes_mgmt off)
  rw [readReg, hd.not_inWindow1, Bool.false_and, if_neg Bool.false_ne_true, if_neg data, if_neg claim, voteReg_of_agree votes]
  dsimp only
  rw [value, seenAll]

theorem read4_serial (votes : Agree s) (low : s.rd 0x10 = 0) :
    read4 s .mgmt 0x10 = (spendShadow s .mgmt .ident, (w32 (s.boot.shadow.serial.toNat % 2 ^ 32)).setWidth 64) := by
  obtain ⟨-, block, single, noShadow, noPop, -, -⟩ := serial_facts 0x10 (by decide)
  have shadow : heldShadow s .mgmt 0x10 = none := by rw [heldShadow, noShadow]; rfl
  rw [read4, noPop, shadow, block]
  dsimp only
  rw [readReg_serial (s := spendShadow s .mgmt .ident) (by decide) (agree_spendShadow votes _) low, single]
  rfl

theorem read8_serial (votes : Agree s) (low : s.rd 0x10 = 0) (high : s.rd 0x14 = 0) :
    read8 s .mgmt 0x10 = (spendShadow s .mgmt .ident, s.boot.shadow.serial) := by
  obtain ⟨-, block, -, -, noPop, -, -⟩ := serial_facts 0x10 (by decide)
  rw [read8, noPop, block]
  dsimp only
  rw [readReg_serial (s := spendShadow s .mgmt .ident) (by decide) (agree_spendShadow votes _) low]
  dsimp only
  rw [readReg_serial (s := spendShadow s .mgmt .ident) (by decide) (agree_spendShadow votes _) high]
  refine Prod.ext rfl (BitVec.eq_of_toNat_eq ?_)
  have small := s.boot.shadow.serial.isLt
  show ((s.boot.shadow.serial.toNat % 2 ^ 32) % 2 ^ 32 + 2 ^ 32 * ((s.boot.shadow.serial.toNat / 2 ^ 32) % 2 ^ 32)) % 2 ^ 64 = s.boot.shadow.serial.toNat
  omega

/-- A private read of 8 bytes at SERIAL gives the fused serial number, as wide as the pointer says. -/
theorem privateRead_serial (ready : mgmtReady s = true) (h : CwReach s .mgmt 0x10) (ptrAt : s.mgmt.ptr.toNat % 2 ^ 31 = usedOff s .mgmt 0x10)
    (low : s.rd 0x10 = 0) (high : s.rd 0x14 = 0) : ∃ t, exec (.mgmtPrivateRead 8) s = .next t ∧
      t.mgmt.readBytes = (if s.mgmt.ptr.getLsbD 31 then bytesLE 8 s.boot.shadow.serial.toNat
        else bytesLE 4 (s.boot.shadow.serial.toNat % 2 ^ 32)) ∧
      (∀ x, t.rd x = s.rd x) ∧ t = { s with cwData := t.cwData, reg := t.reg, mgmt := t.mgmt } := by
  obtain ⟨hd, block, -⟩ := serial_facts 0x10 (by decide)
  have used := usedOff_mgmt s 0x10
  obtain ⟨place, beyond⟩ := pointer_offset ptrAt (by omega)
  have ok {n : Nat} (size : n = 4 ∨ n = 8) : ptrOk s.mgmt.ptr n = true := by
    rw [ptrOk, place, beyond]
    simp only [beq_self_eq_true, Bool.true_and, beq_iff_eq]
    rcases used with used | used <;> rcases size with rfl | rfl <;> omega
  refine ⟨mgmtRead s 8, rfl, ?_⟩
  rw [mgmtRead, if_pos ready]
  cases wide : s.mgmt.ptr.getLsbD 31
  · simp only [Bool.false_eq_true, if_false]
    rw [ok (Or.inl rfl), if_pos rfl, place, cwAccess_mgmtRead h hd (Or.inl rfl) (by decide) (by rw [block]; decide), if_neg (by decide),
      read4_serial h.votes low]
    refine ⟨?_, fun _ => rfl, rfl⟩
    show (bytesLE 4 _).take 8 = _
    rw [List.take_of_length_le (by rw [length_bytesLE]; decide), BitVec.toNat_setWidth_of_le (by decide)]
    refine congrArg (bytesLE 4) (Nat.mod_eq_of_lt (Nat.mod_lt _ (by decide)))
  · simp only [if_true]
    rw [ok (Or.inr rfl), if_pos rfl, place, cwAccess_mgmtRead h hd (Or.inr rfl) (by decide) (by rw [block]; decide), if_pos rfl,
      read8_serial h.votes low high]
    refine ⟨?_, fun _ => rfl, rfl⟩
    show (bytesLE 8 _).take 8 = _
    rw [List.take_of_length_le (by rw [length_bytesLE])]

end Sys2Proof.Machine

open Sys2Proof Sys2Proof.Machine

/-- Settles O21: an access of the management port is the access of a privileged master to the register its pointer names. -/
theorem managementPortReachesTheWindow : Obligations.ManagementPortReachesTheWindow := by
  refine ⟨fun s da live fresh => ⟨?_, entdaaBytes_identity s⟩, fun s ready => ⟨fun ptr b four value => setPointer_sets ready four value,
    fun ptr v d hd h ptrAt => ?_, fun ptr v d hd h ptrAt => ?_, fun h ptrAt low high => privateRead_serial ready h ptrAt low high⟩⟩
  · refine congrArg Host.Outcome.next ?_
    rw [live, fresh]
    rfl
  · have eq : dirReg (0x1004 + 0x10 * d) = 0x300000 + (0x1004 + 0x10 * d) := rfl
    have hr := inert_route hd
    have reach := h.setPtr ptr
    obtain ⟨t, written, ⟨regs, rest⟩, value⟩ := reach.write4_ordinary (v := v) hr.toOrdinary fun t => hr.filter t _ _
    rw [hr.starts] at written
    have fields := fun f hf => fld_written (t := t) (f := f) (x := v.toNat) hr (allRw_route hd) value (fun i _ => (BitVec.testBit_toNat v).symm) hf
    rw [regFields_route hd] at fields
    refine ⟨t, congrArg Host.Outcome.next ?_, ?_, ?_, regs, ?_, ?_⟩
    · rw [mgmtWrite_reaches ready ptrAt (by omega) (by omega) (Or.inl rfl), reach.cwWrite4 hr.toDirect, ← written]
      rw [BitVec.setWidth_setWidth_of_le _ (by decide), BitVec.setWidth_eq]
    · exact (fields _ (List.mem_cons_self ..)).trans (by rw [Nat.pow_zero, Nat.div_one])
    · exact fields _ (List.mem_cons_of_mem _ (List.mem_cons_self ..))
    · rw [rest]; rfl
    · rw [rest]; rfl
  · have eq : dirReg (0x1000 + 0x10 * d) = 0x300000 + (0x1000 + 0x10 * d) := rfl
    have next : dirReg (0x1000 + 0x10 * d) + 4 = dirReg (0x1004 + 0x10 * d) := by unfold dirReg; omega
    have hr := inert_routeHead hd
    have reach := h.setPtr ptr
    have image : blockAt (dirReg (0x1000 + 0x10 * d)) ≠ .cxImage := by rw [blockAt_directory (by omega) (by omega)]; exact Block.noConfusion
    have stored := reach.cwWrite8_inert hr (next ▸ inert_route hd) (allRw_routeHead hd) (next ▸ allRw_route hd) (by omega) image (passes_mgmt _) v
    rw [← mgmtWrite_reaches ready ptrAt (by omega) (by omega) (Or.inr rfl)] at stored
    obtain ⟨low, high, regs, rest⟩ := stored
    rw [next] at high regs
    rw [regFields_route hd] at high
    rw [regFields_routeHead hd] at low
    refine ⟨_, rfl, ?_, low _ (List.mem_cons_of_mem _ (List.mem_cons_self ..)), ?_, ?_, regs, ?_, ?_⟩
    · exact bit_of_fld (low _ (List.mem_cons_self ..))
    · exact (high _ (List.mem_cons_self ..)).trans (by rw [Nat.pow_zero, Nat.div_one])
    · have size := high _ (List.mem_cons_of_mem _ (List.mem_cons_self ..))
      rw [Nat.div_div_eq_div_mul] at size
      exact size
    · rw [rest]; rfl
    · rw [rest]; rfl
end

section
/-! PROOF. The steps of link training (R105, R119, R121, R134). -/
namespace Sys2Proof.Machine
open Config

variable {s t u : State} {p : Nat}

/-! ## What a step of a port leaves alone -/

theorem onlyPort_refl (s : State) (p : Nat) : OnlyPort s s p := ⟨fun _ _ => rfl, rfl⟩

theorem onlyPort_modPort (s : State) (p : Nat) (f : Port → Port) : OnlyPort s (s.modPort p f) p :=
  ⟨fun _ h => State.port_modPort_other s f h, rfl⟩

theorem OnlyPort.trans (h : OnlyPort s t p) (h' : OnlyPort t u p) : OnlyPort s u p :=
  ⟨fun q hq => (h'.others q hq).trans (h.others q hq), by rw [h'.rest, h.rest]⟩

/-- From s to t nothing differs but port p, registers, events and counts. -/
structure PortActs (s t : State) (p : Nat) : Prop where
  others : ∀ q, q ≠ p → t.port q = s.port q
  rest : t = { s with ports := t.ports, reg := t.reg, evt := t.evt, acc := t.acc }

theorem PortActs.trans (h : PortActs s t p) (h' : PortActs t u p) : PortActs s u p :=
  ⟨fun q hq => (h'.others q hq).trans (h.others q hq), by rw [h'.rest, h.rest]⟩

theorem portActs_refl (s : State) (p : Nat) : PortActs s s p := ⟨fun _ _ => rfl, rfl⟩

theorem portActs_modPort (s : State) (p : Nat) (f : Port → Port) : PortActs s (s.modPort p f) p :=
  ⟨fun _ h => State.port_modPort_other s f h, rfl⟩

theorem portActs_count (s : State) (p g i n : Nat) : PortActs s (s.count g i n) p :=
  ⟨fun _ _ => State.port_count .., by rw [State.count_frame]⟩

theorem portActs_setErr (s : State) (p off i a : Nat) (w : Word) : PortActs s (s.setErr off i a w) p :=
  ⟨fun _ _ => State.port_setErr .., by rw [State.setErr_frame]⟩

theorem portActs_portErr (s : State) (p i vc : Nat) : PortActs s (s.portErr p i vc) p := portActs_setErr ..

theorem portActs_setFld (s : State) (p off lo w v : Nat) : PortActs s (s.setFld off lo w v) p :=
  ⟨fun _ _ => State.port_setFld .., by rw [State.setFld, State.wr_frame]⟩

theorem bit_portErr (s : State) (p i vc : Nat) (hi : i < 32) : (s.portErr p i vc).bit (portReg p 0xC) i = true := State.bit_setErr _ _ _ _ _ hi

/-! ## Failure (R121) -/

/-- What a failed training leaves of a port. -/
def failedPort (x : Port) (cause : Nat) : Port :=
  { x with st := .down, lastFail := cause, locked := 0, sigDet := 0, rx := RxStream.fresh }

/-- The port has failed its training with a cause. -/
structure TrainFailed (s t : State) (p cause : Nat) : Prop where
  port : t.port p = failedPort (s.port p) cause
  bit : t.bit (portReg p 0xC) 6 = true
  others : ∀ q, q ≠ p → t.port q = s.port q
  rest : t = { s with ports := t.ports, reg := t.reg, evt := t.evt, acc := t.acc }

theorem trainFail_fails (s : State) (p cause : Nat) : TrainFailed s (trainFail s p cause) p cause := by
  have acts : PortActs s (trainFail s p cause) p :=
    (((portActs_modPort ..).trans (portActs_portErr ..)).trans (portActs_count ..)).trans (portActs_modPort ..)
  refine ⟨?_, ?_, acts.others, acts.rest⟩
  · simp [trainFail, State.portErr, failedPort]
  · rw [State.bit, trainFail, State.rd_modPort, State.rd_count]
    exact bit_portErr _ p 6 0 (by decide)

/-- Where no lane has failed, none is marked (R125). -/
theorem markBad_none (s : State) (p : Nat) : markBad s p (0 : BitVec 8).toNat = s := by
  rw [markBad]
  exact if_pos rfl

/-! ## The steps (R119, R121) -/

theorem awaitedLanes_sound (h : s.fld (portReg p 0x10) 0 8 = 0) : awaitedLanes s p = if s.bit (portReg p 0) 9 then 0x0F else 0xFF := by
  rw [awaitedLanes, h]
  cases s.bit (portReg p 0) 9
  · rfl
  · rfl

/-- The port's half and width come from PARAM; nothing else of the state changes. -/
theorem setWidth_onlyPort (s : State) (p : Nat) (q : PartnerParam) (keep : Bool) : OnlyPort s (setWidth s p q keep) p := by
  unfold setWidth
  dsimp only
  split
  · exact onlyPort_modPort ..
  · exact onlyPort_refl ..

/-- With no lane bad a port is x4 where either side asks for it (R119, R125). -/
theorem setWidth_x4 {q : PartnerParam} (sound : s.fld (portReg p 0x10) 0 8 = 0) (partner : q.bad = 0) :
    ((setWidth s p q false).port p).x4 = (s.bit (portReg p 0) 9 || q.x4) := by
  rw [setWidth, sound, partner, show (0 : Nat) ||| (0 : BitVec 8).toNat = 0 from rfl, Bool.or_false]
  cases s.bit (portReg p 0) 9 || q.x4
  · exact congrArg Port.x4 (State.port_modPort_same ..)
  · exact congrArg Port.x4 (State.port_modPort_same ..)

/-- A command on a unit that exists has its effect. -/
theorem onUnit_next {n i : Nat} (h : i < n) (t : State) : onUnit n i t = .next t := if_pos h

/-- A step that acts where a condition holds on which the state meets it. -/
theorem onUnit_if {n i : Nat} {c : Prop} [Decidable c] (h : i < n) (hc : c) (t e : State) : onUnit n i (if c then t else e) = .next t := by
  rw [if_pos hc, onUnit_next h]

theorem equalizeComplete_locks (hp : p < nPorts) (r : EqResult) (st : (s.port p).st = .equalize) (sound : r.failed = 0)
    (margin : s.bit (portReg p 0) 2 = true ∨ ∀ n ∈ r.errors, n ≤ 2) :
    exec (.equalizeComplete p r) s = .next (s.modPort p fun x => { x with st := .lock, lanes := r.lanes }) := by
  have few : ¬ (s.bit (portReg p 0) 2 = false ∧ (r.errors.any fun n => decide (2 < n)) = true) := by
    rintro ⟨lean, many⟩
    obtain ⟨n, hn, excess⟩ := List.any_eq_true.1 many
    rcases margin with rs | few
    · exact Bool.false_ne_true (lean.symm.trans rs)
    · exact absurd (few n hn) (Nat.not_le_of_lt (of_decide_eq_true excess))
  refine (onUnit_if hp st _ _).trans (congrArg Host.Outcome.next ?_)
  rw [sound, markBad_none]
  exact if_neg few

theorem equalizeComplete_fails (hp : p < nPorts) (r : EqResult) (st : (s.port p).st = .equalize) (sound : r.failed = 0)
    (lean : s.bit (portReg p 0) 2 = false) (many : ∃ n ∈ r.errors, 2 < n) :
    exec (.equalizeComplete p r) s = .next (trainFail s p 3) := by
  obtain ⟨n, hn, excess⟩ := many
  refine (onUnit_if hp st _ _).trans (congrArg Host.Outcome.next ?_)
  rw [sound, markBad_none]
  exact if_pos ⟨lean, List.any_eq_true.2 ⟨n, hn, decide_eq_true excess⟩⟩

theorem lockComplete_params (hp : p < nPorts) (r : LockResult) (st : (s.port p).st = .lock) (sound : r.failed = 0) :
    exec (.lockComplete p r) s = .next (s.modPort p fun x =>
      { x with st := .param, reversed := r.reversed, polarity := r.inverted, locked := x.sigDet &&& ~~~ r.failed }) := by
  refine (onUnit_if hp st _ _).trans (congrArg Host.Outcome.next ?_)
  rw [sound, markBad_none]

/-- A port as PARAM leaves it that passes, its width apart (R116, R121). -/
def activatedPort (q : PartnerParam) (x : Port) : Port :=
  { portCleared x with
    st := .active
    locked := x.locked
    sigDet := x.sigDet
    wire := Wire.fresh
    reached := true
    txInit := q.bufs.map (· / 4)
    txCred := q.bufs.map (· / 4) }

/-- PARAM passes: the port becomes ACTIVE with the partner's buffers as credits (R116, R121). -/
theorem paramComplete_activates (hp : p < nPorts) (q : PartnerParam) (st : (s.port p).st = .param) (swept : sweepPending s p = false)
    (passed : paramCause s p q = none) : ∃ t, exec (.paramComplete p q) s = .next t ∧ OnlyPort s t p ∧ (t.port p).st = .active ∧
      (t.port p).txCred = q.bufs.map (· / 4) ∧ (t.port p).txInit = q.bufs.map (· / 4) ∧ (t.port p).txSeq = 0 ∧
      (s.fld (portReg p 0x10) 0 8 = 0 → q.bad = 0 → (t.port p).x4 = (s.bit (portReg p 0) 9 || q.x4)) ∧
      (t.port p).rxLast = 511 ∧ (t.port p).reached = true ∧ (t.port p).replay = [] ∧ (t.port p).egress = [] ∧ (t.port p).rxq = [] := by
  have step : exec (.paramComplete p q) s = .next ((setWidth s p q false).modPort p (activatedPort q)) := by
    refine (onUnit_if hp ⟨st, swept⟩ _ _).trans (congrArg Host.Outcome.next ?_)
    rw [passed]
    rfl
  have only := setWidth_onlyPort s p q false
  have x4 := setWidth_x4 (s := s) (p := p) (q := q)
  generalize setWidth s p q false = u at only x4 step
  refine ⟨_, step, only.trans (onlyPort_modPort ..), ?_⟩
  rw [State.port_modPort_same]
  exact ⟨rfl, rfl, rfl, rfl, x4, rfl, rfl, rfl, rfl, rfl⟩

/-- A port that is Cold, or whose boot is not so far, sees no signal (R133, R460, R473). -/
theorem sigDetectOn_off (h : (s.dom (4 + p)).st = .cold ∨ s.boot.step < 7) : sigDetectOn s p = false := by
  unfold sigDetectOn
  rcases h with cold | early
  · rw [cold]
    simp
  · rw [decide_eq_false (Nat.not_le_of_lt early)]
    simp

theorem downWaitExpire_waits (hp : p < nPorts) (off : (s.dom (4 + p)).st = .cold ∨ s.boot.step < 7) :
    exec (.downWaitExpire p) s = .next s := by
  refine (onUnit_next hp _).trans (congrArg Host.Outcome.next (if_neg ?_))
  rintro ⟨-, -, -, on⟩
  exact Bool.false_ne_true ((sigDetectOn_off off).symm.trans on)

theorem portQuiesced_disables (hp : p < nPorts) (st : (s.port p).st = .quiesce) (off : s.portEn p = false) :
    exec (.portQuiesced p) s = .next (s.modPort p fun x => { x with st := .disabled, quiesced := true }) := by
  refine (onUnit_if hp st _ _).trans (congrArg Host.Outcome.next (if_neg ?_))
  have en : (s.modPort p fun x => { x with st := .disabled, quiesced := true }).portEn p = s.portEn p := rfl
  rw [en, off, Bool.false_and]
  exact Bool.false_ne_true

theorem trainingTimeout_fails (hp : p < nPorts) {st : PortSt} {cause : Nat} (h : (st, cause) ∈ ([(.equalize, 1), (.lock, 2), (.param, 8)] : List (PortSt × Nat)))
    (at_ : (s.port p).st = st) : exec (.trainingTimeout p 0) s = .next (trainFail s p cause) := by
  refine (onUnit_next hp _).trans (congrArg Host.Outcome.next ?_)
  rw [at_, markBad_none]
  simp only [List.mem_cons, Prod.mk.injEq, List.not_mem_nil, or_false] at h
  rcases h with ⟨rfl, rfl⟩ | ⟨rfl, rfl⟩ | ⟨rfl, rfl⟩
  · rfl
  · rfl
  · rfl

end Sys2Proof.Machine

open Sys2Proof Sys2Proof.Machine

/-- Settles O22: each step of training changes its port as the table says, or fails it with its cause. -/
theorem trainingEndsInActiveOrDown : Obligations.TrainingEndsInActiveOrDown := by
  refine ⟨fun s p hp => ⟨fun st en on => ?_, fun r st sound margin => ?_, fun r st sound => ?_, paramComplete_activates hp,
    fun st => ⟨fun en alive on => ?_, downWaitExpire_waits hp⟩, fun st off => ?_⟩, fun s p hp => ⟨fun e he st => ?_,
    fun r st sound lean many => ?_⟩⟩
  · exact ⟨_, onUnit_if hp ⟨st, en, on⟩ _ _, onlyPort_modPort .., State.port_modPort_same .., awaitedLanes_sound⟩
  · exact ⟨_, equalizeComplete_locks hp r st sound margin, onlyPort_modPort .., State.port_modPort_same ..⟩
  · refine ⟨_, lockComplete_params hp r st sound, onlyPort_modPort .., (State.port_modPort_same ..).trans ?_⟩
    rw [sound, show ~~~ (0 : BitVec 8) = BitVec.allOnes 8 from rfl, BitVec.and_allOnes]
  · exact ⟨_, onUnit_if hp ⟨st, en, alive, on⟩ _ _, onlyPort_modPort .., State.port_modPort_same ..⟩
  · exact ⟨_, portQuiesced_disables hp st off, onlyPort_modPort .., State.port_modPort_same ..⟩
  · obtain ⟨port, bit, others, rest⟩ := trainFail_fails s p e.2
    exact ⟨_, trainingTimeout_fails hp he st, port, bit, others, rest⟩
  · obtain ⟨port, bit, others, rest⟩ := trainFail_fails s p 3
    exact ⟨_, equalizeComplete_fails hp r st sound lean many, port, bit, others, rest⟩
end

section
/-! PROOF. What the sending of messages leaves alone (R145, R157, R163, R166). -/
namespace Sys2Proof.Machine
open Config

variable {s t u : State}

/-- The registers that sending does not write: neither the status of a block (R70) nor the device errors (R420). -/
def Untouched (x : Nat) : Prop := x % 0x10000 ≠ 0xFFF8 ∧ x ≠ evtReg 0x20

/-- From s to t messages have been sent, held or dropped: no register but status and device errors is written, a port that cannot
carry is as it was, and of the others only the egress queue differs. -/
structure Sends (s t : State) : Prop where
  down : ∀ q, s.canCarry q = false → t.port q = s.port q
  egress : ∀ q, t.port q = { s.port q with egress := (t.port q).egress }
  regs : ∀ x, Untouched x → t.rd x = s.rd x
  doms : ∀ d, (t.dom d).st = (s.dom d).st
  file : t.reg = { s.reg with tv := t.reg.tv, file := t.reg.file }
  rest : t = { s with ports := t.ports, reg := t.reg, evt := t.evt, acc := t.acc, doms := t.doms, spine := t.spine, tel := { s.tel with blot := t.tel.blot } }

theorem Sends.refl (s : State) : Sends s s := ⟨fun _ _ => rfl, fun _ => rfl, fun _ _ => rfl, fun _ => rfl, rfl, rfl⟩

theorem Sends.devId (h : Sends s t) : t.devId = s.devId := by
  rw [State.devId, h.rest]
  rfl

theorem Sends.compat (h : Sends s t) : t.compat = s.compat :=
  congrArg (·.getLsbD 0) (h.regs 0x8 ⟨by decide, by decide⟩)

theorem Sends.portPresent (h : Sends s t) (q : Nat) : t.portPresent q = s.portPresent q := by
  rw [State.portPresent, State.portPresent, h.devId, h.compat]

theorem Sends.domPresent (h : Sends s t) (d : Nat) : t.domPresent d = s.domPresent d := by
  simp only [State.domPresent, State.portPresent, State.slicePresent, State.stackPresent, State.clusterPresent, State.fwdPresent, h.devId,
    h.compat]

theorem Sends.domSt (h : Sends s t) (d : Nat) : t.domSt d = s.domSt d := by
  rw [State.domSt, State.domSt, h.domPresent, h.doms]

theorem Sends.canCarry (h : Sends s t) (q : Nat) : t.canCarry q = s.canCarry q := by
  rw [State.canCarry, State.canCarry, h.portPresent, h.domSt, h.egress]

theorem Sends.trans (h : Sends s t) (h' : Sends t u) : Sends s u where
  down q hq := (h'.down q ((h.canCarry q).trans hq)).trans (h.down q hq)
  egress q := by rw [h'.egress q, h.egress q]
  regs x hx := (h'.regs x hx).trans (h.regs x hx)
  doms d := (h'.doms d).trans (h.doms d)
  file := by rw [h'.file, h.file]
  rest := by rw [h'.rest, h.rest]

/-! ## Registers -/

theorem statusOff_mod (b : Block) : b.statusOff % 0x10000 = 0xFFF8 := by
  unfold Block.statusOff Block.logger
  split
  · decide
  · decide
  · rename_i noDoorbell _
    cases b with
    | doorbell n => exact absurd rfl (noDoorbell n)
    | _ => simp only [Block.base] <;> omega

theorem sends_setFld (s : State) {off : Nat} (lo w v : Nat) (h : ¬ Untouched off) : Sends s (s.setFld off lo w v) where
  down q _ := State.port_setFld ..
  egress q := by rw [State.port_setFld]
  regs x hx := State.rd_setFld_other _ _ _ _ fun e => h (e ▸ hx)
  doms d := congrArg Domain.st (State.dom_setFld ..)
  file := by
    rw [State.setFld]
    unfold State.wr
    split <;> rfl
  rest := by rw [State.setFld, State.wr_frame]

theorem sends_count (s : State) (g i n : Nat) : Sends s (s.count g i n) where
  down q _ := State.port_count ..
  egress q := by rw [State.port_count]
  regs x _ := State.rd_count ..
  doms d := congrArg Domain.st (State.dom_count ..)
  file := by rw [State.count_reg]
  rest := by rw [State.count_frame]

theorem sends_raise (s : State) (a c : Nat) (w : Word) : Sends s (s.raise a c w) :=
  ⟨fun _ _ => rfl, fun _ => rfl, fun _ _ => rfl, fun _ => rfl, rfl, rfl⟩

theorem sends_setErr (s : State) {off : Nat} (i a : Nat) (w : Word) (h : ¬ Untouched off) : Sends s (s.setErr off i a w) := by
  unfold State.setErr
  split
  · exact .refl s
  · exact (sends_setFld s i 1 1 h).trans (sends_raise ..)

theorem status_touched (b : Block) : ¬ Untouched b.statusOff := fun h => h.1 (statusOff_mod b)

theorem sends_voteFixed (s : State) (off : Nat) : Sends s (voteFixed s off) := by
  have marked := (sends_setFld s 1 1 1 (status_touched (blockAt off))).trans (sends_count _ 53 4 1)
  unfold voteFixed
  dsimp only
  split
  · exact marked
  · exact marked.trans (sends_raise ..)

/-- A vote writes back what the register reads (R70). -/
theorem sends_voteReg (s : State) (off : Nat) : Sends s (voteReg s off) := by
  unfold voteReg
  dsimp only
  split
  · refine Sends.trans (t := { s with reg := { s.reg with tv := sset tvD s.reg.tv off _ } }) ?_ (sends_voteFixed ..)
    refine ⟨fun _ _ => rfl, fun _ => rfl, fun x _ => ?_, fun _ => rfl, rfl, rfl⟩
    simp only [State.rd]
    split
    · by_cases hx : x = off
      · subst hx
        rw [sget_sset_same, Triple.maj_same]
      · rw [sget_sset_other _ _ _ hx]
    · rfl
  · exact .refl s

theorem sends_foldl {α : Type} {f : State → α → State} (step : ∀ s a, Sends s (f s a)) (l : List α) (s : State) : Sends s (l.foldl f s) := by
  induction l generalizing s with
  | nil => exact .refl s
  | cons a l ih => exact (step s a).trans (ih _)

theorem sends_voteRoute (s : State) (d : Nat) : Sends s (voteRoute s d) := sends_foldl (fun _ _ => sends_voteReg ..) _ s

theorem sends_voteDevice (s : State) (d : Nat) : Sends s (voteDevice s d) := by
  unfold voteDevice
  split
  · exact .refl s
  · exact sends_voteRoute ..

/-! ## The blotter's follows -/

theorem sends_blot (s : State) (b : Blotter) : Sends s { s with tel := { s.tel with blot := b } } :=
  ⟨fun _ _ => rfl, fun _ => rfl, fun _ _ => rfl, fun _ => rfl, rfl, rfl⟩

theorem sends_blotNote (s : State) (a : AgentId) (g : Tag) (f : Follow → Follow) : Sends s (s.blotNote a g f) := sends_blot ..

theorem sends_blotLose (s : State) (p : Follow → Bool) : Sends s (s.blotLose p) := sends_blot ..

theorem sends_blotLost (s : State) (m : Msg) : Sends s (s.blotLost m) := by
  unfold State.blotLost
  split
  · exact sends_blotLose ..
  · exact .refl s

theorem sends_blotRefuse (s : State) (m : Msg) : Sends s (s.blotRefuse m) := by
  unfold State.blotRefuse
  split
  · exact sends_blotNote ..
  · exact .refl s

/-! ## Domains that wake (R449) -/

theorem sends_modDom (s : State) (d : Nat) (f : Domain → Domain) (still : (f (s.dom d)).st = (s.dom d).st) : Sends s (s.modDom d f) := by
  refine ⟨fun _ _ => rfl, fun _ => rfl, fun _ _ => rfl, fun e => ?_, rfl, rfl⟩
  by_cases he : e = d
  · subst he
    rw [State.dom_modDom_same, still]
  · rw [State.dom_modDom_other _ _ he]

theorem sends_wakeOne (s : State) (d : Nat) : Sends s (s.wakeOne d) := by
  unfold State.wakeOne
  split
  · exact sends_modDom s d _ rfl
  · split
    · exact sends_modDom s d _ rfl
    · exact .refl s

theorem sends_wakeAccess (s : State) (d : Nat) : Sends s (s.wakeAccess d) := by
  unfold State.wakeAccess
  split
  · exact (sends_wakeOne ..).trans (sends_wakeOne ..)
  · exact sends_wakeOne ..

theorem sends_wake (s : State) (d : Nat) : Sends s (s.wake d) := by
  unfold State.wake
  split
  · exact .refl s
  · exact sends_wakeAccess ..

/-! ## Messages -/

theorem sends_discard (s : State) (p : Nat) (m : Msg) : Sends s (s.discard p m) :=
  (sends_blotLost s m).trans (sends_setErr _ _ _ _ fun h => h.2 rfl)

theorem sends_hold (s : State) (m : Msg) (i : Option Nat) (b : Bool) : Sends s (s.hold m i b) :=
  ⟨fun _ _ => rfl, fun _ => rfl, fun _ _ => rfl, fun _ => rfl, rfl, rfl⟩

/-- A message is queued only at a port that can carry it. -/
theorem sends_enqueue {p : Nat} (h : s.canCarry p = true) (m : Msg) : Sends s (s.enqueue p m) := by
  refine ⟨fun q hq => State.port_modPort_other s _ fun e => ?_, fun q => ?_, fun _ _ => rfl, fun _ => rfl, rfl, rfl⟩
  · exact Bool.false_ne_true (hq.symm.trans (e ▸ h))
  · by_cases hq : q = p
    · subst hq
      rw [State.enqueue, State.port_modPort_same]
    · rw [State.enqueue, State.port_modPort_other s _ hq]

theorem sends_depart {p : Nat} (h : s.canCarry p = true) (m : Msg) : Sends s (s.depart p m) := by
  unfold State.depart
  split
  · exact (sends_wake ..).trans (sends_hold ..)
  · exact sends_enqueue h m

/-- A message that the device sends leaves all but what sending may change (R166). -/
theorem sends_sendPlain (s : State) (m : Msg) : Sends s (s.sendPlain m) := by
  unfold State.sendPlain
  have noted := sends_blotRefuse s m
  generalize s.blotRefuse m = u at noted ⊢
  dsimp only
  split
  · exact noted.trans ⟨fun _ _ => rfl, fun _ => rfl, fun _ _ => rfl, fun _ => rfl, rfl, rfl⟩
  · refine noted.trans ((sends_voteDevice u m.dst.dev).trans ?_)
    generalize voteDevice u m.dst.dev = v
    split
    · rename_i p _
      cases carries : v.canCarry p
      · exact sends_discard ..
      · exact sends_depart carries m
    · exact sends_discard ..

theorem sends_refuse (s : State) (m : Msg) (reason : Nat) : Sends s (s.refuse m reason) := sends_sendPlain ..

/-! ## What the emptying of a port leaves alone (R167, R168) -/

/-- As `Sends`, where agents may be purged besides: registers of the directory, the purge set and the claim of window 1 change. -/
structure Drops (s t : State) : Prop where
  down : ∀ q, s.canCarry q = false → t.port q = s.port q
  egress : ∀ q, t.port q = { s.port q with egress := (t.port q).egress }
  regs : ∀ x, Untouched x → x < 0x300000 ∨ 0x310000 ≤ x → t.rd x = s.rd x
  doms : ∀ d, (t.dom d).st = (s.dom d).st
  file : t.reg = { s.reg with tv := t.reg.tv, file := t.reg.file, claim := t.reg.claim }
  rest : t = { s with ports := t.ports, reg := t.reg, evt := t.evt, acc := t.acc, doms := t.doms, spine := t.spine, purge := t.purge,
                      tel := { s.tel with blot := t.tel.blot } }

theorem Sends.drops (h : Sends s t) : Drops s t :=
  ⟨h.down, h.egress, fun x hx _ => h.regs x hx, h.doms, by rw [h.file], by rw [h.rest]⟩

theorem Drops.devId (h : Drops s t) : t.devId = s.devId := by
  rw [State.devId, h.rest]
  rfl

theorem Drops.compat (h : Drops s t) : t.compat = s.compat :=
  congrArg (·.getLsbD 0) (h.regs 0x8 ⟨by decide, by decide⟩ (Or.inl (by decide)))

theorem Drops.domPresent (h : Drops s t) (d : Nat) : t.domPresent d = s.domPresent d := by
  simp only [State.domPresent, State.portPresent, State.slicePresent, State.stackPresent, State.clusterPresent, State.fwdPresent, h.devId,
    h.compat]

theorem Drops.domSt (h : Drops s t) (d : Nat) : t.domSt d = s.domSt d := by
  rw [State.domSt, State.domSt, h.domPresent, h.doms]

theorem Drops.canCarry (h : Drops s t) (q : Nat) : t.canCarry q = s.canCarry q := by
  rw [State.canCarry, State.canCarry, State.portPresent, State.portPresent, h.devId, h.compat, h.domSt, h.egress]

theorem Drops.trans (h : Drops s t) (h' : Drops t u) : Drops s u where
  down q hq := (h'.down q ((h.canCarry q).trans hq)).trans (h.down q hq)
  egress q := by rw [h'.egress q, h.egress q]
  regs x hx out := (h'.regs x hx out).trans (h.regs x hx out)
  doms d := (h'.doms d).trans (h.doms d)
  file := by rw [h'.file, h.file]
  rest := by rw [h'.rest, h.rest]

theorem Drops.refl (s : State) : Drops s s := (Sends.refl s).drops

theorem Drops.slice (h : Drops s t) (i : Nat) : t.slice i = s.slice i := by
  rw [State.slice, h.rest]
  rfl

theorem Drops.noneAwaited (h : Drops s t) (none : NoneAwaited s) : NoneAwaited t := fun i => by
  rw [h.slice]
  exact none i

theorem drops_wrDirectory (s : State) {rel : Nat} (h : rel < 0x10000) (v : Word) : Drops s (s.wr (dirReg rel) v) where
  down q _ := State.port_wr ..
  egress q := by rw [State.port_wr]
  regs x _ out := State.rd_wr_other s v (by unfold dirReg; omega)
  doms d := congrArg Domain.st (State.dom_wr ..)
  file := by
    unfold State.wr
    split <;> rfl
  rest := by rw [State.wr_frame]

theorem drops_claim (s : State) (c : Claim) : Drops s { s with reg := { s.reg with claim := c } } :=
  ⟨fun _ _ => rfl, fun _ => rfl, fun _ _ _ => rfl, fun _ => rfl, rfl, rfl⟩

theorem drops_foldl {α : Type} {f : State → α → State} {l : List α} (step : ∀ s, ∀ a ∈ l, Drops s (f s a)) (s : State) :
    Drops s (l.foldl f s) := by
  induction l generalizing s with
  | nil => exact .refl s
  | cons a l ih => exact (step s a (List.mem_cons_self ..)).trans (ih (fun s b hb => step s b (List.mem_cons_of_mem _ hb)) _)

theorem drops_purgeSet (s : State) {d : Nat} (hd : d < 16) (mask : Nat) : Drops s (purgeSet s d mask) := by
  unfold purgeSet
  split
  · exact .refl s
  · dsimp only
    have set : Drops s { s with purge := smod wordD s.purge d fun w => w ||| w32 mask } :=
      ⟨fun _ _ => rfl, fun _ => rfl, fun _ _ _ => rfl, fun _ => rfl, rfl, rfl⟩
    generalize ({ s with purge := smod wordD s.purge d fun w => w ||| w32 mask } : State) = a at set ⊢
    have enabled := set.trans (drops_wrDirectory a (by omega : 0x100 + 4 * d < 0x10000) (a.rd (dirReg (0x100 + 4 * d)) &&& ~~~ w32 mask))
    generalize a.wr (dirReg (0x100 + 4 * d)) _ = b at enabled ⊢
    have named := enabled.trans (drops_wrDirectory b (by omega : 0x180 + 4 * d < 0x10000) (b.rd (dirReg (0x180 + 4 * d)) &&& ~~~ w32 mask))
    generalize b.wr (dirReg (0x180 + 4 * d)) _ = c at named ⊢
    have counted := named.trans (sends_count c 53 8 (bitsSet 32 mask).length).drops
    generalize c.count 53 8 _ = e at counted ⊢
    split
    · split
      · exact counted.trans (drops_claim ..)
      · exact counted
    · exact counted

/-- A slice that awaits nothing has nothing to end (R192). -/
theorem purgePending_none {i : Nat} (none : NoneAwaited s) : purgePending s i = s := by
  obtain ⟨txns, evbuf⟩ := none i
  unfold purgePending
  rw [if_pos]
  simp [awaitsPurged, txns, evbuf]

theorem foldl_id {α β : Type} {f : β → α → β} {s : β} (h : ∀ a, f s a = s) (l : List α) : l.foldl f s = s := by
  induction l with
  | nil => rfl
  | cons a l ih => rw [List.foldl_cons, h, ih]

theorem drops_purgeAgents {l : List (Nat × Nat)} (none : NoneAwaited s) (devices : ∀ e ∈ l, e.1 < 16) : Drops s (purgeAgents s l) := by
  unfold purgeAgents
  have set : Drops s (l.foldl (fun s dm => purgeSet s dm.1 dm.2) s) := drops_foldl (fun s e he => drops_purgeSet s (devices e he) e.2) s
  dsimp only
  rw [foldl_id fun i => purgePending_none (set.noneAwaited none)]
  exact set

theorem agentsBehind_devices (s : State) (p : Nat) : ∀ e ∈ agentsBehind s p, e.1 < 16 := by
  intro e he
  unfold agentsBehind at he
  split at he
  · obtain ⟨d, hd, rfl⟩ := List.mem_map.1 he
    exact List.mem_range.1 (List.mem_filter.1 hd).1
  · rw [List.mem_singleton.1 he]
    exact Nat.mod_lt _ (by decide)

theorem drops_purgeNotices (s : State) (mask : Nat) : Drops s (purgeNotices s mask) := by
  unfold purgeNotices
  split
  · exact .refl s
  · refine (sends_foldl (fun s d => ?_) _ s).drops
    split
    · exact sends_sendPlain ..
    · exact .refl s

theorem drops_releaseClaim (s : State) (p : Nat) : Drops s (releaseClaim s p) := by
  unfold releaseClaim
  split
  · split
    · exact drops_claim ..
    · split
      · exact drops_claim ..
      · exact .refl s
  · exact .refl s

theorem awaited_none (none : NoneAwaited s) (i line h : Nat) (tag : Tag) : awaited s i line h tag = false := by
  obtain ⟨txns, evbuf⟩ := none i
  simp [awaited, txnOf, txns, evbuf]

theorem snoopLost_none (none : NoneAwaited s) (m : Msg) : snoopLost s m = s := by
  unfold snoopLost
  split
  · dsimp only
    rw [awaited_none none, if_neg Bool.false_ne_true]
  · rfl

theorem drops_emptyEgress (p : Nat) (none : NoneAwaited s) (held : Bool) (m : Msg) : Drops s (emptyEgress p s held m) := by
  unfold emptyEgress
  split
  · exact ((sends_refuse ..).trans (sends_count ..)).drops
  · split
    · split
      · rw [snoopLost_none none]
        exact .refl s
      · exact (sends_discard ..).drops
    · split
      · exact (sends_discard ..).drops
      · exact ((sends_blotLost ..).trans (sends_count ..)).drops

theorem drops_egress (p : Nat) (l : List (Bool × Msg)) (none : NoneAwaited s) : Drops s (l.foldl (fun s hm => emptyEgress p s hm.1 hm.2) s) := by
  induction l generalizing s with
  | nil => exact .refl s
  | cons e l ih =>
    have first := drops_emptyEgress p none e.1 e.2
    exact first.trans (ih (first.noneAwaited none))

/-- The emptying of a port: the port itself is cleared, and the rest as `Drops` says. -/
theorem drops_emptyPort {p : Nat} {st : PortSt} (none : NoneAwaited s) :
    Drops (s.modPort p fun x => { portCleared x with st := st }) (emptyPort s p st) := by
  unfold emptyPort
  generalize s.port p = x
  have cleared : NoneAwaited (s.modPort p fun x => { portCleared x with st := st }) := fun i => none i
  generalize (s.modPort p fun x => { portCleared x with st := st }) = u at cleared
  dsimp only
  have counted := (sends_count u p 15 x.rxq.length).drops
  generalize u.count p 15 x.rxq.length = a at counted ⊢
  have emptied := counted.trans (drops_egress p (egressHeld x.egress [0, 0, 0, 0, 0, 0]) (counted.noneAwaited cleared))
  generalize (egressHeld x.egress [0, 0, 0, 0, 0, 0]).foldl (fun s hm => emptyEgress p s hm.1 hm.2) a = b at emptied ⊢
  have lost := emptied.trans (sends_blotLose b fun w => w.via == some p && w.outcome == some 7 && w.got.isNone).drops
  generalize b.blotLose (fun w => w.via == some p && w.outcome == some 7 && w.got.isNone) = c at lost ⊢
  have purgedAll := lost.trans (drops_purgeAgents (lost.noneAwaited cleared) (agentsBehind_devices c p))
  generalize purgeAgents c (agentsBehind c p) = d at purgedAll ⊢
  split
  · exact purgedAll.trans (drops_releaseClaim ..)
  · exact (purgedAll.trans (drops_purgeNotices ..)).trans (drops_releaseClaim ..)

end Sys2Proof.Machine
end

section
/-! PROOF. Link errors: replay, RECOVER and link-down (R113, R121–R126, R130). -/
namespace Sys2Proof.Machine
open Config

variable {s t u : State} {p : Nat}

/-! ## The bits of PORT_ERR (R137) -/

theorem State.bit_setErr_other (s : State) (off i a : Nat) (w : Word) {x j : Nat} (h : x ≠ off ∨ j ≠ i) (hj : j < 32) :
    (s.setErr off i a w).bit x j = s.bit x j := by
  unfold State.setErr
  split
  · rfl
  · rw [State.bit, State.rd_raise, ← State.bit]
    by_cases hx : x = off
    · subst hx
      rw [State.bit_setFld _ _ _ _ _ hj, if_neg]
      have := h.resolve_left fun ne => ne rfl
      omega
    · rw [State.bit, State.rd_setFld_other _ _ _ _ hx, State.bit]

/-- RECOVER is entered (R122). -/
structure Recovers (s t : State) (p : Nat) (reeq : Bool) : Prop where
  port : t.port p = { s.port p with st := .recover, reeq := reeq, retrain := false, fromIdle := false, idleReq := false }
  bit : t.bit (portReg p 0xC) 2 = true
  bits : ∀ x j, j < 32 → (x ≠ portReg p 0xC ∨ j ≠ 2) → t.bit x j = s.bit x j
  acts : PortActs s t p

theorem enterRecover_recovers (s : State) (p : Nat) (reeq : Bool) : Recovers s (enterRecover s p reeq) p reeq where
  port := by simp [enterRecover, State.portErr]
  bit := by
    rw [State.bit, enterRecover, State.rd_count]
    exact bit_portErr _ p 2 0 (by decide)
  bits x j hj h := by
    rw [State.bit, enterRecover, State.rd_count, State.portErr, ← State.bit, State.bit_setErr_other _ _ _ _ _ h hj, State.bit, State.rd_modPort,
      State.bit]
  acts := ((portActs_modPort ..).trans (portActs_portErr ..)).trans (portActs_count ..)

/-! ## Replay (R113) -/

/-- An ACK that names no flit of the replay buffer leaves everything to be acknowledged. -/
theorem afterAck_none {ack : BitVec 9} {l : List SentFlit} (h : ∀ g ∈ l, g.seq ≠ ack) : afterAck ack l = l :=
  if_neg fun named => by
    obtain ⟨g, hg, eq⟩ := List.any_eq_true.1 named
    exact h g hg (eq_of_beq eq)

theorem takeAck_none {ack : BitVec 9} (h : ∀ g ∈ (s.port p).replay, g.seq ≠ ack) (none : (s.port p).ackMsgs = []) :
    OnlyPort s (takeAck s p ack) p ∧
      (takeAck s p ack).port p = { s.port p with resend := min (s.port p).resend (s.port p).replay.length } := by
  unfold takeAck msgDones
  dsimp only
  rw [afterAck_none h]
  generalize acked : (s.modPort p fun x => { x with replay := (s.port p).replay, resend := min x.resend (s.port p).replay.length }) = u
  have port : u.port p = { s.port p with resend := min (s.port p).resend (s.port p).replay.length } := by
    rw [← acked, State.port_modPort_same]
  have only : OnlyPort s u p := acked ▸ onlyPort_modPort ..
  have noMsgs : (u.port p).ackMsgs = [] := by rw [port, none]
  rw [noMsgs]
  refine ⟨only.trans (onlyPort_modPort ..), (State.port_modPort_same ..).trans ?_⟩
  rw [noMsgs, port]
  simp [none]

/-- How often a flit is replayed at most: REPLAY_LIMIT, where 0 acts as 1 (R113). -/
def replayLimit (s : State) (p : Nat) : Nat := if s.fld (portReg p 0x14) 16 4 = 0 then 1 else s.fld (portReg p 0x14) 16 4

theorem startReplay_exhausted {f : SentFlit} {l : List SentFlit} (h : (s.port p).replay = f :: l) (spent : replayLimit s p ≤ f.replays) :
    startReplay s p = enterRecover s p false := by
  rw [startReplay, h]
  exact if_pos spent

theorem startReplay_again {f : SentFlit} {l : List SentFlit} (h : (s.port p).replay = f :: l) (under : f.replays < replayLimit s p) :
    startReplay s p = (s.portErr p 1 0).modPort p fun x => { x with resend := x.replay.length } := by
  rw [startReplay, h]
  exact if_neg (Nat.not_le_of_lt under)

/-- The replay begins: everything that is not acknowledged is to be sent again. -/
structure Replays (s t : State) (p : Nat) : Prop where
  replay : (t.port p).replay = (s.port p).replay
  resend : (t.port p).resend = (s.port p).replay.length
  st : (t.port p).st = (s.port p).st
  bit : t.bit (portReg p 0xC) 1 = true
  others : ∀ q, q ≠ p → t.port q = s.port q
  rest : t = { s with ports := t.ports, reg := t.reg, evt := t.evt }

theorem startReplay_replays {f : SentFlit} {l : List SentFlit} (h : (s.port p).replay = f :: l) (under : f.replays < replayLimit s p) :
    Replays s (startReplay s p) p := by
  rw [startReplay_again h under]
  have err : s.portErr p 1 0 = { s with reg := (s.portErr p 1 0).reg, evt := (s.portErr p 1 0).evt } := State.setErr_frame ..
  have port : (s.portErr p 1 0).port p = s.port p := State.port_setErr ..
  have bit : (s.portErr p 1 0).bit (portReg p 0xC) 1 = true := bit_portErr _ _ _ _ (by decide)
  have others (q : Nat) : (s.portErr p 1 0).port q = s.port q := State.port_setErr ..
  generalize s.portErr p 1 0 = u at err port bit others ⊢
  refine ⟨?_, ?_, ?_, bit, fun q hq => (State.port_modPort_other _ _ hq).trans (others q), by rw [err]; rfl⟩
  · rw [State.port_modPort_same, port]
  · rw [State.port_modPort_same, port]
  · rw [State.port_modPort_same, port]

/-- The port enters RECOVER, keeping its replay buffer. -/
structure GivesUp (s t : State) (p : Nat) : Prop where
  st : (t.port p).st = .recover
  reeq : (t.port p).reeq = false
  replay : (t.port p).replay = (s.port p).replay
  bit : t.bit (portReg p 0xC) 2 = true
  others : ∀ q, q ≠ p → t.port q = s.port q
  rest : t = { s with ports := t.ports, reg := t.reg, evt := t.evt, acc := t.acc }

theorem startReplay_givesUp {f : SentFlit} {l : List SentFlit} (h : (s.port p).replay = f :: l) (spent : replayLimit s p ≤ f.replays) :
    GivesUp s (startReplay s p) p := by
  rw [startReplay_exhausted h spent]
  obtain ⟨port, bit, -, others, rest⟩ := enterRecover_recovers s p false
  exact ⟨by rw [port], by rw [port], by rw [port], bit, others, rest⟩

/-- A NAK that acknowledges nothing starts the replay of the whole buffer (R113). -/
theorem nakReceive_starts {ack : BitVec 9} (hp : p < nPorts) (st : (s.port p).st = .active) :
    exec (.nakReceive p ack) s = .next (startReplay (takeAck s p ack) p) := by
  refine (onUnit_next hp _).trans (congrArg Host.Outcome.next ?_)
  exact if_pos st

theorem replayTimeout_starts (hp : p < nPorts) (st : (s.port p).st = .active) : exec (.replayTimeout p) s = .next (startReplay s p) :=
  onUnit_if hp st _ _

/-! ## What takes a port to RECOVER (R122, R125, R130) -/

/-- A sound lane is marked bad (R125). -/
structure LaneMarked (s t : State) (p lane : Nat) : Prop where
  bad : t.bit (portReg p 0x10) lane = true
  bit : t.bit (portReg p 0xC) 4 = true
  port : t.port p = s.port p
  acts : PortActs s t p

theorem markBad_marks {lane : Nat} (hl : lane < 8) (sound : s.bit (portReg p 0x10) lane = false) : LaneMarked s (markBad s p (2 ^ lane)) p lane := by
  have old : (s.fld (portReg p 0x10) 0 8).testBit lane = false := by
    rw [State.fld, wfld, bitsOf, Nat.testBit_mod_two_pow, Nat.pow_zero, Nat.div_one, BitVec.testBit_toNat]
    exact (congrArg (decide (lane < 8) && ·) sound).trans (Bool.and_false _)
  have some : lane ∈ (bitsSet 8 (2 ^ lane)).filter fun i => !(s.fld (portReg p 0x10) 0 8).testBit i := by
    rw [List.mem_filter, mem_bitsSet, old]
    exact ⟨⟨hl, Nat.testBit_two_pow_self⟩, rfl⟩
  have nonempty : ((bitsSet 8 (2 ^ lane)).filter fun i => !(s.fld (portReg p 0x10) 0 8).testBit i).isEmpty = false := by
    rw [List.isEmpty_eq_false_iff]
    exact List.ne_nil_of_mem some
  unfold markBad
  dsimp only
  rw [nonempty, if_neg Bool.false_ne_true]
  have apart : portReg p 0x10 ≠ portReg p 0xC := by unfold portReg; omega
  have marked : (s.setFld (portReg p 0x10) 0 8 (s.fld (portReg p 0x10) 0 8 ||| 2 ^ lane)).bit (portReg p 0x10) lane = true := by
    rw [State.bit_setFld _ _ _ _ _ (by omega), if_pos (by omega), Nat.testBit_or, Nat.sub_zero, Nat.testBit_two_pow_self, Bool.or_true]
  refine ⟨?_, ?_, ?_, ((portActs_setFld ..).trans (portActs_portErr ..)).trans (portActs_count ..)⟩
  · rw [State.bit, State.rd_count, ← State.bit, State.portErr, State.bit_setErr_other _ _ _ _ _ (Or.inl apart) (by omega), marked]
  · rw [State.bit, State.rd_count]
    exact bit_portErr _ _ _ _ (by decide)
  · simp [State.portErr]

theorem laneErrorWindow_recovers (hp : p < nPorts) (lane : BitVec 3) (n : Nat) (st : (s.port p).st = .active)
    (on : s.fld (portReg p 0x14) 0 16 ≠ 0) (many : s.fld (portReg p 0x14) 0 16 < n) (sound : s.bit (portReg p 0x10) lane.toNat = false) :
    exec (.laneErrorWindow p lane n) s = .next (enterRecover (markBad s p (2 ^ lane.toNat)) p true) :=
  onUnit_if hp ⟨st, on, many, sound⟩ _ _

theorem laneLockLoss_recovers (hp : p < nPorts) (lane : BitVec 3) (st : (s.port p).st = .active)
    (sound : s.bit (portReg p 0x10) lane.toNat = false) : exec (.laneLockLoss p lane) s = .next (enterRecover (markBad
      (s.modPort p fun x => { x with locked := x.locked &&& ~~~ (BitVec.ofNat 8 (2 ^ lane.toNat)) }) p (2 ^ lane.toNat)) p true) :=
  onUnit_if hp ⟨st, sound⟩ _ _

/-- A lane goes bad, and RECOVER re-equalises (R125). -/
structure LaneLost (s t : State) (p lane : Nat) : Prop where
  port : t.port p = { s.port p with st := .recover, reeq := true, retrain := false, fromIdle := false, idleReq := false }
  bad : t.bit (portReg p 0x10) lane = true
  recovered : t.bit (portReg p 0xC) 2 = true
  degraded : t.bit (portReg p 0xC) 4 = true
  acts : PortActs s t p

theorem lane_lost {lane : Nat} (hl : lane < 8) (sound : s.bit (portReg p 0x10) lane = false) :
    LaneLost s (enterRecover (markBad s p (2 ^ lane)) p true) p lane := by
  obtain ⟨bad, bit, port, acts⟩ := markBad_marks hl sound
  generalize markBad s p (2 ^ lane) = u at bad bit port acts ⊢
  obtain ⟨port', bit', bits, acts'⟩ := enterRecover_recovers u p true
  have apart : portReg p 0x10 ≠ portReg p 0xC := by unfold portReg; omega
  exact ⟨by rw [port', port], (bits _ _ (by omega) (Or.inl apart)).trans bad, bit', (bits _ _ (by decide) (Or.inr (by decide))).trans bit,
    acts.trans acts'⟩

/-- A bit that is taken out is 0. -/
theorem getLsbD_cleared (v : BitVec 8) (lane : BitVec 3) : (v &&& ~~~ (BitVec.ofNat 8 (2 ^ lane.toNat))).getLsbD lane.toNat = false := by
  have lt : lane.toNat < 8 := lane.isLt
  rw [BitVec.getLsbD_and, BitVec.getLsbD_not, BitVec.getLsbD_ofNat, Nat.testBit_two_pow_self, decide_eq_true lt]
  simp

/-- A queued message or receive activity wakes a port in LINK_IDLE (R130). -/
theorem linkIdleWake_recovers (hp : p < nPorts) (rx : Bool) (st : (s.port p).st = .linkIdle) (activity : rx = true ∨ (s.port p).egress ≠ []) :
    exec (.linkIdleWake p rx) s = .next ((enterRecover (s.wake (4 + p)) p false).modPort p fun x =>
      { x with fromIdle := true, sigDet := if rx then widthLanes x.x4 x.half else x.sigDet }) :=
  onUnit_if hp ⟨st, activity⟩ _ _

theorem wake_frame (s : State) (d : Nat) : s.wake d = { s with doms := (s.wake d).doms } := by
  have one (s : State) (d : Nat) : s.wakeOne d = { s with doms := (s.wakeOne d).doms } := by
    unfold State.wakeOne
    split
    · rfl
    · split <;> rfl
  have access (s : State) (d : Nat) : s.wakeAccess d = { s with doms := (s.wakeAccess d).doms } := by
    unfold State.wakeAccess
    split
    · rw [one (s.wakeOne d), one s]
    · exact one s d
  unfold State.wake
  split
  · rfl
  · exact access s d

theorem wake_port (s : State) (d q : Nat) : (s.wake d).port q = s.port q := by
  rw [wake_frame]
  rfl

/-- A relock from LINK_IDLE that takes too long re-equalises (R130). -/
theorem relockTimeout_port (hp : p < nPorts) (st : (s.port p).st = .recover) : ∃ t, exec (.relockTimeout p) s = .next t ∧ OnlyPort s t p ∧
    t.port p = { s.port p with reeq := (s.port p).reeq || (s.port p).fromIdle } := by
  cases idle : (s.port p).fromIdle
  · refine ⟨s, (onUnit_next hp _).trans (congrArg Host.Outcome.next (if_neg ?_)), onlyPort_refl .., ?_⟩
    · rintro ⟨-, fromIdle⟩
      exact Bool.false_ne_true (idle.symm.trans fromIdle)
    · rw [Bool.or_false]
  · refine ⟨_, onUnit_if hp ⟨st, idle⟩ _ _, onlyPort_modPort .., ?_⟩
    rw [State.port_modPort_same, Bool.or_true]

/-! ## The end of RECOVER (R121–R123, R126) -/

/-- A port as the end of RECOVER leaves it, its width apart. -/
def recoveredPort (r : EqResult) (x : Port) : Port :=
  { x with
    st := .active
    reeq := false
    retrain := false
    resend := x.replay.length
    replay := x.replay.map fun f => { f with replays := 0 }
    lanes := if x.reeq then r.lanes else x.lanes
    fromIdle := false
    wire := Wire.fresh
    rx := RxStream.fresh
    sigDet := widthLanes x.x4 x.half
    locked := widthLanes x.x4 x.half &&& ~~~ (if x.reeq then r.failed else 0) }

theorem recoverComplete_activates (hp : p < nPorts) {r : EqResult} {q : PartnerParam} {ack : BitVec 9} (st : (s.port p).st = .recover)
    (lit : s.domLit (4 + p) = true) (kept : (s.port p).reeq = false) (passed : paramCause s p q = none) :
    exec (.recoverComplete p r q ack) s =
      .next ((takeAck (setWidth s p q ((s.port p).x4 && !(s.port p).retrain)) p ack).modPort p (recoveredPort r)) := by
  refine (onUnit_if hp ⟨st, lit⟩ _ _).trans (congrArg Host.Outcome.next ?_)
  dsimp only
  rw [kept, if_neg Bool.false_ne_true, passed]
  rfl

/-- The width that a port runs on, and its partner's declaration. -/
theorem setWidth_port (s : State) (p : Nat) (q : PartnerParam) (keep : Bool) : ∃ x4 half bad dev fab,
    (setWidth s p q keep).port p = { s.port p with x4 := x4, half := half, partnerBad := bad, partnerDevnum := dev, partnerFabric := fab } := by
  unfold setWidth
  dsimp only
  split
  · exact ⟨_, _, _, _, _, State.port_modPort_same ..⟩
  · exact ⟨_, _, _, _, _, rfl⟩

/-- The port is down, with nothing of its link left (R123). -/
structure LinkDown (s t : State) (p cause : Nat) : Prop where
  port : t.port p = { portCleared (s.port p) with st := .down, lastFail := cause }
  bit : t.bit (portReg p 0xC) 3 = true
  enable : ∀ i, i < 32 → t.bit (portReg p 4) i = s.bit (portReg p 4) i
  hbm : t.hbm = s.hbm
  cores : t.cores = s.cores
  fatal : t.boot = s.boot

theorem portReg_untouched {rel : Nat} (hp : p < nPorts) (hr : rel < 0xFFF8) : Untouched (portReg p rel) ∧ portReg p rel < 0x300000 := by
  have : p < 16 := hp
  unfold Untouched portReg evtReg
  omega

/-- A port that is down or quiesces carries nothing. -/
theorem emptyPort_port {st : PortSt} (none : NoneAwaited s) (still : st = .down ∨ st = .quiesce) :
    (emptyPort s p st).port p = { portCleared (s.port p) with st := st } := by
  have drops := drops_emptyPort (p := p) (st := st) none
  refine (drops.down p ?_).trans (State.port_modPort_same ..)
  rw [State.canCarry, State.port_modPort_same]
  rcases still with rfl | rfl
  · exact Bool.and_false _
  · exact Bool.and_false _

/-- The emptying of a port writes no register of a port. -/
theorem emptyPort_rd {q rel : Nat} {st : PortSt} (none : NoneAwaited s) (hq : q < nPorts) (hr : rel < 0xFFF8) :
    (emptyPort s p st).rd (portReg q rel) = s.rd (portReg q rel) := by
  obtain ⟨untouched, low⟩ := portReg_untouched hq hr
  exact ((drops_emptyPort none).regs _ untouched (Or.inl low)).trans (State.rd_modPort ..)

theorem emptyPort_rest {st : PortSt} (none : NoneAwaited s) :
    (emptyPort s p st).hbm = s.hbm ∧ (emptyPort s p st).cores = s.cores ∧ (emptyPort s p st).boot = s.boot := by
  rw [(drops_emptyPort none).rest]
  exact ⟨rfl, rfl, rfl⟩

theorem linkDown_down (hp : p < nPorts) (none : NoneAwaited s) (cause : Nat) : LinkDown s (linkDown s p cause) p cause := by
  unfold linkDown
  dsimp only
  have none' : NoneAwaited (((s.modPort p fun x => { x with lastFail := cause }).portErr p 3 0).count p 9 1) := by
    intro i
    rw [State.portErr, State.slice_count, State.slice_setErr, State.slice_modPort]
    exact none i
  have bit : (((s.modPort p fun x => { x with lastFail := cause }).portErr p 3 0).count p 9 1).bit (portReg p 0xC) 3 = true := by
    rw [State.bit, State.rd_count]
    exact bit_portErr _ _ _ _ (by decide)
  have apart : portReg p 4 ≠ portReg p 0xC := by unfold portReg; omega
  have enable (i : Nat) (hi : i < 32) : (((s.modPort p fun x => { x with lastFail := cause }).portErr p 3 0).count p 9 1).bit (portReg p 4) i =
      s.bit (portReg p 4) i := by
    rw [State.bit, State.rd_count, State.portErr, ← State.bit, State.bit_setErr_other _ _ _ _ _ (Or.inl apart) hi, State.bit,
      State.rd_modPort, State.bit]
  have port : (((s.modPort p fun x => { x with lastFail := cause }).portErr p 3 0).count p 9 1).port p = { s.port p with lastFail := cause } := by
    rw [State.portErr, State.port_count, State.port_setErr, State.port_modPort_same]
  have acts : PortActs s (((s.modPort p fun x => { x with lastFail := cause }).portErr p 3 0).count p 9 1) p :=
    ((portActs_modPort ..).trans (portActs_portErr ..)).trans (portActs_count ..)
  generalize ((s.modPort p fun x => { x with lastFail := cause }).portErr p 3 0).count p 9 1 = u at none' bit enable port acts ⊢
  obtain ⟨hbm, cores, boot⟩ := emptyPort_rest (p := p) (st := .down) none'
  refine ⟨?_, ?_, fun i hi => ?_, hbm.trans (by rw [acts.rest]), cores.trans (by rw [acts.rest]), boot.trans (by rw [acts.rest])⟩
  · rw [emptyPort_port none' (Or.inl rfl), port]
    rfl
  · rw [State.bit, emptyPort_rd none' hp (by decide)]
    exact bit
  · rw [State.bit, emptyPort_rd none' hp (by decide)]
    exact enable i hi

end Sys2Proof.Machine

open Sys2Proof Sys2Proof.Machine

/-- Settles O24: each link error takes its port to the replay, to RECOVER or down, and the end of RECOVER back to ACTIVE. -/
theorem linkErrorsAreReplayedOrRecovered : Obligations.LinkErrorsAreReplayedOrRecovered := by
  refine ⟨fun s p f l lim hp st replay limit => ⟨fun spent => ⟨fun ack unnamed noMsgs => ?_, ?_⟩, fun left => ⟨fun ack unnamed noMsgs => ?_, ?_⟩⟩,
    fun s p hp => ⟨fun lane n st on many sound => ?_, fun lane st sound => ?_, fun rx st activity => ?_, relockTimeout_port hp⟩,
    fun s p hp st => ⟨fun r q ack lit kept passed noMsgs unnamed => ?_, fun none => ?_⟩⟩
  · obtain ⟨only, port⟩ := takeAck_none unnamed noMsgs
    have step := nakReceive_starts (ack := ack) hp st
    generalize takeAck s p ack = u at only port step
    have same : (u.port p).replay = f :: l := by rw [port, replay]
    have limit' : replayLimit u p = lim := by rw [limit, replayLimit, State.fld, only.rest]; rfl
    obtain ⟨st', reeq, kept, bit, others, rest⟩ := startReplay_givesUp same (limit' ▸ spent)
    exact ⟨_, step, st', reeq, by rw [kept, port], bit, fun q hq => (others q hq).trans (only.others q hq), by rw [rest, only.rest]⟩
  · obtain ⟨st', reeq, kept, bit, others, rest⟩ := startReplay_givesUp replay (Nat.le_trans (Nat.le_of_eq limit.symm) spent)
    exact ⟨_, replayTimeout_starts hp st, st', reeq, kept, bit, others, rest⟩
  · obtain ⟨only, port⟩ := takeAck_none unnamed noMsgs
    have step := nakReceive_starts (ack := ack) hp st
    generalize takeAck s p ack = u at only port step
    have same : (u.port p).replay = f :: l := by rw [port, replay]
    have limit' : replayLimit u p = lim := by rw [limit, replayLimit, State.fld, only.rest]; rfl
    obtain ⟨kept, resend, st', bit, others, rest⟩ := startReplay_replays same (limit' ▸ left)
    exact ⟨_, step, by rw [kept, port], by rw [resend, port], by rw [st', port, st], bit, fun q hq => (others q hq).trans (only.others q hq),
      by rw [rest, only.rest]⟩
  · obtain ⟨kept, resend, st', bit, others, rest⟩ := startReplay_replays replay (Nat.lt_of_lt_of_le left (Nat.le_of_eq limit))
    exact ⟨_, replayTimeout_starts hp st, kept, resend, st'.trans st, bit, others, rest⟩
  · obtain ⟨port, bad, recovered, degraded, acts⟩ := lane_lost lane.isLt sound
    exact ⟨_, laneErrorWindow_recovers hp lane n st on many sound, by rw [port], by rw [port], bad, recovered, degraded, acts.others, acts.rest⟩
  · have sound' : (s.modPort p fun x => { x with locked := x.locked &&& ~~~ (BitVec.ofNat 8 (2 ^ lane.toNat)) }).bit (portReg p 0x10) lane.toNat = false :=
      sound
    have step := laneLockLoss_recovers hp lane st sound
    have unlocked : ((s.modPort p fun x => { x with locked := x.locked &&& ~~~ (BitVec.ofNat 8 (2 ^ lane.toNat)) }).port p).locked.getLsbD lane.toNat = false := by
      rw [State.port_modPort_same]
      exact getLsbD_cleared ..
    have first := portActs_modPort s p fun x => { x with locked := x.locked &&& ~~~ (BitVec.ofNat 8 (2 ^ lane.toNat)) }
    generalize (s.modPort p fun x => { x with locked := x.locked &&& ~~~ (BitVec.ofNat 8 (2 ^ lane.toNat)) }) = u at sound' step unlocked first
    obtain ⟨port, bad, -, -, acts⟩ := lane_lost lane.isLt sound'
    have acts := first.trans acts
    exact ⟨_, step, by rw [port], by rw [port], by rw [port]; exact unlocked, bad, acts.others, acts.rest⟩
  · have step := linkIdleWake_recovers hp rx st activity
    have woken := wake_frame s (4 + p)
    have ports := wake_port s (4 + p)
    generalize s.wake (4 + p) = u at step woken ports
    obtain ⟨port, -, -, others, rest⟩ := enterRecover_recovers u p false
    generalize enterRecover u p false = v at step port others rest
    refine ⟨_, step, ?_, ?_, ?_, ?_, ?_, fun q hq => ?_, ?_⟩
    · rw [State.port_modPort_same, port]
    · rw [State.port_modPort_same, port]
    · rw [State.port_modPort_same]
    · rw [State.port_modPort_same, port, ports]
    · rw [State.port_modPort_same, port, ports]
    · rw [State.port_modPort_other _ _ hq, others q hq, ports]
    · rw [rest, woken]
      rfl
  · have step := recoverComplete_activates (r := r) (q := q) (ack := ack) hp st lit kept passed
    have only := setWidth_onlyPort s p q ((s.port p).x4 && !(s.port p).retrain)
    obtain ⟨x4, half, bad, dev, fab, port⟩ := setWidth_port s p q ((s.port p).x4 && !(s.port p).retrain)
    generalize setWidth s p q ((s.port p).x4 && !(s.port p).retrain) = u at step only port
    obtain ⟨only', port'⟩ := takeAck_none (s := u) (p := p) (ack := ack) (by rw [port]; exact unnamed) (by rw [port]; exact noMsgs)
    generalize takeAck u p ack = v at step only' port'
    have only'' := (only.trans only').trans (onlyPort_modPort v p (recoveredPort r))
    refine ⟨_, step, ?_, ?_, ?_, ?_, ?_, ?_, only''.others, only''.rest⟩
    all_goals rw [State.port_modPort_same, port', port]; rfl
  · have step : exec (.recoverOverrun p) s = .next (linkDown s p 10) := onUnit_if hp st _ _
    obtain ⟨port, bit, -, hbm, cores, -⟩ := linkDown_down hp none 10
    exact ⟨_, step, by rw [port], by rw [port], by rw [port]; rfl, by rw [port]; rfl, by rw [port]; rfl, bit, hbm, cores⟩
end

section
/-! PROOF. The port commands and LINK_IDLE (R126, R128, R134, R136). -/
namespace Sys2Proof.Machine
open Config

variable {s t u : State} {m : Master} {p : Nat}

/-! ## PORT_CTL (R134, R137) -/

theorem ordinary_portCtl (hp : p < nPorts) : Ordinary (portReg p 4) := by
  have eq : portReg p 4 = 0x100000 + p * 0x10000 + 4 := rfl
  have block : blockAt (portReg p 4) = .port p := blockAt_portReg hp (by decide)
  have fields : regFields (portReg p 4) = portFields 4 := regFields_portReg hp (by decide)
  refine { apart := Or.inr (by omega), aligned := by omega, single := by rw [pairLow, block], listed := by rw [fields]; decide,
           unlocked := by rw [fields]; decide, noDoorbell := fun n => by rw [block]; exact Block.noConfusion, noCounter := fun h => ?_ }
  rw [block] at h
  exact Block.noConfusion h.1

theorem startWrite_portCtl (s : State) (m : Master) (hp : p < nPorts) (old v : Word) :
    startWrite s m (portReg p 4) old v = startPort s p (old.getLsbD 0) v := by
  have block : blockAt (portReg p 4) = .port p := blockAt_portReg hp (by decide)
  simp only [startWrite, block, show portReg p 4 - (Block.port p).base = 4 from Nat.add_sub_cancel_left .., if_true]

/-- One bit of PORT_CTL is written: EN as it is but for the bit that changes, the commands as written. -/
theorem writeField_portCtl (h : CwReach s m (portReg p 4)) (hp : p < nPorts) (noCmd : s.fld (portReg p 4) 1 2 = 0) {lo : Nat} (v : Nat) :
    ∃ u w, writeField s m (portReg p 4) lo 1 v = startPort u p (s.bit (portReg p 4) 0) w ∧ RegStored s u (portReg p 4) ∧
      u.bit (portReg p 4) 0 = w.getLsbD 0 ∧
      ∀ i < 3, w.getLsbD i = if i = lo then v.testBit 0 else i == 0 && s.bit (portReg p 4) 0 := by
  have block : blockAt (portReg p 4) = .port p := blockAt_portReg hp (by decide)
  have fields : regFields (portReg p 4) = portFields 4 := regFields_portReg hp (by decide)
  have noMw : ((regFields (portReg p 4)).any fun f => f.ty == .mw) = false := by rw [fields]; decide
  have clears : (selfClear (portReg p 4)).testBit 0 = false := by
    simp only [selfClear, block, show portReg p 4 - (Block.port p).base = 4 from Nat.add_sub_cancel_left .., if_true]
    decide
  have held (i : Nat) (hi : i < 3) : (maskOf (regFields (portReg p 4)) fun f => f.ty == .rw || f.ty == .w1l).testBit i = true := by
    rw [fields]
    interval_cases i <;> decide
  have noW1c : (maskOf (regFields (portReg p 4)) fun f => f.ty == .w1c).testBit 0 = false := by rw [fields]; decide
  have cmds (i : Nat) (hi : i = 1 ∨ i = 2) : s.bit (portReg p 4) i = false := by
    have zero : ((s.rd (portReg p 4)).toNat / 2 % 2 ^ 2) = 0 := noCmd
    rw [State.bit, ← BitVec.testBit_toNat, Nat.testBit_eq_decide_div_mod_eq]
    rcases hi with rfl | rfl
    · simp only [decide_eq_false_iff_not]; omega
    · simp only [decide_eq_false_iff_not]; omega
  obtain ⟨u, written, stored, value⟩ := h.writes (ordinary_portCtl hp) (v := keepRest s (portReg p 4) lo 1 v)
    fun t => filterWrite_other (by rw [block]; exact Block.noConfusion) (by rw [block]; exact Block.noConfusion)
      (by rw [block]; exact Block.noConfusion) (by rw [block]; exact Block.noConfusion) (by rw [block]; exact Block.noConfusion)
  rw [startWrite_portCtl u m hp] at written
  refine ⟨u, _, written, stored, ?_, fun i hi => ?_⟩
  · rw [State.bit, value]
    exact writtenValue_rw (by decide) noMw (by rw [wholeValue, block]) (held 0 (by decide)) clears noW1c
  · rw [keepRest_bit s _ lo 1 v (by omega) (Or.inr (held i hi))]
    by_cases hlo : i = lo
    · subst hlo; simp
    · rw [if_neg (by omega), if_neg hlo]
      by_cases zero : i = 0
      · subst zero
        rfl
      · rw [cmds i (by omega), beq_false_of_ne zero, Bool.false_and]

/-- From a state in which only registers were written, the port and what awaits it are as before. -/
theorem RegStored.port {off : Nat} (h : RegStored s u off) (q : Nat) : u.port q = s.port q := by
  rw [h.rest]
  rfl

theorem RegStored.noneAwaited {off : Nat} (h : RegStored s u off) (none : NoneAwaited s) : NoneAwaited u := fun i => by
  rw [State.slice, h.rest]
  exact none i

/-- A command bit reads 0 once the command is taken, EN as it was (R60). -/
theorem portCtl_cleared (s : State) (lo w : Nat) (j : Nat) (hj : j < 32) : (s.setFld (portReg p 4) lo w 0).bit (portReg p 4) j =
    if lo ≤ j ∧ j < lo + w then false else s.bit (portReg p 4) j := by
  rw [State.bit_setFld _ _ _ _ _ hj, Nat.zero_testBit]

/-! ## The commands (R126, R134, R136) -/

theorem portEnable_detects (h : CwReach s m (portReg p 4)) (hp : p < nPorts) (alive : s.boot.fatal = false)
    (noCmd : s.fld (portReg p 4) 1 2 = 0) (off : s.portEn p = false) (st : (s.port p).st = .disabled ∨ (s.port p).st = .down) :
    ∃ t, exec (.portEnable m p) s = .next t ∧ t.portEn p = true ∧ t.port p = { s.port p with st := .detect, quiesced := false } ∧
      (∀ q, q ≠ p → t.port q = s.port q) ∧ t = { s with ports := t.ports, reg := t.reg } := by
  obtain ⟨u, w, written, stored, en, bits⟩ := writeField_portCtl (lo := 0) h hp noCmd 1
  have enable : exec (.portEnable m p) s = .next (writeField s m (portReg p 4) 0 1 1) := onUnit_next hp _
  have bit0 : w.getLsbD 0 = true := bits 0 (by decide)
  have bit1 : w.getLsbD 1 = false := bits 1 (by decide)
  have bit2 : w.getLsbD 2 = false := bits 2 (by decide)
  have alive' : u.boot.fatal = false := by rw [stored.rest]; exact alive
  have was : s.bit (portReg p 4) 0 = false := off
  have started : startPort u p (s.bit (portReg p 4) 0) w = (u.modPort p fun x => { x with st := .detect, quiesced := false }).setFld (portReg p 4) 2 1 0 := by
    simp only [startPort, bit0, bit1, bit2, was, Bool.true_eq_false, Bool.false_eq_true, if_false, Bool.false_and]
    rw [enablePort, if_neg (by rw [alive']; exact Bool.false_ne_true), if_pos (by rw [stored.port]; exact st)]
  refine ⟨_, enable.trans (congrArg Host.Outcome.next (written.trans started)), ?_, ?_, fun q hq => ?_, ?_⟩
  · rw [State.portEn, portCtl_cleared _ 2 1 0 (by decide), if_neg (by decide), State.bit, State.rd_modPort]
    exact en.trans bit0
  · rw [State.port_setFld, State.port_modPort_same, stored.port]
  · rw [State.port_setFld, State.port_modPort_other _ _ hq, stored.port]
  · rw [State.setFld, State.wr_frame, stored.rest]
    rfl

theorem portDisable_quiesces (h : CwReach s m (portReg p 4)) (hp : p < nPorts) (noCmd : s.fld (portReg p 4) 1 2 = 0)
    (on : (s.port p).st ≠ .disabled) (busy : (s.port p).st ≠ .quiesce) (none : NoneAwaited s) :
    ∃ t, exec (.portDisable m p) s = .next t ∧ t.portEn p = false ∧ (t.port p).st = .quiesce ∧
      (t.port p).egress = [] ∧ (t.port p).rxq = [] ∧ (t.port p).replay = [] ∧ t.hbm = s.hbm := by
  obtain ⟨u, w, written, stored, en, bits⟩ := writeField_portCtl (lo := 0) h hp noCmd 0
  have disable : exec (.portDisable m p) s = .next (writeField s m (portReg p 4) 0 1 0) := onUnit_next hp _
  have bit0 : w.getLsbD 0 = false := bits 0 (by decide)
  have none' := stored.noneAwaited none
  have port : (emptyPort u p .quiesce).port p = { portCleared (s.port p) with st := .quiesce } := by
    rw [emptyPort_port none' (Or.inr rfl), stored.port]
  have started : startPort u p (s.bit (portReg p 4) 0) w = (emptyPort u p .quiesce).setFld (portReg p 4) 1 2 0 := by
    simp only [startPort, bit0, if_true]
    rw [disablePort, if_neg (by rw [stored.port]; exact fun c => c.elim on busy)]
  refine ⟨_, disable.trans (congrArg Host.Outcome.next (written.trans started)), ?_, ?_, ?_, ?_, ?_, ?_⟩
  · rw [State.portEn, portCtl_cleared _ 1 2 0 (by decide), if_neg (by decide), State.bit, emptyPort_rd none' hp (by decide)]
    exact en.trans bit0
  · rw [State.port_setFld, port]
  · rw [State.port_setFld, port]; rfl
  · rw [State.port_setFld, port]; rfl
  · rw [State.port_setFld, port]; rfl
  · rw [State.setFld_hbm, (emptyPort_rest none').1, stored.rest]

theorem portReset_downs (h : CwReach s m (portReg p 4)) (hp : p < nPorts) (alive : s.boot.fatal = false)
    (noCmd : s.fld (portReg p 4) 1 2 = 0) (on : s.portEn p = true) (none : NoneAwaited s) :
    ∃ t, exec (.portReset m p) s = .next t ∧ (t.port p).st = .down ∧ (t.port p).lastFail = 10 ∧
      (t.port p).egress = [] ∧ (t.port p).replay = [] ∧ t.bit (portReg p 4) 2 = false ∧ t.bit (portReg p 0xC) 3 = true ∧
      t.hbm = s.hbm := by
  obtain ⟨u, w, written, stored, -, bits⟩ := writeField_portCtl (lo := 2) h hp noCmd 1
  have reset : exec (.portReset m p) s = .next (writeField s m (portReg p 4) 2 1 1) := onUnit_next hp _
  have was : s.bit (portReg p 4) 0 = true := on
  have bit0 : w.getLsbD 0 = true := (bits 0 (by decide)).trans (by rw [was]; rfl)
  have bit1 : w.getLsbD 1 = false := bits 1 (by decide)
  have bit2 : w.getLsbD 2 = true := bits 2 (by decide)
  have alive' : u.boot.fatal = false := by rw [stored.rest]; exact alive
  have started : startPort u p (s.bit (portReg p 4) 0) w = (linkDown u p 10).setFld (portReg p 4) 2 1 0 := by
    simp only [startPort, bit0, bit1, bit2, was, alive', Bool.true_eq_false, Bool.false_eq_true, if_false, if_true, Bool.not_false, Bool.and_self]
    rfl
  obtain ⟨port, bit, -, hbm, -, -⟩ := linkDown_down hp (stored.noneAwaited none) 10
  rw [stored.port] at port
  have apart : portReg p 0xC ≠ portReg p 4 := by unfold portReg; omega
  refine ⟨_, reset.trans (congrArg Host.Outcome.next (written.trans started)), ?_, ?_, ?_, ?_, ?_, ?_, ?_⟩
  · rw [State.port_setFld, port]
  · rw [State.port_setFld, port]
  · rw [State.port_setFld, port]; rfl
  · rw [State.port_setFld, port]; rfl
  · rw [portCtl_cleared _ 2 1 2 (by decide), if_pos (by decide)]
  · rw [State.bit, State.rd_setFld_other _ _ _ _ apart]
    exact bit
  · rw [State.setFld_hbm, hbm, stored.rest]

theorem portRetrain_recovers (h : CwReach s m (portReg p 4)) (hp : p < nPorts) (noCmd : s.fld (portReg p 4) 1 2 = 0)
    (on : s.portEn p = true) (st : (s.port p).st = .active ∨ (s.port p).st = .linkIdle) :
    ∃ t, exec (.portRetrain m p) s = .next t ∧ (t.port p).st = .recover ∧ (t.port p).reeq = true ∧
      (t.port p).retrain = true ∧ t.bit (portReg p 4) 1 = false ∧ (t.port p).egress = (s.port p).egress ∧
      (t.port p).replay = (s.port p).replay ∧ (∀ q, q ≠ p → t.port q = s.port q) ∧ t.hbm = s.hbm := by
  obtain ⟨u, w, written, stored, -, bits⟩ := writeField_portCtl (lo := 1) h hp noCmd 1
  have retrain : exec (.portRetrain m p) s = .next (writeField s m (portReg p 4) 1 1 1) := onUnit_next hp _
  have was : s.bit (portReg p 4) 0 = true := on
  have bit0 : w.getLsbD 0 = true := (bits 0 (by decide)).trans (by rw [was]; rfl)
  have bit1 : w.getLsbD 1 = true := bits 1 (by decide)
  have bit2 : w.getLsbD 2 = false := bits 2 (by decide)
  have ports (q : Nat) : (u.setFld (portReg p 4) 2 1 0).port q = s.port q := (State.port_setFld ..).trans (stored.port q)
  have hbm : (u.setFld (portReg p 4) 2 1 0).hbm = s.hbm := by rw [State.setFld_hbm, stored.rest]
  have started : startPort u p (s.bit (portReg p 4) 0) w = retrainPort (u.setFld (portReg p 4) 2 1 0) p := by
    simp only [startPort, bit0, bit1, bit2, was, Bool.true_eq_false, Bool.false_eq_true, if_false, if_true, Bool.false_and]
  rw [started] at written
  generalize u.setFld (portReg p 4) 2 1 0 = v at ports hbm written
  have recovered : retrainPort v p =
      ((enterRecover (v.wake (4 + p)) p true).modPort p fun x => { x with retrain := true }).setFld (portReg p 4) 1 1 0 := by
    unfold retrainPort
    rw [ports]
    rcases st with st | st
    · rw [st]
    · rw [st]
  rw [recovered] at written
  have woken := wake_port v (4 + p)
  have hbm' : (v.wake (4 + p)).hbm = s.hbm := by rw [wake_frame]; exact hbm
  generalize v.wake (4 + p) = x at written woken hbm'
  obtain ⟨port, -, -, others, rest⟩ := enterRecover_recovers x p true
  rw [woken, ports] at port
  generalize enterRecover x p true = y at written port others rest
  refine ⟨_, retrain.trans (congrArg Host.Outcome.next written), ?_, ?_, ?_, ?_, ?_, ?_, fun q hq => ?_, ?_⟩
  · rw [State.port_setFld, State.port_modPort_same, port]
  · rw [State.port_setFld, State.port_modPort_same, port]
  · rw [State.port_setFld, State.port_modPort_same]
  · rw [portCtl_cleared _ 1 1 1 (by decide), if_pos (by decide)]
  · rw [State.port_setFld, State.port_modPort_same, port]
  · rw [State.port_setFld, State.port_modPort_same, port]
  · rw [State.port_setFld, State.port_modPort_other _ _ hq, others q hq, woken, ports]
  · rw [State.setFld_hbm, State.modPort_hbm, rest]
    exact hbm'

/-! ## LINK_IDLE (R128) -/

/-- From s to t port p has put flits on its wire. -/
structure OnWire (s t : State) (p : Nat) : Prop where
  port : ∃ tx w n, t.port p = { s.port p with lastTx := tx, wire := w, sinceIdle := n }
  only : OnlyPort s t p

theorem OnWire.trans (h : OnWire s t p) (h' : OnWire t u p) : OnWire s u p := by
  obtain ⟨tx, w, n, port⟩ := h.port
  obtain ⟨tx', w', n', port'⟩ := h'.port
  exact ⟨⟨tx', w', n', by rw [port', port]⟩, h.only.trans h'.only⟩

theorem onWire_putWire (s : State) (p : Nat) (hdr : Word) (area : List Word) : OnWire s (putWire s p hdr area) p := by
  unfold putWire
  refine ⟨?_, onlyPort_modPort ..⟩
  rw [State.port_modPort_same]
  split
  · exact ⟨_, _, _, rfl⟩
  · exact ⟨_, _, _, rfl⟩

theorem onWire_sinceIdle (s : State) (p : Nat) (f : Port → Nat) : OnWire s (s.modPort p fun y => { y with sinceIdle := f y }) p :=
  ⟨⟨_, _, _, State.port_modPort_same ..⟩, onlyPort_modPort ..⟩

theorem onWire_sendIdle (s : State) (p : Nat) : OnWire s (sendIdle s p) p :=
  (onWire_putWire ..).trans (onWire_sinceIdle _ p fun _ => 0)

theorem onWire_idleIfDue (s : State) (p : Nat) : OnWire s (idleIfDue s p) p := by
  unfold idleIfDue
  split
  · exact onWire_sendIdle ..
  · exact ⟨⟨_, _, _, rfl⟩, onlyPort_refl ..⟩

theorem onWire_sendBare (s : State) (p kind : Nat) : OnWire s (sendBare s p kind) p :=
  ((onWire_idleIfDue s p).trans (onWire_putWire ..)).trans (onWire_sinceIdle _ p fun y => y.sinceIdle + 1)

/-- The port is in LINK_IDLE (R128). -/
structure Idles (s t : State) (p : Nat) : Prop where
  st : (t.port p).st = .linkIdle
  req : (t.port p).idleReq = false
  others : ∀ q, q ≠ p → t.port q = s.port q
  rest : t = { s with ports := t.ports, acc := t.acc, doms := t.doms }

theorem enterIdle_idles (s : State) (p : Nat) : Idles s (enterIdle s p) p ∧
    ((s.port p).idleReq = false → enterIdle s p = { s with ports := (enterIdle s p).ports, acc := (enterIdle s p).acc }) := by
  unfold enterIdle
  dsimp only
  have port : (((s.modPort p fun x => { x with st := .linkIdle, idleReq := false, locked := 0, sigDet := 0 }).count p 14 1).port p) =
      { s.port p with st := .linkIdle, idleReq := false, locked := 0, sigDet := 0 } := by
    rw [State.port_count, State.port_modPort_same]
  have others (q : Nat) (hq : q ≠ p) : (((s.modPort p fun x => { x with st := .linkIdle, idleReq := false, locked := 0, sigDet := 0 }).count p 14 1).port q) =
      s.port q := by
    rw [State.port_count, State.port_modPort_other _ _ hq]
  have rest := State.count_frame (s.modPort p fun x => { x with st := .linkIdle, idleReq := false, locked := 0, sigDet := 0 }) p 14 1
  generalize (s.modPort p fun x => { x with st := .linkIdle, idleReq := false, locked := 0, sigDet := 0 }).count p 14 1 = u at port others rest
  refine ⟨?_, fun none => ?_⟩
  · split
    · exact ⟨(congrArg Port.st port :), (congrArg Port.idleReq port :), others, by rw [rest]; rfl⟩
    · exact ⟨by rw [port], by rw [port], others, by rw [rest]; rfl⟩
  · rw [none, Bool.false_and, if_neg Bool.false_ne_true, rest]
    rfl

end Sys2Proof.Machine

open Sys2Proof Sys2Proof.Machine

/-- Settles O25: each command acts on its own port, and LINK_IDLE is entered from both sides. -/
theorem portCommandsAndLinkIdleActOnTheirPort : Obligations.PortCommandsAndLinkIdleActOnTheirPort := by
  refine ⟨fun s m p hp h alive noCmd => ⟨portEnable_detects h hp alive noCmd, portDisable_quiesces h hp noCmd,
    portReset_downs h hp alive noCmd, portRetrain_recovers h hp noCmd⟩, fun s p hp st => ⟨fun noReq ready => ?_, fun req => ⟨?_, ?_⟩⟩⟩
  · have step : exec (.idleReqReceive p) s = .next (enterIdle (sendBare s p kindControl) p) := by
      refine (onUnit_if hp st _ _).trans (congrArg Host.Outcome.next ?_)
      rw [noReq, if_neg Bool.false_ne_true, if_pos ready]
    obtain ⟨⟨tx, w, n, port⟩, only⟩ := onWire_sendBare s p kindControl
    generalize sendBare s p kindControl = u at step port only
    obtain ⟨⟨st', -, others, -⟩, frame⟩ := enterIdle_idles u p
    refine ⟨_, step, st', fun q hq => (others q hq).trans (only.others q hq), ?_⟩
    rw [frame (by rw [port]; exact noReq), only.rest]
  · have step : exec (.idleAckReceive p) s = .next (enterIdle s p) := onUnit_if hp ⟨st, req⟩ _ _
    obtain ⟨⟨st', req', others, rest⟩, -⟩ := enterIdle_idles s p
    exact ⟨_, step, st', req', others, rest⟩
  · exact ⟨_, onUnit_next hp _, onlyPort_modPort .., State.port_modPort_same ..⟩
end

section
/-! PROOF. Flits that a port takes, discards and sends (R104, R107, R110–R112, R114). -/
namespace Sys2Proof.Machine
open Config

variable {s t u : State} {p : Nat}

/-- From s to t nothing differs but port p and counts. -/
structure PortCounts (s t : State) (p : Nat) : Prop where
  others : ∀ q, q ≠ p → t.port q = s.port q
  rest : t = { s with ports := t.ports, acc := t.acc }

theorem PortCounts.trans (h : PortCounts s t p) (h' : PortCounts t u p) : PortCounts s u p :=
  ⟨fun q hq => (h'.others q hq).trans (h.others q hq), by rw [h'.rest, h.rest]⟩

theorem OnlyPort.counts (h : OnlyPort s t p) : PortCounts s t p := ⟨h.others, by rw [h.rest]⟩

theorem portCounts_modPort (s : State) (p : Nat) (f : Port → Port) : PortCounts s (s.modPort p f) p := (onlyPort_modPort ..).counts

theorem portCounts_count (s : State) (p g i n : Nat) : PortCounts s (s.count g i n) p :=
  ⟨fun _ _ => State.port_count .., by rw [State.count_frame]⟩

theorem PortCounts.reg (h : PortCounts s t p) : t.reg = s.reg := by rw [h.rest]

theorem PortCounts.bit (h : PortCounts s t p) (x i : Nat) : t.bit x i = s.bit x i := by rw [State.bit, State.bit, State.rd_congr h.reg]

/-! ## A good payload flit (R107, R110, R112) -/

/-- A payload flit of one message, as it stands in its bytes. -/
structure GoodFlit (s : State) (p : Nat) (bytes : List Byte) (h : Word) (area : List Word) (m : Msg) : Prop where
  length : bytes.length = 256
  crc : crc64 (bytes.take (bytes.length - 8)) = ofBytesLE (bytes.drop (bytes.length - 8))
  words : wordsOfBytes (bytes.take (bytes.length - 8)) = h :: area
  kind : wfld h 0 2 = kindPayload
  noCredit : wfld h 20 3 = 7
  message : parseArea area.length area = some [m]

/-- The port after a payload flit of one message that it takes. -/
def tookFlit (s : State) (p : Nat) (m : Msg) (x : Port) : Port :=
  { x with
    resend := min x.resend x.replay.length
    rxLast := x.rxLast + 1
    discarding := false
    idleReq := false
    rxq := x.rxq ++ [{ m with priv := m.priv && (s.isFabric p || s.bit (portReg p 0) 8), hop := m.hop && s.isFabric p }] }

/-- A message that the catalogue allows and the receive buffer has room for joins it (R110, R144). -/
theorem acceptMsgs_one {m : Msg} (legal : msgLegal m (s.isFabric p) = true) (noCx : s.isCxPort p = false) (room : msgLen m ≤ rxFree s p m.vc)
    (alive : s.boot.fatal = false) : acceptMsgs s p [m] = ((s.modPort p fun x =>
      { x with rxq := x.rxq ++ [{ m with priv := m.priv && (s.isFabric p || s.bit (portReg p 0) 8), hop := m.hop && s.isFabric p }] }).count p 3 1) := by
  simp only [acceptMsgs, legal, noCx, alive, Bool.true_eq_false, Bool.false_and, Bool.false_eq_true, or_self, if_false,
    if_neg (Nat.not_lt_of_le room)]

theorem payloadFlit_takes {seq ack : BitVec 9} {crd : Nat} {area : List Word} {m : Msg} (next : seq = (s.port p).rxLast + 1)
    (message : parseArea area.length area = some [m]) (legal : msgLegal m (s.isFabric p) = true) (noCx : s.isCxPort p = false)
    (room : msgLen m ≤ rxFree s p m.vc) (alive : s.boot.fatal = false) (noReplay : (s.port p).replay = []) (noMsgs : (s.port p).ackMsgs = []) :
    PortCounts s (payloadFlit s p seq ack 7 crd area) p ∧
      (payloadFlit s p seq ack 7 crd area).port p = tookFlit s p m (s.port p) := by
  obtain ⟨only, port⟩ := takeAck_none (s := s) (p := p) (ack := ack) (by rw [noReplay]; exact fun g hg => absurd hg (List.not_mem_nil)) noMsgs
  unfold payloadFlit
  dsimp only
  rw [if_pos next]
  generalize takeAck s p ack = u at only port ⊢
  have taken := (only.counts.trans (portCounts_modPort u p fun x => { x with rxLast := seq, discarding := false, idleReq := false })).trans
    (portCounts_count _ p p 1 1)
  have port' : ((u.modPort p fun x => { x with rxLast := seq, discarding := false, idleReq := false }).count p 1 1).port p =
      { s.port p with resend := min (s.port p).resend (s.port p).replay.length, rxLast := seq, discarding := false, idleReq := false } := by
    rw [State.port_count, State.port_modPort_same, port]
  generalize (u.modPort p fun x => { x with rxLast := seq, discarding := false, idleReq := false }).count p 1 1 = v at taken port' ⊢
  rw [takeCredits, if_pos (Or.inl rfl)]
  dsimp only
  rw [message]
  dsimp only
  have fab : v.isFabric p = s.isFabric p := taken.bit ..
  have free : rxFree v p m.vc = rxFree s p m.vc := by
    simp only [rxFree, rxSpace, State.isFabric, State.isCxPort, taken.bit, port']
  rw [acceptMsgs_one (by rw [fab]; exact legal) ((taken.bit ..).trans noCx) (by rw [free]; exact room) (by rw [taken.rest]; exact alive)]
  refine ⟨(taken.trans (portCounts_modPort ..)).trans (portCounts_count ..), ?_⟩
  rw [State.port_count, State.port_modPort_same, port', fab, taken.bit, next]
  rfl

/-- A flit of a native port that came by RS decoding is judged by its kind (R107). -/
theorem goodFec_payload {bytes : List Byte} {h : Word} {area : List Word} {m : Msg} (good : GoodFlit s p bytes h area m)
    (noCx : s.isCxPort p = false) : goodFec s p bytes = payloadFlit s p (BitVec.ofNat 9 (wfld h 2 9)) (BitVec.ofNat 9 (wfld h 11 9)) 7 (wfld h 23 9) area := by
  obtain ⟨length, crc, words, kind, noCredit, -⟩ := good
  rw [length] at crc words
  have passes : crcGood s p bytes = true := by
    rw [crcGood, noCx, length]
    exact Bool.and_eq_true_iff.2 ⟨rfl, beq_iff_eq.2 crc⟩
  have notBare : ¬ (wfld h 0 2 ≠ kindPayload ∧ wfld h 23 9 ≠ 0) := fun c => c.1 kind
  rw [goodFec, noCx, passes]
  dsimp only
  rw [if_neg Bool.noConfusion, if_neg Bool.false_ne_true, words]
  dsimp only
  rw [if_neg notBare, if_pos kind, noCredit]

theorem flitReceive_good {bytes : List Byte} {rs : RsOutcome} {h : Word} {area : List Word} {m : Msg} (hp : p < nPorts)
    (st : (s.port p).st = .active) (isRs : s.bit (portReg p 0) 2 = true) (decoded : rs.bad = false) (noCx : s.isCxPort p = false)
    (good : GoodFlit s p bytes h area m) : exec (.flitReceive p bytes rs) s =
      .next (payloadFlit (s.count p 6 rs.corrected) p (BitVec.ofNat 9 (wfld h 2 9)) (BitVec.ofNat 9 (wfld h 11 9)) 7 (wfld h 23 9) area) := by
  refine (onUnit_next hp _).trans (congrArg Host.Outcome.next ?_)
  have noCodeword : isCodeword s p bytes = false := by rw [isCodeword, good.length]; exact Bool.and_false _
  have decode : fecDecode s p bytes rs = (some bytes, rs.corrected) := by
    rw [fecDecode, isRs, if_pos rfl, decoded, if_neg Bool.false_ne_true]
  rw [st]
  dsimp only
  rw [flitIn, noCodeword, if_neg Bool.false_ne_true, decode]
  dsimp only [Option.isNone]
  rw [if_neg Bool.false_ne_true, decodedFlit]
  have counted := portCounts_count s p p 6 rs.corrected
  exact goodFec_payload ⟨good.length, good.crc, good.words, good.kind, good.noCredit, good.message⟩ ((counted.bit ..).trans noCx)

/-! ## A flit that decoding gives up (R104, R112) -/

/-- From s to t flits of port p have been discarded. -/
structure Discards (s t : State) (p : Nat) : Prop where
  st : (t.port p).st = (s.port p).st
  rxq : (t.port p).rxq = (s.port p).rxq
  rxLast : (t.port p).rxLast = (s.port p).rxLast
  nak : (s.port p).nakDue = true ∨ (s.port p).discarding = false → (t.port p).nakDue = true
  err : t.bit (portReg p 0xC) 0 = true
  acts : PortActs s t p

theorem Discards.trans (h : Discards s t p) (h' : Discards t u p) : Discards s u p :=
  ⟨h'.st.trans h.st, h'.rxq.trans h.rxq, h'.rxLast.trans h.rxLast, fun owed => h'.nak (Or.inl (h.nak owed)), h'.err, h.acts.trans h'.acts⟩

theorem badFlit_discards (s : State) (p : Nat) : Discards s (badFlit s p) p := by
  have acts : PortActs s ((s.portErr p 0 0).count p 4 1) p := (portActs_portErr ..).trans (portActs_count ..)
  have bit : ((s.portErr p 0 0).count p 4 1).bit (portReg p 0xC) 0 = true := by
    rw [State.bit, State.rd_count]
    exact bit_portErr _ _ _ _ (by decide)
  have port : ((s.portErr p 0 0).count p 4 1).port p = s.port p := by rw [State.portErr, State.port_count, State.port_setErr]
  unfold badFlit
  generalize (s.portErr p 0 0).count p 4 1 = u at acts bit port ⊢
  refine ⟨?_, ?_, ?_, fun owed => ?_, bit, acts.trans (portActs_modPort ..)⟩
  · rw [State.port_modPort_same, port]
  · rw [State.port_modPort_same, port]
  · rw [State.port_modPort_same, port]
  · rw [State.port_modPort_same, port]
    rcases owed with owed | first
    · rw [owed, Bool.true_or]
    · rw [first, Bool.not_false, Bool.or_true]

/-- The flits of a codeword that cannot be corrected are discarded one by one. -/
theorem badFlits_discard {l : List (Option (List Byte))} (lost : ∀ f ∈ l, f = none) (some : l ≠ []) (st : (s.port p).st = .active) :
    Discards s (l.foldl (fun s f => if (s.port p).st = .active then decodedFlit s p f else s) s) p := by
  induction l generalizing s with
  | nil => exact absurd rfl some
  | cons f l ih =>
    have first : Discards s (if (s.port p).st = .active then decodedFlit s p f else s) p := by
      rw [if_pos st, lost f (List.mem_cons_self ..)]
      exact badFlit_discards s p
    rw [List.foldl_cons]
    cases l with
    | nil => exact first
    | cons g l => exact first.trans (ih (fun h hm => lost h (List.mem_cons_of_mem _ hm)) (List.cons_ne_nil _ _) (first.st.trans st))

theorem markFlits_bad (l : List (List Byte)) : (∀ f ∈ markFlits true true l, f = none) ∧ (markFlits true true l = [] → l = []) := by
  cases l with
  | nil => exact ⟨fun f hf => absurd hf List.not_mem_nil, fun _ => rfl⟩
  | cons g l =>
    refine ⟨fun f hf => ?_, fun h => absurd h (List.cons_ne_nil _ _)⟩
    rcases List.mem_cons.1 hf with rfl | hf
    · rfl
    · obtain ⟨_, -, rfl⟩ := List.mem_map.1 hf
      rfl

/-- A codeword holds the end of a flit at least. -/
theorem takeFlits_ne_nil {n v len : Nat} (h : 8 * n ≤ len) (k : Nat) : (takeFlits n (k + 1) v len).1 ≠ [] := by
  rw [takeFlits, if_neg (Nat.not_lt_of_le h)]
  exact List.cons_ne_nil _ _

/-- What a codeword leaves that cannot be corrected. -/
theorem take_uncorrectable {x : RxStream} {n : Nat} {bytes : List Byte} (lost : rsDecode (symbolsOf 544 (ofBytesLE bytes)) = none)
    (small : n ≤ 256) : (∀ f ∈ (x.take n bytes).1, f = none) ∧ (x.take n bytes).1 ≠ [] ∧ (x.take n bytes).2.2 = none := by
  rw [RxStream.take, lost]
  obtain ⟨all, nonempty⟩ := markFlits_bad (takeFlits n 41 (x.bits + 2 ^ x.count * 0) (x.count + 5140)).1
  exact ⟨all, fun h => takeFlits_ne_nil (by omega) 40 (nonempty h), rfl⟩

theorem flitLen_le (s : State) (p : Nat) : flitLen s p ≤ 256 := by
  unfold flitLen
  split <;> decide

/-- What a port keeps between codewords, and counts, make no difference to what is discarded. -/
theorem Discards.after {rx : RxStream} (h : Discards u t p) (port : u.port p = { s.port p with rx := rx }) (acts : PortActs s u p) :
    Discards s t p := by
  obtain ⟨st, rxq, rxLast, nak, err, acts'⟩ := h
  rw [port] at st rxq rxLast nak
  exact ⟨st, rxq, rxLast, nak, err, acts.trans acts'⟩

/-- A codeword that RS decoding gives up is discarded (R104). -/
theorem flitIn_codeword {bytes : List Byte} (rs : RsOutcome) (st : (s.port p).st = .active) (codeword : isCodeword s p bytes = true)
    (lost : rsDecode (symbolsOf 544 (ofBytesLE bytes)) = none) : Discards s (flitIn s p bytes rs) p := by
  obtain ⟨all, nonempty, none⟩ := take_uncorrectable (x := (s.port p).rx) lost (flitLen_le s p)
  rw [flitIn, codeword, if_pos rfl]
  dsimp only
  rw [none]
  generalize (s.port p).rx.take (flitLen s p) bytes = r at all nonempty
  dsimp only
  have acts : PortActs s ((s.modPort p fun x => { x with rx := r.2.1 }).count p 7 1) p := (portActs_modPort ..).trans (portActs_count ..)
  have port : ((s.modPort p fun x => { x with rx := r.2.1 }).count p 7 1).port p = { s.port p with rx := r.2.1 } := by
    rw [State.port_count, State.port_modPort_same]
  generalize (s.modPort p fun x => { x with rx := r.2.1 }).count p 7 1 = u at acts port ⊢
  exact (badFlits_discard all nonempty (by rw [port]; exact st)).after port acts

/-- A flit that its sender reports as lost to RS decoding is discarded (R104, log entry 4). -/
theorem flitIn_reported {bytes : List Byte} {rs : RsOutcome} (isRs : s.bit (portReg p 0) 2 = true) (flit : isCodeword s p bytes = false)
    (lost : rs.bad = true) : Discards s (flitIn s p bytes rs) p := by
  have decode : fecDecode s p bytes rs = (none, rs.corrected) := by rw [fecDecode, isRs, if_pos rfl, lost, if_pos rfl]
  rw [flitIn, flit, if_neg Bool.false_ne_true, decode]
  dsimp only [Option.isNone]
  rw [if_pos rfl, decodedFlit]
  have acts : PortActs s ((s.count p 6 rs.corrected).count p 7 1) p := (portActs_count ..).trans (portActs_count ..)
  have port : ((s.count p 6 rs.corrected).count p 7 1).port p = { s.port p with rx := (s.port p).rx } := by
    rw [State.port_count, State.port_count]
  exact (badFlit_discards _ p).after port acts

theorem flitReceive_in {bytes : List Byte} {rs : RsOutcome} (hp : p < nPorts) (st : (s.port p).st = .active) :
    exec (.flitReceive p bytes rs) s = .next (flitIn s p bytes rs) := by
  refine (onUnit_next hp _).trans (congrArg Host.Outcome.next ?_)
  rw [st]

/-! ## A message leaves (R107, R109, R111, R114) -/

theorem getElem?_lmod {α : Type} (l : List α) (i : Nat) (f : α → α) (j : Nat) : (lmod l i f)[j]? = if j = i then l[j]?.map f else l[j]? := by
  induction l generalizing i j with
  | nil => simp [lmod]
  | cons x l ih =>
    cases i with
    | zero => cases j <;> simp [lmod]
    | succ i => cases j <;> simp [lmod, ih]

theorem nth_lmod_same {l : List Nat} {i : Nat} (h : i < l.length) (f : Nat → Nat) : nth (lmod l i f) i = f (nth l i) := by
  simp [nth, List.getD_eq_getElem?_getD, getElem?_lmod, List.getElem?_eq_getElem h]

theorem nth_lmod_other {l : List Nat} {i j : Nat} (h : j ≠ i) (f : Nat → Nat) : nth (lmod l i f) j = nth l j := by
  simp [nth, List.getD_eq_getElem?_getD, getElem?_lmod, h]

/-- The one message that waits goes, where it fits and its credits admit it. -/
theorem packMsgs_one {m : Msg} {room : Nat} {cred : List Nat} (fits : msgLen m ≤ room) (admitted : msgLen m ≤ nth cred m.vc) :
    packMsgs false [m] room cred [] = ([m], [], lmod cred m.vc (· - msgLen m)) := by
  have leaves : mayLeave false cred m = true := by
    rw [mayLeave]
    exact decide_eq_true (by simpa using admitted)
  simp [packMsgs, fits, leaves]

/-- A port that has one message to send, and nothing else to do first. -/
structure Sending (s : State) (p : Nat) (m : Msg) : Prop where
  egress : (s.port p).egress = [m]
  noNak : (s.port p).nakDue = false
  notDue : (s.port p).sinceIdle < 2047
  noResend : (s.port p).resend = 0
  room : (s.port p).replay.length < 128
  noFreed : (s.port p).rxFreed = [0, 0, 0, 0, 0, 0]
  host : s.isFabric p = false
  noAgentMsg : m.opc ≠ opcAGENT_MSG
  fits : msgLen m ≤ areaWords (s.isCxPort p)
  admitted : msgLen m ≤ nth (s.port p).txCred m.vc

/-- The flit that carries one message. -/
def oneFlit (s : State) (p : Nat) (m : Msg) : SentFlit := { seq := (s.port p).txSeq, crdVc := 7, crd := 0, area := msgWords m, replays := 0 }

/-- What a port has left once its message is on the wire. -/
def sentPort (s : State) (p : Nat) (m : Msg) (y : Port) : Port :=
  { y with
    egress := []
    txCred := lmod (s.port p).txCred m.vc (· - msgLen m)
    replay := y.replay ++ [oneFlit s p m]
    txSeq := y.txSeq + 1
    sinceIdle := y.sinceIdle + 1 }

theorem idleIfDue_not (h : (s.port p).sinceIdle < 2047) : idleIfDue s p = s := if_neg (Nat.not_le_of_lt h)

theorem flitOut_sends {m : Msg} (h : Sending s p m) : flitOut s p = (((((putWire s p
    (flitHeader kindPayload (s.port p).txSeq (s.port p).rxLast 7 0) (msgWords m)).modPort p (sentPort s p m)).count p 0 1).count p 2 1)).blotLeave m := by
  obtain ⟨egress, noNak, notDue, noResend, room, noFreed, host, noAgentMsg, fits, admitted⟩ := h
  have due : creditDue (s.port p) = (7, 0) := by rw [creditDue, noFreed]; rfl
  have packed := packMsgs_one fits admitted
  rw [flitOut, if_neg (Nat.not_le_of_lt notDue), noNak, if_neg Bool.false_ne_true, noResend, if_neg (Nat.lt_irrefl 0), sendNew]
  rw [egress, host, packed, due, if_pos ⟨room, Or.inl (List.cons_ne_nil _ _)⟩, sendPayload, idleIfDue_not notDue]
  rw [egress, host, packed, due]
  have noAgent : ([m].filter fun m => m.opc == opcAGENT_MSG && !false) = [] := by
    simp [noAgentMsg]
  rw [noAgent]
  simp
  rfl

theorem flitTransmit_out (hp : p < nPorts) (st : (s.port p).st = .active) : exec (.flitTransmit p) s = .next (flitOut s p) :=
  onUnit_if hp st _ _

/-- That a message leaves is seen by the blotter alone, and only if it is a response (R406). -/
theorem blotLeave_tel (s : State) (m : Msg) : s.blotLeave m = { s with tel := { s.tel with blot := (s.blotLeave m).tel.blot } } ∧
    (isRsp m = false → s.blotLeave m = s) := by
  unfold State.blotLeave
  split
  · next rsp => exact ⟨rfl, fun no => absurd (no.symm.trans rsp) Bool.false_ne_true⟩
  · exact ⟨rfl, fun _ => rfl⟩

end Sys2Proof.Machine

open Sys2Proof Sys2Proof.Machine

/-- Settles O23: a good flit by `payloadFlit_takes`, a lost one by `flitIn_reported` and `flitIn_codeword`, sending by
`flitOut_sends`. -/
theorem flitsCrossAPortInSequence : Obligations.FlitsCrossAPortInSequence := by
  refine ⟨⟨?_, ?_⟩, ?_⟩
  · intro s p bytes rs h area m hp st alive isRs decoded length crc words kind next noCredit message legal noCx room noReplay noMsgs
    rw [noCx] at length
    have step := flitReceive_good hp st isRs decoded noCx ⟨length, crc, words, kind, noCredit, message⟩
    have counted := portCounts_count s p p 6 rs.corrected
    have port : (s.count p 6 rs.corrected).port p = s.port p := State.port_count ..
    generalize s.count p 6 rs.corrected = u at step counted port
    have fab : u.isFabric p = s.isFabric p := counted.bit ..
    have free : rxFree u p m.vc = rxFree s p m.vc := by
      simp only [rxFree, rxSpace, State.isFabric, State.isCxPort, counted.bit, port]
    obtain ⟨counts, took⟩ := payloadFlit_takes (s := u) (seq := BitVec.ofNat 9 (wfld h 2 9)) (ack := BitVec.ofNat 9 (wfld h 11 9)) (crd := wfld h 23 9) (by rw [port]; exact next)
      message (by rw [fab]; exact legal) ((counted.bit ..).trans noCx) (by rw [free]; exact room) (by rw [counted.rest]; exact alive)
      (by rw [port]; exact noReplay) (by rw [port]; exact noMsgs)
    rw [port] at took
    obtain ⟨others, rest⟩ := counted.trans counts
    refine ⟨_, step, ?_, ?_, ?_, ?_, ?_, others, rest⟩
    · rw [took, tookFlit, fab, counted.bit]
    · rw [took]; rfl
    · rw [took]; exact st
    · rw [took]; rfl
    · rw [took]; rfl
  · intro s p bytes rs hp st isRs fresh lost
    obtain ⟨-, rxq, rxLast, nak, err, acts⟩ : Discards s (flitIn s p bytes rs) p := by
      rcases lost with ⟨flit, bad⟩ | ⟨codeword, bad⟩
      · exact flitIn_reported isRs flit bad
      · exact flitIn_codeword rs st codeword bad
    exact ⟨_, flitReceive_in hp st, nak (Or.inr fresh), rxq, rxLast, err, acts.others, by rw [acts.rest]⟩
  · intro s p m hp st egress noNak notDue noResend room noFreed host noAgentMsg vc fits admitted credits
    have step := flitTransmit_out hp st
    rw [flitOut_sends ⟨egress, noNak, notDue, noResend, room, noFreed, host, noAgentMsg, fits, admitted⟩] at step
    obtain ⟨⟨tx, w, n, port⟩, only⟩ := onWire_putWire s p (flitHeader kindPayload (s.port p).txSeq (s.port p).rxLast 7 0) (msgWords m)
    generalize putWire s p (flitHeader kindPayload (s.port p).txSeq (s.port p).rxLast 7 0) (msgWords m) = u at step port only
    have counts := ((only.trans (onlyPort_modPort u p (sentPort s p m))).counts.trans (portCounts_count _ p p 0 1)).trans
      (portCounts_count _ p p 2 1)
    have sent : (((u.modPort p (sentPort s p m)).count p 0 1).count p 2 1).port p =
        sentPort s p m { s.port p with lastTx := tx, wire := w, sinceIdle := n } := by
      rw [State.port_count, State.port_count, State.port_modPort_same, port]
    generalize ((u.modPort p (sentPort s p m)).count p 0 1).count p 2 1 = v at step counts sent
    obtain ⟨frame, quiet⟩ := blotLeave_tel v m
    have ports : (v.blotLeave m).port = v.port := by rw [frame]; rfl
    obtain ⟨others, rest⟩ := counts
    refine ⟨_, step, ?_, ?_, ⟨oneFlit s p m, ?_, rfl, rfl, rfl⟩, ?_, fun i hi => ?_, ?_, fun q hq => ?_, fun no => ?_, ?_⟩
    · rw [ports, sent]; rfl
    · rw [ports, sent]; rfl
    · rw [ports, sent]; rfl
    · rw [ports, sent]
      exact nth_lmod_same (by rw [credits]; exact vc) _
    · rw [ports, sent]
      exact nth_lmod_other hi _
    · rw [ports, sent]; rfl
    · rw [ports]; exact others q hq
    · rw [quiet no, rest]
    · rw [frame, rest]

end

section
/-! PROOF. The levels that a port puts on its lanes under lean FEC (R94, R100, R102). -/
namespace Sys2Proof.Machine
open Config

variable {s t u : State} {p : Nat}

theorem length_lmod {α : Type} (l : List α) (i : Nat) (f : α → α) : (lmod l i f).length = l.length := by
  induction l generalizing i with
  | nil => rfl
  | cons x l ih => cases i <;> simp [lmod, ih]

/-! ## Bytes on lanes -/

/-- The bytes of a stream as the transmitter's items (R94). -/
def byteUnits (bs : List Byte) : List LineItem := bs.map fun b => .unit (pamLevels 4 b.toNat)

/-- What bytes add to lane j of w, where the first of them has number n in its stream (R100). -/
def laneLevels (w n j : Nat) (bs : List Byte) : List Nat :=
  ((List.range bs.length).filter fun i => (n + i) % w = j).flatMap fun i => pamLevels 4 (bs.getD i 0).toNat

theorem laneLevels_cons (w n j : Nat) (b : Byte) (bs : List Byte) : laneLevels w n j (b :: bs) =
    (if n % w = j then pamLevels 4 b.toNat else []) ++ laneLevels w (n + 1) j bs := by
  have tail : ((fun i => decide ((n + i) % w = j)) ∘ Nat.succ) = fun i => decide ((n + 1 + i) % w = j) := by
    funext i
    simp only [Function.comp, Nat.succ_eq_add_one, Nat.add_comm i 1, Nat.add_assoc]
  rw [laneLevels, List.length_cons, List.range_succ_eq_map, List.filter_cons, List.filter_map, tail]
  split
  · next first => simp_all [laneLevels, List.flatMap_map]
  · next first => simp_all [laneLevels, List.flatMap_map]

theorem distribute_bytes {w : Nat} (first j : Nat) (bs : List Byte) (n : Nat) (lanes : List (List Nat)) (len : lanes.length = w) :
    (distribute w first n (byteUnits bs) lanes)[j]? = lanes[j]?.map (· ++ laneLevels w n j bs) := by
  induction bs generalizing n lanes with
  | nil => simp [byteUnits, distribute, laneLevels]
  | cons b bs ih =>
    rw [byteUnits, List.map_cons, distribute, ← byteUnits, ih _ _ (by rw [length_lmod, len]), getElem?_lmod, laneLevels_cons]
    by_cases here : j = n % w
    · rw [if_pos here, if_pos here.symm]
      simp [Function.comp_def]
    · rw [if_neg here, if_neg (Ne.symm here)]
      simp

theorem length_distribute (w first : Nat) (bs : List Byte) (n : Nat) (lanes : List (List Nat)) :
    (distribute w first n (byteUnits bs) lanes).length = lanes.length := by
  induction bs generalizing n lanes with
  | nil => rfl
  | cons b bs ih => rw [byteUnits, List.map_cons, distribute, ← byteUnits, ih, length_lmod]

/-- Each lane of the active half carries its bytes of the stream. -/
theorem distribute_fresh {w j : Nat} (here : j < w) (first n : Nat) (bs : List Byte) :
    (distribute w first n (byteUnits bs) (List.replicate w []))[j]? = some (laneLevels w n j bs) := by
  rw [distribute_bytes _ _ _ _ _ List.length_replicate, List.getElem?_replicate, if_pos here]
  rfl

/-- Eight lanes, of which at x4 one half carries its lanes' levels and the other none (R100). -/
theorem placeHalf_lane {x4 half : Bool} {w : Nat} (hw : w = if x4 then 4 else 8) {l : List (List Nat)} (len : l.length = w)
    {v : Nat → List Nat} (carries : ∀ j < w, l[j]? = some (v j)) {lane : Nat} (h : lane < 8) : (placeHalf x4 half l)[lane]? =
      some (if lane / w = (if x4 && half then 1 else 0) then v (lane % w) else []) := by
  have silent : ∀ i < 4, ([[], [], [], []] : List (List Nat))[i]? = some [] := by decide
  subst hw
  cases x4 with
  | false =>
    have whole : lane / 8 = 0 := Nat.div_eq_of_lt h
    simp only [placeHalf, Bool.not_false, if_true, Bool.false_and, Bool.false_eq_true, if_false, whole, Nat.mod_eq_of_lt h]
    exact carries lane h
  | true =>
    have len : l.length = 4 := len
    have carries : ∀ j < 4, l[j]? = some (v j) := carries
    by_cases low : lane < 4
    · have first : lane / 4 = 0 := Nat.div_eq_of_lt low
      cases half with
      | false =>
        simp only [placeHalf, Bool.not_true, Bool.false_eq_true, if_false, if_true, Bool.and_false, first, Nat.mod_eq_of_lt low]
        rw [List.getElem?_append_left (by rw [len]; exact low), carries lane low]
      | true =>
        simp only [placeHalf, Bool.not_true, Bool.false_eq_true, if_false, if_true, Bool.and_true, first, Nat.zero_ne_one]
        rw [List.getElem?_append_left low, silent lane low]
    · have second : lane / 4 = 1 := by omega
      have place : lane % 4 = lane - 4 := by omega
      cases half with
      | false =>
        simp only [placeHalf, Bool.not_true, Bool.false_eq_true, if_false, if_true, Bool.and_false, second, Nat.one_ne_zero]
        rw [List.getElem?_append_right (by omega), len, silent _ (by omega)]
      | true =>
        simp only [placeHalf, Bool.not_true, Bool.false_eq_true, if_false, if_true, Bool.and_true, second, place]
        exact (List.getElem?_append_right (Nat.le_of_not_lt low)).trans (carries (lane - 4) (by omega))

/-! ## A port sends one flit -/

/-- From s to t port p has put its last flit's bytes on its lanes, after those of its stream before (R100). -/
structure OnLanes (s t : State) (p : Nat) : Prop where
  lanes : (t.port p).wire.lanes = placeHalf (s.port p).x4 (s.port p).half
    (distribute (if (s.port p).x4 then 4 else 8) (if (s.port p).x4 && (s.port p).half then 4 else 0) (s.port p).wire.next
      (byteUnits (t.port p).lastTx) (List.replicate (if (s.port p).x4 then 4 else 8) []))

/-- A port's lanes and its last flit are as they were. -/
structure SameWire (s t : State) (p : Nat) : Prop where
  wire : (t.port p).wire = (s.port p).wire
  last : (t.port p).lastTx = (s.port p).lastTx

theorem OnLanes.same (h : OnLanes s t p) (same : SameWire t u p) : OnLanes s u p := by
  obtain ⟨wire, last⟩ := same
  exact ⟨by rw [wire, last]; exact h.lanes⟩

theorem putWire_lanes (leanFec : s.bit (portReg p 0) 2 = false) (noAlign : (s.port p).wire.since < 4095) (hdr : Word) (area : List Word) :
    OnLanes s (putWire s p hdr area) p := by
  have between : ¬ (s.port p).wire.since + 1 = 4096 := by omega
  refine ⟨?_⟩
  unfold putWire
  rw [State.port_modPort_same, leanFec, if_neg Bool.false_ne_true, Wire.lean, if_neg between]
  rfl

theorem sameWire_blotLeaves (l : List Msg) (s : State) (p : Nat) : SameWire s (l.foldl (fun s m => s.blotLeave m) s) p := by
  induction l generalizing s with
  | nil => exact ⟨rfl, rfl⟩
  | cons m l ih =>
    have port : (s.blotLeave m).port p = s.port p := by rw [State.blotLeave_frame]; rfl
    obtain ⟨wire, last⟩ := ih (s.blotLeave m)
    exact ⟨wire.trans (congrArg _ port), last.trans (congrArg _ port)⟩

theorem OnLanes.modPort (h : OnLanes s t p) (f : Port → Port) (same : ∀ y, (f y).wire = y.wire ∧ (f y).lastTx = y.lastTx) :
    OnLanes s (t.modPort p f) p := by
  refine h.same ⟨?_, ?_⟩
  · rw [State.port_modPort_same]
    exact (same _).1
  · rw [State.port_modPort_same]
    exact (same _).2

theorem OnLanes.count (h : OnLanes s t p) (g i n : Nat) : OnLanes s (t.count g i n) p :=
  h.same ⟨by rw [State.port_count], by rw [State.port_count]⟩

/-- Whatever is sent next, one flit goes on the lanes. -/
theorem flitOut_lanes (leanFec : s.bit (portReg p 0) 2 = false) (noAlign : (s.port p).wire.since < 4095)
    (notDue : (s.port p).sinceIdle < 2047) (noResend : (s.port p).resend = 0) : OnLanes s (flitOut s p) p := by
  have put := putWire_lanes leanFec noAlign
  rw [flitOut, if_neg (Nat.not_le_of_lt notDue), noResend, if_neg (Nat.lt_irrefl 0)]
  split
  · rw [sendBare, idleIfDue_not notDue, putBare]
    refine OnLanes.modPort (OnLanes.modPort (put _ _) _ ?_) _ ?_
    · exact fun y => ⟨rfl, rfl⟩
    · exact fun y => ⟨rfl, rfl⟩
  rw [sendNew]
  split
  · rw [sendPayload, idleIfDue_not notDue]
    generalize packMsgs _ _ _ _ _ = r, creditDue _ = c
    refine OnLanes.same ?_ (sameWire_blotLeaves ..)
    refine OnLanes.count (OnLanes.count ?_ ..) ..
    exact OnLanes.modPort (put ..) _ fun _ => ⟨rfl, rfl⟩
  · rw [sendIdle, putBare]
    exact OnLanes.modPort (put ..) _ fun _ => ⟨rfl, rfl⟩

end Sys2Proof.Machine

open Sys2Proof Sys2Proof.Machine

/-- Settles O26: `flitOut_lanes`, and what `distribute` gives to each lane. -/
theorem flitsGoToTheLanesAsLevels : Obligations.FlitsGoToTheLanesAsLevels := by
  refine ⟨by decide, ?_⟩
  intro s p w hp st notDue noResend leanFec noAlign hw
  have lanes := flitOut_lanes leanFec noAlign notDue noResend
  refine ⟨_, flitTransmit_out hp st, fun lane h => ?_⟩
  rw [lanes.lanes, ← hw]
  exact placeHalf_lane hw ((length_distribute ..).trans List.length_replicate) (fun j hj => distribute_fresh hj ..) h

end

section
/-! PROOF. How messages of hosts arrive, and how the slices answer them (R39, R145, R157, R405). -/
namespace Sys2Proof.Machine
open Config

variable {s t u : State} {p i : Nat}

/-! ## Frames -/

/-- What a slice's work may change beside the slice, its counters and what the blotter follows. -/
structure May where
  acc : Bool
  resv : Bool
  pcs : Bool

/-- From s to t slice i has worked: no other slice differs, and of the rest only what it may change. -/
structure Works (may : May) (s t : State) (i : Nat) : Prop where
  others : ∀ j, j ≠ i → t.slice j = s.slice j
  acc : may.acc = false → t.acc = s.acc
  resv : may.resv = false → t.resv = s.resv
  pcs : may.pcs = false → t.pcs = s.pcs
  rest : t = { s with slices := t.slices, acc := t.acc, tel := t.tel, resv := t.resv, pcs := t.pcs }

variable {may : May}

theorem Works.refl (may : May) (s : State) (i : Nat) : Works may s s i := ⟨fun _ _ => rfl, fun _ => rfl, fun _ => rfl, fun _ => rfl, rfl⟩

theorem Works.trans (h : Works may s t i) (h' : Works may t u i) : Works may s u i where
  others j hj := (h'.others j hj).trans (h.others j hj)
  acc no := (h'.acc no).trans (h.acc no)
  resv no := (h'.resv no).trans (h.resv no)
  pcs no := (h'.pcs no).trans (h.pcs no)
  rest := by rw [h'.rest, h.rest]

theorem works_modSlice (may : May) (s : State) (i : Nat) (f : Slice → Slice) : Works may s (s.modSlice i f) i :=
  ⟨fun _ hj => State.slice_modSlice_other s _ hj, fun _ => rfl, fun _ => rfl, fun _ => rfl, rfl⟩

theorem works_count (counts : may.acc = true) (s : State) (i g n k : Nat) : Works may s (s.count g n k) i where
  others _ _ := State.slice_count ..
  acc no := Bool.noConfusion (counts.symm.trans no)
  resv _ := State.count_resv ..
  pcs _ := State.count_pcs ..
  rest := by rw [State.count_frame]

theorem works_pace (counts : may.acc = true) (s : State) (i d : Nat) : Works may s (s.pace d) i :=
  ⟨fun _ _ => rfl, fun no => Bool.noConfusion (counts.symm.trans no), fun _ => rfl, fun _ => rfl, rfl⟩

theorem works_blotNote (may : May) (s : State) (i : Nat) (a : AgentId) (g : Tag) (f : Follow → Follow) : Works may s (s.blotNote a g f) i :=
  ⟨fun _ _ => rfl, fun _ => rfl, fun _ => rfl, fun _ => rfl, rfl⟩

theorem works_clearResv (may' : may.resv = true) (s : State) (i line : Nat) (keep : Option Nat) : Works may s (clearResv s line keep) i :=
  ⟨fun _ _ => rfl, fun _ => rfl, fun no => Bool.noConfusion (may'.symm.trans no), fun _ => rfl, rfl⟩

theorem works_tel (may : May) (h : t = { s with tel := t.tel }) (i : Nat) : Works may s t i := by
  have slices : t.slice = s.slice := by rw [h]; rfl
  exact ⟨fun _ _ => by rw [slices], fun _ => by rw [h], fun _ => by rw [h], fun _ => by rw [h], by rw [h]⟩

section
variable (h : Works may s t i)
include h

theorem Works.reg : t.reg = s.reg := by rw [h.rest]
theorem Works.rd (x : Nat) : t.rd x = s.rd x := by rw [State.rd_congr h.reg]
theorem Works.bit (x n : Nat) : t.bit x n = s.bit x n := by rw [State.bit, State.bit, h.rd]
theorem Works.fld (x lo w : Nat) : t.fld x lo w = s.fld x lo w := by rw [State.fld, State.fld, h.rd]
theorem Works.boot : t.boot = s.boot := by rw [h.rest]
theorem Works.purge : t.purge = s.purge := by rw [h.rest]
theorem Works.ports : t.ports = s.ports := by rw [h.rest]
theorem Works.ten : t.ten = s.ten := by rw [h.rest]; rfl
theorem Works.setOf (l : Nat) : t.setOf l = s.setOf l := by rw [h.rest]; rfl
theorem Works.sliceOf (l : Nat) : t.sliceOf l = s.sliceOf l := by rw [h.rest]; rfl
theorem Works.classify (a : PA) : t.classify a = s.classify a := by rw [h.rest]; rfl
theorem Works.domLit (d : Nat) : t.domLit d = s.domLit d := by rw [h.rest]; rfl
theorem Works.leadOk (n : Nat) : leadOk t n = leadOk s n := by rw [h.rest]; rfl
theorem Works.mkRsp (o : Nat) (a : AgentId) (g : Tag) (b : List Word) : t.mkRsp o a g b = s.mkRsp o a g b := by rw [h.rest]; rfl
theorem Works.hostAt {a : AgentId} (hh : HostAt s a p) : HostAt t a p := by
  rw [h.rest]
  exact ⟨hh.here, hh.agent, hh.port, hh.carries⟩

end

/-- From s to t one message has been queued at port p. -/
structure Replies (s t : State) (p : Nat) (m : Msg) : Prop where
  sent : t.port p = { s.port p with egress := (s.port p).egress ++ [m] }
  ports : ∀ q, q ≠ p → t.port q = s.port q
  rest : t = { s with ports := t.ports }

theorem Replies.slice {m : Msg} (h : Replies s t p m) (j : Nat) : t.slice j = s.slice j := by rw [h.rest]; rfl

/-- A slice works, answers, and works on. -/
theorem answered_of {m : Msg} (h : Works may s t i) (r : Replies t u p m) {v : State} (h' : Works may u v i) : Answered s v i p m := by
  have before : t.port = s.port := by rw [h.rest]; rfl
  have after : v.port = u.port := by rw [h'.rest]; rfl
  refine ⟨?_, fun q hq => ?_, fun j hj => ?_⟩
  · rw [after, r.sent, before]
  · rw [after, r.ports q hq, before]
  · rw [h'.others j hj, r.slice, h.others j hj]

/-! ## Responses to hosts (R145) -/

theorem HostAt.notFabric {a : AgentId} (h : HostAt s a p) : s.isFabric p = false := by
  cases fab : s.isFabric p with
  | false => rfl
  | true =>
    have enabled := h.agent
    rw [State.hostAgent, ← h.port, State.agentEn, fab, if_pos rfl, Nat.zero_testBit, Bool.and_false] at enabled
    exact Bool.noConfusion enabled

theorem HostAt.loc {a : AgentId} (h : HostAt s a p) : a.loc < 32 := by
  have local_ := h.agent
  rw [State.hostAgent, Bool.and_assoc, Bool.and_eq_true, decide_eq_true_eq] at local_
  exact local_.1

theorem HostAt.portFor {a : AgentId} (h : HostAt s a p) : s.portFor a = some p := by
  rw [State.portFor, if_pos h.here, h.agent, if_pos rfl, h.port]

theorem sendPlain_host {a : AgentId} {m : Msg} (h : HostAt s a p) (dst : m.dst = a) (answer : m.opc ≠ opcNO_TARGET) (noHop : m.hop = false) :
    Replies s (s.sendPlain m) p m := by
  have noted : s.blotRefuse m = s := if_neg fun c => answer c.1
  have away : ¬ (m.dst.dev = s.devNum ∧ 32 ≤ m.dst.loc) := fun c => Nat.not_le_of_lt (dst ▸ h.loc) c.2
  have own : voteDevice s m.dst.dev = s := if_pos (dst ▸ h.here)
  have queued : s.depart p m = s.enqueue p m := by
    rw [State.depart, h.notFabric, Bool.false_and, Bool.false_and, if_neg Bool.false_ne_true]
  have same : { m with hop := m.hop && s.isFabric p } = m := by
    rw [noHop]
    cases m
    cases noHop
    rfl
  have sends : s.sendPlain m = s.enqueue p m := by
    rw [State.sendPlain, noted]
    dsimp only
    rw [if_neg away, own, dst, h.portFor]
    dsimp only
    rw [h.carries, if_pos rfl, queued]
  rw [sends, State.enqueue, same]
  exact ⟨State.port_modPort_same .., fun q hq => State.port_modPort_other s _ hq, rfl⟩

theorem respond_host {r : Req} {opc : Nat} {poison : Bool} {body : List Word} (h : HostAt s r.src p) (param : Nat) (answer : opc ≠ opcNO_TARGET) :
    Replies s (respond s r opc param poison body) p
      { s.mkRsp opc r.src r.tag body with param := BitVec.ofNat 8 param, poison := poison } :=
  sendPlain_host h rfl answer rfl

/-! ## Arrivals (R39, R157) -/

theorem eraseFirst_none {α : Type} {q : α → Bool} {l : List α} (no : ∀ x ∈ l, q x = false) : eraseFirst q l = l := by
  induction l with
  | nil => rfl
  | cons x l ih =>
    rw [eraseFirst, no x (List.mem_cons_self ..), if_neg Bool.false_ne_true, ih fun y hy => no y (List.mem_cons_of_mem _ hy)]

theorem find?_none {α : Type} {q : α → Bool} {l : List α} (no : ∀ x ∈ l, q x = false) : l.find? q = none :=
  List.find?_eq_none.2 fun x hx => by rw [no x hx]; exact Bool.false_ne_true

section
variable {q : Msg → Bool} (h : Arrives s q)
include h

theorem Arrives.findRx : s.findRx q = none := by
  refine List.findSome?_eq_none_iff.2 fun n hn => ?_
  rw [find?_none (h.rx n (List.mem_range.1 hn))]
  rfl

theorem Arrives.held {m : Msg} (hm : m ∈ s.spine.req ∨ m ∈ s.spine.rsp ∨ ∃ f ∈ s.spine.fwd, f.msg = m) : q m = false := by
  refine h.spine m ?_
  simp only [List.mem_append, List.mem_map]
  tauto

theorem Arrives.fwd : ∀ f ∈ s.spine.fwd, q f.msg = false := fun f hf => h.held (Or.inr (Or.inr ⟨f, hf, rfl⟩))

theorem Arrives.heldMsg : s.heldMsg q = none := by
  rw [State.heldMsg, h.findRx]
  dsimp only
  rw [find?_none fun m hm => h.held (Or.inr (Or.inl hm))]
  dsimp only
  rw [find?_none h.fwd]
  exact find?_none fun m hm => h.held (Or.inl hm)

theorem Arrives.takeMsg : s.takeMsg q = (s, none) := by
  rw [State.takeMsg, h.findRx]
  dsimp only
  rw [eraseFirst_none fun m hm => h.held (Or.inl hm), eraseFirst_none fun m hm => h.held (Or.inr (Or.inl hm)), eraseFirst_none h.fwd,
    find?_none h.fwd]
  rfl

theorem Arrives.wasAdmitted : s.wasAdmitted q = false := by
  rw [State.wasAdmitted, find?_none h.fwd]
  exact Bool.or_eq_false_iff.2 ⟨List.any_eq_false.2 fun m hm => by rw [h.held (Or.inl hm)]; exact Bool.false_ne_true, rfl⟩

end

theorem wakeOne_lit {d : Nat} (h : s.domLit d = true) : s.wakeOne d = s := by
  rw [State.domLit, Bool.and_eq_true, Bool.or_eq_true, beq_iff_eq, beq_iff_eq, Option.isNone_iff_eq_none] at h
  obtain ⟨on, still⟩ := h
  rcases on with on | on <;> simp [State.wakeOne, on, still]

/-- To wake a domain that is Lit with its spine half changes nothing (R449). -/
theorem wake_lit {d : Nat} (h : s.domLit d = true) (half : ∀ x, halfOf d = some x → s.domLit x = true) : s.wake d = s := by
  have awake : s.wakeAccess d = s := by
    rw [State.wakeAccess]
    cases hx : halfOf d with
    | none => exact wakeOne_lit h
    | some x =>
      dsimp only
      rw [wakeOne_lit h, wakeOne_lit (half x hx)]
  rw [State.wake, awake]
  split <;> rfl

theorem blotDraw_follows (s : State) : (blotDraw s).tel.blot.follows = s.tel.blot.follows := by
  unfold blotDraw
  dsimp only

theorem blotDraw_frame (s : State) : blotDraw s = { s with tel := (blotDraw s).tel } := by
  unfold blotDraw
  dsimp only

theorem blotAdmit_tel {q : Msg → Bool} (h : Arrives s q) (f : Follow) : blotAdmit s f = { s with tel := (blotAdmit s f).tel } := by
  rw [blotAdmit]
  rcases h.room with off | ⟨room, lit, half⟩
  · rw [off, Bool.false_and, if_neg Bool.false_ne_true]
  · split
    · split
      · rfl
      · have follows := blotDraw_follows s
        have frame := blotDraw_frame s
        generalize blotDraw s = u at follows frame ⊢
        have awake : u.wake 61 = u := by
          rw [frame]
          refine wake_lit lit fun x hx => ?_
          rw [← Option.some.inj ((show halfOf 61 = some 3 by decide).symm.trans hx)]
          exact half
        dsimp only
        rw [awake, follows, if_neg (Nat.not_le_of_lt room), frame]
    · rfl

theorem foldl_same {α : Type} {f : State → α → State} {l : List α} (same : ∀ a ∈ l, f s a = s) : l.foldl f s = s := by
  induction l with
  | nil => rfl
  | cons a l ih => rw [List.foldl_cons, same a (List.mem_cons_self ..), ih fun b hb => same b (List.mem_cons_of_mem _ hb)]

theorem voteMap_agree (h : Agree s) : voteMap s = s := by
  rw [voteMap, voteReg_of_agree h, voteReg_of_agree h, voteReg_of_agree h]
  exact foldl_same fun d _ => foldl_same fun r _ => voteReg_of_agree h _

/-- A request of a host as the decoder takes it: without the privilege that its port removes (R63). -/
def admitted (s : State) (m : Msg) : Msg := { m with priv := s.privOf m.src m.priv }

/-- A request of a host of this device for a home line reaches its slice (R39, R405). -/
theorem request_host {q : Msg → Bool} {m : Msg} {off : Nat} (h : Arrives s q) (host : HostAt s m.src p) (selects : q (admitted s m) = true)
    (vc : m.vc = vcOf m.opc) (home : s.classify m.addr = .home off) (good : badRequest (admitted s m) = false)
    (room : (s.slice (s.sliceOf (lineOf m.addr))).inq = []) :
    ∃ u, u = { s with tel := u.tel } ∧ request s q m = submit u (reqOf s (admitted s m)) := by
  have vc' : (admitted s m).vc = vcOf (admitted s m).opc := vc
  have first : s.mustWait q (admitted s m) = false := h.order _ selects vc'
  have notFull : inputFull s (admitted s m) = false := by
    rw [inputFull, show (admitted s m).addr = m.addr from rfl, home]
    show (!badRequest (admitted s m) && decide (128 ≤ (s.slice (s.sliceOf (lineOf m.addr))).inq.length)) = false
    rw [room]
    exact Bool.and_false _
  have ing : ingressOf s q (admitted s m) = some p := by
    rw [ingressOf, h.findRx, find?_none h.fwd]
    have none : s.spine.req.any q = false := List.any_eq_false.2 fun m hm => by rw [h.held (Or.inl hm)]; exact Bool.false_ne_true
    simp only [none, Bool.false_eq_true, if_false, if_pos (show (admitted s m).src.dev = s.devNum ∧ s.hostAgent (admitted s m).src.loc = true from
      ⟨host.here, host.agent⟩), host.port]
    rfl
  have admits : admitPort s (some p) (admitted s m) = { s with tel := (admitPort s (some p) (admitted s m)).tel } := by
    rw [admitPort]
    split
    · exact blotAdmit_tel h _
    · rfl
  have decoded : request s q m = decode39 (admitPort s (some p) (admitted s m)) (some p) (admitted s m) := by
    have m' : { (s.heldMsg q).getD m with priv := s.privOf ((s.heldMsg q).getD m).src ((s.heldMsg q).getD m).priv } = admitted s m := by
      rw [h.heldMsg]
      rfl
    rw [request]
    rw [m', h.alive.1, h.alive.2, Bool.or_self, if_neg Bool.false_ne_true, notFull, first, Bool.or_self, if_neg Bool.false_ne_true,
      h.wasAdmitted, if_neg Bool.false_ne_true, h.takeMsg, ing]
  rw [decoded]
  generalize admitPort s (some p) (admitted s m) = u at admits ⊢
  have votes : voteMap u = u := voteMap_agree (by rw [admits]; exact ⟨h.votes.copies, h.votes.locks, h.votes.fuses⟩)
  have cached : (isGrantKind (kindOf (admitted s m) false) && decide (32 ≤ (admitted s m).src.loc)) = false := by
    rw [show (admitted s m).src = m.src from rfl, decide_eq_false (Nat.not_le_of_lt host.loc), Bool.and_false]
  have classified : u.classify (admitted s m).addr = .home off := by
    rw [admits]
    exact home
  refine ⟨u, admits, ?_⟩
  rw [decode39, votes, cached, if_neg Bool.false_ne_true, classified]
  dsimp only
  rw [good, if_neg Bool.false_ne_true, admits]
  rfl

end Sys2Proof.Machine
end

section
/-! PROOF. A request that its slice takes at once (R193, R195, R216, R217). -/
namespace Sys2Proof.Machine
open Config

variable {s t u v : State} {i line : Nat}

theorem Works.cleanAlls {may : May} (h : Works may s t i) : t.cleanAlls = s.cleanAlls := by rw [h.rest]

theorem Works.home {may : May} (h : Works may s t i) : t.home = s.home := by
  rw [h.rest]
  rfl

/-! ## Home lines -/

/-- A home address lies in the window: its offset, below 2^38, is the address's low part (R36, R39). -/
theorem classify_home {addr : PA} {off : Nat} (h : s.classify addr = .home off) : off = addr.toNat % 2 ^ 38 := by
  unfold State.classify at h
  dsimp only at h
  split at h
  · exact AddrClass.noConfusion h
  · split at h
    · exact (AddrClass.home.inj h).symm
    · split at h
      · exact AddrClass.noConfusion h
      · exact AddrClass.noConfusion h

theorem lineOf_home {addr : PA} {off : Nat} (h : s.classify addr = .home off) : lineOf addr = off / 64 := by
  rw [lineOf, classify_home h]

theorem mod_home {addr : PA} {off n : Nat} (h : s.classify addr = .home off) (n_dvd : n ∣ 2 ^ 38) : addr.toNat % n = off % n := by
  rw [classify_home h, Nat.mod_mod_of_dvd _ n_dvd]

/-! ## Slice functions and what they depend on -/

theorem setOf_congr (h : t.boot = s.boot) (l : Nat) : t.setOf l = s.setOf l := by
  rw [State.setOf, State.setOf, State.ten, State.ten, State.devId, State.devId, h]

theorem dirGet_congr (boot : t.boot = s.boot) (dir : ∀ n, sget dentryD (t.slice i).dir n = sget dentryD (s.slice i).dir n) (l w : Nat) :
    dirGet t i l w = dirGet s i l w := by rw [dirGet, dirGet, setOf_congr boot, dir]

theorem dirWay_congr (boot : t.boot = s.boot) (dir : ∀ n, sget dentryD (t.slice i).dir n = sget dentryD (s.slice i).dir n) (l : Nat) :
    dirWay t i l = dirWay s i l := by simp only [dirWay, setOf_congr boot, dir]

theorem dirEntry_congr (boot : t.boot = s.boot) (dir : ∀ n, sget dentryD (t.slice i).dir n = sget dentryD (s.slice i).dir n) (l : Nat) :
    dirEntry t i l = dirEntry s i l := by
  rw [dirEntry, dirEntry, dirWay_congr boot dir]
  exact congrArg (Option.map · _) (funext fun w => dirGet_congr boot dir l w)

theorem hway_congr (hearth : (t.slice i).hearth = (s.slice i).hearth) (set w : Nat) : t.hway i set w = s.hway i set w := by
  rw [State.hway, State.hway, hearth]

theorem findWay_congr (boot : t.boot = s.boot) (hearth : (t.slice i).hearth = (s.slice i).hearth) (l : Nat) :
    findWay t i l = findWay s i l := by simp only [findWay, setOf_congr boot, hway_congr hearth]

/-! ## The directory way of a line -/

/-- What the check and the purge of a set leave of a slice: every entry as it was (R168, R199). -/
structure SameEntries (s t : State) (i : Nat) : Prop where
  slice : t.slice i = { s.slice i with dir := (t.slice i).dir }
  dir : ∀ n, sget dentryD (t.slice i).dir n = sget dentryD (s.slice i).dir n

theorem sameEntries_refl (s : State) (i : Nat) : SameEntries s s i := ⟨rfl, fun _ => rfl⟩

theorem sameEntries_of (h : t.slice i = s.slice i) : SameEntries s t i := ⟨by rw [h], fun _ => by rw [h]⟩

theorem dirSet_slice (s : State) (i l w : Nat) (e : DEntry) : (dirSet s i l w e).slice i =
    { s.slice i with dir := sset dentryD (s.slice i).dir (s.setOf l * 16 + w) e } := State.slice_modSlice_same ..

theorem works_dirSet (may : May) (s : State) (i l w : Nat) (e : DEntry) : Works may s (dirSet s i l w e) i := works_modSlice ..

/-- An entry written as it stands. -/
theorem dirSet_same (s : State) (i l w : Nat) : SameEntries s (dirSet s i l w (dirGet s i l w)) i := by
  refine ⟨by rw [dirSet_slice], fun n => ?_⟩
  rw [dirSet_slice, sget_sset]
  split
  · next here => rw [here, dirGet]
  · rfl

theorem dirCheck_sound (h : ∀ w < 16, (dirGet s i line w).bad = false) : dirCheck s i line = s :=
  foldl_same fun w hw => if_neg fun bad => Bool.false_ne_true ((h w (List.mem_range.1 hw)).symm.trans bad)

theorem purged_nil (none : s.purge = []) (n : Nat) : purged s n = false := by
  rw [purged, none]
  exact BitVec.getLsbD_zero

/-- Where no agent is purged the purge leaves every entry that names a host (R168). -/
theorem dirPurge_idle (none : s.purge = []) (held : ∀ w, dirWay s i line = some w → (dirGet s i line w).ptrs ≠ []) :
    SameEntries s (dirPurge s i line) i ∧ ∀ may, Works may s (dirPurge s i line) i := by
  unfold dirPurge dirPurgeBy
  cases hw : dirWay s i line with
  | none => exact ⟨sameEntries_refl s i, fun may => .refl may s i⟩
  | some w =>
    dsimp only
    have names := held w hw
    have written := dirSet_same s i line w
    generalize dirGet s i line w = e at names written
    cases ownerOf e with
    | some o =>
      dsimp only
      rw [purged_nil none, if_neg Bool.false_ne_true]
      exact ⟨sameEntries_refl s i, fun may => .refl may s i⟩
    | none =>
      obtain ⟨_, _, st, bcast, ptrs, _, _⟩ := e
      obtain ⟨h, l, rfl⟩ := List.exists_cons_of_ne_nil names
      have keep : ((h :: l).filter fun h => !purged s h) = h :: l := List.filter_eq_self.2 fun h _ => by rw [purged_nil none]; rfl
      dsimp only
      rw [keep, if_neg fun c => List.cons_ne_nil _ _ c.1]
      simp only [purged_nil none, Bool.and_false, Bool.false_eq_true, if_false]
      exact ⟨written, fun may => works_dirSet ..⟩

/-! ### Allocation (R174, R193) -/

/-- A directory entry is written, by its place. -/
def putDir (i : Nat) (key : Nat → Nat) (f : Nat → DEntry) (s : State) (j : Nat) : State :=
  s.modSlice i fun x => { x with dir := sset dentryD x.dir (key j) (f j) }

/-- From s to t only the directory of slice i differs. -/
structure OnlyDir (s t : State) (i : Nat) : Prop where
  slice : t.slice i = { s.slice i with dir := (t.slice i).dir }
  works : ∀ may, Works may s t i

theorem OnlyDir.trans (h : OnlyDir s t i) (h' : OnlyDir t u i) : OnlyDir s u i :=
  ⟨by rw [h'.slice, h.slice], fun may => (h.works may).trans (h'.works may)⟩

theorem onlyDir_refl (s : State) (i : Nat) : OnlyDir s s i := ⟨rfl, fun may => .refl may s i⟩

theorem onlyDir_putDir (i : Nat) (key : Nat → Nat) (f : Nat → DEntry) (s : State) (j : Nat) : OnlyDir s (putDir i key f s j) i :=
  ⟨by rw [putDir, State.slice_modSlice_same], fun _ => works_modSlice ..⟩

theorem putDir_dir (i : Nat) (key : Nat → Nat) (f : Nat → DEntry) (s : State) (j n : Nat) :
    sget dentryD ((putDir i key f s j).slice i).dir n = if n = key j then f j else sget dentryD (s.slice i).dir n := by
  rw [putDir, State.slice_modSlice_same]
  exact sget_sset ..

theorem putDirs (i : Nat) (key : Nat → Nat) (f : Nat → DEntry) (l : List Nat) (s : State) : OnlyDir s (l.foldl (putDir i key f) s) i ∧
    ∀ n, sget dentryD ((l.foldl (putDir i key f) s).slice i).dir n = sget dentryD (s.slice i).dir n ∨
      ∃ j ∈ l, n = key j ∧ sget dentryD ((l.foldl (putDir i key f) s).slice i).dir n = f j := by
  induction l generalizing s with
  | nil => exact ⟨onlyDir_refl s i, fun _ => Or.inl rfl⟩
  | cons j l ih =>
    obtain ⟨only, entries⟩ := ih (putDir i key f s j)
    refine ⟨(onlyDir_putDir i key f s j).trans only, fun n => ?_⟩
    rw [List.foldl_cons]
    rcases entries n with same | ⟨k, hk, place, is⟩
    · rw [same, putDir_dir]
      split
      · next here => exact Or.inr ⟨j, List.mem_cons_self .., here, rfl⟩
      · exact Or.inl rfl
    · exact Or.inr ⟨k, List.mem_cons_of_mem _ hk, place, is⟩

/-- An entry at its place in the age order of the listed ways of its set (R174). -/
def agedEntry (s : State) (i set : Nat) (l : List Nat) (j : Nat) : DEntry :=
  { sget dentryD (s.slice i).dir (set * 16 + j) with
    age := (l.filter fun k => decide ((sget dentryD (s.slice i).dir (set * 16 + k)).age < (sget dentryD (s.slice i).dir (set * 16 + j)).age)).length }

/-- A new entry takes its way, and of the others of its set only the ages change. -/
theorem dirAge_entries (s : State) (i set w : Nat) (e : DEntry) : OnlyDir s (dirAge s i set w e) i ∧
    (∃ age, sget dentryD ((dirAge s i set w e).slice i).dir (set * 16 + w) = { e with age := age }) ∧
    ∀ j, j ≠ w → ∃ age, sget dentryD ((dirAge s i set w e).slice i).dir (set * 16 + j) =
      { sget dentryD (s.slice i).dir (set * 16 + j) with age := age } := by
  obtain ⟨l, written⟩ : ∃ l : List Nat, dirAge s i set w e = putDir i (fun j => set * 16 + j) (fun _ => { e with age := l.length })
    (l.foldl (putDir i (fun j => set * 16 + j) (agedEntry s i set l)) s) w := ⟨_, rfl⟩
  obtain ⟨only, entries⟩ := putDirs i (fun j => set * 16 + j) (agedEntry s i set l) l s
  rw [written]
  refine ⟨only.trans (onlyDir_putDir ..), ⟨l.length, ?_⟩, fun j hj => ?_⟩
  · rw [putDir_dir, if_pos rfl]
  · rw [putDir_dir, if_neg (by omega)]
    rcases entries (set * 16 + j) with same | ⟨k, -, place, is⟩
    · exact ⟨_, same⟩
    · rw [show k = j by omega] at is
      exact ⟨_, is⟩

/-- The entry of a line that no host holds yet. -/
structure FreshEntry (t : State) (i line v : Nat) : Prop where
  way : dirWay t i line = some v
  entry : ∃ age, dirGet t i line v = { dentryD 0 with valid := true, line := line, age := age }

/-- A free way of its set is the line's (R193). -/
theorem dirAlloc_free (absent : dirWay s i line = none) (free : ∃ w < 16, (dirGet s i line w).valid = false) :
    ∃ t v, dirAlloc s i line = some t ∧ OnlyDir s t i ∧ FreshEntry t i line v := by
  obtain ⟨w₀, hw₀, free⟩ := free
  have found : ((List.range 16).find? fun w => !(dirGet s i line w).valid).isSome = true :=
    List.find?_isSome.2 ⟨w₀, List.mem_range.2 hw₀, by rw [free]; rfl⟩
  obtain ⟨w, hw⟩ := Option.isSome_iff_exists.1 found
  obtain ⟨only, ⟨age, entry⟩, others⟩ := dirAge_entries s i (s.setOf line) w { dentryD 0 with valid := true, line := line }
  have alloc : dirAlloc s i line = some (dirAge s i (s.setOf line) w { dentryD 0 with valid := true, line := line }) := by
    rw [dirAlloc, hw]
  generalize dirAge s i (s.setOf line) w { dentryD 0 with valid := true, line := line } = t at only entry others alloc
  have set : t.setOf line = s.setOf line := (only.works ⟨false, false, false⟩).setOf line
  refine ⟨t, w, alloc, only, ?_, age, by rw [dirGet, set, entry]⟩
  have range : w < 16 := List.mem_range.1 (List.mem_of_find?_eq_some hw)
  have only_ : ∀ j < 16, j ≠ w → ¬ ((sget dentryD (t.slice i).dir (t.setOf line * 16 + j)).valid &&
      (sget dentryD (t.slice i).dir (t.setOf line * 16 + j)).line == line) = true := fun j hj ne => by
    obtain ⟨_, is⟩ := others j ne
    rw [set, is]
    exact List.find?_eq_none.1 absent j (List.mem_range.2 hj)
  have here : ((sget dentryD (t.slice i).dir (t.setOf line * 16 + w)).valid &&
      (sget dentryD (t.slice i).dir (t.setOf line * 16 + w)).line == line) = true := by
    rw [set, entry]
    exact beq_iff_eq.2 rfl
  have some_ : (dirWay t i line).isSome = true := List.find?_isSome.2 ⟨w, List.mem_range.2 range, here⟩
  obtain ⟨j, hj⟩ := Option.isSome_iff_exists.1 some_
  rw [hj]
  refine congrArg some (Classical.byContradiction fun ne => ?_)
  have holds := List.find?_some (p := fun w => (sget dentryD (t.slice i).dir (t.setOf line * 16 + w)).valid &&
    (sget dentryD (t.slice i).dir (t.setOf line * 16 + w)).line == line) hj
  exact only_ j (List.mem_range.1 (List.mem_of_find?_eq_some hj)) ne holds

/-! ## The intake (R195, R216, R217) -/

/-- Nothing waits at the slice. -/
structure Idle (x : Slice) : Prop where
  inq : x.inq = []
  confq : x.confq = []
  retryq : x.retryq = []

theorem intake_idle (h : Idle (s.slice i)) : intake s i = none := by
  obtain ⟨inq, confq, retryq⟩ := h
  rw [intake]
  dsimp only
  rw [retryq, confq, inq]
  rfl

theorem settle_idle (h : Idle (s.slice i)) : settle s i = s := by
  have still : settleN (3 * ((s.slice i).inq.length + (s.slice i).confq.length + (s.slice i).retryq.length) + 1) s i = s := by
    rw [settleN, intake_idle h]
  rw [settle, still]
  split <;> rfl

theorem mayJoin_calm {x : Slice} (open_ : lineBusy x line = false) {r : Req} (hl : lineOf r.addr = line) (b : Bool) : mayJoin x b r = false := by
  unfold lineBusy at open_
  simp only [Bool.or_eq_false_iff] at open_
  obtain ⟨⟨⟨⟨noTxn, -⟩, -⟩, -⟩, -⟩ := open_
  rw [mayJoin, hl]
  refine Bool.and_eq_false_iff.2 (Or.inr (List.any_eq_false.2 fun t ht c => ?_))
  simp only [Bool.and_eq_true] at c
  exact List.any_eq_false.1 noTxn t ht c.1.1.1.1

theorem parity_lt (v : Nat) : parity v < 2 := Nat.mod_lt _ (by decide)

theorem hash_lt (pa : Nat) (masks : List Nat) : masks.foldr (fun m acc => parity (pa &&& m) + 2 * acc) 0 < 2 ^ masks.length := by
  induction masks with
  | nil => exact Nat.one_pos
  | cons m l ih =>
    have bit := parity_lt (pa &&& m)
    rw [List.foldr_cons, List.length_cons, Nat.pow_succ]
    omega

theorem sliceOf_lt (s : State) (l : Nat) : s.sliceOf l < 16 := by
  have few : (hashMasks s.ten).length ≤ 4 := by
    rw [hashMasks]
    split <;> decide
  exact Nat.lt_of_lt_of_le (hash_lt _ _) (Nat.pow_le_pow_right (by decide) few)

theorem half_of_slice {n x : Nat} (h : n < 16) (hx : halfOf (20 + n) = some x) : x = 2 + n / 8 := by
  have all : ∀ n < 16, halfOf (20 + n) = some (2 + n / 8) := by decide
  exact (Option.some.inj ((all n h).symm.trans hx)).symm

/-- The one request at the input of a slice is taken where its line's check is open and no grant holds it. -/
theorem intake_one {r : Req} (inq : (s.slice i).inq = [r]) (confq : (s.slice i).confq = []) (retryq : (s.slice i).retryq = [])
    (open_ : lineBusy (s.slice i) (lineOf r.addr) = false) (granted : rateHeld s (20 + i) (s.paced (20 + i)) = false) :
    intake s i = (tryBegin ((s.modSlice i fun x => { x with inq := [] }).pace (20 + i)) i r false).map fun t => t.count (16 + i) 0 1 := by
  rw [intake]
  dsimp only
  generalize s.slice i = x at inq confq retryq open_
  rw [inq, confq, retryq, granted]
  dsimp only [List.findSome?_nil, List.length_nil, List.any_nil]
  simp [mayJoin_calm open_ rfl, open_]

/-- A slice that is Lit and idle takes a request into its check at once. -/
theorem submit_checks {r : Req} (h : CalmLine s i line) (hl : lineOf r.addr = line) : ∃ u, u.slice i = s.slice i ∧
    Works ⟨true, false, false⟩ s u i ∧ ∀ v, tryBegin u i r false = some v → Idle (v.slice i) → submit s r = v.count (16 + i) 0 1 := by
  obtain ⟨slice, ⟨lit, half⟩, ⟨inq, confq, retryq⟩, granted, -, open_, -, -⟩ := h
  have awake : s.wake (20 + i) = s := wake_lit lit fun x hx => by
    rw [half_of_slice (slice ▸ sliceOf_lt s line) hx]
    exact half
  obtain ⟨q, hq⟩ : ∃ q, q = s.modSlice i fun x => { x with inq := x.inq ++ [r] } := ⟨_, rfl⟩
  have qs : q.slice i = { s.slice i with inq := [r] } := by
    rw [hq, State.slice_modSlice_same, inq]
    rfl
  have qw : Works ⟨true, false, false⟩ s q i := by
    rw [hq]
    exact works_modSlice ..
  have held : rateHeld q (20 + i) (q.paced (20 + i)) = false := by
    rw [hq]
    exact granted
  refine ⟨(q.modSlice i fun x => { x with inq := [] }).pace (20 + i), ?_, (qw.trans (works_modSlice ..)).trans (works_pace rfl ..), fun v hv idle => ?_⟩
  · rw [State.slice_pace, State.slice_modSlice_same, qs, ← inq]
  · have first : intake q i = some (v.count (16 + i) 0 1) := by
      rw [intake_one (r := r) (by rw [qs]) (by rw [qs, ← confq]) (by rw [qs, ← retryq]) (by rw [qs, hl]; exact open_) held, hv]
      rfl
    have one : 3 * ((q.slice i).inq.length + (q.slice i).confq.length + (q.slice i).retryq.length) + 1 = 4 := by
      rw [qs]
      dsimp only
      rw [confq, retryq]
      rfl
    have rest : intake (v.count (16 + i) 0 1) i = none := intake_idle (by rw [State.slice_count]; exact idle)
    rw [submit, hl, ← slice]
    rw [awake, ← hq, settle, qw.domLit, lit, if_pos rfl]
    show settleN (3 * ((q.slice i).inq.length + (q.slice i).confq.length + (q.slice i).retryq.length) + 1) q i = _
    rw [one, settleN, first]
    dsimp only
    rw [settleN, rest]

/-! ## The check (R193, R215, R217) -/

/-- A request takes one miss register at most, and a sweep may hold one. -/
theorem missUsed_room (room : missUsed s i < 511) (cleanAlls : t.cleanAlls = s.cleanAlls) (home : t.home = s.home) (one : (t.slice i).txns.length ≤ (s.slice i).txns.length + 1) :
    missUsed t i ≤ 512 := by
  have sweeps : ∀ b : Bool, (if b then 1 else 0) ≤ 1 := by decide
  have before := sweeps (!(s.slice i).sweeps.isEmpty && (List.range 16).any fun w => walkBlocked s i (s.slice i).sweepPos w)
  have after := sweeps (!(t.slice i).sweeps.isEmpty && (List.range 16).any fun w => walkBlocked t i (t.slice i).sweepPos w)
  unfold missUsed at room ⊢
  rw [cleanAlls, home]
  omega

/-- The check is sound and no agent is purged: the check changes no entry. -/
theorem check_idle (h : CalmLine s i line) (same : u.slice i = s.slice i) (works : Works ⟨true, false, false⟩ s u i)
    (held : ∀ w, dirWay s i line = some w → (dirGet s i line w).ptrs ≠ []) :
    SameEntries u (dirPurge (dirCheck u i line) i line) i ∧ ∀ may, Works may u (dirPurge (dirCheck u i line) i line) i := by
  obtain ⟨none, -, sound⟩ := h.sound
  have get : ∀ w, dirGet u i line w = dirGet s i line w := dirGet_congr works.boot (fun n => by rw [same]) line
  have way : dirWay u i line = dirWay s i line := dirWay_congr works.boot (fun n => by rw [same]) line
  rw [dirCheck_sound fun w hw => by rw [get]; exact sound w hw]
  exact dirPurge_idle (works.purge.trans none) fun w hw => by rw [get]; exact held w (way.symm.trans hw)

/-- From s to t the check has let a request go on; no entry of the directory differs. -/
structure Begins (s t : State) (i : Nat) : Prop where
  entries : SameEntries s t i
  works : Works ⟨true, false, false⟩ s t i

theorem Begins.dirWay (h : Begins s t i) (l : Nat) : dirWay t i l = dirWay s i l := dirWay_congr h.works.boot h.entries.dir l
theorem Begins.dirGet (h : Begins s t i) (l w : Nat) : dirGet t i l w = dirGet s i l w := dirGet_congr h.works.boot h.entries.dir l w

/-- What a begun request must leave for the slice to go on at once: it is idle, and at most one miss register more is in use. -/
structure Settles (s t : State) (i : Nat) : Prop where
  cleanAlls : t.cleanAlls = s.cleanAlls
  home : t.home = s.home
  idle : Idle (t.slice i)
  one : (t.slice i).txns.length ≤ (s.slice i).txns.length + 1

/-- A request that needs no new directory way begins (R193). -/
theorem submit_begins {r : Req} (h : CalmLine s i line) (hl : lineOf r.addr = line)
    (held : ∀ w, dirWay s i line = some w → (dirGet s i line w).ptrs ≠ []) (way : isGrantKind r.kind = true → (dirWay s i line).isSome = true) :
    ∃ t, Begins s t i ∧ (Settles t (begin_ t i r) i → submit s r = (begin_ t i r).count (16 + i) 0 1) := by
  obtain ⟨u, same, works, takes⟩ := submit_checks h hl
  obtain ⟨entries, checked⟩ := check_idle h same works held
  obtain ⟨c, hc⟩ : ∃ c, c = dirPurge (dirCheck u i line) i line := ⟨_, rfl⟩
  rw [← hc] at entries checked
  have begins : Begins s c i := by
    refine ⟨⟨?_, fun n => by rw [entries.dir, same]⟩, works.trans (checked _)⟩
    rw [entries.slice, same]
  have txns : (c.slice i).txns = (s.slice i).txns := by rw [begins.entries.slice]
  have noWay : needsWay c i r = false := by
    rw [needsWay, hl, begins.dirWay]
    cases hg : isGrantKind r.kind with
    | false => rfl
    | true => rw [Option.isNone_eq_false_iff.2 (way hg), Bool.and_false]
  refine ⟨c, begins, fun ⟨cleanAlls, home, idle, one⟩ => takes _ ?_ idle⟩
  have room : missUsed (begin_ c i r) i ≤ 512 := by
    refine missUsed_room h.room (cleanAlls.trans begins.works.cleanAlls) (home.trans begins.works.home) ?_
    rw [← txns]
    exact one
  rw [tryBegin, hl]
  dsimp only
  rw [← hc, noWay, if_neg Bool.false_ne_true, if_neg fun c => Nat.not_le_of_lt c.1 room]

/-- A request for the copy of a line that no host holds begins with a new directory way (R193). -/
theorem submit_allocates {r : Req} (h : CalmLine s i line) (hl : lineOf r.addr = line) (grant : isGrantKind r.kind = true)
    (absent : dirWay s i line = none) (free : ∃ w < 16, (dirGet s i line w).valid = false) :
    ∃ t v, FreshEntry t i line v ∧ t.slice i = { s.slice i with dir := (t.slice i).dir } ∧ Works ⟨true, false, false⟩ s t i ∧
      (Settles t (begin_ t i r) i → submit s r = (begin_ t i r).count (16 + i) 0 1) := by
  obtain ⟨u, same, works, takes⟩ := submit_checks h hl
  obtain ⟨entries, checked⟩ := check_idle h same works fun w hw => absurd (absent.symm.trans hw) (Option.some_ne_none w).symm
  obtain ⟨c, hc⟩ : ∃ c, c = dirPurge (dirCheck u i line) i line := ⟨_, rfl⟩
  rw [← hc] at entries checked
  have begins : Begins s c i := by
    refine ⟨⟨?_, fun n => by rw [entries.dir, same]⟩, works.trans (checked _)⟩
    rw [entries.slice, same]
  obtain ⟨w₀, hw₀, free⟩ := free
  obtain ⟨d, v, alloc, only, fresh⟩ := dirAlloc_free ((begins.dirWay line).trans absent) ⟨w₀, hw₀, by rw [begins.dirGet]; exact free⟩
  have needs : needsWay c i r = true := by rw [needsWay, hl, begins.dirWay, absent, grant]; rfl
  have alone : (c.slice i).retryq = [] := by rw [begins.entries.slice]; exact h.idle.2.2
  have slice : d.slice i = { s.slice i with dir := (d.slice i).dir } := by rw [only.slice, begins.entries.slice]
  refine ⟨d, v, fresh, slice, begins.works.trans (only.works _), fun ⟨cleanAlls, home, idle, one⟩ => takes _ ?_ idle⟩
  have room : missUsed (begin_ d i r) i ≤ 512 := by
    have works := begins.works.trans (only.works _)
    refine missUsed_room h.room (cleanAlls.trans works.cleanAlls) (home.trans works.home) ?_
    rw [slice] at one
    exact one
  rw [tryBegin, hl]
  dsimp only
  rw [← hc, needs, if_pos rfl, alone]
  rw [List.any_nil, Bool.and_false, if_neg Bool.false_ne_true, alloc]
  dsimp only
  rw [if_neg fun c => Nat.not_le_of_lt c.1 room]

end Sys2Proof.Machine
end

section
/-! PROOF. The open transaction of a line: how it begins, finds its line in the Hearth, and ends (R180, R183, R206). -/
namespace Sys2Proof.Machine
open Config

variable {s t u v : State} {i line : Nat} {l : List Txn} {x : Txn}

/-! ## The transactions of a slice -/

/-- The slice has one transaction of a line, its last. -/
structure OneTxn (s : State) (i line : Nat) (l : List Txn) (x : Txn) : Prop where
  txns : (s.slice i).txns = l ++ [x]
  here : x.line = line
  others : ∀ y ∈ l, y.line ≠ line

theorem modTxn_slice (s : State) (i line : Nat) (f : Txn → Txn) : (modTxn s i line f).slice i =
    { s.slice i with txns := (s.slice i).txns.map fun t => if t.line = line then f t else t } := State.slice_modSlice_same ..

theorem works_modTxn (may : May) (s : State) (i line : Nat) (f : Txn → Txn) : Works may s (modTxn s i line f) i := works_modSlice ..

theorem OneTxn.txnOf (h : OneTxn s i line l x) : txnOf s i line = some x := by
  have none : l.find? (fun t => t.line == line) = none := find?_none fun y hy => beq_eq_false_iff_ne.2 (h.others y hy)
  rw [Machine.txnOf, h.txns, List.find?_append, none, Option.none_or]
  exact List.find?_cons_of_pos (beq_iff_eq.2 h.here)

theorem OneTxn.mod (h : OneTxn s i line l x) {f : Txn → Txn} (keeps : (f x).line = line) : OneTxn (modTxn s i line f) i line l (f x) := by
  refine ⟨?_, keeps, h.others⟩
  have rest : (l.map fun t => if t.line = line then f t else t) = l :=
    (List.map_congr_left fun y hy => if_neg (h.others y hy)).trans (List.map_id' l)
  rw [modTxn_slice, h.txns, List.map_append, rest, List.map_cons, List.map_nil, if_pos h.here]

theorem OneTxn.same (h : OneTxn s i line l x) (txns : (t.slice i).txns = (s.slice i).txns) : OneTxn t i line l x :=
  ⟨txns.trans h.txns, h.here, h.others⟩

theorem OneTxn.filter (h : OneTxn s i line l x) : ((s.slice i).txns.filter fun t => t.line != line) = l := by
  have keeps : l.filter (fun t => t.line != line) = l := List.filter_eq_self.2 fun y hy => bne_iff_ne.2 (h.others y hy)
  rw [h.txns, List.filter_append, keeps, List.filter_cons_of_neg (by rw [h.here]; simp), List.filter_nil, List.append_nil]

/-! ## The stages of a transaction (R180) -/

/-- An open transaction goes as far as its data. -/
def gatherTxn (s : State) (i line : Nat) : State :=
  match txnOf s i line with
  | none => s
  | some t =>
    if t.stage ≠ 0 ∨ t.snps ≠ [] ∨ lineMoving (s.slice i) line = true then s
    else
      let s := match t.snpData, t.fetch with
        | some _, .got _ _ _ => s
        | some (d, p), _ => takeClean s i t d p
        | none, _ => s
      let s := match txnOf s i line with
        | some t => if needsData t = true ∧ t.fetch = .none then startFetch s i t else s
        | none => s
      match txnOf s i line with
      | some t => performTxn s i t
      | none => s

/-- The response of what has been performed. -/
def lateTxn (s : State) (i line : Nat) : State :=
  match txnOf s i line with
  | some t => if t.stage = 1 ∧ lineMoving (s.slice i) line = false then lateRespond s i t else s
  | none => s

/-- The end of a transaction that awaits no GACK. -/
def finishTxn (s : State) (i line : Nat) : State :=
  match txnOf s i line with
  | some t =>
    if t.stage = 2 ∧ t.gack = false ∧ lineMoving (s.slice i) line = false then
      let s := s.modSlice i fun x => { x with txns := x.txns.filter fun t => t.line != line }
      match dirEntry s i line with
      | some e => if e.ptrs = [] ∧ e.bcast = false then dirFree s i line else s
      | none => s
    else s
  | none => s

theorem advance_stages (s : State) (i line : Nat) : advance s i line = finishTxn (lateTxn (gatherTxn s i line) i line) i line := rfl

theorem lateTxn_done (h : txnOf t i line = some x) (stage : x.stage = 2) : lateTxn t i line = t := by
  rw [lateTxn, h]
  exact if_neg fun c => absurd (c.1.symm.trans stage) (by decide)

/-- What waits for its GACK stays open (R180). -/
theorem finishTxn_waits (h : txnOf t i line = some x) (gack : x.gack = true) : finishTxn t i line = t := by
  rw [finishTxn, h]
  exact if_neg fun c => Bool.noConfusion (c.2.1.symm.trans gack)

/-- The others end; their line is in no directory entry that names no host. -/
theorem finishTxn_ends (h : OneTxn t i line l x) (stage : x.stage = 2) (noGack : x.gack = false) (still : lineMoving (t.slice i) line = false)
    (absent : dirWay t i line = none) : finishTxn t i line = t.modSlice i fun y => { y with txns := y.txns.filter fun t => t.line != line } := by
  have noEntry : dirEntry (t.modSlice i fun y => { y with txns := y.txns.filter fun t => t.line != line }) i line = none := by
    rw [dirEntry, dirWay_congr (s := t) (i := i) (t := t.modSlice i fun y => { y with txns := y.txns.filter fun t => t.line != line }) rfl
      (fun n => by rw [State.slice_modSlice_same]), absent]
    rfl
  rw [finishTxn, h.txnOf]
  dsimp only
  rw [if_pos ⟨stage, noGack, still⟩, noEntry]

/-- A transaction whose response has left with a grant. -/
theorem advance_granted (gathers : gatherTxn s i line = t) (h : txnOf t i line = some x) (stage : x.stage = 2) (gack : x.gack = true) :
    advance s i line = t := by rw [advance_stages, gathers, lateTxn_done h stage, finishTxn_waits h gack]

/-! ## Data that is in the Hearth (R206, R423) -/

theorem readWay_good {set w : Nat} (errs : (s.hway i set w).errs = []) (sound : (s.hway i set w).poison = false) :
    readWay s i set w = (s, some ((s.hway i set w).data, false)) := by
  have noBad : (badSyms []).length = 0 := by decide
  have decoded : decodeLine s (s.hway i set w).data false [] = (s, ⟨(s.hway i set w).data, false, .none, []⟩) := by
    unfold decodeLine
    dsimp only
    rw [if_pos noBad]
    rfl
  rw [readWay, errs, sound, decoded]

theorem setHway_slice (s : State) (i set w : Nat) (h : HLine) : (s.setHway i set w h).slice i =
    { s.slice i with hearth := sset hlineD (s.slice i).hearth (set * 16 + w) h } := State.slice_modSlice_same ..

theorem works_setHway (may : May) (s : State) (i set w : Nat) (h : HLine) : Works may s (s.setHway i set w h) i := works_modSlice ..

theorem oneWay_of {set w : Nat} {h : HLine} (hearth : (t.slice i).hearth = sset hlineD (s.slice i).hearth (set * 16 + w) h) :
    OneWay s t i set w h :=
  ⟨by rw [State.hway, hearth, sget_sset_same], fun n hn => by rw [hearth, sget_sset_other _ _ _ hn]⟩

/-- A transaction as its line's data stands in the Hearth. -/
def hitTxn (x : Txn) (d : LineData) : Txn := { x with fetch := .got d false false, looked := true }

/-- The line's way once it has been hit (R206). -/
def hitWay (s : State) (i line w : Nat) : HLine := { s.hway i (s.setOf line) w with age := 0 }

/-- From s to t the transaction of a line has found its data in way w. -/
structure Hits (s t : State) (i line w : Nat) (l : List Txn) (x : Txn) : Prop where
  works : Works ⟨true, false, false⟩ s t i
  slice : t.slice i = { s.slice i with
    hearth := sset hlineD (s.slice i).hearth (s.setOf line * 16 + w) (hitWay s i line w), txns := (t.slice i).txns }
  txns : OneTxn t i line l x

theorem startFetch_hits {w : Nat} {d : LineData} (one : OneTxn s i line l x) (hit : HearthHit s i line w d) :
    Hits s (startFetch s i x) i line w l (hitTxn x d) := by
  obtain ⟨way, rfl, errs, sound⟩ := hit
  have fetch : startFetch s i x = modTxn (noteGot (noteFrom ((touch s i (s.setOf line) w).count (16 + i) 1 1) x 0) x.req) i line
      fun t => { t with fetch := .got (s.hway i (s.setOf line) w).data false false, looked := true } := by
    rw [startFetch, one.here, way]
    dsimp only
    rw [readWay_good errs sound]
  rw [fetch]
  have touched := setHway_slice s i (s.setOf line) w (hitWay s i line w)
  have works : Works ⟨true, false, false⟩ s (noteGot (noteFrom ((touch s i (s.setOf line) w).count (16 + i) 1 1) x 0) x.req) i :=
    ((Works.trans (works_setHway ..) (works_count rfl ..)).trans (works_blotNote ..)).trans (works_blotNote ..)
  have slice : (noteGot (noteFrom ((touch s i (s.setOf line) w).count (16 + i) 1 1) x 0) x.req).slice i =
      { s.slice i with hearth := sset hlineD (s.slice i).hearth (s.setOf line * 16 + w) (hitWay s i line w) } := by
    rw [noteGot, noteFrom, State.slice_blotNote, State.slice_blotNote, State.slice_count]
    exact touched
  generalize noteGot (noteFrom ((touch s i (s.setOf line) w).count (16 + i) 1 1) x 0) x.req = u at works slice
  have one' : OneTxn u i line l x := one.same (by rw [slice])
  refine ⟨works.trans (works_modTxn ..), ?_, one'.mod one.here⟩
  rw [modTxn_slice, slice]

/-- The slice's data of a line is at rest: nothing of it is under way to a way or a queue. -/
theorem moving_of_busy {y : Slice} (h : lineBusy y line = false) : lineMoving y line = false := by
  unfold lineBusy at h
  simp only [Bool.or_eq_false_iff] at h
  exact Bool.or_eq_false_iff.2 ⟨h.1.2, h.2⟩

/-- A transaction that needs the line's data and finds it in the Hearth. -/
theorem gatherTxn_hits {w : Nat} {d : LineData} (one : OneTxn s i line l x) (hit : HearthHit s i line w d) (stage : x.stage = 0) (snps : x.snps = [])
    (still : lineMoving (s.slice i) line = false) (noData : x.snpData = none) (needs : needsData x = true) (fetch : x.fetch = .none) :
    ∃ t, Hits s t i line w l (hitTxn x d) ∧ gatherTxn s i line = performTxn t i (hitTxn x d) := by
  have hits := startFetch_hits one hit
  refine ⟨_, hits, ?_⟩
  rw [gatherTxn, one.txnOf]
  dsimp only
  rw [if_neg (by rw [still]; simp [stage, snps]), noData]
  dsimp only
  rw [one.txnOf]
  dsimp only
  rw [if_pos ⟨needs, fetch⟩, hits.txns.txnOf]

/-- A transaction that needs no data. -/
theorem gatherTxn_noData (h : txnOf s i line = some x) (stage : x.stage = 0) (snps : x.snps = []) (still : lineMoving (s.slice i) line = false)
    (noData : x.snpData = none) (needs : needsData x = false) : gatherTxn s i line = performTxn s i x := by
  rw [gatherTxn, h]
  dsimp only
  rw [if_neg (by rw [still]; simp [stage, snps]), noData]
  dsimp only
  rw [h]
  dsimp only
  rw [if_neg (by rw [needs]; simp), h]

theorem serveSecs_none {d : LineData} {p : Bool} (none : x.secs = []) : serveSecs s x d p = s := by
  rw [serveSecs, none]
  rfl

/-- A transaction whose data is here has its effect. -/
theorem performTxn_got {d : LineData} {p f : Bool} (needs : needsData x = true) (fetch : x.fetch = .got d p f) (secs : x.secs = [])
    (still : lineMoving (s.slice i) x.line = false) : performTxn s i x = commit s i x d p f := by
  rw [performTxn, if_pos needs, fetch]
  dsimp only
  rw [still, Bool.false_and, if_neg Bool.false_ne_true, serveSecs_none secs]

theorem performTxn_noData (needs : needsData x = false) (still : lineMoving (s.slice i) x.line = false) :
    performTxn s i x = commit s i x 0 false false := by
  rw [performTxn, if_neg (by rw [needs]; exact Bool.false_ne_true), still, if_neg Bool.false_ne_true]

/-! ## A transaction begins (R180, R181) -/

/-- The entry of a line as a request meets it: one that names no host is none (R180). -/
def metEntry (s : State) (i line : Nat) : Option DEntry :=
  match dirEntry s i line with
  | some e => if e.ptrs = [] ∧ e.bcast = false then none else some e
  | none => none

/-- The transaction of a request that met an entry and awaits the answers to these snoops. -/
def newTxn (s : State) (i : Nat) (r : Req) (e : Option DEntry) (sn : List Snoop) : Txn :=
  { line := lineOf r.addr, req := r, snps := sn, owner := e.bind ownerOf, anyOwner := e.isNone, gone := [], taken := [],
    calm := match e with | some e => e.st == .S || e.st == .L | none => true,
    fetch := .none, snpData := none, pol := effPolicy s i (lineOf r.addr), lead := leadOk s (hostIdx r.src), found := none,
    looked := false, stage := 0, gack := isGrantKind r.kind && !purged s (hostIdx r.src), out := 0, outPoison := false,
    ok := r.kind == .upgrade && (match e with
      | some e => (e.st == .S || e.st == .L) && (holders s e).contains (hostIdx r.src)
      | none => false),
    secs := [] }

/-- The transaction stands, its request is accepted. -/
def openedTxn (s : State) (i : Nat) (r : Req) (e : Option DEntry) (sn : List Snoop) : State :=
  (s.modSlice i fun x => { x with txns := x.txns ++ [newTxn s i r e sn] }).blotNote r.src r.tag
    fun w => { w with acc := some s.tb.count.toNat, snooped := !sn.isEmpty }

/-- A transaction begins: the snoops of its plan leave, it stands, and home data that may be read beside them is read. -/
theorem openTxn_eq (s : State) (i : Nat) (r : Req) : openTxn s i r =
    (let line := lineOf r.addr
     let plan := snoopPlan s i r (metEntry s i line)
     let q := sendSnoops s i line plan.1 plan.2.1
     let t := endUnsent (openedTxn q.1 i r (metEntry s i line) q.2) i line q.2
     advance (match txnOf t i line with
       | some x => if x.snps ≠ [] ∧ plan.2.2 = true ∧ needsData x = true then startFetch t i x else t
       | none => t) i line) := rfl

/-- A request that snoops no host opens its transaction and goes on with it at once. -/
theorem openTxn_quiet {r : Req} (hl : lineOf r.addr = line) (noSnoops : (snoopPlan s i r (metEntry s i line)).2.1 = [])
    (alone : ∀ y ∈ (s.slice i).txns, y.line ≠ line) : ∃ t, openTxn s i r = advance t i line ∧ Works ⟨false, false, false⟩ s t i ∧
      t.slice i = { s.slice i with txns := (t.slice i).txns } ∧
      OneTxn t i line (s.slice i).txns (newTxn s i r (metEntry s i line) []) := by
  subst hl
  have slice : (openedTxn s i r (metEntry s i (lineOf r.addr)) []).slice i =
      { s.slice i with txns := (s.slice i).txns ++ [newTxn s i r (metEntry s i (lineOf r.addr)) []] } := by
    rw [openedTxn, State.slice_blotNote, State.slice_modSlice_same]
  have one : OneTxn (openedTxn s i r (metEntry s i (lineOf r.addr)) []) i (lineOf r.addr) (s.slice i).txns
      (newTxn s i r (metEntry s i (lineOf r.addr)) []) := ⟨by rw [slice], rfl, alone⟩
  refine ⟨openedTxn s i r (metEntry s i (lineOf r.addr)) [], ?_, (works_modSlice ..).trans (works_blotNote ..), by rw [slice], one⟩
  have none : ∀ o, sendSnoops s i (lineOf r.addr) o [] = (s, []) := fun _ => rfl
  have sent : ∀ u : State, endUnsent u i (lineOf r.addr) [] = u := fun _ => rfl
  rw [openTxn_eq]
  dsimp only
  rw [noSnoops, none]
  dsimp only
  rw [sent, one.txnOf]
  dsimp only
  rw [if_neg fun c => c.1 rfl]

end Sys2Proof.Machine
end

section
/-! PROOF. Reads of hosts that hit the Hearth (R184–R187, R206). -/
namespace Sys2Proof.Machine
open Config

variable {s t u v : State} {i line p : Nat} {l : List Txn} {x : Txn}

/-! ## Grants (R184, R185, R187, R188) -/

theorem dirWay_dirSet {w : Nat} {e : DEntry} (way : dirWay s i line = some w) (valid : e.valid = true) (here : e.line = line)
    (boot : t.boot = s.boot) (dir : (t.slice i).dir = sset dentryD (s.slice i).dir (s.setOf line * 16 + w) e) : dirWay t i line = some w := by
  rw [← way]
  unfold dirWay
  rw [setOf_congr boot, dir]
  refine congrArg (fun q => List.find? q (List.range 16)) (funext fun j => ?_)
  rw [sget_sset]
  split
  · next same =>
    have holds := List.find?_some (p := fun w => (sget dentryD (s.slice i).dir (s.setOf line * 16 + w)).valid &&
      (sget dentryD (s.slice i).dir (s.setOf line * 16 + w)).line == line) way
    rw [show j = w by omega, holds]
    exact Bool.and_eq_true_iff.2 ⟨valid, beq_iff_eq.2 here⟩
  · rfl

theorem dirWay_holds {w : Nat} (way : dirWay s i line = some w) : (dirGet s i line w).valid = true ∧ (dirGet s i line w).line = line := by
  have holds := List.find?_some (p := fun w => (sget dentryD (s.slice i).dir (s.setOf line * 16 + w)).valid &&
    (sget dentryD (s.slice i).dir (s.setOf line * 16 + w)).line == line) way
  rw [Bool.and_eq_true, beq_iff_eq] at holds
  exact holds

/-- From s to t a host has been granted a copy of a line: the entry of the line, in way w, is e, the response m has left, and the
transaction x waits for its GACK. -/
structure Grants (s t : State) (i line w p : Nat) (l : List Txn) (x : Txn) (e : DEntry) (m : Msg) : Prop where
  answered : Answered s t i p m
  one : OneTxn t i line l { x with stage := 2 }
  entry : dirEntry t i line = some e
  slice : t.slice i = { s.slice i with dir := (t.slice i).dir, txns := (t.slice i).txns }
  rest : t = { s with ports := t.ports, slices := t.slices, acc := t.acc, tel := t.tel, resv := t.resv, pcs := t.pcs }

theorem grants_of {may : May} {w : Nat} {e : DEntry} {opc : Nat} {poison : Bool} {body : List Word} (works : Works may s v i)
    (slice : v.slice i = { s.slice i with dir := sset dentryD (s.slice i).dir (s.setOf line * 16 + w) e }) (host : HostAt s x.req.src p)
    (one : OneTxn s i line l x) (way : dirWay s i line = some w) (valid : e.valid = true) (here : e.line = line) (answer : opc ≠ opcNO_TARGET) :
    Grants s (modTxn (respond v x.req opc 0 poison body) i line fun t => { t with stage := 2 }) i line w p l x e
      { s.mkRsp opc x.req.src x.req.tag body with poison := poison } ∧
    (modTxn (respond v x.req opc 0 poison body) i line fun t => { t with stage := 2 }).resv = v.resv ∧
    (modTxn (respond v x.req opc 0 poison body) i line fun t => { t with stage := 2 }).pcs = v.pcs := by
  have replies := respond_host (r := x.req) (poison := poison) (body := body) (works.hostAt host) 0 answer
  rw [works.mkRsp] at replies
  generalize respond v x.req opc 0 poison body = u at replies ⊢
  have after := works_modTxn may u i line fun t => { t with stage := 2 }
  have slice' : (modTxn u i line fun t => { t with stage := 2 }).slice i = { s.slice i with
      dir := sset dentryD (s.slice i).dir (s.setOf line * 16 + w) e
      txns := (s.slice i).txns.map fun t => if t.line = line then { t with stage := 2 } else t } := by
    rw [modTxn_slice, replies.slice, slice]
  have one' : OneTxn u i line l x := one.same (by rw [replies.slice, slice])
  have boot : (modTxn u i line fun t => { t with stage := 2 }).boot = s.boot := by rw [after.boot, replies.rest, ← works.boot]
  refine ⟨⟨answered_of works replies after, one'.mod one.here, ?_, by rw [slice'], ?_⟩, ?_, ?_⟩
  · rw [dirEntry, dirWay_dirSet (s := s) way valid here boot (by rw [slice'])]
    refine congrArg some ?_
    rw [dirGet, setOf_congr boot, slice', sget_sset_same]
  · rw [after.rest, replies.rest, works.rest]
  · rw [modTxn, replies.rest]
    rfl
  · rw [modTxn, replies.rest]
    rfl

/-! ### The entry as a grant finds it -/

/-- The entry without the hosts that have left; no agent is purged and none has the lead. -/
theorem liveEntry_idle {e : DEntry} (entry : dirEntry s i x.line = some e) (none : s.purge = []) (noLead : e.st ≠ .L) :
    liveEntry s i x = some { e with ptrs := e.ptrs.filter fun h => !x.gone.contains h } := by
  have keep : (e.ptrs.filter fun h => !(x.gone.contains h || purged s h)) = e.ptrs.filter fun h => !x.gone.contains h :=
    List.filter_congr fun h _ => by rw [purged_nil none, Bool.or_false]
  have lead : (e.st == DirSt.L) = false := beq_eq_false_iff_ne.2 noLead
  rw [liveEntry, entry]
  dsimp only
  rw [keep, lead, Bool.false_and, if_neg Bool.false_ne_true]

/-- An entry with one holder more, as the lead or as a sharer (R184, R187). -/
def namedEntry (e : DEntry) (h : Nat) (lead : Bool) : DEntry :=
  { e with
    st := if lead then .L else if e.st = .X ∨ e.st = .D then .S else e.st
    ptrs := if lead then h :: (e.ptrs.drop 1 ++ e.ptrs.take 1) else e.ptrs ++ [h] }

theorem addHolder_names {e : DEntry} {h : Nat} (bcast : e.bcast = false) (new : e.ptrs.contains h = false) (few : e.ptrs.length < 2) (lead : Bool) :
    addHolder s i e h lead = (s, if lead then { e with st := .L, ptrs := h :: (e.ptrs.drop 1 ++ e.ptrs.take 1) }
      else { e with ptrs := e.ptrs ++ [h] }) := by
  have room : e.ptrs.length < pointerCount s := by
    unfold pointerCount
    split <;> omega
  rw [addHolder, if_neg (by rw [bcast]; exact Bool.false_ne_true), if_neg (by rw [new]; exact Bool.false_ne_true), if_pos room]

/-- A host takes its place in an entry that has room for it. -/
theorem grantShared_names {e : DEntry} {w : Nat} {d : LineData} {bad : Bool} (way : dirWay s i x.line = some w) (live : liveEntry s i x = some e)
    (bcast : e.bcast = false) (new : e.ptrs.contains (hostIdx x.req.src) = false) (few : e.ptrs.length < 2) :
    grantShared s i x d bad = modTxn (respond (dirSet s i x.line w (namedEntry e (hostIdx x.req.src) x.lead)) x.req
      (if x.lead then opcDATA_L else opcDATA_S) 0 bad (wordsLE 16 d.toNat)) i x.line fun t => { t with stage := 2 } := by
  have named : addHolder s i (if e.st = .X ∨ e.st = .D then { e with st := .S } else e) (hostIdx x.req.src) x.lead =
      (s, namedEntry e (hostIdx x.req.src) x.lead) := by
    split
    · next owned =>
      rw [addHolder_names (e := { e with st := .S }) bcast new few, namedEntry, if_pos owned]
      split <;> rfl
    · next shared =>
      rw [addHolder_names bcast new few, namedEntry, if_neg shared]
      split <;> rfl
  rw [grantShared]
  dsimp only
  rw [live]
  dsimp only
  rw [named, putEntry, way]

/-- A host has its copy of a line whose entry had room for it. -/
theorem grants_names {e : DEntry} {w : Nat} (one : OneTxn s i line l x) (way : dirWay s i line = some w) (live : liveEntry s i x = some e)
    (bcast : e.bcast = false) (new : e.ptrs.contains (hostIdx x.req.src) = false) (few : e.ptrs.length < 2) (valid : e.valid = true)
    (here : e.line = line) (host : HostAt s x.req.src p) (d : LineData) (bad : Bool) :
    Grants s (grantShared s i x d bad) i line w p l x (namedEntry e (hostIdx x.req.src) x.lead)
      { s.mkRsp (if x.lead then opcDATA_L else opcDATA_S) x.req.src x.req.tag (wordsLE 16 d.toNat) with poison := bad } ∧
    (grantShared s i x d bad).resv = s.resv ∧ (grantShared s i x d bad).pcs = s.pcs := by
  rw [grantShared_names (one.here.symm ▸ way) live bcast new few, one.here]
  obtain ⟨grants, resv, pcs⟩ := grants_of (opc := if x.lead then opcDATA_L else opcDATA_S) (poison := bad) (body := wordsLE 16 d.toNat)
    (works_dirSet ⟨false, false, false⟩ s i line w (namedEntry e (hostIdx x.req.src) x.lead)) (dirSet_slice ..) host one way valid here
    (by split <;> decide)
  exact ⟨grants, resv, pcs⟩

theorem clearResv_gone (s : State) (line k : Nat) : sget zeroD (clearResv s line none).resv k ≠ line + 1 := by
  have all : ∀ m : Store Nat, sget zeroD (m.filter fun e => !(e.2 == line + 1 && some e.1 != none)) k ≠ line + 1 := fun m => by
    induction m with
    | nil => exact (Nat.succ_ne_zero line).symm
    | cons e m ih =>
      rw [List.filter_cons]
      split
      · next kept =>
        rw [sget]
        split
        · intro c
          simp [c] at kept
        · exact ih
      · exact ih
  exact all s.resv

/-- A host has its line alone. -/
theorem grants_exclusive {e : DEntry} {w : Nat} (one : OneTxn s i line l x) (way : dirWay s i line = some w) (entry : dirEntry s i line = some e)
    (valid : e.valid = true) (here : e.line = line) (host : HostAt s x.req.src p) (d : LineData) :
    Grants s (grantExclusive s i x d false) i line w p l x
      { e with st := if x.req.kind = .rdOwn then .X else .D, bcast := false, ptrs := [hostIdx x.req.src] }
      (if x.req.kind = .upgrade ∧ x.ok = true then s.mkRsp opcGRANT_X x.req.src x.req.tag []
        else s.mkRsp opcDATA_X x.req.src x.req.tag (wordsLE 16 d.toNat)) ∧
    (∀ k, sget zeroD (grantExclusive s i x d false).resv k ≠ line + 1) ∧ (grantExclusive s i x d false).pcs = s.pcs := by
  obtain ⟨e', he⟩ : ∃ e', e' = { e with st := if x.req.kind = ReqKind.rdOwn then DirSt.X else .D, bcast := false, ptrs := [hostIdx x.req.src] } :=
    ⟨_, rfl⟩
  have works : Works ⟨false, true, false⟩ s (clearResv (dirSet s i line w e') line none) i :=
    (works_dirSet ..).trans (works_clearResv rfl ..)
  have made : grantExclusive s i x d false = modTxn (respond (clearResv (dirSet s i line w e') line none) x.req
      (if x.req.kind = .upgrade ∧ x.ok = true then opcGRANT_X else opcDATA_X) 0 false
      (if x.req.kind = .upgrade ∧ x.ok = true then [] else wordsLE 16 d.toNat)) i line fun t => { t with stage := 2 } := by
    rw [grantExclusive, one.here, entry]
    dsimp only
    rw [putEntry, way, ← he]
    split <;> rfl
  rw [made]
  obtain ⟨grants, resv, pcs⟩ := grants_of (opc := if x.req.kind = .upgrade ∧ x.ok = true then opcGRANT_X else opcDATA_X) (poison := false)
    (body := if x.req.kind = .upgrade ∧ x.ok = true then [] else wordsLE 16 d.toNat) works (dirSet_slice ..) host one way
    (by rw [he]; exact valid) (by rw [he]; exact here) (by split <;> decide)
  have answer : (if x.req.kind = .upgrade ∧ x.ok = true then s.mkRsp opcGRANT_X x.req.src x.req.tag []
      else s.mkRsp opcDATA_X x.req.src x.req.tag (wordsLE 16 d.toNat)) =
      { s.mkRsp (if x.req.kind = .upgrade ∧ x.ok = true then opcGRANT_X else opcDATA_X) x.req.src x.req.tag
          (if x.req.kind = .upgrade ∧ x.ok = true then [] else wordsLE 16 d.toNat) with poison := false } := by
    split <;> rfl
  rw [← he, answer]
  exact ⟨grants, fun k => by rw [resv]; exact clearResv_gone _ line k, pcs⟩

/-! ### The commit of a read -/

theorem commit_rdShared {d : LineData} {bad : Bool} (kind : x.req.kind = .rdShared) (gack : x.gack = true) :
    ∃ T, commit s i x d bad false = grantShared { s with tel := T } i x d bad := by
  unfold commit
  rw [kind]
  dsimp only
  rw [grantPurged, gack, if_pos rfl]
  exact ⟨_, rfl⟩

theorem commit_exclusive {d : LineData} {bad : Bool} (kind : x.req.kind = .rdOwn ∨ x.req.kind = .upgrade) (gack : x.gack = true) :
    ∃ T, commit s i x d bad false = grantExclusive { s with tel := T } i x d bad := by
  unfold commit
  rcases kind with kind | kind
  all_goals
    rw [kind]
    dsimp only
    rw [grantPurged, gack, if_pos rfl]
    exact ⟨_, rfl⟩

theorem commit_rdUc {d : LineData} {bad : Bool} (kind : x.req.kind = .rdUc) : ∃ T, commit s i x d bad false =
    modTxn (respond (demote { s with tel := T } i x) x.req opcDATA_UC 0 bad (ucBody x.req.size x.req.addr d)) i x.line
      fun t => { t with stage := 2 } := by
  unfold commit
  rw [kind]
  exact ⟨_, rfl⟩

/-! ## A request that meets no holder and finds its line (R181, R206) -/

/-- The kinds of request that are no hint, no CLEAN_ALL and no part of a reservation. -/
def opensTxn : ReqKind → Bool
  | .prefetch | .cleanAll | .lres | .scnd => false
  | _ => true

theorem begin_opens {r : Req} (h : opensTxn r.kind = true) : begin_ s i r = openTxn s i r := by
  unfold begin_
  revert h
  cases r.kind <;> simp [opensTxn]

theorem snoopPlan_none {r : Req} (sound : tainted s i (lineOf r.addr) = false) : (snoopPlan s i r none).2.1 = [] := by
  rw [snoopPlan]
  dsimp only
  rw [sound, if_neg Bool.false_ne_true]

theorem hearthHit_congr {w : Nat} {d : LineData} (h : HearthHit s i line w d) (boot : t.boot = s.boot) (hearth : (t.slice i).hearth = (s.slice i).hearth) :
    HearthHit t i line w d := by
  obtain ⟨way, data, good⟩ := h
  have same : t.hway i (t.setOf line) w = s.hway i (s.setOf line) w := by rw [setOf_congr boot, hway_congr hearth]
  exact ⟨(findWay_congr boot hearth line).trans way, by rw [same, data], by rw [same]; exact good⟩

theorem noTxn_of_busy {y : Slice} (h : lineBusy y line = false) : ∀ x ∈ y.txns, x.line ≠ line := by
  unfold lineBusy at h
  simp only [Bool.or_eq_false_iff] at h
  exact fun x hx c => List.any_eq_false.1 h.1.1.1.1 x hx (beq_iff_eq.2 c)

/-- From s to t the request r has begun, having met no holder of its line, with the transaction x. -/
structure Opens (s t : State) (i line : Nat) (r : Req) (x : Txn) : Prop where
  works : Works ⟨true, false, false⟩ s t i
  one : OneTxn t i line (s.slice i).txns x
  req : x.req = r
  lead : x.lead = leadOk s (hostIdx r.src)
  gack : x.gack = isGrantKind r.kind
  fresh : x.snps = [] ∧ x.gone = [] ∧ x.secs = [] ∧ x.stage = 0 ∧ x.found = none ∧ x.snpData = none
  pol : x.pol = effPolicy s i line

theorem effPolicy_congr {may : May} (works : Works may s t i) (slice : noAlloc (t.slice i) = noAlloc (s.slice i)) (l : Nat) :
    effPolicy t i l = effPolicy s i l := by
  have region : regionPolicy t i l = regionPolicy s i l := by
    unfold regionPolicy
    simp only [works.bit, works.fld]
  rw [effPolicy, effPolicy, slice, region]

/-- The request opens its transaction on a slice that differs from s at most in its directory. -/
theorem begin_met_none {c : State} {r : Req} (opens : opensTxn r.kind = true) (hl : lineOf r.addr = line)
    (calm : CalmLine s i line) (works : Works ⟨true, false, false⟩ s c i) (slice : c.slice i = { s.slice i with dir := (c.slice i).dir })
    (met : metEntry c i line = none) : ∃ a, begin_ c i r = advance a i line ∧ Opens s a i line r (newTxn c i r none []) ∧
      a.slice i = { s.slice i with dir := (c.slice i).dir, txns := (a.slice i).txns } := by
  obtain ⟨none, sound, -⟩ := calm.sound
  have noSnoops : (snoopPlan c i r (metEntry c i line)).2.1 = [] := by
    rw [met]
    refine snoopPlan_none ?_
    rw [hl, tainted, slice, works.setOf]
    exact sound
  have txns : (c.slice i).txns = (s.slice i).txns := by rw [slice]
  obtain ⟨a, goes, worksA, sliceA, one⟩ := openTxn_quiet hl noSnoops (by rw [txns]; exact noTxn_of_busy calm.calm)
  rw [met, txns] at one
  have all : Works ⟨true, false, false⟩ s a i := works.trans ⟨worksA.others, fun no => Bool.noConfusion no, worksA.resv, worksA.pcs, worksA.rest⟩
  refine ⟨a, (begin_opens opens).trans goes, ⟨all, one, rfl, works.leadOk _, ?_, ⟨rfl, rfl, rfl, rfl, rfl, rfl⟩, ?_⟩, by rw [sliceA, slice]⟩
  · show (isGrantKind r.kind && !purged c (hostIdx r.src)) = isGrantKind r.kind
    rw [purged_nil (works.purge.trans none), Bool.not_false, Bool.and_true]
  · show effPolicy c i (lineOf r.addr) = effPolicy s i line
    rw [hl]
    exact effPolicy_congr works (by rw [slice]; rfl) line

/-- The request's transaction x has found its line's data in way w. -/
structure Finds (s t : State) (i line w : Nat) (r : Req) (x : Txn) : Prop extends Opens s t i line r x where
  slice : t.slice i = { s.slice i with
    hearth := sset hlineD (s.slice i).hearth (s.setOf line * 16 + w) (hitWay s i line w), dir := (t.slice i).dir, txns := (t.slice i).txns }

/-- A request that needs its line's data and finds it. -/
theorem begin_finds {c : State} {r : Req} {w : Nat} {d : LineData} (opens : opensTxn r.kind = true) (hl : lineOf r.addr = line)
    (calm : CalmLine s i line) (hit : HearthHit s i line w d) (works : Works ⟨true, false, false⟩ s c i)
    (slice : c.slice i = { s.slice i with dir := (c.slice i).dir }) (met : metEntry c i line = none)
    (needs : needsData (newTxn c i r none []) = true) : ∃ b x, Finds s b i line w r x ∧ (b.slice i).dir = (c.slice i).dir ∧
      begin_ c i r = finishTxn (lateTxn (commit b i x d false false) i line) i line := by
  obtain ⟨a, goes, opened, sliceA⟩ := begin_met_none opens hl calm works slice met
  have still : lineMoving (a.slice i) line = false := by
    have rests := moving_of_busy calm.calm
    rw [sliceA]
    exact rests
  obtain ⟨b, ⟨worksB, sliceB, oneB⟩, gathers⟩ := gatherTxn_hits opened.one (hearthHit_congr hit opened.works.boot (by rw [sliceA])) rfl rfl still
    rfl needs rfl
  have stillB : lineMoving (b.slice i) line = false := by
    rw [sliceB]
    exact still
  have performs := performTxn_got (s := b) (i := i) (x := hitTxn (newTxn c i r none []) d) needs rfl rfl (by rw [oneB.here]; exact stillB)
  have way : hitWay a i line w = hitWay s i line w := by
    rw [hitWay, hitWay, opened.works.setOf, hway_congr (s := s) (by rw [sliceA])]
  refine ⟨b, _, ⟨⟨opened.works.trans worksB, oneB, rfl, opened.lead, opened.gack, opened.fresh, opened.pol⟩, ?_⟩, ?_, ?_⟩
  · rw [sliceB, sliceA, way, opened.works.setOf]
  · rw [sliceB, sliceA]
  · rw [goes, advance_stages, gathers, performs]

/-! ## A copy is granted -/

/-- The request r of a host has its line, from way w: the entry e names the host, the response m has left, and its GACK is
awaited. -/
structure Served (s t : State) (i line w p : Nat) (r : Req) (e : DEntry) (m : Msg) : Prop where
  answered : Answered s t i p m
  hit : OneWay s t i (s.setOf line) w (hitWay s i line w)
  entry : dirEntry t i line = some e
  txn : ∃ x, (t.slice i).txns = (s.slice i).txns ++ [x] ∧ x.line = line ∧ x.req = r ∧ x.snps = [] ∧ x.stage = 2 ∧ x.gack = true
  rest : t = { s with ports := t.ports, slices := t.slices, acc := t.acc, tel := t.tel, resv := t.resv }

theorem settles_of {c : State} (works : Works ⟨true, false, false⟩ s c i) (txns : (t.slice i).txns.length ≤ (c.slice i).txns.length + 1)
    (slice : t.slice i = { s.slice i with hearth := (t.slice i).hearth, dir := (t.slice i).dir, txns := (t.slice i).txns })
    (calm : CalmLine s i line)
    (rest : t = { s with ports := t.ports, slices := t.slices, acc := t.acc, tel := t.tel, resv := t.resv }) : Settles c t i := by
  obtain ⟨inq, confq, retryq⟩ := calm.idle
  refine ⟨?_, ?_, ⟨?_, ?_, ?_⟩, txns⟩
  · rw [rest, works.cleanAlls]
  · rw [works.home, rest]
    rfl
  · rw [slice]; exact inq
  · rw [slice]; exact confq
  · rw [slice]; exact retryq

/-- The grant of a request that began on slice i is the end of its submission. -/
structure Granted (s t q : State) (i line p : Nat) (l : List Txn) (x : Txn) (e : DEntry) (m : Msg) : Prop where
  ends : finishTxn (lateTxn t i line) i line = t
  answered : Answered s q i p m
  entry : dirEntry q i line = some e
  one : OneTxn q i line l { x with stage := 2 }
  rest : q = { s with ports := q.ports, slices := q.slices, acc := q.acc, tel := q.tel, resv := q.resv }

theorem granted_of {b b' c : State} {v : Nat} {e : DEntry} {m : Msg} (calm : CalmLine s i line) (worksC : Works ⟨true, false, false⟩ s c i)
    (txnsC : (c.slice i).txns = l) (works : Works ⟨true, false, false⟩ s b i)
    (slice : b.slice i = { s.slice i with hearth := (b.slice i).hearth, dir := (b.slice i).dir, txns := (b.slice i).txns })
    (tel : b' = { b with tel := b'.tel }) (grants : Grants b' t i line v p l x e m) (pcs : t.pcs = b'.pcs) (gack : x.gack = true) :
    Settles c t i ∧ Granted s t (t.count (16 + i) 0 1) i line p l x e m ∧ ((t.count (16 + i) 0 1).slice i).hearth = (b.slice i).hearth := by
  have works := works.trans (works_tel _ tel i)
  have same : b'.slice = b.slice := by rw [tel]; rfl
  obtain ⟨⟨sent, ports, slices⟩, one, entry, sliceT, rest⟩ := grants
  have slice' : t.slice i = { s.slice i with hearth := (b.slice i).hearth, dir := (t.slice i).dir, txns := (t.slice i).txns } := by
    rw [sliceT, same, slice]
  have rest' : t = { s with ports := t.ports, slices := t.slices, acc := t.acc, tel := t.tel, resv := t.resv } := by
    rw [pcs, works.rest, works.pcs rfl] at rest
    exact rest
  have port : b'.port = s.port := by
    rw [works.rest]
    rfl
  have keeps := works_count (may := ⟨true, true, true⟩) rfl t i (16 + i) 0 1
  have sameSlice : ∀ j, (t.count (16 + i) 0 1).slice j = t.slice j := fun j => State.slice_count ..
  refine ⟨settles_of worksC ?_ (by rw [slice']) calm rest', ⟨?_, ⟨?_, fun q hq => ?_, fun j hj => ?_⟩, ?_, ?_, ?_⟩, ?_⟩
  · rw [one.txns, txnsC, List.length_append]
    exact Nat.le_refl _
  · rw [lateTxn_done one.txnOf rfl, finishTxn_waits one.txnOf gack]
  · rw [State.port_count, sent, port]
  · rw [State.port_count, ports q hq, port]
  · rw [sameSlice, slices j hj, works.others j hj]
  · rw [dirEntry_congr keeps.boot (fun n => by rw [sameSlice]) line, entry]
  · exact one.same (by rw [sameSlice])
  · rw [keeps.rest, State.count_resv, State.count_pcs, rest']
  · rw [sameSlice, slice']

theorem metEntry_fresh {w : Nat} (h : FreshEntry s i line w) : metEntry s i line = none := by
  obtain ⟨way, age, entry⟩ := h
  rw [metEntry, dirEntry, way]
  dsimp only [Option.map]
  rw [entry]
  exact if_pos ⟨rfl, rfl⟩

theorem FreshEntry.congr {w : Nat} (h : FreshEntry s i line w) (boot : t.boot = s.boot) (dir : (t.slice i).dir = (s.slice i).dir) :
    FreshEntry t i line w :=
  ⟨(dirWay_congr boot (fun n => by rw [dir]) line).trans h.way, by rw [dirGet_congr (s := s) boot fun n => by rw [dir]]; exact h.entry⟩

/-- A fresh entry as it stands, naming nobody. -/
theorem FreshEntry.names {w : Nat} (h : FreshEntry s i line w) : ∃ e, dirEntry s i line = some e ∧ e.valid = true ∧ e.line = line ∧ e.st = .S ∧
    e.bcast = false ∧ e.ptrs = [] := by
  obtain ⟨way, age, entry⟩ := h
  exact ⟨_, by rw [dirEntry, way, Option.map, entry], rfl, rfl, rfl, rfl, rfl⟩

/-- What a read for a copy finds, and the state that its commit works on. -/
theorem submit_grants {r : Req} {w : Nat} {d : LineData} (calm : CalmLine s i line) (hl : lineOf r.addr = line)
    (kind : r.kind = .rdShared ∨ r.kind = .rdOwn) (hit : HearthHit s i line w d) (absent : dirWay s i line = none)
    (free : ∃ v < 16, (dirGet s i line v).valid = false) : ∃ b x v, Finds s b i line w r x ∧ FreshEntry b i line v ∧ x.gack = true ∧
      ∀ b' t e m, b' = { b with tel := b'.tel } → commit b i x d false false = t → Grants b' t i line v p (s.slice i).txns x e m →
        t.pcs = b'.pcs → ∃ q, submit s r = q ∧ Served s q i line w p r e m ∧ q.resv = t.resv := by
  have grant : isGrantKind r.kind = true := by rcases kind with kind | kind <;> rw [kind] <;> rfl
  have opens : opensTxn r.kind = true := by rcases kind with kind | kind <;> rw [kind] <;> rfl
  obtain ⟨c, v, fresh, sliceC, worksC, takes⟩ := submit_allocates calm hl grant absent free
  have needs : needsData (newTxn c i r none []) = true := by
    unfold needsData newTxn
    rcases kind with kind | kind <;> rw [kind]
  obtain ⟨b, x, finds, dirB, goes⟩ := begin_finds opens hl calm hit worksC sliceC (metEntry_fresh fresh) needs
  have gack : x.gack = true := finds.gack.trans grant
  refine ⟨b, x, v, finds, fresh.congr (finds.works.boot.trans worksC.boot.symm) dirB, gack, fun b' t e m tel commits grants pcs => ?_⟩
  obtain ⟨settles, ⟨ends, answered, entry, one, rest⟩, hearth⟩ := granted_of calm worksC (by rw [sliceC]) finds.works (by rw [finds.slice]) tel
    grants pcs gack
  rw [commits, ends] at goes
  exact ⟨_, by rw [takes (goes ▸ settles), goes], ⟨answered, oneWay_of (by rw [hearth, finds.slice]), entry,
    ⟨_, one.txns, one.here, finds.req, finds.fresh.1, rfl, gack⟩, rest⟩, State.count_resv ..⟩

theorem submit_rdShared {r : Req} {w : Nat} {d : LineData} (host : HostAt s r.src p) (calm : CalmLine s i line) (hl : lineOf r.addr = line)
    (kind : r.kind = .rdShared) (hit : HearthHit s i line w d) (absent : dirWay s i line = none)
    (free : ∃ v < 16, (dirGet s i line v).valid = false) : ∃ t e, submit s r = t ∧ Served s t i line w p r e
        (s.mkRsp (if leadOk s (hostIdx r.src) then opcDATA_L else opcDATA_S) r.src r.tag (wordsLE 16 d.toNat)) ∧ t.resv = s.resv ∧
      e.st = (if leadOk s (hostIdx r.src) then .L else .S) ∧ e.bcast = false ∧ e.ptrs = [hostIdx r.src] := by
  obtain ⟨b, x, v, finds, fresh, gack, serves⟩ := submit_grants (p := p) calm hl (Or.inl kind) hit absent free
  obtain ⟨T, commits⟩ := commit_rdShared (s := b) (i := i) (d := d) (bad := false) (finds.req ▸ kind) gack
  obtain ⟨b', tel⟩ : ∃ b', b' = { b with tel := T } := ⟨_, rfl⟩
  rw [← tel] at commits
  have works := works_tel ⟨false, false, false⟩ (s := b) (t := b') (by rw [tel]) i
  have slice : b'.slice = b.slice := by rw [tel]; rfl
  have fresh' := fresh.congr works.boot (by rw [slice])
  obtain ⟨e, entry, valid, here, st, bcast, ptrs⟩ := fresh'.names
  obtain ⟨none, -, -⟩ := calm.sound
  have atLine : x.line = line := finds.one.here
  have live : liveEntry b' i x = some e := by
    rw [liveEntry_idle (atLine.symm ▸ entry) (works.purge.trans (finds.works.purge.trans none)) (by rw [st]; decide), ptrs]
    cases e
    cases ptrs
    rfl
  have grants := grants_names (finds.one.same (by rw [slice])) fresh'.way live bcast (by rw [ptrs]; rfl) (by rw [ptrs]; decide) valid here
    (works.hostAt (finds.works.hostAt (finds.req.symm ▸ host))) d false
  obtain ⟨t, ht⟩ : ∃ t, grantShared b' i x d false = t := ⟨_, rfl⟩
  rw [ht] at commits grants
  obtain ⟨grants, resv, pcs⟩ := grants
  rw [finds.lead, finds.req, works.mkRsp, finds.works.mkRsp] at grants
  obtain ⟨q, submits, served, resv'⟩ := serves b' t _ _ (by rw [tel]) commits grants pcs
  refine ⟨q, _, submits, served, ?_, ?_, bcast, ?_⟩
  · rw [resv', resv, tel]
    exact finds.works.resv rfl
  · rw [namedEntry, st]
    rfl
  · rw [namedEntry, ptrs]
    split <;> rfl

theorem submit_rdOwn {r : Req} {w : Nat} {d : LineData} (host : HostAt s r.src p) (calm : CalmLine s i line) (hl : lineOf r.addr = line)
    (kind : r.kind = .rdOwn) (hit : HearthHit s i line w d) (absent : dirWay s i line = none)
    (free : ∃ v < 16, (dirGet s i line v).valid = false) : ∃ t e, submit s r = t ∧ Served s t i line w p r e
        (s.mkRsp opcDATA_X r.src r.tag (wordsLE 16 d.toNat)) ∧ (∀ k, sget zeroD t.resv k ≠ line + 1) ∧
      e.st = .X ∧ e.ptrs = [hostIdx r.src] := by
  obtain ⟨b, x, v, finds, fresh, gack, serves⟩ := submit_grants (p := p) calm hl (Or.inr kind) hit absent free
  have kindX : x.req.kind = .rdOwn := finds.req ▸ kind
  obtain ⟨T, commits⟩ := commit_exclusive (s := b) (i := i) (d := d) (bad := false) (Or.inl kindX) gack
  obtain ⟨b', tel⟩ : ∃ b', b' = { b with tel := T } := ⟨_, rfl⟩
  rw [← tel] at commits
  have works := works_tel ⟨false, false, false⟩ (s := b) (t := b') (by rw [tel]) i
  have slice : b'.slice = b.slice := by rw [tel]; rfl
  have fresh' := fresh.congr works.boot (by rw [slice])
  obtain ⟨e, entry, valid, here, -⟩ := fresh'.names
  have grants := grants_exclusive (finds.one.same (by rw [slice])) fresh'.way entry valid here
    (works.hostAt (finds.works.hostAt (finds.req.symm ▸ host))) d
  obtain ⟨t, ht⟩ : ∃ t, grantExclusive b' i x d false = t := ⟨_, rfl⟩
  rw [ht] at commits grants
  obtain ⟨grants, resv, pcs⟩ := grants
  have other : ¬ (x.req.kind = .upgrade ∧ x.ok = true) := fun c => ReqKind.noConfusion (kindX.symm.trans c.1)
  rw [if_neg other, finds.req, works.mkRsp, finds.works.mkRsp] at grants
  obtain ⟨q, submits, served, resv'⟩ := serves b' t _ _ (by rw [tel]) commits grants pcs
  refine ⟨q, _, submits, served, fun k => by rw [resv']; exact resv k, ?_, ?_⟩
  · exact if_pos kind
  · rfl

/-! ## The one holder of a line upgrades (R185) -/

theorem submit_upgrade {r : Req} {v : Nat} {e : DEntry} (host : HostAt s r.src p) (calm : CalmLine s i line) (hl : lineOf r.addr = line)
    (kind : r.kind = .upgrade) (way : dirWay s i line = some v) (entry : dirGet s i line v = e) (st : e.st = .S) (bcast : e.bcast = false)
    (ptrs : e.ptrs = [hostIdx r.src]) : ∃ t, submit s r = t ∧ Answered s t i p (s.mkRsp opcGRANT_X r.src r.tag []) ∧
      dirEntry t i line = some { e with st := .D } ∧
      (∃ x, (t.slice i).txns = (s.slice i).txns ++ [x] ∧ x.line = line ∧ x.stage = 2 ∧ x.gack = true) ∧
      (t.slice i).hearth = (s.slice i).hearth ∧ (∀ k, sget zeroD t.resv k ≠ line + 1) ∧
      t = { s with ports := t.ports, slices := t.slices, acc := t.acc, tel := t.tel, resv := t.resv } := by
  have names : e.ptrs ≠ [] := by rw [ptrs]; exact List.cons_ne_nil _ _
  obtain ⟨c, begins, takes⟩ := submit_begins calm hl (fun w hw => by rw [← Option.some.inj (way.symm.trans hw), entry]; exact names)
    (fun _ => by rw [way]; rfl)
  have entryC : dirEntry c i line = some e := by rw [dirEntry, begins.dirWay, way, Option.map, begins.dirGet, entry]
  have met : metEntry c i line = some e := by
    rw [metEntry, entryC]
    exact if_neg fun h => names h.1
  have me : (some (hostIdx r.src) : Option Nat) = if r.src.loc < 32 then some (hostIdx r.src) else none := (if_pos host.loc).symm
  have held : holders c e = [hostIdx r.src] := by
    rw [holders, if_neg (by rw [bcast]; exact Bool.false_ne_true), ptrs]
    simp [purged_nil (begins.works.purge.trans calm.sound.1)]
  have noSnoops : (snoopPlan c i r (metEntry c i line)).2.1 = [] := by
    rw [met, snoopPlan]
    dsimp only
    rw [kind, ← me, held, st]
    simp
  have txns : (c.slice i).txns = (s.slice i).txns := by rw [begins.entries.slice]
  obtain ⟨a, goes, worksA, sliceA, one⟩ := openTxn_quiet hl noSnoops (by rw [txns]; exact noTxn_of_busy calm.calm)
  rw [met, txns] at one
  have sliceA' : a.slice i = { s.slice i with dir := (c.slice i).dir, txns := (a.slice i).txns } := by rw [sliceA, begins.entries.slice]
  have works : Works ⟨true, false, false⟩ s a i :=
    begins.works.trans ⟨worksA.others, fun no => Bool.noConfusion no, worksA.resv, worksA.pcs, worksA.rest⟩
  have holder : (newTxn c i r (some e) []).ok = true := by
    show (r.kind == .upgrade && ((e.st == .S || e.st == .L) && (holders c e).contains (hostIdx r.src))) = true
    rw [kind, st, held]
    simp
  have gack : (newTxn c i r (some e) []).gack = true := by
    show (isGrantKind r.kind && !purged c (hostIdx r.src)) = true
    rw [kind, purged_nil (begins.works.purge.trans calm.sound.1)]
    rfl
  have noNeed : needsData (newTxn c i r (some e) []) = false := by
    unfold needsData
    rw [show (newTxn c i r (some e) []).req.kind = r.kind from rfl, kind, holder]
    rfl
  obtain ⟨x, hx⟩ : ∃ x, x = newTxn c i r (some e) [] := ⟨_, rfl⟩
  obtain ⟨req, stage, snps, noData⟩ : x.req = r ∧ x.stage = 0 ∧ x.snps = [] ∧ x.snpData = none := by
    rw [hx]
    exact ⟨rfl, rfl, rfl, rfl⟩
  rw [← hx] at one holder gack noNeed
  have still : lineMoving (a.slice i) line = false := by
    have rests := moving_of_busy calm.calm
    rw [sliceA']
    exact rests
  have gathers := gatherTxn_noData one.txnOf stage snps still noData noNeed
  rw [performTxn_noData noNeed (by rw [one.here]; exact still)] at gathers
  obtain ⟨T, commits⟩ := commit_exclusive (s := a) (i := i) (d := 0) (bad := false) (Or.inr (req ▸ kind)) gack
  obtain ⟨a', tel⟩ : ∃ a', a' = { a with tel := T } := ⟨_, rfl⟩
  rw [← tel] at commits
  have worksT := works_tel ⟨false, false, false⟩ (s := a) (t := a') (by rw [tel]) i
  have sliceT : a'.slice = a.slice := by rw [tel]; rfl
  have dirT : ∀ n, sget dentryD (a'.slice i).dir n = sget dentryD (s.slice i).dir n := fun n => by rw [sliceT, sliceA', begins.entries.dir]
  have bootT : a'.boot = s.boot := worksT.boot.trans works.boot
  have wayT := (dirWay_congr bootT dirT line).trans way
  have entryT : dirEntry a' i line = some e := by rw [dirEntry_congr bootT dirT, dirEntry, way, Option.map, entry]
  obtain ⟨valid, here⟩ := dirWay_holds way
  rw [entry] at valid here
  have grants := grants_exclusive (one.same (by rw [sliceT])) wayT entryT valid here (worksT.hostAt (works.hostAt (req.symm ▸ host))) 0
  obtain ⟨t, ht⟩ : ∃ t, grantExclusive a' i x 0 false = t := ⟨_, rfl⟩
  rw [ht] at commits grants
  obtain ⟨grants, resv, pcs⟩ := grants
  have holds : x.req.kind = .upgrade ∧ x.ok = true := ⟨req.symm ▸ kind, holder⟩
  have noRead : ¬ x.req.kind = .rdOwn := fun c => ReqKind.noConfusion (holds.1.symm.trans c)
  rw [if_pos holds, if_neg noRead, req, worksT.mkRsp, works.mkRsp] at grants
  obtain ⟨settles, ⟨ends, answered, entryQ, oneQ, rest⟩, hearth⟩ := granted_of calm begins.works txns works (by rw [sliceA']) (by rw [tel]) grants pcs gack
  have goes' : begin_ c i r = t := by
    rw [begin_opens (by rw [kind]; rfl), goes, advance_stages, gathers, commits, ends]
  refine ⟨_, by rw [takes (goes' ▸ settles), goes'], answered, ?_, ⟨_, oneQ.txns, oneQ.here, rfl, gack⟩, ?_, fun k => ?_, rest⟩
  · rw [entryQ, ← bcast, ← ptrs]
  · rw [hearth, sliceA']
  · rw [State.count_resv]
    exact resv k

/-! ## A request ends with its response (R180) -/

/-- From v to t the response m has left and the transaction of the line has ended. -/
structure Ended (v t : State) (i p : Nat) (l : List Txn) (m : Msg) : Prop where
  answered : Answered v t i p m
  slice : t.slice i = { v.slice i with txns := l }
  rest : t = { v with ports := t.ports, slices := t.slices }

theorem lateTxn_responded {r : Req} {opc param : Nat} {poison : Bool} {body : List Word} (host : HostAt v r.src p) (one : OneTxn v i line l x)
    (answer : opc ≠ opcNO_TARGET) : lateTxn (modTxn (respond v r opc param poison body) i line fun t => { t with stage := 2 }) i line =
      modTxn (respond v r opc param poison body) i line fun t => { t with stage := 2 } := by
  have replies := respond_host (r := r) (poison := poison) (body := body) host param answer
  exact lateTxn_done ((one.same (by rw [replies.slice])).mod (f := fun t => { t with stage := 2 }) one.here).txnOf rfl

theorem respond_ends {opc : Nat} {poison : Bool} {body : List Word} (host : HostAt v x.req.src p) (one : OneTxn v i line l x) (noGack : x.gack = false)
    (still : lineMoving (v.slice i) line = false) (absent : dirWay v i line = none) (param : Nat) (answer : opc ≠ opcNO_TARGET) :
    Ended v (finishTxn (modTxn (respond v x.req opc param poison body) i line fun t => { t with stage := 2 }) i line) i p l
      { v.mkRsp opc x.req.src x.req.tag body with param := BitVec.ofNat 8 param, poison := poison } := by
  have replies := respond_host (r := x.req) (poison := poison) (body := body) host param answer
  generalize respond v x.req opc param poison body = u at replies ⊢
  have one' : OneTxn (modTxn u i line fun t => { t with stage := 2 }) i line l { x with stage := 2 } :=
    (one.same (by rw [replies.slice])).mod (f := fun t => { t with stage := 2 }) one.here
  have slice : (modTxn u i line fun t => { t with stage := 2 }).slice i = { v.slice i with
      txns := ((modTxn u i line fun t => { t with stage := 2 }).slice i).txns } := by
    rw [modTxn_slice, replies.slice]
  have boot : (modTxn u i line fun t => { t with stage := 2 }).boot = v.boot := by
    rw [modTxn, replies.rest]
    rfl
  have rest : (modTxn u i line fun t => { t with stage := 2 }) = { v with
      ports := (modTxn u i line fun t => { t with stage := 2 }).ports, slices := (modTxn u i line fun t => { t with stage := 2 }).slices } := by
    rw [modTxn, replies.rest]
    rfl
  have works := works_modTxn ⟨false, false, false⟩ u i line fun t => { t with stage := 2 }
  generalize modTxn u i line (fun t => { t with stage := 2 }) = t at one' slice boot works rest
  rw [finishTxn_ends one' rfl noGack (by rw [slice]; exact still) ((dirWay_congr boot (fun n => by rw [slice]) line).trans absent)]
  have all := works.trans (works_modSlice _ t i fun y => { y with txns := y.txns.filter fun t => t.line != line })
  refine ⟨answered_of (.refl _ v i) replies all, ?_, ?_⟩
  · rw [State.slice_modSlice_same, one'.filter, slice]
  · show { t with slices := _ } = _
    rw [rest]
    rfl

/-- A request that has ended is the end of its submission. -/
structure Done (s q : State) (i p : Nat) (m : Msg) : Prop where
  answered : Answered s q i p m
  txns : (q.slice i).txns = (s.slice i).txns
  rest : q = { s with ports := q.ports, slices := q.slices, acc := q.acc, tel := q.tel, resv := q.resv }

theorem done_of {may : May} {b c t : State} {m : Msg} (calm : CalmLine s i line) (worksC : Works ⟨true, false, false⟩ s c i)
    (sliceC : c.slice i = { s.slice i with dir := (c.slice i).dir }) (works : Works may s b i) (pcs : b.pcs = s.pcs)
    (slice : b.slice i = { s.slice i with hearth := (b.slice i).hearth, dir := (b.slice i).dir, txns := (b.slice i).txns })
    (ended : Ended b t i p (s.slice i).txns m) : Settles c t i ∧ Done s (t.count (16 + i) 0 1) i p m ∧
      (t.count (16 + i) 0 1).resv = b.resv ∧ (t.count (16 + i) 0 1).slice i = { b.slice i with txns := (s.slice i).txns } := by
  obtain ⟨⟨sent, ports, slices⟩, sliceT, rest⟩ := ended
  have slice' : t.slice i = { s.slice i with hearth := (b.slice i).hearth, dir := (b.slice i).dir, txns := (s.slice i).txns } := by
    rw [sliceT, slice]
  have rest' : t = { s with ports := t.ports, slices := t.slices, acc := t.acc, tel := t.tel, resv := t.resv } := by
    rw [works.rest, pcs] at rest
    rw [rest]
  have port : b.port = s.port := by
    rw [works.rest]
    rfl
  have keeps := works_count (may := ⟨true, true, true⟩) rfl t i (16 + i) 0 1
  have sameSlice : ∀ j, (t.count (16 + i) 0 1).slice j = t.slice j := fun j => State.slice_count ..
  refine ⟨settles_of worksC ?_ (by rw [slice']) calm rest', ⟨⟨?_, fun q hq => ?_, fun j hj => ?_⟩, ?_, ?_⟩, ?_, ?_⟩
  · rw [slice', sliceC]
    exact Nat.le_succ _
  · rw [State.port_count, sent, port]
  · rw [State.port_count, ports q hq, port]
  · rw [sameSlice, slices j hj, works.others j hj]
  · rw [sameSlice, slice']
  · rw [keeps.rest, State.count_resv, State.count_pcs, rest']
  · rw [State.count_resv, rest]
  · rw [sameSlice, sliceT]

/-! ## An uncached read (R146, R186) -/

theorem demote_none (absent : dirWay s i x.line = none) : demote s i x = s := by
  rw [demote, liveEntry, dirEntry, absent]
  rfl

theorem submit_rdUc {r : Req} {w : Nat} {d : LineData} (host : HostAt s r.src p) (calm : CalmLine s i line) (hl : lineOf r.addr = line)
    (kind : r.kind = .rdUc) (hit : HearthHit s i line w d) (absent : dirWay s i line = none) : ∃ t, submit s r = t ∧
      Done s t i p (s.mkRsp opcDATA_UC r.src r.tag (ucBody r.size r.addr d)) ∧ t.resv = s.resv ∧
      OneWay s t i (s.setOf line) w (hitWay s i line w) ∧ ∀ n, sget dentryD (t.slice i).dir n = sget dentryD (s.slice i).dir n := by
  obtain ⟨c, begins, takes⟩ := submit_begins calm hl (fun w hw => absurd (absent.symm.trans hw) (Option.some_ne_none w).symm)
    (fun g => by rw [kind] at g; exact Bool.noConfusion g)
  have wayC : dirWay c i line = none := (begins.dirWay line).trans absent
  have met : metEntry c i line = none := by rw [metEntry, dirEntry, wayC]; rfl
  have needs : needsData (newTxn c i r none []) = true := by
    unfold needsData newTxn
    rw [kind]
  obtain ⟨b, x, finds, dirB, goes⟩ := begin_finds (by rw [kind]; rfl) hl calm hit begins.works begins.entries.slice met needs
  obtain ⟨T, commits⟩ := commit_rdUc (s := b) (i := i) (d := d) (bad := false) (finds.req ▸ kind)
  obtain ⟨b', tel⟩ : ∃ b', b' = { b with tel := T } := ⟨_, rfl⟩
  rw [← tel] at commits
  have worksT := works_tel ⟨true, false, false⟩ (s := b) (t := b') (by rw [tel]) i
  have works := finds.works.trans worksT
  have sliceT : b'.slice = b.slice := by rw [tel]; rfl
  have still : lineMoving (b'.slice i) line = false := by
    have rests := moving_of_busy calm.calm
    rw [sliceT, finds.slice]
    exact rests
  have dirT : ∀ n, sget dentryD (b'.slice i).dir n = sget dentryD (s.slice i).dir n := fun n => by rw [sliceT, dirB, begins.entries.dir]
  have absentT : dirWay b' i line = none := (dirWay_congr works.boot dirT line).trans absent
  have ended := respond_ends (opc := opcDATA_UC) (poison := false) (body := ucBody x.req.size x.req.addr d)
    (works.hostAt (finds.req.symm ▸ host)) (finds.one.same (by rw [sliceT])) (finds.gack.trans (by rw [kind]; rfl)) still absentT 0 (by decide)
  rw [demote_none (by rw [finds.one.here]; exact absentT), finds.one.here] at commits
  have host' : HostAt b' x.req.src p := works.hostAt (finds.req.symm ▸ host)
  rw [commits, lateTxn_responded host' (finds.one.same (by rw [sliceT])) (by decide)] at goes
  rw [finds.req, works.mkRsp] at ended
  rw [finds.req] at goes
  obtain ⟨settles, done, resv, slice⟩ := done_of calm begins.works begins.entries.slice works (works.pcs rfl) (by rw [sliceT, finds.slice]) ended
  refine ⟨_, by rw [takes (goes ▸ settles), goes], done, by rw [resv]; exact works.resv rfl, ?_, fun n => ?_⟩
  · exact oneWay_of (by rw [slice, sliceT, finds.slice])
  · rw [slice]
    exact dirT n

/-! ## The commands -/

/-- A host's request reaches its slice as the state is, but for what the blotter follows. -/
theorem plainRequest_host {opc param off : Nat} {src : AgentId} {tag : Tag} {priv poison : Bool} {addr : PA} {body : List Word}
    (h : Arrives s (sameMsg opc src tag addr)) (host : HostAt s src p) (vc : vcOf opc = 0) (home : s.classify addr = .home off)
    (good : badRequest (admitted s (reqMsg src tag opc priv param addr poison body)) = false) (calm : CalmLine s i (off / 64)) :
    ∃ T, plainRequest s opc src tag priv param addr poison body =
      submit { s with tel := T } (reqOf s (admitted s (reqMsg src tag opc priv param addr poison body))) := by
  have room : (s.slice (s.sliceOf (lineOf addr))).inq = [] := by
    rw [lineOf_home home, ← calm.slice]
    exact calm.idle.1
  have selects : sameMsg opc src tag addr (admitted s (reqMsg src tag opc priv param addr poison body)) = true := by
    simp [sameMsg, admitted, reqMsg]
  obtain ⟨u, tel, goes⟩ := request_host (m := reqMsg src tag opc priv param addr poison body) h host selects vc.symm home good room
  exact ⟨u.tel, by rw [plainRequest, goes, ← tel]⟩

theorem fromCluster_host {m : Msg} (host : HostAt s m.src p) : fromCluster s m = false := by
  rw [fromCluster, decide_eq_false (Nat.not_le_of_lt host.loc), Bool.and_false, Bool.false_and]

theorem kind_rdUc {m : Msg} (host : HostAt s m.src p) (opc : m.opc = opcRD_UC) : (reqOf s m).kind = .rdUc := by
  rw [show (reqOf s m).kind = kindOf m (fromCluster s m) from rfl, fromCluster_host host, kindOf, opc]
  rfl

theorem size_param (size : BitVec 3) : (BitVec.ofNat 8 size.toNat).toNat % 8 = size.toNat := by
  have lt := size.isLt
  rw [BitVec.toNat_ofNat]
  omega

/-- A read of 1, 2, 4, 8 or 64 bytes at an address of its size (R146, R148). -/
theorem good_rdUc {src : AgentId} {tag : Tag} {priv : Bool} {addr : PA} {size : BitVec 3} (no4 : size ≠ 4) (no5 : size ≠ 5) (no7 : size ≠ 7)
    (natural : addr.toNat % 2 ^ size.toNat = 0) : badRequest (admitted s (reqMsg src tag opcRD_UC priv size.toNat addr false [])) = false := by
  have value : ∀ k : Nat, k < 8 → size ≠ BitVec.ofNat 3 k → (size.toNat == k) = false := fun k hk ne =>
    beq_eq_false_iff_ne.2 fun c => ne (BitVec.eq_of_toNat_eq (by rw [c, BitVec.toNat_ofNat]; omega))
  rw [badRequest, if_pos (show (admitted s (reqMsg src tag opcRD_UC priv size.toNat addr false [])).opc = opcRD_UC from rfl)]
  show ((BitVec.ofNat 8 size.toNat).toNat % 8 == 4 || (BitVec.ofNat 8 size.toNat).toNat % 8 == 5 ||
    (BitVec.ofNat 8 size.toNat).toNat % 8 == 7 || decide (addr.toNat % 2 ^ ((BitVec.ofNat 8 size.toNat).toNat % 8) ≠ 0)) = false
  rw [size_param, value 4 (by decide) no4, value 5 (by decide) no5, value 7 (by decide) no7, natural]
  rfl

/-- The addressed bytes of a line, by the size of the read (R146). -/
theorem ucBody_size (size : BitVec 3) {addr : PA} {b : Nat} (place : addr.toNat % 64 = b) (d : LineData) : ucBody size.toNat addr d =
    if size = 6 then wordsLE 16 d.toNat else if size = 3 then wordsLE 2 (lineBytes d b 8) else [w32 (lineBytes d b (2 ^ size.toNat))] := by
  have value : ∀ k : Nat, k < 8 → ((size.toNat = k) ↔ size = BitVec.ofNat 3 k) := fun k hk =>
    ⟨fun c => BitVec.eq_of_toNat_eq (by rw [c, BitVec.toNat_ofNat]; omega), fun c => by rw [c, BitVec.toNat_ofNat]; omega⟩
  rw [ucBody, place]
  exact if_congr (value 6 (by decide)) rfl (if_congr (value 3 (by decide)) rfl rfl)

section
variable {T : Tel}

theorem CalmLine.tel (h : CalmLine s i line) : CalmLine { s with tel := T } i line :=
  ⟨h.slice, h.lit, h.idle, h.granted, h.room, h.calm, h.kindle, h.sound⟩

theorem HostAt.tel {a : AgentId} (h : HostAt s a p) : HostAt { s with tel := T } a p := ⟨h.here, h.agent, h.port, h.carries⟩

theorem HearthHit.tel {w : Nat} {d : LineData} (h : HearthHit s i line w d) : HearthHit { s with tel := T } i line w d := ⟨h.way, h.data, h.good⟩

theorem Answered.tel {m : Msg} (h : Answered { s with tel := T } t i p m) : Answered s t i p m := ⟨h.sent, h.ports, h.slices⟩

theorem OneWay.tel {set w : Nat} {h : HLine} (o : OneWay { s with tel := T } t i set w h) : OneWay s t i set w h := ⟨o.way, o.others⟩

end

end Sys2Proof.Machine

open Sys2Proof Sys2Proof.Machine

/-- Settles O27: `submit_rdShared`, `submit_rdOwn`, `submit_upgrade` and `submit_rdUc`, on the requests as they arrive. -/
theorem readsAreAnsweredFromTheHearth : Obligations.ReadsAreAnsweredFromTheHearth := by
  intro s src tag addr p i line w off d host home aligned hline calm
  subst hline
  have lineAt : lineOf addr = off / 64 := lineOf_home home
  have full : addr.toNat % 64 = 0 := by rw [mod_home home (by decide), aligned]
  have whole : decide (addr.toNat % 64 ≠ 0) = false := by rw [full]; rfl
  refine ⟨fun hit absent free => ⟨fun arrives => ?_, fun arrives => ?_⟩, fun v e way entry st bcast ptrs arrives => ?_, ?_⟩
  · obtain ⟨T, goes⟩ := plainRequest_host (priv := false) (param := 0) (poison := false) (body := []) arrives host rfl home whole calm
    obtain ⟨t, e, submits, ⟨answered, hit', entry, ⟨x, txns, here, req, snps, stage, gack⟩, rest⟩, resv, st, bcast, ptrs⟩ :=
      submit_rdShared (r := reqOf s (admitted s (reqMsg src tag opcRD_SHARED false 0 addr false []))) (host.tel (T := T)) calm.tel lineAt rfl
        hit.tel absent free
    refine ⟨t, congrArg Host.Outcome.next (goes.trans submits), answered.tel, hit'.tel, ⟨e, entry, st, bcast, ptrs⟩,
      ⟨x, txns, here, by rw [req]; rfl, by rw [req]; rfl, snps, stage, gack⟩, ?_⟩
    rw [resv] at rest
    exact rest
  · obtain ⟨T, goes⟩ := plainRequest_host (priv := false) (param := 0) (poison := false) (body := []) arrives host rfl home whole calm
    obtain ⟨t, e, submits, ⟨answered, hit', entry, ⟨x, txns, here, req, snps, stage, gack⟩, rest⟩, resv, st, ptrs⟩ :=
      submit_rdOwn (r := reqOf s (admitted s (reqMsg src tag opcRD_OWN false 0 addr false []))) (host.tel (T := T)) calm.tel lineAt rfl
        hit.tel absent free
    exact ⟨t, congrArg Host.Outcome.next (goes.trans submits), answered.tel, hit'.tel, ⟨e, entry, st, ptrs⟩,
      ⟨x, txns, here, stage, gack⟩, resv, rest⟩
  · obtain ⟨T, goes⟩ := plainRequest_host (priv := false) (param := 0) (poison := false) (body := []) arrives host rfl home whole calm
    obtain ⟨t, submits, answered, entry', txns, hearth, resv, rest⟩ :=
      submit_upgrade (r := reqOf s (admitted s (reqMsg src tag opcUPGRADE false 0 addr false []))) (host.tel (T := T)) calm.tel lineAt rfl
        way entry st bcast ptrs
    exact ⟨t, congrArg Host.Outcome.next (goes.trans submits), answered.tel, entry', txns, hearth, resv, rest⟩
  · intro at_ size priv b hit absent homeB hb no4 no5 no7 natural arrives
    have lineB : (off + b) / 64 = off / 64 := by omega
    obtain ⟨T, goes⟩ := plainRequest_host (body := []) arrives host rfl homeB (good_rdUc (priv := priv) no4 no5 no7 natural) (lineB.symm ▸ calm)
    obtain ⟨m, hm⟩ : ∃ m, m = admitted s (reqMsg src tag opcRD_UC priv size.toNat at_ false []) := ⟨_, rfl⟩
    rw [← hm] at goes
    have hostM : HostAt s m.src p := by rw [hm]; exact host
    obtain ⟨t, submits, ⟨answered, txns, rest⟩, resv, hit', dir⟩ := submit_rdUc (r := reqOf s m) (hostM.tel (T := T)) calm.tel
      (by rw [hm]; exact (lineOf_home homeB).trans lineB) (kind_rdUc hostM (by rw [hm]; rfl)) hit.tel absent
    have place : at_.toNat % 64 = b := by
      rw [mod_home homeB (by decide)]
      omega
    have sizeM : (reqOf s m).size = size.toNat := by
      rw [hm]
      exact size_param size
    have addrM : (reqOf s m).addr = at_ := by rw [hm]; rfl
    refine ⟨t, congrArg Host.Outcome.next (goes.trans submits), ?_, hit'.tel, txns, dir, ?_⟩
    · rw [sizeM, addrM, ucBody_size size place, hm] at answered
      exact answered.tel
    · rw [resv] at rest
      exact rest

end

section
/-! PROOF. Writes and atomics of hosts that hit the Hearth (R146, R147, R155, R186, R211). -/
namespace Sys2Proof.Machine
open Config

variable {s t u v : State} {i line p : Nat} {l : List Txn} {x : Txn}

/-! ## Words and bytes -/

theorem ofWordsLE_wordsLE (n v : Nat) : ofWordsLE (wordsLE n v) = v % 2 ^ (32 * n) := by
  induction n generalizing v with
  | zero => rw [Nat.mul_zero, Nat.pow_zero, Nat.mod_one]; rfl
  | succ n ih =>
    have split : 2 ^ (32 * (n + 1)) = 2 ^ 32 * 2 ^ (32 * n) := by rw [← Nat.pow_add, Nat.mul_succ, Nat.add_comm]
    rw [wordsLE, ofWordsLE, ih, BitVec.toNat_ofNat, split, Nat.mod_mul]

theorem length_wordsLE (n v : Nat) : (wordsLE n v).length = n := by
  induction n generalizing v with
  | zero => rfl
  | succ n ih => rw [wordsLE, List.length_cons, ih]

theorem ofWordsLE_word {n : Nat} {w : Nat} (h : 32 * n = w) (v : BitVec w) : BitVec.ofNat w (ofWordsLE (wordsLE n v.toNat)) = v := by
  rw [ofWordsLE_wordsLE, h, Nat.mod_eq_of_lt v.isLt]
  exact BitVec.eq_of_toNat_eq (by rw [BitVec.toNat_ofNat, Nat.mod_eq_of_lt v.isLt])

theorem lineBytes_putLine (d : LineData) {lo n v : Nat} (fits : lo + n ≤ 64) (small : v < 2 ^ (8 * n)) : lineBytes (putLine d lo n v) lo n = v := by
  refine Nat.eq_of_testBit_eq fun j => ?_
  rw [lineBytes, bitsOf, putLine, BitVec.toNat_ofNat, Nat.testBit_mod_two_pow, Nat.testBit_div_two_pow, Nat.testBit_mod_two_pow, testBit_putBits]
  by_cases hj : j < 8 * n
  · rw [decide_eq_true hj, decide_eq_true (show j + 8 * lo < 512 by omega), if_pos (by omega), Bool.true_and, Bool.true_and, Nat.add_sub_cancel]
  · rw [Nat.testBit_lt_two_pow (Nat.lt_of_lt_of_le small (Nat.pow_le_pow_right (by decide) (Nat.le_of_not_lt hj)))]
    simp [hj]

theorem lineBytes_lt (d : LineData) (lo n : Nat) : lineBytes d lo n < 2 ^ (8 * n) := Nat.mod_lt _ (Nat.two_pow_pos _)

theorem amoValue_lt {op w old a b : Nat} (ho : old < 2 ^ w) (ha : a < 2 ^ w) : amoValue op w old a b < 2 ^ w := by
  unfold amoValue
  split
  · exact Nat.mod_lt _ (Nat.two_pow_pos _)
  · exact ha
  · split <;> assumption
  · split <;> assumption
  · split <;> assumption
  · exact Nat.and_lt_two_pow _ ha
  · exact Nat.or_lt_two_pow ho ha
  · exact Nat.xor_lt_two_pow ho ha

/-! ## The commit of a write -/

/-- The writes of hosts. -/
def isHostWrite : ReqKind → Bool
  | .wrLine | .wrPart | .zero | .amo => true
  | _ => false

/-- The way of a line that has been written, by a write back (R206, R211). -/
def wroteWay (s : State) (i line w : Nat) (d : LineData) (bad : Bool) : HLine :=
  { s.hway i (s.setOf line) w with data := d, poison := bad, errs := [], dirty := true, age := 0 }

/-- A transaction as a write has left it. -/
def wroteTxn (out : Nat) (bad : Bool) (x : Txn) : Txn := { x with stage := 1, out := BitVec.ofNat 512 out, outPoison := bad, ok := true }

theorem storeLine_present {w : Nat} {d : LineData} {bad : Bool} {cls : Nat} (way : findWay s i line = some w) :
    storeLine s i line d bad cls 0 false none none = s.setHway i (s.setOf line) w (wroteWay s i line w d bad) := by
  rw [storeLine]
  dsimp only
  rw [way]
  dsimp only
  rw [if_neg fun c => absurd c.1 (by decide), if_neg fun c => absurd c.1 (by decide)]
  rfl

theorem fullLookup_present (way : (findWay s i x.line).isSome = true) : fullLookup s i x = s ∨ fullLookup s i x = s.count (16 + i) 1 1 := by
  rw [fullLookup, if_pos way]
  split
  · exact Or.inl rfl
  · exact Or.inr rfl

/-- From s to t a write has had its effect on its line in way w. -/
structure Wrote (s t : State) (i line w : Nat) (d : LineData) (bad : Bool) : Prop where
  works : Works ⟨true, true, false⟩ s t i
  slice : t.slice i = { s.slice i with hearth := sset hlineD (s.slice i).hearth (s.setOf line * 16 + w) (wroteWay s i line w d bad) }
  resv : ∀ k, sget zeroD t.resv k ≠ line + 1

theorem kindleKill_none (none : ∀ e ∈ (s.slice i).kindle, e.line ≠ line) : kindleKill s i line = s := by
  have noEntry : kFind (s.slice i) line = Option.none := find?_none fun e he => by
    rw [beq_eq_false_iff_ne.2 (none e he), Bool.false_and]
  rw [kindleKill, noEntry]

theorem dirFree_none (absent : dirWay s i line = none) : dirFree s i line = s := by rw [dirFree, absent]

theorem commit_written {d nd : LineData} {bad np : Bool} {out : Nat} (write : isHostWrite x.req.kind = true)
    (result : newLine x.req d bad = (nd, np, out, true)) : ∃ T b, b = kindleKill (dirFree { s with tel := T } i x.line) i x.line ∧
    ∃ c, (c = b ∨ c = fullLookup b i x) ∧ commit s i x d bad false =
      modTxn (clearResv (storeLine c i x.line nd np (reqClass c x.req) (txnPol c i x) false x.found none) x.line x.req.core) i x.line
        (wroteTxn out bad) := by
  unfold isHostWrite at write
  unfold commit
  split at write
  all_goals rename_i kind
  · simp only [kind, result]
    exact ⟨_, _, rfl, _, Or.inr rfl, rfl⟩
  · simp only [kind, result]
    exact ⟨_, _, rfl, _, Or.inl rfl, rfl⟩
  · simp only [kind, result]
    exact ⟨_, _, rfl, _, Or.inr rfl, rfl⟩
  · simp only [kind, result]
    exact ⟨_, _, rfl, _, Or.inl rfl, rfl⟩
  · exact Bool.noConfusion write

/-- The answer to a write or atomic (R155). -/
def writeReply (s : State) (r : Req) (out : Nat) : Msg :=
  s.mkRsp (if r.kind = .amo then opcAMO_DATA else opcWR_DONE) r.src r.tag
    (if r.kind = .amo then wordsLE 2 (BitVec.ofNat 512 out).toNat else [])

theorem commit_writes {w out : Nat} {d nd : LineData} {np : Bool} (write : isHostWrite x.req.kind = true) (one : OneTxn s i line l x)
    (way : findWay s i line = some w) (absent : dirWay s i line = none) (kindle : ∀ e ∈ (s.slice i).kindle, e.line ≠ line)
    (allocs : noAlloc (s.slice i) = false) (pol : x.pol = 0) (core : x.req.core = none) (found : x.found = none)
    (result : newLine x.req d false = (nd, np, out, true)) :
    ∃ u, Wrote s u i line w nd np ∧ commit s i x d false false = modTxn u i line (wroteTxn out false) := by
  obtain ⟨T, b, hb, c, hc, commits⟩ := commit_written (s := s) (i := i) write result
  rw [one.here] at hb commits
  have worksT := works_tel ⟨true, true, false⟩ (s := s) (t := { s with tel := T }) rfl i
  rw [dirFree_none (s := { s with tel := T }) absent, kindleKill_none (s := { s with tel := T }) kindle] at hb
  have looks : c = { s with tel := T } ∨ c = ({ s with tel := T } : State).count (16 + i) 1 1 := by
    rw [hb] at hc
    rcases hc with hc | hc
    · exact Or.inl hc
    · rw [hc]
      exact fullLookup_present (by rw [one.here]; exact Option.isSome_iff_exists.2 ⟨w, way⟩)
  obtain ⟨works, slice⟩ : Works ⟨true, true, false⟩ s c i ∧ c.slice i = s.slice i := by
    rcases looks with hc | hc
    · rw [hc]
      exact ⟨worksT, rfl⟩
    · rw [hc]
      exact ⟨worksT.trans (works_count rfl ..), State.slice_count ..⟩
  have wayC : findWay c i line = some w := (findWay_congr works.boot (by rw [slice]) line).trans way
  have policy : txnPol c i x = 0 := by rw [txnPol, slice, allocs, if_neg Bool.false_ne_true, pol]
  have written : wroteWay c i line w nd np = wroteWay s i line w nd np := by
    rw [wroteWay, wroteWay, works.setOf, hway_congr (s := s) (by rw [slice])]
  rw [policy, core, found, storeLine_present wayC, written, works.setOf] at commits
  refine ⟨_, ⟨?_, ?_, fun k => clearResv_gone _ line k⟩, commits⟩
  · exact (works.trans (works_setHway ..)).trans (works_clearResv rfl ..)
  · rw [show (clearResv (c.setHway i (s.setOf line) w (wroteWay s i line w nd np)) line none).slice i =
      (c.setHway i (s.setOf line) w (wroteWay s i line w nd np)).slice i from rfl, setHway_slice, slice]

/-- What a write has left answers its requester (R155). -/
theorem lateTxn_writes {out : Nat} (one : OneTxn u i line l x) (write : isHostWrite x.req.kind = true)
    (still : lineMoving (u.slice i) line = false) : ∃ T, lateTxn (modTxn u i line (wroteTxn out false)) i line =
      modTxn (respond { modTxn u i line (wroteTxn out false) with tel := T } (wroteTxn out false x).req
        (if x.req.kind = .amo then opcAMO_DATA else opcWR_DONE) 0 false
        (if x.req.kind = .amo then wordsLE 2 (BitVec.ofNat 512 out).toNat else [])) i line fun t => { t with stage := 2 } := by
  have one' := one.mod (f := wroteTxn out false) one.here
  have still' : lineMoving ((modTxn u i line (wroteTxn out false)).slice i) line = false := by
    rw [modTxn_slice]
    exact still
  rw [lateTxn, one'.txnOf]
  dsimp only
  rw [if_pos ⟨rfl, still'⟩, lateRespond, one'.here]
  have kinds : (wroteTxn out false x).req.kind = x.req.kind := rfl
  unfold isHostWrite at write
  split at write
  all_goals rename_i kind
  · rw [kinds, kind]
    exact ⟨_, rfl⟩
  · rw [kinds, kind]
    exact ⟨_, rfl⟩
  · rw [kinds, kind]
    exact ⟨_, rfl⟩
  · rw [kinds, kind]
    exact ⟨_, rfl⟩
  · exact Bool.noConfusion write

/-- The write of transaction x has its effect, and ends. -/
theorem commit_ends {w out : Nat} {d nd : LineData} {np : Bool} (host : HostAt s x.req.src p) (write : isHostWrite x.req.kind = true)
    (one : OneTxn s i line l x) (way : findWay s i line = some w) (absent : dirWay s i line = none)
    (kindle : ∀ e ∈ (s.slice i).kindle, e.line ≠ line) (allocs : noAlloc (s.slice i) = false) (pol : x.pol = 0) (core : x.req.core = none)
    (found : x.found = none) (noGack : x.gack = false) (still : lineMoving (s.slice i) line = false)
    (result : newLine x.req d false = (nd, np, out, true)) :
    ∃ v, Works ⟨true, true, false⟩ s v i ∧ v.slice i = { s.slice i with
        hearth := sset hlineD (s.slice i).hearth (s.setOf line * 16 + w) (wroteWay s i line w nd np), txns := (v.slice i).txns } ∧
      (∀ k, sget zeroD v.resv k ≠ line + 1) ∧
      Ended v (finishTxn (lateTxn (commit s i x d false false) i line) i line) i p l (writeReply s x.req out) := by
  obtain ⟨u, wrote, commits⟩ := commit_writes write one way absent kindle allocs pol core found result
  have oneU : OneTxn u i line l x := one.same (by rw [wrote.slice])
  have stillU : lineMoving (u.slice i) line = false := by
    rw [wrote.slice]
    exact still
  obtain ⟨T, late⟩ := lateTxn_writes (out := out) oneU write stillU
  have one' := oneU.mod (f := wroteTxn out false) oneU.here
  obtain ⟨v, hv⟩ : ∃ v, v = { modTxn u i line (wroteTxn out false) with tel := T } := ⟨_, rfl⟩
  rw [← hv] at late
  have works : Works ⟨true, true, false⟩ s v i := (wrote.works.trans (works_modTxn ..)).trans (works_tel _ (by rw [hv]) i)
  have sliceV : v.slice i = (modTxn u i line (wroteTxn out false)).slice i := by
    rw [hv]
    rfl
  have slice : v.slice i = { s.slice i with
      hearth := sset hlineD (s.slice i).hearth (s.setOf line * 16 + w) (wroteWay s i line w nd np), txns := (v.slice i).txns } := by
    rw [sliceV, modTxn_slice, wrote.slice]
  have ended := respond_ends (x := wroteTxn out false x) (v := v) (opc := if x.req.kind = .amo then opcAMO_DATA else opcWR_DONE) (poison := false)
    (body := if x.req.kind = .amo then wordsLE 2 (BitVec.ofNat 512 out).toNat else []) (works.hostAt host) (one'.same (by rw [sliceV])) noGack
    (by rw [slice]; exact still) ((dirWay_congr works.boot (fun n => by rw [slice]) line).trans absent) 0 (by split <;> decide)
  rw [← late, ← commits, works.mkRsp] at ended
  refine ⟨v, works, slice, fun k => ?_, ended⟩
  rw [hv]
  exact wrote.resv k

/-! ## A write that meets no holder (R186, R211) -/

/-- From s to b the write r has begun as transaction x, whose line may have been hit in its way w. -/
structure WriteBegan (s b c : State) (i line w : Nat) (r : Req) (d : LineData) (x : Txn) : Prop where
  works : Works ⟨true, false, false⟩ s b i
  one : OneTxn b i line (s.slice i).txns x
  req : x.req = r
  noGack : x.gack = false
  found : x.found = none
  pol : x.pol = effPolicy s i line
  slice : b.slice i = { s.slice i with hearth := (b.slice i).hearth, dir := (c.slice i).dir, txns := (b.slice i).txns }
  way : findWay b i line = findWay s i line
  same : ∀ (nd : LineData) (np : Bool), wroteWay b i line w nd np = wroteWay s i line w nd np
  others : ∀ n, n ≠ s.setOf line * 16 + w → sget hlineD (b.slice i).hearth n = sget hlineD (s.slice i).hearth n
  goes : begin_ c i r = finishTxn (lateTxn (commit b i x d false false) i line) i line

/-- The kinds of write that need no data of their line. -/
def isFullWrite : ReqKind → Bool
  | .wrLine | .zero => true
  | _ => false

theorem begin_writesLine {c : State} {r : Req} {w : Nat} (kind : isFullWrite r.kind = true) (hl : lineOf r.addr = line)
    (calm : CalmLine s i line) (works : Works ⟨true, false, false⟩ s c i) (slice : c.slice i = { s.slice i with dir := (c.slice i).dir })
    (met : metEntry c i line = none) : ∃ b x, WriteBegan s b c i line w r 0 x := by
  obtain ⟨opens, grant, needs⟩ : opensTxn r.kind = true ∧ isGrantKind r.kind = false ∧ needsData (newTxn c i r none []) = false := by
    rw [needsData, show (newTxn c i r none []).req.kind = r.kind from rfl]
    revert kind
    cases r.kind <;> simp [isFullWrite, opensTxn, isGrantKind]
  obtain ⟨a, goes, opened, sliceA⟩ := begin_met_none opens hl calm works slice met
  have still : lineMoving (a.slice i) line = false := by
    have rests := moving_of_busy calm.calm
    rw [sliceA]
    exact rests
  have gathers := gatherTxn_noData opened.one.txnOf rfl rfl still rfl needs
  rw [performTxn_noData needs (by rw [opened.one.here]; exact still)] at gathers
  have hearth : (a.slice i).hearth = (s.slice i).hearth := by rw [sliceA]
  refine ⟨a, _, opened.works, opened.one, rfl, opened.gack.trans grant, rfl, opened.pol, ?_, findWay_congr opened.works.boot hearth line,
    fun nd np => ?_, fun n _ => by rw [hearth], ?_⟩
  · rw [sliceA]
  · rw [wroteWay, wroteWay, opened.works.setOf, hway_congr hearth]
  · rw [goes, advance_stages, gathers]

/-- A line is found by what its ways hold, not by their data or age. -/
theorem findWay_held (set : t.setOf line = s.setOf line) (held : ∀ v, (t.hway i (s.setOf line) v).valid = (s.hway i (s.setOf line) v).valid ∧
    (t.hway i (s.setOf line) v).reserved = (s.hway i (s.setOf line) v).reserved ∧
    (t.hway i (s.setOf line) v).line = (s.hway i (s.setOf line) v).line) : findWay t i line = findWay s i line := by
  rw [findWay, findWay, set]
  refine congrArg (List.find? · _) (funext fun v => ?_)
  obtain ⟨valid, reserved, here⟩ := held v
  dsimp only
  rw [valid, reserved, here]

theorem begin_writesPart {c : State} {r : Req} {w : Nat} {d : LineData} (kind : r.kind = .wrPart ∨ r.kind = .amo) (hl : lineOf r.addr = line)
    (calm : CalmLine s i line) (hit : HearthHit s i line w d) (works : Works ⟨true, false, false⟩ s c i)
    (slice : c.slice i = { s.slice i with dir := (c.slice i).dir }) (met : metEntry c i line = none) :
    ∃ b x, WriteBegan s b c i line w r d x := by
  obtain ⟨opens, grant, needs⟩ : opensTxn r.kind = true ∧ isGrantKind r.kind = false ∧ needsData (newTxn c i r none []) = true := by
    rw [needsData, show (newTxn c i r none []).req.kind = r.kind from rfl]
    rcases kind with kind | kind <;> rw [kind] <;> exact ⟨rfl, rfl, rfl⟩
  obtain ⟨b, x, finds, dir, goes⟩ := begin_finds opens hl calm hit works slice met needs
  obtain ⟨-, -, -, -, found, -⟩ := finds.fresh
  have way : b.hway i (s.setOf line) w = hitWay s i line w := by rw [State.hway, finds.slice, sget_sset_same]
  refine ⟨b, x, finds.works, finds.one, finds.req, finds.gack.trans grant, found, finds.pol, ?_, ?_, fun nd np => ?_, fun n hn => ?_, goes⟩
  · rw [← dir, finds.slice]
  · refine findWay_held (finds.works.setOf line) fun v => ?_
    by_cases hv : v = w
    · rw [hv, way]
      exact ⟨rfl, rfl, rfl⟩
    · rw [State.hway, finds.slice, sget_sset_other _ _ _ (show s.setOf line * 16 + v ≠ s.setOf line * 16 + w by omega)]
      exact ⟨rfl, rfl, rfl⟩
  · rw [wroteWay, wroteWay, finds.works.setOf, way]
    rfl
  · rw [finds.slice, sget_sset_other _ _ _ hn]

/-- The write r of a host is answered with m, and has left its line's way as h. -/
structure Written (s t : State) (i line w p : Nat) (m : Msg) (h : HLine) : Prop where
  answered : Answered s t i p m
  way : OneWay s t i (s.setOf line) w h
  txns : (t.slice i).txns = (s.slice i).txns
  resv : ∀ k, sget zeroD t.resv k ≠ line + 1
  rest : t = { s with ports := t.ports, slices := t.slices, acc := t.acc, tel := t.tel, resv := t.resv }

theorem WriteBegan.ends {b c : State} {r : Req} {w out : Nat} {d nd : LineData} {np : Bool} (h : WriteBegan s b c i line w r d x)
    (host : HostAt s r.src p) (write : isHostWrite r.kind = true) (core : r.core = none) (calm : CalmLine s i line)
    (worksC : Works ⟨true, false, false⟩ s c i) (sliceC : c.slice i = { s.slice i with dir := (c.slice i).dir })
    (dirC : ∀ n, sget dentryD (c.slice i).dir n = sget dentryD (s.slice i).dir n)
    (way : findWay s i line = some w) (absent : dirWay s i line = none) (pol : effPolicy s i line = 0)
    (result : newLine r d false = (nd, np, out, true)) :
    Settles c (begin_ c i r) i ∧ Written s ((begin_ c i r).count (16 + i) 0 1) i line w p (writeReply s r out) (wroteWay s i line w nd np) := by
  have allocates : noAlloc (s.slice i) = false := by
    refine Bool.eq_false_iff.2 fun c => ?_
    rw [effPolicy, if_pos c] at pol
    exact absurd pol (by decide)
  have allocs : noAlloc (b.slice i) = false := by
    rw [h.slice]
    exact allocates
  have absentB : dirWay b i line = none := (dirWay_congr h.works.boot (fun n => by rw [h.slice, dirC]) line).trans absent
  have kindle : ∀ e ∈ (b.slice i).kindle, e.line ≠ line := by
    rw [h.slice]
    exact calm.kindle
  have still : lineMoving (b.slice i) line = false := by
    have rests := moving_of_busy calm.calm
    rw [h.slice]
    exact rests
  obtain ⟨v, worksV, sliceV, resv, ended⟩ := commit_ends (x := x) (h.works.hostAt (h.req.symm ▸ host)) (h.req.symm ▸ write) h.one
    (h.way.trans way) absentB kindle allocs (h.pol.trans pol) (h.req.symm ▸ core) h.found h.noGack still (h.req.symm ▸ result)
  rw [← h.goes, h.req, writeReply, h.works.mkRsp] at ended
  have works : Works ⟨true, true, false⟩ s v i :=
    Works.trans ⟨h.works.others, h.works.acc, fun no => Bool.noConfusion no, h.works.pcs, h.works.rest⟩ worksV
  rw [h.same, h.works.setOf] at sliceV
  obtain ⟨settles, done, resv', slice⟩ := done_of calm worksC sliceC works (works.pcs rfl) (by rw [sliceV, h.slice]) ended
  refine ⟨settles, done.answered, ⟨?_, fun n hn => ?_⟩, done.txns, fun k => ?_, done.rest⟩
  · rw [State.hway, slice, sliceV, sget_sset_same]
  · rw [slice, sliceV]
    show sget hlineD (sset hlineD (b.slice i).hearth _ _) n = _
    rw [sget_sset_other _ _ _ hn, h.others n hn]
  · rw [resv']
    exact resv k

theorem submit_writesLine {r : Req} {w out : Nat} {nd : LineData} {np : Bool} (kind : isFullWrite r.kind = true) (host : HostAt s r.src p)
    (core : r.core = none) (calm : CalmLine s i line) (hl : lineOf r.addr = line) (way : findWay s i line = some w)
    (absent : dirWay s i line = none) (pol : effPolicy s i line = 0) (result : newLine r 0 false = (nd, np, out, true)) :
    ∃ t, submit s r = t ∧ Written s t i line w p (writeReply s r out) (wroteWay s i line w nd np) := by
  obtain ⟨write, grant⟩ : isHostWrite r.kind = true ∧ isGrantKind r.kind = false := by
    revert kind
    cases r.kind <;> simp [isFullWrite, isHostWrite, isGrantKind]
  obtain ⟨c, begins, takes⟩ := submit_begins calm hl (fun w hw => absurd (absent.symm.trans hw) (Option.some_ne_none w).symm)
    (fun g => Bool.noConfusion (g.symm.trans grant))
  have met : metEntry c i line = none := by rw [metEntry, dirEntry, (begins.dirWay line).trans absent]; rfl
  obtain ⟨b, x, began⟩ := begin_writesLine (w := w) kind hl calm begins.works begins.entries.slice met
  obtain ⟨settles, written⟩ := began.ends host write core calm begins.works begins.entries.slice begins.entries.dir way absent pol result
  exact ⟨_, takes settles, written⟩

theorem submit_writesPart {r : Req} {w out : Nat} {d nd : LineData} {np : Bool} (kind : r.kind = .wrPart ∨ r.kind = .amo)
    (host : HostAt s r.src p) (core : r.core = none) (calm : CalmLine s i line) (hl : lineOf r.addr = line) (hit : HearthHit s i line w d)
    (absent : dirWay s i line = none) (pol : effPolicy s i line = 0) (result : newLine r d false = (nd, np, out, true)) :
    ∃ t, submit s r = t ∧ Written s t i line w p (writeReply s r out) (wroteWay s i line w nd np) := by
  obtain ⟨write, grant⟩ : isHostWrite r.kind = true ∧ isGrantKind r.kind = false := by
    rcases kind with kind | kind <;> rw [kind] <;> exact ⟨rfl, rfl⟩
  obtain ⟨c, begins, takes⟩ := submit_begins calm hl (fun w hw => absurd (absent.symm.trans hw) (Option.some_ne_none w).symm)
    (fun g => Bool.noConfusion (g.symm.trans grant))
  have met : metEntry c i line = none := by rw [metEntry, dirEntry, (begins.dirWay line).trans absent]; rfl
  obtain ⟨b, x, began⟩ := begin_writesPart kind hl calm hit begins.works begins.entries.slice met
  obtain ⟨settles, written⟩ := began.ends host write core calm begins.works begins.entries.slice begins.entries.dir hit.way absent pol result
  exact ⟨_, takes settles, written⟩

/-! ## The commands -/

theorem Written.tel {T : Tel} {m : Msg} {w : Nat} {h : HLine} (o : Written { s with tel := T } t i line w p m h) : Written s t i line w p m h :=
  ⟨o.answered.tel, o.way.tel, o.txns, o.resv, o.rest⟩

theorem core_host {m : Msg} (host : HostAt s m.src p) : (reqOf s m).core = none := by
  rw [show (reqOf s m).core = if fromCluster s m then coreOf m else none from rfl, fromCluster_host host]
  rfl

theorem kind_host {m : Msg} (host : HostAt s m.src p) : (reqOf s m).kind = kindOf m false := by
  rw [show (reqOf s m).kind = kindOf m (fromCluster s m) from rfl, fromCluster_host host]

theorem wroteWay_hit {w : Nat} {d : LineData} (hit : HearthHit s i line w d) (v : LineData) (bad : Bool) : wroteWay s i line w v bad =
    { s.hway i (s.setOf line) w with data := v, dirty := true, age := 0, poison := bad } := by
  obtain ⟨-, -, errs, -⟩ := hit
  rw [wroteWay]
  generalize s.hway i (s.setOf line) w = h at errs ⊢
  cases h
  cases errs
  rfl

/-- A way that is written with good data, as it was sound before. -/
theorem wroteWay_good {w : Nat} {d : LineData} (hit : HearthHit s i line w d) (v : LineData) : wroteWay s i line w v false =
    { s.hway i (s.setOf line) w with data := v, dirty := true, age := 0 } := by
  rw [wroteWay_hit hit, ← hit.good.2]

/-- What an answered write has left, for the statements. -/
theorem Written.parts {w : Nat} {T : Tel} {m m' : Msg} {h h' : HLine} (o : Written { s with tel := T } t i line w p m h) (message : m = m')
    (way : h = h') : Answered s t i p m' ∧ OneWay s t i (s.setOf line) w h' ∧ (t.slice i).txns = (s.slice i).txns ∧
      (∀ k, sget zeroD t.resv k ≠ line + 1) ∧
      t = { s with ports := t.ports, slices := t.slices, acc := t.acc, tel := t.tel, resv := t.resv } := by
  subst message way
  exact ⟨o.answered.tel, o.way.tel, o.txns, o.resv, o.rest⟩

theorem writeReply_done {T : Tel} {r : Req} (h : r.kind ≠ .amo) (out : Nat) : writeReply { s with tel := T } r out = s.mkRsp opcWR_DONE r.src r.tag [] := by
  rw [writeReply, if_neg h, if_neg h]
  rfl

theorem drop_append_words (n v : Nat) (l : List Word) : (wordsLE n v ++ l).drop n = l := by
  rw [List.drop_append, length_wordsLE, Nat.sub_self, List.drop_zero, List.drop_eq_nil_of_le (by rw [length_wordsLE]), List.nil_append]

theorem take_append_words (n v : Nat) (l : List Word) : (wordsLE n v ++ l).take n = wordsLE n v := by
  rw [List.take_append_of_le_length (by rw [length_wordsLE]), List.take_of_length_le (by rw [length_wordsLE])]

/-- The atomics are those of 8 operations, on 4 bytes or on 8 (R147). -/
theorem amo_wide (param : BitVec 8) : (if param.toNat % 16 / 8 % 2 = 1 then 8 else 4) = if param.getLsbD 3 then 8 else 4 := by
  have bit : (param.toNat % 16 / 8 % 2 = 1) ↔ param.getLsbD 3 = true := by
    rw [BitVec.getLsbD, Nat.testBit_eq_decide_div_mod_eq, decide_eq_true_iff]
    omega
  exact if_congr bit rfl rfl

end Sys2Proof.Machine

open Sys2Proof Sys2Proof.Machine

/-- Settles O28: `submit_writesLine` and `submit_writesPart`, on the requests as they arrive. -/
theorem writesReachTheHearth : Obligations.WritesReachTheHearth := by
  intro s src tag addr p i line w off d host home hline calm hit absent pol
  subst hline
  have lineAt : lineOf addr = off / 64 := lineOf_home home
  have aligned : off % 64 = 0 → decide (addr.toNat % 64 ≠ 0) = false := fun h => by rw [mod_home home (by decide), h]; rfl
  refine ⟨fun n bad full arrives => ?_, fun mask n priv full arrives => ?_, fun full arrives => ?_, fun param n x y wide natural arrives => ?_⟩
  · obtain ⟨T, goes⟩ := plainRequest_host (priv := false) (param := 0) (poison := bad) (body := wordsLE 16 n.toNat) arrives host rfl home
      (aligned full) calm
    obtain ⟨m, hm⟩ : ∃ m, m = admitted s (reqMsg src tag opcWR_LINE false 0 addr bad (wordsLE 16 n.toNat)) := ⟨_, rfl⟩
    rw [← hm] at goes
    have hostM : HostAt s m.src p := by rw [hm]; exact host
    have kind : (reqOf s m).kind = .wrLine := by rw [kind_host hostM, hm]; rfl
    have data : (reqOf s m).data = n := by rw [hm]; exact ofWordsLE_word (by decide) n
    have result : newLine (reqOf s m) 0 false = (n, bad, 0, true) := by
      rw [newLine, kind]
      dsimp only
      rw [data, hm]
      rfl
    obtain ⟨t, submits, written⟩ := submit_writesLine (r := reqOf s m) (s := { s with tel := T }) (by rw [kind]; rfl) hostM.tel (core_host hostM)
      calm.tel (by rw [hm]; exact lineAt) hit.tel.way absent pol result
    exact ⟨t, congrArg Host.Outcome.next (goes.trans submits),
      written.parts ((writeReply_done (by rw [kind]; decide) 0).trans (by rw [hm]; rfl)) (wroteWay_hit hit n bad)⟩
  · obtain ⟨T, goes⟩ := plainRequest_host (priv := priv) (param := 0) (poison := false) (body := partBody mask n) arrives host rfl home
      (aligned full) calm
    obtain ⟨m, hm⟩ : ∃ m, m = admitted s (reqMsg src tag opcWR_PART priv 0 addr false (partBody mask n)) := ⟨_, rfl⟩
    rw [← hm] at goes
    have hostM : HostAt s m.src p := by rw [hm]; exact host
    have kind : (reqOf s m).kind = .wrPart := by rw [kind_host hostM, hm]; rfl
    have data : (reqOf s m).data = n := by
      rw [hm]
      show BitVec.ofNat 512 (ofWordsLE ((wordsLE 2 mask.toNat ++ wordsLE 16 n.toNat).drop 2)) = n
      rw [drop_append_words, ofWordsLE_word (by decide)]
    have masked : (reqOf s m).mask = mask := by
      rw [hm]
      show BitVec.ofNat 64 (ofWordsLE ((wordsLE 2 mask.toNat ++ wordsLE 16 n.toNat).take 2)) = mask
      rw [take_append_words, ofWordsLE_word (by decide)]
    have result : newLine (reqOf s m) d false = (mergeLine d n mask, false, 0, true) := by
      rw [newLine, kind]
      dsimp only
      rw [data, masked, hm]
      rfl
    obtain ⟨t, submits, written⟩ := submit_writesPart (r := reqOf s m) (s := { s with tel := T }) (Or.inl kind) hostM.tel (core_host hostM)
      calm.tel (by rw [hm]; exact lineAt) hit.tel absent pol result
    obtain ⟨answered, way, rest⟩ :=
      written.parts (m' := s.mkRsp opcWR_DONE src tag []) ((writeReply_done (by rw [kind]; decide) 0).trans (by rw [hm]; rfl))
        (wroteWay_good hit (mergeLine d n mask))
    exact ⟨t, congrArg Host.Outcome.next (goes.trans submits), answered, ⟨_, way, fun b hb => lineByte_mergeLine d n mask hb⟩, rest⟩
  · obtain ⟨T, goes⟩ := plainRequest_host (priv := false) (param := 0) (poison := false) (body := []) arrives host rfl home (aligned full) calm
    obtain ⟨m, hm⟩ : ∃ m, m = admitted s (reqMsg src tag opcZERO_LINE false 0 addr false []) := ⟨_, rfl⟩
    rw [← hm] at goes
    have hostM : HostAt s m.src p := by rw [hm]; exact host
    have kind : (reqOf s m).kind = .zero := by rw [kind_host hostM, hm]; rfl
    have result : newLine (reqOf s m) 0 false = (0, false, 0, true) := by rw [newLine, kind]
    obtain ⟨t, submits, written⟩ := submit_writesLine (r := reqOf s m) (s := { s with tel := T }) (by rw [kind]; rfl) hostM.tel (core_host hostM)
      calm.tel (by rw [hm]; exact lineAt) hit.tel.way absent pol result
    exact ⟨t, congrArg Host.Outcome.next (goes.trans submits),
      written.parts ((writeReply_done (by rw [kind]; decide) 0).trans (by rw [hm]; rfl)) (wroteWay_good hit 0)⟩
  · obtain ⟨m, hm⟩ : ∃ m, m = admitted s (reqMsg src tag opcAMO false param.toNat addr false (amoBody x y)) := ⟨_, rfl⟩
    have paramM : m.param = param := by
      rw [hm]
      show BitVec.ofNat 8 param.toNat = param
      rw [BitVec.ofNat_toNat]
      exact BitVec.setWidth_eq _
    have good : badRequest m = false := by
      have opc : m.opc = opcAMO := by rw [hm]; rfl
      have at_ : m.addr = addr := by rw [hm]; rfl
      rw [badRequest, opc, if_neg (by decide), if_pos rfl, paramM, at_, ← wide, natural]
      rfl
    obtain ⟨T, goes⟩ := plainRequest_host (priv := false) (param := param.toNat) (poison := false) (body := amoBody x y) arrives host rfl home
      (hm ▸ good) calm
    rw [← hm] at goes
    have hostM : HostAt s m.src p := by rw [hm]; exact host
    have kind : (reqOf s m).kind = .amo := by rw [kind_host hostM, hm]; rfl
    have op : (reqOf s m).amoOp = param.toNat % 16 := by rw [← paramM]; rfl
    have operand : (reqOf s m).operand = x := by
      rw [hm]
      show BitVec.ofNat 64 (ofWordsLE ((wordsLE 2 x.toNat ++ wordsLE 2 y.toNat).take 2)) = x
      rw [take_append_words, ofWordsLE_word (by decide)]
    have compare : (reqOf s m).compare = y := by
      rw [hm]
      show BitVec.ofNat 64 (ofWordsLE ((wordsLE 2 x.toNat ++ wordsLE 2 y.toNat).drop 2)) = y
      rw [drop_append_words, ofWordsLE_word (by decide)]
    have place : addr.toNat % 64 = off % 64 := mod_home home (by decide)
    obtain ⟨old, hold⟩ : ∃ old, old = lineBytes d (off % 64) n := ⟨_, rfl⟩
    obtain ⟨new, hnew⟩ : ∃ new, new = amoValue (param.toNat % 8) (8 * n) old (x.toNat % 2 ^ (8 * n)) (y.toNat % 2 ^ (8 * n)) := ⟨_, rfl⟩
    have result : newLine (reqOf s m) d false = (putLine d (off % 64) n new, false, old, true) := by
      have opM : param.toNat % 16 % 8 = param.toNat % 8 := Nat.mod_mod_of_dvd _ (by decide)
      have at_ : (reqOf s m).addr = addr := by rw [hm]; rfl
      have sound : (reqOf s m).poison = false := by rw [hm]; rfl
      rw [newLine, kind]
      dsimp only
      rw [if_neg Bool.false_ne_true, op, amo_wide, ← wide, opM, operand, compare, at_, place, sound, ← hold, ← hnew]
    obtain ⟨t, submits, written⟩ := submit_writesPart (r := reqOf s m) (s := { s with tel := T }) (Or.inr kind) hostM.tel (core_host hostM)
      calm.tel (by rw [hm]; exact lineAt) hit.tel absent pol result
    have eight : n = 8 ∨ n = 4 := by
      rw [wide]
      split
      · exact Or.inl rfl
      · exact Or.inr rfl
    have fits : off % 64 + n ≤ 64 := by
      rcases eight with h | h <;> rw [h] at natural ⊢ <;> omega
    have oldLt : old < 2 ^ (8 * n) := hold ▸ lineBytes_lt ..
    have newLt : new < 2 ^ (8 * n) := hnew ▸ amoValue_lt oldLt (Nat.mod_lt _ (Nat.two_pow_pos _))
    have short : old < 2 ^ 512 := Nat.lt_of_lt_of_le oldLt (Nat.pow_le_pow_right (by decide) (by omega))
    have reply : writeReply { s with tel := T } (reqOf s m) old = s.mkRsp opcAMO_DATA src tag (wordsLE 2 old) := by
      rw [writeReply, if_pos kind, if_pos kind, BitVec.toNat_ofNat, Nat.mod_eq_of_lt short, hm]
      rfl
    obtain ⟨answered, way, rest⟩ := written.parts reply (wroteWay_good hit _)
    rw [← hold]
    refine ⟨t, congrArg Host.Outcome.next (goes.trans submits), answered, ⟨_, way, ?_, fun b hb outside => ?_⟩, rest⟩
    · rw [← hnew]
      exact lineBytes_putLine d fits newLt
    · rw [lineByte_putLine d new hb, if_neg (by omega)]
end

section
/-! PROOF. The FIFOs of EVENT and of the CX image, through their registers (R384–R386, R505). -/
namespace Sys2Proof.Machine
open Config

variable {s t : State} {m : Master} {off : Nat}

/-! ## Reads that reach their register -/

/-- A read of a register whose accesses are performed. -/
theorem CwReach.cwRead8 (h : CwReach s m off) (hd : Direct off) (wide : off % 8 = 0) (image : blockAt off ≠ .cxImage) :
    cwRead s m (usedOff s m off) 8 = { (read8 s m off).1 with cwData := (read8 s m off).2 } := by
  have drop : dropHeld s m (blockAt off) = s := dropHeld_of_none h.noHeld
  refine (cwAccess_performs h.running h.votes h.place h.served h.awake hd.not_inWindow1 (hd.windowBusy_eq_none s)
    (hd.indDomain_eq_none s _)).trans ?_
  simp [perform, hd.farAbsent_eq_false, wellFormedAccess, wide, image, drop, answer]

/-- An access to the CX image, which never sleeps, is performed at once (R42, R475). -/
theorem CxReach.performs {rel : Nat} {a : Access} (h : CxReach s m rel) (hd : Direct (cxReg rel)) (block : blockAt (cxReg rel) = .cxImage)
    (who : a.m = m) (here : a.off = cxUsed s rel) : cwAccess s a = answer (perform s a (cxReg rel)).1 a (perform s a (cxReg rel)).2 := by
  have served : cwServed s .cxImage = true := by
    rw [cwServed, decide_eq_true h.served]
    rfl
  have place : cwPlace s a.m a.off = some (cxReg rel) := by
    rw [who, here]
    exact h.place
  have lit : ¬ (s.domLit Block.cxImage.domain = false ∧ Block.cxImage.domain ≠ 0 ∧ Block.cxImage.domain ≠ 1) := fun c => c.2.2 rfl
  rw [cwAccess, h.running, if_neg Bool.false_ne_true]
  dsimp only
  rw [voteMode_of_agree h.votes, place]
  dsimp only
  rw [block, served, if_neg (by decide), if_neg lit, hd.not_inWindow1, hd.windowBusy_eq_none, hd.indDomain_eq_none]
  rfl

theorem CxReach.cwRead4 {rel : Nat} (h : CxReach s m rel) (hd : Direct (cxReg rel)) (block : blockAt (cxReg rel) = .cxImage) :
    cwRead s m (cxUsed s rel) 4 = { (read4 s m (cxReg rel)).1 with cwData := (read4 s m (cxReg rel)).2 } := by
  have drop : dropHeld s m (blockAt (cxReg rel)) = s := dropHeld_of_none h.noHeld
  refine (h.performs hd block rfl rfl).trans ?_
  simp [perform, hd.farAbsent_eq_false, wellFormedAccess, hd.aligned, drop, answer]

theorem CxReach.cwWrite4 {rel : Nat} (h : CxReach s m rel) (hd : Direct (cxReg rel)) (block : blockAt (cxReg rel) = .cxImage) (v : DWord) :
    cwWrite s m (cxUsed s rel) 4 v = write4 s m (cxReg rel) (v.setWidth 32) := by
  refine (h.performs hd block rfl rfl).trans ?_
  simp [perform, hd.farAbsent_eq_false, wellFormedAccess, hd.aligned, answer]

theorem State.setFld_frame (s : State) (off lo w v : Nat) : s.setFld off lo w v = { s with reg := (s.setFld off lo w v).reg } := State.wr_frame ..

/-! ## Pops of the FIFOs of EVENT (R384, R385) -/

/-- The registers that pop a FIFO of EVENT: aligned to 8 bytes, and guarded as a whole. -/
structure PopsFifo (off : Nat) (i : FifoId) : Prop where
  direct : Direct off
  wide : off % 8 = 0
  block : blockAt off = .event
  pops : popsAt off = some i
  guarded : guardMask off ≠ 0

theorem popsFifo_mbox : ∀ i < 8, PopsFifo (mboxReg i 0) (.mbox i) := by
  have apart : ∀ i < 8, (mboxReg i 0 < 0x40000 ∨ 0x50000 ≤ mboxReg i 0) ∧ mboxReg i 0 % 4 = 0 := by decide
  have rest : ∀ i < 8, mboxReg i 0 % 8 = 0 ∧ blockAt (mboxReg i 0) = .event ∧ popsAt (mboxReg i 0) = some (.mbox i) ∧
    guardMask (mboxReg i 0) ≠ 0 := by decide
  intro i hi
  obtain ⟨wide, block, pops, guarded⟩ := rest i hi
  exact ⟨⟨(apart i hi).1, (apart i hi).2⟩, wide, block, pops, guarded⟩

theorem popsFifo_event : PopsFifo (efifoReg 0) .event := ⟨⟨by decide, by decide⟩, by decide, by decide, by decide, by decide⟩

/-- A read of a whole entry pops its FIFO. -/
theorem CwReach.pops {i : FifoId} (h : CwReach s m off) (hp : PopsFifo off i) : cwRead s m (usedOff s m off) 8 =
    { (popFifo (spendShadow s m .event) i).1 with cwData := (popFifo (spendShadow s m .event) i).2 } := by
  have pass : passes m off = true := h.allowed.resolve_right hp.guarded
  rw [h.cwRead8 hp.direct hp.wide (by rw [hp.block]; decide), read8]
  dsimp only
  rw [hp.pops]
  dsimp only
  rw [readPop, pass, Bool.true_or, if_pos rfl, hp.block]

theorem popFifo_cons {i : FifoId} {x : DWord} {l : List DWord} (items : (getFifo s i).items = x :: l) : popFifo s i =
    (setFifo s i { getFifo s i with items := l, rd := ((getFifo s i).rd + 1) % (2 * fifoSize i), last := x }, x) := by
  rw [popFifo, fifoPop, items]
  rfl

theorem popFifo_nil {i : FifoId} (items : (getFifo s i).items = []) : popFifo s i =
    ((setFifo s i (getFifo s i)).setFld (fifoFlags i) 1 1 1, (getFifo s i).last) := by
  rw [popFifo, fifoPop, items]
  rfl

/-! ## CLEAR (R386) -/

theorem mboxClear_facts : ∀ i < 8, blockAt (mboxReg i 0x14) = .event ∧ fifoAt (mboxReg i 0x14 - Block.event.base) = some (.mbox i, 0x14) ∧
    mboxReg i 0x14 - Block.event.base ≠ 0x14 ∧ mboxReg i 0x14 - Block.event.base ≠ 0x30 ∧
    evtReg (mboxReg i 0x14 - Block.event.base) = mboxReg i 0x14 ∧ pairLow (mboxReg i 0x14) = false ∧
    (regFields (mboxReg i 0x14)).isEmpty = false ∧ ((regFields (mboxReg i 0x14)).any fun f => f.ty == .w1l) = false := by decide

theorem ordinary_mboxClear {i : Nat} (hi : i < 8) : Ordinary (mboxReg i 0x14) := by
  have apart : ∀ i < 8, (mboxReg i 0x14 < 0x40000 ∨ 0x50000 ≤ mboxReg i 0x14) ∧ mboxReg i 0x14 % 4 = 0 := by decide
  obtain ⟨block, -, -, -, -, single, listed, unlocked⟩ := mboxClear_facts i hi
  exact ⟨⟨(apart i hi).1, (apart i hi).2⟩, single, listed, unlocked, fun n => by rw [block]; exact Block.noConfusion,
    fun c => by rw [block] at c; exact Block.noConfusion c.1⟩

theorem startEvent_clear {rel : Nat} {i : FifoId} {v : Word} (noRaw : rel ≠ 0x14) (noCrash : rel ≠ 0x30) (fifo : fifoAt rel = some (i, 0x14))
    (go : v.getLsbD 0 = true) : startEvent s rel v = (setFifo s i (fifoClear (getFifo s i))).setFld (evtReg rel) 0 1 0 := by
  rw [startEvent, if_neg noRaw, if_neg noCrash]
  simp only [fifo, go, if_true]

theorem CwReach.clears {i : Nat} (h : CwReach s m (mboxReg i 0x14)) (hi : i < 8) : ∃ u, RegStored s u (mboxReg i 0x14) ∧
    cwWrite s m (usedOff s m (mboxReg i 0x14)) 4 1 =
      (setFifo u (.mbox i) (fifoClear (getFifo u (.mbox i)))).setFld (mboxReg i 0x14) 0 1 0 := by
  obtain ⟨block, fifo, other, other', base, -⟩ := mboxClear_facts i hi
  have filter : ∀ t, filterWrite t m (mboxReg i 0x14) 1 = (t, some 1) := fun t => by
    rw [filterWrite, block]
    dsimp only
    exact if_neg fun c => c.1.elim other other'
  obtain ⟨u, writes, stored, -⟩ := h.write4_ordinary (ordinary_mboxClear hi) (v := 1) filter
  refine ⟨u, stored, ?_⟩
  rw [h.cwWrite4 (ordinary_mboxClear hi).toDirect, show (1 : DWord).setWidth 32 = 1 by decide, writes, startWrite, block]
  dsimp only
  rw [startEvent_clear other other' fifo rfl, base]

/-! ## The FIFOs of the CX image (R505) -/

theorem cxCmd_facts : Direct (cxReg 0x20) ∧ blockAt (cxReg 0x20) = .cxImage ∧ pairLow (cxReg 0x20) = false ∧ guardMask (cxReg 0x20) = 0 ∧
    (regFields (cxReg 0x20)).isEmpty = false ∧ ((regFields (cxReg 0x20)).any fun f => f.ty == .w1l) = false :=
  ⟨⟨Or.inr (by decide), by decide⟩, by decide⟩

theorem CxReach.pushes (h : CxReach s m 0x20) (data : Word) : ∃ u, RegStored s u (cxReg 0x20) ∧
    cwWrite s m (cxUsed s 0x20) 4 (data.setWidth 64) = startCx u 0x20 data := by
  obtain ⟨hd, block, single, open_, listed, unlocked⟩ := cxCmd_facts
  have noDoorbell : ∀ n, blockAt (cxReg 0x20) ≠ .doorbell n := fun n => by rw [block]; exact Block.noConfusion
  have noCounter : ¬ (blockAt (cxReg 0x20) = .telemetry ∧ cxReg 0x20 - 0x700000 < 0x3600) := fun c => by rw [block] at c; exact Block.noConfusion c.1
  have filter : ∀ t, filterWrite t m (cxReg 0x20) data = (t, some data) := fun t => by rw [filterWrite, block]
  have written := writeReg_plain (m := m) hd listed unlocked noCounter (agree_spendShadow (m := m) h.votes (blockAt (cxReg 0x20))) (Or.inr open_)
    (acc := cxReg 0x20) (filter _)
  refine ⟨_, regStored_wr s m (blockAt (cxReg 0x20)) (cxReg 0x20) (writtenValue (spendShadow s m (blockAt (cxReg 0x20))) (cxReg 0x20) data
    (BitVec.allOnes 32)), ?_⟩
  have narrow : (data.setWidth 64).setWidth 32 = data := by
    rw [BitVec.setWidth_setWidth_of_le _ (by decide), BitVec.setWidth_eq]
  rw [h.cwWrite4 hd block, narrow, write4_single h.noHeld (by rw [holdsLow, single, Bool.false_and]) noDoorbell, written, logDenied,
    if_neg Bool.false_ne_true, startWrite, block]
  rfl

theorem startCx_push (u : State) (data : Word) : startCx u 0x20 data = match fifoPush 64 u.cx.cmd [data.setWidth 64] with
    | some f => setFifo u .cxCmd f
    | none => u.setFld (cxReg 0x28) 0 1 1 := by
  rw [startCx, if_neg (by decide)] <;> rfl

theorem cxRsp_facts : Direct (cxReg 0x30) ∧ blockAt (cxReg 0x30) = .cxImage ∧ popsAt (cxReg 0x30) = some .cxRsp :=
  ⟨⟨Or.inr (by decide), by decide⟩, by decide⟩

theorem CxReach.takes (h : CxReach s m 0x30) : cwRead s m (cxUsed s 0x30) 4 =
    { (popFifo (spendShadow s m .cxImage) .cxRsp).1 with
      cwData := BitVec.ofNat 64 ((popFifo (spendShadow s m .cxImage) .cxRsp).2.toNat % 2 ^ 32) } := by
  obtain ⟨hd, block, pops⟩ := cxRsp_facts
  rw [h.cwRead4 hd block, read4]
  dsimp only
  rw [pops]
  dsimp only
  rw [if_pos (Or.inl rfl), readPop, block, show (Block.cxImage == Block.cxImage) = true by decide, Bool.or_true, if_pos rfl]

end Sys2Proof.Machine

open Sys2Proof Sys2Proof.Machine

/-- Settles O44: each access is performed at its register, which pops, clears or pushes its FIFO. -/
theorem fifosPopPushAndClear : Obligations.FifosPopPushAndClear := by
  intro s m
  refine ⟨fun i f hi hf => ⟨fun x l h items => ?_, fun h items => ?_, fun h => ?_⟩, fun x l h items => ?_, fun data h => ⟨fun room => ?_, fun full => ?_⟩,
    fun x l h items small => ?_⟩
  · have pops := h.pops (popsFifo_mbox i hi)
    subst hf
    rw [popFifo_cons (s := spendShadow s m .event) (i := .mbox i) items] at pops
    refine ⟨_, (if_pos (decide_eq_true hi)).trans (congrArg Host.Outcome.next pops), rfl, ?_, fun j hj => ?_, fun y => rfl, rfl⟩
    · exact sget_sset_same ..
    · exact sget_sset_other _ _ _ hj
  · have pops := h.pops (popsFifo_mbox i hi)
    subst hf
    rw [popFifo_nil (s := spendShadow s m .event) (i := .mbox i) items] at pops
    refine ⟨_, (if_pos (decide_eq_true hi)).trans (congrArg Host.Outcome.next pops), rfl, ?_, ?_, ?_⟩
    · rw [State.setFld_evt]
      exact sget_sset_same ..
    · exact (State.bit_setFld _ _ 1 1 1 (by decide)).trans rfl
    · rw [State.setFld_frame]
      rfl
  · obtain ⟨u, stored, clears⟩ := h.clears hi
    have evt : u.evt = s.evt := by rw [stored.rest]
    have here : getFifo u (.mbox i) = f := by rw [← hf, getFifo, evt]
    rw [here] at clears
    refine ⟨_, (if_pos (decide_eq_true hi)).trans (congrArg Host.Outcome.next clears), ?_, fun j hj => ?_, ?_, ?_⟩
    · rw [State.setFld_evt]
      exact sget_sset_same ..
    · rw [State.setFld_evt]
      exact (sget_sset_other _ _ _ hj).trans (by rw [evt])
    · exact (State.bit_setFld _ _ 0 1 0 (by decide)).trans rfl
    · rw [State.setFld_frame, stored.rest]
      rfl
  · have pops := h.pops popsFifo_event
    rw [popFifo_cons (s := spendShadow s m .event) (i := .event) items] at pops
    exact ⟨_, congrArg Host.Outcome.next pops, rfl, rfl, rfl⟩
  · obtain ⟨u, stored, pushes⟩ := h.pushes data
    have cmd : u.cx.cmd = s.cx.cmd := by rw [stored.rest]
    have pushed : fifoPush 64 s.cx.cmd [data.setWidth 64] = some { s.cx.cmd with
        items := s.cx.cmd.items ++ [data.setWidth 64], wr := (s.cx.cmd.wr + 1) % 128 } := if_neg (by simp; omega)
    rw [startCx_push, cmd, pushed] at pushes
    refine ⟨_, congrArg Host.Outcome.next pushes, ?_, ?_⟩
    · rw [stored.rest]; rfl
    · rw [stored.rest]; rfl
  · obtain ⟨u, stored, pushes⟩ := h.pushes data
    have cmd : u.cx.cmd = s.cx.cmd := by rw [stored.rest]
    have refused : fifoPush 64 s.cx.cmd [data.setWidth 64] = none := if_pos (by simp; omega)
    rw [startCx_push, cmd, refused] at pushes
    refine ⟨_, congrArg Host.Outcome.next pushes, ?_, ?_⟩
    · exact (State.bit_setFld _ _ 0 1 1 (by decide)).trans rfl
    · rw [State.setFld_frame, stored.rest]
  · have takes := h.takes
    rw [popFifo_cons (s := spendShadow s m .cxImage) (i := .cxRsp) items] at takes
    have word : BitVec.ofNat 64 (x.toNat % 2 ^ 32) = x := by
      rw [Nat.mod_eq_of_lt small, BitVec.ofNat_toNat]
      exact BitVec.setWidth_eq _
    dsimp only at takes
    rw [word] at takes
    exact ⟨_, congrArg Host.Outcome.next takes, rfl, rfl, rfl⟩
end

section
/-! PROOF. The counters take what is accumulated, samples count, CLEAR_ALL zeroes (R354, R394–R399, R418). -/
namespace Sys2Proof.Machine
open Config

variable {s t u : State} {g : Nat}

/-! ## Stores by their keys -/

theorem sget_filter_keys {α : Type} (d : Nat → α) (m : Store α) (p : Nat → Bool) (k : Nat) :
    sget d (m.filter fun e => p e.1) k = if p k then sget d m k else d k := by
  induction m with
  | nil => exact (ite_self _).symm
  | cons e l ih =>
    obtain ⟨j, v⟩ := e
    rw [List.filter_cons]
    by_cases hk : k = j
    · subst hk
      by_cases hp : p k = true
      · simp [hp, sget]
      · rw [if_neg hp, ih, if_neg hp, if_neg hp]
    · by_cases hj : p j = true
      · rw [if_pos hj, sget, sget, if_neg hk, if_neg hk, ih]
      · rw [if_neg hj, ih, sget, if_neg hk]

theorem sget_above {α : Type} (d : Nat → α) {m : Store α} {j : Nat} (h : sAbove j m = true) : sget d m j = d j := by
  induction m with
  | nil => rfl
  | cons e l ih =>
    obtain ⟨k, v⟩ := e
    simp only [sAbove, List.all_cons, Bool.and_eq_true, decide_eq_true_eq] at h
    rw [sget, if_neg (Nat.ne_of_lt h.1)]
    exact ih h.2

theorem swf_cons {α : Type} [DecidableEq α] {d : Nat → α} {m : Store α} {j : Nat} {v : α} (h : swf d ((j, v) :: m) = true) :
    sAbove j m = true ∧ swf d m = true := by
  simp only [swf, Bool.and_eq_true] at h
  exact ⟨h.1.2, h.2⟩

/-! ## Hand-offs (R394) -/

/-- From s to t each counter of group g has taken what f says; no other has changed. -/
structure Added (s t : State) (g : Nat) (f : Nat → Nat) : Prop where
  sums : ∀ i < 32, sget zeroD t.tel.ctr (slotOf g i) = sget zeroD s.tel.ctr (slotOf g i) + f i
  others : ∀ n, n / 32 ≠ g → sget zeroD t.tel.ctr n = sget zeroD s.tel.ctr n
  rest : t = { s with tel := { s.tel with ctr := t.tel.ctr } }

theorem slotOf_group (g : Nat) {i : Nat} (hi : i < 32) : slotOf g i / 32 = g := by
  rw [slotOf]
  omega

theorem addCounter_fits {i n : Nat} (hi : i < 32) (fits : sget zeroD s.tel.ctr (slotOf g i) + n < 2 ^ 48) :
    Added s (addCounter s g i n) g fun j => if j = i then n else 0 := by
  have key : 32 * g + i = slotOf g i := by rw [slotOf, Nat.mul_comm]
  have added : addCounter s g i n = { s with tel := { s.tel with
      ctr := sset zeroD s.tel.ctr (slotOf g i) (sget zeroD s.tel.ctr (slotOf g i) + n) } } := by
    rw [addCounter, key]
    dsimp only
    rw [if_pos (Or.inl fits), Nat.mod_eq_of_lt fits]
  rw [added]
  refine ⟨fun j hj => ?_, fun k hk => ?_, rfl⟩
  · show sget zeroD (sset zeroD s.tel.ctr _ _) _ = _
    by_cases h : j = i
    · rw [h, sget_sset_same, if_pos rfl]
    · rw [sget_sset_other _ _ _ (by rw [slotOf, slotOf]; omega), if_neg h, Nat.add_zero]
  · exact sget_sset_other _ _ _ fun c => hk (by rw [c, slotOf_group g hi])

theorem addCounters_sum (l : Store Nat) : ∀ s : State, swf zeroD l = true → (∀ e ∈ l, e.1 / 32 = g) →
    (∀ i < 32, sget zeroD s.tel.ctr (slotOf g i) + sget zeroD l (slotOf g i) < 2 ^ 48) →
    Added s (l.foldl (fun s e => addCounter s g (e.1 % 32) e.2) s) g fun i => sget zeroD l (slotOf g i) := by
  induction l with
  | nil => exact fun s _ _ _ => ⟨fun _ _ => rfl, fun _ _ => rfl, rfl⟩
  | cons e l ih =>
    obtain ⟨j, n⟩ := e
    intro s wf keys fits
    obtain ⟨above, wf'⟩ := swf_cons wf
    have group : j / 32 = g := keys (j, n) (List.mem_cons_self ..)
    have hi : j % 32 < 32 := Nat.mod_lt _ (by decide)
    have key : slotOf g (j % 32) = j := by rw [slotOf]; omega
    have value : ∀ i < 32, sget zeroD ((j, n) :: l) (slotOf g i) = (if i = j % 32 then n else 0) + sget zeroD l (slotOf g i) := by
      intro i hi
      rw [sget]
      by_cases h : i = j % 32
      · rw [if_pos h, if_pos (by rw [h, key]), h, key, sget_above _ above, zeroD, Nat.add_zero]
      · rw [if_neg h, if_neg (by rw [slotOf]; omega), Nat.zero_add]
    have head := addCounter_fits (s := s) (g := g) (n := n) hi (by
      have := fits (j % 32) hi
      rw [value _ hi, if_pos rfl] at this
      omega)
    have tail := ih (addCounter s g (j % 32) n) wf' (fun e he => keys e (List.mem_cons_of_mem _ he)) (fun i hi => by
      rw [head.sums i hi]
      have := fits i hi
      rw [value _ hi] at this
      omega)
    refine ⟨fun i hi => ?_, fun k hk => ?_, ?_⟩
    · rw [List.foldl_cons, tail.sums i hi, head.sums i hi, value i hi, Nat.add_assoc]
    · rw [List.foldl_cons, tail.others k hk, head.others k hk]
    · rw [List.foldl_cons, tail.rest, head.rest]

/-- What PAIRS of a cluster takes beside its hand-off (R354). -/
theorem countPairs_takes (s : State) (g : Nat) (wf : swf zeroD s.acc = true) : ∃ p,
    p ≤ (if 36 ≤ g ∧ g < 52 then (s.slot g 0 + 1) / 2 else 0) ∧ swf zeroD (countPairs s g).acc = true ∧
    (∀ n, sget zeroD (countPairs s g).acc n = sget zeroD s.acc n + if n = slotOf g 1 then p else 0) ∧
    countPairs s g = { s with acc := (countPairs s g).acc, freeCtr := (countPairs s g).freeCtr } := by
  have key : 32 * g = slotOf g 0 := by rw [slotOf, Nat.mul_comm, Nat.add_zero]
  by_cases h : 36 ≤ g ∧ g < 52 ∧ sget zeroD s.acc (32 * g) ≠ 0
  · have counts : countPairs s g = s.free.1.count g 1 (s.free.2.toNat % ((sget zeroD s.acc (32 * g) + 1) / 2 + 1)) := by
      rw [countPairs]
      exact if_pos h
    generalize hn : s.free.2.toNat % ((sget zeroD s.acc (32 * g) + 1) / 2 + 1) = n at counts
    have le : n ≤ (s.slot g 0 + 1) / 2 := by
      rw [← hn, key]
      exact Nat.lt_succ_iff.1 (Nat.mod_lt _ (Nat.succ_pos _))
    rw [counts, if_pos ⟨h.1, h.2.1⟩]
    by_cases on : (s.free.1.groupPresent g && !s.free.1.groupCold g) = true
    · have made : s.free.1.count g 1 n = { s.free.1 with acc := smod zeroD s.acc (slotOf g 1) (· + n) } := if_pos on
      rw [made]
      refine ⟨n, le, swf_smod zeroD s.acc (slotOf g 1) (· + n) wf, fun k => ?_, rfl⟩
      show sget zeroD (smod zeroD s.acc (slotOf g 1) (· + n)) k = _
      by_cases hk : k = slotOf g 1
      · rw [hk, sget_smod_same, if_pos rfl]
      · rw [sget_smod_other _ _ _ hk, if_neg hk, Nat.add_zero]
    · have made : s.free.1.count g 1 n = s.free.1 := if_neg on
      rw [made]
      exact ⟨0, Nat.zero_le _, wf, fun k => by rw [ite_self]; rfl, rfl⟩
  · have same : countPairs s g = s := by
      rw [countPairs]
      exact if_neg h
    rw [same]
    exact ⟨0, Nat.zero_le _, wf, fun k => by rw [ite_self]; rfl, rfl⟩

/-- What is accumulated of a group, and what is not. -/
def ofGroup (g : Nat) (m : Store Nat) : Store Nat := m.filter fun e => e.1 / 32 == g
def notOfGroup (g : Nat) (m : Store Nat) : Store Nat := m.filter fun e => e.1 / 32 != g

theorem handoff_lit (lit : s.domLit 61 = true) : handoff s g = (ofGroup g (countPairs s g).acc).foldl (fun s e => addCounter s g (e.1 % 32) e.2)
    { countPairs s g with acc := notOfGroup g (countPairs s g).acc } := by
  rw [handoff]
  dsimp only
  rw [if_pos lit]
  rfl

theorem ofGroup_keys {m : Store Nat} : ∀ e ∈ ofGroup g m, e.1 / 32 = g := fun _ he => beq_iff_eq.1 (List.mem_filter.1 he).2

theorem sget_ofGroup (m : Store Nat) {i : Nat} (hi : i < 32) : sget zeroD (ofGroup g m) (slotOf g i) = sget zeroD m (slotOf g i) := by
  rw [ofGroup, sget_filter_keys zeroD m (fun k => k / 32 == g), slotOf_group g hi, beq_self_eq_true, if_pos rfl]

theorem sget_notOfGroup (m : Store Nat) (n : Nat) : sget zeroD (notOfGroup g m) n = if n / 32 = g then 0 else sget zeroD m n := by
  rw [notOfGroup, sget_filter_keys zeroD m (fun k => k / 32 != g)]
  by_cases h : n / 32 = g
  · rw [if_pos h, h, bne_self_eq_false, if_neg Bool.false_ne_true]
    rfl
  · rw [if_neg h, if_pos (bne_iff_ne.2 h)]

/-- A counter that wraps sets its overflow bit (R395). -/
theorem addCounter_wraps {i n : Nat} (hi : i < 32) (over_ : 2 ^ 48 ≤ sget zeroD s.tel.ctr (slotOf g i) + n) :
    sget zeroD (addCounter s g i n).tel.ctr (slotOf g i) = (sget zeroD s.tel.ctr (slotOf g i) + n) % 2 ^ 48 ∧
    (addCounter s g i n).bit (telReg (0x4000 + 4 * g)) i = true ∧ (addCounter s g i n).acc = s.acc := by
  have key : 32 * g + i = slotOf g i := by rw [slotOf, Nat.mul_comm]
  obtain ⟨u, hu⟩ : ∃ u, u = { s with tel := { s.tel with
      ctr := sset zeroD s.tel.ctr (slotOf g i) ((sget zeroD s.tel.ctr (slotOf g i) + n) % 2 ^ 48) } } := ⟨_, rfl⟩
  have added : addCounter s g i n = if u.bit (telReg (0x4000 + 4 * g)) i = true then u
      else if (u.setFld (telReg (0x4000 + 4 * g)) i 1 1).bit (telReg (0x4100 + 4 * (g / 32))) (g % 32) then
        (u.setFld (telReg (0x4000 + 4 * g)) i 1 1).raise 0x70 0x24 (w32 g) else u.setFld (telReg (0x4000 + 4 * g)) i 1 1 := by
    rw [addCounter, key]
    dsimp only
    rw [← hu]
    exact if_congr (or_iff_right (Nat.not_lt.2 over_)) rfl rfl
  have value : sget zeroD u.tel.ctr (slotOf g i) = (sget zeroD s.tel.ctr (slotOf g i) + n) % 2 ^ 48 := by
    rw [hu]
    exact sget_sset_same ..
  have acc : u.acc = s.acc := by rw [hu]
  have bit : (u.setFld (telReg (0x4000 + 4 * g)) i 1 1).bit (telReg (0x4000 + 4 * g)) i = true := by
    rw [State.bit_setFld _ _ _ _ _ hi, if_pos ⟨Nat.le_refl _, Nat.lt_succ_self _⟩, Nat.sub_self]
    rfl
  rw [added]
  split
  · exact ⟨value, ‹_›, acc⟩
  · split
    · exact ⟨(congrArg (fun x => sget zeroD x.ctr (slotOf g i)) (State.setFld_tel ..)).trans value, bit, (State.setFld_acc ..).trans acc⟩
    · exact ⟨(congrArg (fun x => sget zeroD x.ctr (slotOf g i)) (State.setFld_tel ..)).trans value, bit, (State.setFld_acc ..).trans acc⟩

/-- An increment of another slot leaves a counter and a set overflow bit. -/
theorem addCounter_other {i j n : Nat} (hi : i < 32) (ne : i ≠ j) :
    sget zeroD (addCounter s g j n).tel.ctr (slotOf g i) = sget zeroD s.tel.ctr (slotOf g i) ∧
    (s.bit (telReg (0x4000 + 4 * g)) i = true → (addCounter s g j n).bit (telReg (0x4000 + 4 * g)) i = true) ∧
    (addCounter s g j n).acc = s.acc := by
  have key : 32 * g + j = slotOf g j := by rw [slotOf, Nat.mul_comm]
  have apart : slotOf g i ≠ slotOf g j := by rw [slotOf, slotOf]; omega
  rw [addCounter, key]
  dsimp only
  generalize (sget zeroD s.tel.ctr (slotOf g j) + n) = v
  obtain ⟨u, hu⟩ : ∃ u, u = { s with tel := { s.tel with ctr := sset zeroD s.tel.ctr (slotOf g j) (v % 2 ^ 48) } } := ⟨_, rfl⟩
  have value : sget zeroD u.tel.ctr (slotOf g i) = sget zeroD s.tel.ctr (slotOf g i) := by
    rw [hu]
    exact sget_sset_other _ _ _ apart
  have bit : s.bit (telReg (0x4000 + 4 * g)) i = true → u.bit (telReg (0x4000 + 4 * g)) i = true := fun h => by rw [hu]; exact h
  have acc : u.acc = s.acc := by rw [hu]
  have bit' : s.bit (telReg (0x4000 + 4 * g)) i = true → (u.setFld (telReg (0x4000 + 4 * g)) j 1 1).bit (telReg (0x4000 + 4 * g)) i = true := by
    intro h
    rw [State.bit_setFld _ _ _ _ _ hi, if_neg (by omega)]
    exact bit h
  rw [← hu]
  split
  · exact ⟨value, bit, acc⟩
  · split
    · exact ⟨(congrArg (fun x => sget zeroD x.ctr (slotOf g i)) (State.setFld_tel ..)).trans value, bit', (State.setFld_acc ..).trans acc⟩
    · exact ⟨(congrArg (fun x => sget zeroD x.ctr (slotOf g i)) (State.setFld_tel ..)).trans value, bit', (State.setFld_acc ..).trans acc⟩

theorem countPairs_acc (s : State) (g : Nat) : (countPairs s g).acc = s.acc ∨
    (sget zeroD s.acc (slotOf g 0) ≠ 0 ∧ ∃ p, (countPairs s g).acc = smod zeroD s.acc (slotOf g 1) (· + p)) := by
  have key : 32 * g = slotOf g 0 := by rw [slotOf, Nat.mul_comm, Nat.add_zero]
  rw [countPairs]
  dsimp only
  split
  · rename_i h
    by_cases on : (s.free.1.groupPresent g && !s.free.1.groupCold g) = true
    · exact Or.inr ⟨key ▸ h.2.2, _, congrArg State.acc (if_pos on)⟩
    · exact Or.inl ((congrArg State.acc (if_neg on : s.free.1.count g 1 _ = s.free.1)).trans rfl)
  · exact Or.inl rfl

/-- One accumulated slot, and what PAIRS may have taken beside it. -/
theorem countPairs_single {i n : Nat} (acc : s.acc = [(slotOf g i, n)]) : (countPairs s g).acc = [(slotOf g i, n)] ∨
    ∃ p, i ≠ 1 ∧ (countPairs s g).acc = [(slotOf g i, n), (slotOf g 1, p)] := by
  rcases countPairs_acc s g with same | ⟨counted, p, takes⟩
  · exact Or.inl (same.trans acc)
  · rw [acc] at counted takes
    have zero : i = 0 := by
      by_contra h
      rw [sget, if_neg (by rw [slotOf, slotOf]; omega)] at counted
      exact counted rfl
    subst zero
    have less : ¬ slotOf g 1 < slotOf g 0 := by rw [slotOf, slotOf]; omega
    have ne : ¬ slotOf g 1 = slotOf g 0 := by rw [slotOf, slotOf]; omega
    have old : sget zeroD [(slotOf g 0, n)] (slotOf g 1) = 0 := by rw [sget, if_neg ne]; rfl
    rw [smod, old, Nat.zero_add, sset] at takes
    by_cases hp : p = zeroD (slotOf g 1)
    · rw [if_pos hp] at takes
      exact Or.inl (takes.trans (by simp [Ne.symm ne]))
    · rw [if_neg hp, sput, if_neg less, if_neg ne] at takes
      exact Or.inr ⟨p, Nat.zero_ne_one, takes⟩

theorem countPairs_tel (s : State) (g : Nat) : (countPairs s g).tel = s.tel := by
  rw [countPairs]
  dsimp only
  split
  · exact State.count_tel ..
  · rfl

theorem handoff_wraps {i n : Nat} (hi : i < 32) (lit : s.domLit 61 = true) (acc : s.acc = [(slotOf g i, n)])
    (over_ : 2 ^ 48 ≤ sget zeroD s.tel.ctr (slotOf g i) + n) :
    sget zeroD (handoff s g).tel.ctr (slotOf g i) = (sget zeroD s.tel.ctr (slotOf g i) + n) % 2 ^ 48 ∧
    (handoff s g).bit (telReg (0x4000 + 4 * g)) i = true ∧ (handoff s g).acc = [] := by
  have group : (slotOf g i / 32 == g) = true := beq_iff_eq.2 (slotOf_group g hi)
  have group' : (slotOf g 1 / 32 == g) = true := beq_iff_eq.2 (slotOf_group g (by decide))
  have place : slotOf g i % 32 = i := by rw [slotOf]; omega
  have place' : slotOf g 1 % 32 = 1 := by rw [slotOf]; omega
  rw [handoff_lit lit]
  obtain ⟨u, hu⟩ : ∃ u, u = { countPairs s g with acc := notOfGroup g (countPairs s g).acc } := ⟨_, rfl⟩
  have tel : u.tel = s.tel := by
    rw [hu]
    exact countPairs_tel s g
  rw [← tel] at over_
  obtain ⟨value, bit, kept⟩ := addCounter_wraps hi over_
  rw [← hu, ← tel]
  rcases countPairs_single acc with acc' | ⟨p, ne, acc'⟩
  · have empty : u.acc = [] := by
      rw [hu, acc']
      simp [notOfGroup, bne, group]
    rw [acc', show ofGroup g [(slotOf g i, n)] = [(slotOf g i, n)] by simp [ofGroup, group], List.foldl_cons, List.foldl_nil, place]
    exact ⟨value, bit, kept.trans empty⟩
  · have empty : u.acc = [] := by
      rw [hu, acc']
      simp [notOfGroup, bne, group, group']
    rw [acc', show ofGroup g [(slotOf g i, n), (slotOf g 1, p)] = [(slotOf g i, n), (slotOf g 1, p)] by simp [ofGroup, group, group'],
      List.foldl_cons, List.foldl_cons, List.foldl_nil, place, place']
    obtain ⟨value', bit', kept'⟩ := addCounter_other (s := addCounter u g i n) (g := g) (n := p) hi ne
    exact ⟨value'.trans value, bit' bit, kept'.trans (kept.trans empty)⟩

/-! ## Samples (R398, R399) -/

theorem sget_fresh {α : Type} (d : Nat → α) {m : Store α} {k : Nat} (h : ∀ e ∈ m, e.1 ≠ k) : sget d m k = d k := by
  induction m with
  | nil => rfl
  | cons e l ih =>
    obtain ⟨j, v⟩ := e
    rw [sget, if_neg fun c => h (j, v) (List.mem_cons_self ..) c.symm]
    exact ih fun e he => h e (List.mem_cons_of_mem _ he)

theorem sset_fresh {α : Type} [DecidableEq α] (d : Nat → α) {m : Store α} {k : Nat} (h : ∀ e ∈ m, e.1 ≠ k) : sset d m k (d k) = m := by
  rw [sset, if_pos rfl]
  exact List.filter_eq_self.2 fun e he => by rw [beq_eq_false_iff_ne.2 (h e he)]; rfl

/-- A queue at its threshold, or under it, counts nothing. -/
theorem sampleOne_under {q occ i : Nat} (fresh : ∀ e ∈ s.tel.thr, e.1 ≠ 16 * g + 4 * q + i)
    (under : occ ≤ s.fld (telReg (0x5000 + 0x40 * g + 0x10 * q + 4 * i)) 0 16) : sampleOne s g q occ i = s := by
  have below : decide (wfld (s.rd (telReg (0x5000 + 0x40 * g + 0x10 * q + 4 * i))) 0 16 < occ) = false := decide_eq_false (Nat.not_lt.2 under)
  have unset := sset_fresh zeroD fresh
  have none : sget zeroD s.tel.thr (16 * g + 4 * q + i) = 0 := sget_fresh zeroD fresh
  rw [sampleOne]
  dsimp only
  rw [below, none]
  simp only [Bool.false_eq_true, if_false, Bool.false_and]
  show { s with tel := { s.tel with thr := sset zeroD s.tel.thr (16 * g + 4 * q + i) 0 } } = s
  rw [show sset zeroD s.tel.thr (16 * g + 4 * q + i) 0 = s.tel.thr from unset]

/-- From s to t the first threshold of the event FIFO's queue has taken a sample above it. -/
structure Sampled (s t : State) : Prop where
  slot : t.slot 53 16 = s.slot 53 16 + 1
  others : ∀ n, n ≠ slotOf 53 16 → sget zeroD t.acc n = sget zeroD s.acc n
  thr : ∀ e ∈ t.tel.thr, e.1 = 848
  tel : t.tel = { s.tel with thr := t.tel.thr }
  evt : t.evt = if s.bit (telReg 0x5D40) 31 then { s.evt with waiting := s.evt.waiting ++ [⟨0x70, 0x23, 53⟩] } else s.evt
  rest : t = { s with tel := t.tel, evt := t.evt, acc := t.acc }

theorem sampleOne_above {occ : Nat} (fresh : s.tel.thr = []) (above : s.fld (telReg 0x5D40) 0 16 < occ) : Sampled s (sampleOne s 53 0 occ 0) := by
  have over_ : decide (wfld (s.rd (telReg 0x5D40)) 0 16 < occ) = true := decide_eq_true above
  have none : sget zeroD s.tel.thr 848 = 0 := by rw [fresh]; rfl
  obtain ⟨c, hc⟩ : ∃ c, c = s.count 53 16 1 := ⟨_, rfl⟩
  obtain ⟨n, hn⟩ : ∃ n, n = 2 * (if (s.bit (telReg 0x5D40) 31) = true then 1000 else 0) + b2n true := ⟨_, rfl⟩
  have made : sampleOne s 53 0 occ 0 = if s.bit (telReg 0x5D40) 31 then
      ({ c with tel := { c.tel with thr := sset zeroD c.tel.thr 848 n } } : State).raise 0x70 0x23 53
      else { c with tel := { c.tel with thr := sset zeroD c.tel.thr 848 n } } := by
    rw [sampleOne]
    dsimp only
    rw [show 0x5000 + 0x40 * 53 + 0x10 * 0 + 4 * 0 = 0x5D40 by rfl, show 16 * 53 + 4 * 0 + 0 = 848 by rfl, over_, none,
      show w32 (53 + 2 ^ 6 * 0 + 2 ^ 8 * 0) = 53 by rfl, show 16 + 4 * 0 + 0 = 16 by rfl]
    simp only [if_true, Bool.true_and, Nat.zero_mod, Nat.zero_div, beq_self_eq_true, bne_self_eq_false, Bool.or_false]
    rw [hc, hn]
    rfl
  have acc : c.acc = smod zeroD s.acc (slotOf 53 16) (· + 1) := by rw [hc]; rfl
  have rest : c = { s with acc := c.acc } := by rw [hc]; rfl
  have evt : c.evt = s.evt := by rw [rest]
  have tel : c.tel = s.tel := by rw [rest]
  have keys : ∀ e ∈ sset zeroD c.tel.thr 848 n, e.1 = 848 := by
    rw [tel, fresh, sset]
    split
    · exact fun e he => absurd he List.not_mem_nil
    · exact fun e he => by rw [List.mem_singleton.1 he]
  have slot : sget zeroD c.acc (slotOf 53 16) = s.slot 53 16 + 1 := by rw [acc, sget_smod_same]; rfl
  have others : ∀ n, n ≠ slotOf 53 16 → sget zeroD c.acc n = sget zeroD s.acc n := fun n hn => by rw [acc, sget_smod_other _ _ _ hn]
  rw [made]
  by_cases fire : s.bit (telReg 0x5D40) 31 = true
  · rw [if_pos fire]
    refine ⟨slot, others, keys, ?_, ?_, ?_⟩
    · rw [← tel]
      rfl
    · rw [if_pos fire, ← evt]
      rfl
    · rw [rest]
      rfl
  · rw [if_neg fire]
    refine ⟨slot, others, keys, ?_, ?_, ?_⟩
    · rw [← tel]
    · rw [if_neg fire, ← evt]
    · rw [rest]

/-- The four thresholds of a queue take a sample. -/
def sampleQueue (g : Nat) (s : State) (q : Nat) : State :=
  match occupancy s g q with
  | some occ => (List.range 4).foldl (fun s i => sampleOne s g q occ i) s
  | none => s

theorem sampleAll_queues (on : telDark s = false) : sampleAll s = (List.range 54).foldl (fun s g => (List.range 4).foldl (sampleQueue g) s) s := by
  rw [sampleAll, on]
  rfl

/-- No threshold of a queue is passed. -/
def Under (s : State) (g q : Nat) : Prop := ∀ i occ, i < 4 → occupancy s g q = some occ →
  occ ≤ s.fld (telReg (0x5000 + 0x40 * g + 0x10 * q + 4 * i)) 0 16

theorem sampleQueue_under {q : Nat} (fresh : ∀ i < 4, ∀ e ∈ s.tel.thr, e.1 ≠ 16 * g + 4 * q + i) (under : Under s g q) : sampleQueue g s q = s := by
  rw [sampleQueue]
  split
  · rename_i occ h
    exact foldl_same fun i hi => sampleOne_under (fresh i (List.mem_range.1 hi)) (under i occ (List.mem_range.1 hi) h)
  · rfl

theorem occupancy_last (s : State) (q : Nat) : occupancy s 53 q =
    if q = 0 then some s.evt.efifo.items.length else if q = 1 then some s.tel.blot.ring.length else none := by
  have present : s.groupPresent 53 = true := rfl
  have cold : s.groupCold 53 = false := rfl
  rw [occupancy, present, cold]
  rfl

theorem occupancy_event (s : State) : occupancy s 53 0 = some s.evt.efifo.items.length := occupancy_last s 0

theorem Sampled.occupancy (h : Sampled s t) (q : Nat) : occupancy t 53 q = occupancy s 53 q := by
  have items : t.evt.efifo = s.evt.efifo := by
    rw [h.evt]
    split <;> rfl
  have ring : t.tel.blot = s.tel.blot := by rw [h.tel]
  rw [occupancy_last, occupancy_last, items, ring]

theorem sampleEvents (h : Sampled s t) (under : ∀ i occ, i < 4 → occupancy s 53 0 = some occ → i ≠ 0 →
    occ ≤ s.fld (telReg (0x5000 + 0x40 * 53 + 4 * i)) 0 16) (made : sampleOne s 53 0 s.evt.efifo.items.length 0 = t) :
    sampleQueue 53 s 0 = t := by
  have rd : ∀ off lo w, t.fld off lo w = s.fld off lo w := fun off lo w => by rw [h.rest]; rfl
  have others : ∀ i, i < 4 → i ≠ 0 → sampleOne t 53 0 s.evt.efifo.items.length i = t := fun i hi ne =>
    sampleOne_under (fun e he => by rw [h.thr e he]; omega) (by rw [rd]; exact under i _ hi (occupancy_event s) ne)
  rw [sampleQueue, occupancy_event]
  dsimp only
  rw [show List.range 4 = [0, 1, 2, 3] by rfl, List.foldl_cons, made, List.foldl_cons, others 1 (by decide) (by decide), List.foldl_cons,
    others 2 (by decide) (by decide), List.foldl_cons, others 3 (by decide) (by decide), List.foldl_nil]

theorem sampleAll_event (on : telDark s = false) (fresh : s.tel.thr = [])
    (under : ∀ g q i occ, g < 54 → q < 4 → i < 4 → occupancy s g q = some occ → ¬ (g = 53 ∧ q = 0 ∧ i = 0) →
      occ ≤ s.fld (telReg (0x5000 + 0x40 * g + 0x10 * q + 4 * i)) 0 16)
    (above : s.fld (telReg 0x5D40) 0 16 < s.evt.efifo.items.length) : Sampled s (sampleAll s) := by
  have sampled := sampleOne_above fresh above
  obtain ⟨t, ht⟩ : ∃ t, sampleOne s 53 0 s.evt.efifo.items.length 0 = t := ⟨_, rfl⟩
  rw [ht] at sampled
  have first := sampleEvents sampled (fun i occ hi h ne => under 53 0 i occ (by decide) (by decide) hi h fun c => ne c.2.2) ht
  have rest : ∀ q, q < 4 → q ≠ 0 → sampleQueue 53 t q = t := fun q hq ne => sampleQueue_under
    (fun i hi e he => by rw [sampled.thr e he]; omega) fun i occ hi h => by
      rw [sampled.occupancy] at h
      have := under 53 q i occ (by decide) hq hi h fun c => ne c.2.1
      rw [sampled.rest]
      exact this
  have quiet : (List.range 53).foldl (fun s g => (List.range 4).foldl (sampleQueue g) s) s = s := foldl_same fun g hg =>
    foldl_same fun q hq => sampleQueue_under (fun i hi e he => absurd (fresh ▸ he) List.not_mem_nil) fun i occ hi h =>
      under g q i occ (Nat.lt_succ_of_lt (List.mem_range.1 hg)) (List.mem_range.1 hq) hi h fun c => by
        have := List.mem_range.1 hg
        omega
  rw [sampleAll_queues on, show List.range 54 = List.range 53 ++ [53] from List.range_succ, List.foldl_append, quiet, List.foldl_cons, List.foldl_nil,
    show List.range 4 = [0, 1, 2, 3] by rfl, List.foldl_cons, first, List.foldl_cons, rest 1 (by decide) (by decide), List.foldl_cons,
    rest 2 (by decide) (by decide), List.foldl_cons, rest 3 (by decide) (by decide), List.foldl_nil]
  exact sampled

/-! ## CLEAR_ALL (R418) -/

theorem clearAll_facts : Direct (telReg 0x8000) ∧ blockAt (telReg 0x8000) = .telemetry ∧ telReg 0x8000 - Block.telemetry.base = 0x8000 ∧
    pairLow (telReg 0x8000) = false ∧ (regFields (telReg 0x8000)).isEmpty = false ∧
    ((regFields (telReg 0x8000)).any fun f => f.ty == .w1l) = false ∧ ¬ telReg 0x8000 - 0x700000 < 0x3600 :=
  ⟨⟨Or.inr (by decide), by decide⟩, by decide⟩

theorem clearAll_zeroes (s : State) : (clearAll s).tel = { s.tel with ctr := [] } ∧ (∀ g < 54, (clearAll s).rd (telReg (0x4000 + 4 * g)) = 0) ∧
    clearAll s = { s with reg := (clearAll s).reg, tel := (clearAll s).tel } := by
  have each : ∀ (n : Nat) (u : State), ((List.range n).foldl (fun s g => s.wr (telReg (0x4000 + 4 * g)) 0) u).tel = u.tel ∧
      (∀ g < n, ((List.range n).foldl (fun s g => s.wr (telReg (0x4000 + 4 * g)) 0) u).rd (telReg (0x4000 + 4 * g)) = 0) ∧
      (List.range n).foldl (fun s g => s.wr (telReg (0x4000 + 4 * g)) 0) u =
        { u with reg := ((List.range n).foldl (fun s g => s.wr (telReg (0x4000 + 4 * g)) 0) u).reg } := by
    intro n u
    induction n with
    | zero => exact ⟨rfl, fun g hg => absurd hg (Nat.not_lt_zero g), rfl⟩
    | succ n ih =>
      obtain ⟨tel, zero, rest⟩ := ih
      rw [List.range_succ, List.foldl_append, List.foldl_cons, List.foldl_nil]
      refine ⟨by rw [State.wr_frame]; exact tel, fun g hg => ?_, ?_⟩
      · by_cases h : g = n
        · rw [h, State.rd_wr_same]
        · rw [State.rd_wr_other _ _ (by rw [telReg, telReg]; omega)]
          exact zero g (by omega)
      · rw [State.wr_frame, rest]
  obtain ⟨tel, zero, rest⟩ := each 54 { s with tel := { s.tel with ctr := [] } }
  refine ⟨tel, zero, ?_⟩
  have whole : clearAll s = (List.range 54).foldl (fun s g => s.wr (telReg (0x4000 + 4 * g)) 0) { s with tel := { s.tel with ctr := [] } } := rfl
  rw [whole, tel, rest]

theorem CwReach.clearsAll {m : Master} (h : CwReach s m (telReg 0x8000)) : ∃ u, RegStored s u (telReg 0x8000) ∧
    writeField s m (telReg 0x8000) 0 1 1 = (clearAll u).setFld (telReg 0x8000) 0 1 0 := by
  obtain ⟨hd, block, rel, single, listed, unlocked, apart⟩ := clearAll_facts
  have ordinary : Ordinary (telReg 0x8000) := ⟨hd, single, listed, unlocked, fun n => by rw [block]; exact Block.noConfusion, fun c => apart c.2⟩
  have filter : ∀ (t : State) (v : Word), filterWrite t m (telReg 0x8000) v = (t, some v) := fun t v => by
    rw [filterWrite, block]
    dsimp only
    rw [rel, if_neg fun c => absurd c.1 (by decide), if_neg fun c => absurd c.1 (by decide), if_neg fun c => absurd c.1 (by decide),
      if_neg fun c => absurd c.1 (by decide)]
  obtain ⟨u, writes, stored, -⟩ := h.writes ordinary (v := keepRest s (telReg 0x8000) 0 1 1) fun t => filter t _
  have go : (w32 (keepRest s (telReg 0x8000) 0 1 1)).getLsbD 0 = true :=
    (keepRest_bit s _ 0 1 1 (by decide) (Or.inl ⟨Nat.le_refl 0, Nat.one_pos⟩)).trans rfl
  refine ⟨u, stored, ?_⟩
  rw [writeField, writes, startWrite, block]
  dsimp only
  rw [rel, startTel, go]
  rfl

end Sys2Proof.Machine

open Sys2Proof Sys2Proof.Machine

/-- Settles O46: a hand-off adds slot by slot what the group has counted; only the one sample that is above its threshold acts;
CLEAR_ALL is a write that clears every counter and bitmap. -/
theorem countersTakeTheirIncrements : Obligations.CountersTakeTheirIncrements := by
  refine ⟨fun s g hg lit => ⟨fun wf pairs hpairs fits => ?_, fun i n hi acc over_ => ?_⟩, fun s on fresh under above => ?_, fun s m h => ?_⟩
  · subst hpairs
    obtain ⟨p, le, wf', takes, rest⟩ := countPairs_takes s g wf
    have group : ∀ i < 32, sget zeroD (ofGroup g (countPairs s g).acc) (slotOf g i) = s.slot g i + if i = 1 then p else 0 := fun i hi => by
      rw [sget_ofGroup _ hi, takes]
      refine congrArg _ (if_congr ?_ rfl rfl)
      rw [slotOf, slotOf]
      omega
    obtain ⟨u, hu⟩ : ∃ u, u = { countPairs s g with acc := notOfGroup g (countPairs s g).acc } := ⟨_, rfl⟩
    have tel : u.tel = s.tel := by
      rw [hu]
      exact countPairs_tel s g
    have added := addCounters_sum (g := g) (ofGroup g (countPairs s g).acc) u (swf_filter _ _ _ wf') ofGroup_keys fun i hi => by
      rw [group i hi, tel]
      have := fits i hi
      split <;> omega
    have goes := handoff_lit (g := g) lit
    rw [← hu] at goes
    rw [← goes] at added
    have acc : (handoff s g).acc = notOfGroup g (countPairs s g).acc := by rw [added.rest, hu]
    refine ⟨handoff s g, p, if_pos hg, le, fun i hi => ⟨?_, ?_⟩, fun n hn => ⟨?_, ?_⟩, ?_⟩
    · rw [State.slot, acc, sget_notOfGroup, if_pos (slotOf_group g hi)]
    · rw [added.sums i hi, tel, group i hi, Nat.add_assoc]
    · rw [added.others n hn, tel]
    · rw [acc, sget_notOfGroup, if_neg hn, takes, if_neg, Nat.add_zero]
      exact fun c => hn (by rw [c, slotOf_group g (by decide)])
    · rw [added.rest, hu, rest]
  · obtain ⟨value, bit, empty⟩ := handoff_wraps hi lit acc over_
    exact ⟨handoff s g, if_pos hg, value, bit, empty⟩
  · have sampled := sampleAll_event on fresh under above
    exact ⟨sampleAll s, rfl, sampled.slot, sampled.others, sampled.tel, sampled.evt, sampled.rest⟩
  · obtain ⟨u, stored, clears⟩ := h.clearsAll
    obtain ⟨tel, zero, rest⟩ := clearAll_zeroes u
    refine ⟨_, congrArg Host.Outcome.next clears, ?_, fun g hg => ?_, ?_, ?_⟩
    · rw [State.setFld_tel, tel, stored.rest]
    · rw [State.rd_setFld_other _ 0 1 0 (by rw [telReg, telReg]; omega)]
      exact zero g hg
    · exact (State.bit_setFld _ _ 0 1 0 (by decide)).trans rfl
    · rw [State.setFld_frame, rest, stored.rest]
end

section
/-! PROOF. The damper's pass keeps its budget (R461–R466). -/
namespace Sys2Proof.Machine
open Config

variable {s t u : State} {v : Nat}

/-! ## What grants leave as it is -/

/-- From s to t only what the domains hold and ask for has changed, and what the damper records. -/
structure Regrants (s t : State) : Prop where
  doms : ∀ d, (t.dom d).st = (s.dom d).st ∧ (t.dom d).moving = (s.dom d).moving
  regs : ∀ x, x ≠ pwrReg 0x18 → t.rd x = s.rd x
  damper : t.damper = { s.damper with raise := t.damper.raise, model := t.damper.model, short := t.damper.short }
  rest : t = { s with doms := t.doms, damper := t.damper, reg := t.reg, evt := t.evt }

theorem Regrants.refl (s : State) : Regrants s s := ⟨fun _ => ⟨rfl, rfl⟩, fun _ _ => rfl, rfl, rfl⟩

theorem Regrants.trans (h : Regrants s t) (h' : Regrants t u) : Regrants s u where
  doms d := ⟨(h'.doms d).1.trans (h.doms d).1, (h'.doms d).2.trans (h.doms d).2⟩
  regs x hx := (h'.regs x hx).trans (h.regs x hx)
  damper := by rw [h'.damper, h.damper]
  rest := by rw [h'.rest, h.rest]

theorem Regrants.fld (h : Regrants s t) {x : Nat} (hx : x ≠ pwrReg 0x18) (lo w : Nat) : t.fld x lo w = s.fld x lo w := by
  rw [State.fld, State.fld, h.regs x hx]

theorem Regrants.domPresent (h : Regrants s t) (d : Nat) : t.domPresent d = s.domPresent d := by
  have dev : t.devId = s.devId := by
    rw [State.devId, h.rest]
    rfl
  have compat : t.compat = s.compat := congrArg (·.getLsbD 0) (h.regs 0x8 (by decide))
  simp only [State.domPresent, State.portPresent, State.slicePresent, State.stackPresent, State.clusterPresent, State.fwdPresent, dev, compat]

theorem Regrants.consumer (h : Regrants s t) (d : Nat) : consumer t d = consumer s d := by
  have port : t.port = s.port := by rw [h.rest]; rfl
  unfold Machine.consumer State.domSt
  rw [h.domPresent, (h.doms d).1, port]

theorem Regrants.extraMax (h : Regrants s t) (v d : Nat) : extraMax t v d = extraMax s v d := by
  have stack : t.stackSt = s.stackSt := by rw [h.rest]; rfl
  have temp : t.fld (hbmReg ((d - 36) / 2) 8) 0 8 = s.fld (hbmReg ((d - 36) / 2) 8) 0 8 := h.fld (by unfold hbmReg pwrReg; omega) 0 8
  have cap : t.fld (domReg d 0xC) 16 10 = s.fld (domReg d 0xC) 16 10 := h.fld (by unfold domReg pwrReg; omega) 16 10
  unfold Machine.extraMax
  dsimp only
  rw [h.consumer, temp, cap, stack]

theorem Regrants.protAt (h : Regrants s t) (v : Nat) : protAt t v = protAt s v := by
  unfold Machine.protAt
  simp only [h.consumer]

theorem Regrants.costV (h : Regrants s t) : costV t = costV s := by
  unfold Machine.costV
  rw [h.damper]

theorem Regrants.effBudget (h : Regrants s t) : effBudget t = effBudget s := by
  unfold Machine.effBudget
  rw [h.fld (by decide), h.damper]

theorem State.dom_modDom (s : State) (d : Nat) (f : Domain → Domain) (e : Nat) : (s.modDom d f).dom e = if e = d then f (s.dom d) else s.dom e := by
  rw [State.dom, State.modDom]
  by_cases h : e = d
  · rw [h, if_pos rfl]
    exact sget_smod_same ..
  · rw [if_neg h]
    exact sget_smod_other _ _ _ h

theorem regrants_modDom (s : State) (d : Nat) {f : Domain → Domain} (keeps : ∀ x, (f x).st = x.st ∧ (f x).moving = x.moving) :
    Regrants s (s.modDom d f) := by
  refine ⟨fun e => ?_, fun _ _ => rfl, rfl, rfl⟩
  rw [State.dom_modDom]
  split
  · rename_i h
    rw [h]
    exact keeps _
  · exact ⟨rfl, rfl⟩

/-! ## Extras -/

theorem rescale_self (v n : Nat) : rescale v v n = n := by
  rw [rescale]
  split
  · rfl
  · rename_i h
    have pos : 0 < v * v := Nat.mul_pos (Nat.pos_of_ne_zero h) (Nat.pos_of_ne_zero h)
    rw [Nat.mul_assoc, Nat.add_sub_assoc pos, Nat.add_comm, Nat.add_mul_div_right _ _ pos, Nat.div_eq_of_lt (Nat.sub_lt pos Nat.one_pos),
      Nat.zero_add]

theorem extraOf_setExtra (s : State) (v d n e : Nat) : (setExtra s v d n).extraOf e v = if e = d then n else s.extraOf e v := by
  rw [setExtra]
  by_cases h : s.extraOf d v = n
  · rw [if_pos h]
    split
    · rename_i he
      rw [he, h]
    · rfl
  · rw [if_neg h, State.extraOf, State.dom_modDom]
    split
    · exact rescale_self v n
    · rfl

theorem regrants_setExtra (s : State) (v d n : Nat) : Regrants s (setExtra s v d n) := by
  rw [setExtra]
  split
  · exact .refl s
  · exact regrants_modDom s d fun _ => ⟨rfl, rfl⟩

/-- Every domain of a list holds at most its largest extra, and none more than before. -/
theorem clampExtras (v : Nat) (l : List Nat) : ∀ s : State,
    Regrants s (l.foldl (fun s d => setExtra s v d (min (s.extraOf d v) (extraMax s v d))) s) ∧
    (∀ d, (l.foldl (fun s d => setExtra s v d (min (s.extraOf d v) (extraMax s v d))) s).extraOf d v ≤ s.extraOf d v) ∧
    ∀ d ∈ l, (l.foldl (fun s d => setExtra s v d (min (s.extraOf d v) (extraMax s v d))) s).extraOf d v ≤ extraMax s v d := by
  induction l with
  | nil => exact fun s => ⟨.refl s, fun _ => Nat.le_refl _, fun d hd => absurd hd List.not_mem_nil⟩
  | cons a l ih =>
    intro s
    obtain ⟨grants, less, most⟩ := ih (setExtra s v a (min (s.extraOf a v) (extraMax s v a)))
    have first := regrants_setExtra s v a (min (s.extraOf a v) (extraMax s v a))
    have bound : ∀ d, (setExtra s v a (min (s.extraOf a v) (extraMax s v a))).extraOf d v ≤ s.extraOf d v := fun d => by
      rw [extraOf_setExtra]
      split
      · rename_i h
        rw [h]
        exact Nat.min_le_left ..
      · exact Nat.le_refl _
    rw [List.foldl_cons]
    refine ⟨first.trans grants, fun d => (less d).trans (bound d), fun d hd => ?_⟩
    rcases List.mem_cons.1 hd with h | h
    · refine (less d).trans ?_
      rw [extraOf_setExtra, if_pos h, h]
      exact Nat.min_le_right ..
    · exact (most d h).trans (Nat.le_of_eq (first.extraMax v d))

theorem granted_sum (s : State) (v : Nat) : granted s v = ∑ d ∈ Finset.range 64, s.extraOf d v := by
  have sum : ∀ n, (List.range n).foldl (fun a d => a + s.extraOf d v) 0 = ∑ d ∈ Finset.range n, s.extraOf d v := by
    intro n
    induction n with
    | zero => rfl
    | succ n ih => rw [List.range_succ, List.foldl_append, ih, Finset.sum_range_succ]; rfl
  exact sum 64

theorem granted_congr (h : ∀ d, t.extraOf d v = s.extraOf d v) : granted t v = granted s v := by
  rw [granted_sum, granted_sum]
  exact Finset.sum_congr rfl fun d _ => h d

/-- A list of grants, each domain once. -/
theorem setExtras_sets (v : Nat) (l : List (Nat × Nat)) : ∀ s : State, (l.map Prod.fst).Nodup → Regrants s (setExtras s v l) ∧
    (∀ e ∈ l, (setExtras s v l).extraOf e.1 v = e.2) ∧ ∀ d, d ∉ l.map Prod.fst → (setExtras s v l).extraOf d v = s.extraOf d v := by
  induction l with
  | nil => exact fun s _ => ⟨.refl s, fun e he => absurd he List.not_mem_nil, fun _ _ => rfl⟩
  | cons a l ih =>
    intro s once
    rw [List.map_cons, List.nodup_cons] at once
    obtain ⟨grants, sets, others⟩ := ih (setExtra s v a.1 a.2) once.2
    have step : setExtras s v (a :: l) = setExtras (setExtra s v a.1 a.2) v l := rfl
    rw [step]
    refine ⟨(regrants_setExtra s v a.1 a.2).trans grants, fun e he => ?_, fun d hd => ?_⟩
    · rcases List.mem_cons.1 he with h | h
      · rw [h, others _ once.1, extraOf_setExtra, if_pos rfl]
      · exact sets e h
    · rw [List.map_cons, List.mem_cons, not_or] at hd
      rw [others d hd.2, extraOf_setExtra, if_neg hd.1]

/-! ## Shares (R465) -/

/-- Tokens go one by one to the entries that have room, from the front. -/
def topUp (acc : List (Nat × Nat) × Nat) (e : Nat × Nat × Nat) : List (Nat × Nat) × Nat :=
  if 0 < acc.2 ∧ e.2.2 < e.2.1 then (acc.1 ++ [(e.1, e.2.2 + 1)], acc.2 - 1) else (acc.1 ++ [(e.1, e.2.2)], acc.2)

theorem topUp_fold (base : List (Nat × Nat × Nat)) : ∀ (acc : List (Nat × Nat)) (r : Nat), (∀ e ∈ base, e.2.2 ≤ e.2.1) → ∃ l,
    (base.foldl topUp (acc, r)).1 = acc ++ l ∧ l.map Prod.fst = base.map Prod.fst ∧
    (l.map Prod.snd).sum ≤ (base.map fun e => e.2.2).sum + r ∧
    ∀ e ∈ l, ∃ b ∈ base, b.1 = e.1 ∧ e.2 ≤ b.2.1 := by
  induction base with
  | nil => exact fun acc r _ => ⟨[], (List.append_nil acc).symm, rfl, Nat.zero_le _, fun e he => absurd he List.not_mem_nil⟩
  | cons b base ih =>
    intro acc r le
    have le' : ∀ e ∈ base, e.2.2 ≤ e.2.1 := fun e he => le e (List.mem_cons_of_mem _ he)
    have here := le b (List.mem_cons_self ..)
    obtain ⟨x, k, hx, hk, goes⟩ : ∃ x k, x ≤ b.2.1 ∧ x + k ≤ b.2.2 + r ∧ topUp (acc, r) b = (acc ++ [(b.1, x)], k) := by
      rw [topUp]
      split
      · rename_i h
        exact ⟨b.2.2 + 1, r - 1, h.2, by have := h.1; dsimp only at this; omega, rfl⟩
      · exact ⟨b.2.2, r, here, Nat.le_refl _, rfl⟩
    obtain ⟨l, fold, keys, sum, each⟩ := ih (acc ++ [(b.1, x)]) k le'
    refine ⟨(b.1, x) :: l, ?_, ?_, ?_, fun e he => ?_⟩
    · rw [List.foldl_cons, goes, fold, List.append_assoc]
      rfl
    · rw [List.map_cons, List.map_cons, keys]
    · rw [List.map_cons, List.map_cons, List.sum_cons, List.sum_cons]
      omega
    · rcases List.mem_cons.1 he with h | h
      · exact ⟨b, List.mem_cons_self .., by rw [h], by rw [h]; exact hx⟩
      · obtain ⟨b', hb, same, most⟩ := each e h
        exact ⟨b', List.mem_cons_of_mem _ hb, same, most⟩

theorem sum_foldl {α : Type} (l : List α) (f : α → Nat) : ∀ a, l.foldl (fun a e => a + f e) a = a + (l.map f).sum := by
  induction l with
  | nil => exact fun a => rfl
  | cons b l ih =>
    intro a
    rw [List.foldl_cons, ih, List.map_cons, List.sum_cons, Nat.add_assoc]

theorem sum_div_le (keep total : Nat) (l : List (Nat × Nat)) :
    (l.map fun e => e.2 * keep / total).sum ≤ (l.map Prod.snd).sum * keep / total := by
  induction l with
  | nil => exact Nat.zero_le _
  | cons a l ih =>
    rw [List.map_cons, List.map_cons, List.sum_cons, List.sum_cons, Nat.add_mul]
    exact (Nat.add_le_add_left ih _).trans (Nat.div_add_div_le_add_div ..)

/-- What remains of a list of extras: no more than `keep` in all, and of each no more than it had. -/
theorem keepShare_keeps {total keep : Nat} {l : List (Nat × Nat)} (whole : (l.map Prod.snd).sum = total) (le : keep ≤ total) :
    (keepShare total keep l).map Prod.fst = l.map Prod.fst ∧ ((keepShare total keep l).map Prod.snd).sum ≤ keep ∧
    ∀ e ∈ keepShare total keep l, ∃ b ∈ l, b.1 = e.1 ∧ e.2 ≤ b.2 := by
  obtain ⟨base, hbase⟩ : ∃ base, base = l.map fun e => (e.1, e.2, if total = 0 then 0 else e.2 * keep / total) := ⟨_, rfl⟩
  have share : ∀ x, (if total = 0 then 0 else x * keep / total) ≤ x := fun x => by
    split
    · exact Nat.zero_le _
    · exact Nat.div_le_of_le_mul (by rw [Nat.mul_comm total]; exact Nat.mul_le_mul_left x le)
  have under : ∀ e ∈ base, e.2.2 ≤ e.2.1 := by
    rw [hbase]
    intro e he
    obtain ⟨b, -, rfl⟩ := List.mem_map.1 he
    exact share b.2
  have sums : (base.map fun e => e.2.2).sum ≤ keep := by
    rw [hbase, List.map_map]
    show (l.map fun e => if total = 0 then 0 else e.2 * keep / total).sum ≤ keep
    by_cases zero : total = 0
    · simp [zero]
    · simp only [if_neg zero]
      refine (sum_div_le keep total l).trans ?_
      rw [whole, Nat.mul_comm, Nat.mul_div_cancel _ (Nat.pos_of_ne_zero zero)]
  obtain ⟨r, goes, keys, sum, each⟩ := topUp_fold base [] (keep - base.foldl (fun a e => a + e.2.2) 0) under
  have kept : keepShare total keep l = r := by
    rw [List.nil_append] at goes
    rw [← goes, hbase]
    rfl
  rw [sum_foldl base (fun e => e.2.2), Nat.zero_add] at sum
  rw [kept]
  refine ⟨?_, by omega, fun e he => ?_⟩
  · rw [keys, hbase, List.map_map]
    rfl
  · obtain ⟨b, hb, same, most⟩ := each e he
    rw [hbase] at hb
    obtain ⟨c, hc, rfl⟩ := List.mem_map.1 hb
    exact ⟨c, hc, same, most⟩

/-! ## Withdrawals (R465) -/

theorem sumExtras_sum (l : List (Nat × Nat)) : sumExtras l = (l.map Prod.snd).sum := by
  rw [sumExtras, sum_foldl l Prod.snd, Nat.zero_add]

theorem extrasOf_sum (s : State) (v : Nat) (l : List Nat) : sumExtras (extrasOf s v l) = (l.map fun d => s.extraOf d v).sum := by
  rw [sumExtras_sum, extrasOf, List.map_map]
  rfl

theorem extrasOf_keys (s : State) (v : Nat) (l : List Nat) : (extrasOf s v l).map Prod.fst = l := by
  rw [extrasOf, List.map_map]
  exact List.map_id'' (fun _ => rfl) l

/-- The domains of a list keep at most so many tokens of their extras in all; the others hold what they held. -/
structure Keeps (s t : State) (v : Nat) (l : List Nat) (keep : Nat) : Prop where
  grants : Regrants s t
  sum : (l.map fun d => t.extraOf d v).sum ≤ keep
  less : ∀ d, t.extraOf d v ≤ s.extraOf d v
  others : ∀ d, d ∉ l → t.extraOf d v = s.extraOf d v

theorem keepExtras {l : List Nat} {keep : Nat} {ex : List (Nat × Nat)} (once : l.Nodup) (same : ex = extrasOf s v l) (le : keep ≤ sumExtras ex) :
    Keeps s (setExtras s v (keepShare (sumExtras ex) keep ex)) v l keep := by
  subst same
  obtain ⟨keys, sum, each⟩ := keepShare_keeps (sumExtras_sum (extrasOf s v l)).symm le
  generalize keepShare (sumExtras (extrasOf s v l)) keep (extrasOf s v l) = r at keys sum each
  rw [extrasOf_keys] at keys
  obtain ⟨grants, sets, others⟩ := setExtras_sets v r s (by rw [keys]; exact once)
  have held : (r.map fun e => (setExtras s v r).extraOf e.1 v) = r.map Prod.snd := List.map_congr_left sets
  refine ⟨grants, ?_, fun d => ?_, fun d hd => others d (by rw [keys]; exact hd)⟩
  · rw [← keys, List.map_map]
    exact (Nat.le_of_eq (congrArg List.sum held)).trans sum
  · by_cases hd : d ∈ r.map Prod.fst
    · obtain ⟨e, he, rfl⟩ := List.mem_map.1 hd
      obtain ⟨b, hb, same, most⟩ := each e he
      obtain ⟨c, -, rfl⟩ := List.mem_map.1 hb
      rw [sets e he, ← same]
      exact most
    · rw [others d hd]

/-- The domains that can hold extra. -/
def sliceDoms : List Nat := (List.range 16).map (· + 20)
def halfDoms : List Nat := (List.range 8).map (· + 36)

/-- Only the slices, the halves and the clusters hold extra. -/
def OnlyGroups (s : State) (v : Nat) : Prop := ∀ d < 64, d < 20 ∨ 60 ≤ d → s.extraOf d v = 0

theorem granted_groups (only : OnlyGroups s v) : granted s v = (sliceDoms.map fun d => s.extraOf d v).sum +
    (halfDoms.map fun d => s.extraOf d v).sum + (groupTwo.map fun d => s.extraOf d v).sum := by
  have low : ∑ d ∈ Finset.range 20, s.extraOf d v = 0 := Finset.sum_eq_zero fun d hd => by
    have := Finset.mem_range.1 hd
    exact only d (by omega) (Or.inl this)
  have high : ∑ d ∈ Finset.range 4, s.extraOf (60 + d) v = 0 := Finset.sum_eq_zero fun d hd => by
    have := Finset.mem_range.1 hd
    exact only _ (by omega) (Or.inr (by omega))
  have part : ∀ n k, ((List.range n).map (· + k)).map (fun d => s.extraOf d v) = (List.range n).map fun d => s.extraOf (k + d) v := fun n k => by
    rw [List.map_map]
    exact List.map_congr_left fun d _ => by rw [Function.comp, Nat.add_comm]
  have sums : ∀ n k, ((List.range n).map fun d => s.extraOf (k + d) v).sum = ∑ d ∈ Finset.range n, s.extraOf (k + d) v := fun n k =>
    (Multiset.sum_coe ((List.range n).map fun d => s.extraOf (k + d) v)).symm
  rw [granted_sum, show (64 : Nat) = 20 + 16 + 8 + 16 + 4 by rfl, Finset.sum_range_add, Finset.sum_range_add, Finset.sum_range_add, Finset.sum_range_add,
    low, high, sliceDoms, halfDoms, groupTwo, part, part, part, sums, sums, sums, Nat.zero_add, Nat.add_zero]

/-- From s to t extras have been withdrawn or granted: no domain but a slice, a half or a cluster has more than before. -/
structure Moves (s t : State) (v : Nat) : Prop where
  grants : Regrants s t
  most : (∀ d < 64, s.extraOf d v ≤ extraMax s v d) → ∀ d < 64, t.extraOf d v ≤ extraMax s v d

theorem Moves.refl (s : State) (v : Nat) : Moves s s v := ⟨.refl s, id⟩

theorem Moves.trans (h : Moves s t v) (h' : Moves t u v) : Moves s u v := by
  refine ⟨h.grants.trans h'.grants, fun le d hd => ?_⟩
  have next := h'.most fun e he => by
    rw [h.grants.extraMax]
    exact h.most le e he
  rw [← h.grants.extraMax]
  exact next d hd

theorem Keeps.moves {l : List Nat} {keep : Nat} (h : Keeps s t v l keep) : Moves s t v := ⟨h.grants, fun le d hd => (h.less d).trans (le d hd)⟩

/-- What the halves lose of their share leaves the slices no more than they have. -/
theorem share_le {sl hb keep : Nat} (le : keep ≤ sl + hb) : keep - (if sl + hb = 0 then 0 else hb * keep / (sl + hb)) ≤ sl ∧
    (if sl + hb = 0 then 0 else hb * keep / (sl + hb)) ≤ hb ∧ (if sl + hb = 0 then 0 else hb * keep / (sl + hb)) ≤ keep := by
  by_cases zero : sl + hb = 0
  · rw [if_pos zero]
    omega
  · rw [if_neg zero]
    refine ⟨?_, Nat.div_le_of_le_mul (by rw [Nat.mul_comm (sl + hb)]; exact Nat.mul_le_mul_left hb le),
      Nat.div_le_of_le_mul (Nat.mul_le_mul_right keep (Nat.le_add_left ..))⟩
    have above := Nat.lt_mul_div_succ (hb * keep) (Nat.pos_of_ne_zero zero)
    generalize hb * keep / (sl + hb) = q at above ⊢
    by_contra less
    have : q + 1 ≤ keep - sl := by omega
    have bound : (sl + hb) * (q + 1) ≤ (sl + hb) * (keep - sl) := Nat.mul_le_mul_left _ this
    have room : (sl + hb) * (keep - sl) ≤ hb * keep := by
      obtain ⟨k, hk⟩ : ∃ k, keep = sl + k := ⟨keep - sl, by omega⟩
      subst hk
      rw [Nat.add_sub_cancel_left]
      nlinarith
    omega

theorem withdraw_moves (only : OnlyGroups s v) (room : Nat) : Moves s (withdraw s v room) v ∧ granted (withdraw s v room) v ≤ room := by
  obtain ⟨sl, hsl⟩ : ∃ l, l = extrasOf s v sliceDoms := ⟨_, rfl⟩
  obtain ⟨hb, hhb⟩ : ∃ l, l = extrasOf s v halfDoms := ⟨_, rfl⟩
  obtain ⟨cl, hcl⟩ : ∃ l, l = extrasOf s v groupTwo := ⟨_, rfl⟩
  obtain ⟨keep, hkeep⟩ : ∃ n, n = min (sumExtras sl + sumExtras hb) room := ⟨_, rfl⟩
  obtain ⟨keepHb, hkeepHb⟩ : ∃ n, n = if sumExtras sl + sumExtras hb = 0 then 0 else sumExtras hb * keep / (sumExtras sl + sumExtras hb) := ⟨_, rfl⟩
  obtain ⟨a, ha⟩ : ∃ a, a = setExtras s v (keepShare (sumExtras sl) (keep - keepHb) sl) := ⟨_, rfl⟩
  obtain ⟨b, hb'⟩ : ∃ b, b = setExtras a v (keepShare (sumExtras hb) keepHb hb) := ⟨_, rfl⟩
  have goes : withdraw s v room = setExtras b v (keepShare (sumExtras cl) (min (sumExtras cl) (room - keep)) cl) := by
    rw [hb', ha, hkeepHb, hkeep, hcl, hhb, hsl]
    rfl
  have share := share_le (sl := sumExtras sl) (hb := sumExtras hb) (keep := keep) (by rw [hkeep]; exact Nat.min_le_left ..)
  rw [← hkeepHb] at share
  have first : Keeps s a v sliceDoms (keep - keepHb) := ha ▸ keepExtras (by decide) hsl share.1
  have halves : hb = extrasOf a v halfDoms := by
    rw [hhb]
    exact List.map_congr_left fun d hd => by rw [first.others d (by revert d; decide)]
  have second : Keeps a b v halfDoms keepHb := hb' ▸ keepExtras (by decide) halves share.2.1
  have clusters : cl = extrasOf b v groupTwo := by
    rw [hcl]
    exact List.map_congr_left fun d hd => by rw [second.others d (by revert d; decide), first.others d (by revert d; decide)]
  have third := keepExtras (s := b) (keep := min (sumExtras cl) (room - keep)) (by decide) clusters (Nat.min_le_left ..)
  rw [← goes] at third
  refine ⟨first.moves.trans (second.moves.trans third.moves), ?_⟩
  have only' : OnlyGroups (withdraw s v room) v := fun d hd out => by
    have := (third.less d).trans ((second.less d).trans (first.less d))
    rw [only d hd out] at this
    omega
  have sumSl : (sliceDoms.map fun d => (withdraw s v room).extraOf d v) = sliceDoms.map fun d => a.extraOf d v :=
    List.map_congr_left fun d hd => by rw [third.others d (by revert d; decide), second.others d (by revert d; decide)]
  have sumHb : (halfDoms.map fun d => (withdraw s v room).extraOf d v) = halfDoms.map fun d => b.extraOf d v :=
    List.map_congr_left fun d hd => by rw [third.others d (by revert d; decide)]
  rw [granted_groups only', sumSl, sumHb]
  have one := first.sum
  have two := second.sum
  have three := third.sum
  have part := share.2.2
  have less : keep ≤ room := by rw [hkeep]; exact Nat.min_le_right ..
  omega

/-! ## Rounds (R465) -/

theorem granted_setExtra {d : Nat} (hd : d < 64) (n : Nat) : granted (setExtra s v d n) v + s.extraOf d v = granted s v + n := by
  rw [granted_sum, granted_sum]
  simp only [extraOf_setExtra]
  have split := fun (f : Nat → Nat) => Finset.sum_erase_add (Finset.range 64) f (Finset.mem_range.2 hd)
  rw [← split, ← split fun e => s.extraOf e v, if_pos rfl]
  have same : ∑ e ∈ (Finset.range 64).erase d, (if e = d then n else s.extraOf e v) = ∑ e ∈ (Finset.range 64).erase d, s.extraOf e v :=
    Finset.sum_congr rfl fun e he => if_neg (Finset.ne_of_mem_erase he)
  rw [same]
  omega

/-- One domain is asked in a round. -/
def roundStep (v : Nat) (sl : State × Nat) (d : Nat) : State × Nat :=
  if 0 < sl.2 ∧ sl.1.extraOf d v < (sl.1.dom d).wants ∧ sl.1.extraOf d v < extraMax sl.1 v d then (setExtra sl.1 v d (sl.1.extraOf d v + 1), sl.2 - 1)
  else sl

/-- Tokens have gone from what is left to what is granted. -/
structure Rounds (v : Nat) (a b : State × Nat) : Prop where
  moves : Moves a.1 b.1 v
  sum : granted b.1 v + b.2 = granted a.1 v + a.2

theorem Rounds.trans {a b c : State × Nat} (h : Rounds v a b) (h' : Rounds v b c) : Rounds v a c := ⟨h.moves.trans h'.moves, h'.sum.trans h.sum⟩

theorem roundStep_rounds (a : State × Nat) {d : Nat} (hd : d < 64) : Rounds v a (roundStep v a d) := by
  rw [roundStep]
  split
  · rename_i h
    refine ⟨⟨regrants_setExtra .., fun le e he => ?_⟩, ?_⟩
    · rw [extraOf_setExtra]
      split
      · rename_i same
        rw [same]
        exact h.2.2
      · exact le e he
    · have := granted_setExtra (s := a.1) (v := v) hd (a.1.extraOf d v + 1)
      have := h.1
      dsimp only
      omega
  · exact ⟨.refl .., rfl⟩

theorem roundSteps_rounds {l : List Nat} (hl : ∀ d ∈ l, d < 64) : ∀ a : State × Nat, Rounds v a (l.foldl (roundStep v) a) := by
  induction l with
  | nil => exact fun a => ⟨.refl .., rfl⟩
  | cons d l ih => exact fun a => (roundStep_rounds a (hl d (List.mem_cons_self ..))).trans (ih (fun e he => hl e (List.mem_cons_of_mem _ he)) _)

theorem grantRounds_rounds {l : List Nat} (hl : ∀ d ∈ l, d < 64) (n : Nat) : ∀ (s : State) (left : Nat),
    Rounds v (s, left) (grantRounds v l n s left) := by
  induction n with
  | zero => exact fun s left => ⟨.refl .., rfl⟩
  | succ n ih =>
    intro s left
    have round := roundSteps_rounds (v := v) hl (s, left)
    have goes : grantRounds v l (n + 1) s left = if (l.foldl (roundStep v) (s, left)).2 = left then l.foldl (roundStep v) (s, left)
        else grantRounds v l n (l.foldl (roundStep v) (s, left)).1 (l.foldl (roundStep v) (s, left)).2 := rfl
    rw [goes]
    split
    · exact round
    · exact round.trans (ih _ _)

/-- What was asked for is forgotten. -/
theorem forgets_moves (l : List Nat) : ∀ s : State, Regrants s (l.foldl (fun s d => s.modDom d fun x => { x with wants := 0 }) s) ∧
    ∀ d, (l.foldl (fun s d => s.modDom d fun x => { x with wants := 0 }) s).extraOf d v = s.extraOf d v := by
  induction l with
  | nil => exact fun s => ⟨.refl s, fun _ => rfl⟩
  | cons a l ih =>
    intro s
    obtain ⟨grants, same⟩ := ih (s.modDom a fun x => { x with wants := 0 })
    refine ⟨(regrants_modDom s a (f := fun x => { x with wants := 0 }) fun _ => ⟨rfl, rfl⟩).trans grants, fun d => ?_⟩
    rw [List.foldl_cons, same, State.extraOf, State.dom_modDom, State.extraOf]
    split
    · rename_i h
      rw [h]
    · rfl

/-! ## The pass -/

theorem consumer_outside (s : State) {d : Nat} (h : d < 20 ∨ 60 ≤ d) : (consumer s d).2 = 0 := by
  unfold consumer
  dsimp only
  split
  · rfl
  · split
    · rfl
    · rw [if_neg (by omega), if_neg (by omega), if_neg (by omega)]

theorem extraMax_outside (s : State) (v : Nat) {d : Nat} (h : d < 20 ∨ 60 ≤ d) : extraMax s v d = 0 := by
  have full : scaleCost v ((consumer s d).1 + (consumer s d).2) - scaleCost v (consumer s d).1 = 0 := by
    rw [consumer_outside s h, Nat.add_zero, Nat.sub_self]
  unfold extraMax
  dsimp only
  rw [full, Nat.zero_div, ite_self, Nat.zero_min]

/-- Before a pass grants: the budget is taken, the brake is what the ball and the temperature say. -/
def passStart (s : State) : State :=
  let s := takeBudget (voteBudget s)
  { s with damper := { s.damper with braked := s.damper.pin || s.damper.hot } }

/-- No domain holds more than it may. -/
def passClamp (s : State) : State :=
  (List.range 64).foldl (fun t d => setExtra t (costV s) d (min (t.extraOf d (costV s)) (extraMax t (costV s) d))) s

/-- What a pass records of what it granted. -/
def passRecord (s : State) (v short : Nat) : State :=
  { s with damper := { s.damper with model := protAt s v + granted s v, short := short } }

/-- What the grants of a pass leave, from a state in which no domain holds more than it may. -/
structure Granting (c g : State) (v eff short : Nat) : Prop where
  grants : Regrants c g
  most : ∀ d < 64, g.extraOf d v ≤ extraMax c v d
  fits : protAt c v + short ≤ eff → protAt c v + granted g v + short ≤ eff
  lacks : eff < protAt c v + short → (∀ d, 20 ≤ d → d < 60 → g.extraOf d v = 0) ∧ g.damper.raise = 0 ∧ g.bit (pwrReg 0x18) 2 = true

theorem setErr_sets (s : State) (off i source : Nat) (info : Word) (hi : i < 32) : (s.setErr off i source info).bit off i = true := by
  rw [State.setErr]
  split
  · assumption
  · exact (State.bit_setFld s off i 1 1 hi).trans (by rw [if_pos ⟨Nat.le_refl i, Nat.lt_succ_self i⟩, Nat.sub_self]; rfl)

theorem setErr_frame (s : State) (off i source : Nat) (info : Word) :
    s.setErr off i source info = { s with reg := (s.setErr off i source info).reg, evt := (s.setErr off i source info).evt } ∧
    ∀ x, x ≠ off → (s.setErr off i source info).rd x = s.rd x := by
  rw [State.setErr]
  split
  · exact ⟨rfl, fun _ _ => rfl⟩
  · refine ⟨?_, fun x hx => State.rd_setFld_other s i 1 1 hx⟩
    rw [State.raise, State.setFld_frame]

theorem groups_once : (groupOne ++ groupTwo).Nodup := by decide

theorem granting_short {c e : State} {eff short : Nat} (le : ∀ d < 64, c.extraOf d v ≤ extraMax c v d) (lacks : eff < protAt c v + short)
    (none_ : e = setExtras c v ((groupOne ++ groupTwo).map fun d => (d, 0))) :
    Granting c (({ e with damper := { e.damper with raise := 0 } } : State).setErr (pwrReg 0x18) 2 0x02 (e.rd (pwrReg 0x1C))) v eff short := by
  have keys : ((groupOne ++ groupTwo).map fun d => (d, 0)).map Prod.fst = groupOne ++ groupTwo := by
    rw [List.map_map]
    exact List.map_id'' (fun _ => rfl) _
  obtain ⟨grants, sets, others⟩ := setExtras_sets v ((groupOne ++ groupTwo).map fun d => (d, 0)) c (by rw [keys]; exact groups_once)
  have zero : ∀ d, 20 ≤ d → d < 60 → (setExtras c v ((groupOne ++ groupTwo).map fun d => (d, 0))).extraOf d v = 0 := fun d lo hi =>
    sets (d, 0) (List.mem_map.2 ⟨d, by interval_cases d <;> decide, rfl⟩)
  rw [← none_] at grants others zero
  obtain ⟨f, hf⟩ : ∃ f : State, f = { e with damper := { e.damper with raise := 0 } } := ⟨_, rfl⟩
  rw [← hf]
  have sets' := setErr_sets f (pwrReg 0x18) 2 0x02 (e.rd (pwrReg 0x1C)) (by decide)
  obtain ⟨frame, rd⟩ := setErr_frame f (pwrReg 0x18) 2 0x02 (e.rd (pwrReg 0x1C))
  generalize f.setErr (pwrReg 0x18) 2 0x02 (e.rd (pwrReg 0x1C)) = g at sets' frame rd
  have toF : Regrants e f := ⟨fun _ => by rw [hf]; exact ⟨rfl, rfl⟩, fun _ _ => by rw [hf]; rfl, by rw [hf], by rw [hf]⟩
  have toG : Regrants f g := ⟨fun _ => by rw [frame]; exact ⟨rfl, rfl⟩, rd, by rw [frame], by rw [frame]⟩
  have extra : ∀ d, g.extraOf d v = e.extraOf d v := fun d => by rw [frame, hf]; rfl
  refine ⟨grants.trans (toF.trans toG), fun d hd => ?_, fun c => absurd c (Nat.not_le.2 lacks), fun _ => ⟨fun d lo hi => ?_, ?_, sets'⟩⟩
  · rw [extra]
    by_cases h : 20 ≤ d ∧ d < 60
    · rw [zero d h.1 h.2]
      exact Nat.zero_le _
    · rw [others d (by rw [keys]; intro m; exact h (by revert m; revert d; decide))]
      exact le d hd
  · rw [extra, zero d lo hi]
  · rw [frame, hf]

/-- Extra is withdrawn, and the ageing raise ends where even that leaves no room for its cost. -/
theorem granting_withdrawn {c w g : State} {eff short room : Nat} (le : ∀ d < 64, c.extraOf d v ≤ extraMax c v d)
    (fits : ¬ eff < protAt c v + short) (hw : w = withdraw c v room) (hroom : room ≤ eff - protAt c v - short)
    (hg : g = w ∨ g = { w with damper := { w.damper with raise := 0 } }) : Granting c g v eff short := by
  have only : OnlyGroups c v := fun d hd out => Nat.le_zero.1 ((le d hd).trans (Nat.le_of_eq (extraMax_outside c v out)))
  obtain ⟨moves, kept⟩ := withdraw_moves only room
  rw [← hw] at moves kept
  rcases hg with rfl | rfl
  · exact ⟨moves.grants, moves.most le, fun _ => by omega, fun c => absurd c fits⟩
  · refine ⟨moves.grants.trans ⟨fun _ => ⟨rfl, rfl⟩, fun _ _ => rfl, rfl, rfl⟩, fun d hd => moves.most le d hd, fun _ => ?_, fun c => absurd c fits⟩
    rw [granted_congr (s := w) (t := { w with damper := { w.damper with raise := 0 } }) fun _ => rfl]
    omega

theorem granting_rounds {c : State} {b : State × Nat} {eff short left : Nat} (le : ∀ d < 64, c.extraOf d v ≤ extraMax c v d)
    (fits : ¬ eff < protAt c v + short) (rounds : Rounds v (c, left) b) (room : granted c v + left ≤ eff - protAt c v - short) :
    Granting c ((groupOne ++ groupTwo).foldl (fun s d => s.modDom d fun x => { x with wants := 0 }) b.1) v eff short := by
  obtain ⟨forgets, same⟩ := forgets_moves (v := v) (groupOne ++ groupTwo) b.1
  refine ⟨rounds.moves.grants.trans forgets, fun d hd => by rw [same]; exact rounds.moves.most le d hd, fun _ => ?_, fun c => absurd c fits⟩
  rw [granted_congr same]
  have total := rounds.sum
  dsimp only at total
  omega

theorem damperPass_grants (s : State) : ∃ g short, Granting (passClamp (passStart s)) g (costV (passStart s)) (effBudget (passClamp (passStart s))) short ∧
    damperPass s = passRecord g (costV (passStart s)) short := by
  unfold damperPass
  extract_lets a ad start v c prot short eff e ed pool cost w wd one two g gd
  have started : start = passStart s := rfl
  have clamped : c = passClamp start := rfl
  have voltage : v = costV start := rfl
  have le : ∀ d < 64, c.extraOf d v ≤ extraMax c v d := fun d hd => by
    obtain ⟨grants, -, most⟩ := clampExtras v (List.range 64) start
    exact (most d (List.mem_range.2 hd)).trans (Nat.le_of_eq (grants.extraMax v d).symm)
  have hOne : ∀ d ∈ groupOne, d < 64 := by decide
  have hTwo : ∀ d ∈ groupTwo, d < 64 := by decide
  have first : Rounds v (c, pool - cost - granted c v) one := grantRounds_rounds hOne 64 c _
  have second : Rounds v (one.1, one.2) two := grantRounds_rounds hTwo 64 one.1 one.2
  have withdrawn : w = withdraw c v (pool - cost) := rfl
  have noExtra : e = setExtras c v ((groupOne ++ groupTwo).map fun d => (d, 0)) := rfl
  have pooled : pool = effBudget c - protAt c v - short := rfl
  clear_value two one w e pool cost
  obtain ⟨state, tokens⟩ := one
  rw [← started, ← clamped, ← voltage]
  refine ⟨g, short, ?_, rfl⟩
  by_cases lacks : eff < prot + short
  · rw [show g = _ from if_pos lacks]
    exact granting_short le lacks noExtra
  · rw [show g = _ from if_neg lacks]
    by_cases tight : pool < granted c v + cost
    · rw [if_pos tight]
      refine granting_withdrawn le lacks withdrawn (by rw [pooled]; exact Nat.sub_le ..) ?_
      split
      · exact Or.inr rfl
      · exact Or.inl rfl
    · rw [if_neg tight]
      have room : granted c v ≤ pool - cost := Nat.le_sub_of_add_le (Nat.not_lt.1 tight)
      have left : granted c v + (pool - cost - granted c v) ≤ pool := (Nat.le_of_eq (Nat.add_sub_of_le room)).trans (Nat.sub_le pool cost)
      rw [pooled] at left first
      have both := first.trans second
      exact granting_rounds le lacks both left

/-- From s to t only registers, events and counts have changed. -/
def OnlyRegs (s t : State) : Prop := t = { s with reg := t.reg, evt := t.evt, acc := t.acc }

theorem OnlyRegs.trans (h : OnlyRegs s t) (h' : OnlyRegs t u) : OnlyRegs s u := by
  unfold OnlyRegs at h h' ⊢
  rw [h', h]

theorem onlyRegs_setFld (s : State) (off lo w v : Nat) : OnlyRegs s (s.setFld off lo w v) := by
  rw [OnlyRegs, State.setFld_evt, State.setFld_acc]
  exact State.setFld_frame ..

theorem onlyRegs_count (s : State) (g i n : Nat) : OnlyRegs s (s.count g i n) := by
  unfold OnlyRegs State.count
  split <;> rfl

theorem onlyRegs_raise (s : State) (source code : Nat) (info : Word) : OnlyRegs s (s.raise source code info) := rfl

theorem onlyRegs_voteReg (s : State) (off : Nat) : OnlyRegs s (voteReg s off) := by
  unfold voteReg voteFixed
  dsimp only
  split
  · have repaired : OnlyRegs s { s with reg := { s.reg with tv := sset tvD s.reg.tv off ⟨(sget tvD s.reg.tv off).maj,
        (sget tvD s.reg.tv off).maj, (sget tvD s.reg.tv off).maj⟩ } } := rfl
    have noted := (repaired.trans (onlyRegs_setFld _ (blockAt off).statusOff 1 1 1)).trans (onlyRegs_count _ 53 4 1)
    split
    · exact noted
    · exact noted.trans (onlyRegs_raise ..)
  · rfl

theorem onlyRegs_voteBudget (s : State) : OnlyRegs s (voteBudget s) :=
  ((onlyRegs_voteReg _ _).trans (onlyRegs_voteReg _ _)).trans (onlyRegs_voteReg _ _)

/-- What the start of a pass takes (R461, R462). -/
theorem passStart_takes (s : State) : (passStart s).damper = { s.damper with
      budget := s.fld (pwrReg 0) 0 11, brake := s.fld (pwrReg 0) 16 11, braked := s.damper.pin || s.damper.hot } ∧
    passStart s = { s with damper := (passStart s).damper, reg := (passStart s).reg, evt := (passStart s).evt, acc := (passStart s).acc } := by
  have frame := onlyRegs_voteBudget s
  have budget : (voteBudget s).rd (pwrReg 0) = s.rd (pwrReg 0) := by
    have far : Untouched (pwrReg 0) := ⟨by decide, by decide⟩
    rw [voteBudget, (sends_voteReg _ _).regs _ far, (sends_voteReg _ _).regs _ far, (sends_voteReg _ _).regs _ far]
  unfold OnlyRegs at frame
  have damper : (voteBudget s).damper = s.damper := by rw [frame]
  have fld : ∀ lo w, (voteBudget s).fld (pwrReg 0) lo w = s.fld (pwrReg 0) lo w := fun lo w => by rw [State.fld, State.fld, budget]
  obtain ⟨w, hw⟩ : ∃ w, w = voteBudget s := ⟨_, rfl⟩
  rw [passStart, takeBudget, ← hw]
  rw [← hw] at frame damper fld
  dsimp only
  constructor
  · rw [fld, fld, damper]
  · rw [frame]

/-- What holds of every pass. -/
structure Passed (s t : State) : Prop where
  braked : t.damper.braked = (s.damper.pin || s.damper.hot)
  pin : t.damper.pin = s.damper.pin
  fits : protAt t (costV t) + t.damper.short ≤ effBudget t → protAt t (costV t) + granted t (costV t) + t.damper.short ≤ effBudget t
  lacks : effBudget t < protAt t (costV t) + t.damper.short →
    (∀ d, 20 ≤ d → d < 60 → t.extraOf d (costV t) = 0) ∧ t.damper.raise = 0 ∧ t.bit (pwrReg 0x18) 2 = true
  most : ∀ d < 64, t.extraOf d (costV t) ≤ extraMax t (costV t) d ∧ (t.dom d).st = (s.dom d).st ∧ (t.dom d).moving = (s.dom d).moving
  model : t.damper.model = protAt t (costV t) + granted t (costV t)
  budget : t.damper.budget = s.fld (pwrReg 0) 0 11 ∧ t.damper.brake = s.fld (pwrReg 0) 16 11
  rest : t = { s with doms := t.doms, damper := t.damper, reg := t.reg, evt := t.evt, acc := t.acc }

theorem damperPass_passed (s : State) : Passed s (damperPass s) := by
  obtain ⟨g, short, granting, goes⟩ := damperPass_grants s
  obtain ⟨damper, frame⟩ := passStart_takes s
  have clamps : Regrants (passStart s) (passClamp (passStart s)) := (clampExtras _ _ _).1
  generalize passClamp (passStart s) = c at granting clamps
  generalize passStart s = u at granting clamps goes damper frame
  obtain ⟨grants, most, fits, lacks⟩ := granting
  generalize hv : costV u = v at goes most fits lacks
  obtain ⟨t, ht⟩ : ∃ t, t = passRecord g v short := ⟨_, rfl⟩
  rw [goes, ← ht]
  have record : Regrants g t := by
    rw [ht]
    exact ⟨fun _ => ⟨rfl, rfl⟩, fun _ _ => rfl, rfl, rfl⟩
  have fromC := grants.trans record
  have fromU := clamps.trans fromC
  have extras : ∀ d, t.extraOf d v = g.extraOf d v := fun d => by rw [ht]; rfl
  have cost : costV t = v := by rw [fromU.costV, hv]
  have shorted : t.damper.short = short := by rw [ht]; rfl
  have same : granted t v = granted g v := granted_congr extras
  have kept := fromU.damper
  rw [damper] at kept
  refine ⟨by rw [kept], by rw [kept], ?_, ?_, fun d hd => ⟨?_, ?_, ?_⟩, ?_, ⟨by rw [kept], by rw [kept]⟩, ?_⟩
  · rw [cost, fromC.protAt, same, shorted, fromC.effBudget]
    exact fits
  · rw [cost, fromC.protAt, shorted, fromC.effBudget]
    intro lack
    obtain ⟨zero, noRaise, bit⟩ := lacks lack
    refine ⟨fun d lo hi => by rw [extras, zero d lo hi], ?_, ?_⟩
    · rw [ht]
      exact noRaise
    · rw [ht]
      exact bit
  · rw [cost, extras, fromC.extraMax]
    exact most d hd
  · rw [(fromU.doms d).1, frame]
    rfl
  · rw [(fromU.doms d).2, frame]
    rfl
  · rw [cost, record.protAt, same, ht]
    rfl
  · rw [fromU.rest, frame]

theorem effBudget_braked (h : s.damper.braked = true) : effBudget s ≤ max 640 s.damper.brake := by
  rw [effBudget, if_pos h]
  exact Nat.min_le_right ..

end Sys2Proof.Machine

open Sys2Proof Sys2Proof.Machine

/-- Settles O51: `damperPass_passed` for every pass; a request, a return and the balls change what they name. -/
theorem theDamperKeepsItsBudget : Obligations.TheDamperKeepsItsBudget := by
  refine ⟨fun s => ⟨fun released => ?_, fun held => ?_⟩, fun s d hd => ⟨fun lit extra => ?_, ?_⟩, fun s n => ⟨fun short => ?_, fun long held => ?_,
    fun long released => ?_⟩, fun s => rfl⟩
  · have passed := damperPass_passed s
    exact ⟨_, congrArg Host.Outcome.next (if_pos released), ⟨by rw [passed.braked, passed.pin], passed.fits, passed.lacks, passed.most, passed.model,
      passed.budget⟩, passed.pin, passed.rest⟩
  · exact congrArg Host.Outcome.next (if_neg (by rw [held]; exact Bool.false_ne_true))
  · have asks : (s.domLit d && (consumer s d).2 != 0) = true := by rw [lit, Bool.true_and]; exact bne_iff_ne.2 extra
    refine ⟨s.modDom d fun x => { x with wants := extraMax s (costV s) d },
      (if_pos hd).trans (congrArg Host.Outcome.next (if_pos asks)), ?_, fun e he => ?_, rfl⟩
    · rw [State.dom_modDom, if_pos rfl]
    · rw [State.dom_modDom, if_neg he]
  · refine ⟨s.modDom d fun x => { x with extra := 0, wants := 0 }, if_pos hd, ?_, fun e he => ?_, rfl⟩
    · rw [State.dom_modDom, if_pos rfl]
    · rw [State.dom_modDom, if_neg he]
  · exact congrArg Host.Outcome.next (if_pos short)
  · refine congrArg Host.Outcome.next ((if_neg (Nat.not_lt.2 long)).trans ?_)
    exact if_neg (by rw [held]; exact Bool.false_ne_true)
  · obtain ⟨u, hu⟩ : ∃ u, u = { s with pins := { s.pins with brakeN := false }, damper := { s.damper with pin := true } } := ⟨_, rfl⟩
    have goes : exec (.pwrBrakeAssert n) s = .next (damperPass u) := by
      have brake : brakeOn { s with pins := { s.pins with brakeN := false } } = damperPass u := by rw [hu, brakeOn]
      rw [← brake]
      exact congrArg Host.Outcome.next ((if_neg (Nat.not_lt.2 long)).trans (if_pos released))
    have passed := damperPass_passed u
    generalize damperPass u = t at goes passed
    have pin : t.damper.pin = true := by rw [passed.pin, hu]
    have hot : u.damper.hot = s.damper.hot := by rw [hu]
    have fld : ∀ lo w, u.fld (pwrReg 0) lo w = s.fld (pwrReg 0) lo w := fun lo w => by rw [hu]; rfl
    have braked : t.damper.braked = (t.damper.pin || s.damper.hot) := by rw [passed.braked, passed.pin, hot]
    have budget := passed.budget
    rw [fld, fld] at budget
    have doms : u.dom = s.dom := by
      rw [hu]
      rfl
    have pins : t.pins = { s.pins with brakeN := false } := (congrArg State.pins passed.rest).trans (by rw [hu])
    refine ⟨t, goes, ⟨braked, passed.fits, passed.lacks, fun d hd => ?_, passed.model, budget⟩, pin, pins, ?_, ?_⟩
    · obtain ⟨most, st, moving⟩ := passed.most d hd
      rw [doms] at st moving
      exact ⟨most, st, moving⟩
    · rw [← budget.2]
      exact effBudget_braked (by rw [braked, pin]; rfl)
    · exact passed.rest.trans (by rw [pins, hu])
end

section
/-! PROOF. The fatal state: what is sent and what stops when the device enters it (R420, R431, R437). -/
namespace Sys2Proof.Machine
open Config

variable {s t u : State} {n k : BitVec 48}

/-! ## What the way into the fatal state leaves alone -/

/-- A register that neither the sequencer, nor a message on its way, nor a purge writes. -/
def Lasting (x : Nat) : Prop := x % 0x10000 ≠ 0xFFF8 ∧ x ≠ evtReg 0x10 ∧ x ≠ evtReg 0x14 ∧ x ≠ evtReg 0x20 ∧ x ≠ efifoReg 0x10 ∧
  x / 0x10000 ≠ dirReg 0 / 0x10000

/-- A port that is in neither of its two stopped states may be in any; one that is stays stopped. -/
def Halted (x : Port) : Prop := x.st = .quiesce ∨ x.st = .disabled

/-- From s to t the device has numbered n events and sent or dropped messages; no port has started again. -/
structure Stops (n : BitVec 48) (s t : State) : Prop where
  regs : ∀ x, Lasting x → t.rd x = s.rd x
  bits : ∀ i < 32, s.bit (evtReg 0x20) i = true → t.bit (evtReg 0x20) i = true
  seq : t.evt.seq = s.evt.seq + n
  ready : t.pins.ready = s.pins.ready
  ports : ∀ q, Halted (s.port q) → Halted (t.port q)
  rest : t = { s with pins := t.pins, reg := t.reg, evt := t.evt, ports := t.ports, purge := t.purge, spine := t.spine, tel := t.tel,
                      acc := t.acc }

theorem Stops.refl (s : State) : Stops 0 s s := ⟨fun _ _ => rfl, fun _ _ h => h, (add_zero _).symm, rfl, fun _ h => h, rfl⟩

theorem Stops.trans (h : Stops n s t) (h' : Stops k t u) : Stops (n + k) s u where
  regs x hx := (h'.regs x hx).trans (h.regs x hx)
  bits i hi set := h'.bits i hi (h.bits i hi set)
  seq := by rw [h'.seq, h.seq, add_assoc]
  ready := h'.ready.trans h.ready
  ports q halted := h'.ports q (h.ports q halted)
  rest := by rw [h'.rest, h.rest]

/-- A step that numbers no event, after one or before one. -/
theorem Stops.then (h : Stops n s t) (h' : Stops 0 t u) : Stops n s u := add_zero n ▸ h.trans h'
theorem Stops.after (h' : Stops n t u) (h : Stops 0 s t) : Stops n s u := zero_add n ▸ h.trans h'

theorem Stops.bit (h : Stops n s t) {x : Nat} (hx : Lasting x) (i : Nat) : t.bit x i = s.bit x i := by
  rw [State.bit, State.bit, h.regs x hx]

theorem Stops.boot (h : Stops n s t) : t.boot = s.boot := by rw [h.rest]

/-- Which ports are there is read from the fuses and the mode (R6). -/
theorem portPresent_congr (boot : t.boot = s.boot) (mode : t.rd 8 = s.rd 8) (q : Nat) : t.portPresent q = s.portPresent q := by
  have compat : t.compat = s.compat := congrArg (·.getLsbD 0) mode
  rw [State.portPresent, State.portPresent, State.devId, State.devId, boot, compat]

theorem Stops.portPresent (h : Stops n s t) (q : Nat) : t.portPresent q = s.portPresent q :=
  portPresent_congr h.boot (h.regs 8 ⟨by decide, by decide, by decide, by decide, by decide, by decide⟩) q

theorem Stops.portsList (h : Stops n s t) : t.portsList = s.portsList := List.filter_congr fun q _ => h.portPresent q

theorem stops_foldl {α : Type} {f : State → α → State} (step : ∀ s a, s.boot.fatal = true → Stops 0 s (f s a)) (l : List α) :
    ∀ s, s.boot.fatal = true → Stops 0 s (l.foldl f s) := by
  induction l with
  | nil => exact fun s _ => .refl s
  | cons a l ih => exact fun s fatal => (step s a fatal).then (ih _ ((step s a fatal).boot ▸ fatal))

theorem stops_members {α : Type} {f : State → α → State} {l : List α} (step : ∀ s, ∀ a ∈ l, Stops 0 s (f s a)) (s : State) :
    Stops 0 s (l.foldl f s) := by
  induction l generalizing s with
  | nil => exact .refl s
  | cons a l ih => exact (step s a List.mem_cons_self).then (ih (fun s b hb => step s b (List.mem_cons_of_mem a hb)) _)

theorem stops_each {α : Type} {f : State → α → State} (step : ∀ s a, Stops 0 s (f s a)) (l : List α) (s : State) : Stops 0 s (l.foldl f s) :=
  stops_members (fun s a _ => step s a) s

/-! ## Registers, counters and what the blotter follows -/

theorem stops_setFld (s : State) {off : Nat} (lo w v : Nat) (free : ¬ Lasting off) (ne : off ≠ evtReg 0x20) : Stops 0 s (s.setFld off lo w v) where
  regs x hx := State.rd_setFld_other _ _ _ _ fun e => free (e ▸ hx)
  bits i _ set := by
    rw [State.bit, State.rd_setFld_other _ _ _ _ ne.symm]
    exact set
  seq := by rw [State.setFld_evt, add_zero]
  ready := by rw [State.setFld_pins]
  ports q h := by rwa [State.port_setFld]
  rest := by rw [State.setFld_frame]

theorem stops_count (s : State) (g i m : Nat) : Stops 0 s (s.count g i m) where
  regs x _ := State.rd_count ..
  bits i _ set := by
    rw [State.bit, State.rd_count]
    exact set
  seq := by rw [State.count_evt, add_zero]
  ready := by rw [State.count_pins]
  ports q h := by rwa [State.port_count]
  rest := by rw [State.count_frame]

theorem stops_raise (s : State) (a c : Nat) (w : Word) : Stops 0 s (s.raise a c w) :=
  ⟨fun _ _ => rfl, fun _ _ h => h, (add_zero _).symm, rfl, fun _ h => h, rfl⟩

theorem stops_blot (s : State) (b : Blotter) : Stops 0 s { s with tel := { s.tel with blot := b } } :=
  ⟨fun _ _ => rfl, fun _ _ h => h, (add_zero _).symm, rfl, fun _ h => h, rfl⟩

/-- An error of the device itself only sets its bit (R420). -/
theorem stops_deviceErr (s : State) {i : Nat} (hi : i < 32) (w : Word) : Stops 0 s (s.setErr (evtReg 0x20) i 3 w) where
  regs x hx := (setErr_frame s _ _ _ _).2 x hx.2.2.2.1
  bits j hj set := by
    unfold State.setErr
    split
    · exact set
    · rw [State.bit, State.rd_raise, ← State.bit, State.bit_setFld s _ _ _ _ hj]
      split
      · rename_i h
        obtain rfl : j = i := by omega
        rw [Nat.sub_self]
        rfl
      · exact set
  seq := by
    unfold State.setErr
    split
    · exact (add_zero _).symm
    · rw [State.raise, State.setFld_evt, add_zero]
  ready := by rw [(setErr_frame s _ _ _ _).1]
  ports q h := by
    have same : (s.setErr (evtReg 0x20) i 3 w).port q = s.port q := by
      rw [State.port, (setErr_frame s _ _ _ _).1]
      rfl
    rwa [same]
  rest := by rw [(setErr_frame s _ _ _ _).1]

theorem stops_voteFixed (s : State) (off : Nat) : Stops 0 s (voteFixed s off) := by
  have status : (blockAt off).statusOff % 0x10000 = 0xFFF8 := statusOff_mod _
  have marked := (stops_setFld s 1 1 1 (fun h => h.1 status) fun e => absurd (e ▸ status) (by decide)).then (stops_count _ 53 4 1)
  unfold voteFixed
  dsimp only
  split
  · exact marked
  · exact marked.then (stops_raise ..)

/-- A vote writes back what the register reads (R70). -/
theorem State.rd_revote (s : State) (off x : Nat) {v : Triple} (maj : v.maj = (sget tvD s.reg.tv off).maj) :
    ({ s with reg := { s.reg with tv := sset tvD s.reg.tv off v } } : State).rd x = s.rd x := by
  simp only [State.rd]
  split
  · by_cases hx : x = off
    · subst hx
      rw [sget_sset_same, maj]
    · rw [sget_sset_other _ _ _ hx]
  · rfl

theorem stops_voteReg (s : State) (off : Nat) : Stops 0 s (voteReg s off) := by
  unfold voteReg
  dsimp only
  split
  · refine Stops.then (t := { s with reg := { s.reg with tv := sset tvD s.reg.tv off _ } }) ?_ (stops_voteFixed ..)
    refine ⟨fun x _ => State.rd_revote s off x (Triple.maj_same _), fun i _ set => ?_, (add_zero _).symm, rfl, fun _ h => h, rfl⟩
    rw [State.bit, State.rd_revote _ _ _ (Triple.maj_same _)]
    exact set
  · exact .refl s

theorem stops_voteDevice (s : State) (d : Nat) : Stops 0 s (voteDevice s d) := by
  unfold voteDevice
  split
  · exact .refl s
  · unfold voteRoute
    exact stops_each (fun _ _ => stops_voteReg ..) _ s

/-! ## Ports -/

theorem stops_modPort (s : State) (p : Nat) {f : Port → Port} (keeps : Halted (s.port p) → Halted (f (s.port p))) : Stops 0 s (s.modPort p f) where
  regs _ _ := rfl
  bits _ _ set := set
  seq := (add_zero _).symm
  ready := rfl
  ports q h := by
    by_cases hq : q = p
    · subst hq
      rw [State.port_modPort_same]
      exact keeps h
    · rwa [State.port_modPort_other s f hq]
  rest := rfl

theorem stops_enqueue (s : State) (p : Nat) (m : Msg) : Stops 0 s (s.enqueue p m) := stops_modPort s p id

theorem stops_putWire (s : State) (p : Nat) (hdr : Word) (area : List Word) : Stops 0 s (putWire s p hdr area) := by
  refine stops_modPort s p fun h => ?_
  split <;> exact h

theorem stops_sendIdle (s : State) (p : Nat) : Stops 0 s (sendIdle s p) := (stops_putWire ..).then (stops_modPort _ _ id)

theorem stops_idleIfDue (s : State) (p : Nat) : Stops 0 s (idleIfDue s p) := by
  unfold idleIfDue
  split
  · exact stops_sendIdle ..
  · exact .refl s

theorem stops_blotLeave (s : State) (m : Msg) : Stops 0 s (s.blotLeave m) := by
  rw [(blotLeave_tel s m).1]
  exact stops_blot ..

theorem stops_sendPayload (s : State) (p : Nat) : Stops 0 s (sendPayload s p) := by
  unfold sendPayload
  extract_lets u x r c area f am v w
  have sent : Stops 0 s w := ((stops_idleIfDue s p).then (stops_putWire ..)).then (stops_modPort _ _ id)
  exact (sent.then ((stops_count ..).then (stops_count ..))).then (stops_each (fun _ _ => stops_blotLeave ..) _ _)

theorem stops_sendNew (s : State) (p : Nat) : Stops 0 s (sendNew s p) := by
  unfold sendNew
  dsimp only
  split
  · exact stops_sendPayload ..
  · exact stops_sendIdle ..

/-! ## Messages of a device in the fatal state (R431) -/

theorem stops_blotLose (s : State) (p : Follow → Bool) : Stops 0 s (s.blotLose p) := stops_blot ..

theorem stops_blotLost (s : State) (m : Msg) : Stops 0 s (s.blotLost m) := by
  unfold State.blotLost
  split
  · exact stops_blotLose ..
  · exact .refl s

theorem stops_blotRefuse (s : State) (m : Msg) : Stops 0 s (s.blotRefuse m) := by
  unfold State.blotRefuse
  split
  · exact stops_blot ..
  · exact .refl s

theorem stops_discard (s : State) (p : Nat) (m : Msg) : Stops 0 s (s.discard p m) := (stops_blotLost s m).then (stops_deviceErr _ (by decide) _)

/-- Nothing waits for a domain to wake. -/
theorem stops_depart (fatal : s.boot.fatal = true) (p : Nat) (m : Msg) : Stops 0 s (s.depart p m) := by
  unfold State.depart
  rw [fatal, Bool.not_true, Bool.and_false, Bool.false_and, if_neg Bool.false_ne_true]
  exact stops_enqueue ..

theorem stops_sendPlain (fatal : s.boot.fatal = true) (m : Msg) : Stops 0 s (s.sendPlain m) := by
  unfold State.sendPlain
  have noted := stops_blotRefuse s m
  generalize s.blotRefuse m = u at noted ⊢
  dsimp only
  split
  · exact noted.then ⟨fun _ _ => rfl, fun _ _ h => h, (add_zero _).symm, rfl, fun _ h => h, rfl⟩
  · have voted := noted.then (stops_voteDevice u m.dst.dev)
    generalize voteDevice u m.dst.dev = v at voted
    refine voted.then ?_
    split
    · split
      · exact stops_depart (voted.boot ▸ fatal) ..
      · exact stops_discard ..
    · exact stops_discard ..

theorem stops_purgeNotices (fatal : s.boot.fatal = true) (mask : Nat) : Stops 0 s (purgeNotices s mask) := by
  unfold purgeNotices
  split
  · exact .refl s
  · refine stops_foldl (fun s d fatal => ?_) _ s fatal
    split
    · exact stops_sendPlain fatal _
    · exact .refl s

theorem stops_msgLost (s : State) : Stops 0 s (msgLost s) :=
  (stops_setFld s 0 1 1 (fun h => h.2.1 rfl) (by decide)).then (stops_count ..)

theorem stops_eventMsgSend (fatal : s.boot.fatal = true) : Stops 0 s (eventMsgSend s) := by
  unfold eventMsgSend
  split
  · exact .refl s
  · rename_i m _
    have taken : Stops 0 s { s with evt := { s.evt with msgq := eraseFirst (evtMayGo s) s.evt.msgq } } :=
      ⟨fun _ _ => rfl, fun _ _ h => h, (add_zero _).symm, rfl, fun _ h => h, rfl⟩
    generalize ({ s with evt := { s.evt with msgq := eraseFirst (evtMayGo s) s.evt.msgq } } : State) = v at taken ⊢
    refine taken.then ?_
    dsimp only
    split
    · split
      · exact (stops_depart (taken.boot ▸ fatal) ..).then (stops_count ..)
      · exact stops_msgLost v
    · exact stops_msgLost v

theorem stops_repeatN {f : State → State} (step : ∀ s, s.boot.fatal = true → Stops 0 s (f s)) (n : Nat) :
    ∀ s, s.boot.fatal = true → Stops 0 s (repeatN f n s) := by
  induction n with
  | zero => exact fun s _ => .refl s
  | succ n ih => exact fun s fatal => (step s fatal).then (ih _ ((step s fatal).boot ▸ fatal))

theorem stops_flushOut (fatal : s.boot.fatal = true) : Stops 0 s (flushOut s) := by
  unfold flushOut
  have sent := stops_repeatN (fun s => stops_eventMsgSend) s.evt.msgq.length s fatal
  generalize repeatN eventMsgSend s.evt.msgq.length s = u at sent ⊢
  refine sent.then (stops_foldl (fun s p fatal => ?_) _ u (sent.boot ▸ fatal))
  split
  · refine stops_repeatN (fun s _ => ?_) _ s fatal
    split
    · exact .refl s
    · exact stops_sendNew ..
  · exact .refl s

/-! ## Ports that stop (R431 steps 2 and 4) -/

theorem stops_wrDirectory (s : State) {rel : Nat} (h : rel < 0x10000) (v : Word) : Stops 0 s (s.wr (dirReg rel) v) where
  regs x out := State.rd_wr_other s v fun e => out.2.2.2.2.2 (by rw [e]; unfold dirReg; omega)
  bits i _ set := by
    rw [State.bit, State.rd_wr_other s v (by unfold evtReg dirReg; omega)]
    exact set
  seq := by rw [State.wr_evt, add_zero]
  ready := by rw [State.wr_pins]
  ports q h := by rwa [State.port_wr]
  rest := by rw [State.wr_frame]

theorem stops_claim (s : State) (c : Claim) : Stops 0 s { s with reg := { s.reg with claim := c } } :=
  ⟨fun _ _ => rfl, fun _ _ h => h, (add_zero _).symm, rfl, fun _ h => h, rfl⟩

theorem stops_purgeSet (s : State) {d : Nat} (hd : d < 16) (mask : Nat) : Stops 0 s (purgeSet s d mask) := by
  unfold purgeSet
  split
  · exact .refl s
  · extract_lets a b c e
    have marked : Stops 0 s a := ⟨fun _ _ => rfl, fun _ _ h => h, (add_zero _).symm, rfl, fun _ h => h, rfl⟩
    have counted : Stops 0 s e :=
      ((marked.then (stops_wrDirectory a (by omega) _)).then (stops_wrDirectory b (by omega) _)).then (stops_count ..)
    split
    · split
      · exact counted.then (stops_claim ..)
      · exact counted
    · exact counted

theorem stops_releaseClaim (s : State) (p : Nat) : Stops 0 s (releaseClaim s p) := by
  unfold releaseClaim
  split
  · split
    · exact stops_claim ..
    · split
      · exact stops_claim ..
      · exact .refl s
  · exact .refl s

/-- A port that is neither disabled nor quiescing is emptied and quiesces. -/
theorem fatalPort_halts (s : State) (p : Nat) : Stops 0 s (fatalPort s p) ∧ Halted ((fatalPort s p).port p) := by
  unfold fatalPort
  split
  · rename_i halted
    exact ⟨.refl s, halted.symm⟩
  · extract_lets lost a b
    have cleared : Stops 0 s (s.modPort p fun x => { portCleared x with st := .quiesce }) := stops_modPort s p fun _ => .inl rfl
    have halted : Halted ((s.modPort p fun x => { portCleared x with st := .quiesce }).port p) := by
      rw [State.port_modPort_same]
      exact .inl rfl
    have forgot : Stops 0 (s.modPort p fun x => { portCleared x with st := .quiesce }) b :=
      (stops_each (fun _ _ => stops_blotLost ..) lost _).then (stops_blotLose ..)
    have purged : Stops 0 b ((agentsBehind b p).foldl (fun s dm => purgeSet s dm.1 dm.2) b) :=
      stops_members (fun s e he => stops_purgeSet s (agentsBehind_devices b p e he) e.2) b
    have all := (forgot.then purged).then (stops_releaseClaim _ p)
    exact ⟨cleared.then all, all.ports p halted⟩

theorem fatalPorts_halt (l : List Nat) : ∀ s, Stops 0 s (l.foldl fatalPort s) ∧ ∀ p ∈ l, Halted ((l.foldl fatalPort s).port p) := by
  induction l with
  | nil => exact fun s => ⟨.refl s, fun _ h => absurd h List.not_mem_nil⟩
  | cons p l ih =>
    intro s
    obtain ⟨one, halted⟩ := fatalPort_halts s p
    obtain ⟨rest, others⟩ := ih (fatalPort s p)
    refine ⟨one.then rest, fun q hq => ?_⟩
    obtain rfl | hq := List.mem_cons.1 hq
    · exact rest.ports q halted
    · exact others q hq

/-! ## The way into the fatal state (R431) -/

theorem stops_alertPin (s : State) : Stops 0 s (alertPin s) :=
  ⟨fun _ _ => rfl, fun _ _ h => h, (add_zero _).symm, rfl, fun _ h => h, rfl⟩

theorem stops_evt (s : State) (e : EvtState) (same : e.seq = s.evt.seq) : Stops 0 s { s with evt := e } :=
  ⟨fun _ _ => rfl, fun _ _ h => h, by rw [same, add_zero], rfl, fun _ h => h, rfl⟩

theorem stops_toFifo (s : State) (r : Nat) (ws : List DWord) : Stops 0 s (toFifo s r ws) := by
  unfold toFifo
  split
  · split
    · exact stops_evt s _ rfl
    · exact (stops_setFld s 0 1 1 (fun h => h.2.2.2.2.1 rfl) (by decide)).then (stops_count ..)
  · exact .refl s

theorem stops_toQueue (s : State) (r : Nat) (m : Msg) : Stops 0 s (toQueue s r m) := by
  unfold toQueue
  split
  · split
    · exact stops_msgLost s
    · exact stops_evt s _ rfl
  · exact .refl s

theorem stops_toAlert (s : State) (r : Nat) : Stops 0 s (toAlert s r) := by
  unfold toAlert
  split
  · exact (stops_setFld s 0 1 1 (fun h => h.2.2.1 rfl) (by decide)).then (stops_alertPin ..)
  · exact .refl s

/-- An event takes one number (R410). -/
theorem sequenceEvent_numbers (s : State) (e : Event) : Stops 1 s (sequenceEvent s e) := by
  have numbered : Stops 1 s { s with evt := { s.evt with seq := s.evt.seq + 1 } } :=
    ⟨fun _ _ => rfl, fun _ _ h => h, rfl, rfl, fun _ h => h, rfl⟩
  have routed : sequenceEvent s e = toAlert (toQueue (toFifo ({ s with evt := { s.evt with seq := s.evt.seq + 1 } }.count 53 0 1) _ _) _ _) _ := rfl
  rw [routed]
  exact (((numbered.then (stops_count ..)).then (stops_toFifo ..)).then (stops_toQueue ..)).then (stops_toAlert ..)

/-- The device enters the fatal state: what it records of the event, and what stops. -/
structure Fatal (s t : State) (source code : Nat) : Prop where
  boot : t.boot = { s.boot with fatal := true }
  ready : t.pins.ready = false
  bits : ∀ i < 32, s.bit (evtReg 0x20) i = true ∨ i = 0 → t.bit (evtReg 0x20) i = true
  cause : t.rd (evtReg 0x24) = w32 (source % 256 + 2 ^ 8 * (code % 128) + 2 ^ 31)
  number : t.rd (evtReg 0x28) = w32 s.evt.seq.toNat ∧ t.rd (evtReg 0x2C) = w32 (s.evt.seq.toNat / 2 ^ 32)
  next : t.evt.seq = s.evt.seq + 2
  ports : ∀ p, s.portPresent p = true → Halted (t.port p)
  regs : ∀ x, Lasting x → x ≠ evtReg 0x24 → x ≠ evtReg 0x28 → x ≠ evtReg 0x2C → t.rd x = s.rd x
  rest : t = { s with boot := t.boot, pins := t.pins, reg := t.reg, evt := t.evt, ports := t.ports, purge := t.purge, spine := t.spine,
                      tel := t.tel, acc := t.acc }

/-- What the event leaves in EVT_FATAL and its three registers (R431 step 1). -/
def recordFatal (s : State) (seq : BitVec 48) (source code : Nat) : State :=
  (((s.setFld (evtReg 0x20) 0 1 1).wr (evtReg 0x24) (w32 (source % 256 + 2 ^ 8 * (code % 128) + 2 ^ 31))).wr (evtReg 0x28)
    (w32 seq.toNat)).wr (evtReg 0x2C) (w32 (seq.toNat / 2 ^ 32))

theorem onlyReg_trans (h : t = { s with reg := t.reg }) (h' : u = { t with reg := u.reg }) : u = { s with reg := u.reg } := by rw [h', h]

theorem recordFatal_frame (s : State) (seq : BitVec 48) (source code : Nat) : recordFatal s seq source code =
    { s with reg := (recordFatal s seq source code).reg } :=
  onlyReg_trans (onlyReg_trans (onlyReg_trans (State.wr_frame ..) (State.wr_frame ..)) (State.wr_frame ..)) (State.wr_frame ..)

theorem recordFatal_rd (s : State) (seq : BitVec 48) (source code : Nat) {x : Nat} (h : x ≠ evtReg 0x20) (h24 : x ≠ evtReg 0x24)
    (h28 : x ≠ evtReg 0x28) (h2C : x ≠ evtReg 0x2C) : (recordFatal s seq source code).rd x = s.rd x := by
  rw [recordFatal, State.rd_wr_other _ _ h2C, State.rd_wr_other _ _ h28, State.rd_wr_other _ _ h24, State.rd_setFld_other _ _ _ _ h]

theorem recordFatal_bits (s : State) (seq : BitVec 48) (source code : Nat) {i : Nat} (hi : i < 32) (set : s.bit (evtReg 0x20) i = true ∨ i = 0) :
    (recordFatal s seq source code).bit (evtReg 0x20) i = true := by
  rw [State.bit, recordFatal, State.rd_wr_other _ _ (by decide), State.rd_wr_other _ _ (by decide), State.rd_wr_other _ _ (by decide), ← State.bit,
    State.bit_setFld s _ _ _ _ hi]
  split
  · rename_i h
    obtain rfl : i = 0 := by omega
    rfl
  · rename_i h
    exact set.resolve_right fun e => h (by omega)

theorem recordFatal_portPresent (s : State) (seq : BitVec 48) (source code p : Nat) : (recordFatal s seq source code).portPresent p = s.portPresent p :=
  portPresent_congr (by rw [recordFatal_frame]) (recordFatal_rd s seq source code (by decide) (by decide) (by decide) (by decide)) p

/-- The device is fatal from here on: READY is low. -/
def fatalNow (s : State) : State := { s with boot := { s.boot with fatal := true }, pins := { s.pins with ready := false } }

/-- What is queued leaves, purge notices go out, and the ports stop (R431 steps 2 to 4). -/
def stopping (s : State) : State :=
  (flushOut (purgeNotices s (hostMask s))).portsList.foldl fatalPort (flushOut (purgeNotices s (hostMask s)))

theorem stopping_stops (fatal : s.boot.fatal = true) : Stops 0 s (stopping s) ∧ ∀ p, s.portPresent p = true → Halted ((stopping s).port p) := by
  unfold stopping
  have noticed := stops_purgeNotices fatal (hostMask s)
  generalize purgeNotices s (hostMask s) = v at noticed ⊢
  have flushed := noticed.then (stops_flushOut (noticed.boot ▸ fatal))
  generalize flushOut v = w at flushed ⊢
  obtain ⟨stopped, halted⟩ := fatalPorts_halt w.portsList w
  refine ⟨flushed.then stopped, fun p present => halted p (List.mem_filter.2 ⟨List.mem_range.2 ?_, ?_⟩)⟩
  · unfold State.portPresent at present
    exact of_decide_eq_true (Bool.and_eq_true_iff.1 present).1
  · rw [flushed.portPresent]
    exact present

theorem enterFatal_fatal (alive : s.boot.fatal = false) (source code : Nat) (info : Word) : Fatal s (enterFatal s source code info) source code := by
  have steps : enterFatal s source code info = stopping (fatalNow (sequenceEvent (recordFatal (sequenceEvent s ⟨source, code, info⟩)
      s.evt.seq source code) ⟨3, 0x10, 0⟩)) := if_neg (by rw [alive]; exact Bool.false_ne_true)
  rw [steps]
  have first := sequenceEvent_numbers s ⟨source, code, info⟩
  generalize sequenceEvent s ⟨source, code, info⟩ = a at first ⊢
  have record := recordFatal_frame a s.evt.seq source code
  have second := sequenceEvent_numbers (recordFatal a s.evt.seq source code) ⟨3, 0x10, 0⟩
  generalize sequenceEvent (recordFatal a s.evt.seq source code) ⟨3, 0x10, 0⟩ = c at second ⊢
  obtain ⟨stopped, halted⟩ := stopping_stops (s := fatalNow c) rfl
  generalize stopping (fatalNow c) = t at stopped halted ⊢
  have bits : ∀ i < 32, s.bit (evtReg 0x20) i = true ∨ i = 0 → t.bit (evtReg 0x20) i = true := fun i hi set =>
    stopped.bits i hi (second.bits i hi (recordFatal_bits a _ _ _ hi (set.imp_left (first.bits i hi))))
  have recorded : ∀ x, Lasting x → t.rd x = (recordFatal a s.evt.seq source code).rd x := fun x hx =>
    (stopped.regs x hx).trans (second.regs x hx)
  have l24 : Lasting (evtReg 0x24) := ⟨by decide, by decide, by decide, by decide, by decide, by decide⟩
  have l28 : Lasting (evtReg 0x28) := ⟨by decide, by decide, by decide, by decide, by decide, by decide⟩
  have l2C : Lasting (evtReg 0x2C) := ⟨by decide, by decide, by decide, by decide, by decide, by decide⟩
  refine ⟨?_, stopped.ready, bits, ?_, ⟨?_, ?_⟩, ?_, fun p present => ?_, fun x hx h24 h28 h2C => ?_, ?_⟩
  · rw [stopped.boot, fatalNow, second.boot, record, first.boot]
  · rw [recorded _ l24, recordFatal, State.rd_wr_other _ _ (by decide), State.rd_wr_other _ _ (by decide), State.rd_wr_same]
  · rw [recorded _ l28, recordFatal, State.rd_wr_other _ _ (by decide), State.rd_wr_same]
  · rw [recorded _ l2C, recordFatal, State.rd_wr_same]
  · rw [stopped.seq, add_zero, fatalNow, second.seq, record, first.seq, add_assoc]
    rfl
  · refine halted p ?_
    rw [← present, ← first.portPresent, ← recordFatal_portPresent a s.evt.seq source code, ← second.portPresent]
    rfl
  · rw [recorded x hx, recordFatal_rd _ _ _ _ hx.2.2.2.1 h24 h28 h2C, first.regs x hx]
  · rw [stopped.rest, fatalNow, second.rest, record, first.rest]

/-- A fatal error of a unit sets its bit and enters the fatal state (R420, R431). -/
theorem fatalErr_enters (alive : s.boot.fatal = false) (off i source : Nat) (info : Word) :
    Fatal (s.setFld off i 1 1) (fatalErr s off i source info) source (0x10 + i) := by
  unfold fatalErr
  rw [if_neg (by rw [alive]; exact Bool.false_ne_true)]
  refine enterFatal_fatal ?_ ..
  rw [State.setFld_boot]
  exact alive

/-- The states of a device that has entered the fatal state for the error of bit i of register off. -/
theorem Fatal.entered {off i source code : Nat} (h : Fatal (s.setFld off i 1 1) t source (0x10 + i)) (hi : i < 16) (hs : source < 256)
    (hc : code = 0x10 + i) (at_ : off = evtReg 0x20 ∨ Lasting off ∧ off ≠ evtReg 0x24 ∧ off ≠ evtReg 0x28 ∧ off ≠ evtReg 0x2C) (sys : off ≠ 8) :
    FatalEntered s t off i source code := by
  subst hc
  have set : (s.setFld off i 1 1).bit off i = true := by
    rw [State.bit_setFld s _ _ _ _ (by omega), if_pos ⟨Nat.le_refl i, Nat.lt_succ_self i⟩, Nat.sub_self]
    rfl
  refine ⟨?_, h.ready, ⟨?_, h.bits 0 (by decide) (.inr rfl)⟩, ?_, ?_, ?_, fun p present => ?_⟩
  · rw [h.boot, State.setFld_boot]
  · obtain rfl | ⟨lasting, h24, h28, h2C⟩ := at_
    · exact h.bits i (by omega) (.inl set)
    · rw [State.bit, h.regs off lasting h24 h28 h2C]
      exact set
  · rw [h.cause, Nat.mod_eq_of_lt hs, Nat.mod_eq_of_lt (by omega : 0x10 + i < 128)]
  · have number := h.number
    rwa [State.setFld_evt] at number
  · rw [h.next, State.setFld_evt]
  · refine (h.ports p ?_).imp_right .inl
    rwa [portPresent_congr (State.setFld_boot ..) (State.rd_setFld_other s _ _ _ sys.symm)]

/-! ## Power removal after a thermal trip (R431 step 5) -/

/-- From s to t units have lost their power: registers, events, memory and fuses are as they were, and no port carries traffic
that did not before. -/
structure Chills (s t : State) : Prop where
  ports : ∀ q, Halted (s.port q) ∨ (s.port q).st = .down → Halted (t.port q) ∨ (t.port q).st = .down
  rest : t = { s with ports := t.ports, slices := t.slices, resv := t.resv, cores := t.cores, clusters := t.clusters,
                      pcs := t.pcs, inks := t.inks, engines := t.engines, tel := t.tel }

theorem Chills.refl (s : State) : Chills s s := ⟨fun _ h => h, rfl⟩
theorem Chills.trans (h : Chills s t) (h' : Chills t u) : Chills s u := ⟨fun q stopped => h'.ports q (h.ports q stopped), by rw [h'.rest, h.rest]⟩

theorem chills_foldl {α : Type} {f : State → α → State} (step : ∀ s a, Chills s (f s a)) (l : List α) (s : State) : Chills s (l.foldl f s) := by
  induction l generalizing s with
  | nil => exact .refl s
  | cons a l ih => exact (step s a).trans (ih _)

theorem chills_dropResvSlice (s : State) (i : Nat) : Chills s (dropResvSlice s i) := by
  have cores : Chills s (s.cores.foldl (fun t e => match e.2.resv with
      | some line => if s.sliceOf (line % 2 ^ 32) = i then t.modCore e.1 fun x => { x with resv := none } else t
      | none => t) s) := by
    refine chills_foldl (fun t e => ?_) _ s
    split
    · split
      · exact ⟨fun _ h => h, rfl⟩
      · exact .refl t
    · exact .refl t
  exact cores.trans ⟨fun _ h => h, rfl⟩

theorem chills_modSlice (s : State) (i : Nat) (f : Slice → Slice) : Chills s (s.modSlice i f) := ⟨fun _ h => h, rfl⟩
theorem chills_modPc (s : State) (p : Nat) (f : Pc → Pc) : Chills s (s.modPc p f) := ⟨fun _ h => h, rfl⟩
theorem chills_modCore (s : State) (j : Nat) (f : Core → Core) : Chills s (s.modCore j f) := ⟨fun _ h => h, rfl⟩

theorem coldLoss_chills (s : State) (d : Nat) : Chills s (coldLoss s d) := by
  unfold coldLoss
  split
  · exact .refl s
  split
  · refine ⟨fun q h => ?_, rfl⟩
    by_cases hq : q = d - 4
    · subst hq
      rw [State.port_modPort_same]
      exact .inr rfl
    · rwa [State.port_modPort_other s _ hq]
  split
  · exact (chills_dropResvSlice s (d - 20)).trans (chills_modSlice ..)
  split
  · exact chills_foldl (fun _ _ => chills_modPc ..) _ s
  split
  · have dropped : Chills s ({ s with resv := s.resv.filter fun e => e.1 / 8 != d - 44 }.modCluster (d - 44) fun x =>
        { clusterD 0 with tags := x.tags, tagCtr := x.tagCtr }) := ⟨fun _ h => h, rfl⟩
    exact dropped.trans (chills_foldl (fun _ _ => chills_modCore ..) _ _)
  split
  · exact ⟨fun _ h => h, rfl⟩
  split
  · exact ⟨fun _ h => h, rfl⟩
  · exact .refl s

/-- A domain without power, whatever it was about to do. -/
def coldDom (x : Domain) : Domain :=
  { x with st := .cold, moving := none, commanded := none, pend := none, extra := 0, wants := 0, again := false }

/-- Every domain of the list is Cold, and no unit has started again. -/
structure Froze (s t : State) (l : List Nat) : Prop where
  cold : ∀ d ∈ l, (t.dom d).st = .cold ∧ (t.dom d).extra = 0
  kept : ∀ d, (s.dom d).st = .cold ∧ (s.dom d).extra = 0 → (t.dom d).st = .cold ∧ (t.dom d).extra = 0
  ports : ∀ q, Halted (s.port q) ∨ (s.port q).st = .down → Halted (t.port q) ∨ (t.port q).st = .down
  rest : t = { s with doms := t.doms, ports := t.ports, slices := t.slices, resv := t.resv, cores := t.cores, clusters := t.clusters,
                      pcs := t.pcs, inks := t.inks, engines := t.engines, tel := t.tel }

theorem froze_one (s : State) (d : Nat) : Froze s ((coldLoss s d).modDom d coldDom) [d] := by
  have loss := coldLoss_chills s d
  have doms : ∀ e, (coldLoss s d).dom e = s.dom e := fun e => by rw [loss.rest]; rfl
  have dom : ∀ e, ((coldLoss s d).modDom d coldDom).dom e = if e = d then coldDom (s.dom d) else s.dom e := fun e => by
    rw [State.dom_modDom, doms, doms]
  refine ⟨fun e he => ?_, fun e cold => ?_, loss.ports, ?_⟩
  · rw [dom, if_pos (List.mem_singleton.1 he)]
    exact ⟨rfl, rfl⟩
  · rw [dom]
    split
    · exact ⟨rfl, rfl⟩
    · exact cold
  · rw [State.modDom]
    generalize coldLoss s d = v at loss
    rw [loss.rest]

theorem freeze_froze (l : List Nat) : ∀ s, Froze s (l.foldl (fun s d => (coldLoss s d).modDom d coldDom) s) l := by
  induction l with
  | nil => exact fun s => ⟨fun _ h => absurd h List.not_mem_nil, fun _ h => h, fun _ h => h, rfl⟩
  | cons d l ih =>
    intro s
    have one := froze_one s d
    have rest := ih ((coldLoss s d).modDom d coldDom)
    rw [List.foldl_cons]
    refine ⟨fun e he => ?_, fun e cold => rest.kept e (one.kept e cold), fun q h => rest.ports q (one.ports q h), ?_⟩
    · obtain rfl | he := List.mem_cons.1 he
      · exact rest.kept e (one.cold e List.mem_cons_self)
      · exact rest.cold e he
    · rw [rest.rest, one.rest]

theorem allCold_froze (s : State) : Froze s (allCold s) ((List.range 62).map (· + 2)) := by
  have same : allCold s = ((List.range 62).map (· + 2)).foldl (fun s d => (coldLoss s d).modDom d coldDom) s := by
    rw [List.foldl_map]
    rfl
  rw [same]
  exact freeze_froze ..

/-! ## The errors of R420 -/

/-- The fatal errors: source and code, and the register and bit of each. -/
theorem fatalBit_of {source : BitVec 8} {code : BitVec 7} {off i : Nat} (h : (source.toNat, code.toNat, off, i) ∈
      [(3, 0x11, evtReg 0x20, 1), (3, 0x13, evtReg 0x20, 3), (3, 0x14, evtReg 0x20, 4), (3, 0x15, evtReg 0x20, 5)] ++
        ((List.range 16).map fun n => (0x20 + n, 0x12, sliceReg n 0x88, 2)) ++ ((List.range 4).map fun k => (0x40 + k, 0x16, hbmReg k 0x30, 6))) :
    fatalBit source.toNat code.toNat = some (off, i) ∧ i < 16 ∧ code.toNat = 0x10 + i ∧ (code.toNat = 0x13 → source.toNat = 3) ∧
      (off = evtReg 0x20 ∨ Lasting off ∧ off ≠ evtReg 0x24 ∧ off ≠ evtReg 0x28 ∧ off ≠ evtReg 0x2C) ∧ off ≠ 8 ∧
      (code.toNat = 0x12 → ∃ n < 16, source.toNat = 0x20 + n ∧ off = sliceReg n 0x88) := by
  simp only [List.mem_append, List.mem_cons, List.not_mem_nil, or_false, List.mem_map, List.mem_range, Prod.mk.injEq] at h
  obtain ((⟨hs, hc, rfl, rfl⟩ | ⟨hs, hc, rfl, rfl⟩ | ⟨hs, hc, rfl, rfl⟩ | ⟨hs, hc, rfl, rfl⟩) | ⟨n, hn, hs, hc, rfl, rfl⟩) | ⟨k, hk, hs, hc, rfl, rfl⟩ := h
  case inl.inr =>
    rw [← hs, ← hc]
    refine ⟨?_, by decide, rfl, fun e => absurd e (by decide), .inr ⟨⟨?_, ?_, ?_, ?_, ?_, ?_⟩, ?_, ?_, ?_⟩, ?_, fun _ => ⟨n, hn, rfl, rfl⟩⟩
    · rw [fatalBit, if_neg (by omega), if_pos ⟨by omega, by omega, rfl⟩, Nat.add_sub_cancel_left]
    all_goals
      simp only [sliceReg, evtReg, dirReg, efifoReg]
      omega
  case inr =>
    rw [← hs, ← hc]
    refine ⟨?_, by decide, rfl, fun e => absurd e (by decide), .inr ⟨⟨?_, ?_, ?_, ?_, ?_, ?_⟩, ?_, ?_, ?_⟩, ?_, fun e => absurd e (by decide)⟩
    · rw [fatalBit, if_neg (by omega), if_neg (by omega), if_pos ⟨by omega, by omega, rfl⟩, Nat.add_sub_cancel_left]
    all_goals
      simp only [hbmReg, evtReg, dirReg, efifoReg]
      omega
  all_goals
    rw [hs, hc]
    exact ⟨rfl, by decide, rfl, fun _ => rfl, .inl rfl, by decide, fun e => absurd e (by decide)⟩

/-- TAG_UE leaves its way and set in SLC_ERR_INFO, with KIND 3 (R429). -/
def noteTag (s : State) (source : BitVec 8) (code : BitVec 7) (info : Word) : State :=
  if code.toNat = 0x12 then s.wr (sliceReg (source.toNat - 0x20) 0x8C) (w32 (info.toNat % 2 ^ 22 + 2 ^ 22 * 3)) else s

theorem noteTag_frame (s : State) (source : BitVec 8) (code : BitVec 7) (info : Word) :
    noteTag s source code info = { s with reg := (noteTag s source code info).reg } := by
  unfold noteTag
  split
  · exact State.wr_frame ..
  · rfl

theorem noteTag_rd (s : State) {source : BitVec 8} {code : BitVec 7} (info : Word) {x : Nat}
    (other : code.toNat = 0x12 → x ≠ sliceReg (source.toNat - 0x20) 0x8C) : (noteTag s source code info).rd x = s.rd x := by
  unfold noteTag
  split
  · rename_i h
    exact State.rd_wr_other _ _ (other h)
  · rfl

theorem FatalEntered.of_frame {off i source code : Nat} (h : FatalEntered u t off i source code) (same : u = { s with reg := u.reg })
    (mode : u.rd 8 = s.rd 8) : FatalEntered s t off i source code := by
  have boot : u.boot = s.boot := by rw [same]
  have seq : u.evt = s.evt := by rw [same]
  exact ⟨boot ▸ h.fatal, h.ready, h.bits, h.cause, seq ▸ h.number, seq ▸ h.next, fun p present => h.ports p (by rwa [portPresent_congr boot mode])⟩

/-- The thermal trip takes the power of what has stopped. -/
theorem FatalEntered.frozen {off i source : Nat} {l : List Nat} (h : FatalEntered s t off i source 0x13) (froze : Froze t u l) :
    FatalEntered s u off i source 0x13 := by
  have boot : u.boot = t.boot := by rw [froze.rest]
  have pins : u.pins = t.pins := by rw [froze.rest]
  have evt : u.evt = t.evt := by rw [froze.rest]
  have rd : ∀ x, u.rd x = t.rd x := State.rd_congr (by rw [froze.rest])
  refine ⟨boot ▸ h.fatal, pins ▸ h.ready, ?_, (rd _).trans h.cause, ⟨(rd _).trans h.number.1, (rd _).trans h.number.2⟩, evt ▸ h.next, fun p present => ?_⟩
  · rw [State.bit, State.bit, rd, rd]
    exact h.bits
  · have stopped : Halted (t.port p) ∨ (t.port p).st = .down := by
      obtain quiet | off | ⟨_, down⟩ := h.ports p present
      · exact .inl (.inl quiet)
      · exact .inl (.inr off)
      · exact .inr down
    obtain (quiet | off) | down := froze.ports p stopped
    · exact .inl quiet
    · exact .inr (.inl off)
    · exact .inr (.inr ⟨rfl, down⟩)

/-- In the fatal state a further error sets its bit, and raises its event where the bit was 0 (R411, R412). -/
theorem setErr_further (s : State) {off i : Nat} (hi : i < 32) (source : Nat) (info : Word) : (s.setErr off i source info).bit off i = true ∧
    (s.setErr off i source info).evt =
      (if s.bit off i then s.evt else { s.evt with waiting := s.evt.waiting ++ [⟨source, 0x10 + i, info⟩] }) := by
  refine ⟨setErr_sets s off i source info hi, ?_⟩
  unfold State.setErr
  split
  · rfl
  · rw [State.raise, State.setFld_evt]

/-- What a fatal error does in a device that is not fatal yet. -/
theorem fatalErr_entered (alive : s.boot.fatal = false) {off i source code : Nat} (info : Word) (hi : i < 16) (hs : source < 256)
    (hc : code = 0x10 + i) (at_ : off = evtReg 0x20 ∨ Lasting off ∧ off ≠ evtReg 0x24 ∧ off ≠ evtReg 0x28 ∧ off ≠ evtReg 0x2C) (sys : off ≠ 8) :
    FatalEntered s (fatalErr s off i source info) off i source code ∧
    (∀ x, Lasting x → x ≠ off → x ≠ evtReg 0x24 → x ≠ evtReg 0x28 → x ≠ evtReg 0x2C → (fatalErr s off i source info).rd x = s.rd x) ∧
    ∃ t, fatalErr s off i source info = t ∧ t =
      { s with boot := t.boot, pins := t.pins, reg := t.reg, evt := t.evt, ports := t.ports, purge := t.purge, spine := t.spine,
               tel := t.tel, acc := t.acc } := by
  have fatal := fatalErr_enters alive off i source info
  refine ⟨fatal.entered hi hs hc at_ sys, fun x hx ne h24 h28 h2C => ?_, _, rfl, ?_⟩
  · rw [fatal.regs x hx h24 h28 h2C, State.rd_setFld_other _ _ _ _ ne]
  · have frame := fatal.rest
    rw [State.setFld_frame] at frame
    exact frame

end Sys2Proof.Machine

open Sys2Proof Sys2Proof.Machine

/-- Settles O49: bit 1 of the fatal register and the numbers are written before anything else stops, and neither the messages, notices and
flits that then leave nor the ports that stop write them again; a thermal trip only takes what the units held. -/
theorem fatalErrorsStopTheDevice : Obligations.FatalErrorsStopTheDevice := by
  unfold Obligations.FatalErrorsStopTheDevice
  refine ⟨fun s source code info off i member => ?_, fun s d hd lit alive => ?_, fun s d hd lit fatal => ?_, fun s d hd dark => ?_⟩
  · obtain ⟨named, hi, hc, trip, at_, sys, tag⟩ := fatalBit_of member
    have runs : exec (.enterFatalState source code info) s = .next (if source.toNat = 3 ∧ code.toNat = 0x13 then
        allCold (fatalErr (noteTag s source code info) off i source.toNat info) else fatalErr (noteTag s source code info) off i source.toNat info) := by
      rw [exec, execEnterFatalState, named] <;> rfl
    rw [runs]
    have tagged := noteTag_frame s source code info
    have mode : (noteTag s source code info).rd 8 = s.rd 8 := noteTag_rd s info fun _ => by simp only [sliceReg]; omega
    have boot : (noteTag s source code info).boot = s.boot := by rw [tagged]
    have evt : (noteTag s source code info).evt = s.evt := by rw [tagged]
    refine ⟨fun alive => ?_, fun fatal cool => ?_, fun ue => ?_⟩
    · obtain ⟨entered, -, t, rfl, frame⟩ := fatalErr_entered (s := noteTag s source code info) (boot ▸ alive) info hi source.isLt hc at_ sys
      generalize fatalErr (noteTag s source code info) off i source.toNat info = t at entered frame ⊢
      have ours := entered.of_frame tagged mode
      rw [tagged] at frame
      by_cases hot : code.toNat = 0x13
      · rw [if_pos ⟨trip hot, hot⟩]
        rw [hot] at ours
        have froze := allCold_froze t
        have nv : (allCold t).nv = t.nv := by rw [froze.rest]
        have hbm : (allCold t).hbm = t.hbm := by rw [froze.rest]
        exact ⟨_, rfl, hot ▸ ours.frozen froze, nv.trans (by rw [frame]), hbm.trans (by rw [frame]), fun cool => absurd hot cool,
          fun _ d lo hd => froze.cold d (List.mem_map.2 ⟨d - 2, List.mem_range.2 (by omega), by omega⟩)⟩
      · rw [if_neg fun h => hot h.2]
        exact ⟨_, rfl, ours, by rw [frame], by rw [frame], fun _ => frame, fun trip => absurd trip hot⟩
    · have further : fatalErr (noteTag s source code info) off i source.toNat info = (noteTag s source code info).setErr off i source.toNat info :=
        if_pos (boot ▸ fatal)
      have apart : code.toNat = 0x12 → off ≠ sliceReg (source.toNat - 0x20) 0x8C := fun ue => by
        obtain ⟨n, _, hs, rfl⟩ := tag ue
        rw [hs, Nat.add_sub_cancel_left]
        simp only [sliceReg]
        omega
      obtain ⟨set, waits⟩ := setErr_further (noteTag s source code info) (off := off) (i := i) (by omega) source.toNat info
      obtain ⟨frame, regs⟩ := setErr_frame (noteTag s source code info) off i source.toNat info
      rw [if_neg fun h => cool h.2, further]
      refine ⟨_, rfl, set, ?_, fun noTag x hx => ?_, ?_⟩
      · rw [waits, evt, State.bit, noteTag_rd s info apart, hc]
        rfl
      · rw [regs x hx, noteTag_rd s info fun ue => absurd ue noTag]
      · rw [frame, tagged]
    · obtain ⟨n, hn, hs, rfl⟩ := tag ue
      rw [if_neg fun h => absurd (ue.symm.trans h.2) (by decide), hs, Nat.add_sub_cancel_left]
      have left : (noteTag s source code info).rd (sliceReg n 0x8C) = w32 (info.toNat % 2 ^ 22 + 2 ^ 22 * 3) := by
        rw [noteTag, if_pos ue, hs, Nat.add_sub_cancel_left, State.rd_wr_same]
      refine ⟨_, rfl, ?_⟩
      rw [← left]
      by_cases fatal : s.boot.fatal = true
      · rw [fatalErr, if_pos (boot ▸ fatal)]
        exact (setErr_frame _ _ _ _ _).2 _ (by simp only [sliceReg]; omega)
      · refine (fatalErr_entered (boot ▸ Bool.not_eq_true _ ▸ fatal) info hi (by omega) hc at_ sys).2.1 _ ⟨?_, ?_, ?_, ?_, ?_, ?_⟩ ?_ ?_ ?_ ?_ <;>
          simp only [sliceReg, evtReg, dirReg, efifoReg] <;> omega
  · have runs : exec (.hang d) s = .next (fatalErr s (evtReg 0x20) 4 0x03 (w32 d)) := by
      rw [exec, execHang, if_pos lit]
      exact onUnit_next hd _
    obtain ⟨entered, -, t, rfl, frame⟩ := fatalErr_entered alive (i := 4) (source := 3) (w32 d) (by decide) (by decide) rfl (.inl rfl) (by decide : evtReg 0x20 ≠ 8)
    rw [runs]
    generalize fatalErr s (evtReg 0x20) 4 3 (w32 d) = t at entered frame ⊢
    exact ⟨_, rfl, entered, by rw [frame], by rw [frame], by rw [frame], by rw [frame], by rw [frame]⟩
  · have runs : exec (.hang d) s = .next (s.setErr (evtReg 0x20) 4 0x03 (w32 d)) := by
      rw [exec, execHang, if_pos lit, fatalErr, if_pos fatal]
      exact onUnit_next hd _
    obtain ⟨set, waits⟩ := setErr_further s (off := evtReg 0x20) (i := 4) (by decide) 3 (w32 d)
    obtain ⟨frame, regs⟩ := setErr_frame s (evtReg 0x20) 4 3 (w32 d)
    exact ⟨_, runs, set, regs, waits, frame⟩
  · rw [exec, execHang, dark, if_neg Bool.false_ne_true]
    exact onUnit_next hd _
end

section
/-! PROOF. What the loss of a reference clock does to the lines of the other stacks (R123, R168, R169, R433). -/
namespace Sys2Proof.Machine
open Config

/-- A line of stack 1, of slice 2. -/
def snoopedLine : Nat := 512

/-- After reset port 0 is ACTIVE, and slice 2 awaits the answer of its agent 0 for a line that this agent owned. -/
def awaitedOwner : State :=
  (State.reset.modPort 0 fun x => { x with st := .active }).modSlice 2 fun x =>
    { x with evbuf := [⟨snoopedLine, some 0, [⟨0, opcSNP_INV, 0, false⟩], []⟩] }

/-- A line of memory is poisoned in the state that a command leaves. -/
def poisonedAfter (line : Nat) : Host.Outcome State Fault Refusal → Bool
  | .next t => (sget hbmLineD t.hbm line).poison
  | _ => false

theorem snoopedLine_stack : (hbmLoc awaitedOwner.ten snoopedLine).pc / 32 = 1 := by decide +kernel

theorem snoopedLine_sound : (sget hbmLineD awaitedOwner.hbm snoopedLine).poison = false := by decide +kernel

/-- REFCLK0 takes port 0 down, its agents are purged, and what slice 2 awaits of the owner ends as unanswered. -/
theorem refclkLoss_poisons : poisonedAfter snoopedLine (exec (.refclkLoss 0) awaitedOwner) = true := by decide +kernel

end Sys2Proof.Machine

open Sys2Proof Sys2Proof.Machine

/-- Refutes O54: the loss of REFCLK0 takes the ports of quad 0 down, and a line that the slices await from an owner behind one of them is
poisoned at home (R123, R168, R169), in whatever stack it lies; the statement says that every line of the other stacks is as it was. -/
theorem not_clocksCountAndTheTestPortShifts : ¬ Obligations.ClocksCountAndTheTestPortShifts := by
  intro h
  obtain ⟨t, ht, -, -, -, -, -, -, others, -⟩ := (h.2.1 awaitedOwner 0 (by decide)).2.2 (by decide +kernel) (by decide +kernel) (by decide +kernel)
  have same := others snoopedLine (by rw [snoopedLine_stack]; decide)
  have poisoned : poisonedAfter snoopedLine (.next t) = true := ht ▸ refclkLoss_poisons
  have sound : poisonedAfter snoopedLine (.next t) = false := (congrArg HbmLine.poison same).trans snoopedLine_sound
  exact Bool.false_ne_true (sound.symm.trans poisoned)
end

section
/-! PROOF. Core voltage, temperature, age and service life (R434–R443, R468–R471). -/
namespace Sys2Proof.Machine
open Config

variable {s t u : State}

/-! ## A voltage step (R469) -/

/-- What votes leave alone covers a voltage as before. -/
theorem covered_congr (h : Sends s t) (only : OnlyRegs s t) (w : Nat) : covered t w = covered s w := by
  have damper : t.damper = s.damper := by rw [only]
  have doms : t.dom = s.dom := by
    unfold State.dom
    rw [only]
  have port : t.port = s.port := by
    unfold State.port
    rw [only]
  have consumers : ∀ d, consumer t d = consumer s d := fun d => by
    unfold consumer
    rw [h.domPresent, h.domSt, port]
  have prot : protAt t w = protAt s w := by
    unfold protAt
    simp only [consumers]
  have extras : granted t w = granted s w := granted_congr fun d => by
    unfold State.extraOf
    rw [doms]
  have eff : effBudget t = effBudget s := by
    unfold effBudget
    rw [State.fld, h.regs _ ⟨by decide, by decide⟩, damper, ← State.fld]
  rw [covered, prot, extras, eff, damper, covered]

theorem sends_voteBudget (s : State) : Sends s (voteBudget s) := ((sends_voteReg _ _).trans (sends_voteReg _ _)).trans (sends_voteReg _ _)

theorem moveRaise_rests (off : s.bit (pwrReg 0x8100) 0 = false) (none : s.damper.raise = 0) : moveRaise s = s := by
  have want : raiseWanted s = 0 := by
    rw [raiseWanted, if_neg (by rw [off]; exact Bool.false_ne_true)]
  unfold moveRaise
  dsimp only
  rw [want, none, if_neg (Nat.lt_irrefl 0)]
  have same : { s.damper with raise := max 0 (0 - 5) } = s.damper := by
    rw [show max 0 (0 - 5) = s.damper.raise from none.symm]
  rw [same]

/-- The target after one step toward V_SET. -/
def steppedTarget (s : State) : Nat :=
  if s.damper.target < vSet s then
    (if covered s (min (vSet s) (s.damper.target + 5)) then min (vSet s) (s.damper.target + 5) else s.damper.target)
  else max (vSet s) (s.damper.target - 5)

theorem moveTarget_steps (none : s.damper.raise = 0) : moveTarget s = { s with damper := { s.damper with target := steppedTarget s } } := by
  have goal : max 620 (min 880 (vSet s + s.damper.raise)) = vSet s := by
    rw [none]
    unfold vSet
    omega
  unfold moveTarget steppedTarget
  rw [goal]
  dsimp only
  split
  · split <;> rfl
  · rfl

theorem avsGood_quiet {r : AvsReply} (status : r.status = 0) : avsGood s r = { s with damper := { s.damper with avsHold := false } } := if_pos status

/-! ## Temperature (R434–R436) -/

theorem foldl_max_le {x : Int} (l : List Int) (le : ∀ y ∈ l, y ≤ x) : l.foldl max x = x := by
  induction l with
  | nil => rfl
  | cons y l ih =>
    rw [List.foldl_cons, max_eq_left (le y List.mem_cons_self)]
    exact ih fun z hz => le z (List.mem_cons_of_mem y hz)

/-- The first reading is the highest, where none is above it. -/
theorem hottest_head {x : Int} {l : List Int} (le : ∀ y ∈ l, y ≤ x) : hottest (x :: l) = x := by
  rw [hottest, List.headD_cons, List.foldl_cons, max_self]
  exact foldl_max_le l le

/-- Every reading is at or below 100 °C (R435). -/
def coolNow (s : State) : Bool :=
  (s.damper.temps.all fun x => decide (x ≤ 100)) && (List.range nStacks).all fun k => !s.stackPresent k || decide ((s.stackSt k).temp ≤ 100)

theorem thermJudge_cool {x trip : Int} {sensor : Nat} (warm : x ≤ 105) (below : x ≤ trip) (cool : coolNow s = true) :
    thermJudge s x sensor trip = { s with damper := { s.damper with hot := false } } := by
  unfold coolNow at cool
  unfold thermJudge
  extract_lets c d u
  have hu : u = { s with damper := { s.damper with hot := false } } := (if_neg (not_lt.2 warm)).trans (if_pos cool)
  rw [if_neg (not_lt.2 below), hu]

theorem thermJudge_warm {x trip : Int} {sensor : Nat} (warm : x ≤ 105) (below : x ≤ trip) (cool : coolNow s = false) : thermJudge s x sensor trip = s := by
  unfold coolNow at cool
  unfold thermJudge
  extract_lets c d u
  have hu : u = s := (if_neg (not_lt.2 warm)).trans (if_neg fun e => Bool.false_ne_true (cool.symm.trans e))
  rw [if_neg (not_lt.2 below), hu]

/-- A reading above the warning: the brake budget, and THERM_WARN. -/
def warned (s : State) (x : Int) (sensor : Nat) : State :=
  ({ s with damper := { s.damper with hot := true } }).setErr (evtReg 0x20) 2 0x03 (thermInfo x sensor)

theorem thermJudge_hot {x trip : Int} {sensor : Nat} (hot : 105 < x) (below : x ≤ trip) : thermJudge s x sensor trip = warned s x sensor := by
  unfold thermJudge
  extract_lets c d u
  have hu : u = warned s x sensor := if_pos hot
  rw [if_neg (not_lt.2 below), hu]

/-- What a reading of the control of temperature may change below the trip point. -/
theorem thermJudge_frame {x trip : Int} {sensor : Nat} (below : x ≤ trip) : ∃ t, thermJudge s x sensor trip = t ∧
    t = { s with damper := t.damper, reg := t.reg, evt := t.evt } ∧ ∀ y, y ≠ evtReg 0x20 → t.rd y = s.rd y := by
  by_cases hot : 105 < x
  · refine ⟨_, thermJudge_hot hot below, ?_, fun y hy => (setErr_frame _ _ _ _ _).2 y hy⟩
    rw [warned, (setErr_frame _ _ _ _ _).1]
  · cases cool : coolNow s
    · exact ⟨_, thermJudge_warm (not_lt.1 hot) below cool, rfl, fun _ _ => rfl⟩
    · exact ⟨_, thermJudge_cool (not_lt.1 hot) below cool, rfl, fun _ _ => rfl⟩

/-- Above its trip point a reading takes the device into the fatal state, or finds it there, and every switchable domain is Cold (R431, R436). -/
theorem thermTrip_stops (s : State) (x : Int) (sensor : Nat) : (thermTrip s x sensor).boot.fatal = true ∧
    (thermTrip s x sensor).bit (evtReg 0x20) 3 = true ∧ ∀ d, 2 ≤ d → d < 64 → ((thermTrip s x sensor).dom d).st = .cold := by
  have stopped : ∀ u : State, (fatalErr u (evtReg 0x20) 3 3 (thermInfo x sensor)).boot.fatal = true ∧
      (fatalErr u (evtReg 0x20) 3 3 (thermInfo x sensor)).bit (evtReg 0x20) 3 = true := fun u => by
    by_cases fatal : u.boot.fatal = true
    · rw [fatalErr, if_pos fatal]
      refine ⟨?_, setErr_sets u _ _ _ _ (by decide)⟩
      rw [(setErr_frame u _ _ _ _).1]
      exact fatal
    · have entered := (fatalErr_entered (Bool.not_eq_true _ ▸ fatal) (off := evtReg 0x20) (i := 3) (source := 3) (thermInfo x sensor) (by decide)
        (by decide) rfl (.inl rfl) (by decide)).1
      exact ⟨congrArg (·.fatal) entered.fatal, entered.bits.1⟩
  obtain ⟨fatal, bit⟩ := stopped s
  unfold thermTrip
  generalize fatalErr s (evtReg 0x20) 3 3 (thermInfo x sensor) = u at fatal bit
  have froze := allCold_froze u
  generalize allCold u = v at froze ⊢
  have boot : v.boot = u.boot := by rw [froze.rest]
  have reg : v.reg = u.reg := by rw [froze.rest]
  refine ⟨boot ▸ fatal, ?_, fun d lo hd => (froze.cold d (List.mem_map.2 ⟨d - 2, List.mem_range.2 (by omega), by omega⟩)).1⟩
  rw [State.bit, State.rd_congr reg]
  exact bit

theorem thermJudge_trips {x trip : Int} {sensor : Nat} (above : trip < x) : ∃ u, thermJudge s x sensor trip = thermTrip u x sensor := by
  unfold thermJudge
  extract_lets c d u
  exact ⟨u, if_pos above⟩

theorem damperTempRead_judges (s : State) {x : Int} {l : List Int} (short : l.length < 24) (le : ∀ y ∈ l, y ≤ x) :
    exec (.damperTempRead (x :: l)) s = .next (thermJudge { s with damper := { s.damper with temps := x :: l } } x 0 115) := by
  have temps : (x :: l).take 24 = x :: l := List.take_of_length_le (by rw [List.length_cons]; omega)
  rw [exec, execDamperTempRead, if_neg (List.cons_ne_nil x l), temps, hottest_head le]

/-- What a controller records of its reading (R273). -/
def readStack (s : State) (k : Nat) (x : Int) : State :=
  s.modStack k fun y => { y with temp := x, ref2x := if 85 < x then true else if x ≤ 83 then false else y.ref2x }

/-- The stack itself is hot. -/
def stackHot (s : State) (k : Nat) (x : Int) : State :=
  if (s.fld (hbmReg k 8) 0 8 : Int) < x then s.setErr (hbmReg k 0x30) 7 (0x40 + k) (w32 (x % 256).toNat) else s

theorem stackTempRead_judges {k : Nat} {x : Int} {l : List Int} (hk : k < 4) (le : ∀ y ∈ l, y ≤ x) (present : s.stackPresent k = true)
    (lit : s.domLit (36 + 2 * k) = true) : exec (.stackTempRead k (x :: l)) s = .next (thermJudge (stackHot (readStack s k x) k x) x (1 + k) 110) := by
  have warm : (s.domSt (36 + 2 * k) == .cold) = false := by
    cases st : s.domSt (36 + 2 * k) with
    | cold =>
      rw [State.domLit, st] at lit
      exact absurd lit Bool.false_ne_true
    | _ => rfl
  have powered : (!(x :: l).isEmpty && s.stackPresent k && !(s.domSt (36 + 2 * k) == .cold && s.domSt (37 + 2 * k) == .cold)) = true := by
    rw [present, warm]
    rfl
  rw [exec, execStackTempRead, if_pos powered, hottest_head le]
  exact onUnit_next hk _

theorem readStack_stack (s : State) (k : Nat) (x : Int) (j : Nat) : (readStack s k x).stackSt j = if j = k then
    { s.stackSt k with temp := x, ref2x := if 85 < x then true else if x ≤ 83 then false else (s.stackSt k).ref2x } else s.stackSt j := by
  by_cases h : j = k
  · rw [h, if_pos rfl]
    unfold readStack State.stackSt State.modStack
    rw [sget_smod_same]
  · rw [if_neg h]
    unfold readStack State.stackSt State.modStack
    rw [sget_smod_other _ _ _ h]

/-! ## Wear (R441, R442) -/

/-- The factors that the tables of R442 name. -/
theorem factorV_tabled {mv v : Nat} (h : (mv, v) ∈ [(620, 14400), (660, 20400), (700, 26400), (750, 36000), (775, 42000), (800, 48000), (850, 69600),
    (880, 86400)]) : factorV mv = v := by
  have all : ∀ e ∈ [(620, 14400), (660, 20400), (700, 26400), (750, 36000), (775, 42000), (800, 48000), (850, 69600), (880, 86400)], factorV e.1 = e.2 := by
    decide
  exact all _ h

theorem factorT_tabled {c : Int} {f : Nat} (h : (c, f) ∈ ([(0, 180), (45, 540), (55, 990), (65, 1440), (85, 3600), (95, 5580), (105, 8640)] :
    List (Int × Nat))) : factorT c = f := by
  have all : ∀ e ∈ ([(0, 180), (45, 540), (55, 990), (65, 1440), (85, 3600), (95, 5580), (105, 8640)] : List (Int × Nat)), factorT e.1 = e.2 := by
    decide
  exact all _ h

/-- An error that is set on a condition, in a state whose registers and events are those of s. -/
theorem setErr_when (c : Prop) [Decidable c] (s : State) (off : Nat) {i : Nat} (hi : i < 32) (w : Word) : ∃ t, (if c then s.setErr off i 3 w else s) = t ∧
    (c → t.bit off i = true) ∧ (¬ c → t = s) ∧ t = { s with reg := t.reg, evt := t.evt } := by
  by_cases hc : c
  · exact ⟨_, if_pos hc, fun _ => setErr_sets s off i 3 w hi, fun no => absurd hc no, (setErr_frame ..).1⟩
  · exact ⟨_, if_neg hc, fun yes => absurd yes hc, fun _ => rfl, rfl⟩

end Sys2Proof.Machine

open Sys2Proof Sys2Proof.Machine

/-- Settles O52: every command sets what it names and then judges it; the vote of a step leaves what it reads. -/
theorem voltageTemperatureAndAgeAreFollowed : Obligations.VoltageTemperatureAndAgeAreFollowed := by
  unfold Obligations.VoltageTemperatureAndAgeAreFollowed
  refine ⟨fun s r => ⟨fun dead => ⟨?_, ?_⟩, fun live => ⟨fun ok status mv amps => ?_, fun bad => ?_, fun v goal ok status held off none hv pos hg => ?_⟩⟩,
    fun s x l short le => ⟨fun cool dies => ?_, fun warm below => ?_, fun above => ?_⟩,
    fun s k x l hk le present lit => ⟨fun cool limit hot => ?_, fun beyond below => ?_, fun above => ?_⟩, fun s d a lo hd lit ha => ?_,
    fun s mv c v f hv hf => ?_⟩
  · exact congrArg _ (if_pos dead)
  · exact congrArg _ (if_pos dead)
  · have runs : exec (.avsPoll r) s = .next (avsGood { s with damper := { s.damper with mv := r.mv % 1024, deciAmps := r.deciAmps % 65536 } } r) := by
      rw [exec, execAvsPoll, live, if_neg Bool.noConfusion, if_pos ok]
    rw [runs, avsGood_quiet status, Nat.mod_eq_of_lt mv, Nat.mod_eq_of_lt amps]
  · have runs : exec (.avsPoll r) s = .next (avsFail s) := by
      rw [exec, execAvsPoll, live, if_neg Bool.noConfusion, bad, if_neg Bool.false_ne_true]
    refine ⟨_, runs, ?_, setErr_sets _ _ _ _ _ (by decide), ?_⟩
    · rw [avsFail, (setErr_frame _ _ _ _ _).1]
    · rw [avsFail, (setErr_frame _ _ _ _ _).1]
  · have quiet : avsGood s r = s := by
      rw [avsGood_quiet status, ← held]
    have sends := sends_voteBudget s
    have only := onlyRegs_voteBudget s
    have runs : exec (.avsVoltageStep r) s = .next (moveTarget (moveRaise (voteBudget s))) := by
      rw [exec, execAvsVoltageStep, live, if_neg Bool.noConfusion, ok, if_neg Bool.noConfusion, held, if_neg Bool.false_ne_true, quiet]
    have agree : Agree s → voteBudget s = s := fun h => by
      rw [voteBudget, voteReg_of_agree h, voteReg_of_agree h, voteReg_of_agree h]
    have same : ∀ w, covered (voteBudget s) w = covered s w := covered_congr sends only
    generalize voteBudget s = u at sends only runs agree same
    have damper : u.damper = s.damper := by rw [only]
    have set : vSet u = goal := by
      rw [hg, vSet, vSet, State.fld, sends.regs _ ⟨by decide, by decide⟩, ← State.fld]
    have rests : moveRaise u = u := moveRaise_rests (by rw [State.bit, sends.regs _ ⟨by decide, by decide⟩]; exact off) (by rw [damper]; exact none)
    rw [rests, moveTarget_steps (by rw [damper]; exact none)] at runs
    refine ⟨_, runs, ?_, fun h => ?_, ?_⟩
    · dsimp only
      rw [steppedTarget, set, damper, ← hv, same]
    · dsimp only
      rw [agree h]
      exact ⟨rfl, rfl, rfl⟩
    · dsimp only
      rw [only]
  · rw [damperTempRead_judges s short le, thermJudge_cool (by omega) (by omega)]
    refine Bool.and_eq_true_iff.2 ⟨List.all_eq_true.2 fun y hy => decide_eq_true ?_, List.all_eq_true.2 fun k hk => ?_⟩
    · obtain rfl | hy := List.mem_cons.1 hy
      · exact cool
      · exact (le y hy).trans cool
    · exact Bool.or_eq_true_iff.2 (.inr (decide_eq_true (dies k (List.mem_range.1 hk))))
  · rw [damperTempRead_judges s short le, thermJudge_hot warm below]
    refine ⟨_, rfl, ?_, setErr_sets _ _ _ _ _ (by decide), ?_⟩
    · rw [warned, (setErr_frame _ _ _ _ _).1]
    · rw [warned, (setErr_frame _ _ _ _ _).1]
  · obtain ⟨u, trips⟩ := thermJudge_trips (s := { s with damper := { s.damper with temps := x :: l } }) (sensor := 0) above
    rw [damperTempRead_judges s short le, trips]
    exact ⟨_, rfl, thermTrip_stops u x 0⟩
  · have sound : stackHot (readStack s k x) k x = readStack s k x := if_neg (not_lt.2 limit)
    have uncool : coolNow (readStack s k x) = false := by
      refine Bool.eq_false_iff.2 fun cool => ?_
      obtain ⟨temps, dies⟩ := Bool.and_eq_true_iff.1 cool
      obtain hot | ⟨y, hy, hot⟩ := hot
      · have die := List.all_eq_true.1 dies k (List.mem_range.2 hk)
        have there : (readStack s k x).stackPresent k = true := present
        rw [there, readStack_stack, if_pos rfl] at die
        exact absurd (of_decide_eq_true die) (not_le.2 hot)
      · exact absurd (of_decide_eq_true (List.all_eq_true.1 temps y hy)) (not_le.2 hot)
    rw [stackTempRead_judges hk le present lit, sound, thermJudge_warm cool (by omega) uncool]
    refine ⟨_, rfl, ?_, fun j hj => ?_, rfl⟩
    · rw [readStack_stack, if_pos rfl]
    · rw [readStack_stack, if_neg hj]
  · obtain ⟨t, ht, frame, regs⟩ := thermJudge_frame (s := stackHot (readStack s k x) k x) (sensor := 1 + k) below
    have hot : stackHot (readStack s k x) k x = (readStack s k x).setErr (hbmReg k 0x30) 7 (0x40 + k) (w32 (x % 256).toNat) := if_pos beyond
    have set := setErr_sets (readStack s k x) (hbmReg k 0x30) 7 (0x40 + k) (w32 (x % 256).toNat) (by decide)
    have rest := (setErr_frame (readStack s k x) (hbmReg k 0x30) 7 (0x40 + k) (w32 (x % 256).toNat)).1
    rw [← hot] at set rest
    rw [stackTempRead_judges hk le present lit, ht]
    generalize stackHot (readStack s k x) k x = v at *
    refine ⟨_, rfl, ?_, ?_, ?_⟩
    · rw [State.bit, regs _ (by unfold hbmReg evtReg; omega)]
      exact set
    · have stacks_ : t.stackSt k = (readStack s k x).stackSt k := by
        rw [State.stackSt, frame, rest]
        rfl
      rw [stacks_, readStack_stack, if_pos rfl]
    · rw [frame, rest]
      rfl
  · obtain ⟨u, trips⟩ := thermJudge_trips (s := stackHot (readStack s k x) k x) (sensor := 1 + k) above
    rw [stackTempRead_judges hk le present lit, trips]
    exact ⟨_, rfl, thermTrip_stops u x (1 + k)⟩
  · obtain ⟨t, ht, set, unset, frame⟩ := setErr_when (s.fld (pwrReg 0x8100) 16 12 < a) { s with damper := { s.damper with
      age := sset zeroD s.damper.age d a, ageValid := sset zeroD s.damper.ageValid d 1 } } (evtReg 0x20) (i := 8) (by decide) (w32 (d + 2 ^ 16 * a))
    have runs : exec (.ageMeasure d a) s = .next t := by
      rw [exec, execAgeMeasure, if_pos ⟨lo, lit⟩, Nat.mod_eq_of_lt ha, ← ht]
      exact onUnit_next hd _
    have damper : t.damper = { s.damper with age := sset zeroD s.damper.age d a, ageValid := sset zeroD s.damper.ageValid d 1 } := by rw [frame]
    refine ⟨t, runs, ?_, ?_, fun e he => ?_, set, fun below => ?_, ?_⟩
    · rw [damper, sget_sset_same]
    · rw [damper, sget_sset_same]
    · rw [damper, sget_sset_other _ _ _ he]
    · rw [unset (not_lt.2 below)]
      exact ⟨rfl, rfl⟩
    · rw [frame]
  · obtain ⟨t, ht, set, unset, frame⟩ := setErr_when (1262304000000 < (s.damper.wear + v * f) / 172800000)
      { s with damper := { s.damper with wear := s.damper.wear + v * f } } (evtReg 0x20) (i := 9) (by decide) 0
    have runs : exec (.wearAccumulate mv c) s = .next t := by
      rw [exec, execWearAccumulate, factorV_tabled hv, factorT_tabled hf, ← ht]
      rfl
    refine ⟨t, runs, by rw [frame], set, fun below => ?_, by rw [frame]⟩
    rw [unset (not_lt.2 below)]
    exact ⟨rfl, rfl⟩
end

section
/-! PROOF. Maintenance and hints of hosts (R222, R225, R230, R231, R258). -/
namespace Sys2Proof.Machine
open Config

variable {s t u v : State} {i line p : Nat} {l : List Txn} {x : Txn}

/-! ## Writes toward HBM (R258–R260) -/

/-- The entry that a line written to a controller gets at the end of its queues. -/
def newWrite (s : State) (line : Nat) (d : LineData) (bad : Bool) (cls : Nat) (flue : Bool) : WrEntry :=
  ⟨line, d, bad, cls, flue, (s.pc (hbmLoc s.ten line).pc).seq, (s.pc (hbmLoc s.ten line).pc).now, 0, 0⟩

/-- From s to t a write of a line has entered the queues of its controller, and no other controller differs. -/
structure Queued (s t : State) (line : Nat) (e : WrEntry) : Prop where
  wrq : (t.pc (hbmLoc s.ten line).pc).wrq = (s.pc (hbmLoc s.ten line).pc).wrq ++ [e]
  others : ∀ q, q ≠ (hbmLoc s.ten line).pc → t.pc q = s.pc q
  rest : t = { s with pcs := t.pcs }

theorem Queued.works {e : WrEntry} (h : Queued s t line e) (i : Nat) : Works ⟨true, false, true⟩ s t i := by
  have slices : t.slice = s.slice := by rw [h.rest]; rfl
  exact ⟨fun _ _ => by rw [slices], fun _ => by rw [h.rest], fun _ => by rw [h.rest], fun no => Bool.noConfusion no, by rw [h.rest]⟩

theorem Queued.slice {e : WrEntry} (h : Queued s t line e) (j : Nat) : t.slice j = s.slice j := by rw [h.rest]; rfl

theorem Works.withPcs {a b c : Bool} (h : Works ⟨a, b, c⟩ s t i) : Works ⟨a, b, true⟩ s t i :=
  ⟨h.others, h.acc, h.resv, fun no => Bool.noConfusion no, h.rest⟩

/-- The power domain of the controller of a line is Lit with its spine half (R247, R450). -/
structure HbmLit (s : State) (line : Nat) : Prop where
  lit : s.domLit (pcDomain (hbmLoc s.ten line).pc) = true
  half : ∀ h, halfOf (pcDomain (hbmLoc s.ten line).pc) = some h → s.domLit h = true

theorem HbmLit.works {may : May} (h : HbmLit s line) (w : Works may s t i) : HbmLit t line :=
  ⟨by rw [w.domLit, w.ten]; exact h.lit, fun x hx => by rw [w.domLit]; rw [w.ten] at hx; exact h.half x hx⟩

theorem hbmPut_new (h : HbmLit s line) (none : ∀ e ∈ (s.pc (hbmLoc s.ten line).pc).wrq, e.line ≠ line) (d : LineData) (bad : Bool) (cls : Nat) (flue : Bool) :
    Queued s (hbmPut s line d bad cls flue) line (newWrite s line d bad cls flue) := by
  have noEntry : ((markWrote line (s.pc (hbmLoc s.ten line).pc)).wrq.any fun e => e.line == line && e.cols == 0) = false :=
    List.any_eq_false.2 fun e he => by rw [beq_eq_false_iff_ne.2 (none e he)]; exact Bool.false_ne_true
  rw [hbmPut]
  dsimp only
  rw [wake_lit h.lit h.half]
  refine ⟨?_, fun q hq => ?_, rfl⟩
  · rw [State.setMode, State.pc_modPc_same, State.pc_modPc_same]
    rw [noEntry]
    rfl
  · rw [State.setMode, State.pc_modPc_other _ _ hq, State.pc_modPc_other _ _ hq]

/-- A line of which nothing is held leaves for HBM at once where its queue has room (R216, R258). -/
theorem outWrite_new (h : HbmLit s line) (none : ∀ e ∈ (s.pc (hbmLoc s.ten line).pc).wrq, e.line ≠ line)
    (room : flueCount (s.pc (hbmLoc s.ten line).pc) < 32) (still : lineMoving (s.slice i) line = false) (d : LineData) (bad : Bool) (cls : Nat) :
    ∃ u, Works ⟨true, false, false⟩ s u i ∧ (∀ j, u.slice j = s.slice j) ∧
      Queued u (outWrite s i line d bad cls true false Option.none) line (newWrite s line d bad cls true) := by
  have works := works_count (may := ⟨true, false, false⟩) rfl s i (16 + i) 7 1
  have slice : ∀ j, (s.count (16 + i) 7 1).slice j = s.slice j := fun j => State.slice_count ..
  have pcs : ∀ j, (s.count (16 + i) 7 1).pc j = s.pc j := fun j => by rw [State.pc, State.count_pcs]; rfl
  have held : ((s.slice i).outWr.any fun o => o.line == line) = false := by
    unfold lineMoving at still
    exact (Bool.or_eq_false_iff.1 still).2
  refine ⟨s.count (16 + i) 7 1, works, slice, ?_⟩
  rw [outWrite, if_pos rfl]
  dsimp only
  generalize s.count (16 + i) 7 1 = u at works slice pcs ⊢
  have same : newWrite s line d bad cls true = newWrite u line d bad cls true := by rw [newWrite, newWrite, works.ten, pcs]
  have goes : hbmWrite u line d bad cls true = some (hbmPut u line d bad cls true) := by
    refine if_pos ?_
    rw [hbmRoom, if_pos rfl, works.ten, pcs, decide_eq_true room, Bool.or_true]
  rw [slice, held, if_neg Bool.false_ne_true, goes, same]
  exact hbmPut_new (h.works works) (by rw [works.ten, pcs]; exact none) d bad cls true

/-! ## Maintenance of a line in the Hearth (R230) -/

/-- From s to t a dirty line has left its way for HBM, and is clean. -/
structure Flued (s t : State) (i line w cls : Nat) (d : LineData) : Prop where
  works : Works ⟨true, false, true⟩ s t i
  slice : t.slice i = { s.slice i with
    hearth := sset hlineD (s.slice i).hearth (s.setOf line * 16 + w) { s.hway i (s.setOf line) w with dirty := false } }
  wrq : (t.pc (hbmLoc s.ten line).pc).wrq = (s.pc (hbmLoc s.ten line).pc).wrq ++ [newWrite s line d false cls true]
  others : ∀ q, q ≠ (hbmLoc s.ten line).pc → t.pc q = s.pc q

theorem findWay_line {w : Nat} (h : findWay s i line = some w) : (s.hway i (s.setOf line) w).line = line := by
  have holds := List.find?_some (p := fun w => (s.hway i (s.setOf line) w).valid && !(s.hway i (s.setOf line) w).reserved &&
    (s.hway i (s.setOf line) w).line == line) h
  exact beq_iff_eq.1 (Bool.and_eq_true_iff.1 holds).2

theorem flueLine_flues {w : Nat} {d : LineData} (hit : HearthHit s i line w d) (h : HbmLit s line)
    (none : ∀ e ∈ (s.pc (hbmLoc s.ten line).pc).wrq, e.line ≠ line)
    (room : flueCount (s.pc (hbmLoc s.ten line).pc) < 32) (still : lineMoving (s.slice i) line = false) (cls : Nat) :
    Flued s (flueLine s i (s.setOf line) w cls) i line w cls d := by
  obtain ⟨way, rfl, errs, sound⟩ := hit
  rw [flueLine, readWay_good errs sound]
  show Flued s (outWrite (s.setHway i (s.setOf line) w { s.hway i (s.setOf line) w with dirty := false }) i (s.hway i (s.setOf line) w).line
    (s.hway i (s.setOf line) w).data false cls true false Option.none) i line w cls (s.hway i (s.setOf line) w).data
  have slice := setHway_slice s i (s.setOf line) w { s.hway i (s.setOf line) w with dirty := false }
  have works := works_setHway ⟨true, false, false⟩ s i (s.setOf line) w { s.hway i (s.setOf line) w with dirty := false }
  have pcs : ∀ j, (s.setHway i (s.setOf line) w { s.hway i (s.setOf line) w with dirty := false }).pc j = s.pc j := fun _ => rfl
  generalize s.setHway i (s.setOf line) w { s.hway i (s.setOf line) w with dirty := false } = a at slice works pcs ⊢
  rw [findWay_line way]
  obtain ⟨u, worksU, sliceU, queued⟩ := outWrite_new (s := a) (i := i) (h.works works) (by rw [works.ten, pcs]; exact none)
    (by rw [works.ten, pcs]; exact room) (by rw [slice]; exact still) (s.hway i (s.setOf line) w).data false cls
  have pcsU : ∀ j, u.pc j = s.pc j := fun j => by rw [State.pc, worksU.pcs rfl]; exact pcs j
  have worksQ := queued.works i
  have sliceQ := queued.slice i
  obtain ⟨wrq, others, -⟩ := queued
  rw [worksU.ten, works.ten] at wrq others
  refine ⟨(works.withPcs.trans worksU.withPcs).trans worksQ, ?_, ?_, fun q hq => ?_⟩
  · rw [sliceQ, sliceU, slice]
  · rw [wrq, pcsU, newWrite, newWrite, works.ten, pcs]
  · rw [others q hq, pcsU]

/-- The maintenance operations on one line. -/
def isLineMaint : ReqKind → Bool
  | .clean | .inv | .cleanInv => true
  | _ => false

/-- A transaction whose effect has been had, its response to come. -/
def performedTxn (x : Txn) : Txn := { x with stage := 1 }

theorem commit_maintains {d : LineData} {bad : Bool} (maint : isLineMaint x.req.kind = true) (here : x.line = line) (absent : dirWay s i line = none) :
    ∃ T, commit s i x d bad false = modTxn (maintHearth { s with tel := T } i x) i line performedTxn := by
  subst here
  obtain ⟨T, b, hb, commits⟩ : ∃ T b, (b = demote { s with tel := T } i x ∨ b = dirFree { s with tel := T } i x.line) ∧
      commit s i x d bad false = modTxn (maintHearth b i x) i x.line performedTxn := by
    unfold isLineMaint at maint
    unfold commit
    split at maint
    all_goals rename_i kind
    · rw [kind]
      exact ⟨_, _, Or.inl rfl, rfl⟩
    · rw [kind]
      exact ⟨_, _, Or.inr rfl, rfl⟩
    · rw [kind]
      exact ⟨_, _, Or.inr rfl, rfl⟩
    · exact Bool.noConfusion maint
  rw [demote_none (s := { s with tel := T }) absent, dirFree_none (s := { s with tel := T }) absent, or_self] at hb
  exact ⟨T, by rw [commits, hb]⟩

/-- What maintenance has left is completed (R230). -/
theorem lateTxn_maintains (one : OneTxn u i line l x) (maint : isLineMaint x.req.kind = true) (still : lineMoving (u.slice i) line = false) :
    ∃ T, lateTxn (modTxn u i line performedTxn) i line =
      modTxn (respond { modTxn u i line performedTxn with tel := T } x.req opcCMP 0 false []) i line fun t => { t with stage := 2 } := by
  have one' := one.mod (f := performedTxn) one.here
  have still' : lineMoving ((modTxn u i line performedTxn).slice i) line = false := by
    rw [modTxn_slice]
    exact still
  rw [lateTxn, one'.txnOf]
  dsimp only
  rw [if_pos ⟨rfl, still'⟩, lateRespond, one'.here]
  have kinds : (performedTxn x).req.kind = x.req.kind := rfl
  unfold isLineMaint at maint
  split at maint
  all_goals rename_i kind
  · rw [kinds, kind]
    exact ⟨_, rfl⟩
  · rw [kinds, kind]
    exact ⟨_, rfl⟩
  · rw [kinds, kind]
    exact ⟨_, rfl⟩
  · exact Bool.noConfusion maint

/-- Maintenance of a host has been completed; of the rest only queues toward HBM may differ. -/
structure Maintained (s t : State) (i p : Nat) (m : Msg) : Prop where
  answered : Answered s t i p m
  txns : (t.slice i).txns = (s.slice i).txns
  rest : t = { s with ports := t.ports, slices := t.slices, acc := t.acc, tel := t.tel, pcs := t.pcs }

/-- Maintenance of a host begins, has its effect on the Hearth, and ends. -/
theorem submit_maintains {r : Req} (host : HostAt s r.src p) (calm : CalmLine s i line) (hl : lineOf r.addr = line)
    (maint : isLineMaint r.kind = true) (absent : dirWay s i line = none) : ∃ a x, Works ⟨true, false, false⟩ s a i ∧
      a.slice i = { s.slice i with dir := (a.slice i).dir, txns := (a.slice i).txns } ∧ x.line = line ∧ x.req = r ∧
      ∀ m, maintHearth a i x = m → Works ⟨true, false, true⟩ a m i → m.slice i = { a.slice i with hearth := (m.slice i).hearth } →
        ∃ t, submit s r = t ∧ Maintained s t i p (s.mkRsp opcCMP r.src r.tag []) ∧ (t.slice i).hearth = (m.slice i).hearth ∧ t.pcs = m.pcs := by
  obtain ⟨opens, grant, needs⟩ : opensTxn r.kind = true ∧ isGrantKind r.kind = false ∧ ∀ c : State, needsData (newTxn c i r none []) = false := by
    simp only [needsData, show ∀ c, (newTxn c i r none []).req.kind = r.kind from fun _ => rfl]
    revert maint
    cases r.kind <;> simp [isLineMaint, opensTxn, isGrantKind]
  obtain ⟨c, begins, takes⟩ := submit_begins calm hl (fun w hw => absurd (absent.symm.trans hw) (Option.some_ne_none w).symm)
    (fun g => Bool.noConfusion (g.symm.trans grant))
  have met : metEntry c i line = none := by rw [metEntry, dirEntry, (begins.dirWay line).trans absent]; rfl
  obtain ⟨b, goes, opened, sliceB⟩ := begin_met_none opens hl calm begins.works begins.entries.slice met
  obtain ⟨x, hx⟩ : ∃ x, x = newTxn c i r none [] := ⟨_, rfl⟩
  have stage : x.stage = 0 ∧ x.snps = [] ∧ x.snpData = none ∧ x.req = r := by
    rw [hx]
    exact ⟨rfl, rfl, rfl, rfl⟩
  obtain ⟨stage, snps, noData, req⟩ := stage
  have noGack : x.gack = false := by rw [hx]; exact opened.gack.trans grant
  rw [← hx] at opened
  have rests := moving_of_busy calm.calm
  have still : lineMoving (b.slice i) line = false := by rw [sliceB]; exact rests
  have absentB : dirWay b i line = none := (dirWay_congr opened.works.boot (fun n => by rw [sliceB]; exact begins.entries.dir n) line).trans absent
  have gathers := gatherTxn_noData opened.one.txnOf stage snps still noData (hx ▸ needs c)
  rw [performTxn_noData (hx ▸ needs c) (by rw [opened.one.here]; exact still)] at gathers
  obtain ⟨T, commits⟩ := commit_maintains (s := b) (i := i) (d := 0) (bad := false) (req.symm ▸ maint) opened.one.here absentB
  obtain ⟨a, ha⟩ : ∃ a, a = { b with tel := T } := ⟨_, rfl⟩
  rw [← ha] at commits
  have worksT := works_tel ⟨true, false, false⟩ (s := b) (t := a) (by rw [ha]) i
  have sliceT : a.slice = b.slice := by rw [ha]; rfl
  have oneA : OneTxn a i line (s.slice i).txns x := opened.one.same (by rw [sliceT])
  refine ⟨a, x, opened.works.trans worksT, by rw [sliceT, sliceB], opened.one.here, req, fun m hm worksM sliceM => ?_⟩
  have oneM : OneTxn m i line (s.slice i).txns x := oneA.same (by rw [sliceM])
  have stillM : lineMoving (m.slice i) line = false := by
    rw [sliceM, sliceT]
    exact still
  obtain ⟨T', late⟩ := lateTxn_maintains oneM (req.symm ▸ maint) stillM
  obtain ⟨v, hv⟩ : ∃ v, v = { modTxn m i line performedTxn with tel := T' } := ⟨_, rfl⟩
  rw [← hv] at late
  have sliceV : v.slice i = (modTxn m i line performedTxn).slice i := by rw [hv]; rfl
  have worksV : Works ⟨true, false, true⟩ s v i :=
    (((opened.works.trans worksT).withPcs.trans worksM).trans (works_modTxn ..)).trans (works_tel _ (by rw [hv]) i)
  have pcsV : v.pcs = m.pcs := by rw [hv]; rfl
  have sliceV' : v.slice i = { s.slice i with hearth := (m.slice i).hearth, dir := (c.slice i).dir, txns := (v.slice i).txns } := by
    rw [sliceV, modTxn_slice, sliceM, sliceT, sliceB]
  have dirV : ∀ n, sget dentryD (v.slice i).dir n = sget dentryD (s.slice i).dir n := fun n => by
    rw [sliceV']
    exact begins.entries.dir n
  have ended := respond_ends (x := performedTxn x) (v := v) (opc := opcCMP) (poison := false) (body := []) (worksV.hostAt (req.symm ▸ host))
    ((oneM.mod (f := performedTxn) oneM.here).same (by rw [sliceV])) noGack (by rw [sliceV, modTxn_slice]; exact stillM)
    ((dirWay_congr worksV.boot dirV line).trans absent) 0 (by decide)
  rw [show (performedTxn x).req = r from req, worksV.mkRsp] at ended
  have ends : begin_ c i r = finishTxn (modTxn (respond v r opcCMP 0 false []) i line fun t => { t with stage := 2 }) i line := by
    rw [goes, advance_stages, gathers, commits, hm, late, req]
  rw [← ends] at ended
  obtain ⟨⟨sent, ports, slices⟩, sliceE, restE⟩ := ended
  rw [sliceV'] at sliceE
  have rest : begin_ c i r = { s with ports := (begin_ c i r).ports, slices := (begin_ c i r).slices, acc := v.acc, tel := v.tel, pcs := v.pcs } := by
    rw [worksV.rest, worksV.resv rfl] at restE
    exact restE
  generalize begin_ c i r = t at takes sent ports slices sliceE restE rest
  have settles : Settles c t i := by
    obtain ⟨inq, confq, retryq⟩ := calm.idle
    refine ⟨?_, ?_, ⟨?_, ?_, ?_⟩, ?_⟩
    · rw [rest, begins.works.cleanAlls]
    · rw [begins.works.home, rest]
      rfl
    · rw [sliceE]; exact inq
    · rw [sliceE]; exact confq
    · rw [sliceE]; exact retryq
    · rw [sliceE, begins.entries.slice]
      exact Nat.le_succ _
  have port : v.port = s.port := by rw [worksV.rest]; rfl
  have sameSlice : ∀ j, (t.count (16 + i) 0 1).slice j = t.slice j := fun j => State.slice_count ..
  refine ⟨_, takes settles, ⟨⟨?_, fun q hq => ?_, fun j hj => ?_⟩, ?_, ?_⟩, ?_, ?_⟩
  · rw [State.port_count, sent, port]
    rfl
  · rw [State.port_count, ports q hq, port]
  · rw [sameSlice, slices j hj, worksV.others j hj]
  · rw [sameSlice, sliceE]
  · have keeps := works_count (may := ⟨true, false, false⟩) rfl t i (16 + i) 0 1
    rw [keeps.rest, State.count_resv, State.count_pcs, rest]
  · rw [sameSlice, sliceE]
  · rw [State.count_pcs, restE, pcsV]

/-! ### What each operation does to a dirty line -/

theorem maintHearth_clean {w : Nat} (kind : x.req.kind = .clean) (here : x.line = line) (way : findWay s i line = some w)
    (dirty : (s.hway i (s.setOf line) w).dirty = true) : maintHearth s i x = flueLine s i (s.setOf line) w (reqClass s x.req) := by
  subst here
  rw [maintHearth, kind]
  dsimp only
  rw [show isInvKind .clean = false from rfl, if_neg Bool.false_ne_true, way]
  dsimp only
  rw [dirty, show (true && ReqKind.clean != ReqKind.inv) = true from rfl, if_pos rfl, if_neg Bool.false_ne_true]

theorem maintHearth_cleanInv {w : Nat} (kind : x.req.kind = .cleanInv) (here : x.line = line) (way : findWay s i line = some w)
    (dirty : (s.hway i (s.setOf line) w).dirty = true) (kindle : ∀ e ∈ (s.slice i).kindle, e.line ≠ line) :
    maintHearth s i x = (flueLine s i (s.setOf line) w (reqClass s x.req)).clearWay i (s.setOf line) w := by
  subst here
  rw [maintHearth, kind]
  dsimp only
  rw [show isInvKind .cleanInv = true from rfl, if_pos rfl, kindleKill_none kindle, way]
  dsimp only
  rw [dirty, show (true && ReqKind.cleanInv != ReqKind.inv) = true from rfl, if_pos rfl, if_pos rfl]

theorem maintHearth_inv {w : Nat} (kind : x.req.kind = .inv) (here : x.line = line) (way : findWay s i line = some w)
    (kindle : ∀ e ∈ (s.slice i).kindle, e.line ≠ line) : maintHearth s i x = s.clearWay i (s.setOf line) w := by
  subst here
  rw [maintHearth, kind]
  dsimp only
  rw [show isInvKind .inv = true from rfl, if_pos rfl, kindleKill_none kindle, way]
  dsimp only
  rw [show (ReqKind.inv != ReqKind.inv) = false from rfl, Bool.and_false, if_neg Bool.false_ne_true, if_pos rfl]

/-- Reads and maintenance of a host of this device are of the first source class (R208). -/
theorem reqClass_host {r : Req} (host : HostAt s r.src p) (noWrite : isWriteKind r.kind = false) : reqClass s r = 0 := by
  rw [reqClass, classOf, if_neg fun c => c host.here, if_pos host.loc, noWrite]
  rfl

/-- A write of data d has entered the queues of a line's controller, by the flue. -/
structure Left (s t : State) (line : Nat) (d : LineData) : Prop where
  wrq : (t.pc (hbmLoc s.ten line).pc).wrq = (s.pc (hbmLoc s.ten line).pc).wrq ++ [newWrite s line d false 0 true]
  others : ∀ q, q ≠ (hbmLoc s.ten line).pc → t.pc q = s.pc q

/-- The conditions under which a line leaves for HBM at once. -/
structure LeavesAtOnce (s : State) (line : Nat) : Prop where
  lit : HbmLit s line
  none : ∀ e ∈ (s.pc (hbmLoc s.ten line).pc).wrq, e.line ≠ line
  room : flueCount (s.pc (hbmLoc s.ten line).pc) < 32

theorem LeavesAtOnce.works (h : LeavesAtOnce s line) (w : Works ⟨true, false, false⟩ s t i) : LeavesAtOnce t line := by
  have pcs : ∀ j, t.pc j = s.pc j := fun j => by rw [State.pc, w.pcs rfl]; rfl
  exact ⟨h.lit.works w, by rw [w.ten, pcs]; exact h.none, by rw [w.ten, pcs]; exact h.room⟩

theorem setHway_onlyHearth (s : State) (i set w : Nat) (h : HLine) :
    (s.setHway i set w h).slice i = { s.slice i with hearth := ((s.setHway i set w h).slice i).hearth } := by rw [setHway_slice]

theorem works_clearWay (may : May) (s : State) (i set w : Nat) : Works may s (s.clearWay i set w) i := by
  rw [State.clearWay]
  exact works_setHway ..

theorem clearWay_onlyHearth (s : State) (i set w : Nat) :
    (s.clearWay i set w).slice i = { s.slice i with hearth := ((s.clearWay i set w).slice i).hearth } := by
  rw [State.clearWay]
  exact setHway_onlyHearth ..

theorem clearWay_pcs (s : State) (i set w : Nat) : (s.clearWay i set w).pcs = s.pcs := by
  rw [State.clearWay, State.setHway, State.modSlice_pcs]

theorem clearWay_oneWay (s : State) (i set w : Nat) : OneWay s (s.clearWay i set w) i set w (hlineD 0) := by
  rw [State.clearWay]
  exact oneWay_of (by rw [setHway_slice])

/-- A way that is written again (from s to u), in a Hearth that is the same to start with (s and a) and to end with (u and v). -/
theorem OneWay.again {a : State} {set w : Nat} {h h' : HLine} (first : OneWay s t i set w h) (second : OneWay t u i set w h')
    (start : (s.slice i).hearth = (a.slice i).hearth) (stop : (v.slice i).hearth = (u.slice i).hearth) : OneWay a v i set w h' :=
  ⟨by rw [State.hway, stop]; exact second.way, fun n hn => by rw [stop, second.others n hn, first.others n hn, start]⟩

theorem onlyHearth_trans {a f m : Slice} (hm : m = { f with hearth := m.hearth }) (hf : f = { a with hearth := f.hearth }) :
    m = { a with hearth := m.hearth } := by rw [hm, hf]

/-- CLEAN sends a dirty line and leaves it clean. -/
theorem submit_clean {r : Req} {w : Nat} {d : LineData} (host : HostAt s r.src p) (calm : CalmLine s i line) (hl : lineOf r.addr = line)
    (kind : r.kind = .clean) (absent : dirWay s i line = none) (hit : HearthHit s i line w d)
    (dirty : (s.hway i (s.setOf line) w).dirty = true) (leaves : LeavesAtOnce s line) :
    ∃ t, submit s r = t ∧ Maintained s t i p (s.mkRsp opcCMP r.src r.tag []) ∧
      OneWay s t i (s.setOf line) w { s.hway i (s.setOf line) w with dirty := false } ∧ Left s t line d := by
  obtain ⟨a, x, works, slice, here, req, goes⟩ := submit_maintains host calm hl (by rw [kind]; rfl) absent
  have hearth : (a.slice i).hearth = (s.slice i).hearth := by rw [slice]
  have hitA := hearthHit_congr hit works.boot hearth
  have atOnce := leaves.works works
  have still : lineMoving (a.slice i) line = false := by
    have rests := moving_of_busy calm.calm
    rw [slice]
    exact rests
  have way : ∀ v, a.hway i (s.setOf line) v = s.hway i (s.setOf line) v := fun v => hway_congr hearth _ v
  have made := maintHearth_clean (req ▸ kind) here hitA.way (by rw [works.setOf, way]; exact dirty)
  have flued := flueLine_flues hitA atOnce.lit atOnce.none atOnce.room still (reqClass a x.req)
  rw [← made] at flued
  obtain ⟨t, submits, maintained, hearthT, pcs⟩ := goes _ rfl flued.works (by rw [flued.slice])
  have pc : ∀ j, t.pc j = (maintHearth a i x).pc j := fun j => by rw [State.pc, pcs]; rfl
  have pcA : ∀ j, a.pc j = s.pc j := fun j => by rw [State.pc, works.pcs rfl]; rfl
  refine ⟨t, submits, maintained, oneWay_of ?_, ?_, fun q hq => ?_⟩
  · rw [hearthT, flued.slice, works.setOf, way, hearth]
  · have wrq := flued.wrq
    rw [works.ten, pcA, newWrite, works.ten, pcA, reqClass_host (works.hostAt (req.symm ▸ host)) (by rw [req, kind]; rfl)] at wrq
    rw [pc, wrq, newWrite]
  · rw [pc, flued.others q (by rw [works.ten]; exact hq), pcA]

/-- CLEAN_INV sends a dirty line and drops it. -/
theorem submit_cleanInv {r : Req} {w : Nat} {d : LineData} (host : HostAt s r.src p) (calm : CalmLine s i line) (hl : lineOf r.addr = line)
    (kind : r.kind = .cleanInv) (absent : dirWay s i line = none) (hit : HearthHit s i line w d)
    (dirty : (s.hway i (s.setOf line) w).dirty = true) (leaves : LeavesAtOnce s line) :
    ∃ t, submit s r = t ∧ Maintained s t i p (s.mkRsp opcCMP r.src r.tag []) ∧ OneWay s t i (s.setOf line) w (hlineD 0) ∧ Left s t line d := by
  obtain ⟨a, x, works, slice, here, req, goes⟩ := submit_maintains host calm hl (by rw [kind]; rfl) absent
  have hearth : (a.slice i).hearth = (s.slice i).hearth := by rw [slice]
  have hitA := hearthHit_congr hit works.boot hearth
  have atOnce := leaves.works works
  have still : lineMoving (a.slice i) line = false := by
    have rests := moving_of_busy calm.calm
    rw [slice]
    exact rests
  have kindle : ∀ e ∈ (a.slice i).kindle, e.line ≠ line := by
    rw [slice]
    exact calm.kindle
  have way : ∀ v, a.hway i (s.setOf line) v = s.hway i (s.setOf line) v := fun v => hway_congr hearth _ v
  have made := maintHearth_cleanInv (req ▸ kind) here hitA.way (by rw [works.setOf, way]; exact dirty) kindle
  have flued := flueLine_flues hitA atOnce.lit atOnce.none atOnce.room still (reqClass a x.req)
  generalize flueLine a i (a.setOf line) w (reqClass a x.req) = f at made flued
  obtain ⟨t, submits, maintained, hearthT, pcs⟩ := goes _ made (flued.works.trans (works_clearWay ..))
    (onlyHearth_trans (clearWay_onlyHearth ..) (by rw [flued.slice]))
  have pc : ∀ j, t.pc j = f.pc j := fun j => by rw [State.pc, pcs, clearWay_pcs]; rfl
  have pcA : ∀ j, a.pc j = s.pc j := fun j => by rw [State.pc, works.pcs rfl]; rfl
  refine ⟨t, submits, maintained, ?_, ?_, fun q hq => ?_⟩
  · rw [← works.setOf]
    exact (oneWay_of (by rw [flued.slice])).again (clearWay_oneWay ..) hearth hearthT
  · have wrq := flued.wrq
    rw [works.ten, pcA, newWrite, works.ten, pcA, reqClass_host (works.hostAt (req.symm ▸ host)) (by rw [req, kind]; rfl)] at wrq
    rw [pc, wrq, newWrite]
  · rw [pc, flued.others q (by rw [works.ten]; exact hq), pcA]

/-- INV drops a line. -/
theorem submit_inv {r : Req} {w : Nat} (host : HostAt s r.src p) (calm : CalmLine s i line) (hl : lineOf r.addr = line)
    (kind : r.kind = .inv) (absent : dirWay s i line = none) (way : findWay s i line = some w) :
    ∃ t, submit s r = t ∧ Maintained s t i p (s.mkRsp opcCMP r.src r.tag []) ∧ OneWay s t i (s.setOf line) w (hlineD 0) ∧ t.pcs = s.pcs := by
  obtain ⟨a, x, works, slice, here, req, goes⟩ := submit_maintains host calm hl (by rw [kind]; rfl) absent
  have hearth : (a.slice i).hearth = (s.slice i).hearth := by rw [slice]
  have kindle : ∀ e ∈ (a.slice i).kindle, e.line ≠ line := by
    rw [slice]
    exact calm.kindle
  have made := maintHearth_inv (req ▸ kind) here ((findWay_congr works.boot hearth line).trans way) kindle
  obtain ⟨t, submits, maintained, hearthT, pcs⟩ := goes _ made (works_clearWay ..) (clearWay_onlyHearth ..)
  refine ⟨t, submits, maintained, ?_, pcs.trans ((clearWay_pcs ..).trans (works.pcs rfl))⟩
  rw [← works.setOf]
  have once := clearWay_oneWay a i (a.setOf line) w
  exact ⟨by rw [State.hway, hearthT]; exact once.way, fun n hn => by rw [hearthT, once.others n hn, hearth]⟩

/-! ## CLEAN_ALL (R231) -/

/-- A request that needs no directory way begins, where it leaves a miss register free. -/
theorem submit_begins_room {r : Req} (h : CalmLine s i line) (hl : lineOf r.addr = line) (absent : dirWay s i line = none)
    (noGrant : isGrantKind r.kind = false) : ∃ t, Begins s t i ∧
      (missUsed (begin_ t i r) i ≤ 512 → Idle ((begin_ t i r).slice i) → submit s r = (begin_ t i r).count (16 + i) 0 1) := by
  obtain ⟨u, same, works, takes⟩ := submit_checks h hl
  obtain ⟨entries, checked⟩ := check_idle h same works fun w hw => absurd (absent.symm.trans hw) (Option.some_ne_none w).symm
  obtain ⟨c, hc⟩ : ∃ c, c = dirPurge (dirCheck u i line) i line := ⟨_, rfl⟩
  rw [← hc] at entries checked
  refine ⟨c, ⟨⟨by rw [entries.slice, same], fun n => by rw [entries.dir, same]⟩, works.trans (checked _)⟩, fun room idle => takes _ ?_ idle⟩
  rw [tryBegin, hl]
  dsimp only
  rw [← hc, needsWay, noGrant, Bool.false_and, if_neg Bool.false_ne_true, if_neg fun c => Nat.not_le_of_lt c.1 room]

/-- A sweep for CLEAN_ALL n starts on a slice. -/
def sweepFor (n : Nat) (s : State) (j : Nat) : State := (s.wake (20 + j)).modSlice j fun x => { x with sweeps := x.sweeps ++ [.cleanAll n] }

/-- From s to t sweeps have started on the listed slices. -/
structure Sweeping (s t : State) (n : Nat) (l : List Nat) : Prop where
  listed : ∀ j ∈ l, t.slice j = { s.slice j with sweeps := (s.slice j).sweeps ++ [.cleanAll n] }
  others : ∀ j, j ∉ l → t.slice j = s.slice j
  rest : t = { s with slices := t.slices, doms := t.doms }

theorem sweeps_start (n : Nat) {l : List Nat} (once : l.Nodup) (s : State) : Sweeping s (l.foldl (sweepFor n) s) n l := by
  induction l generalizing s with
  | nil => exact ⟨fun _ hj => absurd hj List.not_mem_nil, fun _ _ => rfl, rfl⟩
  | cons k l ih =>
    obtain ⟨new, once⟩ := List.nodup_cons.1 once
    obtain ⟨listed, others, rest⟩ := ih once (sweepFor n s k)
    have awake : ∀ j, (s.wake (20 + k)).slice j = s.slice j := fun j => by rw [State.wake_frame]; rfl
    have here : (sweepFor n s k).slice k = { s.slice k with sweeps := (s.slice k).sweeps ++ [.cleanAll n] } := by
      rw [sweepFor, State.slice_modSlice_same, awake]
    have away : ∀ j, j ≠ k → (sweepFor n s k).slice j = s.slice j := fun j hj => by
      rw [sweepFor, State.slice_modSlice_other _ _ hj, awake]
    have step : sweepFor n s k = { s with slices := (sweepFor n s k).slices, doms := (sweepFor n s k).doms } := by
      rw [sweepFor, State.wake_frame]
      rfl
    rw [List.foldl_cons]
    refine ⟨fun j hj => ?_, fun j hj => ?_, ?_⟩
    · rcases List.mem_cons.1 hj with rfl | hj
      · rw [others _ new, here]
      · rw [listed j hj, away j fun c => new (c ▸ hj)]
    · rw [others j fun c => hj (List.mem_cons_of_mem _ c), away j fun c => hj (c ▸ List.mem_cons_self ..)]
    · rw [rest, step]

/-- The slices that a CLEAN_ALL sweeps. -/
def sweptSlices (s : State) : List Nat := s.sliceList.filter fun j => s.domSt (20 + j) != .cold

theorem sweptSlices_nodup (s : State) : (sweptSlices s).Nodup := (List.nodup_range.filter _).filter _

theorem home_not_host {a : AgentId} (host : HostAt s a p) : (a == s.home) = false := by
  refine beq_eq_false_iff_ne.2 fun c => ?_
  have loc := host.loc
  rw [c] at loc
  exact absurd loc (by show ¬ (mkAgent s.devNum 63).loc < 32; simp [mkAgent, AgentId.loc])

/-- From s to t the CLEAN_ALL r has been taken: it is noted, and every slice that is not Cold sweeps. -/
structure CleansAll (s t : State) (i : Nat) (r : Req) : Prop where
  cleanAlls : t.cleanAlls = s.cleanAlls ++ [⟨s.cleanSeq, i, r, sweptSlices s⟩]
  listed : ∀ j ∈ sweptSlices s, t.slice j = { s.slice j with dir := (t.slice j).dir, sweeps := (s.slice j).sweeps ++ [.cleanAll s.cleanSeq] }
  hearth : ∀ j, (t.slice j).hearth = (s.slice j).hearth
  rest : t = { s with slices := t.slices, acc := t.acc, tel := t.tel, doms := t.doms, cleanAlls := t.cleanAlls, cleanSeq := s.cleanSeq + 1 }

theorem submit_cleanAll {r : Req} (host : HostAt s r.src p) (calm : CalmLine s i line) (hl : lineOf r.addr = line)
    (kind : r.kind = .cleanAll) (absent : dirWay s i line = none) : ∃ t, submit s r = t ∧ CleansAll s t i r := by
  obtain ⟨c, ⟨⟨sliceC, -⟩, works⟩, takes⟩ := submit_begins_room calm hl absent (by rw [kind]; rfl)
  have begun : begin_ c i r = startCleanAll (noteAcc c r) i r := by rw [begin_, kind]
  have started : startCleanAll (noteAcc c r) i r = (sweptSlices s).foldl (sweepFor s.cleanSeq)
      { noteAcc c r with cleanSeq := s.cleanSeq + 1, cleanAlls := s.cleanAlls ++ [⟨s.cleanSeq, i, r, sweptSlices s⟩] } := by
    have swept : sweptSlices (noteAcc c r) = sweptSlices s := by
      rw [noteAcc, State.blotNote, works.rest]
      rfl
    have seq : (noteAcc c r).cleanSeq = s.cleanSeq := by rw [noteAcc, State.blotNote, works.rest]
    have all : (noteAcc c r).cleanAlls = s.cleanAlls := by rw [noteAcc, State.blotNote, works.rest]
    rw [← swept, ← seq, ← all]
    rfl
  obtain ⟨listed, others, rest⟩ := sweeps_start s.cleanSeq (sweptSlices_nodup s)
    { noteAcc c r with cleanSeq := s.cleanSeq + 1, cleanAlls := s.cleanAlls ++ [⟨s.cleanSeq, i, r, sweptSlices s⟩] }
  rw [← started, ← begun] at listed others rest
  generalize begin_ c i r = t at takes listed others rest
  have rest' : t =
      { s with slices := t.slices, acc := c.acc, tel := (noteAcc c r).tel, doms := t.doms,
               cleanAlls := s.cleanAlls ++ [⟨s.cleanSeq, i, r, sweptSlices s⟩], cleanSeq := s.cleanSeq + 1 } := by
    have noted : noteAcc c r = { s with slices := c.slices, acc := c.acc, tel := (noteAcc c r).tel } := by
      rw [noteAcc, State.blotNote, works.rest, works.resv rfl, works.pcs rfl]
    rw [noted] at rest
    exact rest
  have sliceN : ∀ j, State.slice { noteAcc c r with cleanSeq := s.cleanSeq + 1, cleanAlls := s.cleanAlls ++ [⟨s.cleanSeq, i, r, sweptSlices s⟩] } j =
      c.slice j := fun _ => rfl
  have swept : ∀ j, t.slice j = { c.slice j with sweeps := (t.slice j).sweeps } := fun j => by
    by_cases hj : j ∈ sweptSlices s
    · rw [listed j hj, sliceN]
    · rw [others j hj, sliceN]
  have hearth : ∀ j, (t.slice j).hearth = (s.slice j).hearth := fun j => by
    rw [swept j]
    by_cases hj : j = i
    · rw [hj, sliceC]
    · rw [works.others j hj]
  obtain ⟨inq, confq, retryq⟩ := calm.idle
  have idle : Idle (t.slice i) := ⟨by rw [swept, sliceC]; exact inq, by rw [swept, sliceC]; exact confq, by rw [swept, sliceC]; exact retryq⟩
  have room : missUsed t i ≤ 512 := by
    have before := calm.room
    have ones : ∀ b : Bool, (if b then 1 else 0) ≤ 1 := by decide
    have one := ones (!(t.slice i).sweeps.isEmpty && (List.range 16).any fun w => walkBlocked t i (t.slice i).sweepPos w)
    have txns : (t.slice i).txns = (s.slice i).txns := by rw [swept, sliceC]
    have mine : (t.cleanAlls.filter fun c => c.at_ == i && c.req.src == t.home).length =
        (s.cleanAlls.filter fun c => c.at_ == i && c.req.src == s.home).length := by
      have same : t.home = s.home := by rw [rest']; rfl
      rw [same, rest']
      show ((s.cleanAlls ++ [_]).filter _).length = _
      rw [List.filter_append, List.filter_cons_of_neg (by rw [home_not_host host, Bool.and_false]; exact Bool.false_ne_true), List.filter_nil,
        List.append_nil]
    unfold missUsed at before ⊢
    rw [mine, txns]
    omega
  have sameSlice : ∀ j, (t.count (16 + i) 0 1).slice j = t.slice j := fun j => State.slice_count ..
  have keeps := works_count (may := ⟨true, false, false⟩) rfl t i (16 + i) 0 1
  refine ⟨_, takes room idle, ⟨?_, fun j hj => ?_, fun j => ?_, ?_⟩⟩
  · rw [keeps.cleanAlls, rest']
  · rw [sameSlice, listed j hj, sliceN]
    by_cases hi : j = i
    · rw [hi, sliceC]
    · rw [works.others j hi]
  · rw [sameSlice, hearth]
  · rw [keeps.rest, State.count_resv, State.count_pcs, rest']

/-! ## Hints (R222, R225, R227) -/

/-- From s to t a read of a line has entered the queue of its controller, and no other controller differs. -/
structure ReadQueued (s t : State) (line : Nat) (src : RdSrc) : Prop where
  rdq : ∃ r, (t.pc (hbmLoc s.ten line).pc).rdq = (s.pc (hbmLoc s.ten line).pc).rdq ++ [r] ∧ r.line = line ∧ r.src = src
  others : ∀ q, q ≠ (hbmLoc s.ten line).pc → t.pc q = s.pc q
  rest : t = { s with pcs := t.pcs }

theorem ReadQueued.works {src : RdSrc} (h : ReadQueued s t line src) (i : Nat) : Works ⟨true, false, true⟩ s t i := by
  have slices : t.slice = s.slice := by rw [h.rest]; rfl
  exact ⟨fun _ _ => by rw [slices], fun _ => by rw [h.rest], fun _ => by rw [h.rest], fun no => Bool.noConfusion no, by rw [h.rest]⟩

theorem hbmRead_new (h : HbmLit s line) (none : ∀ e ∈ (s.pc (hbmLoc s.ten line).pc).wrq, e.line ≠ line) (src : RdSrc) (cls : Nat) :
    ReadQueued s (hbmRead s line src cls) line src := by
  have noEntry : matchWr (s.pc (hbmLoc s.ten line).pc) line = Option.none := by
    rw [matchWr, List.filter_eq_nil_iff.2 fun e he c => none e he (beq_iff_eq.1 c)]
    rfl
  rw [hbmRead, wake_lit h.lit h.half, noEntry]
  dsimp only
  refine ⟨⟨⟨line, src, cls, (s.pc (hbmLoc s.ten line).pc).seq, (s.pc (hbmLoc s.ten line).pc).now, 0, false, false⟩, ?_, rfl, rfl⟩, fun q hq => ?_, rfl⟩
  · rw [State.setMode, State.pc_modPc_same, State.pc_modPc_same]
  · rw [State.setMode, State.pc_modPc_other _ _ hq, State.pc_modPc_other _ _ hq]

/-- A kindling fill has started. -/
structure Kindles (s t : State) (i line : Nat) : Prop where
  works : Works ⟨true, false, true⟩ s t i
  slice : t.slice i = { s.slice i with kindle := (s.slice i).kindle ++ [⟨line, .pending, 0, false⟩] }
  rdq : ∃ r, (t.pc (hbmLoc s.ten line).pc).rdq = (s.pc (hbmLoc s.ten line).pc).rdq ++ [r] ∧ r.line = line ∧ r.src = .kindle
  others : ∀ q, q ≠ (hbmLoc s.ten line).pc → t.pc q = s.pc q

theorem kindleFill_starts (on : s.bit (sliceReg i 0) 1 = true) (absent : findWay s i line = none) (noDir : dirWay s i line = none)
    (kindle : ∀ e ∈ (s.slice i).kindle, e.line ≠ line) (open_ : lineBusy (s.slice i) line = false) (pol : regionPolicy s i line = 0)
    (few : (s.slice i).kindle.length < 16) (h : HbmLit s line) (none : ∀ e ∈ (s.pc (hbmLoc s.ten line).pc).wrq, e.line ≠ line) (cls : Nat) :
    Kindles s (kindleFill s i line cls) i line := by
  have noEntry : ((s.slice i).kindle.any fun e => e.line == line) = false :=
    List.any_eq_false.2 fun e he => by rw [beq_eq_false_iff_ne.2 (kindle e he)]; exact Bool.false_ne_true
  have unready : ((s.slice i).kindle.filter fun e => e.st != .ready).length < 16 := Nat.lt_of_le_of_lt (List.length_filter_le ..) few
  obtain ⟨a, ha⟩ : ∃ a, a = (s.modSlice i fun _ => { s.slice i with kindle := (s.slice i).kindle ++ [⟨line, .pending, 0, false⟩] }).count (16 + i) 4 1 :=
    ⟨_, rfl⟩
  have made : kindleFill s i line cls = hbmRead a line .kindle cls := by
    rw [kindleFill, dirEntry, noDir, on, absent, noEntry, open_, pol]
    dsimp only [Option.map]
    rw [if_neg (by simp; omega), if_pos (show (s.slice i).kindle.length < 64 by omega)]
    dsimp only
    rw [if_pos (show (s.slice i).kindle.length < 64 by omega), ← ha]
  have works : Works ⟨true, false, false⟩ s a i := by
    rw [ha]
    exact (works_modSlice ..).trans (works_count rfl ..)
  have slice : a.slice i = { s.slice i with kindle := (s.slice i).kindle ++ [⟨line, .pending, 0, false⟩] } := by
    rw [ha, State.slice_count, State.slice_modSlice_same]
  have pcs : ∀ j, a.pc j = s.pc j := fun j => by rw [State.pc, works.pcs rfl]; rfl
  have queued := hbmRead_new (h.works works) (by rw [works.ten, pcs]; exact none) .kindle cls
  have worksQ := queued.works i
  obtain ⟨rdq, others, rest⟩ := queued
  rw [← made, works.ten] at rdq others
  rw [← made] at rest worksQ
  rw [pcs] at rdq
  refine ⟨works.withPcs.trans worksQ, ?_, rdq, fun q hq => (others q hq).trans (pcs q)⟩
  rw [show (kindleFill s i line cls).slice i = a.slice i by rw [rest]; rfl, slice]

/-- A hint for a line nowhere near starts a kindling fill and is completed. -/
theorem submit_prefetch {r : Req} (host : HostAt s r.src p) (calm : CalmLine s i line) (hl : lineOf r.addr = line)
    (kind : r.kind = .prefetch) (noDir : dirWay s i line = none) (on : s.bit (sliceReg i 0) 1 = true) (hints : s.bit (sliceReg i 0) 3 = true)
    (absent : findWay s i line = none) (pol : regionPolicy s i line = 0) (few : (s.slice i).kindle.length < 16) (h : HbmLit s line)
    (none : ∀ e ∈ (s.pc (hbmLoc s.ten line).pc).wrq, e.line ≠ line) :
    ∃ t, submit s r = t ∧ Maintained s t i p (s.mkRsp opcCMP r.src r.tag []) ∧
      (t.slice i).kindle = (s.slice i).kindle ++ [⟨line, .pending, 0, false⟩] ∧
      (∃ r, (t.pc (hbmLoc s.ten line).pc).rdq = (s.pc (hbmLoc s.ten line).pc).rdq ++ [r] ∧ r.line = line ∧ r.src = .kindle) ∧
      ∀ q, q ≠ (hbmLoc s.ten line).pc → t.pc q = s.pc q := by
  obtain ⟨c, begins, takes⟩ := submit_begins_room calm hl noDir (by rw [kind]; rfl)
  obtain ⟨a, ha⟩ : ∃ a, a = noteGot (noteAcc c r) r := ⟨_, rfl⟩
  have works : Works ⟨true, false, false⟩ s a i := by
    rw [ha]
    exact (begins.works.trans (works_blotNote ..)).trans (works_blotNote ..)
  have sliceA : a.slice i = { s.slice i with dir := (a.slice i).dir } := by
    rw [ha]
    exact begins.entries.slice
  have dirA : ∀ n, sget dentryD (a.slice i).dir n = sget dentryD (s.slice i).dir n := fun n => by
    rw [ha]
    exact begins.entries.dir n
  have polA : regionPolicy a i line = 0 := by
    rw [← pol]
    unfold regionPolicy
    simp only [works.bit, works.fld]
  have open_ : lineBusy (a.slice i) line = false := by
    rw [sliceA]
    exact calm.calm
  have kindle : ∀ e ∈ (a.slice i).kindle, e.line ≠ line := by
    rw [sliceA]
    exact calm.kindle
  have pcs : ∀ j, a.pc j = s.pc j := fun j => by rw [State.pc, works.pcs rfl]; rfl
  obtain ⟨worksK, sliceK, rdq, others⟩ := kindleFill_starts (cls := reqClass a r) (by rw [works.bit]; exact on)
    ((findWay_congr works.boot (by rw [sliceA]) line).trans absent) ((dirWay_congr works.boot dirA line).trans noDir) kindle open_ polA
    (by rw [sliceA]; exact few) (h.works works) (by rw [works.ten, pcs]; exact none)
  have begun : begin_ c i r = respond (kindleFill a i line (reqClass a r)) r opcCMP 0 false [] := by
    rw [begin_, kind]
    dsimp only
    rw [← ha, hl, works.bit, hints, if_pos rfl]
  have worksF := works.withPcs.trans worksK
  have replies := respond_host (poison := false) (body := []) (worksF.hostAt host) 0 (show opcCMP ≠ opcNO_TARGET by decide)
  rw [← begun, worksF.mkRsp] at replies
  generalize kindleFill a i line (reqClass a r) = f at worksF sliceK rdq others replies
  generalize begin_ c i r = t at takes replies
  have sliceT : t.slice i = { s.slice i with dir := (a.slice i).dir, kindle := (s.slice i).kindle ++ [⟨line, .pending, 0, false⟩] } := by
    rw [replies.slice, sliceK, sliceA]
  obtain ⟨inq, confq, retryq⟩ := calm.idle
  have idle : Idle (t.slice i) := ⟨by rw [sliceT]; exact inq, by rw [sliceT]; exact confq, by rw [sliceT]; exact retryq⟩
  have rest : t = { s with ports := t.ports, slices := t.slices, acc := t.acc, tel := t.tel, pcs := t.pcs } := by
    rw [replies.rest, worksF.rest, worksF.resv rfl]
  have room : missUsed t i ≤ 512 :=
    missUsed_room calm.room (by rw [rest]) (by rw [rest]; rfl) (by rw [sliceT]; exact Nat.le_succ _)
  have sameSlice : ∀ j, (t.count (16 + i) 0 1).slice j = t.slice j := fun j => State.slice_count ..
  have answered := answered_of worksF replies (.refl ⟨true, false, true⟩ t i)
  have samePc : ∀ j, (t.count (16 + i) 0 1).pc j = f.pc j := fun j => by
    rw [State.pc, State.count_pcs, replies.rest]
    rfl
  rw [works.ten] at rdq others
  refine ⟨_, takes room idle, ⟨⟨?_, fun q hq => ?_, fun j hj => ?_⟩, ?_, ?_⟩, ?_, ?_, fun q hq => ?_⟩
  · rw [State.port_count, answered.sent]
    rfl
  · rw [State.port_count, answered.ports q hq]
  · rw [sameSlice, answered.slices j hj]
  · rw [sameSlice, sliceT]
  · have keeps := works_count (may := ⟨true, false, false⟩) rfl t i (16 + i) 0 1
    rw [keeps.rest, State.count_resv, State.count_pcs, rest]
  · rw [sameSlice, sliceT]
  · rw [samePc, ← pcs]
    exact rdq
  · rw [samePc, others q hq, pcs]

/-! ## The commands -/

theorem admitted_param {src : AgentId} {tag : Tag} {priv : Bool} {addr : PA} {op : Nat} (small : op < 4) :
    (admitted s (reqMsg src tag opcMAINT priv op addr false [])).param.toNat % 4 = op := by
  show (BitVec.ofNat 8 op).toNat % 4 = op
  rw [BitVec.toNat_ofNat]
  omega

/-- A host's maintenance request reaches its slice as the state is, but for what the blotter follows. -/
theorem maintRequest_host {op off : Nat} {src : AgentId} {tag : Tag} {priv : Bool} {addr : PA} (small : op < 4)
    (h : Arrives s fun m => sameMsg opcMAINT src tag addr m && m.param.toNat % 4 == op) (host : HostAt s src p) (home : s.classify addr = .home off)
    (aligned : off % 64 = 0) (calm : CalmLine s i (off / 64)) :
    ∃ T, maintRequest s op src tag priv addr = submit { s with tel := T } (reqOf s (admitted s (reqMsg src tag opcMAINT priv op addr false []))) := by
  have room : (s.slice (s.sliceOf (lineOf addr))).inq = [] := by
    rw [lineOf_home home, ← calm.slice]
    exact calm.idle.1
  have selects : (sameMsg opcMAINT src tag addr (admitted s (reqMsg src tag opcMAINT priv op addr false [])) &&
      (admitted s (reqMsg src tag opcMAINT priv op addr false [])).param.toNat % 4 == op) = true := by
    rw [admitted_param small]
    simp [sameMsg, admitted, reqMsg]
  have good : badRequest (admitted s (reqMsg src tag opcMAINT priv op addr false [])) = false := by
    show decide (addr.toNat % 64 ≠ 0) = false
    rw [mod_home home (by decide), aligned]
    rfl
  obtain ⟨u, tel, goes⟩ := request_host (m := reqMsg src tag opcMAINT priv op addr false []) h host selects rfl home good room
  exact ⟨u.tel, by rw [maintRequest, goes, ← tel]⟩

/-- What the operation of a maintenance request asks for (R229). -/
def maintKind (priv : Bool) : Nat → ReqKind
  | 0 => .clean
  | 1 => if priv then .inv else .cleanInv
  | 2 => .cleanInv
  | _ => .cleanAll

theorem kindOf_maint {m : Msg} (opc : m.opc = opcMAINT) : kindOf m false = maintKind m.priv (m.param.toNat % 4) := by
  rw [kindOf, opc]
  rfl

theorem kind_maint {src : AgentId} {tag : Tag} {priv : Bool} {addr : PA} {op : Nat} (small : op < 4) (host : HostAt s src p) :
    (reqOf s (admitted s (reqMsg src tag opcMAINT priv op addr false []))).kind = maintKind (s.privOf src priv) op := by
  rw [kind_host (p := p) host, kindOf_maint rfl, admitted_param small]
  rfl

section
variable {T : Tel}

theorem LeavesAtOnce.tel (h : LeavesAtOnce s line) : LeavesAtOnce { s with tel := T } line := ⟨⟨h.lit.lit, h.lit.half⟩, h.none, h.room⟩

theorem Maintained.tel {m : Msg} (h : Maintained { s with tel := T } t i p m) : Maintained s t i p m := ⟨h.answered.tel, h.txns, h.rest⟩

theorem Left.tel {d : LineData} (h : Left { s with tel := T } t line d) : Left s t line d := ⟨h.wrq, h.others⟩

end

end Sys2Proof.Machine

open Sys2Proof Sys2Proof.Machine

/-- Settles O29: `submit_clean`, `submit_cleanInv`, `submit_inv`, `submit_cleanAll` and `submit_prefetch`, on the requests as they arrive. -/
theorem maintenanceActsOnTheLine : Obligations.MaintenanceActsOnTheLine := by
  intro s src tag addr p i line off pc host home aligned hline calm absent hpc lit half noEntry room
  subst hline hpc
  have lineAt : lineOf addr = off / 64 := lineOf_home home
  have leaves : LeavesAtOnce s (off / 64) := ⟨⟨lit, half⟩, noEntry, room⟩
  refine ⟨fun w d hit dirty => ⟨fun arrives => ?_, fun arrives => ?_, fun arrives right => ?_⟩, fun arrives => ?_, fun arrives on hints away pol few => ?_⟩
  · obtain ⟨T, goes⟩ := maintRequest_host (priv := false) (by decide) arrives host home aligned calm
    obtain ⟨t, submits, maintained, way, left⟩ := submit_clean (s := { s with tel := T })
      (r := reqOf s (admitted s (reqMsg src tag opcMAINT false 0 addr false []))) host.tel calm.tel lineAt (kind_maint (by decide) host) absent
      hit.tel dirty leaves.tel
    obtain ⟨answered, txns, rest⟩ := maintained.tel
    exact ⟨t, congrArg Host.Outcome.next (goes.trans submits), answered, way.tel, left.wrq, left.others, txns, rest⟩
  · obtain ⟨T, goes⟩ := maintRequest_host (priv := false) (by decide) arrives host home aligned calm
    obtain ⟨t, submits, maintained, way, left⟩ := submit_cleanInv (s := { s with tel := T })
      (r := reqOf s (admitted s (reqMsg src tag opcMAINT false 2 addr false []))) host.tel calm.tel lineAt (kind_maint (by decide) host) absent
      hit.tel dirty leaves.tel
    obtain ⟨answered, txns, rest⟩ := maintained.tel
    exact ⟨t, congrArg Host.Outcome.next (goes.trans submits), answered, way.tel, left.wrq, left.others, txns, rest⟩
  · obtain ⟨T, goes⟩ := maintRequest_host (priv := true) (by decide) arrives host home aligned calm
    have privileged : s.privOf src true = true := by
      rw [State.privOf, if_pos ⟨host.here, host.loc⟩, ← host.port, right]
      rfl
    have kind : (reqOf s (admitted s (reqMsg src tag opcMAINT true 1 addr false []))).kind = .inv := by
      rw [kind_maint (by decide) host, privileged]
      rfl
    obtain ⟨t, submits, maintained, way, pcs⟩ := submit_inv (s := { s with tel := T }) host.tel calm.tel lineAt kind absent hit.tel.way
    obtain ⟨answered, txns, rest⟩ := maintained.tel
    rw [pcs] at rest
    exact ⟨t, congrArg Host.Outcome.next (goes.trans submits), answered, way.tel, txns, rest⟩
  · obtain ⟨T, goes⟩ := maintRequest_host (priv := false) (by decide) arrives host home aligned calm
    obtain ⟨t, submits, cleanAlls, listed, hearth, rest⟩ := submit_cleanAll (s := { s with tel := T })
      (r := reqOf s (admitted s (reqMsg src tag opcMAINT false 3 addr false []))) host.tel calm.tel lineAt (kind_maint (by decide) host) absent
    refine ⟨t, _, congrArg Host.Outcome.next (goes.trans submits), cleanAlls, rfl, rfl, rfl, rfl, fun j hj => ?_, fun j n => ?_, rest⟩
    · rw [listed j hj]
      rfl
    · rw [hearth j]
      rfl
  · obtain ⟨T, goes⟩ := plainRequest_host (priv := false) (param := 0) (poison := false) (body := []) arrives host rfl home
      (show decide (addr.toNat % 64 ≠ 0) = false by rw [mod_home home (by decide), aligned]; rfl) calm
    have lit1 : s.bit (sliceReg i 0) 1 = true := by
      rw [State.bit, BitVec.getLsbD, Nat.testBit_eq_decide_div_mod_eq]
      exact decide_eq_true on
    obtain ⟨t, submits, maintained, kindle, rdq, others⟩ := submit_prefetch (s := { s with tel := T })
      (r := reqOf s (admitted s (reqMsg src tag opcPREFETCH false 0 addr false []))) host.tel calm.tel lineAt (kind_host host) absent
      lit1 hints away pol few ⟨lit, half⟩ noEntry
    obtain ⟨answered, -, rest⟩ := maintained.tel
    exact ⟨t, congrArg Host.Outcome.next (goes.trans submits), answered, kindle, rdq, others, rest⟩

end

section
/-! PROOF. The answers to snoops (R169, R177, R182, R185, R188, R189, R191). -/
namespace Sys2Proof.Machine
open Config

variable {s t u v : State} {i line p : Nat} {x y : Txn}

/-! ## Messages of the snoop-response channel (R150, R216) -/

/-- What no held message is, no held message is of a narrower kind. -/
theorem Arrives.narrow {q r : Msg → Bool} (h : Arrives s q) (narrows : ∀ m, r m = true → q m = true) : Arrives s r := by
  have no : ∀ m, q m = false → r m = false := fun m hm => by
    cases hr : r m with
    | false => rfl
    | true => exact Bool.noConfusion (hm.symm.trans (narrows m hr))
  have rx : ∀ n < nPorts, ∀ m ∈ (s.port n).rxq, r m = false := fun n hn m hm => no m (h.rx n hn m hm)
  have spine : ∀ m ∈ s.spine.req ++ s.spine.rsp ++ s.spine.fwd.map (fun h => h.msg), r m = false := fun m hm => no m (h.spine m hm)
  refine ⟨h.votes, fun m hm hv => ?_, rx, spine, h.alive, h.room⟩
  have all : ∀ {k : Msg → Bool}, (∀ n < nPorts, ∀ m ∈ (s.port n).rxq, k m = false) →
      (∀ m ∈ s.spine.req ++ s.spine.rsp ++ s.spine.fwd.map (fun h => h.msg), k m = false) →
      s.before k = s.spine.rsp ++ s.spine.fwd.map (fun h => h.msg) ++ s.spine.req ++ (List.range nPorts).flatMap fun i => (s.port i).rxq :=
    fun {k} rx spine => by
      have anyFalse : ∀ l : List Msg, (∀ m ∈ l, m ∈ s.spine.req ++ s.spine.rsp ++ s.spine.fwd.map (fun h => h.msg)) → l.any k = false :=
        fun l hl => List.any_eq_false.2 fun m hm => by rw [spine m (hl m hm)]; exact Bool.false_ne_true
      have noRx : s.findRx k = none := by
        refine List.findSome?_eq_none_iff.2 fun n hn => ?_
        rw [find?_none (rx n (List.mem_range.1 hn))]
        rfl
      rw [State.before, noRx]
      dsimp only
      rw [anyFalse s.spine.rsp fun m hm => by simp [hm], if_neg Bool.false_ne_true, anyFalse _ fun m hm => by simp_all,
        if_neg Bool.false_ne_true, anyFalse s.spine.req fun m hm => by simp [hm], if_neg Bool.false_ne_true]
  have waits := h.order m (narrows m hm) hv
  rw [State.mustWait, all h.rx h.spine] at waits
  rw [State.mustWait, all rx spine]
  exact waits

/-- A message that a slice takes at once. -/
theorem srspArrive_takes {m : Msg} {off : Nat} (h : Arrives s (sameMsg m.opc m.src m.tag m.addr)) (vc : m.vc = vcOf m.opc)
    (dst : m.dst = s.home) (home : s.classify m.addr = .home off) (slice : i = s.sliceOf (off / 64)) (takes : TakesAnswers s i) :
    srspArrive s m = srspTake s i (off / 64) m := by
  have narrow : Arrives s fun m' => sameMsg m.opc m.src m.tag m.addr m' && m'.dst.dev == s.devNum :=
    h.narrow fun m' hm => (Bool.and_eq_true_iff.1 hm).1
  have selects : (sameMsg m.opc m.src m.tag m.addr m && m.dst.dev == s.devNum) = true := by
    rw [dst]
    have dev : s.home.dev = s.devNum := by
      have lt : s.devNum < 16 := by
        rw [State.devNum, State.fld, wfld]
        exact Nat.mod_lt _ (by decide)
      show (mkAgent s.devNum 63).dev = s.devNum
      simp [mkAgent, AgentId.dev]
      omega
    rw [dev]
    simp [sameMsg]
  obtain ⟨free, room⟩ := takes.free
  have lineAt : homeLine s m.addr = some (off / 64) := by rw [homeLine, home]
  have held : (s.heldMsg fun m' => sameMsg m.opc m.src m.tag m.addr m' && m'.dst.dev == s.devNum).getD m = m := by rw [narrow.heldMsg]; rfl
  rw [srspArrive]
  dsimp only
  rw [held, narrow.takeMsg, lineAt]
  dsimp only
  rw [← slice, h.alive.1, if_neg Bool.false_ne_true, narrow.order m selects vc, Bool.false_or,
    decide_eq_false (Nat.not_le_of_lt room), if_neg Bool.false_ne_true, takes.lit, free]
  rfl

/-! ## One transaction differs -/

theorem txnOf_line (h : txnOf s i line = some x) : x.line = line :=
  beq_iff_eq.1 (List.find?_some (p := fun t : Txn => t.line == line) h)

/-- What changes the transactions of a line finds the transactions of every line as before. -/
theorem find?_map_lines {f : Txn → Txn} (keeps : ∀ y, (f y).line = y.line) (k : Nat) (l : List Txn) :
    (l.map fun t => if t.line = line then f t else t).find? (fun t => t.line == k) =
      (l.find? fun t => t.line == k).map fun t => if t.line = line then f t else t := by
  rw [List.find?_map]
  refine congrArg (Option.map _) (congrArg (List.find? · l) (funext fun t => ?_))
  show ((if t.line = line then f t else t).line == k) = (t.line == k)
  split
  · rw [keeps]
  · rfl

/-- From s to t only the transactions of a line differ; the one that counts is now y. -/
structure TxnNow (s t : State) (i line : Nat) (y : Txn) : Prop where
  here : txnOf t i line = some y
  slices : ∀ j, j ≠ i → t.slice j = s.slice j
  slice : t.slice i = { s.slice i with txns := (t.slice i).txns }
  others : ∀ l, l ≠ line → txnOf t i l = txnOf s i l
  rest : t = { s with slices := t.slices }

theorem TxnNow.refl (h : txnOf s i line = some x) : TxnNow s s i line x := ⟨h, fun _ _ => rfl, rfl, fun _ _ => rfl, rfl⟩

theorem TxnNow.mod (h : TxnNow s t i line x) {f : Txn → Txn} (keeps : ∀ y, (f y).line = y.line) : TxnNow s (modTxn t i line f) i line (f x) := by
  refine ⟨?_, fun j hj => ?_, ?_, fun l hl => ?_, ?_⟩
  · rw [txnOf, modTxn_slice]
    dsimp only
    rw [find?_map_lines keeps, show (t.slice i).txns.find? (fun t => t.line == line) = some x from h.here, Option.map_some,
      if_pos (txnOf_line h.here)]
  · rw [modTxn, State.slice_modSlice_other _ _ hj, h.slices j hj]
  · rw [modTxn_slice, h.slice]
  · rw [← h.others l hl, txnOf, modTxn_slice]
    dsimp only
    rw [find?_map_lines keeps, show (t.slice i).txns.find? (fun t => t.line == l) = txnOf t i l from rfl]
    cases found : txnOf t i l with
    | none => rfl
    | some y => rw [Option.map_some, if_neg fun c => hl ((txnOf_line found).symm.trans c)]
  · rw [modTxn, State.modSlice, h.rest]

/-- The same slices, however they are stored. -/
structure SameSlices (s t : State) : Prop where
  slice : ∀ j, t.slice j = s.slice j
  rest : t = { s with slices := t.slices }

theorem modSlice_same {f : Slice → Slice} (h : f (s.slice i) = s.slice i) : SameSlices s (s.modSlice i f) := by
  refine ⟨fun j => ?_, rfl⟩
  by_cases hj : j = i
  · rw [hj, State.slice_modSlice_same, h]
  · rw [State.slice_modSlice_other _ _ hj]

theorem TxnNow.sameSlices (h : TxnNow s t i line y) (same : SameSlices t u) : TxnNow s u i line y := by
  refine ⟨?_, fun j hj => ?_, ?_, fun l hl => ?_, ?_⟩
  · rw [txnOf, same.slice]
    exact h.here
  · rw [same.slice, h.slices j hj]
  · rw [same.slice, h.slice]
  · rw [← h.others l hl, txnOf, txnOf, same.slice]
  · rw [same.rest, h.rest]

/-- No displaced entry of the line is in the eviction buffer. -/
def NotDisplaced (s : State) (i line : Nat) : Prop := ∀ e ∈ (s.slice i).evbuf, e.line ≠ line

theorem evbuf_map_same {f : EvEntry → EvEntry} {l : List EvEntry} (none : ∀ e ∈ l, e.line ≠ line) :
    (l.map fun e => if e.line = line then f e else e) = l :=
  (List.map_congr_left fun e he => if_neg (none e he)).trans (List.map_id' l)

theorem TxnNow.buffer (h : TxnNow s t i line y) (none : NotDisplaced s i line) : NotDisplaced t i line := by
  unfold NotDisplaced
  rw [h.slice]
  exact none

theorem TxnNow.modBuffer (h : TxnNow s t i line y) (none : NotDisplaced s i line) (f : EvEntry → EvEntry) :
    TxnNow s (t.modSlice i fun x => { x with evbuf := x.evbuf.map fun e => if e.line = line then f e else e }) i line y :=
  h.sameSlices (modSlice_same (by rw [evbuf_map_same (h.buffer none)]))

/-- An answered snoop is no longer awaited. -/
theorem TxnNow.endSnoop (h : TxnNow s t i line y) (none : NotDisplaced s i line) (k : Nat) :
    TxnNow s (endSnoop t i line k) i line { y with snps := y.snps.filter fun n => n.host != k } :=
  (h.mod (f := fun t => { t with snps := t.snps.filter fun n => n.host != k }) fun _ => rfl).modBuffer none _

theorem TxnNow.markGone (h : TxnNow s t i line y) (k : Nat) : TxnNow s (markGone t i line k) i line { y with gone := y.gone ++ [k] } :=
  h.mod (f := fun t => { t with gone := t.gone ++ [k] }) fun _ => rfl

/-! ## A transaction that goes on -/

theorem evFinish_same (none : NotDisplaced s i line) : SameSlices s (evFinish s i line) := by
  refine modSlice_same ?_
  split
  · rfl
  · rw [List.filter_eq_self.2 fun e he => by rw [beq_eq_false_iff_ne.2 (none e he)]; rfl]

/-- What has been done for a line leaves nothing else to do at an idle slice. -/
theorem goOn_same (goes : advance s i line = t) (idle : Idle (t.slice i)) (none : NotDisplaced t i line) : SameSlices t (goOn s i line) := by
  have same := evFinish_same none
  rw [goOn, goes, settle_idle (by rw [same.slice]; exact idle)]
  exact same

/-- An open transaction that awaits answers waits. -/
theorem advance_waits (here : txnOf s i line = some x) (stage : x.stage = 0) (snps : x.snps ≠ []) : advance s i line = s := by
  have gathers : gatherTxn s i line = s := by
    rw [gatherTxn, here]
    exact if_pos (Or.inr (Or.inl snps))
  have late : lateTxn s i line = s := by
    rw [lateTxn, here]
    exact if_neg fun c => absurd (stage.symm.trans c.1) (by decide)
  rw [advance_stages, gathers, late, finishTxn, here]
  exact if_neg fun c => absurd (stage.symm.trans c.1) (by decide)

theorem TxnNow.goOn_waits (h : TxnNow s t i line y) (stage : y.stage = 0) (snps : y.snps ≠ []) (idle : Idle (s.slice i))
    (none : NotDisplaced s i line) : TxnNow s (goOn t i line) i line y := by
  obtain ⟨inq, confq, retryq⟩ := idle
  refine h.sameSlices (goOn_same (advance_waits h.here stage snps) ⟨?_, ?_, ?_⟩ (h.buffer none))
  · rw [h.slice]; exact inq
  · rw [h.slice]; exact confq
  · rw [h.slice]; exact retryq

/-! ## One of several answers -/

theorem awaited_of {h : Nat} {tag : Tag} (here : txnOf s i line = some x) (waits : ∃ n ∈ x.snps, n.host = h ∧ n.tag = tag) : awaited s i line h tag = true := by
  obtain ⟨n, hn, host, tag'⟩ := waits
  rw [awaited, here]
  refine Bool.or_eq_true_iff.2 (Or.inl (List.any_eq_true.2 ⟨n, hn, ?_⟩))
  rw [host, tag', beq_self_eq_true, beq_self_eq_true]
  rfl

/-- An answer to a snoop that its slice awaits is taken. -/
theorem srspTake_answer {m : Msg} {a : Answer} (answer : answerOf m.opc = some a) (loc : m.src.loc < 32) (here : txnOf s i line = some x)
    (waits : ∃ n ∈ x.snps, n.host = hostIdx m.src ∧ n.tag = m.tag) : srspTake s i line m =
      goOn (takeAnswer s i line (hostIdx m.src) a (BitVec.ofNat 512 (ofWordsLE m.body)) (m.param.getLsbD 0) m.poison) i line := by
  rw [srspTake, answer]
  dsimp only
  rw [if_neg fun c => c.elim (fun c => Nat.not_le_of_lt loc c) fun c => Bool.noConfusion ((awaited_of here waits).symm.trans c)]

/-- A message of an agent that answers for a line, as its slice takes it. -/
theorem srsp_answer {opc off : Nat} {src : AgentId} {tag : Tag} {addr : PA} {dirty bad : Bool} {body : List Word} {a : Answer}
    (h : Arrives s (sameMsg opc src tag addr)) (vc : vcOf opc = 2) (answer : answerOf opc = some a) (home : s.classify addr = .home off)
    (slice : i = s.sliceOf (off / 64)) (takes : TakesAnswers s i) (loc : src.loc < 32) (here : txnOf s i (off / 64) = some x)
    (waits : ∃ n ∈ x.snps, n.host = hostIdx src ∧ n.tag = tag) : srspArrive s (srspMsg s opc src tag addr dirty bad body) =
      goOn (takeAnswer s i (off / 64) (hostIdx src) a (BitVec.ofNat 512 (ofWordsLE body)) ((BitVec.ofNat 8 (b2n dirty)).getLsbD 0) bad) i (off / 64) :=
  (srspArrive_takes (m := srspMsg s opc src tag addr dirty bad body) h vc.symm rfl home slice takes).trans (srspTake_answer answer loc here waits)

theorem filter_ne_nil {h : Nat} {l : List Snoop} (more : ∃ n ∈ l, n.host ≠ h) : (l.filter fun n => n.host != h) ≠ [] := by
  obtain ⟨n, hn, ne⟩ := more
  exact List.ne_nil_of_mem (List.mem_filter.2 ⟨hn, bne_iff_ne.2 ne⟩)

/-! ## Snoops that time out (R169) -/

theorem snoopPending_of (none : NotDisplaced s i line) (here : txnOf s i line = some x) (k : Nat) :
    snoopPending s i line k = x.snps.any fun n => n.host == k && !n.gone := by
  have buf : ((s.slice i).evbuf.any fun e => e.line == line && e.snps.any fun n => n.host == k && !n.gone) = false :=
    List.any_eq_false.2 fun e he => by rw [beq_eq_false_iff_ne.2 (none e he)]; exact Bool.false_ne_true
  rw [snoopPending, here]
  dsimp only
  rw [buf, Bool.or_false]

/-- The slices as they are, the timeout noted. -/
def noteTimeout (s : State) (i line k : Nat) : State := (s.setErr (dirReg 8) 0 0x30 (dirInfo s i line (some k))).count (16 + i) 9 1

theorem noteTimeout_frame (s : State) (i line k : Nat) : (∀ j, (noteTimeout s i line k).slice j = s.slice j) ∧
    (noteTimeout s i line k).bit (dirReg 8) 0 = true ∧
    noteTimeout s i line k = { s with reg := (noteTimeout s i line k).reg, evt := (noteTimeout s i line k).evt, acc := (noteTimeout s i line k).acc } := by
  have frame := (setErr_frame s (dirReg 8) 0 0x30 (dirInfo s i line (some k))).1
  have sets := setErr_sets s (dirReg 8) 0 0x30 (dirInfo s i line (some k)) (by decide)
  rw [noteTimeout]
  generalize s.setErr (dirReg 8) 0 0x30 (dirInfo s i line (some k)) = u at frame sets ⊢
  have keeps := works_count (may := ⟨true, false, false⟩) rfl u i (16 + i) 9 1
  refine ⟨fun j => ?_, by rw [keeps.bit]; exact sets, ?_⟩
  · rw [State.slice_count, frame]
    rfl
  · rw [State.count_frame, frame]

/-- A timeout of a host that does not own the line, or whose notice has been taken. -/
theorem timeoutSnoop_plain {k : Nat} (here : txnOf s i line = some x) (plain : x.owner ≠ some k ∨ k ∈ x.gone) :
    timeoutSnoop s i line k = endSnoop (markGone (noteTimeout s i line k) i line k) i line k := by
  have owner : (x.owner == some k && !x.gone.contains k) = false := by
    rcases plain with other | gone
    · rw [beq_eq_false_iff_ne.2 other, Bool.false_and]
    · rw [List.contains_iff_mem.2 gone, Bool.not_true, Bool.and_false]
  rw [timeoutSnoop, here]
  dsimp only
  rw [if_neg (show ¬ (x.owner == some k && !x.gone.contains k) = true by rw [owner]; exact Bool.false_ne_true)]
  rfl

/-- A timeout of the host that owns the line. -/
theorem timeoutSnoop_owner {k : Nat} (here : txnOf s i line = some x) (owner : x.owner = some k) (held : k ∉ x.gone) :
    timeoutSnoop s i line k =
      endSnoop (markGone (noteTimeout (poisonHome s i line) i line k) i line k) i line k := by
  have owns : (x.owner == some k && !x.gone.contains k) = true := by
    have no : x.gone.contains k = false := Bool.eq_false_iff.2 fun c => held (List.contains_iff_mem.1 c)
    rw [owner, no, beq_self_eq_true]
    rfl
  rw [timeoutSnoop, here]
  dsimp only
  rw [if_pos (show (x.owner == some k && !x.gone.contains k) = true from owns)]
  rfl

/-- A transaction of a line that is poisoned. -/
def poisonTxn (t : Txn) : Txn := { t with fetch := match t.fetch with | .got d _ f => .got d true f | f => f }

/-- Every copy of a line outside the Hearth's ways is poisoned. -/
def poisonBeside (s : State) (i line : Nat) : State :=
  poisonHbm (s.modSlice i fun x =>
    { x with kindle := x.kindle.map fun e => if e.line = line then { e with poison := true } else e,
             installs := x.installs.map fun n => if n.line = line then { n with poison := true } else n,
             outWr := x.outWr.map fun o => if o.line = line then { o with poison := true } else o,
             txns := x.txns.map fun t => if t.line = line then poisonTxn t else t }) line

theorem poisonHome_eq (s : State) (i line : Nat) : poisonHome s i line = poisonBeside s i line ∨
    ∃ w h, poisonHome s i line = poisonBeside (s.setHway i (s.setOf line) w h) i line := by
  unfold poisonHome
  cases findWay s i line with
  | none => exact Or.inl rfl
  | some w => exact Or.inr ⟨w, _, rfl⟩

/-- What is left of a slice, and of the stacks, when a line has been poisoned at home. -/
structure Poisoned (s t : State) (i line : Nat) (x : Txn) : Prop where
  txn : ∃ y, txnOf t i line = some y ∧ y.snps = x.snps ∧ y.stage = x.stage
  evbuf : (t.slice i).evbuf = (s.slice i).evbuf
  idle : Idle (s.slice i) → Idle (t.slice i)
  hbm : ∀ l, t.hbmAt l = if l = line then { s.hbmAt line with poison := true } else s.hbmAt l

theorem modSlice_ret {j : Nat} (same : u.slice j = s.slice j) (k : Nat) (g : List Returned → List Returned) :
    (u.modSlice k fun x => { x with ret := g x.ret }).slice j =
      { s.slice j with ret := ((u.modSlice k fun x => { x with ret := g x.ret }).slice j).ret } := by
  by_cases hj : j = k
  · rw [← hj, State.slice_modSlice_same, same]
  · rw [State.slice_modSlice_other _ _ hj, same]

theorem poisonHbm_slice (s : State) (line j : Nat) :
    (poisonHbm s line).slice j = { s.slice j with ret := ((poisonHbm s line).slice j).ret } :=
  modSlice_ret (State.slice_modPc ..) _ _

theorem poisonBeside_leaves (here : txnOf s i line = some x) : Poisoned s (poisonBeside s i line) i line x := by
  obtain ⟨u, hu⟩ : ∃ u, u = s.modSlice i fun x =>
      { x with kindle := x.kindle.map fun e => if e.line = line then { e with poison := true } else e,
               installs := x.installs.map fun n => if n.line = line then { n with poison := true } else n,
               outWr := x.outWr.map fun o => if o.line = line then { o with poison := true } else o,
               txns := x.txns.map fun t => if t.line = line then poisonTxn t else t } := ⟨_, rfl⟩
  have slice : u.slice i = { s.slice i with
      kindle := (u.slice i).kindle, installs := (u.slice i).installs, outWr := (u.slice i).outWr
      txns := (s.slice i).txns.map fun t => if t.line = line then poisonTxn t else t } := by
    rw [hu, State.slice_modSlice_same]
  have hbm : u.hbm = s.hbm := by rw [hu]; rfl
  have after := poisonHbm_slice u line i
  have made : poisonBeside s i line = poisonHbm u line := by rw [hu]; rfl
  have lines : ∀ l, (poisonHbm u line).hbmAt l = if l = line then { s.hbmAt line with poison := true } else s.hbmAt l := fun l => by
    show sget hbmLineD (sset hbmLineD u.hbm line { sget hbmLineD u.hbm line with poison := true }) l = _
    rw [sget_sset, hbm]
    rfl
  rw [made]
  generalize poisonHbm u line = t at after lines
  have txns : (t.slice i).txns = (s.slice i).txns.map fun t => if t.line = line then poisonTxn t else t := by rw [after, slice]
  refine ⟨⟨poisonTxn x, ?_, rfl, rfl⟩, by rw [after, slice], fun ⟨inq, confq, retryq⟩ => ⟨?_, ?_, ?_⟩, lines⟩
  · rw [txnOf, txns, find?_map_lines (f := poisonTxn) fun _ => rfl, show (s.slice i).txns.find? (fun t => t.line == line) = some x from here, Option.map_some,
      if_pos (txnOf_line here)]
  · rw [after, slice]; exact inq
  · rw [after, slice]; exact confq
  · rw [after, slice]; exact retryq

theorem poisonHome_leaves (here : txnOf s i line = some x) : Poisoned s (poisonHome s i line) i line x := by
  rcases poisonHome_eq s i line with same | ⟨w, h, same⟩
  · rw [same]
    exact poisonBeside_leaves here
  · have slice := setHway_onlyHearth s i (s.setOf line) w h
    have hbm : ∀ l, (s.setHway i (s.setOf line) w h).hbmAt l = s.hbmAt l := fun _ => rfl
    rw [same]
    generalize s.setHway i (s.setOf line) w h = a at slice hbm
    obtain ⟨txn, evbuf, idle, lines⟩ := poisonBeside_leaves (s := a) (i := i) (line := line) (x := x) (by rw [txnOf, slice]; exact here)
    refine ⟨txn, by rw [evbuf, slice], fun ⟨inq, confq, retryq⟩ => idle ⟨?_, ?_, ?_⟩, fun l => ?_⟩
    · rw [slice]; exact inq
    · rw [slice]; exact confq
    · rw [slice]; exact retryq
    · rw [lines, hbm, hbm]

/-! ## The last answer (R180, R182, R184, R185, R188) -/

/-- A grant leaves: from s, by v with the entry of its line written, to the response and the transaction that awaits its GACK. -/
structure GrantLeft (s v t : State) (i line p : Nat) (x : Txn) (e : DEntry) (m : Msg) : Prop where
  answered : Answered s t i p m
  here : txnOf t i line = some { x with stage := 2 }
  entry : dirEntry t i line = some e
  slice : t.slice i = { s.slice i with dir := (t.slice i).dir, txns := (t.slice i).txns }
  rest : t = { v with ports := t.ports, slices := t.slices }

theorem grantLeft {may : May} {w : Nat} {e : DEntry} {opc : Nat} {poison : Bool} {body : List Word} (works : Works may s v i)
    (slice : v.slice i = { s.slice i with dir := sset dentryD (s.slice i).dir (s.setOf line * 16 + w) e }) (host : HostAt s x.req.src p)
    (here : txnOf s i line = some x) (way : dirWay s i line = some w) (valid : e.valid = true) (its : e.line = line) (answer : opc ≠ opcNO_TARGET) :
    GrantLeft s v (modTxn (respond v x.req opc 0 poison body) i line fun t => { t with stage := 2 }) i line p x e
      { s.mkRsp opc x.req.src x.req.tag body with poison := poison } := by
  have replies := respond_host (r := x.req) (poison := poison) (body := body) (works.hostAt host) 0 answer
  rw [works.mkRsp] at replies
  generalize respond v x.req opc 0 poison body = u at replies ⊢
  have after := works_modTxn may u i line fun t => { t with stage := 2 }
  have now := (TxnNow.refl (s := u) (i := i) (line := line) (x := x) (by
    rw [txnOf, replies.slice, slice]
    exact here)).mod (f := fun t => { t with stage := 2 }) fun _ => rfl
  have slice' : (modTxn u i line fun t => { t with stage := 2 }).slice i = { s.slice i with
      dir := sset dentryD (s.slice i).dir (s.setOf line * 16 + w) e
      txns := (s.slice i).txns.map fun t => if t.line = line then { t with stage := 2 } else t } := by
    rw [modTxn_slice, replies.slice, slice]
  have boot : (modTxn u i line fun t => { t with stage := 2 }).boot = s.boot := by rw [after.boot, replies.rest, ← works.boot]
  refine ⟨answered_of works replies after, now.here, ?_, by rw [slice'], ?_⟩
  · rw [dirEntry, dirWay_dirSet (s := s) way valid its boot (by rw [slice'])]
    refine congrArg some ?_
    rw [dirGet, setOf_congr boot, slice', sget_sset_same]
  · rw [modTxn, replies.rest]
    rfl

/-- What stands in the directory for a line. -/
theorem dirEntry_way {e : DEntry} (h : dirEntry s i line = some e) : ∃ w, dirWay s i line = some w ∧ dirGet s i line w = e ∧ e.valid = true ∧ e.line = line := by
  rw [dirEntry, Option.map_eq_some_iff] at h
  obtain ⟨w, way, rfl⟩ := h
  have holds := List.find?_some (p := fun w => (sget dentryD (s.slice i).dir (s.setOf line * 16 + w)).valid &&
    (sget dentryD (s.slice i).dir (s.setOf line * 16 + w)).line == line) way
  exact ⟨w, way, rfl, (Bool.and_eq_true_iff.1 holds).1, beq_iff_eq.1 (Bool.and_eq_true_iff.1 holds).2⟩

/-- A host has its line alone (R188). -/
theorem grantExclusive_left {e : DEntry} (here : txnOf s i line = some x) (entry : dirEntry s i line = some e) (host : HostAt s x.req.src p)
    (upgrade : x.req.kind = .upgrade) (ok : x.ok = true) : ∃ v, Works ⟨false, true, false⟩ s v i ∧ (∀ k, sget zeroD v.resv k ≠ line + 1) ∧
      GrantLeft s v (grantExclusive s i x 0 false) i line p x { e with st := .D, bcast := false, ptrs := [hostIdx x.req.src] }
        (s.mkRsp opcGRANT_X x.req.src x.req.tag []) := by
  obtain ⟨w, way, -, valid, its⟩ := dirEntry_way entry
  obtain ⟨e', he⟩ : ∃ e', e' = { e with st := DirSt.D, bcast := false, ptrs := [hostIdx x.req.src] } := ⟨_, rfl⟩
  have works : Works ⟨false, true, false⟩ s (clearResv (dirSet s i line w e') line none) i := (works_dirSet ..).trans (works_clearResv rfl ..)
  have made : grantExclusive s i x 0 false =
      modTxn (respond (clearResv (dirSet s i line w e') line none) x.req opcGRANT_X 0 false []) i line fun t => { t with stage := 2 } := by
    rw [grantExclusive, txnOf_line here, entry]
    dsimp only
    rw [putEntry, way, if_pos ⟨upgrade, ok⟩, upgrade, if_neg (by decide), ← he]
  refine ⟨_, works, fun k => clearResv_gone _ line k, ?_⟩
  rw [made, ← he]
  exact grantLeft works (dirSet_slice ..) host here way (by rw [he]; exact valid) (by rw [he]; exact its) (by decide)

/-- A host takes its place in the entry of a line (R184, R187). -/
theorem grantShared_left {e live : DEntry} {d : LineData} {bad : Bool} (here : txnOf s i line = some x) (entry : dirEntry s i line = some e)
    (alive : liveEntry s i x = some live) (valid : live.valid = e.valid) (its : live.line = e.line) (bcast : live.bcast = false)
    (new : live.ptrs.contains (hostIdx x.req.src) = false) (few : live.ptrs.length < 2) (host : HostAt s x.req.src p) :
    ∃ v, Works ⟨false, false, false⟩ s v i ∧ GrantLeft s v (grantShared s i x d bad) i line p x (namedEntry live (hostIdx x.req.src) x.lead)
      { s.mkRsp (if x.lead then opcDATA_L else opcDATA_S) x.req.src x.req.tag (wordsLE 16 d.toNat) with poison := bad } := by
  obtain ⟨w, way, -, good, mine⟩ := dirEntry_way entry
  have at_ := txnOf_line here
  rw [grantShared_names (at_.symm ▸ way) alive bcast new few, at_]
  exact ⟨_, works_dirSet .., grantLeft (works_dirSet ⟨false, false, false⟩ s i line w _) (dirSet_slice ..) host here way
    (valid.trans good) (its.trans mine) (by split <;> decide)⟩

/-- What has been granted awaits its GACK, at an idle slice. -/
theorem goOn_granted {w : Txn} (gathers : gatherTxn s i line = t) (here : txnOf t i line = some w) (stage : w.stage = 2) (gack : w.gack = true)
    (idle : Idle (t.slice i)) (none : NotDisplaced t i line) : SameSlices t (goOn s i line) :=
  goOn_same (advance_granted gathers here stage gack) idle none

/-- A transaction whose last snoop has been answered, with nothing else under way at its line. -/
structure LastAnswer (s : State) (i line p : Nat) (x : Txn) : Prop where
  here : txnOf s i line = some x
  fresh : x.stage = 0 ∧ x.snps = [] ∧ x.secs = [] ∧ x.gack = true ∧ x.snpData = none
  idle : Idle (s.slice i)
  beside : NothingBeside s i line
  host : HostAt s x.req.src p
  none : s.purge = []

theorem LastAnswer.still (h : LastAnswer s i line p x) : lineMoving (s.slice i) line = false := by
  obtain ⟨-, -, installs, outWr⟩ := h.beside
  refine Bool.or_eq_false_iff.2 ⟨List.any_eq_false.2 fun n hn => ?_, List.any_eq_false.2 fun o ho => ?_⟩
  · rw [beq_eq_false_iff_ne.2 (installs n hn)]; exact Bool.false_ne_true
  · rw [beq_eq_false_iff_ne.2 (outWr o ho)]; exact Bool.false_ne_true

/-- The grant that the last answer has let go. -/
structure LastGrant (s t : State) (i line p : Nat) (e : DEntry) (m : Msg) : Prop where
  answered : Answered s t i p m
  entry : dirEntry t i line = some e
  txn : ∃ y, txnOf t i line = some y ∧ y.stage = 2 ∧ y.gack = true ∧ y.snps = []
  hearth : (t.slice i).hearth = (s.slice i).hearth
  rest : t = { s with ports := t.ports, slices := t.slices, acc := t.acc, tel := t.tel, resv := t.resv }

theorem LastAnswer.grants {v q : State} {T : Tel} {e : DEntry} {m : Msg} (h : LastAnswer s i line p x) (works : Works ⟨false, true, false⟩ { s with tel := T } v i)
    (left : GrantLeft { s with tel := T } v q i line p x e m) (gathers : gatherTxn s i line = q) :
    LastGrant s (goOn s i line) i line p e m ∧ (goOn s i line).resv = v.resv := by
  obtain ⟨answered, here, entry, slice, rest⟩ := left
  obtain ⟨inq, confq, retryq⟩ := h.idle
  obtain ⟨-, snps, -, gack, -⟩ := h.fresh
  have same := goOn_granted (w := { x with stage := 2 }) gathers here rfl gack ⟨by rw [slice]; exact inq, by rw [slice]; exact confq, by rw [slice]; exact retryq⟩
    (by unfold NotDisplaced; rw [slice]; exact h.beside.2.1)
  generalize goOn s i line = t at same
  have port : t.port = q.port := by rw [same.rest]; rfl
  refine ⟨⟨⟨?_, fun k hk => ?_, fun j hj => ?_⟩, ?_, ⟨{ x with stage := 2 }, ?_, rfl, gack, snps⟩, ?_, ?_⟩, by rw [same.rest, rest]⟩
  · rw [port]; exact answered.sent
  · rw [port]; exact answered.ports k hk
  · rw [same.slice]; exact answered.slices j hj
  · rw [← entry]
    exact dirEntry_congr (by rw [same.rest]) (fun n => by rw [same.slice]) line
  · rw [txnOf, same.slice]; exact here
  · rw [same.slice, slice]; rfl
  · rw [same.rest, rest, works.rest, works.acc rfl, works.pcs rfl]

/-- UPGRADE of a holder, whose other sharers hold nothing any more (R188). -/
theorem LastAnswer.upgrades {e : DEntry} (h : LastAnswer s i line p x) (entry : dirEntry s i line = some e) (kind : x.req.kind = .upgrade) (ok : x.ok = true) :
    LastGrant s (goOn s i line) i line p { e with st := .D, bcast := false, ptrs := [hostIdx x.req.src] } (s.mkRsp opcGRANT_X x.req.src x.req.tag []) ∧
      ∀ k, sget zeroD (goOn s i line).resv k ≠ line + 1 := by
  obtain ⟨stage, snps, -, gack, noData⟩ := h.fresh
  have needs : needsData x = false := by rw [needsData, kind, ok]; rfl
  have gathers := gatherTxn_noData h.here stage snps h.still noData needs
  rw [performTxn_noData needs (by rw [txnOf_line h.here]; exact h.still)] at gathers
  obtain ⟨T, commits⟩ := commit_exclusive (s := s) (i := i) (d := 0) (bad := false) (Or.inr kind) gack
  obtain ⟨v, works, gone, left⟩ := grantExclusive_left (s := { s with tel := T }) h.here entry h.host.tel kind ok
  obtain ⟨grant, resv⟩ := h.grants works left (gathers.trans commits)
  exact ⟨grant, fun k => by rw [resv]; exact gone k⟩

/-- RD_SHARED with the data of the host that owned the line (R185). -/
theorem LastAnswer.shares {e live : DEntry} {d : LineData} {bad : Bool} (h : LastAnswer s i line p x) (entry : dirEntry s i line = some e)
    (kind : x.req.kind = .rdShared) (fetch : x.fetch = .got d bad false) (alive : liveEntry s i x = some live) (valid : live.valid = e.valid)
    (its : live.line = e.line) (bcast : live.bcast = false) (new : live.ptrs.contains (hostIdx x.req.src) = false) (few : live.ptrs.length < 2) :
    LastGrant s (goOn s i line) i line p (namedEntry live (hostIdx x.req.src) x.lead)
      { s.mkRsp (if x.lead then opcDATA_L else opcDATA_S) x.req.src x.req.tag (wordsLE 16 d.toNat) with poison := bad } ∧
    (goOn s i line).resv = s.resv := by
  obtain ⟨stage, snps, secs, gack, noData⟩ := h.fresh
  have needs : needsData x = true := by rw [needsData, kind]
  have gathers : gatherTxn s i line = performTxn s i x := by
    rw [gatherTxn, h.here]
    dsimp only
    rw [if_neg (by rw [h.still]; simp [stage, snps]), noData]
    dsimp only
    rw [h.here]
    dsimp only
    rw [fetch, if_neg (fun c => absurd c.2 nofun), h.here]
  rw [performTxn_got needs fetch secs (by rw [txnOf_line h.here]; exact h.still)] at gathers
  obtain ⟨T, commits⟩ := commit_rdShared (s := s) (i := i) (d := d) (bad := bad) kind gack
  obtain ⟨v, works, left⟩ := grantShared_left (s := { s with tel := T }) h.here entry alive valid its bcast new few h.host.tel
  have works' : Works ⟨false, true, false⟩ { s with tel := T } v i := ⟨works.others, works.acc, fun no => Bool.noConfusion no, works.pcs, works.rest⟩
  obtain ⟨grant, resv⟩ := h.grants works' left (gathers.trans commits)
  exact ⟨grant, resv.trans (works.resv rfl)⟩

/-! ### Dirty data of the owner (R182) -/

/-- The way of a line that has new data from its owner, whose age is what it was (R182, R206). -/
def broughtWay (s : State) (i line w : Nat) (d : LineData) (bad : Bool) : HLine :=
  { s.hway i (s.setOf line) w with data := d, poison := bad, errs := [], dirty := true }

theorem storeLine_brought {w : Nat} {d : LineData} {bad : Bool} {cls : Nat} (way : findWay s i line = some w) :
    storeLine s i line d bad cls 0 true none none = s.setHway i (s.setOf line) w (broughtWay s i line w d bad) := by
  rw [storeLine]
  dsimp only
  rw [way]
  dsimp only
  rw [if_neg fun c => absurd c.1 (by decide), if_neg fun c => absurd c.1 (by decide)]
  rfl

/-- The transaction of a line in the Hearth has been looked up. -/
theorem lookUp_found {w : Nat} (here : txnOf s i line = some x) (way : findWay s i line = some w) : ∃ u y, lookUp s i x = u ∧
    Works ⟨true, false, false⟩ s u i ∧ u.slice i = { s.slice i with txns := (u.slice i).txns } ∧ txnOf u i line = some y ∧
    y = { x with looked := y.looked } := by
  by_cases hl : (x.looked || !(needsData x || isWriteKind x.req.kind)) = true
  · exact ⟨s, x, by rw [lookUp, if_pos hl], .refl .., rfl, here, rfl⟩
  · refine ⟨modTxn (s.count (16 + i) 1 1) i line fun t => { t with looked := true }, { x with looked := true }, ?_,
      (works_count rfl ..).trans (works_modTxn ..), ?_, ?_, rfl⟩
    · rw [lookUp, if_neg hl, txnOf_line here, if_pos (Option.isSome_iff_exists.2 ⟨w, way⟩)]
    · rw [modTxn_slice, State.slice_count]
    · exact ((TxnNow.refl (s := s.count (16 + i) 1 1) (i := i) (line := line) (x := x) (by
        rw [txnOf, State.slice_count]
        exact here)).mod (f := fun t => { t with looked := true }) fun _ => rfl).here

/-- From s to t the owner's data has replaced the line in way w, and is the data of its transaction. -/
structure Brought (s t : State) (i line w : Nat) (x y : Txn) (d : LineData) (bad : Bool) : Prop where
  works : Works ⟨true, false, false⟩ s t i
  slice : t.slice i = { s.slice i with
    hearth := sset hlineD (s.slice i).hearth (s.setOf line * 16 + w) (broughtWay s i line w d bad), txns := (t.slice i).txns }
  here : txnOf t i line = some y
  txn : y = { x with looked := y.looked, fetch := .got d bad false }

theorem takeDirty_brings {w : Nat} {d : LineData} {bad : Bool} (here : txnOf s i line = some x) (stage : x.stage = 0) (fetch : x.fetch = .none)
    (kind : x.req.kind = .rdShared) (way : findWay s i line = some w) (pol : effPolicy s i line = 0)
    (kindle : ∀ q ∈ (s.slice i).kindle, q.line ≠ line) : ∃ y, Brought s (takeDirty s i line d bad none) i line w x y d bad := by
  obtain ⟨u, z, looks, works, slice, hereU, hz⟩ := lookUp_found here way
  have hearth : (u.slice i).hearth = (s.slice i).hearth := by rw [slice]
  have polU : effPolicy u i line = 0 := by rw [← pol]; exact effPolicy_congr works (by rw [slice]; rfl) line
  have kindleU : ∀ q ∈ (u.slice i).kindle, q.line ≠ line := by rw [slice]; exact kindle
  have kindZ : z.req.kind = .rdShared := by rw [hz]; exact kind
  have home : writeHome u i line d bad none = u.setHway i (s.setOf line) w (broughtWay s i line w d bad) := by
    rw [writeHome, kindleKill_none kindleU, hereU]
    dsimp only
    rw [if_neg (show ¬ (isInvKind z.req.kind && z.stage == 0) = true by rw [kindZ]; exact Bool.false_ne_true), polU,
      storeLine_brought ((findWay_congr works.boot hearth line).trans way), works.setOf]
    rw [broughtWay, broughtWay, works.setOf, hway_congr hearth]
  have made : takeDirty s i line d bad none = modTxn (noteGot (noteFrom (u.setHway i (s.setOf line) w (broughtWay s i line w d bad)) x 5) x.req) i line
      fun t => { t with fetch := .got d bad false } := by
    rw [takeDirty, here]
    dsimp only
    rw [if_pos stage, fetch, looks]
    dsimp only
    rw [home, if_neg (by decide)]
  rw [made]
  generalize hh : broughtWay s i line w d bad = h
  have worksH := works_setHway ⟨true, false, false⟩ u i (s.setOf line) w h
  have sliceH := setHway_slice u i (s.setOf line) w h
  generalize u.setHway i (s.setOf line) w h = a at worksH sliceH ⊢
  have worksN : Works ⟨true, false, false⟩ a (noteGot (noteFrom a x 5) x.req) i := (works_blotNote ..).trans (works_blotNote ..)
  have sliceN : (noteGot (noteFrom a x 5) x.req).slice i = a.slice i := by rw [noteGot, noteFrom, State.slice_blotNote, State.slice_blotNote]
  generalize noteGot (noteFrom a x 5) x.req = b at worksN sliceN ⊢
  have hereB : txnOf b i line = some z := by
    rw [txnOf, sliceN, sliceH]
    exact hereU
  refine ⟨{ z with fetch := .got d bad false }, ((works.trans worksH).trans worksN).trans (works_modTxn ..), ?_,
    ((TxnNow.refl hereB).mod (f := fun t => { t with fetch := .got d bad false }) fun _ => rfl).here, by rw [hz]⟩
  rw [modTxn_slice, sliceN, sliceH, slice, hh]

/-- The last answer brings the owner's dirty data: it is home, and what the requester gets. -/
theorem takeDirty_lastAnswer {w k : Nat} {keeps : Bool} {n : Snoop} {e : DEntry} {d : LineData} {bad : Bool} (here : txnOf s i line = some x)
    (fresh : x.stage = 0 ∧ x.snps = [n] ∧ x.secs = [] ∧ x.gack = true ∧ x.gone = [] ∧ x.fetch = .none ∧ x.snpData = none)
    (snooped : n.host = k) (idle : Idle (s.slice i)) (beside : NothingBeside s i line) (host : HostAt s x.req.src p) (none_ : s.purge = [])
    (kind : x.req.kind = .rdShared) (way : findWay s i line = some w) (pol : effPolicy s i line = 0)
    (kindle : ∀ q ∈ (s.slice i).kindle, q.line ≠ line) (entry : dirEntry s i line = some e) (owned : e.st = .X ∨ e.st = .D)
    (bcast : e.bcast = false) (ptrs : e.ptrs = [k]) (other : hostIdx x.req.src ≠ k) :
    ∃ t, goOn (endSnoop (if keeps then takeDirty s i line d bad none else markGone (takeDirty s i line d bad none) i line k) i line k) i line = t ∧
      Answered s t i p { s.mkRsp (if x.lead then opcDATA_L else opcDATA_S) x.req.src x.req.tag (wordsLE 16 d.toNat) with poison := bad } ∧
      OneWay s t i (s.setOf line) w (broughtWay s i line w d bad) ∧
      dirEntry t i line = some { e with
        st := if x.lead then .L else .S
        ptrs := if keeps then (if x.lead then [hostIdx x.req.src, k] else [k, hostIdx x.req.src]) else [hostIdx x.req.src] } ∧
      (∃ y, txnOf t i line = some y ∧ y.stage = 2 ∧ y.gack = true ∧ y.snps = []) ∧
      t = { s with ports := t.ports, slices := t.slices, acc := t.acc, tel := t.tel } := by
  obtain ⟨stage, snps, secs, gack, gone, fetch, noData⟩ := fresh
  obtain ⟨z, works, slice, hereA, hz⟩ := takeDirty_brings (d := d) (bad := bad) here stage fetch kind way pol kindle
  generalize takeDirty s i line d bad none = a at works slice hereA
  obtain ⟨noVictim, noBuf, noInstall, noOut⟩ := beside
  have buffer : NotDisplaced a i line := by
    unfold NotDisplaced
    rw [slice]
    exact noBuf
  obtain ⟨y, now, hy⟩ : ∃ y, TxnNow a (endSnoop (if keeps then a else markGone a i line k) i line k) i line y ∧
      y = { z with gone := if keeps then [] else [k], snps := [] } := by
    have last : (z.snps.filter fun n => n.host != k) = [] := by rw [hz, show x.snps = [n] from snps]; simp [snooped]
    have before : z.gone = [] := by rw [hz]; exact gone
    cases keeps with
    | true => exact ⟨_, (TxnNow.refl hereA).endSnoop buffer k, by rw [last, ← before]; rfl⟩
    | false => exact ⟨_, ((TxnNow.refl hereA).markGone k).endSnoop buffer k, by rw [last, before]; rfl⟩
  generalize endSnoop (if keeps then a else markGone a i line k) i line k = b at now
  have sliceB : b.slice i = { s.slice i with
      hearth := sset hlineD (s.slice i).hearth (s.setOf line * 16 + w) (broughtWay s i line w d bad), txns := (b.slice i).txns } := by
    rw [now.slice, slice]
  have worksB : Works ⟨true, false, false⟩ s b i := by
    refine works.trans ⟨now.slices, fun _ => by rw [now.rest], fun _ => by rw [now.rest], fun _ => by rw [now.rest], by rw [now.rest]⟩
  have fields : y.stage = 0 ∧ y.snps = [] ∧ y.secs = [] ∧ y.gack = true ∧ y.snpData = none ∧ y.req = x.req ∧ y.lead = x.lead ∧
      y.fetch = .got d bad false ∧ y.gone = if keeps then [] else [k] := by
    rw [hy, hz]
    exact ⟨stage, rfl, secs, gack, noData, rfl, rfl, rfl, rfl⟩
  obtain ⟨stageY, snpsY, secsY, gackY, noDataY, req, lead, fetchY, goneY⟩ := fields
  obtain ⟨inq, confq, retryq⟩ := idle
  have last : LastAnswer b i line p y := by
    refine ⟨now.here, ⟨stageY, snpsY, secsY, gackY, noDataY⟩, ⟨?_, ?_, ?_⟩, ⟨?_, ?_, ?_, ?_⟩, ?_, worksB.purge.trans none_⟩
    · rw [sliceB]; exact inq
    · rw [sliceB]; exact confq
    · rw [sliceB]; exact retryq
    · rw [sliceB]; exact noVictim
    · rw [sliceB]; exact noBuf
    · rw [sliceB]; exact noInstall
    · rw [sliceB]; exact noOut
    · rw [req]; exact worksB.hostAt host
  have entryB : dirEntry b i line = some e := (dirEntry_congr worksB.boot (fun n => by rw [sliceB]) line).trans entry
  have noLead : e.st ≠ .L := by rcases owned with h | h <;> rw [h] <;> decide
  have alive := liveEntry_idle (x := y) (by rw [txnOf_line now.here]; exact entryB) last.none noLead
  have live : (e.ptrs.filter fun h => !y.gone.contains h) = if keeps then [k] else [] := by
    rw [ptrs, goneY]
    cases keeps <;> simp
  rw [live] at alive
  have away : (if keeps then [k] else []).contains (hostIdx y.req.src) = false := by
    rw [req]
    cases keeps <;> simp [other]
  obtain ⟨⟨⟨sent, ports, slices⟩, entryT, txn, hearth, rest⟩, resv⟩ := last.shares entryB (req ▸ kind) fetchY alive rfl rfl bcast away
    (by cases keeps <;> simp)
  have port : b.port = s.port := by rw [worksB.rest]; rfl
  generalize goOn b i line = t at sent ports slices entryT txn hearth rest resv
  refine ⟨t, rfl, ⟨?_, fun q hq => ?_, fun j hj => ?_⟩, oneWay_of ?_, ?_, txn, ?_⟩
  · rw [sent, port, req, lead, worksB.mkRsp]
  · rw [ports q hq, port]
  · rw [slices j hj, worksB.others j hj]
  · rw [hearth, sliceB]
  · rw [entryT, req, lead, namedEntry]
    have owns : e.st = .X ∨ e.st = .D := owned
    cases keeps <;> cases x.lead <;> simp [owns]
  · rw [resv, worksB.rest, worksB.resv rfl, worksB.pcs rfl] at rest
    rw [rest]

/-! ### Answers with data (R177, R182) -/

theorem takeAnswer_clean {k : Nat} {keeps dirty : Bool} {d : LineData} {bad : Bool} (here : txnOf s i line = some x) (clean : dirty = false) :
    takeAnswer s i line k (if keeps then .dataS else .dataI) d dirty bad =
      endSnoop (if keeps then modTxn s i line fun t => { t with snpData := some (d, bad) }
        else markGone (modTxn s i line fun t => { t with snpData := some (d, bad) }) i line k) i line k := by
  subst clean
  cases keeps
  all_goals
    unfold takeAnswer
    dsimp only
    rw [if_neg Bool.false_ne_true, here]
    rfl

theorem takeAnswer_dirty {k : Nat} {keeps dirty : Bool} {d : LineData} {bad : Bool} (brings : mayBring s i line k = true) (isDirty : dirty = true) :
    takeAnswer s i line k (if keeps then .dataS else .dataI) d dirty bad =
      endSnoop (if keeps then takeDirty s i line d bad none else markGone (takeDirty s i line d bad none) i line k) i line k := by
  subst isDirty
  cases keeps
  all_goals
    unfold takeAnswer
    dsimp only
    rw [if_pos rfl, brings]
    rfl

theorem takeAnswer_gone {k : Nat} {a : Answer} (without : a = .ackI ∨ a = .miss) (d : LineData) (dirty bad : Bool) :
    takeAnswer s i line k a d dirty bad = endSnoop (markGone s i line k) i line k := by
  rcases without with rfl | rfl <;> rfl

/-! ### The rest as it is -/

/-- What a statement says of the transactions: the one of the line is y, and nothing else of the slices differs. -/
theorem TxnNow.parts (h : TxnNow s t i line y) : (txnOf t i line = some y ∧ (∀ j, j ≠ i → t.slice j = s.slice j) ∧
    t.slice i = { s.slice i with txns := (t.slice i).txns } ∧ ∀ l, l ≠ line → txnOf t i l = txnOf s i l) ∧ t = { s with slices := t.slices } :=
  ⟨⟨h.here, h.slices, h.slice, h.others⟩, h.rest⟩

theorem body_line (d : LineData) : BitVec.ofNat 512 (ofWordsLE (wordsLE 16 d.toNat)) = d := ofWordsLE_word (by decide) d

end Sys2Proof.Machine

open Sys2Proof Sys2Proof.Machine

/-- An answer to one of several snoops, and a snoop that times out. -/
theorem oneOfSeveralAnswers (s : State) (src : AgentId) (tag : Tag) (addr : PA) (i line off : Nat) (x : Txn) (home : s.classify addr = .home off)
    (hline : line = off / 64) (slice : i = s.sliceOf line) (loc : src.loc < 32) (here : txnOf s i line = some x) (stage : x.stage = 0)
    (waits : ∃ n ∈ x.snps, n.host = hostIdx src ∧ n.tag = tag) (more : ∃ n ∈ x.snps, n.host ≠ hostIdx src) (idle : Idle (s.slice i))
    (none : NotDisplaced s i line) (takes : TakesAnswers s i) :
    let one := fun (t : State) (y : Txn) => TxnNow s t i line y
    let rest := x.snps.filter fun n => n.host != hostIdx src
    (Arrives s (sameMsg opcSNP_ACK_I src tag addr) →
      one (srspArrive s (srspMsg s opcSNP_ACK_I src tag addr false false [])) { x with snps := rest, gone := x.gone ++ [hostIdx src] }) ∧
    (Arrives s (sameMsg opcSNP_ACK_S src tag addr) →
      one (srspArrive s (srspMsg s opcSNP_ACK_S src tag addr false false [])) { x with snps := rest }) ∧
    (∀ (d : LineData) (bad : Bool), Arrives s (sameMsg opcSNP_DATA_I src tag addr) →
      one (srspArrive s (srspMsg s opcSNP_DATA_I src tag addr false bad (wordsLE 16 d.toNat)))
        { x with snps := rest, gone := x.gone ++ [hostIdx src], snpData := some (d, bad) }) ∧
    (∀ (d : LineData) (bad : Bool), Arrives s (sameMsg opcSNP_DATA_S src tag addr) →
      one (srspArrive s (srspMsg s opcSNP_DATA_S src tag addr false bad (wordsLE 16 d.toNat))) { x with snps := rest, snpData := some (d, bad) }) ∧
    (Arrives s (sameMsg opcSNP_GONE src tag addr) → x.taken.contains (hostIdx src) = false →
      one (srspArrive s (srspMsg s opcSNP_GONE src tag addr false false []))
        { x with snps := x.snps.map fun n => if n.host = hostIdx src then { n with gone := true } else n }) ∧
    (Arrives s (sameMsg opcSNP_MISS src tag addr) →
      one (srspArrive s (srspMsg s opcSNP_MISS src tag addr false false [])) { x with snps := rest, gone := x.gone ++ [hostIdx src] }) := by
  subst hline
  have left : (x.snps.filter fun n => n.host != hostIdx src) ≠ [] := filter_ne_nil more
  have now := TxnNow.refl here
  have answered := fun {opc : Nat} {a : Answer} (h : Arrives s (sameMsg opc src tag addr)) (vc : vcOf opc = 2) (answer : answerOf opc = some a)
    (bad : Bool) (body : List Word) => srsp_answer (dirty := false) (bad := bad) (body := body) h vc answer home slice takes loc here waits
  refine ⟨fun h => ?_, fun h => ?_, fun d bad h => ?_, fun d bad h => ?_, fun h fresh => ?_, fun h => ?_⟩
  · rw [answered h rfl (by decide : _ = some Answer.ackI) false []]
    exact ((now.markGone _).endSnoop none _).goOn_waits stage left idle none
  · rw [answered h rfl (by decide : _ = some Answer.ackS) false []]
    exact (now.endSnoop none _).goOn_waits stage left idle none
  · rw [answered h rfl (by decide : _ = some Answer.dataI) bad (wordsLE 16 d.toNat), body_line]
    rw [show Answer.dataI = if false then Answer.dataS else .dataI from rfl, takeAnswer_clean here (by decide)]
    exact (((now.mod (f := fun t => { t with snpData := some (d, bad) }) fun _ => rfl).markGone _).endSnoop none _).goOn_waits stage left idle none
  · rw [answered h rfl (by decide : _ = some Answer.dataS) bad (wordsLE 16 d.toNat), body_line]
    rw [show Answer.dataS = if true then Answer.dataS else .dataI from rfl, takeAnswer_clean here (by decide)]
    exact ((now.mod (f := fun t => { t with snpData := some (d, bad) }) fun _ => rfl).endSnoop none _).goOn_waits stage left idle none
  · rw [answered h rfl (by decide : _ = some Answer.gone) false [], takeAnswer, here]
    dsimp only
    rw [if_neg (by rw [fresh]; exact Bool.false_ne_true)]
    obtain ⟨n, hn, -⟩ := more
    exact ((now.mod (f := fun t => { t with snps := t.snps.map fun n => if n.host = hostIdx src then { n with gone := true } else n })
      fun _ => rfl).modBuffer none _).goOn_waits stage (List.ne_nil_of_mem (List.mem_map_of_mem hn)) idle none
  · rw [answered h rfl (by decide : _ = some Answer.miss) false []]
    exact ((now.markGone _).endSnoop none _).goOn_waits stage left idle none

/-- A snoop that times out. -/
theorem snoopTimesOut (s : State) (src : AgentId) (addr : PA) (i line off : Nat) (x : Txn) (home : s.classify addr = .home off)
    (hline : line = off / 64) (slice : i = s.sliceOf line) (here : txnOf s i line = some x) (stage : x.stage = 0)
    (more : ∃ n ∈ x.snps, n.host ≠ hostIdx src) (idle : Idle (s.slice i)) (none : NotDisplaced s i line) :
    ((∀ n ∈ x.snps, n.host = hostIdx src → n.gone = true) → execSnoopTimeout src addr s = .next s) ∧
    ((∃ n ∈ x.snps, n.host = hostIdx src ∧ n.gone = false) → x.owner ≠ some (hostIdx src) ∨ hostIdx src ∈ x.gone →
      ∃ t, execSnoopTimeout src addr s = .next t ∧ (txnOf t i line = some { x with snps := x.snps.filter fun n => n.host != hostIdx src, gone := x.gone ++ [hostIdx src] } ∧
          (∀ j, j ≠ i → t.slice j = s.slice j) ∧ t.slice i = { s.slice i with txns := (t.slice i).txns } ∧ ∀ l, l ≠ line → txnOf t i l = txnOf s i l) ∧
        t.bit (dirReg 8) 0 = true ∧ t = { s with slices := t.slices, reg := t.reg, evt := t.evt, acc := t.acc }) ∧
    ((∃ n ∈ x.snps, n.host = hostIdx src ∧ n.gone = false) → x.owner = some (hostIdx src) → hostIdx src ∉ x.gone →
      ∃ t, execSnoopTimeout src addr s = .next t ∧ (∃ y, txnOf t i line = some y ∧ y.snps = x.snps.filter fun n => n.host != hostIdx src) ∧
        t.hbmAt line = { s.hbmAt line with poison := true } ∧ (∀ l, l ≠ line → t.hbmAt l = s.hbmAt l) ∧ t.bit (dirReg 8) 0 = true) := by
  subst hline
  have lineAt : homeLine s addr = some (off / 64) := by rw [homeLine, home]
  have left : (x.snps.filter fun n => n.host != hostIdx src) ≠ [] := filter_ne_nil more
  have pending := snoopPending_of none here (hostIdx src)
  have late : (∃ n ∈ x.snps, n.host = hostIdx src ∧ n.gone = false) →
      execSnoopTimeout src addr s = .next (goOn (timeoutSnoop s i (off / 64) (hostIdx src)) i (off / 64)) := fun ⟨n, hn, host, gone⟩ => by
    have open_ : (x.snps.any fun n => n.host == hostIdx src && !n.gone) = true :=
      List.any_eq_true.2 ⟨n, hn, by rw [host, gone, beq_self_eq_true]; rfl⟩
    rw [execSnoopTimeout, lineAt]
    dsimp only
    rw [← slice, pending, open_, if_pos rfl]
  refine ⟨fun all => ?_, fun open_ plain => ?_, fun open_ owner held => ?_⟩
  · have closed : (x.snps.any fun n => n.host == hostIdx src && !n.gone) = false := List.any_eq_false.2 fun n hn c => by
      obtain ⟨host, open_⟩ := Bool.and_eq_true_iff.1 c
      rw [all n hn (beq_iff_eq.1 host)] at open_
      exact Bool.noConfusion open_
    rw [execSnoopTimeout, lineAt]
    dsimp only
    rw [← slice, pending, closed, if_neg Bool.false_ne_true]
  · rw [late open_, timeoutSnoop_plain here plain]
    obtain ⟨slices, bit, frame⟩ := noteTimeout_frame s i (off / 64) (hostIdx src)
    generalize noteTimeout s i (off / 64) (hostIdx src) = u at slices bit frame
    have noneU : NotDisplaced u i (off / 64) := by unfold NotDisplaced; rw [slices]; exact none
    have now := ((TxnNow.refl (show txnOf u i (off / 64) = some x by rw [txnOf, slices]; exact here)).markGone (hostIdx src)).endSnoop noneU (hostIdx src)
    have then_ := now.goOn_waits stage left (by rw [slices]; exact idle) noneU
    generalize goOn (endSnoop (markGone u i (off / 64) (hostIdx src)) i (off / 64) (hostIdx src)) i (off / 64) = t at then_
    refine ⟨t, rfl, ⟨then_.here, fun j hj => ?_, ?_, fun l hl => ?_⟩, ?_, ?_⟩
    · rw [then_.slices j hj, slices]
    · rw [then_.slice, slices]
    · rw [then_.others l hl, txnOf, txnOf, slices]
    · rw [then_.rest]
      exact bit
    · rw [then_.rest, frame]
  · rw [late open_, timeoutSnoop_owner here owner held]
    obtain ⟨⟨y, hereP, snpsP, stageP⟩, evbuf, idleP, lines⟩ := poisonHome_leaves here
    generalize poisonHome s i (off / 64) = q at hereP evbuf idleP lines
    obtain ⟨slices, bit, frame⟩ := noteTimeout_frame q i (off / 64) (hostIdx src)
    generalize noteTimeout q i (off / 64) (hostIdx src) = u at slices bit frame
    have noneU : NotDisplaced u i (off / 64) := by unfold NotDisplaced; rw [slices, evbuf]; exact none
    have now := ((TxnNow.refl (show txnOf u i (off / 64) = some y by rw [txnOf, slices]; exact hereP)).markGone (hostIdx src)).endSnoop noneU (hostIdx src)
    have then_ := now.goOn_waits (stageP.trans stage) (snpsP ▸ left) (by rw [slices]; exact idleP idle) noneU
    generalize goOn (endSnoop (markGone u i (off / 64) (hostIdx src)) i (off / 64) (hostIdx src)) i (off / 64) = t at then_
    have hbm : ∀ l, t.hbmAt l = q.hbmAt l := fun l => by rw [then_.rest, frame]; rfl
    refine ⟨t, rfl, ⟨_, then_.here, by rw [← snpsP]⟩, ?_, fun l hl => ?_, ?_⟩
    · rw [hbm, lines, if_pos rfl]
    · rw [hbm, lines, if_neg hl]
    · rw [then_.rest]
      exact bit

/-- The last answer to an UPGRADE, of a host that holds nothing any more. -/
theorem lastAnswer_upgrades {src : AgentId} {opc off : Nat} {tag : Tag} {addr : PA} {a : Answer} {n : Snoop} {e : DEntry}
    (arrives : Arrives s (sameMsg opc src tag addr)) (vc : vcOf opc = 2) (answer : answerOf opc = some a) (without : a = .ackI ∨ a = .miss)
    (home : s.classify addr = .home off) (hline : line = off / 64) (slice : i = s.sliceOf line) (loc : src.loc < 32) (here : txnOf s i line = some x)
    (fresh : x.stage = 0 ∧ x.snps = [n] ∧ x.secs = [] ∧ x.gack = true ∧ x.snpData = none) (snooped : n.host = hostIdx src ∧ n.tag = tag)
    (idle : Idle (s.slice i)) (beside : NothingBeside s i line) (host : HostAt s x.req.src p) (purge : s.purge = []) (takes : TakesAnswers s i)
    (entry : dirEntry s i line = some e) (kind : x.req.kind = .upgrade) (ok : x.ok = true) :
    ∃ t, srspArrive s (srspMsg s opc src tag addr false false []) = t ∧ Answered s t i p (s.mkRsp opcGRANT_X x.req.src x.req.tag []) ∧
      dirEntry t i line = some { e with st := .D, bcast := false, ptrs := [hostIdx x.req.src] } ∧
      (∃ y, txnOf t i line = some y ∧ y.stage = 2 ∧ y.gack = true ∧ y.snps = []) ∧
      (t.slice i).hearth = (s.slice i).hearth ∧ (∀ k, sget zeroD t.resv k ≠ line + 1) ∧
      t = { s with ports := t.ports, slices := t.slices, acc := t.acc, tel := t.tel, resv := t.resv } := by
  subst hline
  obtain ⟨stage, snps, secs, gack, noData⟩ := fresh
  obtain ⟨inq, confq, retryq⟩ := idle
  have waits : ∃ m ∈ x.snps, m.host = hostIdx src ∧ m.tag = tag := ⟨n, by rw [snps]; exact List.mem_cons_self .., snooped⟩
  have last : (x.snps.filter fun n => n.host != hostIdx src) = [] := by rw [snps]; simp [snooped.1]
  rw [srsp_answer (dirty := false) (bad := false) (body := []) arrives vc answer home slice takes loc here waits, takeAnswer_gone without]
  have now := ((TxnNow.refl here).markGone (hostIdx src)).endSnoop beside.2.1 (hostIdx src)
  generalize endSnoop (markGone s i (off / 64) (hostIdx src)) i (off / 64) (hostIdx src) = q at now
  obtain ⟨noVictim, noBuf, noInstall, noOut⟩ := beside
  have works : Works ⟨false, false, false⟩ s q i :=
    ⟨now.slices, fun _ => by rw [now.rest], fun _ => by rw [now.rest], fun _ => by rw [now.rest], by rw [now.rest]⟩
  have answer : LastAnswer q i (off / 64) p { x with snps := x.snps.filter fun n => n.host != hostIdx src, gone := x.gone ++ [hostIdx src] } := by
    refine ⟨now.here, ⟨stage, last, secs, gack, noData⟩, ⟨?_, ?_, ?_⟩, ⟨?_, ?_, ?_, ?_⟩, works.hostAt host, works.purge.trans purge⟩
    · rw [now.slice]; exact inq
    · rw [now.slice]; exact confq
    · rw [now.slice]; exact retryq
    · rw [now.slice]; exact noVictim
    · rw [now.slice]; exact noBuf
    · rw [now.slice]; exact noInstall
    · rw [now.slice]; exact noOut
  obtain ⟨⟨⟨sent, ports, slices⟩, entryT, txn, hearth, rest⟩, resv⟩ :=
    answer.upgrades ((dirEntry_congr works.boot (fun n => by rw [now.slice]) _).trans entry) kind ok
  generalize goOn q i (off / 64) = b at sent ports slices entryT txn hearth rest resv
  have port : q.port = s.port := by rw [now.rest]; rfl
  refine ⟨b, rfl, ⟨?_, fun k hk => ?_, fun j hj => ?_⟩, entryT, txn, ?_, resv, ?_⟩
  · rw [sent, port, works.mkRsp]
  · rw [ports k hk, port]
  · rw [slices j hj, now.slices j hj]
  · rw [hearth, now.slice]
  · rw [now.rest] at rest
    exact rest

/-- Settles O30: one of several answers, a timeout, and the last answer, which lets its transaction go on. -/
theorem snoopAnswersAreTakenOnce : Obligations.SnoopAnswersAreTakenOnce := by
  refine ⟨fun s src tag addr i line off x home hline slice loc here stage waits more inq confq retryq none takes => ?_,
    fun s src tag addr i line off p h x n e home hline slice loc here stage snps host tag' secs gack gone purge agent hh other entry beside
      inq confq retryq takes => ?_⟩
  · obtain ⟨ackI, ackS, dataI, dataS, goneAns, miss⟩ :=
      oneOfSeveralAnswers s src tag addr i line off x home hline slice loc here stage waits more ⟨inq, confq, retryq⟩ none takes
    obtain ⟨still, plain, owner⟩ := snoopTimesOut s src addr i line off x home hline slice here stage more ⟨inq, confq, retryq⟩ none
    refine ⟨fun h => ⟨_, rfl, (ackI h).parts⟩, fun h => ⟨_, rfl, (ackS h).parts⟩, fun d bad h => ⟨_, rfl, (dataI d bad h).parts.1, ?_⟩,
      fun d bad h => ⟨_, rfl, (dataS d bad h).parts.1, ?_⟩, fun h fresh => ⟨_, rfl, (goneAns h fresh).parts⟩, fun h => ⟨_, rfl, (miss h).parts⟩,
      still, plain, owner⟩
    · have rest := (dataI d bad h).rest
      generalize srspArrive s (srspMsg s opcSNP_DATA_I src tag addr false bad (wordsLE 16 d.toNat)) = t at rest
      rw [rest]
    · have rest := (dataS d bad h).rest
      generalize srspArrive s (srspMsg s opcSNP_DATA_S src tag addr false bad (wordsLE 16 d.toNat)) = t at rest
      rw [rest]
  · subst hline hh
    have waits : ∃ m ∈ x.snps, m.host = hostIdx src ∧ m.tag = tag := ⟨n, by rw [snps]; exact List.mem_cons_self .., host, tag'⟩
    refine ⟨fun a ha arrives kind ok noData => ?_, fun w keeps d bad way pol kind owner fetch noData owned bcast ptrs kindle arrives => ?_⟩
    · rcases List.mem_cons.1 ha with rfl | ha
      · obtain ⟨t, goes, rest⟩ := lastAnswer_upgrades arrives rfl (by decide : _ = some Answer.ackI) (Or.inl rfl) home rfl slice loc here
          ⟨stage, snps, secs, gack, noData⟩ ⟨host, tag'⟩ ⟨inq, confq, retryq⟩ beside agent purge takes entry kind ok
        exact ⟨t, congrArg Host.Outcome.next goes, rest⟩
      · rw [List.mem_singleton.1 ha] at arrives ⊢
        obtain ⟨t, goes, rest⟩ := lastAnswer_upgrades arrives rfl (by decide : _ = some Answer.miss) (Or.inr rfl) home rfl slice loc here
          ⟨stage, snps, secs, gack, noData⟩ ⟨host, tag'⟩ ⟨inq, confq, retryq⟩ beside agent purge takes entry kind ok
        exact ⟨t, congrArg Host.Outcome.next goes, rest⟩
    · have brings : mayBring s i (off / 64) (hostIdx src) = true := by
        rw [mayBring, here]
        dsimp only
        rw [owner, beq_self_eq_true, Bool.true_or]
      obtain ⟨t, ends, answered, oneWay, entryT, txn, rest⟩ := takeDirty_lastAnswer (keeps := keeps) (d := d) (bad := bad) here
        ⟨stage, snps, secs, gack, gone, fetch, noData⟩ host ⟨inq, confq, retryq⟩ beside agent purge kind way pol kindle entry owned bcast ptrs other
      rw [← takeAnswer_dirty (dirty := (BitVec.ofNat 8 (b2n true)).getLsbD 0) brings (by decide), ← body_line d] at ends
      refine ⟨t, ?_, answered, oneWay, entryT, txn, rest⟩
      cases keeps with
      | true => exact congrArg Host.Outcome.next ((srsp_answer (dirty := true) (bad := bad) (body := wordsLE 16 d.toNat) arrives rfl
          (by decide : _ = some Answer.dataS) home slice takes loc here waits).trans ends)
      | false => exact congrArg Host.Outcome.next ((srsp_answer (dirty := true) (bad := bad) (body := wordsLE 16 d.toNat) arrives rfl
          (by decide : _ = some Answer.dataI) home slice takes loc here waits).trans ends)

end

section
/-! PROOF. The end of what a host holds: notices, GACK, purges (R150, R168, R175, R190, R192). -/
namespace Sys2Proof.Machine
open Config

variable {s t u v : State} {i line p : Nat} {x y : Txn}

/-! ## Lines without a transaction -/

theorem txnOf_none (none : ∀ y ∈ (s.slice i).txns, y.line ≠ line) : txnOf s i line = Option.none :=
  find?_none fun y hy => beq_eq_false_iff_ne.2 (none y hy)

theorem advance_none (here : txnOf s i line = none) : advance s i line = s := by
  have gathers : gatherTxn s i line = s := by rw [gatherTxn, here]
  have late : lateTxn s i line = s := by rw [lateTxn, here]
  rw [advance_stages, gathers, late, finishTxn, here]

/-- Nothing is under way on the line. -/
structure LineStill (s : State) (i line : Nat) : Prop where
  txns : ∀ y ∈ (s.slice i).txns, y.line ≠ line
  beside : NothingBeside s i line

theorem lineStill_of (h : lineBusy (s.slice i) line = false) : LineStill s i line := by
  unfold lineBusy at h
  simp only [Bool.or_eq_false_iff, List.any_eq_false, beq_iff_eq] at h
  obtain ⟨⟨⟨⟨txns, victims⟩, evbuf⟩, installs⟩, outWr⟩ := h
  exact ⟨txns, victims, evbuf, installs, outWr⟩

theorem LineStill.congr (h : LineStill s i line) (txns : (t.slice i).txns = (s.slice i).txns) (victims : (t.slice i).victims = (s.slice i).victims)
    (evbuf : (t.slice i).evbuf = (s.slice i).evbuf) (installs : (t.slice i).installs = (s.slice i).installs)
    (outWr : (t.slice i).outWr = (s.slice i).outWr) : LineStill t i line := by
  obtain ⟨h1, h2, h3, h4, h5⟩ := h
  refine ⟨?_, ?_, ?_, ?_, ?_⟩
  · rw [txns]; exact h1
  · rw [victims]; exact h2
  · rw [evbuf]; exact h3
  · rw [installs]; exact h4
  · rw [outWr]; exact h5

theorem LineStill.notMoving (h : LineStill s i line) : lineMoving (s.slice i) line = false := by
  obtain ⟨-, -, -, installs, outWr⟩ := h
  refine Bool.or_eq_false_iff.2 ⟨List.any_eq_false.2 fun n hn => ?_, List.any_eq_false.2 fun o ho => ?_⟩
  · rw [beq_eq_false_iff_ne.2 (installs n hn)]; exact Bool.false_ne_true
  · rw [beq_eq_false_iff_ne.2 (outWr o ho)]; exact Bool.false_ne_true

theorem SameSlices.trans (h : SameSlices s t) (h' : SameSlices t u) : SameSlices s u :=
  ⟨fun j => (h'.slice j).trans (h.slice j), by rw [h'.rest, h.rest]⟩

theorem SameSlices.works (h : SameSlices s t) (may : May) (i : Nat) : Works may s t i :=
  ⟨fun j _ => h.slice j, fun _ => by rw [h.rest], fun _ => by rw [h.rest], fun _ => by rw [h.rest], by rw [h.rest]⟩

/-- To go on at a line of which nothing is under way does nothing. -/
theorem goOn_still (h : LineStill s i line) (idle : Idle (s.slice i)) : SameSlices s (goOn s i line) :=
  goOn_same (advance_none (txnOf_none h.txns)) idle h.beside.2.1

/-! ## Eviction notices (R175, R190) -/

/-- A notice is noted at the open transaction and the displaced entry of its line. -/
def noteNotice (s : State) (i line h : Nat) : State :=
  let f := fun (l : List Snoop) => l.filter fun n => !(n.host == h && n.gone)
  (modTxn s i line fun t => { t with taken := t.taken ++ [h], gone := t.gone ++ [h], snps := f t.snps }).modSlice i
    fun x => { x with evbuf := x.evbuf.map fun e => if e.line = line then { e with taken := e.taken ++ [h], snps := f e.snps } else e }

theorem noteNotice_same (h : LineStill s i line) (k : Nat) : SameSlices s (noteNotice s i line k) := by
  have txns : ∀ f : Txn → Txn, ((s.slice i).txns.map fun t => if t.line = line then f t else t) = (s.slice i).txns := fun f =>
    (List.map_congr_left fun y hy => if_neg (h.txns y hy)).trans (List.map_id' _)
  have first : SameSlices s (modTxn s i line fun t => { t with
      taken := t.taken ++ [k], gone := t.gone ++ [k], snps := t.snps.filter fun n => !(n.host == k && n.gone) }) :=
    modSlice_same (by rw [txns])
  refine first.trans (modSlice_same ?_)
  rw [first.slice, evbuf_map_same h.beside.2.1]

/-- The entry of a line names the agent alone. -/
structure LastHolder (s : State) (i line w : Nat) (src : AgentId) (e : DEntry) : Prop where
  way : dirWay s i line = some w
  entry : dirGet s i line w = e
  bcast : e.bcast = false
  ptrs : e.ptrs = [hostIdx src]

theorem LastHolder.dirEntry {w : Nat} {src : AgentId} {e : DEntry} (h : LastHolder s i line w src e) : dirEntry s i line = some e := by
  rw [Machine.dirEntry, h.way, ← h.entry]
  rfl

theorem dirVacate_none {w : Nat} (none : ∀ y ∈ (s.slice i).txns, y.line ≠ line) : dirVacate s i line w = dirSet s i line w (dentryD 0) := by
  have no : ((s.slice i).txns.any fun t => t.line == line) = false := List.any_eq_false.2 fun y hy => by
    rw [beq_eq_false_iff_ne.2 (none y hy)]; exact Bool.false_ne_true
  rw [dirVacate, no, if_neg Bool.false_ne_true]

/-- The last holder of a line is taken out of its entry, which is freed. -/
theorem dropHolder_last {w : Nat} {src : AgentId} {e : DEntry} (h : LastHolder s i line w src e) (none : ∀ y ∈ (s.slice i).txns, y.line ≠ line) :
    dropHolder s i line (hostIdx src) = dirSet s i line w (dentryD 0) := by
  have empty : (e.ptrs.filter fun p => p != hostIdx src) = [] := by rw [h.ptrs]; simp
  rw [dropHolder, h.way]
  dsimp only
  rw [h.entry, empty, if_pos ⟨rfl, h.bcast⟩, dirVacate_none none]

/-- The notice of the agent that alone holds a line finds its entry as the check leaves it. -/
theorem takeNotice_last {w : Nat} {src : AgentId} {tag : Tag} {e : DEntry} {d : LineData} {bad : Bool} (calm : CalmLine s i line)
    (h : LastHolder s i line w src e) : ∃ c, SameEntries s c i ∧ (∀ may, Works may s c i) ∧ LastHolder c i line w src e ∧
      (e.st = .S → takeNotice s i line src tag false d bad =
        (noteNotice (dropHolder c i line (hostIdx src)) i line (hostIdx src)).sendPlain
          ((noteNotice (dropHolder c i line (hostIdx src)) i line (hostIdx src)).mkRsp opcEVICT_DONE src tag [])) ∧
      (e.st = .D → takeNotice s i line src tag true d bad =
        noteNotice (takeDirty (dropHolder c i line (hostIdx src)) i line d bad (some (src, tag))) i line (hostIdx src)) := by
  obtain ⟨entries, works⟩ := check_idle calm rfl (.refl _ s i) fun v hv => by
    rw [← Option.some.inj (h.way.symm.trans hv), h.entry, h.ptrs]
    exact List.cons_ne_nil _ _
  have still := lineStill_of calm.calm
  obtain ⟨c, hc⟩ : ∃ c, c = dirPurge (dirCheck s i line) i line := ⟨_, rfl⟩
  rw [← hc] at entries works
  have worksC := works ⟨true, true, true⟩
  have holder : LastHolder c i line w src e :=
    ⟨(dirWay_congr worksC.boot entries.dir line).trans h.way, (dirGet_congr worksC.boot entries.dir line w).trans h.entry, h.bcast, h.ptrs⟩
  have stillC : LineStill c i line := by
    have slice := entries.slice
    exact still.congr (by rw [slice]) (by rw [slice]) (by rw [slice]) (by rw [slice]) (by rw [slice])
  have noBuf : ((c.slice i).evbuf.find? fun b => b.line == line && b.snps.any fun n => n.host == hostIdx src) = none :=
    find?_none fun b hb => by rw [beq_eq_false_iff_ne.2 (stillC.beside.2.1 b hb), Bool.false_and]
  have holds : (holders c e).contains (hostIdx src) = true := by
    rw [holders, h.bcast, if_neg Bool.false_ne_true, h.ptrs, List.filter_cons_of_pos (by
      rw [purged_nil (worksC.purge.trans calm.sound.1)]; rfl)]
    exact List.contains_iff_mem.2 (List.mem_cons_self ..)
  have named : e.ptrs.contains (hostIdx src) = true := by rw [h.ptrs]; exact List.contains_iff_mem.2 (List.mem_cons_self ..)
  have listed : ¬ (e.ptrs = [] ∧ e.bcast = false ∧ tainted c i line = true) := fun c => absurd (h.ptrs.symm.trans c.1) (List.cons_ne_nil _ _)
  refine ⟨c, entries, works, holder, fun shared => ?_, fun dirty => ?_⟩
  · have noOwner : ¬ ownerOf e = some (hostIdx src) := by
      rw [ownerOf, shared]
      exact nofun
    rw [takeNotice]
    dsimp only
    rw [← hc, txnOf_none stillC.txns, noBuf]
    dsimp only
    rw [if_neg Bool.false_ne_true, holder.dirEntry]
    dsimp only
    rw [if_neg listed, if_neg noOwner, if_pos holds, if_neg Bool.false_ne_true, if_pos named]
    rfl
  · have owner : ownerOf e = some (hostIdx src) := by
      rw [ownerOf, dirty, h.ptrs]
      rfl
    rw [takeNotice]
    dsimp only
    rw [← hc, txnOf_none stillC.txns, noBuf]
    dsimp only
    rw [if_neg Bool.false_ne_true, holder.dirEntry]
    dsimp only
    rw [if_neg listed, if_pos owner, if_pos rfl]
    rfl

/-- From s to t a notice has been taken and answered with m; the entry of its line, in way w, is free. -/
structure NoticeTaken (s t : State) (i line w p : Nat) (m : Msg) : Prop where
  answered : Answered s t i p m
  freed : dirGet t i line w = dentryD 0
  others : ∀ n, n ≠ s.setOf line * 16 + w → sget dentryD (t.slice i).dir n = sget dentryD (s.slice i).dir n
  rest : t = { s with ports := t.ports, slices := t.slices, tel := t.tel }

/-- The answer to a notice, from a state that differs from s in the entry of the line and the slice's Hearth. -/
theorem noticeTaken_of {a b : State} {w : Nat} {m : Msg} (works : Works ⟨false, false, false⟩ s a i)
    (slice : a.slice i = { s.slice i with hearth := (a.slice i).hearth, dir := (a.slice i).dir })
    (dir : ∀ n, sget dentryD (a.slice i).dir n = if n = s.setOf line * 16 + w then dentryD 0 else sget dentryD (s.slice i).dir n)
    (replies : Replies a b p m) (same : SameSlices b t) (idle : Idle (s.slice i)) (still : LineStill s i line) :
    NoticeTaken s (goOn t i line) i line w p m ∧ ((goOn t i line).slice i) = a.slice i := by
  obtain ⟨inq, confq, retryq⟩ := idle
  have sliceT : t.slice i = a.slice i := by rw [same.slice, replies.slice]
  have goes := goOn_still (still.congr (t := t) (by rw [sliceT, slice]) (by rw [sliceT, slice]) (by rw [sliceT, slice])
    (by rw [sliceT, slice]) (by rw [sliceT, slice])) ⟨by rw [sliceT, slice]; exact inq, by rw [sliceT, slice]; exact confq,
    by rw [sliceT, slice]; exact retryq⟩
  generalize goOn t i line = q at goes
  have all := same.trans goes
  have sliceQ : q.slice i = a.slice i := by rw [all.slice, replies.slice]
  refine ⟨⟨answered_of works replies (all.works ⟨false, false, false⟩ i), ?_, fun n hn => ?_, ?_⟩, sliceQ⟩
  · have set : q.setOf line = s.setOf line := by
      rw [all.rest, replies.rest]
      exact works.setOf line
    rw [dirGet, set, sliceQ, dir, if_pos rfl]
  · rw [sliceQ, dir, if_neg hn]
  · rw [all.rest, replies.rest, works.rest, works.acc rfl, works.resv rfl, works.pcs rfl]

theorem dirSet_dir {w : Nat} {e : DEntry} (works : Works ⟨false, false, false⟩ s t i) (dir : ∀ n, sget dentryD (t.slice i).dir n = sget dentryD (s.slice i).dir n)
    (n : Nat) : sget dentryD ((dirSet t i line w e).slice i).dir n =
      if n = s.setOf line * 16 + w then e else sget dentryD (s.slice i).dir n := by
  rw [dirSet_slice, works.setOf]
  dsimp only
  rw [sget_sset, dir]

/-- The clean notice of the last holder (R190). -/
theorem evictClean_takes {w : Nat} {src : AgentId} {tag : Tag} {e : DEntry} {d : LineData} (host : HostAt s src p) (calm : CalmLine s i line)
    (h : LastHolder s i line w src e) (shared : e.st = .S) :
    NoticeTaken s (goOn (takeNotice s i line src tag false d false) i line) i line w p (s.mkRsp opcEVICT_DONE src tag []) ∧
      (goOn (takeNotice s i line src tag false d false) i line).slice i =
        { s.slice i with dir := ((goOn (takeNotice s i line src tag false d false) i line).slice i).dir } := by
  have still := lineStill_of calm.calm
  obtain ⟨c, entries, works, holder, clean, -⟩ := takeNotice_last (tag := tag) (d := d) (bad := false) calm h
  have sliceC := entries.slice
  have stillC : LineStill c i line := still.congr (by rw [sliceC]) (by rw [sliceC]) (by rw [sliceC]) (by rw [sliceC]) (by rw [sliceC])
  rw [clean shared, dropHolder_last holder stillC.txns]
  have dir := dirSet_dir (w := w) (line := line) (e := dentryD 0) (works _) entries.dir
  have worksQ := (works ⟨false, false, false⟩).trans (works_dirSet _ c i line w (dentryD 0))
  have sliceQ : (dirSet c i line w (dentryD 0)).slice i = { s.slice i with dir := ((dirSet c i line w (dentryD 0)).slice i).dir } := by
    rw [dirSet_slice, sliceC]
  generalize dirSet c i line w (dentryD 0) = q at dir worksQ sliceQ
  have noted := noteNotice_same (s := q) (still.congr (by rw [sliceQ]) (by rw [sliceQ]) (by rw [sliceQ]) (by rw [sliceQ]) (by rw [sliceQ])) (hostIdx src)
  generalize noteNotice q i line (hostIdx src) = n at noted
  have worksN := worksQ.trans (noted.works _ i)
  have sliceN : n.slice i = q.slice i := noted.slice i
  have replies := sendPlain_host (m := n.mkRsp opcEVICT_DONE src tag []) (worksN.hostAt host) rfl (show opcEVICT_DONE ≠ opcNO_TARGET by decide) rfl
  rw [worksN.mkRsp] at replies ⊢
  obtain ⟨taken, slice⟩ := noticeTaken_of (line := line) (w := w) worksN (by rw [sliceN, sliceQ]) (fun k => by rw [sliceN]; exact dir k) replies
    ⟨fun _ => rfl, rfl⟩ ⟨calm.idle.1, calm.idle.2.1, calm.idle.2.2⟩ still
  refine ⟨taken, ?_⟩
  rw [slice, sliceN, sliceQ]

theorem storeLine_notified {w : Nat} {d : LineData} {bad : Bool} {cls : Nat} {a : AgentId} {g : Tag} (way : findWay s i line = some w) :
    storeLine s i line d bad cls 0 true none (some (a, g)) = (s.setHway i (s.setOf line) w (broughtWay s i line w d bad)).sendPlain
      ((s.setHway i (s.setOf line) w (broughtWay s i line w d bad)).mkRsp opcEVICT_DONE a g []) := by
  rw [storeLine]
  dsimp only
  rw [way]
  dsimp only
  rw [if_neg fun c => absurd c.1 (by decide), if_neg fun c => absurd c.1 (by decide)]
  rfl

/-- Dirty data for a line in the Hearth that has no transaction. -/
theorem takeDirty_notified {w : Nat} {d : LineData} {bad : Bool} {a : AgentId} {g : Tag} (none_ : txnOf s i line = none) (way : findWay s i line = some w)
    (pol : effPolicy s i line = 0) (kindle : ∀ q ∈ (s.slice i).kindle, q.line ≠ line) : takeDirty s i line d bad (some (a, g)) =
      (s.setHway i (s.setOf line) w (broughtWay s i line w d bad)).sendPlain
        ((s.setHway i (s.setOf line) w (broughtWay s i line w d bad)).mkRsp opcEVICT_DONE a g []) := by
  rw [takeDirty, none_]
  dsimp only
  rw [writeHome, kindleKill_none kindle, none_]
  dsimp only
  rw [if_neg Bool.false_ne_true, pol, storeLine_notified way]

/-- The dirty notice of the owner of a line in the Hearth (R182, R190). -/
theorem evictDirty_takes {v w : Nat} {src : AgentId} {tag : Tag} {e : DEntry} {d old : LineData} {bad : Bool} (host : HostAt s src p) (calm : CalmLine s i line)
    (h : LastHolder s i line v src e) (dirty : e.st = .D) (hit : HearthHit s i line w old) (pol : effPolicy s i line = 0) :
    NoticeTaken s (goOn (takeNotice s i line src tag true d bad) i line) i line v p (s.mkRsp opcEVICT_DONE src tag []) ∧
      OneWay s (goOn (takeNotice s i line src tag true d bad) i line) i (s.setOf line) w (broughtWay s i line w d bad) := by
  have still := lineStill_of calm.calm
  obtain ⟨c, entries, works, holder, -, owned⟩ := takeNotice_last (tag := tag) (d := d) (bad := bad) calm h
  have sliceC := entries.slice
  have stillC : LineStill c i line := still.congr (by rw [sliceC]) (by rw [sliceC]) (by rw [sliceC]) (by rw [sliceC]) (by rw [sliceC])
  rw [owned dirty, dropHolder_last holder stillC.txns]
  have dir := dirSet_dir (w := v) (line := line) (e := dentryD 0) (works _) entries.dir
  have worksQ := (works ⟨false, false, false⟩).trans (works_dirSet _ c i line v (dentryD 0))
  have sliceQ : (dirSet c i line v (dentryD 0)).slice i = { s.slice i with dir := ((dirSet c i line v (dentryD 0)).slice i).dir } := by
    rw [dirSet_slice, sliceC]
  generalize dirSet c i line v (dentryD 0) = q at dir worksQ sliceQ
  have hearth : (q.slice i).hearth = (s.slice i).hearth := by rw [sliceQ]
  have brought : broughtWay q i line w d bad = broughtWay s i line w d bad := by
    rw [broughtWay, broughtWay, worksQ.setOf, hway_congr hearth]
  have polQ : effPolicy q i line = 0 := by
    rw [← pol]
    exact effPolicy_congr (worksQ : Works ⟨false, false, false⟩ s q i) (by rw [sliceQ]; rfl) line
  rw [takeDirty_notified (txnOf_none (by rw [sliceQ]; exact still.txns)) ((findWay_congr worksQ.boot hearth line).trans hit.way) polQ
    (by rw [sliceQ]; exact calm.kindle), brought, worksQ.setOf]
  generalize hh : broughtWay s i line w d bad = hw
  have worksH := worksQ.trans (works_setHway _ q i (s.setOf line) w hw)
  have sliceH := setHway_slice q i (s.setOf line) w hw
  generalize q.setHway i (s.setOf line) w hw = n at worksH sliceH ⊢
  have replies := sendPlain_host (m := n.mkRsp opcEVICT_DONE src tag []) (worksH.hostAt host) rfl (show opcEVICT_DONE ≠ opcNO_TARGET by decide) rfl
  rw [worksH.mkRsp] at replies ⊢
  generalize n.sendPlain (s.mkRsp opcEVICT_DONE src tag []) = b at replies ⊢
  have sliceB : b.slice i = n.slice i := replies.slice i
  have noted := noteNotice_same (s := b) (still.congr (by rw [sliceB, sliceH, sliceQ]) (by rw [sliceB, sliceH, sliceQ]) (by rw [sliceB, sliceH, sliceQ])
    (by rw [sliceB, sliceH, sliceQ]) (by rw [sliceB, sliceH, sliceQ])) (hostIdx src)
  obtain ⟨taken, slice⟩ := noticeTaken_of (line := line) (w := v) worksH (by rw [sliceH, sliceQ]) (fun k => by rw [sliceH]; exact dir k) replies
    noted ⟨calm.idle.1, calm.idle.2.1, calm.idle.2.2⟩ still
  exact ⟨taken, oneWay_of (by rw [slice, sliceH, hearth])⟩

/-! ## GACK (R150, R180) -/

theorem filter_map_line {f : Txn → Txn} (keeps : ∀ y, (f y).line = y.line) (l : List Txn) :
    ((l.map fun t => if t.line = line then f t else t).filter fun y => y.line != line) = l.filter fun y => y.line != line := by
  induction l with
  | nil => rfl
  | cons y l ih =>
    rw [List.map_cons]
    by_cases hy : y.line = line
    · simp [keeps, hy, ih]
    · simp [hy, ih]

/-- The GACK of a granted request ends its transaction. -/
theorem takeGack_ends {src : AgentId} {tag : Tag} {e : DEntry} (here : txnOf s i line = some x) (sent : x.req.src = src) (tagged : x.req.tag = tag)
    (stage : x.stage = 2) (moving : lineMoving (s.slice i) line = false) (entry : dirEntry s i line = some e) (held : e.ptrs ≠ [])
    (idle : Idle (s.slice i)) (none_ : NotDisplaced s i line) : (∀ j, j ≠ i → (takeGack s i line src tag).slice j = s.slice j) ∧
      (takeGack s i line src tag).slice i = { s.slice i with txns := (s.slice i).txns.filter fun y => y.line != line } ∧
      takeGack s i line src tag = { s with slices := (takeGack s i line src tag).slices } := by
  obtain ⟨f, hf⟩ : ∃ f : Txn → Txn, f = fun t => if t.req.src = src ∧ t.req.tag = tag ∧ t.stage = 2 then { t with gack := false } else t := ⟨_, rfl⟩
  have keeps : ∀ y, (f y).line = y.line := fun y => by
    rw [hf]
    dsimp only
    split <;> rfl
  have mine : f x = { x with gack := false } := by rw [hf]; exact if_pos ⟨sent, tagged, stage⟩
  have now := (TxnNow.refl here).mod keeps
  rw [mine] at now
  have txns : ((modTxn s i line f).slice i).txns = (s.slice i).txns.map fun t => if t.line = line then f t else t := by rw [modTxn_slice]
  rw [takeGack, ← hf]
  generalize modTxn s i line f = a at now txns
  have gathers : gatherTxn a i line = a := by
    rw [gatherTxn, now.here]
    exact if_pos (Or.inl (by show x.stage ≠ 0; rw [stage]; decide))
  have late : lateTxn a i line = a := lateTxn_done now.here stage
  obtain ⟨b, hb⟩ : ∃ b, b = a.modSlice i fun x => { x with txns := x.txns.filter fun t => t.line != line } := ⟨_, rfl⟩
  have sliceB : b.slice i = { s.slice i with txns := (s.slice i).txns.filter fun y => y.line != line } := by
    rw [hb, State.slice_modSlice_same, txns, filter_map_line keeps, now.slice]
  have entryB : dirEntry b i line = some e := by
    rw [← entry]
    exact dirEntry_congr (by rw [hb, now.rest]; rfl) (fun n => by rw [sliceB]) line
  have ends : advance a i line = b := by
    rw [advance_stages, gathers, late, finishTxn, now.here]
    dsimp only
    rw [if_pos ⟨stage, rfl, by rw [now.slice]; exact moving⟩, ← hb, entryB]
    exact if_neg fun c => held c.1
  obtain ⟨inq, confq, retryq⟩ := idle
  have same := goOn_same ends ⟨by rw [sliceB]; exact inq, by rw [sliceB]; exact confq, by rw [sliceB]; exact retryq⟩
    (by unfold NotDisplaced; rw [sliceB]; exact none_)
  generalize goOn a i line = t at same
  refine ⟨fun j hj => ?_, by rw [same.slice, sliceB], ?_⟩
  · rw [same.slice, hb, State.slice_modSlice_other _ _ hj, now.slices j hj]
  · rw [same.rest, hb, State.modSlice, now.rest]

/-! ## Purges (R168, R192) -/

/-- The agents of a device have joined the purge set. -/
structure Purges (s t : State) (d : Nat) (agents : Word) : Prop where
  here : sget wordD t.purge d = sget wordD s.purge d ||| agents
  others : ∀ e, e ≠ d → sget wordD t.purge e = sget wordD s.purge e
  bcast : t.rd (dirReg (0x100 + 4 * d)) = s.rd (dirReg (0x100 + 4 * d)) &&& ~~~ agents
  rest : t = { s with purge := t.purge, reg := t.reg, acc := t.acc }

/-- A claim that a purge releases is no register. -/
theorem purges_claim {d : Nat} {agents : Word} (h : Purges s t d agents) (c : Claim) : Purges s { t with reg := { t.reg with claim := c } } d agents :=
  ⟨h.here, h.others, h.bcast, by rw [h.rest]⟩

theorem purgeSet_purges (s : State) (d : Nat) {mask : Nat} (some_ : mask ≠ 0) : Purges s (purgeSet s d mask) d (w32 mask) := by
  obtain ⟨q, hq⟩ : ∃ q : State, q = { s with purge := smod wordD s.purge d fun w => w ||| w32 mask } := ⟨_, rfl⟩
  obtain ⟨a, ha⟩ : ∃ a, a = q.wr (dirReg (0x100 + 4 * d)) (q.rd (dirReg (0x100 + 4 * d)) &&& ~~~ w32 mask) := ⟨_, rfl⟩
  obtain ⟨b, hb⟩ : ∃ b, b = (a.wr (dirReg (0x180 + 4 * d)) (a.rd (dirReg (0x180 + 4 * d)) &&& ~~~ w32 mask)).count 53 8 (bitsSet 32 mask).length := ⟨_, rfl⟩
  have apart : dirReg (0x100 + 4 * d) ≠ dirReg (0x180 + 4 * d) := by unfold dirReg; omega
  have bcast : a.rd (dirReg (0x100 + 4 * d)) = s.rd (dirReg (0x100 + 4 * d)) &&& ~~~ w32 mask := by rw [ha, State.rd_wr_same, hq]; rfl
  have purge : a.purge = smod wordD s.purge d fun w => w ||| w32 mask := by rw [ha, State.wr_purge, hq]
  have restA : a = { s with purge := a.purge, reg := a.reg } := by rw [ha, State.wr_frame, hq]
  have counted := works_count (may := ⟨true, false, false⟩) rfl (a.wr (dirReg (0x180 + 4 * d)) (a.rd (dirReg (0x180 + 4 * d)) &&& ~~~ w32 mask)) 0 53 8
    (bitsSet 32 mask).length
  rw [← hb] at counted
  have purges : Purges s b d (w32 mask) := by
    have purgeB : b.purge = a.purge := by rw [counted.purge, State.wr_purge]
    refine ⟨?_, fun e he => ?_, ?_, ?_⟩
    · rw [purgeB, purge, smod, sget_sset_same]
    · rw [purgeB, purge, smod, sget_sset_other _ _ _ he]
    · rw [counted.rd, State.rd_wr_other _ _ apart, bcast]
    · rw [hb, State.count_frame, State.wr_frame, restA]
  have made : purgeSet s d mask = b ∨ purgeSet s d mask = { b with reg := { b.reg with claim := .none } } := by
    rw [purgeSet, if_neg some_]
    dsimp only
    rw [← hq, ← ha, ← hb]
    split
    · split
      · exact Or.inr rfl
      · exact Or.inl rfl
    · exact Or.inl rfl
  rcases made with same | released
  · rw [same]
    exact purges
  · rw [released]
    exact purges_claim purges .none

/-- A purge notice of another device (R168). -/
theorem purgeAgents_purges {d : Nat} {agents : Word} (some_ : agents ≠ 0) (none_ : NoneAwaited s) : Purges s (purgeAgents s [(d, agents.toNat)]) d agents := by
  have nat : agents.toNat ≠ 0 := fun c => some_ (BitVec.eq_of_toNat_eq c)
  have purges := purgeSet_purges s d nat
  have word : w32 agents.toNat = agents := BitVec.eq_of_toNat_eq (by rw [w32, BitVec.toNat_ofNat, Nat.mod_eq_of_lt agents.isLt])
  rw [word] at purges
  rw [purgeAgents, List.foldl_cons, List.foldl_nil]
  dsimp only
  generalize purgeSet s d agents.toNat = t at purges
  have slices : t.slice = s.slice := by rw [purges.rest]; rfl
  rw [foldl_same fun j _ => purgePending_none fun k => by rw [slices]; exact none_ k]
  exact purges

/-! ### The sweep -/

/-- Nothing waits at any slice, and only slice k has directory entries. -/
structure OneDirectory (s : State) (k : Nat) : Prop where
  none : NoneAwaited s
  idle : ∀ j, Idle (s.slice j)
  empty : ∀ j, j ≠ k → (s.slice j).dir = []

theorem purgeSlice_empty {j : Nat} (none_ : NoneAwaited s) (idle : Idle (s.slice j)) (empty : (s.slice j).dir = []) : purgeSlice s j = s := by
  have checked : dirCheckAll s j = s := by rw [dirCheckAll, empty]; rfl
  rw [purgeSlice, purgePending_none none_, dirPurgeAll, checked, empty]
  exact settle_idle idle

/-- The one entry of a slice, whose first of two holders is purged. -/
structure HalfPurged (s : State) (k w a b : Nat) (e : DEntry) : Prop where
  dir : (s.slice k).dir = [(s.setOf e.line * 16 + w, e)]
  way : w < 16
  valid : e.valid = true
  sound : e.bad = false
  entry : e.st = .S ∧ e.bcast = false ∧ e.ptrs = [a, b]
  gone : purged s a = true
  stays : purged s b = false

theorem HalfPurged.get {k w a b : Nat} {e : DEntry} (h : HalfPurged s k w a b e) (n : Nat) :
    sget dentryD (s.slice k).dir n = if n = s.setOf e.line * 16 + w then e else dentryD 0 := by
  rw [h.dir]
  rfl

theorem HalfPurged.checked {k w a b : Nat} {e : DEntry} (h : HalfPurged s k w a b e) : dirCheckAll s k = s := by
  have set : (s.setOf e.line * 16 + w) / 16 = s.setOf e.line := by have := h.way; omega
  rw [dirCheckAll, h.dir, List.foldl_cons, List.foldl_nil, set]
  refine foldl_same fun v _ => if_neg ?_
  rw [h.get]
  split
  · rw [h.sound]; exact Bool.false_ne_true
  · exact Bool.false_ne_true

theorem HalfPurged.found {k w a b : Nat} {e : DEntry} (h : HalfPurged s k w a b e) : dirWay s k e.line = some w := by
  have at_ : ∀ v < 16, ((sget dentryD (s.slice k).dir (s.setOf e.line * 16 + v)).valid &&
      (sget dentryD (s.slice k).dir (s.setOf e.line * 16 + v)).line == e.line) = decide (v = w) := fun v hv => by
    rw [h.get]
    by_cases hw : v = w
    · rw [if_pos (by rw [hw]), h.valid, hw, beq_self_eq_true]
      simp
    · rw [if_neg (by omega), decide_eq_false hw]
      rfl
  have some_ : (dirWay s k e.line).isSome = true :=
    List.find?_isSome.2 ⟨w, List.mem_range.2 h.way, (at_ w h.way).trans (decide_eq_true rfl)⟩
  obtain ⟨v, hv⟩ := Option.isSome_iff_exists.1 some_
  have holds := List.find?_some (p := fun w => (sget dentryD (s.slice k).dir (s.setOf e.line * 16 + w)).valid &&
    (sget dentryD (s.slice k).dir (s.setOf e.line * 16 + w)).line == e.line) hv
  rw [hv, of_decide_eq_true ((at_ v (List.mem_range.1 (List.mem_of_find?_eq_some hv))).symm.trans holds)]

/-- The sweep takes the purged holder out of the entry (R168). -/
theorem purgeSlice_half {k w a b : Nat} {e : DEntry} (none_ : NoneAwaited s) (idle : Idle (s.slice k)) (h : HalfPurged s k w a b e) :
    purgeSlice s k = dirSet s k e.line w { e with ptrs := [b] } := by
  obtain ⟨shared, bcast, ptrs⟩ := h.entry
  have get : dirGet s k e.line w = e := by rw [dirGet, h.get, if_pos rfl]
  have noOwner : ownerOf e = none := by rw [ownerOf, shared]; rfl
  have keep : (e.ptrs.filter fun h => !purged s h) = [b] := by
    rw [ptrs, List.filter_cons_of_neg (by rw [h.gone]; exact Bool.false_ne_true), List.filter_cons_of_pos (by rw [h.stays]; rfl), List.filter_nil]
  have lead : (e.st == DirSt.L) = false := by rw [shared]; rfl
  have swept : dirPurge s k e.line = dirSet s k e.line w { e with ptrs := [b] } := by
    rw [dirPurge, dirPurgeBy, h.found]
    dsimp only
    rw [get, noOwner]
    dsimp only
    rw [keep, if_neg fun c => List.cons_ne_nil _ _ c.1, lead, Bool.false_and, if_neg Bool.false_ne_true]
  have all : dirPurgeAll s k = dirSet s k e.line w { e with ptrs := [b] } := by
    rw [dirPurgeAll, h.checked, h.dir, List.foldl_cons, List.foldl_nil]
    rw [if_pos h.valid, swept]
  obtain ⟨inq, confq, retryq⟩ := idle
  rw [purgeSlice, purgePending_none none_, all]
  exact settle_idle ⟨by rw [dirSet_slice]; exact inq, by rw [dirSet_slice]; exact confq, by rw [dirSet_slice]; exact retryq⟩

/-- A fold over a list that has k once, where only k has an effect, has that effect. -/
theorem foldl_once {f : State → Nat → State} {k : Nat} {l : List Nat} (once : l.Nodup) (here : k ∈ l) (does : f s k = t)
    (before : ∀ j, j ≠ k → f s j = s) (after : ∀ j, j ≠ k → f t j = t) : l.foldl f s = t := by
  induction l with
  | nil => exact absurd here List.not_mem_nil
  | cons j l ih =>
    obtain ⟨new, once⟩ := List.nodup_cons.1 once
    rw [List.foldl_cons]
    by_cases hj : j = k
    · rw [hj, does, foldl_same fun m hm => after m fun c => new (by rw [hj, ← c]; exact hm)]
    · rw [before j hj]
      exact ih once ((List.mem_cons.1 here).resolve_left fun c => hj c.symm)

/-! ## The commands -/

theorem srspTake_notice {m : Msg} (answer : answerOf m.opc = none) (noGack : m.opc ≠ opcGACK) (loc : m.src.loc < 32) : srspTake s i line m =
    goOn (takeNotice s i line m.src m.tag (m.opc == opcEVICT_DIRTY) (BitVec.ofNat 512 (ofWordsLE m.body)) m.poison) i line := by
  rw [srspTake, answer]
  dsimp only
  rw [if_neg noGack, if_neg (Nat.not_le_of_lt loc)]

theorem srspTake_gack {m : Msg} (gack : m.opc = opcGACK) : srspTake s i line m = takeGack s i line m.src m.tag := by
  have answer : answerOf m.opc = none := by rw [gack]; rfl
  rw [srspTake, answer]
  dsimp only
  rw [if_pos gack]

end Sys2Proof.Machine

open Sys2Proof Sys2Proof.Machine

/-- The end of the sweep. -/
theorem sweepTakesThePurged (s : State) (k w a b : Nat) (e : DEntry) (quiet : OneDirectory s k) (present : s.slicePresent k = true)
    (half : HalfPurged s k w a b e) : ∃ t, execPurgeSweepComplete s = .next t ∧ t.purge = [] ∧ (∀ i, i ≠ k → t.slice i = s.slice i) ∧
      (t.slice k).dir = [(s.setOf e.line * 16 + w, { e with ptrs := [b] })] ∧ t = { s with purge := [], slices := t.slices } := by
  obtain ⟨none, idle, empty⟩ := quiet
  have does := purgeSlice_half none (idle k) half
  have slice := dirSet_slice s k e.line w { e with ptrs := [b] }
  have others : ∀ j, j ≠ k → (dirSet s k e.line w { e with ptrs := [b] }).slice j = s.slice j := fun j hj => State.slice_modSlice_other _ _ hj
  have rest : dirSet s k e.line w { e with ptrs := [b] } = { s with slices := (dirSet s k e.line w { e with ptrs := [b] }).slices } := rfl
  generalize dirSet s k e.line w { e with ptrs := [b] } = t at does slice others rest
  have noneT : NoneAwaited t := fun j => by
    by_cases hj : j = k
    · rw [hj, slice]; exact none k
    · rw [others j hj]; exact none j
  have inRange : k < Config.nSlices := by
    have here := present
    rw [State.slicePresent] at here
    exact of_decide_eq_true (Bool.and_eq_true_iff.1 here).1
  have listed : k ∈ s.sliceList := List.mem_filter.2 ⟨List.mem_range.2 inRange, present⟩
  have all : s.sliceList.foldl purgeSlice s = t := foldl_once (List.nodup_range.filter _) listed does
    (fun j hj => purgeSlice_empty none (idle j) (empty j hj))
    fun j hj => purgeSlice_empty noneT (by rw [others j hj]; exact idle j) (by rw [others j hj]; exact empty j hj)
  have changed : ({ e with ptrs := [b] } : DEntry) ≠ dentryD (s.setOf e.line * 16 + w) := fun c => by
    have valid := congrArg DEntry.valid c
    exact Bool.noConfusion (half.valid.symm.trans valid)
  refine ⟨{ t with purge := [] }, by rw [execPurgeSweepComplete, all], rfl, others, ?_, by rw [rest]⟩
  show (t.slice k).dir = _
  rw [slice, half.dir]
  dsimp only
  rw [sset, if_neg changed, sput, if_neg (Nat.lt_irrefl _), if_pos rfl]

/-- Settles O31: `evictClean_takes`, `evictDirty_takes`, `takeGack_ends`, `purgeAgents_purges` and `purgeSlice_half`. -/
theorem noticesGrantsAndPurgesEndTheirHold : Obligations.NoticesGrantsAndPurgesEndTheirHold := by
  refine ⟨fun s src tag addr p i line off v e host home hline calm way entry bcast ptrs takes => ?_,
    fun s src tag addr i line off x e home hline slice arrives here sent tagged stage still entry held inq confq retryq none takes => ?_,
    fun s src agents away some_ none compat arrives => ?_, fun s k w a b e quiet present way dir valid sound shared bcast ptrs gone stays => ?_⟩
  · subst hline
    have holder : LastHolder s i (off / 64) v src e := ⟨way, entry, bcast, ptrs⟩
    refine ⟨fun shared arrives => ?_, fun w old d bad dirty arrives hit pol => ?_⟩
    · have goes := (srspArrive_takes (m := srspMsg s opcEVICT_CLEAN src tag addr false false []) arrives rfl rfl home calm.slice takes).trans
        (srspTake_notice rfl (show opcEVICT_CLEAN ≠ opcGACK by decide) host.loc)
      obtain ⟨⟨answered, freed, others, rest⟩, slice⟩ := evictClean_takes (tag := tag) (d := BitVec.ofNat 512 (ofWordsLE [])) host calm holder shared
      exact ⟨_, congrArg Host.Outcome.next goes, answered, freed, others, slice, rest⟩
    · have goes := (srspArrive_takes (m := srspMsg s opcEVICT_DIRTY src tag addr false bad (wordsLE 16 d.toNat)) arrives rfl rfl home calm.slice takes).trans
        (srspTake_notice rfl (show opcEVICT_DIRTY ≠ opcGACK by decide) host.loc)
      have body : BitVec.ofNat 512 (ofWordsLE (srspMsg s opcEVICT_DIRTY src tag addr false bad (wordsLE 16 d.toNat)).body) = d := body_line d
      rw [body] at goes
      obtain ⟨⟨answered, freed, others, rest⟩, oneWay⟩ := evictDirty_takes (tag := tag) (d := d) (bad := bad) host calm holder dirty hit pol
      have written : broughtWay s i (off / 64) w d bad = { s.hway i (s.setOf (off / 64)) w with data := d, poison := bad, dirty := true } := by
        rw [broughtWay, ← hit.good.1]
      rw [written] at oneWay
      exact ⟨_, congrArg Host.Outcome.next goes, answered, freed, others, oneWay, rest⟩
  · subst hline
    have goes := (srspArrive_takes (m := srspMsg s opcGACK src tag addr false false []) arrives rfl rfl home slice takes).trans (srspTake_gack rfl)
    exact ⟨_, congrArg Host.Outcome.next goes, takeGack_ends here sent tagged stage still entry held ⟨inq, confq, retryq⟩ none⟩
  · have narrow := arrives.narrow (r := fun m => m.opc == opcPURGE_NOTICE && m.src == src && m.body == [agents] && m.dst.dev == s.devNum)
      fun m hm => (Bool.and_eq_true_iff.1 hm).1
    obtain ⟨here, others, cleared, rest⟩ := purgeAgents_purges (d := src.dev) some_ none
    refine ⟨purgeAgents s [(src.dev, agents.toNat)], ?_, here, others, cleared, rest⟩
    show execPurgeNotice src agents s = _
    rw [execPurgeNotice, narrow.takeMsg]
    dsimp only
    rw [compat, if_neg Bool.false_ne_true, if_neg (fun c => c.elim (fun c => Bool.noConfusion (arrives.alive.1.symm.trans c)) away)]
  · exact sweepTakesThePurged s k w a b e
      ⟨fun j => ⟨(quiet j).1, (quiet j).2.1⟩, fun j => ⟨(quiet j).2.2.1, (quiet j).2.2.2.1, (quiet j).2.2.2.2.1⟩, fun j => (quiet j).2.2.2.2.2⟩
      present ⟨dir, way, valid, sound, ⟨shared, bcast, ptrs⟩, gone, stays⟩

end

section
/-! PROOF. The registers of a slice, and its sweeps: HEARTH_EN as a write, the sweep's visit of a set (R231, R233, R234, R244). -/
namespace Sys2Proof.Machine
open Config

variable {s t u : State} {m : Master} {i rel : Nat}

/-! ## The registers of a slice -/

theorem blockAt_sliceReg (hi : i < nSlices) (hr : rel < 0x10000) : blockAt (sliceReg i rel) = .slice i := by
  have hi : i < 16 := hi
  have eq : sliceReg i rel = 0x200000 + i * 0x10000 + rel := rfl
  unfold blockAt
  iterate 7 rw [if_neg (by omega)]
  rw [if_pos (by omega), show (sliceReg i rel - 0x200000) / 0x10000 = i by omega]

theorem sliceReg_sub_base (i rel : Nat) : sliceReg i rel - (Block.slice i).base = rel := Nat.add_sub_cancel_left ..

theorem regFields_sliceReg (hi : i < nSlices) (hr : rel < 0xFFF8) : regFields (sliceReg i rel) = sliceFields rel := by
  have status : rel ≠ 0xFFF8 := by omega
  have viol : rel ≠ 0xFFFC := by omega
  simp only [regFields, blockAt_sliceReg hi (by omega : rel < 0x10000), sliceReg_sub_base, blockFields, status, viol, if_false]

theorem selfClear_sliceReg (hi : i < nSlices) (hr : rel < 0x10000) : selfClear (sliceReg i rel) = if rel = 0x18 then 0x10 else 0 := by
  simp only [selfClear, blockAt_sliceReg hi hr, sliceReg_sub_base]

theorem wholeValue_sliceReg (s : State) (hi : i < nSlices) (hr : rel < 0x10000) : wholeValue s (sliceReg i rel) = none := by
  simp only [wholeValue, blockAt_sliceReg hi hr]

theorem startWrite_sliceReg (s : State) (m : Master) (hi : i < nSlices) (hr : rel < 0x10000) (old v : Word) :
    startWrite s m (sliceReg i rel) old v = startSlice s i rel v := by
  simp only [startWrite, blockAt_sliceReg hi hr, sliceReg_sub_base]

theorem ordinary_sliceReg (hi : i < nSlices) (hr : rel < 0xFFF8) (aligned : rel % 4 = 0) (listed : (sliceFields rel).isEmpty = false)
    (unlocked : ((sliceFields rel).any fun f => f.ty == .w1l) = false) : Ordinary (sliceReg i rel) where
  apart := by unfold sliceReg; omega
  aligned := by unfold sliceReg; omega
  single := by rw [pairLow, blockAt_sliceReg hi (by omega)]
  listed := by rw [regFields_sliceReg hi hr]; exact listed
  unlocked := by rw [regFields_sliceReg hi hr]; exact unlocked
  noDoorbell n := by rw [blockAt_sliceReg hi (by omega)]; exact Block.noConfusion
  noCounter h := by rw [blockAt_sliceReg hi (by omega)] at h; exact Block.noConfusion h.1

/-- A write of a slice's register that passes the checks. -/
theorem CwReach.writes_sliceReg (h : CwReach s m (sliceReg i rel)) (hi : i < nSlices) (hr : rel < 0xFFF8) (aligned : rel % 4 = 0)
    (listed : (sliceFields rel).isEmpty = false) (unlocked : ((sliceFields rel).any fun f => f.ty == .w1l) = false) (v : Nat) :
    ∃ u, writeNative s m (sliceReg i rel) v = startSlice u i rel (w32 v) ∧ RegStored s u (sliceReg i rel) ∧
      u.rd (sliceReg i rel) = writtenValue s (sliceReg i rel) (w32 v) (BitVec.allOnes 32) := by
  have block := blockAt_sliceReg hi (by omega : rel < 0x10000)
  obtain ⟨u, written, stored, value⟩ := h.writes (ordinary_sliceReg hi hr aligned listed unlocked) (v := v)
    fun t => filterWrite_other (by rw [block]; exact Block.noConfusion) (by rw [block]; exact Block.noConfusion)
      (by rw [block]; exact Block.noConfusion) (by rw [block]; exact Block.noConfusion) (by rw [block]; exact Block.noConfusion)
  rw [startWrite_sliceReg u m hi (by omega)] at written
  exact ⟨u, written, stored, value⟩

theorem RegStored.slice {off : Nat} (h : RegStored s u off) (j : Nat) : u.slice j = s.slice j := by rw [h.rest]; rfl

/-- HEARTH_EN is written. -/
theorem writeField_hearthEn (h : CwReach s m (sliceReg i 0)) (hi : i < nSlices) (on : Bool) :
    ∃ u, writeField s m (sliceReg i 0) 0 1 (b2n on) = (if on then hearthEnable u i else hearthDisable u i) ∧
      RegStored s u (sliceReg i 0) ∧ u.bit (sliceReg i 0) 0 = on := by
  have fields : regFields (sliceReg i 0) = sliceFields 0 := regFields_sliceReg hi (by decide)
  obtain ⟨u, written, stored, value⟩ := h.writes_sliceReg hi (by decide) rfl (by decide) (by decide) (keepRest s (sliceReg i 0) 0 1 (b2n on))
  have bit : (w32 (keepRest s (sliceReg i 0) 0 1 (b2n on))).getLsbD 0 = on :=
    (keepRest_bit s _ 0 1 _ (by decide) (Or.inl ⟨Nat.le_refl 0, Nat.one_pos⟩)).trans (by cases on <;> rfl)
  refine ⟨u, ?_, stored, ?_⟩
  · rw [writeField, written]
    show (if (w32 _).getLsbD 0 then hearthEnable u i else hearthDisable u i) = _
    rw [bit]
  · rw [State.bit, value]
    exact (writtenValue_rw (by decide) (by rw [fields]; decide) (wholeValue_sliceReg s hi (by decide)) (by rw [fields]; decide)
      (by rw [selfClear_sliceReg hi (by decide)]; decide) (by rw [fields]; decide)).trans bit

/-- One slice of a state that a write has stored a register in changes. -/
theorem RegStored.modSlice {off : Nat} (h : RegStored s u off) (f : Slice → Slice) (i : Nat) :
    (u.modSlice i f).slice i = f (s.slice i) ∧ (∀ j, j ≠ i → (u.modSlice i f).slice j = s.slice j) ∧
      u.modSlice i f = { s with reg := (u.modSlice i f).reg, slices := (u.modSlice i f).slices } :=
  ⟨by rw [State.slice_modSlice_same, h.slice], fun j hj => by rw [State.slice_modSlice_other u _ hj, h.slice], by
    obtain ⟨x, hx⟩ : ∃ x, u.modSlice i f = { u with slices := x } := ⟨_, rfl⟩
    rw [hx]
    exact congrArg (fun v : State => { v with slices := x }) h.rest⟩

/-- What a write of HEARTH_EN = 1 makes of a slice (R234). -/
def enabledSlice (x : Slice) : Slice :=
  if x.disabled && !x.coldPrep then { x with disabled := false } else if x.disabling then { x with reEnable := true } else x

theorem hearthEnable_eq (s : State) (i : Nat) : hearthEnable s i = s.modSlice i enabledSlice := rfl

theorem enabledSlice_disabled {x : Slice} (off : x.disabled = true) (prep : x.coldPrep = false) : enabledSlice x = { x with disabled := false } :=
  if_pos (by rw [off, prep]; rfl)

theorem enabledSlice_disabling {x : Slice} (on : x.disabled = false) (dis : x.disabling = true) : enabledSlice x = { x with reEnable := true } :=
  (if_neg (by rw [on]; exact Bool.false_ne_true)).trans (if_pos dis)

/-! ## One visit of a walk -/

/-- A clean line with nothing open leaves its way at once. -/
theorem walkWay_invalidates {set w : Nat} (free : (s.hway i set w).reserved = false)
    (quiet : (s.hway i set w).valid = true → (s.hway i set w).dirty = false ∧ lineBusy (s.slice i) (s.hway i set w).line = false) :
    walkBlocked s i set w = false ∧ walkWay s i set w true = if (s.hway i set w).valid then s.clearWay i set w else s := by
  have unblocked : walkBlocked s i set w = false := by
    rw [walkBlocked, free, Bool.false_or]
    cases valid : (s.hway i set w).valid with
    | false => rw [Bool.false_and]
    | true =>
      obtain ⟨clean, idle⟩ := quiet valid
      rw [idle, clean, Bool.false_and, Bool.or_false, Bool.and_false]
  refine ⟨unblocked, ?_⟩
  rw [walkWay]
  dsimp only
  rw [unblocked]
  cases valid : (s.hway i set w).valid with
  | false => rw [if_pos (Or.inl rfl), if_neg Bool.false_ne_true]
  | true =>
    rw [if_neg (show ¬ (true = false ∨ false = true) from fun c => c.elim (fun h => Bool.noConfusion h) fun h => Bool.noConfusion h),
      (quiet valid).1, if_neg Bool.false_ne_true, if_pos rfl]

/-! ## The sweep of one set (R231, R233) -/

/-- From s to t the first k ways of a set have lost their lines, and nothing else has changed. -/
structure WaysSwept (s t : State) (i set k : Nat) : Prop where
  only : t.slice i = { s.slice i with hearth := (t.slice i).hearth }
  gone : ∀ w < k, (t.hway i set w).valid = false ∧ (t.hway i set w).reserved = false
  left : ∀ n, n / 16 ≠ set ∨ k ≤ n % 16 → sget hlineD (t.slice i).hearth n = sget hlineD (s.slice i).hearth n
  others : ∀ j, j ≠ i → t.slice j = s.slice j
  rest : t = { s with slices := t.slices }

/-- A way of the set that a sweep may invalidate at once. -/
def SweepsAtOnce (s : State) (i set w : Nat) : Prop := (s.hway i set w).reserved = false ∧
  ((s.hway i set w).valid = true → (s.hway i set w).dirty = false ∧ lineBusy (s.slice i) (s.hway i set w).line = false)

/-- What a state that differs in slices alone becomes by a change of one slice differs in slices alone. -/
theorem slices_modSlice (h : t = { s with slices := t.slices }) (i : Nat) (f : Slice → Slice) :
    t.modSlice i f = { s with slices := (t.modSlice i f).slices } := by
  obtain ⟨x, hx⟩ : ∃ x, t.modSlice i f = { t with slices := x } := ⟨_, rfl⟩
  rw [hx]
  exact congrArg (fun v : State => { v with slices := x }) h

theorem slices_clearWay (h : t = { s with slices := t.slices }) (i set w : Nat) :
    t.clearWay i set w = { s with slices := (t.clearWay i set w).slices } := slices_modSlice h i _

theorem clearWay_others (s : State) {i j : Nat} (set w : Nat) (hj : j ≠ i) : (s.clearWay i set w).slice j = s.slice j :=
  State.slice_modSlice_other s _ hj

theorem WaysSwept.next {set k : Nat} (h : WaysSwept s t i set k) (hk : k < 16) (ready : SweepsAtOnce s i set k) :
    WaysSwept s (walkWay t i set k true) i set (k + 1) := by
  have here : t.hway i set k = s.hway i set k := h.left _ (Or.inr (by omega))
  have busy (l : Nat) : lineBusy (t.slice i) l = lineBusy (s.slice i) l := by rw [h.only]; rfl
  obtain ⟨free, quiet⟩ := ready
  rw [(walkWay_invalidates (by rw [here]; exact free) (by rw [here, busy]; exact quiet)).2]
  cases valid : (t.hway i set k).valid with
  | false =>
    rw [if_neg Bool.false_ne_true]
    refine ⟨h.only, fun w hw => ?_, fun n hn => h.left n (hn.imp id (by omega)), h.others, h.rest⟩
    by_cases at_ : w = k
    · rw [at_]
      exact ⟨valid, by rw [here]; exact free⟩
    · exact h.gone w (by omega)
  | true =>
    rw [if_pos rfl]
    obtain ⟨way, apart⟩ := clearWay_oneWay t i set k
    refine ⟨?_, fun w hw => ?_, fun n hn => ?_, fun j hj => (clearWay_others t set k hj).trans (h.others j hj),
      slices_clearWay h.rest i set k⟩
    · rw [clearWay_onlyHearth, h.only]
    · by_cases at_ : w = k
      · rw [at_, way]
        exact ⟨rfl, rfl⟩
      · have same : (t.clearWay i set k).hway i set w = t.hway i set w := apart _ (by omega)
        rw [same]
        exact h.gone w (by omega)
    · rw [apart n (by omega)]
      exact h.left n (hn.imp id (by omega))

theorem waysSwept {set : Nat} (ready : ∀ w < 16, SweepsAtOnce s i set w) : ∀ k ≤ 16,
    WaysSwept s ((List.range k).foldl (fun s w => walkWay s i set w true) s) i set k := by
  intro k hk
  induction k with
  | zero => exact ⟨rfl, fun w hw => absurd hw (Nat.not_lt_zero w), fun _ _ => rfl, fun _ _ => rfl, rfl⟩
  | succ k ih =>
    rw [List.range_succ, List.foldl_append, List.foldl_cons, List.foldl_nil]
    exact (ih (by omega)).next (by omega) (ready k (by omega))

/-- A disabling sweep visits a set where nothing must wait. -/
theorem sweepStep_disables {l : List SweepWhy} (sweeps : (s.slice i).sweeps = SweepWhy.disable :: l) (lit : s.domLit (20 + i) = true)
    (ready : ∀ w < 16, SweepsAtOnce s i (s.slice i).sweepPos w) : ∃ t, WaysSwept s t i (s.slice i).sweepPos 16 ∧
      sweepStep s i = if (s.slice i).sweepPos + 1 < 65536 then t.modSlice i fun x => { x with sweepPos := (s.slice i).sweepPos + 1 }
        else sweepEnd t i := by
  have swept := waysSwept ready 16 (Nat.le_refl _)
  obtain ⟨set, hset⟩ : ∃ n, n = (s.slice i).sweepPos := ⟨_, rfl⟩
  rw [← hset] at swept ⊢
  obtain ⟨t, ht⟩ : ∃ t, t = (List.range 16).foldl (fun s w => walkWay s i set w true) s := ⟨_, rfl⟩
  rw [← ht] at swept
  have unblocked : ((List.range 16).any fun w => walkBlocked t i set w) = false := List.any_eq_false.2 fun w hw => by
    obtain ⟨valid, free⟩ := swept.gone w (List.mem_range.1 hw)
    rw [walkBlocked, valid, free]
    exact Bool.false_ne_true
  refine ⟨t, swept, ?_⟩
  rw [sweepStep, lit, if_neg (fun c => Bool.noConfusion c), sweeps]
  dsimp only
  rw [← hset, show (SweepWhy.disable == SweepWhy.disable) = true from rfl, ← ht, unblocked, if_neg Bool.false_ne_true]

end Sys2Proof.Machine
open Sys2Proof Sys2Proof.Machine

/-- Settles O35: HEARTH_EN is stored and starts or holds back its change; a sweep's step takes the sixteen ways of its set one by
one, and the last set ends the sweep. -/
theorem disablingSweepsASliceEmpty : Obligations.DisablingSweepsASliceEmpty := by
  intro s i hi
  refine ⟨fun m h => ⟨fun on quiet => ?_, fun off prep => ?_, fun on dis => ?_⟩, fun dark => ?_, fun l sweeps lit ready => ?_⟩
  · obtain ⟨u, written, stored, bit⟩ := writeField_hearthEn h hi false
    rw [if_neg Bool.false_ne_true, hearthDisable] at written
    rw [stored.slice, on, quiet, if_neg Bool.false_ne_true, if_neg Bool.false_ne_true] at written
    obtain ⟨slice, others, rest⟩ := stored.modSlice
      (fun x => { x with disabling := true, sweeps := x.sweeps ++ [.disable], txns := x.txns.map fun t => { t with pol := 2 } }) i
    exact ⟨_, (if_pos hi).trans (congrArg Host.Outcome.next written), bit, stored.regs, slice, others, rest⟩
  · obtain ⟨u, written, stored, bit⟩ := writeField_hearthEn h hi true
    rw [if_pos rfl, hearthEnable_eq] at written
    obtain ⟨slice, others, rest⟩ := stored.modSlice enabledSlice i
    exact ⟨_, (if_pos hi).trans (congrArg Host.Outcome.next written), bit, stored.regs, slice.trans (enabledSlice_disabled off prep), others, rest⟩
  · obtain ⟨u, written, stored, bit⟩ := writeField_hearthEn h hi true
    rw [if_pos rfl, hearthEnable_eq] at written
    obtain ⟨slice, others, rest⟩ := stored.modSlice enabledSlice i
    exact ⟨_, (if_pos hi).trans (congrArg Host.Outcome.next written), slice.trans (enabledSlice_disabling on dis), others, rest⟩
  · show onUnit Config.nSlices i (sweepStep s i) = _
    rw [sweepStep, if_pos dark]
    exact if_pos hi
  · obtain ⟨t, swept, steps⟩ := sweepStep_disables sweeps lit ready
    refine ⟨sweepStep s i, if_pos hi, ?_⟩
    rw [steps]
    by_cases last : (s.slice i).sweepPos + 1 < 65536
    · rw [if_pos last]
      refine ⟨fun w hw => ?_, fun n hn => ?_, fun j hj => (State.slice_modSlice_other t _ hj).trans (swept.others j hj), ?_, fun _ => ?_, fun c => by omega⟩
      · rw [hway_congr (s := t) (by rw [State.slice_modSlice_same])]
        exact (swept.gone w hw).1
      · rw [State.slice_modSlice_same]
        exact swept.left n (Or.inl hn)
      · exact slices_modSlice swept.rest i _
      · rw [State.slice_modSlice_same, swept.only]
        exact ⟨rfl, sweeps, rfl⟩
    · have held : (t.slice i).sweeps = .disable :: l := by rw [swept.only]; exact sweeps
      rw [if_neg last, sweepEnd, held]
      dsimp only
      refine ⟨fun w hw => ?_, fun n hn => ?_, fun j hj => ?_, ?_, fun c => absurd c (by omega), fun _ => ?_⟩
      · rw [hway_congr (s := t) (by rw [State.slice_modSlice_same, State.slice_modSlice_same])]
        exact (swept.gone w hw).1
      · rw [State.slice_modSlice_same, State.slice_modSlice_same]
        exact swept.left n (Or.inl hn)
      · rw [State.slice_modSlice_other _ _ hj, State.slice_modSlice_other _ _ hj]
        exact swept.others j hj
      · exact slices_modSlice (slices_modSlice swept.rest i _) i _
      · rw [State.slice_modSlice_same, State.slice_modSlice_same, swept.only]
        exact ⟨rfl, rfl, rfl, rfl⟩
end

section
/-! PROOF. Way quench (R79, R236, R237, R245): QUENCH bits through the window of the master, the walk, and power-up. -/
namespace Sys2Proof.Machine
open Config

variable {s t u : State} {m : Master} {i : Nat}

/-! ## IND_ADDR (R79) -/

theorem windowAddr_facts (w : Bool) : blockAt (windowReg w) = .indirect ∧ pairLow (windowReg w) = false ∧
    (regFields (windowReg w)).isEmpty = false ∧ guardMask (windowReg w) = BitVec.allOnes 32 ∧ windowReg w % 4 = 0 ∧
    ¬ (windowReg w = 0x40004 ∨ windowReg w = 0x40014) ∧ windowReg w ≠ 0x4001C ∧ (windowReg w = 0x40000 ∨ windowReg w = 0x40010) ∧
    ((regFields (windowReg w)).any fun f => f.ty == .w1l) = false := by
  cases w <;> decide

/-- IND_ADDR holds what is written. -/
theorem writtenValue_windowAddr (s : State) (w : Bool) (v : Word) : writtenValue s (windowReg w) v (BitVec.allOnes 32) = v := by
  apply BitVec.eq_of_getLsbD_eq
  intro k hk
  have noMw : ((regFields (windowReg w)).any fun f => f.ty == .mw) = false := by cases w <;> decide
  have whole : wholeValue s (windowReg w) = none := by cases w <;> rfl
  have rw_ : (maskOf (regFields (windowReg w)) fun f => f.ty == .rw || f.ty == .w1l) = 2 ^ 32 - 1 := by cases w <;> decide
  have clears : selfClear (windowReg w) = 0 := by cases w <;> decide
  have w1c : (maskOf (regFields (windowReg w)) fun f => f.ty == .w1c) = 0 := by cases w <;> decide
  exact writtenValue_rw hk noMw whole (by rw [rw_, Nat.testBit_two_pow_sub_one, decide_eq_true hk]) (by rw [clears, Nat.zero_testBit])
    (by rw [w1c, Nat.zero_testBit])

/-- IND_ADDR is written by a master that reaches it. -/
theorem CwReach.writeNative_windowAddr {w : Bool} (h : CwReach s m (windowReg w)) (free : shutOut s m = false) (idle : s.reg.stalled = []) (v : Word) :
    writeNative s m (windowReg w) v.toNat = (spendShadow s m .indirect).wr (windowReg w) (v &&& ~~~ 3) := by
  obtain ⟨block, single, listed, guard, aligned, noData, noClaim, addr, unlocked⟩ := windowAddr_facts w
  have pass : passes m (windowReg w) = true := h.allowed.resolve_right (by rw [guard]; decide)
  have near : indDomain s ⟨m, usedOff s m (windowReg w), 4, true, BitVec.ofNat 64 v.toNat, .bus⟩ (windowReg w) = none := by
    unfold indDomain
    rw [touchedData_aligned _ _ _ _ aligned]
    exact if_neg fun c => noData c.1
  refine (cwAccess_performs_open h.running h.votes h.place h.served h.awake (by rw [free, Bool.and_false]) (windowBusy_idle idle _) near).trans ?_
  have performed : perform s ⟨m, usedOff s m (windowReg w), 4, true, BitVec.ofNat 64 v.toNat, .bus⟩ (windowReg w) =
      (write4 s m (windowReg w) v, 0) := by
    simp [perform, touchedData_aligned _ _ _ _ aligned, pass, wellFormedAccess, aligned]
  have shut : shutOut (spendShadow s m .indirect) m = false := free
  have full : ¬ BitVec.allOnes 32 = (0 : Word) := by decide
  have filter : filterWrite (spendShadow s m .indirect) m (windowReg w) v = (spendShadow s m .indirect, some v) :=
    filterWrite_other (by rw [block]; exact Block.noConfusion) (by rw [block]; exact Block.noConfusion)
      (by rw [block]; exact Block.noConfusion) (by rw [block]; exact Block.noConfusion) (by rw [block]; exact Block.noConfusion)
  have written : writeReg (spendShadow s m .indirect) m (windowReg w) (windowReg w) v =
      ((spendShadow s m .indirect).wr (windowReg w) (v &&& ~~~ 3), false) := by
    have start (t : State) (old v : Word) : startWrite t m (windowReg w) old v = t := by
      rw [startWrite, block]
    have noTel : ¬ (blockAt (windowReg w) = .telemetry ∧ windowReg w - 0x700000 < 0x3600) := fun c => by rw [block] at c; exact Block.noConfusion c.1
    simp only [writeReg, shut, Bool.and_false, Bool.false_eq_true, if_false, listed, pass, Bool.not_true, Bool.false_and, full, noData, noClaim,
      unlocked, noTel, filter, addr, if_true, voteReg_of_agree (agree_spendShadow h.votes .indirect), start, writtenValue_windowAddr]
  rw [performed, write4_single h.noHeld (by rw [holdsLow, single, Bool.false_and]) (fun n => by rw [block]; exact Block.noConfusion), block, written]
  rfl

/-- Only registers differ, and the mode is the same: the units present and the domains that answer are the same. -/
structure SameMode (s t : State) : Prop where
  frame : t = { s with reg := t.reg }
  mode : t.rd 0x8 = s.rd 0x8

theorem SameMode.compat (h : SameMode s t) : t.compat = s.compat := congrArg (·.getLsbD 0) h.mode

theorem SameMode.devId (h : SameMode s t) : t.devId = s.devId := by rw [h.frame]; rfl

theorem SameMode.boot (h : SameMode s t) : t.boot = s.boot := by rw [h.frame]

theorem SameMode.domPresent (h : SameMode s t) (d : Nat) : t.domPresent d = s.domPresent d := by
  simp only [State.domPresent, State.portPresent, State.slicePresent, State.stackPresent, State.clusterPresent, State.fwdPresent, h.compat, h.devId]

theorem SameMode.dom (h : SameMode s t) (d : Nat) : t.dom d = s.dom d := by rw [State.dom, State.dom, h.frame]

theorem SameMode.domLit (h : SameMode s t) (d : Nat) : t.domLit d = s.domLit d := by
  rw [State.domLit, State.domLit, State.domSt, State.domSt, h.domPresent, h.dom]

theorem SameMode.cwPlace (h : SameMode s t) (m : Master) (off : Nat) : cwPlace t m off = cwPlace s m off := by
  have present (b : Block) : t.blockPresent b = s.blockPresent b := by
    cases b <;> simp only [State.blockPresent, State.portPresent, State.slicePresent, State.stackPresent, State.clusterPresent, h.compat, h.devId]
  simp only [Machine.cwPlace, present, h.compat]

/-- A master that reaches a register reaches it still once it has written a register of the window. -/
theorem CwReach.afterAddr {off a : Nat} (h : CwReach s m off) (apart : a ≠ 0x8) (b : Block) (v : Word) :
    CwReach ((spendShadow s m b).wr a v) m off := by
  have file := onlyFile_wr (spendShadow s m b) a v
  have agree := agree_wr (agree_spendShadow (m := m) h.votes b) a v
  have same : SameMode s ((spendShadow s m b).wr a v) := ⟨by rw [file.frame]; rfl, State.rd_wr_other _ _ apart.symm⟩
  generalize (spendShadow s m b).wr a v = u at file agree same ⊢
  have held : u.reg.held = s.reg.held := by rw [show u = _ from file]; rfl
  refine ⟨by rw [same.boot]; exact h.running, agree, ?_, ?_, by rw [same.domLit]; exact h.awake, h.allowed, by rw [held]; exact h.noHeld⟩
  · rw [usedOff, same.compat, same.cwPlace]
    exact h.place
  · rw [cwServed, same.boot]
    exact h.served

/-- The KEEP bits that a far write stores (R57). -/
def farKept (s : State) (p : FarPlace) (off : Nat) (v : Word) : State :=
  match farNamed p off with
  | some m => if testOpen s then
      { s with reg := { s.reg with farKeep := sset wordD s.reg.farKeep (farKey p off) (v &&& ~~~ m) } } else s
  | none => s

theorem farKept_frame (s : State) (p : FarPlace) (off : Nat) (v : Word) :
    ∃ k, farKept s p off v = { s with reg := { s.reg with farKeep := k } } := by
  unfold farKept
  split
  · split
    · exact ⟨_, rfl⟩
    · exact ⟨s.reg.farKeep, rfl⟩
  · exact ⟨s.reg.farKeep, rfl⟩

/-- A far write of WAYQ_CTL: its KEEP bits beside what the register does. -/
theorem farWrite_wayqWrite (s : State) (i : Nat) (v : Word) : farWrite s (.wayq i) 0 v = wayqWrite (farKept s (.wayq i) 0 v) i v := by
  cases named : farNamed (.wayq i) 0 with
  | none => simp only [farWrite, farKept, named, if_true]
  | some mask => simp only [farWrite, farKept, named, if_true]

theorem toNat_w32 {n : Nat} (h : n < 2 ^ 32) : (w32 n).toNat = n := Nat.mod_eq_of_lt h

/-- WAYQ_CTL of a slice is written through a window: the two accesses of software. -/
theorem writeWayq_writes (hi : i < nSlices) (h : CwReach s m (windowReg (!masterSecure m))) (h' : CwReach s m (windowReg (!masterSecure m) + 4))
    (idle : s.reg.stalled = []) (claim : s.reg.claim = .none ∨ holdsClaim s m = true) (present : s.slicePresent i = true)
    (booted : 5 < s.boot.step) (awake : s.domLit (20 + i) = true) (v : Word) :
    ∃ u t, writeWayq s m i v = t ∧ u = { s with reg := u.reg } ∧ u.reg.wayq = s.reg.wayq ∧
      (∀ x, x ≠ windowReg (!masterSecure m) → t.rd x = s.rd x) ∧ t.reg.wayq = (wayqWrite u i v).reg.wayq ∧
      (∀ j, t.slice j = (wayqWrite u i v).slice j) ∧ t = { s with reg := t.reg, slices := t.slices } := by
  obtain ⟨w, hw⟩ : ∃ w, w = !masterSecure m := ⟨_, rfl⟩
  rw [writeWayq, ← hw]
  rw [← hw] at h h'
  have free := shutOut_eq_false claim
  have small : (0x30 + i) * 2 ^ 24 < 2 ^ 32 := by have : i < 16 := hi; omega
  have first := h.writeNative_windowAddr free idle (w32 ((0x30 + i) * 2 ^ 24))
  rw [toNat_w32 small] at first
  have low : (w32 ((0x30 + i) * 2 ^ 24) &&& ~~~ 3 : Word) = w32 ((0x30 + i) * 2 ^ 24) := by
    have : i < 16 := hi
    interval_cases i <;> decide
  have reach := h'.afterAddr (a := windowReg w) (by cases w <;> decide) .indirect (w32 ((0x30 + i) * 2 ^ 24))
  have file := onlyFile_wr (spendShadow s m .indirect) (windowReg w) (w32 ((0x30 + i) * 2 ^ 24))
  have value := State.rd_wr_same (spendShadow s m .indirect) (windowReg w) (w32 ((0x30 + i) * 2 ^ 24))
  have regs : ∀ x, x ≠ windowReg w → ((spendShadow s m .indirect).wr (windowReg w) (w32 ((0x30 + i) * 2 ^ 24))).rd x = s.rd x :=
    fun x hx => State.rd_wr_other _ _ hx
  rw [low] at first
  rw [first]
  generalize (spendShadow s m .indirect).wr (windowReg w) (w32 ((0x30 + i) * 2 ^ 24)) = u at reach file value regs
  have frame : u = { s with reg := u.reg } := by rw [file.frame]; rfl
  have target : u.fld (windowReg w) 24 7 = 0x30 + i := by
    rw [State.fld, value]
    have : i < 16 := hi
    interval_cases i <;> decide
  have offset : u.fld (windowReg w) 0 24 < 4 := by
    rw [State.fld, value]
    have : i < 16 := hi
    interval_cases i <;> decide
  have free' : shutOut u m = false := by
    have same : u.reg.claim = s.reg.claim := file.claim
    exact shutOut_eq_false (claim.imp same.trans (holdsClaim_congr same m).trans)
  have idle' : u.reg.stalled = [] := by rw [show u = _ from file]; exact idle
  have mode : SameMode s u := ⟨frame, regs _ (by cases w <;> decide)⟩
  have lit : u.domLit (20 + i) = true := by rw [mode.domLit]; exact awake
  have near : indDomain u ⟨m, usedOff u m (windowReg w + 4), 4, true, BitVec.ofNat 64 v.toNat, .bus⟩ (windowReg w + 4) = none :=
    indDomain_near _ _ _ (by cases w <;> decide) (Or.inr (by rw [indTarget_window, target, farPlace_wayq hi]; exact lit))
  have write := reach.writeNative_window (windowReg_mem w) (by rw [free', Bool.and_false]) idle' v near
  rw [reach.writeReg_data free', indWrite_wayq (s := spendShadow u m .indirect) hi v target offset (by rw [frame]; exact present)
    (by rw [frame]; exact booted)] at write
  obtain ⟨k, hq⟩ := farKept_frame (spendShadow u m .indirect) (.wayq i) 0 v
  rw [farWrite_wayqWrite] at write
  generalize farKept (spendShadow u m .indirect) (.wayq i) 0 v = q at hq write
  have qFrame : q = { s with reg := q.reg } := by
    rw [hq]
    exact congrArg (fun p : State => { p with reg := { (spendShadow u m .indirect).reg with farKeep := k } }) frame
  have qRegs (x : Nat) : q.rd x = u.rd x := by rw [hq]; rfl
  have qWayq : q.reg.wayq = s.reg.wayq := by
    rw [hq]
    show u.reg.wayq = _
    rw [show u = _ from file]
    rfl
  obtain ⟨reads, others, same, rest⟩ := wayqWrite_quenched q i v
  obtain ⟨-, -, stays, stepped⟩ := indStep_stepped (wayqWrite q i v) (windowReg w)
  refine ⟨q, _, write, qFrame, qWayq, fun x hx => ?_, ?_, fun j => ?_, ?_⟩
  · exact (stays x hx).trans ((same x).trans ((qRegs x).trans (regs x hx)))
  · exact stepped.wayq
  · show sget sliceD (indStep _ _).slices j = _
    exact congrArg (sget sliceD · j) stepped.slices
  · show indStep _ (windowReg w + 4) = { s with reg := (indStep _ (windowReg w + 4)).reg, slices := (indStep _ (windowReg w + 4)).slices }
    generalize wayqWrite q i v = a at rest stepped
    rw [stepped.slices]
    generalize indStep a (windowReg w + 4) = b at stepped
    rw [stepped.frame, rest]
    exact congrArg (fun p : State => { p with reg := b.reg, slices := a.slices }) qFrame
/-! ## What the QUENCH bits start (R236, R237) -/

theorem getLsbD_of_zero {n : Nat} {x : BitVec n} (h : x = 0) (k : Nat) : x.getLsbD k = false := by
  rw [h]
  exact BitVec.getLsbD_zero

/-- The QUENCH bit of a way that is neither retired nor on its way there. -/
theorem quenchBit_inService {v : Word} {w : Nat} (retired : (s.slice i).retired = 0) (retiring : (s.slice i).retiring = 0) :
    quenchBit i v s w = if v.getLsbD w then startWalk i w s
      else if (s.slice i).quenched.getLsbD w && !(s.slice i).powering.getLsbD w then powerUp i w s else s := by
  rw [quenchBit, getLsbD_of_zero retired, getLsbD_of_zero retiring, Bool.or_false, if_neg Bool.false_ne_true]

/-- The bits of QUENCH, one after the other, start the walks of their ways, where nothing walks and nothing is powered down. -/
theorem quenchBits_start {v : Word} (quenched : (s.slice i).quenched = 0) (powering : (s.slice i).powering = 0) (retired : (s.slice i).retired = 0)
    (retiring : (s.slice i).retiring = 0) (walking : (s.slice i).walking = []) (k : Nat) :
    ((List.range k).foldl (quenchBit i v) s).slice i = { s.slice i with
      walking := ((List.range k).filter fun w => v.getLsbD w).map fun w => (w, (s.slice i).walkPos) } := by
  induction k with
  | zero =>
    rw [List.range_zero, List.foldl_nil, List.filter_nil, List.map_nil, ← walking]
  | succ k ih =>
    rw [List.range_succ, List.foldl_append, List.foldl_cons, List.foldl_nil, List.filter_append, List.map_append]
    generalize (List.range k).foldl (quenchBit i v) s = u at ih
    have new : ((((List.range k).filter fun w => v.getLsbD w).map fun w => (w, (s.slice i).walkPos)).any fun e => e.1 == k) = false :=
      List.any_eq_false.2 fun e he => by
        obtain ⟨w, hw, rfl⟩ := List.mem_map.1 he
        have : w < k := List.mem_range.1 (List.mem_filter.1 hw).1
        rw [beq_iff_eq]
        exact Nat.ne_of_lt this
    have none_ : (u.slice i).quenched.getLsbD k = false := by rw [ih]; exact getLsbD_of_zero quenched k
    rw [quenchBit_inService (by rw [ih]; exact retired) (by rw [ih]; exact retiring), none_, Bool.false_and, if_neg Bool.false_ne_true]
    cases bit : v.getLsbD k with
    | false =>
      rw [if_neg Bool.false_ne_true, ih, List.filter_cons_of_neg (by rw [bit]; exact Bool.false_ne_true), List.filter_nil, List.map_nil,
        List.append_nil]
    | true =>
      rw [if_pos rfl, startWalk, State.slice_modSlice_same, ih, List.filter_cons_of_pos (by rw [bit]), List.filter_nil, List.map_cons, List.map_nil]
      exact if_neg (by rw [getLsbD_of_zero quenched, getLsbD_of_zero powering, new]; exact Bool.false_ne_true)

/-- The bits of QUENCH that are cleared power their ways up; the others leave their ways down. -/
theorem quenchBits_powerUp {v : Word} (powering : (s.slice i).powering = 0) (retired : (s.slice i).retired = 0)
    (retiring : (s.slice i).retiring = 0) (down : ∀ w < 16, v.getLsbD w = true → (s.slice i).quenched.getLsbD w = true) {k : Nat} (hk : k ≤ 16) :
    ∃ p : BitVec 16, ((List.range k).foldl (quenchBit i v) s).slice i = { s.slice i with powering := p } ∧
      ∀ w, p.getLsbD w = (decide (w < k) && (s.slice i).quenched.getLsbD w && !v.getLsbD w) := by
  induction k with
  | zero =>
    refine ⟨0, ?_, fun w => ?_⟩
    · rw [List.range_zero, List.foldl_nil, ← powering]
    · rw [getLsbD_of_zero rfl, decide_eq_false (Nat.not_lt_zero w), Bool.false_and, Bool.false_and]
  | succ k ih =>
    obtain ⟨p, slice, bits⟩ := ih (by omega)
    rw [List.range_succ, List.foldl_append, List.foldl_cons, List.foldl_nil]
    generalize (List.range k).foldl (quenchBit i v) s = u at slice
    have low : p.getLsbD k = false := by rw [bits, decide_eq_false (Nat.lt_irrefl k), Bool.false_and, Bool.false_and]
    have grow (w : Nat) : decide (w < k + 1) = (decide (w < k) || decide (w = k)) := by
      rw [← Bool.decide_or]
      exact decide_eq_decide.2 (by omega)
    have down_ : (u.slice i).quenched = (s.slice i).quenched := by rw [slice]
    have off : (u.slice i).powering.getLsbD k = false := by rw [slice]; exact low
    rw [quenchBit_inService (by rw [slice]; exact retired) (by rw [slice]; exact retiring), down_, off, Bool.not_false, Bool.and_true]
    cases bit : v.getLsbD k with
    | true =>
      rw [if_pos rfl, startWalk, State.slice_modSlice_same, slice]
      refine ⟨p, if_pos (by rw [down k (by omega) bit]; rfl), fun w => ?_⟩
      rw [bits, grow]
      by_cases at_ : w = k
      · rw [at_, bit, Bool.not_true, Bool.and_false, Bool.and_false]
      · rw [decide_eq_false at_, Bool.or_false]
    | false =>
      rw [if_neg Bool.false_ne_true]
      cases held : (s.slice i).quenched.getLsbD k with
      | false =>
        rw [if_neg Bool.false_ne_true]
        refine ⟨p, slice, fun w => ?_⟩
        rw [bits, grow]
        by_cases at_ : w = k
        · rw [at_, held, Bool.and_false, Bool.and_false]
        · rw [decide_eq_false at_, Bool.or_false]
      | true =>
        rw [if_pos rfl, powerUp, State.slice_modSlice_same, slice]
        refine ⟨p ||| BitVec.ofNat 16 (2 ^ k), rfl, fun w => ?_⟩
        rw [BitVec.getLsbD_or, bits, grow, BitVec.getLsbD_ofNat, Nat.testBit_two_pow]
        by_cases at_ : w = k
        · rw [at_, held, bit, decide_eq_true rfl, decide_eq_true (show k < 16 by omega)]
          simp
        · rw [decide_eq_false at_, decide_eq_false (Ne.symm at_), Bool.and_false, Bool.or_false, Bool.or_false]

theorem getLsbD_low16 (v : Word) {j : Nat} : (v &&& 0xFFFF).getLsbD j = (decide (j < 16) && v.getLsbD j) := by
  rw [BitVec.getLsbD_and, show (0xFFFF : Word) = BitVec.ofNat 32 (2 ^ 16 - 1) from rfl, BitVec.getLsbD_ofNat, Nat.testBit_two_pow_sub_one,
    Bool.and_comm]
  by_cases h : j < 16
  · rw [decide_eq_true h, decide_eq_true (show j < 32 by omega), Bool.and_self]
  · rw [decide_eq_false h, Bool.and_false]

theorem low16_setWidth (w : BitVec 16) : (w.setWidth 32 &&& 0xFFFF : Word) = w.setWidth 32 := by
  apply BitVec.eq_of_getLsbD_eq
  intro j hj
  rw [getLsbD_low16, BitVec.getLsbD_setWidth, decide_eq_true hj, Bool.true_and]
  by_cases h : j < 16
  · rw [decide_eq_true h, Bool.true_and]
  · rw [decide_eq_false h, Bool.false_and, BitVec.getLsbD_of_ge w j (by omega)]

/-- What software makes of QUENCH through its window (R79, R245). -/
structure WayqSoft (s t : State) (m : Master) (i : Nat) (v : Word) (x : Slice) : Prop where
  reads : wayqRead t i = v &&& 0xFFFF
  slice : t.slice i = x
  others : ∀ j, j ≠ i → t.slice j = s.slice j
  regs : ∀ x, x ≠ windowReg (!masterSecure m) → t.rd x = s.rd x
  rest : t = { s with reg := t.reg, slices := t.slices }

theorem WayqSoft.parts {v : Word} {x : Slice} (h : WayqSoft s t m i v x) {r : Word} (hr : v &&& 0xFFFF = r) : wayqRead t i = r ∧ t.slice i = x ∧
    (∀ j, j ≠ i → t.slice j = s.slice j) ∧ (∀ x, x ≠ windowReg (!masterSecure m) → t.rd x = s.rd x) ∧
    t = { s with reg := t.reg, slices := t.slices } := ⟨hr ▸ h.reads, h.slice, h.others, h.regs, h.rest⟩

theorem writeWayq_soft (hi : i < nSlices) (h : CwReach s m (windowReg (!masterSecure m))) (h' : CwReach s m (windowReg (!masterSecure m) + 4))
    (idle : s.reg.stalled = []) (claim : s.reg.claim = .none ∨ holdsClaim s m = true) (present : s.slicePresent i = true)
    (booted : 5 < s.boot.step) (awake : s.domLit (20 + i) = true) (retired : (s.slice i).retired = 0) (retiring : (s.slice i).retiring = 0)
    {v : Word} {x : Slice} (bits : ∀ u : State, u.slice i = s.slice i → ((List.range 16).foldl (quenchBit i (v &&& 0xFFFF)) u).slice i = x) :
    WayqSoft s (writeWayq s m i v) m i v x := by
  obtain ⟨u, t, written, frame, -, regs, wayq, slices, rest⟩ := writeWayq_writes hi h h' idle claim present booted awake v
  rw [written]
  obtain ⟨reads, others, -, -⟩ := wayqWrite_quenched u i v
  have same (j : Nat) : u.slice j = s.slice j := by rw [frame]; rfl
  have sees : wayqRead t i = wayqRead (wayqWrite u i v) i := by rw [wayqRead, wayqRead, wayq, slices]
  refine ⟨?_, ?_, fun j hj => (slices j).trans ((others j hj).trans (same j)), regs, rest⟩
  · rw [sees, reads, same, retired, retiring]
    exact (BitVec.or_zero).trans BitVec.or_zero
  · rw [slices]
    exact bits { u with reg := { u.reg with wayq := sset wordD u.reg.wayq i (v &&& 0xFFFF ||| ((u.slice i).retired.setWidth 32)) } } (same i)

/-! ## The walk and its end (R236, R237) -/

theorem wayqRead_modSlice (f : Slice → Slice) (retired : (f (s.slice i)).retired = (s.slice i).retired)
    (retiring : (f (s.slice i)).retiring = (s.slice i).retiring) : wayqRead (s.modSlice i f) i = wayqRead s i := by
  rw [wayqRead, State.slice_modSlice_same, retired, retiring]
  rfl

theorem OneWay.sameHearth {set w : Nat} {h : HLine} (o : OneWay s u i set w h) (same : (t.slice i).hearth = (u.slice i).hearth) :
    OneWay s t i set w h := ⟨by rw [State.hway, same]; exact o.way, fun n hn => by rw [same]; exact o.others n hn⟩

/-- A walk of one way visits a set where nothing must wait: the line goes, and the walk ends where it began. -/
theorem quenchStep_invalidates {w e : Nat} (walking : (s.slice i).walking = [(w, e)])
    (retiring : (s.slice i).retiring = 0) (free : (s.hway i (s.slice i).walkPos w).reserved = false)
    (valid : (s.hway i (s.slice i).walkPos w).valid = true) (clean : (s.hway i (s.slice i).walkPos w).dirty = false)
    (idle : lineBusy (s.slice i) (s.hway i (s.slice i).walkPos w).line = false) (asked : (wayqRead s i).getLsbD w = true) :
    (quenchStep s i).slice i = { s.slice i with
      hearth := ((s.clearWay i (s.slice i).walkPos w).slice i).hearth
      walkPos := ((s.slice i).walkPos + 1) % 65536
      quenched := if e = ((s.slice i).walkPos + 1) % 65536 then (s.slice i).quenched ||| BitVec.ofNat 16 (2 ^ w) else (s.slice i).quenched
      walking := if e = ((s.slice i).walkPos + 1) % 65536 then [] else [(w, e)] } ∧
    (∀ j, j ≠ i → (quenchStep s i).slice j = s.slice j) ∧ quenchStep s i = { s with slices := (quenchStep s i).slices } := by
  have visit := (walkWay_invalidates free fun _ => ⟨clean, idle⟩).2
  rw [valid, if_pos rfl] at visit
  obtain ⟨set, hset⟩ : ∃ n, n = (s.slice i).walkPos := ⟨_, rfl⟩
  rw [← hset] at visit ⊢
  have cleared := (clearWay_oneWay s i set w).way
  have only := clearWay_onlyHearth s i set w
  have reads : wayqRead (s.clearWay i set w) i = wayqRead s i := wayqRead_modSlice _ rfl rfl
  have others (j : Nat) (hj : j ≠ i) := clearWay_others s set w hj
  have rest := slices_clearWay (t := s) (s := s) rfl i set w
  rw [quenchStep]
  dsimp only
  rw [walking, List.isEmpty_cons, if_neg Bool.false_ne_true, List.foldl_cons, List.foldl_nil, ← hset, visit]
  generalize s.clearWay i set w = u at cleared only reads others rest ⊢
  have unblocked : walkBlocked u i set w = false := by rw [walkBlocked, cleared]; rfl
  have walks : (u.slice i).walking = [(w, e)] := by rw [only]; exact walking
  rw [List.any_cons, List.any_nil, unblocked, Bool.or_false, if_neg Bool.false_ne_true]
  obtain ⟨pos, hpos⟩ : ∃ n, n = (set + 1) % 65536 := ⟨_, rfl⟩
  rw [← hpos]
  by_cases last : e = pos
  · have noRetire : (u.slice i).retiring.getLsbD w = false := getLsbD_of_zero (by rw [only]; exact retiring) w
    rw [if_pos last, if_pos last, List.filter_cons_of_pos (by rw [last, beq_self_eq_true]), List.filter_nil, List.foldl_cons, List.foldl_nil, walkEnd,
      if_neg (by rw [State.slice_modSlice_same, State.slice_modSlice_same]; rw [noRetire]; exact Bool.false_ne_true),
      if_pos (by rw [wayqRead_modSlice _ rfl rfl, wayqRead_modSlice _ rfl rfl, reads]; exact asked)]
    refine ⟨?_, fun j hj => ?_, slices_modSlice (slices_modSlice rest i _) i _⟩
    · rw [State.slice_modSlice_same, State.slice_modSlice_same]
      dsimp only
      rw [walks, List.filter_cons_of_neg (by rw [bne_self_eq_false]; exact Bool.false_ne_true), List.filter_nil, only]
    · rw [State.slice_modSlice_other _ _ hj, State.slice_modSlice_other _ _ hj]
      exact others j hj
  · rw [if_neg last, if_neg last, List.filter_cons_of_neg (by rw [beq_false_of_ne last]; exact Bool.false_ne_true), List.filter_nil, List.foldl_nil]
    refine ⟨?_, fun j hj => ?_, slices_modSlice rest i _⟩
    · rw [State.slice_modSlice_same, only, ← walking]
    · rw [State.slice_modSlice_other _ _ hj]
      exact others j hj

end Sys2Proof.Machine

open Sys2Proof Sys2Proof.Machine

/-- Settles O36: software's read and write of WAYQ_CTL start the walks or power the ways up; a walk's step takes the way's line of
one set; a way powered up is in service again. -/
theorem quenchedWaysWalkAndPowerDown : Obligations.QuenchedWaysWalkAndPowerDown := by
  intro s i hi retired retiring
  refine ⟨fun m ways h h' idle claim present booted awake powering walking => ⟨fun quenched word => ?_, fun word => ?_⟩,
    fun w e hw walking _ free valid clean quiet asked => ?_, fun w powering asked => ?_⟩
  · have value : (wayqRead s i ||| ways.setWidth 32) &&& 0xFFFF = ways.setWidth 32 := by
      rw [wayqRead, word, retired, retiring, show ((0 : Word) ||| (0 : BitVec 16).setWidth 32 ||| (0 : BitVec 16).setWidth 32) = 0 by decide]
      exact (congrArg (· &&& 0xFFFF) BitVec.zero_or).trans (low16_setWidth ways)
    refine ⟨writeWayq s m i (wayqRead s i ||| ways.setWidth 32), if_pos hi,
      (writeWayq_soft hi h h' idle claim present booted awake retired retiring fun u hu => ?_).parts value⟩
    rw [value, quenchBits_start (by rw [hu]; exact quenched) (by rw [hu]; exact powering) (by rw [hu]; exact retired)
      (by rw [hu]; exact retiring) (by rw [hu]; exact walking), hu, bitsSet]
    have same : (List.range 16).filter (fun w => (ways.setWidth 32).getLsbD w) = (List.range 16).filter fun w => ways.toNat.testBit w :=
      List.filter_congr fun w hw => by
        have : w < 16 := List.mem_range.1 hw
        rw [BitVec.getLsbD_setWidth, decide_eq_true (show w < 32 by omega), Bool.true_and, BitVec.testBit_toNat]
    rw [same]
  · have value : (wayqRead s i &&& ~~~ ways.setWidth 32) &&& 0xFFFF = ((s.slice i).quenched &&& ~~~ ways).setWidth 32 := by
      apply BitVec.eq_of_getLsbD_eq
      intro j hj
      have zero : (0 : BitVec 16).setWidth 32 = (0 : Word) := by decide
      rw [wayqRead, word, retired, retiring, zero, show ∀ x : Word, x ||| 0 ||| 0 = x from fun x => BitVec.or_zero.trans BitVec.or_zero,
        getLsbD_low16, BitVec.getLsbD_and, getLsbD_not hj, BitVec.getLsbD_setWidth, BitVec.getLsbD_setWidth, BitVec.getLsbD_setWidth,
        decide_eq_true hj, Bool.true_and, Bool.true_and, Bool.true_and, BitVec.getLsbD_and]
      by_cases low : j < 16
      · rw [decide_eq_true low, Bool.true_and, BitVec.getLsbD_not, decide_eq_true low, Bool.true_and]
      · rw [decide_eq_false low, Bool.false_and, BitVec.getLsbD_of_ge _ j (by omega), Bool.false_and]
    refine ⟨writeWayq s m i (wayqRead s i &&& ~~~ ways.setWidth 32), if_pos hi,
      (writeWayq_soft hi h h' idle claim present booted awake retired retiring fun u hu => ?_).parts value⟩
    rw [value]
    have bit (w : Nat) (hw : w < 16) : (((s.slice i).quenched &&& ~~~ ways).setWidth 32).getLsbD w = ((s.slice i).quenched.getLsbD w && !ways.getLsbD w) := by
      rw [BitVec.getLsbD_setWidth, decide_eq_true (show w < 32 by omega), Bool.true_and, BitVec.getLsbD_and, BitVec.getLsbD_not,
        decide_eq_true hw, Bool.true_and]
    obtain ⟨p, slice, bits⟩ := quenchBits_powerUp (s := u) (i := i) (v := ((s.slice i).quenched &&& ~~~ ways).setWidth 32)
      (by rw [hu]; exact powering) (by rw [hu]; exact retired) (by rw [hu]; exact retiring)
      (fun w hw on => by rw [hu]; rw [bit w hw, Bool.and_eq_true] at on; exact on.1) (Nat.le_refl 16)
    rw [slice, hu]
    have all : p = (s.slice i).quenched &&& ways := by
      apply BitVec.eq_of_getLsbD_eq
      intro j hj
      rw [bits, bit j hj, hu, decide_eq_true hj, BitVec.getLsbD_and]
      cases (s.slice i).quenched.getLsbD j <;> cases ways.getLsbD j <;> rfl
    rw [all]
  · obtain ⟨slice, others, rest⟩ := quenchStep_invalidates walking retiring free valid clean quiet asked
    refine ⟨quenchStep s i, if_pos hi, ?_, ?_, ?_, ?_, others, rest⟩
    · exact (clearWay_oneWay s i (s.slice i).walkPos w).sameHearth (by rw [slice])
    · rw [slice]
    · rw [slice]
    · rw [slice]
  · refine ⟨powerUpDone s i w.toNat, if_pos hi, ?_⟩
    rw [powerUpDone, if_pos powering]
    dsimp only
    rw [wayqRead_modSlice _ rfl rfl, asked, if_neg Bool.false_ne_true]
    exact ⟨State.slice_modSlice_same .., fun j hj => State.slice_modSlice_other _ _ hj, rfl⟩
end

section
/-! PROOF. Upkeep of the slices (R244, R257, R426): maintenance from registers, poison notices, error counts. -/
namespace Sys2Proof.Machine
open Config

variable {s t u : State} {m : Master} {i line : Nat}

/-! ## Maintenance from registers (R244) -/

/-- The address that a maintenance command of slice i names. -/
def maintAddr (s : State) (i op : Nat) : PA :=
  BitVec.ofNat 52 (if op = 3 then s.fld (bootReg 0x14) 0 14 * 2 ^ 38
    else (s.rd (sliceReg i 0x10)).toNat / 64 * 64 + s.fld (sliceReg i 0x14) 0 20 * 2 ^ 32)

/-- Slice i has sent a maintenance operation of its registers to an address of home memory. -/
structure MaintSent (s t : State) (i op : Nat) (addr : PA) : Prop where
  oper : t.fld (sliceReg i 0x18) 0 2 = op
  go : t.bit (sliceReg i 0x18) 4 = false
  spine : t.spine = { s.spine with req := s.spine.req ++ [{ s.mkMsg opcMAINT 0 (maintTag i) op false addr [] with priv := true }] }
  slice : t.slice i = { s.slice i with maintBusy := true }
  others : ∀ j, j ≠ i → t.slice j = s.slice j
  regs : ∀ x, x ≠ sliceReg i 0x18 → t.rd x = s.rd x
  rest : t = { s with reg := t.reg, slices := t.slices, spine := t.spine }

theorem MaintSent.parts {op : Nat} {addr : PA} (h : MaintSent s t i op addr) : t.fld (sliceReg i 0x18) 0 2 = op ∧
    t.spine = { s.spine with req := s.spine.req ++ [{ s.mkMsg opcMAINT 0 (maintTag i) op false addr [] with priv := true }] } ∧
    t.slice i = { s.slice i with maintBusy := true } ∧ (∀ j, j ≠ i → t.slice j = s.slice j) ∧
    t = { s with reg := t.reg, slices := t.slices, spine := t.spine } := ⟨h.oper, h.spine, h.slice, h.others, h.rest⟩

/-- The registers that name this device's memory and agents stay when a slice's register is written. -/
theorem RegStored.classify {off : Nat} (h : RegStored s u off) (low : 0x200000 ≤ off) (high : off < 0x300000) (a : PA) :
    u.classify a = s.classify a := by
  have fld (x lo w : Nat) (hx : x ≠ off) : u.fld x lo w = s.fld x lo w := congrArg (wfld · lo w) (h.regs x hx)
  have bit (x k : Nat) (hx : x ≠ off) : u.bit x k = s.bit x k := congrArg (·.getLsbD k) (h.regs x hx)
  have mode : SameMode s u := ⟨h.rest, h.regs _ (by omega)⟩
  have dir (x : Nat) : dirReg x ≠ off := by unfold dirReg; omega
  have devNum : u.devNum = s.devNum := fld 0x8 4 4 (by omega)
  have fwd : u.fwdPresent = s.fwdPresent := by rw [State.fwdPresent, State.fwdPresent, mode.compat, mode.devId]
  have fabric (p : Nat) (hp : p < 16) : u.isFabric p = s.isFabric p := bit _ _ (by unfold portReg; omega)
  have route (d : Nat) : u.routePort d = s.routePort d := by
    rw [State.routePort, State.routePort, fld _ _ _ (dir _), bit _ _ (dir _), fwd, devNum, fabric _ (State.fld_lt s _ 4 4)]
  have covers (x : Nat) : (fun d => u.routeCovers d x) = fun d => s.routeCovers d x := funext fun d => by
    rw [State.routeCovers, State.routeCovers, route, fld _ _ _ (dir _), fld _ _ _ (dir _), fld _ _ _ (dir _), bit _ _ (dir _)]
  have gib : u.homeGiB = s.homeGiB := by rw [State.homeGiB, State.homeGiB, mode.compat, mode.devId]
  rw [State.classify, State.classify, fld (bootReg 0x18) 0 26 (by unfold bootReg; omega), fld (bootReg 0x14) 0 14 (by unfold bootReg; omega), gib,
    covers]

theorem RegStored.mkMsg {off : Nat} (h : RegStored s u off) (low : 0x200000 ≤ off) (opc : Nat) (dst : AgentId) (tag : Tag) (param : Nat)
    (poison : Bool) (addr : PA) (body : List Word) : u.mkMsg opc dst tag param poison addr body = s.mkMsg opc dst tag param poison addr body := by
  rw [State.mkMsg, State.mkMsg, State.home, State.home, State.devNum, State.devNum, State.fld, State.fld, h.regs 0x8 (by omega)]

theorem regStored_setFld (s : State) (off lo w v : Nat) : RegStored s (s.setFld off lo w v) off :=
  ⟨fun _ hx => State.rd_setFld_other s lo w v hx, State.setFld_frame s off lo w v⟩

theorem RegStored.trans {off : Nat} (h : RegStored s u off) (h' : RegStored u t off) : RegStored s t off :=
  ⟨fun x hx => (h'.regs x hx).trans (h.regs x hx), by
    rw [h'.rest]
    exact congrArg (fun q : State => { q with reg := t.reg }) h.rest⟩

theorem sliceReg_bounds {rel : Nat} (hi : i < nSlices) (hr : rel < 0x10000) : 0x200000 ≤ sliceReg i rel ∧ sliceReg i rel < 0x300000 := by
  have : i < 16 := hi
  unfold sliceReg
  omega

/-- GO sends the operation that the registers hold, at the address they name (R244). -/
theorem RegStored.maintIssue_sends {addr : PA} {off op : Nat} (h : RegStored s u (sliceReg i 0x18)) (hi : i < nSlices)
    (oper : u.fld (sliceReg i 0x18) 0 2 = op) (at_ : addr = maintAddr s i op) (home : s.classify addr = .home off) :
    MaintSent s (maintIssue u i) i op addr := by
  obtain ⟨low, high⟩ := sliceReg_bounds (rel := 0x18) hi (by decide)
  have stored := h.trans (regStored_setFld u (sliceReg i 0x18) 4 1 0)
  have go := State.bit_setFld u (sliceReg i 0x18) 4 1 0 (i := 4) (by decide)
  have kept := (State.fld_setFld_apart u (sliceReg i 0x18) 4 1 0 (lo' := 0) (w' := 2) (by decide) (Or.inl (by decide))).trans oper
  have addrs : BitVec.ofNat 52 (if u.fld (sliceReg i 0x18) 0 2 = 3 then u.fld (bootReg 0x14) 0 14 * 2 ^ 38
      else (u.rd (sliceReg i 0x10)).toNat / 64 * 64 + u.fld (sliceReg i 0x14) 0 20 * 2 ^ 32) = addr := by
    rw [at_, maintAddr, oper, State.fld, State.fld, State.fld, State.fld, h.regs (bootReg 0x14) (by unfold bootReg; omega),
      h.regs (sliceReg i 0x10) (by unfold sliceReg; omega), h.regs (sliceReg i 0x14) (by unfold sliceReg; omega)]
  rw [maintIssue]
  dsimp only
  rw [addrs, oper]
  generalize u.setFld (sliceReg i 0x18) 4 1 0 = v at stored go kept ⊢
  rw [stored.classify low high, home]
  dsimp only
  rw [stored.mkMsg low]
  have spine : v.spine = s.spine := by rw [stored.rest]
  have here := State.slice_modSlice_same v i fun x => { x with maintBusy := true }
  have others (j : Nat) (hj : j ≠ i) := State.slice_modSlice_other v (fun x => { x with maintBusy := true }) hj
  obtain ⟨x, hx⟩ : ∃ x, v.modSlice i (fun x => { x with maintBusy := true }) = { v with slices := x } := ⟨_, rfl⟩
  generalize v.modSlice i (fun x => { x with maintBusy := true }) = w at here others hx ⊢
  have regs (y : Nat) : w.rd y = v.rd y := by rw [hx]; rfl
  refine ⟨?_, ?_, ?_, ?_, fun j hj => ?_, fun y hy => (regs y).trans (stored.regs y hy), ?_⟩
  · exact (congrArg (wfld · 0 2) (regs _)).trans kept
  · exact (congrArg (·.getLsbD 4) (regs _)).trans go
  · rw [spine]
  · exact here.trans (by rw [stored.slice])
  · exact (others j hj).trans (stored.slice j)
  · rw [hx]
    generalize hs : ({ v.spine with req := _ } : Spine) = sp
    exact congrArg (fun q : State => { q with slices := x, spine := sp }) stored.rest

/-- A command of SLC_MAINT_CMD sends its operation where none is under way (R244). -/
theorem slcMaint_sends {op off : Nat} (hi : i < nSlices) (small : op < 4) (h : CwReach s m (sliceReg i 0x18)) (idle : (s.slice i).maintBusy = false)
    (home : s.classify (maintAddr s i op) = .home off) : MaintSent s (slcMaint s m i op) i op (maintAddr s i op) := by
  have fields : regFields (sliceReg i 0x18) = sliceFields 0x18 := regFields_sliceReg hi (by decide)
  have noMw : ((regFields (sliceReg i 0x18)).any fun f => f.ty == .mw) = false := by rw [fields]; decide
  have clears : selfClear (sliceReg i 0x18) = 0x10 := selfClear_sliceReg hi (by decide)
  have noW1c : (maskOf (regFields (sliceReg i 0x18)) fun f => f.ty == .w1c) = 0 := by rw [fields]; decide
  obtain ⟨u, written, stored, value⟩ := h.writes_sliceReg hi (by decide) rfl (by decide) (by decide) (op + 0x10)
  have go : (w32 (op + 0x10)).getLsbD 4 = true := by
    interval_cases op <;> decide
  have oper : u.fld (sliceReg i 0x18) 0 2 = op := by
    have bits : u.fld (sliceReg i 0x18) 0 2 = bitsOf (op + 0x10) 0 2 := fld_congr_bits fun k _ hk => by
      rw [State.bit, value, writtenValue_rw (by omega) noMw (wholeValue_sliceReg s hi (by decide))
        (by rw [fields]; interval_cases k <;> decide) (by rw [clears]; interval_cases k <;> decide) (by rw [noW1c]; exact Nat.zero_testBit k),
        getLsbD_w32 _ (by omega)]
    rw [bits]
    interval_cases op <;> decide
  have busy : (u.slice i).maintBusy = false := by rw [stored.slice]; exact idle
  have starts : startSlice u i 0x18 (w32 (op + 0x10)) = maintIssue u i := by
    show (if (w32 (op + 0x10)).getLsbD 4 then maintGo u i else u) = _
    rw [go, if_pos rfl, maintGo, busy, if_neg Bool.false_ne_true]
  rw [slcMaint, written, starts]
  exact stored.maintIssue_sends hi oper rfl home

/-! ## Completion (R244) -/

theorem maintTag_toNat (hi : i < nSlices) : (maintTag i).toNat = 0x100 + i := by
  have : i < 16 := hi
  interval_cases i <;> rfl

theorem devNum_lt (s : State) : s.devNum < 16 := State.fld_lt s 0x8 4 4

theorem home_toNat (s : State) : s.home.toNat = s.devNum * 64 + 63 := by
  have := devNum_lt s
  rw [State.home, mkAgent, BitVec.toNat_ofNat]
  omega

theorem home_loc (s : State) : s.home.loc = 63 := by
  rw [AgentId.loc, home_toNat]
  omega

theorem home_dev (s : State) : s.home.dev = s.devNum := by
  rw [AgentId.dev, home_toNat]
  omega

/-- A response for agent 63 of this device that has just arrived (R145). -/
theorem respondTo_home {r : Msg} (h : Arrives s (sameRsp r.opc r.src r.dst r.tag)) (vc : r.vc = vcOf r.opc) (dst : r.dst = s.home) :
    ∃ T, respondTo s r = homeResponse { s with tel := T } r.tag (rspOf r) := by
  have selects : sameRsp r.opc r.src r.dst r.tag r = true := by simp [sameRsp]
  obtain ⟨alive, -⟩ := h.alive
  have note (f : Follow → Follow) : (s.blotNote s.home r.tag f).boot = s.boot := rfl
  have devNum (f : Follow → Follow) : (s.blotNote s.home r.tag f).devNum = s.devNum := rfl
  have frame (f : Follow → Follow) : ∃ T, (s.blotNote s.home r.tag f).blotLeave r = { s with tel := T } := by
    rw [State.blotLeave_frame]
    exact ⟨_, rfl⟩
  rw [respondTo]
  dsimp only
  rw [h.heldMsg, Option.getD_none, h.order r selects vc, Bool.false_and, if_neg Bool.false_ne_true, h.takeMsg]
  dsimp only
  rw [dst, note, alive, if_neg Bool.false_ne_true, home_dev, devNum, if_neg (fun c => c rfl), home_loc, if_neg (by decide), if_neg (by decide),
    if_neg (by decide), if_pos rfl]
  obtain ⟨T, hT⟩ := frame fun w => if w.outcome = some 7 ∧ w.got = none then { w with got := some s.tb.count.toNat } else w
  exact ⟨T, by rw [hT]⟩

/-- The completion of a register-issued operation, where no other waits (R244). -/
structure MaintEnded (s t : State) (i : Nat) : Prop where
  done : t.bit (sliceReg i 0x1C) 0 = true
  regs : ∀ x, x ≠ sliceReg i 0x1C → t.rd x = s.rd x
  slice : t.slice i = { s.slice i with maintBusy := false }
  others : ∀ j, j ≠ i → t.slice j = s.slice j
  rest : t = { s with reg := t.reg, slices := t.slices }

theorem maintDone_ends (busy : (s.slice i).maintBusy = true) (idle : s.bit (sliceReg i 0x18) 4 = false) : MaintEnded s (maintDone s i) i := by
  have here := State.slice_modSlice_same s i fun x => { x with maintBusy := false }
  have others (j : Nat) (hj : j ≠ i) := State.slice_modSlice_other s (fun x => { x with maintBusy := false }) hj
  obtain ⟨x, hx⟩ : ∃ x, s.modSlice i (fun x => { x with maintBusy := false }) = { s with slices := x } := ⟨_, rfl⟩
  rw [maintDone, if_pos busy]
  generalize s.modSlice i (fun x => { x with maintBusy := false }) = w at here others hx
  have regs (y : Nat) : w.rd y = s.rd y := by rw [hx]; rfl
  have stored := regStored_setFld w (sliceReg i 0x1C) 0 1 1
  have done := State.bit_setFld w (sliceReg i 0x1C) 0 1 1 (i := 0) (by decide)
  dsimp only
  generalize w.setFld (sliceReg i 0x1C) 0 1 1 = v at stored done
  have none_ : v.bit (sliceReg i 0x18) 4 = false := by
    rw [State.bit, stored.regs _ (by unfold sliceReg; omega), regs]
    exact idle
  rw [none_, if_neg Bool.false_ne_true]
  refine ⟨done, fun y hy => (stored.regs y hy).trans (regs y), (stored.slice i).trans here, fun j hj => (stored.slice j).trans (others j hj), ?_⟩
  rw [stored.rest, hx]

/-! ## Poison notices (R257) -/

/-- A line of which nothing is held joins its write queue at once where that has room (R216, R258). -/
theorem outWrite_plain (h : HbmLit s line) (none : ∀ e ∈ (s.pc (hbmLoc s.ten line).pc).wrq, e.line ≠ line)
    (room : wrCount (s.pc (hbmLoc s.ten line).pc) < 64) (still : lineMoving (s.slice i) line = false) (d : LineData) (bad : Bool) (cls : Nat) :
    Queued s (outWrite s i line d bad cls false false Option.none) line (newWrite s line d bad cls false) := by
  have held : ((s.slice i).outWr.any fun o => o.line == line) = false := by
    unfold lineMoving at still
    exact (Bool.or_eq_false_iff.1 still).2
  have goes : hbmWrite s line d bad cls false = some (hbmPut s line d bad cls false) := by
    refine if_pos ?_
    rw [hbmRoom, if_neg Bool.false_ne_true, decide_eq_true room, Bool.or_true]
  rw [outWrite, if_neg Bool.false_ne_true]
  dsimp only
  rw [held, if_neg Bool.false_ne_true, goes]
  exact hbmPut_new h none d bad cls false

/-- A poison notice finds a good clean copy (R257). -/
theorem poisonNotice_sends {w : Nat} {d : LineData} (hit : HearthHit s i line w d) (clean : (s.hway i (s.setOf line) w).dirty = false)
    (open_ : lineBusy (s.slice i) line = false) (h : HbmLit s line) (none : ∀ e ∈ (s.pc (hbmLoc s.ten line).pc).wrq, e.line ≠ line)
    (room : wrCount (s.pc (hbmLoc s.ten line).pc) < 64) : 
      Queued (s.modSlice i fun x => { x with notices := x.notices.erase line }) (poisonNotice s i line) line (newWrite s line d false 7 false) := by
  obtain ⟨way, data, errs, sound⟩ := hit
  obtain ⟨u, hu⟩ : ∃ u, u = (s.modSlice i fun x => { x with notices := x.notices.erase line }) := ⟨_, rfl⟩
  have slice : u.slice i = { s.slice i with notices := (s.slice i).notices.erase line } := by rw [hu, State.slice_modSlice_same]
  have works : Works ⟨false, false, false⟩ s u i := by rw [hu]; exact works_modSlice ..
  have hearth : (u.slice i).hearth = (s.slice i).hearth := by rw [slice]
  have here : u.hway i (u.setOf line) w = s.hway i (s.setOf line) w := by
    rw [setOf_congr works.boot]
    exact hway_congr hearth ..
  have found : findWay u i line = some w := (findWay_congr works.boot hearth line).trans way
  have read := readWay_good (s := u) (i := i) (set := u.setOf line) (w := w) (by rw [here]; exact errs) (by rw [here]; exact sound)
  have pcs : u.pc (hbmLoc u.ten line).pc = s.pc (hbmLoc s.ten line).pc := by rw [works.ten, State.pc, works.pcs rfl]; rfl
  have sends := outWrite_plain (s := u) (i := i) (line := line) (h.works works) (by rw [pcs]; exact none) (by rw [pcs]; exact room)
    (by rw [slice]; exact moving_of_busy open_) d false 7
  rw [← hu]
  have same : newWrite u line d false 7 false = newWrite s line d false 7 false := by rw [newWrite, newWrite, pcs]
  rw [same] at sends
  rw [poisonNotice, way]
  dsimp only
  rw [if_neg (show ¬ (!(s.hway i (s.setOf line) w).dirty && !(s.hway i (s.setOf line) w).poison && lineBusy (s.slice i) line) = true by
    rw [open_, Bool.and_false]; exact Bool.false_ne_true), ← hu, found]
  dsimp only
  rw [if_pos (show (!(s.hway i (s.setOf line) w).dirty && !(s.hway i (s.setOf line) w).poison) = true by rw [clean, sound]; rfl), read, here, data]
  exact sends

/-! ## The day of the error counts (R426) -/

/-- One change of each slice of a range. -/
theorem foldl_modSlice (f : Slice → Slice) (s : State) (n : Nat) :
    (∀ i < n, ((List.range n).foldl (fun s i => s.modSlice i f) s).slice i = f (s.slice i)) ∧
    (∀ i, n ≤ i → ((List.range n).foldl (fun s i => s.modSlice i f) s).slice i = s.slice i) ∧
    (List.range n).foldl (fun s i => s.modSlice i f) s = { s with slices := ((List.range n).foldl (fun s i => s.modSlice i f) s).slices } := by
  induction n with
  | zero => exact ⟨fun i hi => absurd hi (Nat.not_lt_zero i), fun _ _ => rfl, rfl⟩
  | succ n ih =>
    obtain ⟨done, left, rest⟩ := ih
    rw [List.range_succ, List.foldl_append, List.foldl_cons, List.foldl_nil]
    generalize (List.range n).foldl (fun s i => s.modSlice i f) s = u at done left rest
    refine ⟨fun i hi => ?_, fun i hi => ?_, slices_modSlice rest n f⟩
    · by_cases last : i = n
      · rw [last, State.slice_modSlice_same, left n (Nat.le_refl n)]
      · rw [State.slice_modSlice_other u f last, done i (by omega)]
    · rw [State.slice_modSlice_other u f (by omega), left i (by omega)]

end Sys2Proof.Machine

open Sys2Proof Sys2Proof.Machine

/-- Settles O37: GO is stored and sends; the completion comes back as a response of agent 63; the notice queues a write of the good
copy; the day clears the counts slice by slice. -/
theorem slicesMaintainTheirLines : Obligations.SlicesMaintainTheirLines := by
  have sends (op : Nat) (small : op < 4) (notAll : op ≠ 3) (s : State) (m : Master) (i : Nat) (addr : PA) (off : Nat) (hi : i < Config.nSlices)
      (h : CwReach s m (sliceReg i 0x18)) (idle : (s.slice i).maintBusy = false)
      (at_ : addr = BitVec.ofNat 52 ((s.rd (sliceReg i 0x10)).toNat / 64 * 64 + s.fld (sliceReg i 0x14) 0 20 * 2 ^ 32))
      (home : s.classify addr = .home off) : MaintSent s (slcMaint s m i op) i op addr := by
    have same : addr = maintAddr s i op := by rw [at_, maintAddr, if_neg notAll]
    rw [same] at home ⊢
    exact slcMaint_sends hi small h idle home
  refine ⟨fun op hop s m i addr off hi h idle at_ home => ?_, fun s m i off hi h idle home => ?_, fun s i hi _ arrives busy idle => ?_,
    fun s i line w pc d hi lit hit clean open_ hpc plit half none_ room => ?_, fun s => ?_⟩
  · rcases hop with _ | ⟨_, _ | ⟨_, _ | ⟨_, hop⟩⟩⟩
    · obtain ⟨oper, go, spine, slice, others, regs, rest⟩ := sends 0 (by decide) (by decide) s m i addr off hi h idle at_ home
      exact ⟨_, if_pos hi, oper, go, spine, slice, others, regs, rest⟩
    · obtain ⟨oper, go, spine, slice, others, regs, rest⟩ := sends 1 (by decide) (by decide) s m i addr off hi h idle at_ home
      exact ⟨_, if_pos hi, oper, go, spine, slice, others, regs, rest⟩
    · obtain ⟨oper, go, spine, slice, others, regs, rest⟩ := sends 2 (by decide) (by decide) s m i addr off hi h idle at_ home
      exact ⟨_, if_pos hi, oper, go, spine, slice, others, regs, rest⟩
    · exact absurd hop (List.not_mem_nil)
  · exact ⟨_, if_pos hi, (slcMaint_sends (op := 3) hi (by decide) h idle home).parts⟩
  · obtain ⟨T, arrived⟩ := respondTo_home (r := rspMsg opcCMP s.home s.home (maintTag i) 0 false []) arrives rfl rfl
    have place : homeResponse { s with tel := T } (maintTag i) (rspOf (rspMsg opcCMP s.home s.home (maintTag i) 0 false [])) =
        maintDone { s with tel := T } i := by
      rw [homeResponse, maintTag_toNat hi, if_pos (by omega), Nat.add_sub_cancel_left]
    obtain ⟨done, regs, slice, others, rest⟩ := maintDone_ends (s := { s with tel := T }) (i := i) busy idle
    refine ⟨_, congrArg Host.Outcome.next (arrived.trans place), done, regs, slice, others, ?_⟩
    generalize maintDone { s with tel := T } i = t at rest
    rw [rest]
  · subst hpc
    have queued := poisonNotice_sends hit clean open_ ⟨plit, half⟩ none_ room
    obtain ⟨u, hu⟩ : ∃ u, u = s.modSlice i fun x => { x with notices := x.notices.erase line } := ⟨_, rfl⟩
    have slice : u.slice i = { s.slice i with notices := (s.slice i).notices.erase line } := by rw [hu, State.slice_modSlice_same]
    have works : Works ⟨false, false, false⟩ s u i := by rw [hu]; exact works_modSlice ..
    have frame : u = { s with slices := u.slices } := by rw [hu]; exact slices_modSlice rfl i _
    rw [← hu] at queued
    have pcs (q : Nat) : u.pc q = s.pc q := by rw [State.pc, works.pcs rfl]; rfl
    obtain ⟨wrq, others, rest⟩ := queued
    rw [works.ten, pcs] at wrq
    refine ⟨poisonNotice s i line, (if_pos hi).trans (congrArg Host.Outcome.next (if_pos lit)), wrq, fun q hq => ?_, ?_, fun j hj => ?_, ?_⟩
    · exact (others q (by rw [works.ten]; exact hq)).trans (pcs q)
    · rw [rest]
      exact slice
    · rw [rest]
      exact works.others j hj
    · rw [rest, frame]
  · obtain ⟨done, left, rest⟩ := foldl_modSlice (fun x => { x with wayErrs := List.replicate 16 0 }) s Config.nSlices
    exact ⟨_, rfl, done, left, rest⟩
end

section
/-! PROOF. What comes back to a slice and what leaves it (R217–R226): fills, victims, kindling data, streams. -/
namespace Sys2Proof.Machine
open Config

variable {s t u v : State} {i line p : Nat} {x : Txn}

/-! ## An uncached read whose data has come (R221) -/

/-- An ended transaction that waits for no GACK leaves the slice, with whatever is open on its line. -/
theorem finishTxn_leaves (here : txnOf t i line = some x) (stage : x.stage = 2) (noGack : x.gack = false) (still : lineMoving (t.slice i) line = false)
    (absent : dirWay t i line = none) : finishTxn t i line = t.modSlice i fun y => { y with txns := y.txns.filter fun t => t.line != line } := by
  have noEntry : dirEntry (t.modSlice i fun y => { y with txns := y.txns.filter fun t => t.line != line }) i line = none := by
    rw [dirEntry, dirWay_congr (s := t) (i := i) (t := t.modSlice i fun y => { y with txns := y.txns.filter fun t => t.line != line }) rfl
      (fun n => by rw [State.slice_modSlice_same]), absent]
    rfl
  rw [finishTxn, here]
  dsimp only
  rw [if_pos ⟨stage, noGack, still⟩, noEntry]

/-- The response of a transaction that needs no GACK ends it. -/
theorem respond_leaves {opc : Nat} {poison : Bool} {body : List Word} (host : HostAt v x.req.src p) (here : txnOf v i line = some x)
    (noGack : x.gack = false) (still : lineMoving (v.slice i) line = false) (absent : dirWay v i line = none) (answer : opc ≠ opcNO_TARGET) :
    ∃ t, finishTxn (lateTxn (modTxn (respond v x.req opc 0 poison body) i line fun t => { t with stage := 2 }) i line) i line = t ∧
      Answered v t i p { v.mkRsp opc x.req.src x.req.tag body with poison := poison } ∧
      t.slice i = { v.slice i with txns := (v.slice i).txns.filter fun y => y.line != line } ∧
      t = { v with ports := t.ports, slices := t.slices } := by
  have replies := respond_host (r := x.req) (poison := poison) (body := body) host 0 answer
  generalize respond v x.req opc 0 poison body = u at replies ⊢
  have ends := (TxnNow.refl (s := u) (i := i) (line := line) (x := x) (by rw [txnOf, replies.slice]; exact here)).mod
    (f := fun t => { t with stage := 2 }) fun _ => rfl
  have slice : (modTxn u i line fun t => { t with stage := 2 }).slice i = { v.slice i with
      txns := (v.slice i).txns.map fun t => if t.line = line then { t with stage := 2 } else t } := by
    rw [modTxn_slice, replies.slice]
  have boot : (modTxn u i line fun t => { t with stage := 2 }).boot = v.boot := by
    rw [ends.rest, replies.rest]
  have works := works_modTxn ⟨false, false, false⟩ u i line fun t => { t with stage := 2 }
  generalize modTxn u i line (fun t => { t with stage := 2 }) = w at ends slice boot works
  rw [lateTxn_done ends.here rfl, finishTxn_leaves ends.here rfl noGack (by rw [slice]; exact still)
    ((dirWay_congr boot (fun n => by rw [slice]) line).trans absent)]
  have all := works.trans (works_modSlice _ w i fun y => { y with txns := y.txns.filter fun t => t.line != line })
  refine ⟨_, rfl, answered_of (.refl _ v i) replies all, ?_, ?_⟩
  · rw [State.slice_modSlice_same, slice]
    dsimp only
    rw [filter_map_line (f := fun t => { t with stage := 2 }) fun _ => rfl]
  · have rest := slices_modSlice ends.rest i fun y => { y with txns := y.txns.filter fun t => t.line != line }
    generalize w.modSlice i (fun y => { y with txns := y.txns.filter fun t => t.line != line }) = z at rest
    rw [rest, replies.rest]

/-- What works at a slice before and after an answer leaves the answer as it is. -/
theorem Answered.between {may may' : May} {m : Msg} (a : Answered u v i p m) (before : Works may s u i) (after : Works may' v t i) :
    Answered s t i p m := by
  have port : u.port = s.port := by rw [before.rest]; rfl
  have port' : t.port = v.port := by rw [after.rest]; rfl
  exact ⟨by rw [port', a.sent, port], fun q hq => by rw [port', a.ports q hq, port], fun j hj => by
    rw [after.others j hj, a.slices j hj, before.others j hj]⟩

/-- Work at a slice that counts nothing, ends no reservation and sends nothing to HBM changes slices alone, and what the blotter notes. -/
theorem Works.quiet (h : Works ⟨false, false, false⟩ s t i) : t = { s with slices := t.slices, tel := t.tel } := by
  have rest := h.rest
  rw [h.acc rfl, h.resv rfl, h.pcs rfl] at rest
  exact rest

/-- The effect of an uncached read whose line has been fetched: the line goes to its way, the data to the requester (R185, R221). -/
theorem commit_fetched {d : LineData} {bad : Bool} (kind : x.req.kind = .rdUc) : ∃ T, commit s i x d bad true =
    modTxn (respond (demote { fillLine s i x d bad with tel := T } i x) x.req opcDATA_UC 0 bad (ucBody x.req.size x.req.addr d)) i x.line
      fun t => { t with stage := 2 } := by
  unfold commit
  rw [kind]
  exact ⟨_, rfl⟩

/-- The way that a transaction has kept takes its line (R221). -/
theorem fillLine_kept {w age : Nat} {d : LineData} {bad : Bool} (absent : findWay s i x.line = none) (found : x.found = some (some (w, age)))
    (kept : (s.hway i (s.setOf x.line) w).reserved = true) : fillLine s i x d bad = s.setHway i (s.setOf x.line) w
      { valid := true, dirty := false, line := x.line, age := age, data := d, poison := bad, errs := [], reserved := false } := by
  rw [fillLine, absent, found]
  dsimp only
  rw [Option.isSome_none, if_neg Bool.false_ne_true, placeLine]
  dsimp only
  rw [kept, if_pos rfl, fillWay]

/-- An uncached read gets its data and a way of the Hearth for it. -/
structure Filled (s t : State) (i line w age p : Nat) (d : LineData) (bad : Bool) (m : Msg) : Prop where
  answered : Answered s t i p m
  way : OneWay s t i (s.setOf line) w
    { valid := true, dirty := false, line := line, age := age, data := d, poison := bad, errs := [], reserved := false }
  txns : (t.slice i).txns = (s.slice i).txns.filter fun y => y.line != line
  ret : (t.slice i).ret = (s.slice i).ret
  rest : t = { s with ports := t.ports, slices := t.slices, tel := t.tel }

theorem goOn_fills {w age : Nat} {d : LineData} {bad : Bool} (host : HostAt s x.req.src p) (here : txnOf s i line = some x) (stage : x.stage = 0)
    (snps : x.snps = []) (noGack : x.gack = false) (secs : x.secs = []) (kind : x.req.kind = .rdUc) (fetch : x.fetch = .got d bad true)
    (found : x.found = some (some (w, age))) (kept : (s.hway i (s.setOf line) w).reserved = true) (noWay : findWay s i line = none)
    (absent : dirWay s i line = none) (still : lineMoving (s.slice i) line = false) (idle : Idle (s.slice i)) (none_ : (s.slice i).evbuf = []) :
    Filled s (goOn s i line) i line w age p d bad
      { s.mkRsp opcDATA_UC x.req.src x.req.tag (ucBody x.req.size x.req.addr d) with poison := bad } := by
  have its : x.line = line := txnOf_line here
  obtain ⟨h, hh⟩ : ∃ h : HLine, h = { valid := true, dirty := false, line := line, age := age, data := d, poison := bad, errs := [], reserved := false } :=
    ⟨_, rfl⟩
  have fills : fillLine s i x d bad = s.setHway i (s.setOf line) w h := by
    rw [fillLine_kept (by rw [its]; exact noWay) found (by rw [its]; exact kept), its, hh]
  have slice := setHway_slice s i (s.setOf line) w h
  have works := works_setHway ⟨false, false, false⟩ s i (s.setOf line) w h
  have rest : s.setHway i (s.setOf line) w h = { s with slices := (s.setHway i (s.setOf line) w h).slices } := slices_modSlice rfl i _
  obtain ⟨T, commits⟩ := commit_fetched (s := s) (i := i) (d := d) (bad := bad) kind
  have gathers : gatherTxn s i line = commit s i x d bad true := by
    have needs : needsData x = true := by rw [needsData, kind]
    have performs : performTxn s i x = commit s i x d bad true := performTxn_got needs fetch secs (by rw [its]; exact still)
    rw [gatherTxn, here]
    dsimp only
    rw [if_neg (by rw [still]; simp [stage, snps]), fetch]
    cases x.snpData with
    | none =>
      dsimp only
      rw [here]
      dsimp only
      rw [if_neg fun c => by rw [fetch] at c; exact Fetch.noConfusion c.2, here]
      exact performs
    | some q =>
      dsimp only
      rw [here]
      dsimp only
      rw [if_neg fun c => by rw [fetch] at c; exact Fetch.noConfusion c.2, here]
      exact performs
  rw [commits, fills, its] at gathers
  generalize s.setHway i (s.setOf line) w h = u at slice works rest gathers
  obtain ⟨v, hv⟩ : ∃ v : State, v = { u with tel := T } := ⟨_, rfl⟩
  have vslice (j : Nat) : v.slice j = u.slice j := by rw [hv]; rfl
  have vworks : Works ⟨false, false, false⟩ s v i := works.trans (works_tel _ (by rw [hv]) i)
  have vrest : v = { s with slices := v.slices, tel := v.tel } := by rw [hv, rest]
  rw [← hv] at gathers
  have vabsent : dirWay v i line = none := (dirWay_congr vworks.boot (fun n => by rw [vslice, slice]) line).trans absent
  rw [demote_none (by rw [its]; exact vabsent)] at gathers
  obtain ⟨t, ends, answered, tslice, trest⟩ := respond_leaves (body := ucBody x.req.size x.req.addr d) (poison := bad) (opc := opcDATA_UC)
    (vworks.hostAt host) (show txnOf v i line = some x by rw [txnOf, vslice, slice]; exact here) noGack
    (by rw [vslice, slice]; exact still) vabsent (by decide)
  rw [← gathers, ← advance_stages] at ends
  have same := goOn_same ends (by rw [tslice, vslice, slice]; exact ⟨idle.inq, idle.confq, idle.retryq⟩)
    (by rw [NotDisplaced, tslice, vslice, slice]; intro e he; rw [none_] at he; exact absurd he List.not_mem_nil)
  rw [vworks.mkRsp] at answered
  have final : (goOn s i line).slice i = { u.slice i with txns := (s.slice i).txns.filter fun y => y.line != line } := by
    rw [same.slice, tslice, vslice, slice]
  refine ⟨?_, ?_, ?_, ?_, ?_⟩
  · exact answered.between vworks (same.works ⟨false, false, false⟩ i)
  · rw [← hh]
    exact oneWay_of (by rw [final, slice])
  · rw [final]
  · rw [final, slice]
  · rw [same.rest, trest, vrest]

theorem head_found {α : Type} {q : α → Bool} {r : α} {l m : List α} (h : m = r :: l) (here : q r = true) : m.find? q = some r := by
  rw [h, List.find?_cons_of_pos here]

theorem eraseFirst_head {α : Type} [BEq α] [LawfulBEq α] {r : α} {l m : List α} (h : m = r :: l) : eraseFirst (· == r) m = l := by
  rw [h, eraseFirst, if_pos (beq_self_eq_true r)]

/-- HBM data of an open transaction of a line is taken (R221). -/
theorem fillArrive_takes {r : Returned} {l : List Returned} (ret : (s.slice i).ret = r :: l) (its : r.line = line) (plain : r.kindle = false)
    (here : txnOf s i line = some x) (fetch : x.fetch = .wait) : ∃ u, fillArrive s i line = goOn u i line ∧
      txnOf u i line = some { x with fetch := .got r.data r.poison true } ∧ Works ⟨false, false, false⟩ s u i ∧
      u.slice i = { s.slice i with ret := l, txns := (s.slice i).txns.map fun t => if t.line = line then { t with fetch := .got r.data r.poison true } else t } := by
  obtain ⟨a, ha⟩ : ∃ a, a = s.modSlice i fun x => { x with ret := eraseFirst (· == r) x.ret } := ⟨_, rfl⟩
  have aslice : a.slice i = { s.slice i with ret := l } := by rw [ha, State.slice_modSlice_same, eraseFirst_head ret]
  have aworks : Works ⟨false, false, false⟩ s a i := by rw [ha]; exact works_modSlice ..
  have ahere : txnOf a i line = some x := by rw [txnOf, aslice]; exact here
  have now := (TxnNow.refl ahere).mod (f := fun t => { t with fetch := .got r.data r.poison true }) fun _ => rfl
  have bslice := modTxn_slice a i line fun t => { t with fetch := .got r.data r.poison true }
  have bworks := works_modTxn ⟨false, false, false⟩ a i line fun t => { t with fetch := .got r.data r.poison true }
  refine ⟨noteGot (modTxn a i line fun t => { t with fetch := .got r.data r.poison true }) x.req, ?_, now.here, ?_, ?_⟩
  · rw [fillArrive, head_found ret (by rw [its, plain, beq_self_eq_true]; rfl)]
    dsimp only
    rw [← ha, ahere]
    dsimp only
    rw [if_pos fetch]
  · exact (aworks.trans bworks).trans (works_blotNote ..)
  · exact bslice.trans (by rw [aslice])

/-! ## Victims (R219) -/

theorem count_frame (s : State) (g i n : Nat) : s.count g i n = { s with acc := (s.count g i n).acc } := by
  unfold State.count
  split <;> rfl

/-- A dirty victim whose way has good data leaves for its flue queue, and its way is reserved (R219). -/
structure VictimLeft (s t : State) (i line : Nat) (v : Victim) (l : List Victim) (d : LineData) : Prop where
  victims : (t.slice i).victims = l
  way : OneWay s t i v.set v.way { hlineD 0 with reserved := true }
  wrq : (t.pc (hbmLoc s.ten line).pc).wrq = (s.pc (hbmLoc s.ten line).pc).wrq ++ [newWrite s line d false v.cls true]
  pcs : ∀ q, q ≠ (hbmLoc s.ten line).pc → t.pc q = s.pc q
  others : ∀ j, j ≠ i → t.slice j = s.slice j
  rest : t = { s with slices := t.slices, pcs := t.pcs, acc := t.acc }

theorem victimTaken_leaves {v : Victim} {l : List Victim} (victims : (s.slice i).victims = v :: l) (its : v.line = line)
    (errs : (s.hway i v.set v.way).errs = []) (sound : (s.hway i v.set v.way).poison = false)
    (noInstall : ∀ n ∈ (s.slice i).installs, n.way ≠ v.way) (noOut : ∀ o ∈ (s.slice i).outWr, o.line ≠ line) (noTxn : txnOf s i line = none)
    (h : HbmLit s line) (none_ : ∀ e ∈ (s.pc (hbmLoc s.ten line).pc).wrq, e.line ≠ line) (room : flueCount (s.pc (hbmLoc s.ten line).pc) < 32)
    (idle : Idle (s.slice i)) (evbuf : (s.slice i).evbuf = []) :
    VictimLeft s (victimTaken s i line) i line v l (s.hway i v.set v.way).data := by
  have fits : hbmRoom s line true = true := by
    rw [hbmRoom, if_pos rfl, decide_eq_true room, Bool.or_true]
  have noWait : ((s.slice i).outWr.any fun o => o.line == line) = false :=
    List.any_eq_false.2 fun o ho => by rw [beq_false_of_ne (noOut o ho)]; exact Bool.false_ne_true
  have queued := hbmPut_new h none_ (s.hway i v.set v.way).data false v.cls true
  have read := readWay_good errs sound
  rw [victimTaken, head_found victims (by rw [its]; exact beq_self_eq_true line)]
  dsimp only
  rw [if_pos (by rw [fits, noWait]; rfl), read]
  dsimp only
  generalize hbmPut s line (s.hway i v.set v.way).data false v.cls true = a at queued ⊢
  have bslice : ∀ j, (a.count (16 + i) 7 1).slice j = s.slice j := fun j => (State.slice_count ..).trans (queued.slice j)
  have brest : a.count (16 + i) 7 1 = { s with pcs := a.pcs, acc := (a.count (16 + i) 7 1).acc } := by
    rw [count_frame, queued.rest]
  generalize a.count (16 + i) 7 1 = b at bslice brest ⊢
  have cslice := State.slice_modSlice_same b i fun x => { x with victims := eraseFirst (· == v) x.victims }
  rw [bslice, eraseFirst_head victims] at cslice
  have cothers (j : Nat) (hj : j ≠ i) := State.slice_modSlice_other b (fun x => { x with victims := eraseFirst (· == v) x.victims }) hj
  have crest := slices_modSlice (t := b) (s := b) rfl i fun x => { x with victims := eraseFirst (· == v) x.victims }
  generalize b.modSlice i (fun x => { x with victims := eraseFirst (· == v) x.victims }) = c at cslice cothers crest ⊢
  obtain ⟨e, he⟩ : ∃ e : HLine, e = { hlineD 0 with reserved := true } := ⟨_, rfl⟩
  rw [← he]
  have dslice := setHway_slice c i v.set v.way e
  have dothers (j : Nat) (hj : j ≠ i) : (c.setHway i v.set v.way e).slice j = c.slice j := State.slice_modSlice_other c _ hj
  have drest : c.setHway i v.set v.way e = { c with slices := (c.setHway i v.set v.way e).slices } := slices_modSlice rfl i _
  generalize c.setHway i v.set v.way e = d at dslice dothers drest ⊢
  have noneInst : ((d.slice i).installs.find? fun n => n.set == v.set && n.way == v.way) = none := find?_none fun n hn => by
    rw [dslice, cslice] at hn
    rw [beq_false_of_ne (noInstall n hn), Bool.and_false]
  rw [noneInst]
  dsimp only
  have noneHere : txnOf d i line = none := by rw [txnOf, dslice, cslice]; exact noTxn
  have same := goOn_same (advance_none noneHere) (by rw [dslice, cslice]; exact ⟨idle.inq, idle.confq, idle.retryq⟩)
    (by rw [NotDisplaced, dslice, cslice]; intro f hf; rw [evbuf] at hf; exact absurd hf List.not_mem_nil)
  refine ⟨?_, ?_, ?_, fun q hq => ?_, fun j hj => ?_, ?_⟩
  · rw [same.slice, dslice, cslice]
  · rw [← he]
    exact oneWay_of (by rw [same.slice, dslice, cslice])
  · have pcs : (goOn d i line).pcs = a.pcs := by rw [same.rest, drest, crest, brest]
    rw [State.pc, pcs]
    exact queued.wrq
  · have pcs : (goOn d i line).pcs = a.pcs := by rw [same.rest, drest, crest, brest]
    rw [State.pc, pcs]
    exact queued.others q hq
  · rw [same.slice, dothers j hj, cothers j hj, bslice]
  · rw [same.rest, drest, crest, brest]

/-! ## Kindling data (R222) -/

/-- The data of the one pending entry of a line makes it ready (R222). -/
theorem kindleArrive_readies {r : Returned} {l : List Returned} {e : KEntry} (ret : (s.slice i).ret = r :: l) (its : r.line = line)
    (kindle : r.kindle = true) (mem : e ∈ (s.slice i).kindle) (here : e.line = line) (pending : e.st = .pending)
    (only : ∀ y ∈ (s.slice i).kindle, y.line = line → y = e) :
    (kindleArrive s i line).slice i = { s.slice i with
      ret := l, kindle := (s.slice i).kindle.filter (fun y => y.line != line) ++ [⟨line, .ready, r.data, r.poison⟩] } ∧
    (∀ j, j ≠ i → (kindleArrive s i line).slice j = s.slice j) ∧ kindleArrive s i line = { s with slices := (kindleArrive s i line).slices } := by
  have waits : ((s.slice i).kindle.any fun y => y.line == line && y.st == .pending) = true :=
    List.any_eq_true.2 ⟨e, mem, by rw [here, pending, beq_self_eq_true]; rfl⟩
  have others : ((s.slice i).kindle.filter fun y => !(y.line == line && y.st != .ready)) = (s.slice i).kindle.filter fun y => y.line != line :=
    List.filter_congr fun y hy => by
      by_cases at_ : y.line = line
      · rw [only y hy at_, here, pending, beq_self_eq_true, bne_self_eq_false]
        rfl
      · rw [beq_false_of_ne at_, Bool.false_and, bne, beq_false_of_ne at_]
  rw [kindleArrive, head_found ret (by rw [its, kindle, beq_self_eq_true]; rfl)]
  refine ⟨?_, fun j hj => State.slice_modSlice_other s _ hj, slices_modSlice rfl i _⟩
  rw [State.slice_modSlice_same]
  dsimp only
  rw [waits, if_pos rfl, eraseFirst_head ret, others]

end Sys2Proof.Machine

open Sys2Proof Sys2Proof.Machine

/-- Settles O34: data that returns fills the way kept for it and ends its read; a victim leaves by the flue; kindling data makes its
entry ready, or wakes its slice; an idle stream goes. -/
theorem fillsAndVictimsMoveThroughTheHearth : Obligations.FillsAndVictimsMoveThroughTheHearth := by
  intro s i line hi _ inq confq retryq evbuf
  have idle : Idle (s.slice i) := ⟨inq, confq, retryq⟩
  refine ⟨fun r l x w age p ret its plain here fetch stage snps noGack secs kind found _ kept noWay absent still host => ?_,
    fun v l h pc victims its hh errs sound _ noInstall noOut noTxn hpc lit half none_ room => ?_,
    fun r l e ret its kindle => ⟨fun dark => ?_, fun lit mem here pending only => ?_⟩, fun n e stream old => ?_⟩
  · obtain ⟨u, takes, uhere, works, slice⟩ := fillArrive_takes ret its plain here fetch
    have hearth : (u.slice i).hearth = (s.slice i).hearth := by rw [slice]
    have filled := goOn_fills (x := { x with fetch := .got r.data r.poison true }) (works.hostAt host) uhere stage snps noGack secs kind rfl found
      (by rw [setOf_congr works.boot, hway_congr hearth]; exact kept) ((findWay_congr works.boot hearth line).trans noWay)
      ((dirWay_congr works.boot (fun n => by rw [slice]) line).trans absent) (by rw [slice]; exact still)
      (by rw [slice]; exact ⟨inq, confq, retryq⟩) (by rw [slice]; exact evbuf)
    obtain ⟨answered, way, txns, ret', rest⟩ := filled
    rw [works.mkRsp] at answered
    rw [setOf_congr works.boot] at way
    refine ⟨fillArrive s i line, if_pos hi, ?_⟩
    rw [takes]
    refine ⟨answered.between works (.refl ⟨false, false, false⟩ _ i), ⟨way.way, fun n hn => (way.others n hn).trans (by rw [hearth])⟩, ?_, ?_, ?_⟩
    · rw [txns, slice]
      exact filter_map_line (f := fun t => { t with fetch := .got r.data r.poison true }) (fun _ => rfl) _
    · rw [ret', slice]
    · rw [rest, works.quiet]
  · subst hpc
    subst hh
    obtain ⟨victims', way, wrq, pcs, others, rest⟩ := victimTaken_leaves victims its errs sound noInstall noOut noTxn ⟨lit, half⟩ none_ room idle evbuf
    exact ⟨victimTaken s i line, if_pos hi, victims', way, wrq, pcs, others, rest⟩
  · have waits : ((s.slice i).ret.any fun r => r.line == line && r.kindle) = true := by
      rw [ret, List.any_cons, its, kindle, beq_self_eq_true]
      rfl
    refine ⟨s.wake (20 + i), (if_pos hi).trans (congrArg Host.Outcome.next ?_), State.wake_frame s (20 + i)⟩
    rw [dark, if_neg Bool.false_ne_true, if_pos waits]
  · obtain ⟨slice, others, rest⟩ := kindleArrive_readies ret its kindle mem here pending only
    exact ⟨kindleArrive s i line, (if_pos hi).trans (congrArg Host.Outcome.next (if_pos lit)), slice, others, rest⟩
  · refine ⟨_, if_pos hi, ?_, fun j hj => State.slice_modSlice_other s _ hj, slices_modSlice rfl i _⟩
    rw [State.slice_modSlice_same, stream]
    exact if_pos old
end

section
/-! PROOF. Responses on their way to a host or to another device (R46, R145, R160, R450). -/
namespace Sys2Proof.Machine
open Config

variable {s t u : State} {p : Nat}

/-! ## A message for a host of this device (R145, R166) -/

/-- A message for a host leaves at the host's port, also a refusal, of which the blotter takes note. -/
theorem sendPlain_leaves {m : Msg} (h : HostAt s m.dst p) (noHop : m.hop = false) :
    (s.sendPlain m).port p = { s.port p with egress := (s.port p).egress ++ [m] } ∧ (∀ q, q ≠ p → (s.sendPlain m).port q = s.port q) ∧
      s.sendPlain m = { s with ports := (s.sendPlain m).ports, tel := (s.sendPlain m).tel } := by
  obtain ⟨T, hT⟩ : ∃ T, s.blotRefuse m = { s with tel := T } := ⟨_, s.blotRefuse_frame m⟩
  have same : s.sendPlain m = ({ s with tel := T } : State).enqueue p m := by
    have host : HostAt { s with tel := T } m.dst p := h.tel
    have away : ¬ (m.dst.dev = ({ s with tel := T } : State).devNum ∧ 32 ≤ m.dst.loc) := fun c => Nat.not_le_of_lt h.loc c.2
    have own : voteDevice { s with tel := T } m.dst.dev = { s with tel := T } := if_pos h.here
    have queued : ({ s with tel := T } : State).depart p m = ({ s with tel := T } : State).enqueue p m := by
      rw [State.depart, host.notFabric, Bool.false_and, Bool.false_and, if_neg Bool.false_ne_true]
    rw [State.sendPlain, hT]
    dsimp only
    rw [if_neg away, own, host.portFor]
    dsimp only
    rw [host.carries, if_pos rfl, queued]
  have plain : { m with hop := m.hop && ({ s with tel := T } : State).isFabric p } = m := by
    rw [noHop]
    cases m
    cases noHop
    rfl
  rw [same, State.enqueue, plain]
  exact ⟨State.port_modPort_same .., fun q hq => State.port_modPort_other _ _ hq, rfl⟩

/-- A response for a host of this device that has just arrived. -/
theorem respondTo_host {r : Msg} (host : HostAt s r.dst p) (h : Arrives s (sameRsp r.opc r.src r.dst r.tag)) (vc : r.vc = vcOf r.opc)
    (noHop : r.hop = false) : ∃ t, respondTo s r = t ∧ t.port p = { s.port p with egress := (s.port p).egress ++ [r] } ∧
      (∀ q, q ≠ p → t.port q = s.port q) ∧ t = { s with ports := t.ports, tel := t.tel } := by
  have selects : sameRsp r.opc r.src r.dst r.tag r = true := by simp [sameRsp]
  obtain ⟨alive, -⟩ := h.alive
  obtain ⟨n, hn⟩ : ∃ n, n = s.blotNote r.dst r.tag fun w => if w.outcome = some 7 ∧ w.got = none then { w with got := some s.tb.count.toNat } else w :=
    ⟨_, rfl⟩
  have noted : ∃ T, n = { s with tel := T } := by rw [hn]; exact ⟨_, rfl⟩
  obtain ⟨T, hT⟩ := noted
  have hostN : HostAt n r.dst p := by rw [hT]; exact host.tel
  have sends := sendPlain_leaves (s := n) hostN noHop
  have goes : respondTo s r = n.sendPlain r := by
    rw [respondTo]
    dsimp only
    rw [h.heldMsg, Option.getD_none, h.order r selects vc, Bool.false_and, if_neg Bool.false_ne_true, h.takeMsg]
    dsimp only
    rw [← hn, if_neg (show ¬ n.boot.fatal = true by rw [hT, show ({ s with tel := T } : State).boot.fatal = s.boot.fatal from rfl, alive]; exact Bool.false_ne_true),
      if_neg (fun c => c hostN.here), if_pos hostN.loc]
  rw [goes]
  obtain ⟨sent, others, rest⟩ := sends
  generalize n.sendPlain r = t at sent others rest
  refine ⟨t, rfl, ?_, fun q hq => ?_, ?_⟩
  · rw [sent, hT]; rfl
  · rw [others q hq, hT]; rfl
  · rw [rest, hT]

/-! ## A response for another device (R46, R160, R450) -/

theorem voteRoute_agree (h : Agree s) (d : Nat) : voteRoute s d = s := foldl_same fun _ _ => voteReg_of_agree h _

theorem isReq_response {m : Msg} (low : 0x40 ≤ m.opc) : isReq m = false := decide_eq_false (by omega)

/-- The forwarding of a message, by whether it came in at a fabric port. -/
theorem forwardMsg_eq (s : State) (ing : Option Nat) (m : Msg) : forwardMsg s ing m =
    if ing.any s.isFabric && (if isReq m then m.vc == 5 else m.hop) then
      if isReq m || m.opc == opcAGENT_MSG then s.refuseAt ing m 7 else s.discard (ing.getD 0) m
    else match msgDevice s m with
    | none => s.refuseAt ing m 1
    | some d => match (voteRoute s d).routePort d with
      | none => noPort (voteRoute s d) ing (ing.getD 0) 5 m
      | some p =>
        if (fwdUnits (voteRoute s d) ing p).all (voteRoute s d).domLit then sendVia (voteRoute s d) ing p
          { outgoing (voteRoute s d) m with
            hop := ing.any s.isFabric, vc := if isReq m then (if ing.any s.isFabric then 5 else 0) else m.vc }
        else ((fwdUnits (voteRoute s d) ing p).foldl (fun s d => s.wake d) (voteRoute s d)).hold m ing true := by
  cases ing <;> rfl

/-- A response leaves by the port of its route, where that carries and the forwarding units are Lit. -/
theorem forwardMsg_leaves {m : Msg} {ing : Option Nat} (votes : Agree s) (low : 0x40 ≤ m.opc) (route : s.routePort m.dst.dev = some p)
    (carries : s.canCarry p = true) (lit : ∀ d ∈ fwdUnits s ing p, s.domLit d = true) {fab : Bool}
    (fabIn : ing.any s.isFabric = fab) (once : fab = true → m.hop = false) :
    forwardMsg s ing m = s.modPort p fun x => { x with egress := x.egress ++ [{ m with priv := s.privOf m.src m.priv, hop := fab }] } := by
  have response := isReq_response low
  have fabric : s.isFabric p = true := by
    rw [State.routePort] at route
    split at route
    · rename_i c
      rw [Bool.and_eq_true] at c
      rw [← Option.some.inj route]
      exact c.2
    · exact absurd route (Option.some_ne_none p).symm
  have goes : outgoing s m = { m with priv := s.privOf m.src m.priv } := by
    rw [outgoing]
    dsimp only
    rw [show isReq { m with priv := s.privOf m.src m.priv } = isReq m from rfl, response, Bool.false_and, Bool.false_and, if_neg Bool.false_ne_true]
  have noLoop : ¬ (fab && (if isReq m = true then m.vc == 5 else m.hop)) = true := by
    rw [response, if_neg Bool.false_ne_true]
    cases fab with
    | false => exact Bool.false_ne_true
    | true => rw [once rfl]; exact Bool.false_ne_true
  have device : msgDevice s m = some m.dst.dev := by rw [msgDevice, response, if_neg Bool.false_ne_true]
  have awake : (fwdUnits s ing p).all s.domLit = true := List.all_eq_true.2 lit
  rw [forwardMsg_eq, fabIn, if_neg noLoop, device]
  dsimp only
  rw [voteRoute_agree votes, route]
  dsimp only
  rw [awake, if_pos rfl, goes, response, if_neg Bool.false_ne_true, sendVia, carries, if_pos rfl]
  dsimp only
  rw [show isReq { m with priv := s.privOf m.src m.priv, hop := fab } = isReq m from rfl, response, if_neg Bool.false_ne_true, State.enqueue]
  dsimp only
  rw [fabric, Bool.and_true]

/-- A response that is held nowhere is forwarded (R46, R160). -/
theorem forward_arrived {m : Msg} (h : Arrives s (· == m)) (low : 0x40 ≤ m.opc) (away : m.dst.dev ≠ s.devNum) (vc : m.vc = vcOf m.opc) :
    forward s none m = forwardMsg s none m := by
  obtain ⟨alive, -⟩ := h.alive
  have fwd : (s.spine.fwd.find? fun h => h.msg == m) = none := find?_none fun f hf => h.fwd f hf
  rw [forward, isReq_response low]
  dsimp only
  rw [Bool.false_and, if_neg Bool.false_ne_true, h.takeMsg, h.findRx, fwd]
  dsimp only
  rw [alive, if_neg Bool.false_ne_true, h.order m (beq_self_eq_true m) vc, if_neg Bool.false_ne_true, if_neg Bool.false_ne_true, if_neg away]

/-- The first receive buffer that holds a message gives it. -/
theorem findRx_first {m : Msg} {q : Nat} {l : List Msg} (hq : q < nPorts) (rx : (s.port q).rxq = m :: l)
    (before : ∀ r < q, ∀ n ∈ (s.port r).rxq, n ≠ m) : s.findRx (· == m) = some (q, m) := by
  obtain ⟨k, hk⟩ : ∃ k, nPorts = q + (k + 1) := ⟨nPorts - q - 1, by omega⟩
  have split : List.range nPorts = List.range q ++ q :: List.range' (q + 1) k := by
    rw [List.range_eq_range', hk, ← List.range'_append_1, List.range'_succ, Nat.zero_add, ← List.range_eq_range']
  have none_ (r : Nat) (hr : r ∈ List.range q) : (((s.port r).rxq.find? (· == m)).map fun m => (r, m)) = none := by
    rw [find?_none fun n hn => beq_false_of_ne (before r (List.mem_range.1 hr) n hn)]
    rfl
  rw [State.findRx, split, List.findSome?_append, List.findSome?_eq_none_iff.2 none_, Option.none_or, List.findSome?_cons,
    head_found (q := (· == m)) rx (beq_self_eq_true m)]
  rfl

theorem wordsLE_two (v : DWord) : wordsLE 2 v.toNat = [v.setWidth 32, (v >>> 32).setWidth 32] := by
  rw [wordsLE, wordsLE, wordsLE, BitVec.ofNat_toNat, ← Nat.shiftRight_eq_div_pow, ← BitVec.toNat_ushiftRight, BitVec.ofNat_toNat]

/-- A response that waits first in a receive buffer is forwarded, and its words are free (R160). -/
theorem forward_received {m : Msg} {q : Nat} {l : List Msg} (alive : s.boot.fatal = false) (low : 0x40 ≤ m.opc) (away : m.dst.dev ≠ s.devNum)
    (hq : q < nPorts) (rx : (s.port q).rxq = m :: l) (before : ∀ r < q, ∀ n ∈ (s.port r).rxq, n ≠ m)
    (order : ∀ h ∈ s.spine.fwd, sameOrder m h.msg = false) :
    forward s (some q) m = forwardMsg (s.modPort q fun x => freeWords m { x with rxq := eraseFirst (· == m) x.rxq }) (some q) m := by
  have found := findRx_first hq rx before
  have waits : s.mustWait (· == m) m = false := by
    rw [State.mustWait, State.before, found]
    dsimp only
    rw [rx, beforeFirst, if_pos (beq_self_eq_true m), List.append_nil, List.any_map]
    exact List.any_eq_false.2 fun h hh => by
      rw [Function.comp, order h hh]
      exact Bool.false_ne_true
  rw [forward, isReq_response low]
  dsimp only
  rw [Bool.false_and, if_neg Bool.false_ne_true, State.takeMsg, found]
  dsimp only
  rw [show (s.modPort q fun x => freeWords m { x with rxq := eraseFirst (· == m) x.rxq }).boot.fatal = s.boot.fatal from rfl, alive,
    if_neg Bool.false_ne_true, waits, if_neg Bool.false_ne_true, if_neg Bool.false_ne_true, if_neg away]

end Sys2Proof.Machine

open Sys2Proof Sys2Proof.Machine

/-- Settles O32: a response that arrives goes to the egress queue of its host's port or of its route's port, also from a receive
buffer, whose words it frees. -/
theorem responsesReachTheirHostOrTheirRoute : Obligations.ResponsesReachTheirHostOrTheirRoute := by
  refine ⟨fun s src dst tag p host => ?_, fun s m p low high away route carries lit alive vc votes => ⟨fun arrives => ?_,
    fun q l hq other fabric litq rx noHop before order => ?_⟩⟩
  · have local_ : ¬ 32 ≤ dst.loc := Nat.not_le_of_lt host.loc
    intro sent
    refine ⟨fun d bad h => ?_, fun h => ?_, fun v bad h => ?_, fun h => ?_, fun full h => ?_, fun reason h => ?_⟩
    · obtain ⟨t, goes, sent⟩ := respondTo_host (r := rspMsg opcDATA_UC src dst tag 0 bad (wordsLE 16 d.toNat)) host h rfl rfl
      exact ⟨t, congrArg Host.Outcome.next goes, sent⟩
    · have param : b2n (dst.dev == s.devNum && decide (32 ≤ dst.loc) && decide (dst.loc < 48)) = 0 := by
        rw [decide_eq_false local_, Bool.and_false, Bool.false_and]
        rfl
      obtain ⟨t, goes, sent⟩ := respondTo_host (r := rspMsg opcWR_DONE src dst tag 0 false []) host h rfl rfl
      refine ⟨t, congrArg Host.Outcome.next ?_, sent⟩
      rw [param]
      exact goes
    · obtain ⟨t, goes, sent⟩ := respondTo_host (r := rspMsg opcAMO_DATA src dst tag 0 bad (wordsLE 2 v.toNat)) host h rfl rfl
      refine ⟨t, congrArg Host.Outcome.next goes, ?_⟩
      rw [wordsLE_two] at sent
      exact sent
    · obtain ⟨t, goes, sent⟩ := respondTo_host (r := rspMsg opcCMP src dst tag 0 false []) host h rfl rfl
      exact ⟨t, congrArg Host.Outcome.next goes, sent⟩
    · obtain ⟨t, goes, sent⟩ := respondTo_host (r := rspMsg opcMSG_DONE src dst tag (b2n full) false []) host h rfl rfl
      refine ⟨t, congrArg Host.Outcome.next goes, ?_⟩
      exact sent
    · obtain ⟨t, goes, sent⟩ := respondTo_host (r := rspMsg opcNO_TARGET src dst tag 0 false [reason.setWidth 32]) host h rfl rfl
      exact ⟨t, congrArg Host.Outcome.next goes, sent⟩
  · have leaves := forwardMsg_leaves (ing := none) (fab := false) votes low route carries (by
      intro d hd
      rw [List.mem_singleton.1 hd]
      exact lit) rfl fun c => Bool.noConfusion c
    refine ⟨_, congrArg Host.Outcome.next ((forward_arrived arrives low away vc).trans leaves), ?_, fun q hq => ?_, rfl⟩
    · exact State.port_modPort_same ..
    · exact State.port_modPort_other _ _ hq
  · obtain ⟨u, hu⟩ : ∃ u, u = s.modPort q fun x => freeWords m { x with rxq := eraseFirst (· == m) x.rxq } := ⟨_, rfl⟩
    have here : u.port q = freeWords m { s.port q with rxq := l } := by
      rw [hu, State.port_modPort_same, eraseFirst_head rx]
    have others (r : Nat) (hr : r ≠ q) : u.port r = s.port r := by rw [hu, State.port_modPort_other _ _ hr]
    have rest : u = { s with ports := u.ports } := by rw [hu]; rfl
    have goes := forward_received alive low away hq rx before order
    rw [← hu] at goes
    have doms (d : Nat) : u.domLit d = s.domLit d := by rw [hu]; rfl
    have carries' : u.canCarry p = true := by
      rw [State.canCarry, others p (Ne.symm other)]
      rw [hu]
      exact carries
    have fabric' : u.isFabric q = true := by rw [hu]; exact fabric
    have leaves := forwardMsg_leaves (s := u) (ing := some q) (fab := true) (by rw [hu]; exact ⟨votes.copies, votes.locks, votes.fuses⟩) low
      (by rw [hu]; exact route) carries' (fun d hd => by
        rw [doms]
        rw [fwdUnits, fabric', Bool.true_and] at hd
        rcases List.mem_append.1 hd with hd | hd
        · split at hd
          · rw [List.mem_singleton.1 hd]
            exact litq
          · exact absurd hd List.not_mem_nil
        · rw [List.mem_singleton.1 hd]
          exact lit) fabric' fun _ => noHop
    have priv : u.privOf m.src m.priv = s.privOf m.src m.priv := by rw [hu]; rfl
    rw [priv] at leaves
    refine ⟨_, congrArg Host.Outcome.next (goes.trans leaves), ?_, ?_, fun r hp hr => ?_, ?_⟩
    · rw [State.port_modPort_same, others p (Ne.symm other)]
    · rw [State.port_modPort_other _ _ (Ne.symm (Ne.symm other)), here]
    · rw [State.port_modPort_other _ _ hp, others r hr]
    · rw [State.modPort, rest]
end

section
/-! PROOF. Agent messages (R153, R324, R387): mailboxes, the rings of the clusters, hosts. -/
namespace Sys2Proof.Machine
open Config

variable {s t u : State} {p c k : Nat}

/-! ## What a knock at a cluster's cores leaves as it is (R323) -/

/-- The registers outside the event unit and the clusters. -/
def MessageReg (x : Nat) : Prop := x < 0x30000 ∨ (0x40000 ≤ x ∧ x < 0x500000)

/-- From s to t nothing has changed that carries messages to hosts, no cluster but in its cores, and no line of memory. -/
structure Knocked (s t : State) : Prop where
  ports : t.ports = s.ports
  clusters : t.clusters = s.clusters
  hbm : t.hbm = s.hbm
  boot : t.boot = s.boot
  regs : ∀ x, MessageReg x → t.rd x = s.rd x
  doms : ∀ d, (t.dom d).st = (s.dom d).st

theorem Knocked.refl (s : State) : Knocked s s := ⟨rfl, rfl, rfl, rfl, fun _ _ => rfl, fun _ => rfl⟩

theorem Knocked.trans (h : Knocked s t) (h' : Knocked t u) : Knocked s u :=
  ⟨h'.ports.trans h.ports, h'.clusters.trans h.clusters, h'.hbm.trans h.hbm, h'.boot.trans h.boot,
    fun x hx => (h'.regs x hx).trans (h.regs x hx), fun d => (h'.doms d).trans (h.doms d)⟩

theorem knocked_modCore (s : State) (k : Nat) (f : Core → Core) : Knocked s (s.modCore k f) := ⟨rfl, rfl, rfl, rfl, fun _ _ => rfl, fun _ => rfl⟩

theorem knocked_count (s : State) (g i n : Nat) : Knocked s (s.count g i n) := by
  rw [count_frame]
  exact ⟨rfl, rfl, rfl, rfl, fun _ _ => rfl, fun _ => rfl⟩

theorem knocked_setFld (s : State) {off : Nat} (high : ¬ MessageReg off) (lo w v : Nat) : Knocked s (s.setFld off lo w v) := by
  have regs (x : Nat) (hx : MessageReg x) : (s.setFld off lo w v).rd x = s.rd x := State.rd_setFld_other _ _ _ _ fun c => high (c ▸ hx)
  have frame := State.setFld_frame s off lo w v
  generalize s.setFld off lo w v = t at regs frame
  exact ⟨by rw [frame], by rw [frame], by rw [frame], by rw [frame], regs, fun d => by rw [frame]; rfl⟩

theorem knocked_raise (s : State) (source code : Nat) (info : Word) : Knocked s (s.raise source code info) := ⟨rfl, rfl, rfl, rfl, fun _ _ => rfl, fun _ => rfl⟩

theorem knocked_setStatus (s : State) {off : Nat} (high : ¬ MessageReg off) (i source code : Nat) (info : Word) :
    Knocked s (s.setStatus off i source code info) := by
  unfold State.setStatus
  split
  · exact .refl s
  · exact (knocked_setFld s high i 1 1).trans (knocked_raise ..)

theorem knocked_paceCore (s : State) (k : Nat) : Knocked s (s.paceCore k) := ⟨rfl, rfl, rfl, rfl, fun _ _ => rfl, fun _ => rfl⟩

theorem knocked_tel (s : State) (T : Tel) : Knocked s { s with tel := T } := ⟨rfl, rfl, rfl, rfl, fun _ _ => rfl, fun _ => rfl⟩

theorem knocked_wakeOne (s : State) (d : Nat) : Knocked s (s.wakeOne d) := by
  have frame := State.wakeOne_frame (s := s) d
  have doms := (sends_wakeOne s d).doms
  generalize s.wakeOne d = t at frame doms
  exact ⟨by rw [frame], by rw [frame], by rw [frame], by rw [frame], fun x _ => by rw [frame]; rfl, doms⟩

theorem knocked_wake (s : State) (d : Nat) : Knocked s (s.wake d) := by
  unfold State.wake State.wakeAccess
  split
  · exact .refl s
  · split
    · exact (knocked_wakeOne s d).trans (knocked_wakeOne ..)
    · exact knocked_wakeOne s d

theorem knocked_blotAdmit (s : State) (f : Follow) : Knocked s (blotAdmit s f) := by
  unfold blotAdmit
  split
  · split
    · exact knocked_tel ..
    · have drawn : Knocked s ((blotDraw s).wake 61) := (knocked_tel s _).trans (knocked_wake (blotDraw s) 61)
      dsimp only
      split
      · unfold blotDrop
        exact drawn.trans ((knocked_count _ 53 15 1).trans (knocked_setStatus _ (by unfold MessageReg telReg; omega) ..))
      · exact drawn.trans (knocked_tel _ _)
  · exact .refl s

theorem knocked_fetchLine (s : State) (k : Nat) : Knocked s (fetchLine s k) := by
  have fetched : Knocked s ((blotFetch s k).count (36 + k / 8) 4 1) := by
    refine .trans ?_ (knocked_count ..)
    unfold blotFetch
    split
    · exact knocked_blotAdmit ..
    · exact .refl s
  unfold fetchLine
  dsimp only
  split
  · exact knocked_modCore ..
  · split
    · exact fetched.trans (knocked_modCore ..)
    · exact fetched

theorem knocked_wfdReturn (s : State) (k : Nat) (rd : BitVec 5) (bits : Nat) : Knocked s (wfdReturn s k rd bits) := by
  have told : Knocked s (if bits % 2 = 1 then s.setFld (scrReg (k / 8) 8) (k % 8) 1 0 else s) := by
    split
    · exact knocked_setFld s (by unfold MessageReg scrReg; omega) ..
    · exact .refl s
  rw [wfdReturn, retire, retireTo]
  exact told.trans ((knocked_modCore ..).trans ((knocked_fetchLine ..).trans ((knocked_modCore ..).trans ((knocked_count ..).trans (knocked_paceCore ..)))))

theorem knocked_wfdCheck (s : State) (k : Nat) (late : Bool) : Knocked s (wfdCheck s k late) := by
  unfold wfdCheck
  dsimp only
  split
  · split
    · exact knocked_wfdReturn ..
    · exact .refl s
  · exact .refl s

theorem knocked_knockCores (s : State) (c : Nat) : Knocked s (knockCores s c) := by
  have each (l : List Nat) (s : State) : Knocked s (l.foldl (fun s j => wfdCheck s (8 * c + j) false) s) := by
    induction l generalizing s with
    | nil => exact .refl s
    | cons j l ih => exact (knocked_wfdCheck s (8 * c + j) false).trans (ih _)
  exact each _ s

/-! ## A host is told all the same -/

theorem Knocked.hostAt {a : AgentId} (h : Knocked s t) (host : HostAt s a p) : HostAt t a p := by
  have mode : t.rd 0x8 = s.rd 0x8 := h.regs 0x8 (Or.inl (by decide))
  have compat : t.compat = s.compat := congrArg (·.getLsbD 0) mode
  have devId : t.devId = s.devId := by rw [State.devId, State.devId, h.boot]
  have present (q : Nat) : t.portPresent q = s.portPresent q := by rw [State.portPresent, State.portPresent, compat, devId]
  have port : t.port p = s.port p := by rw [State.port, State.port, h.ports]
  have low : p < 16 := by
    have := host.loc
    have := host.port
    omega
  have reg : t.rd (portReg p 0) = s.rd (portReg p 0) := h.regs _ (Or.inr (by unfold portReg; omega))
  have fabric : t.isFabric p = s.isFabric p := congrArg (·.getLsbD 0) reg
  refine ⟨host.here.trans (congrArg (wfld · 4 4) mode).symm, ?_, host.port, ?_⟩
  · have agent := host.agent
    rw [State.hostAgent, ← host.port, State.agentEn] at agent ⊢
    rw [present, fabric, State.fld, reg]
    exact agent
  · have carries := host.carries
    have portDom (u : State) : u.domPresent (4 + p) = u.portPresent p := by
      rw [State.domPresent, if_neg (by omega), if_pos (by omega), Nat.add_sub_cancel_left]
    have domPresent : t.domPresent (4 + p) = s.domPresent (4 + p) := by rw [portDom, portDom, present]
    rw [State.canCarry, State.domSt, domPresent, h.doms, present, port]
    exact carries

theorem Knocked.mkRsp (h : Knocked s t) (opc : Nat) (a : AgentId) (g : Tag) (body : List Word) : t.mkRsp opc a g body = s.mkRsp opc a g body := by
  rw [State.mkRsp, State.mkRsp, State.mkMsg, State.mkMsg, State.home, State.home, State.devNum, State.devNum, State.fld, State.fld, h.regs 0x8 (Or.inl (by decide))]

/-! ## A message that arrives, and what its sender is told (R153) -/

section
variable {src dst : AgentId} {tag : Tag} {mbox : BitVec 3} {chan : BitVec 8} {pay : List Word} {ok : Bool} {m : Msg}

/-- The sender is told whether the message was taken. -/
structure Told (s t : State) (src : AgentId) (tag : Tag) (p full : Nat) : Prop where
  sent : t.port p = { s.port p with egress := (s.port p).egress ++ [{ s.mkRsp opcMSG_DONE src tag [] with param := BitVec.ofNat 8 full }] }
  ports : ∀ q, q ≠ p → t.port q = s.port q

theorem msgDone_tells (host : HostAt s m.src p) : Told s (msgDone s m ok) m.src m.tag p (b2n !ok) ∧ msgDone s m ok = { s with ports := (msgDone s m ok).ports } := by
  have sent := sendPlain_host (m := { s.mkRsp opcMSG_DONE m.src m.tag [] with param := BitVec.ofNat 8 (b2n !ok) }) host rfl (by decide : opcMSG_DONE ≠ opcNO_TARGET) rfl
  exact ⟨⟨sent.sent, sent.ports⟩, sent.rest⟩

theorem Knocked.told {full : Nat} (h : Knocked s t) (told : Told t u src tag p full) : Told s u src tag p full := by
  have port (q : Nat) : t.port q = s.port q := by rw [State.port, State.port, h.ports]
  refine ⟨?_, fun q hq => (told.ports q hq).trans (port q)⟩
  rw [told.sent, port, h.mkRsp]

/-- The message that the command stands for. -/
def agentMsgOf (src dst : AgentId) (tag : Tag) (mbox : BitVec 3) (chan : BitVec 8) (pay : List Word) : Msg :=
  rspMsg opcAGENT_MSG src dst tag 0 false (w32 (mbox.toNat + 2 ^ 8 * chan.toNat) :: pay)

theorem mailbox_field (mbox : BitVec 3) (chan : BitVec 8) : BitVec.ofNat 3 (wfld (w32 (mbox.toNat + 2 ^ 8 * chan.toNat)) 0 3) = mbox := by
  have hm := mbox.isLt
  have hc := chan.isLt
  apply BitVec.eq_of_toNat_eq
  rw [wfld, toNat_w32 (by omega), bitsOf, BitVec.toNat_ofNat]
  omega

theorem channel_field (mbox : BitVec 3) (chan : BitVec 8) : BitVec.ofNat 8 (wfld (w32 (mbox.toNat + 2 ^ 8 * chan.toNat)) 8 8) = chan := by
  have hm := mbox.isLt
  have hc := chan.isLt
  apply BitVec.eq_of_toNat_eq
  rw [wfld, toNat_w32 (by omega), bitsOf, BitVec.toNat_ofNat]
  omega

/-- A message that has just arrived goes to the place that it names. -/
theorem agentMsg_arrives (h : Arrives s (sameRsp opcAGENT_MSG src dst tag)) :
    exec (.agentMsg src dst tag mbox chan pay) s = .next (agentMsg s none (agentMsgOf src dst tag mbox chan pay) mbox chan pay) := by
  have selects : sameRsp opcAGENT_MSG src dst tag (agentMsgOf src dst tag mbox chan pay) = true := by simp [sameRsp, agentMsgOf, rspMsg]
  obtain ⟨alive, -⟩ := h.alive
  change execAgentMsg src dst tag mbox chan pay s = _
  rw [execAgentMsg]
  rw [h.heldMsg, Option.getD_none, ← agentMsgOf, h.order _ selects rfl, Bool.false_and, if_neg Bool.false_ne_true, h.takeMsg]
  dsimp only
  rw [alive, if_neg Bool.false_ne_true, agentMsgOf, rspMsg, List.headD_cons, mailbox_field, channel_field, List.tail_cons]

/-! ## The mailboxes of the event unit (R387) -/

theorem length_pairs : ∀ pay : List Word, (pairs pay).length = pay.length / 2
  | [] => rfl
  | [_] => by simp [pairs]
  | a :: b :: pay => by
    rw [pairs, List.length_cons, length_pairs pay, List.length_cons, List.length_cons]
    omega

theorem agentMsg_mailbox (dst : m.dst = s.home) : agentMsg s none m mbox chan pay = msgDone (mboxPush s mbox.toNat pay).1 m (mboxPush s mbox.toNat pay).2 := by
  rw [agentMsg]
  dsimp only
  rw [dst, home_dev, if_neg (fun c => c rfl), home_loc, if_neg (by decide), if_neg (by decide), if_pos rfl]

theorem mboxPush_room {i : Nat} (room : (sget fifoD s.evt.mbox i).items.length + pay.length / 2 ≤ 256) :
    mboxPush s i pay = ({ s with evt := { s.evt with mbox := sset fifoD s.evt.mbox i { sget fifoD s.evt.mbox i with
      items := (sget fifoD s.evt.mbox i).items ++ pairs pay, wr := ((sget fifoD s.evt.mbox i).wr + pay.length / 2) % 512 } } }, true) := by
  rw [mboxPush, fifoPush, length_pairs, if_neg (by omega)]

theorem mboxPush_full {i : Nat} (full : 256 < (sget fifoD s.evt.mbox i).items.length + pay.length / 2) :
    mboxPush s i pay = (s.setFld (mboxReg i 0x10) 0 1 1, false) := by
  rw [mboxPush, fifoPush, length_pairs, if_pos (by omega)]

theorem knocked_evt (s : State) (e : EvtState) : Knocked s { s with evt := e } := ⟨rfl, rfl, rfl, rfl, fun _ _ => rfl, fun _ => rfl⟩

/-! ## The message ring of a cluster (R324) -/

theorem agentMsg_cluster (dst : m.dst = mkAgent s.devNum (32 + c)) (hc : c < Config.nClusters) (present : s.clusterPresent c = true)
    (lit : s.domLit (44 + c) = true) (still : (s.cluster c).resetting = false) :
    agentMsg s none m mbox chan pay = msgDone (ringPush s c m.src mbox chan pay).1 m (ringPush s c m.src mbox chan pay).2 := by
  have dev := devNum_lt s
  have high : c < 16 := hc
  have toNat : (mkAgent s.devNum (32 + c)).toNat = s.devNum * 64 + (32 + c) := by
    rw [mkAgent, BitVec.toNat_ofNat]
    omega
  have there : (mkAgent s.devNum (32 + c)).dev = s.devNum := by
    rw [AgentId.dev, toNat]
    omega
  have loc : (mkAgent s.devNum (32 + c)).loc = 32 + c := by
    rw [AgentId.loc, toNat]
    omega
  rw [agentMsg]
  dsimp only
  rw [dst, there, if_neg (fun c => c rfl), loc, if_neg (by omega), if_pos (by omega), Nat.add_sub_cancel_left, present, if_neg (fun c => Bool.noConfusion c),
    if_pos ⟨lit, still⟩]

theorem byte_slateWrite (s : State) (c off n v o : Nat) : ((slateWrite s c off n v).cluster c).byte o =
    if off ≤ o ∧ o < off + n then v / 2 ^ (8 * (o - off)) % 256 else (s.cluster c).byte o := by
  rw [slateWrite, State.cluster_modCluster_same, Cluster.byte, sget_foldl_sset]
  split
  · rfl
  · rfl

theorem ofWordsLE_lt (ws : List Word) : ofWordsLE ws < 2 ^ (8 * (4 * ws.length)) := by
  induction ws with
  | nil => exact Nat.one_pos
  | cons w ws ih =>
    have := w.isLt
    rw [ofWordsLE, List.length_cons, show 8 * (4 * (ws.length + 1)) = 32 + 8 * (4 * ws.length) by omega, Nat.pow_add]
    omega

/-- The message is in the slot of the ring at its tail. -/
structure InRing (s t : State) (c base hdr : Nat) (pay : List Word) : Prop where
  header : SlateNumber (t.cluster c) base 8 hdr
  payload : SlateNumber (t.cluster c) (base + 8) (4 * pay.length) (ofWordsLE pay)
  tail : (t.cluster c).msgTail = (s.cluster c).msgTail + 1
  head : (t.cluster c).msgHead = (s.cluster c).msgHead
  bytes : ∀ o, o < base ∨ base + 8 + 4 * pay.length ≤ o → (t.cluster c).byte o = (s.cluster c).byte o
  others : ∀ j, j ≠ c → t.cluster j = s.cluster j
  hbm : t.hbm = s.hbm

theorem slotWritten (s : State) (c base hdr : Nat) (pay : List Word) (small : hdr < 2 ^ 64) :
    InRing s ((slateWrite (slateWrite s c base 8 hdr) c (base + 8) (4 * pay.length) (ofWordsLE pay)).modCluster c fun x => { x with msgTail := x.msgTail + 1 })
      c base hdr pay := by
  have other (s : State) (off n v : Nat) {j : Nat} (hj : j ≠ c) : (slateWrite s c off n v).cluster j = s.cluster j := State.cluster_modCluster_other _ _ hj
  have tail (s : State) (off n v : Nat) : ((slateWrite s c off n v).cluster c).msgTail = (s.cluster c).msgTail := by
    rw [slateWrite, State.cluster_modCluster_same]
  have head (s : State) (off n v : Nat) : ((slateWrite s c off n v).cluster c).msgHead = (s.cluster c).msgHead := by
    rw [slateWrite, State.cluster_modCluster_same]
  have bytes (o : Nat) : Cluster.byte { (slateWrite (slateWrite s c base 8 hdr) c (base + 8) (4 * pay.length) (ofWordsLE pay)).cluster c with
        msgTail := ((slateWrite (slateWrite s c base 8 hdr) c (base + 8) (4 * pay.length) (ofWordsLE pay)).cluster c).msgTail + 1 } o =
      if base + 8 ≤ o ∧ o < base + 8 + 4 * pay.length then ofWordsLE pay / 2 ^ (8 * (o - (base + 8))) % 256 else
        if base ≤ o ∧ o < base + 8 then hdr / 2 ^ (8 * (o - base)) % 256 else (s.cluster c).byte o := by
    rw [← byte_slateWrite, ← byte_slateWrite]
    rfl
  constructor
  case header =>
    refine ⟨small, fun i hi => ?_⟩
    rw [State.cluster_modCluster_same, bytes, if_neg (by omega), if_pos (by omega), Nat.add_sub_cancel_left]
  case payload =>
    refine ⟨ofWordsLE_lt pay, fun i hi => ?_⟩
    rw [State.cluster_modCluster_same, bytes, if_pos (by omega), Nat.add_sub_cancel_left]
  case tail => rw [State.cluster_modCluster_same, tail, tail]
  case head => rw [State.cluster_modCluster_same, head, head]
  case bytes =>
    intro o ho
    rw [State.cluster_modCluster_same, bytes, if_neg (by omega), if_neg (by omega)]
  case others =>
    intro j hj
    rw [State.cluster_modCluster_other _ _ hj, other _ _ _ _ hj, other _ _ _ _ hj]
  case hbm => rfl

theorem InRing.knocked {base hdr : Nat} (h : InRing s t c base hdr pay) (k : Knocked t u) : InRing s u c base hdr pay := by
  have cluster (j : Nat) : u.cluster j = t.cluster j := by rw [State.cluster, State.cluster, k.clusters]
  obtain ⟨header, payload, tail, head, bytes, others, hbm⟩ := h
  rw [← cluster] at header payload tail head
  exact ⟨header, payload, tail, head, fun o ho => by rw [cluster, bytes o ho], fun j hj => by rw [cluster, others j hj], k.hbm.trans hbm⟩

theorem ringPush_takes (on : s.bit (scrReg c 0x30) 0 = true) (room : ((s.cluster c).msgTail - (s.cluster c).msgHead).toNat < 32) (short : pay.length ≤ 16) :
    ∃ C u, ringPush s c src mbox chan pay = (u, true) ∧
      InRing s { s with clusters := C } c (s.fld (scrReg c 0x30) 12 7 * 4096 + 128 * ((s.cluster c).msgTail.toNat % 32))
        (src.toNat + 2 ^ 10 * mbox.toNat + 2 ^ 16 * chan.toNat + 2 ^ 24 * pay.length) pay ∧ Knocked { s with clusters := C } u := by
  have small : src.toNat + 2 ^ 10 * mbox.toNat + 2 ^ 16 * chan.toNat + 2 ^ 24 * pay.length < 2 ^ 64 := by
    have := src.isLt
    have := mbox.isLt
    have := chan.isLt
    omega
  have open_ : ¬ ((s.rd (scrReg c 0x30)).getLsbD 0 = false ∨ ((s.cluster c).msgTail - (s.cluster c).msgHead).toNat = 32) := by
    rintro (h | h)
    · exact Bool.noConfusion (h.symm.trans on)
    · omega
  have written := slotWritten s c (s.fld (scrReg c 0x30) 12 7 * 4096 + 128 * ((s.cluster c).msgTail.toNat % 32)) _ pay small
  rw [ringPush]
  dsimp only
  rw [if_neg open_]
  exact ⟨_, _, rfl, written, (knocked_count ..).trans (knocked_knockCores ..)⟩

/-! ## A message for a host (R153, R166) -/

theorem agentMsg_host {q : Nat} (host : HostAt s m.dst q) (opc : m.opc = opcAGENT_MSG) (noHop : m.hop = false) :
    (agentMsg s none m mbox chan pay).port q = { s.port q with egress := (s.port q).egress ++ [m] } ∧
      (∀ r, r ≠ q → (agentMsg s none m mbox chan pay).port r = s.port r) ∧
      agentMsg s none m mbox chan pay = { s with ports := (agentMsg s none m mbox chan pay).ports } := by
  have present : s.portPresent (m.dst.loc / 2) = true := by
    have carries := host.carries
    rw [State.canCarry, Bool.and_eq_true, Bool.and_eq_true] at carries
    exact host.port ▸ carries.1.1
  have plain : { m with hop := m.hop && s.isFabric q } = m := by
    rw [noHop]
    cases m
    cases noHop
    rfl
  have queued : agentMsg s none m mbox chan pay = s.enqueue q m := by
    rw [agentMsg]
    dsimp only
    rw [if_neg (fun c => c host.here), if_pos host.loc, deliverLocal, if_pos ⟨host.loc, opc⟩, present, if_neg (fun c => Bool.noConfusion c), host.agent,
      if_neg (fun c => Bool.noConfusion c), sendVia, ← host.port, host.carries, if_pos rfl, isReq_response (by rw [opc]; decide), if_neg Bool.false_ne_true]
  rw [queued, State.enqueue, plain]
  exact ⟨State.port_modPort_same .., fun q hq => State.port_modPort_other _ _ hq, rfl⟩

end

end Sys2Proof.Machine

open Sys2Proof Sys2Proof.Machine

/-- Settles O33: one message at a time, taken at once; the sender's port takes the answer whatever the message did to its place. -/
theorem agentMessagesAreDeliveredWhole : Obligations.AgentMessagesAreDeliveredWhole := by
  intro s src tag mbox chan pay p host
  refine ⟨?mailbox, ?full, ?cluster, ?host⟩
  case mailbox =>
    intro f arrives hf room
    rw [← hf] at room
    rw [agentMsg_arrives arrives, agentMsg_mailbox (m := agentMsgOf src s.home tag mbox chan pay) rfl, mboxPush_room room, hf]
    generalize hM : sset fifoD s.evt.mbox mbox.toNat _ = M
    have hostM : HostAt { s with evt := { s.evt with mbox := M } } src p := ⟨host.here, host.agent, host.port, host.carries⟩
    obtain ⟨told, rest⟩ := msgDone_tells (m := agentMsgOf src s.home tag mbox chan pay) (ok := true) hostM
    refine ⟨_, rfl, ⟨told.sent, told.ports⟩, ?_, fun j hj => ?_, ?_⟩
    · rw [rest, ← hM, sget_sset_same]
    · rw [rest, ← hM, sget_sset_other _ _ _ hj]
    · generalize msgDone _ _ _ = t at rest
      rw [rest]
  case full =>
    intro arrives full
    rw [agentMsg_arrives arrives, agentMsg_mailbox (m := agentMsgOf src s.home tag mbox chan pay) rfl, mboxPush_full full]
    have knocked := knocked_setFld s (off := mboxReg mbox.toNat 0x10) (by unfold MessageReg mboxReg evtReg; have := mbox.isLt; omega) 0 1 1
    have bit := State.bit_setFld s (mboxReg mbox.toNat 0x10) 0 1 1 (i := 0) (by decide)
    have frame := State.setFld_frame s (mboxReg mbox.toNat 0x10) 0 1 1
    generalize s.setFld (mboxReg mbox.toNat 0x10) 0 1 1 = u at knocked bit frame
    obtain ⟨told, rest⟩ := msgDone_tells (m := agentMsgOf src s.home tag mbox chan pay) (ok := false) (knocked.hostAt host)
    have told := knocked.told told
    generalize msgDone _ _ _ = t at told rest
    refine ⟨t, rfl, ⟨told.sent, told.ports⟩, ?_, ?_⟩
    · rw [rest]
      exact bit
    · rw [rest, frame]
  case cluster =>
    intro c hc arrives dev present lit still on room short base
    rw [agentMsg_arrives arrives, agentMsg_cluster (m := agentMsgOf src (mkAgent s.devNum (32 + c)) tag mbox chan pay) rfl hc present lit still]
    obtain ⟨C, u, pushed, ring, knocked⟩ := ringPush_takes (src := src) (mbox := mbox) (chan := chan) on room short
    have hostC : HostAt { s with clusters := C } src p := ⟨host.here, host.agent, host.port, host.carries⟩
    rw [show (agentMsgOf src (mkAgent s.devNum (32 + c)) tag mbox chan pay).src = src from rfl, pushed]
    obtain ⟨told, rest⟩ := msgDone_tells (m := agentMsgOf src (mkAgent s.devNum (32 + c)) tag mbox chan pay) (ok := true) (knocked.hostAt hostC)
    have told := knocked.told told
    have ring := ring.knocked knocked
    generalize msgDone _ _ _ = t at told rest
    have clusters (j : Nat) : t.cluster j = u.cluster j := by rw [rest]; rfl
    refine ⟨t, rfl, ⟨told.sent, told.ports⟩, ?_, ?_, ?_, ?_, fun o ho => ?_, fun j hj => ?_, ?_⟩
    · exact clusters c ▸ ring.header
    · exact clusters c ▸ ring.payload
    · exact clusters c ▸ ring.tail
    · exact clusters c ▸ ring.head
    · rw [clusters, ring.bytes o ho]
    · rw [clusters, ring.others j hj]
    · rw [rest]
      exact ring.hbm
  case host =>
    intro dst q there arrives
    rw [agentMsg_arrives arrives]
    exact ⟨_, rfl, agentMsg_host (m := agentMsgOf src dst tag mbox chan pay) there rfl rfl⟩

end

section
/-! PROOF. The controllers' commands (R263–R265, R270): one request, and no command before it that binds a timing rule. -/
namespace Sys2Proof.Machine
open Config

variable {s t u : State} {p q ck : Nat}

/-! ## One pseudo-channel -/

theorem State.pc_setMode (s : State) (p : Nat) : (s.setMode p).pc p = { s.pc p with writeMode := ((s.setMode p).pc p).writeMode } := by
  rw [State.setMode, State.pc_modPc_same]

/-- From s to t only pseudo-channel p has changed, and counters. -/
structure OnPc (s t : State) (p : Nat) : Prop where
  others : ∀ q, q ≠ p → t.pc q = s.pc q
  rest : t = { s with pcs := t.pcs, acc := t.acc }

theorem OnPc.refl (s : State) (p : Nat) : OnPc s s p := ⟨fun _ _ => rfl, rfl⟩

theorem OnPc.trans (h : OnPc s t p) (h' : OnPc t u p) : OnPc s u p :=
  ⟨fun q hq => (h'.others q hq).trans (h.others q hq), by rw [h'.rest, h.rest]⟩

theorem onPc_modPc (s : State) (p : Nat) (f : Pc → Pc) : OnPc s (s.modPc p f) p := ⟨fun _ hq => State.pc_modPc_other s f hq, rfl⟩

theorem onPc_count (s : State) (p g i n : Nat) : OnPc s (s.count g i n) p := ⟨fun _ _ => State.pc_count .., by rw [count_frame]⟩

theorem OnPc.modPc (h : OnPc s t p) (f : Pc → Pc) : OnPc s (t.modPc p f) p := h.trans (onPc_modPc t p f)

theorem OnPc.count (h : OnPc s t p) (g i n : Nat) : OnPc s (t.count g i n) p := h.trans (onPc_count t p g i n)

theorem OnPc.setMode (h : OnPc s t p) : OnPc s (t.setMode p) p := h.modPc _

theorem OnPc.rd (h : OnPc s t p) (x : Nat) : t.rd x = s.rd x := by rw [h.rest]; rfl

theorem OnPc.seqOf (h : OnPc s t p) (q : Nat) : t.seqOf q = s.seqOf q := by rw [h.rest]; rfl

/-- A command of controller p has the effect that the banks see (R265, R272, R274). -/
theorem issueCommand_onPc (s : State) (p : Nat) (c : DramCmd) : OnPc s (issueCommand s p c) p := by
  unfold issueCommand
  dsimp only
  split
  · exact (onPc_modPc ..).count ..
  · exact (onPc_modPc ..).count ..
  · exact (onPc_modPc ..).count ..
  · exact (onPc_modPc ..).count ..
  · exact (onPc_modPc ..).count ..
  · exact onPc_modPc ..

theorem issueCommand_pc (s : State) (p : Nat) (c : DramCmd) : (issueCommand s p c).pc p = bankEffect s p c (s.pc p) := by
  unfold issueCommand
  dsimp only
  split
  all_goals simp only [State.pc_count, State.pc_modPc_same]

/-- What a command never changes: the queues, the training, the walk. -/
theorem bankEffect_frame (s : State) (p : Nat) (c : DramCmd) (x : Pc) : ∃ rows hits raa debt, bankEffect s p c x =
    { x with hist := c :: keepHist c.ck x.hist, now := c.ck, rows := rows, hits := hits, raa := raa, debt := debt } := by
  unfold bankEffect
  dsimp only
  split <;> (try split) <;> exact ⟨_, _, _, _, rfl⟩

theorem bankEffect_hist (s : State) (p : Nat) (c : DramCmd) (x : Pc) : (bankEffect s p c x).hist = c :: keepHist c.ck x.hist := by
  obtain ⟨_, _, _, _, h⟩ := bankEffect_frame s p c x
  rw [h]

theorem bankEffect_act (s : State) (p : Nat) (c : DramCmd) (x : Pc) (act : c.op = .act) :
    (bankEffect s p c x).rows = sset zeroD x.rows (bankKey c.sid c.bank) (c.row + 1) := by
  rw [bankEffect]
  dsimp only
  rw [act]
  dsimp only
  split <;> rfl

theorem bankEffect_pre (s : State) (p : Nat) (c : DramCmd) (x : Pc) (pre : c.op = .pre) :
    (bankEffect s p c x).rows = sset zeroD x.rows (bankKey c.sid c.bank) 0 := by
  rw [bankEffect]
  dsimp only
  rw [pre]

/-! ## One request (R263–R265) -/

section
variable {x : Pc} {c : Cand} {e : RdEntry} {w : WrEntry} {n : DramCmd} {ten : Bool}

theorem requests_read (rdq : x.rdq = [e]) (wrq : x.wrq = []) : requests x = [.read e] := by
  rw [requests, rdInQueue, wrInQueue, rdq, wrq]
  rfl

theorem requests_write (rdq : x.rdq = []) (wrq : x.wrq = [w]) (more : w.cols < 2) : requests x = [.write w] := by
  have queued : takeWr 64 [w] = [w] := rfl
  rw [requests, rdInQueue, wrInQueue, rdq, wrq, queued, List.filter_cons_of_pos]
  · rfl
  · simp [more]

theorem requests_none (rdq : x.rdq = []) (wrq : x.wrq = []) : requests x = [] := by
  rw [requests, rdInQueue, wrInQueue, rdq, wrq]
  rfl

/-- A demand read alone puts its controller into read mode (R263). -/
theorem nextMode_read (s : State) (p : Nat) (rdq : x.rdq = [e]) (wrq : x.wrq = []) (demand : e.src = .demand) : nextMode s p x = false := by
  have queued : takeWr 64 [] = [] := rfl
  rw [nextMode, rdInQueue, wrInQueue, flueCount, rdq, wrq, queued]
  simp [demand]

/-- A write alone puts its controller into write mode (R263). -/
theorem nextMode_write (s : State) (p : Nat) (rdq : x.rdq = []) (wrq : x.wrq = [w]) : nextMode s p x = true := by
  have queued : takeWr 64 [w] = [w] := rfl
  rw [nextMode, rdInQueue, wrInQueue, flueCount, rdq, wrq, queued]
  simp

/-- No bank passes over the one request there is (R265). -/
theorem capHolds_alone : capHolds ten x [c] c = false := by
  rw [capHolds]
  simp only [List.any_cons, List.any_nil, Bool.or_false]
  by_cases h : c.seq + 1 = sget zeroD x.capped (bankKey (hbmLoc ten c.line).sid (hbmLoc ten c.line).bank)
  · simp [h]
  · simp [h]

theorem mem_oldest {f : Cand → Bool} {d : Cand} (h : d ∈ oldestFirst ([c].filter f)) : d = c := by
  rw [oldestFirst, List.mem_insertionSort] at h
  exact List.mem_singleton.1 (List.mem_filter.1 h).1

theorem hitsFirst_alone : hitsFirst ten x [c] = [c] := by
  by_cases h : rowHit ten x c = true
  · simp [hitsFirst, oldestFirst, h]
  · simp [hitsFirst, oldestFirst, h]

/-- The one request, where it is one of the mode of the controller (R263). -/
theorem mode_alone {f g : Cand → Bool} (write : x.writeMode = true → f c = true) (read : x.writeMode = false → g c = true) :
    hitsFirst ten x (if x.writeMode = true then [c].filter f else [c].filter g) = [c] := by
  cases h : x.writeMode
  · rw [if_neg Bool.false_ne_true, List.filter_cons_of_pos (read h)]
    exact hitsFirst_alone
  · rw [if_pos rfl, List.filter_cons_of_pos (write h)]
    exact hitsFirst_alone

/-- Nothing is owed in either refresh mode. -/
theorem refreshes_none {stands : Int → Bool} (debt : x.debt = []) (no : stands 0 = false) : refreshes s p x stands = [] := by
  have zero (k : Nat) : sget intD x.debt k = 0 := by rw [debt]; rfl
  rw [refreshes]
  split
  · simp [zero, no]
  · simp [zero, no]

theorem raaBanks_off (off : s.bit (hbmReg (p / 32) 0) 4 = false) (count : Nat) : raaBanks s p x count = [] := by
  rw [raaBanks, off, if_neg Bool.false_ne_true]

/-- The request is served in the mode of the controller (R263, R264). -/
def InTurn (x : Pc) : Cand → Prop
  | .read e => e.src = .demand ∧ x.writeMode = false
  | .write _ => x.writeMode = true
  | _ => False

/-- The one request comes before everything else that the controller may do (R264). -/
theorem candidates_alone (only : requests x = [c]) (debt : x.debt = []) (off : s.bit (hbmReg (p / 32) 0) 4 = false) (served : InTurn x c) :
    ∃ l m, candidates s p x ck = l ++ c :: m ∧ ∀ d ∈ l, d = c := by
  have due : refreshes s p x (fun d => decide (8 ≤ d)) = [] := refreshes_none debt (by decide)
  have none_ : mandatoryRfm s p x = [] := by rw [mandatoryRfm, raaBanks_off off]; rfl
  rw [candidates]
  dsimp only
  rw [only, due, none_, mode_alone]
  rotate_left
  · exact fun write => by
      cases c with
      | write w => rfl
      | read e => exact absurd (write.symm.trans served.2) Bool.noConfusion
      | _ => exact served.elim
  · exact fun read => by
      cases c with
      | read e => exact beq_iff_eq.2 served.1
      | write w => exact absurd (read.symm.trans served) Bool.noConfusion
      | _ => exact served.elim
  refine ⟨_ ++ _, _, by simp only [List.nil_append, List.append_assoc, List.cons_append]; rfl, fun d hd => ?_⟩
  rcases List.mem_append.1 hd with h | h
  · exact mem_oldest h
  · rw [oldestFirst, List.mem_insertionSort, List.mem_filterMap] at h
    obtain ⟨cls, -, h⟩ := h
    obtain ⟨r, first, h⟩ := Option.bind_eq_some_iff.1 h
    split at h
    · exact Option.some.inj h ▸ mem_oldest (List.mem_of_mem_head? first)
    · exact absurd h (by simp)

theorem findSome_first {α β : Type} {f : α → Option β} {a : α} {b : β} (found : f a = some b) : ∀ {l m : List α}, (∀ d ∈ l, d = a) → (l ++ a :: m).findSome? f = some b
  | [], _, _ => by rw [List.nil_append, List.findSome?_cons, found]
  | d :: _, _, same => by rw [List.cons_append, List.findSome?_cons, same d (List.mem_cons_self ..), found]

/-- The command that the one request asks for is the one that the controller issues. -/
theorem pickCommand_alone (only : requests x = [c]) (debt : x.debt = []) (hist : x.hist = []) (off : s.bit (hbmReg (p / 32) 0) 4 = false)
    (served : InTurn x c) (next : nextCmd s.ten x [c] ck c = some n) (free : actHeld s p c n = false) : pickCommand s p x ck = some (c, n) := by
  obtain ⟨l, m, order, same⟩ := candidates_alone (ck := ck) only debt off served
  have legal_ : legal (s.seqOf p) x false n = true := by
    rw [legal, hist, fourthAct]
    cases n.op <;> rfl
  rw [pickCommand]
  rw [order, only, off]
  refine findSome_first ?_ same
  rw [next, Option.bind_some, legal_, free]
  rfl

end

/-! ## The command of the one request -/

section
variable {c : DramCmd} {e : RdEntry} {w : WrEntry} {cand : Cand}

/-- A request is served with a command that is no column command: the banks see it, and its class is noted (R264). -/
theorem issue_row (row : c.op = .act ∨ c.op = .pre) (demand : e.src = .demand) : OnPc s (issue s p (.read e) c) p ∧
    ∃ l, (issue s p (.read e) c).pc p = { bankEffect s p c (s.pc p) with lastCls := l } := by
  have noted : issue s p (.read e) c = (issueCommand s p c).modPc p fun x =>
      { x with lastCls := if (Cand.read e).cls < 8 then lmod x.lastCls (Cand.read e).cls fun _ => c.ck else x.lastCls } := by
    have other : e.src ≠ .scrub := by rw [demand]; decide
    unfold issue
    rcases row with h | h
    · rw [h]
      exact if_neg other
    · rw [h]
  rw [noted, State.pc_modPc_same, issueCommand_pc]
  exact ⟨(issueCommand_onPc s p c).modPc _, _, rfl⟩

/-- What a row hit leaves as it is (R265). -/
theorem rowHitServed_frame (s : State) (p : Nat) (c : DramCmd) (x : Pc) : ∃ h k, rowHitServed s p c x = { x with hits := h, capped := k } := by
  unfold rowHitServed
  dsimp only
  split
  · exact ⟨_, _, rfl⟩
  · exact ⟨_, _, rfl⟩

/-- What a controller does on a column command before the request takes it (R264, R265). -/
def columned (s : State) (p : Nat) (cand : Cand) (c : DramCmd) : State :=
  let s := (issueCommand s p c).modPc p fun x => { x with lastCls := if cand.cls < 8 then lmod x.lastCls cand.cls fun _ => c.ck else x.lastCls }
  if cand.started then s else s.modPc p (rowHitServed s p c)

theorem columned_onPc (s : State) (p : Nat) (cand : Cand) (c : DramCmd) : OnPc s (columned s p cand c) p := by
  unfold columned
  dsimp only
  split
  · exact (issueCommand_onPc s p c).modPc _
  · exact ((issueCommand_onPc s p c).modPc _).modPc _

theorem columned_pc (s : State) (p : Nat) (cand : Cand) (c : DramCmd) : ∃ l h k, (columned s p cand c).pc p =
    { bankEffect s p c (s.pc p) with lastCls := l, hits := h, capped := k } := by
  unfold columned
  dsimp only
  split
  · rw [State.pc_modPc_same, issueCommand_pc]
    exact ⟨_, _, _, rfl⟩
  · rw [State.pc_modPc_same, State.pc_modPc_same, issueCommand_pc]
    generalize (issueCommand s p c).modPc p _ = u
    obtain ⟨h, k, served⟩ := rowHitServed_frame u p c { bankEffect s p c (s.pc p) with
      lastCls := if cand.cls < 8 then lmod (bankEffect s p c (s.pc p)).lastCls cand.cls fun _ => c.ck else (bankEffect s p c (s.pc p)).lastCls }
    exact ⟨_, h, k, served⟩

theorem issue_rd (rd : c.op = .rd) : issue s p (.read e) c = readColumn (columned s p (.read e) c) p e c.ck := by
  unfold issue
  rw [rd]
  rfl

theorem issue_wr (wr : c.op = .wr) : issue s p (.write w) c = writeColumn (columned s p (.write w) c) p w c.ck := by
  unfold issue
  rw [wr]
  rfl

/-- The first column command of a read (R249). -/
theorem readColumn_first (first : e.cols = 0) (rdq : (s.pc p).rdq = [e]) : OnPc s (readColumn s p e ck) p ∧
    (readColumn s p e ck).pc p = { s.pc p with rdq := [{ e with cols := 1 }] } := by
  rw [readColumn, if_pos first, State.pc_modPc_same, State.pc_count, rdq, List.map_cons, if_pos rfl]
  exact ⟨(onPc_count ..).modPc _, rfl⟩

/-- The second one puts the read on its way, with what the stack holds (R249, R258). -/
theorem readColumn_second (second : e.cols ≠ 0) (rdq : (s.pc p).rdq = [e]) (here : (hbmLoc s.ten e.line).pc = p) (long : tooShort (s.seqOf p) = false)
    (kept : (s.stackSt (p / 32)).lost = false) : OnPc s (readColumn s p e ck) p ∧
    (readColumn s p e ck).pc p = { s.pc p with rdq := [], flight := (s.pc p).flight ++ [⟨e, s.hbmAt e.line, ck + (s.seqOf p).rl + 2⟩] } := by
  have counted := (onPc_count s p (32 + p / 32) 3 1).count (32 + p / 32) 0 1
  rw [readColumn]
  generalize hu : (s.count (32 + p / 32) 3 1).count (32 + p / 32) 0 1 = u at counted
  have pc : u.pc p = s.pc p := by rw [← hu, State.pc_count, State.pc_count]
  have driven : dramLine u e.line = (u, s.hbmAt e.line) := by
    have ten : u.ten = s.ten := by rw [counted.rest]; rfl
    have held : u.hbmAt e.line = s.hbmAt e.line := by rw [counted.rest]; rfl
    have stack : u.stackSt (p / 32) = s.stackSt (p / 32) := by rw [counted.rest]; rfl
    rw [dramLine, ten, here, counted.seqOf, stack, long, kept, held]
    rfl
  rw [if_neg second, driven]
  dsimp only
  rw [State.pc_modPc_same, pc, rdq, counted.seqOf, List.filter_cons_of_neg (by simp)]
  exact ⟨counted.modPc _, rfl⟩

/-- A column command of a write (R249). -/
theorem writeColumn_drives (wrq : (s.pc p).wrq = [w]) : OnPc s (writeColumn s p w ck) p ∧
    (writeColumn s p w ck).pc p = { s.pc p with wrq := [{ w with cols := w.cols + 1, due := ck + (s.seqOf p).wl + 2 }] } := by
  have counted : ∃ u, (if w.cols = 0 then s.count (32 + p / 32) 3 1 else (s.count (32 + p / 32) 3 1).count (32 + p / 32) 1 1) = u ∧ OnPc s u p ∧ u.pc p = s.pc p := by
    refine ⟨_, rfl, ?_⟩
    split
    · exact ⟨onPc_count .., State.pc_count ..⟩
    · exact ⟨(onPc_count ..).count .., by rw [State.pc_count, State.pc_count]⟩
  obtain ⟨u, hu, onPc, pc⟩ := counted
  rw [writeColumn, hu]
  dsimp only
  rw [State.pc_modPc_same, pc, wrq, onPc.seqOf, List.map_cons, if_pos rfl]
  exact ⟨onPc.modPc _, rfl⟩

end

/-! ## The scheduler (R264) -/

/-- The controller at its clock, before it picks a command. -/
def clocked (s : State) (p ck : Nat) : State := (s.modPc p fun x => { x with now := ck }).setMode p

theorem clocked_onPc (s : State) (p ck : Nat) : OnPc s (clocked s p ck) p := (onPc_modPc ..).setMode

theorem clocked_pc (s : State) (p ck : Nat) : (clocked s p ck).pc p =
    { s.pc p with now := ck, writeMode := nextMode (s.modPc p fun x => { x with now := ck }) p { s.pc p with now := ck } } := by
  rw [clocked, State.setMode, State.pc_modPc_same, State.pc_modPc_same]

theorem foldl_congr {α β : Type} {f g : β → α → β} (same : ∀ b a, f b a = g b a) (l : List α) (b : β) : l.foldl f b = l.foldl g b := by
  rw [show f = g from funext fun b => funext fun a => same b a]

/-- The clock changes nothing of what the grant's limit counts (R464). -/
theorem clocked_rateHeld (s : State) (p ck at_ : Nat) : rateHeld (clocked s p ck) (pcDomain p) (halfActs (clocked s p ck) p at_) =
    rateHeld s (pcDomain p) (halfActs s p at_) := by
  have same (q : Nat) : ((clocked s p ck).pc q).hist = (s.pc q).hist ∧ ((clocked s p ck).pc q).scrubActs = (s.pc q).scrubActs := by
    by_cases h : q = p
    · rw [h, clocked_pc]
      exact ⟨rfl, rfl⟩
    · rw [(clocked_onPc s p ck).others q h]
      exact ⟨rfl, rfl⟩
  have acts : halfActs (clocked s p ck) p at_ = halfActs s p at_ := foldl_congr (fun n i => by dsimp only; rw [(same _).1, (same _).2]) _ _
  have rest := (clocked_onPc s p ck).rest
  rw [acts]
  generalize halfActs s p at_ = n
  generalize clocked s p ck = u at rest
  rw [rest]
  rfl

theorem actHeld_act {e : RdEntry} {c : DramCmd} (act : c.op = .act) :
    actHeld s p (.read e) c = (e.src != .scrub && rateHeld s (pcDomain p) (halfActs s p c.ck)) := by
  unfold actHeld
  rw [act]

theorem actHeld_other {cand : Cand} {c : DramCmd} (other : c.op ≠ .act) : actHeld s p cand c = false := by
  unfold actHeld
  split
  · next _ act => exact absurd act other
  · rfl

/-- The controller with one request issues the command that it asks for, and the queues' mode follows. -/
structure Schedules (s t : State) (p ck : Nat) (cand : Cand) (c : DramCmd) : Prop where
  run : exec (.hbmScheduleCommand p ck) s = .next t
  issued : t = (issue (clocked s p ck) p cand c).setMode p

theorem Schedules.onPc {cand : Cand} {c : DramCmd} (h : Schedules s t p ck cand c) (issued : OnPc (clocked s p ck) (issue (clocked s p ck) p cand c) p) :
    (∀ q, q ≠ p → t.pc q = s.pc q) ∧ t = { s with pcs := t.pcs, acc := t.acc } := by
  obtain ⟨others, rest⟩ := ((clocked_onPc s p ck).trans issued).setMode
  rw [← h.issued] at others rest
  exact ⟨others, rest⟩

theorem Schedules.pc {cand : Cand} {c : DramCmd} {x : Pc} (h : Schedules s t p ck cand c) (issued : (issue (clocked s p ck) p cand c).pc p = x) :
    t.pc p = { x with writeMode := (t.pc p).writeMode } := by
  rw [h.issued, State.pc_setMode, issued]

theorem schedules (hp : p < nPcs) (ready : pcReady s p = true) (now : (s.pc p).now ≤ ck) (must : mustRetrain s p = false) {cand : Cand} {c : DramCmd}
    (pick : pickCommand (clocked s p ck) p ((clocked s p ck).pc p) ck = some (cand, c)) : ∃ t, Schedules s t p ck cand c := by
  refine ⟨_, ?_, rfl⟩
  have go : ¬ (pcReady s p = false ∨ ck < (s.pc p).now ∨ mustRetrain s p = true) := by
    rw [ready, must]
    simp only [Bool.true_eq_false, Bool.false_eq_true, false_or, or_false]
    omega
  change onUnit nPcs p (schedule s p ck) = _
  rw [onUnit_next hp, schedule, if_neg go]
  change Host.Outcome.next (match pickCommand (clocked s p ck) p ((clocked s p ck).pc p) ck with | some (cand, c) => (issue (clocked s p ck) p cand c).setMode p | none => clocked s p ck) = _
  rw [pick]

end Sys2Proof.Machine

open Sys2Proof Sys2Proof.Machine

/-- Settles O38: with one request, no history and no debt, every segment of R264's order before the request's own holds that request
or nothing, so its command is the one picked. -/
theorem controllersIssueTheCommandOfTheirRequest : Obligations.ControllersIssueTheCommandOfTheirRequest := by
  intro s p ck l hp ready now hist debt off must only
  have clock := clocked_onPc s p ck
  have before := clocked_pc s p ck
  have histC : ((clocked s p ck).pc p).hist = [] := by rw [before]; exact hist
  have debtC : ((clocked s p ck).pc p).debt = [] := by rw [before]; exact debt
  have offC : (clocked s p ck).bit (hbmReg (p / 32) 0) 4 = false := by rw [State.bit, clock.rd]; exact off
  have tenC : (clocked s p ck).ten = s.ten := by rw [clock.rest]; rfl
  have row (sid bank : Nat) : openRow ((clocked s p ck).pc p) sid bank = openRow (s.pc p) sid bank := by rw [before]; rfl
  have effect (c : DramCmd) : ∃ rows hits raa debt, bankEffect (clocked s p ck) p c ((clocked s p ck).pc p) =
      { (clocked s p ck).pc p with hist := [c], now := c.ck, rows := rows, hits := hits, raa := raa, debt := debt } := by
    obtain ⟨rows, hits, raa, debt, h⟩ := bankEffect_frame (clocked s p ck) p c ((clocked s p ck).pc p)
    rw [histC] at h
    exact ⟨rows, hits, raa, debt, h⟩
  refine ⟨fun e rdq wrq demand hl => ?_, fun w rdq wrq more hl hit => ?_⟩
  · rw [nextMode_read (x := { s.pc p with now := ck }) _ p rdq wrq demand] at before
    have rdqC : ((clocked s p ck).pc p).rdq = [e] := by rw [before]; exact rdq
    have alone : requests ((clocked s p ck).pc p) = [.read e] := by rw [before]; exact requests_read rdq wrq
    have mode : ((clocked s p ck).pc p).writeMode = false := by rw [before]
    have pick {c : DramCmd} (next : nextCmd s.ten ((clocked s p ck).pc p) [.read e] ck (.read e) = some c)
        (free : actHeld (clocked s p ck) p (.read e) c = false) := schedules hp ready now must
      (pickCommand_alone alone debtC histC offC ⟨demand, mode⟩ (tenC ▸ next) free)
    refine ⟨fun closed share => ?_, fun opened other => ?_, fun hit here long kept => ?_⟩
    · have next : nextCmd s.ten ((clocked s p ck).pc p) [.read e] ck (.read e) = some ⟨ck, .act, l.sid, l.bank, l.row, 0⟩ := by
        rw [nextCmd, capHolds_alone, if_neg Bool.false_ne_true, ← hl, row, if_pos closed]
      obtain ⟨t, h⟩ := pick next (by rw [actHeld_act rfl, clocked_rateHeld, share, Bool.and_false])
      obtain ⟨onPc, y, pc⟩ := issue_row (s := clocked s p ck) (p := p) (c := ⟨ck, .act, l.sid, l.bank, l.row, 0⟩) (Or.inl rfl) demand
      have rows := bankEffect_act (clocked s p ck) p ⟨ck, .act, l.sid, l.bank, l.row, 0⟩ ((clocked s p ck).pc p) rfl
      have after := h.pc pc
      obtain ⟨_, _, _, _, seen⟩ := effect ⟨ck, .act, l.sid, l.bank, l.row, 0⟩
      refine ⟨t, h.run, h.onPc onPc, ?_, ?_, ?_, ?_⟩
      · rw [after, seen]
      · rw [after, openRow]
        dsimp only
        rw [rows]
        exact sget_sset_same ..
      · rw [after, seen]
        exact rdqC
      · rw [after, seen]
    · have next : nextCmd s.ten ((clocked s p ck).pc p) [.read e] ck (.read e) = some ⟨ck, .pre, l.sid, l.bank, 0, 0⟩ := by
        rw [nextCmd, capHolds_alone, if_neg Bool.false_ne_true, ← hl, row, if_neg opened, if_neg other]
      obtain ⟨t, h⟩ := pick next (actHeld_other (fun c => DramOp.noConfusion c))
      obtain ⟨onPc, y, pc⟩ := issue_row (s := clocked s p ck) (p := p) (c := ⟨ck, .pre, l.sid, l.bank, 0, 0⟩) (Or.inr rfl) demand
      have rows := bankEffect_pre (clocked s p ck) p ⟨ck, .pre, l.sid, l.bank, 0, 0⟩ ((clocked s p ck).pc p) rfl
      have after := h.pc pc
      obtain ⟨_, _, _, _, seen⟩ := effect ⟨ck, .pre, l.sid, l.bank, 0, 0⟩
      refine ⟨t, h.run, h.onPc onPc, ?_, ?_, ?_⟩
      · rw [after, seen]
      · rw [after, openRow]
        dsimp only
        rw [rows]
        exact sget_sset_same ..
      · rw [after, seen]
        exact rdqC
    · have next : nextCmd s.ten ((clocked s p ck).pc p) [.read e] ck (.read e) = some ⟨ck, .rd, l.sid, l.bank, l.row, 2 * l.col + e.cols⟩ := by
        rw [nextCmd, capHolds_alone, if_neg Bool.false_ne_true, ← hl, row, if_neg (by omega), if_pos hit]
      obtain ⟨t, h⟩ := pick next (actHeld_other (fun c => DramOp.noConfusion c))
      obtain ⟨_, _, _, seen⟩ := columned_pc (clocked s p ck) p (.read e) ⟨ck, .rd, l.sid, l.bank, l.row, 2 * l.col + e.cols⟩
      obtain ⟨_, _, _, _, effect⟩ := effect ⟨ck, .rd, l.sid, l.bank, l.row, 2 * l.col + e.cols⟩
      rw [effect] at seen
      have columned_ := columned_onPc (clocked s p ck) p (.read e) ⟨ck, .rd, l.sid, l.bank, l.row, 2 * l.col + e.cols⟩
      have issued := issue_rd (s := clocked s p ck) (p := p) (e := e) (c := ⟨ck, .rd, l.sid, l.bank, l.row, 2 * l.col + e.cols⟩) rfl
      generalize columned (clocked s p ck) p _ _ = u at seen columned_ issued
      have rdqU : (u.pc p).rdq = [e] := by rw [seen]; exact rdqC
      have all := clock.trans columned_
      by_cases first : e.cols = 0
      · obtain ⟨onPc, column⟩ := readColumn_first (ck := ck) first rdqU
        have after := h.pc (issued ▸ column)
        refine ⟨t, h.run, h.onPc (issued ▸ columned_.trans onPc), ?_, fun _ => ⟨?_, ?_⟩, fun second => absurd first second⟩
        · rw [after, seen]
        · rw [after]
        · rw [after, seen, before]
      · obtain ⟨onPc, column⟩ := readColumn_second (ck := ck) first rdqU (by rw [all.rest]; exact hl ▸ here) (by rw [all.seqOf]; exact long)
          (by rw [all.rest]; exact kept)
        have after := h.pc (issued ▸ column)
        refine ⟨t, h.run, h.onPc (issued ▸ columned_.trans onPc), ?_, fun none_ => absurd none_ first, fun _ => ⟨?_, ?_⟩⟩
        · rw [after, seen]
        · rw [after]
        · have line : u.hbmAt e.line = s.hbmAt e.line := by rw [all.rest]; rfl
          have flight : (u.pc p).flight = (s.pc p).flight := by rw [seen, before]
          rw [after]
          dsimp only
          rw [line, all.seqOf, flight]
  · rw [nextMode_write (x := { s.pc p with now := ck }) _ p rdq wrq] at before
    have wrqC : ((clocked s p ck).pc p).wrq = [w] := by rw [before]; exact wrq
    have alone : requests ((clocked s p ck).pc p) = [.write w] := by rw [before]; exact requests_write rdq wrq more
    have mode : ((clocked s p ck).pc p).writeMode = true := by rw [before]
    have next : nextCmd s.ten ((clocked s p ck).pc p) [.write w] ck (.write w) = some ⟨ck, .wr, l.sid, l.bank, l.row, 2 * l.col + w.cols⟩ := by
      rw [nextCmd, capHolds_alone, if_neg Bool.false_ne_true, ← hl, row, if_neg (by omega), if_pos hit]
    obtain ⟨t, h⟩ := schedules hp ready now must
      (pickCommand_alone alone debtC histC offC (c := .write w) mode (tenC ▸ next) (actHeld_other (fun c => DramOp.noConfusion c)))
    obtain ⟨_, _, _, seen⟩ := columned_pc (clocked s p ck) p (.write w) ⟨ck, .wr, l.sid, l.bank, l.row, 2 * l.col + w.cols⟩
    obtain ⟨_, _, _, _, effect⟩ := effect ⟨ck, .wr, l.sid, l.bank, l.row, 2 * l.col + w.cols⟩
    rw [effect] at seen
    have columned_ := columned_onPc (clocked s p ck) p (.write w) ⟨ck, .wr, l.sid, l.bank, l.row, 2 * l.col + w.cols⟩
    have issued := issue_wr (s := clocked s p ck) (p := p) (w := w) (c := ⟨ck, .wr, l.sid, l.bank, l.row, 2 * l.col + w.cols⟩) rfl
    generalize columned (clocked s p ck) p _ _ = u at seen columned_ issued
    have wrqU : (u.pc p).wrq = [w] := by rw [seen]; exact wrqC
    obtain ⟨onPc, column⟩ := writeColumn_drives (ck := ck) wrqU
    have after := h.pc (issued ▸ column)
    refine ⟨t, h.run, h.onPc (issued ▸ columned_.trans onPc), ?_, ?_⟩
    · rw [after, seen]
    · rw [after]
      dsimp only
      rw [(clock.trans columned_).seqOf]

end

section
/-! PROOF. What leaves the controllers' queues (R253–R258): writes that the stack holds, reads that come back. -/
namespace Sys2Proof.Machine
open Config

variable {s t u : State} {p q ck i line : Nat}

/-! ## A write entry retires (R258) -/

theorem drainAll_none (none_ : ∀ i, (s.slice i).outWr = []) : drainAll s = s :=
  foldl_same fun i _ => by rw [drainSlice, none_ i, List.foldl_nil]

/-! ## The decoder's report (R255–R257, R281, R282) -/

/-- From s to t the reads of the stacks have left their traces alone: the queues, the log registers, what has woken. -/
structure ReadNoted (s t : State) : Prop where
  slices : t.slices = s.slices
  hbm : t.hbm = s.hbm
  ports : t.ports = s.ports
  cores : t.cores = s.cores
  boot : t.boot = s.boot
  regs : ∀ x, x < 0x400000 → t.rd x = s.rd x
  sticky : ∀ k j, s.bit (hbmReg k 0x30) j = true → t.bit (hbmReg k 0x30) j = true

theorem ReadNoted.refl (s : State) : ReadNoted s s := ⟨rfl, rfl, rfl, rfl, rfl, fun _ _ => rfl, fun _ _ h => h⟩

theorem ReadNoted.trans (h : ReadNoted s t) (h' : ReadNoted t u) : ReadNoted s u :=
  ⟨h'.slices.trans h.slices, h'.hbm.trans h.hbm, h'.ports.trans h.ports, h'.cores.trans h.cores, h'.boot.trans h.boot,
    fun x hx => (h'.regs x hx).trans (h.regs x hx), fun k j set => h'.sticky k j (h.sticky k j set)⟩

theorem readNoted_modPc (s : State) (p : Nat) (f : Pc → Pc) : ReadNoted s (s.modPc p f) := ⟨rfl, rfl, rfl, rfl, rfl, fun _ _ => rfl, fun _ _ h => h⟩

theorem readNoted_count (s : State) (g i n : Nat) : ReadNoted s (s.count g i n) := by
  rw [count_frame]
  exact ⟨rfl, rfl, rfl, rfl, rfl, fun _ _ => rfl, fun _ _ h => h⟩

theorem readNoted_wake (s : State) (d : Nat) : ReadNoted s (s.wake d) := by
  rw [State.wake_frame]
  exact ⟨rfl, rfl, rfl, rfl, rfl, fun _ _ => rfl, fun _ _ h => h⟩

theorem readNoted_wr (s : State) {k x : Nat} (high : 0x30 < x) (low : x < 0x10000) (v : Word) : ReadNoted s (s.wr (hbmReg k x) v) := by
  have other {y : Nat} (hy : y ≠ hbmReg k x) : (s.wr (hbmReg k x) v).rd y = s.rd y := State.rd_wr_other _ _ hy
  have frame := State.wr_frame s (hbmReg k x) v
  generalize s.wr (hbmReg k x) v = t at other frame
  exact ⟨by rw [frame], by rw [frame], by rw [frame], by rw [frame], by rw [frame], fun y hy => other (by unfold hbmReg; omega),
    fun j i set => by rw [State.bit, other (by unfold hbmReg; omega)]; exact set⟩

theorem setErr_sticky (s : State) (off i source : Nat) (info : Word) (j : Nat) (set : s.bit off j = true) : (s.setErr off i source info).bit off j = true := by
  rw [State.setErr]
  split
  · exact set
  · by_cases far : j < 32
    · refine (State.bit_setFld s off i 1 1 far).trans ?_
      split
      · next h => rw [show j - i = 0 by omega]; rfl
      · exact set
    · exact absurd (BitVec.lt_of_getLsbD set) far

theorem readNoted_setErr (s : State) (k i source : Nat) (info : Word) : ReadNoted s (s.setErr (hbmReg k 0x30) i source info) := by
  obtain ⟨frame, other⟩ := setErr_frame s (hbmReg k 0x30) i source info
  have sticky := setErr_sticky s (hbmReg k 0x30) i source info
  generalize s.setErr (hbmReg k 0x30) i source info = t at frame other sticky
  refine ⟨by rw [frame], by rw [frame], by rw [frame], by rw [frame], by rw [frame], fun y hy => other y (by unfold hbmReg; omega), fun j b set => ?_⟩
  by_cases h : j = k
  · exact h ▸ sticky b (h ▸ set)
  · rw [State.bit, other _ (by unfold hbmReg; omega)]
    exact set

theorem readNoted_hbmPut (s : State) (line : Nat) (d : LineData) (bad : Bool) (cls : Nat) (flue : Bool) : ReadNoted s (hbmPut s line d bad cls flue) :=
  (readNoted_wake s _).trans ((readNoted_modPc ..).trans (readNoted_modPc ..))

theorem readNoted_writeBack (s : State) (line : Nat) (d : LineData) (bad wrote : Bool) : ReadNoted s (writeBack s line d bad wrote) := by
  unfold writeBack
  split
  · exact readNoted_hbmPut ..
  · exact .refl s

theorem readNoted_addCandidate (s : State) (l : DramLoc) : ReadNoted s (addCandidate s l) := by
  unfold addCandidate
  split
  · exact readNoted_modPc ..
  · exact .refl s

theorem readNoted_rowError (s : State) (l : DramLoc) : ReadNoted s (rowError s l) := by
  have later (u : State) (b : Bool) : ReadNoted u (if b = true then addCandidate u l else u) := by
    split
    · exact readNoted_addCandidate ..
    · exact .refl u
  unfold rowError
  exact (readNoted_modPc ..).trans (later ..)

/-- A corrected error sets CE of its stack (R255, R290). -/
theorem readNoted_report (s : State) (line source : Nat) {o : Decoded} (ce : o.rep = .ce) : ReadNoted s (hbmReport s line source o) ∧
    (hbmReport s line source o).bit (hbmReg ((hbmLoc s.ten line).pc / 32) 0x30) 0 = true := by
  unfold hbmReport
  rw [ce]
  dsimp only
  rw [if_neg (by decide)]
  have set := setErr_sets s (hbmReg ((hbmLoc s.ten line).pc / 32) 0x30) 0 (0x40 + (hbmLoc s.ten line).pc / 32)
  have later (u : State) (a b c : Nat) (x y z : Word) : ReadNoted u ((((u.count a b c).wr (hbmReg ((hbmLoc s.ten line).pc / 32) 0x34) x).wr
      (hbmReg ((hbmLoc s.ten line).pc / 32) 0x38) y).wr (hbmReg ((hbmLoc s.ten line).pc / 32) 0x3C) z) :=
    (readNoted_count u a b c).trans ((readNoted_wr _ (by decide) (by decide) x).trans ((readNoted_wr _ (by decide) (by decide) y).trans
      (readNoted_wr _ (by decide) (by decide) z)))
  exact ⟨(readNoted_setErr ..).trans (later ..), (later ..).sticky _ _ (set _ (by decide))⟩

theorem readNoted_afterRead (s : State) (line source : Nat) (wrote : Bool) {o : Decoded} (ce : o.rep = .ce) : ReadNoted s (afterRead s line source wrote o) ∧
    (afterRead s line source wrote o).bit (hbmReg ((hbmLoc s.ten line).pc / 32) 0x30) 0 = true := by
  obtain ⟨reported, set⟩ := readNoted_report s line source ce
  have later (u : State) (b : Bool) : ReadNoted u (rowError (if b = true then writeBack u line o.data false wrote else u) (hbmLoc s.ten line)) := by
    refine .trans ?_ (readNoted_rowError ..)
    split
    · exact readNoted_writeBack ..
    · exact .refl u
  unfold afterRead
  rw [ce]
  exact ⟨reported.trans (later ..), (later ..).sticky _ _ set⟩

theorem ReadNoted.sliceOf (h : ReadNoted s t) (line : Nat) : t.sliceOf line = s.sliceOf line := by
  rw [State.sliceOf, State.sliceOf, State.linePA, State.linePA, State.fld, State.fld, h.regs _ (by unfold bootReg; omega), State.ten, State.ten, State.devId,
    State.devId, h.boot]

/-- The line goes back to its slice as it was decoded. -/
theorem ReadNoted.returns (h : ReadNoted s t) (line : Nat) (d : LineData) :
    ((returnLine t line d false false).slice (s.sliceOf line)).ret = (s.slice (s.sliceOf line)).ret ++ [⟨line, d, false, false⟩] ∧
      ∀ j, j ≠ s.sliceOf line → (returnLine t line d false false).slice j = s.slice j := by
  have slice (j : Nat) : t.slice j = s.slice j := by rw [State.slice, State.slice, h.slices]
  rw [returnLine, h.sliceOf]
  exact ⟨by rw [State.slice_modSlice_same, slice], fun j hj => by rw [State.slice_modSlice_other _ _ hj, slice]⟩

/-! ## The decoder (R254, R255) -/

theorem decodeLine_clean (s : State) (d : LineData) : decodeLine s d false [] = (s, ⟨d, false, .none, []⟩) := by
  have none_ : badSyms [] = [] := by decide
  rw [decodeLine, none_]
  rfl

theorem decodeLine_corrected (s : State) (d : LineData) {errs : List SymErr} (bad : badSyms errs ≠ []) (few : (badSyms errs).length ≤ 2) :
    decodeLine s d false errs = (s, ⟨d, false, .ce, badSyms errs⟩) := by
  have some_ : (badSyms errs).length ≠ 0 := fun c => bad (List.length_eq_zero_iff.1 c)
  rw [decodeLine]
  dsimp only
  rw [if_neg some_, if_pos few, if_neg Bool.false_ne_true]

theorem afterRead_clean (s : State) (line source : Nat) (wrote : Bool) (d : LineData) : afterRead s line source wrote ⟨d, false, .none, []⟩ = s := rfl

/-! ## What the two commands do -/

/-- The oldest read in flight, once its data is in (R255). -/
theorem hbmReadDecode_first {f : Flight} {l : List Flight} {o : Decoded} (hp : p < nPcs) (flight : (s.pc p).flight = f :: l) (due : f.due ≤ ck)
    (demand : f.rd.src = .demand) (kept : f.rd.drop = false) {noise : List SymErr}
    (decoded : ∀ u, decodeLine u f.stored.data f.stored.poison (f.stored.errs ++ noise) = (u, o)) :
    exec (.hbmReadDecode ⟨p, ck⟩ noise) s = .next (returnLine (afterRead (s.modPc p fun x => { x with flight := l }) f.rd.line 0 f.rd.wrote o)
      f.rd.line o.data o.poison false) := by
  have away : ¬ (f.rd.src = .scrub ∨ f.rd.drop = true) := by
    rw [demand, kept]
    rintro (h | h)
    · exact RdSrc.noConfusion h
    · exact Bool.noConfusion h
  change execHbmReadDecode ⟨p, ck⟩ noise s = _
  rw [execHbmReadDecode]
  dsimp only
  rw [onUnit_next hp, flight]
  dsimp only
  rw [if_neg (by omega), decoded]
  dsimp only
  rw [if_neg away, demand]
  rfl

/-- The oldest write whose data has been driven (R258). -/
theorem writeEntryRetire_first {e : WrEntry} {l : List WrEntry} (hp : p < nPcs) (wrq : (s.pc p).wrq = e :: l) (done : 2 ≤ e.cols) (due : e.due ≤ ck)
    (long : tooShort (s.seqOf (hbmLoc s.ten e.line).pc) = false) (none_ : ∀ i, (s.slice i).outWr = []) :
    exec (.writeEntryRetire ⟨p, ck⟩) s = .next (((s.setHbm e.line { data := e.data, poison := e.poison, errs := [] }).modPc p fun x =>
      { x with wrq := eraseFirst (fun f => f.seq == e.seq) x.wrq }).setMode p) := by
  have found : (s.pc p).wrq.find? (fun e => decide (2 ≤ e.cols) && decide (e.due ≤ ck)) = some e := by
    rw [wrq, List.find?_cons_of_pos (by rw [decide_eq_true done, decide_eq_true due]; rfl)]
  have stored : dramStore s e.line e.data e.poison = s.setHbm e.line { data := e.data, poison := e.poison, errs := [] } := by
    rw [dramStore, long, if_neg Bool.false_ne_true]
  change execWriteEntryRetire ⟨p, ck⟩ s = _
  rw [execWriteEntryRetire]
  dsimp only
  rw [onUnit_next hp, found]
  refine congrArg Host.Outcome.next ?_
  dsimp only
  rw [stored]
  exact drainAll_none none_

end Sys2Proof.Machine

open Sys2Proof Sys2Proof.Machine

/-- Settles O39: no line waits for a queue when the write retires, and the slice of a read is found by what its report leaves alone. -/
theorem stacksHoldAndGiveBackTheirLines : Obligations.StacksHoldAndGiveBackTheirLines := by
  refine ⟨?retires, ?returns⟩
  case retires =>
    intro s p ck e l hp wrq done due long none_
    have onPc : OnPc (s.setHbm e.line { data := e.data, poison := e.poison, errs := [] }) (((s.setHbm e.line { data := e.data, poison := e.poison, errs := [] }).modPc p
      fun x => { x with wrq := eraseFirst (fun f => f.seq == e.seq) x.wrq }).setMode p) p := (onPc_modPc ..).setMode
    refine ⟨_, writeEntryRetire_first hp wrq done due long none_, sget_sset_same .., fun n hn => sget_sset_other _ _ _ hn, ?_, onPc.others, rfl⟩
    rw [State.pc_setMode, State.pc_modPc_same]
    rw [show (s.setHbm e.line { data := e.data, poison := e.poison, errs := [] }).pc p = s.pc p from rfl, wrq]
    rw [eraseFirst, if_pos (beq_self_eq_true e.seq)]
  case returns =>
    intro s p ck i f l hp flight due sound demand kept hi back
    have taken := readNoted_modPc s p fun x => { x with flight := l }
    refine ⟨fun clean => ?_, fun noise bad few => ?_⟩
    · have run := hbmReadDecode_first (noise := []) hp flight due demand kept (o := ⟨f.stored.data, false, .none, []⟩) fun u => by
        rw [sound, clean]
        exact decodeLine_clean u _
      rw [afterRead_clean] at run
      obtain ⟨ret, others⟩ := taken.returns f.rd.line f.stored.data
      refine ⟨_, run, ⟨hi ▸ ret, hi ▸ others, rfl, rfl, rfl⟩, ?_, rfl⟩
      exact State.pc_modPc_same s p fun x => { x with flight := l }
    · have run := hbmReadDecode_first (noise := noise) hp flight due demand kept (o := ⟨f.stored.data, false, .ce, badSyms (f.stored.errs ++ noise)⟩) fun u => by
        rw [sound]
        exact decodeLine_corrected u _ bad few
      obtain ⟨noted, set⟩ := readNoted_afterRead (s.modPc p fun x => { x with flight := l }) f.rd.line 0 f.rd.wrote
        (o := ⟨f.stored.data, false, .ce, badSyms (f.stored.errs ++ noise)⟩) rfl
      have noted := taken.trans noted
      generalize afterRead (s.modPc p fun x => { x with flight := l }) _ _ _ _ = u at run noted set
      obtain ⟨ret, others⟩ := noted.returns f.rd.line f.stored.data
      exact ⟨_, run, ⟨hi ▸ ret, hi ▸ others, noted.hbm, noted.ports, noted.cores⟩, set⟩

end

section
/-! PROOF. The upkeep of the stacks (R265, R269, R271, R278–R283): refreshes, idle rows, retraining, scrub, repair, RELOAD. -/
namespace Sys2Proof.Machine
open Config

variable {s t u : State} {p q ck k line : Nat}

theorem stackSt_modStack_same (s : State) (k : Nat) (f : Stack → Stack) : (s.modStack k f).stackSt k = f (s.stackSt k) := by
  simp [State.modStack, State.stackSt]

theorem stackSt_modStack_other (s : State) {j k : Nat} (f : Stack → Stack) (h : j ≠ k) : (s.modStack k f).stackSt j = s.stackSt j := by
  simp [State.modStack, State.stackSt, sget_smod_other _ _ _ h]

/-! ## Refresh and idle rows (R265, R271) -/

theorem refreshDue_owes {sid bank : Nat} (hp : p < nPcs) (ready : pcReady s p = true) (hs : sid < s.nSid) (hb : bank < 16)
    (due : sget zeroD (s.pc p).refAt (refKey s p sid bank) + effRefi s p ≤ ck) :
    exec (.refreshDue ⟨p, ck⟩ sid bank) s = .next (s.modPc p fun x =>
      { x with debt := smod intD x.debt (refKey s p sid bank) (· + 1), refAt := sset zeroD x.refAt (refKey s p sid bank) ck }) := by
  change execRefreshDue ⟨p, ck⟩ sid bank s = _
  rw [execRefreshDue]
  dsimp only
  rw [onUnit_next hp, if_pos ⟨ready, hs, hb, due⟩]

/-- A bank that no request hits closes once its row has been idle (R265). -/
theorem rowIdleClose_closes {sid bank : Nat} (hp : p < nPcs) (ready : pcReady s p = true) (opened : openRow (s.pc p) sid bank ≠ 0)
    (rdq : (s.pc p).rdq = []) (wrq : (s.pc p).wrq = []) (hist : (s.pc p).hist = []) (now : (s.pc p).now ≤ ck)
    (idle : s.fld (hbmReg (p / 32) 0x10) 24 8 * 12 ≤ ck * 5) :
    exec (.rowIdleClose p sid bank ck) s = .next (s.modPc p (bankEffect s p ⟨ck, .pre, sid, bank, 0, 0⟩)) := by
  have last : lastColumn (s.pc p) sid bank = 0 := by rw [lastColumn, hist]; rfl
  have legal_ : legal (s.seqOf p) (s.pc p) false ⟨ck, .pre, sid, bank, 0, 0⟩ = true := by rw [legal, hist]; rfl
  change execRowIdleClose p sid bank ck s = _
  rw [execRowIdleClose]
  dsimp only
  rw [onUnit_next hp, requests_none rdq wrq, last, legal_, if_pos ⟨ready, now, opened, rfl, idle, rfl⟩]
  rfl

/-! ## Commands that a controller issues by itself (R270) -/

/-- From one controller's state to another there are only commands. -/
def Commanded (x y : Pc) : Prop := ∃ hist now rows hits raa debt, y = { x with hist := hist, now := now, rows := rows, hits := hits, raa := raa, debt := debt }

theorem Commanded.refl (x : Pc) : Commanded x x := ⟨_, _, _, _, _, _, rfl⟩

theorem Commanded.trans {x y z : Pc} (h : Commanded x y) (h' : Commanded y z) : Commanded x z := by
  obtain ⟨_, _, _, _, _, _, rfl⟩ := h
  obtain ⟨_, _, _, _, _, _, rfl⟩ := h'
  exact ⟨_, _, _, _, _, _, rfl⟩

/-- Commands have been issued at one pseudo-channel. -/
structure Issued (s t : State) (p : Nat) : Prop where
  onPc : OnPc s t p
  commanded : Commanded (s.pc p) (t.pc p)

theorem Issued.refl (s : State) (p : Nat) : Issued s s p := ⟨.refl s p, .refl _⟩

theorem Issued.trans (h : Issued s t p) (h' : Issued t u p) : Issued s u p := ⟨h.onPc.trans h'.onPc, h.commanded.trans h'.commanded⟩

theorem issued_count (s : State) (p g i n : Nat) : Issued s (s.count g i n) p := ⟨onPc_count .., by rw [State.pc_count]; exact .refl _⟩

theorem issued_issueSoon (s : State) (p : Nat) (op : DramOp) (sid bank : Nat) : Issued s (issueSoon s p op sid bank) p := by
  rw [issueSoon]
  refine ⟨issueCommand_onPc .., ?_⟩
  rw [issueCommand_pc]
  obtain ⟨_, _, _, _, h⟩ := bankEffect_frame s p ⟨earliest (s.seqOf p) (s.pc p) ⟨0, op, sid, bank, 0, 0⟩, op, sid, bank, 0, 0⟩ (s.pc p)
  exact ⟨_, _, _, _, _, _, h⟩

theorem issued_foldl {α : Type} {f : State → α → State} (each : ∀ u a, Issued u (f u a) p) (l : List α) (s : State) : Issued s (l.foldl f s) p := by
  induction l generalizing s with
  | nil => exact .refl s p
  | cons a l ih => exact (each s a).trans (ih _)

theorem issued_refreshAhead (s : State) (p len : Nat) : Issued s (refreshAhead s p len) p := by
  have closed (u : State) (b : Bool) (op : DramOp) (sid bank : Nat) : Issued u (if b = true then issueSoon u p op sid bank else u) p := by
    split
    · exact issued_issueSoon ..
    · exact .refl u p
  unfold refreshAhead
  dsimp only
  split
  · refine issued_foldl (fun u sid => ?_) _ s
    exact (closed u ((List.range 16).any fun b => openRow (u.pc p) sid b != 0) .preAb sid 0).trans (issued_issueSoon ..)
  · refine issued_foldl (fun u b => ?_) _ s
    exact (closed u (openRow (u.pc p) b.1 b.2 != 0) .pre b.1 b.2).trans (issued_issueSoon ..)

/-! ## Retraining (R277–R279) -/

/-- Pseudo-channel p has been trained anew. -/
structure Trained (s t : State) (p : Nat) (rd wr : Byte) (temp : Int) : Prop where
  good : (t.pc p).trained = true ∧ (t.pc p).trainFail = false
  eyes : (t.pc p).rdEye = rd ∧ (t.pc p).wrEye = wr ∧ (t.pc p).eyeFree = none
  when_ : (t.pc p).trainTemp = temp ∧ (t.pc p).lastTrain = w32 s.tb.count.toNat ∧ (t.pc p).retrainFirst = false
  queues : (t.pc p).rdq = (s.pc p).rdq ∧ (t.pc p).wrq = (s.pc p).wrq ∧ (t.pc p).flight = (s.pc p).flight
  others : ∀ q, q ≠ p → t.pc q = s.pc q
  lanes : ∀ q, sget lanesD t.phys.badLanes q = sget lanesD s.phys.badLanes q
  phys : t.phys = { s.phys with badLanes := t.phys.badLanes }

/-- A training in which no further lane fails (R277). -/
theorem trainPc_trained (few : (sget lanesD s.phys.badLanes p).length ≤ 1) (rd wr : Byte) (temp : Int) :
    Trained s (trainPc s p true none (some (rd, wr)) temp) p rd wr temp ∧ trainPc s p true none (some (rd, wr)) temp =
      { s with pcs := (trainPc s p true none (some (rd, wr)) temp).pcs, phys := (trainPc s p true none (some (rd, wr)) temp).phys } := by
  have good : (true && decide ((sget lanesD s.phys.badLanes p).length ≤ 1)) = true := by rw [decide_eq_true few]; rfl
  rw [trainPc, failedLanes]
  dsimp only
  rw [good]
  refine ⟨⟨?_, ?_, ?_, ?_, fun q hq => State.pc_modPc_other _ _ hq, fun q => ?_, rfl⟩, rfl⟩
  · rw [State.pc_modPc_same]
    exact ⟨rfl, rfl⟩
  · rw [State.pc_modPc_same]
    exact ⟨rfl, rfl, rfl⟩
  · rw [State.pc_modPc_same]
    exact ⟨rfl, rfl, rfl⟩
  · rw [State.pc_modPc_same]
    exact ⟨rfl, rfl, rfl⟩
  · show sget lanesD (sset lanesD s.phys.badLanes p (sget lanesD s.phys.badLanes p)) q = _
    by_cases h : q = p
    · rw [h, sget_sset_same]
    · rw [sget_sset_other _ _ _ h]

theorem Trained.after {rd wr : Byte} {temp : Int} (h' : Trained t u p rd wr temp) (commanded : Commanded (s.pc p) (t.pc p))
    (others : ∀ q, q ≠ p → t.pc q = s.pc q) (phys : t.phys = s.phys) (tb : t.tb = s.tb) : Trained s u p rd wr temp := by
  obtain ⟨good, eyes, when_, ⟨rdq, wrq, flight⟩, others', lanes, phys'⟩ := h'
  obtain ⟨_, _, _, _, _, _, pc⟩ := commanded
  rw [pc] at rdq wrq flight
  rw [tb] at when_
  rw [phys] at lanes phys'
  exact ⟨good, eyes, when_, ⟨rdq, wrq, flight⟩, fun q hq => (others' q hq).trans (others q hq), lanes, phys'⟩

/-- What PERIODIC_RETRAIN does where a retraining is due (R278, R287). -/
theorem periodicRetrain_runs (hp : p < nPcs) (ready : pcReady s p = true) (due : mustRetrain s p = true ∨ (retrainDue s p = true ∧ turnOfOther s p = false))
    (r : RetrainResult) : ∃ u, Issued s u p ∧ exec (.periodicRetrain p r) s = .next (
      if min r.rdEye.toNat r.wrEye.toNat < s.fld (hbmReg (p / 32) 0x18) 16 6 then fullRetrain u p r
      else trainPc u p true none (some (r.rdEye, r.wrEye)) r.temp) := by
  have go : (pcReady s p && (mustRetrain s p || (retrainDue s p && !turnOfOther s p))) = true := by
    rw [ready, Bool.true_and]
    rcases due with must | ⟨due, turn⟩
    · rw [must, Bool.true_or]
    · rw [due, turn, Bool.not_false, Bool.and_true, Bool.or_true]
  have ahead := (issued_refreshAhead s p 4800).trans (issued_count (refreshAhead s p 4800) p (32 + p / 32) 12 1)
  refine ⟨_, ahead, ?_⟩
  change execPeriodicRetrain p r s = _
  rw [execPeriodicRetrain]
  dsimp only
  rw [onUnit_next hp, if_pos go]
  have eye : ((refreshAhead s p 4800).count (32 + p / 32) 12 1).fld (hbmReg (p / 32) 0x18) 16 6 = s.fld (hbmReg (p / 32) 0x18) 16 6 := by
    rw [State.fld, State.fld, ahead.onPc.rd]
  rw [eye]

/-- A full retraining that goes well (R277, R279). -/
theorem fullRetrain_trains {r : RetrainResult} (few : (sget lanesD s.phys.badLanes p).length ≤ 1) (ok : r.fullOk = true) (lane : r.repairLane = none) :
    Trained s (fullRetrain s p r) p r.fullRd r.fullWr r.temp ∧ (fullRetrain s p r).bit (hbmReg (p / 32) 0x30) 5 = true ∧
      ∃ acc reg evt pcs phys, fullRetrain s p r = { s with pcs := pcs, acc := acc, reg := reg, evt := evt, phys := phys } := by
  have set := setErr_sets s (hbmReg (p / 32) 0x30) 5 (0x40 + p / 32) (w32 (p % 32)) (by decide)
  obtain ⟨frame, -⟩ := setErr_frame s (hbmReg (p / 32) 0x30) 5 (0x40 + p / 32) (w32 (p % 32))
  rw [fullRetrain]
  generalize s.setErr (hbmReg (p / 32) 0x30) 5 (0x40 + p / 32) (w32 (p % 32)) = u at set frame
  have counted := onPc_count u p (32 + p / 32) 13 1
  have pcs : (u.count (32 + p / 32) 13 1).pcs = s.pcs := by rw [State.count_pcs, frame]
  generalize u.count (32 + p / 32) 13 1 = v at counted pcs
  have phys : v.phys = s.phys := by rw [counted.rest, frame]
  have tb : v.tb = s.tb := by rw [counted.rest, frame]
  have pc (q : Nat) : v.pc q = s.pc q := by rw [State.pc, State.pc, pcs]
  have bit : v.bit (hbmReg (p / 32) 0x30) 5 = true := by rw [State.bit, counted.rd]; exact set
  obtain ⟨trained, rest⟩ := trainPc_trained (s := v) (p := p) (phys ▸ few) r.fullRd r.fullWr r.temp
  rw [ok, lane]
  generalize trainPc v p true none (some (r.fullRd, r.fullWr)) r.temp = w at trained rest
  rw [trained.good.2, if_neg Bool.false_ne_true]
  refine ⟨trained.after (pc p ▸ .refl _) (fun q _ => pc q) phys tb, ?_, ?_⟩
  · rw [rest]
    exact bit
  · rw [rest, counted.rest, frame]
    exact ⟨_, _, _, _, _, rfl⟩

/-! ## Patrol scrub (R280, R281) -/

theorem scrubRead_queues (hbm : HbmLit s (scrubLine s p (s.pc p).scrubPos)) (here : (hbmLoc s.ten (scrubLine s p (s.pc p).scrubPos)).pc = p)
    (none_ : ∀ e ∈ (s.pc p).wrq, e.line ≠ scrubLine s p (s.pc p).scrubPos) (more : scrubNext s (s.pc p).scrubPos ≠ 0) :
    OnPc s (scrubRead s p) p ∧ (∃ r, ((scrubRead s p).pc p).rdq = (s.pc p).rdq ++ [r] ∧ r.line = scrubLine s p (s.pc p).scrubPos ∧ r.src = .scrub) ∧
      ((scrubRead s p).pc p).scrubPos = scrubNext s (s.pc p).scrubPos := by
  have counted := onPc_count s p (32 + p / 32) 10 1
  have pc : (s.count (32 + p / 32) 10 1).pc p = s.pc p := State.pc_count ..
  have free : (matchWr (s.pc p) (scrubLine s p (s.pc p).scrubPos)).isNone = true := by
    rw [matchWr, List.filter_eq_nil_iff.2 fun e he => by rw [beq_eq_false_iff_ne.2 (none_ e he)]; exact Bool.false_ne_true]
    rfl
  rw [scrubRead]
  dsimp only
  rw [free, if_pos rfl]
  generalize scrubLine s p (s.pc p).scrubPos = line at hbm here none_ ⊢
  generalize s.count (32 + p / 32) 10 1 = u at counted pc ⊢
  have ten : u.ten = s.ten := by rw [counted.rest]; rfl
  have lit : HbmLit u line := ⟨by rw [ten, counted.rest]; exact hbm.lit, fun h hh => by rw [counted.rest]; exact hbm.half h (ten ▸ hh)⟩
  obtain ⟨rdq, others, rest⟩ := hbmRead_new lit (by rw [ten, here, pc]; exact none_) .scrub 7
  rw [ten, here, pc] at rdq
  rw [ten, here] at others
  generalize hbmRead u line .scrub 7 = v at rdq others rest
  have onPc : OnPc u v p := ⟨others, by rw [rest]⟩
  have next : scrubNext v (s.pc p).scrubPos = scrubNext s (s.pc p).scrubPos := by
    have same := (counted.trans onPc).rest
    generalize (s.pc p).scrubPos = n
    rw [same]
    rfl
  rw [next, if_neg more, State.pc_modPc_same]
  exact ⟨(counted.trans onPc).modPc _, rdq, rfl⟩

/-! ## Soft repair (R282, R283) -/

theorem xor_cancel (a b : Nat) : a ^^^ b ^^^ b = a := by rw [Nat.xor_assoc, Nat.xor_self, Nat.xor_zero]

/-- The row of a place lies in its own pseudo-channel (R250, R251). -/
theorem hbmLoc_hbmLine_pc {ten : Bool} {l : DramLoc} (col : l.col < 16) (bank : l.bank < 16) (pc : l.pc < if ten = true then 64 else 128) :
    (hbmLoc ten (hbmLine ten l)).pc = l.pc := by
  cases ten
  · have low : bitsOf (l.row % 8192) 0 7 < 2 ^ 7 := Nat.mod_lt _ (by decide)
    have place : l.pc ^^^ bitsOf (l.row % 8192) 0 7 < 2 ^ 7 := Nat.xor_lt_two_pow pc low
    have mixed : l.bank ^^^ bitsOf (l.row % 8192) 7 4 ^^^ (bitsOf (l.row % 8192) 11 2 + (3 * l.sid + l.row / 8192) % 4 * 4) < 2 ^ 4 :=
      Nat.xor_lt_two_pow (Nat.xor_lt_two_pow bank (Nat.mod_lt _ (by decide))) (by
        have : bitsOf (l.row % 8192) 11 2 < 2 ^ 2 := Nat.mod_lt _ (by decide)
        omega)
    have row : bitsOf (l.row % 8192) 0 7 = l.row % 128 := by
      unfold bitsOf
      omega
    rw [hbmLoc, if_neg Bool.false_ne_true, hbmLine]
    dsimp only
    rw [if_neg Bool.false_ne_true]
    generalize hx : l.pc ^^^ bitsOf (l.row % 8192) 0 7 = x at place
    generalize l.bank ^^^ bitsOf (l.row % 8192) 7 4 ^^^ (bitsOf (l.row % 8192) 11 2 + (3 * l.sid + l.row / 8192) % 4 * 4) = b at mixed
    generalize 3 * l.sid + l.row / 8192 = t
    have first : bitsOf (l.col + x * 2 ^ 4 + b * 2 ^ 11 + l.row % 8192 * 2 ^ 15 + t * 2 ^ 28) 4 7 = x := by
      unfold bitsOf
      omega
    have second : bitsOf (l.col + x * 2 ^ 4 + b * 2 ^ 11 + l.row % 8192 * 2 ^ 15 + t * 2 ^ 28) 15 7 = l.row % 128 := by
      unfold bitsOf
      omega
    rw [first, second, ← hx, row, xor_cancel]
  · have low : bitsOf (l.row % 8192) 0 6 < 2 ^ 6 := Nat.mod_lt _ (by decide)
    have place : l.pc ^^^ bitsOf (l.row % 8192) 0 6 < 2 ^ 6 := Nat.xor_lt_two_pow pc low
    have mixed : l.bank ^^^ bitsOf (l.row % 8192) 6 4 ^^^ (bitsOf (l.row % 8192) 10 3 + (3 * l.sid + l.row / 8192) % 2 * 8) < 2 ^ 4 :=
      Nat.xor_lt_two_pow (Nat.xor_lt_two_pow bank (Nat.mod_lt _ (by decide))) (by
        have : bitsOf (l.row % 8192) 10 3 < 2 ^ 3 := Nat.mod_lt _ (by decide)
        omega)
    have row : bitsOf (l.row % 8192) 0 6 = l.row % 64 := by
      unfold bitsOf
      omega
    rw [hbmLoc, if_pos rfl, hbmLine]
    dsimp only
    rw [if_pos rfl]
    generalize hx : l.pc ^^^ bitsOf (l.row % 8192) 0 6 = x at place
    generalize l.bank ^^^ bitsOf (l.row % 8192) 6 4 ^^^ (bitsOf (l.row % 8192) 10 3 + (3 * l.sid + l.row / 8192) % 2 * 8) = b at mixed
    generalize 3 * l.sid + l.row / 8192 = t
    have first : bitsOf (l.col + x * 2 ^ 4 + b * 2 ^ 10 + l.row % 8192 * 2 ^ 14 + t * 2 ^ 27) 4 6 = x := by
      unfold bitsOf
      omega
    have second : bitsOf (l.col + x * 2 ^ 4 + b * 2 ^ 10 + l.row % 8192 * 2 ^ 14 + t * 2 ^ 27) 14 6 = l.row % 64 := by
      unfold bitsOf
      omega
    rw [first, second, ← hx, row, xor_cancel]

/-- From s to t a repair has read and written lines, none of which has changed, and what it found is logged. -/
structure Repaired (s t : State) : Prop where
  hbm : ∀ n, t.hbmAt n = s.hbmAt n
  regs : ∀ x, 0x40 ≤ x % 0x10000 → t.rd x = s.rd x
  rest : t = { s with hbm := t.hbm, reg := t.reg, evt := t.evt, acc := t.acc }

theorem Repaired.refl (s : State) : Repaired s s := ⟨fun _ => rfl, fun _ _ => rfl, rfl⟩

theorem Repaired.trans (h : Repaired s t) (h' : Repaired t u) : Repaired s u :=
  ⟨fun n => (h'.hbm n).trans (h.hbm n), fun x hx => (h'.regs x hx).trans (h.regs x hx), by rw [h'.rest, h.rest]⟩

theorem repaired_count (s : State) (g i n : Nat) : Repaired s (s.count g i n) := by
  rw [count_frame]
  exact ⟨fun _ => rfl, fun _ _ => rfl, rfl⟩

theorem repaired_wr (s : State) {k x : Nat} (low : x < 0x40) (v : Word) : Repaired s (s.wr (hbmReg k x) v) := by
  have other {y : Nat} (hy : y ≠ hbmReg k x) : (s.wr (hbmReg k x) v).rd y = s.rd y := State.rd_wr_other _ _ hy
  have frame := State.wr_frame s (hbmReg k x) v
  generalize s.wr (hbmReg k x) v = t at other frame
  exact ⟨fun n => by rw [frame]; rfl, fun y hy => other (by unfold hbmReg; omega), by rw [frame]⟩

theorem repaired_setErr (s : State) (k i source : Nat) (info : Word) : Repaired s (s.setErr (hbmReg k 0x30) i source info) := by
  obtain ⟨frame, other⟩ := setErr_frame s (hbmReg k 0x30) i source info
  generalize s.setErr (hbmReg k 0x30) i source info = t at frame other
  exact ⟨fun n => by rw [frame]; rfl, fun y hy => other y (by unfold hbmReg; omega), by rw [frame]⟩

theorem repaired_report (s : State) (line source : Nat) (o : Decoded) : Repaired s (hbmReport s line source o) := by
  have later (u : State) (k a b c : Nat) (x y z : Word) : Repaired u ((((u.count a b c).wr (hbmReg k 0x34) x).wr (hbmReg k 0x38) y).wr (hbmReg k 0x3C) z) :=
    (repaired_count u a b c).trans ((repaired_wr _ (by decide) x).trans ((repaired_wr _ (by decide) y).trans (repaired_wr _ (by decide) z)))
  unfold hbmReport
  cases o.rep with
  | none => exact .refl s
  | ce =>
    dsimp only
    rw [if_neg (by decide)]
    exact (repaired_setErr ..).trans (later ..)
  | ue =>
    dsimp only
    rw [if_neg (by decide)]
    exact (repaired_setErr ..).trans (later ..)
  | stored =>
    dsimp only
    rw [if_neg (by decide)]
    exact (repaired_setErr ..).trans (later ..)

/-- A line without wrong symbols is read and written back as it is (R282). -/
theorem repairLine_keeps (clean : (s.hbmAt line).errs = []) (idle : (s.pc (hbmLoc s.ten line).pc).wrq = []) (long : tooShort (s.seqOf (hbmLoc s.ten line).pc) = false)
    (kept : (s.stackSt ((hbmLoc s.ten line).pc / 32)).lost = false) : Repaired s (repairLine [] s line) := by
  have none_ : matchWr (s.pc (hbmLoc s.ten line).pc) line = none := by rw [matchWr, idle]; rfl
  have driven : dramLine s line = (s, s.hbmAt line) := by
    rw [dramLine, long, kept]
    rfl
  have decoded : ∃ rep, decodeLine s (s.hbmAt line).data (s.hbmAt line).poison [] = (s, ⟨(s.hbmAt line).data, (s.hbmAt line).poison, rep, []⟩) ∧ rep ≠ .ue := by
    have good : badSyms [] = [] := by decide
    rw [decodeLine, good]
    refine ⟨_, rfl, ?_⟩
    split
    · exact Report.noConfusion
    · exact Report.noConfusion
  obtain ⟨rep, decoded, notUe⟩ := decoded
  have reported := repaired_report s line 3 ⟨(s.hbmAt line).data, (s.hbmAt line).poison, rep, []⟩
  rw [repairLine, none_]
  dsimp only
  rw [driven]
  dsimp only
  rw [clean, List.append_nil, decoded]
  dsimp only
  rw [if_neg notUe]
  generalize hbmReport s line 3 _ = u at reported
  have ten : u.ten = s.ten := by rw [reported.rest]; rfl
  have seqOf (q : Nat) : u.seqOf q = s.seqOf q := by rw [reported.rest]; rfl
  rw [dramStore, ten, seqOf, long, if_neg Bool.false_ne_true]
  refine reported.trans ⟨fun n => ?_, fun _ _ => rfl, rfl⟩
  by_cases h : n = line
  · rw [h, State.hbmAt, State.setHbm, sget_sset_same, reported.hbm]
    have errs := clean
    generalize s.hbmAt line = x at errs
    cases x
    cases errs
    rfl
  · exact sget_sset_other _ _ _ h

/-- A row's lines are all repaired, where the row is sound and nothing of its pseudo-channel is queued. -/
theorem repairLines_keep (l : List Nat) (here : ∀ n ∈ l, (hbmLoc s.ten n).pc = p) (clean : ∀ n, (s.hbmAt n).errs = [])
    (idle : (s.pc p).wrq = []) (long : tooShort (s.seqOf p) = false) (kept : (s.stackSt (p / 32)).lost = false) : Repaired s (l.foldl (repairLine []) s) := by
  induction l generalizing s with
  | nil => exact .refl s
  | cons n l ih =>
    have pc := here n (List.mem_cons_self ..)
    have first := repairLine_keeps (clean n) (pc.symm ▸ idle) (pc.symm ▸ long) (pc.symm ▸ kept)
    rw [List.foldl_cons]
    generalize repairLine [] s n = u at first
    refine first.trans (ih (fun m hm => ?_) (fun m => by rw [first.hbm]; exact clean m) ?_ ?_ ?_)
    · rw [first.rest]
      exact here m (List.mem_cons_of_mem _ hm)
    · rw [first.rest]
      exact idle
    · rw [first.rest]
      exact long
    · rw [first.rest]
      exact kept

/-- The log's first entry, where it is free (R290). -/
theorem pprLog_first {bank sid row : Nat} (free : s.bit (hbmReg k 0x300) 31 = false) (hr : row < 2 ^ 15) (hb : bank < 16) (hs : sid < 4) (hq : q < 32) :
    ∃ v, pprLog s k q sid bank row false = s.wr (hbmReg k 0x300) v ∧ v.getLsbD 31 = true := by
  have found : (List.range 16).find? (fun i => !s.bit (hbmReg k (0x300 + 4 * i)) 31) = some 0 := by
    rw [List.range_succ_eq_map, List.find?_cons_of_pos]
    show (!s.bit (hbmReg k 0x300) 31) = true
    rw [free]
    rfl
  have set (n : Nat) (small : n < 2 ^ 31) : (w32 (n + 2 ^ 31)).getLsbD 31 = true := by
    rw [w32, BitVec.getLsbD_ofNat, Nat.add_comm, Nat.testBit_two_pow_add_eq, Nat.testBit_lt_two_pow small]
    rfl
  refine ⟨_, by rw [pprLog, found], set _ ?_⟩
  rw [show b2n false = 0 from rfl]
  omega

/-- What a soft repair leaves, before it is reported. -/
def spared (u : State) (p : Nat) (c : RowErr) (v : Word) : State :=
  ((u.modStack (p / 32) fun x => { x with soft := x.soft ++ [⟨p / 32, p % 32, c.sid, c.bank, c.row⟩] }).modPc p fun x =>
    { x with rows := sset zeroD x.rows (bankKey c.sid c.bank) 0 }).wr (hbmReg (p / 32) 0x300) v

/-- From s to t registers and stacks apart, only the row and the candidates of one pseudo-channel. -/
structure Spared (u t : State) (p : Nat) (c : RowErr) : Prop where
  soft : (t.stackSt (p / 32)).soft = (u.stackSt (p / 32)).soft ++ [⟨p / 32, p % 32, c.sid, c.bank, c.row⟩]
  hbm : ∀ n, t.hbmAt n = u.hbmAt n
  pc : t.pc p = { u.pc p with rows := sset zeroD (u.pc p).rows (bankKey c.sid c.bank) 0 }
  others : ∀ q, q ≠ p → t.pc q = u.pc q
  valid : t.bit (hbmReg (p / 32) 0x300) 31 = true
  logged : t.bit (hbmReg (p / 32) 0x30) 3 = true
  rest : ∃ pcs hstacks reg evt acc, t = { u with pcs := pcs, hstacks := hstacks, reg := reg, evt := evt, acc := acc }

theorem spared_logged (u : State) (p : Nat) (c : RowErr) {v : Word} (valid : v.getLsbD 31 = true) :
    Spared u (((spared u p c v).setErr (hbmReg (p / 32) 0x30) 3 (0x40 + p / 32) (rowInfo p c.sid c.bank c.row)).count (32 + p / 32) 14 1) p c := by
  have soft : ((spared u p c v).stackSt (p / 32)).soft = (u.stackSt (p / 32)).soft ++ [⟨p / 32, p % 32, c.sid, c.bank, c.row⟩] := by
    have kept (w : State) (f : Pc → Pc) (x : Nat) : ((w.modPc p f).wr x v).stackSt (p / 32) = w.stackSt (p / 32) := by
      rw [State.wr_frame]
      rfl
    rw [spared, kept, stackSt_modStack_same]
  have bit : (spared u p c v).bit (hbmReg (p / 32) 0x300) 31 = true := (congrArg (·.getLsbD 31) (State.rd_wr_same ..)).trans valid
  have pc : (spared u p c v).pc p = { u.pc p with rows := sset zeroD (u.pc p).rows (bankKey c.sid c.bank) 0 } := by
    have kept (w : State) (x q : Nat) : (w.wr x v).pc q = w.pc q := by
      rw [State.wr_frame]
      rfl
    rw [spared, kept, State.pc_modPc_same]
    rfl
  have others (q : Nat) (hq : q ≠ p) : (spared u p c v).pc q = u.pc q := by
    have kept (w : State) (x q : Nat) : (w.wr x v).pc q = w.pc q := by
      rw [State.wr_frame]
      rfl
    rw [spared, kept, State.pc_modPc_other _ _ hq]
    rfl
  have hbm (n : Nat) : (spared u p c v).hbmAt n = u.hbmAt n := by
    have kept (w : State) (x : Nat) : (w.wr x v).hbmAt n = w.hbmAt n := by
      rw [State.wr_frame]
      rfl
    rw [spared, kept]
    rfl
  have rest : ∃ pcs hstacks reg, spared u p c v = { u with pcs := pcs, hstacks := hstacks, reg := reg } := by
    have kept (w : State) (x : Nat) : ∃ r, w.wr x v = { w with reg := r } := ⟨_, State.wr_frame w x v⟩
    obtain ⟨r, hr⟩ := kept ((u.modStack (p / 32) fun x => { x with soft := x.soft ++ [⟨p / 32, p % 32, c.sid, c.bank, c.row⟩] }).modPc p fun x =>
      { x with rows := sset zeroD x.rows (bankKey c.sid c.bank) 0 }) (hbmReg (p / 32) 0x300)
    rw [spared, hr]
    exact ⟨_, _, _, rfl⟩
  have set := setErr_sets (spared u p c v) (hbmReg (p / 32) 0x30) 3 (0x40 + p / 32) (rowInfo p c.sid c.bank c.row) (by decide)
  obtain ⟨frame, other⟩ := setErr_frame (spared u p c v) (hbmReg (p / 32) 0x30) 3 (0x40 + p / 32) (rowInfo p c.sid c.bank c.row)
  generalize spared u p c v = w at soft bit pc others hbm rest set frame other
  generalize w.setErr (hbmReg (p / 32) 0x30) 3 (0x40 + p / 32) (rowInfo p c.sid c.bank c.row) = x at set frame other
  obtain ⟨_, _, _, rest⟩ := rest
  rw [count_frame]
  refine ⟨?_, fun n => ?_, ?_, fun q hq => ?_, ?_, set, ?_⟩
  · rw [← soft, frame]
    rfl
  · rw [← hbm n, frame]
    rfl
  · rw [← pc, frame]
    rfl
  · rw [← others q hq, frame]
    rfl
  · show x.bit (hbmReg (p / 32) 0x300) 31 = true
    rw [State.bit, other _ (by unfold hbmReg; omega)]
    exact bit
  · rw [frame, rest]
    exact ⟨_, _, _, _, _, rfl⟩

/-- A soft repair where its bank has had none (R282, R283). -/
theorem softRepair_runs {c : RowErr} {l : List RowErr} (hp : p < nPcs) (ready : pcReady s p = true) (enabled : s.bit (hbmReg (p / 32) 0) 2 = true)
    (cands : (s.pc p).cands = c :: l) (row : c.row < 2 ^ 15) (bank : c.bank < 16) (sid : c.sid < 4)
    (fresh : ∀ r ∈ (s.stackSt (p / 32)).soft, r.pc ≠ p % 32) (log : s.bit (hbmReg (p / 32) 0x300) 31 = false)
    (clean : ∀ n, (s.hbmAt n).errs = [] ∧ (s.pc (hbmLoc s.ten n).pc).wrq = []) (long : tooShort (s.seqOf p) = false)
    (kept : (s.stackSt (p / 32)).lost = false) :
    ∃ u v, Repaired (s.modPc p fun x => { x with cands := l }) u ∧ v.getLsbD 31 = true ∧
      exec (.softRepair p []) s = .next (((spared u p c v).setErr (hbmReg (p / 32) 0x30) 3 (0x40 + p / 32) (rowInfo p c.sid c.bank c.row)).count
        (32 + p / 32) 14 1) := by
  have low : p < if s.ten = true then 64 else 128 := by
    have present : s.stackPresent (p / 32) = true := by
      rw [pcReady, Bool.and_eq_true, Bool.and_eq_true] at ready
      exact ready.1.1
    have hp : p < 128 := hp
    cases ten : s.ten
    · exact hp
    · rw [State.stackPresent, show (s.devId == 0x8610) = true from ten, Bool.true_and, Bool.and_eq_true, Bool.not_eq_true', decide_eq_false_iff_not] at present
      show p < 64
      omega
  have here : ∀ n ∈ (List.range 16).map fun col => hbmLine s.ten { pc := p, sid := c.sid, bank := c.bank, row := c.row, col := col }, (hbmLoc s.ten n).pc = p := by
    intro n hn
    obtain ⟨col, hcol, rfl⟩ := List.mem_map.1 hn
    exact hbmLoc_hbmLine_pc (List.mem_range.1 hcol) bank low
  have idle : (s.pc p).wrq = [] := by
    have first := here _ (List.mem_map.2 ⟨0, List.mem_range.2 (by decide), rfl⟩)
    have := (clean (hbmLine s.ten { pc := p, sid := c.sid, bank := c.bank, row := c.row, col := 0 })).2
    rwa [first] at this
  have another : ((s.modPc p fun x => { x with cands := l }).stackSt (p / 32)).soft.any (fun r => r.pc == p % 32 && r.sid == c.sid && r.bank == c.bank) = false :=
    List.any_eq_false.2 fun r hr => by rw [beq_eq_false_iff_ne.2 (fresh r hr)]; exact Bool.false_ne_true
  obtain ⟨w, hw⟩ : ∃ w, w = s.modPc p fun x => { x with cands := l } := ⟨_, rfl⟩
  have repaired := repairLines_keep (s := w) (p := p) ((List.range 16).map fun col => hbmLine s.ten { pc := p, sid := c.sid, bank := c.bank, row := c.row, col := col })
    (by rw [hw]; exact here) (fun n => by rw [hw]; exact (clean n).1) (by rw [hw, State.pc_modPc_same]; exact idle) (by rw [hw]; exact long) (by rw [hw]; exact kept)
  have run : exec (.softRepair p []) s = .next (softRepair s p []) := by
    change onUnit nPcs p (if pcReady s p && s.bit (hbmReg (p / 32) 0) 2 then softRepair s p [] else s) = _
    rw [onUnit_next hp, ready, enabled]
    rfl
  rw [run, softRepair, cands]
  dsimp only
  rw [another, if_neg Bool.false_ne_true]
  rw [← hw, show w.ten = s.ten by rw [hw]; rfl]
  generalize List.foldl (repairLine []) w _ = u at repaired
  have free : ((u.modStack (p / 32) fun x => { x with soft := x.soft ++ [⟨p / 32, p % 32, c.sid, c.bank, c.row⟩] }).modPc p fun x =>
      { x with rows := sset zeroD x.rows (bankKey c.sid c.bank) 0 }).bit (hbmReg (p / 32) 0x300) 31 = false := by
    show u.bit (hbmReg (p / 32) 0x300) 31 = false
    rw [State.bit, repaired.regs _ (by unfold hbmReg; omega), hw]
    exact log
  obtain ⟨v, logged, valid⟩ := pprLog_first free row bank sid (Nat.mod_lt p (by decide : 0 < 32))
  exact ⟨u, v, repaired, valid, by rw [logged, spared]⟩

/-! ## RELOAD (R269) -/

/-- The commands of a RELOAD leave all but the history of a controller. -/
def Reloaded (s t : State) (k : Nat) : Prop :=
  (∀ q, q / 32 ≠ k → t.pc q = s.pc q) ∧ (∀ q, t.pc q = { s.pc q with hist := (t.pc q).hist, now := (t.pc q).now }) ∧ t = { s with pcs := t.pcs }

theorem Reloaded.trans (h : Reloaded s t k) (h' : Reloaded t u k) : Reloaded s u k := by
  obtain ⟨others, each, rest⟩ := h
  obtain ⟨others', each', rest'⟩ := h'
  exact ⟨fun q hq => (others' q hq).trans (others q hq), fun q => by rw [each' q, each q], by rw [rest', rest]⟩

theorem reloaded_mrs (s : State) (p : Nat) : Reloaded s (issueSoon s p .mrs 0 0) (p / 32) := by
  refine ⟨fun q hq => State.pc_modPc_other _ _ fun c => hq (by rw [c]), fun q => ?_, rfl⟩
  by_cases h : q = p
  · rw [h]
    exact (State.pc_modPc_same ..).trans (by rw [show (issueSoon s p .mrs 0 0).pc p = _ from State.pc_modPc_same ..]; rfl)
  · rw [show (issueSoon s p .mrs 0 0).pc q = s.pc q from State.pc_modPc_other _ _ h]

theorem reloaded_pair (s : State) (k : Nat) {i : Nat} (hi : i < 32) : Reloaded s
    (if pcReady s (32 * k + i) = true then issueSoon (issueSoon s (32 * k + i) .mrs 0 0) (32 * k + i) .mrs 0 0 else s) k := by
  have stack : (32 * k + i) / 32 = k := by omega
  split
  · have first := reloaded_mrs s (32 * k + i)
    have second := reloaded_mrs (issueSoon s (32 * k + i) .mrs 0 0) (32 * k + i)
    rw [stack] at first second
    exact first.trans second
  · exact ⟨fun _ _ => rfl, fun _ => rfl, rfl⟩

theorem reloaded_all (s : State) (k : Nat) : Reloaded s ((List.range 32).foldl (fun s i =>
    if pcReady s (32 * k + i) = true then issueSoon (issueSoon s (32 * k + i) .mrs 0 0) (32 * k + i) .mrs 0 0 else s) s) k := by
  have each : ∀ (l : List Nat) (s : State), (∀ i ∈ l, i < 32) → Reloaded s (l.foldl (fun s i =>
      if pcReady s (32 * k + i) = true then issueSoon (issueSoon s (32 * k + i) .mrs 0 0) (32 * k + i) .mrs 0 0 else s) s) k := by
    intro l
    induction l with
    | nil => exact fun s _ => ⟨fun _ _ => rfl, fun _ => rfl, rfl⟩
    | cons i l ih => exact fun s small => (reloaded_pair s k (small i (List.mem_cons_self ..))).trans (ih _ fun j hj => small j (List.mem_cons_of_mem _ hj))
  exact each _ s fun i hi => List.mem_range.1 hi

/-- RELOAD = 1 is written to HBM_CTL of a stack. -/
theorem writeField_reload {m : Master} (hk : k < nStacks) (h : CwReach s m (hbmReg k 0)) :
    ∃ u, writeField s m (hbmReg k 0) 0 1 1 = hbmReload u k ∧ RegStored s u (hbmReg k 0) := by
  have hk : k < 4 := hk
  have block := blockAt_hbmReg hk (by decide : 0 < 0x10000)
  have fields := regFields_hbmReg hk (by decide : 0 < 0xFFF8)
  have ordinary : Ordinary (hbmReg k 0) := by
    constructor
    case toDirect => exact ⟨by unfold hbmReg; omega, by unfold hbmReg; omega⟩
    case single => rw [pairLow, block]
    case listed => rw [fields]; decide
    case unlocked => rw [fields]; decide
    case noDoorbell => intro n; rw [block]; exact Block.noConfusion
    case noCounter => intro c; rw [block] at c; exact Block.noConfusion c.1
  obtain ⟨u, written, stored, -⟩ := h.writes ordinary (v := keepRest s (hbmReg k 0) 0 1 1)
    fun t => filterWrite_other (by rw [block]; exact Block.noConfusion) (by rw [block]; exact Block.noConfusion)
      (by rw [block]; exact Block.noConfusion) (by rw [block]; exact Block.noConfusion) (by rw [block]; exact Block.noConfusion)
  have go : (w32 (keepRest s (hbmReg k 0) 0 1 1)).getLsbD 0 = true :=
    (keepRest_bit s _ 0 1 1 (by decide) (Or.inl ⟨Nat.le_refl 0, Nat.one_pos⟩)).trans rfl
  have rel : hbmReg k 0 - Block.base (.hbm k) = 0 := Nat.sub_self (0x400000 + k * 0x10000)
  refine ⟨u, ?_, stored⟩
  rw [writeField, written, startWrite, block]
  dsimp only
  rw [rel, go, if_pos ⟨rfl, rfl⟩]

/-- What a RELOAD that has been written leaves (R269). -/
theorem hbmReload_reloads (u : State) (k : Nat) : ∃ v w, Reloaded v w k ∧ v = u.modStack k (fun x => { x with lo := sequencer (timRegs u k), hi := sequencer (timRegs u k) }) ∧
    hbmReload u k = w.setFld (hbmReg k 0) 0 1 0 :=
  ⟨_, _, reloaded_all _ k, rfl, rfl⟩

/-- A stack's RELOAD. -/
structure Reloads (s t : State) (k : Nat) : Prop where
  stack : t.stackSt k = { s.stackSt k with lo := sequencer (timRegs s k), hi := sequencer (timRegs s k) }
  stacks_ : ∀ j, j ≠ k → t.stackSt j = s.stackSt j
  cleared : t.bit (hbmReg k 0) 0 = false
  others : ∀ q, q / 32 ≠ k → t.pc q = s.pc q
  pcs_ : ∀ q, t.pc q = { s.pc q with hist := (t.pc q).hist, now := (t.pc q).now }
  regs : ∀ x, x ≠ hbmReg k 0 → t.rd x = s.rd x
  rest : t = { s with reg := t.reg, hstacks := t.hstacks, pcs := t.pcs }

theorem reload_reloads {m : Master} (hk : k < nStacks) (h : CwReach s m (hbmReg k 0)) : ∃ t, exec (.hbmReload m k) s = .next t ∧ Reloads s t k := by
  obtain ⟨u, written, stored⟩ := writeField_reload hk h
  have timing : timRegs u k = timRegs s k := List.map_congr_left fun i hi => stored.regs _ (by
    have := List.mem_range.1 hi
    unfold hbmReg
    omega)
  have run : exec (.hbmReload m k) s = .next (hbmReload u k) := by
    change onUnit nStacks k (writeField s m (hbmReg k 0) 0 1 1) = _
    rw [onUnit_next hk, written]
  obtain ⟨v, w, ⟨others, each, rest⟩, hv, whole⟩ := hbmReload_reloads u k
  rw [whole] at run
  rw [timing] at hv
  have stackV : v.stackSt k = { s.stackSt k with lo := sequencer (timRegs s k), hi := sequencer (timRegs s k) } := by
    rw [hv, stackSt_modStack_same, stored.rest]
    rfl
  have stackO (j : Nat) (hj : j ≠ k) : v.stackSt j = s.stackSt j := by
    rw [hv, stackSt_modStack_other _ _ hj, stored.rest]
    rfl
  have frameV : ∃ H, v = { u with hstacks := H } := ⟨_, hv⟩
  obtain ⟨H, frameV⟩ := frameV
  have vpc (q : Nat) : v.pc q = s.pc q := by rw [frameV, stored.rest]; rfl
  have wregs (x : Nat) : w.rd x = u.rd x := by rw [rest, frameV]; rfl
  have wstack (j : Nat) : w.stackSt j = v.stackSt j := by rw [rest]; rfl
  have cleared := State.bit_setFld w (hbmReg k 0) 0 1 0 (i := 0) (by decide)
  have regs (x : Nat) (hx : x ≠ hbmReg k 0) : (w.setFld (hbmReg k 0) 0 1 0).rd x = w.rd x := State.rd_setFld_other _ _ _ _ hx
  have frame := State.setFld_frame w (hbmReg k 0) 0 1 0
  clear whole
  generalize w.setFld (hbmReg k 0) 0 1 0 = t at run cleared regs frame
  have stackT (j : Nat) : t.stackSt j = w.stackSt j := by rw [frame]; rfl
  have pc (q : Nat) : t.pc q = w.pc q := by rw [frame]; rfl
  refine ⟨t, run, by rw [stackT, wstack, stackV], fun j hj => by rw [stackT, wstack, stackO j hj], cleared, fun q hq => by rw [pc, others q hq, vpc],
    fun q => by rw [pc, each q, vpc], fun x hx => by rw [regs x hx, wregs, stored.regs x hx], ?_⟩
  rw [frame, rest, frameV, stored.rest]

end Sys2Proof.Machine

open Sys2Proof Sys2Proof.Machine

/-- Settles O40: each step of the upkeep by its own rule; a retraining issues the refreshes of its stall first, which touch nothing
that it reports, and a repair writes back what it read. -/
theorem stacksAreKeptUp : Obligations.StacksAreKeptUp := by
  refine ⟨fun s p hp ready => ⟨?refresh, ?idle, ?retrain, ?scrub, ?repair⟩, ?reload⟩
  case refresh =>
    intro sid bank ck key hs hb hkey due
    have same : key = refKey s p sid bank := hkey
    rw [same] at due ⊢
    refine ⟨_, refreshDue_owes hp ready hs hb due, ?_, fun n hn => ?_, ?_, fun n hn => ?_, ?_, fun q hq => State.pc_modPc_other _ _ hq, rfl⟩
    · rw [State.pc_modPc_same]
      exact sget_smod_same intD (s.pc p).debt (refKey s p sid bank) (· + 1)
    · rw [State.pc_modPc_same]
      exact sget_smod_other intD (s.pc p).debt (· + 1) hn
    · rw [State.pc_modPc_same]
      exact sget_sset_same ..
    · rw [State.pc_modPc_same]
      exact sget_sset_other _ _ _ hn
    · rw [State.pc_modPc_same]
  case idle =>
    intro sid bank ck opened rdq wrq hist now idle
    have rows := bankEffect_pre s p ⟨ck, .pre, sid, bank, 0, 0⟩ (s.pc p) rfl
    obtain ⟨_, _, _, _, effect⟩ := bankEffect_frame s p ⟨ck, .pre, sid, bank, 0, 0⟩ (s.pc p)
    refine ⟨_, rowIdleClose_closes hp ready opened rdq wrq hist now idle, ?_, fun n hn => ?_, ?_, fun q hq => State.pc_modPc_other _ _ hq, rfl⟩
    · rw [State.pc_modPc_same, openRow, rows]
      exact sget_sset_same zeroD _ _ _
    · rw [State.pc_modPc_same, rows]
      exact sget_sset_other _ _ _ hn
    · rw [State.pc_modPc_same, effect, hist]
      rfl
  case retrain =>
    intro r due few trained
    obtain ⟨u, ahead, run⟩ := periodicRetrain_runs hp ready due r
    have phys : u.phys = s.phys := by rw [ahead.onPc.rest]
    have tb : u.tb = s.tb := by rw [ahead.onPc.rest]
    have told {t : State} {rd wr : Byte} (h : Trained u t p rd wr r.temp) : trained t rd wr := by
      obtain ⟨good, eyes, when_, queues, others, lanes, kept⟩ := h.after ahead.commanded ahead.onPc.others phys tb
      exact ⟨good.1, good.2, eyes.1, eyes.2.1, eyes.2.2, when_.1, when_.2.1, when_.2.2, queues.1, queues.2.1, queues.2.2, others, lanes, kept⟩
    refine ⟨fun wide => ?_, fun narrow ok lane => ?_⟩
    · obtain ⟨good, rest⟩ := trainPc_trained (s := u) (p := p) (phys ▸ few) r.rdEye r.wrEye r.temp
      rw [if_neg (by omega)] at run
      generalize trainPc u p true none (some (r.rdEye, r.wrEye)) r.temp = t at run good rest
      exact ⟨t, run, told good, by rw [rest, ahead.onPc.rest]⟩
    · obtain ⟨good, set, _, _, _, _, _, rest⟩ := fullRetrain_trains (s := u) (p := p) (phys ▸ few) ok lane
      rw [if_pos narrow] at run
      generalize fullRetrain u p r = t at run good set rest
      exact ⟨t, run, told good, set, by rw [rest, ahead.onPc.rest]⟩
  case scrub =>
    intro on half here none_ more
    have parts := ready
    rw [pcReady, Bool.and_eq_true, Bool.and_eq_true] at parts
    obtain ⟨⟨present, lit⟩, -⟩ := parts
    obtain ⟨onPc, rdq, walk⟩ := scrubRead_queues ⟨by rw [here]; exact lit, by rw [here]; exact half⟩ here none_ more
    refine ⟨scrubRead s p, ?_, rdq, walk, onPc.others, onPc.rest⟩
    change onUnit Config.nPcs p (scrubFalls s p) = _
    rw [onUnit_next hp, scrubFalls, on, present, ready, if_neg (by rintro (c | c) <;> exact Bool.noConfusion c), if_pos rfl]
  case repair =>
    intro c l enabled cands row bank sid fresh log clean long kept
    obtain ⟨u, v, repaired, valid, run⟩ := softRepair_runs hp ready enabled cands row bank sid fresh log clean long kept
    obtain ⟨soft, hbm, pc, others, full, logged, _, _, _, _, _, rest⟩ := spared_logged u p c valid
    generalize State.count _ _ _ _ = t at run soft hbm pc others full logged rest
    have upc : u.pc = (s.modPc p fun x => { x with cands := l }).pc := by rw [repaired.rest]; rfl
    refine ⟨t, run, ?_, ?_, fun n => ?_, ?_, full, logged, fun q hq => ?_, ?_⟩
    · rw [pc, upc, State.pc_modPc_same]
    · rw [soft, repaired.rest]
      rfl
    · rw [hbm, repaired.hbm]
      rfl
    · rw [pc, openRow]
      dsimp only
      rw [sget_sset_same]
    · rw [others q hq, upc, State.pc_modPc_other _ _ hq]
    · rw [rest, repaired.rest]
      rfl
  case reload =>
    intro s m k hk h
    obtain ⟨t, run, reloads⟩ := reload_reloads hk h
    exact ⟨t, run, reloads.stack, reloads.stacks_, reloads.cleared, reloads.others, reloads.pcs_, reloads.regs, reloads.rest⟩

end

section
/-! PROOF. When the record of a descriptor goes out (R358, R366, R368). -/
namespace Sys2Proof.Machine
open Config

/-- A descriptor that is over and waits for an engine. -/
def overDesc : Desc := { slot := 0, raw := 0, phase := .ended .ok 0, engine := none, value := 0, polledAt := 0, expired := false, msgTag := none }

/-- After reset inkwell 0 holds a descriptor in slot 0 that is over, and its queue of completions has slot 0 already. -/
def slotQueued : State := { State.reset with inks := [(0, { inkD 0 with descs := [overDesc], doneQ := [0] })] }

/-- The requests on the spine in the state that a command leaves. -/
def requestsAfter : Host.Outcome State Fault Refusal → List Msg
  | .next t => t.spine.req
  | _ => []

/-- The record goes out at once, for its slot is at the head of the queue. -/
theorem slotQueued_sends : requestsAfter (exec (.descriptorComplete 0 0) slotQueued) ≠ [] := by decide +kernel

end Sys2Proof.Machine

open Sys2Proof Sys2Proof.Machine

/-- Refutes O42: a descriptor that waited without an engine joins the queue of completions, and its record goes out where the queue's
head names its slot. Where the queue has that slot at its head already, the record goes out though the queue was not empty, while the
statement says that nothing is sent then; it keeps no such state out (none that the device reaches has it). -/
theorem not_descriptorsStartAndComplete : ¬ Obligations.DescriptorsStartAndComplete := by
  intro h
  have completes := (h.2.2.2.1 slotQueued 0 0 overDesc (by decide) rfl).2.2 .ok 0 0 (by decide +kernel) (by decide +kernel) (Or.inl (by decide +kernel)) _ rfl _ rfl
  obtain ⟨t, ms, run, -, sent, -, -, -, -, -, -, none_⟩ := completes.2 rfl (by decide +kernel) (by decide +kernel)
  have nothing : ms = [] := (none_ fun c => List.cons_ne_nil _ _ c.1).1
  have same : t.spine.req = [] := (congrArg Spine.req sent.sent).trans (by rw [nothing]; rfl)
  exact slotQueued_sends (by rw [run]; exact same)

end

section
/-! PROOF. What an engine sends (R366, R369, R405): one request, the line reads of a piece, the write of a piece. -/
namespace Sys2Proof.Machine
open Config

variable {s t u : State} {e : Nat} {w : Work} {ms ms' : List Msg}

/-! ## An engine's progress -/

/-- From s to t engine e has sent requests; nothing else differs but its progress and the counters. -/
structure EngSends (s t : State) (e : Nat) (ms : List Msg) : Prop where
  sent : t.spine = { s.spine with req := s.spine.req ++ ms }
  others : ∀ f, f ≠ e → t.engine f = s.engine f
  rest : t = { s with engines := t.engines, spine := t.spine, acc := t.acc }

theorem EngSends.refl (s : State) (e : Nat) : EngSends s s e [] := ⟨by rw [List.append_nil], fun _ _ => rfl, rfl⟩

theorem EngSends.trans (h : EngSends s t e ms) (h' : EngSends t u e ms') : EngSends s u e (ms ++ ms') :=
  ⟨by rw [h'.sent, h.sent, List.append_assoc], fun f hf => (h'.others f hf).trans (h.others f hf), by rw [h'.rest, h.rest]⟩

theorem engSends_modEngine (s : State) (e : Nat) (f : Engine → Engine) : EngSends s (s.modEngine e f) e [] :=
  ⟨(EngSends.refl s e).sent, fun _ hf => sget_smod_other _ _ _ hf, rfl⟩

theorem EngSends.modEngine (h : EngSends s t e ms) (f : Engine → Engine) : EngSends s (t.modEngine e f) e ms := by
  have := h.trans (engSends_modEngine t e f)
  rwa [List.append_nil] at this

theorem engSends_count (s : State) (e g i n : Nat) : EngSends s (s.count g i n) e [] := by
  rw [count_frame]
  exact ⟨(EngSends.refl s e).sent, fun _ _ => rfl, rfl⟩

theorem EngSends.quiet (h : EngSends s t e ms) (quiet : EnginesNotFollowed s) : EnginesNotFollowed t := by
  rw [h.rest]
  exact quiet

theorem EngSends.agent (h : EngSends s t e ms) (f : Nat) : engAgent t f = engAgent s f := by
  rw [h.rest]
  rfl

/-- An engine that differs from another in its tags alone. -/
def Engine.Tagged (x y : Engine) : Prop := ∃ c l, y = { x with tagCtr := c, tags := l }

theorem Engine.Tagged.refl (x : Engine) : x.Tagged x := ⟨_, _, rfl⟩

theorem Engine.Tagged.trans {x y z : Engine} (h : x.Tagged y) (h' : y.Tagged z) : x.Tagged z := by
  obtain ⟨_, _, rfl⟩ := h
  obtain ⟨_, _, rfl⟩ := h'
  exact ⟨_, _, rfl⟩

theorem Engine.tagged_takeTag (x : Engine) : x.Tagged x.takeTag := ⟨_, _, rfl⟩

/-! ## One request (R369, R405) -/

theorem blotAdmit_quiet (quiet : EnginesNotFollowed s) (f : Follow) : (if s.bit (telReg 0x8200) 8 then blotAdmit s f else s) = s := by
  rcases quiet with off | off
  · rw [blotAdmit, off, Bool.false_and, if_neg Bool.false_ne_true, ite_self]
  · rw [off, if_neg Bool.false_ne_true]

theorem engSend_sends (quiet : EnginesNotFollowed s) (e : Nat) (w : Work) (opc param a : Nat) (bad : Bool) (body : List Word) :
    ∃ t, engSend s e w opc param a bad body = (t, s.engTag e 0) ∧ EngSends s t e [{ s.engMsg e w.priv 0 opc param a body with poison := bad }] ∧
      t.engine e = (s.engine e).takeTag := by
  obtain ⟨u, hu⟩ : ∃ u, u = (s.modEngine e Engine.takeTag).putReq (reqMsg (engAgent s e) (s.engTag e 0) opc w.priv param (BitVec.ofNat 52 a) bad body) := ⟨_, rfl⟩
  have put : EngSends s u e [{ s.engMsg e w.priv 0 opc param a body with poison := bad }] := by
    rw [hu]
    exact ⟨rfl, fun _ hf => sget_smod_other _ _ _ hf, rfl⟩
  have engine : u.engine e = (s.engine e).takeTag := by
    rw [hu]
    exact State.engine_modEngine_same ..
  have counted : ∃ v, (if opc = opcRD_UC then u.count 52 6 1 else if opc = opcAMO then u.count 52 8 1
      else if opc = opcMAINT then u.count 52 9 1 else u.count 52 7 1) = v ∧ EngSends u v e [] ∧ v.engine e = u.engine e := by
    refine ⟨_, rfl, ?_⟩
    split
    · exact ⟨engSends_count .., State.engine_count ..⟩
    · split
      · exact ⟨engSends_count .., State.engine_count ..⟩
      · split
        · exact ⟨engSends_count .., State.engine_count ..⟩
        · exact ⟨engSends_count .., State.engine_count ..⟩
  obtain ⟨v, hv, sends, same⟩ := counted
  have all := put.trans sends
  rw [List.append_nil] at all
  refine ⟨v, ?_, all, same.trans engine⟩
  rw [engSend, show BitVec.ofNat 12 (s.engine e).nextNum = s.engTag e 0 from rfl, ← hu, hv, blotAdmit_quiet (all.quiet quiet)]

/-- A tag taken after another. -/
theorem engMsg_next (h : EngSends s t e ms) (taken : (t.engine e) = (s.engine e).takeTag) (priv : Bool) (j opc param a : Nat) (body : List Word) :
    t.engMsg e priv j opc param a body = s.engMsg e priv (j + 1) opc param a body := by
  rw [State.engMsg, State.engMsg, State.engTag, State.engTag, taken, h.agent]
  rfl

/-- One that takes no tag from the one before. -/
theorem engMsg_same (h : EngSends s t e ms) (tags : (t.engine e).tags = (s.engine e).tags ∧ (t.engine e).tagCtr = (s.engine e).tagCtr) (priv : Bool)
    (opc param a : Nat) (body : List Word) : t.engMsg e priv 0 opc param a body = s.engMsg e priv 0 opc param a body := by
  have num : (t.engine e).nextNum = (s.engine e).nextNum := by rw [Engine.nextNum, Engine.nextNum, tags.1, tags.2]
  rw [State.engMsg, State.engMsg, h.agent]
  exact congrArg (fun n => reqMsg (engAgent s e) (BitVec.ofNat 12 n) opc priv param (BitVec.ofNat 52 a) false body) num

/-! ## The reads of a piece (R369) -/

/-- The read that a piece makes of a line. -/
def lineRead (s : State) (e : Nat) (w : Work) (j line : Nat) : Msg := s.engMsg e w.priv j opcRD_UC 6 (line * 64) []

theorem readLine_sends (quiet : EnginesNotFollowed s) (e : Nat) (w : Work) (line : Nat) :
    ∃ t, readLine s e w line = (t, s.engTag e 0) ∧ EngSends s t e [lineRead s e w 0 line] ∧ t.engine e = (s.engine e).takeTag :=
  engSend_sends quiet e w opcRD_UC 6 (line * 64) false []

theorem shareLine_shared {line : Nat} {before : Option LineRead} {r : LineRead} (h : before = some r) (same : r.2.1 = line) (s : State) (e : Nat) (w : Work) :
    shareLine s e w line before = (s, r) := by
  rw [shareLine, h, Option.filter_some, if_pos (beq_iff_eq.2 same)]

theorem shareLine_new (quiet : EnginesNotFollowed s) {line : Nat} {before : Option LineRead} (other : ∀ r, before = some r → r.2.1 ≠ line) (e : Nat) (w : Work) :
    ∃ t, shareLine s e w line before = (t, (s.engTag e 0, line, none)) ∧ EngSends s t e [lineRead s e w 0 line] ∧ t.engine e = (s.engine e).takeTag := by
  obtain ⟨t, sent, sends, taken⟩ := readLine_sends quiet e w line
  have none_ : before.filter (fun r => r.2.1 == line) = none := by
    rw [Option.filter_eq_none_iff]
    intro r h c
    exact other r h (beq_iff_eq.1 c)
  exact ⟨t, by rw [shareLine, none_]; dsimp only; rw [sent], sends, taken⟩

/-- What a piece's reads leave: its messages, the engine with its tags and the lines it has read, and whether data is missing. -/
structure PieceRead (s t : State) (e : Nat) (w : Work) (a n : Nat) (ms : List Msg) (l : List LineRead) : Prop where
  sends : EngSends s t e ms
  reads : s.PieceReads e w.priv a n ms
  engine : ∃ x, (s.engine e).Tagged x ∧ t.engine e = { x with last := l }
  waits : (∀ v, ¬ (s.engine e).Here a n v) → (l.all fun r => r.2.2.isSome) = false

theorem hasLine_last {x : Engine} {line : Nat} : x.hasLine (x.last.length - 1) line ↔ ∃ r, x.last.getLast? = some r ∧ r.2.1 = line := by
  rw [Engine.hasLine, List.getLast?_eq_getElem?]

theorem readBytes_reads (quiet : EnginesNotFollowed s) (e : Nat) (w : Work) (a n : Nat) :
    ∃ t ms l, readBytes s e w a n = (t, l) ∧ PieceRead s t e w a n ms l := by
  obtain ⟨line, hline⟩ : ∃ line, line = a % 2 ^ 52 / 64 := ⟨_, rfl⟩
  by_cases old : ∃ r, (s.engine e).last.getLast? = some r ∧ r.2.1 = line
  · obtain ⟨r, last, same⟩ := old
    have shared := shareLine_shared last same s e w
    have has : (s.engine e).hasLine ((s.engine e).last.length - 1) line := hasLine_last.2 ⟨r, last, same⟩
    by_cases one : a % 2 ^ 52 % 64 + n ≤ 64
    · refine ⟨_, [], [r], by rw [readBytes, ← hline]; dsimp only; rw [shared]; dsimp only; rw [if_pos one], engSends_modEngine .., ?_, ?_, ?_⟩
      · rintro _ b rfl rfl next
        rw [← hline, decide_eq_false (by omega)]
        exact ⟨fun _ => rfl, fun no => absurd has no⟩
      · exact ⟨_, .refl _, State.engine_modEngine_same ..⟩
      · intro away
        cases data : r.2.2 with
        | none => rw [List.all_cons, data]; rfl
        | some v =>
          refine absurd ⟨one, r, ?_, same.trans hline, data⟩ (away v)
          rw [← List.getLast?_eq_getElem?]
          exact last
    · obtain ⟨t, new, sends, taken⟩ := shareLine_new (before := none) (line := (line + 1) % 2 ^ 46) quiet (fun _ h => by cases h) e w
      refine ⟨_, [lineRead s e w 0 ((line + 1) % 2 ^ 46)], [r, (s.engTag e 0, (line + 1) % 2 ^ 46, none)],
        by rw [readBytes, ← hline]; dsimp only; rw [shared]; dsimp only; rw [if_neg one, new], sends.modEngine _, ?_, ?_, ?_⟩
      · rintro _ b rfl rfl next
        rw [← hline, decide_eq_true (by omega)]
        exact ⟨fun _ => by rw [hline]; rfl, fun no => absurd has no⟩
      · exact ⟨_, Engine.tagged_takeTag _, by rw [State.engine_modEngine_same, taken]⟩
      · intro _
        rw [List.all_cons, List.all_cons]
        exact Bool.and_false _
  · have other (r : LineRead) (last : (s.engine e).last.getLast? = some r) : r.2.1 ≠ line := fun c => old ⟨r, last, c⟩
    have no : ¬ (s.engine e).hasLine ((s.engine e).last.length - 1) line := fun c => old (hasLine_last.1 c)
    obtain ⟨t, first, sends, taken⟩ := shareLine_new quiet other e w
    by_cases one : a % 2 ^ 52 % 64 + n ≤ 64
    · refine ⟨_, [lineRead s e w 0 line], [(s.engTag e 0, line, none)],
        by rw [readBytes, ← hline]; dsimp only; rw [first]; dsimp only; rw [if_pos one], sends.modEngine _, ?_, ?_, fun _ => rfl⟩
      · rintro _ b rfl rfl next
        rw [← hline, decide_eq_false (by omega)]
        exact ⟨fun has => absurd has no, fun _ => rfl⟩
      · exact ⟨_, Engine.tagged_takeTag _, by rw [State.engine_modEngine_same, taken]⟩
    · obtain ⟨u, second, sends', taken'⟩ := shareLine_new (before := none) (line := (line + 1) % 2 ^ 46) (sends.quiet quiet) (fun _ h => by cases h) e w
      refine ⟨_, [lineRead s e w 0 line, lineRead s e w 1 ((line + 1) % 2 ^ 46)], [(s.engTag e 0, line, none), (t.engTag e 0, (line + 1) % 2 ^ 46, none)],
        by rw [readBytes, ← hline]; dsimp only; rw [first]; dsimp only; rw [if_neg one, second], ?_, ?_, ?_, fun _ => rfl⟩
      · have next := engMsg_next sends taken w.priv 0 opcRD_UC 6 ((line + 1) % 2 ^ 46 * 64) []
        rw [lineRead, next] at sends'
        exact (sends.trans sends').modEngine _
      · rintro _ b rfl rfl next
        rw [← hline, decide_eq_true (by omega)]
        exact ⟨fun has => absurd has no, fun _ => by rw [hline]; rfl⟩
      · have first := Engine.tagged_takeTag (s.engine e)
        rw [← taken] at first
        exact ⟨(t.engine e).takeTag, first.trans (Engine.tagged_takeTag _), by rw [State.engine_modEngine_same, taken']⟩

/-- The line of the piece is here already. -/
theorem readBytes_here {a n : Nat} {v : LineData × Bool} (here : (s.engine e).Here a n v) (w : Work) :
    ∃ r : LineRead, r.2.2 = some v ∧ readBytes s e w a n = (s.modEngine e fun x => { x with last := [r] }, [r]) := by
  obtain ⟨one, r, last, same, data⟩ := here
  rw [← List.getLast?_eq_getElem?] at last
  exact ⟨r, data, by rw [readBytes]; dsimp only; rw [shareLine_shared last same]; dsimp only; rw [if_pos one]⟩

/-! ## The write of a piece (R369) -/

theorem putLine_zero (o n : Nat) : putLine 0 o n 0 = 0 := by
  have none_ (a b : Nat) : putBits 0 a b 0 = 0 := by rw [putBits, bitsOf, Nat.zero_div, Nat.zero_mod, Nat.zero_mul]
  have zero : BitVec.toNat (0 : LineData) = 0 := BitVec.toNat_zero
  rw [putLine, zero, none_]
  exact BitVec.ofNat_eq_ofNat

theorem writePiece_sends (quiet : EnginesNotFollowed s) (e : Nat) {w : Work} (data : w.opc ≠ 3) (a n v : Nat) (bad : Bool) :
    ∃ t, writePiece s e w a n v bad = (t, s.engTag e 0) ∧ EngSends s t e [s.pieceWrite e w.priv a n v bad] ∧ t.engine e = (s.engine e).takeTag := by
  rw [writePiece]
  by_cases whole : n = 64
  · rw [if_pos whole, if_neg data, State.pieceWrite, if_pos whole]
    exact engSend_sends quiet ..
  · rw [if_neg whole, State.pieceWrite, if_neg whole]
    exact engSend_sends quiet ..

/-- Zeros. -/
theorem writePiece_zeros (quiet : EnginesNotFollowed s) (e : Nat) {w : Work} (zero : w.opc = 3) (a n : Nat) :
    ∃ t, writePiece s e w a n 0 false = (t, s.engTag e 0) ∧ EngSends s t e [if n = 64 then s.engMsg e w.priv 0 opcZERO_LINE 0 (a % 2 ^ 52) []
      else s.engMsg e w.priv 0 opcWR_PART 0 (a % 2 ^ 52 / 64 * 64) (partBody (byteMask (a % 2 ^ 52 % 64) n) 0)] ∧ t.engine e = (s.engine e).takeTag := by
  rw [writePiece]
  by_cases whole : n = 64
  · rw [if_pos whole, if_pos zero, if_pos whole]
    exact engSend_sends quiet ..
  · rw [if_neg whole, if_neg whole, putLine_zero]
    exact engSend_sends quiet ..

/-! ## One issue of an engine (R366) -/

theorem EngSends.engWork (h : EngSends s t e ms) (same : (t.engine e).work = (s.engine e).work) : engWork t e = engWork s e := by
  rw [Machine.engWork, Machine.engWork, same]
  rw [h.rest]
  rfl

/-- Where nothing has failed, no job is swept. -/
theorem sweepJobs_none {x : Engine} (fine : x.fail = none) (w : Work) : sweepJobs w x = x := by
  rw [sweepJobs, stopped, fine]
  rfl

/-- An engine whose work is not over goes on. -/
theorem engineGo_goes {d : LineData} (work : engWork s e = some (w, d)) (fine : (s.engine e).fail = none) (more : w.cx = true ∨ workOver w (s.engine e) = false) :
    EngSends s (engineGo s e) e [] ∧ (engineGo s e).engine e = s.engine e := by
  have swept : (s.modEngine e (sweepJobs w)).engine e = s.engine e := by rw [State.engine_modEngine_same, sweepJobs_none fine]
  have go : w.cx = true ∨ workOver w ((s.modEngine e (sweepJobs w)).engine e) = false ∨ w.opc = 12 ∨ w.opc = 10 := by
    rw [swept]
    exact more.imp_right Or.inl
  rw [engineGo, work]
  dsimp only
  rw [if_pos go]
  exact ⟨engSends_modEngine .., swept⟩

/-- An engine may issue: the engine unit is Lit, nothing has failed, there is room in flight, and nothing follows its requests. -/
structure MayIssue (s : State) (e : Nat) (w : Work) : Prop where
  work : ∃ d, engWork s e = some (w, d)
  alive : s.boot.fatal = false ∧ s.domLit 60 = true
  room : (s.engine e).fail = none ∧ inFlight (s.engine e) < 63
  quiet : EnginesNotFollowed s

theorem workOver_jobs {x : Engine} (jobs : x.jobs ≠ []) (w : Work) : workOver w x = false := by
  rw [workOver, List.isEmpty_eq_false_iff.2 jobs]
  rfl

/-- What an engine issues, it issues, and goes on. -/
theorem issue1_issues (may : MayIssue s e w) (more : allIssued w (s.engine e) = false) {u : State}
    (issued : (if isList w.opc = true then issueList s e w else issueRange s e w) = u) (sends : EngSends s u e ms)
    (same : (u.engine e).work = (s.engine e).work) (fine : (u.engine e).fail = none) (going : w.cx = true ∨ workOver w (u.engine e) = false) :
    ∃ t, issue1 s e w.opc = t ∧ EngSends s t e ms ∧ t.engine e = u.engine e := by
  obtain ⟨⟨d, work⟩, ⟨alive, lit⟩, ⟨fail, room⟩, -⟩ := may
  have go : ¬ (w.opc ≠ w.opc ∨ s.boot.fatal = true ∨ s.domLit 60 = false ∨ stopped w (s.engine e) = true ∨ allIssued w (s.engine e) = true ∨
      63 ≤ inFlight (s.engine e)) := by
    rw [alive, lit, more, stopped, fail]
    rintro (c | c | c | c | c | c)
    · exact c rfl
    · exact Bool.noConfusion c
    · exact Bool.noConfusion c
    · exact Bool.noConfusion c
    · exact Bool.noConfusion c
    · omega
  obtain ⟨on, kept⟩ := engineGo_goes ((sends.engWork same).trans work) fine going
  have all := sends.trans on
  rw [List.append_nil] at all
  refine ⟨engineGo u e, ?_, all, kept⟩
  rw [issue1, work]
  dsimp only
  rw [if_neg go, ← issued]
  split
  · rfl
  · rfl

/-! ## A piece (R369) -/

/-- A piece whose line has not come back: its reads go out, and it is one more job. -/
theorem movePiece_waits (quiet : EnginesNotFollowed s) (e : Nat) (w : Work) (src dst room n : Nat) (hn : n = min (64 - dst % 64) room)
    (away : ∀ v, ¬ (s.engine e).Here src n v) : ∃ t ms, movePiece s e w src dst room = (t, n) ∧ EngSends s t e ms ∧ s.PieceReads e w.priv src n ms ∧
      ∃ x l, (s.engine e).Tagged x ∧ t.engine e = { x with last := l, pos := x.pos + n, jobs := x.jobs ++ [⟨(s.engine e).pos, src, dst, n, l, none, false⟩] } := by
  obtain ⟨u, ms, l, read, sends, reads, ⟨x, tagged, engine⟩, waits⟩ := readBytes_reads quiet e w src n
  refine ⟨addJob (u.modEngine e fun x => { x with pos := x.pos + n }) e ⟨(s.engine e).pos, src, dst, n, l, none, false⟩, ms, ?_,
    (sends.modEngine _).modEngine _, reads, x, l, tagged, ?_⟩
  · rw [movePiece, ← hn]
    dsimp only
    rw [read]
    dsimp only
    rw [readsIn]
    dsimp only
    rw [waits away, if_neg Bool.false_ne_true]
  · rw [addJob, State.engine_modEngine_same, State.engine_modEngine_same, engine]

/-- The state in which a piece whose line is here is written. -/
theorem movePiece_here {v : LineData × Bool} (e : Nat) (w : Work) (src dst room n : Nat) (hn : n = min (64 - dst % 64) room)
    (here : (s.engine e).Here src n v) : ∃ t r, movePiece s e w src dst room = (pieceHere t e w ⟨(s.engine e).pos, src, dst, n, [r], none, false⟩, n) ∧
      EngSends s t e [] ∧ t.engine e = { s.engine e with last := [r], pos := (s.engine e).pos + n } ∧
      gotBytes src n [r] = lineBytes v.1 (src % 64) n ∧ readsPoison ⟨(s.engine e).pos, src, dst, n, [r], none, false⟩ = v.2 := by
  obtain ⟨r, data, read⟩ := readBytes_here here w
  refine ⟨(s.modEngine e fun x => { x with last := [r] }).modEngine e fun x => { x with pos := x.pos + n }, r, ?_,
    (engSends_modEngine s e _).modEngine _, ?_, ?_, ?_⟩
  · rw [movePiece, ← hn]
    dsimp only
    rw [read]
    dsimp only
    rw [readsIn, List.all_cons, data]
    rfl
  · rw [State.engine_modEngine_same, State.engine_modEngine_same]
  · obtain ⟨tag, line, _⟩ := r
    cases data
    rfl
  · rw [readsPoison, List.any_cons, data, List.any_nil, Bool.or_false]

end Sys2Proof.Machine
end

section
/-! PROOF. One issue of a data-movement descriptor (R369, R372, R373). -/
namespace Sys2Proof.Machine
open Config

variable {s t u : State} {e n slot : Nat} {d : Desc} {w : Work} {ms : List Msg} {j : Job}

/-! ## The work of a descriptor (R372) -/

theorem workOf_opc (s : State) (n slot : Nat) (d : LineData) : (workOf s n slot d).opc = dfld d 0 1 := by
  unfold workOf
  dsimp only
  split
  · rfl
  · rfl

/-- What a work takes from its descriptor, whatever the operation. -/
theorem workOf_fields (s : State) (n slot : Nat) (d : LineData) : (workOf s n slot d).src = daddr d 8 ∧ (workOf s n slot d).dst = daddr d 16 ∧
    (workOf s n slot d).len = dfld d 24 4 ∧ (workOf s n slot d).pat = BitVec.ofNat 64 (dfld d 32 8) ∧ (workOf s n slot d).priv = inkPriv s n ∧
    (workOf s n slot d).n = n ∧ (workOf s n slot d).slot = slot ∧ (workOf s n slot d).cx = false := by
  unfold workOf
  dsimp only
  split
  · exact ⟨rfl, rfl, rfl, rfl, rfl, rfl, rfl, rfl⟩
  · exact ⟨rfl, rfl, rfl, rfl, rfl, rfl, rfl, rfl⟩

theorem workOf_list (s : State) (n slot : Nat) (d : LineData) : (workOf s n slot d).list = if dfld d 0 1 = 7 then daddr d 16 else daddr d 8 := by
  unfold workOf
  dsimp only
  split
  · rfl
  · rfl

theorem EngineWorks.engWork (h : EngineWorks s e n slot d) : engWork s e = some (workOf s n slot d.raw, d.raw) := by
  rw [Machine.engWork, h.work]
  dsimp only
  rw [h.desc, Option.bind_some, h.going]
  rfl

theorem EngineWorks.mayIssue (h : EngineWorks s e n slot d) : MayIssue s e (workOf s n slot d.raw) :=
  ⟨⟨_, h.engWork⟩, h.alive, h.room, h.quiet⟩

theorem EngSends.engineSent (h : EngSends s t e ms) : EngineSent s t e ms ∧ t.inks = s.inks := by
  have inks : t.inks = s.inks := by rw [h.rest]
  refine ⟨⟨h.sent, h.others, ?_⟩, inks⟩
  rw [inks]
  exact h.rest

theorem moved_of {x y z : Engine} (tagged : x.Tagged z) (fine : x.fail = none) (pos : y.pos = z.pos + j.len) (work : y.work = z.work) (fail : y.fail = z.fail)
    (jobs : y.jobs = z.jobs ++ [j]) (off : j.off = x.pos) : Moved x y j.dst j.len := by
  obtain ⟨_, _, rfl⟩ := tagged
  exact ⟨pos, work, fail.trans fine, j, jobs, rfl, rfl, off⟩

/-! ## Data ranges (R372) -/

theorem issueRange_copy (opc : w.opc = 1) : issueRange s e w =
    (movePiece s e w (w.src + (s.engine e).pos) (w.dst + (s.engine e).pos) (w.len - (s.engine e).pos)).1 := by
  unfold issueRange
  rw [opc] <;> rfl

theorem issueRange_fill (opc : w.opc = 2 ∨ w.opc = 3) {k v : Nat} (hk : k = min (64 - (w.dst + (s.engine e).pos) % 64) (w.len - (s.engine e).pos))
    (hv : v = if w.opc = 3 then 0 else patternValue w.pat (s.engine e).pos k) {t : State} {g : Tag}
    (written : writePiece s e w (w.dst + (s.engine e).pos) k v false = (t, g)) : issueRange s e w =
    addJob (t.modEngine e fun x => { x with pos := x.pos + k }) e ⟨(s.engine e).pos, 0, w.dst + (s.engine e).pos, k, [], some g, false⟩ := by
  rw [hv] at written
  unfold issueRange
  rcases opc with opc | opc
  · rw [opc] at written ⊢
    dsimp only
    rw [← hk, written] <;> rfl
  · rw [opc] at written ⊢
    dsimp only
    rw [← hk, written] <;> rfl

theorem issueRange_compare (opc : w.opc = 4) {k : Nat}
    (hk : k = min (min (64 - (w.src + (s.engine e).pos) % 64) (64 - (w.dst + (s.engine e).pos) % 64)) (w.len - (s.engine e).pos)) {t u : State} {r q : LineRead}
    (first : shareLine s e w ((w.src + (s.engine e).pos) / 64) (s.engine e).last[0]? = (t, r))
    (second : shareLine t e w ((w.dst + (s.engine e).pos) / 64) (s.engine e).last[1]? = (u, q)) : issueRange s e w =
    addJob (u.modEngine e fun x => { x with pos := x.pos + k, last := [r, q] }) e
      ⟨(s.engine e).pos, w.src + (s.engine e).pos, w.dst + (s.engine e).pos, k, [r, q], none, false⟩ := by
  unfold issueRange
  rw [opc]
  dsimp only
  rw [first]
  dsimp only
  rw [second, ← hk] <;> rfl

theorem issueRange_crc (opc : w.opc = 5) {k : Nat} (hk : k = min (64 - (w.src + (s.engine e).pos) % 64) (w.len - (s.engine e).pos)) {t : State}
    {l : List LineRead} (read : readBytes s e w (w.src + (s.engine e).pos) k = (t, l)) : issueRange s e w =
    addJob (t.modEngine e fun x => { x with pos := x.pos + k }) e ⟨(s.engine e).pos, w.src + (s.engine e).pos, 0, k, l, none, false⟩ := by
  unfold issueRange
  rw [opc]
  dsimp only
  rw [← hk, read] <;> rfl

/-- A range of which something is left. -/
theorem allIssued_range {x : Engine} (list : isList w.opc = false) (msg : w.opc ≠ 11) (more : x.pos < w.len) : allIssued w x = false := by
  rw [allIssued, list, if_neg Bool.false_ne_true, if_neg msg, decide_eq_false (Nat.not_le_of_lt more)]

/-- The data of a piece is written (R369). -/
theorem pieceHere_writes (quiet : EnginesNotFollowed s) (e : Nat) (copy : w.opc = 1) (j : Job) : EngSends s (pieceHere s e w j) e
      [s.pieceWrite e w.priv j.dst j.len (gotBytes j.src j.len j.reads) (readsPoison j)] ∧
    ∃ g, (pieceHere s e w j).engine e = { (s.engine e).takeTag with jobs := (s.engine e).jobs ++ [{ j with wr := some g }] } := by
  obtain ⟨t, written, sends, taken⟩ := writePiece_sends quiet e (by rw [copy]; decide : w.opc ≠ 3) j.dst j.len (gotBytes j.src j.len j.reads) (readsPoison j)
  have eq : pieceHere s e w j = addJob t e { j with wr := some (s.engTag e 0) } := by
    rw [pieceHere]
    dsimp only
    rw [if_neg (by rw [copy]; decide), if_neg (by rw [copy]; decide), written]
  rw [eq]
  exact ⟨sends.modEngine _, _, by rw [addJob, State.engine_modEngine_same, taken]; rfl⟩

theorem pieceWrite_same (h : EngSends s t e ms) (tags : (t.engine e).tags = (s.engine e).tags ∧ (t.engine e).tagCtr = (s.engine e).tagCtr) (priv : Bool)
    (a k v : Nat) (bad : Bool) : t.pieceWrite e priv a k v bad = s.pieceWrite e priv a k v bad := by
  rw [State.pieceWrite, State.pieceWrite, engMsg_same h tags, engMsg_same h tags]

/-- A piece of a COPY: read, or written where its line is here (R369). -/
theorem copy_issues (may : MayIssue s e w) (opc : w.opc = 1) (more : (s.engine e).pos < w.len) {k : Nat}
    (hk : k = min (64 - (w.dst + (s.engine e).pos) % 64) (w.len - (s.engine e).pos)) :
    ((∀ v, ¬ (s.engine e).Here (w.src + (s.engine e).pos) k v) → ∃ t ms, issue1 s e 1 = t ∧ s.PieceReads e w.priv (w.src + (s.engine e).pos) k ms ∧
      EngSends s t e ms ∧ Moved (s.engine e) (t.engine e) (w.dst + (s.engine e).pos) k) ∧
    ∀ l bad, (s.engine e).Here (w.src + (s.engine e).pos) k (l, bad) → ∃ t, issue1 s e 1 = t ∧
      Moved (s.engine e) (t.engine e) (w.dst + (s.engine e).pos) k ∧
      EngSends s t e [s.pieceWrite e w.priv (w.dst + (s.engine e).pos) k (lineBytes l ((w.src + (s.engine e).pos) % 64) k) bad] := by
  have range : isList w.opc = false := by rw [opc]; rfl
  have left := allIssued_range range (by rw [opc]; decide) more
  have goes {u : State} {ms : List Msg} (h : issueRange s e w = u) := issue1_issues (u := u) (ms := ms) may left (by rw [range, if_neg Bool.false_ne_true]; exact h)
  refine ⟨fun away => ?_, fun l bad here => ?_⟩
  · obtain ⟨u, ms, moved, sends, reads, x, r, tagged, engine⟩ := movePiece_waits may.quiet e w _ _ _ k hk away
    obtain ⟨t, issued, sends, kept⟩ := goes ((issueRange_copy opc).trans (congrArg Prod.fst moved)) sends
      (by obtain ⟨_, _, rfl⟩ := tagged; rw [engine]) (by obtain ⟨_, _, rfl⟩ := tagged; rw [engine]; exact may.room.1)
      (Or.inr (workOver_jobs (by rw [engine]; exact List.append_ne_nil_of_right_ne_nil _ (List.cons_ne_nil _ _)) w))
    refine ⟨t, ms, opc ▸ issued, reads, sends, ?_⟩
    rw [kept, engine]
    exact moved_of (j := ⟨(s.engine e).pos, w.src + (s.engine e).pos, w.dst + (s.engine e).pos, k, r, none, false⟩) tagged may.room.1 rfl rfl rfl rfl rfl
  · obtain ⟨v, r, moved, still, engine, bytes, poison⟩ := movePiece_here e w _ _ _ k hk here
    obtain ⟨sends, g, after⟩ := pieceHere_writes (still.quiet may.quiet) e opc ⟨(s.engine e).pos, w.src + (s.engine e).pos, w.dst + (s.engine e).pos, k, [r], none, false⟩
    have sends := still.trans sends
    rw [engine] at after
    dsimp only at sends
    rw [bytes, poison, pieceWrite_same still (by rw [engine]; exact ⟨rfl, rfl⟩), List.nil_append] at sends
    obtain ⟨t, issued, sends, kept⟩ := goes ((issueRange_copy opc).trans (congrArg Prod.fst moved)) sends
      (by rw [after]; rfl) (by rw [after]; exact may.room.1)
      (Or.inr (workOver_jobs (by rw [after]; exact List.append_ne_nil_of_right_ne_nil _ (List.cons_ne_nil _ _)) w))
    refine ⟨t, opc ▸ issued, ?_, sends⟩
    rw [kept, after]
    exact moved_of (j := ⟨(s.engine e).pos, w.src + (s.engine e).pos, w.dst + (s.engine e).pos, k, [r], some g, false⟩) (.refl _) may.room.1 rfl rfl rfl rfl rfl

/-- Some further job. -/
theorem jobs_more {l : List Job} (j : Job) : l ++ [j] ≠ [] := List.append_ne_nil_of_right_ne_nil _ (List.cons_ne_nil _ _)

/-- The end of an issue that has added a job. -/
theorem range_issues (may : MayIssue s e w) (range : isList w.opc = false) (msg : w.opc ≠ 11) (more : (s.engine e).pos < w.len) {k : Nat} {l : List LineRead}
    (issued : issueRange s e w = u) (sends : EngSends s u e ms) {z : Engine} (tagged : (s.engine e).Tagged z)
    (after : u.engine e = { z with last := l, pos := z.pos + k, jobs := z.jobs ++ [j] }) (len : j.len = k) (off : j.off = (s.engine e).pos) :
    ∃ t, issue1 s e w.opc = t ∧ EngSends s t e ms ∧ Moved (s.engine e) (t.engine e) j.dst k := by
  obtain ⟨_, _, hz⟩ := id tagged
  obtain ⟨t, run, sends, kept⟩ := issue1_issues may (allIssued_range range msg more) (by rw [range, if_neg Bool.false_ne_true]; exact issued) sends
    (by rw [after, hz]) (by rw [after, hz]; exact may.room.1) (Or.inr (workOver_jobs (by rw [after]; exact jobs_more _) w))
  refine ⟨t, run, sends, ?_⟩
  rw [kept, after, ← len]
  exact moved_of tagged may.room.1 rfl rfl rfl rfl off

/-- A piece of a FILL or ZERO is written (R369). -/
theorem fill_issues (may : MayIssue s e w) (opc : w.opc = 2 ∨ w.opc = 3) (more : (s.engine e).pos < w.len) {k v : Nat}
    (hk : k = min (64 - (w.dst + (s.engine e).pos) % 64) (w.len - (s.engine e).pos))
    (hv : v = if w.opc = 3 then 0 else patternValue w.pat (s.engine e).pos k) {m : Msg}
    (written : ∃ t, writePiece s e w (w.dst + (s.engine e).pos) k v false = (t, s.engTag e 0) ∧ EngSends s t e [m] ∧ t.engine e = (s.engine e).takeTag) :
    ∃ t, issue1 s e w.opc = t ∧ EngSends s t e [m] ∧ Moved (s.engine e) (t.engine e) (w.dst + (s.engine e).pos) k := by
  obtain ⟨u, written, sends, taken⟩ := written
  have range : isList w.opc = false := by rcases opc with opc | opc <;> rw [opc] <;> rfl
  have msg : w.opc ≠ 11 := by rcases opc with opc | opc <;> rw [opc] <;> decide
  refine range_issues (l := (s.engine e).last) (j := ⟨(s.engine e).pos, 0, w.dst + (s.engine e).pos, k, [], some (s.engTag e 0), false⟩) may range msg more
    (issueRange_fill opc hk hv written) ((sends.modEngine _).modEngine _) (Engine.tagged_takeTag _) ?_ rfl rfl
  rw [addJob, State.engine_modEngine_same, State.engine_modEngine_same, taken]
  rfl

/-- The lines of a COMPARE's piece, of which the piece before may have read either (R369). -/
theorem compare_reads (quiet : EnginesNotFollowed s) (e : Nat) (w : Work) (a b : Nat) : ∃ t u r q ms,
    shareLine s e w a (s.engine e).last[0]? = (t, r) ∧ shareLine t e w b (s.engine e).last[1]? = (u, q) ∧ EngSends s u e ms ∧
    (s.engine e).Tagged (u.engine e) ∧ ((s.engine e).hasLine 0 a → (s.engine e).hasLine 1 b → ms = []) ∧
    ((s.engine e).hasLine 0 a → ¬ (s.engine e).hasLine 1 b → ms = [lineRead s e w 0 b]) ∧
    (¬ (s.engine e).hasLine 0 a → (s.engine e).hasLine 1 b → ms = [lineRead s e w 0 a]) ∧
    (¬ (s.engine e).hasLine 0 a → ¬ (s.engine e).hasLine 1 b → ms = [lineRead s e w 0 a, lineRead s e w 1 b]) := by
  by_cases first : (s.engine e).hasLine 0 a
  · obtain ⟨r, at_, same⟩ := id first
    by_cases second : (s.engine e).hasLine 1 b
    · obtain ⟨q, at1, same1⟩ := id second
      exact ⟨s, s, r, q, [], shareLine_shared at_ same s e w, shareLine_shared at1 same1 s e w, .refl s e, .refl _, fun _ _ => rfl,
        fun _ no => absurd second no, fun no => absurd first no, fun no => absurd first no⟩
    · obtain ⟨u, new, sends, taken⟩ := shareLine_new (before := (s.engine e).last[1]?) quiet (fun q h c => second ⟨q, h, c⟩) e w
      exact ⟨s, u, r, _, _, shareLine_shared at_ same s e w, new, sends, taken ▸ Engine.tagged_takeTag _, fun _ yes => absurd yes second,
        fun _ _ => rfl, fun no => absurd first no, fun no => absurd first no⟩
  · obtain ⟨t, new, sends, taken⟩ := shareLine_new (before := (s.engine e).last[0]?) quiet (fun q h c => first ⟨q, h, c⟩) e w
    by_cases second : (s.engine e).hasLine 1 b
    · obtain ⟨q, at1, same1⟩ := id second
      exact ⟨t, t, _, q, _, new, shareLine_shared at1 same1 t e w, sends, taken ▸ Engine.tagged_takeTag _, fun yes => absurd yes first, fun yes => absurd yes first,
        fun _ _ => rfl, fun _ no => absurd second no⟩
    · obtain ⟨u, new', sends', taken'⟩ := shareLine_new (before := (s.engine e).last[1]?) (sends.quiet quiet) (fun q h c => second ⟨q, h, c⟩) e w
      have next := engMsg_next sends taken w.priv 0 opcRD_UC 6 (b * 64) []
      rw [lineRead, next] at sends'
      have tagged := Engine.tagged_takeTag (s.engine e)
      rw [← taken] at tagged
      exact ⟨t, u, _, _, _, new, new', sends.trans sends', tagged.trans (taken' ▸ Engine.tagged_takeTag _), fun yes => absurd yes first, fun yes => absurd yes first,
        fun _ yes => absurd yes second, fun _ _ => rfl⟩

/-- A job that only reads is added. -/
theorem added_after {x : Engine} {l : List LineRead} (k : Nat) (tagged : (s.engine e).Tagged x) (engine : u.engine e = { x with last := l }) (j : Job) :
    ∃ z, (s.engine e).Tagged z ∧ (addJob (u.modEngine e fun x => { x with pos := x.pos + k }) e j).engine e =
      { z with last := l, pos := z.pos + k, jobs := z.jobs ++ [j] } :=
  ⟨x, tagged, by rw [addJob, State.engine_modEngine_same, State.engine_modEngine_same, engine]⟩

theorem compare_issues (may : MayIssue s e w) (opc : w.opc = 4) (more : (s.engine e).pos < w.len) {k : Nat}
    (hk : k = min (min (64 - (w.src + (s.engine e).pos) % 64) (64 - (w.dst + (s.engine e).pos) % 64)) (w.len - (s.engine e).pos))
    {a b : Nat} (ha : a = (w.src + (s.engine e).pos) / 64) (hb : b = (w.dst + (s.engine e).pos) / 64) :
    ∃ t ms, issue1 s e 4 = t ∧ Moved (s.engine e) (t.engine e) (w.dst + (s.engine e).pos) k ∧ EngSends s t e ms ∧
      ((s.engine e).hasLine 0 a → (s.engine e).hasLine 1 b → ms = []) ∧
      ((s.engine e).hasLine 0 a → ¬ (s.engine e).hasLine 1 b → ms = [lineRead s e w 0 b]) ∧
      (¬ (s.engine e).hasLine 0 a → (s.engine e).hasLine 1 b → ms = [lineRead s e w 0 a]) ∧
      (¬ (s.engine e).hasLine 0 a → ¬ (s.engine e).hasLine 1 b → ms = [lineRead s e w 0 a, lineRead s e w 1 b]) := by
  obtain ⟨v, u, r, q, ms, first, second, sends, tagged, messages⟩ := compare_reads may.quiet e w a b
  rw [ha] at first
  rw [hb] at second
  obtain ⟨t, run, sends, moved⟩ := range_issues (l := [r, q]) (j := ⟨(s.engine e).pos, w.src + (s.engine e).pos, w.dst + (s.engine e).pos, k, [r, q], none, false⟩)
    may (by rw [opc]; rfl) (by rw [opc]; decide) more (issueRange_compare opc hk first second) ((sends.modEngine _).modEngine _) tagged
    (by rw [addJob, State.engine_modEngine_same, State.engine_modEngine_same]) rfl rfl
  exact ⟨t, ms, opc ▸ run, moved, sends, messages⟩

theorem crc_issues (may : MayIssue s e w) (opc : w.opc = 5) (more : (s.engine e).pos < w.len) {k : Nat}
    (hk : k = min (64 - (w.src + (s.engine e).pos) % 64) (w.len - (s.engine e).pos)) :
    ∃ t ms, issue1 s e 5 = t ∧ s.PieceReads e w.priv (w.src + (s.engine e).pos) k ms ∧ EngSends s t e ms ∧ Moved (s.engine e) (t.engine e) 0 k := by
  obtain ⟨u, ms, l, read, sends, reads, ⟨x, tagged, engine⟩, -⟩ := readBytes_reads may.quiet e w (w.src + (s.engine e).pos) k
  obtain ⟨z, tagged, after⟩ := added_after k tagged engine ⟨(s.engine e).pos, w.src + (s.engine e).pos, 0, k, l, none, false⟩
  obtain ⟨t, run, sends, moved⟩ := range_issues may (by rw [opc]; rfl) (by rw [opc]; decide) more (issueRange_crc opc hk read) ((sends.modEngine _).modEngine _)
    tagged after rfl rfl
  exact ⟨t, ms, opc ▸ run, reads, sends, moved⟩

end Sys2Proof.Machine
end

section
/-! PROOF. One issue of a list operation (R369, R373): a piece of an element, the read of an entry's line, an entry's own request. -/
namespace Sys2Proof.Machine
open Config

variable {s t u : State} {e n slot : Nat} {d : Desc} {w : Work} {ms : List Msg} {j : Job}

/-! ## A piece of an element (R369, R372) -/

theorem issueList_elem {a l i k : Nat} (elem : (s.engine e).elem = some (a, l, i)) (less : i < l) {t : State}
    (moved : (if w.opc = 6 then movePiece s e w (a + i) (w.dst + (s.engine e).pos) (l - i) else movePiece s e w (w.src + (s.engine e).pos) (a + i) (l - i)) = (t, k)) :
    issueList s e w = t.modEngine e fun x => { x with elem := some (a, l, i + k) } := by
  rw [issueList, elem]
  dsimp only
  rw [if_pos less, moved]

theorem allIssued_elem {x : Engine} {a l i : Nat} (list : isList w.opc = true) (elem : x.elem = some (a, l, i)) (less : i < l) : allIssued w x = false := by
  rw [allIssued, list, if_pos rfl, elem]
  dsimp only
  rw [decide_eq_false (Nat.not_le_of_lt less), Bool.and_false]

/-- The end of an issue from an element in hand. -/
theorem elem_issues (may : MayIssue s e w) (list : isList w.opc = true) {a l i k : Nat} (elem : (s.engine e).elem = some (a, l, i)) (less : i < l) {u : State}
    (moved : (if w.opc = 6 then movePiece s e w (a + i) (w.dst + (s.engine e).pos) (l - i) else movePiece s e w (w.src + (s.engine e).pos) (a + i) (l - i)) = (u, k))
    (sends : EngSends s u e ms) (same : (u.engine e).work = (s.engine e).work) (fine : (u.engine e).fail = none)
    (going : (u.engine e).jobs ≠ [] ∨ (u.engine e).elems ≠ []) : ∃ t, issue1 s e w.opc = t ∧ EngSends s t e ms ∧
      t.engine e = { u.engine e with elem := some (a, l, i + k) } := by
  have after := State.engine_modEngine_same u e fun x => { x with elem := some (a, l, i + k) }
  have more : workOver w { u.engine e with elem := some (a, l, i + k) } = false := by
    rcases going with jobs | elems
    · exact workOver_jobs (x := { u.engine e with elem := some (a, l, i + k) }) jobs w
    · rw [workOver, stopped, allIssued]
      dsimp only
      rw [fine, list, if_pos rfl, List.isEmpty_eq_false_iff.2 elems, Bool.and_false]
      rw [Bool.false_and, Bool.false_or, Bool.and_false]
  obtain ⟨t, run, sends, kept⟩ := issue1_issues may (allIssued_elem list elem less) (by rw [list, if_pos rfl]; exact issueList_elem elem less moved)
    (sends.modEngine _) (by rw [after]; exact same) (by rw [after]; exact fine) (Or.inr (by rw [after]; exact more))
  exact ⟨t, run, sends, kept.trans after⟩

/-- A piece of an element whose line has not come back. -/
theorem elem_waits (may : MayIssue s e w) (list : isList w.opc = true) {a l i k src dst : Nat} (elem : (s.engine e).elem = some (a, l, i)) (less : i < l)
    (route : (if w.opc = 6 then movePiece s e w (a + i) (w.dst + (s.engine e).pos) (l - i) else movePiece s e w (w.src + (s.engine e).pos) (a + i) (l - i)) =
      movePiece s e w src dst (l - i)) (hk : k = min (64 - dst % 64) (l - i)) (away : ∀ v, ¬ (s.engine e).Here src k v) :
    ∃ t ms, issue1 s e w.opc = t ∧ s.PieceReads e w.priv src k ms ∧ EngSends s t e ms ∧ Moved (s.engine e) (t.engine e) dst k ∧
      (t.engine e).elem = some (a, l, i + k) := by
  obtain ⟨u, ms, moved, sends, reads, x, r, tagged, engine⟩ := movePiece_waits may.quiet e w src dst (l - i) k hk away
  obtain ⟨_, _, hx⟩ := id tagged
  obtain ⟨t, run, sends, kept⟩ := elem_issues may list elem less (route.trans moved) sends (by rw [engine, hx]) (by rw [engine, hx]; exact may.room.1)
    (Or.inl (by rw [engine]; exact jobs_more _))
  refine ⟨t, ms, run, reads, sends, ?_, by rw [kept]⟩
  rw [kept, engine]
  exact moved_of (j := ⟨(s.engine e).pos, src, dst, k, r, none, false⟩) tagged may.room.1 rfl rfl rfl rfl rfl

/-- Bytes that the descriptor has not written are as they were read (R372). -/
theorem mixReads_plain {a k : Nat} (plain : coveredBytes (s.engine e).wrote a k = 0) (v : Nat) : mixReads s e a k v = (s, v) := by
  rw [mixReads]
  dsimp only
  rw [if_pos plain]

/-- A piece of a SCATTER over bytes that it has not written is written (R372). -/
theorem scatter_writes (quiet : EnginesNotFollowed s) (e : Nat) (opc : w.opc = 7) (j : Job) (src : coveredBytes (s.engine e).wrote j.src j.len = 0)
    (dst : coveredBytes (s.engine e).wrote j.dst j.len = 0) : EngSends s (pieceHere s e w j) e
      [s.pieceWrite e w.priv j.dst j.len (gotBytes j.src j.len j.reads) (readsPoison j)] ∧
    ∃ g l, (pieceHere s e w j).engine e = { (s.engine e).takeTag with wrote := l, jobs := (s.engine e).jobs ++ [{ j with wr := some g }] } := by
  have noted := engSends_modEngine s e fun x => { x with wrote := (j.dst, j.len, gotBytes j.src j.len j.reads) :: x.wrote }
  have engine := State.engine_modEngine_same s e fun x => { x with wrote := (j.dst, j.len, gotBytes j.src j.len j.reads) :: x.wrote }
  have whole : pieceHere s e w j = (let r := writePiece (noteWrite s e j.dst j.len (gotBytes j.src j.len j.reads)) e w j.dst j.len (gotBytes j.src j.len j.reads) (readsPoison j)
      addJob r.1 e { j with wr := some r.2 }) := by
    rw [pieceHere]
    dsimp only
    rw [if_neg (by rw [opc]; decide), if_pos opc, writeElement, mixReads_plain src]
    dsimp only
    rw [if_pos dst]
  rw [noteWrite] at whole
  generalize s.modEngine e _ = v at noted engine whole
  obtain ⟨t, written, sends, taken⟩ := writePiece_sends (noted.quiet quiet) e (by rw [opc]; decide : w.opc ≠ 3) j.dst j.len (gotBytes j.src j.len j.reads) (readsPoison j)
  rw [written] at whole
  rw [pieceWrite_same noted (by rw [engine]; exact ⟨rfl, rfl⟩)] at sends
  rw [whole]
  refine ⟨(noted.trans sends).modEngine _, v.engTag e 0, (j.dst, j.len, gotBytes j.src j.len j.reads) :: (s.engine e).wrote, ?_⟩
  rw [addJob, State.engine_modEngine_same, taken, engine]
  rfl

/-- A piece of a GATHER is here, which completes its destination line (R369). -/
theorem gather_writes (quiet : EnginesNotFollowed s) (e : Nat) (opc : w.opc = 6) (j : Job) (src : coveredBytes (s.engine e).wrote j.src j.len = 0)
    (gath : (s.engine e).gath = []) {lo hi : Nat} (hlo : lo = j.dst / 64 * 64 - w.dst) (hhi : hi = min (j.dst / 64 * 64 + 64 - w.dst) (s.engine e).total)
    (first : j.off = lo) (whole : j.len = hi - lo) (some_ : 0 < j.len) (here : w.dst + lo = j.dst) : EngSends s (pieceHere s e w j) e
      [s.pieceWrite e w.priv j.dst j.len (gotBytes j.src j.len j.reads) (readsPoison j)] ∧
    ∃ g l m, (pieceHere s e w j).engine e = { (s.engine e).takeTag with gath := l, wrote := m, jobs := (s.engine e).jobs ++ [⟨lo, 0, j.dst, j.len, [], some g, false⟩] } := by
  have inside : (decide (lo ≤ j.off) && decide (j.off < hi)) = true := by
    rw [decide_eq_true (by omega), decide_eq_true (by omega)]
    rfl
  obtain ⟨v, hv⟩ : ∃ v, v = gotBytes j.src j.len j.reads := ⟨_, rfl⟩
  have kept : [(j.off, j.len, v, readsPoison j)].filter (fun g => decide (lo ≤ g.1) && decide (g.1 < hi)) = [(j.off, j.len, v, readsPoison j)] :=
    List.filter_cons_of_pos inside
  have gone : [(j.off, j.len, v, readsPoison j)].filter (fun g => !(decide (lo ≤ g.1) && decide (g.1 < hi))) = [] :=
    List.filter_cons_of_neg (by rw [inside]; exact Bool.false_ne_true)
  have value : 0 + 2 ^ (8 * (j.off - lo)) * v = v := by rw [first, Nat.sub_self, Nat.mul_zero, Nat.pow_zero, Nat.one_mul, Nat.zero_add]
  have whole : pieceHere s e w j = (let r := writePiece (noteWrite (s.modEngine e fun x => { x with gath := [] }) e j.dst j.len v) e w j.dst j.len v (readsPoison j)
      addJob r.1 e ⟨lo, 0, j.dst, j.len, [], some r.2, false⟩) := by
    rw [pieceHere]
    dsimp only
    rw [if_pos opc, gatherPiece, mixReads_plain src]
    dsimp only
    rw [← hlo, ← hhi, gath, ← hv, kept, gone, List.foldl_cons, List.foldl_nil, if_neg (by dsimp only; omega), List.foldl_cons, List.foldl_nil, value, here, ← whole,
      List.any_cons, List.any_nil, Bool.or_false]
  have emptied := (engSends_modEngine s e fun x => { x with gath := [] }).modEngine fun x => { x with wrote := (j.dst, j.len, v) :: x.wrote }
  have engine : ((s.modEngine e fun x => { x with gath := [] }).modEngine e fun x => { x with wrote := (j.dst, j.len, v) :: x.wrote }).engine e =
      { s.engine e with gath := [], wrote := (j.dst, j.len, v) :: (s.engine e).wrote } := by rw [State.engine_modEngine_same, State.engine_modEngine_same]
  rw [noteWrite] at whole
  generalize (s.modEngine e _).modEngine e _ = q at emptied engine whole
  obtain ⟨t, written, sends, taken⟩ := writePiece_sends (emptied.quiet quiet) e (by rw [opc]; decide : w.opc ≠ 3) j.dst j.len v (readsPoison j)
  rw [written] at whole
  rw [pieceWrite_same emptied (by rw [engine]; exact ⟨rfl, rfl⟩)] at sends
  rw [whole, ← hv]
  refine ⟨(emptied.trans sends).modEngine _, q.engTag e 0, [], (j.dst, j.len, v) :: (s.engine e).wrote, ?_⟩
  rw [addJob, State.engine_modEngine_same, taken, engine]
  rfl

/-- A piece of a GATHER is here, and its destination line wants more (R369). -/
theorem gather_keeps (e : Nat) (opc : w.opc = 6) (j : Job) (src : coveredBytes (s.engine e).wrote j.src j.len = 0)
    (gath : (s.engine e).gath = []) {lo hi : Nat} (hlo : lo = j.dst / 64 * 64 - w.dst) (hhi : hi = min (j.dst / 64 * 64 + 64 - w.dst) (s.engine e).total)
    (part : j.len < hi - lo) : pieceHere s e w j = s.modEngine e fun x => { x with gath := [(j.off, j.len, gotBytes j.src j.len j.reads, readsPoison j)] } := by
  rw [pieceHere]
  dsimp only
  rw [if_pos opc, gatherPiece, mixReads_plain src]
  dsimp only
  rw [← hlo, ← hhi, gath, if_pos]
  refine Nat.lt_of_le_of_lt ?_ part
  rw [List.filter_cons]
  split
  · exact Nat.le_of_eq (Nat.zero_add _)
  · exact Nat.zero_le _

/-- A piece of a SCATTER whose line is here. -/
theorem scatter_issues (may : MayIssue s e w) (opc : w.opc = 7) {a l i k : Nat} (elem : (s.engine e).elem = some (a, l, i)) (less : i < l)
    (hk : k = min (64 - (a + i) % 64) (l - i)) {f : LineData} {bad : Bool} (here : (s.engine e).Here (w.src + (s.engine e).pos) k (f, bad))
    (src : coveredBytes (s.engine e).wrote (w.src + (s.engine e).pos) k = 0) (dst : coveredBytes (s.engine e).wrote (a + i) k = 0) :
    ∃ t, issue1 s e w.opc = t ∧ Moved (s.engine e) (t.engine e) (a + i) k ∧ (t.engine e).elem = some (a, l, i + k) ∧
      EngSends s t e [s.pieceWrite e w.priv (a + i) k (lineBytes f ((w.src + (s.engine e).pos) % 64) k) bad] := by
  have list : isList w.opc = true := by rw [opc]; rfl
  obtain ⟨v, r, moved, still, engine, bytes, poison⟩ := movePiece_here e w _ (a + i) (l - i) k hk here
  obtain ⟨sends, g, m, after⟩ := scatter_writes (still.quiet may.quiet) e opc ⟨(s.engine e).pos, w.src + (s.engine e).pos, a + i, k, [r], none, false⟩
    (by rw [engine]; exact src) (by rw [engine]; exact dst)
  have sends := still.trans sends
  rw [engine] at after
  dsimp only at sends
  rw [bytes, poison, pieceWrite_same still (by rw [engine]; exact ⟨rfl, rfl⟩), List.nil_append] at sends
  obtain ⟨t, run, sends, kept⟩ := elem_issues may list elem less (by rw [if_neg (by rw [opc]; decide)]; exact moved) sends
    (by rw [after]; rfl) (by rw [after]; exact may.room.1) (Or.inl (by rw [after]; exact jobs_more _))
  refine ⟨t, run, ?_, by rw [kept], sends⟩
  rw [kept, after]
  exact moved_of (j := ⟨(s.engine e).pos, w.src + (s.engine e).pos, a + i, k, [r], some g, false⟩) (.refl _) may.room.1 rfl rfl rfl rfl rfl

/-- A piece of a GATHER whose line is here: its destination line is written, where it is whole, else the piece waits. -/
theorem gather_issues (may : MayIssue s e w) (opc : w.opc = 6) {a l i k : Nat} (elem : (s.engine e).elem = some (a, l, i)) (less : i < l)
    (hk : k = min (64 - (w.dst + (s.engine e).pos) % 64) (l - i)) {f : LineData} {bad : Bool} (here : (s.engine e).Here (a + i) k (f, bad))
    (src : coveredBytes (s.engine e).wrote (a + i) k = 0) (gath : (s.engine e).gath = []) {v lo hi : Nat} (hv : v = lineBytes f ((a + i) % 64) k)
    (hlo : lo = (w.dst + (s.engine e).pos) / 64 * 64 - w.dst) (hhi : hi = min ((w.dst + (s.engine e).pos) / 64 * 64 + 64 - w.dst) (s.engine e).total) :
    ((s.engine e).pos = lo → k = hi - lo → ∃ t, issue1 s e w.opc = t ∧ Moved (s.engine e) (t.engine e) (w.dst + (s.engine e).pos) k ∧
      (t.engine e).elem = some (a, l, i + k) ∧ EngSends s t e [s.pieceWrite e w.priv (w.dst + (s.engine e).pos) k v bad]) ∧
    (k < hi - lo → (s.engine e).elems ≠ [] → ∃ t, issue1 s e w.opc = t ∧ (t.engine e).pos = (s.engine e).pos + k ∧
      (t.engine e).gath = [((s.engine e).pos, k, v, bad)] ∧ (t.engine e).elem = some (a, l, i + k) ∧ EngSends s t e []) := by
  have list : isList w.opc = true := by rw [opc]; rfl
  obtain ⟨u, r, moved, still, engine, bytes, poison⟩ := movePiece_here e w (a + i) _ (l - i) k hk here
  have route : (if w.opc = 6 then movePiece s e w (a + i) (w.dst + (s.engine e).pos) (l - i) else movePiece s e w (w.src + (s.engine e).pos) (a + i) (l - i)) = _ :=
    (if_pos opc).trans moved
  refine ⟨fun first whole => ?_, fun part more => ?_⟩
  · obtain ⟨sends, g, m, q, after⟩ := gather_writes (still.quiet may.quiet) e opc ⟨(s.engine e).pos, a + i, w.dst + (s.engine e).pos, k, [r], none, false⟩
      (by rw [engine]; exact src) (by rw [engine]; exact gath) hlo (by rw [engine]; exact hhi) first whole (by dsimp only; omega) (by rw [first])
    have sends := still.trans sends
    rw [engine] at after
    dsimp only at sends
    rw [bytes, poison, pieceWrite_same still (by rw [engine]; exact ⟨rfl, rfl⟩), List.nil_append, ← hv] at sends
    obtain ⟨t, run, sends, kept⟩ := elem_issues may list elem less route sends
      (by rw [after]; rfl) (by rw [after]; exact may.room.1) (Or.inl (by rw [after]; exact jobs_more _))
    refine ⟨t, run, ?_, by rw [kept], sends⟩
    rw [kept, after]
    exact moved_of (j := ⟨lo, 0, w.dst + (s.engine e).pos, k, [], some g, false⟩) (.refl _) may.room.1 rfl rfl rfl rfl first.symm
  · have keeps := gather_keeps e opc ⟨(s.engine e).pos, a + i, w.dst + (s.engine e).pos, k, [r], none, false⟩ (s := u)
      (by rw [engine]; exact src) (by rw [engine]; exact gath) hlo (by rw [engine]; exact hhi) part
    have after : (pieceHere u e w ⟨(s.engine e).pos, a + i, w.dst + (s.engine e).pos, k, [r], none, false⟩).engine e =
        { s.engine e with last := [r], pos := (s.engine e).pos + k, gath := [((s.engine e).pos, k, v, bad)] } := by
      rw [keeps, State.engine_modEngine_same, engine, bytes, poison, hv]
    have sends := still.modEngine fun x => { x with gath := [((s.engine e).pos, k, gotBytes (a + i) k [r],
      readsPoison ⟨(s.engine e).pos, a + i, w.dst + (s.engine e).pos, k, [r], none, false⟩)] }
    rw [← keeps] at sends
    obtain ⟨t, run, sends, kept⟩ := elem_issues may list elem less route sends (by rw [after]) (by rw [after]; exact may.room.1) (Or.inr (by rw [after]; exact more))
    exact ⟨t, run, by rw [kept, after], by rw [kept, after], by rw [kept], sends⟩

/-! ## The entries of a list (R373) -/

theorem issueList_entry (none_ : (s.engine e).elem = none) (more : (s.engine e).next < w.len) : issueList s e w = takeEntry s e w := by
  rw [issueList, none_]
  dsimp only
  rw [if_pos more]

theorem allIssued_entry {x : Engine} (list : isList w.opc = true) (more : x.next < w.len) : allIssued w x = false := by
  rw [allIssued, list, if_pos rfl, decide_eq_false (Nat.not_le_of_lt more), Bool.false_and, Bool.false_and]

/-- An entry whose line is not here: its read goes out. -/
theorem entry_reads (may : MayIssue s e w) (list : isList w.opc = true) (none_ : (s.engine e).elem = none) (noLine : (s.engine e).list = none)
    (noRead : (s.engine e).listRd = none) (more : (s.engine e).next < w.len) {a : Nat} (ha : a = (w.list + entrySize w.opc * (s.engine e).next) % 2 ^ 52) :
    ∃ t, issue1 s e w.opc = t ∧ EngSends s t e [lineRead s e w 0 (a / 64)] ∧ (t.engine e).listRd = some (s.engTag e 0, a / 64) ∧
      (t.engine e).next = (s.engine e).next := by
  obtain ⟨u, read, sends, taken⟩ := readLine_sends may.quiet e w (a / 64)
  have after := State.engine_modEngine_same u e fun x => { x with listRd := some (s.engTag e 0, a / 64) }
  have entry : listEntry s e w = (u.modEngine e fun x => { x with listRd := some (s.engTag e 0, a / 64) }, none) := by
    rw [listEntry, noLine, noRead]
    dsimp only
    rw [if_neg (by exact Bool.false_ne_true), ← ha, read]
  have issued : takeEntry s e w = u.modEngine e fun x => { x with listRd := some (s.engTag e 0, a / 64) } := by rw [takeEntry, entry]
  rw [taken] at after
  obtain ⟨t, run, sends, kept⟩ := issue1_issues may (allIssued_entry list more) (by rw [list, if_pos rfl]; exact (issueList_entry none_ more).trans issued) (sends.modEngine _)
    (by rw [after]; rfl) (by rw [after]; exact may.room.1) (Or.inr (by rw [after, workOver, Option.isNone_some, Bool.and_false, Bool.false_and]))
  exact ⟨t, run, sends, by rw [kept, after], by rw [kept, after]; rfl⟩

/-- The entry in hand. -/
theorem listEntry_here {l a v : Nat} {ld : LineData} (list : (s.engine e).list = some (l, ld)) (ha : a = (w.list + entrySize w.opc * (s.engine e).next) % 2 ^ 52)
    (hl : l = a / 64) (hv : v = lineBytes ld (a % 64) (entrySize w.opc)) : listEntry s e w = (s, some v) := by
  rw [listEntry, list]
  dsimp only
  rw [← ha, if_pos hl, ← hv]

/-- An entry's own request goes out. -/
theorem entry_issues (may : MayIssue s e w) (list : isList w.opc = true) (none_ : (s.engine e).elem = none) (more : (s.engine e).next < w.len)
    {u : State} (sends : EngSends s u e ms) {x : Engine} (tagged : (s.engine e).Tagged x) (engine : u.engine e = { x with next := x.next + 1 }) (j : Job)
    (issued : takeEntry s e w = addJob u e j) : ∃ t, issue1 s e w.opc = t ∧ EngSends s t e ms ∧ (t.engine e).next = (s.engine e).next + 1 := by
  obtain ⟨_, _, rfl⟩ := tagged
  have after := State.engine_modEngine_same u e fun x => { x with jobs := x.jobs ++ [j] }
  rw [engine] at after
  obtain ⟨t, run, sends, kept⟩ := issue1_issues may (allIssued_entry list more) (by rw [list, if_pos rfl]; exact (issueList_entry none_ more).trans issued) (sends.modEngine _)
    (by rw [after]) (by rw [after]; exact may.room.1) (Or.inr (workOver_jobs (by rw [after]; exact jobs_more _) w))
  exact ⟨t, run, sends, by rw [kept, after]⟩

/-- The engine with its next entry. -/
theorem nextEntry (s : State) (e : Nat) : EngSends s (s.modEngine e fun x => { x with next := x.next + 1 }) e [] ∧
    (s.modEngine e fun x => { x with next := x.next + 1 }).engine e = { s.engine e with next := (s.engine e).next + 1 } :=
  ⟨engSends_modEngine .., State.engine_modEngine_same ..⟩

/-- The operation's width bit and its code, of the entry's word (R374). -/
theorem atomic_code (v : Nat) : (bitsOf v (8 * 24) 4 / 8 = 1 ↔ v / 2 ^ 195 % 2 = 1) ∧ bitsOf v (8 * 24) 4 % 8 = v / 2 ^ 192 % 8 := by
  have high : v / 2 ^ 195 = v / 2 ^ 192 / 8 := by rw [Nat.div_div_eq_div_mul]; norm_num
  unfold bitsOf
  rw [high]
  generalize v / 2 ^ 192 = x
  omega

/-- The body that an ATOMIC's entry gives (R374). -/
def atomicBody (v : Nat) : List Word :=
  let b := if v / 2 ^ 195 % 2 = 1 then 64 else 32
  amoBody (BitVec.ofNat 64 (v / 2 ^ 64 % 2 ^ b)) (BitVec.ofNat 64 (if v / 2 ^ 192 % 8 = 2 then v / 2 ^ 128 % 2 ^ b else 0))

theorem atomicBody_code (v : Nat) : atomicBody v = amoBody (BitVec.ofNat 64 (bitsOf v 64 (8 * if bitsOf v (8 * 24) 4 / 8 = 1 then 8 else 4)))
    (BitVec.ofNat 64 (if bitsOf v (8 * 24) 4 % 8 = 2 then bitsOf v 128 (8 * if bitsOf v (8 * 24) 4 / 8 = 1 then 8 else 4) else 0)) := by
  obtain ⟨wide, code⟩ := atomic_code v
  rw [atomicBody, code]
  by_cases w : v / 2 ^ 195 % 2 = 1
  · rw [if_pos w, if_pos (wide.mpr w)]
    rfl
  · rw [if_neg w, if_neg (mt wide.mp w)]
    rfl

/-- One issue of an ATOMIC whose entry is here. -/
theorem atomic_issues (may : MayIssue s e w) (opc : w.opc = 8) (none_ : (s.engine e).elem = none) (more : (s.engine e).next < w.len) {v : Nat}
    (entry : listEntry s e w = (s, some v)) : ∃ t, issue1 s e w.opc = t ∧
      EngSends s t e [s.engMsg e w.priv 0 opcAMO (v / 2 ^ 192 % 16) (v % 2 ^ 52) (atomicBody v)] ∧ (t.engine e).next = (s.engine e).next + 1 := by
  obtain ⟨still, engine⟩ := nextEntry s e
  obtain ⟨u, sent, sends, taken⟩ := engSend_sends (still.quiet may.quiet) e w opcAMO (v / 2 ^ 192 % 16) (v % 2 ^ 52) false (atomicBody v)
  rw [engMsg_same still (by rw [engine]; exact ⟨rfl, rfl⟩)] at sends
  rw [engine] at taken
  have op : bitsOf v (8 * 24) 4 = v / 2 ^ 192 % 16 := rfl
  rw [atomicBody_code, ← op] at sent
  refine entry_issues may (by rw [opc]; rfl) none_ more (still.trans sends) (Engine.tagged_takeTag _) taken
    ⟨(s.engine e).next, 0, 0, if bitsOf v (8 * 24) 4 / 8 = 1 then 8 else 4, [],
      some ((s.modEngine e fun x => { x with next := x.next + 1 }).engTag e 0), false⟩ ?_
  unfold takeEntry
  rw [entry]
  dsimp only
  rw [opc]
  rw [sent] <;> rfl

/-- One issue of a MAINT whose entry is here. -/
theorem maint_issues (may : MayIssue s e w) (opc : w.opc = 9) (none_ : (s.engine e).elem = none) (more : (s.engine e).next < w.len) {v : Nat}
    (entry : listEntry s e w = (s, some v)) : ∃ t, issue1 s e w.opc = t ∧
      EngSends s t e [s.engMsg e w.priv 0 opcMAINT (v % 4) (v % 2 ^ 52 / 64 * 64) []] ∧ (t.engine e).next = (s.engine e).next + 1 := by
  obtain ⟨still, engine⟩ := nextEntry s e
  obtain ⟨u, sent, sends, taken⟩ := engSend_sends (still.quiet may.quiet) e w opcMAINT (v % 4) (v % 2 ^ 52 / 64 * 64) false []
  rw [engMsg_same still (by rw [engine]; exact ⟨rfl, rfl⟩)] at sends
  rw [engine] at taken
  refine entry_issues may (by rw [opc]; rfl) none_ more (still.trans sends) (Engine.tagged_takeTag _) taken
    ⟨(s.engine e).next, 0, 0, 0, [], some ((s.modEngine e fun x => { x with next := x.next + 1 }).engTag e 0), false⟩ ?_
  unfold takeEntry
  rw [entry]
  dsimp only
  rw [opc]
  rw [sent] <;> rfl

end Sys2Proof.Machine
end

section

/-! PROOF. One issue of each operation of an engine, R372 and R373: O41. -/

namespace Sys2Proof.Machine

variable {s t : State} {e n slot k : Nat} {d : Desc} {w : Work} {ms : List Msg}

/-- The command of each operation issues for the engine's descriptor. -/
theorem EngineWorks.runs (h : EngineWorks s e n slot d) : exec (.copyDescriptor e) s = .next (issue1 s e 1) ∧
    exec (.fillDescriptor e) s = .next (issue1 s e 2) ∧ exec (.zeroDescriptor e) s = .next (issue1 s e 3) ∧
    exec (.compareDescriptor e) s = .next (issue1 s e 4) ∧ exec (.crcDescriptor e) s = .next (issue1 s e 5) ∧
    exec (.gatherDescriptor e) s = .next (issue1 s e 6) ∧ exec (.scatterDescriptor e) s = .next (issue1 s e 7) ∧
    exec (.atomicDescriptor e) s = .next (issue1 s e 8) ∧ exec (.maintDescriptor e) s = .next (issue1 s e 9) := by
  have works : (s.engine e).work.isSome = true := by rw [h.work]; rfl
  exact ⟨onUnit_if h.engine works _ _, onUnit_if h.engine works _ _, onUnit_next h.engine _, onUnit_next h.engine _, onUnit_next h.engine _,
    onUnit_next h.engine _, onUnit_next h.engine _, onUnit_next h.engine _, onUnit_next h.engine _⟩

/-- The entry of a list that is not here is read, by each operation that has a list. -/
theorem list_reads (works : EngineWorks s e n slot d) (may : MayIssue s e w) {c : Instr × Nat × Nat}
    (hc : c ∈ ([(.gatherDescriptor e, 6, 16), (.scatterDescriptor e, 7, 16), (.atomicDescriptor e, 8, 32), (.maintDescriptor e, 9, 8)] :
      List (Instr × Nat × Nat))) (opc : w.opc = c.2.1) (none_ : (s.engine e).elem = none) (noLine : (s.engine e).list = none)
    (noRead : (s.engine e).listRd = none) (more : (s.engine e).next < w.len) {a : Nat} (ha : a = (w.list + c.2.2 * (s.engine e).next) % 2 ^ 52) :
    ∃ t, exec c.1 s = .next t ∧ EngSends s t e [lineRead s e w 0 (a / 64)] ∧ (t.engine e).listRd = some (s.engTag e 0, a / 64) ∧
      (t.engine e).next = (s.engine e).next := by
  obtain ⟨-, -, -, -, -, gather, scatter, atomic, maint⟩ := works.runs
  have fits : isList c.2.1 = true ∧ c.2.2 = entrySize c.2.1 ∧ exec c.1 s = .next (issue1 s e c.2.1) := by
    simp only [List.mem_cons, List.not_mem_nil, or_false] at hc
    obtain rfl | rfl | rfl | rfl := hc
    · exact ⟨rfl, rfl, gather⟩
    · exact ⟨rfl, rfl, scatter⟩
    · exact ⟨rfl, rfl, atomic⟩
    · exact ⟨rfl, rfl, maint⟩
  obtain ⟨list, size, run⟩ := fits
  rw [size, ← opc] at ha
  obtain ⟨t, issue, sends, read, next⟩ := entry_reads may (by rw [opc]; exact list) none_ noLine noRead more ha
  exact ⟨t, by rw [run, ← opc, issue], sends, read, next⟩

end Sys2Proof.Machine

open Sys2Proof Sys2Proof.Machine

/-- Settles O41: each issue reads, writes or sends through one request after another of the engine alone. -/
theorem enginesMoveDataByLines : Obligations.EnginesMoveDataByLines := by
  unfold Obligations.EnginesMoveDataByLines
  intro s e n slot d p len works hp hlen
  have may := works.mayIssue
  obtain ⟨copy, fill, zero, compare, crc, gather, scatter, atomic, maint⟩ := works.runs
  obtain ⟨src, dst, length, pat, priv, -⟩ := workOf_fields s n slot d.raw
  have list := workOf_list s n slot d.raw
  subst hp hlen
  dsimp only
  rw [← src, ← dst, ← length, ← pat, ← priv, ← workOf_opc s n slot d.raw]
  rw [← src, ← dst, ← workOf_opc s n slot d.raw] at list
  clear src dst length pat priv
  generalize workOf s n slot d.raw = w at may list ⊢
  refine ⟨fun opc more k hk => ⟨fun away => ?_, fun l bad here => ?_⟩, fun opc more k hk => ?_, fun opc more k hk => ?_, fun opc more k hk => ?_,
    fun opc more k hk => ?_, fun a l i k elem less => ⟨fun opc hk => ⟨fun away => ?_, fun f bad v lo hi here plain gath hv hlo hhi => ⟨fun first whole => ?_,
      fun part last => ?_⟩⟩, fun opc hk => ⟨fun away => ?_, fun f bad here plain free => ?_⟩⟩, fun c hc opc none_ noLine noRead more a ha => ?_,
    fun l a v ld none_ here more hl => ⟨fun opc ha hv => ?_, fun opc ha hv => ?_⟩⟩
  · obtain ⟨t, ms, run, reads, sends, moved⟩ := (copy_issues may opc more hk).1 away
    exact ⟨t, ms, by rw [copy, run], reads, sends.engineSent.1, moved, sends.engineSent.2⟩
  · obtain ⟨t, run, moved, sends⟩ := (copy_issues may opc more hk).2 l bad here
    exact ⟨t, by rw [copy, run], moved, sends.engineSent.2, sends.engineSent.1⟩
  · obtain ⟨t, run, sends, moved⟩ := fill_issues may (Or.inl opc) more hk (by rw [opc, if_neg (by decide)])
      (writePiece_sends works.quiet e (by rw [opc]; decide) _ k _ false)
    exact ⟨t, by rw [fill, ← run, opc], moved, sends.engineSent.2, sends.engineSent.1⟩
  · obtain ⟨t, run, sends, moved⟩ := fill_issues may (Or.inr opc) more hk (by rw [if_pos opc]) (writePiece_zeros works.quiet e opc _ k)
    exact ⟨t, by rw [zero, ← run, opc], moved, sends.engineSent.2, sends.engineSent.1⟩
  · obtain ⟨t, ms, run, moved, sends, both, first, second, neither⟩ := compare_issues may opc more hk rfl rfl
    exact ⟨t, ms, by rw [compare, run], moved, sends.engineSent.2, sends.engineSent.1, both, first, second, neither⟩
  · obtain ⟨t, ms, run, reads, sends, moved⟩ := crc_issues may opc more hk
    exact ⟨t, ms, by rw [crc, run], reads, sends.engineSent.1, moved, sends.engineSent.2⟩
  · obtain ⟨t, ms, run, reads, sends, moved, rest⟩ := elem_waits may (by rw [opc]; rfl) elem less (if_pos opc) hk away
    exact ⟨t, ms, by rw [gather, ← run, opc], reads, sends.engineSent.1, moved, rest, sends.engineSent.2⟩
  · obtain ⟨t, run, moved, rest, sends⟩ := (gather_issues may opc elem less hk here plain gath hv hlo hhi).1 first whole
    exact ⟨t, by rw [gather, ← run, opc], moved, rest, sends.engineSent.2, sends.engineSent.1⟩
  · obtain ⟨t, run, pos, kept, rest, sends⟩ := (gather_issues may opc elem less hk here plain gath hv hlo hhi).2 part last
    exact ⟨t, by rw [gather, ← run, opc], pos, kept, rest, sends.engineSent.2, sends.engineSent.1⟩
  · obtain ⟨t, ms, run, reads, sends, moved, rest⟩ := elem_waits may (by rw [opc]; rfl) elem less (if_neg (by rw [opc]; decide)) hk away
    exact ⟨t, ms, by rw [scatter, ← run, opc], reads, sends.engineSent.1, moved, rest, sends.engineSent.2⟩
  · obtain ⟨t, run, moved, rest, sends⟩ := scatter_issues may opc elem less hk here plain free
    exact ⟨t, by rw [scatter, ← run, opc], moved, rest, sends.engineSent.2, sends.engineSent.1⟩
  · rw [← list] at ha
    obtain ⟨t, run, sends, read, next⟩ := list_reads works may hc opc none_ noLine noRead more ha
    exact ⟨t, run, sends.engineSent.1, read, next, sends.engineSent.2⟩
  · rw [if_neg (by rw [opc]; decide)] at list
    obtain ⟨t, run, sends, next⟩ := atomic_issues may opc none_ more
      (listEntry_here here (v := v) (by rw [list, opc]; exact ha) hl (by rw [opc]; exact hv))
    exact ⟨t, by rw [atomic, ← run, opc], next, sends.engineSent.2, sends.engineSent.1⟩
  · rw [if_neg (by rw [opc]; decide)] at list
    obtain ⟨t, run, sends, next⟩ := maint_issues may opc none_ more
      (listEntry_here here (v := v) (by rw [list, opc]; exact ha) hl (by rw [opc]; exact hv))
    exact ⟨t, by rw [maint, ← run, opc], next, sends.engineSent.2, sends.engineSent.1⟩

end

section

/-! PROOF. The CX command engine's range operations, R509 and R510, as work of engine 0. -/

namespace Sys2Proof.Machine

variable {s t : State} {e k : Nat} {w : Work} {r : CxRun} {ms : List Msg} {tag : BitVec 16}

/-- A MAINT_RANGE's next line is sent to its home (R510). -/
theorem maintLine_issues (may : MayIssue s e w) (opc : w.opc = 0x103) (more : (s.engine e).pos < w.len) : ∃ t, issue1 s e 0x103 = t ∧
    (t.engine e).pos = (s.engine e).pos + 1 ∧ EngSends s t e [s.engMsg e w.priv 0 opcMAINT w.kind (w.src + 64 * (s.engine e).pos) []] := by
  obtain ⟨u, sent, sends, taken⟩ := engSend_sends may.quiet e w opcMAINT w.kind (w.src + 64 * (s.engine e).pos) false []
  obtain ⟨v, issued, sends, after⟩ : ∃ v, issueRange s e w = v ∧
      EngSends s v e [s.engMsg e w.priv 0 opcMAINT w.kind (w.src + 64 * (s.engine e).pos) []] ∧ v.engine e =
      { (s.engine e).takeTag with pos := (s.engine e).pos + 1, jobs := (s.engine e).jobs ++
        [⟨(s.engine e).pos, 0, w.src + 64 * (s.engine e).pos, 0, [], some (s.engTag e 0), false⟩] } := by
    refine ⟨addJob (u.modEngine e fun x => { x with pos := x.pos + 1 }) e
      ⟨(s.engine e).pos, 0, w.src + 64 * (s.engine e).pos, 0, [], some (s.engTag e 0), false⟩, ?_, (sends.modEngine _).modEngine _, ?_⟩
    · unfold issueRange
      rw [opc]
      dsimp only
      rw [sent] <;> rfl
    · rw [addJob, State.engine_modEngine_same, State.engine_modEngine_same, taken]
      rfl
  have range : isList w.opc = false := by rw [opc]; rfl
  obtain ⟨t, run, sends, kept⟩ := issue1_issues may (allIssued_range range (by rw [opc]; decide) more)
    (by rw [range, if_neg Bool.false_ne_true]; exact issued) sends (by rw [after]; rfl) (by rw [after]; exact may.room.1)
    (Or.inr (workOver_jobs (by rw [after]; exact jobs_more _) w))
  exact ⟨t, opc ▸ run, by rw [kept, after], sends⟩

/-- The command with its first step begun. -/
def CxRun.begun (r : CxRun) : CxRun := { r with began := true }

/-- The machine whose CX command has begun. -/
def State.cxBegun (s : State) : State := s.modRun CxRun.begun

/-- Engine 0 may issue for the CX command r: the engine unit is Lit, nothing has failed, there is room in flight, and nothing
follows its requests. -/
structure CxMayIssue (s : State) (r : CxRun) : Prop where
  run : s.cx.run = some r
  work : (s.engine 0).work = none
  room : (s.engine 0).fail = none ∧ inFlight (s.engine 0) < 63
  alive : s.boot.fatal = false ∧ s.domLit 60 = true
  quiet : EnginesNotFollowed s

theorem CxMayIssue.begunRun (h : CxMayIssue s r) : s.cxBegun.cx.run = some r.begun := by
  rw [State.cxBegun, State.modRun]
  exact congrArg (Option.map CxRun.begun) h.run

/-- What the CX command's work is for engine 0 (R509, R510). -/
def CxRun.work (r : CxRun) : Work :=
  { opc := r.opc, src := 0, dst := 0, len := 0, list := 0, res := 0, kind := 0, pat := 0, n := 0, slot := 0, priv := true, cx := true }

/-- What a MAINT_RANGE that names a line is for engine 0 (R510). -/
def CxRun.maintWork (r : CxRun) : Work :=
  let lines := (r.addr 0 + r.arg 2 - 1) / 64 - r.addr 0 / 64 + 1
  { r.work with opc := 0x103, src := r.addr 0 / 64 * 64, len := lines, kind := r.arg 3 % 4 }

theorem CxMayIssue.engWork_copy (h : CxMayIssue s r) (opc : r.opc = 1) :
    engWork s.cxBegun 0 = some ({ r.work with src := r.addr 0, dst := r.addr 2, len := r.arg 4 }, 0) := by
  rw [engWork, show (s.cxBegun.engine 0).work = none from h.work]
  dsimp only
  rw [if_pos rfl, h.begunRun, Option.bind_some]
  rw [show wfld r.begun.hdr 0 8 = 1 from opc, CxRun.work, opc] <;> rfl

theorem CxMayIssue.engWork_fill (h : CxMayIssue s r) (opc : r.opc = 2) :
    engWork s.cxBegun 0 = some ({ r.work with dst := r.addr 0, len := r.arg 2, pat := BitVec.ofNat 64 (r.arg 3 * (2 ^ 32 + 1)) }, 0) := by
  rw [engWork, show (s.cxBegun.engine 0).work = none from h.work]
  dsimp only
  rw [if_pos rfl, h.begunRun, Option.bind_some]
  rw [show wfld r.begun.hdr 0 8 = 2 from opc, CxRun.work, opc] <;> rfl

theorem CxMayIssue.engWork_maint (h : CxMayIssue s r) (opc : r.opc = 3) (some_ : 0 < r.arg 2) :
    engWork s.cxBegun 0 = some (r.maintWork, 0) := by
  rw [engWork, show (s.cxBegun.engine 0).work = none from h.work]
  dsimp only
  rw [if_pos rfl, h.begunRun, Option.bind_some]
  rw [show wfld r.begun.hdr 0 8 = 3 from opc]
  rw [if_neg (show ¬ (r.begun.args.getD 2 0).toNat = 0 from some_.ne')] <;> rfl

theorem CxMayIssue.mayIssue (h : CxMayIssue s r) (work : ∃ d, engWork s.cxBegun 0 = some (w, d)) : MayIssue s.cxBegun 0 w :=
  ⟨work, h.alive, h.room, h.quiet⟩

/-- A command that runs and passed its checks. -/
theorem cxRunning_some (run : s.cx.run = some r) (same : r.tag = tag.toNat) (fine : r.status = 0) {opc : Nat} (hopc : r.opc = opc) :
    cxRunning s opc tag = some r := by
  rw [cxRunning, run, Option.filter_some, hopc, same, fine, beq_self_eq_true, beq_self_eq_true, beq_self_eq_true]
  rfl

theorem cxIssue_running {opc : Nat} (running : cxRunning s opc tag = some r) (x : Nat) : cxIssue s opc x tag = issue1 s.cxBegun 0 x := by
  rw [cxIssue, running] <;> rfl

/-- What engine 0 has sent for the CX command that has begun, beside what it changed of itself. -/
theorem EngSends.cxSent (h : EngSends s.cxBegun t 0 ms) (run : s.cx.run = some r) : t.spine = { s.spine with req := s.spine.req ++ ms } ∧
    (∀ e, e ≠ 0 → t.engine e = s.engine e) ∧ t.cx = { s.cx with run := some { r with began := true } } ∧
    t = { s with cx := t.cx, engines := t.engines, spine := t.spine, acc := t.acc } := by
  have begun : s.cxBegun = { s with cx := { s.cx with run := some { r with began := true } } } := by
    rw [State.cxBegun, State.modRun, run] <;> rfl
  obtain ⟨sent, others, rest⟩ := h
  rw [begun] at sent others rest
  exact ⟨sent, others, by rw [rest], by rw [rest]⟩

/-- A piece of a CX_COPY: read, or written where its line is here. -/
theorem CxMayIssue.copies (h : CxMayIssue s r) (same : r.tag = tag.toNat) (fine : r.status = 0) (opc : r.opc = 1) (more : (s.engine 0).pos < r.arg 4)
    (hk : k = min (64 - (r.addr 2 + (s.engine 0).pos) % 64) (r.arg 4 - (s.engine 0).pos)) :
    ((∀ v, ¬ (s.engine 0).Here (r.addr 0 + (s.engine 0).pos) k v) → ∃ t ms, exec (.cxCopy tag) s = .next t ∧
      s.PieceReads 0 true (r.addr 0 + (s.engine 0).pos) k ms ∧ EngSends s.cxBegun t 0 ms ∧ Moved (s.engine 0) (t.engine 0) (r.addr 2 + (s.engine 0).pos) k) ∧
    ∀ l bad, (s.engine 0).Here (r.addr 0 + (s.engine 0).pos) k (l, bad) → ∃ t, exec (.cxCopy tag) s = .next t ∧
      Moved (s.engine 0) (t.engine 0) (r.addr 2 + (s.engine 0).pos) k ∧ EngSends s.cxBegun t 0
        [s.pieceWrite 0 true (r.addr 2 + (s.engine 0).pos) k (lineBytes l ((r.addr 0 + (s.engine 0).pos) % 64) k) bad] := by
  have run : exec (.cxCopy tag) s = .next (issue1 s.cxBegun 0 1) := congrArg _ (cxIssue_running (cxRunning_some h.run same fine opc) 1)
  rw [run]
  obtain ⟨away, here⟩ := copy_issues (h.mayIssue ⟨0, h.engWork_copy opc⟩) opc more hk
  exact ⟨fun no => let ⟨t, ms, issued, reads, sends, moved⟩ := away no; ⟨t, ms, congrArg _ issued, reads, sends, moved⟩,
    fun l bad yes => let ⟨t, issued, moved, sends⟩ := here l bad yes; ⟨t, congrArg _ issued, moved, sends⟩⟩

theorem CxMayIssue.fills (h : CxMayIssue s r) (same : r.tag = tag.toNat) (fine : r.status = 0) (opc : r.opc = 2) (more : (s.engine 0).pos < r.arg 2)
    (hk : k = min (64 - (r.addr 0 + (s.engine 0).pos) % 64) (r.arg 2 - (s.engine 0).pos)) : ∃ t, exec (.cxFill tag) s = .next t ∧
      Moved (s.engine 0) (t.engine 0) (r.addr 0 + (s.engine 0).pos) k ∧ EngSends s.cxBegun t 0
        [s.pieceWrite 0 true (r.addr 0 + (s.engine 0).pos) k (patternValue (BitVec.ofNat 64 (r.arg 3 * (2 ^ 32 + 1))) (s.engine 0).pos k) false] := by
  have run : exec (.cxFill tag) s = .next (issue1 s.cxBegun 0 2) := congrArg _ (cxIssue_running (cxRunning_some h.run same fine opc) 2)
  have may := h.mayIssue ⟨0, h.engWork_fill opc⟩
  have noZero : r.opc ≠ 3 := by rw [opc]; decide
  obtain ⟨t, issued, sends, moved⟩ := fill_issues may (Or.inl opc) more hk
    (if_neg noZero).symm (writePiece_sends may.quiet 0 noZero _ k _ false)
  exact ⟨t, run.trans (congrArg _ ((congrArg (issue1 s.cxBegun 0) opc).symm.trans issued)), moved, sends⟩

theorem CxMayIssue.maintains (h : CxMayIssue s r) (same : r.tag = tag.toNat) (fine : r.status = 0) (opc : r.opc = 3) (some_ : 0 < r.arg 2)
    (more : (s.engine 0).pos < (r.addr 0 + r.arg 2 - 1) / 64 - r.addr 0 / 64 + 1) : ∃ t, exec (.maintRange tag) s = .next t ∧
      (t.engine 0).pos = (s.engine 0).pos + 1 ∧
      EngSends s.cxBegun t 0 [s.engMsg 0 true 0 opcMAINT (r.arg 3 % 4) (r.addr 0 / 64 * 64 + 64 * (s.engine 0).pos) []] := by
  have run : exec (.maintRange tag) s = .next (issue1 s.cxBegun 0 0x103) := congrArg _ (cxIssue_running (cxRunning_some h.run same fine opc) 0x103)
  obtain ⟨t, issued, pos, sends⟩ := maintLine_issues (h.mayIssue ⟨0, h.engWork_maint opc some_⟩) rfl more
  exact ⟨t, by rw [run, issued], pos, sends⟩

end Sys2Proof.Machine

end

section

/-! PROOF. The CX command engine's start, set-and-way sweep and end, and the CX region registers, R506 to R515: O45. -/

namespace Sys2Proof.Machine

variable {s t u : State} {m : Master} {r : CxRun} {tag : BitVec 16}

/-! ## Start and end (R507, R510) -/

theorem domLit_not_cold {d : Nat} (lit : s.domLit d = true) : (s.domSt d == .cold) = false := by
  rw [State.domLit, Bool.and_eq_true, Bool.or_eq_true, beq_iff_eq, beq_iff_eq] at lit
  obtain ⟨lit | banked, -⟩ := lit
  · rw [lit]
    rfl
  · rw [banked]
    rfl

/-- The machine whose engine 0 is free, and whose CX unit is x. -/
theorem freed_frame (s : State) (x : Cx) (i : Nat) : ∃ t, (freeEngine { s with cx := x } 0).count 52 i 1 = t ∧ t.cx = x ∧
    t.engine 0 = (s.engine 0).cleared ∧ (∀ e, e ≠ 0 → t.engine e = s.engine e) ∧ t = { s with cx := t.cx, engines := t.engines, acc := t.acc } := by
  rw [count_frame]
  exact ⟨_, rfl, rfl, sget_smod_same .., fun _ he => sget_smod_other _ _ _ he, rfl⟩

/-- The command that the oldest words name, before its checks (R507). -/
def cxTaken (h : DWord) (l : List DWord) : CxRun :=
  { hdr := h.setWidth 32, args := (l.take (h.toNat / 2 ^ 8 % 2 ^ 4)).map fun w => w.setWidth 32, began := false, status := 0, pos := 0, flues := [] }

/-- The CX unit once it has taken its oldest command (R507). -/
def cxStarted (s : State) (h : DWord) (l : List DWord) : Cx :=
  let run := { cxTaken h l with status := cxCheck s (cxTaken h l) }
  { s.cx with cmd := cxPop (h.toNat / 2 ^ 8 % 2 ^ 4 + 1) s.cx.cmd, run := some run }

theorem cxStart_takes {h : DWord} {l : List DWord} (may : cxMayStart s = true) (lit : s.domLit 60 = true) (warm : cold60 s = false)
    (items : s.cx.cmd.items = h :: l) : cxStart s = (freeEngine { s with cx := cxStarted s h l } 0).count 52 2 1 := by
  rw [cxStart, if_pos may, lit, warm, if_pos (by decide), items] <;> rfl

theorem fifoPush_room {f : Fifo} (room : f.items.length < 64) (w : DWord) :
    fifoPush 64 f [w] = some { f with items := f.items ++ [w], wr := (f.wr + 1) % 128 } := if_neg (by rw [List.length_singleton]; omega)

/-- The CX unit once the response of its command is pushed (R510). -/
def cxResponded (s : State) (r : CxRun) : Cx :=
  let rsp := { s.cx.rsp with items := s.cx.rsp.items ++ [cxResponse s r], wr := (s.cx.rsp.wr + 1) % 128 }
  { s.cx with rsp := rsp, run := none }

theorem cxComplete_responds (run : s.cx.run = some r) (alive : s.boot.fatal = false) (ended : cxOver s r = true) (room : s.cx.rsp.items.length < 64) :
    cxComplete s = (freeEngine { s with cx := cxResponded s r } 0).count 52 3 1 := by
  rw [cxComplete, run]
  dsimp only
  rw [if_pos ⟨alive, ended⟩, fifoPush_room room] <;> rfl

/-! ## A location of a MAINT_SW (R515) -/

/-- A location whose line is clean and free at once. -/
theorem swVisit_clean {i set w : Nat} (op : Nat) (lit : s.domLit (20 + i) = true) (valid : (s.hway i set w).valid = true)
    (clean : (s.hway i set w).dirty = false) (free : lineBusy (s.slice i) (s.hway i set w).line = false) :
    swVisit s op (i, set, w) = some (if op = 0 then s else s.clearWay i set w, none) := by
  rw [swVisit]
  dsimp only
  rw [domLit_not_cold lit, lit, valid, free, clean]
  simp only [Bool.false_eq_true, if_false, Bool.true_eq_false]

theorem swWalk_done {w n op : Nat} (past : swCount s w ≤ r.pos) : swWalk op w n s r = (s, r) := by
  cases n with
  | zero => rfl
  | succ n => rw [swWalk, if_pos past]

/-- The last location of a sweep. -/
theorem swWalk_last {w n op i set way : Nat} (last : r.pos + 1 = swCount s w) (place : swPlace s w r.pos = (i, set, way))
    (visit : swVisit s op (i, set, way) = some (u, none)) (count : swCount u w = swCount s w) :
    swWalk op w (n + 1) s r = (u, { r with pos := r.pos + 1 }) := by
  rw [swWalk, if_neg (by omega), place, visit]
  dsimp only
  rw [swWalk_done (by rw [count, ← last])]
  exact congrArg (fun l => (u, { r with pos := r.pos + 1, flues := l })) (List.append_nil _)

theorem swCount_slices (h : u = { s with slices := u.slices }) (w : Nat) : swCount u w = swCount s w := by
  rw [h]
  rfl

theorem maintSw_last {i set w : Nat} (last : r.pos + 1 = swCount s (r.arg 0)) (place : swPlace s (r.arg 0) r.pos = (i, set, w))
    (lit : s.domLit (20 + i) = true) (valid : (s.hway i set w).valid = true) (clean : (s.hway i set w).dirty = false)
    (free : lineBusy (s.slice i) (s.hway i set w).line = false) : ∃ t, maintSw s r = t ∧
      t.cx = { s.cx with run := some { r with began := true, pos := r.pos + 1 } } ∧ (∀ j, j ≠ i → t.slice j = s.slice j) ∧
      OneWay s t i set w (if r.arg 0 / 2 ^ 22 % 4 = 0 then s.hway i set w else hlineD 0) ∧ t = { s with cx := t.cx, slices := t.slices } := by
  obtain ⟨u, hu, visit⟩ : ∃ u, (if bitsOf (r.arg 0) 22 2 = 0 then s else s.clearWay i set w) = u ∧
    swVisit s (bitsOf (r.arg 0) 22 2) (i, set, w) = some (u, none) := ⟨_, rfl, swVisit_clean _ lit valid clean free⟩
  have only : u = { s with slices := u.slices } := by
    rw [← hu]
    split
    · rfl
    · exact slices_clearWay rfl i set w
  have others : ∀ j, j ≠ i → u.slice j = s.slice j := fun j hj => by
    rw [← hu]
    split
    · rfl
    · exact clearWay_others s set w hj
  have way : OneWay s u i set w (if bitsOf (r.arg 0) 22 2 = 0 then s.hway i set w else hlineD 0) := by
    rw [← hu]
    split
    · exact ⟨rfl, fun _ _ => rfl⟩
    · exact clearWay_oneWay s i set w
  have awake : swAsleep s (r.arg 0) { r with began := true } = false := by
    rw [swAsleep]
    dsimp only
    rw [place, lit]
    rfl
  have run : maintSw s r = { u with cx := { u.cx with run := some { r with began := true, pos := r.pos + 1 } } } := by
    rw [maintSw]
    dsimp only
    rw [awake, if_neg Bool.false_ne_true, swWalk_last (n := 255) (r := { r with began := true }) last place visit (swCount_slices only _)]
  refine ⟨_, run, ?_, others, ⟨way.way, way.others⟩, ?_⟩
  · rw [only]
  · rw [only]

/-! ## Region registers (R506) -/

/-- What a write of a region register puts into slice i. -/
def regionPut (s : State) (i n : Nat) (limit : Bool) (v : Word) : State :=
  if limit then ((s.setFld (sliceReg i (0x1004 + 8 * n)) 0 22 (wfld v 0 20)).setFld (sliceReg i (0x1004 + 8 * n)) 24 2
    (if v.getLsbD 24 then 2 else 1)).setFld (sliceReg i (0x1004 + 8 * n)) 31 1 (b2n (v.getLsbD 31))
  else s.setFld (sliceReg i (0x1000 + 8 * n)) 0 22 (wfld v 0 20)

/-- The slice's register that it puts them into. -/
def regionReg (i n : Nat) (limit : Bool) : Nat := sliceReg i (0x1000 + 8 * n + if limit then 4 else 0)

/-- What the register holds then. -/
def RegionHolds (s : State) (i n : Nat) (limit : Bool) (v : Word) : Prop := s.fld (regionReg i n limit) 0 22 = v.toNat % 2 ^ 20 ∧
  (limit = true → s.fld (regionReg i n limit) 24 2 = (if v.getLsbD 24 then 2 else 1) ∧ s.bit (regionReg i n limit) 31 = v.getLsbD 31)

theorem regionReg_limit (i n : Nat) : regionReg i n true = sliceReg i (0x1004 + 8 * n) := by
  rw [regionReg, if_pos rfl, Nat.add_right_comm]

theorem regionReg_base (i n : Nat) : regionReg i n false = sliceReg i (0x1000 + 8 * n) := by
  rw [regionReg, if_neg Bool.false_ne_true, Nat.add_zero]

theorem regionPut_base (s : State) (i n : Nat) (v : Word) :
    regionPut s i n false v = s.setFld (sliceReg i (0x1000 + 8 * n)) 0 22 (wfld v 0 20) := by
  rw [regionPut, if_neg Bool.false_ne_true]

theorem regionPut_limit (s : State) (i n : Nat) (v : Word) : regionPut s i n true v =
    ((s.setFld (sliceReg i (0x1004 + 8 * n)) 0 22 (wfld v 0 20)).setFld (sliceReg i (0x1004 + 8 * n)) 24 2
      (if v.getLsbD 24 then 2 else 1)).setFld (sliceReg i (0x1004 + 8 * n)) 31 1 (b2n (v.getLsbD 31)) := by
  rw [regionPut, if_pos rfl]

theorem regionPut_stored (s : State) (i n : Nat) (limit : Bool) (v : Word) : RegStored s (regionPut s i n limit v) (regionReg i n limit) := by
  cases limit with
  | false =>
    rw [regionReg_base, regionPut_base]
    exact regStored_setFld ..
  | true =>
    rw [regionReg_limit, regionPut_limit]
    exact ((regStored_setFld ..).trans (regStored_setFld ..)).trans (regStored_setFld ..)

theorem regionPut_holds (s : State) (i n : Nat) (limit : Bool) (v : Word) : RegionHolds (regionPut s i n limit v) i n limit v := by
  have narrow : wfld v 0 20 % 2 ^ 22 = v.toNat % 2 ^ 20 := by
    rw [wfld, bitsOf, pow_zero, Nat.div_one]
    omega
  cases limit with
  | false =>
    refine ⟨?_, fun h => Bool.noConfusion h⟩
    rw [regionReg_base, regionPut_base]
    exact (State.fld_setFld s _ 0 22 _ (by decide)).trans narrow
  | true =>
    rw [RegionHolds, regionReg_limit, regionPut_limit]
    generalize sliceReg i (0x1004 + 8 * n) = off
    refine ⟨?_, fun _ => ⟨?_, ?_⟩⟩
    · rw [State.fld_setFld_apart _ _ _ _ _ (by decide) (by decide), State.fld_setFld_apart _ _ _ _ _ (by decide) (by decide),
        State.fld_setFld _ _ _ _ _ (by decide), narrow]
    · rw [State.fld_setFld_apart _ _ _ _ _ (by decide) (by decide), State.fld_setFld _ _ _ _ _ (by decide)]
      cases v.getLsbD 24 <;> rfl
    · rw [State.bit_setFld _ _ _ _ _ (by decide), if_pos (by decide)]
      cases v.getLsbD 31 <;> rfl

theorem RegionHolds.next {i j n : Nat} {limit : Bool} {v : Word} (h : RegionHolds s i n limit v) : RegionHolds (regionPut s j n limit v) i n limit v := by
  by_cases hj : j = i
  · rw [hj]
    exact regionPut_holds ..
  · have kept : (regionPut s j n limit v).rd (regionReg i n limit) = s.rd (regionReg i n limit) :=
      (regionPut_stored s j n limit v).regs _ (by rw [regionReg, regionReg, sliceReg, sliceReg]; omega)
    rw [RegionHolds, State.fld, State.fld, State.bit, kept]
    exact h

theorem regions_frame (l : List Nat) (s : State) (n : Nat) (limit : Bool) (v : Word) :
    l.foldl (fun s i => regionPut s i n limit v) s = { s with reg := (l.foldl (fun s i => regionPut s i n limit v) s).reg } := by
  induction l generalizing s with
  | nil => rfl
  | cons j l ih =>
    rw [List.foldl_cons, ih, (regionPut_stored s j n limit v).rest]

theorem regions_kept {i n : Nat} {limit : Bool} {v : Word} (l : List Nat) (h : RegionHolds s i n limit v) :
    RegionHolds (l.foldl (fun s i => regionPut s i n limit v) s) i n limit v := by
  induction l generalizing s with
  | nil => exact h
  | cons j l ih => exact ih h.next

theorem regions_hold {i : Nat} (l : List Nat) (hi : i ∈ l) (s : State) (n : Nat) (limit : Bool) (v : Word) :
    RegionHolds (l.foldl (fun s i => regionPut s i n limit v) s) i n limit v := by
  induction l generalizing s with
  | nil => exact absurd hi List.not_mem_nil
  | cons j l ih =>
    rw [List.foldl_cons]
    by_cases hj : j = i
    · rw [hj]
      exact regions_kept l (regionPut_holds ..)
    · exact ih ((List.mem_cons.mp hi).resolve_left (Ne.symm hj)) _

/-- The CX region register of region n. -/
def cxRegionRel (n : Nat) (limit : Bool) : Nat := 0x100 + 8 * n + if limit then 4 else 0

theorem cxRegion_facts : ∀ n < 16, ∀ limit, Direct (cxReg (cxRegionRel n limit)) ∧ blockAt (cxReg (cxRegionRel n limit)) = .cxImage ∧
    pairLow (cxReg (cxRegionRel n limit)) = false ∧ guardMask (cxReg (cxRegionRel n limit)) = 0 ∧
    (regFields (cxReg (cxRegionRel n limit))).isEmpty = false ∧ ((regFields (cxReg (cxRegionRel n limit))).any fun f => f.ty == .w1l) = false := by
  intro n hn limit
  refine ⟨⟨Or.inr ?_, ?_⟩, ?_⟩
  · rw [cxReg]
    omega
  · rw [cxReg, cxRegionRel]
    cases limit <;> simp only [Bool.false_eq_true, if_true, if_false] <;> omega
  · revert limit
    revert n
    decide

theorem startCx_region {n : Nat} (hn : n < 16) (s : State) (limit : Bool) (v : Word) :
    startCx s (cxRegionRel n limit) v = s.sliceList.foldl (fun s i => regionPut s i n limit v) s := by
  have index : (cxRegionRel n limit - 0x100) / 8 = n := by
    rw [cxRegionRel]
    cases limit <;> simp only [Bool.false_eq_true, if_true, if_false] <;> omega
  have inside : 0x100 ≤ cxRegionRel n limit ∧ cxRegionRel n limit < 0x180 := by
    rw [cxRegionRel]
    cases limit <;> simp only [Bool.false_eq_true, if_true, if_false] <;> omega
  unfold startCx cxRegionWrite
  rw [if_pos inside, index]
  refine foldl_congr (fun x i => ?_) _ _
  cases limit with
  | false => rw [regionPut_base, if_pos (by rw [cxRegionRel, if_neg Bool.false_ne_true]; omega)]
  | true => rw [regionPut_limit, if_neg (by rw [cxRegionRel, if_pos rfl]; omega)]

theorem CxReach.writesRegion {n : Nat} (hn : n < 16) (limit : Bool) (h : CxReach s m (cxRegionRel n limit)) (v : Word) {i : Nat} (hi : s.slicePresent i = true)
    (range : i < Config.nSlices) : ∃ t, cwWrite s m (cxUsed s (cxRegionRel n limit)) 4 (v.setWidth 64) = t ∧ RegionHolds t i n limit v ∧
      t = { s with reg := t.reg } := by
  obtain ⟨hd, block, single, open_, listed, unlocked⟩ := cxRegion_facts n hn limit
  have noDoorbell : ∀ k, blockAt (cxReg (cxRegionRel n limit)) ≠ .doorbell k := fun k => by rw [block]; exact Block.noConfusion
  have noCounter : ¬ (blockAt (cxReg (cxRegionRel n limit)) = .telemetry ∧ cxReg (cxRegionRel n limit) - 0x700000 < 0x3600) :=
    fun c => by rw [block] at c; exact Block.noConfusion c.1
  have filter : ∀ t, filterWrite t m (cxReg (cxRegionRel n limit)) v = (t, some v) := fun t => by rw [filterWrite, block]
  have written := writeReg_plain (m := m) hd listed unlocked noCounter (agree_spendShadow (m := m) h.votes (blockAt (cxReg (cxRegionRel n limit))))
    (Or.inr open_) (acc := cxReg (cxRegionRel n limit)) (filter _)
  have narrow : (v.setWidth 64).setWidth 32 = v := by
    rw [BitVec.setWidth_setWidth_of_le _ (by decide), BitVec.setWidth_eq]
  obtain ⟨u, stored, hu⟩ : ∃ u, RegStored s u (cxReg (cxRegionRel n limit)) ∧
      cwWrite s m (cxUsed s (cxRegionRel n limit)) 4 (v.setWidth 64) = startCx u (cxRegionRel n limit) v := by
    refine ⟨_, regStored_wr s m (blockAt (cxReg (cxRegionRel n limit))) (cxReg (cxRegionRel n limit))
      (writtenValue (spendShadow s m (blockAt (cxReg (cxRegionRel n limit)))) (cxReg (cxRegionRel n limit)) v (BitVec.allOnes 32)), ?_⟩
    rw [h.cwWrite4 hd block, narrow, write4_single h.noHeld (by rw [holdsLow, single, Bool.false_and]) noDoorbell, written, logDenied,
      if_neg Bool.false_ne_true, startWrite, block]
    dsimp only
    rw [cxReg, show Block.cxImage.base = 0x800000 from rfl, Nat.add_sub_cancel_left]
  have member : i ∈ u.sliceList := by
    rw [stored.rest]
    exact List.mem_filter.mpr ⟨List.mem_range.mpr range, hi⟩
  rw [hu, startCx_region hn]
  refine ⟨_, rfl, regions_hold _ member _ _ _ _, ?_⟩
  rw [regions_frame]
  rw [stored.rest]

end Sys2Proof.Machine

open Sys2Proof Sys2Proof.Machine

/-- Settles O45: the start and the end free engine 0, each range operation is one issue of engine 0, a set-and-way sweep ends with its
last location, and a region register goes into every present slice. -/
theorem cxCommandsRunOneAtATime : Obligations.CxCommandsRunOneAtATime := by
  unfold Obligations.CxCommandsRunOneAtATime
  refine ⟨fun s h l may lit warm items => ?_, fun s r tag run same fine => ⟨fun opc => ?_, fun p hp work failed room alive lit quiet => ?_,
    fun i set w opc alive last place _ lit valid clean free => ?_⟩, fun s r run alive done room => ?_, fun s m n v i present => ⟨fun h => ?_, fun h => ?_⟩⟩
  · obtain ⟨t, ht, cx, engine, others, rest⟩ := freed_frame s (cxStarted s h l) 2
    refine ⟨t, { cxTaken h l with status := cxCheck s (cxTaken h l) }, congrArg _ ((cxStart_takes may lit warm items).trans ht), by rw [cx]; rfl, rfl, rfl, rfl, rfl,
      ?_, by rw [cx]; rfl, by rw [engine]; rfl, others, rest⟩
    rw [cx, cxStarted, cxPop, items]
    rfl
  · refine congrArg Host.Outcome.next ?_
    rw [cxRunning_some run same fine opc]
    dsimp only
    rw [State.modRun, run] <;> rfl
  · have may : CxMayIssue s r := ⟨run, work, ⟨failed, room⟩, ⟨alive, lit⟩, quiet⟩
    subst hp
    refine ⟨fun opc more k hk => ⟨fun away => ?_, fun l bad here => ?_⟩, fun opc more k hk => ?_, fun opc some_ more => ?_⟩
    · obtain ⟨t, ms, ht, reads, sends, moved⟩ := (may.copies same fine opc more hk).1 away
      exact ⟨t, ms, ht, reads, sends.cxSent run, moved⟩
    · obtain ⟨t, ht, moved, sends⟩ := (may.copies same fine opc more hk).2 l bad here
      exact ⟨t, ht, moved, sends.cxSent run⟩
    · obtain ⟨t, ht, moved, sends⟩ := may.fills same fine opc more hk
      exact ⟨t, ht, moved, sends.cxSent run⟩
    · obtain ⟨t, ht, pos, sends⟩ := may.maintains same fine opc some_ more
      exact ⟨t, ht, pos, sends.cxSent run⟩
  · obtain ⟨t, ht, ends⟩ := maintSw_last last place lit valid clean free
    refine ⟨t, congrArg Host.Outcome.next ?_, ends⟩
    rw [cxRunning_some run same fine opc]
    dsimp only
    rw [alive, if_neg Bool.false_ne_true, ht]
  · obtain ⟨t, ht, cx, engine, others, rest⟩ := freed_frame s (cxResponded s r) 3
    exact ⟨t, congrArg _ ((cxComplete_responds run alive done room).trans ht), cx, by rw [engine]; rfl, others, rest⟩
  · have range : i < Config.nSlices := by
      rw [State.slicePresent, Bool.and_eq_true, decide_eq_true_eq] at present
      exact present.1
    obtain ⟨t, ht, ⟨base, -⟩, rest⟩ := h.writesRegion (limit := false) n.isLt v present range
    rw [regionReg_base] at base
    exact ⟨t, congrArg _ ht, base, rest⟩
  · have range : i < Config.nSlices := by
      rw [State.slicePresent, Bool.and_eq_true, decide_eq_true_eq] at present
      exact present.1
    have rel : 0x104 + 8 * n.toNat = cxRegionRel n.toNat true := by rw [cxRegionRel, if_pos rfl]; omega
    rw [rel] at h
    obtain ⟨t, ht, ⟨base, more⟩, rest⟩ := h.writesRegion n.isLt true v present range
    obtain ⟨policy, on⟩ := more rfl
    rw [regionReg_limit] at base policy on
    exact ⟨t, congrArg _ ht, base, policy, on, rest⟩

end

section

/-! PROOF. Dumps, the blotter and their rings, R400 to R409: O47. -/

namespace Sys2Proof.Machine

variable {s t u v : State} {m : Master} {recno base put size a : Nat} {r : List Word}

/-! ## Snapshots (R400–R402) -/

/-- Nothing that a dump record shows differs: no register but the record number and the dump control. -/
structure SameShown (s u : State) : Prop where
  regs : ∀ x, x ≠ telReg 0x811C → x ≠ telReg 0x8100 → u.rd x = s.rd x
  rest : u = { s with reg := u.reg }

theorem SameShown.fld (h : SameShown s u) {off : Nat} (number : off ≠ telReg 0x811C) (control : off ≠ telReg 0x8100) (lo w : Nat) :
    u.fld off lo w = s.fld off lo w := congrArg (wfld · lo w) (h.regs off number control)

theorem SameShown.log (h : SameShown s u) : dumpLog u = dumpLog s := by
  rw [dumpLog, dumpLog, h.fld (by decide) (by decide)]

theorem SameShown.word (h : SameShown s u) (recno i : Nat) : dumpWord u recno i = dumpWord s recno i := by
  have put := h.fld (off := telReg 0x8110) (by decide) (by decide) 0 13
  have period : dumpPeriod u = dumpPeriod s := by rw [dumpPeriod, dumpPeriod, h.fld (by decide) (by decide)]
  have log := h.log
  have flags : ∀ j, j < 70 → u.rd (telReg (0x4000 + 4 * (j - 16))) = s.rd (telReg (0x4000 + 4 * (j - 16))) := fun j hj =>
    h.regs _ (by rw [telReg, telReg]; omega) (by rw [telReg, telReg]; omega)
  have dev : u.devNum = s.devNum := h.fld (off := 0x8) (by decide) (by decide) 4 4
  obtain ⟨r, hu⟩ : ∃ r, u = { s with reg := r } := ⟨_, h.rest⟩
  match i with
  | 0 | 1 | 2 | 3 | 4 => rw [hu]; rfl
  | 5 =>
    simp only [dumpWord]
    rw [put, log, dev, hu]
  | 6 => exact period
  | j + 7 =>
    simp only [dumpWord]
    by_cases shown : 16 ≤ j + 7 ∧ j + 7 < 70
    · rw [if_pos shown, if_pos shown, flags _ shown.2]
    · rw [if_neg shown, if_neg shown, hu]

theorem SameShown.line (h : SameShown s u) (recno l : Nat) : dumpLine u recno l = dumpLine s recno l := by
  rw [dumpLine, dumpLine]
  exact congrArg (fun f : Nat → Word => BitVec.ofNat 512 (ofWordsLE ((List.range 16).map f))) (funext fun i => congrArg w32 (h.word recno _))

/-- A line write of the device agent (R208). -/
def devLine (s : State) (tag : Tag) (a : Nat) (d : LineData) : Msg :=
  reqMsg s.home tag opcWR_LINE false 0 (BitVec.ofNat 52 a) false (wordsLE 16 d.toNat)

/-- A run of line writes of the device agent. -/
theorem devWrites (l : List Nat) (tag : Nat → Tag) (a : Nat → Nat) (d : Nat → LineData) (s : State) :
    l.foldl (fun t i => devWrite t (tag i) (a i) (d i)) s =
      { s with spine := { s.spine with req := s.spine.req ++ l.map fun i => devLine s (tag i) (a i) (d i) } } := by
  induction l generalizing s with
  | nil => rw [List.foldl_nil, List.map_nil, List.append_nil]
  | cons i l ih =>
    rw [List.foldl_cons, ih]
    exact congrArg (fun q => { s with spine := { s.spine with req := q } }) (List.append_assoc ..)

/-- The slot of the host ring that PUT names (R402). -/
def dumpSlot (s : State) : Nat := (s.rd (telReg 0x8108)).toNat / 2 ^ 14 * 2 ^ 14 + s.fld (telReg 0x810C) 0 20 * 2 ^ 32 +
  16384 * (s.fld (telReg 0x8110) 0 13 % 2 ^ dumpLog s)

/-- The ring of dump records is full (R402). -/
def DumpFull (s : State) : Prop := ringDiff (2 ^ dumpLog s) (s.fld (telReg 0x8110) 0 13) (s.fld (telReg 0x8114) 0 13) = 2 ^ dumpLog s

theorem SameShown.slot (h : SameShown s u) : dumpSlot u = dumpSlot s := by
  rw [dumpSlot, dumpSlot, h.log, h.regs (telReg 0x8108) (by decide) (by decide), h.fld (by decide) (by decide), h.fld (by decide) (by decide)]

theorem SameShown.full (h : SameShown s u) : DumpFull u ↔ DumpFull s := by
  rw [DumpFull, DumpFull, h.log, h.fld (by decide) (by decide), h.fld (by decide) (by decide)]

/-- What takes the next number is shown alike. -/
theorem SameShown.numbered (h : SameShown s u) (w : Word) : SameShown s (u.wr (telReg 0x811C) w) where
  regs x hn hc := (State.rd_wr_other _ _ hn).trans (h.regs x hn hc)
  rest := by rw [State.wr_frame, h.rest]

/-- The snapshot and its writes. -/
def dumpSnapshot (s : State) (recno : Nat) : State :=
  let t := ((List.range 255).map (· + 1)).foldl (fun t l => devWrite t (dumpTag l) (dumpSlot s + 64 * l) (dumpLine s recno l)) s
  { t with tel := { t.tel with dump := some ⟨dumpLine s recno 0, dumpSlot s, ((List.range 255).map (· + 1)).map dumpTag, false, recno, false⟩, gap := false } }

/-- A dump that is skipped (R403). -/
def dumpSkip (s : State) (recno : Nat) : State :=
  (({ s with tel := { s.tel with gap := true } } : State).count 53 14 1).setStatus (telReg 0x8118) 1 0x70 0x21 (w32 recno)

theorem takeDump_snapshot (hv : v = u.wr (telReg 0x811C) (w32 ((u.rd (telReg 0x811C)).toNat + 1))) (fresh : v.tel.dump = none) (room : ¬ DumpFull v) :
    takeDump u = dumpSnapshot v ((u.rd (telReg 0x811C)).toNat + 1) := by
  rw [takeDump]
  dsimp only
  rw [← hv, fresh, if_neg (by rw [Option.isSome_none, Bool.false_or, beq_iff_eq]; exact room)]
  rfl

theorem takeDump_skip (hv : v = u.wr (telReg 0x811C) (w32 ((u.rd (telReg 0x811C)).toNat + 1))) (full : DumpFull v) :
    takeDump u = dumpSkip v ((u.rd (telReg 0x811C)).toNat + 1) := by
  rw [takeDump]
  dsimp only
  rw [← hv, if_pos (by rw [Bool.or_eq_true, beq_iff_eq]; exact Or.inr full)]
  rfl

/-- The writes of a record's lines after the header. -/
def recordLines (s : State) (recno : Nat) : List Msg :=
  (List.range 255).map fun l => devLine s (dumpTag (l + 1)) (dumpSlot s + 64 * (l + 1)) (dumpLine s recno (l + 1))

/-- The record whose header waits for them. -/
def recordWaiting (s : State) (recno : Nat) : DumpRec :=
  ⟨dumpLine s recno 0, dumpSlot s, (List.range 255).map fun l => dumpTag (l + 1), false, recno, false⟩

theorem dumpSnapshot_eq (s : State) (recno : Nat) : dumpSnapshot s recno =
    { s with
      spine := { s.spine with req := s.spine.req ++ recordLines s recno }
      tel := { s.tel with gap := false, dump := some (recordWaiting s recno) } } := by
  rw [dumpSnapshot, devWrites, List.map_map, List.map_map]
  rfl

theorem SameShown.home (h : SameShown s u) : u.home = s.home :=
  congrArg (mkAgent · 63) (h.fld (off := 0x8) (by decide) (by decide) 4 4)

theorem SameShown.recordLines (h : SameShown s u) (recno : Nat) : recordLines u recno = recordLines s recno := by
  rw [Machine.recordLines, Machine.recordLines]
  refine List.map_congr_left fun l _ => ?_
  rw [devLine, devLine, h.home, h.slot, h.line]

theorem SameShown.recordWaiting (h : SameShown s u) (recno : Nat) : recordWaiting u recno = recordWaiting s recno := by
  rw [Machine.recordWaiting, Machine.recordWaiting, h.line, h.slot]

/-- A snapshot of what is shown as in s is the dump of s. -/
theorem dumpTaken_of (h : SameShown s v) (record : recno = (s.rd (telReg 0x811C)).toNat + 1) (number : v.rd (telReg 0x811C) = w32 recno) :
    DumpTaken s (dumpSnapshot v recno) recno (dumpSlot s) ∧ ∀ x, (dumpSnapshot v recno).rd x = v.rd x := by
  have whole := dumpSnapshot_eq v recno
  rw [h.recordLines, h.recordWaiting] at whole
  rw [whole]
  refine ⟨⟨record, rfl, number, ?_, ?_, ?_⟩, fun _ => rfl⟩
  · rw [h.rest]
    rfl
  · rw [h.rest]
    rfl
  · rw [h.rest]

theorem sameShown_self (s : State) : SameShown s s := ⟨fun _ _ _ => rfl, rfl⟩

/-- A dump at once, in a state that shows the same. -/
theorem takeDump_taken (h : SameShown s u) (same : u.rd (telReg 0x811C) = s.rd (telReg 0x811C)) (fresh : s.tel.dump = none) (room : ¬ DumpFull s) :
    ∃ recno, DumpTaken s (takeDump u) recno (dumpSlot s) ∧ ∀ x, x ≠ telReg 0x811C → (takeDump u).rd x = u.rd x := by
  obtain ⟨v, hv⟩ : ∃ v, v = u.wr (telReg 0x811C) (w32 ((u.rd (telReg 0x811C)).toNat + 1)) := ⟨_, rfl⟩
  have shown : SameShown s v := hv ▸ h.numbered _
  have idle : v.tel.dump = none := by
    rw [shown.rest]
    exact fresh
  obtain ⟨taken, regs⟩ := dumpTaken_of (recno := (u.rd (telReg 0x811C)).toNat + 1) shown (by rw [same]) (by rw [hv, State.rd_wr_same])
  rw [takeDump_snapshot hv idle (mt shown.full.mp room)]
  exact ⟨_, taken, fun x hx => (regs x).trans (by rw [hv, State.rd_wr_other _ _ hx])⟩

theorem DumpTaken.setFld (h : DumpTaken s t recno base) {off : Nat} (other : telReg 0x811C ≠ off) (lo w v : Nat) :
    DumpTaken s (t.setFld off lo w v) recno base where
  record := h.record
  place := h.place
  number := (State.rd_setFld_other t lo w v other).trans h.number
  dump := by rw [State.setFld_frame]; exact h.dump
  lines := by rw [State.setFld_frame]; exact h.lines
  rest := by rw [State.setFld_frame, h.rest]

/-- A dump that falls due while domain 61 is Lit is taken, or skipped. -/
theorem dumpFalls_lit (on : s.bit (telReg 0x8100) 0 = true) (lit : s.domLit 61 = true) : dumpFalls s = takeDump s := by
  have moving : (s.dom 61).moving = none := by
    rw [State.domLit, Bool.and_eq_true, Option.isNone_iff_eq_none] at lit
    exact lit.2
  have light : telDark s = false := by
    rw [telDark, domLit_not_cold lit, moving]
    rfl
  rw [dumpFalls, on, light, lit, if_neg (by decide), if_pos rfl]

theorem setStatus_sets (s : State) {off i source code : Nat} {info : Word} (hi : i < 32) : (s.setStatus off i source code info).bit off i = true ∧
    (s.setStatus off i source code info).evt =
      (if s.bit off i then s.evt else { s.evt with waiting := s.evt.waiting ++ [⟨source, code, info⟩] }) ∧
    (∀ x, x ≠ off → (s.setStatus off i source code info).rd x = s.rd x) ∧
    s.setStatus off i source code info =
      { s with reg := (s.setStatus off i source code info).reg, evt := (s.setStatus off i source code info).evt } := by
  rw [State.setStatus]
  split
  · exact ⟨‹_›, rfl, fun _ _ => rfl, rfl⟩
  · refine ⟨(State.bit_setFld s off i 1 1 hi).trans (by rw [if_pos ⟨Nat.le_refl i, Nat.lt_succ_self i⟩, Nat.sub_self]; rfl), ?_, fun x hx => State.rd_setFld_other s i 1 1 hx, ?_⟩
    · rw [State.raise, State.setFld_frame]
    · rw [State.raise, State.setFld_frame]

/-- A skipped dump is numbered, and the next one taken will tell of the gap (R403). -/
theorem takeDump_skips (full : DumpFull s) : (takeDump s).tel = { s.tel with gap := true } ∧ (takeDump s).bit (telReg 0x8118) 1 = true ∧
    (takeDump s).evt = (if s.bit (telReg 0x8118) 1 then s.evt else
      { s.evt with waiting := s.evt.waiting ++ [⟨0x70, 0x21, s.rd (telReg 0x811C) + 1⟩] }) ∧
    (takeDump s).rd (telReg 0x811C) = s.rd (telReg 0x811C) + 1 ∧ (takeDump s).spine = s.spine ∧
    takeDump s = { s with reg := (takeDump s).reg, tel := (takeDump s).tel, evt := (takeDump s).evt, acc := (takeDump s).acc } := by
  have next : w32 ((s.rd (telReg 0x811C)).toNat + 1) = s.rd (telReg 0x811C) + 1 := by
    rw [w32, BitVec.ofNat_add, BitVec.ofNat_toNat, BitVec.setWidth_eq]
    rfl
  obtain ⟨v, hv⟩ : ∃ v, v = s.wr (telReg 0x811C) (w32 ((s.rd (telReg 0x811C)).toNat + 1)) := ⟨_, rfl⟩
  have shown : SameShown s v := hv ▸ (sameShown_self s).numbered _
  have flag : v.bit (telReg 0x8118) 1 = s.bit (telReg 0x8118) 1 := by rw [State.bit, State.bit, shown.regs _ (by decide) (by decide)]
  have number : v.rd (telReg 0x811C) = s.rd (telReg 0x811C) + 1 := by rw [hv, State.rd_wr_same, next]
  obtain ⟨w, hw⟩ : ∃ w, w = ({ v with tel := { v.tel with gap := true } } : State).count 53 14 1 := ⟨_, rfl⟩
  have counted : w = { v with tel := { v.tel with gap := true }, acc := w.acc } := by
    rw [hw, count_frame]
  have rd : ∀ x, w.rd x = v.rd x := fun x => by
    rw [counted]
    rfl
  have bit : w.bit (telReg 0x8118) 1 = s.bit (telReg 0x8118) 1 := by
    rw [← flag, State.bit, State.bit, rd]
  obtain ⟨set, evt, regs, rest⟩ := setStatus_sets w (off := telReg 0x8118) (i := 1) (source := 0x70) (code := 0x21)
    (info := s.rd (telReg 0x811C) + 1) (by decide)
  have skip : takeDump s = w.setStatus (telReg 0x8118) 1 0x70 0x21 (s.rd (telReg 0x811C) + 1) := by
    rw [takeDump_skip hv (shown.full.mpr full), dumpSkip, next, hw]
  rw [skip]
  generalize w.setStatus (telReg 0x8118) 1 0x70 0x21 (s.rd (telReg 0x811C) + 1) = t at set evt regs rest
  rw [bit] at evt
  refine ⟨?_, set, evt.trans ?_, ?_, ?_, ?_⟩
  · rw [rest, counted, shown.rest]
  · rw [counted, shown.rest]
  · rw [regs _ (by decide), rd, number]
  · rw [rest, counted, shown.rest]
  · rw [rest, counted, shown.rest]

/-- A domain that has begun to wake. -/
def Domain.waking (x : Domain) : Domain := { x with moving := some .lit, from_ := x.st }

/-- A dump that falls due while domain 61 is in Ember wakes it (R449). -/
theorem dumpFalls_ember (on : s.bit (telReg 0x8100) 0 = true) (ember : (s.dom 61).st = .ember) (still : (s.dom 61).moving = none)
    (half : s.domLit 3 = true) : dumpFalls s = { s.modDom 61 Domain.waking with tel := { s.tel with due := true } } := by
  have present : s.domPresent 61 = true := rfl
  have st : s.domSt 61 = .ember := by rw [State.domSt, if_pos present, ember]
  have unlit : s.domLit 61 = false := by
    rw [State.domLit, st]
    rfl
  have light : telDark s = false := by
    rw [telDark, st, still]
    rfl
  have one : s.wakeOne 61 = s.modDom 61 Domain.waking := by
    rw [State.wakeOne, present, still, st, if_neg (by simp), if_pos (by simp)]
    rfl
  have lit : (s.modDom 61 Domain.waking).domLit 3 = true := by
    have same : (s.modDom 61 Domain.waking).dom 3 = s.dom 3 := by
      rw [State.dom_modDom, if_neg (by decide)]
    rw [State.domLit, State.domSt, same]
    exact half
  have woken : s.wake 61 = s.modDom 61 Domain.waking := by
    rw [State.wake, st, still, if_neg (by decide), State.wakeAccess, show halfOf 61 = some 3 by decide]
    dsimp only
    rw [one, wakeOne_lit lit]
  rw [dumpFalls, on, light, unlit, woken, if_neg (by decide), if_neg Bool.false_ne_true]

/-- The header line is performed (R402). -/
theorem dumpDone_ends {d : DumpRec} (dump : s.tel.dump = some d) (sent : d.headerSent = true) :
    (d.stopped = true → dumpDone s = { s with tel := { s.tel with dump := none } }) ∧
    (d.stopped = false → (dumpDone s).tel = { s.tel with dump := none } ∧
      (dumpDone s).fld (telReg 0x8110) 0 13 = (s.fld (telReg 0x8110) 0 13 + 1) % (2 * 2 ^ dumpLog s) ∧
      (dumpDone s).evt = { s.evt with waiting := s.evt.waiting ++ [⟨0x70, 0x20, w32 d.recno⟩] } ∧
      (∀ x, x ≠ telReg 0x8110 → (dumpDone s).rd x = s.rd x) ∧
      dumpDone s = { s with reg := (dumpDone s).reg, tel := (dumpDone s).tel, evt := (dumpDone s).evt }) := by
  refine ⟨fun stopped => ?_, fun going => ?_⟩
  · rw [dumpDone, dump]
    dsimp only
    rw [sent, stopped, if_pos rfl, if_pos rfl]
  · have small : (s.fld (telReg 0x8110) 0 13 + 1) % (2 * 2 ^ dumpLog s) < 2 ^ 13 := by
      have log : dumpLog s ≤ 12 := by
        rw [dumpLog]
        omega
      have power : 2 * 2 ^ dumpLog s ≤ 2 ^ 13 := by
        rw [← Nat.pow_succ']
        exact Nat.pow_le_pow_right (by decide) (Nat.succ_le_succ log)
      exact lt_of_lt_of_le (Nat.mod_lt _ (Nat.mul_pos (by decide) (Nat.two_pow_pos _))) power
    have done : dumpDone s = (({ s with tel := { s.tel with dump := none } } : State).setFld (telReg 0x8110) 0 13
        ((s.fld (telReg 0x8110) 0 13 + 1) % (2 * 2 ^ dumpLog s))).raise 0x70 0x20 (w32 d.recno) := by
      rw [dumpDone, dump]
      dsimp only
      rw [sent, going, if_pos rfl, if_neg Bool.false_ne_true]
      rfl
    rw [done]
    generalize (s.fld (telReg 0x8110) 0 13 + 1) % (2 * 2 ^ dumpLog s) = put at small ⊢
    refine ⟨?_, ?_, ?_, fun x hx => State.rd_setFld_other _ _ _ _ hx, ?_⟩
    · rw [State.raise, State.setFld_frame]
    · exact (State.fld_setFld _ _ _ _ _ (by decide)).trans (Nat.mod_eq_of_lt small)
    · rw [State.raise, State.setFld_frame]
    · rw [State.raise, State.setFld_frame]

/-! ## Commands to telemetry (R400, R405) -/

theorem dumpNow_facts : Direct (telReg 0x8100) ∧ blockAt (telReg 0x8100) = .telemetry ∧ telReg 0x8100 - Block.telemetry.base = 0x8100 ∧
    pairLow (telReg 0x8100) = false ∧ (regFields (telReg 0x8100)).isEmpty = false ∧
    ((regFields (telReg 0x8100)).any fun f => f.ty == .w1l) = false ∧ ¬ telReg 0x8100 - 0x700000 < 0x3600 ∧
    (maskOf (regFields (telReg 0x8100)) fun f => f.ty == .rw || f.ty == .w1l).testBit 0 = true :=
  ⟨⟨Or.inr (by decide), by decide⟩, by decide⟩

theorem blotEnable_facts : Direct (telReg 0x8200) ∧ blockAt (telReg 0x8200) = .telemetry ∧ telReg 0x8200 - Block.telemetry.base = 0x8200 ∧
    pairLow (telReg 0x8200) = false ∧ (regFields (telReg 0x8200)).isEmpty = false ∧
    ((regFields (telReg 0x8200)).any fun f => f.ty == .w1l) = false ∧ ¬ telReg 0x8200 - 0x700000 < 0x3600 :=
  ⟨⟨Or.inr (by decide), by decide⟩, by decide⟩

/-- A write of a control register of telemetry takes effect, and then starts what it starts. -/
theorem CwReach.writesTel {rel : Nat} (h : CwReach s m (telReg rel)) (hd : Direct (telReg rel)) (block : blockAt (telReg rel) = .telemetry)
    (base : telReg rel - Block.telemetry.base = rel) (single : pairLow (telReg rel) = false) (listed : (regFields (telReg rel)).isEmpty = false)
    (unlocked : ((regFields (telReg rel)).any fun f => f.ty == .w1l) = false) (apart : ¬ telReg rel - 0x700000 < 0x3600)
    (filter : ∀ (t : State) (v : Word), filterWrite t m (telReg rel) v = (t, some v)) (lo w v : Nat) :
    ∃ u, RegStored s u (telReg rel) ∧ writeField s m (telReg rel) lo w v = startTel u rel (s.rd (telReg rel)) (w32 (keepRest s (telReg rel) lo w v)) ∧
      u.rd (telReg rel) = writtenValue s (telReg rel) (w32 (keepRest s (telReg rel) lo w v)) (BitVec.allOnes 32) := by
  have ordinary : Ordinary (telReg rel) := ⟨hd, single, listed, unlocked, fun n => by rw [block]; exact Block.noConfusion, fun c => apart c.2⟩
  obtain ⟨u, writes, stored, value⟩ := h.writes ordinary (v := keepRest s (telReg rel) lo w v) fun t => filter t _
  refine ⟨u, stored, ?_, value⟩
  rw [writeField, writes, startWrite, block]
  dsimp only
  rw [base]

theorem RegStored.shown (h : RegStored s u (telReg 0x8100)) : SameShown s u := ⟨fun x _ hx => h.regs x hx, h.rest⟩

/-- DUMP_NOW takes a dump, and clears itself. -/
theorem CwReach.dumpsNow (h : CwReach s m (telReg 0x8100)) : ∃ u, RegStored s u (telReg 0x8100) ∧
    writeField s m (telReg 0x8100) 1 1 1 = (takeDump u).setFld (telReg 0x8100) 1 1 0 := by
  obtain ⟨hd, block, base, single, listed, unlocked, apart, kept⟩ := dumpNow_facts
  have filter : ∀ (t : State) (v : Word), filterWrite t m (telReg 0x8100) v = (t, some v) := fun t v => by
    rw [filterWrite, block]
    dsimp only
    rw [base, if_neg fun c => absurd c.1 (by decide), if_neg fun c => absurd c.1 (by decide), if_neg fun c => absurd c.1 (by decide),
      if_neg fun c => absurd c.1 (by decide)]
  obtain ⟨u, stored, writes, -⟩ := h.writesTel hd block base single listed unlocked apart filter 1 1 1
  have go : (w32 (keepRest s (telReg 0x8100) 1 1 1)).getLsbD 1 = true :=
    (keepRest_bit s _ 1 1 1 (by decide) (Or.inl (by decide))).trans rfl
  have on : (w32 (keepRest s (telReg 0x8100) 1 1 1)).getLsbD 0 = (s.rd (telReg 0x8100)).getLsbD 0 :=
    (keepRest_bit s _ 1 1 1 (by decide) (Or.inr kept)).trans (if_neg (by decide))
  refine ⟨u, stored, writes.trans ?_⟩
  rw [startTel, go, on, Bool.and_not_self, if_neg Bool.false_ne_true, if_pos rfl]

/-- EN loads the blotter and draws its first distance. -/
theorem CwReach.startsBlotter (h : CwReach s m (telReg 0x8200)) (off_ : s.bit (telReg 0x8200) 0 = false) :
    ∃ u, RegStored s u (telReg 0x8200) ∧ writeField s m (telReg 0x8200) 0 1 1 = blotStart u ∧ u.bit (telReg 0x8200) 0 = true ∧
      u.fld (telReg 0x8200) 4 4 = s.fld (telReg 0x8200) 4 4 := by
  obtain ⟨hd, block, base, single, listed, unlocked, apart⟩ := blotEnable_facts
  have filter : ∀ (t : State) (v : Word), filterWrite t m (telReg 0x8200) v = (t, some v) := fun t v => by
    rw [filterWrite, block]
    dsimp only
    rw [base, if_neg fun c => absurd c.1 (by decide), if_neg fun c => absurd c.1 (by decide), if_neg fun c => absurd c.1 (by decide),
      if_neg fun c => absurd c.1 (by decide)]
  obtain ⟨u, stored, writes, value⟩ := h.writesTel hd block base single listed unlocked apart filter 0 1 1
  have written : ∀ i, i = 0 ∨ 4 ≤ i ∧ i < 8 → u.bit (telReg 0x8200) i = if 0 ≤ i ∧ i < 0 + 1 then (1 : Nat).testBit (i - 0) else s.bit (telReg 0x8200) i := by
    intro i hi
    have rw_ : ∀ i < 8, i = 0 ∨ 4 ≤ i → (maskOf (regFields (telReg 0x8200)) fun f => f.ty == .rw || f.ty == .w1l).testBit i = true ∧
        (selfClear (telReg 0x8200)).testBit i = false ∧ (maskOf (regFields (telReg 0x8200)) fun f => f.ty == .w1c).testBit i = false := by decide
    obtain ⟨kept, still, noW1c⟩ := rw_ i (by omega) (hi.imp_right And.left)
    rw [State.bit, value, writtenValue_rw (by omega) (by decide) (by rfl) kept still noW1c]
    exact keepRest_bit s _ 0 1 1 (by omega) (Or.inr kept)
  have go : (w32 (keepRest s (telReg 0x8200) 0 1 1)).getLsbD 0 = true := (keepRest_bit s _ 0 1 1 (by decide) (Or.inl (by decide))).trans rfl
  refine ⟨u, stored, writes.trans ?_, written 0 (Or.inl rfl), ?_⟩
  · rw [startTel, go, show (s.rd (telReg 0x8200)).getLsbD 0 = false from off_]
    rfl
  · refine (fld_congr_bits (x := (s.rd (telReg 0x8200)).toNat) fun i lo hi => ?_)
    exact (written i (Or.inr ⟨lo, hi⟩)).trans ((if_neg (by omega)).trans (BitVec.testBit_toNat ..).symm)

/-- The blotter after its start (R405). -/
theorem blotStart_draws (u : State) {l : Nat} (hl : l = lfsrSteps 16 (if u.fld (telReg 0x820C) 0 16 = 0 then 0xACE1 else u.fld (telReg 0x820C) 0 16)) :
    ∃ t, blotStart u = t ∧ t.tel = { u.tel with blot := { u.tel.blot with lfsr := l, dist := blotDistance u.blotK (u.fld (telReg 0x8200) 4 4) l } } ∧
      t = { u with tel := t.tel } := by
  rw [hl]
  exact ⟨_, rfl, rfl, rfl⟩

/-! ## The drains (R409) -/

/-- The bytes that the next record of the host ring takes. -/
def blotPlace (s : State) : Nat :=
  (s.rd (telReg 0x8210)).toNat / 64 * 64 + s.fld (telReg 0x8214) 0 20 * 2 ^ 32 + 32 * (s.fld (telReg 0x8218) 0 21 % 2 ^ blotLog s)

/-- The blotter may drain: domain 61 is Lit, no drain is out, and none has been refused. -/
structure MayDrain (s : State) : Prop where
  lit : s.domLit 61 = true
  none_ : s.tel.blot.drain = none
  fine : s.bit (telReg 0x8220) 1 = false

theorem MayDrain.pair (h : MayDrain s) {r2 : List Word} {l : List (List Word)} (ring : s.tel.blot.ring = r :: r2 :: l)
    (hp : put = s.fld (telReg 0x8218) 0 21) (even : put % 2 = 0) (room : ringDiff (2 ^ blotLog s) put (s.fld (telReg 0x821C) 0 21) + 2 ≤ 2 ^ blotLog s) :
    blotDrain s = modBlot (devWrite s blotTag (blotPlace s) (BitVec.ofNat 512 (ofWordsLE (withPhase s put r ++ withPhase s (put + 1) r2))))
      fun b => { b with drain := some (blotTag, 2) } := by
  rw [blotDrain]
  rw [h.lit, h.none_, h.fine, if_neg (by decide), ring]
  dsimp only
  rw [← hp, if_pos ⟨even, room⟩, blotPlace, ← hp]

theorem MayDrain.single (h : MayDrain s) (ring : s.tel.blot.ring = [r]) (waited : s.tel.blot.waited = true)
    (hp : put = s.fld (telReg 0x8218) 0 21) (room : ringDiff (2 ^ blotLog s) put (s.fld (telReg 0x821C) 0 21) < 2 ^ blotLog s) (ha : a = blotPlace s) :
    blotDrain s = modBlot (s.putReq (reqMsg s.home blotTag opcWR_PART false 0 (BitVec.ofNat 52 (a / 64 * 64)) false
      (partBody (byteMask (a % 64) 32) (putLine 0 (a % 64) 32 (ofWordsLE (withPhase s put r)))))) fun b => { b with drain := some (blotTag, 1) } := by
  rw [blotDrain]
  rw [h.lit, h.none_, h.fine, if_neg (by decide), ring]
  dsimp only
  rw [blotDrain.one, ← hp, if_pos ⟨waited, room⟩, ha, blotPlace, ← hp]

end Sys2Proof.Machine

open Sys2Proof Sys2Proof.Machine

/-- Settles O47: a dump is the snapshot of what is shown when it is taken; the blotter draws, records and drains step by step. -/
theorem dumpsAndRecordsGoToTheirRings : Obligations.DumpsAndRecordsGoToTheirRings := by
  unfold Obligations.DumpsAndRecordsGoToTheirRings
  refine ⟨fun s on lit => ⟨fun fresh room => ?_, fun full => ?_⟩, fun s on ember still half => ?_, fun s m h fresh room => ?_,
    fun s d arrives dump sent => ?_, fun s m h off_ => ?_, fun s i left f follows has lit room => ?_,
    fun s r put size a lit none_ fine hp hsize ha => ⟨fun r2 l ring even room => ?_, fun ring room => ?_⟩⟩
  · have run : exec .dumpPeriod s = .next (takeDump s) := congrArg Host.Outcome.next (dumpFalls_lit on lit)
    obtain ⟨recno, taken, regs⟩ := takeDump_taken (sameShown_self s) rfl fresh room
    generalize takeDump s = t at run taken regs
    exact ⟨t, recno, _, run, taken, regs⟩
  · have run : exec .dumpPeriod s = .next (takeDump s) := congrArg Host.Outcome.next (dumpFalls_lit on lit)
    have skips := takeDump_skips full
    generalize takeDump s = t at run skips
    exact ⟨t, run, skips⟩
  · have run : exec .dumpPeriod s = .next _ := congrArg Host.Outcome.next (dumpFalls_ember on ember still half)
    refine ⟨_, run, rfl, ?_, fun d hd => ?_, rfl⟩
    · refine (State.dom_modDom s 61 Domain.waking 61).trans ?_
      rw [if_pos rfl]
      exact congrArg (fun x => { s.dom 61 with moving := some .lit, from_ := x }) ember
    · exact (State.dom_modDom s 61 Domain.waking d).trans (if_neg hd)
  · obtain ⟨u, stored, writes⟩ := h.dumpsNow
    obtain ⟨recno, taken, regs⟩ := takeDump_taken stored.shown (stored.regs _ (by decide)) fresh room
    have run : exec (.dumpNow m) s = .next _ := congrArg Host.Outcome.next writes
    generalize takeDump u = v at run taken regs
    refine ⟨_, recno, _, run, taken.setFld (by decide) 1 1 0, ?_, fun x number control => ?_⟩
    · exact (State.bit_setFld _ _ 1 1 0 (by decide)).trans rfl
    · rw [State.rd_setFld_other _ _ _ _ control, regs x number, stored.regs x control]
  · have run : exec .dumpDone s = .next (dumpDone s) := by
      refine congrArg Host.Outcome.next ?_
      rw [arrives.takeMsg]
    obtain ⟨stopped, going⟩ := dumpDone_ends dump sent
    exact ⟨fun h => run.trans (congrArg _ (stopped h)), fun h => ⟨_, run, going h⟩⟩
  · obtain ⟨u, stored, writes, on, dither⟩ := h.startsBlotter off_
    have k : u.blotK = s.blotK := by
      rw [State.blotK, State.blotK, State.fld, stored.regs _ (by decide)]
      rfl
    have seed : u.fld (telReg 0x820C) 0 16 = s.fld (telReg 0x820C) 0 16 := congrArg (wfld · 0 16) (stored.regs _ (by decide))
    have tel : u.tel = s.tel := by rw [stored.rest]
    obtain ⟨t, draws, drawn, rest⟩ := blotStart_draws u rfl
    rw [k, dither, seed, tel] at drawn
    have run : exec (.blotterEnable m) s = .next t := congrArg Host.Outcome.next (writes.trans draws)
    refine ⟨t, _, run, ?_, rfl, drawn, fun x hx => ?_, ?_⟩
    · rw [rest]
      exact on
    · rw [rest]
      exact stored.regs x hx
    · rw [rest, stored.rest]
  · refine congrArg Host.Outcome.next ?_
    rw [follows]
    dsimp only
    rw [has]
    dsimp only
    rw [lit, if_neg (by decide)]
    exact if_neg (Nat.not_le.mpr room)
  · have may : MayDrain s := ⟨lit, none_, fine⟩
    have place : a = blotPlace s := by rw [ha, hsize, hp, blotPlace]
    subst hsize
    have run : exec .blotterDrainWrite s = .next _ := congrArg Host.Outcome.next (may.pair ring hp even room)
    refine ⟨_, run, rfl, ?_, rfl⟩
    rw [place]
    rfl
  · have may : MayDrain (modBlot s fun b => { b with waited := true }) := ⟨lit, none_, fine⟩
    have place : a = blotPlace s := by rw [ha, hsize, hp, blotPlace]
    subst hsize
    have run : exec .blotterRecordWaitExpire s = .next (blotDrain (modBlot s fun b => { b with waited := true })) := by
      refine congrArg Host.Outcome.next ?_
      rw [ring]
      rfl
    rw [run, may.single ring rfl hp room place]
    exact ⟨_, rfl, rfl, rfl, rfl⟩

end

section

/-! PROOF. Domain commands start, are refused, or wait, R449, R452, R456 and R457. -/

namespace Sys2Proof.Machine

variable {s t u v : State} {m : Master} {d : Nat} {x : DomSt}

/-! ## The write (R456) -/

theorem regFields_domCtl (hd : d < 64) :
    regFields (domReg d 0) = [⟨"TARGET", 0, 2, .rw, true, false, .fixed, 0⟩, ⟨"GO", 4, 1, .rw, true, false, .fixed, 0⟩] := by
  have eq : domReg d 0 = 0x21000 + 0x10 * d := rfl
  rw [regFields, blockAt_power (by omega) (by omega), show domReg d 0 - Block.power.base = 0x1000 + 0x10 * d by
    show domReg d 0 - 0x20000 = _; omega]
  simp only [blockFields, powerFields, if_neg (by omega : ¬ 0x1000 + 0x10 * d = 0xFFF8), if_neg (by omega : ¬ 0x1000 + 0x10 * d = 0xFFFC),
    if_pos (by omega : 0x1000 ≤ 0x1000 + 0x10 * d ∧ 0x1000 + 0x10 * d < 0x1400), show (0x1000 + 0x10 * d - 0x1000) % 0x10 = 0 by omega]

theorem domCtl_place (hd : d < 64) : blockAt (domReg d 0) = .power ∧ domReg d 0 - Block.power.base = 0x1000 + 0x10 * d := by
  have eq : domReg d 0 = 0x21000 + 0x10 * d := rfl
  exact ⟨blockAt_power (by omega) (by omega), by show domReg d 0 - 0x20000 = _; omega⟩

theorem ordinary_domCtl (hd : d < 64) : Ordinary (domReg d 0) := by
  have eq : domReg d 0 = 0x21000 + 0x10 * d := rfl
  obtain ⟨block, rel⟩ := domCtl_place hd
  have pair : (domReg d 0 == pwrReg 0x8108) = false := beq_false_of_ne (by unfold pwrReg; omega)
  refine ⟨⟨Or.inl (by omega), by omega⟩, ?_, by rw [regFields_domCtl hd]; rfl, by rw [regFields_domCtl hd]; rfl,
    fun n => by rw [block]; exact Block.noConfusion, fun h => by rw [block] at h; exact Block.noConfusion h.1⟩
  rw [pairLow, block]
  exact pair

theorem selfClear_domCtl (hd : d < 64) : selfClear (domReg d 0) = 0x10 := by
  obtain ⟨block, rel⟩ := domCtl_place hd
  rw [selfClear, block]
  dsimp only
  rw [rel, if_pos (by omega)]

/-- The words that the commands write. -/
theorem domCommand_word : ∀ target < 4, (w32 (target + 0x10)).getLsbD 4 = true ∧ ∀ i < 2, (w32 (target + 0x10)).getLsbD i = target.testBit i := by decide

/-- Of a domain's control register, what a write stores. -/
theorem domCtl_masks (hd : d < 64) : ((regFields (domReg d 0)).any fun f => f.ty == .mw) = false ∧
    (∀ i, (maskOf (regFields (domReg d 0)) fun f => f.ty == .w1c).testBit i = false) ∧
    ∀ i < 2, (maskOf (regFields (domReg d 0)) fun f => f.ty == .rw || f.ty == .w1l).testBit i = true := by
  rw [regFields_domCtl hd]
  exact ⟨rfl, Nat.zero_testBit, by decide⟩

theorem wholeValue_domCtl (hd : d < 64) (s : State) : wholeValue s (domReg d 0) = none := by
  rw [wholeValue, (domCtl_place hd).1]

/-- A command of a domain is written, and issued. -/
theorem CwReach.commands (h : CwReach s m (domReg d 0)) (hd : d < 64) {target : Nat} (ht : target < 4) : ∃ u, RegStored s u (domReg d 0) ∧
    domCommand s m d target = issueCmd u d ∧ u.fld (domReg d 0) 0 2 = target ∧ u.bit (domReg d 0) 4 = true := by
  obtain ⟨block, rel⟩ := domCtl_place hd
  obtain ⟨go, small⟩ := domCommand_word target ht
  obtain ⟨noMw, noW1c, kept⟩ := domCtl_masks hd
  have noClear : ∀ i < 2, (0x10 : Nat).testBit i = false := by decide
  have other : ∀ b, Block.power ≠ b → blockAt (domReg d 0) ≠ b := fun b hb => by rw [block]; exact hb
  obtain ⟨u, writes, stored, value⟩ := h.writes (ordinary_domCtl hd) (v := target + 0x10) fun t =>
    filterWrite_other (other _ (by decide)) (other _ (by decide)) (other _ (by decide)) (other _ (by decide)) (other _ (by decide))
  generalize w32 (target + 0x10) = word at go small writes value
  have low : ∀ i < 2, u.bit (domReg d 0) i = target.testBit i := fun i hi => by
    rw [State.bit, value, writtenValue_rw (by omega) noMw (wholeValue_domCtl hd s) (kept i hi) (by rw [selfClear_domCtl hd]; exact noClear i hi) (noW1c i),
      small i hi]
  refine ⟨u, stored, ?_, ?_, ?_⟩
  · rw [domCommand, writes, startWrite, block]
    dsimp only
    rw [rel, if_pos ⟨by omega, by omega, by omega, go⟩, Nat.add_sub_cancel_left, Nat.mul_div_cancel_left _ (by decide)]
  · refine (fld_congr_bits (x := target) fun i _ hi => low i (by omega)).trans ?_
    rw [bitsOf, pow_zero, Nat.div_one]
    exact Nat.mod_eq_of_lt ht
  · rw [State.bit, value]
    exact writtenValue_selfClear (by decide) noMw (by rw [selfClear_domCtl hd]; decide) (noW1c 4) go

/-! ## What a command's own writes leave unchanged -/

/-- No register but the domain's control register differs, and else only domains. -/
structure CtlOnly (s v : State) (d : Nat) : Prop where
  regs : ∀ o, o ≠ domReg d 0 → v.rd o = s.rd o
  rest : v = { s with reg := v.reg, doms := v.doms }

theorem domCtl_apart (hd : d < 64) {o : Nat} (ho : o < 0x21000 ∨ 0x21400 ≤ o) : o ≠ domReg d 0 := by
  rw [domReg]
  omega

section

variable (h : CtlOnly s v d) (hd : d < 64)

include h

theorem CtlOnly.trans (h' : CtlOnly v t d) : CtlOnly s t d :=
  ⟨fun o ho => (h'.regs o ho).trans (h.regs o ho), by rw [h'.rest, h.rest]⟩

theorem CtlOnly.fld {o : Nat} (ho : o ≠ domReg d 0) (lo w : Nat) : v.fld o lo w = s.fld o lo w := congrArg (wfld · lo w) (h.regs o ho)

theorem CtlOnly.bit {o : Nat} (ho : o ≠ domReg d 0) (i : Nat) : v.bit o i = s.bit o i := congrArg (·.getLsbD i) (h.regs o ho)

theorem CtlOnly.devId : v.devId = s.devId := by
  rw [h.rest]
  rfl

include hd

theorem CtlOnly.compat : v.compat = s.compat := h.bit (domCtl_apart hd (Or.inl (by decide))) 0

theorem CtlOnly.portPresent (p : Nat) : v.portPresent p = s.portPresent p := by rw [State.portPresent, State.portPresent, h.devId, h.compat hd]

theorem CtlOnly.fwdPresent : v.fwdPresent = s.fwdPresent := by rw [State.fwdPresent, State.fwdPresent, h.devId, h.compat hd]

theorem CtlOnly.domPresent (e : Nat) : v.domPresent e = s.domPresent e := by
  rw [State.domPresent, State.domPresent, h.portPresent hd, h.fwdPresent hd, State.slicePresent, State.slicePresent, State.stackPresent, State.stackPresent,
    State.clusterPresent, State.clusterPresent, h.devId, h.compat hd]

theorem CtlOnly.isFabric (p : Nat) : v.isFabric p = s.isFabric p := h.bit (domCtl_apart hd (Or.inr (by rw [portReg]; omega))) 0

theorem CtlOnly.portEn (p : Nat) : v.portEn p = s.portEn p := h.bit (domCtl_apart hd (Or.inr (by rw [portReg]; omega))) 0

theorem CtlOnly.fwdInUse (i : Nat) : fwdInUse v i = fwdInUse s i := by
  rw [Machine.fwdInUse, Machine.fwdInUse]
  exact congrArg (List.any _) (funext fun j => by rw [h.portPresent hd, h.isFabric hd, h.portEn hd])

theorem CtlOnly.devNum : v.devNum = s.devNum := h.fld (domCtl_apart hd (Or.inl (by decide))) 4 4

theorem CtlOnly.route (e : Nat) : v.rd (dirReg (0x1000 + 0x10 * e)) = s.rd (dirReg (0x1000 + 0x10 * e)) :=
  h.regs _ (domCtl_apart hd (Or.inr (by rw [dirReg]; omega)))

theorem CtlOnly.routePort (e : Nat) : v.routePort e = s.routePort e := by
  rw [State.routePort, State.routePort, h.fwdPresent hd, h.devNum hd]
  rw [State.fld, State.bit, h.route hd, h.isFabric hd]
  rfl

theorem CtlOnly.routeCovers (e a : Nat) : v.routeCovers e a = s.routeCovers e a := by
  have win : v.rd (dirReg (0x1004 + 0x10 * e)) = s.rd (dirReg (0x1004 + 0x10 * e)) := h.regs _ (domCtl_apart hd (Or.inr (by rw [dirReg]; omega)))
  have cw : v.rd (dirReg (0x1008 + 0x10 * e)) = s.rd (dirReg (0x1008 + 0x10 * e)) := h.regs _ (domCtl_apart hd (Or.inr (by rw [dirReg]; omega)))
  have start : v.fld (dirReg (0x1004 + 0x10 * e)) 0 14 = s.fld (dirReg (0x1004 + 0x10 * e)) 0 14 := congrArg (wfld · 0 14) win
  have size : v.fld (dirReg (0x1004 + 0x10 * e)) 16 5 = s.fld (dirReg (0x1004 + 0x10 * e)) 16 5 := congrArg (wfld · 16 5) win
  have valid : v.bit (dirReg (0x1008 + 0x10 * e)) 31 = s.bit (dirReg (0x1008 + 0x10 * e)) 31 := congrArg (·.getLsbD 31) cw
  have window : v.fld (dirReg (0x1008 + 0x10 * e)) 0 26 = s.fld (dirReg (0x1008 + 0x10 * e)) 0 26 := congrArg (wfld · 0 26) cw
  unfold State.routeCovers
  dsimp only
  rw [h.routePort hd, start, size, valid, window]

theorem CtlOnly.classify (a : PA) : v.classify a = s.classify a := by
  have window : v.rd (bootReg 0x18) = s.rd (bootReg 0x18) := h.regs _ (domCtl_apart hd (Or.inl (by decide)))
  have base : v.rd (bootReg 0x14) = s.rd (bootReg 0x14) := h.regs _ (domCtl_apart hd (Or.inl (by decide)))
  have gib : v.homeGiB = s.homeGiB := by rw [State.homeGiB, State.homeGiB, h.compat hd, h.devId]
  have covers : (fun e => v.routeCovers e a.toNat) = fun e => s.routeCovers e a.toNat := funext fun e => h.routeCovers hd e _
  rw [State.classify, State.classify, State.fld, State.fld, State.fld, State.fld, window, base, gib, covers]

theorem CtlOnly.heldUnits (m : HeldMsg) : heldUnits v m = heldUnits s m := by
  have device : msgDevice v m.msg = msgDevice s m.msg := by rw [msgDevice, msgDevice, h.classify hd]
  have route : v.routePort = s.routePort := funext fun e => h.routePort hd e
  have units : fwdUnits v m.from_ = fwdUnits s m.from_ := funext fun p => by
    unfold fwdUnits
    cases m.from_ with
    | none => rfl
    | some q =>
      dsimp only
      rw [h.isFabric hd]
  rw [Machine.heldUnits, Machine.heldUnits, device, route, units]

end

/-- The command of a domain has begun, and the domain is y. -/
structure Begun (s v : State) (d : Nat) (y : Domain) : Prop extends CtlOnly s v d where
  dom : v.dom d = y
  others : ∀ e, e ≠ d → v.dom e = s.dom e
  go : v.bit (domReg d 0) 4 = true

theorem Begun.modDom {y : Domain} (h : Begun s v d y) (f : Domain → Domain) : Begun s (v.modDom d f) d (f y) where
  regs o ho := h.regs o ho
  rest := by
    obtain ⟨D, hD⟩ : ∃ D, v.modDom d f = { v with doms := D } := ⟨_, rfl⟩
    rw [hD, h.rest]
  dom := by rw [State.dom_modDom, if_pos rfl, h.dom]
  others e he := by rw [State.dom_modDom, if_neg he, h.others e he]
  go := h.go

/-- The Ember conditions are those of the state before. -/
theorem Begun.emberReady {y : Domain} (h : Begun s v d y) (hd : d < 64) (timer : Bool) : emberReady v d timer = emberReady s d timer := by
  have states : ∀ e, halfOf e = some d → v.domSt e = s.domSt e ∧ v.dom e = s.dom e := fun e he => by
    have other : e ≠ d := fun same => by
      subst same
      rw [halfOf] at he
      split at he
      · exact nomatch he
      · split at he <;> simp only [Option.some.injEq] at he <;> omega
    exact ⟨by rw [State.domSt, State.domSt, h.domPresent hd, h.others e other], h.others e other⟩
  have held : Machine.heldUnits v = Machine.heldUnits s := funext fun m => h.heldUnits hd m
  have all : ((List.range 64).all fun e => halfOf e != some d || (((v.domSt e == .ember) || (v.domSt e == .cold)) && (v.dom e).moving.isNone)) =
      (List.range 64).all fun e => halfOf e != some d || (((s.domSt e == .ember) || (s.domSt e == .cold)) && (s.dom e).moving.isNone) := by
    refine congrArg (List.all _) (funext fun e => ?_)
    by_cases he : halfOf e = some d
    · obtain ⟨st, dom⟩ := states e he
      rw [st, dom]
    · rw [bne_iff_ne.mpr he, Bool.true_or, Bool.true_or]
  rw [Machine.emberReady, Machine.emberReady, all, held, h.rest]
  rfl

/-! ## Starting a command (R456, R457) -/

/-- What a command names by its TARGET. -/
def orderOf (target : Nat) : DomSt := if target = 0 then .lit else if target = 1 then .ember else .cold

/-- A command that starts is not refused, and no other waits. -/
def Domain.fresh (x : Domain) : Domain := { x with refused := false, pend := none }

def Domain.ordered (c : DomSt) (x : Domain) : Domain := { x with commanded := some c }

/-- What R449 refuses. -/
def Refuses (s : State) (d target : Nat) : Prop := d < 2 ∧ target ≠ 0 ∨ target = 2 ∧ (d < 4 ∨ 62 ≤ d ∧ fwdInUse s (d - 62) = true)

/-- A domain that is Lit, with no command, may be commanded. -/
structure MayCommand (s : State) (m : Master) (d : Nat) : Prop where
  range : d < 64
  reach : CwReach s m (domReg d 0)
  present : s.domPresent d = true
  lit : s.domLit d = true
  idle : (s.dom d).commanded = none
  alone : (s.dom d).pend = none

theorem MayCommand.st (h : MayCommand s m d) : ((s.dom d).st = .lit ∨ (s.dom d).st = .banked) ∧ (s.dom d).moving = none := by
  have lit := h.lit
  rw [State.domLit, State.domSt, if_pos h.present, Bool.and_eq_true, Bool.or_eq_true, beq_iff_eq, beq_iff_eq, Option.isNone_iff_eq_none] at lit
  exact lit

/-- The domain with its command. -/
def started (s : State) (d : Nat) (c : DomSt) : Domain := { s.dom d with refused := false, commanded := some c }

/-- A command is written and starts. -/
theorem MayCommand.starts (h : MayCommand s m d) {target : Nat} (ht : target < 3) : ∃ v, Begun s v d (s.dom d).fresh ∧
    (¬ Refuses s d target → domCommand s m d target = stepCmd (v.modDom d (Domain.ordered (orderOf target))) d) ∧
    (Refuses s d target → domCommand s m d target = refuseCmd v d) := by
  obtain ⟨u, stored, run, field, go⟩ := h.reach.commands h.range (by omega : target < 4)
  have same : CtlOnly s u d := ⟨stored.regs, by rw [stored.rest]⟩
  have dom : ∀ e, u.dom e = s.dom e := fun e => by
    rw [stored.rest]
    rfl
  have begun : Begun s u d (s.dom d) := ⟨same, dom d, fun e _ => dom e, go⟩
  have begun := begun.modDom Domain.fresh
  obtain ⟨v, hv⟩ : ∃ v, v = u.modDom d Domain.fresh := ⟨_, rfl⟩
  rw [← hv] at begun
  have present : v.domPresent d = true := (begun.domPresent h.range d).trans h.present
  have issue : issueCmd u d = startCmd u d := by
    unfold issueCmd
    rw [dom, h.idle]
  have refuse : (target = 3 ∨ (d < 2 ∧ target ≠ 0) ∨ (target = 2 ∧ (d < 4 ∨ (62 ≤ d ∧ fwdInUse v (d - 62) = true)))) ↔ Refuses s d target := by
    rw [begun.fwdInUse h.range, Refuses]
    exact or_iff_right (by omega)
  have start : startCmd u d = if target = 3 ∨ (d < 2 ∧ target ≠ 0) ∨ (target = 2 ∧ (d < 4 ∨ (62 ≤ d ∧ fwdInUse v (d - 62) = true))) then refuseCmd v d
      else stepCmd (v.modDom d (Domain.ordered (orderOf target))) d := by
    rw [startCmd, field]
    rw [show (u.modDom d fun x => { x with refused := false, pend := none }) = v from hv.symm, present, if_neg (by decide)]
    rfl
  exact ⟨v, begun, fun no => by rw [run, issue, start, if_neg (mt refuse.mp no)], fun yes => by rw [run, issue, start, if_pos (refuse.mpr yes)]⟩

theorem fresh_ordered (h : MayCommand s m d) (c : DomSt) : Domain.ordered c (s.dom d).fresh = started s d c := by
  rw [Domain.ordered, Domain.fresh, started, ← h.alone]

/-- A command that R449 does not refuse is carried on. -/
theorem MayCommand.orders (h : MayCommand s m d) {target : Nat} (ht : target < 3) (allowed : ¬ Refuses s d target) :
    ∃ v, Begun s v d (started s d (orderOf target)) ∧ domCommand s m d target = stepCmd v d := by
  obtain ⟨v, begun, run, -⟩ := h.starts ht
  have begun := begun.modDom (Domain.ordered (orderOf target))
  rw [fresh_ordered h] at begun
  exact ⟨_, begun, run allowed⟩

/-! ## Ends of a command -/

/-- A command is over, where none waits (R457). -/
theorem finishCmd_done (alone : (v.dom d).pend = none) : ∃ t, finishCmd v d = t ∧ t.dom d = { v.dom d with commanded := none } ∧
    (∀ e, e ≠ d → t.dom e = v.dom e) ∧ t.bit (domReg d 0) 4 = false ∧ CtlOnly v t d := by
  obtain ⟨w, hw⟩ : ∃ w, w = v.modDom d fun x => { x with commanded := none } := ⟨_, rfl⟩
  have dom : w.dom d = { v.dom d with commanded := none } := by rw [hw, State.dom_modDom, if_pos rfl]
  have others : ∀ e, e ≠ d → w.dom e = v.dom e := fun e he => by rw [hw, State.dom_modDom, if_neg he]
  have rest : w = { v with doms := w.doms } := by
    rw [hw]
    rfl
  have regs : ∀ o, w.rd o = v.rd o := fun o => by
    rw [hw]
    rfl
  have run : finishCmd v d = w.setFld (domReg d 0) 4 1 0 := by
    rw [finishCmd, ← hw]
    rw [dom, alone]
    rfl
  have last : ∀ e, (w.setFld (domReg d 0) 4 1 0).dom e = w.dom e := fun e => State.dom_setFld ..
  refine ⟨_, run, (last d).trans dom, fun e he => (last e).trans (others e he), (State.bit_setFld w _ 4 1 0 (by decide)).trans rfl,
    fun o ho => (State.rd_setFld_other w 4 1 0 ho).trans (regs o), ?_⟩
  rw [State.setFld_frame, rest]

theorem finishCmd_ends {y : Domain} (h : Begun s v d y) (alone : y.pend = none) : ∃ t, finishCmd v d = t ∧ CtlOnly s t d ∧
    t.dom d = { y with commanded := none } ∧ (∀ e, e ≠ d → t.dom e = s.dom e) ∧ t.bit (domReg d 0) 4 = false := by
  obtain ⟨t, run, dom, others, go, only⟩ := finishCmd_done (by rw [h.dom]; exact alone)
  exact ⟨t, run, h.toCtlOnly.trans only, by rw [dom, h.dom], fun e he => (others e he).trans (h.others e he), go⟩

/-- A command of a domain has been refused (R456). -/
structure Refused (s t : State) (d : Nat) : Prop where
  others : ∀ e, e ≠ d → t.dom e = s.dom e
  go : t.bit (domReg d 0) 4 = false
  flag : t.bit (pwrReg 0x18) 3 = true
  dom : t.dom d = { s.dom d with refused := true }
  evt : if s.bit (pwrReg 0x18) 3 then t.evt = s.evt
    else ∃ e, t.evt = { s.evt with waiting := s.evt.waiting ++ [e] } ∧ e.source = 2 ∧ e.code = 0x13
  rest : t = { s with reg := t.reg, doms := t.doms, evt := t.evt }

/-- What hardware's error does to the events. -/
theorem setErr_evt (s : State) (off i source : Nat) (info : Word) : if s.bit off i then (s.setErr off i source info).evt = s.evt
    else ∃ e, (s.setErr off i source info).evt = { s.evt with waiting := s.evt.waiting ++ [e] } ∧ e.source = source ∧ e.code = 0x10 + i := by
  rw [State.setErr]
  split
  · rfl
  · exact ⟨⟨source, 0x10 + i, info⟩, by rw [State.raise, State.setFld_frame], rfl, rfl⟩

theorem refuseCmd_refuses {y : Domain} (hd : d < 64) (h : Begun s v d y) (alone : y.pend = none)
    (same : ({ y with refused := true, commanded := none } : Domain) = { s.dom d with refused := true }) : Refused s (refuseCmd v d) d := by
  have late := h.modDom fun x => { x with refused := true }
  obtain ⟨w, hw⟩ : ∃ w, w = v.modDom d fun x => { x with refused := true } := ⟨_, rfl⟩
  rw [← hw] at late
  obtain ⟨q, hq⟩ : ∃ q, q = w.setFld (pwrReg 0x1C) 0 6 d := ⟨_, rfl⟩
  have rest : q = { w with reg := q.reg } := by
    rw [hq, State.setFld_frame]
  have flag : q.bit (pwrReg 0x18) 3 = s.bit (pwrReg 0x18) 3 := by
    have kept : q.rd (pwrReg 0x18) = w.rd (pwrReg 0x18) := by rw [hq, State.rd_setFld_other _ _ _ _ (by decide)]
    rw [State.bit, kept]
    exact late.bit (domCtl_apart hd (Or.inl (by decide))) 3
  obtain ⟨r, hr⟩ : ∃ r, r = q.setErr (pwrReg 0x18) 3 0x02 (q.rd (pwrReg 0x1C)) := ⟨_, rfl⟩
  have set : r.bit (pwrReg 0x18) 3 = true := by rw [hr, setErr_sets _ _ _ _ _ (by decide)]
  have evt := setErr_evt q (pwrReg 0x18) 3 0x02 (q.rd (pwrReg 0x1C))
  obtain ⟨frame, -⟩ := setErr_frame q (pwrReg 0x18) 3 0x02 (q.rd (pwrReg 0x1C))
  rw [← hr] at evt frame
  have events : q.evt = s.evt := by rw [rest, late.rest]
  rw [flag, events] at evt
  have dom : ∀ e, r.dom e = w.dom e := fun e => by
    rw [frame, rest]
    rfl
  obtain ⟨t, run, ends, others, go, only⟩ := finishCmd_done (v := r) (d := d) (by rw [dom, late.dom]; exact alone)
  have whole : refuseCmd v d = t := by rw [refuseCmd, ← hw, ← hq, ← hr, run]
  have told : t.evt = r.evt := by rw [only.rest]
  rw [whole]
  exact ⟨fun e he => by rw [others e he, dom, late.others e he], go, (only.bit (domCtl_apart hd (Or.inl (by decide))) 3).trans set,
    by rw [ends, dom, late.dom, ← same], by rw [told]; exact evt, by rw [only.rest, frame, rest, late.rest]⟩

/-- A command that R449 refuses. -/
theorem MayCommand.refused (h : MayCommand s m d) {target : Nat} (ht : target < 3) (no : Refuses s d target) :
    ∃ t, domCommand s m d target = t ∧ Refused s t d := by
  obtain ⟨v, begun, -, run⟩ := h.starts ht
  exact ⟨_, run no, refuseCmd_refuses h.range begun rfl
    (congrArg₂ (fun p c => { s.dom d with refused := true, pend := p, commanded := c }) h.alone.symm h.idle.symm)⟩

/-- A domain that is neither in Ember nor Cold, and moves nowhere. -/
structure Warm (y : Domain) : Prop where
  still : y.moving = none
  ember : y.st ≠ .ember
  cold : y.st ≠ .cold

theorem MayCommand.warm (h : MayCommand s m d) (c : DomSt) : Warm (started s d c) := by
  obtain ⟨lit, still⟩ := h.st
  refine ⟨still, ?_, ?_⟩ <;> rcases lit with lit | lit <;> rw [started, lit] <;> decide

theorem stepCmd_lit (warm : Warm (v.dom d)) (order : (v.dom d).commanded = some .lit) : stepCmd v d = finishCmd v d := by
  unfold stepCmd
  dsimp only
  rw [warm.still, if_neg (by decide), order]
  dsimp only
  rw [if_neg fun c => c.elim warm.ember warm.cold]

theorem stepCmd_ember (warm : Warm (v.dom d)) (order : (v.dom d).commanded = some .ember) : stepCmd v d =
    if mayGate v = false then v
    else
      let u := if 44 ≤ d ∧ d < 60 then clusterDrain v (d - 44) else v
      if emberReady u d false then u.modDom d fun x => { x with moving := some .ember } else u := by
  unfold stepCmd
  dsimp only
  rw [warm.still, if_neg (by decide), order]
  dsimp only
  rw [if_neg fun c => c.elim warm.ember warm.cold]

theorem stepCmd_cold (warm : Warm (v.dom d)) (order : (v.dom d).commanded = some .cold) : stepCmd v d =
    if mayGate v = false then v
    else if coldReady (prepCold v d) d then (prepCold v d).modDom d fun x => { x with moving := some .cold } else prepCold v d := by
  unfold stepCmd
  dsimp only
  rw [warm.still, if_neg (by decide), order]
  dsimp only
  rw [if_neg warm.cold, if_neg warm.ember]

/-- Lit of a Lit domain ends at once (R452). -/
theorem MayCommand.lits (h : MayCommand s m d) : ∃ t, domCommand s m d 0 = t ∧ t.dom d = { s.dom d with refused := false } ∧
    (∀ e, e ≠ d → t.dom e = s.dom e) ∧ t.bit (domReg d 0) 4 = false ∧ t = { s with reg := t.reg, doms := t.doms } := by
  obtain ⟨v, begun, run⟩ := h.orders (target := 0) (by decide) (by rw [Refuses]; omega)
  obtain ⟨t, ends, only, dom, others, go⟩ := finishCmd_ends begun h.alone
  refine ⟨t, ?_, ?_, others, go, only.rest⟩
  · rw [run, ← ends]
    exact stepCmd_lit (by rw [begun.dom]; exact h.warm _) (by rw [begun.dom]; rfl)
  · rw [dom, started, ← h.idle]

/-! ## Ember (R449) -/

/-- The domain's command goes on: its domain begins to gate. -/
structure Going (s t : State) (d : Nat) (c : DomSt) : Prop where
  others : ∀ e, e ≠ d → t.dom e = s.dom e
  go : t.bit (domReg d 0) 4 = true
  dom : t.dom d = { s.dom d with refused := false, moving := some c, commanded := some c }

/-- The domain's command waits for its conditions. -/
structure Waits (s t : State) (d : Nat) (c : DomSt) : Prop where
  others : ∀ e, e ≠ d → t.dom e = s.dom e
  go : t.bit (domReg d 0) 4 = true
  dom : t.dom d = { s.dom d with refused := false, commanded := some c }

theorem Begun.waits {c : DomSt} (h : Begun s v d (started s d c)) : Waits s v d c := ⟨h.others, h.go, h.dom⟩

theorem Begun.going {c : DomSt} (h : Begun s v d (started s d c)) : Begun s (v.modDom d fun x => { x with moving := some c }) d
    { started s d c with moving := some c } ∧ Going s (v.modDom d fun x => { x with moving := some c }) d c := by
  have g := h.modDom fun x => { x with moving := some c }
  exact ⟨g, g.others, g.go, g.dom⟩

theorem Begun.mayGate {y : Domain} (h : Begun s v d y) : mayGate v = (s.boot.step == 8) := by
  rw [Machine.mayGate, h.rest]

/-- A cluster that is still has nothing to drain. -/
theorem clusterDrain_still {c : Nat} (still : clusterStill s c = true) : clusterDrain s c = s := by
  rw [clusterStill, Bool.and_eq_true, Bool.and_eq_true, List.isEmpty_iff, List.all_eq_true] at still
  obtain ⟨⟨empty, -⟩, cores⟩ := still
  have stores : ∀ j ∈ List.range 8, (s.core (8 * c + j)).sb = [] := fun j hj => by
    have core := cores j hj
    rw [Bool.and_eq_true, List.isEmpty_iff] at core
    exact core.2
  have first : (List.range 8).foldl (fun s j => (s.core (8 * c + j)).sb.foldl (fun s e => (gatherTake s (8 * c + j) e).getD s) s) s = s :=
    foldl_same (fun j hj => by rw [stores j hj, List.foldl_nil])
  rw [clusterDrain, first, empty]
  rfl

theorem MayCommand.embers (h : MayCommand s m d) (hd : 2 ≤ d) : ∃ v, Begun s v d (started s d .ember) ∧ domCommand s m d 1 =
    if (s.boot.step == 8) = false then v
    else
      let u := if 44 ≤ d ∧ d < 60 then clusterDrain v (d - 44) else v
      if Machine.emberReady u d false then u.modDom d fun x => { x with moving := some .ember } else u := by
  obtain ⟨v, begun, run⟩ := h.orders (target := 1) (by decide) (by rw [Refuses]; omega)
  refine ⟨v, begun, ?_⟩
  rw [run, stepCmd_ember (by rw [begun.dom]; exact h.warm _) (by rw [begun.dom]; rfl), begun.mayGate]

/-- Ember begins at once where its conditions hold. -/
theorem MayCommand.ember_going (h : MayCommand s m d) (hd : 2 ≤ d) (step : s.boot.step = 8) (ready : emberReady s d false = true) :
    ∃ t, domCommand s m d 1 = t ∧ Going s t d .ember ∧ t = { s with reg := t.reg, doms := t.doms } := by
  obtain ⟨v, begun, run⟩ := h.embers hd
  have still : (if 44 ≤ d ∧ d < 60 then clusterDrain v (d - 44) else v) = v := by
    split
    · refine clusterDrain_still ?_
      have ready := ready
      rw [emberReady, if_neg (by omega), if_neg (by omega), if_neg (by omega), if_neg (by omega), if_neg (by omega), if_pos (by omega),
        Bool.and_eq_true] at ready
      rw [begun.rest]
      exact ready.1
    · rfl
  refine ⟨_, ?_, begun.going.2, begun.going.1.rest⟩
  rw [run, step, if_neg (by decide)]
  dsimp only
  rw [still, begun.emberReady h.range, ready, if_pos rfl]

/-- Before the power-up has ended, Ember waits (R453). -/
theorem MayCommand.ember_early (h : MayCommand s m d) (hd : 2 ≤ d) (step : s.boot.step ≠ 8) :
    ∃ t, domCommand s m d 1 = t ∧ Waits s t d .ember ∧ t = { s with reg := t.reg, doms := t.doms } := by
  obtain ⟨v, begun, run⟩ := h.embers hd
  exact ⟨v, by rw [run, if_pos (beq_false_of_ne step)], begun.waits, begun.rest⟩

/-- Ember of a unit but a cluster waits for its conditions. -/
theorem MayCommand.ember_waits (h : MayCommand s m d) (hd : 2 ≤ d) (step : s.boot.step = 8) (busy : emberReady s d false = false) (apart : d < 44 ∨ 60 ≤ d) :
    ∃ t, domCommand s m d 1 = t ∧ Waits s t d .ember ∧ t = { s with reg := t.reg, doms := t.doms } := by
  obtain ⟨v, begun, run⟩ := h.embers hd
  refine ⟨v, ?_, begun.waits, begun.rest⟩
  rw [run, step, if_neg (by decide)]
  dsimp only
  rw [if_neg (show ¬ (44 ≤ d ∧ d < 60) by omega), begun.emberReady h.range, busy, if_neg Bool.false_ne_true]

end Sys2Proof.Machine

end

section

/-! PROOF. What a unit does before its domain gates: clusters drain, ports, HBM halves, inkwells, telemetry and forwarding units
prepare, R325, R449 and R456. -/

namespace Sys2Proof.Machine

variable {s t u v : State} {m : Master} {c d : Nat}

/-! ## Gather buffers that drain (R305, R325) -/

/-- An entry of this line drains. -/
def Draining (s : State) (c line : Nat) : Prop := ∃ f ∈ (s.cluster c).gather, f.line = line ∧ f.drain ≠ none

theorem newTag_gather (s : State) (c j : Nat) : ((newTag s c j).1.cluster c).gather = (s.cluster c).gather := by
  rw [newTag]
  dsimp only
  rw [State.cluster_modCluster_same]

/-- What drainLine does to the gather buffer: nothing, or the entries of its line drain. -/
theorem drainLine_gather (s : State) (c line : Nat) : ((drainLine s c line).cluster c).gather = (s.cluster c).gather ∧
      (Draining s c line ∨ ∀ f ∈ (s.cluster c).gather, f.line ≠ line) ∨
    ∃ tag : Tag, ((drainLine s c line).cluster c).gather =
      (s.cluster c).gather.map fun f => if f.line = line then { f with drain := some tag } else f := by
  unfold drainLine
  dsimp only
  split
  · rename_i some_
    obtain ⟨f, hf, both⟩ := List.any_eq_true.mp some_
    rw [Bool.and_eq_true, beq_iff_eq] at both
    exact Or.inl ⟨rfl, Or.inl ⟨f, hf, both.1, Option.isSome_iff_ne_none.mp both.2⟩⟩
  · split
    · rename_i none_
      exact Or.inl ⟨rfl, Or.inr fun f hf => by simpa using List.find?_eq_none.mp none_ f hf⟩
    · refine Or.inr ⟨(newTag s c 0).2, ?_⟩
      rw [State.cluster_count, State.cluster_modCluster_same]
      exact congrArg (List.map _) (newTag_gather s c 0)

theorem drainLine_lines (s : State) (c line : Nat) :
    ((drainLine s c line).cluster c).gather.map (·.line) = (s.cluster c).gather.map (·.line) := by
  obtain ⟨same, -⟩ | ⟨tag, mapped⟩ := drainLine_gather s c line
  · rw [same]
  · rw [mapped, List.map_map]
    refine List.map_congr_left fun f _ => ?_
    rw [Function.comp_apply]
    split <;> rfl

theorem drainLine_keeps {line l : Nat} (h : Draining s c l) : Draining (drainLine s c line) c l := by
  obtain ⟨f, hf, hl, hd⟩ := h
  obtain ⟨same, -⟩ | ⟨tag, mapped⟩ := drainLine_gather s c line
  · exact ⟨f, by rw [same]; exact hf, hl, hd⟩
  · refine ⟨if f.line = line then { f with drain := some tag } else f, by rw [mapped]; exact List.mem_map.mpr ⟨f, hf, rfl⟩, ?_, ?_⟩
    · split
      · exact hl
      · exact hl
    · split
      · exact Option.some_ne_none _
      · exact hd

theorem drainLine_drains {line : Nat} (some_ : line ∈ (s.cluster c).gather.map (·.line)) : Draining (drainLine s c line) c line := by
  obtain ⟨f, hf, hl⟩ := List.mem_map.mp some_
  obtain ⟨same, drains | none_⟩ | ⟨tag, mapped⟩ := drainLine_gather s c line
  · obtain ⟨g, hg, both⟩ := drains
    exact ⟨g, by rw [same]; exact hg, both⟩
  · exact absurd hl (none_ f hf)
  · exact ⟨{ f with drain := some tag }, by rw [mapped]; exact List.mem_map.mpr ⟨f, hf, if_pos hl⟩, hl, Option.some_ne_none _⟩

/-- A run of drains starts every line that it names. -/
theorem drainLines_drain (l : List GEntry) (s : State) (c : Nat) (named : ∀ e ∈ l, e.line ∈ (s.cluster c).gather.map (·.line)) :
    ((l.foldl (fun s e => drainLine s c e.line) s).cluster c).gather.map (·.line) = (s.cluster c).gather.map (·.line) ∧
    (∀ k, Draining s c k → Draining (l.foldl (fun s e => drainLine s c e.line) s) c k) ∧
    ∀ e ∈ l, Draining (l.foldl (fun s e => drainLine s c e.line) s) c e.line := by
  induction l generalizing s with
  | nil => exact ⟨rfl, fun _ h => h, fun e he => absurd he List.not_mem_nil⟩
  | cons e l ih =>
    rw [List.foldl_cons]
    have lines := drainLine_lines s c e.line
    obtain ⟨same, kept, drained⟩ := ih (drainLine s c e.line) fun f hf => by rw [lines]; exact named f (List.mem_cons_of_mem _ hf)
    refine ⟨same.trans lines, fun k h => kept k (drainLine_keeps h), fun f hf => ?_⟩
    obtain rfl | later := List.mem_cons.mp hf
    · exact kept _ (drainLine_drains (named f (List.mem_cons_self ..)))
    · exact drained f later

/-- After a cluster has drained, a write of each of its lines is on its way. -/
theorem clusterDrain_drains (s : State) (c : Nat) : ∀ e ∈ ((clusterDrain s c).cluster c).gather, Draining (clusterDrain s c) c e.line := by
  unfold clusterDrain
  dsimp only
  generalize (List.range 8).foldl (fun s j => (s.core (8 * c + j)).sb.foldl (fun s e => (gatherTake s (8 * c + j) e).getD s) s) s = u
  have part : ∀ e ∈ (u.cluster c).gather.filter fun e => e.drain.isNone, e.line ∈ (u.cluster c).gather.map (·.line) := fun e he =>
    List.mem_map.mpr ⟨e, (List.mem_filter.mp he).1, rfl⟩
  obtain ⟨lines, kept, drained⟩ := drainLines_drain _ u c part
  intro e he
  have before : e.line ∈ (u.cluster c).gather.map (·.line) := by
    rw [← lines]
    exact List.mem_map.mpr ⟨e, he, rfl⟩
  obtain ⟨f, hf, same⟩ := List.mem_map.mp before
  rw [← same]
  by_cases open_ : f.drain = none
  · exact drained f (List.mem_filter.mpr ⟨hf, by rw [open_]; rfl⟩)
  · exact kept _ ⟨f, hf, rfl, open_⟩

theorem dom_of_drained (h : Drained s t c) (e : Nat) : t.dom e = s.dom e := by
  rw [h.rest]
  rfl

/-- A cluster whose Ember conditions do not hold drains for its command (R326). -/
theorem MayCommand.ember_drains (h : MayCommand s m d) (lo : 44 ≤ d) (hi : d < 60) (step : s.boot.step = 8) : ∃ t, domCommand s m d 1 = t ∧
    t.bit (domReg d 0) 4 = true ∧ (t.dom d).commanded = some .ember ∧
    (∀ e ∈ (t.cluster (d - 44)).gather, ∃ f ∈ (t.cluster (d - 44)).gather, f.line = e.line ∧ f.drain ≠ none) ∧
    (∀ k, k / 8 ≠ d - 44 → t.core k = s.core k) ∧ (∀ c, c ≠ d - 44 → t.cluster c = s.cluster c) ∧
    t = { s with reg := t.reg, doms := t.doms, cores := t.cores, clusters := t.clusters, spine := t.spine, acc := t.acc } := by
  obtain ⟨v, begun, run⟩ := h.embers (by omega)
  have drained := drained_clusterDrain v (d - 44)
  have drains := clusterDrain_drains v (d - 44)
  rw [step, if_neg (by decide)] at run
  dsimp only at run
  rw [if_pos (show 44 ≤ d ∧ d < 60 from ⟨lo, hi⟩)] at run
  generalize clusterDrain v (d - 44) = u at run drained drains
  have order : (u.dom d).commanded = some .ember := by
    rw [dom_of_drained drained, begun.dom]
    rfl
  have go : u.bit (domReg d 0) 4 = true := by
    rw [drained.rest]
    exact begun.go
  have cores : ∀ k, k / 8 ≠ d - 44 → u.core k = s.core k := fun k hk => by
    rw [drained.apart k hk, begun.rest]
    rfl
  have clusters : ∀ c, c ≠ d - 44 → u.cluster c = s.cluster c := fun c hc => by
    rw [drained.clusters c hc, begun.rest]
    rfl
  have rest : u = { s with reg := u.reg, doms := u.doms, cores := u.cores, clusters := u.clusters, spine := u.spine, acc := u.acc } := by
    rw [drained.rest, begun.rest]
  split at run
  · refine ⟨_, run, go, ?_, drains, cores, clusters, ?_⟩
    · rw [State.dom_modDom, if_pos rfl]
      exact order
    · obtain ⟨D, hD⟩ : ∃ D, (u.modDom d fun x => { x with moving := some .ember }) = { u with doms := D } := ⟨_, rfl⟩
      rw [hD]
      dsimp only
      rw [rest]
  · exact ⟨u, run, go, order, drains, cores, clusters, rest⟩

end Sys2Proof.Machine

end

section
/-! PROOF. What the work of the slices and of the messages leaves aside: the fuses and the flash, the boot's state, the clocks, the
damper, the numbers of events and the events that wait (R410, R431, R445). -/
namespace Sys2Proof.Machine
open Config

variable {s t u : State}

/-- A register that is neither the fatal cause nor the policies of the boot. -/
def Far (x : Nat) : Prop := x ≠ evtReg 0x24 ∧ x ≠ bootReg 0x10

@[simp] theorem far_port (p rel : Nat) : Far (portReg p rel) := by unfold Far portReg evtReg bootReg; omega
@[simp] theorem far_slice (i rel : Nat) : Far (sliceReg i rel) := by unfold Far sliceReg evtReg bootReg; omega
@[simp] theorem far_hbm (k rel : Nat) : Far (hbmReg k rel) := by unfold Far hbmReg evtReg bootReg; omega
@[simp] theorem far_dir (rel : Nat) : Far (dirReg rel) := by unfold Far dirReg evtReg bootReg; omega
@[simp] theorem far_scr (c rel : Nat) : Far (scrReg c rel) := by unfold Far scrReg evtReg bootReg; omega
@[simp] theorem far_ink (n rel : Nat) : Far (inkReg n rel) := by unfold Far inkReg evtReg bootReg; omega
@[simp] theorem far_evtErr : Far (evtReg 0x20) := ⟨by decide, by decide⟩

/-- From s to t none of what resets and power keep has changed, and the events that waited still wait. -/
structure Aside (s t : State) : Prop where
  pending : t.pending = s.pending
  nv : t.nv = s.nv
  boot : t.boot = s.boot
  tb : t.tb = s.tb
  phys : t.phys = s.phys
  pins : t.pins = s.pins
  damper : t.damper = s.damper
  tap : t.tap = s.tap
  cwData : t.cwData = s.cwData
  events : t.evt = { s.evt with waiting := t.evt.waiting, mbox := t.evt.mbox }
  waiting : s.evt.waiting <+: t.evt.waiting
  regs : t.rd (evtReg 0x24) = s.rd (evtReg 0x24) ∧ t.rd (bootReg 0x10) = s.rd (bootReg 0x10)

theorem Aside.refl (s : State) : Aside s s :=
  ⟨rfl, rfl, rfl, rfl, rfl, rfl, rfl, rfl, rfl, rfl, List.prefix_refl _, rfl, rfl⟩

theorem Aside.trans (h : Aside s t) (h' : Aside t u) : Aside s u where
  pending := h'.pending.trans h.pending
  nv := h'.nv.trans h.nv
  boot := h'.boot.trans h.boot
  tb := h'.tb.trans h.tb
  phys := h'.phys.trans h.phys
  pins := h'.pins.trans h.pins
  damper := h'.damper.trans h.damper
  tap := h'.tap.trans h.tap
  cwData := h'.cwData.trans h.cwData
  events := by rw [h'.events, h.events]
  waiting := h.waiting.trans h'.waiting
  regs := ⟨h'.regs.1.trans h.regs.1, h'.regs.2.trans h.regs.2⟩

/-- What changes none of these fields. -/
theorem aside_same (pending : t.pending = s.pending) (nv : t.nv = s.nv) (boot : t.boot = s.boot) (tb : t.tb = s.tb) (phys : t.phys = s.phys)
    (pins : t.pins = s.pins) (damper : t.damper = s.damper) (tap : t.tap = s.tap) (cwData : t.cwData = s.cwData) (evt : t.evt = s.evt)
    (reg : t.reg = s.reg) : Aside s t :=
  ⟨pending, nv, boot, tb, phys, pins, damper, tap, cwData, by rw [evt], by rw [evt], State.rd_congr reg _, State.rd_congr reg _⟩

/-- Nor has the state of a port, nor a domain that is neither in Ember nor Cold and moves nowhere. -/
structure Still (s t : State) : Prop extends Aside s t where
  state : ∀ p, (t.port p).st = (s.port p).st
  warm : ∀ d, Warm (s.dom d) → t.dom d = s.dom d

theorem Still.refl (s : State) : Still s s := ⟨Aside.refl s, fun _ => rfl, fun _ _ => rfl⟩

theorem Still.trans (h : Still s t) (h' : Still t u) : Still s u where
  toAside := h.toAside.trans h'.toAside
  state := fun p => (h'.state p).trans (h.state p)
  warm := fun d w => (h'.warm d ((h.warm d w).symm ▸ w)).trans (h.warm d w)

/-- What changes none of these fields, nor a port, nor a domain. -/
theorem still_same (pending : t.pending = s.pending) (nv : t.nv = s.nv) (boot : t.boot = s.boot) (tb : t.tb = s.tb) (phys : t.phys = s.phys)
    (pins : t.pins = s.pins) (damper : t.damper = s.damper) (tap : t.tap = s.tap) (cwData : t.cwData = s.cwData) (evt : t.evt = s.evt)
    (reg : t.reg = s.reg) (ports : t.ports = s.ports) (doms : t.doms = s.doms) : Still s t where
  toAside := aside_same pending nv boot tb phys pins damper tap cwData evt reg
  state := fun p => congrArg (fun l => (sget portD l p).st) ports
  warm := fun d _ => congrArg (fun l => sget domD l d) doms

/-! ## The operations of the state -/

@[simp] theorem still_ite {c : Prop} [Decidable c] {a b : State} (ha : Still s a) (hb : Still s b) : Still s (if c then a else b) := by
  split
  · exact ha
  · exact hb

@[simp] theorem still_foldl {α : Type} {f : State → α → State} (h : Still s t) (step : ∀ u a, Still s u → Still s (f u a)) (l : List α) :
    Still s (l.foldl f t) := by
  induction l generalizing t with
  | nil => exact h
  | cons a l ih => exact ih (step t a h)

theorem still_foldl_fst {α β : Type} {f : State × β → α → State × β} (step : ∀ p a, Still s p.1 → Still s (f p a).1) (l : List α) :
    ∀ p : State × β, Still s p.1 → Still s (l.foldl f p).1 := by
  induction l with
  | nil => exact fun _ h => h
  | cons a l ih => exact fun p h => ih _ (step p a h)

@[simp] theorem still_modPort (h : Still s t) (p : Nat) {f : Port → Port} (keeps : ∀ x, (f x).st = x.st) : Still s (t.modPort p f) := by
  refine h.trans ⟨aside_same rfl rfl rfl rfl rfl rfl rfl rfl rfl rfl rfl, fun q => ?_, fun _ _ => rfl⟩
  by_cases at_ : q = p
  · rw [at_, State.port_modPort_same, keeps]
  · rw [State.port_modPort_other _ _ at_]
@[simp] theorem still_modSlice (h : Still s t) (i : Nat) (f : Slice → Slice) : Still s (t.modSlice i f) :=
  h.trans (still_same rfl rfl rfl rfl rfl rfl rfl rfl rfl rfl rfl rfl rfl)
@[simp] theorem still_modPc (h : Still s t) (p : Nat) (f : Pc → Pc) : Still s (t.modPc p f) :=
  h.trans (still_same rfl rfl rfl rfl rfl rfl rfl rfl rfl rfl rfl rfl rfl)
theorem still_modDom (h : Still s t) {d : Nat} (moves : ¬ Warm (t.dom d)) (f : Domain → Domain) : Still s (t.modDom d f) := by
  refine h.trans ⟨aside_same rfl rfl rfl rfl rfl rfl rfl rfl rfl rfl rfl, fun _ => rfl, fun e warm => State.dom_modDom_other _ _ fun same => ?_⟩
  exact moves (same ▸ warm)
@[simp] theorem still_modStack (h : Still s t) (k : Nat) (f : Stack → Stack) : Still s (t.modStack k f) :=
  h.trans (still_same rfl rfl rfl rfl rfl rfl rfl rfl rfl rfl rfl rfl rfl)
@[simp] theorem still_modCore (h : Still s t) (j : Nat) (f : Core → Core) : Still s (t.modCore j f) :=
  h.trans (still_same rfl rfl rfl rfl rfl rfl rfl rfl rfl rfl rfl rfl rfl)
@[simp] theorem still_modCluster (h : Still s t) (c : Nat) (f : Cluster → Cluster) : Still s (t.modCluster c f) :=
  h.trans (still_same rfl rfl rfl rfl rfl rfl rfl rfl rfl rfl rfl rfl rfl)
@[simp] theorem still_setHbm (h : Still s t) (line : Nat) (l : HbmLine) : Still s (t.setHbm line l) :=
  h.trans (still_same rfl rfl rfl rfl rfl rfl rfl rfl rfl rfl rfl rfl rfl)
@[simp] theorem still_resv (h : Still s t) (r : Store Nat) : Still s { t with resv := r } :=
  h.trans (still_same rfl rfl rfl rfl rfl rfl rfl rfl rfl rfl rfl rfl rfl)
@[simp] theorem still_spine (h : Still s t) (x : Spine) : Still s { t with spine := x } :=
  h.trans (still_same rfl rfl rfl rfl rfl rfl rfl rfl rfl rfl rfl rfl rfl)
@[simp] theorem still_tel (h : Still s t) (x : Tel) : Still s { t with tel := x } :=
  h.trans (still_same rfl rfl rfl rfl rfl rfl rfl rfl rfl rfl rfl rfl rfl)
@[simp] theorem still_acc (h : Still s t) (x : Store Nat) : Still s { t with acc := x } :=
  h.trans (still_same rfl rfl rfl rfl rfl rfl rfl rfl rfl rfl rfl rfl rfl)
@[simp] theorem still_purge (h : Still s t) (x : Store Word) : Still s { t with purge := x } :=
  h.trans (still_same rfl rfl rfl rfl rfl rfl rfl rfl rfl rfl rfl rfl rfl)
@[simp] theorem still_freeCtr (h : Still s t) (n : Nat) : Still s { t with freeCtr := n } :=
  h.trans (still_same rfl rfl rfl rfl rfl rfl rfl rfl rfl rfl rfl rfl rfl)

@[simp] theorem still_claim (h : Still s t) (c : Claim) : Still s { t with reg := { t.reg with claim := c } } :=
  h.trans ⟨⟨rfl, rfl, rfl, rfl, rfl, rfl, rfl, rfl, rfl, rfl, List.prefix_refl _, rfl, rfl⟩, fun _ => rfl, fun _ _ => rfl⟩

@[simp] theorem still_wayq (h : Still s t) (w : Store Word) : Still s { t with reg := { t.reg with wayq := w } } :=
  h.trans ⟨⟨rfl, rfl, rfl, rfl, rfl, rfl, rfl, rfl, rfl, rfl, List.prefix_refl _, rfl, rfl⟩, fun _ => rfl, fun _ _ => rfl⟩

@[simp] theorem still_wr (h : Still s t) {off : Nat} (far : Far off) (v : Word) : Still s (t.wr off v) := by
  have regs := And.intro (State.rd_wr_other t v far.1.symm) (State.rd_wr_other t v far.2.symm)
  rw [State.wr_frame] at regs ⊢
  exact h.trans ⟨⟨rfl, rfl, rfl, rfl, rfl, rfl, rfl, rfl, rfl, rfl, List.prefix_refl _, regs.1, regs.2⟩, fun _ => rfl, fun _ _ => rfl⟩

@[simp] theorem still_setFld (h : Still s t) {off : Nat} (far : Far off) (lo w v : Nat) : Still s (t.setFld off lo w v) := still_wr h far _

@[simp] theorem still_raise (h : Still s t) (a c : Nat) (w : Word) : Still s (t.raise a c w) :=
  h.trans ⟨⟨rfl, rfl, rfl, rfl, rfl, rfl, rfl, rfl, rfl, rfl, List.prefix_append .., rfl, rfl⟩, fun _ => rfl, fun _ _ => rfl⟩

@[simp] theorem still_setErr (h : Still s t) {off : Nat} (far : Far off) (i a : Nat) (w : Word) : Still s (t.setErr off i a w) :=
  still_ite h (still_raise (still_setFld h far i 1 1) ..)

@[simp] theorem still_count (h : Still s t) (g i n : Nat) : Still s (t.count g i n) := by
  rw [State.count_frame]
  exact still_acc h _

theorem far_status (b : Block) : Far b.statusOff := by
  have status := statusOff_mod b
  constructor <;> intro e <;> rw [e] at status <;> exact absurd status (by decide)

@[simp] theorem still_voteReg (h : Still s t) (off : Nat) : Still s (voteReg t off) := by
  have fixed : ∀ u, Still s u → Still s (voteFixed u off) := fun u hu => by
    have marked := still_count (still_setFld hu (far_status (blockAt off)) 1 1 1) 53 4 1
    unfold voteFixed
    dsimp only
    split
    · exact marked
    · exact still_raise marked ..
  unfold voteReg
  dsimp only
  split
  · exact fixed _ (h.trans ⟨⟨rfl, rfl, rfl, rfl, rfl, rfl, rfl, rfl, rfl, rfl, List.prefix_refl _,
      State.rd_revote t off _ (Triple.maj_same _), State.rd_revote t off _ (Triple.maj_same _)⟩, fun _ => rfl, fun _ _ => rfl⟩)
  · exact h

end Sys2Proof.Machine
end

section
/-! PROOF. What each operation of the spine, the stacks' queues, the slices and the ports' emptying leaves aside. -/
namespace Sys2Proof.Machine
open Config

-- One proof at a time: many at once would pass the memory limit of the check.
set_option Elab.async false
variable {s t u : State}

@[simp] theorem still_wakeOne (h : Still s t) (d : Nat) : Still s (State.wakeOne t d) := by
  unfold State.wakeOne
  split
  next going =>
    refine still_modDom h (fun warm => ?_) _
    have still := warm.still
    simp [still] at going
  next =>
    split
    next asleep =>
      refine still_modDom h (fun warm => ?_) _
      have ember := warm.ember
      have cold := warm.cold
      simp [State.domSt] at asleep
      grind
    next => exact h

@[simp] theorem still_wakeAccess (h : Still s t) (d : Nat) : Still s (State.wakeAccess t d) := by
  unfold State.wakeAccess
  grind only [still_wakeOne]

@[simp] theorem still_wake (h : Still s t) (d : Nat) : Still s (State.wake t d) := by
  unfold State.wake
  grind only [still_wakeAccess]

@[simp] theorem still_voteFixed (h : Still s t) (off : Nat) : Still s (voteFixed t off) := by
  unfold voteFixed
  grind only [still_setFld, still_count, still_raise, far_status]

@[simp] theorem still_voteRoute (h : Still s t) (d : Nat) : Still s (voteRoute t d) := by
  unfold voteRoute
  exact still_foldl h (fun u _ hu => still_voteReg hu _) _

@[simp] theorem still_free (h : Still s t) : Still s (State.free t).1 := by
  unfold State.free
  simp +contextual [h]

@[simp] theorem still_freeB (h : Still s t) : Still s (State.freeB t).1 := by
  unfold State.freeB
  simp +contextual [h]

@[simp] theorem still_portErr (h : Still s t) (p : Nat) (i : Nat) (vc : Nat) : Still s (State.portErr t p i vc) := by
  unfold State.portErr
  simp +contextual [h]

@[simp] theorem still_blotNote (h : Still s t) (src : AgentId) (tag : Tag) (f : Follow → Follow) : Still s (State.blotNote t src tag f) := by
  unfold State.blotNote
  grind only [still_tel]

@[simp] theorem still_blotLose (h : Still s t) (p : Follow → Bool) : Still s (State.blotLose t p) := by
  unfold State.blotLose
  grind only [still_tel]

@[simp] theorem still_blotLeave (h : Still s t) (m : Msg) : Still s (State.blotLeave t m) := by
  unfold State.blotLeave
  grind only [still_blotNote, still_count]

@[simp] theorem still_blotLost (h : Still s t) (m : Msg) : Still s (State.blotLost t m) := by
  unfold State.blotLost
  grind only [still_blotLose]

@[simp] theorem still_blotRefuse (h : Still s t) (m : Msg) : Still s (State.blotRefuse t m) := by
  unfold State.blotRefuse
  grind only [still_blotNote, still_acc, still_count]

@[simp] theorem still_discard (h : Still s t) (p : Nat) (m : Msg) : Still s (State.discard t p m) := by
  unfold State.discard
  grind only [still_blotLost, still_setErr, far_evtErr]

@[simp] theorem still_enqueue (h : Still s t) (p : Nat) (m : Msg) : Still s (State.enqueue t p m) := by
  unfold State.enqueue
  grind only [still_modPort]

@[simp] theorem still_voteDevice (h : Still s t) (d : Nat) : Still s (voteDevice t d) := by
  unfold voteDevice
  simp +contextual [h]

@[simp] theorem still_hold (h : Still s t) (m : Msg) (ingress : Option Nat) (admitted : Bool) : Still s (State.hold t m ingress admitted) := by
  unfold State.hold
  grind only [still_spine]

@[simp] theorem still_depart (h : Still s t) (p : Nat) (m : Msg) : Still s (State.depart t p m) := by
  unfold State.depart
  grind only [still_spine, still_wake, still_hold, still_enqueue]

@[simp] theorem still_sendPlain (h : Still s t) (m : Msg) : Still s (State.sendPlain t m) := by
  unfold State.sendPlain
  grind only [still_blotRefuse, still_spine, still_voteDevice, still_depart, still_discard]

@[simp] theorem still_sendSnoop (h : Still s t) (m : Msg) : Still s (State.sendSnoop t m) := by
  unfold State.sendSnoop
  grind only [still_voteDevice, still_voteReg, still_depart]

@[simp] theorem still_refuse (h : Still s t) (m : Msg) (reason : Nat) : Still s (State.refuse t m reason) := by
  unfold State.refuse
  grind only [still_sendPlain]

@[simp] theorem still_refuseAt (h : Still s t) (ingress : Option Nat) (m : Msg) (reason : Nat) : Still s (State.refuseAt t ingress m reason) := by
  unfold State.refuseAt
  grind only [still_refuse, still_count]

@[simp] theorem still_takeMsg (h : Still s t) (p : Msg → Bool) : Still s (State.takeMsg t p).1 := by
  unfold State.takeMsg
  split
  · exact still_modPort h _ fun _ => rfl
  · exact still_spine h _

@[simp] theorem still_holdMsg (h : Still s t) (p : Msg → Bool) (m : Msg) (ingress : Option Nat) : Still s (State.holdMsg t p m ingress) := by
  unfold State.holdMsg
  grind only [still_hold]

@[simp] theorem still_pace (h : Still s t) (d : Nat) : Still s (State.pace t d) := by
  unfold State.pace
  simp +contextual [h]

@[simp] theorem still_paceCore (h : Still s t) (k : Nat) : Still s (State.paceCore t k) := by
  unfold State.paceCore
  simp +contextual [h]

@[simp] theorem still_newWindow (h : Still s t) : Still s (State.newWindow t) := by
  unfold State.newWindow
  simp +contextual [h]

@[simp] theorem still_decodeLine (h : Still s t) (d : LineData) (poison : Bool) (errs : List SymErr) : Still s (decodeLine t d poison errs).1 := by
  unfold decodeLine
  grind only [still_free, still_freeCtr, still_freeB, still_foldl]

@[simp] theorem still_returnLine (h : Still s t) (line : Nat) (d : LineData) (poison : Bool) (kindle : Bool) : Still s (returnLine t line d poison kindle) := by
  unfold returnLine
  grind only [still_modSlice]

@[simp] theorem still_setMode (h : Still s t) (p : Nat) : Still s (State.setMode t p) := by
  unfold State.setMode
  simp +contextual [h]

@[simp] theorem still_hbmPut (h : Still s t) (line : Nat) (d : LineData) (poison : Bool) (cls : Nat) (flue : Bool) : Still s (hbmPut t line d poison cls flue) := by
  unfold hbmPut
  grind only [still_wake, still_modPc, still_setMode]

theorem still_hbmWrite (h : Still s t) {line : Nat} {d : LineData} {poison flue : Bool} {cls : Nat}
    (e : hbmWrite t line d poison cls flue = some u) : Still s u := by
  unfold hbmWrite at e
  split at e
  · rw [← Option.some.inj e]
    exact still_hbmPut h ..
  · exact absurd e nofun

@[simp] theorem still_hbmRead (h : Still s t) (line : Nat) (src : RdSrc) (cls : Nat) : Still s (hbmRead t line src cls) := by
  unfold hbmRead
  grind only [still_wake, still_returnLine, still_count, still_modPc, still_setMode]

@[simp] theorem still_modReads (h : Still s t) (line : Nat) (f : RdEntry → RdEntry) : Still s (modReads t line f) := by
  unfold modReads
  grind only [still_modPc]

@[simp] theorem still_dropRead (h : Still s t) (line : Nat) : Still s (dropRead t line) := by
  unfold dropRead
  grind only [still_modReads, still_modSlice]

@[simp] theorem still_adoptRead (h : Still s t) (line : Nat) (cls : Nat) : Still s (adoptRead t line cls) := by
  unfold adoptRead
  grind only [still_modReads, still_modSlice]

@[simp] theorem still_hbmReport (h : Still s t) (line : Nat) (source : Nat) (o : Decoded) : Still s (hbmReport t line source o) := by
  unfold hbmReport
  grind only [still_setErr, still_count, still_wr, far_hbm]

@[simp] theorem still_writeBack (h : Still s t) (line : Nat) (d : LineData) (poison : Bool) (wrote : Bool) : Still s (writeBack t line d poison wrote) := by
  unfold writeBack
  grind only [still_hbmPut]

@[simp] theorem still_sendNotice (h : Still s t) (line : Nat) : Still s (sendNotice t line) := by
  unfold sendNotice
  grind only [still_wake, still_modSlice]

@[simp] theorem still_addCandidate (h : Still s t) (l : DramLoc) : Still s (addCandidate t l) := by
  unfold addCandidate
  grind only [still_modPc, far_hbm]

@[simp] theorem still_rowError (h : Still s t) (l : DramLoc) : Still s (rowError t l) := by
  unfold rowError
  grind only [still_modPc, still_addCandidate, far_hbm]

@[simp] theorem still_afterRead (h : Still s t) (line : Nat) (source : Nat) (wrote : Bool) (o : Decoded) : Still s (afterRead t line source wrote o) := by
  unfold afterRead
  grind only [still_hbmReport, still_writeBack, still_rowError, still_addCandidate, still_sendNotice, far_hbm]

@[simp] theorem still_poisonHbm (h : Still s t) (line : Nat) : Still s (poisonHbm t line) := by
  unfold poisonHbm
  grind only [still_setHbm, still_modPc, still_modSlice]

@[simp] theorem still_setHway (h : Still s t) (i : Nat) (set : Nat) (w : Nat) (h_ : HLine) : Still s (State.setHway t i set w h_) := by
  unfold State.setHway
  grind only [still_modSlice]

@[simp] theorem still_clearWay (h : Still s t) (i : Nat) (set : Nat) (w : Nat) : Still s (State.clearWay t i set w) := by
  exact still_setHway h ..

@[simp] theorem still_startWalk (h : Still s t) (i : Nat) (w : Nat) : Still s (startWalk i w t) := by
  unfold startWalk
  grind only [still_modSlice]

@[simp] theorem still_retireWay (h : Still s t) (i : Nat) (w : Nat) : Still s (retireWay i w t) := by
  unfold retireWay
  grind only [still_modSlice, still_setErr, still_wr, far_slice]

@[simp] theorem still_wayErrors (h : Still s t) (i : Nat) (w : Nat) (n : Nat) : Still s (wayErrors t i w n) := by
  unfold wayErrors
  grind only [still_modSlice, still_retireWay, still_startWalk, far_slice]

@[simp] theorem still_judgeWays (h : Still s t) (i : Nat) : Still s (judgeWays t i) := by
  unfold judgeWays
  simp +contextual [h]

@[simp] theorem still_dataError (h : Still s t) (i : Nat) (set : Nat) (w : Nat) (kind : Nat) (dirty : Bool) (refetch : Bool) : Still s (dataError t i set w kind dirty refetch) := by
  unfold dataError
  grind only [still_setErr, still_wr, far_slice]

@[simp] theorem still_readWay (h : Still s t) (i : Nat) (set : Nat) (w : Nat) : Still s (readWay t i set w).1 := by
  unfold readWay
  dsimp only
  split
  all_goals grind only [still_decodeLine, still_setHway, still_wayErrors, still_dataError, still_count, still_clearWay]

@[simp] theorem still_chooseWay (h : Still s t) (i : Nat) (set : Nat) (cls : Nat) : Still s (chooseWay t i set cls).1 := by
  unfold chooseWay
  grind only [still_setHway, still_foldl]

@[simp] theorem still_allocWay (h : Still s t) (i : Nat) (set : Nat) (cls : Nat) : Still s (allocWay t i set cls).1 := by
  unfold allocWay
  grind only [still_chooseWay, still_modSlice, still_setHway]

@[simp] theorem still_searchWay (h : Still s t) (i : Nat) (set : Nat) (cls : Nat) : Still s (searchWay t i set cls).1 := by
  unfold searchWay
  grind only [still_allocWay]

@[simp] theorem still_fillWay (h : Still s t) (i : Nat) (set : Nat) (w : Nat) (line : Nat) (d : LineData) (poison : Bool) (dirty : Bool) (age : Nat) : Still s (fillWay t i set w line d poison dirty age) := by
  unfold fillWay
  grind only [still_setHway]

@[simp] theorem still_placeLine (h : Still s t) (i : Nat) (w : Nat) (line : Nat) (d : LineData) (poison : Bool) (dirty : Bool) (age : Nat) (host : Bool) (notify : Option (AgentId × Tag)) : Still s (placeLine t i w line d poison dirty age host notify) := by
  unfold placeLine
  grind only [still_fillWay, still_sendPlain, still_modSlice]

@[simp] theorem still_outWrite (h : Still s t) (i : Nat) (line : Nat) (d : LineData) (poison : Bool) (cls : Nat) (flue : Bool) (host : Bool) (notify : Option (AgentId × Tag)) : Still s (outWrite t i line d poison cls flue host notify) := by
  unfold outWrite
  dsimp only
  have counted : Still s (if flue then t.count (16 + i) 7 1 else t) := still_ite (still_count h ..) h
  generalize (if flue then t.count (16 + i) 7 1 else t : State) = v at counted
  split
  · exact still_modSlice counted ..
  · split
    · rename_i w e
      have put := still_hbmWrite counted e
      split
      · exact still_sendPlain put _
      · exact put
    · exact still_modSlice counted ..

@[simp] theorem still_kindleKill (h : Still s t) (i : Nat) (line : Nat) : Still s (kindleKill t i line) := by
  unfold kindleKill
  grind only [still_modSlice, still_count]

@[simp] theorem still_dirSet (h : Still s t) (i : Nat) (line : Nat) (w : Nat) (e : DEntry) : Still s (dirSet t i line w e) := by
  unfold dirSet
  grind only [still_modSlice]

@[simp] theorem still_dirVacate (h : Still s t) (i : Nat) (line : Nat) (w : Nat) : Still s (dirVacate t i line w) := by
  unfold dirVacate
  grind only [still_dirSet]

@[simp] theorem still_kindleFill (h : Still s t) (i : Nat) (line : Nat) (cls : Nat) : Still s (kindleFill t i line cls) := by
  unfold kindleFill
  grind only [still_count, still_modSlice, still_hbmRead, far_slice]

@[simp] theorem still_streamFills (h : Still s t) (i : Nat) (b : Nat) (up : Bool) (cls : Nat) : Still s (streamFills t i b up cls) := by
  unfold streamFills
  grind only [still_kindleFill, far_slice, still_foldl]

@[simp] theorem still_streamEvent (h : Still s t) (i : Nat) (line : Nat) (cls : Nat) (pol : Nat) (miss : Bool) : Still s (streamEvent t i line cls pol miss) := by
  unfold streamEvent
  grind only [still_modSlice, still_streamFills, far_slice]

@[simp] theorem still_markSeen (h : Still s t) (h_ : Nat) : Still s (markSeen t h_) := by
  unfold markSeen
  grind only [still_wr, far_dir]

@[simp] theorem still_addHolder (h : Still s t) (i : Nat) (e : DEntry) (h_ : Nat) (lead : Bool) : Still s (addHolder t i e h_ lead).1 := by
  unfold addHolder
  grind only [still_markSeen, still_count, still_foldl]

@[simp] theorem still_poisonHome (h : Still s t) (i : Nat) (line : Nat) : Still s (poisonHome t i line) := by
  unfold poisonHome
  grind only [still_setHway, still_modSlice, still_poisonHbm]

@[simp] theorem still_dirCheckSet (h : Still s t) (i : Nat) (set : Nat) : Still s (dirCheckSet t i set) := by
  unfold dirCheckSet
  refine still_foldl h (fun u w hu => ?_) _
  dsimp only
  split
  · exact still_count (still_setErr (still_modSlice hu ..) (far_dir 8) ..) ..
  · exact hu

@[simp] theorem still_dirCheck (h : Still s t) (i : Nat) (line : Nat) : Still s (dirCheck t i line) := by
  exact still_dirCheckSet h ..

@[simp] theorem still_dirPurgeBy (h : Still s t) (i : Nat) (line : Nat) (gone : Nat → Bool) : Still s (dirPurgeBy t i line gone) := by
  unfold dirPurgeBy
  grind only [still_poisonHome, still_setErr, still_dirVacate, still_count, still_dirSet, far_dir]

@[simp] theorem still_dirPurge (h : Still s t) (i : Nat) (line : Nat) : Still s (dirPurge t i line) := by
  unfold dirPurge
  simp +contextual [h]

@[simp] theorem still_modTxn (h : Still s t) (i : Nat) (line : Nat) (f : Txn → Txn) : Still s (modTxn t i line f) := by
  unfold modTxn
  grind only [still_modSlice]

@[simp] theorem still_evFinish (h : Still s t) (i : Nat) (line : Nat) : Still s (evFinish t i line) := by
  unfold evFinish
  grind only [still_modSlice]

@[simp] theorem still_markGone (h : Still s t) (i : Nat) (line : Nat) (h_ : Nat) : Still s (markGone t i line h_) := by
  unfold markGone
  simp +contextual [h]

@[simp] theorem still_endSnoop (h : Still s t) (i : Nat) (line : Nat) (h_ : Nat) : Still s (endSnoop t i line h_) := by
  unfold endSnoop
  grind only [still_modTxn, still_modSlice]

@[simp] theorem still_timeoutSnoop (h : Still s t) (i : Nat) (line : Nat) (h_ : Nat) : Still s (timeoutSnoop t i line h_) := by
  unfold timeoutSnoop
  grind only [still_poisonHome, still_setErr, still_count, still_endSnoop, still_markGone, far_dir]

@[simp] theorem still_endUnsent (h : Still s t) (i : Nat) (line : Nat) (sn : List Snoop) : Still s (endUnsent t i line sn) := by
  unfold endUnsent
  grind only [still_timeoutSnoop, still_foldl]

@[simp] theorem still_sendSnoops (h : Still s t) (i : Nat) (line : Nat) (opc : Nat) (hs : List Nat) : Still s (sendSnoops t i line opc hs).1 := by
  unfold sendSnoops
  exact still_foldl_fst (fun p a hp => still_count (still_modSlice (still_sendSnoop hp _) ..) ..) hs _ h

@[simp] theorem still_dirAge (h : Still s t) (i : Nat) (set : Nat) (w : Nat) (e : DEntry) : Still s (dirAge t i set w e) := by
  unfold dirAge
  grind only [still_modSlice, still_foldl]

@[simp] theorem still_evictEntry (h : Still s t) (i : Nat) (e : DEntry) : Still s (evictEntry t i e) := by
  unfold evictEntry
  grind only [still_sendSnoops, still_count, still_evFinish, still_endUnsent, still_modSlice]

theorem still_dirAlloc (h : Still s t) {i line : Nat} (e : dirAlloc t i line = some u) : Still s u := by
  unfold dirAlloc at e
  dsimp only at e
  split at e
  · rw [← Option.some.inj e]
    exact still_dirAge h ..
  · split at e
    · exact absurd e nofun
    · split at e
      · exact absurd e nofun
      · rw [← Option.some.inj e]
        exact still_dirAge (still_ite (still_evictEntry (still_dirSet (still_dirPurge h ..) ..) ..) (still_dirPurge h ..)) ..

@[simp] theorem still_dirFree (h : Still s t) (i : Nat) (line : Nat) : Still s (dirFree t i line) := by
  unfold dirFree
  grind only [still_dirSet]

@[simp] theorem still_clearResv (h : Still s t) (line : Nat) (keep : Option Nat) : Still s (clearResv t line keep) := by
  unfold clearResv
  grind only [still_resv]

@[simp] theorem still_respond (h : Still s t) (r : Req) (opc : Nat) (param : Nat) (poison : Bool) (body : List Word) : Still s (respond t r opc param poison body) := by
  unfold respond
  grind only [still_sendPlain]

@[simp] theorem still_storeLine (h : Still s t) (i : Nat) (line : Nat) (d : LineData) (poison : Bool) (cls : Nat) (pol : Nat) (host : Bool) (found : Option (Option (Nat × Nat))) (notify : Option (AgentId × Tag)) : Still s (storeLine t i line d poison cls pol host found notify) := by
  unfold storeLine
  grind only [still_sendPlain, still_outWrite, still_clearWay, still_setHway, still_placeLine, still_modSlice, still_searchWay]

@[simp] theorem still_writeHome (h : Still s t) (i : Nat) (line : Nat) (d : LineData) (poison : Bool) (notify : Option (AgentId × Tag)) : Still s (writeHome t i line d poison notify) := by
  unfold writeHome
  grind only [still_kindleKill, still_clearWay, still_outWrite, still_storeLine]

@[simp] theorem still_touch (h : Still s t) (i : Nat) (set : Nat) (w : Nat) : Still s (touch t i set w) := by
  unfold touch
  simp +contextual [h]

@[simp] theorem still_noteFrom (h : Still s t) (t_ : Txn) (outcome : Nat) : Still s (noteFrom t t_ outcome) := by
  unfold noteFrom
  grind only [still_blotNote]

@[simp] theorem still_noteGot (h : Still s t) (r : Req) : Still s (noteGot t r) := by
  unfold noteGot
  simp +contextual [h]

@[simp] theorem still_noteAcc (h : Still s t) (r : Req) : Still s (noteAcc t r) := by
  unfold noteAcc
  simp +contextual [h]

@[simp] theorem still_missSeen (h : Still s t) (i : Nat) (t_ : Txn) : Still s (missSeen t i t_) := by
  unfold missSeen
  grind only [still_modSlice, still_count, still_modTxn, still_streamEvent]

@[simp] theorem still_missFetch (h : Still s t) (i : Nat) (t_ : Txn) (adopt : Bool) : Still s (missFetch t i t_ adopt) := by
  unfold missFetch
  grind only [still_missSeen, still_searchWay, still_noteFrom, still_modTxn, still_adoptRead, still_hbmRead]

@[simp] theorem still_startFetch (h : Still s t) (i : Nat) (t_ : Txn) : Still s (startFetch t i t_) := by
  unfold startFetch
  extract_lets set miss
  have missed : ∀ v, Still s v → Still s (miss v) := fun v hv => by
    dsimp only [miss]
    split
    · exact still_missFetch (still_kindleKill hv ..) ..
    · split
      · exact still_missFetch hv ..
      · rename_i e _
        have dropped : Still s (v.modSlice i (kDrop t_.line)) := still_modSlice hv ..
        split
        · have found := still_noteGot (still_noteFrom (still_modTxn (still_streamEvent (still_count dropped (16 + i) 3 1) i t_.line
            (reqClass (v.modSlice i (kDrop t_.line)) t_.req) (txnPol (v.modSlice i (kDrop t_.line)) i t_) false) i t_.line
            fun t => { t with fetch := .got e.data e.poison false }) t_ 1) t_.req
          split
          · exact found
          · have searched := still_searchWay found i set 6
            split <;> rename_i eq
            · rw [eq] at searched
              exact still_placeLine searched ..
            · rw [eq] at searched
              exact searched
        · exact still_missFetch dropped ..
  clear_value miss
  split
  · rename_i w _
    have read := still_readWay h i set w
    split <;> rename_i eq
    · rw [eq] at read
      exact still_modTxn (still_noteGot (still_noteFrom (still_count (still_touch read ..) ..) ..) ..) ..
    · rw [eq] at read
      exact missed _ read
  · exact missed t h

@[simp] theorem still_fillLine (h : Still s t) (i : Nat) (t_ : Txn) (d : LineData) (poison : Bool) : Still s (fillLine t i t_ d poison) := by
  unfold fillLine
  grind only [still_searchWay, still_placeLine]

@[simp] theorem still_serveSecs (h : Still s t) (t_ : Txn) (d : LineData) (poison : Bool) : Still s (serveSecs t t_ d poison) := by
  unfold serveSecs
  grind only [still_noteGot, still_respond, still_foldl]

@[simp] theorem still_putEntry (h : Still s t) (i : Nat) (line : Nat) (e : DEntry) : Still s (putEntry t i line e) := by
  unfold putEntry
  grind only [still_dirSet]

@[simp] theorem still_grantShared (h : Still s t) (i : Nat) (t_ : Txn) (d : LineData) (poison : Bool) : Still s (grantShared t i t_ d poison) := by
  unfold grantShared
  grind only [still_addHolder, still_putEntry, still_modTxn, still_respond]

@[simp] theorem still_grantExclusive (h : Still s t) (i : Nat) (t_ : Txn) (d : LineData) (poison : Bool) : Still s (grantExclusive t i t_ d poison) := by
  unfold grantExclusive
  grind only [still_putEntry, still_clearResv, still_respond, still_modTxn]

@[simp] theorem still_grantPurged (h : Still s t) (i : Nat) (t_ : Txn) : Still s (grantPurged t i t_) := by
  unfold grantPurged
  grind only [still_dirPurgeBy]

@[simp] theorem still_demote (h : Still s t) (i : Nat) (t_ : Txn) : Still s (demote t i t_) := by
  unfold demote
  grind only [still_dirFree, still_putEntry]

@[simp] theorem still_flueLine (h : Still s t) (i : Nat) (set : Nat) (w : Nat) (cls : Nat) : Still s (flueLine t i set w cls) := by
  unfold flueLine
  grind only [still_readWay, still_outWrite, still_setHway]

@[simp] theorem still_maintHearth (h : Still s t) (i : Nat) (t_ : Txn) : Still s (maintHearth t i t_) := by
  unfold maintHearth
  grind only [still_kindleKill, still_flueLine, still_clearWay]

@[simp] theorem still_fullLookup (h : Still s t) (i : Nat) (t_ : Txn) : Still s (fullLookup t i t_) := by
  unfold fullLookup
  grind only [still_count, still_missSeen]

@[simp] theorem still_commit (h : Still s t) (i : Nat) (t_ : Txn) (d : LineData) (poison : Bool) (fill : Bool) : Still s (commit t i t_ d poison fill) := by
  unfold commit
  dsimp only
  split
  all_goals grind only [still_fillLine, still_blotNote, still_count, still_grantPurged, still_grantShared, still_grantExclusive,
              still_modTxn, still_respond, still_demote, still_dirFree, still_kindleKill, still_fullLookup, still_clearResv,
              still_storeLine, still_maintHearth]

@[simp] theorem still_lateRespond (h : Still s t) (i : Nat) (t_ : Txn) : Still s (lateRespond t i t_) := by
  unfold lateRespond
  grind only [still_noteGot, still_respond, still_count, still_modTxn]

@[simp] theorem still_performTxn (h : Still s t) (i : Nat) (t_ : Txn) : Still s (performTxn t i t_) := by
  unfold performTxn
  grind only [still_serveSecs, still_commit]

@[simp] theorem still_takeClean (h : Still s t) (i : Nat) (t_ : Txn) (d : LineData) (poison : Bool) : Still s (takeClean t i t_ d poison) := by
  unfold takeClean
  grind only [still_modTxn, still_dropRead, still_missSeen, still_noteGot, still_noteFrom, still_fillLine]

@[simp] theorem still_advance (h : Still s t) (i : Nat) (line : Nat) : Still s (advance t i line) := by
  unfold advance
  dsimp only
  split
  all_goals grind only [still_takeClean, still_startFetch, still_performTxn, still_lateRespond, still_modSlice, still_dirFree]

@[simp] theorem still_startCleanAll (h : Still s t) (i : Nat) (r : Req) : Still s (startCleanAll t i r) := by
  unfold startCleanAll
  dsimp only
  refine still_foldl (h.trans ?_) (fun u j hu => still_modSlice (still_wake hu _) ..) _
  exact still_same rfl rfl rfl rfl rfl rfl rfl rfl rfl rfl rfl rfl rfl

@[simp] theorem still_openTxn (h : Still s t) (i : Nat) (r : Req) : Still s (openTxn t i r) := by
  unfold openTxn
  extract_lets line e plan
  have sent := still_sendSnoops h i line plan.1 plan.2.1
  generalize sendSnoops t i line plan.1 plan.2.1 = sent' at sent
  obtain ⟨v, sn⟩ := sent'
  refine still_advance ?_ ..
  have opened : ∀ q b, Still s (endUnsent ((v.modSlice i fun x => { x with txns := x.txns ++ [q] }).blotNote r.src r.tag b) i line sn) :=
    fun q b => still_endUnsent (still_blotNote (still_modSlice sent ..) ..) ..
  split
  · exact still_ite (still_startFetch (opened ..) ..) (opened ..)
  · exact opened ..

@[simp] theorem still_begin_ (h : Still s t) (i : Nat) (r : Req) : Still s (begin_ t i r) := by
  unfold begin_
  grind only [still_noteGot, still_noteAcc, still_kindleFill, still_respond, still_startCleanAll, still_openTxn, still_resv, still_count,
    far_slice]

theorem still_tryBegin (h : Still s t) {i : Nat} {r : Req} {retry : Bool} (e : tryBegin t i r retry = some u) : Still s u := by
  unfold tryBegin at e
  dsimp only at e
  have checked := still_dirPurge (still_dirCheck h i (lineOf r.addr)) i (lineOf r.addr)
  generalize dirPurge (dirCheck t i (lineOf r.addr)) i (lineOf r.addr) = v at checked e
  have begins : ∀ {w x : State}, Still s w → (if 512 < missUsed (begin_ w i r) i ∧ missUsed v i < missUsed (begin_ w i r) i then none
      else some (begin_ w i r)) = some x → Still s x := fun hw ex => by
    split at ex
    · exact absurd ex nofun
    · rw [← Option.some.inj ex]
      exact still_begin_ hw ..
  split at e
  · split at e
    · rename_i w alloc
      refine begins ?_ e
      split at alloc
      · exact absurd alloc nofun
      · exact still_dirAlloc checked alloc
    · split at e
      · exact absurd e nofun
      · rw [← Option.some.inj e]
        exact still_blotNote (still_count (still_modSlice checked ..) ..) ..
  · exact begins checked e

@[simp] theorem still_join (h : Still s t) (i : Nat) (r : Req) : Still s (join t i r) := by
  unfold join
  grind only [still_resv, still_blotNote, still_acc, still_count, still_modTxn]

theorem findSome?_holds {α : Type} {P : State → Prop} {f : α → Option State} (step : ∀ a u, f a = some u → P u) {l : List α} {u : State}
    (e : l.findSome? f = some u) : P u := by
  obtain ⟨a, _, ha⟩ := List.exists_of_findSome?_eq_some e
  exact step a u ha

theorem still_intake (h : Still s t) {i : Nat} (e : intake t i = some u) : Still s u := by
  unfold intake at e
  dsimp only at e
  split at e
  · rename_i w retried
    rw [← Option.some.inj e]
    refine findSome?_holds (P := Still s) (fun r v hv => ?_) retried
    split at hv
    · exact absurd hv nofun
    · obtain ⟨x, hx, rfl⟩ := Option.map_eq_some_iff.1 hv
      exact still_modSlice (still_tryBegin h hx) ..
  · split at e
    · rename_i w waited
      rw [← Option.some.inj e]
      refine findSome?_holds (P := Still s) (fun r v hv => ?_) waited
      split at hv
      · exact absurd hv nofun
      · obtain ⟨x, hx, rfl⟩ := Option.map_eq_some_iff.1 hv
        exact still_count (still_tryBegin (still_modSlice h ..) hx) ..
    · split at e
      · exact absurd e nofun
      · rename_i r l _
        have taken : Still s ((t.modSlice i fun x => { x with inq := l }).pace (20 + i)) := still_pace (still_modSlice h ..) _
        split at e
        · exact absurd e nofun
        · split at e
          · rw [← Option.some.inj e]
            exact still_join taken ..
          · split at e
            · split at e
              · rw [← Option.some.inj e]
                exact still_modSlice taken ..
              · exact absurd e nofun
            · obtain ⟨x, hx, rfl⟩ := Option.map_eq_some_iff.1 e
              exact still_count (still_tryBegin taken hx) ..

theorem still_settleN (n i : Nat) : ∀ {t : State}, Still s t → Still s (settleN n t i) := by
  induction n with
  | zero => exact fun h => h
  | succ n ih =>
    intro t h
    unfold settleN
    split
    · exact ih (still_intake h ‹_›)
    · exact h

@[simp] theorem still_settle (h : Still s t) (i : Nat) : Still s (settle t i) := by
  unfold settle
  exact still_ite (still_settleN _ i h) h

@[simp] theorem still_submit (h : Still s t) (r : Req) : Still s (submit t r) := by
  unfold submit
  grind only [still_settle, still_wake, still_modSlice]

@[simp] theorem still_goOn (h : Still s t) (i : Nat) (line : Nat) : Still s (goOn t i line) := by
  exact still_settle (still_evFinish (still_advance h ..) ..) i

@[simp] theorem still_lookUp (h : Still s t) (i : Nat) (t_ : Txn) : Still s (lookUp t i t_) := by
  unfold lookUp
  grind only [still_modTxn, still_count, still_missSeen]

@[simp] theorem still_writeReserved (h : Still s t) (i : Nat) (line : Nat) (w : Nat) (age : Nat) (d : LineData) (poison : Bool) (notify : Option (AgentId × Tag)) : Still s (writeReserved t i line w age d poison notify) := by
  unfold writeReserved
  grind only [still_kindleKill, still_outWrite, still_placeLine]

@[simp] theorem still_takeDirty (h : Still s t) (i : Nat) (line : Nat) (d : LineData) (poison : Bool) (notify : Option (AgentId × Tag)) : Still s (takeDirty t i line d poison notify) := by
  unfold takeDirty
  grind only [still_lookUp, still_writeReserved, still_writeHome, still_dropRead, still_modTxn, still_noteGot, still_noteFrom]

@[simp] theorem still_stray (h : Still s t) (i : Nat) (line : Nat) (h_ : Nat) : Still s (stray t i line h_) := by
  unfold stray
  grind only [still_setErr, still_count, far_dir]

@[simp] theorem still_cleanBack (h : Still s t) (i : Nat) (line : Nat) (d : LineData) (poison : Bool) : Still s (cleanBack t i line d poison) := by
  unfold cleanBack
  grind only [still_searchWay, still_placeLine]

@[simp] theorem still_takeAnswer (h : Still s t) (i : Nat) (line : Nat) (h_ : Nat) (a : Answer) (d : LineData) (dirty : Bool) (poison : Bool) : Still s (takeAnswer t i line h_ a d dirty poison) := by
  unfold takeAnswer
  grind only [still_takeDirty, still_stray, still_modTxn, still_cleanBack, still_endSnoop, still_markGone, still_modSlice]

@[simp] theorem still_dropHolder (h : Still s t) (i : Nat) (line : Nat) (h_ : Nat) : Still s (dropHolder t i line h_) := by
  unfold dropHolder
  grind only [still_dirVacate, still_dirSet]

@[simp] theorem still_takeNotice (h : Still s t) (i : Nat) (line : Nat) (src : AgentId) (tag : Tag) (dirty : Bool) (d : LineData) (poison : Bool) : Still s (takeNotice t i line src tag dirty d poison) := by
  unfold takeNotice
  extract_lets host v done snooped found inBuf f note
  have checked : Still s v := still_dirPurge (still_dirCheck h ..) ..
  have answered : ∀ {w}, Still s w → Still s (done w) := fun hw => still_sendPlain hw _
  have noted : ∀ {w}, Still s w → Still s (note w) := fun hw => still_modSlice (still_modTxn hw ..) ..
  clear_value inBuf found snooped done note v
  have home : ∀ {w}, Still s w → Still s (if dirty then takeDirty w i line d poison (some (src, tag)) else done w) := fun hw =>
    still_ite (still_takeDirty hw ..) (answered hw)
  have strayed : ∀ {w}, Still s w → Still s (if dirty then stray w i line host else w) := fun hw => still_ite (still_stray hw ..) hw
  refine still_ite (answered checked) ?_
  split
  · exact still_ite (still_ite (noted (still_takeDirty checked ..)) (answered (noted (still_stray checked ..)))) (answered (noted checked))
  · split
    · exact still_ite (noted (home checked)) (still_ite (noted (home (still_dropHolder checked ..)))
        (still_ite (answered (noted (still_ite (still_dropHolder (strayed checked) ..) (strayed checked))))
          (still_ite (answered (noted (strayed checked))) (answered checked))))
    · exact still_ite (noted (home checked)) (still_ite (answered (noted (strayed checked))) (answered checked))

@[simp] theorem still_drainSlice (h : Still s t) (i : Nat) : Still s (drainSlice t i) := by
  unfold drainSlice
  refine still_foldl h (fun u o hu => ?_) _
  dsimp only
  split
  · rename_i w e
    have put := still_modSlice (still_hbmWrite hu e) i fun x => { x with outWr := eraseFirst (· == o) x.outWr }
    refine still_goOn ?_ ..
    split
    · exact still_sendPlain put _
    · exact put
  · exact hu

@[simp] theorem still_purgePending (h : Still s t) (i : Nat) : Still s (purgePending t i) := by
  unfold purgePending
  grind only [still_timeoutSnoop, still_modSlice, still_settle, still_evFinish, still_advance, still_foldl]

@[simp] theorem still_dirCheckAll (h : Still s t) (i : Nat) : Still s (dirCheckAll t i) := by
  unfold dirCheckAll
  simp +contextual [h]

@[simp] theorem still_dirPurgeAll (h : Still s t) (i : Nat) : Still s (dirPurgeAll t i) := by
  unfold dirPurgeAll
  grind only [still_dirCheckAll, still_dirPurge, still_foldl]

@[simp] theorem still_purgeSlice (h : Still s t) (i : Nat) : Still s (purgeSlice t i) := by
  exact still_settle (still_dirPurgeAll (still_purgePending h i) i) i

@[simp] theorem still_fillArrive (h : Still s t) (i : Nat) (line : Nat) : Still s (fillArrive t i line) := by
  unfold fillArrive
  grind only [still_modSlice, still_goOn, still_noteGot, still_modTxn]

@[simp] theorem still_victimTaken (h : Still s t) (i : Nat) (line : Nat) : Still s (victimTaken t i line) := by
  unfold victimTaken
  split
  · exact h
  · rename_i v _
    refine still_ite ?_ h
    have read := still_readWay h i v.set v.way
    split <;> rename_i eq
    all_goals rw [eq] at read
    · refine still_goOn ?_ ..
      dsimp only
      split
      · refine still_goOn ?_ ..
        split
        · exact still_sendPlain (still_fillWay (still_modSlice (still_setHway (still_modSlice (still_count (still_hbmPut read ..) ..) ..) ..) ..) ..) _
        · exact still_fillWay (still_modSlice (still_setHway (still_modSlice (still_count (still_hbmPut read ..) ..) ..) ..) ..) ..
      · exact still_setHway (still_modSlice (still_count (still_hbmPut read ..) ..) ..) ..
    · exact read

@[simp] theorem still_kindleArrive (h : Still s t) (i : Nat) (line : Nat) : Still s (kindleArrive t i line) := by
  unfold kindleArrive
  grind only [still_modSlice]

@[simp] theorem still_walkWay (h : Still s t) (i : Nat) (set : Nat) (w : Nat) (inval : Bool) : Still s (walkWay t i set w inval) := by
  unfold walkWay
  grind only [still_flueLine, still_clearWay]

@[simp] theorem still_cleanAllPart (h : Still s t) (i : Nat) (id : Nat) : Still s (cleanAllPart t i id) := by
  unfold cleanAllPart
  have lists : ∀ {w} l, Still s w → Still s { w with cleanAlls := l } := fun l hw => hw.trans (still_same rfl rfl rfl rfl rfl rfl rfl rfl rfl rfl rfl rfl rfl)
  have left := lists (t.cleanAlls.map fun (c : CleanAll) => if c.id = id then { c with left := c.left.filter (· != i) } else c) h
  dsimp only
  split
  · exact still_respond (lists _ (still_noteGot left _)) ..
  · exact left

@[simp] theorem still_sweepEnd (h : Still s t) (i : Nat) : Still s (sweepEnd t i) := by
  unfold sweepEnd
  grind only [still_modSlice, still_cleanAllPart]

@[simp] theorem still_sweepStep (h : Still s t) (i : Nat) : Still s (sweepStep t i) := by
  unfold sweepStep
  grind only [still_walkWay, still_modSlice, still_sweepEnd, still_foldl]

@[simp] theorem still_hearthDisable (h : Still s t) (i : Nat) : Still s (hearthDisable t i) := by
  unfold hearthDisable
  grind only [still_modSlice]

@[simp] theorem still_hearthEnable (h : Still s t) (i : Nat) : Still s (hearthEnable t i) := by
  unfold hearthEnable
  grind only [still_modSlice]

@[simp] theorem still_powerUp (h : Still s t) (i : Nat) (w : Nat) : Still s (powerUp i w t) := by
  unfold powerUp
  grind only [still_modSlice]

@[simp] theorem still_quenchBit (h : Still s t) (i : Nat) (v : Word) (w : Nat) : Still s (quenchBit i v t w) := by
  unfold quenchBit
  grind only [still_startWalk, still_powerUp]

@[simp] theorem still_wayqWrite (h : Still s t) (i : Nat) (v : Word) : Still s (wayqWrite t i v) := by
  have steps := fun (x : Word) u (w : Nat) (hu : Still s u) => still_quenchBit hu i x w
  unfold wayqWrite
  exact still_foldl (still_wayq h _) (steps _) _

@[simp] theorem still_walkEnd (h : Still s t) (i : Nat) (w : Nat) : Still s (walkEnd i t w) := by
  unfold walkEnd
  grind only [still_modSlice, still_retireWay, still_powerUp]

@[simp] theorem still_quenchStep (h : Still s t) (i : Nat) : Still s (quenchStep t i) := by
  unfold quenchStep
  grind only [still_walkWay, still_modSlice, still_walkEnd, still_foldl]

@[simp] theorem still_powerUpDone (h : Still s t) (i : Nat) (w : Nat) : Still s (powerUpDone t i w) := by
  unfold powerUpDone
  grind only [still_modSlice, still_startWalk]

@[simp] theorem still_poisonNotice (h : Still s t) (i : Nat) (line : Nat) : Still s (poisonNotice t i line) := by
  unfold poisonNotice
  grind only [still_modSlice, still_readWay, still_outWrite]

@[simp] theorem still_maintIssue (h : Still s t) (j : Nat) : Still s (maintIssue t j) := by
  unfold maintIssue
  grind only [still_setFld, still_modSlice, still_spine, far_slice]

@[simp] theorem still_maintGo (h : Still s t) (j : Nat) : Still s (maintGo t j) := by
  unfold maintGo
  simp +contextual [h]

@[simp] theorem still_maintDone (h : Still s t) (j : Nat) : Still s (maintDone t j) := by
  unfold maintDone
  grind only [still_modSlice, still_setFld, still_maintIssue, far_slice]

@[simp] theorem still_purgeSet (h : Still s t) (d : Nat) (mask : Nat) : Still s (purgeSet t d mask) := by
  unfold purgeSet
  grind only [still_purge, still_wr, still_count, still_claim, far_dir]

@[simp] theorem still_purgeAgents (h : Still s t) (l : List (Nat × Nat)) : Still s (purgeAgents t l) := by
  unfold purgeAgents
  grind only [still_purgeSet, still_purgePending, still_foldl]

@[simp] theorem still_purgeNotices (h : Still s t) (mask : Nat) : Still s (purgeNotices t mask) := by
  unfold purgeNotices
  grind only [still_sendPlain, still_foldl]

@[simp] theorem still_releaseClaim (h : Still s t) (p : Nat) : Still s (releaseClaim t p) := by
  unfold releaseClaim
  grind only [still_claim]

@[simp] theorem still_snoopLost (h : Still s t) (m : Msg) : Still s (snoopLost t m) := by
  unfold snoopLost
  grind only [still_goOn, still_timeoutSnoop]

@[simp] theorem still_emptyEgress (h : Still s t) (p : Nat) (held : Bool) (m : Msg) : Still s (emptyEgress p t held m) := by
  unfold emptyEgress
  grind only [still_refuse, still_count, still_snoopLost, still_discard, still_blotLost]

@[simp] theorem still_takeGack (h : Still s t) (i : Nat) (line : Nat) (src : AgentId) (tag : Tag) : Still s (takeGack t i line src tag) := by
  unfold takeGack
  grind only [still_goOn, still_modTxn]

@[simp] theorem still_srspTake (h : Still s t) (i : Nat) (line : Nat) (m : Msg) : Still s (srspTake t i line m) := by
  unfold srspTake
  grind only [still_goOn, still_takeAnswer, still_takeGack, still_takeNotice]

@[simp] theorem still_srspArrive (h : Still s t) (m0 : Msg) : Still s (srspArrive t m0) := by
  unfold srspArrive
  grind only [still_takeMsg, still_holdMsg, still_srspTake, still_wake, still_modSlice]

@[simp] theorem still_sliceResume (h : Still s t) (i : Nat) : Still s (sliceResume t i) := by
  unfold sliceResume
  grind only [still_kindleArrive, still_settle, still_srspTake, still_modSlice, still_foldl]

/-! ## Emptying a port (R134, R167, R168) -/

/-- The port takes its new state; all else that emptying it does is the spine's and the slices' work. -/
theorem still_emptyPort (s : State) (p : Nat) (st : PortSt) :
    Still (s.modPort p fun x => { portCleared x with st := st }) (emptyPort s p st) := by
  unfold emptyPort
  have start := Still.refl (s.modPort p fun x => { portCleared x with st := st })
  dsimp only
  generalize s.modPort p _ = a at start ⊢
  have lost : ∀ b : State, Still a b → ∀ l : List (Bool × Msg), Still a (l.foldl (fun u hm => emptyEgress p u hm.1 hm.2) b) :=
    fun b hb l => still_foldl hb (fun u hm hu => still_emptyEgress hu ..) l
  refine still_releaseClaim (still_ite ?_ (still_purgeNotices ?_ _)) p
  all_goals exact still_purgeAgents (still_blotLose (lost _ (still_count start ..) _) _) _

theorem aside_emptyPort (s : State) (p : Nat) (st : PortSt) : Aside s (emptyPort s p st) := by
  have work := (still_emptyPort s p st).toAside
  generalize emptyPort s p st = t at work ⊢
  refine Aside.trans ?_ work
  exact aside_same rfl rfl rfl rfl rfl rfl rfl rfl rfl rfl rfl

theorem aside_disablePort (s : State) (p : Nat) : Aside s (disablePort s p) := by
  unfold disablePort
  split
  · exact Aside.refl s
  · exact aside_emptyPort ..

theorem aside_disablePorts (s : State) (l : List Nat) : Aside s (l.foldl disablePort s) := by
  induction l generalizing s with
  | nil => exact Aside.refl s
  | cons p l ih => exact (aside_disablePort s p).trans (ih _)

theorem aside_purgeSlices (s : State) (l : List Nat) : Aside s (l.foldl purgeSlice s) :=
  (still_foldl (Still.refl s) (fun _ _ hu => still_purgeSlice hu _) l).toAside

end Sys2Proof.Machine
end

section
/-! PROOF. The relation that every step keeps: the commands that wait stay, and no programmed fuse goes back (R446, R490, R492). -/
namespace Sys2Proof.Machine
open Config

variable {s t u : State}

theorem FusesForward.refl (f : FuseArray) : FusesForward f f := ⟨⟨rfl, rfl, rfl⟩, rfl, le_refl _, id, fun _ => id⟩

theorem FusesForward.trans {f g k : FuseArray} (h : FusesForward f g) (h' : FusesForward g k) : FusesForward f k where
  identity := ⟨h'.identity.1.trans h.identity.1, h'.identity.2.1.trans h.identity.2.1, h'.identity.2.2.trans h.identity.2.2⟩
  rows := h'.rows.trans h.rows
  lifecycle := h.lifecycle.trans h'.lifecycle
  lock := fun locked => h'.lock (h.lock locked)
  key := fun k set => h'.key k (h.key k set)

/-- From s to t the waiting commands are the same, and the fuses, with what programs them, went on as they may. -/
structure Onward (s t : State) : Prop where
  pending : t.pending = s.pending
  fuses : FuseStep s → FuseStep t ∧ FusesForward s.nv.fuses t.nv.fuses

theorem Onward.refl (s : State) : Onward s s := ⟨rfl, fun step => ⟨step, FusesForward.refl _⟩⟩

theorem Onward.trans (h : Onward s t) (h' : Onward t u) : Onward s u where
  pending := h'.pending.trans h.pending
  fuses := fun step => by
    obtain ⟨step', first⟩ := h.fuses step
    obtain ⟨step'', next⟩ := h'.fuses step'
    exact ⟨step'', first.trans next⟩

/-- What touches neither the queue nor the fuses nor what programs them. -/
theorem onward_same (pending : t.pending = s.pending) (fuses : t.nv.fuses = s.nv.fuses) (busy : t.boot.fuseBusy = s.boot.fuseBusy) : Onward s t := by
  refine ⟨pending, fun step => ?_⟩
  unfold FuseStep
  rw [fuses, busy]
  exact ⟨step, FusesForward.refl _⟩

theorem Aside.onward (h : Aside s t) : Onward s t := onward_same h.pending (congrArg Nv.fuses h.nv) (congrArg Boot.fuseBusy h.boot)

theorem Still.onward (h : Still t u) (h' : Onward s t) : Onward s u := h'.trans h.toAside.onward

/-- A state put together anew from the waiting commands and the fuses of another. -/
theorem onward_mk (h : Onward s t) {nv : Nv} {boot : Boot} (fuses : nv.fuses = t.nv.fuses) (busy : boot.fuseBusy = t.boot.fuseBusy)
    (freeCtr : Nat) (cwData : DWord) (pins : Pins) (phys : Phys) (tb : Timebase) (mgmt : Mgmt) (reg : RegState) (ports : Store Port)
    (spine : Spine) (purge : Store Word) (evt : EvtState) (doms : Store Domain) (damper : Damper) (acc : Store Nat) (slices : Store Slice)
    (resv : Store Nat) (cleanAlls : List CleanAll) (cleanSeq : Nat) (pcs : Store Pc) (hstacks : Store Stack) (hbm : Store HbmLine)
    (clusters : Store Cluster) (cores : Store Core) (inks : Store Inkwell) (engines : Store Engine) (inkLast : Store Nat) (tel : Tel)
    (cx : Cx) (tap : Tap) :
    Onward s ⟨t.pending, freeCtr, cwData, pins, phys, nv, boot, tb, mgmt, reg, ports, spine, purge, evt, doms, damper, acc, slices, resv,
      cleanAlls, cleanSeq, pcs, hstacks, hbm, clusters, cores, inks, engines, inkLast, tel, cx, tap⟩ :=
  h.trans (onward_same rfl fuses busy)

/-! ## The operations of the state -/

@[simp] theorem onward_ite {c : Prop} [Decidable c] {a b : State} (ha : Onward s a) (hb : Onward s b) : Onward s (if c then a else b) := by
  split
  · exact ha
  · exact hb

@[simp] theorem onward_foldl {α : Type} {f : State → α → State} (h : Onward s t) (step : ∀ u a, Onward s u → Onward s (f u a)) (l : List α) :
    Onward s (l.foldl f t) := by
  induction l generalizing t with
  | nil => exact h
  | cons a l ih => exact ih (step t a h)

theorem onward_foldl_fst {α β : Type} {f : State × β → α → State × β} (step : ∀ p a, Onward s p.1 → Onward s (f p a).1) (l : List α) :
    ∀ p : State × β, Onward s p.1 → Onward s (l.foldl f p).1 := by
  induction l with
  | nil => exact fun _ h => h
  | cons a l ih => exact fun p h => ih _ (step p a h)

@[simp] theorem onward_wr (h : Onward s t) (off : Nat) (v : Word) : Onward s (t.wr off v) := by
  rw [State.wr_frame]
  exact h.trans (onward_same rfl rfl rfl)

@[simp] theorem onward_setFld (h : Onward s t) (off lo w v : Nat) : Onward s (t.setFld off lo w v) := onward_wr h ..

@[simp] theorem onward_raise (h : Onward s t) (a c : Nat) (w : Word) : Onward s (t.raise a c w) := h.trans (onward_same rfl rfl rfl)

@[simp] theorem onward_setErr (h : Onward s t) (off i a : Nat) (w : Word) : Onward s (t.setErr off i a w) :=
  onward_ite h (onward_raise (onward_setFld h ..) ..)

@[simp] theorem onward_setStatus (h : Onward s t) (off i a c : Nat) (w : Word) : Onward s (t.setStatus off i a c w) :=
  onward_ite h (onward_raise (onward_setFld h ..) ..)

@[simp] theorem onward_count (h : Onward s t) (g i n : Nat) : Onward s (t.count g i n) := by
  rw [State.count_frame]
  exact h.trans (onward_same rfl rfl rfl)

@[simp] theorem onward_damper (h : Onward s t) (x : Damper) : Onward s { t with damper := x } := h.trans (onward_same rfl rfl rfl)

@[simp] theorem onward_disablePort (h : Onward s t) (p : Nat) : Onward s (disablePort t p) := h.trans (aside_disablePort t p).onward

@[simp] theorem onward_emptyPort (h : Onward s t) (p : Nat) (st : PortSt) : Onward s (emptyPort t p st) := h.trans (aside_emptyPort t p st).onward

@[simp] theorem onward_modPort (h : Onward s t) (p : Nat) (f : Port → Port) : Onward s (t.modPort p f) := h.trans (onward_same rfl rfl rfl)
@[simp] theorem onward_modDom (h : Onward s t) (d : Nat) (f : Domain → Domain) : Onward s (t.modDom d f) := h.trans (onward_same rfl rfl rfl)
@[simp] theorem onward_modPc (h : Onward s t) (p : Nat) (f : Pc → Pc) : Onward s (t.modPc p f) := h.trans (onward_same rfl rfl rfl)
@[simp] theorem onward_modSlice (h : Onward s t) (i : Nat) (f : Slice → Slice) : Onward s (t.modSlice i f) := h.trans (onward_same rfl rfl rfl)
@[simp] theorem onward_modStack (h : Onward s t) (k : Nat) (f : Stack → Stack) : Onward s (t.modStack k f) := h.trans (onward_same rfl rfl rfl)
@[simp] theorem onward_modInk (h : Onward s t) (n : Nat) (f : Inkwell → Inkwell) : Onward s (t.modInk n f) := h.trans (onward_same rfl rfl rfl)
@[simp] theorem onward_modCore (h : Onward s t) (k : Nat) (f : Core → Core) : Onward s (t.modCore k f) := h.trans (onward_same rfl rfl rfl)
@[simp] theorem onward_modCluster (h : Onward s t) (c : Nat) (f : Cluster → Cluster) : Onward s (t.modCluster c f) := h.trans (onward_same rfl rfl rfl)
@[simp] theorem onward_modEngine (h : Onward s t) (e : Nat) (f : Engine → Engine) : Onward s (t.modEngine e f) := h.trans (onward_same rfl rfl rfl)
@[simp] theorem onward_modRun (h : Onward s t) (f : CxRun → CxRun) : Onward s (t.modRun f) := h.trans (onward_same rfl rfl rfl)
@[simp] theorem onward_setHbm (h : Onward s t) (line : Nat) (l : HbmLine) : Onward s (t.setHbm line l) := h.trans (onward_same rfl rfl rfl)
@[simp] theorem onward_voteReg (h : Onward s t) (off : Nat) : Onward s (voteReg t off) := (still_voteReg (Still.refl t) off).onward h

/-! ## The operations of the spine, the stacks' queues and the slices -/

@[simp] theorem onward_wakeAccess (h : Onward s t) (d : Nat) : Onward s (State.wakeAccess t d) := (still_wakeAccess (Still.refl t) d).onward h
@[simp] theorem onward_wake (h : Onward s t) (d : Nat) : Onward s (State.wake t d) := (still_wake (Still.refl t) d).onward h
@[simp] theorem onward_voteFixed (h : Onward s t) (off : Nat) : Onward s (voteFixed t off) := (still_voteFixed (Still.refl t) off).onward h
@[simp] theorem onward_voteRoute (h : Onward s t) (d : Nat) : Onward s (voteRoute t d) := (still_voteRoute (Still.refl t) d).onward h
@[simp] theorem onward_free (h : Onward s t) : Onward s (State.free t).1 := (still_free (Still.refl t)).onward h
@[simp] theorem onward_freeB (h : Onward s t) : Onward s (State.freeB t).1 := (still_freeB (Still.refl t)).onward h
@[simp] theorem onward_portErr (h : Onward s t) (p : Nat) (i : Nat) (vc : Nat) : Onward s (State.portErr t p i vc) :=
  (still_portErr (Still.refl t) p i vc).onward h
@[simp] theorem onward_blotNote (h : Onward s t) (src : AgentId) (tag : Tag) (f : Follow → Follow) : Onward s (State.blotNote t src tag f) :=
  (still_blotNote (Still.refl t) src tag f).onward h
@[simp] theorem onward_blotLose (h : Onward s t) (p : Follow → Bool) : Onward s (State.blotLose t p) := (still_blotLose (Still.refl t) p).onward h
@[simp] theorem onward_blotLeave (h : Onward s t) (m : Msg) : Onward s (State.blotLeave t m) := (still_blotLeave (Still.refl t) m).onward h
@[simp] theorem onward_blotLost (h : Onward s t) (m : Msg) : Onward s (State.blotLost t m) := (still_blotLost (Still.refl t) m).onward h
@[simp] theorem onward_discard (h : Onward s t) (p : Nat) (m : Msg) : Onward s (State.discard t p m) := (still_discard (Still.refl t) p m).onward h
@[simp] theorem onward_enqueue (h : Onward s t) (p : Nat) (m : Msg) : Onward s (State.enqueue t p m) := (still_enqueue (Still.refl t) p m).onward h
@[simp] theorem onward_hold (h : Onward s t) (m : Msg) (ingress : Option Nat) (admitted : Bool) : Onward s (State.hold t m ingress admitted) :=
  (still_hold (Still.refl t) m ingress admitted).onward h
@[simp] theorem onward_depart (h : Onward s t) (p : Nat) (m : Msg) : Onward s (State.depart t p m) := (still_depart (Still.refl t) p m).onward h
@[simp] theorem onward_sendPlain (h : Onward s t) (m : Msg) : Onward s (State.sendPlain t m) := (still_sendPlain (Still.refl t) m).onward h
@[simp] theorem onward_refuse (h : Onward s t) (m : Msg) (reason : Nat) : Onward s (State.refuse t m reason) :=
  (still_refuse (Still.refl t) m reason).onward h
@[simp] theorem onward_refuseAt (h : Onward s t) (ingress : Option Nat) (m : Msg) (reason : Nat) : Onward s (State.refuseAt t ingress m reason) :=
  (still_refuseAt (Still.refl t) ingress m reason).onward h
@[simp] theorem onward_takeMsg (h : Onward s t) (p : Msg → Bool) : Onward s (State.takeMsg t p).1 := (still_takeMsg (Still.refl t) p).onward h
@[simp] theorem onward_holdMsg (h : Onward s t) (p : Msg → Bool) (m : Msg) (ingress : Option Nat) : Onward s (State.holdMsg t p m ingress) :=
  (still_holdMsg (Still.refl t) p m ingress).onward h
@[simp] theorem onward_paceCore (h : Onward s t) (k : Nat) : Onward s (State.paceCore t k) := (still_paceCore (Still.refl t) k).onward h
@[simp] theorem onward_newWindow (h : Onward s t) : Onward s (State.newWindow t) := (still_newWindow (Still.refl t)).onward h
@[simp] theorem onward_decodeLine (h : Onward s t) (d : LineData) (poison : Bool) (errs : List SymErr) : Onward s (decodeLine t d poison errs).1 :=
  (still_decodeLine (Still.refl t) d poison errs).onward h
@[simp] theorem onward_returnLine (h : Onward s t) (line : Nat) (d : LineData) (poison : Bool) (kindle : Bool) : Onward s (returnLine t line d poison kindle) :=
  (still_returnLine (Still.refl t) line d poison kindle).onward h
@[simp] theorem onward_setMode (h : Onward s t) (p : Nat) : Onward s (State.setMode t p) := (still_setMode (Still.refl t) p).onward h
@[simp] theorem onward_hbmRead (h : Onward s t) (line : Nat) (src : RdSrc) (cls : Nat) : Onward s (hbmRead t line src cls) :=
  (still_hbmRead (Still.refl t) line src cls).onward h
@[simp] theorem onward_hbmReport (h : Onward s t) (line : Nat) (source : Nat) (o : Decoded) : Onward s (hbmReport t line source o) :=
  (still_hbmReport (Still.refl t) line source o).onward h
@[simp] theorem onward_sendNotice (h : Onward s t) (line : Nat) : Onward s (sendNotice t line) := (still_sendNotice (Still.refl t) line).onward h
@[simp] theorem onward_afterRead (h : Onward s t) (line : Nat) (source : Nat) (wrote : Bool) (o : Decoded) : Onward s (afterRead t line source wrote o) :=
  (still_afterRead (Still.refl t) line source wrote o).onward h
@[simp] theorem onward_setHway (h : Onward s t) (i : Nat) (set : Nat) (w : Nat) (h_ : HLine) : Onward s (State.setHway t i set w h_) :=
  (still_setHway (Still.refl t) i set w h_).onward h
@[simp] theorem onward_clearWay (h : Onward s t) (i : Nat) (set : Nat) (w : Nat) : Onward s (State.clearWay t i set w) :=
  (still_clearWay (Still.refl t) i set w).onward h
@[simp] theorem onward_wayErrors (h : Onward s t) (i : Nat) (w : Nat) (n : Nat) : Onward s (wayErrors t i w n) :=
  (still_wayErrors (Still.refl t) i w n).onward h
@[simp] theorem onward_judgeWays (h : Onward s t) (i : Nat) : Onward s (judgeWays t i) := (still_judgeWays (Still.refl t) i).onward h
@[simp] theorem onward_readWay (h : Onward s t) (i : Nat) (set : Nat) (w : Nat) : Onward s (readWay t i set w).1 :=
  (still_readWay (Still.refl t) i set w).onward h
@[simp] theorem onward_dirSet (h : Onward s t) (i : Nat) (line : Nat) (w : Nat) (e : DEntry) : Onward s (dirSet t i line w e) :=
  (still_dirSet (Still.refl t) i line w e).onward h
@[simp] theorem onward_timeoutSnoop (h : Onward s t) (i : Nat) (line : Nat) (h_ : Nat) : Onward s (timeoutSnoop t i line h_) :=
  (still_timeoutSnoop (Still.refl t) i line h_).onward h
@[simp] theorem onward_evictEntry (h : Onward s t) (i : Nat) (e : DEntry) : Onward s (evictEntry t i e) :=
  (still_evictEntry (Still.refl t) i e).onward h
@[simp] theorem onward_flueLine (h : Onward s t) (i : Nat) (set : Nat) (w : Nat) (cls : Nat) : Onward s (flueLine t i set w cls) :=
  (still_flueLine (Still.refl t) i set w cls).onward h
@[simp] theorem onward_settle (h : Onward s t) (i : Nat) : Onward s (settle t i) := (still_settle (Still.refl t) i).onward h
@[simp] theorem onward_submit (h : Onward s t) (r : Req) : Onward s (submit t r) := (still_submit (Still.refl t) r).onward h
@[simp] theorem onward_goOn (h : Onward s t) (i : Nat) (line : Nat) : Onward s (goOn t i line) := (still_goOn (Still.refl t) i line).onward h
@[simp] theorem onward_drainSlice (h : Onward s t) (i : Nat) : Onward s (drainSlice t i) := (still_drainSlice (Still.refl t) i).onward h
@[simp] theorem onward_dirPurgeAll (h : Onward s t) (i : Nat) : Onward s (dirPurgeAll t i) := (still_dirPurgeAll (Still.refl t) i).onward h
@[simp] theorem onward_purgeSlice (h : Onward s t) (i : Nat) : Onward s (purgeSlice t i) := (still_purgeSlice (Still.refl t) i).onward h
@[simp] theorem onward_kindleArrive (h : Onward s t) (i : Nat) (line : Nat) : Onward s (kindleArrive t i line) :=
  (still_kindleArrive (Still.refl t) i line).onward h
@[simp] theorem onward_sweepStep (h : Onward s t) (i : Nat) : Onward s (sweepStep t i) := (still_sweepStep (Still.refl t) i).onward h
@[simp] theorem onward_hearthDisable (h : Onward s t) (i : Nat) : Onward s (hearthDisable t i) := (still_hearthDisable (Still.refl t) i).onward h
@[simp] theorem onward_hearthEnable (h : Onward s t) (i : Nat) : Onward s (hearthEnable t i) := (still_hearthEnable (Still.refl t) i).onward h
@[simp] theorem onward_wayqWrite (h : Onward s t) (i : Nat) (v : Word) : Onward s (wayqWrite t i v) := (still_wayqWrite (Still.refl t) i v).onward h
@[simp] theorem onward_poisonNotice (h : Onward s t) (i : Nat) (line : Nat) : Onward s (poisonNotice t i line) :=
  (still_poisonNotice (Still.refl t) i line).onward h
@[simp] theorem onward_maintGo (h : Onward s t) (j : Nat) : Onward s (maintGo t j) := (still_maintGo (Still.refl t) j).onward h
@[simp] theorem onward_maintDone (h : Onward s t) (j : Nat) : Onward s (maintDone t j) := (still_maintDone (Still.refl t) j).onward h
@[simp] theorem onward_purgeSet (h : Onward s t) (d : Nat) (mask : Nat) : Onward s (purgeSet t d mask) :=
  (still_purgeSet (Still.refl t) d mask).onward h
@[simp] theorem onward_purgeAgents (h : Onward s t) (l : List (Nat × Nat)) : Onward s (purgeAgents t l) :=
  (still_purgeAgents (Still.refl t) l).onward h
@[simp] theorem onward_purgeNotices (h : Onward s t) (mask : Nat) : Onward s (purgeNotices t mask) :=
  (still_purgeNotices (Still.refl t) mask).onward h
@[simp] theorem onward_releaseClaim (h : Onward s t) (p : Nat) : Onward s (releaseClaim t p) := (still_releaseClaim (Still.refl t) p).onward h
@[simp] theorem onward_snoopLost (h : Onward s t) (m : Msg) : Onward s (snoopLost t m) := (still_snoopLost (Still.refl t) m).onward h
@[simp] theorem onward_emptyEgress (h : Onward s t) (p : Nat) (held : Bool) (m : Msg) : Onward s (emptyEgress p t held m) :=
  (still_emptyEgress (Still.refl t) p held m).onward h
@[simp] theorem onward_srspTake (h : Onward s t) (i : Nat) (line : Nat) (m : Msg) : Onward s (srspTake t i line m) :=
  (still_srspTake (Still.refl t) i line m).onward h
@[simp] theorem onward_srspArrive (h : Onward s t) (m0 : Msg) : Onward s (srspArrive t m0) := (still_srspArrive (Still.refl t) m0).onward h
@[simp] theorem onward_sliceResume (h : Onward s t) (i : Nat) : Onward s (sliceResume t i) := (still_sliceResume (Still.refl t) i).onward h

end Sys2Proof.Machine
end

section
/-! PROOF. The votes, the links and the memory controllers take no fuse back. -/
namespace Sys2Proof.Machine
open Config

-- One proof at a time: many at once would pass the memory limit of the check.
set_option Elab.async false
variable {s t u : State}

@[simp] theorem onward_noteViol (h : Onward s t) (m : Master) (off : Nat) (bit : Nat) (cause : Nat) (slot : Nat) : Onward s (noteViol t m off bit cause slot) := by
  unfold noteViol
  grind only [onward_setFld, onward_count]

@[simp] theorem onward_accessErr (h : Onward s t) (m : Master) (off : Nat) : Onward s (accessErr t m off) := by
  unfold accessErr
  grind only [onward_noteViol]

@[simp] theorem onward_guardDeny (h : Onward s t) (m : Master) (off : Nat) : Onward s (guardDeny t m off) := by
  unfold guardDeny
  grind only [onward_noteViol]

@[simp] theorem onward_lockViol (h : Onward s t) (m : Master) (off : Nat) (reg : Nat) : Onward s (lockViol t m off reg) := by
  unfold lockViol
  grind only [onward_noteViol, onward_raise]

@[simp] theorem onward_voteLock (h : Onward s t) (off : Nat) : Onward s (voteLock t off) := by
  unfold voteLock
  grind only [onward_voteFixed, onward_mk]

@[simp] theorem onward_voteFuses (h : Onward s t) : Onward s (voteFuses t) := by
  unfold voteFuses
  grind only [onward_voteFixed, onward_mk]

@[simp] theorem onward_voteBudget (h : Onward s t) : Onward s (voteBudget t) := by
  unfold voteBudget
  grind only [onward_voteReg]

@[simp] theorem onward_voteMode (h : Onward s t) : Onward s (voteMode t) := by
  unfold voteMode
  grind only [onward_voteFuses, onward_voteReg]

@[simp] theorem onward_lockReg (h : Onward s t) (off : Nat) : Onward s (lockReg t off) := by
  unfold lockReg
  grind only [onward_mk]

@[simp] theorem onward_strikeVoted (h : Onward s t) (off : Nat) (copy : Nat) (bits : Word) : Onward s (strikeVoted t off copy bits) := by
  unfold strikeVoted
  grind only [onward_mk]

@[simp] theorem onward_strikeFuse (h : Onward s t) (off : Nat) (copy : Nat) (bits : Word) : Onward s (strikeFuse t off copy bits) := by
  unfold strikeFuse
  grind only [onward_mk]

@[simp] theorem onward_voteSweep (h : Onward s t) : Onward s (voteSweep t) := by
  unfold voteSweep
  grind only [onward_foldl, onward_voteReg, onward_voteFuses, onward_voteLock]

@[simp] theorem onward_linkDown (h : Onward s t) (p : Nat) (cause : Nat) : Onward s (linkDown t p cause) := by
  unfold linkDown
  grind only [onward_modPort, onward_portErr, onward_count, onward_emptyPort, onward_mk]

@[simp] theorem onward_trainFail (h : Onward s t) (p : Nat) (cause : Nat) : Onward s (trainFail t p cause) := by
  unfold trainFail
  grind only [onward_modPort, onward_portErr, onward_count, onward_mk]

@[simp] theorem onward_enterRecover (h : Onward s t) (p : Nat) (reeq : Bool) : Onward s (enterRecover t p reeq) := by
  unfold enterRecover
  grind only [onward_modPort, onward_portErr, onward_count, onward_mk]

@[simp] theorem onward_enablePort (h : Onward s t) (p : Nat) : Onward s (enablePort t p) := by
  unfold enablePort
  grind only [onward_modPort, onward_mk]

@[simp] theorem onward_resetPort (h : Onward s t) (p : Nat) : Onward s (resetPort t p) := by
  unfold resetPort
  simp +contextual [h]

@[simp] theorem onward_retrainPort (h : Onward s t) (p : Nat) : Onward s (retrainPort t p) := by
  unfold retrainPort
  grind only [onward_enterRecover, onward_wake, onward_modPort, onward_setFld, onward_mk]

@[simp] theorem onward_markBad (h : Onward s t) (p : Nat) (lanes : Nat) : Onward s (markBad t p lanes) := by
  unfold markBad
  grind only [onward_setFld, onward_portErr, onward_count]

@[simp] theorem onward_setWidth (h : Onward s t) (p : Nat) (q : PartnerParam) (keepX4 : Bool) : Onward s (setWidth t p q keepX4) := by
  unfold setWidth
  grind only [onward_modPort, onward_mk]

@[simp] theorem onward_msgDones (h : Onward s t) (p : Nat) (live : List SentFlit) : Onward s (msgDones t p live) := by
  unfold msgDones
  grind only [onward_modPort, onward_foldl, onward_sendPlain, onward_mk]

@[simp] theorem onward_takeAck (h : Onward s t) (p : Nat) (ack : BitVec 9) : Onward s (takeAck t p ack) := by
  unfold takeAck
  grind only [onward_modPort, onward_msgDones, onward_mk]

@[simp] theorem onward_startReplay (h : Onward s t) (p : Nat) : Onward s (startReplay t p) := by
  unfold startReplay
  grind only [onward_enterRecover, onward_portErr, onward_modPort, onward_mk]

@[simp] theorem onward_nakReceive (h : Onward s t) (p : Nat) (ack : BitVec 9) : Onward s (nakReceive t p ack) := by
  unfold nakReceive
  grind only [onward_startReplay, onward_takeAck]

@[simp] theorem onward_protoError (h : Onward s t) (p : Nat) (i : Nat) (vc : Nat) : Onward s (protoError t p i vc) := by
  unfold protoError
  simp +contextual [h]

@[simp] theorem onward_acceptMsgs (p : Nat) (l : List Msg) : ∀ {t : State}, Onward s t → Onward s (acceptMsgs t p l) := by
  induction l with
  | nil => exact fun h => h
  | cons m l ih =>
    intro t h
    unfold acceptMsgs
    exact onward_ite (onward_protoError h ..) (onward_ite (onward_protoError h ..)
      (ih (onward_count (onward_ite (onward_modPort h ..) (onward_modPort h ..)) ..)))

theorem onward_takeCredits (h : Onward s t) {p vc n : Nat} (e : takeCredits t p vc n = some u) : Onward s u := by
  unfold takeCredits at e
  split_ifs at e
  all_goals
    rw [← Option.some.inj e]
    simp [h]

@[simp] theorem onward_badFlit (h : Onward s t) (p : Nat) : Onward s (badFlit t p) := by
  unfold badFlit
  grind only [onward_portErr, onward_count, onward_modPort, onward_mk]

@[simp] theorem onward_payloadFlit (h : Onward s t) (p : Nat) (seq : BitVec 9) (ack : BitVec 9) (crdVc : Nat) (crd : Nat) (area : List Word) : Onward s (payloadFlit t p seq ack crdVc crd area) := by
  unfold payloadFlit
  dsimp only
  refine onward_ite ?_ (onward_modPort h ..)
  have counted := onward_count (onward_modPort (onward_takeAck h p ack) p
    fun x => { x with rxLast := seq, discarding := false, idleReq := false }) p 1 1
  split
  · exact onward_protoError counted ..
  · have taken := onward_takeCredits counted ‹_›
    split
    · exact onward_protoError taken ..
    · exact onward_acceptMsgs p _ taken

@[simp] theorem onward_goodFec (h : Onward s t) (p : Nat) (flit : List Byte) : Onward s (goodFec t p flit) := by
  unfold goodFec
  grind only [onward_badFlit, onward_protoError, onward_payloadFlit, onward_nakReceive, onward_takeAck, onward_mk]

@[simp] theorem onward_decodedFlit (h : Onward s t) (p : Nat) (f : Option (List Byte)) : Onward s (decodedFlit t p f) := by
  cases f with
  | none => exact onward_badFlit h p
  | some f => exact onward_goodFec h p f

@[simp] theorem onward_flitIn (h : Onward s t) (p : Nat) (bytes : List Byte) (rs : RsOutcome) : Onward s (flitIn t p bytes rs) := by
  unfold flitIn
  refine onward_ite ?_ (onward_decodedFlit (onward_ite (onward_count (onward_count h ..) ..) (onward_count h ..)) ..)
  refine onward_foldl ?_ (fun u f hu => onward_ite (onward_decodedFlit hu p f) hu) _
  split
  · exact onward_count (onward_modPort h ..) ..
  · exact onward_count (onward_modPort h ..) ..

@[simp] theorem onward_earlyFlit (h : Onward s t) (p : Nat) (bytes : List Byte) (rs : RsOutcome) : Onward s (earlyFlit t p bytes rs) := by
  unfold earlyFlit
  grind only [onward_modPort, onward_trainFail, onward_mk]

@[simp] theorem onward_putWire (h : Onward s t) (p : Nat) (hdr : Word) (area : List Word) : Onward s (putWire t p hdr area) := by
  unfold putWire
  grind only [onward_modPort, onward_mk]

@[simp] theorem onward_putBare (h : Onward s t) (p : Nat) (kind : Nat) : Onward s (putBare t p kind) := by
  unfold putBare
  grind only [onward_putWire]

@[simp] theorem onward_sendIdle (h : Onward s t) (p : Nat) : Onward s (sendIdle t p) := by
  unfold sendIdle
  simp +contextual [h]

@[simp] theorem onward_idleIfDue (h : Onward s t) (p : Nat) : Onward s (idleIfDue t p) := by
  unfold idleIfDue
  simp +contextual [h]

@[simp] theorem onward_sendBare (h : Onward s t) (p : Nat) (kind : Nat) : Onward s (sendBare t p kind) := by
  unfold sendBare
  grind only [onward_putBare, onward_idleIfDue, onward_modPort, onward_mk]

@[simp] theorem onward_sendPayload (h : Onward s t) (p : Nat) : Onward s (sendPayload t p) := by
  unfold sendPayload
  exact onward_foldl (onward_count (onward_count (onward_modPort (onward_putWire (onward_idleIfDue h p) ..) ..) ..) ..) (fun u m hu => onward_blotLeave hu m) _

@[simp] theorem onward_sendNew (h : Onward s t) (p : Nat) : Onward s (sendNew t p) := by
  unfold sendNew
  grind only [onward_sendPayload, onward_sendIdle]

@[simp] theorem onward_resendNext (h : Onward s t) (p : Nat) : Onward s (resendNext t p) := by
  unfold resendNext
  grind only [onward_idleIfDue, onward_putWire, onward_modPort, onward_count, onward_mk]

@[simp] theorem onward_flitOut (h : Onward s t) (p : Nat) : Onward s (flitOut t p) := by
  unfold flitOut
  grind only [onward_sendIdle, onward_sendBare, onward_modPort, onward_resendNext, onward_sendNew, onward_mk]

@[simp] theorem onward_answerTraffic (h : Onward s t) (p : Nat) : Onward s (answerTraffic t p) := by
  unfold answerTraffic
  grind only [onward_resendNext, onward_sendPayload, onward_flitOut]

@[simp] theorem onward_enterIdle (h : Onward s t) (p : Nat) : Onward s (enterIdle t p) := by
  unfold enterIdle
  grind only [onward_modPort, onward_count, onward_modDom, onward_mk]

@[simp] theorem onward_idleRequest (h : Onward s t) (p : Nat) : Onward s (idleRequest t p) := by
  unfold idleRequest
  grind only [onward_sendBare, onward_modPort, onward_mk]

@[simp] theorem onward_noPort (h : Onward s t) (ingress : Option Nat) (p : Nat) (reason : Nat) (m : Msg) : Onward s (noPort t ingress p reason m) := by
  unfold noPort
  grind only [onward_refuseAt, onward_snoopLost, onward_discard]

@[simp] theorem onward_sendVia (h : Onward s t) (ingress : Option Nat) (p : Nat) (m : Msg) : Onward s (sendVia t ingress p m) := by
  unfold sendVia
  grind only [onward_blotNote, onward_count, onward_enqueue, onward_noPort, onward_mk]

@[simp] theorem onward_forwardMsg (h : Onward s t) (ingress : Option Nat) (m : Msg) : Onward s (forwardMsg t ingress m) := by
  unfold forwardMsg
  grind only [onward_refuseAt, onward_discard, onward_voteRoute, onward_noPort, onward_sendVia, onward_foldl, onward_wake, onward_hold,
    onward_mk]

@[simp] theorem onward_deliverLocal (h : Onward s t) (ingress : Option Nat) (m : Msg) : Onward s (deliverLocal t ingress m) := by
  unfold deliverLocal
  grind only [onward_refuseAt, onward_sendVia, onward_sendPlain]

@[simp] theorem onward_alertPin (h : Onward s t) : Onward s (alertPin t) := by
  unfold alertPin
  grind only [onward_mk]

@[simp] theorem onward_msgLost (h : Onward s t) : Onward s (msgLost t) := by
  unfold msgLost
  simp +contextual [h]

@[simp] theorem onward_sequenceEvent (h : Onward s t) (e : Event) : Onward s (sequenceEvent t e) := by
  unfold sequenceEvent
  lift_lets
  intro seq _ numbered route _ entered _ sent
  have start : Onward s { t with evt := { t.evt with seq := seq + 1 } } := h.trans (onward_same rfl rfl rfl)
  have ha : Onward s numbered := onward_count start ..
  have hb : Onward s entered := by
    refine onward_ite ?_ ha
    split
    · exact ha.trans (onward_same rfl rfl rfl)
    · exact onward_count (onward_setFld ha ..) ..
  have hc : Onward s sent := onward_ite (onward_ite (onward_msgLost hb) (hb.trans (onward_same rfl rfl rfl))) hb
  exact onward_ite (onward_alertPin (onward_setFld hc ..)) hc

@[simp] theorem onward_eventMsgSend (h : Onward s t) : Onward s (eventMsgSend t) := by
  unfold eventMsgSend
  grind only [onward_depart, onward_count, onward_msgLost, onward_mk]

@[simp] theorem onward_sequenceNext (h : Onward s t) (unit : Nat) : Onward s (sequenceNext t unit) := by
  unfold sequenceNext
  grind only [onward_sequenceEvent, onward_mk]

@[simp] theorem onward_repeatN {f : State → State} (step : ∀ u, Onward s u → Onward s (f u)) (n : Nat) :
    ∀ {t : State}, Onward s t → Onward s (repeatN f n t) := by
  induction n with
  | zero => exact fun h => h
  | succ n ih => exact fun h => ih (step _ h)

@[simp] theorem onward_flushOut (h : Onward s t) : Onward s (flushOut t) := by
  unfold flushOut
  have sends : ∀ u, Onward s u → Onward s (repeatN eventMsgSend t.evt.msgq.length u) := fun u hu =>
    onward_repeatN (fun w hw => onward_eventMsgSend hw) _ hu
  refine onward_foldl (sends t h) (fun u p hu => ?_) _
  exact onward_ite (onward_repeatN (fun w hw => onward_ite hw (onward_sendNew hw p)) _ hu) hu

@[simp] theorem onward_fatalPort (h : Onward s t) (p : Nat) : Onward s (fatalPort t p) := by
  unfold fatalPort
  grind only [onward_foldl, onward_blotLost, onward_modPort, onward_blotLose, onward_releaseClaim, onward_purgeSet, onward_mk]

@[simp] theorem onward_enterFatal (h : Onward s t) (source : Nat) (code : Nat) (info : Word) : Onward s (enterFatal t source code info) := by
  unfold enterFatal
  refine onward_ite h ?_
  lift_lets
  intro seq first _ _ recorded second _ _ fatal sent
  have hs : Onward s second := onward_sequenceEvent (onward_wr (onward_wr (onward_wr (onward_setFld (onward_sequenceEvent h _) ..) ..) ..) ..) _
  have hf : Onward s fatal := hs.trans (onward_same rfl rfl rfl)
  exact onward_foldl (onward_flushOut (onward_purgeNotices hf _)) (fun u p hu => onward_fatalPort hu p) _

@[simp] theorem onward_fatalErr (h : Onward s t) (off : Nat) (i : Nat) (source : Nat) (info : Word) : Onward s (fatalErr t off i source info) := by
  unfold fatalErr
  grind only [onward_setErr, onward_enterFatal, onward_setFld]

@[simp] theorem onward_freeLine (h : Onward s t) : Onward s (freeLine t).1 := by
  unfold freeLine
  grind only [onward_free, onward_freeB]

@[simp] theorem onward_dramLine (h : Onward s t) (line : Nat) : Onward s (dramLine t line).1 := by
  unfold dramLine
  grind only [onward_freeLine]

@[simp] theorem onward_dramStore (h : Onward s t) (line : Nat) (d : LineData) (poison : Bool) : Onward s (dramStore t line d poison) := by
  unfold dramStore
  grind only [onward_freeLine, onward_setHbm, onward_mk]

@[simp] theorem onward_readColumn (h : Onward s t) (p : Nat) (e : RdEntry) (ck : Nat) : Onward s (readColumn t p e ck) := by
  unfold readColumn
  grind only [onward_count, onward_modPc, onward_dramLine, onward_mk]

@[simp] theorem onward_writeColumn (h : Onward s t) (p : Nat) (e : WrEntry) (ck : Nat) : Onward s (writeColumn t p e ck) := by
  unfold writeColumn
  grind only [onward_count, onward_modPc, onward_mk]

@[simp] theorem onward_issueCommand (h : Onward s t) (p : Nat) (c : DramCmd) : Onward s (issueCommand t p c) := by
  unfold issueCommand
  grind only [onward_modPc, onward_count, onward_mk]

@[simp] theorem onward_issue (h : Onward s t) (p : Nat) (cand : Cand) (c : DramCmd) : Onward s (issue t p cand c) := by
  unfold issue
  grind only [onward_issueCommand, onward_modPc, onward_readColumn, onward_wr, onward_writeColumn, onward_mk]

@[simp] theorem onward_issueSoon (h : Onward s t) (p : Nat) (op : DramOp) (sid : Nat) (bank : Nat) : Onward s (issueSoon t p op sid bank) := by
  unfold issueSoon
  grind only [onward_issueCommand, onward_mk]

@[simp] theorem onward_schedule (h : Onward s t) (p : Nat) (ck : Nat) : Onward s (schedule t p ck) := by
  unfold schedule
  grind only [onward_modPc, onward_setMode, onward_issue, onward_mk]

@[simp] theorem onward_drainAll (h : Onward s t) : Onward s (drainAll t) := by
  unfold drainAll
  simp +contextual [h]

@[simp] theorem onward_scrubRead (h : Onward s t) (p : Nat) : Onward s (scrubRead t p) := by
  unfold scrubRead
  grind only [onward_hbmRead, onward_count, onward_modPc, onward_setFld, onward_mk]

@[simp] theorem onward_scrubFalls (h : Onward s t) (p : Nat) : Onward s (scrubFalls t p) := by
  unfold scrubFalls
  grind only [onward_scrubRead, onward_wake, onward_modPc, onward_mk]

@[simp] theorem onward_pprLog (h : Onward s t) (k : Nat) (p : Nat) (sid : Nat) (bank : Nat) (row : Nat) (hard : Bool) : Onward s (pprLog t k p sid bank row hard) := by
  unfold pprLog
  grind only [onward_wr, onward_setFld, onward_mk]

@[simp] theorem onward_repairLine (h : Onward s t) (noise : List SymErr) (line : Nat) : Onward s (repairLine noise t line) := by
  unfold repairLine
  grind only [onward_dramStore, onward_dramLine, onward_decodeLine, onward_hbmReport, onward_sendNotice, onward_mk]

@[simp] theorem onward_softRepair (h : Onward s t) (p : Nat) (noise : List SymErr) : Onward s (softRepair t p noise) := by
  unfold softRepair
  dsimp only
  split
  all_goals grind only [onward_modPc, onward_setErr, onward_foldl, onward_repairLine, onward_modStack, onward_pprLog, onward_count,
              onward_mk]

@[simp] theorem onward_trainPc (h : Onward s t) (p : Nat) (ok : Bool) (lane : Option (BitVec 6)) (eyes : Option (Byte × Byte)) (temp : Int) : Onward s (trainPc t p ok lane eyes temp) := by
  unfold trainPc
  grind only [onward_modPc, onward_trainFail, onward_count, onward_mk]

@[simp] theorem onward_trainPcs (h : Onward s t) (l : List Nat) : Onward s (trainPcs t l) := by
  unfold trainPcs
  grind only [onward_foldl, onward_trainPc, onward_mk]

@[simp] theorem onward_trainFailErr (h : Onward s t) (k : Nat) (p : Nat) : Onward s (trainFailErr t k p) := by
  unfold trainFailErr
  simp +contextual [h]

@[simp] theorem onward_fullRetrain (h : Onward s t) (p : Nat) (r : RetrainResult) : Onward s (fullRetrain t p r) := by
  unfold fullRetrain
  grind only [onward_setErr, onward_count, onward_trainPc, onward_trainFail, onward_fatalErr]

@[simp] theorem onward_refreshAhead (h : Onward s t) (p : Nat) (len : Nat) : Onward s (refreshAhead t p len) := by
  unfold refreshAhead
  grind only [onward_foldl, onward_issueSoon]

@[simp] theorem onward_selfEnter (h : Onward s t) (p : Nat) : Onward s (selfEnter t p) := by
  unfold selfEnter
  grind only [onward_foldl, onward_issueSoon]

@[simp] theorem onward_selfExit (h : Onward s t) (p : Nat) : Onward s (selfExit t p) := by
  unfold selfExit
  simp +contextual [h]

@[simp] theorem onward_hbmReload (h : Onward s t) (k : Nat) : Onward s (hbmReload t k) := by
  unfold hbmReload
  grind only [onward_modStack, onward_foldl, onward_issueSoon, onward_setFld, onward_mk]

@[simp] theorem onward_wipe (h : Onward s t) : Onward s (wipe t) := by
  unfold wipe
  grind only [onward_foldl, onward_modPc, onward_modStack, onward_mk]

@[simp] theorem onward_blotDraw (h : Onward s t) : Onward s (blotDraw t) := by
  unfold blotDraw
  grind only [onward_mk]

@[simp] theorem onward_blotDrop (h : Onward s t) : Onward s (blotDrop t) := by
  unfold blotDrop
  grind only [onward_count, onward_setStatus]

@[simp] theorem onward_blotAdmit (h : Onward s t) (f : Follow) : Onward s (blotAdmit t f) := by
  unfold blotAdmit
  grind only [onward_blotDraw, onward_wake, onward_blotDrop, onward_mk]

@[simp] theorem onward_putReq (h : Onward s t) (m : Msg) : Onward s (State.putReq t m) := by
  unfold State.putReq
  grind only [onward_mk]

@[simp] theorem onward_modDesc (h : Onward s t) (n : Nat) (slot : Nat) (f : Desc → Desc) : Onward s (modDesc t n slot f) := by
  unfold modDesc
  grind only [onward_modInk, onward_mk]

@[simp] theorem onward_freeEngine (h : Onward s t) (e : Nat) : Onward s (freeEngine t e) := by
  unfold freeEngine
  grind only [onward_mk]

@[simp] theorem onward_releaseEngine (h : Onward s t) (n : Nat) (slot : Nat) : Onward s (releaseEngine t n slot) := by
  unfold releaseEngine
  grind only [onward_freeEngine, onward_mk]

@[simp] theorem onward_completeDesc (h : Onward s t) (n : Nat) (slot : Nat) (raw : LineData) (st : Status) (result : DWord) : Onward s (completeDesc t n slot raw st result) := by
  unfold completeDesc
  grind only [onward_count, onward_modDesc, onward_modInk, onward_setWidth, onward_mk]

@[simp] theorem onward_finishDesc (h : Onward s t) (n : Nat) (slot : Nat) (st : Status) (result : DWord) : Onward s (finishDesc t n slot st result) := by
  unfold finishDesc
  grind only [onward_completeDesc, onward_modDesc, onward_mk]

end Sys2Proof.Machine
end

section
/-! PROOF. The clusters, their cores and the scribe memory model take no fuse back. -/
namespace Sys2Proof.Machine
open Config

-- One proof at a time: many at once would pass the memory limit of the check.
set_option Elab.async false
variable {s t u : State}

@[simp] theorem onward_newTag (h : Onward s t) (c : Nat) (j : Nat) : Onward s (newTag t c j).1 := by
  unfold newTag
  grind only [onward_modCluster, onward_mk]

@[simp] theorem onward_coreSend (h : Onward s t) (k : Nat) (tag : Tag) (opc : Nat) (param : Nat) (addr : PA) (body : List Word) : Onward s (coreSend t k tag opc param addr body) := by
  unfold coreSend
  grind only [onward_putReq, onward_blotAdmit]

@[simp] theorem onward_drainLine (h : Onward s t) (c : Nat) (line : Nat) : Onward s (drainLine t c line) := by
  unfold drainLine
  grind only [onward_newTag, onward_putReq, onward_modCluster, onward_count, onward_mk]

@[simp] theorem onward_gatherAuto (h : Onward s t) (c : Nat) (crowd : Bool) : Onward s (gatherAuto t c crowd) := by
  unfold gatherAuto
  grind only [onward_foldl, onward_drainLine, onward_mk]

theorem onward_gatherTake (h : Onward s t) {k : Nat} {e : SbEntry} (took : gatherTake t k e = some u) : Onward s u := by
  unfold gatherTake at took
  dsimp only at took
  split_ifs at took
  all_goals
    rw [← Option.some.inj took]
    exact onward_gatherAuto (onward_modCore (onward_modCluster h ..) ..) ..


@[simp] theorem onward_gatherTake_getD (h : Onward s t) (k : Nat) (e : SbEntry) : Onward s ((gatherTake t k e).getD t) := by
  cases took : gatherTake t k e with
  | none => exact h
  | some u => exact onward_gatherTake h took

@[simp] theorem onward_flushLine (h : Onward s t) (c : Nat) (line : Nat) : Onward s (flushLine t c line) := by
  unfold flushLine
  refine onward_drainLine (onward_foldl h (fun u j hu => ?_) _) ..
  split
  · exact onward_gatherTake_getD hu ..
  · exact hu

@[simp] theorem onward_clusterDrain (h : Onward s t) (c : Nat) : Onward s (clusterDrain t c) := by
  unfold clusterDrain
  refine onward_foldl (onward_foldl h (fun u j hu => ?_) _) (fun u e hu => onward_drainLine hu ..) _
  exact onward_foldl hu (fun w e hw => onward_gatherTake_getD hw ..) _

@[simp] theorem onward_dropResv (h : Onward s t) (k : Nat) : Onward s (dropResv t k) := by
  unfold dropResv
  grind only [onward_modCore, onward_mk]

@[simp] theorem onward_fenceDrain (h : Onward s t) (k : Nat) : Onward s (fenceDrain t k) := by
  unfold fenceDrain
  grind only [onward_foldl, onward_drainLine]

@[simp] theorem onward_scrErr (h : Onward s t) (k : Nat) (bit : Nat) : Onward s (scrErr t k bit) := by
  unfold scrErr
  grind only [onward_setErr]

@[simp] theorem onward_coreIdle (h : Onward s t) (k : Nat) : Onward s (coreIdle t k) := by
  unfold coreIdle
  grind only [onward_dropResv, onward_modCore, onward_setFld, onward_mk]

@[simp] theorem onward_finishTask (h : Onward s t) (k : Nat) (st : Status) (res : DWord) : Onward s (finishTask t k st res) := by
  unfold finishTask
  grind only [onward_scrErr, onward_coreIdle, onward_finishDesc, onward_count, onward_mk]

@[simp] theorem onward_endCheck (h : Onward s t) (k : Nat) : Onward s (endCheck t k) := by
  unfold endCheck
  grind only [onward_fenceDrain, onward_finishTask, onward_mk]

@[simp] theorem onward_endTask (h : Onward s t) (k : Nat) (st : Status) (res : DWord) : Onward s (endTask t k st res) := by
  unfold endTask
  grind only [onward_endCheck, onward_modCore, onward_mk]

@[simp] theorem onward_checkForced (h : Onward s t) (k : Nat) : Onward s (checkForced t k) := by
  unfold checkForced
  grind only [onward_endTask, onward_mk]

@[simp] theorem onward_blotFetch (h : Onward s t) (k : Nat) : Onward s (blotFetch t k) := by
  unfold blotFetch
  grind only [onward_count, onward_blotAdmit, onward_mk]

@[simp] theorem onward_fetchLine (h : Onward s t) (k : Nat) : Onward s (fetchLine t k) := by
  unfold fetchLine
  grind only [onward_modCore, onward_blotFetch, onward_count, onward_mk]

@[simp] theorem onward_enterHandler (h : Onward s t) (k : Nat) (c : Cause) (epc : PA) (st : Status) (res : DWord) : Onward s (enterHandler t k c epc st res) := by
  unfold enterHandler
  grind only [onward_dropResv, onward_modCore, onward_count, onward_endTask, onward_setWidth, onward_free, onward_hold, onward_mk]

@[simp] theorem onward_raiseAt (h : Onward s t) (k : Nat) (c : Cause) (epc : PA) : Onward s (raiseAt t k c epc) := by
  have fetched : Onward s ((if c.code = 7 then t else fetchLine t k).paceCore k) := onward_paceCore (onward_ite h (onward_fetchLine h k)) k
  unfold raiseAt
  dsimp only
  generalize (if c.code = 7 then t else fetchLine t k).paceCore k = a at fetched ⊢
  exact onward_ite (onward_endTask (onward_count (onward_modCore (onward_dropResv fetched k) ..) ..) ..) (onward_enterHandler fetched ..)

@[simp] theorem onward_raiseCause (h : Onward s t) (k : Nat) (c : Cause) : Onward s (raiseCause t k c) := by
  unfold raiseCause
  grind only [onward_checkForced, onward_raiseAt]

@[simp] theorem onward_takeEvent (h : Onward s t) (k : Nat) : Onward s (takeEvent t k) := by
  unfold takeEvent
  grind only [onward_enterHandler, onward_modCore, onward_mk]

@[simp] theorem onward_retireTo (h : Onward s t) (k : Nat) (pc : PA) : Onward s (retireTo t k pc) := by
  unfold retireTo
  grind only [onward_fetchLine, onward_modCore, onward_count, onward_paceCore, onward_mk]

@[simp] theorem onward_retire (h : Onward s t) (k : Nat) : Onward s (retire t k) := by
  unfold retire
  grind only [onward_retireTo]

@[simp] theorem onward_wfdReturn (h : Onward s t) (k : Nat) (rd : BitVec 5) (bits : Nat) : Onward s (wfdReturn t k rd bits) := by
  unfold wfdReturn
  grind only [onward_setFld, onward_retire, onward_modCore, onward_mk]

@[simp] theorem onward_wfdCheck (h : Onward s t) (k : Nat) (late : Bool) : Onward s (wfdCheck t k late) := by
  unfold wfdCheck
  grind only [onward_hold, onward_wfdReturn]

@[simp] theorem onward_storeErr (h : Onward s t) (c : Nat) (cores : BitVec 8) (addr : PA) (reason : Nat) : Onward s (storeErr t c cores addr reason) := by
  unfold storeErr
  grind only [onward_scrErr, onward_foldl, onward_wfdCheck, onward_modCore, onward_mk]

@[simp] theorem onward_clusterGo (h : Onward s t) (c : Nat) : Onward s (clusterGo t c) := by
  unfold clusterGo
  grind only [onward_foldl, onward_endCheck]

/-- What an instruction does to the machine goes onward. -/
def ActsOnward (a : Act) : Prop := ∀ g, (a = .fault g ∨ a = .go g) → ∀ s t, Onward s t → Onward s (g t)

theorem onward_instr (h : Onward s t) {f : Core → Act} (acts : ∀ x, ActsOnward (f x)) (k : Nat) : Onward s (instr t k f) := by
  unfold instr
  refine onward_ite ?_ h
  split
  · exact onward_raiseCause h ..
  · split
    · exact onward_raiseCause h ..
    · exact onward_checkForced (onward_raiseAt h ..) _
    · exact acts _ _ (.inl ‹_›) _ _ h
    · exact onward_ite h (acts _ _ (.inr ‹_›) _ _ h)

@[simp] theorem onward_nibDrop (h : Onward s t) (k : Nat) (line : Nat) : Onward s (nibDrop t k line) := by
  unfold nibDrop
  grind only [onward_modCore, onward_mk]

@[simp] theorem onward_slateWrite (h : Onward s t) (c : Nat) (off : Nat) (n : Nat) (v : Nat) : Onward s (slateWrite t c off n v) := by
  unfold slateWrite
  grind only [onward_modCluster, onward_foldl, onward_mk]

@[simp] theorem onward_slateCheck (h : Onward s t) (k : Nat) (off : Nat) (n : Nat) : Onward s (slateCheck t k off n).1 := by
  unfold slateCheck
  grind only [onward_foldl, onward_setErr, onward_modCluster, onward_mk]

@[simp] theorem onward_slateCount (h : Onward s t) (k : Nat) : Onward s (slateCount t k) := by
  unfold slateCount
  grind only [onward_count]

@[simp] theorem onward_deliver (h : Onward s t) (k : Nat) (d : Dest) (v : Nat) (n : Nat) (sext : Bool) : Onward s (deliver t k d v n sext) := by
  unfold deliver
  grind only [onward_retire, onward_modCore]

@[simp] theorem onward_loadSlate (h : Onward s t) (k : Nat) (d : Dest) (a : PA) (off : Nat) (n : Nat) (sext : Bool) : Onward s (loadSlate t k d a off n sext) := by
  unfold loadSlate
  grind only [onward_slateCheck, onward_slateCount, onward_raiseCause, onward_deliver]

@[simp] theorem onward_loadMem (h : Onward s t) (k : Nat) (d : Dest) (a : PA) (n : Nat) (sext : Bool) : Onward s (loadMem t k d a n sext) := by
  unfold loadMem
  grind only [onward_deliver, onward_modCore, onward_count, onward_raiseCause, onward_newTag, onward_coreSend, onward_mk]

@[simp] theorem onward_loadCw (h : Onward s t) (k : Nat) (d : Dest) (a : PA) (n : Nat) (sext : Bool) : Onward s (loadCw t k d a n sext) := by
  unfold loadCw
  grind only [onward_newTag, onward_coreSend, onward_modCore, onward_mk]

@[simp] theorem onward_storeMem (h : Onward s t) (k : Nat) (a : PA) (n : Nat) (v : Nat) : Onward s (storeMem t k a n v) := by
  unfold storeMem
  grind only [onward_retire, onward_modCore, onward_mk]

@[simp] theorem onward_storeCw (h : Onward s t) (k : Nat) (a : PA) (n : Nat) (v : Nat) : Onward s (storeCw t k a n v) := by
  unfold storeCw
  grind only [onward_newTag, onward_retire, onward_coreSend, onward_modCore, onward_mk]

@[simp] theorem onward_amoSlate (h : Onward s t) (k : Nat) (rd : BitVec 5) (a : PA) (off : Nat) (n : Nat) (op : Nat) (opnd : DWord) (cmp : DWord) : Onward s (amoSlate t k rd a off n op opnd cmp) := by
  unfold amoSlate
  grind only [onward_slateCheck, onward_slateCount, onward_count, onward_raiseCause, onward_deliver, onward_slateWrite]

@[simp] theorem onward_amoSend (h : Onward s t) (k : Nat) (rd : BitVec 5) (a : PA) (n : Nat) (op : Nat) (opnd : DWord) (cmp : DWord) : Onward s (amoSend t k rd a n op opnd cmp) := by
  unfold amoSend
  grind only [onward_newTag, onward_nibDrop, onward_count, onward_coreSend, onward_modCore, onward_flushLine, onward_mk]

@[simp] theorem onward_cacheSend (h : Onward s t) (k : Nat) (o : CacheOp) (a : PA) (cw : Bool) : Onward s (cacheSend t k o a cw) := by
  unfold cacheSend
  grind only [onward_newTag, onward_modCore, onward_nibDrop, onward_retire, onward_coreSend, onward_mk]

@[simp] theorem onward_finishWait (h : Onward s t) (k : Nat) (w : CoreWait) (r : Rsp) : Onward s (finishWait t k w r) := by
  unfold finishWait
  grind only [onward_modCore, onward_raiseCause, onward_checkForced, onward_deliver, onward_count, onward_mk]

@[simp] theorem onward_freeCoreTag (h : Onward s t) (c : Nat) (tag : Tag) : Onward s (freeCoreTag t c tag) := by
  unfold freeCoreTag
  grind only [onward_modCluster, onward_mk]

@[simp] theorem onward_coreResponse (h : Onward s t) (c : Nat) (tag : Tag) (r : Rsp) : Onward s (coreResponse t c tag r) := by
  unfold coreResponse
  lift_lets
  intro j k freed x bit err waited accessed posted gathered
  have ha : Onward s freed := onward_freeCoreTag h ..
  have he : ∀ {w} cores a, Onward s w → Onward s (err w cores a) := fun cores a hw => by
    show Onward s (match r with | .refused n => _ | _ => _)
    split
    · exact onward_storeErr hw ..
    · exact hw
  have hb : Onward s waited := by
    show Onward s (match x.wait with | some w => _ | none => _)
    split
    · exact onward_ite (onward_finishWait ha ..) ha
    · exact ha
  have hc : Onward s accessed := by
    show Onward s (match x.cwBusy with | some (t, a) => _ | none => _)
    split
    · exact onward_ite (he _ _ (onward_modCore hb ..)) hb
    · exact hb
  have hd : Onward s posted := by
    show Onward s (match x.posted.find? fun p => p.1 == tag with | some p => _ | none => _)
    split
    · exact he _ _ (onward_modCore hc ..)
    · exact hc
  have hg : Onward s gathered := by
    show Onward s (match (posted.cluster c).gather.find? fun e => e.drain == some tag with | some e => _ | none => _)
    split
    · exact onward_gatherAuto (he _ _ (onward_modCluster hd ..)) ..
    · exact hd
  exact onward_clusterGo hg c

@[simp] theorem onward_sbDrain (h : Onward s t) (k : Nat) : Onward s (sbDrain t k) := by
  unfold sbDrain
  refine onward_ite ?_ h
  split
  next took =>
    obtain ⟨e, -, took⟩ := List.exists_of_findSome?_eq_some took
    exact onward_clusterGo (onward_gatherTake h took) _
  next => exact h

@[simp] theorem onward_stWrite (h : Onward s t) (k : Nat) (r : Nat) (v : DWord) : Onward s (stWrite t k r v) := by
  unfold stWrite
  grind only [onward_modCore, onward_hold, onward_modCluster, onward_setWidth, onward_mk]

@[simp] theorem onward_nibClear (h : Onward s t) (k : Nat) : Onward s (nibClear t k) := by
  unfold nibClear
  grind only [onward_modCore, onward_mk]

@[simp] theorem onward_fenceCore (h : Onward s t) (k : Nat) : Onward s (fenceCore t k) := by
  unfold fenceCore
  grind only [onward_retire]

@[simp] theorem onward_fenceClus (h : Onward s t) (k : Nat) : Onward s (fenceClus t k) := by
  unfold fenceClus
  grind only [onward_retire, onward_nibClear]

@[simp] theorem onward_fenceSys (h : Onward s t) (k : Nat) : Onward s (fenceSys t k) := by
  unfold fenceSys
  grind only [onward_retire, onward_nibClear, onward_count, onward_fenceDrain]

@[simp] theorem onward_boundary (h : Onward s t) (k : Nat) : Onward s (boundary t k) := by
  unfold boundary
  grind only [onward_raiseCause, onward_checkForced, onward_takeEvent, onward_mk]

@[simp] theorem onward_launch (h : Onward s t) (c : Nat) (r : LaunchRec) : Onward s (launch t c r) := by
  unfold launch
  grind only [onward_finishDesc, onward_wake, onward_modDesc, onward_releaseEngine, onward_modCluster, onward_count, onward_mk]

@[simp] theorem onward_taskStart (h : Onward s t) (k : Nat) : Onward s (taskStart t k) := by
  unfold taskStart
  grind only [onward_modCluster, onward_finishDesc, onward_modCore, onward_count, onward_mk]

@[simp] theorem onward_abortCores (h : Onward s t) (c : Nat) (mask : Nat) : Onward s (abortCores t c mask) := by
  unfold abortCores
  grind only [onward_foldl, onward_setFld, onward_wfdCheck, onward_modCore, onward_mk]

@[simp] theorem onward_knockCores (h : Onward s t) (c : Nat) : Onward s (knockCores t c) := by
  unfold knockCores
  grind only [onward_foldl, onward_wfdCheck]

@[simp] theorem onward_dropTasks (h : Onward s t) (c : Nat) (st : Status) : Onward s (dropTasks t c st) := by
  unfold dropTasks
  grind only [onward_foldl, onward_finishDesc, onward_modCluster, onward_mk]

@[simp] theorem onward_clusterDisable (h : Onward s t) (c : Nat) : Onward s (clusterDisable t c) := by
  unfold clusterDisable
  grind only [onward_clusterDrain, onward_foldl, onward_wfdCheck, onward_modCore, onward_dropTasks, onward_modCluster, onward_mk]

@[simp] theorem onward_resetCore (h : Onward s t) (k : Nat) : Onward s (resetCore t k) := by
  unfold resetCore
  grind only [onward_finishDesc, onward_count, onward_coreIdle, onward_modCore, onward_mk]

@[simp] theorem onward_clusterReset (h : Onward s t) (c : Nat) : Onward s (clusterReset t c) := by
  unfold clusterReset
  grind only [onward_foldl, onward_resetCore, onward_dropTasks, onward_modCluster, onward_mk]

@[simp] theorem onward_ringPush (h : Onward s t) (c : Nat) (src : AgentId) (mbox : BitVec 3) (chan : BitVec 8) (payload : List Word) : Onward s (ringPush t c src mbox chan payload).1 := by
  unfold ringPush
  grind only [onward_slateWrite, onward_modCluster, onward_count, onward_knockCores, onward_mk]

end Sys2Proof.Machine
end

section
/-! PROOF. The inkwells, the engines and telemetry take no fuse back. -/
namespace Sys2Proof.Machine
open Config

-- One proof at a time: many at once would pass the memory limit of the check.
set_option Elab.async false
variable {s t u : State}

@[simp] theorem onward_inkErr (h : Onward s t) (n : Nat) (bit : Nat) (slot : Nat) : Onward s (inkErr t n bit slot) := by
  unfold inkErr
  grind only [onward_setErr]

@[simp] theorem onward_haltInk (h : Onward s t) (n : Nat) (bit : Nat) (slot : Nat) (reason : Nat) : Onward s (haltInk t n bit slot reason) := by
  unfold haltInk
  grind only [onward_inkErr, onward_wr, onward_modInk, onward_setFld, onward_count, onward_mk]

@[simp] theorem onward_writeTail (h : Onward s t) (n : Nat) (v : Nat) : Onward s (writeTail t n v) := by
  unfold writeTail
  grind only [onward_modInk, onward_count, onward_inkErr, onward_mk]

@[simp] theorem onward_writeCqHead (h : Onward s t) (n : Nat) (v : Nat) : Onward s (writeCqHead t n v) := by
  unfold writeCqHead
  grind only [onward_modInk, onward_count, onward_inkErr, onward_mk]

@[simp] theorem onward_engSend (h : Onward s t) (e : Nat) (w : Work) (opc : Nat) (param : Nat) (a : Nat) (poison : Bool) (body : List Word) : Onward s (engSend t e w opc param a poison body).1 := by
  unfold engSend
  grind only [onward_modEngine, onward_putReq, onward_count, onward_blotAdmit]

@[simp] theorem onward_readLine (h : Onward s t) (e : Nat) (w : Work) (line : Nat) : Onward s (readLine t e w line).1 := by
  unfold readLine
  grind only [onward_engSend]

@[simp] theorem onward_writePiece (h : Onward s t) (e : Nat) (w : Work) (a : Nat) (len : Nat) (v : Nat) (poison : Bool) : Onward s (writePiece t e w a len v poison).1 := by
  unfold writePiece
  grind only [onward_engSend]

@[simp] theorem onward_shareLine (h : Onward s t) (e : Nat) (w : Work) (line : Nat) (before : Option LineRead) : Onward s (shareLine t e w line before).1 := by
  unfold shareLine
  grind only [onward_readLine, onward_mk]

@[simp] theorem onward_readBytes (h : Onward s t) (e : Nat) (w : Work) (a : Nat) (n : Nat) : Onward s (readBytes t e w a n).1 := by
  unfold readBytes
  grind only [onward_shareLine, onward_modEngine, onward_mk]

@[simp] theorem onward_engineGo (h : Onward s t) (e : Nat) : Onward s (engineGo t e) := by
  unfold engineGo
  grind only [onward_modEngine, onward_finishDesc, onward_mk]

@[simp] theorem onward_noteFail (h : Onward s t) (e : Nat) (w : Work) (f : Fail) : Onward s (noteFail t e w f) := by
  unfold noteFail
  grind only [onward_modEngine, onward_mk]

@[simp] theorem onward_addJob (h : Onward s t) (e : Nat) (j : Job) : Onward s (addJob t e j) := by
  unfold addJob
  grind only [onward_modEngine, onward_mk]

@[simp] theorem onward_setJob (h : Onward s t) (e : Nat) (j : Job) (j2 : Job) : Onward s (setJob t e j j2) := by
  unfold setJob
  grind only [onward_modEngine, onward_mk]

@[simp] theorem onward_dropJob (h : Onward s t) (e : Nat) (j : Job) : Onward s (dropJob t e j) := by
  unfold dropJob
  grind only [onward_modEngine, onward_mk]

@[simp] theorem onward_sendMsg (h : Onward s t) (e : Nat) (w : Work) (d : LineData) (v : Nat) : Onward s (sendMsg t e w d v) := by
  unfold sendMsg
  grind only [onward_modEngine, onward_count, onward_hold, onward_modDesc, onward_freeEngine, onward_mk]

@[simp] theorem onward_mixReads (h : Onward s t) (e : Nat) (a : Nat) (n : Nat) (v : Nat) : Onward s (mixReads t e a n v).1 := by
  unfold mixReads
  grind only [onward_free]

@[simp] theorem onward_noteWrite (h : Onward s t) (e : Nat) (a : Nat) (n : Nat) (v : Nat) : Onward s (noteWrite t e a n v) := by
  unfold noteWrite
  grind only [onward_modEngine, onward_mk]

@[simp] theorem onward_writeElement (h : Onward s t) (e : Nat) (w : Work) (src : Nat) (dst : Nat) (n : Nat) (v : Nat) (poison : Bool) : Onward s (writeElement t e w src dst n v poison).1 := by
  unfold writeElement
  grind only [onward_mixReads, onward_wr, onward_noteWrite, onward_writePiece, onward_free, onward_setWidth, onward_engSend]

@[simp] theorem onward_gatherPiece (h : Onward s t) (e : Nat) (w : Work) (j : Job) : Onward s (gatherPiece t e w j) := by
  unfold gatherPiece
  grind only [onward_mixReads, onward_foldl, onward_modEngine, onward_noteWrite, onward_writePiece, onward_addJob, onward_mk]

@[simp] theorem onward_pieceHere (h : Onward s t) (e : Nat) (w : Work) (j : Job) : Onward s (pieceHere t e w j) := by
  unfold pieceHere
  grind only [onward_gatherPiece, onward_writeElement, onward_writePiece, onward_addJob, onward_wr, onward_mk]

@[simp] theorem onward_jobRead (h : Onward s t) (e : Nat) (w : Work) (d : LineData) (j : Job) : Onward s (jobRead t e w d j) := by
  unfold jobRead
  grind only [onward_pieceHere, onward_dropJob, onward_modEngine, onward_sendMsg, onward_mk]

@[simp] theorem onward_readBack (h : Onward s t) (e : Nat) (w : Work) (tag : Tag) (j : Job) (r : Rsp) : Onward s (readBack t e w tag j r) := by
  unfold readBack
  grind only [onward_modEngine, onward_noteFail, onward_mk]

@[simp] theorem onward_jobDone (h : Onward s t) (e : Nat) (w : Work) (j : Job) (r : Rsp) : Onward s (jobDone t e w j r) := by
  unfold jobDone
  grind only [onward_noteFail, onward_dropJob, onward_setWidth, onward_writePiece, onward_setJob, onward_wr, onward_mk]

@[simp] theorem onward_movePiece (h : Onward s t) (e : Nat) (w : Work) (src : Nat) (dst : Nat) (room : Nat) : Onward s (movePiece t e w src dst room).1 := by
  unfold movePiece
  grind only [onward_readBytes, onward_modEngine, onward_pieceHere, onward_addJob, onward_mk]

@[simp] theorem onward_listEntry (h : Onward s t) (e : Nat) (w : Work) : Onward s (listEntry t e w).1 := by
  unfold listEntry
  grind only [onward_readLine, onward_modEngine, onward_mk]

@[simp] theorem onward_issueRange (h : Onward s t) (e : Nat) (w : Work) : Onward s (issueRange t e w) := by
  unfold issueRange
  grind only [onward_movePiece, onward_writePiece, onward_addJob, onward_modEngine, onward_shareLine, onward_readBytes, onward_engSend,
    onward_mk]

@[simp] theorem onward_takeEntry (h : Onward s t) (e : Nat) (w : Work) : Onward s (takeEntry t e w) := by
  unfold takeEntry
  grind only [onward_listEntry, onward_modEngine, onward_engSend, onward_addJob, onward_noteFail, onward_mk]

@[simp] theorem onward_nextElem (h : Onward s t) (e : Nat) (w : Work) : Onward s (nextElem t e w) := by
  unfold nextElem
  grind only [onward_noteFail, onward_modEngine, onward_mk]

@[simp] theorem onward_issueList (h : Onward s t) (e : Nat) (w : Work) : Onward s (issueList t e w) := by
  unfold issueList
  grind only [onward_takeEntry, onward_nextElem, onward_movePiece, onward_modEngine, onward_mk]

@[simp] theorem onward_issue1 (h : Onward s t) (e : Nat) (opc : Nat) : Onward s (issue1 t e opc) := by
  unfold issue1
  grind only [onward_engineGo, onward_issueList, onward_issueRange, onward_mk]

@[simp] theorem onward_pollRead (h : Onward s t) (e : Nat) (n : Nat) (slot : Nat) (d : LineData) : Onward s (pollRead t e n slot d) := by
  unfold pollRead
  grind only [onward_engSend, onward_modDesc, onward_modEngine, onward_count, onward_mk]

@[simp] theorem onward_pollBack (h : Onward s t) (e : Nat) (w : Work) (desc : Desc) (r : Rsp) : Onward s (pollBack t e w desc r) := by
  unfold pollBack
  grind only [onward_finishDesc, onward_setWidth, onward_modDesc, onward_freeEngine, onward_count, onward_mk]

@[simp] theorem onward_startDesc (h : Onward s t) (e : Nat) (n : Nat) (slot : Nat) (d : LineData) : Onward s (startDesc t e n slot d) := by
  unfold startDesc
  grind only [onward_count, onward_finishDesc, onward_modEngine, onward_mk]

@[simp] theorem onward_served (h : Onward s t) (n : Nat) : Onward s (served t n) := by
  unfold served
  grind only [onward_mk]

@[simp] theorem onward_descriptorFetch (h : Onward s t) (e : Nat) : Onward s (descriptorFetch t e) := by
  unfold descriptorFetch
  refine onward_ite h ?_
  split
  · dsimp only
    exact onward_ite (onward_haltInk (onward_served h _) ..) (onward_modEngine (onward_readLine (onward_served h _) ..) ..)
  · exact h

@[simp] theorem onward_fetchBack (h : Onward s t) (e : Nat) (n : Nat) (r : Rsp) : Onward s (fetchBack t e n r) := by
  unfold fetchBack
  grind only [onward_modEngine, onward_haltInk, onward_modInk, onward_startDesc, onward_mk]

@[simp] theorem onward_completionEvent (h : Onward s t) (n : Nat) : Onward s (completionEvent t n) := by
  unfold completionEvent
  grind only [onward_raise, onward_modInk, onward_count, onward_mk]

@[simp] theorem onward_removeDesc (h : Onward s t) (n : Nat) (slot : Nat) : Onward s (removeDesc t n slot) := by
  unfold removeDesc
  grind only [onward_releaseEngine, onward_modInk, onward_mk]

@[simp] theorem onward_recordOut (h : Onward s t) (n : Nat) (slot : Nat) : Onward s (recordOut t n slot) := by
  unfold recordOut
  grind only [onward_removeDesc, onward_haltInk, onward_writePiece, onward_modInk, onward_mk]

@[simp] theorem onward_writeRecord (h : Onward s t) (n : Nat) (slot : Nat) : Onward s (writeRecord t n slot) := by
  unfold writeRecord
  refine onward_ite h ?_
  split
  · exact h
  · split
    · split
      · exact onward_ite (onward_recordOut (onward_completeDesc (onward_modDesc (onward_modEngine (onward_served h _) ..) ..) ..) ..) h
      · exact h
    · exact onward_recordOut h ..

@[simp] theorem onward_recordBack (h : Onward s t) (n : Nat) (slot : Nat) (r : Rsp) : Onward s (recordBack t n slot r) := by
  unfold recordBack
  grind only [onward_modInk, onward_removeDesc, onward_haltInk, onward_count, onward_completionEvent, onward_mk]

@[simp] theorem onward_engineResponse (h : Onward s t) (e : Nat) (tag : Tag) (r : Rsp) : Onward s (engineResponse t e tag r) := by
  unfold engineResponse
  have freed := onward_modEngine h e fun x => { x with tags := eraseFirst (· == tag) x.tags }
  dsimp only
  generalize t.modEngine e (fun x => { x with tags := eraseFirst (· == tag) x.tags }) = a at freed ⊢
  split
  · exact onward_fetchBack freed ..
  · split
    · exact onward_recordBack freed ..
    · split
      · split
        · exact onward_finishDesc freed ..
        · exact onward_finishDesc freed ..
        · exact freed
      · split
        · exact freed
        · refine onward_ite ?_ ?_
          · refine onward_ite ?_ (onward_engineGo ?_ e)
            · split
              · exact onward_pollBack (onward_modEngine freed ..) ..
              · exact onward_modEngine freed ..
            · split
              · exact onward_noteFail (onward_modEngine freed ..) ..
              · exact onward_ite (onward_noteFail (onward_modEngine freed ..) ..) (onward_modEngine (onward_modEngine freed ..) ..)
              · exact onward_modEngine freed ..
          · split
            · exact freed
            · refine onward_ite (onward_engineGo (onward_jobDone freed ..) e) (onward_engineGo ?_ e)
              exact onward_foldl (onward_readBack freed ..) (fun u j hu => onward_jobRead hu ..) _

@[simp] theorem onward_addCounter (h : Onward s t) (g : Nat) (i : Nat) (n : Nat) : Onward s (addCounter t g i n) := by
  unfold addCounter
  grind only [onward_setFld, onward_raise, onward_mk]

@[simp] theorem onward_countPairs (h : Onward s t) (g : Nat) : Onward s (countPairs t g) := by
  unfold countPairs
  grind only [onward_free, onward_count]

@[simp] theorem onward_handoff (h : Onward s t) (g : Nat) : Onward s (handoff t g) := by
  unfold handoff
  grind only [onward_countPairs, onward_foldl, onward_addCounter, onward_wake, onward_mk]

@[simp] theorem onward_clearAll (h : Onward s t) : Onward s (clearAll t) := by
  unfold clearAll
  grind only [onward_foldl, onward_wr, onward_mk]

@[simp] theorem onward_sampleOne (h : Onward s t) (g : Nat) (q : Nat) (occ : Nat) (i : Nat) : Onward s (sampleOne t g q occ i) := by
  unfold sampleOne
  grind only [onward_count, onward_raise, onward_mk]

@[simp] theorem onward_sampleAll (h : Onward s t) : Onward s (sampleAll t) := by
  unfold sampleAll
  grind only [onward_foldl, onward_sampleOne, onward_mk]

@[simp] theorem onward_devWrite (h : Onward s t) (tag : Tag) (a : Nat) (d : LineData) : Onward s (devWrite t tag a d) := by
  unfold devWrite
  grind only [onward_putReq]

@[simp] theorem onward_takeDump (h : Onward s t) : Onward s (takeDump t) := by
  unfold takeDump
  grind only [onward_wr, onward_count, onward_setStatus, onward_foldl, onward_devWrite, onward_mk]

@[simp] theorem onward_dumpFalls (h : Onward s t) : Onward s (dumpFalls t) := by
  unfold dumpFalls
  grind only [onward_takeDump, onward_wake, onward_mk]

@[simp] theorem onward_dumpDone (h : Onward s t) : Onward s (dumpDone t) := by
  unfold dumpDone
  grind only [onward_setFld, onward_raise, onward_mk]

@[simp] theorem onward_dumpStop (h : Onward s t) (k : Nat) : Onward s (dumpStop t k) := by
  unfold dumpStop
  grind only [onward_setFld, onward_setStatus]

@[simp] theorem onward_dumpBack (h : Onward s t) (tag : Tag) (r : Rsp) : Onward s (dumpBack t tag r) := by
  unfold dumpBack
  grind only [onward_dumpStop, onward_dumpDone, onward_devWrite, onward_mk]

@[simp] theorem onward_modBlot (h : Onward s t) (f : Blotter → Blotter) : Onward s (modBlot t f) := by
  unfold modBlot
  grind only [onward_mk]

@[simp] theorem onward_blotStart (h : Onward s t) : Onward s (blotStart t) := by
  unfold blotStart
  grind only [onward_blotDraw, onward_modBlot, onward_mk]

@[simp] theorem onward_blotDrain_one (h : Onward s t) (waited : Bool) (put used size a : Nat) (r : List Word) :
    Onward s (blotDrain.one t waited put used size a r) :=
  onward_ite (onward_modBlot (onward_putReq h _) _) h

@[simp] theorem onward_blotDrain (h : Onward s t) : Onward s (blotDrain t) := by
  unfold blotDrain
  dsimp only
  refine onward_ite h ?_
  split
  · exact onward_ite (onward_modBlot (onward_devWrite h ..) _) (onward_blotDrain_one h ..)
  · exact onward_blotDrain_one h ..
  · exact h

@[simp] theorem onward_blotBack (h : Onward s t) (r : Rsp) : Onward s (blotBack t r) := by
  unfold blotBack
  grind only [onward_modBlot, onward_setFld, onward_setStatus, onward_mk]

@[simp] theorem onward_telStop (h : Onward s t) : Onward s (telStop t) := by
  unfold telStop
  grind only [onward_mk]

end Sys2Proof.Machine
end

section
/-! PROOF. The power domains, the damper, the temperatures and the clocks take no fuse back. -/
namespace Sys2Proof.Machine
open Config

-- One proof at a time: many at once would pass the memory limit of the check.
set_option Elab.async false
variable {s t u : State}

@[simp] theorem onward_postRestore (h : Onward s t) (p : Nat → Bool) : Onward s (postRestore t p) := by
  unfold postRestore
  grind only [onward_foldl, onward_mk]

@[simp] theorem onward_dropResvSlice (h : Onward s t) (i : Nat) : Onward s (dropResvSlice t i) := by
  unfold dropResvSlice
  grind only [onward_foldl, onward_modCore, onward_mk]

@[simp] theorem onward_coldSlice (h : Onward s t) (i : Nat) : Onward s (coldSlice t i) := by
  unfold coldSlice
  lift_lets
  intro off purged aged
  have hp : Onward s purged := onward_dirPurgeAll (onward_modSlice (onward_hearthDisable h i) ..) i
  have ha : Onward s aged := onward_foldl hp (fun u e hu => onward_ite (onward_evictEntry (onward_dirSet hu ..) ..) hu) _
  exact onward_settle (onward_dropResvSlice ha i) i

@[simp] theorem onward_coldInks (h : Onward s t) : Onward s (coldInks t) := by
  unfold coldInks
  grind only [onward_foldl, onward_setFld]

@[simp] theorem onward_prepCold (h : Onward s t) (d : Nat) : Onward s (prepCold t d) := by
  unfold prepCold
  grind only [onward_disablePort, onward_coldSlice, onward_clusterDrain, onward_clusterDisable, onward_coldInks, onward_telStop]

@[simp] theorem onward_coldLoss (h : Onward s t) (d : Nat) : Onward s (coldLoss t d) := by
  unfold coldLoss
  grind only [onward_modPort, onward_dropResvSlice, onward_modSlice, onward_foldl, onward_modPc, onward_modCore, onward_modCluster,
    onward_telStop, onward_mk]

@[simp] theorem onward_finishCmd (h : Onward s t) (d : Nat) : Onward s (finishCmd t d) := by
  unfold finishCmd
  grind only [onward_modDom, onward_setFld, onward_mk]

@[simp] theorem onward_refuseCmd (h : Onward s t) (d : Nat) : Onward s (refuseCmd t d) := by
  unfold refuseCmd
  grind only [onward_modDom, onward_setFld, onward_finishCmd, onward_setErr, onward_mk]

@[simp] theorem onward_stepCmd (h : Onward s t) (d : Nat) : Onward s (stepCmd t d) := by
  unfold stepCmd
  grind only [onward_finishCmd, onward_clusterDrain, onward_modDom, onward_wakeAccess, onward_prepCold, onward_mk]

@[simp] theorem onward_startCmd (h : Onward s t) (d : Nat) : Onward s (startCmd t d) := by
  unfold startCmd
  grind only [onward_modDom, onward_finishCmd, onward_refuseCmd, onward_stepCmd, onward_mk]

@[simp] theorem onward_queuedCmd (h : Onward s t) (d : Nat) : Onward s (queuedCmd t d) := by
  unfold queuedCmd
  grind only [onward_startCmd]

@[simp] theorem onward_issueCmd (h : Onward s t) (d : Nat) : Onward s (issueCmd t d) := by
  unfold issueCmd
  grind only [onward_startCmd, onward_modDom, onward_mk]

@[simp] theorem onward_reached (h : Onward s t) (d : Nat) (t_ : DomSt) : Onward s (reached t d t_) := by
  unfold reached
  lift_lets
  intro refreshed lost again moved
  have hr : Onward s refreshed := onward_ite (onward_foldl h (fun u p hu => onward_selfEnter hu p) _) h
  have hl : Onward s lost := onward_ite (onward_coldLoss hr d) hr
  have hm : Onward s moved := onward_queuedCmd (onward_stepCmd (onward_modDom hl ..) d) d
  exact onward_ite (onward_wakeAccess hm d) (onward_ite (onward_wake hm d) hm)

@[simp] theorem onward_gatingDone (h : Onward s t) (d : Nat) : Onward s (gatingDone t d) := by
  unfold gatingDone
  grind only [onward_reached, onward_stepCmd, onward_mk]

@[simp] theorem onward_idleExpiry (h : Onward s t) (d : Nat) : Onward s (idleExpiry t d) := by
  unfold idleExpiry
  grind only [onward_modDom, onward_idleRequest, onward_mk]

@[simp] theorem onward_trainHalf (h : Onward s t) (d : Nat) : Onward s (trainHalf t d) := by
  unfold trainHalf
  grind only [onward_modStack, onward_trainPcs, onward_trainFailErr, onward_mk]

@[simp] theorem onward_reinit (h : Onward s t) (d : Nat) : Onward s (reinit t d) := by
  unfold reinit
  grind only [onward_postRestore, onward_modSlice, onward_wayqWrite, onward_trainHalf, onward_mk]

@[simp] theorem onward_wakeEvent (h : Onward s t) (d : Nat) (left : DomSt) : Onward s (wakeEvent t d left) := by
  unfold wakeEvent
  grind only [onward_raise]

@[simp] theorem onward_halfWakes (h : Onward s t) (d : Nat) (left : DomSt) : Onward s (halfWakes t d left) := by
  unfold halfWakes
  grind only [onward_foldl, onward_selfExit, onward_modPc, onward_mk]

@[simp] theorem onward_scrubResume (h : Onward s t) (d : Nat) : Onward s (scrubResume t d) := by
  unfold scrubResume
  grind only [onward_foldl, onward_scrubFalls, onward_modPc, onward_mk]

@[simp] theorem onward_telResume (h : Onward s t) (left : DomSt) : Onward s (telResume t left) := by
  unfold telResume
  grind only [onward_blotStart, onward_dumpFalls, onward_mk]

@[simp] theorem onward_resume (h : Onward s t) (d : Nat) (left : DomSt) : Onward s (resume t d left) := by
  unfold resume
  grind only [onward_sliceResume, onward_scrubResume, onward_knockCores, onward_telResume]

@[simp] theorem onward_wakeDone (h : Onward s t) (d : Nat) : Onward s (wakeDone t d) := by
  unfold wakeDone
  grind only [onward_modDom, onward_reinit, onward_wakeEvent, onward_halfWakes, onward_resume, onward_queuedCmd, onward_stepCmd,
    onward_mk]

@[simp] theorem onward_takeBudget (h : Onward s t) : Onward s (takeBudget t) := by
  unfold takeBudget
  grind only [onward_mk]

@[simp] theorem onward_setExtra (h : Onward s t) (v : Nat) (d : Nat) (n : Nat) : Onward s (setExtra t v d n) := by
  unfold setExtra
  grind only [onward_modDom, onward_mk]

@[simp] theorem onward_setExtras (h : Onward s t) (v : Nat) (l : List (Nat × Nat)) : Onward s (setExtras t v l) := by
  unfold setExtras
  grind only [onward_foldl, onward_setExtra]

@[simp] theorem onward_withdraw (h : Onward s t) (v : Nat) (room : Nat) : Onward s (withdraw t v room) := by
  unfold withdraw
  grind only [onward_setExtras, onward_mk]

@[simp] theorem onward_grantRounds (v : Nat) (l : List Nat) (n : Nat) :
    ∀ {t : State} (left : Nat), Onward s t → Onward s (grantRounds v l n t left).1 := by
  induction n with
  | zero => exact fun _ h => h
  | succ n ih =>
    intro t left h
    have round := onward_foldl_fst (s := s) (f := fun (sl : State × Nat) d =>
      if 0 < sl.2 ∧ sl.1.extraOf d v < (sl.1.dom d).wants ∧ sl.1.extraOf d v < extraMax sl.1 v d then
        (setExtra sl.1 v d (sl.1.extraOf d v + 1), sl.2 - 1) else sl)
      (fun p d hp => by
        split
        · exact onward_setExtra hp ..
        · exact hp) l (t, left) h
    unfold grantRounds
    dsimp only
    split
    · exact round
    · exact ih _ round

@[simp] theorem onward_damperPass (h : Onward s t) : Onward s (damperPass t) := by
  unfold damperPass
  lift_lets
  intro taken _ braked v capped prot short eff ungranted _ pool cost withdrawn _ one two given _
  have ht : Onward s taken := onward_takeBudget (onward_voteBudget h)
  clear_value taken
  have hb : Onward s braked := onward_damper ht _
  clear_value braked v
  have hc : Onward s capped := onward_foldl hb (fun u d hu => onward_setExtra hu ..) _
  clear_value capped prot short eff pool cost
  have hu : Onward s ungranted := onward_setExtras hc ..
  have hw : Onward s withdrawn := onward_withdraw hc ..
  clear_value ungranted withdrawn
  have ho : Onward s one.1 := onward_grantRounds v _ _ _ hc
  clear_value one
  have hg : Onward s two.1 := onward_grantRounds v _ _ _ ho
  clear_value two
  have hgiven : Onward s given := by
    refine onward_ite (onward_setErr (onward_damper hu _) ..) (onward_ite (onward_ite (onward_damper hw _) hw) ?_)
    generalize groupOne ++ groupTwo = l
    exact onward_foldl hg (fun u d hu => onward_modDom hu ..) l
  clear_value given
  exact onward_damper hgiven _

@[simp] theorem onward_brakeOn (h : Onward s t) : Onward s (brakeOn t) := by
  exact onward_damperPass (onward_damper h _)

@[simp] theorem onward_avsFail (h : Onward s t) : Onward s (avsFail t) := by
  exact onward_setErr (onward_damper h _) ..

@[simp] theorem onward_avsGood (h : Onward s t) (r : AvsReply) : Onward s (avsGood t r) := by
  unfold avsGood
  exact onward_ite (onward_damper h _) (onward_setErr (onward_setFld (onward_damper h _) ..) ..)

@[simp] theorem onward_moveRaise (h : Onward s t) : Onward s (moveRaise t) := by
  unfold moveRaise
  exact onward_ite (onward_ite (onward_damper h _) h) (onward_damper h _)

@[simp] theorem onward_moveTarget (h : Onward s t) : Onward s (moveTarget t) := by
  unfold moveTarget
  exact onward_ite (onward_ite (onward_damper h _) h) (onward_damper h _)

@[simp] theorem onward_allCold (h : Onward s t) : Onward s (allCold t) := by
  unfold allCold
  generalize List.range 62 = l
  exact onward_foldl h (fun u i hu => onward_modDom (onward_coldLoss hu _) ..) l

@[simp] theorem onward_thermTrip (h : Onward s t) (t_ : Int) (sensor : Nat) : Onward s (thermTrip t t_ sensor) := by
  unfold thermTrip
  grind only [onward_allCold, onward_fatalErr]

@[simp] theorem onward_thermJudge (h : Onward s t) (t_ : Int) (sensor : Nat) (trip : Int) : Onward s (thermJudge t t_ sensor trip) := by
  unfold thermJudge
  lift_lets
  intro cool _ judged
  have hj : Onward s judged := onward_ite (onward_setErr (onward_damper h _) ..) (onward_ite (onward_damper h _) h)
  exact onward_ite (onward_thermTrip hj ..) hj

@[simp] theorem onward_stackTemp (h : Onward s t) (k : Nat) (t_ : Int) : Onward s (stackTemp t k t_) := by
  unfold stackTemp
  grind only [onward_modStack, onward_setErr, onward_thermJudge, onward_mk]

@[simp] theorem onward_countSome (h : Onward s t) (g : Nat) (i : Nat) (n : Nat) : Onward s (State.countSome t g i n) := by
  unfold State.countSome
  grind only [onward_count]

@[simp] theorem onward_countGrain (h : Onward s t) : Onward s (countGrain t) := by
  unfold countGrain
  lift_lets
  intro ports slices halves clusters engines
  have hp : Onward s ports := onward_foldl h (fun u p hu => onward_countSome hu ..) _
  have hs : Onward s slices := onward_foldl hp (fun u i hu => onward_countSome hu ..) _
  clear_value slices
  have hh : Onward s halves := onward_foldl hs (fun u k hu => onward_countSome hu ..) _
  clear_value halves
  have hc : Onward s clusters := onward_foldl hh (fun u c hu => onward_countSome hu ..) _
  clear_value clusters
  exact onward_countSome (onward_countSome (onward_countSome hc ..) ..) ..

@[simp] theorem onward_nextWindow (h : Onward s t) : Onward s (nextWindow t) := by
  unfold nextWindow
  grind only [onward_foldl, onward_settle, onward_newWindow]

@[simp] theorem onward_refclkLost (h : Onward s t) (q : Nat) : Onward s (refclkLost t q) := by
  unfold refclkLost
  lift_lets
  intro _ noted ports _ unlocked
  have hn : Onward s noted := h.trans (onward_same rfl rfl rfl)
  clear_value noted
  have hp : Onward s ports := onward_foldl hn (fun u i hu => onward_ite (onward_linkDown hu ..) hu) _
  clear_value ports
  have hu : Onward s unlocked := by
    refine onward_ite (onward_setErr ?_ ..) hp
    exact hp.trans (onward_same rfl rfl rfl)
  clear_value unlocked
  refine onward_ite hn (onward_ite (onward_fatalErr (onward_foldl ?_ (fun u i hu => onward_modPc hu ..) _) ..) hu)
  refine onward_modStack ?_ ..
  exact hu.trans (onward_same rfl rfl rfl)

end Sys2Proof.Machine
end

section
/-! PROOF. The resets, the boot, the lifecycle and fuse commands and the crash log take no programmed fuse back (R446, R490–R492). -/
namespace Sys2Proof.Machine
open Config
variable {s t u : State}

@[simp] theorem onward_cfgWrite (h : Onward s t) (off : Nat) (v : Nat) : Onward s (cfgWrite t off v) := by
  unfold cfgWrite
  lift_lets
  intro v starts written _
  have hw : Onward s written := onward_wr h ..
  clear_value written
  refine onward_ite ?_ (onward_ite (onward_blotStart hw) hw)
  exact hw.trans (onward_same rfl rfl rfl)

@[simp] theorem onward_applyPort (h : Onward s t) (r : Record) : Onward s (applyPort t r) := by
  unfold applyPort
  exact onward_ite (onward_wr (onward_setFld (onward_wr h ..) ..) ..) h

@[simp] theorem onward_applyRecord (h : Onward s t) (r : Record) : Onward s (applyRecord t r) := by
  unfold applyRecord
  dsimp only
  split
  · exact onward_ite h (onward_setFld h ..)
  · exact onward_wr (onward_wr h ..) ..
  · exact onward_wr h ..
  · exact onward_applyPort h _
  · exact onward_wr (onward_wr h ..) ..
  · exact onward_foldl h (fun u off hu => onward_cfgWrite hu ..) _
  · refine onward_foldl h (fun u i hu => onward_wayqWrite ?_ ..) _
    exact hu.trans (onward_same rfl rfl rfl)
  · exact h

@[simp] theorem onward_bootDefaults (h : Onward s t) (compat : Bool) (recs : List Record) : Onward s (bootDefaults t compat recs) := by
  unfold bootDefaults
  lift_lets
  intro marked ports slices chosen recorded
  have hm : Onward s marked := onward_setFld h ..
  have hp : Onward s ports := onward_foldl hm (fun u p hu => onward_setFld hu ..) _
  clear_value ports
  have hs : Onward s slices := onward_foldl hp (fun u i hu => onward_setFld hu ..) _
  clear_value slices
  have hc : Onward s chosen := onward_ite (onward_setFld hs ..) hm
  exact onward_wr (onward_wr hc ..) ..

@[simp] theorem onward_applyAll (h : Onward s t) (compat : Bool) (recs : List Record) : Onward s (applyAll t compat recs) := by
  exact onward_foldl (onward_bootDefaults h ..) (fun u r hu => onward_applyRecord hu r) _

@[simp] theorem onward_bootFail (h : Onward s t) (step : Nat) (cause : Nat) (causeA : Nat) (unit : Nat) (rec : Nat) : Onward s (bootFail t step cause causeA unit rec) := by
  unfold bootFail
  refine onward_raise (onward_wr ?_ ..) ..
  exact h.trans (onward_same rfl rfl rfl)

@[simp] theorem onward_useSlotB (h : Onward s t) (causeA : Nat) : Onward s (useSlotB t causeA) := by
  unfold useSlotB
  refine onward_raise (onward_wr ?_ ..) ..
  exact h.trans (onward_same rfl rfl rfl)

@[simp] theorem onward_hardRepair (h : Onward s t) (r : RowId) : Onward s (hardRepair t r) := by
  have drawn := onward_freeB h
  unfold hardRepair
  dsimp only
  split <;> rename_i eq
  all_goals rw [eq] at drawn
  · refine onward_count (onward_setErr (onward_pprLog ?_ ..) ..) ..
    exact drawn.trans (onward_same rfl rfl rfl)
  · exact onward_setErr drawn ..

@[simp] theorem onward_hardRepairs (h : Onward s t) (recs : List Record) (k : Nat) : Onward s (hardRepairs recs t k) := by
  unfold hardRepairs
  refine onward_foldl_fst (fun a r ha => ?_) _ _ h
  split
  · exact ha
  · exact onward_hardRepair ha r

@[simp] theorem onward_startPorts (h : Onward s t) : Onward s (startPorts t) := by
  exact onward_foldl h (fun u p hu => onward_ite (onward_modPort hu ..) hu) _

@[simp] theorem onward_bootHbm (h : Onward s t) (recs : List Record) (keep : Bool) : Onward s (bootHbm t recs keep) := by
  have wrongs : ∀ l : List Nat, Onward s (l.foldl (fun s k => s.setErr (hbmReg k 0x30) 6 (0x40 + k) 0) t) := fun l =>
    onward_foldl h (fun u k hu => onward_setErr hu ..) l
  unfold bootHbm
  lift_lets
  intro ks wrong marked sequenced trained bad failed fixed _
  have hm : Onward s marked := wrongs wrong
  clear_value marked ks
  have hs : Onward s sequenced := onward_foldl hm (fun u k hu => onward_modStack hu ..) _
  clear_value sequenced
  have ht : Onward s trained := onward_trainPcs hs _
  clear_value trained
  have hf : Onward s failed := onward_foldl ht (fun u k hu => onward_trainFailErr hu ..) _
  clear_value failed
  have hx : Onward s fixed :=
    onward_ite (onward_foldl hf (fun u p hu => onward_selfExit hu p) _) (onward_wipe (onward_foldl hf (fun u k hu => onward_hardRepairs hu ..) _))
  clear_value fixed wrong
  split
  · exact onward_bootFail hm ..
  · clear_value bad
    split
    · exact onward_bootFail hf ..
    · refine onward_startPorts ?_
      exact hx.trans (onward_same rfl rfl rfl)

@[simp] theorem onward_bootRecords (h : Onward s t) (compat : Bool) (keep : Bool) (recs : List Record) (imageId : DWord) : Onward s (bootRecords t compat keep recs imageId) := by
  unfold bootRecords
  lift_lets
  intro named _ applied post _ kept disabled _
  have hn : Onward s named := onward_wr (onward_wr h ..) ..
  clear_value named
  have ha : Onward s applied := by
    refine onward_applyAll ?_ ..
    exact hn.trans (onward_same rfl rfl rfl)
  clear_value applied
  have hk : Onward s kept := ha.trans (onward_same rfl rfl rfl)
  clear_value kept
  have hd : Onward s disabled := onward_foldl hk (fun u i hu => onward_modSlice hu ..) _
  clear_value disabled
  refine onward_bootHbm (onward_takeBudget ?_) ..
  exact hd.trans (onward_same rfl rfl rfl)

@[simp] theorem onward_bootImage (h : Onward s t) (keep : Bool) : Onward s (bootImage t keep) := by
  unfold bootImage
  dsimp only
  refine onward_ite (onward_bootFail h ..) (onward_ite (onward_bootRecords h ..) (onward_ite (onward_bootRecords (onward_useSlotB h _) ..) ?_))
  exact onward_ite (onward_bootRecords h ..) (onward_bootFail h ..)

@[simp] theorem onward_bootSteps (h : Onward s t) (keep : Bool) : Onward s (bootSteps t keep) := by
  unfold bootSteps
  lift_lets
  intro fuses _ loaded noted _
  have hl : Onward s loaded := by
    refine onward_setFld ?_ ..
    exact h.trans (onward_same rfl rfl rfl)
  clear_value loaded
  have hn : Onward s noted := onward_ite hl (onward_raise hl ..)
  clear_value noted
  refine onward_ite (onward_bootFail hl ..) (onward_bootImage ?_ _)
  exact hn.trans (onward_same rfl rfl rfl)

/-- Programming a row takes no programmed fuse back (R446, R492). -/
theorem progRow_forward {op : Nat} (unset : op = 1 → s.nv.fuses.keyHash = none) (ok : Bool) : FusesForward s.nv.fuses (progRow s op ok) := by
  unfold progRow
  dsimp only
  split
  next key =>
    exact ⟨⟨rfl, rfl, rfl⟩, rfl, le_refl _, id, fun _ set => absurd ((unset key).symm.trans set) nofun⟩
  next =>
    split
    next => exact FusesForward.refl _
    next unlocked => exact ⟨⟨rfl, rfl, rfl⟩, rfl, le_refl _, fun locked => absurd locked unlocked, fun _ set => set⟩

/-- A reset interrupts what is being programmed (R446). -/
theorem nvAfter_forward (step : FuseStep s) : FusesForward s.nv.fuses (nvAfter s).fuses := by
  unfold nvAfter
  dsimp only
  split
  next busy => exact progRow_forward (fun key => step (busy.trans (congrArg some key))) false
  next =>
    split
    · exact FusesForward.refl _
    · exact FusesForward.refl _

/-- A state whose fuses went forward and which programs nothing. -/
theorem onward_rest (h : Onward s t) (pending : u.pending = t.pending) (fuses : FuseStep t → FusesForward t.nv.fuses u.nv.fuses)
    (busy : u.boot.fuseBusy = none) : Onward s u :=
  h.trans ⟨pending, fun step => ⟨fun key => absurd (busy.symm.trans key) nofun, fuses step⟩⟩

@[simp] theorem onward_inColdReset (h : Onward s t) : Onward s (inColdReset t) := by
  unfold inColdReset
  exact onward_rest h rfl nvAfter_forward rfl

@[simp] theorem onward_leaveReset (h : Onward s t) : Onward s (leaveReset t) := by
  unfold leaveReset
  refine onward_ite (onward_bootSteps ?_ _) h
  exact h.trans (onward_same rfl rfl rfl)

@[simp] theorem onward_coldReset (h : Onward s t) : Onward s (coldReset t) := by
  exact onward_leaveReset (onward_inColdReset h)

@[simp] theorem onward_setRail (h : Onward s t) (rail : Rail) (low : Bool) : Onward s (setRail t rail low) := by
  unfold setRail
  exact h.trans (onward_same rfl rfl rfl)

@[simp] theorem onward_releaseNow (h : Onward s t) : Onward s (releaseNow t) := by
  unfold releaseNow
  lift_lets
  intro _ _ released
  have hr : Onward s released := h.trans (onward_same rfl rfl rfl)
  exact onward_ite hr (onward_brakeOn hr)

@[simp] theorem onward_flushHome (h : Onward s t) : Onward s (flushHome t) := by
  unfold flushHome
  dsimp only
  refine onward_foldl (onward_foldl h (fun u p hu => onward_foldl hu (fun w e hw => onward_dramStore hw ..) _) _) (fun u i hu => ?_) _
  have out := onward_foldl hu (fun w (o : OutWr) hw => onward_dramStore hw o.line o.data o.poison) (u.slice i).outWr
  refine onward_foldl (onward_foldl out (fun w e hw => ?_) _) (fun w n hw => onward_ite (onward_dramStore hw ..) hw) _
  refine onward_ite ?_ hw
  have read := onward_readWay hw i (e.1 / 16) (e.1 % 16)
  split <;> rename_i eq
  all_goals rw [eq] at read
  · exact onward_dramStore read ..
  · exact read

@[simp] theorem onward_warmReset (h : Onward s t) : Onward s (warmReset t) := by
  unfold warmReset
  lift_lets
  intro _ low ports _ purged keep flushed
  have hl : Onward s low := h.trans (onward_same rfl rfl rfl)
  clear_value low
  have hp : Onward s ports := onward_foldl hl (fun u p hu => onward_disablePort hu p) _
  have hs : Onward s purged := by
    have slices := onward_foldl hp (fun u i hu => onward_purgeSlice hu i) ports.sliceList
    exact slices.trans (onward_same rfl rfl rfl)
  clear_value purged
  have hf : Onward s flushed := onward_ite (onward_flushHome hs) hs
  clear_value flushed
  intros
  refine onward_bootSteps (onward_setFld (onward_setFld ?_ ..) ..) _
  exact onward_rest hf rfl nvAfter_forward rfl

@[simp] theorem onward_warmPulse (h : Onward s t) (lowNs : Nat) : Onward s (warmPulse t lowNs) := by
  exact onward_ite (onward_warmReset h) h

@[simp] theorem onward_fuseErr (h : Onward s t) (cause : Nat) : Onward s (fuseErr t cause) := by
  unfold fuseErr
  grind only [onward_setFld]

theorem FuseArray.lifecycle_le (f : FuseArray) : f.lifecycle ≤ 3 := by
  unfold FuseArray.lifecycle
  have bound : ∀ (l : List (FuseRow (BitVec 2))) (a : Nat), a ≤ 3 → l.foldl (fun a r => max a (r.read 0).toNat) a ≤ 3 := by
    intro l
    induction l with
    | nil => exact fun a ha => ha
    | cons r l ih => exact fun a ha => ih _ (max_le ha (by have := (r.read 0).isLt; omega))
  exact bound _ _ (Nat.zero_le _)

/-- The rows that all hold one state read as it. -/
theorem FuseArray.lifecycle_const (f : FuseArray) (v : BitVec 2) :
    ({ f with life := f.life.map fun _ => ⟨v, true⟩ } : FuseArray).lifecycle = if f.life = [] then 0 else v.toNat := by
  have all : ∀ (l : List (FuseRow (BitVec 2))) (a : Nat), a ≤ v.toNat →
      (l.map fun _ => (⟨v, true⟩ : FuseRow (BitVec 2))).foldl (fun a r => max a (r.read 0).toNat) a = if l = [] then a else v.toNat := by
    intro l
    induction l with
    | nil => exact fun a _ => rfl
    | cons r l ih =>
      intro a ha
      have read : max a ((⟨v, true⟩ : FuseRow (BitVec 2)).read 0).toNat = v.toNat := max_eq_right ha
      rw [List.map_cons, List.foldl_cons, read, ih _ (le_refl _), if_neg (List.cons_ne_nil r l)]
      exact ite_self _
  exact all f.life 0 (Nat.zero_le _)

/-- The lifecycle rows programmed to a state that is as far as theirs (R490, R491). -/
theorem lifecycle_forward (f : FuseArray) {target : Nat} (small : target < 4) :
    FusesForward f { f with life := f.life.map fun _ => ⟨BitVec.ofNat 2 (max f.lifecycle target), true⟩ } := by
  refine ⟨⟨rfl, rfl, rfl⟩, List.length_map _, ?_, id, fun _ set => set⟩
  rw [FuseArray.lifecycle_const]
  split
  next empty =>
    unfold FuseArray.lifecycle
    rw [empty]
    exact le_refl _
  next =>
    have le := f.lifecycle_le
    rw [BitVec.toNat_ofNat, Nat.mod_eq_of_lt (max_lt (by omega) small)]
    exact le_max_left ..

theorem lcAllowed_lt {target : Nat} (ok : lcAllowed s target = true) : target < 4 := by
  unfold lcAllowed at ok
  split at ok
  case h_5 => exact absurd ok nofun
  all_goals omega

/-- The lifecycle rows are programmed (R491). -/
theorem onward_lifeRows (h : Onward s t) {n target : Nat} (small : target < 4) (now : t.nv.fuses.lifecycle = n) :
    Onward s { t with nv := { t.nv with fuses := { t.nv.fuses with
      life := t.nv.fuses.life.map fun _ => ⟨BitVec.ofNat 2 (max n target), true⟩ } } } :=
  h.trans ⟨rfl, fun step => ⟨step, now ▸ lifecycle_forward t.nv.fuses small⟩⟩

@[simp] theorem onward_lifecycle (h : Onward s t) (secure : Bool) (target : Nat) (confirm : Nat) (verified : Bool) :
    Onward s (lifecycle t secure target confirm verified) := by
  unfold lifecycle
  lift_lets
  intro voted refuse _ disabled row prog cleared
  have hv : Onward s voted := onward_voteReg h _
  have hr : ∀ c, Onward s (refuse c) := fun c => onward_setFld (onward_fuseErr hv c) ..
  clear_value voted
  have hd : Onward s disabled := by
    refine onward_foldl (t := { voted with pins := { voted.pins with ready := false } }) ?_ (fun u p hu => onward_disablePort hu p) _
    exact hv.trans (onward_same rfl rfl rfl)
  have frame := State.setFld_frame disabled (bootReg 0x30) 4 1 0
  have kept : cleared.nv = disabled.nv := by
    show (disabled.setFld (bootReg 0x30) 4 1 0).nv = _
    rw [frame]
  have hc : Onward s cleared := onward_setFld hd ..
  clear_value refuse disabled cleared
  refine onward_ite (hr 5) (onward_ite (hr 4) ?_)
  split
  next => exact hr 1
  next allowed =>
    have small := lcAllowed_lt (Bool.of_not_eq_false allowed)
    have programmed : ∀ w : State, Onward s w → w.nv = disabled.nv → Onward s (prog w) := fun w hw same =>
      onward_lifeRows hw small (congrArg (fun v => v.fuses.lifecycle) same)
    refine onward_ite (onward_coldReset (programmed _ hc kept)) ?_
    have drawn := still_freeB (Still.refl cleared)
    split
    next u b eq =>
      rw [eq] at drawn
      exact onward_fuseErr (onward_ite (programmed u (hc.trans drawn.toAside.onward) (drawn.nv.trans kept)) (hc.trans drawn.toAside.onward)) _

@[simp] theorem onward_fuseCmd (h : Onward s t) (secure : Bool) : Onward s (fuseCmd t secure) := by
  unfold fuseCmd
  lift_lets
  intro op voted refuse _
  have hv : Onward s voted := onward_voteReg h _
  have hr : ∀ c, Onward s (refuse c) := fun c => onward_setFld (onward_fuseErr hv c) ..
  refine onward_ite (hr 5) (onward_ite (hr 7) (onward_ite (hr 1) ?_))
  split
  next => exact hr 2
  next unset =>
    refine onward_ite (hr 3) (hv.trans ⟨rfl, fun _ => ⟨fun key => ?_, FusesForward.refl _⟩⟩)
    have key : op = 1 := Option.some.inj key
    exact Option.not_isSome_iff_eq_none.mp fun set => unset ⟨key, set⟩

@[simp] theorem onward_crashWrite (h : Onward s t) : Onward s (crashWrite t) := by
  unfold crashWrite
  lift_lets
  intro off size _ _ _
  refine onward_ite ?_ (onward_ite (onward_setFld (onward_setFld h ..) ..) ?_)
  · exact h.trans (onward_same rfl rfl rfl)
  · exact h.trans (onward_same rfl rfl rfl)

end Sys2Proof.Machine
end

section
/-! PROOF. The CX command engine takes no fuse back. -/
namespace Sys2Proof.Machine
open Config
variable {s t u : State}

@[simp] theorem onward_cxStart (h : Onward s t) : Onward s (cxStart t) := by
  unfold cxStart
  grind only [onward_setWidth, onward_freeEngine, onward_count, onward_wakeAccess, onward_mk]

@[simp] theorem onward_cxIssue (h : Onward s t) (opc : Nat) (engOpc : Nat) (tag : BitVec 16) : Onward s (cxIssue t opc engOpc tag) := by
  unfold cxIssue
  grind only [onward_issue1, onward_modRun, onward_mk]

theorem onward_swVisit (h : Onward s t) {op : Nat} {l : Nat × Nat × Nat} {r : State × Option Nat} (e : swVisit t op l = some r) : Onward s r.1 := by
  unfold swVisit at e
  dsimp only at e
  split_ifs at e
  all_goals
    rw [← Option.some.inj e]
    simp [h]

theorem onward_swWalk (op w n : Nat) : ∀ {t : State} (r : CxRun), Onward s t → Onward s (swWalk op w n t r).1 := by
  induction n with
  | zero => exact fun _ h => h
  | succ n ih =>
    intro t r h
    unfold swWalk
    split
    · exact h
    · split
      · exact h
      · exact ih _ (onward_swVisit h ‹_›)

@[simp] theorem onward_maintSw (h : Onward s t) (r : CxRun) : Onward s (maintSw t r) := by
  unfold maintSw
  dsimp only
  have walked := onward_swWalk (bitsOf (r.arg 0) 22 2) (r.arg 0) 256 { r with began := true } h
  generalize swWalk (bitsOf (r.arg 0) 22 2) (r.arg 0) 256 t _ = p at walked ⊢
  refine onward_ite (onward_wakeAccess h _) ?_
  exact walked.trans (onward_same rfl rfl rfl)

@[simp] theorem onward_cxComplete (h : Onward s t) : Onward s (cxComplete t) := by
  unfold cxComplete
  grind only [onward_freeEngine, onward_count, onward_mk]

end Sys2Proof.Machine
end

section
/-! PROOF. The control window, the registers and the messages take no programmed fuse back. -/
namespace Sys2Proof.Machine
open Config

-- One proof at a time: many at once would pass the memory limit of the check.
set_option Elab.async false
variable {s t u : State}

@[simp] theorem onward_setFifo (h : Onward s t) (i : FifoId) (f : Fifo) : Onward s (setFifo t i f) := by
  unfold setFifo
  grind only [onward_mk]

@[simp] theorem onward_farWrite (h : Onward s t) (t_ : FarPlace) (off : Nat) (v : Word) : Onward s (farWrite t t_ off v) := by
  unfold farWrite
  grind only [onward_wayqWrite, onward_mk]

@[simp] theorem onward_spendShadow (h : Onward s t) (m : Master) (b : Block) : Onward s (spendShadow t m b) := by
  unfold spendShadow
  grind only [onward_mk]

@[simp] theorem onward_dropHeld (h : Onward s t) (m : Master) (b : Block) : Onward s (dropHeld t m b) := by
  unfold dropHeld
  grind only [onward_accessErr, onward_mk]

@[simp] theorem onward_claimRead (h : Onward s t) (m : Master) : Onward s (claimRead t m).1 := by
  unfold claimRead
  grind only [onward_mk]

@[simp] theorem onward_claimWrite (h : Onward s t) (m : Master) (v : Word) : Onward s (claimWrite t m v) := by
  unfold claimWrite
  grind only [onward_wr, onward_mk]

@[simp] theorem onward_indStep (h : Onward s t) (data : Nat) : Onward s (indStep t data) := by
  unfold indStep
  grind only [onward_setFld]

@[simp] theorem onward_indBad (h : Onward s t) (data : Nat) : Onward s (indBad t data) := by
  unfold indBad
  grind only [onward_setFld]

@[simp] theorem onward_indRead (h : Onward s t) (data : Nat) : Onward s (indRead t data).1 := by
  unfold indRead
  grind only [onward_indStep, onward_indBad]

@[simp] theorem onward_indWrite (h : Onward s t) (data : Nat) (v : Word) : Onward s (indWrite t data v) := by
  unfold indWrite
  grind only [onward_indStep, onward_indBad, onward_farWrite]

@[simp] theorem onward_popFifo (h : Onward s t) (i : FifoId) : Onward s (popFifo t i).1 := by
  unfold popFifo
  grind only [onward_setFifo, onward_setFld]

@[simp] theorem onward_readReg (h : Onward s t) (m : Master) (off : Nat) : Onward s (readReg t m off).1 := by
  unfold readReg
  grind only [onward_indRead, onward_claimRead, onward_voteReg]

@[simp] theorem onward_readPop (h : Onward s t) (m : Master) (i : FifoId) (off : Nat) : Onward s (readPop t m i off).1 := by
  unfold readPop
  grind only [onward_popFifo]

@[simp] theorem onward_read4 (h : Onward s t) (m : Master) (off : Nat) : Onward s (read4 t m off).1 := by
  unfold read4
  grind only [onward_spendShadow, onward_readPop, onward_readReg, onward_setWidth, onward_mk]

@[simp] theorem onward_read8 (h : Onward s t) (m : Master) (off : Nat) : Onward s (read8 t m off).1 := by
  unfold read8
  grind only [onward_spendShadow, onward_readPop, onward_readReg, onward_mk]

theorem onward_ite_fst {β : Type} {c : Prop} [Decidable c] {a b : State × β} (ha : Onward s a.1) (hb : Onward s b.1) :
    Onward s (if c then a else b).1 := by
  split
  · exact ha
  · exact hb

@[simp] theorem onward_filterWrite (h : Onward s t) (m : Master) (off : Nat) (v : Word) : Onward s (filterWrite t m off v).1 := by
  unfold filterWrite
  dsimp only
  generalize off - (blockAt off).base = rel
  have refused : ∀ n k, Onward s (if t.bit (inkReg n 0) 0 = false ∧ inkQuiesced t n = true then (t, some v) else (inkErr t n k 0, none)).1 := by
    intro n k
    refine onward_ite_fst h ?_
    exact onward_inkErr h ..
  split
  · refine onward_ite_fst ?_ (onward_ite_fst h h)
    exact onward_setFld h (bootReg 0x38) 2 1 1
  · exact onward_ite_fst h h
  · exact onward_ite_fst h h
  · refine onward_ite_fst ?_ h
    split
    · refine onward_ite_fst h (onward_ite_fst ?_ h)
      exact onward_inkErr h ..
    · exact refused _ 1
    · exact refused _ 1
    · exact refused _ 1
    · exact refused _ 1
    · exact h
  · exact onward_ite_fst h (onward_ite_fst h (onward_ite_fst h (onward_ite_fst h h)))
  · exact h

@[simp] theorem onward_startBoot (h : Onward s t) (m : Master) (rel : Nat) (v : Word) : Onward s (startBoot t m rel v) := by
  unfold startBoot
  grind only [onward_setFld, onward_warmReset, onward_freeB, onward_lifecycle, onward_fuseCmd, onward_mk]

@[simp] theorem onward_startEvent (h : Onward s t) (rel : Nat) (v : Word) : Onward s (startEvent t rel v) := by
  unfold startEvent
  grind only [onward_alertPin, onward_crashWrite, onward_setFifo, onward_setFld, onward_mk]

@[simp] theorem onward_startPort (h : Onward s t) (p : Nat) (oldEn : Bool) (v : Word) : Onward s (startPort t p oldEn v) := by
  unfold startPort
  grind only [onward_disablePort, onward_setFld, onward_enablePort, onward_resetPort, onward_retrainPort]

@[simp] theorem onward_startSlice (h : Onward s t) (i : Nat) (rel : Nat) (v : Word) : Onward s (startSlice t i rel v) := by
  unfold startSlice
  grind only [onward_hearthEnable, onward_hearthDisable, onward_maintGo, onward_judgeWays, onward_mk]

@[simp] theorem onward_startScribe (h : Onward s t) (c : Nat) (rel : Nat) (old : Word) (v : Word) : Onward s (startScribe t c rel old v) := by
  unfold startScribe
  grind only [onward_clusterDisable, onward_modCluster, onward_clusterReset, onward_knockCores, onward_abortCores, onward_mk]

@[simp] theorem onward_startInk (h : Onward s t) (n : Nat) (old : Word) (v : Word) : Onward s (startInk t n old v) := by
  unfold startInk
  grind only [onward_setFld, onward_modInk, onward_inkErr, onward_mk]

@[simp] theorem onward_startTel (h : Onward s t) (rel : Nat) (old : Word) (v : Word) : Onward s (startTel t rel old v) := by
  unfold startTel
  grind only [onward_clearAll, onward_setFld, onward_wr, onward_takeDump, onward_blotStart, onward_mk]

@[simp] theorem onward_cxRegionWrite (h : Onward s t) (rel : Nat) (v : Word) : Onward s (cxRegionWrite t rel v) := by
  unfold cxRegionWrite
  grind only [onward_foldl, onward_setFld]

@[simp] theorem onward_startCx (h : Onward s t) (rel : Nat) (v : Word) : Onward s (startCx t rel v) := by
  unfold startCx
  grind only [onward_cxRegionWrite, onward_setWidth, onward_setFifo, onward_setFld, onward_mk]

@[simp] theorem onward_startWrite (h : Onward s t) (m : Master) (off : Nat) (old : Word) (v : Word) : Onward s (startWrite t m off old v) := by
  unfold startWrite
  grind only [onward_startBoot, onward_issueCmd, onward_startEvent, onward_startPort, onward_startSlice, onward_hbmReload,
    onward_startScribe, onward_startInk, onward_modInk, onward_startTel, onward_startCx, onward_mk]

@[simp] theorem onward_counterWrite (h : Onward s t) (off : Nat) (lo : Option Word) (hi : Option Word) : Onward s (counterWrite t off lo hi) := by
  unfold counterWrite
  refine onward_ite h ?_
  exact h.trans (onward_same rfl rfl rfl)

@[simp] theorem onward_writeReg (h : Onward s t) (m : Master) (acc : Nat) (off : Nat) (v : Word) : Onward s (writeReg t m acc off v).1 := by
  unfold writeReg
  dsimp only
  refine onward_ite_fst h (onward_ite_fst h (onward_ite_fst h (onward_ite_fst (onward_indWrite h ..) (onward_ite_fst (onward_claimWrite h ..)
    (onward_ite_fst (onward_ite_fst ?_ ?_) (onward_ite_fst (onward_ite ?_ ?_) ?_))))))
  · exact onward_lockViol (onward_voteLock (onward_voteReg h _) _) ..
  · exact onward_lockReg (onward_wr (onward_voteLock (onward_voteReg h _) _) ..) _
  · exact onward_counterWrite h ..
  · exact onward_counterWrite h ..
  · have filtered := onward_filterWrite h m off v
    split <;> rename_i eq
    all_goals rw [eq] at filtered
    · exact filtered
    · exact onward_startWrite (onward_wr (onward_voteReg filtered _) ..) ..

@[simp] theorem onward_logDenied (h : Onward s t) (m : Master) (acc : Nat) (denied : Bool) : Onward s (logDenied t m acc denied) := by
  unfold logDenied
  grind only [onward_guardDeny]

@[simp] theorem onward_doorbellWrite (h : Onward s t) (n : Nat) (rel : Nat) (bytes : Nat) (d : DWord) : Onward s (doorbellWrite t n rel bytes d) := by
  unfold doorbellWrite
  grind only [onward_writeTail, onward_writeCqHead]

@[simp] theorem onward_write4 (h : Onward s t) (m : Master) (off : Nat) (v : Word) : Onward s (write4 t m off v) := by
  unfold write4
  grind only [onward_spendShadow, onward_writeReg, onward_logDenied, onward_dropHeld, onward_doorbellWrite, onward_setWidth, onward_mk]

@[simp] theorem onward_write8 (h : Onward s t) (m : Master) (off : Nat) (v : DWord) : Onward s (write8 t m off v) := by
  unfold write8
  grind only [onward_dropHeld, onward_spendShadow, onward_doorbellWrite, onward_writeReg, onward_setWidth, onward_logDenied, onward_mk]

@[simp] theorem onward_answer (h : Onward s t) (a : Access) (v : DWord) : Onward s (answer t a v) := by
  unfold answer
  grind only [onward_readBytes, onward_blotNote, onward_count, onward_sendPlain, onward_mk]

@[simp] theorem onward_perform (h : Onward s t) (a : Access) (off : Nat) : Onward s (perform t a off).1 := by
  unfold perform
  grind only [onward_dropHeld, onward_spendShadow, onward_accessErr, onward_write8, onward_write4, onward_setWidth, onward_read8,
    onward_read4]

@[simp] theorem onward_cwAccess (h : Onward s t) (a : Access) : Onward s (cwAccess t a) := by
  unfold cwAccess
  grind only [onward_voteMode, onward_answer, onward_wakeAccess, onward_setFld, onward_perform, onward_mk]

@[simp] theorem onward_resumeStalled (h : Onward s t) (d : Nat) : Onward s (resumeStalled t d) := by
  unfold resumeStalled
  grind only [onward_foldl, onward_cwAccess, onward_mk]

@[simp] theorem onward_cwRead (h : Onward s t) (m : Master) (off : Nat) (bytes : Nat) : Onward s (cwRead t m off bytes) := by
  unfold cwRead
  grind only [onward_cwAccess]

@[simp] theorem onward_cwWrite (h : Onward s t) (m : Master) (off : Nat) (bytes : Nat) (v : DWord) : Onward s (cwWrite t m off bytes v) := by
  unfold cwWrite
  grind only [onward_cwAccess]

@[simp] theorem onward_writeNative (h : Onward s t) (m : Master) (off : Nat) (v : Nat) : Onward s (writeNative t m off v) := by
  unfold writeNative
  grind only [onward_cwWrite]

@[simp] theorem onward_writeField (h : Onward s t) (m : Master) (off : Nat) (lo : Nat) (w : Nat) (v : Nat) : Onward s (writeField t m off lo w v) := by
  unfold writeField
  grind only [onward_writeNative]

@[simp] theorem onward_setPtr (h : Onward s t) (ptr : Word) : Onward s (setPtr t ptr) := by
  unfold setPtr
  grind only [onward_mk]

@[simp] theorem onward_mgmtWrite (h : Onward s t) (ptr : Word) (bytes : Nat) (data : DWord) : Onward s (mgmtWrite t ptr bytes data) := by
  unfold mgmtWrite
  grind only [onward_cwWrite, onward_setPtr]

@[simp] theorem onward_mgmtMalformed (h : Onward s t) : Onward s (mgmtMalformed t) := by
  unfold mgmtMalformed
  grind only [onward_cwWrite]

@[simp] theorem onward_mgmtPrivateWrite (h : Onward s t) (b : List Byte) : Onward s (mgmtPrivateWrite t b) := by
  unfold mgmtPrivateWrite
  grind only [onward_mgmtMalformed, onward_setPtr, onward_mgmtWrite, onward_setWidth]

@[simp] theorem onward_mgmtRead (h : Onward s t) (clocked : Nat) : Onward s (mgmtRead t clocked) := by
  unfold mgmtRead
  grind only [onward_cwAccess]

@[simp] theorem onward_writeWayq (h : Onward s t) (m : Master) (sl : Nat) (v : Word) : Onward s (writeWayq t m sl v) := by
  unfold writeWayq
  grind only [onward_writeNative]

@[simp] theorem onward_slcMaint (h : Onward s t) (m : Master) (sl : Nat) (op : Nat) : Onward s (slcMaint t m sl op) := by
  unfold slcMaint
  grind only [onward_writeNative]

@[simp] theorem onward_lcWrite (h : Onward s t) (m : Master) (target : BitVec 2) (confirm : BitVec 16) (verified : Bool) : Onward s (lcWrite t m target confirm verified) := by
  unfold lcWrite
  grind only [onward_writeNative, onward_lifecycle]

@[simp] theorem onward_domCommand (h : Onward s t) (m : Master) (d : Nat) (target : Nat) : Onward s (domCommand t m d target) := by
  unfold domCommand
  grind only [onward_writeNative]

@[simp] theorem onward_homeResponse (h : Onward s t) (tag : Tag) (r : Rsp) : Onward s (homeResponse t tag r) := by
  unfold homeResponse
  grind only [onward_maintDone, onward_dumpBack, onward_blotBack]

@[simp] theorem onward_respondTo (h : Onward s t) (m0 : Msg) : Onward s (respondTo t m0) := by
  unfold respondTo
  grind only [onward_holdMsg, onward_takeMsg, onward_blotNote, onward_count, onward_forwardMsg, onward_sendPlain, onward_blotLeave,
    onward_coreResponse, onward_engineResponse, onward_homeResponse, onward_discard, onward_mk]

@[simp] theorem onward_mboxPush (h : Onward s t) (m : Nat) (payload : List Word) : Onward s (mboxPush t m payload).1 := by
  unfold mboxPush
  grind only [onward_setFld, onward_mk]

@[simp] theorem onward_msgDone (h : Onward s t) (m : Msg) (ok : Bool) : Onward s (msgDone t m ok) := by
  unfold msgDone
  grind only [onward_sendPlain, onward_mk]

@[simp] theorem onward_agentMsg (h : Onward s t) (ing : Option Nat) (m : Msg) (mbox : BitVec 3) (chan : BitVec 8) (payload : List Word) : Onward s (agentMsg t ing m mbox chan payload) := by
  unfold agentMsg
  grind only [onward_forwardMsg, onward_deliverLocal, onward_refuseAt, onward_ringPush, onward_msgDone, onward_wake, onward_hold,
    onward_mboxPush]

@[simp] theorem onward_cwRequest (h : Onward s t) (ing : Option Nat) (m : Msg) (off : Nat) : Onward s (cwRequest t ing m off) := by
  unfold cwRequest
  grind only [onward_blotNote, onward_cwAccess, onward_refuseAt, onward_mk]

@[simp] theorem onward_admitPort (h : Onward s t) (ing : Option Nat) (m : Msg) : Onward s (admitPort t ing m) := by
  unfold admitPort
  grind only [onward_blotAdmit, onward_mk]

@[simp] theorem onward_voteMap (h : Onward s t) : Onward s (voteMap t) := by
  unfold voteMap
  generalize List.range 16 = l
  exact onward_foldl (onward_voteReg (onward_voteReg (onward_voteReg h _) _) _) (fun u d hu => onward_voteRoute hu d) l

@[simp] theorem onward_decode39 (h : Onward s t) (ing : Option Nat) (m : Msg) : Onward s (decode39 t ing m) := by
  have voted := onward_voteMap h
  unfold decode39
  dsimp only
  refine onward_ite voted ?_
  split
  · exact onward_ite (onward_refuseAt voted ..) (onward_cwRequest voted ..)
  · exact onward_ite (onward_refuseAt voted ..) (onward_submit voted _)
  · exact onward_forwardMsg voted ..

@[simp] theorem onward_request (h : Onward s t) (p : Msg → Bool) (m0 : Msg) : Onward s (request t p m0) := by
  unfold request
  grind only [onward_takeMsg, onward_holdMsg, onward_decode39, onward_admitPort, onward_mk]

@[simp] theorem onward_plainRequest (h : Onward s t) (opc : Nat) (src : AgentId) (tag : Tag) (priv : Bool) (param : Nat) (addr : PA) (poison : Bool) (body : List Word) : Onward s (plainRequest t opc src tag priv param addr poison body) := by
  unfold plainRequest
  grind only [onward_request]

@[simp] theorem onward_maintRequest (h : Onward s t) (op : Nat) (src : AgentId) (tag : Tag) (priv : Bool) (addr : PA) : Onward s (maintRequest t op src tag priv addr) := by
  unfold maintRequest
  grind only [onward_request]

@[simp] theorem onward_forward (h : Onward s t) (ingress : Option Nat) (msg : Msg) : Onward s (forward t ingress msg) := by
  unfold forward
  grind only [onward_takeMsg, onward_holdMsg, onward_forwardMsg, onward_admitPort, onward_deliverLocal, onward_mk]

@[simp] theorem onward_dataUe (h : Onward s t) (d : Nat) : Onward s (dataUe t d) := by
  unfold dataUe
  grind only [onward_setErr]

@[simp] theorem onward_strikeMessage (h : Onward s t) (dst : AgentId) (tag : Tag) : Onward s (strikeMessage t dst tag) := by
  unfold strikeMessage
  grind only [onward_dataUe, onward_mk]

@[simp] theorem onward_strikeTransit (h : Onward s t) (line : Nat) : Onward s (strikeTransit t line) := by
  unfold strikeTransit
  lift_lets
  intro i p spine slice
  have hp : Onward s spine := by
    refine onward_ite h (onward_dataUe ?_ _)
    exact h.trans (onward_same rfl rfl rfl)
  clear_value spine
  have hs : Onward s slice := onward_ite hp (onward_dataUe (onward_modSlice hp ..) _)
  clear_value slice
  exact onward_ite hs (onward_dataUe (onward_modPc hs ..) _)

@[simp] theorem onward_strikeTag (h : Onward s t) (i : Nat) (set : Nat) (way : Nat) (both : Bool) : Onward s (strikeTag t i set way both) := by
  unfold strikeTag
  grind only [onward_fatalErr, onward_wr, onward_wayErrors]

@[simp] theorem onward_strikeSlate (h : Onward s t) (c : Nat) (word : Nat) (two : Bool) : Onward s (strikeSlate t c word two) := by
  unfold strikeSlate
  grind only [onward_modCluster, onward_mk]

@[simp] theorem onward_strikeStore (h : Onward s t) (k : Nat) (line : Nat) : Onward s (strikeStore t k line) := by
  unfold strikeStore
  grind only [onward_modCore, onward_mk]

@[simp] theorem onward_strikeGather (h : Onward s t) (c : Nat) (line : Nat) : Onward s (strikeGather t c line) := by
  unfold strikeGather
  grind only [onward_modCluster, onward_mk]

@[simp] theorem onward_strikeNib (h : Onward s t) (k : Nat) (line : Nat) : Onward s (strikeNib t k line) := by
  unfold strikeNib
  grind only [onward_nibDrop, onward_modCore, onward_mk]

@[simp] theorem onward_strike (h : Onward s t) (u_ : Upset) : Onward s (strike t u_) := by
  unfold strike
  grind only [onward_strikeVoted, onward_setHway, onward_strikeTag, onward_modSlice, onward_strikeSlate, onward_strikeTransit,
    onward_strikeMessage, onward_strikeFuse, onward_strikeStore, onward_strikeGather, onward_strikeNib, onward_fatalErr, onward_mk]

@[simp] theorem onward_tapRise (h : Onward s t) (tdi : Bool) : Onward s (tapRise t tdi) := by
  unfold tapRise
  grind only [onward_mk]

@[simp] theorem onward_tapFall (h : Onward s t) : Onward s (tapFall t) := by
  unfold tapFall
  grind only [onward_instr, onward_freeB, onward_mk]

@[simp] theorem onward_tapCycle (h : Onward s t) (trst : Bool) (tms : Bool) (tdi : Bool) : Onward s (tapCycle t trst tms tdi) := by
  unfold tapCycle
  grind only [onward_tapRise, onward_tapFall, onward_mk]

end Sys2Proof.Machine
end

section
/-! PROOF. What the scribe instructions do goes onward. -/
namespace Sys2Proof.Machine
open Config
variable {s t u : State}

/-- The outcome of a command, where there is a next state, is onward. -/
def StepsOnward (s : State) (o : Host.Outcome State Fault Refusal) : Prop := ∀ t, o = .next t → Onward s t

theorem steps_next (h : Onward s t) : StepsOnward s (.next t) := fun u run => by
  rw [← Host.Outcome.next.inj run]
  exact h

theorem steps_onUnit (h : Onward s t) (n i : Nat) : StepsOnward s (onUnit n i t) := by
  unfold onUnit
  split
  · exact steps_next h
  · exact fun _ run => absurd run nofun

theorem steps_onCore {f : Core → Act} (acts : ∀ x, ActsOnward (f x)) (k : Nat) : StepsOnward s (onCore k s f) :=
  steps_onUnit (onward_instr (Onward.refl s) acts k) _ _

/-! ## What an instruction may do -/

theorem acts_go {g : State → State} (go : ∀ s t, Onward s t → Onward s (g t)) : ActsOnward (.go g) := by
  rintro f (same | same)
  · exact absurd same nofun
  · exact Act.go.inj same ▸ go

theorem acts_fault {g : State → State} (go : ∀ s t, Onward s t → Onward s (g t)) : ActsOnward (.fault g) := by
  rintro f (same | same)
  · exact Act.fault.inj same ▸ go
  · exact absurd same nofun

theorem acts_cause (c : Cause) : ActsOnward (.cause c) := by
  rintro f (same | same) <;> exact absurd same nofun

theorem acts_trap (c : Cause) : ActsOnward (.trap c) := by
  rintro f (same | same) <;> exact absurd same nofun

theorem acts_ite {c : Prop} [Decidable c] {a b : Act} (ha : ActsOnward a) (hb : ActsOnward b) : ActsOnward (if c then a else b) := by
  split
  · exact ha
  · exact hb

theorem acts_reg (k : Nat) (f : Core → Core) : ActsOnward (reg k f) := acts_go fun _ _ h => onward_retire (onward_modCore h ..) k

theorem acts_aluRR (f : DWord → DWord → DWord) (rd ra rb : BitVec 5) (k : Nat) (x : Core) : ActsOnward (aluRR f rd ra rb k x) := acts_reg _ _

theorem acts_aluRI (f : DWord → DWord → DWord) (rd ra : BitVec 5) (v : DWord) (k : Nat) (x : Core) : ActsOnward (aluRI f rd ra v k x) :=
  acts_reg _ _

theorem acts_branch (c : DWord → DWord → Bool) (ra rb : BitVec 5) (off : BitVec 13) (k : Nat) (x : Core) :
    ActsOnward (branch c ra rb off k x) := acts_go fun _ _ h => onward_retireTo h ..

theorem acts_wideOp (f : Wide → Wide → Wide) (wd wa wb : BitVec 4) (k : Nat) (x : Core) : ActsOnward (wideOp f wd wa wb k x) := acts_reg _ _

theorem acts_reduce (f : List Nat → DWord) (ew : BitVec 2) (rd : BitVec 5) (wa : BitVec 4) (k : Nat) (x : Core) :
    ActsOnward (reduce f ew rd wa k x) := acts_reg _ _

theorem acts_slateAct (k off n : Nat) {g : State → State} (go : ∀ s t, Onward s t → Onward s (g t)) : ActsOnward (slateAct s k off n g) :=
  acts_ite (acts_fault go) (acts_go go)

theorem acts_loadOp (k : Nat) (d : Dest) (base : BitVec 5) (imm : BitVec 16) (n : Nat) (sext : Bool) (x : Core) :
    ActsOnward (loadOp s k d base imm n sext x) := by
  refine acts_ite (acts_cause _) (acts_ite (acts_cause _) ?_)
  split
  · exact acts_slateAct _ _ _ fun _ _ h => onward_loadSlate h ..
  · exact acts_go fun _ _ h => onward_loadCw h ..
  · exact acts_ite (acts_fault fun _ _ h => onward_loadMem h ..) (acts_go fun _ _ h => onward_loadMem h ..)

theorem acts_storeOp (k : Nat) (base : BitVec 5) (imm : BitVec 16) (n : Nat) (v : Core → Nat) (x : Core) :
    ActsOnward (storeOp s k base imm n v x) := by
  refine acts_ite (acts_cause _) (acts_ite (acts_cause _) ?_)
  split
  · exact acts_go fun _ _ h => onward_retire (onward_slateWrite (onward_slateCount h _) ..) k
  · exact acts_go fun _ _ h => onward_storeCw h ..
  · exact acts_go fun _ _ h => onward_storeMem h ..

theorem acts_amoOp (k : Nat) (dword : Bool) (op : Nat) (rd base rb : BitVec 5) (cmp : Core → DWord) (x : Core) :
    ActsOnward (amoOp s k dword op rd base rb cmp x) := by
  refine acts_ite (acts_cause _) (acts_ite (acts_cause _) ?_)
  split
  · exact acts_slateAct _ _ _ fun _ _ h => onward_amoSlate h ..
  · exact acts_go fun _ _ h => onward_amoSend h ..

theorem acts_lresOp (k n : Nat) (rd base : BitVec 5) (x : Core) : ActsOnward (lresOp s k n rd base x) := by
  unfold lresOp
  dsimp only
  split
  · exact acts_cause _
  · refine acts_go fun _ _ h => onward_ite ?_ (onward_flushLine h ..)
    exact onward_coreSend (onward_modCore (onward_newTag (onward_nibDrop h ..) ..) ..) ..

theorem acts_scndOp (k n : Nat) (rd base rb : BitVec 5) (x : Core) : ActsOnward (scndOp s k n rd base rb x) := by
  unfold scndOp
  dsimp only
  split
  · exact acts_cause _
  · refine acts_go fun _ _ h => onward_ite ?_ (onward_ite ?_ (onward_flushLine h ..))
    · exact onward_deliver (onward_count (onward_dropResv (onward_nibDrop h ..) _) ..) ..
    · exact onward_coreSend (onward_modCore (onward_newTag (onward_nibDrop h ..) ..) ..) ..

theorem acts_cacheOp (k : Nat) (o : CacheOp) (base : BitVec 5) (imm : BitVec 16) (x : Core) : ActsOnward (cacheOp s k o base imm x) := by
  have goes := acts_go fun _ _ h => onward_retire h k
  unfold cacheOp
  dsimp only
  split
  · exact acts_cause _
  · refine acts_ite (acts_ite goes (acts_cause _)) (acts_ite (acts_ite goes ?_) ?_)
    · exact acts_go fun _ _ h => onward_ite h (onward_cacheSend h ..)
    · exact acts_go fun _ _ h => onward_ite (onward_cacheSend h ..) (onward_flushLine h ..)

theorem acts_jumps (k : Nat) (f : Core → Core) (pc : PA) : ActsOnward (.go fun s => retireTo (s.modCore k f) k pc) :=
  acts_go fun _ _ h => onward_retireTo (onward_modCore h ..) ..

end Sys2Proof.Machine
end

section
/-! PROOF. Each command's execution goes onward. -/
namespace Sys2Proof.Machine
open Config

-- One proof at a time: many at once would pass the memory limit of the check.
set_option Elab.async false

theorem steps_hbmReadReturn (s_ line : Nat) (s : State) : StepsOnward s (execHbmReadReturn s_ line s) :=
  steps_onUnit (still_fillArrive (Still.refl s) ..).toAside.onward _ _

theorem steps_flueVictimAccepted (s_ line : Nat) (s : State) : StepsOnward s (execFlueVictimAccepted s_ line s) :=
  steps_onUnit (still_victimTaken (Still.refl s) ..).toAside.onward _ _

theorem steps_kindlingDataArrive (s_ line : Nat) (s : State) : StepsOnward s (execKindlingDataArrive s_ line s) := by
  have h := Onward.refl s
  refine steps_onUnit ?_ _ _
  grind only [onward_kindleArrive, onward_wake]

theorem steps_streamEntryExpire (s_ i : Nat) (s : State) : StepsOnward s (execStreamEntryExpire s_ i s) := by
  have h := Onward.refl s
  refine steps_onUnit ?_ _ _
  grind only [onward_modSlice, onward_mk]

theorem steps_sweepStep (s_ : Nat) (s : State) : StepsOnward s (execSweepStep s_ s) :=
  steps_onUnit (onward_sweepStep (Onward.refl s) ..) _ _

theorem steps_quenchWalkStep (s_ : Nat) (s : State) : StepsOnward s (execQuenchWalkStep s_ s) :=
  steps_onUnit (still_quenchStep (Still.refl s) _).toAside.onward _ _

theorem steps_wayPowerUpDone (s_ : Nat) (way : BitVec 4) (s : State) : StepsOnward s (execWayPowerUpDone s_ way s) :=
  steps_onUnit (still_powerUpDone (Still.refl s) ..).toAside.onward _ _

theorem steps_poisonNotice (s_ line : Nat) (s : State) : StepsOnward s (execPoisonNotice s_ line s) := by
  have h := Onward.refl s
  refine steps_onUnit ?_ _ _
  grind only [onward_poisonNotice, onward_wake]

theorem steps_wayErrorCountClear (s : State) : StepsOnward s (execWayErrorCountClear s) := by
  have h := Onward.refl s
  refine steps_next ?_
  grind only [onward_foldl, onward_modSlice, onward_mk]

theorem steps_portQuiesced (p : Nat) (s : State) : StepsOnward s (execPortQuiesced p s) := by
  have h := Onward.refl s
  refine steps_onUnit ?_ _ _
  grind only [onward_modPort, onward_enablePort, onward_mk]

theorem steps_electricalIdleExit (p : Nat) (s : State) : StepsOnward s (execElectricalIdleExit p s) := by
  have h := Onward.refl s
  refine steps_onUnit ?_ _ _
  grind only [onward_modPort, onward_mk]

theorem steps_equalizeComplete (p : Nat) (r : EqResult) (s : State) : StepsOnward s (execEqualizeComplete p r s) := by
  have h := Onward.refl s
  refine steps_onUnit ?_ _ _
  grind only [onward_markBad, onward_trainFail, onward_modPort, onward_mk]

theorem steps_lockComplete (p : Nat) (r : LockResult) (s : State) : StepsOnward s (execLockComplete p r s) := by
  have h := Onward.refl s
  refine steps_onUnit ?_ _ _
  grind only [onward_markBad, onward_modPort, onward_mk]

theorem steps_paramComplete (p : Nat) (partner : PartnerParam) (s : State) : StepsOnward s (execParamComplete p partner s) := by
  have h := Onward.refl s
  refine steps_onUnit ?_ _ _
  grind only [onward_trainFail, onward_setWidth, onward_modPort, onward_reached, onward_mk]

theorem steps_trainingTimeout (p : Nat) (failed : BitVec 8) (s : State) : StepsOnward s (execTrainingTimeout p failed s) := by
  have h := Onward.refl s
  refine steps_onUnit ?_ _ _
  grind only [onward_trainFail, onward_markBad, onward_mk]

theorem steps_downWaitExpire (p : Nat) (s : State) : StepsOnward s (execDownWaitExpire p s) := by
  have h := Onward.refl s
  refine steps_onUnit ?_ _ _
  grind only [onward_modPort, onward_mk]

theorem steps_flitReceive (p : Nat) (bytes : List Byte) (rs : RsOutcome) (s : State) : StepsOnward s (execFlitReceive p bytes rs s) := by
  have h := Onward.refl s
  refine steps_onUnit ?_ _ _
  grind only [onward_flitIn, onward_earlyFlit, onward_mk]

theorem steps_flitTransmit (p : Nat) (s : State) : StepsOnward s (execFlitTransmit p s) := by
  have h := Onward.refl s
  refine steps_onUnit ?_ _ _
  grind only [onward_flitOut]

theorem steps_nakReceive (p : Nat) (ack : BitVec 9) (s : State) : StepsOnward s (execNakReceive p ack s) :=
  steps_onUnit (onward_nakReceive (Onward.refl s) ..) _ _

theorem steps_replayTimeout (p : Nat) (s : State) : StepsOnward s (execReplayTimeout p s) := by
  have h := Onward.refl s
  refine steps_onUnit ?_ _ _
  grind only [onward_startReplay]

theorem steps_recoverComplete (p : Nat) (r : EqResult) (partner : PartnerParam) (partnerAck : BitVec 9) (s : State) : StepsOnward s (execRecoverComplete p r partner partnerAck s) := by
  have h := Onward.refl s
  refine steps_onUnit ?_ _ _
  grind only [onward_markBad, onward_linkDown, onward_setWidth, onward_takeAck, onward_modPort, onward_mk]

theorem steps_recoverOverrun (p : Nat) (s : State) : StepsOnward s (execRecoverOverrun p s) := by
  have h := Onward.refl s
  refine steps_onUnit ?_ _ _
  grind only [onward_linkDown]

theorem steps_laneErrorWindow (p : Nat) (lane : BitVec 3) (corrected : Nat) (s : State) : StepsOnward s (execLaneErrorWindow p lane corrected s) := by
  have h := Onward.refl s
  refine steps_onUnit ?_ _ _
  grind only [onward_enterRecover, onward_markBad]

theorem steps_laneLockLoss (p : Nat) (lane : BitVec 3) (s : State) : StepsOnward s (execLaneLockLoss p lane s) := by
  have h := Onward.refl s
  refine steps_onUnit ?_ _ _
  grind only [onward_modPort, onward_enterRecover, onward_markBad, onward_mk]

theorem steps_idleReqReceive (p : Nat) (s : State) : StepsOnward s (execIdleReqReceive p s) := by
  have h := Onward.refl s
  refine steps_onUnit ?_ _ _
  grind only [onward_enterIdle, onward_sendBare, onward_answerTraffic]

theorem steps_idleAckReceive (p : Nat) (s : State) : StepsOnward s (execIdleAckReceive p s) := by
  have h := Onward.refl s
  refine steps_onUnit ?_ _ _
  grind only [onward_enterIdle]

theorem steps_idleReqTimeout (p : Nat) (s : State) : StepsOnward s (execIdleReqTimeout p s) := by
  have h := Onward.refl s
  refine steps_onUnit ?_ _ _
  grind only [onward_modPort, onward_mk]

theorem steps_linkIdleWake (p : Nat) (rxActivity : Bool) (s : State) : StepsOnward s (execLinkIdleWake p rxActivity s) := by
  have h := Onward.refl s
  refine steps_onUnit ?_ _ _
  grind only [onward_enterRecover, onward_wake, onward_modPort, onward_mk]

theorem steps_relockTimeout (p : Nat) (s : State) : StepsOnward s (execRelockTimeout p s) := by
  have h := Onward.refl s
  refine steps_onUnit ?_ _ _
  grind only [onward_modPort, onward_mk]

theorem steps_snpAckI (src : AgentId) (tag : Tag) (addr : PA) (s : State) : StepsOnward s (execSnpAckI src tag addr s) :=
  steps_next (onward_srspArrive (Onward.refl s) ..)

theorem steps_snpAckS (src : AgentId) (tag : Tag) (addr : PA) (s : State) : StepsOnward s (execSnpAckS src tag addr s) :=
  steps_next (onward_srspArrive (Onward.refl s) ..)

theorem steps_snpDataI (src : AgentId) (tag : Tag) (addr : PA) (dirty : Bool) (data : LineData) (poison : Bool) (s : State) : StepsOnward s (execSnpDataI src tag addr dirty data poison s) := by
  have h := Onward.refl s
  refine steps_next ?_
  grind only [onward_srspArrive]

theorem steps_snpDataS (src : AgentId) (tag : Tag) (addr : PA) (dirty : Bool) (data : LineData) (poison : Bool) (s : State) : StepsOnward s (execSnpDataS src tag addr dirty data poison s) := by
  have h := Onward.refl s
  refine steps_next ?_
  grind only [onward_srspArrive]

theorem steps_snpGone (src : AgentId) (tag : Tag) (addr : PA) (s : State) : StepsOnward s (execSnpGone src tag addr s) :=
  steps_next (onward_srspArrive (Onward.refl s) ..)

theorem steps_snpMiss (src : AgentId) (tag : Tag) (addr : PA) (s : State) : StepsOnward s (execSnpMiss src tag addr s) :=
  steps_next (onward_srspArrive (Onward.refl s) ..)

theorem steps_evictClean (src : AgentId) (tag : Tag) (addr : PA) (s : State) : StepsOnward s (execEvictClean src tag addr s) :=
  steps_next (onward_srspArrive (Onward.refl s) ..)

theorem steps_evictDirty (src : AgentId) (tag : Tag) (addr : PA) (data : LineData) (poison : Bool) (s : State) : StepsOnward s (execEvictDirty src tag addr data poison s) := by
  have h := Onward.refl s
  refine steps_next ?_
  grind only [onward_srspArrive]

theorem steps_gack (src : AgentId) (tag : Tag) (addr : PA) (s : State) : StepsOnward s (execGack src tag addr s) :=
  steps_next (onward_srspArrive (Onward.refl s) ..)

theorem steps_snoopTimeout (agent : AgentId) (addr : PA) (s : State) : StepsOnward s (execSnoopTimeout agent addr s) := by
  have h := Onward.refl s
  refine steps_next ?_
  grind only [onward_goOn, onward_timeoutSnoop, onward_mk]

theorem steps_purgeNotice (src : AgentId) (agents : Word) (s : State) : StepsOnward s (execPurgeNotice src agents s) := by
  have h := Onward.refl s
  refine steps_next ?_
  grind only [onward_takeMsg, onward_purgeAgents]

theorem steps_purgeSweepComplete (s : State) : StepsOnward s (execPurgeSweepComplete s) := by
  have h := Onward.refl s
  refine steps_next ?_
  grind only [onward_foldl, onward_purgeSlice, onward_mk]

theorem steps_eventSequence (unit : Nat) (s : State) : StepsOnward s (execEventSequence unit s) :=
  steps_next (onward_sequenceNext (Onward.refl s) ..)

theorem steps_eventMsgSend (s : State) : StepsOnward s (execEventMsgSend s) :=
  steps_next (onward_eventMsgSend (Onward.refl s) ..)

theorem steps_hbmScheduleCommand (pc ck : Nat) (s : State) : StepsOnward s (execHbmScheduleCommand pc ck s) :=
  steps_onUnit (onward_schedule (Onward.refl s) ..) _ _

theorem steps_refreshDue (at_ : PcTime) (sid bank : Nat) (s : State) : StepsOnward s (execRefreshDue at_ sid bank s) := by
  have h := Onward.refl s
  refine steps_onUnit ?_ _ _
  grind only [onward_modPc, onward_mk]

theorem steps_rowIdleClose (pc sid bank ck : Nat) (s : State) : StepsOnward s (execRowIdleClose pc sid bank ck s) := by
  have h := Onward.refl s
  refine steps_onUnit ?_ _ _
  grind only [onward_issueCommand]

theorem steps_writeEntryRetire (at_ : PcTime) (s : State) : StepsOnward s (execWriteEntryRetire at_ s) := by
  have h := Onward.refl s
  refine steps_onUnit ?_ _ _
  grind only [onward_dramStore, onward_drainAll, onward_modPc, onward_setMode, onward_mk]

theorem steps_hbmReadDecode (at_ : PcTime) (noise : List SymErr) (s : State) : StepsOnward s (execHbmReadDecode at_ noise s) := by
  have h := Onward.refl s
  refine steps_onUnit ?_ _ _
  grind only [onward_modPc, onward_decodeLine, onward_afterRead, onward_returnLine, onward_mk]

theorem steps_scrubRead (pc : Nat) (s : State) : StepsOnward s (execScrubRead pc s) :=
  steps_onUnit (onward_scrubFalls (Onward.refl s) ..) _ _

theorem steps_softRepair (pc : Nat) (noise : List SymErr) (s : State) : StepsOnward s (execSoftRepair pc noise s) := by
  have h := Onward.refl s
  refine steps_onUnit ?_ _ _
  grind only [onward_softRepair]

theorem steps_periodicRetrain (pc : Nat) (r : RetrainResult) (s : State) : StepsOnward s (execPeriodicRetrain pc r s) := by
  have h := Onward.refl s
  refine steps_onUnit ?_ _ _
  grind only [onward_refreshAhead, onward_count, onward_fullRetrain, onward_trainPc]

theorem steps_add (core : Nat) (rd ra rb : BitVec 5) (s : State) : StepsOnward s (execAdd core rd ra rb s) :=
  steps_onCore (acts_aluRR _ _ _ _ _) _

theorem steps_sub (core : Nat) (rd ra rb : BitVec 5) (s : State) : StepsOnward s (execSub core rd ra rb s) :=
  steps_onCore (acts_aluRR _ _ _ _ _) _

theorem steps_and (core : Nat) (rd ra rb : BitVec 5) (s : State) : StepsOnward s (execAnd core rd ra rb s) :=
  steps_onCore (acts_aluRR _ _ _ _ _) _

theorem steps_or (core : Nat) (rd ra rb : BitVec 5) (s : State) : StepsOnward s (execOr core rd ra rb s) :=
  steps_onCore (acts_aluRR _ _ _ _ _) _

theorem steps_xor (core : Nat) (rd ra rb : BitVec 5) (s : State) : StepsOnward s (execXor core rd ra rb s) :=
  steps_onCore (acts_aluRR _ _ _ _ _) _

theorem steps_sll (core : Nat) (rd ra rb : BitVec 5) (s : State) : StepsOnward s (execSll core rd ra rb s) :=
  steps_onCore (acts_aluRR _ _ _ _ _) _

theorem steps_srl (core : Nat) (rd ra rb : BitVec 5) (s : State) : StepsOnward s (execSrl core rd ra rb s) :=
  steps_onCore (acts_aluRR _ _ _ _ _) _

theorem steps_sra (core : Nat) (rd ra rb : BitVec 5) (s : State) : StepsOnward s (execSra core rd ra rb s) :=
  steps_onCore (acts_aluRR _ _ _ _ _) _

theorem steps_slt (core : Nat) (rd ra rb : BitVec 5) (s : State) : StepsOnward s (execSlt core rd ra rb s) :=
  steps_onCore (acts_aluRR _ _ _ _ _) _

theorem steps_sltu (core : Nat) (rd ra rb : BitVec 5) (s : State) : StepsOnward s (execSltu core rd ra rb s) :=
  steps_onCore (acts_aluRR _ _ _ _ _) _

theorem steps_min (core : Nat) (rd ra rb : BitVec 5) (s : State) : StepsOnward s (execMin core rd ra rb s) :=
  steps_onCore (acts_aluRR _ _ _ _ _) _

theorem steps_max (core : Nat) (rd ra rb : BitVec 5) (s : State) : StepsOnward s (execMax core rd ra rb s) :=
  steps_onCore (acts_aluRR _ _ _ _ _) _

theorem steps_minu (core : Nat) (rd ra rb : BitVec 5) (s : State) : StepsOnward s (execMinu core rd ra rb s) :=
  steps_onCore (acts_aluRR _ _ _ _ _) _

theorem steps_maxu (core : Nat) (rd ra rb : BitVec 5) (s : State) : StepsOnward s (execMaxu core rd ra rb s) :=
  steps_onCore (acts_aluRR _ _ _ _ _) _

theorem steps_mul (core : Nat) (rd ra rb : BitVec 5) (s : State) : StepsOnward s (execMul core rd ra rb s) :=
  steps_onCore (acts_aluRR _ _ _ _ _) _

theorem steps_mulh (core : Nat) (rd ra rb : BitVec 5) (s : State) : StepsOnward s (execMulh core rd ra rb s) :=
  steps_onCore (acts_aluRR _ _ _ _ _) _

theorem steps_mulhu (core : Nat) (rd ra rb : BitVec 5) (s : State) : StepsOnward s (execMulhu core rd ra rb s) :=
  steps_onCore (acts_aluRR _ _ _ _ _) _

theorem steps_div (core : Nat) (rd ra rb : BitVec 5) (s : State) : StepsOnward s (execDiv core rd ra rb s) :=
  steps_onCore (acts_aluRR _ _ _ _ _) _

theorem steps_divu (core : Nat) (rd ra rb : BitVec 5) (s : State) : StepsOnward s (execDivu core rd ra rb s) :=
  steps_onCore (acts_aluRR _ _ _ _ _) _

theorem steps_rem (core : Nat) (rd ra rb : BitVec 5) (s : State) : StepsOnward s (execRem core rd ra rb s) :=
  steps_onCore (acts_aluRR _ _ _ _ _) _

theorem steps_remu (core : Nat) (rd ra rb : BitVec 5) (s : State) : StepsOnward s (execRemu core rd ra rb s) :=
  steps_onCore (acts_aluRR _ _ _ _ _) _

theorem steps_addImmediate (core : Nat) (rd ra : BitVec 5) (imm : BitVec 16) (s : State) : StepsOnward s (execAddImmediate core rd ra imm s) :=
  steps_onCore (acts_aluRI _ _ _ _ _) _

theorem steps_andImmediate (core : Nat) (rd ra : BitVec 5) (imm : BitVec 16) (s : State) : StepsOnward s (execAndImmediate core rd ra imm s) :=
  steps_onCore (acts_aluRI _ _ _ _ _) _

theorem steps_orImmediate (core : Nat) (rd ra : BitVec 5) (imm : BitVec 16) (s : State) : StepsOnward s (execOrImmediate core rd ra imm s) :=
  steps_onCore (acts_aluRI _ _ _ _ _) _

theorem steps_xorImmediate (core : Nat) (rd ra : BitVec 5) (imm : BitVec 16) (s : State) : StepsOnward s (execXorImmediate core rd ra imm s) :=
  steps_onCore (acts_aluRI _ _ _ _ _) _

theorem steps_sltImmediate (core : Nat) (rd ra : BitVec 5) (imm : BitVec 16) (s : State) : StepsOnward s (execSltImmediate core rd ra imm s) :=
  steps_onCore (acts_aluRI _ _ _ _ _) _

theorem steps_sltuImmediate (core : Nat) (rd ra : BitVec 5) (imm : BitVec 16) (s : State) : StepsOnward s (execSltuImmediate core rd ra imm s) :=
  steps_onCore (acts_aluRI _ _ _ _ _) _

theorem steps_sllImmediate (core : Nat) (rd ra : BitVec 5) (sh : BitVec 6) (s : State) : StepsOnward s (execSllImmediate core rd ra sh s) :=
  steps_onCore (acts_aluRI _ _ _ _ _) _

theorem steps_srlImmediate (core : Nat) (rd ra : BitVec 5) (sh : BitVec 6) (s : State) : StepsOnward s (execSrlImmediate core rd ra sh s) :=
  steps_onCore (acts_aluRI _ _ _ _ _) _

theorem steps_sraImmediate (core : Nat) (rd ra : BitVec 5) (sh : BitVec 6) (s : State) : StepsOnward s (execSraImmediate core rd ra sh s) :=
  steps_onCore (acts_aluRI _ _ _ _ _) _

theorem steps_lui (core : Nat) (rd : BitVec 5) (imm : BitVec 21) (s : State) : StepsOnward s (execLui core rd imm s) :=
  steps_onCore (fun _ => acts_reg _ _) _

theorem steps_addhi (core : Nat) (rd : BitVec 5) (imm : BitVec 21) (s : State) : StepsOnward s (execAddhi core rd imm s) :=
  steps_onCore (fun _ => acts_reg _ _) _

theorem steps_brEq (core : Nat) (ra rb : BitVec 5) (off : BitVec 13) (s : State) : StepsOnward s (execBrEq core ra rb off s) :=
  steps_onCore (acts_branch _ _ _ _ _) _

theorem steps_brNe (core : Nat) (ra rb : BitVec 5) (off : BitVec 13) (s : State) : StepsOnward s (execBrNe core ra rb off s) :=
  steps_onCore (acts_branch _ _ _ _ _) _

theorem steps_brLt (core : Nat) (ra rb : BitVec 5) (off : BitVec 13) (s : State) : StepsOnward s (execBrLt core ra rb off s) :=
  steps_onCore (acts_branch _ _ _ _ _) _

theorem steps_brGe (core : Nat) (ra rb : BitVec 5) (off : BitVec 13) (s : State) : StepsOnward s (execBrGe core ra rb off s) :=
  steps_onCore (acts_branch _ _ _ _ _) _

theorem steps_brLtu (core : Nat) (ra rb : BitVec 5) (off : BitVec 13) (s : State) : StepsOnward s (execBrLtu core ra rb off s) :=
  steps_onCore (acts_branch _ _ _ _ _) _

theorem steps_brGeu (core : Nat) (ra rb : BitVec 5) (off : BitVec 13) (s : State) : StepsOnward s (execBrGeu core ra rb off s) :=
  steps_onCore (acts_branch _ _ _ _ _) _

theorem steps_jal (core : Nat) (rd : BitVec 5) (off : BitVec 21) (s : State) : StepsOnward s (execJal core rd off s) :=
  steps_onCore (fun _ => acts_jumps _ _ _) _

theorem steps_jr (core : Nat) (rd ra : BitVec 5) (imm : BitVec 16) (s : State) : StepsOnward s (execJr core rd ra imm s) :=
  steps_onCore (fun _ => acts_ite (acts_cause _) (acts_jumps _ _ _)) _

theorem steps_wadd (core : Nat) (ew : BitVec 2) (wd wa wb : BitVec 4) (s : State) : StepsOnward s (execWadd core ew wd wa wb s) :=
  steps_onCore (acts_wideOp _ _ _ _ _) _

theorem steps_wsub (core : Nat) (ew : BitVec 2) (wd wa wb : BitVec 4) (s : State) : StepsOnward s (execWsub core ew wd wa wb s) :=
  steps_onCore (acts_wideOp _ _ _ _ _) _

theorem steps_wcmpEq (core : Nat) (ew : BitVec 2) (wd wa wb : BitVec 4) (s : State) : StepsOnward s (execWcmpEq core ew wd wa wb s) :=
  steps_onCore (acts_wideOp _ _ _ _ _) _

theorem steps_wcmpLt (core : Nat) (ew : BitVec 2) (wd wa wb : BitVec 4) (s : State) : StepsOnward s (execWcmpLt core ew wd wa wb s) :=
  steps_onCore (acts_wideOp _ _ _ _ _) _

theorem steps_wcmpLtu (core : Nat) (ew : BitVec 2) (wd wa wb : BitVec 4) (s : State) : StepsOnward s (execWcmpLtu core ew wd wa wb s) :=
  steps_onCore (acts_wideOp _ _ _ _ _) _

theorem steps_wand (core : Nat) (wd wa wb : BitVec 4) (s : State) : StepsOnward s (execWand core wd wa wb s) :=
  steps_onCore (acts_wideOp _ _ _ _ _) _

theorem steps_wor (core : Nat) (wd wa wb : BitVec 4) (s : State) : StepsOnward s (execWor core wd wa wb s) :=
  steps_onCore (acts_wideOp _ _ _ _ _) _

theorem steps_wxor (core : Nat) (wd wa wb : BitVec 4) (s : State) : StepsOnward s (execWxor core wd wa wb s) :=
  steps_onCore (acts_wideOp _ _ _ _ _) _

theorem steps_wshuf (core : Nat) (wd wa wb : BitVec 4) (s : State) : StepsOnward s (execWshuf core wd wa wb s) :=
  steps_onCore (acts_wideOp _ _ _ _ _) _

theorem steps_wext (core : Nat) (ew : BitVec 2) (rd : BitVec 5) (wa : BitVec 4) (lane_ : BitVec 5) (s : State) : StepsOnward s (execWext core ew rd wa lane_ s) :=
  steps_onCore (fun _ => acts_ite (acts_cause _) (acts_reg _ _)) _

theorem steps_wins (core : Nat) (ew : BitVec 2) (wd : BitVec 4) (ra lane_ : BitVec 5) (s : State) : StepsOnward s (execWins core ew wd ra lane_ s) :=
  steps_onCore (fun _ => acts_ite (acts_cause _) (acts_reg _ _)) _

theorem steps_wspl (core : Nat) (ew : BitVec 2) (wd : BitVec 4) (ra : BitVec 5) (s : State) : StepsOnward s (execWspl core ew wd ra s) :=
  steps_onCore (fun _ => acts_reg _ _) _

theorem steps_wredAdd (core : Nat) (ew : BitVec 2) (rd : BitVec 5) (wa : BitVec 4) (s : State) : StepsOnward s (execWredAdd core ew rd wa s) :=
  steps_onCore (acts_reduce _ _ _ _ _) _

theorem steps_wredMin (core : Nat) (ew : BitVec 2) (rd : BitVec 5) (wa : BitVec 4) (s : State) : StepsOnward s (execWredMin core ew rd wa s) :=
  steps_onCore (acts_reduce _ _ _ _ _) _

theorem steps_wredMax (core : Nat) (ew : BitVec 2) (rd : BitVec 5) (wa : BitVec 4) (s : State) : StepsOnward s (execWredMax core ew rd wa s) :=
  steps_onCore (acts_reduce _ _ _ _ _) _

theorem steps_wredXor (core : Nat) (ew : BitVec 2) (rd : BitVec 5) (wa : BitVec 4) (s : State) : StepsOnward s (execWredXor core ew rd wa s) :=
  steps_onCore (acts_reduce _ _ _ _ _) _

theorem steps_wcrc (core : Nat) (crc64 : Bool) (rd ra : BitVec 5) (wb : BitVec 4) (s : State) : StepsOnward s (execWcrc core crc64 rd ra wb s) :=
  steps_onCore (fun _ => acts_reg _ _) _

theorem steps_whash (core : Nat) (rd ra : BitVec 5) (wb : BitVec 4) (s : State) : StepsOnward s (execWhash core rd ra wb s) :=
  steps_onCore (fun _ => acts_reg _ _) _

theorem steps_ldB (core : Nat) (rd ra : BitVec 5) (imm : BitVec 16) (s : State) : StepsOnward s (execLdB core rd ra imm s) :=
  steps_onCore (acts_loadOp _ _ _ _ _ _) _

theorem steps_ldH (core : Nat) (rd ra : BitVec 5) (imm : BitVec 16) (s : State) : StepsOnward s (execLdH core rd ra imm s) :=
  steps_onCore (acts_loadOp _ _ _ _ _ _) _

theorem steps_ldW (core : Nat) (rd ra : BitVec 5) (imm : BitVec 16) (s : State) : StepsOnward s (execLdW core rd ra imm s) :=
  steps_onCore (acts_loadOp _ _ _ _ _ _) _

theorem steps_ldD (core : Nat) (rd ra : BitVec 5) (imm : BitVec 16) (s : State) : StepsOnward s (execLdD core rd ra imm s) :=
  steps_onCore (acts_loadOp _ _ _ _ _ _) _

theorem steps_ldBu (core : Nat) (rd ra : BitVec 5) (imm : BitVec 16) (s : State) : StepsOnward s (execLdBu core rd ra imm s) :=
  steps_onCore (acts_loadOp _ _ _ _ _ _) _

theorem steps_ldHu (core : Nat) (rd ra : BitVec 5) (imm : BitVec 16) (s : State) : StepsOnward s (execLdHu core rd ra imm s) :=
  steps_onCore (acts_loadOp _ _ _ _ _ _) _

theorem steps_ldWu (core : Nat) (rd ra : BitVec 5) (imm : BitVec 16) (s : State) : StepsOnward s (execLdWu core rd ra imm s) :=
  steps_onCore (acts_loadOp _ _ _ _ _ _) _

theorem steps_ldw (core : Nat) (wd : BitVec 4) (ra : BitVec 5) (imm : BitVec 16) (s : State) : StepsOnward s (execLdw core wd ra imm s) :=
  steps_onCore (acts_loadOp _ _ _ _ _ _) _

theorem steps_stB (core : Nat) (rb ra : BitVec 5) (imm : BitVec 16) (s : State) : StepsOnward s (execStB core rb ra imm s) :=
  steps_onCore (acts_storeOp _ _ _ _ _) _

theorem steps_stH (core : Nat) (rb ra : BitVec 5) (imm : BitVec 16) (s : State) : StepsOnward s (execStH core rb ra imm s) :=
  steps_onCore (acts_storeOp _ _ _ _ _) _

theorem steps_stW (core : Nat) (rb ra : BitVec 5) (imm : BitVec 16) (s : State) : StepsOnward s (execStW core rb ra imm s) :=
  steps_onCore (acts_storeOp _ _ _ _ _) _

theorem steps_stD (core : Nat) (rb ra : BitVec 5) (imm : BitVec 16) (s : State) : StepsOnward s (execStD core rb ra imm s) :=
  steps_onCore (acts_storeOp _ _ _ _ _) _

theorem steps_stw (core : Nat) (wb : BitVec 4) (ra : BitVec 5) (imm : BitVec 16) (s : State) : StepsOnward s (execStw core wb ra imm s) :=
  steps_onCore (acts_storeOp _ _ _ _ _) _

theorem steps_amoAdd (core : Nat) (dword : Bool) (rd ra rb : BitVec 5) (s : State) : StepsOnward s (execAmoAdd core dword rd ra rb s) :=
  steps_onCore (acts_amoOp _ _ _ _ _ _ _) _

theorem steps_amoSwp (core : Nat) (dword : Bool) (rd ra rb : BitVec 5) (s : State) : StepsOnward s (execAmoSwp core dword rd ra rb s) :=
  steps_onCore (acts_amoOp _ _ _ _ _ _ _) _

theorem steps_amoCas (core : Nat) (dword : Bool) (rd ra rb rc : BitVec 5) (s : State) : StepsOnward s (execAmoCas core dword rd ra rb rc s) :=
  steps_onCore (acts_amoOp _ _ _ _ _ _ _) _

theorem steps_amoMin (core : Nat) (dword : Bool) (rd ra rb : BitVec 5) (s : State) : StepsOnward s (execAmoMin core dword rd ra rb s) :=
  steps_onCore (acts_amoOp _ _ _ _ _ _ _) _

theorem steps_amoMax (core : Nat) (dword : Bool) (rd ra rb : BitVec 5) (s : State) : StepsOnward s (execAmoMax core dword rd ra rb s) :=
  steps_onCore (acts_amoOp _ _ _ _ _ _ _) _

theorem steps_amoAnd (core : Nat) (dword : Bool) (rd ra rb : BitVec 5) (s : State) : StepsOnward s (execAmoAnd core dword rd ra rb s) :=
  steps_onCore (acts_amoOp _ _ _ _ _ _ _) _

theorem steps_amoOr (core : Nat) (dword : Bool) (rd ra rb : BitVec 5) (s : State) : StepsOnward s (execAmoOr core dword rd ra rb s) :=
  steps_onCore (acts_amoOp _ _ _ _ _ _ _) _

theorem steps_amoXor (core : Nat) (dword : Bool) (rd ra rb : BitVec 5) (s : State) : StepsOnward s (execAmoXor core dword rd ra rb s) :=
  steps_onCore (acts_amoOp _ _ _ _ _ _ _) _

theorem steps_lresW (core : Nat) (rd ra : BitVec 5) (s : State) : StepsOnward s (execLresW core rd ra s) :=
  steps_onCore (acts_lresOp _ _ _ _) _

theorem steps_lresD (core : Nat) (rd ra : BitVec 5) (s : State) : StepsOnward s (execLresD core rd ra s) :=
  steps_onCore (acts_lresOp _ _ _ _) _

theorem steps_scndW (core : Nat) (rd ra rb : BitVec 5) (s : State) : StepsOnward s (execScndW core rd ra rb s) :=
  steps_onCore (acts_scndOp _ _ _ _ _) _

theorem steps_scndD (core : Nat) (rd ra rb : BitVec 5) (s : State) : StepsOnward s (execScndD core rd ra rb s) :=
  steps_onCore (acts_scndOp _ _ _ _ _) _

theorem steps_zln (core : Nat) (ra : BitVec 5) (imm : BitVec 16) (s : State) : StepsOnward s (execZln core ra imm s) :=
  steps_onCore (acts_cacheOp _ _ _ _) _

theorem steps_pfk (core : Nat) (ra : BitVec 5) (imm : BitVec 16) (s : State) : StepsOnward s (execPfk core ra imm s) :=
  steps_onCore (acts_cacheOp _ _ _ _) _

theorem steps_cln (core : Nat) (ra : BitVec 5) (imm : BitVec 16) (s : State) : StepsOnward s (execCln core ra imm s) :=
  steps_onCore (acts_cacheOp _ _ _ _) _

theorem steps_cinv (core : Nat) (ra : BitVec 5) (imm : BitVec 16) (s : State) : StepsOnward s (execCinv core ra imm s) :=
  steps_onCore (acts_cacheOp _ _ _ _) _

theorem steps_storeBufferDrain (core : Nat) (s : State) : StepsOnward s (execStoreBufferDrain core s) :=
  steps_onUnit (onward_sbDrain (Onward.refl s) ..) _ _

theorem steps_gatherHoldExpire (c i : Nat) (s : State) : StepsOnward s (execGatherHoldExpire c i s) := by
  have h := Onward.refl s
  refine steps_onUnit ?_ _ _
  grind only [onward_drainLine, onward_mk]

theorem steps_scribeResponseReturn (core : Nat) (poison : Bool) (refused : Option Nat) (data : LineData) (s : State) : StepsOnward s (execScribeResponseReturn core poison refused data s) := by
  have h := Onward.refl s
  refine steps_onUnit ?_ _ _
  grind only [onward_clusterGo, onward_finishWait, onward_freeCoreTag, onward_takeMsg, onward_mk]

theorem steps_storeErr (c : Nat) (cores : BitVec 8) (addr : PA) (reason : BitVec 8) (s : State) : StepsOnward s (execStoreErr c cores addr reason s) := by
  have h := Onward.refl s
  refine steps_onUnit ?_ _ _
  grind only [onward_coreResponse, onward_clusterGo, onward_storeErr, onward_mk]

theorem steps_rdst (core : Nat) (rd : BitVec 5) (k : BitVec 12) (s : State) : StepsOnward s (execRdst core rd k s) :=
  steps_onCore (fun _ => acts_ite (acts_cause _) (acts_ite (acts_cause _) (acts_reg _ _))) _

theorem steps_wrst (core : Nat) (k : BitVec 12) (ra : BitVec 5) (s : State) : StepsOnward s (execWrst core k ra s) := by
  refine steps_onCore (fun x => ?_) _
  split
  · exact acts_cause _
  · exact acts_go fun _ _ h => onward_stWrite (onward_retire h _) ..

theorem steps_fenceCore (core : Nat) (s : State) : StepsOnward s (execFenceCore core s) :=
  steps_onCore (fun _ => acts_go fun _ _ h => onward_fenceCore h _) _

theorem steps_fenceClus (core : Nat) (s : State) : StepsOnward s (execFenceClus core s) :=
  steps_onCore (fun _ => acts_go fun _ _ h => onward_fenceClus h _) _

theorem steps_fenceSys (core : Nat) (s : State) : StepsOnward s (execFenceSys core s) :=
  steps_onCore (fun _ => acts_go fun _ _ h => onward_fenceSys h _) _

theorem steps_trap (core : Nat) (code : BitVec 8) (s : State) : StepsOnward s (execTrap core code s) :=
  steps_onCore (fun _ => acts_ite (acts_go fun _ _ h => onward_endTask (onward_retire h _) ..) (acts_trap _)) _

theorem steps_eret (core : Nat) (s : State) : StepsOnward s (execEret core s) :=
  steps_onCore (fun _ => acts_ite (acts_cause _) (acts_go fun _ _ h => onward_modCore (onward_retire h _) ..)) _

theorem steps_wfd (core : Nat) (rd ra : BitVec 5) (s : State) : StepsOnward s (execWfd core rd ra s) :=
  steps_onCore (fun _ => acts_go fun _ _ h => onward_wfdCheck (onward_modCore h ..) ..) _

theorem steps_wfdTimeout (core : Nat) (s : State) : StepsOnward s (execWfdTimeout core s) := by
  have h := Onward.refl s
  refine steps_onUnit ?_ _ _
  grind only [onward_wfdCheck, onward_modCore, onward_mk]

theorem steps_eventTaken (core : Nat) (s : State) : StepsOnward s (execEventTaken core s) := by
  have h := Onward.refl s
  refine steps_onUnit ?_ _ _
  grind only [onward_boundary, onward_checkForced, onward_takeEvent]

theorem steps_graceExpire (core : Nat) (s : State) : StepsOnward s (execGraceExpire core s) := by
  have h := Onward.refl s
  refine steps_onUnit ?_ _ _
  grind only [onward_checkForced, onward_modCore, onward_mk]

theorem steps_illegalWord (core : Nat) (word : Word) (s : State) : StepsOnward s (execIllegalWord core word s) :=
  steps_onCore (fun _ => acts_ite (acts_cause _) (acts_go fun _ _ h => h)) _

theorem steps_instructionFetchFault (core : Nat) (reason : BitVec 8) (s : State) : StepsOnward s (execInstructionFetchFault core reason s) :=
  steps_onCore (fun _ => acts_ite (acts_cause _) (acts_go fun _ _ h => h)) _

theorem steps_launchRecord (c : Nat) (r : LaunchRec) (s : State) : StepsOnward s (execLaunchRecord c r s) :=
  steps_onUnit (onward_launch (Onward.refl s) ..) _ _

theorem steps_taskStart (core : Nat) (s : State) : StepsOnward s (execTaskStart core s) :=
  steps_onUnit (onward_taskStart (Onward.refl s) ..) _ _

theorem steps_clusterResetComplete (c : Nat) (s : State) : StepsOnward s (execClusterResetComplete c s) := by
  have h := Onward.refl s
  refine steps_onUnit ?_ _ _
  grind only [onward_modCluster, onward_setFld, onward_mk]

theorem steps_descriptorFetch (e : Nat) (s : State) : StepsOnward s (execDescriptorFetch e s) :=
  steps_onUnit (onward_descriptorFetch (Onward.refl s) ..) _ _

theorem steps_copyDescriptor (e : Nat) (s : State) : StepsOnward s (execCopyDescriptor e s) := by
  have h := Onward.refl s
  refine steps_onUnit ?_ _ _
  grind only [onward_issue1]

theorem steps_fillDescriptor (e : Nat) (s : State) : StepsOnward s (execFillDescriptor e s) := by
  have h := Onward.refl s
  refine steps_onUnit ?_ _ _
  grind only [onward_issue1]

theorem steps_zeroDescriptor (e : Nat) (s : State) : StepsOnward s (execZeroDescriptor e s) :=
  steps_onUnit (onward_issue1 (Onward.refl s) ..) _ _

theorem steps_compareDescriptor (e : Nat) (s : State) : StepsOnward s (execCompareDescriptor e s) :=
  steps_onUnit (onward_issue1 (Onward.refl s) ..) _ _

theorem steps_crcDescriptor (e : Nat) (s : State) : StepsOnward s (execCrcDescriptor e s) :=
  steps_onUnit (onward_issue1 (Onward.refl s) ..) _ _

theorem steps_gatherDescriptor (e : Nat) (s : State) : StepsOnward s (execGatherDescriptor e s) :=
  steps_onUnit (onward_issue1 (Onward.refl s) ..) _ _

theorem steps_scatterDescriptor (e : Nat) (s : State) : StepsOnward s (execScatterDescriptor e s) :=
  steps_onUnit (onward_issue1 (Onward.refl s) ..) _ _

theorem steps_atomicDescriptor (e : Nat) (s : State) : StepsOnward s (execAtomicDescriptor e s) :=
  steps_onUnit (onward_issue1 (Onward.refl s) ..) _ _

theorem steps_maintDescriptor (e : Nat) (s : State) : StepsOnward s (execMaintDescriptor e s) :=
  steps_onUnit (onward_issue1 (Onward.refl s) ..) _ _

theorem steps_taskDescriptor (e : Nat) (s : State) : StepsOnward s (execTaskDescriptor e s) := by
  have h := Onward.refl s
  refine steps_onUnit ?_ _ _
  grind only [onward_launch, onward_modDesc, onward_mk]

theorem steps_msgDescriptor (e : Nat) (s : State) : StepsOnward s (execMsgDescriptor e s) := by
  have h := Onward.refl s
  refine steps_onUnit ?_ _ _
  grind only [onward_readBytes, onward_addJob, onward_modEngine, onward_mk]

theorem steps_waitDescriptor (e : Nat) (s : State) : StepsOnward s (execWaitDescriptor e s) := by
  have h := Onward.refl s
  refine steps_onUnit ?_ _ _
  grind only [onward_pollRead, onward_mk]

theorem steps_fenceDescriptor (n : Nat) (s : State) : StepsOnward s (execFenceDescriptor n s) := by
  have h := Onward.refl s
  refine steps_onUnit ?_ _ _
  grind only [onward_modInk, onward_count, onward_haltInk, onward_finishDesc, onward_mk]

theorem steps_waitPoll (e : Nat) (s : State) : StepsOnward s (execWaitPoll e s) := by
  have h := Onward.refl s
  refine steps_onUnit (onward_ite h ?_) _ _
  split
  · split
    · exact onward_ite (onward_pollRead (onward_served h _) ..) h
    · exact h
  · exact h

theorem steps_waitTimeout (n : Nat) (i : BitVec 16) (s : State) : StepsOnward s (execWaitTimeout n i s) := by
  have h := Onward.refl s
  refine steps_onUnit ?_ _ _
  grind only [onward_finishDesc, onward_modDesc, onward_mk]

theorem steps_descriptorComplete (n : Nat) (i : BitVec 16) (s : State) : StepsOnward s (execDescriptorComplete n i s) :=
  steps_onUnit (onward_writeRecord (Onward.refl s) ..) _ _

theorem steps_completionEventTimer (n : Nat) (s : State) : StepsOnward s (execCompletionEventTimer n s) := by
  have h := Onward.refl s
  refine steps_onUnit ?_ _ _
  grind only [onward_completionEvent]

theorem steps_counterHandoff (group : Nat) (s : State) : StepsOnward s (execCounterHandoff group s) :=
  steps_onUnit (onward_handoff (Onward.refl s) ..) _ _

theorem steps_thresholdSample (s : State) : StepsOnward s (execThresholdSample s) :=
  steps_next (onward_sampleAll (Onward.refl s) ..)

theorem steps_dumpPeriod (s : State) : StepsOnward s (execDumpPeriod s) :=
  steps_next (onward_dumpFalls (Onward.refl s) ..)

theorem steps_dumpDone (s : State) : StepsOnward s (execDumpDone s) := by
  have h := Onward.refl s
  refine steps_next ?_
  grind only [onward_dumpDone, onward_takeMsg]

theorem steps_blotterRecord (i : Nat) (s : State) : StepsOnward s (execBlotterRecord i s) := by
  have h := Onward.refl s
  refine steps_next ?_
  grind only [onward_wake, onward_modBlot, onward_blotDrop, onward_mk]

theorem steps_blotterDrainWrite (s : State) : StepsOnward s (execBlotterDrainWrite s) :=
  steps_next (onward_blotDrain (Onward.refl s) ..)

theorem steps_blotterRecordWaitExpire (s : State) : StepsOnward s (execBlotterRecordWaitExpire s) := by
  have h := Onward.refl s
  refine steps_next ?_
  grind only [onward_blotDrain, onward_modBlot, onward_mk]

theorem steps_domainGatingComplete (d : Nat) (s : State) : StepsOnward s (execDomainGatingComplete d s) :=
  steps_onUnit (onward_gatingDone (Onward.refl s) ..) _ _

theorem steps_domainIdleTimerExpiry (d : Nat) (s : State) : StepsOnward s (execDomainIdleTimerExpiry d s) :=
  steps_onUnit (onward_idleExpiry (Onward.refl s) ..) _ _

theorem steps_domainWake (d : Nat) (s : State) : StepsOnward s (execDomainWake d s) := by
  have h := Onward.refl s
  refine steps_onUnit ?_ _ _
  grind only [onward_wakeAccess, onward_wake]

theorem steps_damperPass (s : State) : StepsOnward s (execDamperPass s) := by
  have h := Onward.refl s
  refine steps_next ?_
  grind only [onward_damperPass]

theorem steps_extraRequest (d : Nat) (s : State) : StepsOnward s (execExtraRequest d s) := by
  have h := Onward.refl s
  refine steps_onUnit ?_ _ _
  grind only [onward_modDom, onward_mk]

theorem steps_extraReturn (d : Nat) (s : State) : StepsOnward s (execExtraReturn d s) := by
  have h := Onward.refl s
  refine steps_onUnit ?_ _ _
  grind only [onward_modDom, onward_mk]

theorem steps_pwrBrakeAssert (lowNs : Nat) (s : State) : StepsOnward s (execPwrBrakeAssert lowNs s) := by
  have h := Onward.refl s
  refine steps_next ?_
  grind only [onward_brakeOn, onward_mk]

theorem steps_pwrBrakeRelease (s : State) : StepsOnward s (execPwrBrakeRelease s) := by
  have h := Onward.refl s
  refine steps_next ?_
  grind only [onward_mk]

theorem steps_avsPoll (r : AvsReply) (s : State) : StepsOnward s (execAvsPoll r s) := by
  have h := Onward.refl s
  refine steps_next ?_
  grind only [onward_avsGood, onward_avsFail, onward_mk]

theorem steps_avsVoltageStep (r : AvsReply) (s : State) : StepsOnward s (execAvsVoltageStep r s) := by
  have h := Onward.refl s
  refine steps_next ?_
  grind only [onward_avsFail, onward_avsGood, onward_moveTarget, onward_moveRaise, onward_voteBudget]

theorem steps_damperTempRead (temps : List Int) (s : State) : StepsOnward s (execDamperTempRead temps s) := by
  have h := Onward.refl s
  refine steps_next ?_
  grind only [onward_thermJudge, onward_mk]

theorem steps_stackTempRead (k : Nat) (temps : List Int) (s : State) : StepsOnward s (execStackTempRead k temps s) := by
  have h := Onward.refl s
  refine steps_onUnit ?_ _ _
  grind only [onward_stackTemp]

theorem steps_ageMeasure (domain delay : Nat) (s : State) : StepsOnward s (execAgeMeasure domain delay s) := by
  have h := Onward.refl s
  refine steps_onUnit ?_ _ _
  grind only [onward_setErr, onward_mk]

theorem steps_wearAccumulate (mv : Nat) (degC : Int) (s : State) : StepsOnward s (execWearAccumulate mv degC s) := by
  have h := Onward.refl s
  refine steps_next ?_
  grind only [onward_setErr, onward_mk]

theorem steps_hang (domain : Nat) (s : State) : StepsOnward s (execHang domain s) := by
  have h := Onward.refl s
  refine steps_onUnit ?_ _ _
  grind only [onward_fatalErr]

theorem steps_enterFatalState (source : BitVec 8) (code : BitVec 7) (info : Word) (s : State) : StepsOnward s (execEnterFatalState source code info s) := by
  have h := Onward.refl s
  refine steps_next ?_
  grind only [onward_wr, onward_fatalErr, onward_allCold, onward_mk]

theorem steps_timebaseTick (s : State) : StepsOnward s (execTimebaseTick s) := by
  have h := Onward.refl s
  refine steps_next ?_
  grind only [onward_countGrain, onward_count, onward_nextWindow, onward_mk]

theorem steps_refclkLoss (q : Nat) (s : State) : StepsOnward s (execRefclkLoss q s) := by
  have h := Onward.refl s
  refine steps_onUnit ?_ _ _
  grind only [onward_refclkLost]

theorem steps_coldReset (lowNs : Nat) (stillLow : Bool) (s : State) : StepsOnward s (execColdReset lowNs stillLow s) := by
  have h := Onward.refl s
  refine steps_next ?_
  grind only [onward_freeB, onward_coldReset, onward_mk]

theorem steps_railUndervoltage (rail : Rail) (lowNs : Nat) (stillLow : Bool) (s : State) : StepsOnward s (execRailUndervoltage rail lowNs stillLow s) := by
  have h := Onward.refl s
  refine steps_next ?_
  grind only [onward_setRail, onward_coldReset]

theorem steps_resetNRise (s : State) : StepsOnward s (execResetNRise s) := by
  have h := Onward.refl s
  refine steps_next ?_
  grind only [onward_leaveReset, onward_mk]

theorem steps_timebaseLockReturn (s : State) : StepsOnward s (execTimebaseLockReturn s) := by
  have h := Onward.refl s
  refine steps_next ?_
  grind only [onward_leaveReset, onward_mk]

theorem steps_release (timedOut : Bool) (s : State) : StepsOnward s (execRelease timedOut s) := by
  have h := Onward.refl s
  refine steps_next ?_
  grind only [onward_reached, onward_releaseNow, onward_raise, onward_foldl]

theorem steps_fuseProgrammingComplete (verified : Bool) (s : State) : StepsOnward s (execFuseProgrammingComplete verified s) := by
  unfold execFuseProgrammingComplete
  refine steps_next ?_
  split
  next => exact Onward.refl s
  next op busy =>
    have freed := State.setFld_frame { s with boot := { s.boot with fuseBusy := none } } (bootReg 0x34) 4 1 0
    dsimp only
    generalize State.setFld { s with boot := { s.boot with fuseBusy := none } } (bootReg 0x34) 4 1 0 = a at freed ⊢
    have pending : a.pending = s.pending := by rw [freed]
    have fuses : a.nv.fuses = s.nv.fuses := by rw [freed]
    have idle : a.boot.fuseBusy = none := by rw [freed]
    have done : Onward s { a with nv := { a.nv with fuses := progRow a op verified } } := by
      refine onward_rest (Onward.refl s) pending (fun step => ?_) idle
      rw [← fuses]
      exact progRow_forward (fun key => by rw [fuses]; exact step (busy.trans (congrArg some key))) verified
    exact onward_ite (onward_setFld done ..) (onward_fuseErr done _)

theorem steps_crashLogWriteComplete (ok : Bool) (s : State) : StepsOnward s (execCrashLogWriteComplete ok s) := by
  have h := Onward.refl s
  refine steps_next ?_
  grind only [onward_setFld, onward_crashWrite, onward_mk]

theorem steps_cxCommandStart (s : State) : StepsOnward s (execCxCommandStart s) :=
  steps_next (onward_cxStart (Onward.refl s) ..)

theorem steps_nop (tag : BitVec 16) (s : State) : StepsOnward s (execNop tag s) := by
  have h := Onward.refl s
  refine steps_next ?_
  grind only [onward_modRun, onward_mk]

theorem steps_cxCopy (tag : BitVec 16) (s : State) : StepsOnward s (execCxCopy tag s) :=
  steps_next (onward_cxIssue (Onward.refl s) ..)

theorem steps_cxFill (tag : BitVec 16) (s : State) : StepsOnward s (execCxFill tag s) :=
  steps_next (onward_cxIssue (Onward.refl s) ..)

theorem steps_maintRange (tag : BitVec 16) (s : State) : StepsOnward s (execMaintRange tag s) :=
  steps_next (onward_cxIssue (Onward.refl s) ..)

theorem steps_maintSw (tag : BitVec 16) (s : State) : StepsOnward s (execMaintSw tag s) := by
  have h := Onward.refl s
  refine steps_next ?_
  grind only [onward_maintSw, onward_mk]

theorem steps_cxCommandComplete (s : State) : StepsOnward s (execCxCommandComplete s) :=
  steps_next (onward_cxComplete (Onward.refl s) ..)

theorem steps_registerWrite (m : Master) (off : BitVec 26) (bytes : Nat) (data : DWord) (s : State) : StepsOnward s (execRegisterWrite m off bytes data s) :=
  steps_next (onward_cwWrite (Onward.refl s) ..)

theorem steps_lowWordRead (m : Master) (off : BitVec 26) (s : State) : StepsOnward s (execLowWordRead m off s) :=
  steps_next (onward_cwRead (Onward.refl s) ..)

theorem steps_lowWordWrite (m : Master) (off : BitVec 26) (data : Word) (s : State) : StepsOnward s (execLowWordWrite m off data s) :=
  steps_next (onward_cwWrite (Onward.refl s) ..)

theorem steps_indDataRead (m : Master) (window : Bool) (s : State) : StepsOnward s (execIndDataRead m window s) := by
  have h := Onward.refl s
  refine steps_next ?_
  grind only [onward_cwRead]

theorem steps_indDataWrite (m : Master) (window : Bool) (data : Word) (s : State) : StepsOnward s (execIndDataWrite m window data s) :=
  steps_next (onward_writeNative (Onward.refl s) ..)

theorem steps_indClaimRead (m : Master) (s : State) : StepsOnward s (execIndClaimRead m s) := by
  have h := Onward.refl s
  refine steps_next ?_
  grind only [onward_cwRead]

theorem steps_indClaimRelease (m : Master) (s : State) : StepsOnward s (execIndClaimRelease m s) :=
  steps_next (onward_writeNative (Onward.refl s) ..)

theorem steps_mgmtEntdaa (da : BitVec 7) (s : State) : StepsOnward s (execMgmtEntdaa da s) := by
  have h := Onward.refl s
  refine steps_next ?_
  grind only [onward_readBytes, onward_mk]

theorem steps_mgmtSetPointer (bytes : List Byte) (s : State) : StepsOnward s (execMgmtSetPointer bytes s) :=
  steps_next (onward_mgmtPrivateWrite (Onward.refl s) ..)

theorem steps_mgmtWrite4 (ptr data : Word) (s : State) : StepsOnward s (execMgmtWrite4 ptr data s) :=
  steps_next (onward_mgmtWrite (Onward.refl s) ..)

theorem steps_mgmtWrite8 (ptr : Word) (data : DWord) (s : State) : StepsOnward s (execMgmtWrite8 ptr data s) :=
  steps_next (onward_mgmtWrite (Onward.refl s) ..)

theorem steps_mgmtPrivateRead (clocked : Nat) (s : State) : StepsOnward s (execMgmtPrivateRead clocked s) :=
  steps_next (onward_mgmtRead (Onward.refl s) ..)

theorem steps_portEnable (m : Master) (p : Nat) (s : State) : StepsOnward s (execPortEnable m p s) :=
  steps_onUnit (onward_writeField (Onward.refl s) ..) _ _

theorem steps_portDisable (m : Master) (p : Nat) (s : State) : StepsOnward s (execPortDisable m p s) :=
  steps_onUnit (onward_writeField (Onward.refl s) ..) _ _

theorem steps_portRetrain (m : Master) (p : Nat) (s : State) : StepsOnward s (execPortRetrain m p s) :=
  steps_onUnit (onward_writeField (Onward.refl s) ..) _ _

theorem steps_portReset (m : Master) (p : Nat) (s : State) : StepsOnward s (execPortReset m p s) :=
  steps_onUnit (onward_writeField (Onward.refl s) ..) _ _

theorem steps_hearthDisable (m : Master) (sl : Nat) (s : State) : StepsOnward s (execHearthDisable m sl s) :=
  steps_onUnit (onward_writeField (Onward.refl s) ..) _ _

theorem steps_hearthEnable (m : Master) (sl : Nat) (s : State) : StepsOnward s (execHearthEnable m sl s) :=
  steps_onUnit (onward_writeField (Onward.refl s) ..) _ _

theorem steps_wayQuench (m : Master) (sl : Nat) (ways : BitVec 16) (s : State) : StepsOnward s (execWayQuench m sl ways s) :=
  steps_onUnit (onward_writeWayq (Onward.refl s) ..) _ _

theorem steps_wayUnquench (m : Master) (sl : Nat) (ways : BitVec 16) (s : State) : StepsOnward s (execWayUnquench m sl ways s) :=
  steps_onUnit (onward_writeWayq (Onward.refl s) ..) _ _

theorem steps_slcMaintClean (m : Master) (sl : Nat) (s : State) : StepsOnward s (execSlcMaintClean m sl s) :=
  steps_onUnit (onward_slcMaint (Onward.refl s) ..) _ _

theorem steps_slcMaintInv (m : Master) (sl : Nat) (s : State) : StepsOnward s (execSlcMaintInv m sl s) :=
  steps_onUnit (onward_slcMaint (Onward.refl s) ..) _ _

theorem steps_slcMaintCleanInv (m : Master) (sl : Nat) (s : State) : StepsOnward s (execSlcMaintCleanInv m sl s) :=
  steps_onUnit (onward_slcMaint (Onward.refl s) ..) _ _

theorem steps_slcMaintCleanAll (m : Master) (sl : Nat) (s : State) : StepsOnward s (execSlcMaintCleanAll m sl s) :=
  steps_onUnit (onward_slcMaint (Onward.refl s) ..) _ _

theorem steps_hbmReload (m : Master) (k : Nat) (s : State) : StepsOnward s (execHbmReload m k s) :=
  steps_onUnit (onward_writeField (Onward.refl s) ..) _ _

theorem steps_abort (m : Master) (core : Nat) (s : State) : StepsOnward s (execAbort m core s) := by
  have h := Onward.refl s
  refine steps_onUnit ?_ _ _
  grind only [onward_writeNative]

theorem steps_knock (m : Master) (c : Nat) (cores : BitVec 8) (s : State) : StepsOnward s (execKnock m c cores s) :=
  steps_onUnit (onward_writeNative (Onward.refl s) ..) _ _

theorem steps_clusterDisable (m : Master) (c : Nat) (s : State) : StepsOnward s (execClusterDisable m c s) :=
  steps_onUnit (onward_writeField (Onward.refl s) ..) _ _

theorem steps_clusterEnable (m : Master) (c : Nat) (s : State) : StepsOnward s (execClusterEnable m c s) :=
  steps_onUnit (onward_writeField (Onward.refl s) ..) _ _

theorem steps_clusterReset (m : Master) (c : Nat) (s : State) : StepsOnward s (execClusterReset m c s) :=
  steps_onUnit (onward_writeField (Onward.refl s) ..) _ _

theorem steps_doorbellTailWrite (m : Master) (n : Nat) (v : Word) (s : State) : StepsOnward s (execDoorbellTailWrite m n v s) :=
  steps_onUnit (onward_writeNative (Onward.refl s) ..) _ _

theorem steps_doorbellCqHeadWrite (m : Master) (n : Nat) (v : Word) (s : State) : StepsOnward s (execDoorbellCqHeadWrite m n v s) :=
  steps_onUnit (onward_writeNative (Onward.refl s) ..) _ _

theorem steps_inkwellDisable (m : Master) (n : Nat) (s : State) : StepsOnward s (execInkwellDisable m n s) :=
  steps_onUnit (onward_writeField (Onward.refl s) ..) _ _

theorem steps_inkwellEnable (m : Master) (n : Nat) (s : State) : StepsOnward s (execInkwellEnable m n s) :=
  steps_onUnit (onward_writeField (Onward.refl s) ..) _ _

theorem steps_resetPtrs (m : Master) (n : Nat) (s : State) : StepsOnward s (execResetPtrs m n s) :=
  steps_onUnit (onward_writeField (Onward.refl s) ..) _ _

theorem steps_fifoPop (m : Master) (f : FifoId) (s : State) : StepsOnward s (execFifoPop m f s) := by
  unfold execFifoPop
  split
  · exact steps_next (onward_cwRead (Onward.refl s) ..)
  · exact fun _ run => absurd run nofun

theorem steps_fifoClear (m : Master) (f : FifoId) (s : State) : StepsOnward s (execFifoClear m f s) := by
  unfold execFifoClear
  split
  · exact steps_next (onward_cwWrite (Onward.refl s) ..)
  · exact fun _ run => absurd run nofun

theorem steps_cxCmdPush (m : Master) (data : Word) (s : State) : StepsOnward s (execCxCmdPush m data s) :=
  steps_next (onward_cwWrite (Onward.refl s) ..)

theorem steps_cxRspPop (m : Master) (s : State) : StepsOnward s (execCxRspPop m s) :=
  steps_next (onward_cwRead (Onward.refl s) ..)

theorem steps_cxRgnWrite (m : Master) (n : BitVec 4) (limit : Bool) (data : Word) (s : State) : StepsOnward s (execCxRgnWrite m n limit data s) := by
  have h := Onward.refl s
  refine steps_next ?_
  grind only [onward_cwWrite, onward_setWidth]

theorem steps_clearAll (m : Master) (s : State) : StepsOnward s (execClearAll m s) :=
  steps_next (onward_writeField (Onward.refl s) ..)

theorem steps_dumpNow (m : Master) (s : State) : StepsOnward s (execDumpNow m s) :=
  steps_next (onward_writeField (Onward.refl s) ..)

theorem steps_blotterEnable (m : Master) (s : State) : StepsOnward s (execBlotterEnable m s) :=
  steps_next (onward_writeField (Onward.refl s) ..)

theorem steps_warmReset (cause : WarmCause) (s : State) : StepsOnward s (execWarmReset cause s) := by
  have h := Onward.refl s
  refine steps_next ?_
  grind only [onward_warmPulse, onward_writeNative, onward_mk]

theorem steps_lifecycleTransition (m : Master) (target : BitVec 2) (confirm : BitVec 16) (verified : Bool) (s : State) : StepsOnward s (execLifecycleTransition m target confirm verified s) :=
  steps_next (onward_lcWrite (Onward.refl s) ..)

theorem steps_programKeyHash (m : Master) (s : State) : StepsOnward s (execProgramKeyHash m s) :=
  steps_next (onward_writeNative (Onward.refl s) ..)

theorem steps_programCompatLock (m : Master) (s : State) : StepsOnward s (execProgramCompatLock m s) :=
  steps_next (onward_writeNative (Onward.refl s) ..)

theorem steps_crashLogWrite (m : Master) (s : State) : StepsOnward s (execCrashLogWrite m s) :=
  steps_next (onward_writeNative (Onward.refl s) ..)

theorem steps_domainLitCommand (m : Master) (d : Nat) (s : State) : StepsOnward s (execDomainLitCommand m d s) :=
  steps_onUnit (onward_domCommand (Onward.refl s) ..) _ _

theorem steps_domainEmberCommand (m : Master) (d : Nat) (s : State) : StepsOnward s (execDomainEmberCommand m d s) :=
  steps_onUnit (onward_domCommand (Onward.refl s) ..) _ _

theorem steps_domainColdCommand (m : Master) (d : Nat) (s : State) : StepsOnward s (execDomainColdCommand m d s) :=
  steps_onUnit (onward_domCommand (Onward.refl s) ..) _ _

theorem steps_domainWakeComplete (d : Nat) (s : State) : StepsOnward s (execDomainWakeComplete d s) := by
  have h := Onward.refl s
  refine steps_onUnit ?_ _ _
  grind only [onward_resumeStalled, onward_wakeDone]

theorem steps_dataUc (src dst : AgentId) (tag : Tag) (data : LineData) (poison : Bool) (s : State) : StepsOnward s (execDataUc src dst tag data poison s) := by
  have h := Onward.refl s
  refine steps_next ?_
  grind only [onward_respondTo]

theorem steps_wrDone (src dst : AgentId) (tag : Tag) (s : State) : StepsOnward s (execWrDone src dst tag s) := by
  have h := Onward.refl s
  refine steps_next ?_
  grind only [onward_respondTo]

theorem steps_amoData (src dst : AgentId) (tag : Tag) (value : DWord) (poison : Bool) (s : State) : StepsOnward s (execAmoData src dst tag value poison s) := by
  have h := Onward.refl s
  refine steps_next ?_
  grind only [onward_respondTo]

theorem steps_cmp (src dst : AgentId) (tag : Tag) (s : State) : StepsOnward s (execCmp src dst tag s) :=
  steps_next (onward_respondTo (Onward.refl s) ..)

theorem steps_msgDone (src dst : AgentId) (tag : Tag) (full : Bool) (s : State) : StepsOnward s (execMsgDone src dst tag full s) := by
  have h := Onward.refl s
  refine steps_next ?_
  grind only [onward_respondTo]

theorem steps_noTarget (src dst : AgentId) (tag : Tag) (reason : BitVec 8) (s : State) : StepsOnward s (execNoTarget src dst tag reason s) :=
  steps_next (onward_respondTo (Onward.refl s) ..)

theorem steps_agentMsg (src dst : AgentId) (tag : Tag) (mbox : BitVec 3) (chan : BitVec 8) (payload : List Word) (s : State) : StepsOnward s (execAgentMsg src dst tag mbox chan payload s) := by
  have h := Onward.refl s
  refine steps_next ?_
  grind only [onward_takeMsg, onward_holdMsg, onward_agentMsg]

theorem steps_rdShared (src : AgentId) (tag : Tag) (addr : PA) (s : State) : StepsOnward s (execRdShared src tag addr s) :=
  steps_next (onward_plainRequest (Onward.refl s) ..)

theorem steps_rdOwn (src : AgentId) (tag : Tag) (addr : PA) (s : State) : StepsOnward s (execRdOwn src tag addr s) :=
  steps_next (onward_plainRequest (Onward.refl s) ..)

theorem steps_upgrade (src : AgentId) (tag : Tag) (addr : PA) (s : State) : StepsOnward s (execUpgrade src tag addr s) :=
  steps_next (onward_plainRequest (Onward.refl s) ..)

theorem steps_rdUc (src : AgentId) (tag : Tag) (priv : Bool) (addr : PA) (size : BitVec 3) (s : State) : StepsOnward s (execRdUc src tag priv addr size s) :=
  steps_next (onward_plainRequest (Onward.refl s) ..)

theorem steps_wrLine (src : AgentId) (tag : Tag) (addr : PA) (data : LineData) (poison : Bool) (s : State) : StepsOnward s (execWrLine src tag addr data poison s) :=
  steps_next (onward_plainRequest (Onward.refl s) ..)

theorem steps_wrPart (src : AgentId) (tag : Tag) (priv : Bool) (addr : PA) (mask : BitVec 64) (data : LineData) (poison : Bool) (s : State) : StepsOnward s (execWrPart src tag priv addr mask data poison s) :=
  steps_next (onward_plainRequest (Onward.refl s) ..)

theorem steps_zeroLine (src : AgentId) (tag : Tag) (addr : PA) (s : State) : StepsOnward s (execZeroLine src tag addr s) :=
  steps_next (onward_plainRequest (Onward.refl s) ..)

theorem steps_amo (src : AgentId) (tag : Tag) (addr : PA) (param : BitVec 8) (operand compare : DWord) (poison : Bool) (s : State) : StepsOnward s (execAmo src tag addr param operand compare poison s) :=
  steps_next (onward_plainRequest (Onward.refl s) ..)

theorem steps_maintClean (src : AgentId) (tag : Tag) (addr : PA) (s : State) : StepsOnward s (execMaintClean src tag addr s) :=
  steps_next (onward_maintRequest (Onward.refl s) ..)

theorem steps_maintInv (src : AgentId) (tag : Tag) (priv : Bool) (addr : PA) (s : State) : StepsOnward s (execMaintInv src tag priv addr s) :=
  steps_next (onward_maintRequest (Onward.refl s) ..)

theorem steps_maintCleanInv (src : AgentId) (tag : Tag) (addr : PA) (s : State) : StepsOnward s (execMaintCleanInv src tag addr s) :=
  steps_next (onward_maintRequest (Onward.refl s) ..)

theorem steps_maintCleanAll (src : AgentId) (tag : Tag) (addr : PA) (s : State) : StepsOnward s (execMaintCleanAll src tag addr s) :=
  steps_next (onward_maintRequest (Onward.refl s) ..)

theorem steps_prefetch (src : AgentId) (tag : Tag) (addr : PA) (s : State) : StepsOnward s (execPrefetch src tag addr s) :=
  steps_next (onward_plainRequest (Onward.refl s) ..)

theorem steps_messageForward (ingress : Option Nat) (msg : Msg) (s : State) : StepsOnward s (execMessageForward ingress msg s) :=
  steps_next (onward_forward (Onward.refl s) ..)

theorem steps_tvVoteSweep (upsets : List Upset) (s : State) : StepsOnward s (execTvVoteSweep upsets s) := by
  have h := Onward.refl s
  refine steps_next ?_
  grind only [onward_voteSweep, onward_foldl, onward_strike]

theorem steps_boundaryScan (trst tms tdi : Bool) (s : State) : StepsOnward s (execBoundaryScan trst tms tdi s) :=
  steps_next (onward_tapCycle (Onward.refl s) ..)

end Sys2Proof.Machine
end

section
/-! PROOF. Every command goes onward, and so no step takes a programmed fuse back (R446, R490, R492). -/
namespace Sys2Proof.Machine
variable {s t : State}

/-- Every command, in every state. -/
theorem steps_exec (c : Instr) (s : State) : StepsOnward s (exec c s) := by
  cases c with
  | coldReset lowNs stillLow => exact steps_coldReset lowNs stillLow s
  | railUndervoltage rail lowNs stillLow => exact steps_railUndervoltage rail lowNs stillLow s
  | release timedOut => exact steps_release timedOut s
  | warmReset cause => exact steps_warmReset cause s
  | portReset m p => exact steps_portReset m p s
  | lifecycleTransition m target confirm verified => exact steps_lifecycleTransition m target confirm verified s
  | programKeyHash m => exact steps_programKeyHash m s
  | programCompatLock m => exact steps_programCompatLock m s
  | timebaseTick => exact steps_timebaseTick s
  | refclkLoss q => exact steps_refclkLoss q s
  | timebaseLockReturn => exact steps_timebaseLockReturn s
  | enterFatalState source code info => exact steps_enterFatalState source code info s
  | hang domain => exact steps_hang domain s
  | damperTempRead temps => exact steps_damperTempRead temps s
  | stackTempRead k temps => exact steps_stackTempRead k temps s
  | ageMeasure domain delay => exact steps_ageMeasure domain delay s
  | wearAccumulate mv degC => exact steps_wearAccumulate mv degC s
  | pwrBrakeAssert lowNs => exact steps_pwrBrakeAssert lowNs s
  | pwrBrakeRelease => exact steps_pwrBrakeRelease s
  | registerWrite m off bytes data => exact steps_registerWrite m off bytes data s
  | lowWordRead m off => exact steps_lowWordRead m off s
  | lowWordWrite m off data => exact steps_lowWordWrite m off data s
  | tvVoteSweep upsets => exact steps_tvVoteSweep upsets s
  | indDataRead m window => exact steps_indDataRead m window s
  | indDataWrite m window data => exact steps_indDataWrite m window data s
  | indClaimRead m => exact steps_indClaimRead m s
  | indClaimRelease m => exact steps_indClaimRelease m s
  | mgmtEntdaa da => exact steps_mgmtEntdaa da s
  | mgmtSetPointer bytes => exact steps_mgmtSetPointer bytes s
  | mgmtWrite4 ptr data => exact steps_mgmtWrite4 ptr data s
  | mgmtWrite8 ptr data => exact steps_mgmtWrite8 ptr data s
  | mgmtPrivateRead clocked => exact steps_mgmtPrivateRead clocked s
  | portEnable m p => exact steps_portEnable m p s
  | portDisable m p => exact steps_portDisable m p s
  | portQuiesced p => exact steps_portQuiesced p s
  | purgeSweepComplete => exact steps_purgeSweepComplete s
  | portRetrain m p => exact steps_portRetrain m p s
  | electricalIdleExit p => exact steps_electricalIdleExit p s
  | equalizeComplete p r => exact steps_equalizeComplete p r s
  | lockComplete p r => exact steps_lockComplete p r s
  | paramComplete p partner => exact steps_paramComplete p partner s
  | trainingTimeout p failed => exact steps_trainingTimeout p failed s
  | downWaitExpire p => exact steps_downWaitExpire p s
  | flitReceive p bytes rs => exact steps_flitReceive p bytes rs s
  | flitTransmit p => exact steps_flitTransmit p s
  | nakReceive p ack => exact steps_nakReceive p ack s
  | replayTimeout p => exact steps_replayTimeout p s
  | recoverComplete p r partner partnerAck => exact steps_recoverComplete p r partner partnerAck s
  | recoverOverrun p => exact steps_recoverOverrun p s
  | laneErrorWindow p lane corrected => exact steps_laneErrorWindow p lane corrected s
  | laneLockLoss p lane => exact steps_laneLockLoss p lane s
  | idleReqReceive p => exact steps_idleReqReceive p s
  | idleAckReceive p => exact steps_idleAckReceive p s
  | idleReqTimeout p => exact steps_idleReqTimeout p s
  | linkIdleWake p rxActivity => exact steps_linkIdleWake p rxActivity s
  | relockTimeout p => exact steps_relockTimeout p s
  | rdShared src tag addr => exact steps_rdShared src tag addr s
  | rdOwn src tag addr => exact steps_rdOwn src tag addr s
  | upgrade src tag addr => exact steps_upgrade src tag addr s
  | rdUc src tag priv addr size => exact steps_rdUc src tag priv addr size s
  | wrLine src tag addr data poison => exact steps_wrLine src tag addr data poison s
  | wrPart src tag priv addr mask data poison => exact steps_wrPart src tag priv addr mask data poison s
  | zeroLine src tag addr => exact steps_zeroLine src tag addr s
  | amo src tag addr param operand compare poison => exact steps_amo src tag addr param operand compare poison s
  | maintClean src tag addr => exact steps_maintClean src tag addr s
  | maintInv src tag priv addr => exact steps_maintInv src tag priv addr s
  | maintCleanInv src tag addr => exact steps_maintCleanInv src tag addr s
  | maintCleanAll src tag addr => exact steps_maintCleanAll src tag addr s
  | prefetch src tag addr => exact steps_prefetch src tag addr s
  | snpAckI src tag addr => exact steps_snpAckI src tag addr s
  | snpAckS src tag addr => exact steps_snpAckS src tag addr s
  | snpDataI src tag addr dirty data poison => exact steps_snpDataI src tag addr dirty data poison s
  | snpDataS src tag addr dirty data poison => exact steps_snpDataS src tag addr dirty data poison s
  | snpGone src tag addr => exact steps_snpGone src tag addr s
  | snpMiss src tag addr => exact steps_snpMiss src tag addr s
  | evictClean src tag addr => exact steps_evictClean src tag addr s
  | evictDirty src tag addr data poison => exact steps_evictDirty src tag addr data poison s
  | gack src tag addr => exact steps_gack src tag addr s
  | snoopTimeout agent addr => exact steps_snoopTimeout agent addr s
  | agentMsg src dst tag mbox chan payload => exact steps_agentMsg src dst tag mbox chan payload s
  | purgeNotice src agents => exact steps_purgeNotice src agents s
  | messageForward ingress msg => exact steps_messageForward ingress msg s
  | dataUc src dst tag data poison => exact steps_dataUc src dst tag data poison s
  | wrDone src dst tag => exact steps_wrDone src dst tag s
  | amoData src dst tag value poison => exact steps_amoData src dst tag value poison s
  | cmp src dst tag => exact steps_cmp src dst tag s
  | msgDone src dst tag full => exact steps_msgDone src dst tag full s
  | noTarget src dst tag reason => exact steps_noTarget src dst tag reason s
  | hbmReadReturn sl line => exact steps_hbmReadReturn sl line s
  | flueVictimAccepted sl line => exact steps_flueVictimAccepted sl line s
  | kindlingDataArrive sl line => exact steps_kindlingDataArrive sl line s
  | streamEntryExpire sl ix => exact steps_streamEntryExpire sl ix s
  | sweepStep sl => exact steps_sweepStep sl s
  | hearthDisable m sl => exact steps_hearthDisable m sl s
  | hearthEnable m sl => exact steps_hearthEnable m sl s
  | wayQuench m sl ways => exact steps_wayQuench m sl ways s
  | wayUnquench m sl ways => exact steps_wayUnquench m sl ways s
  | quenchWalkStep sl => exact steps_quenchWalkStep sl s
  | wayPowerUpDone sl way => exact steps_wayPowerUpDone sl way s
  | slcMaintClean m sl => exact steps_slcMaintClean m sl s
  | slcMaintInv m sl => exact steps_slcMaintInv m sl s
  | slcMaintCleanInv m sl => exact steps_slcMaintCleanInv m sl s
  | slcMaintCleanAll m sl => exact steps_slcMaintCleanAll m sl s
  | poisonNotice sl line => exact steps_poisonNotice sl line s
  | wayErrorCountClear => exact steps_wayErrorCountClear s
  | hbmScheduleCommand pc ck => exact steps_hbmScheduleCommand pc ck s
  | refreshDue pc sid bank => exact steps_refreshDue pc sid bank s
  | rowIdleClose pc sid bank ck => exact steps_rowIdleClose pc sid bank ck s
  | writeEntryRetire pc => exact steps_writeEntryRetire pc s
  | hbmReadDecode pc noise => exact steps_hbmReadDecode pc noise s
  | periodicRetrain pc r => exact steps_periodicRetrain pc r s
  | scrubRead pc => exact steps_scrubRead pc s
  | softRepair pc noise => exact steps_softRepair pc noise s
  | hbmReload m k => exact steps_hbmReload m k s
  | ldB core rd ra imm => exact steps_ldB core rd ra imm s
  | ldH core rd ra imm => exact steps_ldH core rd ra imm s
  | ldW core rd ra imm => exact steps_ldW core rd ra imm s
  | ldD core rd ra imm => exact steps_ldD core rd ra imm s
  | ldBu core rd ra imm => exact steps_ldBu core rd ra imm s
  | ldHu core rd ra imm => exact steps_ldHu core rd ra imm s
  | ldWu core rd ra imm => exact steps_ldWu core rd ra imm s
  | stB core rb ra imm => exact steps_stB core rb ra imm s
  | stH core rb ra imm => exact steps_stH core rb ra imm s
  | stW core rb ra imm => exact steps_stW core rb ra imm s
  | stD core rb ra imm => exact steps_stD core rb ra imm s
  | ldw core wd ra imm => exact steps_ldw core wd ra imm s
  | stw core wb ra imm => exact steps_stw core wb ra imm s
  | add core rd ra rb => exact steps_add core rd ra rb s
  | sub core rd ra rb => exact steps_sub core rd ra rb s
  | and core rd ra rb => exact steps_and core rd ra rb s
  | or core rd ra rb => exact steps_or core rd ra rb s
  | xor core rd ra rb => exact steps_xor core rd ra rb s
  | sll core rd ra rb => exact steps_sll core rd ra rb s
  | srl core rd ra rb => exact steps_srl core rd ra rb s
  | sra core rd ra rb => exact steps_sra core rd ra rb s
  | slt core rd ra rb => exact steps_slt core rd ra rb s
  | sltu core rd ra rb => exact steps_sltu core rd ra rb s
  | min core rd ra rb => exact steps_min core rd ra rb s
  | max core rd ra rb => exact steps_max core rd ra rb s
  | minu core rd ra rb => exact steps_minu core rd ra rb s
  | maxu core rd ra rb => exact steps_maxu core rd ra rb s
  | mul core rd ra rb => exact steps_mul core rd ra rb s
  | mulh core rd ra rb => exact steps_mulh core rd ra rb s
  | mulhu core rd ra rb => exact steps_mulhu core rd ra rb s
  | div core rd ra rb => exact steps_div core rd ra rb s
  | divu core rd ra rb => exact steps_divu core rd ra rb s
  | rem core rd ra rb => exact steps_rem core rd ra rb s
  | remu core rd ra rb => exact steps_remu core rd ra rb s
  | addImmediate core rd ra imm => exact steps_addImmediate core rd ra imm s
  | andImmediate core rd ra imm => exact steps_andImmediate core rd ra imm s
  | orImmediate core rd ra imm => exact steps_orImmediate core rd ra imm s
  | xorImmediate core rd ra imm => exact steps_xorImmediate core rd ra imm s
  | sltImmediate core rd ra imm => exact steps_sltImmediate core rd ra imm s
  | sltuImmediate core rd ra imm => exact steps_sltuImmediate core rd ra imm s
  | sllImmediate core rd ra sh => exact steps_sllImmediate core rd ra sh s
  | srlImmediate core rd ra sh => exact steps_srlImmediate core rd ra sh s
  | sraImmediate core rd ra sh => exact steps_sraImmediate core rd ra sh s
  | lui core rd imm => exact steps_lui core rd imm s
  | addhi core rd imm => exact steps_addhi core rd imm s
  | amoAdd core dword rd ra rb => exact steps_amoAdd core dword rd ra rb s
  | amoSwp core dword rd ra rb => exact steps_amoSwp core dword rd ra rb s
  | amoCas core dword rd ra rb rc => exact steps_amoCas core dword rd ra rb rc s
  | amoMin core dword rd ra rb => exact steps_amoMin core dword rd ra rb s
  | amoMax core dword rd ra rb => exact steps_amoMax core dword rd ra rb s
  | amoAnd core dword rd ra rb => exact steps_amoAnd core dword rd ra rb s
  | amoOr core dword rd ra rb => exact steps_amoOr core dword rd ra rb s
  | amoXor core dword rd ra rb => exact steps_amoXor core dword rd ra rb s
  | lresW core rd ra => exact steps_lresW core rd ra s
  | lresD core rd ra => exact steps_lresD core rd ra s
  | scndW core rd ra rb => exact steps_scndW core rd ra rb s
  | scndD core rd ra rb => exact steps_scndD core rd ra rb s
  | zln core ra imm => exact steps_zln core ra imm s
  | pfk core ra imm => exact steps_pfk core ra imm s
  | cln core ra imm => exact steps_cln core ra imm s
  | cinv core ra imm => exact steps_cinv core ra imm s
  | brEq core ra rb off => exact steps_brEq core ra rb off s
  | brNe core ra rb off => exact steps_brNe core ra rb off s
  | brLt core ra rb off => exact steps_brLt core ra rb off s
  | brGe core ra rb off => exact steps_brGe core ra rb off s
  | brLtu core ra rb off => exact steps_brLtu core ra rb off s
  | brGeu core ra rb off => exact steps_brGeu core ra rb off s
  | jal core rd off => exact steps_jal core rd off s
  | jr core rd ra imm => exact steps_jr core rd ra imm s
  | wadd core ew wd wa wb => exact steps_wadd core ew wd wa wb s
  | wsub core ew wd wa wb => exact steps_wsub core ew wd wa wb s
  | wand core wd wa wb => exact steps_wand core wd wa wb s
  | wor core wd wa wb => exact steps_wor core wd wa wb s
  | wxor core wd wa wb => exact steps_wxor core wd wa wb s
  | wcmpEq core ew wd wa wb => exact steps_wcmpEq core ew wd wa wb s
  | wcmpLt core ew wd wa wb => exact steps_wcmpLt core ew wd wa wb s
  | wcmpLtu core ew wd wa wb => exact steps_wcmpLtu core ew wd wa wb s
  | wshuf core wd wa wb => exact steps_wshuf core wd wa wb s
  | wext core ew rd wa lane => exact steps_wext core ew rd wa lane s
  | wins core ew wd ra lane => exact steps_wins core ew wd ra lane s
  | wspl core ew wd ra => exact steps_wspl core ew wd ra s
  | wredAdd core ew rd wa => exact steps_wredAdd core ew rd wa s
  | wredMin core ew rd wa => exact steps_wredMin core ew rd wa s
  | wredMax core ew rd wa => exact steps_wredMax core ew rd wa s
  | wredXor core ew rd wa => exact steps_wredXor core ew rd wa s
  | wcrc core crc64 rd ra wb => exact steps_wcrc core crc64 rd ra wb s
  | whash core rd ra wb => exact steps_whash core rd ra wb s
  | fenceCore core => exact steps_fenceCore core s
  | fenceClus core => exact steps_fenceClus core s
  | fenceSys core => exact steps_fenceSys core s
  | trap core code => exact steps_trap core code s
  | eret core => exact steps_eret core s
  | wfd core rd ra => exact steps_wfd core rd ra s
  | rdst core rd k => exact steps_rdst core rd k s
  | wrst core k ra => exact steps_wrst core k ra s
  | storeBufferDrain core => exact steps_storeBufferDrain core s
  | gatherHoldExpire c ix => exact steps_gatherHoldExpire c ix s
  | scribeResponseReturn core poison refused data => exact steps_scribeResponseReturn core poison refused data s
  | storeErr c cores addr reason => exact steps_storeErr c cores addr reason s
  | abort m core => exact steps_abort m core s
  | eventTaken core => exact steps_eventTaken core s
  | graceExpire core => exact steps_graceExpire core s
  | wfdTimeout core => exact steps_wfdTimeout core s
  | knock m c cores => exact steps_knock m c cores s
  | clusterDisable m c => exact steps_clusterDisable m c s
  | clusterEnable m c => exact steps_clusterEnable m c s
  | clusterReset m c => exact steps_clusterReset m c s
  | launchRecord c r => exact steps_launchRecord c r s
  | taskStart core => exact steps_taskStart core s
  | doorbellTailWrite m n v => exact steps_doorbellTailWrite m n v s
  | doorbellCqHeadWrite m n v => exact steps_doorbellCqHeadWrite m n v s
  | descriptorFetch e => exact steps_descriptorFetch e s
  | copyDescriptor e => exact steps_copyDescriptor e s
  | fillDescriptor e => exact steps_fillDescriptor e s
  | zeroDescriptor e => exact steps_zeroDescriptor e s
  | compareDescriptor e => exact steps_compareDescriptor e s
  | crcDescriptor e => exact steps_crcDescriptor e s
  | gatherDescriptor e => exact steps_gatherDescriptor e s
  | scatterDescriptor e => exact steps_scatterDescriptor e s
  | atomicDescriptor e => exact steps_atomicDescriptor e s
  | maintDescriptor e => exact steps_maintDescriptor e s
  | taskDescriptor e => exact steps_taskDescriptor e s
  | msgDescriptor e => exact steps_msgDescriptor e s
  | waitDescriptor e => exact steps_waitDescriptor e s
  | fenceDescriptor n => exact steps_fenceDescriptor n s
  | waitPoll e => exact steps_waitPoll e s
  | waitTimeout n ix => exact steps_waitTimeout n ix s
  | descriptorComplete n ix => exact steps_descriptorComplete n ix s
  | completionEventTimer n => exact steps_completionEventTimer n s
  | inkwellDisable m n => exact steps_inkwellDisable m n s
  | inkwellEnable m n => exact steps_inkwellEnable m n s
  | resetPtrs m n => exact steps_resetPtrs m n s
  | fifoPop m f => exact steps_fifoPop m f s
  | fifoClear m f => exact steps_fifoClear m f s
  | cxCmdPush m data => exact steps_cxCmdPush m data s
  | cxRspPop m => exact steps_cxRspPop m s
  | cxCommandStart => exact steps_cxCommandStart s
  | nop tag => exact steps_nop tag s
  | cxCopy tag => exact steps_cxCopy tag s
  | cxFill tag => exact steps_cxFill tag s
  | maintRange tag => exact steps_maintRange tag s
  | maintSw tag => exact steps_maintSw tag s
  | cxCommandComplete => exact steps_cxCommandComplete s
  | cxRgnWrite m n limit data => exact steps_cxRgnWrite m n limit data s
  | counterHandoff group => exact steps_counterHandoff group s
  | thresholdSample => exact steps_thresholdSample s
  | clearAll m => exact steps_clearAll m s
  | dumpPeriod => exact steps_dumpPeriod s
  | dumpNow m => exact steps_dumpNow m s
  | dumpDone => exact steps_dumpDone s
  | blotterEnable m => exact steps_blotterEnable m s
  | blotterRecord ix => exact steps_blotterRecord ix s
  | blotterRecordWaitExpire => exact steps_blotterRecordWaitExpire s
  | blotterDrainWrite => exact steps_blotterDrainWrite s
  | eventSequence unit => exact steps_eventSequence unit s
  | eventMsgSend => exact steps_eventMsgSend s
  | crashLogWrite m => exact steps_crashLogWrite m s
  | domainLitCommand m d => exact steps_domainLitCommand m d s
  | domainEmberCommand m d => exact steps_domainEmberCommand m d s
  | domainColdCommand m d => exact steps_domainColdCommand m d s
  | domainIdleTimerExpiry d => exact steps_domainIdleTimerExpiry d s
  | domainWake d => exact steps_domainWake d s
  | domainWakeComplete d => exact steps_domainWakeComplete d s
  | domainGatingComplete d => exact steps_domainGatingComplete d s
  | damperPass => exact steps_damperPass s
  | extraRequest d => exact steps_extraRequest d s
  | extraReturn d => exact steps_extraReturn d s
  | avsPoll r => exact steps_avsPoll r s
  | avsVoltageStep r => exact steps_avsVoltageStep r s
  | resetNRise => exact steps_resetNRise s
  | illegalWord core word => exact steps_illegalWord core word s
  | instructionFetchFault core reason => exact steps_instructionFetchFault core reason s
  | clusterResetComplete c => exact steps_clusterResetComplete c s
  | fuseProgrammingComplete verified => exact steps_fuseProgrammingComplete verified s
  | crashLogWriteComplete ok => exact steps_crashLogWriteComplete ok s
  | boundaryScan trst tms tdi => exact steps_boundaryScan trst tms tdi s

/-- A step takes the front command off the queue and runs it. -/
theorem step_onward (run : step s = .next t) : Onward { s with pending := s.pending.tail } t := by
  unfold step at run
  split at run
  next empty =>
    rw [← Host.Outcome.next.inj run]
    exact onward_same (by rw [empty]; rfl) rfl rfl
  next c rest queued =>
    rw [queued]
    exact steps_exec c _ t run

end Sys2Proof.Machine

open Sys2Proof Sys2Proof.Machine

/-- Settles O60: every operation of the machine keeps the waiting commands and takes no programmed fuse back (`Onward`), and so does every
command; a step runs one on the queue's rest. -/
theorem fusesOnlyMoveForward : Obligations.FusesOnlyMoveForward := by
  intro s t programs run
  obtain ⟨pending, fuses⟩ := step_onward run
  obtain ⟨kept, forward⟩ := fuses programs
  exact ⟨kept, forward, pending⟩
end

section
/-! PROOF. What the boot of steps 4 to 7 keeps where it wipes HBM: the fuses and their shadow, what release and the resets leave, the pins, the
timebase, and of the events all but those that wait, to which it may add (R410, R473, R488). -/
namespace Sys2Proof.Machine
open Config

variable {s t u : State}

/-- What the boot keeps. -/
structure Boots (s t : State) : Prop where
  pending : t.pending = s.pending
  fuses : t.nv.fuses = s.nv.fuses
  copies : t.boot.copies = s.boot.copies
  released : t.boot.released = s.boot.released
  fatal : t.boot.fatal = s.boot.fatal
  warm : t.boot.warm = s.boot.warm
  pins : t.pins = s.pins
  tb : t.tb = s.tb
  seq : t.evt.seq = s.evt.seq
  queues : t.evt.efifo = s.evt.efifo ∧ t.evt.msgq = s.evt.msgq
  waiting : s.evt.waiting <+: t.evt.waiting
  wear : t.damper.wear = s.damper.wear
  age : t.damper.age = s.damper.age

theorem Boots.refl (s : State) : Boots s s := ⟨rfl, rfl, rfl, rfl, rfl, rfl, rfl, rfl, rfl, ⟨rfl, rfl⟩, List.prefix_refl _, rfl, rfl⟩

theorem Boots.trans (h : Boots s t) (h' : Boots t u) : Boots s u where
  pending := h'.pending.trans h.pending
  fuses := h'.fuses.trans h.fuses
  copies := h'.copies.trans h.copies
  released := h'.released.trans h.released
  fatal := h'.fatal.trans h.fatal
  warm := h'.warm.trans h.warm
  pins := h'.pins.trans h.pins
  tb := h'.tb.trans h.tb
  seq := h'.seq.trans h.seq
  queues := ⟨h'.queues.1.trans h.queues.1, h'.queues.2.trans h.queues.2⟩
  waiting := h.waiting.trans h'.waiting
  wear := h'.wear.trans h.wear
  age := h'.age.trans h.age

theorem boots_same (pending : t.pending = s.pending) (fuses : t.nv.fuses = s.nv.fuses) (copies : t.boot.copies = s.boot.copies)
    (released : t.boot.released = s.boot.released) (fatal : t.boot.fatal = s.boot.fatal) (warm : t.boot.warm = s.boot.warm) (pins : t.pins = s.pins)
    (tb : t.tb = s.tb) (evt : t.evt = s.evt) (wear : t.damper.wear = s.damper.wear) (age : t.damper.age = s.damper.age) : Boots s t :=
  ⟨pending, fuses, copies, released, fatal, warm, pins, tb, by rw [evt], by rw [evt]; exact ⟨rfl, rfl⟩, by rw [evt], wear, age⟩

theorem Aside.boots (h : Aside s t) : Boots s t :=
  ⟨h.pending, congrArg Nv.fuses h.nv, congrArg Boot.copies h.boot, congrArg Boot.released h.boot, congrArg Boot.fatal h.boot,
    congrArg Boot.warm h.boot, h.pins, h.tb, by rw [h.events], by rw [h.events]; exact ⟨rfl, rfl⟩, h.waiting, congrArg Damper.wear h.damper,
    congrArg Damper.age h.damper⟩

/-! ## The operations of the state -/

theorem boots_ite {c : Prop} [Decidable c] {a b : State} (ha : Boots s a) (hb : Boots s b) : Boots s (if c then a else b) := by
  split
  · exact ha
  · exact hb

theorem boots_foldl {α : Type} {f : State → α → State} (h : Boots s t) (step : ∀ u a, Boots s u → Boots s (f u a)) (l : List α) :
    Boots s (l.foldl f t) := by
  induction l generalizing t with
  | nil => exact h
  | cons a l ih => exact ih (step t a h)

theorem boots_foldl_fst {α β : Type} {f : State × β → α → State × β} (step : ∀ p a, Boots s p.1 → Boots s (f p a).1) (l : List α) :
    ∀ p : State × β, Boots s p.1 → Boots s (l.foldl f p).1 := by
  induction l with
  | nil => exact fun _ h => h
  | cons a l ih => exact fun p h => ih _ (step p a h)

theorem boots_wr (h : Boots s t) (off : Nat) (v : Word) : Boots s (t.wr off v) := by
  rw [State.wr_frame]
  exact h.trans (boots_same rfl rfl rfl rfl rfl rfl rfl rfl rfl rfl rfl)

theorem boots_setFld (h : Boots s t) (off lo w v : Nat) : Boots s (t.setFld off lo w v) := boots_wr h ..

theorem boots_raise (h : Boots s t) (a c : Nat) (w : Word) : Boots s (t.raise a c w) :=
  h.trans ⟨rfl, rfl, rfl, rfl, rfl, rfl, rfl, rfl, rfl, ⟨rfl, rfl⟩, List.prefix_append .., rfl, rfl⟩

theorem boots_setErr (h : Boots s t) (off i a : Nat) (w : Word) : Boots s (t.setErr off i a w) :=
  boots_ite h (boots_raise (boots_setFld h ..) ..)

theorem boots_count (h : Boots s t) (g i n : Nat) : Boots s (t.count g i n) := by
  rw [State.count_frame]
  exact h.trans (boots_same rfl rfl rfl rfl rfl rfl rfl rfl rfl rfl rfl)

theorem boots_modPort (h : Boots s t) (p : Nat) (f : Port → Port) : Boots s (t.modPort p f) :=
  h.trans (boots_same rfl rfl rfl rfl rfl rfl rfl rfl rfl rfl rfl)
theorem boots_modSlice (h : Boots s t) (i : Nat) (f : Slice → Slice) : Boots s (t.modSlice i f) :=
  h.trans (boots_same rfl rfl rfl rfl rfl rfl rfl rfl rfl rfl rfl)
theorem boots_modPc (h : Boots s t) (p : Nat) (f : Pc → Pc) : Boots s (t.modPc p f) :=
  h.trans (boots_same rfl rfl rfl rfl rfl rfl rfl rfl rfl rfl rfl)
theorem boots_modStack (h : Boots s t) (k : Nat) (f : Stack → Stack) : Boots s (t.modStack k f) :=
  h.trans (boots_same rfl rfl rfl rfl rfl rfl rfl rfl rfl rfl rfl)

theorem boots_freeB (h : Boots s t) : Boots s t.freeB.1 := h.trans (still_freeB (Still.refl t)).toAside.boots

theorem boots_wayqWrite (h : Boots s t) (i : Nat) (v : Word) : Boots s (wayqWrite t i v) := h.trans (still_wayqWrite (Still.refl t) i v).toAside.boots

theorem boots_blotStart (h : Boots s t) : Boots s (blotStart t) := by
  unfold blotStart blotDraw modBlot
  exact h.trans (boots_same rfl rfl rfl rfl rfl rfl rfl rfl rfl rfl rfl)

/-! ## The memory -/

theorem boots_pprLog (h : Boots s t) (k p sid bank row : Nat) (hard : Bool) : Boots s (pprLog t k p sid bank row hard) := by
  unfold pprLog
  split
  · exact boots_wr h ..
  · exact boots_setFld h ..

theorem boots_trainPc (h : Boots s t) (p : Nat) (ok : Bool) (lane : Option (BitVec 6)) (eyes : Option (Byte × Byte)) (temp : Int) :
    Boots s (trainPc t p ok lane eyes temp) := by
  unfold trainPc
  refine boots_modPc ?_ ..
  exact h.trans (boots_same rfl rfl rfl rfl rfl rfl rfl rfl rfl rfl rfl)

theorem boots_trainPcs (h : Boots s t) (l : List Nat) : Boots s (trainPcs t l) := by
  unfold trainPcs
  have trained := boots_foldl (f := fun s p => trainPc s p (stackOk s (p / 32) && !s.phys.badPcs.contains p) none none (s.stackSt (p / 32)).temp)
    h (fun u p hu => boots_trainPc hu ..) l
  exact trained.trans (boots_same rfl rfl rfl rfl rfl rfl rfl rfl rfl rfl rfl)

theorem boots_trainFailErr (h : Boots s t) (k p : Nat) : Boots s (trainFailErr t k p) := boots_setErr h ..

theorem boots_wipe (h : Boots s t) : Boots s (wipe t) := by
  unfold wipe
  generalize List.range nPcs = l
  generalize List.range nStacks = l'
  refine boots_foldl (boots_foldl ?_ (fun u k hu => boots_modStack hu ..) l') (fun u p hu => boots_modPc hu ..) l
  exact h.trans (boots_same rfl rfl rfl rfl rfl rfl rfl rfl rfl rfl rfl)

theorem boots_takeBudget (h : Boots s t) : Boots s (takeBudget t) := h.trans (boots_same rfl rfl rfl rfl rfl rfl rfl rfl rfl rfl rfl)

/-! ## The boot -/

theorem boots_cfgWrite (h : Boots s t) (off : Nat) (v : Nat) : Boots s (cfgWrite t off v) := by
  unfold cfgWrite
  lift_lets
  intro v starts written _
  have hw : Boots s written := boots_wr h ..
  clear_value written
  refine boots_ite ?_ (boots_ite (boots_blotStart hw) hw)
  exact hw.trans (boots_same rfl rfl rfl rfl rfl rfl rfl rfl rfl rfl rfl)

theorem boots_applyPort (h : Boots s t) (r : Record) : Boots s (applyPort t r) := by
  unfold applyPort
  exact boots_ite (boots_wr (boots_setFld (boots_wr h ..) ..) ..) h

theorem boots_applyRecord (h : Boots s t) (r : Record) : Boots s (applyRecord t r) := by
  unfold applyRecord
  dsimp only
  split
  · exact boots_ite h (boots_setFld h ..)
  · exact boots_wr (boots_wr h ..) ..
  · exact boots_wr h ..
  · exact boots_applyPort h _
  · exact boots_wr (boots_wr h ..) ..
  · exact boots_foldl h (fun u off hu => boots_cfgWrite hu ..) _
  · refine boots_foldl h (fun u i hu => boots_wayqWrite ?_ ..) _
    exact hu.trans (boots_same rfl rfl rfl rfl rfl rfl rfl rfl rfl rfl rfl)
  · exact h

theorem boots_bootDefaults (h : Boots s t) (compat : Bool) (recs : List Record) : Boots s (bootDefaults t compat recs) := by
  unfold bootDefaults
  lift_lets
  intro marked ports slices chosen recorded
  have hm : Boots s marked := boots_setFld h ..
  have hp : Boots s ports := boots_foldl hm (fun u p hu => boots_setFld hu ..) _
  clear_value ports
  have hs : Boots s slices := boots_foldl hp (fun u i hu => boots_setFld hu ..) _
  clear_value slices
  have hc : Boots s chosen := boots_ite (boots_setFld hs ..) hm
  exact boots_wr (boots_wr hc ..) ..

theorem boots_applyAll (h : Boots s t) (compat : Bool) (recs : List Record) : Boots s (applyAll t compat recs) := by
  exact boots_foldl (boots_bootDefaults h ..) (fun u r hu => boots_applyRecord hu r) _

theorem boots_bootFail (h : Boots s t) (step cause causeA unit rec : Nat) : Boots s (bootFail t step cause causeA unit rec) := by
  unfold bootFail
  refine boots_raise (boots_wr ?_ ..) ..
  exact h.trans (boots_same rfl rfl rfl rfl rfl rfl rfl rfl rfl rfl rfl)

theorem boots_useSlotB (h : Boots s t) (causeA : Nat) : Boots s (useSlotB t causeA) := by
  unfold useSlotB
  refine boots_raise (boots_wr ?_ ..) ..
  exact h.trans (boots_same rfl rfl rfl rfl rfl rfl rfl rfl rfl rfl rfl)

theorem boots_hardRepair (h : Boots s t) (r : RowId) : Boots s (hardRepair t r) := by
  have drawn := boots_freeB h
  unfold hardRepair
  dsimp only
  split <;> rename_i eq
  all_goals rw [eq] at drawn
  · refine boots_count (boots_setErr (boots_pprLog ?_ ..) ..) ..
    exact drawn.trans (boots_same rfl rfl rfl rfl rfl rfl rfl rfl rfl rfl rfl)
  · exact boots_setErr drawn ..

theorem boots_hardRepairs (h : Boots s t) (recs : List Record) (k : Nat) : Boots s (hardRepairs recs t k) := by
  unfold hardRepairs
  refine boots_foldl_fst (fun a r ha => ?_) _ _ h
  split
  · exact ha
  · exact boots_hardRepair ha r

theorem boots_startPorts (h : Boots s t) : Boots s (startPorts t) := by
  exact boots_foldl h (fun u p hu => boots_ite (boots_modPort hu ..) hu) _

theorem boots_bootHbm (h : Boots s t) (recs : List Record) : Boots s (bootHbm t recs false) := by
  have wrongs : ∀ l : List Nat, Boots s (l.foldl (fun s k => s.setErr (hbmReg k 0x30) 6 (0x40 + k) 0) t) := fun l =>
    boots_foldl h (fun u k hu => boots_setErr hu ..) l
  unfold bootHbm
  lift_lets
  intro ks wrong marked sequenced trained bad failed fixed _
  have hm : Boots s marked := wrongs wrong
  clear_value marked ks
  have hs : Boots s sequenced := boots_foldl hm (fun u k hu => boots_modStack hu ..) _
  clear_value sequenced
  have ht : Boots s trained := boots_trainPcs hs _
  clear_value trained
  have hf : Boots s failed := boots_foldl ht (fun u k hu => boots_trainFailErr hu ..) _
  clear_value failed
  have wiped : fixed = wipe (ks.foldl (hardRepairs recs) failed) := if_neg Bool.false_ne_true
  have hx : Boots s fixed := by
    rw [wiped]
    exact boots_wipe (boots_foldl hf (fun u k hu => boots_hardRepairs hu ..) _)
  clear_value fixed wrong
  split
  · exact boots_bootFail hm ..
  · clear_value bad
    split
    · exact boots_bootFail hf ..
    · refine boots_startPorts ?_
      exact hx.trans (boots_same rfl rfl rfl rfl rfl rfl rfl rfl rfl rfl rfl)

theorem boots_bootRecords (h : Boots s t) (compat : Bool) (recs : List Record) (imageId : DWord) : Boots s (bootRecords t compat false recs imageId) := by
  unfold bootRecords
  lift_lets
  intro named _ applied post _ kept disabled _
  have hn : Boots s named := boots_wr (boots_wr h ..) ..
  clear_value named
  have ha : Boots s applied := by
    refine boots_applyAll ?_ ..
    exact hn.trans (boots_same rfl rfl rfl rfl rfl rfl rfl rfl rfl rfl rfl)
  clear_value applied
  have hk : Boots s kept := ha.trans (boots_same rfl rfl rfl rfl rfl rfl rfl rfl rfl rfl rfl)
  clear_value kept
  have hd : Boots s disabled := boots_foldl hk (fun u i hu => boots_modSlice hu ..) _
  clear_value disabled
  refine boots_bootHbm (boots_takeBudget ?_) ..
  exact hd.trans (boots_same rfl rfl rfl rfl rfl rfl rfl rfl rfl rfl rfl)

theorem boots_bootImage (h : Boots s t) : Boots s (bootImage t false) := by
  unfold bootImage
  dsimp only
  refine boots_ite (boots_bootFail h ..) (boots_ite (boots_bootRecords h ..) (boots_ite (boots_bootRecords (boots_useSlotB h _) ..) ?_))
  exact boots_ite (boots_bootRecords h ..) (boots_bootFail h ..)

end Sys2Proof.Machine
end

section
/-! PROOF. Lifecycle, fuse and crash-log commands (R446, R447, R489–R494). -/
namespace Sys2Proof.Machine
open Config

variable {s t u : State} {m : Master}

/-! ## Writes of the BOOT and EVENT registers -/

/-- A plain write of a register, which no vote repairs either. -/
theorem CwReach.writesVoted {off v : Nat} (h : CwReach s m off) (ho : Ordinary off)
    (filter : ∀ t : State, t.boot = s.boot → filterWrite t m off (w32 v) = (t, some (w32 v))) :
    ∃ u, writeNative s m off v = startWrite u m off (s.rd off) (w32 v) ∧ RegStored s u off ∧
      u.rd off = writtenValue s off (w32 v) (BitVec.allOnes 32) ∧ Agree u := by
  have votes := agree_spendShadow (m := m) h.votes (blockAt off)
  have written := writeReg_plain ho.toDirect ho.listed ho.unlocked ho.noCounter votes h.allowed (acc := off) (filter (spendShadow s m (blockAt off)) rfl)
  refine ⟨(spendShadow s m (blockAt off)).wr off (writtenValue s off (w32 v) (BitVec.allOnes 32)), ?_, regStored_wr .., State.rd_wr_same ..,
    agree_wr votes ..⟩
  rw [h.writeNative4 ho.toDirect, write4_single h.noHeld (by rw [holdsLow, ho.single, Bool.false_and]) ho.noDoorbell, written]
  rfl

theorem bootReg_facts {rel : Nat} (hr : rel = 0x30 ∨ rel = 0x34) : Ordinary (bootReg rel) ∧ blockAt (bootReg rel) = .boot ∧
    bootReg rel - Block.boot.base = rel := by
  have facts : ∀ r ∈ [0x30, 0x34], bootReg r % 4 = 0 ∧ pairLow (bootReg r) = false ∧ (regFields (bootReg r)).isEmpty = false ∧
      ((regFields (bootReg r)).any fun f => f.ty == .w1l) = false ∧ blockAt (bootReg r) = .boot ∧ bootReg r - Block.boot.base = r := by decide
  obtain ⟨aligned, single, listed, unlocked, block, base⟩ := facts rel (by simpa using hr)
  exact ⟨⟨⟨.inl (by rcases hr with rfl | rfl <;> decide), aligned⟩, single, listed, unlocked, fun n => by rw [block]; exact Block.noConfusion,
    fun c => by rw [block] at c; exact Block.noConfusion c.1⟩, block, base⟩

theorem crashCtl_facts : Ordinary (evtReg 0x30) ∧ blockAt (evtReg 0x30) = .event ∧ evtReg 0x30 - Block.event.base = 0x30 := by
  have facts : evtReg 0x30 % 4 = 0 ∧ pairLow (evtReg 0x30) = false ∧ (regFields (evtReg 0x30)).isEmpty = false ∧
      ((regFields (evtReg 0x30)).any fun f => f.ty == .w1l) = false ∧ blockAt (evtReg 0x30) = .event ∧ evtReg 0x30 - Block.event.base = 0x30 := by
    decide
  obtain ⟨aligned, single, listed, unlocked, block, base⟩ := facts
  exact ⟨⟨⟨.inl (by decide), aligned⟩, single, listed, unlocked, fun n => by rw [block]; exact Block.noConfusion,
    fun c => by rw [block] at c; exact Block.noConfusion c.1⟩, block, base⟩

/-- A register of BOOT other than the hash words is stored as it is written, where no fuse operation runs. -/
theorem filterWrite_boot {rel : Nat} (hr : rel = 0x30 ∨ rel = 0x34) (idle : s.boot.fuseBusy = none ∨ rel = 0x30) (v : Word) :
    filterWrite s m (bootReg rel) v = (s, some v) := by
  obtain ⟨-, block, base⟩ := bootReg_facts hr
  rw [filterWrite, block]
  dsimp only
  rw [base]
  rcases idle with idle | rfl
  · rw [idle, if_neg fun c => Bool.false_ne_true c.2, if_neg (by omega)]
  · rw [if_neg (by omega), if_neg (by omega)]

/-- BOOT_LC_CMD takes TARGET and CONFIRM; GO is not set by this write (R491). -/
theorem CwReach.writesLcCmd (h : CwReach s m (bootReg 0x30)) (target : BitVec 2) (confirm : BitVec 16) :
    ∃ u, writeNative s m (bootReg 0x30) (target.toNat + 2 ^ 16 * confirm.toNat) = u ∧ RegStored s u (bootReg 0x30) ∧ Agree u := by
  obtain ⟨ordinary, block, base⟩ := bootReg_facts (.inl rfl)
  obtain ⟨u, writes, stored, -, votes⟩ := h.writesVoted ordinary (v := target.toNat + 2 ^ 16 * confirm.toNat) fun t _ =>
    filterWrite_boot (.inl rfl) (.inr rfl) _
  refine ⟨u, writes.trans ?_, stored, votes⟩
  have noGo : (w32 (target.toNat + 2 ^ 16 * confirm.toNat)).getLsbD 4 = false := by
    have small := target.isLt
    rw [getLsbD_w32 _ (by decide), Nat.testBit, Nat.shiftRight_eq_div_pow]
    have even : (target.toNat + 2 ^ 16 * confirm.toNat) / 2 ^ 4 % 2 = 0 := by omega
    rw [Nat.one_and_eq_mod_two, even]
    rfl
  generalize w32 (target.toNat + 2 ^ 16 * confirm.toNat) = v at noGo ⊢
  rw [startWrite, block]
  dsimp only
  rw [base, startBoot]
  dsimp only
  rw [noGo, if_neg Bool.false_ne_true]

/-- BOOT_FUSE_CMD starts the operation that it names (R492). -/
theorem CwReach.writesFuseCmd {op : Nat} (h : CwReach s m (bootReg 0x34)) (idle : s.boot.fuseBusy = none) (hop : op = 1 ∨ op = 2) :
    ∃ u, writeNative s m (bootReg 0x34) (0x10 + op) = fuseCmd u (masterSecure m) ∧ RegStored s u (bootReg 0x34) ∧ Agree u ∧
      u.fld (bootReg 0x34) 0 2 = op := by
  obtain ⟨ordinary, block, base⟩ := bootReg_facts (.inr rfl)
  obtain ⟨u, writes, stored, value, votes⟩ := h.writesVoted ordinary (v := 0x10 + op) fun t same =>
    filterWrite_boot (.inr rfl) (.inl (same ▸ idle)) _
  refine ⟨u, writes.trans ?_, stored, votes, ?_⟩
  · have go : (w32 (0x10 + op)).getLsbD 4 = true := by rcases hop with rfl | rfl <;> rfl
    generalize w32 (0x10 + op) = v at go ⊢
    rw [startWrite, block]
    dsimp only
    rw [base, startBoot, go, if_pos rfl]
  · have fields : ∀ i < 2, (maskOf (regFields (bootReg 0x34)) fun f => f.ty == .rw || f.ty == .w1l).testBit i = true ∧
        (selfClear (bootReg 0x34)).testBit i = false ∧ (maskOf (regFields (bootReg 0x34)) fun f => f.ty == .w1c).testBit i = false := by decide
    refine (fld_congr_bits (x := 0x10 + op) fun i _ hi => ?_).trans (by rcases hop with rfl | rfl <;> rfl)
    obtain ⟨rw_, sc, w1c⟩ := fields i (by omega)
    rw [State.bit, value, writtenValue_rw (by omega) (by decide) rfl rw_ sc w1c, getLsbD_w32 _ (by omega)]

/-- EVT_CRASH_CTL.WRITE starts a crash-log command (R447). -/
theorem CwReach.writesCrashCtl (h : CwReach s m (evtReg 0x30)) (secure : masterSecure m = true) :
    ∃ u, writeNative s m (evtReg 0x30) 1 = crashWrite u ∧ RegStored s u (evtReg 0x30) ∧ u.bit (evtReg 0x30) 0 = true := by
  obtain ⟨ordinary, block, base⟩ := crashCtl_facts
  have filter : ∀ t : State, filterWrite t m (evtReg 0x30) (w32 1) = (t, some (w32 1)) := fun t => by
    generalize w32 1 = v
    rw [filterWrite, block]
    dsimp only
    rw [secure, if_neg fun c => absurd c.2 (by decide)]
  obtain ⟨u, writes, stored, value, -⟩ := h.writesVoted ordinary (v := 1) fun t _ => filter t
  refine ⟨u, writes.trans ?_, stored, ?_⟩
  · have go : (w32 1).getLsbD 0 = true := rfl
    generalize w32 1 = v at go ⊢
    rw [startWrite, block]
    dsimp only
    rw [base, startEvent, if_neg (by decide), if_pos rfl, go, if_pos rfl]
  · rw [State.bit, value]
    exact writtenValue_selfClear (by decide) (by decide) (by decide) (by decide) rfl

/-! ## Refused commands (R489–R492) -/

theorem RegStored.rd_other {off x : Nat} (h : RegStored s u off) (hx : x ≠ off) : u.rd x = s.rd x := h.regs x hx

/-- A command is refused with a cause, and its GO is clear. -/
theorem fuseErr_refuses {rel : Nat} (c : Nat) (hc : c < 16) (apart : bootReg rel ≠ bootReg 0x38) :
    let t := (fuseErr u c).setFld (bootReg rel) 4 1 0
    t.bit (bootReg 0x38) 2 = true ∧ t.fld (bootReg 0x38) 4 4 = c ∧ t.bit (bootReg rel) 4 = false ∧ t = { u with reg := t.reg } := by
  have err : (fuseErr u c).bit (bootReg 0x38) 2 = true := by
    rw [fuseErr, State.bit_setFld _ _ _ _ _ (by decide), if_neg (by decide), State.bit_setFld _ _ _ _ _ (by decide), if_pos (by decide)]
    rfl
  have cause : (fuseErr u c).fld (bootReg 0x38) 4 4 = c := (State.fld_setFld _ _ 4 4 c (by decide)).trans (Nat.mod_eq_of_lt hc)
  have frame : fuseErr u c = { u with reg := (fuseErr u c).reg } := ((regStored_setFld u (bootReg 0x38) 2 1 1).trans (regStored_setFld ..)).rest
  generalize fuseErr u c = a at err cause frame ⊢
  have other : (a.setFld (bootReg rel) 4 1 0).rd (bootReg 0x38) = a.rd (bootReg 0x38) := State.rd_setFld_other _ _ _ _ apart.symm
  refine ⟨?_, ?_, ?_, ?_⟩
  · rw [State.bit, other]
    exact err
  · rw [State.fld, other]
    exact cause
  · rw [State.bit_setFld _ _ _ _ _ (by decide), if_pos (by decide)]
    rfl
  · rw [State.setFld_frame, frame]

/-! ## The lifecycle command (R490, R491) -/

/-- The transitions that are allowed (R490). -/
theorem lcAllowed_iff (s : State) (target : BitVec 2) : lcAllowed s target.toNat = true ↔
    (s.lifecycle = 0 ∧ target = 1 ∧ s.boot.shadow.keySet = true) ∨ (s.lifecycle = 1 ∧ target = 2) ∨ (s.lifecycle = 1 ∧ target = 3) ∨
      (s.lifecycle = 2 ∧ target = 3) := by
  have targets : ∀ x : BitVec 2, x = 0 ∨ x = 1 ∨ x = 2 ∨ x = 3 := by decide
  unfold lcAllowed
  generalize s.lifecycle = n
  rcases targets target with rfl | rfl | rfl | rfl <;> rcases n with _ | _ | _ | n <;> simp

theorem CwReach.lcWrite_eq (h : CwReach s m (bootReg 0x30)) (pass : passes m (bootReg 0x30) = true) (target : BitVec 2) (confirm : BitVec 16)
    (v : Bool) : ∃ u, exec (.lifecycleTransition m target confirm v) s = .next (lifecycle u (masterSecure m) target.toNat confirm.toNat v) ∧
      RegStored s u (bootReg 0x30) ∧ Agree u := by
  obtain ⟨u, writes, stored, votes⟩ := h.writesLcCmd target confirm
  refine ⟨u, congrArg Host.Outcome.next ?_, stored, votes⟩
  unfold lcWrite
  dsimp only
  rw [writes, h.place, pass, h.running]
  exact if_pos rfl

/-- What a write of another register leaves of the lifecycle state and of the shadow. -/
theorem RegStored.lcAllowed {rel : Nat} (h : RegStored s u (bootReg rel)) (apart : bootReg 0 ≠ bootReg rel) (target : Nat) :
    lcAllowed u target = lcAllowed s target := by
  have life : u.lifecycle = s.lifecycle := congrArg (fun w => wfld w 8 2) (h.regs _ apart)
  have boot : u.boot = s.boot := by rw [h.rest]
  unfold Machine.lcAllowed
  rw [life, boot]

theorem lifecycle_refuses {target confirm : Nat} {v : Bool} (votes : Agree u) {c : Nat}
    (why : c = 4 ∧ confirm ≠ 0x5AC3 ∨ c = 1 ∧ confirm = 0x5AC3 ∧ lcAllowed u target = false) :
    lifecycle u true target confirm v = (fuseErr u c).setFld (bootReg 0x30) 4 1 0 := by
  unfold lifecycle
  rw [voteReg_of_agree votes]
  dsimp only
  rw [if_neg (by decide)]
  rcases why with ⟨rfl, wrong⟩ | ⟨rfl, right, no⟩
  · rw [if_pos wrong]
  · rw [if_neg (not_not_intro right), if_pos no]

/-- What a lifecycle command programs and resets. -/
def lcProgrammed (a : State) (target : Nat) : State :=
  { a with nv := { a.nv with fuses := { a.nv.fuses with
    life := a.nv.fuses.life.map fun _ => ⟨BitVec.ofNat 2 (max a.nv.fuses.lifecycle target), true⟩ } } }

theorem lifecycle_runs {target : Nat} (votes : Agree u) (ok : lcAllowed u target = true) : ∃ a, Aside { u with pins := { u.pins with ready := false } } a ∧
    lifecycle u true target 0x5AC3 true = coldReset (lcProgrammed (a.setFld (bootReg 0x30) 4 1 0) target) := by
  refine ⟨_, aside_disablePorts { u with pins := { u.pins with ready := false } } u.portsList, ?_⟩
  have frame := State.setFld_frame (u.portsList.foldl disablePort { u with pins := { u.pins with ready := false } }) (bootReg 0x30) 4 1 0
  have same : ((u.portsList.foldl disablePort { u with pins := { u.pins with ready := false } }).setFld (bootReg 0x30) 4 1 0).nv =
      (u.portsList.foldl disablePort { u with pins := { u.pins with ready := false } }).nv := by rw [frame]
  unfold lifecycle lcProgrammed
  rw [voteReg_of_agree votes]
  dsimp only
  rw [if_neg (by decide), if_neg (by decide), if_neg (by rw [ok]; decide), if_pos rfl, same]

/-! ## The boot that follows (R473, R477) -/

theorem FuseCopies.maj_of (f : Fuses) : (FuseCopies.of f).maj = f := by
  have bits : ∀ {n : Nat} (x : BitVec n), majBits x x x = x := fun x => by simp [majBits]
  have bools : ∀ x : Bool, majBool x x x = x := by decide
  unfold FuseCopies.of FuseCopies.maj
  simp only [bits, bools]

/-- The fuse load, and the boot on it. -/
theorem bootSteps_boots (good : s.nv.fuses.criticalBad = false) :
    Boots { s with boot := { s.boot with copies := FuseCopies.of s.nv.fuses.load, step := 2 } } (bootSteps s false) := by
  have start := Boots.refl { s with boot := { s.boot with copies := FuseCopies.of s.nv.fuses.load, step := 2 } }
  unfold bootSteps
  dsimp only
  rw [good, if_neg Bool.false_ne_true]
  generalize ({ s with boot := { s.boot with copies := FuseCopies.of s.nv.fuses.load, step := 2 } } : State) = a at start ⊢
  have loaded := boots_setFld start (bootReg 0) 8 2 s.nv.fuses.lifecycle
  have noted := boots_ite (c := (s.nv.fuses.others.all id) = true) loaded
    (boots_raise loaded 0x01 0x23 (w32 s.nv.fuses.load.badRows.toNat))
  generalize (if (s.nv.fuses.others.all id) = true then a.setFld (bootReg 0) 8 2 s.nv.fuses.lifecycle
    else (a.setFld (bootReg 0) 8 2 s.nv.fuses.lifecycle).raise 0x01 0x23 (w32 s.nv.fuses.load.badRows.toNat)) = b at noted ⊢
  refine boots_bootImage ?_
  exact noted.trans (boots_same rfl rfl rfl rfl rfl rfl rfl rfl rfl rfl rfl)

/-- The device as step 1 ends (R473). -/
def leftReset (s : State) : State := { s with boot := { s.boot with inReset := false }, tb := { s.tb with locked := true } }

/-- Where supplies, RESET_N and REFCLK0 are good, a cold reset goes on to boot. -/
theorem coldReset_runs (resetN : u.pins.resetN = true) (power : u.phys.powerGood = true) (clock : u.phys.refclk.getD 0 false = true) :
    coldReset u = bootSteps (leftReset (inColdReset u)) false := by
  refine if_pos ?_
  show (true && u.pins.resetN && u.phys.powerGood && u.phys.refclk.getD 0 false) = true
  rw [resetN, power, clock]
  rfl

/-- A cold reset whose supplies and REFCLK0 are good, RESET_N being high, boots. -/
theorem coldReset_boots (resetN : u.pins.resetN = true) (power : u.phys.powerGood = true) (clock : u.phys.refclk.getD 0 false = true)
    (idle : u.boot.fuseBusy = none) (good : u.nv.fuses.criticalBad = false) :
    let t := coldReset u
    t.nv.fuses = u.nv.fuses ∧ t.boot.shadow = u.nv.fuses.load ∧ t.boot.released = false ∧ t.pins.ready = false ∧ t.tb = ⟨0, true⟩ ∧
      t.pending = u.pending := by
  have fuses : (nvAfter u).fuses = u.nv.fuses := by
    unfold nvAfter
    rw [idle]
    dsimp only
    split <;> rfl
  have kept := bootSteps_boots (s := leftReset (inColdReset u)) (show (nvAfter u).fuses.criticalBad = false from fuses ▸ good)
  rw [← coldReset_runs resetN power clock] at kept
  dsimp only
  generalize coldReset u = t at kept ⊢
  have shadow : t.boot.copies = FuseCopies.of u.nv.fuses.load := fuses ▸ kept.copies
  exact ⟨kept.fuses.trans fuses, (congrArg FuseCopies.maj shadow).trans (FuseCopies.maj_of _), kept.released,
    (congrArg Pins.ready kept.pins), kept.tb, kept.pending⟩

end Sys2Proof.Machine
end

section
/-! PROOF. The fuse operations and the crash log (R446–R448, R492). -/
namespace Sys2Proof.Machine
open Config

variable {s t u : State} {m : Master}

/-! ## Fuse commands (R492) -/

theorem fuseCmd_refuses {op c : Nat} (votes : Agree u) (named : u.fld (bootReg 0x34) 0 2 = op) (hop : op = 1 ∨ op = 2)
    (why : c = 1 ∧ (u.lifecycle ≠ 0 ∧ ¬ (u.lifecycle = 1 ∧ op = 2)) ∨
      c = 2 ∧ ¬ (u.lifecycle ≠ 0 ∧ ¬ (u.lifecycle = 1 ∧ op = 2)) ∧ (op = 1 ∧ u.nv.fuses.keyHash.isSome = true) ∨
      c = 3 ∧ ¬ (u.lifecycle ≠ 0 ∧ ¬ (u.lifecycle = 1 ∧ op = 2)) ∧ ¬ (op = 1 ∧ u.nv.fuses.keyHash.isSome = true) ∧ u.phys.vppFuse = false) :
    fuseCmd u true = (fuseErr u c).setFld (bootReg 0x34) 4 1 0 := by
  unfold fuseCmd
  rw [voteReg_of_agree votes, named]
  dsimp only
  rw [if_neg (by decide), if_neg (by omega)]
  rcases why with ⟨rfl, early⟩ | ⟨rfl, late, set⟩ | ⟨rfl, late, unset, power⟩
  · rw [if_pos early]
  · rw [if_neg late, if_pos set]
  · rw [if_neg late, if_neg unset, if_pos power]

theorem fuseCmd_starts {op : Nat} (votes : Agree u) (named : u.fld (bootReg 0x34) 0 2 = op) (hop : op = 1 ∨ op = 2)
    (late : ¬ (u.lifecycle ≠ 0 ∧ ¬ (u.lifecycle = 1 ∧ op = 2))) (unset : ¬ (op = 1 ∧ u.nv.fuses.keyHash.isSome = true))
    (power : u.phys.vppFuse = true) : fuseCmd u true = { u with boot := { u.boot with fuseBusy := some op } } := by
  unfold fuseCmd
  rw [voteReg_of_agree votes, named]
  dsimp only
  rw [if_neg (by decide), if_neg (by omega), if_neg late, if_neg unset, if_neg (by rw [power]; decide)]

/-- The outcome of a fuse command that started. -/
def FuseStarted (s : State) (o : Host.Outcome State Fault Refusal) (op : Nat) : Prop :=
  ∃ t, o = .next t ∧ t.boot = { s.boot with fuseBusy := some op } ∧ t.fld (bootReg 0x34) 0 2 = op ∧ t = { s with reg := t.reg, boot := t.boot }

/-- The outcome of a fuse command that is refused. -/
def FuseRefused (s : State) (o : Host.Outcome State Fault Refusal) (c : Nat) : Prop :=
  ∃ t, o = .next t ∧ t.bit (bootReg 0x38) 2 = true ∧ t.fld (bootReg 0x38) 4 4 = c ∧ t.bit (bootReg 0x34) 4 = false ∧ t = { s with reg := t.reg }

theorem RegStored.lifecycle (h : RegStored s u (bootReg 0x34)) : u.lifecycle = s.lifecycle :=
  congrArg (fun w => wfld w 8 2) (h.regs _ (by decide))

theorem CwReach.fuseStarts (h : CwReach s m (bootReg 0x34)) (secure : masterSecure m = true) (idle : s.boot.fuseBusy = none) {op : Nat}
    (hop : op = 1 ∨ op = 2) (late : ¬ (s.lifecycle ≠ 0 ∧ ¬ (s.lifecycle = 1 ∧ op = 2))) (unset : ¬ (op = 1 ∧ s.nv.fuses.keyHash.isSome = true))
    (power : s.phys.vppFuse = true) : FuseStarted s (.next (writeNative s m (bootReg 0x34) (0x10 + op))) op := by
  obtain ⟨u, writes, stored, votes, named⟩ := h.writesFuseCmd idle hop
  have life := stored.lifecycle
  rw [writes, secure]
  have starts := fuseCmd_starts votes named hop (life ▸ late) (by rw [stored.rest]; exact unset) (by rw [stored.rest]; exact power)
  refine ⟨_, congrArg Host.Outcome.next starts, ?_, named, ?_⟩
  · rw [stored.rest]
  · exact congrArg (fun q : State => { q with boot := { u.boot with fuseBusy := some op } }) stored.rest

theorem CwReach.fuseRefused (h : CwReach s m (bootReg 0x34)) (secure : masterSecure m = true) (idle : s.boot.fuseBusy = none) {op c : Nat}
    (hop : op = 1 ∨ op = 2)
    (why : c = 1 ∧ (s.lifecycle ≠ 0 ∧ ¬ (s.lifecycle = 1 ∧ op = 2)) ∨
      c = 2 ∧ ¬ (s.lifecycle ≠ 0 ∧ ¬ (s.lifecycle = 1 ∧ op = 2)) ∧ (op = 1 ∧ s.nv.fuses.keyHash.isSome = true) ∨
      c = 3 ∧ ¬ (s.lifecycle ≠ 0 ∧ ¬ (s.lifecycle = 1 ∧ op = 2)) ∧ ¬ (op = 1 ∧ s.nv.fuses.keyHash.isSome = true) ∧ s.phys.vppFuse = false) :
    FuseRefused s (.next (writeNative s m (bootReg 0x34) (0x10 + op))) c := by
  obtain ⟨u, writes, stored, votes, named⟩ := h.writesFuseCmd idle hop
  have life := stored.lifecycle
  have fuses : u.nv.fuses = s.nv.fuses := by rw [stored.rest]
  have phys : u.phys = s.phys := by rw [stored.rest]
  rw [writes, secure, fuseCmd_refuses votes named hop (c := c) (by rw [life, fuses, phys]; exact why)]
  obtain ⟨err, cause, go, frame⟩ := fuseErr_refuses (u := u) (rel := 0x34) c (by omega) (by decide)
  generalize (fuseErr u c).setFld (bootReg 0x34) 4 1 0 = t at err cause go frame ⊢
  refine ⟨t, rfl, err, cause, go, ?_⟩
  rw [frame, stored.rest]

/-! ## The end of a fuse operation (R446, R492) -/

theorem progRow_key (s : State) (ok : Bool) : progRow s 1 ok = { s.nv.fuses with key := ⟨some (keyRegs s), ok⟩ } := by
  unfold progRow
  exact if_pos rfl

theorem progRow_lock {op : Nat} (hop : op ≠ 1) (s : State) (ok : Bool) :
    progRow s op ok = if s.nv.fuses.compatLock then s.nv.fuses else { s.nv.fuses with lock := ⟨true, ok⟩ } := by
  unfold progRow
  exact if_neg hop

/-- What a programmed row reads as. -/
theorem progRow_reads (s : State) (op : Nat) :
    (op = 1 → (progRow s op true).keyHash ≠ none) ∧ (op ≠ 1 → (progRow s op true).compatLock = true) ∧
    (op = 1 → (progRow s op false).keyHash = none) ∧ (op ≠ 1 → (progRow s op false).compatLock = s.nv.fuses.compatLock) := by
  refine ⟨fun key => ?_, fun lock => ?_, fun key => ?_, fun lock => ?_⟩
  · rw [key, progRow_key]
    exact nofun
  · rw [progRow_lock lock]
    split
    next locked => exact locked
    next => rfl
  · rw [key, progRow_key]
    rfl
  · rw [progRow_lock lock]
    split
    next => rfl
    next unlocked => exact (Bool.eq_false_iff.mpr unlocked).symm

theorem progRow_congr {op : Nat} {ok : Bool} (fuses : t.nv.fuses = s.nv.fuses) (keys : keyRegs t = keyRegs s) : progRow t op ok = progRow s op ok := by
  unfold progRow
  rw [fuses, keys]

/-- The operation that ran ends; its row is programmed as it verifies. -/
theorem fuseComplete_ends {op : Nat} (busy : s.boot.fuseBusy = some op) (ok : Bool) :
    ∃ t, exec (.fuseProgrammingComplete ok) s = .next t ∧ t.boot = { s.boot with fuseBusy := none } ∧ t.bit (bootReg 0x34) 4 = false ∧
      t.nv.fuses = progRow s op ok ∧ (ok = true → t.bit (bootReg 0x38) 1 = true) ∧
      (ok = false → t.bit (bootReg 0x38) 2 = true ∧ t.fld (bootReg 0x38) 4 4 = 6) ∧
      t = { s with boot := t.boot, reg := t.reg, nv := { s.nv with fuses := t.nv.fuses } } := by
  have freed := regStored_setFld { s with boot := { s.boot with fuseBusy := none } } (bootReg 0x34) 4 1 0
  have go : (State.setFld { s with boot := { s.boot with fuseBusy := none } } (bootReg 0x34) 4 1 0).bit (bootReg 0x34) 4 = false := by
    rw [State.bit_setFld _ _ _ _ _ (by decide), if_pos (by decide)]
    rfl
  have run : exec (.fuseProgrammingComplete ok) s = .next (
      let a := State.setFld { s with boot := { s.boot with fuseBusy := none } } (bootReg 0x34) 4 1 0
      let b := { a with nv := { a.nv with fuses := progRow a op ok } }
      if ok then b.setFld (bootReg 0x38) 1 1 1 else fuseErr b 6) := by
    show execFuseProgrammingComplete ok s = _
    unfold execFuseProgrammingComplete
    rw [busy]
  dsimp only at run
  generalize State.setFld { s with boot := { s.boot with fuseBusy := none } } (bootReg 0x34) 4 1 0 = a at freed go run
  have fuses : a.nv.fuses = s.nv.fuses := by rw [freed.rest]
  have keys : keyRegs a = keyRegs s := by
    unfold keyRegs
    refine congrArg (fun l => BitVec.ofNat 384 (ofWordsLE l)) (List.map_congr_left fun n _ => freed.regs _ ?_)
    unfold bootReg
    omega
  rw [progRow_congr fuses keys] at run
  have frame : ({ a with nv := { a.nv with fuses := progRow s op ok } } : State) =
      { s with boot := { s.boot with fuseBusy := none }, reg := a.reg, nv := { s.nv with fuses := progRow s op ok } } :=
    congrArg (fun q : State => { q with nv := { q.nv with fuses := progRow s op ok } }) freed.rest
  have busyBit : State.bit { a with nv := { a.nv with fuses := progRow s op ok } } (bootReg 0x34) 4 = false := go
  generalize ({ a with nv := { a.nv with fuses := progRow s op ok } } : State) = b at run frame busyBit
  have other : ∀ {w : State} (lo k v : Nat), w.bit (bootReg 0x34) 4 = false → (w.setFld (bootReg 0x38) lo k v).bit (bootReg 0x34) 4 = false :=
    fun lo k v hw => (congrArg (fun x : Word => x.getLsbD 4) (State.rd_setFld_other _ lo k v (by decide))).trans hw
  cases ok with
  | true =>
    refine ⟨_, run.trans (congrArg _ (if_pos rfl)), ?_, other 1 1 1 busyBit, ?_, fun _ => ?_, fun no => absurd no (by decide), ?_⟩
    · rw [State.setFld_frame, frame]
    · rw [State.setFld_frame, frame]
    · rw [State.bit_setFld _ _ _ _ _ (by decide), if_pos (by decide)]
      rfl
    · rw [State.setFld_frame, frame]
  | false =>
    have err : fuseErr b 6 = { b with reg := (fuseErr b 6).reg } := ((regStored_setFld b (bootReg 0x38) 2 1 1).trans (regStored_setFld ..)).rest
    refine ⟨_, run.trans (congrArg _ (if_neg Bool.false_ne_true)), ?_, other 4 4 6 (other 2 1 1 busyBit), ?_, fun no => absurd no (by decide),
      fun _ => ⟨?_, (State.fld_setFld _ _ 4 4 6 (by decide)).trans rfl⟩, ?_⟩
    · rw [err, frame]
    · rw [err, frame]
    · rw [fuseErr, State.bit_setFld _ _ _ _ _ (by decide), if_neg (by decide), State.bit_setFld _ _ _ _ _ (by decide), if_pos (by decide)]
      rfl
    · rw [err, frame]

/-! ## The crash log (R446–R448) -/

theorem crashRecord_busy (s : State) (c : Option CrashRec) (n : Nat) :
    crashRecord { s with boot := { s.boot with crashBusy := c } } n = crashRecord s n := rfl

/-- An empty region: the first slot, number 0. -/
theorem crashSlot_empty {fl : Flash} (empty : fl.crash = []) {off size : Nat} (room : 1024 ≤ size) : crashSlot fl off size = ([], off, 0) := by
  have first : (List.range (size / 1024)).find? (fun i => !(([] : List CrashRec).any fun r => r.off == off + 1024 * i)) = some 0 := by
    obtain ⟨n, hn⟩ := Nat.exists_eq_add_of_le (show 1 ≤ size / 1024 by omega)
    rw [hn, Nat.add_comm, List.range_succ_eq_map, List.find?_cons]
    rfl
  unfold crashSlot
  dsimp only
  rw [empty, List.filter_nil, first]
  rfl

/-- One record at the start of the region: the second slot. -/
theorem crashSlot_second {fl : Flash} {r : CrashRec} (one : fl.crash = [r]) {off size : Nat} (at_ : r.off = off) (room : 2048 ≤ size) :
    ∃ n, crashSlot fl off size = ([r], off + 1024, n) := by
  have here : [r].filter (fun r => decide (off ≤ r.off) && decide (r.off < off + size)) = [r] := by
    rw [List.filter_cons, at_, if_pos (by simp; omega), List.filter_nil]
  have second : (List.range (size / 1024)).find? (fun i => !([r].any fun r => r.off == off + 1024 * i)) = some 1 := by
    obtain ⟨n, hn⟩ := Nat.exists_eq_add_of_le (show 2 ≤ size / 1024 by omega)
    rw [hn, Nat.add_comm, List.range_succ_eq_map, List.range_succ_eq_map]
    simp [at_]
  unfold crashSlot
  dsimp only
  rw [one, here, second]
  exact ⟨_, rfl⟩

theorem crashWrite_waits (busy : s.boot.crashBusy ≠ none) : crashWrite s = { s with boot := { s.boot with crashNext := true } } := by
  unfold crashWrite
  exact if_pos (Option.isSome_iff_ne_none.mpr busy)

theorem crashWrite_noRegion (idle : s.boot.crashBusy = none) (zero : s.fld (bootReg 0x20) 0 32 = 0) :
    crashWrite s = (s.setFld (evtReg 0x30) 0 1 0).setFld (evtReg 0x34) 2 1 1 := by
  unfold crashWrite
  dsimp only
  rw [idle, if_neg (by decide), if_pos zero]

theorem crashWrite_records (idle : s.boot.crashBusy = none) (size : s.fld (bootReg 0x20) 0 32 ≠ 0) {left : List CrashRec} {slot n : Nat}
    (free : crashSlot s.nv.flash (s.fld (bootReg 0x1C) 0 32) (s.fld (bootReg 0x20) 0 32) = (left, slot, n)) :
    crashWrite s = { s with
      nv := { s.nv with flash := { s.nv.flash with crash := left } }
      boot := { s.boot with crashBusy := some ⟨slot, crashRecord s n⟩ } } := by
  unfold crashWrite
  dsimp only
  rw [idle, if_neg (by decide), if_neg size, free]

end Sys2Proof.Machine
end

section
/-! PROOF. The lifecycle, fuse and crash-log commands as statements (R446–R448, R477, R489–R494). -/
namespace Sys2Proof.Machine
open Config

variable {s t u : State} {m : Master}

/-- A refused lifecycle command changes registers alone, and says why. -/
theorem CwReach.lifecycleRefused (h : CwReach s m (bootReg 0x30)) (pass : passes m (bootReg 0x30) = true) (secure : masterSecure m = true)
    {target : BitVec 2} {confirm : BitVec 16} {c : Nat}
    (why : c = 4 ∧ confirm ≠ 0x5AC3 ∨ c = 1 ∧ confirm = 0x5AC3 ∧ ¬ lcAllowed s target.toNat = true) (v : Bool) :
    ∃ t, exec (.lifecycleTransition m target confirm v) s = .next t ∧ t.bit (bootReg 0x38) 2 = true ∧ t.fld (bootReg 0x38) 4 4 = c ∧
      t.bit (bootReg 0x30) 4 = false ∧ t = { s with reg := t.reg } := by
  obtain ⟨u, run, stored, votes⟩ := h.lcWrite_eq pass target confirm v
  have allowed := stored.lcAllowed (by decide) target.toNat
  have word : confirm.toNat = 0x5AC3 ↔ confirm = 0x5AC3 := ⟨fun e => BitVec.eq_of_toNat_eq e, fun e => congrArg BitVec.toNat e⟩
  rw [secure, lifecycle_refuses votes (c := c) (why.imp (fun w => ⟨w.1, fun e => w.2 (word.mp e)⟩)
    fun w => ⟨w.1, word.mpr w.2.1, allowed.trans (Bool.eq_false_iff.mpr w.2.2)⟩)] at run
  obtain ⟨err, cause, go, frame⟩ := fuseErr_refuses (u := u) (rel := 0x30) c (by rcases why with ⟨rfl, _⟩ | ⟨rfl, _⟩ <;> decide) (by decide)
  generalize (fuseErr u c).setFld (bootReg 0x30) 4 1 0 = t at run err cause go frame
  refine ⟨t, run, err, cause, go, ?_⟩
  rw [frame, stored.rest]

theorem criticalBad_programmed {f : FuseArray} (good : f.criticalBad = false) (v : BitVec 2) :
    ({ f with life := f.life.map fun _ => ⟨v, true⟩ } : FuseArray).criticalBad = false := by
  unfold FuseArray.criticalBad at good ⊢
  simp only [Bool.or_eq_false_iff] at good ⊢
  refine ⟨good.1, ?_⟩
  cases empty : f.life with
  | nil => exact absurd good.2 (by rw [empty]; decide)
  | cons r l => rfl

/-- An allowed lifecycle command programs its rows, and the device boots from a cold reset. -/
theorem CwReach.lifecycleRuns (h : CwReach s m (bootReg 0x30)) (pass : passes m (bootReg 0x30) = true) (secure : masterSecure m = true)
    {target : BitVec 2} (ok : lcAllowed s target.toNat = true) (phys : s.phys = Phys.good) (resetN : s.pins.resetN = true)
    (idle : s.boot.fuseBusy = none) (good : s.nv.fuses.criticalBad = false) :
    ∃ t, exec (.lifecycleTransition m target 0x5AC3 true) s = .next t ∧ t.nv.fuses = { s.nv.fuses with
        life := s.nv.fuses.life.map fun _ => ⟨BitVec.ofNat 2 (max s.nv.fuses.lifecycle target.toNat), true⟩ } ∧
      t.boot.shadow = t.nv.fuses.load ∧ t.boot.released = false ∧ t.pins.ready = false ∧ t.tb = ⟨0, true⟩ ∧ t.pending = s.pending := by
  obtain ⟨u, run, stored, votes⟩ := h.lcWrite_eq pass target 0x5AC3 true
  have allowed := (stored.lcAllowed (by decide) target.toNat).trans ok
  obtain ⟨a, aside, runs⟩ := lifecycle_runs votes allowed
  have run : exec (.lifecycleTransition m target 0x5AC3 true) s = .next (coldReset (lcProgrammed (a.setFld (bootReg 0x30) 4 1 0) target.toNat)) := by
    rw [run, secure]
    exact congrArg Host.Outcome.next runs
  have frame := State.setFld_frame a (bootReg 0x30) 4 1 0
  have nv : (a.setFld (bootReg 0x30) 4 1 0).nv = s.nv := by rw [frame, aside.nv, stored.rest]
  have boot : (a.setFld (bootReg 0x30) 4 1 0).boot = s.boot := by rw [frame, aside.boot, stored.rest]
  have pins : (a.setFld (bootReg 0x30) 4 1 0).pins.resetN = s.pins.resetN := by rw [frame, aside.pins, stored.rest]
  have wires : (a.setFld (bootReg 0x30) 4 1 0).phys = s.phys := by rw [frame, aside.phys, stored.rest]
  have waiting : (a.setFld (bootReg 0x30) 4 1 0).pending = s.pending := by rw [frame, aside.pending, stored.rest]
  generalize a.setFld (bootReg 0x30) 4 1 0 = b at run nv boot pins wires waiting
  have fuses : (lcProgrammed b target.toNat).nv.fuses = { s.nv.fuses with
      life := s.nv.fuses.life.map fun _ => ⟨BitVec.ofNat 2 (max s.nv.fuses.lifecycle target.toNat), true⟩ } := by
    unfold lcProgrammed
    rw [nv]
  obtain ⟨kept, shadow, held, low, tb, pending⟩ := coldReset_boots (u := lcProgrammed b target.toNat) (pins.trans resetN)
    (by show b.phys.powerGood = true; rw [wires, phys]; rfl) (by show b.phys.refclk.getD 0 false = true; rw [wires, phys]; rfl)
    ((congrArg Boot.fuseBusy boot).trans idle) (by rw [fuses]; exact criticalBad_programmed good _)
  exact ⟨_, run, kept.trans fuses, shadow.trans (congrArg FuseArray.load kept.symm), held, low, tb, pending.trans waiting⟩

/-! ## Crash-log commands -/

theorem setFld_sets (w : State) (off i : Nat) (hi : i < 32) : (w.setFld off i 1 1).bit off i = true := by
  rw [State.bit_setFld _ _ _ _ _ hi, if_pos ⟨le_refl _, by omega⟩, Nat.sub_self]
  rfl

theorem setFld_clears (w : State) (off i : Nat) (hi : i < 32) : (w.setFld off i 1 0).bit off i = false := by
  rw [State.bit_setFld _ _ _ _ _ hi, if_pos ⟨le_refl _, by omega⟩, Nat.sub_self]
  rfl

theorem setFld_bit_other (w : State) {off x : Nat} (lo k v i : Nat) (hx : x ≠ off) : (w.setFld off lo k v).bit x i = w.bit x i :=
  congrArg (fun r : Word => r.getLsbD i) (State.rd_setFld_other w lo k v hx)

theorem CwReach.crashNoRegion (h : CwReach s m (evtReg 0x30)) (secure : masterSecure m = true) (idle : s.boot.crashBusy = none)
    (zero : s.fld (bootReg 0x20) 0 32 = 0) : ∃ t, exec (.crashLogWrite m) s = .next t ∧ t.bit (evtReg 0x34) 2 = true ∧
      t.bit (evtReg 0x30) 0 = false ∧ t = { s with reg := t.reg } := by
  obtain ⟨u, writes, stored, -⟩ := h.writesCrashCtl secure
  have busy : u.boot.crashBusy = none := by rw [stored.rest]; exact idle
  have size : u.fld (bootReg 0x20) 0 32 = 0 := (congrArg (fun w => wfld w 0 32) (stored.regs _ (by decide))).trans zero
  refine ⟨_, congrArg Host.Outcome.next (writes.trans (crashWrite_noRegion busy size)), setFld_sets _ _ _ (by decide), ?_, ?_⟩
  · rw [setFld_bit_other _ _ _ _ _ (by decide)]
    exact setFld_clears _ _ _ (by decide)
  · rw [State.setFld_frame, State.setFld_frame u, stored.rest]

theorem CwReach.crashRecords (h : CwReach s m (evtReg 0x30)) (secure : masterSecure m = true) (idle : s.boot.crashBusy = none)
    (room : 1024 ≤ s.fld (bootReg 0x20) 0 32) (empty : s.nv.flash.crash = []) : ∃ t, exec (.crashLogWrite m) s = .next t ∧
      t.boot = { s.boot with crashBusy := some ⟨s.fld (bootReg 0x1C) 0 32, crashRecord t 0⟩ } ∧ t = { s with reg := t.reg, boot := t.boot } := by
  obtain ⟨u, writes, stored, -⟩ := h.writesCrashCtl secure
  have busy : u.boot.crashBusy = none := by rw [stored.rest]; exact idle
  have nv : u.nv = s.nv := by rw [stored.rest]
  have size : u.fld (bootReg 0x20) 0 32 = s.fld (bootReg 0x20) 0 32 := congrArg (fun w => wfld w 0 32) (stored.regs _ (by decide))
  have at_ : u.fld (bootReg 0x1C) 0 32 = s.fld (bootReg 0x1C) 0 32 := congrArg (fun w => wfld w 0 32) (stored.regs _ (by decide))
  have run := crashWrite_records busy (by rw [size]; omega) (crashSlot_empty (show u.nv.flash.crash = [] by rw [nv, empty]) (size ▸ room))
  have same : ({ u.nv with flash := { u.nv.flash with crash := [] } } : Nv) = u.nv := by rw [← show u.nv.flash.crash = [] by rw [nv, empty]]
  rw [same, at_] at run
  have boot : u.boot = s.boot := by rw [stored.rest]
  refine ⟨_, congrArg Host.Outcome.next (writes.trans run), ?_, ?_⟩
  · rw [crashRecord_busy]
    exact congrArg (fun b : Boot => { b with crashBusy := some ⟨s.fld (bootReg 0x1C) 0 32, crashRecord u 0⟩ }) boot
  · exact congrArg (fun q : State => { q with boot := { u.boot with crashBusy := some ⟨s.fld (bootReg 0x1C) 0 32, crashRecord u 0⟩ } }) stored.rest

theorem CwReach.crashWaits (h : CwReach s m (evtReg 0x30)) (secure : masterSecure m = true) (busy : s.boot.crashBusy ≠ none) :
    ∃ t, exec (.crashLogWrite m) s = .next t ∧ t.boot = { s.boot with crashNext := true } ∧ t.bit (evtReg 0x30) 0 = true ∧
      t = { s with reg := t.reg, boot := t.boot } := by
  obtain ⟨u, writes, stored, go⟩ := h.writesCrashCtl secure
  have boot : u.boot = s.boot := by rw [stored.rest]
  refine ⟨_, congrArg Host.Outcome.next (writes.trans (crashWrite_waits (boot ▸ busy))), ?_, go, ?_⟩
  · exact congrArg (fun b : Boot => { b with crashNext := true }) boot
  · exact congrArg (fun q : State => { q with boot := { u.boot with crashNext := true } }) stored.rest

/-! ## The end of a crash-log record -/

/-- The record that was written stands in its slot; one that does not read back holds no words. -/
def crashDone (s : State) (r : CrashRec) (ok : Bool) : State := { s with
  boot := { s.boot with crashBusy := none, crashNext := false }
  nv := { s.nv with flash := { s.nv.flash with crash := s.nv.flash.crash ++ [if ok then r else { r with words := [] }] } } }

theorem crashComplete_eq {r : CrashRec} (busy : s.boot.crashBusy = some r) (ok : Bool) : exec (.crashLogWriteComplete ok) s = .next (
    let a := (crashDone s r ok).setFld (evtReg 0x34) (if ok then 1 else 2) 1 1
    if s.boot.crashNext then crashWrite a else a.setFld (evtReg 0x30) 0 1 0) := by
  show execCrashLogWriteComplete ok s = _
  unfold execCrashLogWriteComplete
  rw [busy]
  rfl

theorem crashComplete_ends {r : CrashRec} (busy : s.boot.crashBusy = some r) (ok : Bool) (last : s.boot.crashNext = false) :
    ∃ t, exec (.crashLogWriteComplete ok) s = .next t ∧ t.boot = { s.boot with crashBusy := none } ∧ t.nv = (crashDone s r ok).nv ∧
      t.bit (evtReg 0x30) 0 = false ∧ t.bit (evtReg 0x34) (if ok then 1 else 2) = true ∧ t = { s with boot := t.boot, nv := t.nv, reg := t.reg } := by
  have run := crashComplete_eq busy ok
  dsimp only at run
  rw [last, if_neg Bool.false_ne_true] at run
  have boot : (crashDone s r ok).boot = { s.boot with crashBusy := none } := by
    show { s.boot with crashBusy := none, crashNext := false } = _
    rw [← last]
  have frame : crashDone s r ok = { s with boot := (crashDone s r ok).boot, nv := (crashDone s r ok).nv } := rfl
  generalize crashDone s r ok = a at run boot frame ⊢
  refine ⟨_, run, ?_, ?_, setFld_clears _ _ _ (by decide), ?_, ?_⟩
  · rw [State.setFld_frame, State.setFld_frame a]
    exact boot
  · rw [State.setFld_frame, State.setFld_frame a]
  · rw [setFld_bit_other _ _ _ _ _ (by decide)]
    exact setFld_sets _ _ _ (by split <;> decide)
  · rw [State.setFld_frame, State.setFld_frame a, frame]

theorem crashComplete_next {r : CrashRec} (busy : s.boot.crashBusy = some r) (ok : Bool) (next : s.boot.crashNext = true)
    (room : 2048 ≤ s.fld (bootReg 0x20) 0 32) (empty : s.nv.flash.crash = []) (at_ : r.off = s.fld (bootReg 0x1C) 0 32) :
    ∃ t q, exec (.crashLogWriteComplete ok) s = .next t ∧ t.boot = { s.boot with crashBusy := some q, crashNext := false } ∧
      q.off = s.fld (bootReg 0x1C) 0 32 + 1024 ∧ t.nv = (crashDone s r ok).nv ∧ t.bit (evtReg 0x34) (if ok then 1 else 2) = true ∧
      t.rd (evtReg 0x30) = s.rd (evtReg 0x30) ∧ t = { s with boot := t.boot, nv := t.nv, reg := t.reg } := by
  have run := crashComplete_eq busy ok
  dsimp only at run
  rw [next, if_pos rfl] at run
  have one : (crashDone s r ok).nv.flash.crash = [if ok then r else { r with words := [] }] := by
    show s.nv.flash.crash ++ _ = _
    rw [empty]
    rfl
  have slot : (if ok then r else { r with words := [] }).off = s.fld (bootReg 0x1C) 0 32 := by
    cases ok <;> exact at_
  have boot : (crashDone s r ok).boot = { s.boot with crashBusy := none, crashNext := false } := rfl
  have reg : (crashDone s r ok).reg = s.reg := rfl
  have frame : crashDone s r ok = { s with boot := (crashDone s r ok).boot, nv := (crashDone s r ok).nv } := rfl
  generalize crashDone s r ok = a at run one boot reg frame ⊢
  have marked := setFld_sets a (evtReg 0x34) (if ok then 1 else 2) (by split <;> decide)
  have stored := regStored_setFld a (evtReg 0x34) (if ok then 1 else 2) 1 1
  generalize a.setFld (evtReg 0x34) (if ok then 1 else 2) 1 1 = b at run marked stored
  have rds : ∀ x, x ≠ evtReg 0x34 → b.rd x = s.rd x := fun x hx => (stored.regs x hx).trans (State.rd_congr reg x)
  have size : b.fld (bootReg 0x20) 0 32 = s.fld (bootReg 0x20) 0 32 := congrArg (fun w => wfld w 0 32) (rds _ (by decide))
  have place : b.fld (bootReg 0x1C) 0 32 = s.fld (bootReg 0x1C) 0 32 := congrArg (fun w => wfld w 0 32) (rds _ (by decide))
  have nv : b.nv = a.nv := by rw [stored.rest]
  have bboot : b.boot = { s.boot with crashBusy := none, crashNext := false } := by
    rw [stored.rest]
    exact boot
  obtain ⟨n, free⟩ := crashSlot_second (fl := b.nv.flash) (by rw [nv]; exact one) (slot.trans place.symm) (size.symm ▸ room)
  have writes := crashWrite_records (by rw [bboot]) (by rw [size]; omega) free
  have same : ({ b.nv with flash := { b.nv.flash with crash := [if ok then r else { r with words := [] }] } } : Nv) = a.nv := by
    rw [nv, ← one]
  rw [same, place] at writes
  refine ⟨_, ⟨s.fld (bootReg 0x1C) 0 32 + 1024, crashRecord b n⟩, run.trans (congrArg _ writes), ?_, rfl, rfl, marked, rds _ (by decide), ?_⟩
  · exact congrArg (fun x : Boot => { x with crashBusy := some ⟨s.fld (bootReg 0x1C) 0 32 + 1024, crashRecord b n⟩ }) bboot
  · have rest : b = { s with boot := a.boot, nv := a.nv, reg := b.reg } := by rw [stored.rest, frame]
    exact congrArg (fun q : State => { q with
      nv := a.nv
      boot := { b.boot with crashBusy := some ⟨s.fld (bootReg 0x1C) 0 32 + 1024, crashRecord b n⟩ } }) rest

end Sys2Proof.Machine

open Sys2Proof Sys2Proof.Machine

/-- Settles O55: a refused command changes registers alone; an allowed lifecycle command programs its rows and boots from a cold reset, which
keeps the fuses (`coldReset_boots`); the end of an operation programs its row (`fuseComplete_ends`); a crash record takes the first free
slot. -/
theorem lifecycleFusesAndCrashLogArePersistent : Obligations.LifecycleFusesAndCrashLogArePersistent := by
  refine ⟨fun s m target confirm h pass secure => ⟨fun c v why => ?_, fun right ok phys resetN idle good => ?_⟩, fun s m h secure idle => ?_,
    fun s ok => ⟨fun idle => ?_, fun op busy => ?_⟩, fun s m h secure idle => ⟨h.crashNoRegion secure idle, h.crashRecords secure idle⟩,
    fun s m h secure busy => h.crashWaits secure busy, fun s r ok busy => ⟨crashComplete_ends busy ok, crashComplete_next busy ok⟩⟩
  · exact h.lifecycleRefused pass secure (why.imp_right fun w => ⟨w.1, w.2.1, fun ok => w.2.2 ((lcAllowed_iff s target).mp ok)⟩) v
  · subst right
    exact h.lifecycleRuns pass secure ((lcAllowed_iff s target).mpr ok) phys resetN idle good
  · refine ⟨fun blank unset power => ?_, fun blank set => ?_, fun late => ?_, fun early power => ?_, fun early power => ?_⟩
    · exact h.fuseStarts secure idle (op := 1) (.inl rfl) (by omega) (by rw [unset]; exact fun c => absurd c.2 (by decide)) power
    · exact h.fuseRefused secure idle (op := 1) (.inl rfl) (.inr (.inl ⟨rfl, by omega, rfl, Option.isSome_iff_ne_none.mpr set⟩))
    · exact h.fuseRefused secure idle (op := 1) (.inl rfl) (.inl ⟨rfl, late, by omega⟩)
    · exact h.fuseStarts secure idle (op := 2) (.inr rfl) (by omega) (by omega) power
    · exact h.fuseRefused secure idle (op := 2) (.inr rfl) (.inr (.inr ⟨rfl, by omega, by omega, power⟩))
  · show execFuseProgrammingComplete ok s = _
    unfold execFuseProgrammingComplete
    rw [idle]
  · obtain ⟨t, run, boot, go, fuses, done, err, frame⟩ := fuseComplete_ends busy ok
    obtain ⟨key, lock, noKey, noLock⟩ := progRow_reads s op
    refine ⟨t, run, boot, go, fuses.trans ?_, fun good => ⟨done good, ?_, ?_⟩, fun bad => ⟨(err bad).1, (err bad).2, ?_, ?_⟩, frame⟩
    · unfold progRow
      rfl
    all_goals rw [fuses]
    · rw [good]
      exact key
    · rw [good]
      exact lock
    · rw [bad]
      exact noKey
    · rw [bad]
      exact noLock
end
